-- ==== Sys2Proof/Word.lean ====
section
/-! DEFINITION. The word types of the device: bytes, 32-bit registers, 64-bit halves of messages, 64-byte commands. -/

namespace Sys2Proof

/-- One byte of memory or of a message. -/
abbrev Byte := BitVec 8

/-- One 32-bit register (02_register_pages.md R36). -/
abbrev Word := BitVec 32

/-- One 64-bit register pair, handle, seed or device id. -/
abbrev DWord := BitVec 64

/-- One 64-byte command, byte 0 in the low bits (03_klotchaex_command_stream.md R63). -/
abbrev Cmd := BitVec 512

end Sys2Proof
end

