-- ==== Sys2Proof/Syntax.lean ====
section
/-! DEFINITION. The commands of the device: one constructor per row of the opcode table, with the operands that the
world outside the block supplies (addresses, values, received messages, the choice of unit or part, hardware faults). -/

namespace Sys2Proof


/-- One committed object inside a checkpoint image: its handle, size in lines, stack and the bytes that are not zero. -/
structure ImageObj where
  handle : Nat
  sizeL : Nat
  stack : Nat
  data : List (Nat × Byte)
  deriving DecidableEq, Repr

/-- A checkpoint image (12_step_ledger.md R279): the fields of its ledger record and RNG record that RESTORE checks, the seed, the
objects, the job's current group table (group, 48 bytes as a number) and the routing of its groups (register key, word). -/
structure Image where
  job : Nat
  rank : Nat
  step : Nat
  complete : Bool
  recStep : Nat
  recState : Nat
  recChk : Nat
  cursor : Nat
  seed : Nat
  seedChk : Nat
  rngStep : Nat
  objs : List ImageObj
  groups : List (Nat × Nat)
  routing : List (Nat × Word)
  deriving DecidableEq, Repr

/-- A received frame as a port sees it (13_fabric_ports.md R296 to R302): its FCS, its length from the destination address through
the FCS, its tag, its DSCP, its destination, what it carries (0 Tabnus, 1 ARP, 2 neighbour solicitation, 3 echo request, 4 LLDP,
5 PTP, 6 PFC, 7 anything else), and whether the receive buffer has room for it. -/
structure RxFrame where
  fcsOk : Bool
  len : Nat
  tagged : Bool
  vid : Nat
  pcp : Nat
  dscp : Nat
  dest : Nat
  carries : Nat
  room : Bool
  deriving DecidableEq, Repr

/-- A PTP message (20_time_power_module.md R436; IEEE 1588-2019): messageType, domain, sequence id, the sender's clock identity, the
stamp the message carries in qns, its correction in qns, the alignment delay measured for its frame, and the data set of an Announce
message in the order the Best Master Clock Algorithm compares it. -/
structure PtpMsg where
  kind : Nat
  domain : Nat
  seq : Nat
  clock : Nat
  stamp : Nat
  corr : Nat
  align : Nat
  rank : List Nat
  deriving DecidableEq, Repr

/-- A row that fails its checksum (05_matrix_array.md R124): the failing pass, counted over the part's passes in their order, the
streamed row within it, and how many rows of the tile that the pass belongs to have been written when the part ends. -/
structure CsFault where
  pass : Nat
  row : Nat
  rows : Nat
  deriving DecidableEq, Repr

/-- The commands of spec/opcode_table.json, in its order. -/
inductive Instr
  /-- A BAR0 write to a register that has no row of its own takes effect under the access codes, RWL lock and reserved-field rules (R36). -/
  | registerWrite (f : Nat) (off : Nat) (size : Nat) (v : DWord)
  /-- An access to an unmapped address, a narrow write, a write to a control the function does not own or a locked write is rejected and recorded in GLB_BAD_ACCESS_CNT and GLB_BAD_ACCESS_ADDR (R35). -/
  | unmappedAccess (f : Nat) (off : Nat) (size : Nat) (isWrite : Bool) (v : DWord)
  /-- A write to PG_MODE changes MODE for operations that begin afterwards and may set LOCK (R21). -/
  | pgModeWrite (f : Nat) (off : Nat) (v : Word)
  /-- Software writes 1 to PG_EVENT bits to clear them; a hardware set in the same cycle wins (R43). -/
  | pgEventClear (f : Nat) (off : Nat) (v : Word) (hwSet : Nat) (status : Nat)
  /-- A 4-byte read of PG_STAMP_LO copies PG_STAMP_HI into the function's holding register for the page (R44). -/
  | pgStampLoRead (f : Nat) (off : Nat)
  /-- PG_RESET.REQ = 1 requests a D0 reset of the instance and ends its running part with UNIT_RESET (R40). -/
  | d0Request (f : Nat) (off : Nat)
  /-- PG_RESET.REQ = 2 requests a D1 reset of the instance and ends its running part with UNIT_RESET (R40). -/
  | d1Request (f : Nat) (off : Nat)
  /-- PG_RESET.REQ = 3 requests a D2 reset of the instance and ends its running part with UNIT_RESET (R40). -/
  | d2Request (f : Nat) (off : Nat)
  /-- A reset's scope passes its post-reset check and rejoins service, or is fenced (R399). -/
  | resetComplete (dom : Nat) (unit : Nat) (pass : Bool)
  /-- A reset that has not completed within its bound escalates to the next domain, closes the unit or takes the device out of service, and starts a dump (R401). -/
  | resetEscalation (dom : Nat) (unit : Nat)
  /-- A write to a queue's doorbell in BAR4 sets the queue's tail count (R54). -/
  | doorbellWrite (f : Nat) (n : Nat) (t : Word)
  /-- A queue processor's PCIe read of commands from a ring completes and the commands are held for start (R57). -/
  | commandFetch (q : Nat) (cmds : List Cmd)
  /-- The oldest unstarted command of a queue starts once its format, step check, wait, fence and Street Index entries allow it (R58). -/
  | commandStart (q : Nat)
  /-- A part of a command ends, and when it is the last part the command completes under R74 with its writes made visible, semaphores signalled, record written and MSI-X sent (R81). -/
  | partEnd (q : Nat) (i : Nat) (p : Nat) (fault : Nat)
  /-- A layer that has ended and whose commands have all completed releases its deferred signals and records in ring order (R78). -/
  | layerDrain (q : Nat) (run : Nat)
  /-- After the first SATURATE or NONFINITE report and the end of the started parts, the layer's tensors are widened and the layer runs again from its first command (R162). -/
  | layerRepeat (q : Nat) (run : Nat)
  /-- A part exceeds its hang bound, ends with BOUND_EXCEEDED and its unit takes a D0 reset (R83). -/
  | boundExpiry (q : Nat) (i : Nat) (p : Nat)
  /-- A queue has been BLOCKED for longer than page 1 PG_TIMEOUT and the informational event is set (R60). -/
  | queueBlockedAlarm (q : Nat)
  /-- Q_CFG.ENABLE written 1 resumes fetching at ring index Q_DONE mod 2^L (R60). -/
  | queueEnable (f : Nat) (n : Nat)
  /-- Q_CFG.ENABLE written 0 stops fetch and start, drops unstarted commands and enters DISABLED when commands in execution complete (R60). -/
  | queueDisable (f : Nat) (n : Nat)
  /-- Q_CTRL.RESUME resumes a STOPPED queue with the command after Q_ERR.INDEX (R60). -/
  | resume (f : Nat) (n : Nat)
  /-- Q_CTRL.FLUSH discards a STOPPED queue's unstarted commands without records and sets head and done to the tail (R60). -/
  | flush (f : Nat) (n : Nat)
  /-- A write to KQP_SEM_VAL sets the selected semaphore and re-evaluates its waits (R73). -/
  | semaphoreSet (f : Nat) (v : Word)
  /-- A write to KQP_SEM_ADD adds to the selected semaphore modulo 2^32 and re-evaluates its waits (R73). -/
  | semaphoreAdd (f : Nat) (v : Word)
  /-- Each beacon period while a command with FLAGS.BEACON runs, the queue sends a progress beacon on transmit queue 5 (R84). -/
  | beaconSend (q : Nat) (i : Nat)
  /-- A received progress beacon restarts the bound of every wait for the sending rank's data (R330). -/
  | beaconReceive (body : List Byte)
  /-- At the next boundary of its kind a free reserve takes the logical identity of a closed or unmapped unit and the SPR map changes (R25). -/
  | spareSubstitution (utype : Nat) (logical : Nat)
  /-- The host's doorbell on SPR page 0 applies SPR_ASSIST_DEC to approve or decline the oldest spare-substitution record (R31). -/
  | sprAssistDoorbell (f : Nat) (h : Nat)
  /-- NOP completes at once with only its header wait, fence and signal applying (R69). -/
  | nop (q : Nat) (i : Nat)
  /-- FENCE completes when every command started earlier on every queue of the job has completed (R69). -/
  | fence (q : Nat) (i : Nat)
  /-- WAIT completes when every listed semaphore wait is satisfied (R69). -/
  | wait (q : Nat) (i : Nat)
  /-- SIGNAL adds each listed increment to its semaphore at completion (R69). -/
  | signal (q : Nat) (i : Nat)
  /-- STAMP writes its start stamp to a host address before its record (R69). -/
  | stamp (q : Nat) (i : Nat)
  /-- STEP_OPEN opens an attempt of a step, fixes epochs and cursor, makes the pending group table current and applies delayed scaling (R263). -/
  | stepOpen (q : Nat) (i : Nat)
  /-- STEP_SEAL starts after every earlier command of the job has completed and makes the step SEALED (R265). -/
  | stepSeal (q : Nat) (i : Nat)
  /-- CKPT marks the step's record so that a checkpoint image is taken at its commit (R278). -/
  | ckpt (q : Nat) (i : Nat)
  /-- RESTORE checks an image's records and writes every committed object into buffer A, restoring seed, group table and ledger (R285). -/
  | restore (q : Nat) (i : Nat) (img : Option Image)
  /-- RESHARD aborts an open attempt, waits for old-epoch collectives and advances the job's layout epoch (R353). -/
  | reshard (q : Nat) (i : Nat)
  /-- WSET_SWAP makes a set's READY slot CURRENT and the old CURRENT slot DRAINING (R365). -/
  | wsetSwap (q : Nat) (i : Nat)
  /-- MM computes a matrix product on the array, split over cores, with drain conversion (R112). -/
  | mm (q : Nat) (i : Nat) (p : Nat) (bad : Option CsFault)
  /-- MM_T computes a matrix product with operands optionally transposed through the Underpass (R112). -/
  | mmT (q : Nat) (i : Nat) (p : Nat) (bad : Option CsFault)
  /-- CONV computes a convolution as an implicit GEMM with feeder address generation (R114). -/
  | conv (q : Nat) (i : Nat) (p : Nat) (bad : Option CsFault)
  /-- ATTN computes softmax attention one head at a time with the score matrix kept in the core (R136). -/
  | attn (q : Nat) (i : Nat) (p : Nat) (bad : Option CsFault)
  /-- SLICE64 computes an FP64-class product by slicing operands into 8-bit digits and recombining INT32 pair sums (R166). -/
  | slice64 (q : Nat) (i : Nat) (p : Nat)
  /-- SLICE32 computes an FP32-class product from three BF16 products (R173). -/
  | slice32 (q : Nat) (i : Nat) (p : Nat)
  /-- When every slicing part has ended, the product phase of the slice command's parts starts (R166). -/
  | sliceProductPhase (q : Nat) (i : Nat) (p : Nat) (bad : Option CsFault)
  /-- The localisation test of a core ends and the core is repaired, returned unchanged or closed (R124). -/
  | localisationEnd (p : Nat) (cols : List Nat) (rows : List Nat)
  /-- After 64 idle cycles the array stops, disabling its column groups at the ramp spacing (R119). -/
  | arrayRampDown (p : Nat)
  /-- VX applies a chain descriptor of elementwise ops on VXE engines (R190). -/
  | vx (q : Nat) (i : Nat) (p : Nat)
  /-- SF evaluates a special function on SFE engines (R193). -/
  | sf (q : Nat) (i : Nat) (p : Nat)
  /-- NORM runs a norm, statistic or reduction operation on NSE engines (R195). -/
  | norm (q : Nat) (i : Nat) (p : Nat)
  /-- ROUTE scores tokens against experts, selects top k and counts assignments (R197). -/
  | route (q : Nat) (i : Nat) (p : Nat)
  /-- When every phase-1 part of ROUTE has ended, dispatch rows are assigned (R198). -/
  | routePhase2 (q : Nat) (i : Nat) (p : Nat)
  /-- PERMUTE dispatches token rows to expert rows or collects them back (R200). -/
  | permute (q : Nat) (i : Nat) (p : Nat)
  /-- COMBINE writes weighted expert outputs to tokens, or their gradients (R200). -/
  | combine (q : Nat) (i : Nat) (p : Nat)
  /-- FFT computes batched 1-D to 3-D transforms on SPX engines (R202). -/
  | fft (q : Nat) (i : Nat) (p : Nat)
  /-- GATHER copies table rows named by indices (R205). -/
  | gather (q : Nat) (i : Nat) (p : Nat)
  /-- SCATTER_ADD adds rows or weighted edge messages into destination rows by reduction writes (R206). -/
  | scatterAdd (q : Nat) (i : Nat) (p : Nat)
  /-- MOVE makes a range of an object resident in a target tier, optionally dropping higher copies (R230). -/
  | move (q : Nat) (i : Nat)
  /-- PREFETCH issues upward moves of a range (R230). -/
  | prefetch (q : Nat) (i : Nat)
  /-- EVICT releases the copies of a range in a tier after writing dirty data down (R230). -/
  | evict (q : Nat) (i : Nat)
  /-- PIN makes a whole object PINNED in T0 (R230). -/
  | pin (q : Nat) (i : Nat)
  /-- UNPIN returns a PINNED object to RESIDENT (R230). -/
  | unpin (q : Nat) (i : Nat)
  /-- ALLREDUCE leaves the sum of all members' vectors in every destination (R344). -/
  | allreduce (q : Nat) (i : Nat)
  /-- REDUCE_SCATTER leaves chunk r of the sum in rank r's destination (R344). -/
  | reduceScatter (q : Nat) (i : Nat)
  /-- ALLGATHER gathers chunks from every rank, with optional version tagging and reuse (R354). -/
  | allgather (q : Nat) (i : Nat)
  /-- ALLTOALL exchanges expert counts and then rows for dispatch or return (R351). -/
  | alltoall (q : Nat) (i : Nat)
  /-- BCAST_CHAIN forwards a root's source along the ranks in 1 MiB chunks (R344). -/
  | bcastChain (q : Nat) (i : Nat)
  /-- SEND sends one tagged message to a peer rank (R343). -/
  | send (q : Nat) (i : Nat)
  /-- RECV posts a destination for one tagged message from a peer rank (R343). -/
  | recv (q : Nat) (i : Nat)
  /-- BARRIER completes when every member's BARRIER of the same sequence has started (R344). -/
  | barrier (q : Nat) (i : Nat)
  /-- A wait for a segment or message from a rank exceeds its bound and fails with MEMBER_MISSING (R349). -/
  | collectiveWaitTimeout (q : Nat) (i : Nat) (rank : Nat)
  /-- UPDATE runs a parameter group's rule in an Acrek unit, reading the current buffer and writing the inactive one (R245). -/
  | update (q : Nat) (i : Nat)
  /-- GROUP_CFG writes one entry of the job's pending parameter-group table (R243). -/
  | groupCfg (q : Nat) (i : Nat)
  /-- STATS forms the factored statistics of a tensor into its workspace (R247). -/
  | stats (q : Nat) (i : Nat)
  /-- An Acrek unit that has held its window for HOLD while a hub request waits releases it (R241). -/
  | acrWindowRelease (k : Nat)
  /-- The host's doorbell completes an assisted UPDATE, writing back the OUT aliases and taking the host's W2 and D2 (R260). -/
  | acrAssistDoorbell (f : Nat) (k : Nat) (h : Nat)
  /-- LOAD_WPK loads, checks, unwraps and decrypts a weight package into a set's slot and forwards it down the chain (R367). -/
  | loadWpk (q : Nat) (i : Nat) (tables : List Byte) (fail : Bool)
  /-- A package chunk that has arrived is brought to staging, decrypted by a CRY engine, tag-checked and written back as plaintext (R367). -/
  | wpkChunk (q : Nat) (i : Nat) (n : Nat) (bytes : List Byte) (fail : Bool)
  /-- The host's doorbell on TBN page 1 raises the count of package chunks present in host memory (R370). -/
  | chainAssistDoorbell (f : Nat) (h : Nat)
  /-- A write of WSET_DEF defines a weight set and increments its GEN, or is refused unless both slots are EMPTY (R362). -/
  | wsetDefWrite (f : Nat) (v : Word)
  /-- A Ring Road read request is granted at its bank and returns the line, corrected or refused (R92). -/
  | marketRead (port : Nat) (part : Nat) (q : Nat) (i : Nat) (p : Nat) (line : Nat) (err : Nat)
  /-- A Ring Road write request is granted at its bank and written in one or two bank cycles (R93). -/
  | marketWrite (port : Nat) (part : Nat) (q : Nat) (i : Nat) (p : Nat) (line : Nat) (mask : Nat) (data : List Byte) (err : Nat)
  /-- A reduction write adds its data into a line in place as one locked two-cycle operation (R94). -/
  | reductionWrite (port : Nat) (part : Nat) (q : Nat) (i : Nat) (p : Nat) (line : Nat) (mode : Nat) (stream : Nat) (pass : Nat) (first : Nat) (data : List Byte) (err : Nat)
  /-- The Market scrubber reads a line of a bank on its period and handles any error found (R99). -/
  | scrubRead (line : Nat) (err : Nat)
  /-- The bank copier ends and the logical bank maps to the reserve bank in one cycle (R100). -/
  | bankCopyEnd (b : Nat) (bad : List Nat)
  /-- A write of a pool LIMIT is clipped to keep the sum of limits within the available granules or extents (R97). -/
  | quotaWrite (t1 : Bool) (n : Nat) (v : Nat)
  /-- Mailbox CREATE allocates a residency record and charges the quotas (R219). -/
  | create (f : Nat)
  /-- Mailbox DELETE increments an object's GEN and releases its copies as references end (R219). -/
  | delete (f : Nat)
  /-- Mailbox QUERY returns an object's residency record (R219). -/
  | query (f : Nat)
  /-- Mailbox REFILL sets the T1 copy ARRIVING and accepts writes from BAR2 and RECV (R219). -/
  | refill (f : Nat)
  /-- Mailbox REFILL_DONE sets the T1 copy RESIDENT and clears POISONED in T0 (R219). -/
  | refillDone (f : Nat)
  /-- Mailbox RELOAD makes POISONED copies ABSENT after the host rewrote the T2 copy (R219). -/
  | reload (f : Nat)
  /-- A part references a unit, taking a reference or starting an upward move or assist record and waiting (R226). -/
  | objectReference (q : Nat) (i : Nat) (p : Nat) (h : Nat) (u : Nat) (write : Bool) (err : Nat) (line : Nat)
  /-- An upward move completes and the unit becomes RESIDENT, releasing waiting references (R225). -/
  | unitArrived (k : Nat) (u : Nat) (data : List Byte)
  /-- A dirty LEAVING copy's write-back ends, its space is released and a waiting reference starts a new upward move (R228). -/
  | writeBackEnd (k : Nat) (u : Nat) (t : Nat)
  /-- A clean LEAVING copy whose granted requests have completed is released (R228). -/
  | leavingRelease (k : Nat) (u : Nat)
  /-- The host's doorbell completes a residency-miss record and the device moves the unit from T1 to T0 or fails it (R226). -/
  | tirAssistDoorbell (f : Nat) (h : Nat)
  /-- A read from T2 fails and a retry is scheduled 1 ms later (R232). -/
  | t2ReadFail (k : Nat) (u : Nat)
  /-- A T2 read is reissued after its retry delay, and the last failure poisons the unit under R233 (R232). -/
  | t2Retry (k : Nat) (u : Nat)
  /-- A Street Index row marked for repair is mapped to a reserve row once all its entries are free (R239). -/
  | sixRowRepair (row : Nat) (fault : Nat)
  /-- The patrol scrubber reads an HBM sector on its period and handles any error (R213). -/
  | hbmScrub (k : Nat) (err : Nat)
  /-- The device votes READY when sealed and its UPDATEs have completed, or ABORT at the first failure of the step (R266). -/
  | deviceVote (j : Nat)
  /-- The coordinator takes a VOTE and decides COMMIT or ABORT once votes or digests allow (R268). -/
  | voteReceive (body : Cmd)
  /-- Every 1 ms while it lacks votes, the coordinator sends HOLD to every member that has voted (R268). -/
  | holdSend (j : Nat)
  /-- A voted member receives HOLD and restarts its coordinator-silence timer (R270). -/
  | holdReceive (body : Cmd)
  /-- The vote bound expires and the coordinator decides ABORT with VOTE_TIMEOUT, or sets the event in ASSIST mode (R269). -/
  | voteTimeout (j : Nat)
  /-- Every 1 ms while an UPDATE waits for an image, the device sends STALL to the coordinator (R281). -/
  | stallSend (j : Nat)
  /-- A STALL restarts the coordinator's vote bound (R281). -/
  | stallReceive (body : Cmd)
  /-- A member that has heard nothing from the coordinator for TAKEOVER names it silent and the next rank becomes coordinator and sends QUERY (R270). -/
  | coordinatorTakeover (j : Nat)
  /-- A member answers a QUERY with its vote and any decision it holds (R270). -/
  | queryReceive (body : Cmd)
  /-- A new coordinator takes an ANSWER and sends COMMIT, ABORT or MEMBER_MISSING abort (R270). -/
  | answerReceive (body : Cmd)
  /-- A member receives COMMIT and schedules its flip at T_commit, or flips at once if late (R271). -/
  | commitReceive (body : Cmd)
  /-- The local stamp reaches T_commit and the write set's buffer pointers flip, committing the step (R271). -/
  | commitApply (j : Nat)
  /-- A member receives an ABORT decision and its attempt ends ABORTED (R275). -/
  | abortReceive (body : Cmd)
  /-- The host's doorbell on LDG page 0 applies a host-made commit or abort decision, or completes a host checkpoint image (R274). -/
  | ldgAssistDoorbell (f : Nat) (h : Nat)
  /-- An image whose chunks are all acknowledged and whose local copy has ended replaces the older slot (R280). -/
  | ckptComplete (j : Nat)
  /-- An image that does not fit or whose neighbour is unreachable fails and its slots are freed (R280). -/
  | ckptFailed (j : Nat) (status : Nat)
  /-- A write to RNG_SEED3 makes the job's new seed take effect, or is refused while an attempt is open (R277). -/
  | seedWrite (f : Nat) (j : Nat) (v : Word)
  /-- A write to LDG_SCALE_BASE names the scale table and sets REMAIN to WARMUP (R159). -/
  | scaleBaseWrite (f : Nat) (j : Nat) (v : Word)
  /-- A function's link stays out of L0 for more than 100 ms or ends in surprise down, and the device parks its jobs (R287). -/
  | hostLinkLost (link : Nat)
  /-- A member receives PARK and parks the job at its next step boundary (R287). -/
  | parkReceive (body : Cmd)
  /-- A write of LDG_JOB_CTRL.UNPARK sends UNPARK to every member (R287). -/
  | unpark (j : Nat)
  /-- A member receives UNPARK and resumes the job once every member that parked has unparked (R287). -/
  | unparkReceive (body : Cmd)
  /-- PARK_LIMIT passes after the first PARK and the job becomes ENDED (R287). -/
  | parkLimitExpiry (j : Nat)
  /-- A port's PCS is aligned without fault for 1 ms and its link is up (R292). -/
  | linkUp (p : Nat) (rate : Nat)
  /-- A fault lasts 1 ms, the link goes down, queued frames are discarded and the transport stops using the port (R292). -/
  | linkDown (p : Nat)
  /-- In chip-to-module mode LINK_WAIT passes without link and the port tries the next allowed rate (R292). -/
  | rateFallback (p : Nat)
  /-- A lane fails, the port drops its link and retrains at the highest rate whose lanes are good, or waits for host approval (R294). -/
  | laneFail (p : Nat) (lane : Nat)
  /-- FAB_PORT_CTRL.RETRAIN retrains the port's link (R294). -/
  | portRetrain (p : Nat)
  /-- RETRAIN with CLEAR_LANES clears FAILED for unretired lanes and retrains, allowing a higher rate (R294). -/
  | retrainClearLanes (p : Nat)
  /-- FAB_PORT_CFG.ENABLE written 0 sends a shutdown LLDPDU and takes the port down (R305). -/
  | portDisable (p : Nat)
  /-- A received frame failing FCS, length, tag or destination is dropped and counted (R296). -/
  | frameRefused (p : Nat) (fr : RxFrame)
  /-- An ARP request or IPv6 neighbour solicitation is answered by firmware within 1 ms (R299). -/
  | arpReceive (p : Nat) (family : Nat) (target : List Byte) (asker : List Byte)
  /-- An ICMP echo request is answered by firmware, at most 100 per second per port (R299). -/
  | echoRequest (p : Nat) (family : Nat) (target : List Byte) (asker : List Byte) (body : List Byte)
  /-- A received LLDPDU updates or invalidates the port's neighbour entry (R306). -/
  | lldpduReceive (p : Nat) (ttl : Nat) (chassis : List Byte) (port : List Byte) (tlv : List Byte) (mgmt : List (Nat × Nat))
  /-- A neighbour entry's TTL passes and the entry becomes invalid (R306). -/
  | lldpNeighbourExpire (p : Nat)
  /-- Each INTERVAL, on link up or on a content change, the port sends an LLDPDU on queue 6 (R305). -/
  | lldpSend (p : Nat)
  /-- A received PFC frame pauses the transmit queues of its classes for the given quanta (R302). -/
  | pfcFrameReceive (p : Nat) (vec : Nat) (quanta : List Nat)
  /-- Every 32,768 quanta while a class stays above XOFF, the port repeats XOFF (R302). -/
  | pfcXoffRepeat (p : Nat) (cls : Nat) (held : Nat)
  /-- A class paused continuously beyond WD makes the port ignore its pause for HOLDOFF (R303). -/
  | pauseWatchdog (p : Nat) (cls : Nat)
  /-- The watchdog hold-off ends and pause is honoured again (R303). -/
  | pauseHoldoffEnd (p : Nat) (cls : Nat)
  /-- When the port can start a frame it takes one from the queues in strict, guaranteed-share and DWRR order (R301). -/
  | frameTransmit (p : Nat) (align : Nat)
  /-- A read of FAB_TS_FIFO3 removes the oldest egress stamp entry (R304). -/
  | tsFifoPop (p : Nat)
  /-- A PTP message with its ingress stamp reaches the time base and updates the servo (R436). -/
  | ptpReceive (p : Nat) (m : PtpMsg)
  /-- As master, the time base sends Sync every 2^LOG_SYNC s (R436). -/
  | syncSend (p : Nat)
  /-- A frame matching the wake token wakes the device from STANDBY or DORMANT (R307). -/
  | wakeFrame (p : Nat) (fr : RxFrame) (tags : Nat) (etype : Nat) (token : List Byte)
  /-- The 10 s lockout after 16 rejected wake frames ends (R307). -/
  | wakeLockoutEnd (p : Nat)
  /-- A DATA packet is placed at its offset in the destination, or dropped as duplicate, stale or NOT_READY (R316). -/
  | dataReceive (conn : Nat) (ver : Nat) (psn : Nat) (msgId : Nat) (off : Nat) (epoch : Nat) (step : Nat) (group : Nat) (rank : Nat) (lenM1 : Nat) (stamp : Nat) (ce : Bool) (bytes : List Byte)
  /-- A CTRL message is received and held for ordered delivery (R318). -/
  | ctrlReceive (conn : Nat) (ver : Nat) (psn : Nat) (msgId : Nat) (stamp : Nat) (ce : Bool) (body : List Byte)
  /-- The local stamp reaches a CTRL message's STAMP plus CTRL_HOLD and it is delivered to its unit (R318). -/
  | ctrlDeliver
  /-- An ACK marks packets ACKED and resets the retransmission timer and path loss counts (R320). -/
  | ackReceive (conn : Nat) (ver : Nat) (cum : Nat) (bitmap : Nat) (stamp : Nat) (stale : Bool)
  /-- A NACK marks named packets LOST for resend on another path (R320). -/
  | nackReceive (conn : Nat) (ver : Nat) (psns : List Nat) (unverified : Bool)
  /-- A NOT_READY leaves the packet for retransmission by the timer without loss counting (R316). -/
  | notReadyReceive (conn : Nat) (ver : Nat) (psn : Nat)
  /-- A CNP lowers the connection's rate by the factor 1 − 2^−b (R326). -/
  | cnpReceive (conn : Nat) (ver : Nat)
  /-- An INC_PERIOD without a CNP raises the connection's rate by A (R326). -/
  | rateIncrease (conn : Nat)
  /-- A HELLO is answered with HELLO_ACK, or CLOSE when versions or connections do not allow (R314). -/
  | helloReceive (port : Nat) (body : Cmd)
  /-- A HELLO_ACK opens the connection with its version and payload size (R314). -/
  | helloAckReceive (port : Nat) (conn : Nat) (body : Cmd)
  /-- Every 1 ms an unanswered HELLO is sent again (R314). -/
  | helloResend (conn : Nat)
  /-- A CLOSE refuses an opening, and the HELLO is repeated after 1 ms (R313). -/
  | closeReceive (conn : Nat)
  /-- A packet failing CRC-32C is dropped and an UNVERIFIED NACK returned, failing the message after 8 (R325). -/
  | packetCrcFail (conn : Nat) (psn : Nat) (group : Nat) (rank : Nat) (msgId : Nat)
  /-- After 16 packets or 4 µs after the first unacknowledged one, the receiver sends an ACK (R319). -/
  | ackSend (conn : Nat)
  /-- A PSN missing for NACK_HOLD below a higher arrival is NACKed (R319). -/
  | nackSend (conn : Nat)
  /-- The retransmission timer expires, the oldest SENT packet becomes LOST and the timer doubles (R321). -/
  | retransmitTimeout (conn : Nat)
  /-- Every 1 ms an excluded path is sent a PROBE (R322). -/
  | probeSend (peer : Nat) (path : Nat)
  /-- An answered PROBE makes the path ACTIVE again with count 0 (R322). -/
  | probeReceive (peer : Nat) (path : Nat)
  /-- No path to a peer becomes ACTIVE within the bound and every message to or from it fails (R323). -/
  | peerUnreachable (peer : Nat)
  /-- The host's doorbell on TBN page 0 reactivates paths on named ports or fails messages with PATH_FAILED (R324). -/
  | tbnAssistDoorbell (f : Nat) (h : Nat)
  /-- A connection with no message in flight for TBN_CONN_IDLE closes (R313). -/
  | connIdleClose (conn : Nat)
  /-- Every 10 ms a device not in a roster sends JOIN to its seeds and Welfaum LLDP neighbours (R333). -/
  | joinSend
  /-- No ROSTER arrives within 100 ms of the first JOIN and the device becomes keeper of a domain of one (R333). -/
  | becomeKeeper
  /-- A JOIN is forwarded to the keeper, which adds the record, requests a quote or refuses (R333). -/
  | joinReceive (body : List Byte)
  /-- A member applies ROSTER changes in epoch order, or asks for the whole roster (R332). -/
  | rosterReceive (body : List Byte)
  /-- Every period, members send HB to the keeper and the keeper to every member (R334). -/
  | hbSend
  /-- An HB resets the sender's missed count and returns a SUSPECT member to LIVE (R334). -/
  | hbReceive (body : List Byte)
  /-- The keeper misses SUSPECT heartbeats from a member and marks it SUSPECT (R334). -/
  | memberSuspect (dev : Nat)
  /-- The keeper misses REMOVE heartbeats and removes the member, with its effects on ranks and attempts (R337). -/
  | memberRemove (dev : Nat)
  /-- Members miss the keeper's heartbeat for REMOVE periods and the lowest live device sends KEEPER (R334). -/
  | keeperLoss
  /-- A KEEPER message names the new keeper (R334). -/
  | keeperReceive (body : List Byte)
  /-- The keeper removes a leaving device, or keeps a sleeping spare's record (R338). -/
  | leaveReceive (body : List Byte)
  /-- The keeper takes UNREACH in stamp order and removes the named device (R335). -/
  | unreachReceive (body : List Byte)
  /-- Every 100 ms the keeper sends wake frames to a WAKING spare (R339). -/
  | spareWakeSend
  /-- A spare has not joined within 10 s and is removed, and another is chosen (R339). -/
  | spareWakeTimeout
  /-- From WAKE_DONE's epoch every member rewrites groups with SUBST to name the spare (R339). -/
  | wakeDoneReceive (body : List Byte)
  /-- The host's doorbell on COL page 0 keeps, removes or substitutes the device concerned (R340). -/
  | colAssistDoorbell (f : Nat) (h : Nat)
  /-- A first RED for an attempt is relayed to every other member and the attempt aborts (R356). -/
  | redReceive (src : Nat) (body : Cmd)
  /-- A joining device answers QUOTE_REQ with its chain, measurements and signed quote (R435). -/
  | quoteReqReceive (body : List Byte)
  /-- The keeper checks a complete quote and admits or refuses the joining device (R435). -/
  | quoteReceive (body : List Byte)
  /-- A quote whose parts have not all arrived within 1 s of its request is discarded (R329). -/
  | quoteTimeout (dev : Nat)
  /-- A write of COL_CTRL.LEAVE stops new steps of the device's jobs (R336). -/
  | gracefulLeave
  /-- Once no attempt is open and no image drains, the device sends LEAVE and is removed (R336). -/
  | leaveSend
  /-- COL_CTRL.FORGET on the keeper deletes the selected spare's record (R338). -/
  | forget
  /-- A GLB_PART write changes a partition, or is refused when it overlaps cores or gives a VF a second partition (R373). -/
  | partitionWrite (f : Nat) (p : Nat) (r : Nat) (v : Word)
  /-- A VF's Function Level Reset disables its queues, clears semaphores, aborts open attempts and ends set bindings (R374). -/
  | vfFlr (f : Nat)
  /-- PERST# asserted resets a link's functions and, for link A, the device with a D3 reset (R378). -/
  | perstAssert (link : Nat)
  /-- PERST# released; configuration requests get Retry Status until boot stage S3 (R378). -/
  | perstRelease (link : Nat)
  /-- Hot Reset or link disable resets a link's function configuration, disables queues and parks jobs (R378). -/
  | hotReset (link : Nat)
  /-- A BAR2 read through a window entry is served from the object's T1 copy or returns all ones (R384). -/
  | bar2Read (f : Nat) (off : Nat) (len : Nat)
  /-- A BAR2 write through a window entry writes the object's T1 copy or is dropped and counted (R384). -/
  | bar2Write (f : Nat) (off : Nat) (data : List Byte)
  /-- A write of HIF_WIN_CFG makes a BAR2 window entry take effect, or is refused (R383). -/
  | windowConfig (f : Nat) (v : Word)
  /-- An MSI-X vector is unmasked and sends any pending message (R381). -/
  | vectorUnmask (f : Nat) (n : Nat)
  /-- A write setting EVT_SRC.EN samples the summary line and latches PENDING when high (R385). -/
  | sourceEnable (f : Nat) (n : Nat) (v : Word)
  /-- An enabled source latches PENDING on a rising edge of its summary line (R385). -/
  | sourceLatch (n : Nat)
  /-- A pending source is presented to the management pair, which jumps to its vector (R387). -/
  | sourcePresent (n : Nat)
  /-- A latched source routed to the host sets IN_SERVICE and sends its MSI-X message (R389). -/
  | hostMessage (n : Nat)
  /-- A write of EVT_EOI ends service of a source and relatches it if its line is high (R390). -/
  | eoi (f : Nat) (n : Nat)
  /-- SPDM GET_VERSION reports version 1.2 (R433). -/
  | getVersion (who : Nat) (req : List Byte)
  /-- SPDM GET_CAPABILITIES reports CERT, CHAL and signed MEAS (R433). -/
  | getCapabilities (who : Nat) (req : List Byte)
  /-- SPDM NEGOTIATE_ALGORITHMS selects RSA-PSS-4096 and SHA-512 (R433). -/
  | negotiateAlgorithms (who : Nat) (req : List Byte)
  /-- SPDM GET_DIGESTS returns the digests of the certificate chains (R433). -/
  | getDigests (who : Nat) (req : List Byte)
  /-- SPDM GET_CERTIFICATE returns a slot's certificate chain (R433). -/
  | getCertificate (who : Nat) (req : List Byte)
  /-- SPDM CHALLENGE returns a signed challenge response (R433). -/
  | challenge (who : Nat) (req : List Byte)
  /-- SPDM GET_MEASUREMENTS returns the ROM, firmware, record, SVN and boot measurements (R434). -/
  | getMeasurements (who : Nat) (req : List Byte)
  /-- A clock monitor finds an island's clock out of range and the island or device is reset (R392). -/
  | clockFault (island : Nat) (n : Nat)
  /-- A voltage monitor finds a rail out of its window and the device takes a D3 reset (R392). -/
  | supplyFault
  /-- Each ROUND a rolling self-test round starts on its cores, engines or support units (R393). -/
  | selfTestRound
  /-- A unit's test ends and it takes its identity back, or fails and is closed (R394). -/
  | selfTestEnd (t : Nat) (p : Nat) (pass : Bool)
  /-- A 50 µs in-place test slice runs at a free boundary, at least every 1 ms (R394). -/
  | selfTestSlice (t : Nat) (p : Nat)
  /-- One second after closure, a closed unit takes a D1 reset and its full self-test (R397). -/
  | closedUnitRetest (t : Nat) (p : Nat)
  /-- A closed unit's full self-test ends and it joins the reserve pool or is retired (R397). -/
  | fullSelfTestEnd (t : Nat) (p : Nat) (pass : Bool)
  /-- HLT_RESET_CTRL.D3 with the key requests a D3 reset of the device (R400). -/
  | d3Request (f : Nat) (key : Nat)
  /-- HLT_RESET_CTRL.D4 with the key requests a D4 reset and clears the warm-reset count (R400). -/
  | d4Request (f : Nat) (key : Nat)
  /-- The active management pair disagrees and the standby pair takes over from the journal (R405). -/
  | lockstep
  /-- A write of HLT_DUMP_CTRL.REQ starts a dump (R406). -/
  | dumpRequest
  /-- A dump agent does not answer within 10 µs and its section is recorded ABSENT (R407). -/
  | dumpAgentTimeout (ident : Nat)
  /-- Collection of a dump ends and DUMP_DONE is set (R409). -/
  | dumpComplete (present : List Nat) (skipped : List Nat)
  /-- A write of HLT_DUMP_SEL fetches a 2 KiB section chunk over the Back Lane (R410). -/
  | dumpChunkFetch (v : Word) (present : Bool)
  /-- The host's doorbell ends a host-pulled dump (R410). -/
  | hltAssistDoorbell (f : Nat) (h : Nat)
  /-- HLT_DUMP_CTRL.TO_HOST starts copying a dump slot to host memory (R410). -/
  | dumpToHost
  /-- The copy of a dump slot to the host ends and DUMP_DONE is set (R410). -/
  | dumpCopyEnd
  /-- PWR_GOOD is asserted and a cold start begins at S0 (R414). -/
  | bootStart
  /-- A boot stage completes and the next begins, reaching READY after S12 (R413). -/
  | stageComplete (bad : List Nat) (key : Bool)
  /-- A boot stage exceeds its bound or stops with an error and the boot record is updated (R415). -/
  | stageFail (unit : Nat) (status : Nat)
  /-- 100 ms after a failed stage the device starts again at S0, taking alternatives or entering MAINTENANCE or recovery (R415). -/
  | bootRestart
  /-- The host's doorbell on SPR page 1 applies SPR_BALT_CHOICE for a waiting boot stage (R419). -/
  | bootAltDoorbell (f : Nat) (h : Nat)
  /-- SPR page 1 PG_TIMEOUT expires and the waiting stage takes its alternative (R419). -/
  | bootAltTimeout
  /-- SEC_FW_CTRL.WRITE reads, checks and writes a firmware image into the inactive slot (R431). -/
  | fwWrite (img : List Byte)
  /-- SEC_FW_CTRL.ACTIVATE makes the written slot preferred from the next start (R431). -/
  | fwActivate
  /-- SEC_FW_CTRL.COMMIT raises the record's SVN to the running image's (R432). -/
  | fwCommit
  /-- SEC_CFG_REQ.APPLY requests a configuration record write of HOST_SPLIT and ALT_MODE (R424). -/
  | configRequest (hostSplit : Bool) (altMode : Bool)
  /-- The offset stays below TIM_OFFSET_LIM for 4 s and the time base becomes LOCKED (R437). -/
  | timeLock
  /-- The offset monitor fires and the time base enters HOLDOVER (R438). -/
  | offsetAlarm
  /-- TIM_CTRL.STEP steps the time to the master's while no attempt is open (R437). -/
  | timeStep (f : Nat)
  /-- Once per second firmware writes TIM_UNCERTAINTY (R439). -/
  | uncertaintyUpdate
  /-- A write of PWR_CAP sets the module power cap, met within 1 ms (R441). -/
  | capWrite (f : Nat) (v : Word)
  /-- The governor lowers or raises column duty and then issue rate to hold input power at the cap (R441). -/
  | governorAdjust (power : Nat)
  /-- Every 250 µs the sensors are read and the thermal cap or shutdown is triggered (R442). -/
  | tempSample (temps : List Nat)
  /-- Every 10 ms the thermal cap falls or rises by 10 W (R442). -/
  | thermalCapStep
  /-- No command is in execution and no queue is ACTIVE for 100 µs and idle islands are clock-gated (R444). -/
  | idleEntry
  /-- PWR_CTRL.REQ = 1 with the key leaves the roster, disables queues, takes links down and enters STANDBY (R445). -/
  | standbyRequest (f : Nat) (key : Nat)
  /-- PWR_CTRL.REQ = 2 with the key leaves the roster, disables queues, takes links down and enters DORMANT (R445). -/
  | dormantRequest (f : Nat) (key : Nat)
  /-- PWR_EN asserted brings PWR_GOOD within 200 ms (R447). -/
  | pwrEnAssert
  /-- PWR_EN deasserted drops PWR_GOOD and every rail except the always-on domain (R447). -/
  | pwrEnDeassert
  /-- The 54 V input below 46 V for 5 µs powers the module down (R447). -/
  | inputLow
  /-- A PLDM sensor read over the sideband returns power, temperature, power state or health (R449). -/
  | pldmGetSensor (id : Nat)
  /-- The POWER_CAP effecter writes PWR_CAP over the sideband (R449). -/
  | pldmPowerCap (v : Nat)
  /-- The WAKE effecter wakes the module from STANDBY or DORMANT (R446). -/
  | pldmWake
  /-- The RESET_D4 effecter requests a D4 reset (R449). -/
  | pldmResetD4
  /-- PLDM firmware update over the sideband writes an image through the checks of R431 (R431). -/
  | pldmFirmwareUpdate (img : List Byte)
  /-- The 3.3 V standby rail rises, powering the always-on domain and the sideband, and SLOT_ID is read (R448). -/
  | standbyRailRise (slotId : Nat)
  /-- The 3.3 V standby rail is lost, so the always-on counter, always-on SEQ, wake token and sideband are lost (R418). -/
  | standbyRailLoss
  /-- A PCIe link trains and reaches L0 at its negotiated rate and width, and WAKE# is deasserted when link A gets there (R446). -/
  | pcieLinkUp (link : Nat) (rate : Nat) (width : Nat) (flit : Bool)
  /-- A PCIe configuration request, such as a write of NumVFs or a Resizable BAR size, is answered or takes effect (R380). -/
  | pcieConfigAccess (f : Nat) (reg : Nat) (val : Option Word)
  /-- A DOE Discovery data object on a function's mailbox is answered with the supported data object types (R382). -/
  | doeDiscovery (f : Nat) (index : Nat)
  /-- The baseboard controller assigns the device's MCTP endpoint id over the SMBus sideband (R449). -/
  | mctpSetEndpointId (eid : Nat)
  /-- A class's pause quanta run out without refresh, its transmit queues resume and its pause watchdog timer stops and resets (R302). -/
  | pauseExpiry (p : Nat) (cls : Nat)
  /-- The flash write and read-back of a firmware image end, BUSY clears and FW_WRITTEN or FW_REJECTED is set (R431). -/
  | fwWriteComplete (same : Bool)
  deriving DecidableEq, Repr

end Sys2Proof
end

