-- ==== Sys2Proof/Decode.lean ====
section
/-! DEFINITION. The words of the opcode table: no row of it gives any bits (its fields are empty), because a command is an
event at the block's boundary and not a coded word. -/

namespace Sys2Proof

/-- The command a word spells: none, since no row gives bits. -/
def decodeTableWord (_nbits _w : Nat) : Option Instr := none

end Sys2Proof
end

