-- ==== Sys2Proof/Machine/Bits.lean ====
section
/-! DEFINITION. Bit fields, little-endian byte strings and the small arithmetic every family shares. -/

namespace Sys2Proof.Machine

/-- The `w` bits of `n` from bit `lo` up. -/
def bitsAt (n lo w : Nat) : Nat := (n >>> lo) % 2 ^ w

/-- `n` with its `w` bits from `lo` up replaced by the low `w` bits of `v`. -/
def putBitsAt (n lo w v : Nat) : Nat :=
  n - (bitsAt n lo w <<< lo) + ((v % 2 ^ w) <<< lo)

/-- A word with one field replaced. -/
def setField (x : Word) (lo w v : Nat) : Word := BitVec.ofNat 32 (putBitsAt x.toNat lo w v)

/-- Bit `i` of a number as a Boolean. -/
def bitOf (n i : Nat) : Bool := bitsAt n i 1 == 1

/-- The number a Boolean spells in a one-bit field. -/
def boolNat (b : Bool) : Nat := if b then 1 else 0

/-- The first `k` bytes of a number, lowest first. -/
def leBytes : Nat → Nat → List Byte
  | 0, _ => []
  | k + 1, n => BitVec.ofNat 8 n :: leBytes k (n / 256)

/-- The number that bytes spell, lowest first. -/
def ofLeBytes : List Byte → Nat
  | [] => 0
  | b :: bs => b.toNat + 256 * ofLeBytes bs

/-- The number that bytes spell, highest first (network order). -/
def ofBeBytes (bs : List Byte) : Nat := ofLeBytes bs.reverse

/-- Bytes `[off, off + k)` of a list, as a little-endian number; bytes past the end count as zero. -/
def leAt (bs : List Byte) (off k : Nat) : Nat := ofLeBytes ((bs.drop off).take k)

/-- A bounded increment: saturates at the largest `w`-bit value. -/
def satAdd (w n k : Nat) : Nat := min (n + k) (2 ^ w - 1)

/-- `⌈a ÷ b⌉`. -/
def ceilDiv (a b : Nat) : Nat := (a + b - 1) / b

/-- `a` rounded up to a multiple of `b`. -/
def roundUp (a b : Nat) : Nat := ceilDiv a b * b

/-- ⌈log₂ n⌉, 0 for 0 and 1. -/
def clog2 (n : Nat) : Nat := if n ≤ 1 then 0 else Nat.log2 (n - 1) + 1

/-- The two's-complement reading of a `w`-bit number. -/
def signedOf (w n : Nat) : Int :=
  let m := n % 2 ^ w
  if m < 2 ^ (w - 1) then Int.ofNat m else Int.ofNat m - Int.ofNat (2 ^ w)

/-- The `w`-bit two's complement of an integer. -/
def unsignedOf (w : Nat) (i : Int) : Nat := (i % Int.ofNat (2 ^ w)).toNat

/-- Serial order modulo `2 ^ w`: `a` is at or after `b` (03_klotchaex_command_stream.md R71). -/
def serialGe (w a b : Nat) : Bool := ((a + 2 ^ w - b % 2 ^ w) % 2 ^ w) < 2 ^ (w - 1)

/-- Serial order modulo `2 ^ w`: `a` is strictly after `b`. -/
def serialGt (w a b : Nat) : Bool := serialGe w a b && a % 2 ^ w != b % 2 ^ w

/-- The naturals of `[lo, lo + n)`. -/
def range' (lo n : Nat) : List Nat := (List.range n).map (lo + ·)

/-- The number of ones among the low `w` bits. -/
def popCount : Nat → Nat → Nat
  | 0, _ => 0
  | w + 1, n => n % 2 + popCount w (n / 2)

/-- The lowest set bit among the low `w` bits, from bit `i` up. -/
def firstBitFrom : Nat → Nat → Nat → Option Nat
  | 0, _, _ => none
  | w + 1, i, n => if n % 2 = 1 then some i else firstBitFrom w (i + 1) (n / 2)

/-- The smallest element of a list under a key, the first of equals. -/
def minBy {α : Type} (key : α → Nat) : List α → Option α
  | [] => none
  | x :: xs =>
    match minBy key xs with
    | none => some x
    | some y => if key y < key x then some y else some x

/-- Insert into a list kept in rising order of a key, after its equals. -/
def insertBy {α : Type} (key : α → Nat) (x : α) : List α → List α
  | [] => [x]
  | y :: ys => if key x < key y then x :: y :: ys else y :: insertBy key x ys

/-- A list in rising order of a key, equals in their own order. -/
def sortBy {α : Type} (key : α → Nat) (l : List α) : List α := l.foldl (fun acc x => insertBy key x acc) []

/-- The sum of a list of naturals under a function. -/
def sumBy {α : Type} (f : α → Nat) (l : List α) : Nat := l.foldl (fun acc x => acc + f x) 0

/-- The element of a list at an index, or a default. -/
def nthD {α : Type} (l : List α) (i : Nat) (d : α) : α := (l[i]?).getD d

/-- A list with one element replaced. -/
def setNth {α : Type} : List α → Nat → α → List α
  | [], _, _ => []
  | _ :: xs, 0, y => y :: xs
  | x :: xs, i + 1, y => x :: setNth xs i y

end Sys2Proof.Machine
end

