-- ==== Sys2Proof/Machine/Draws.lean ====
section
/-! DEFINITION. The counter-based generator, AES-128 of FIPS 197 (12_step_ledger.md R276), and CRC-32C
(14_tabnus_transport.md R311). -/

namespace Sys2Proof.Machine

/-! ### AES-128 -/

/-- Multiplication by x in GF(2^8). -/
def aesXt (a : Nat) : Nat := if a < 128 then 2 * a else (2 * a - 256) ^^^ 0x1B

/-- Multiplication in GF(2^8): `k` bits of `b` remain. -/
def aesMulGo : Nat → Nat → Nat → Nat
  | 0, _, _ => 0
  | k + 1, a, b => (if b % 2 = 1 then a else 0) ^^^ aesMulGo k (aesXt a) (b / 2)

def aesMul (a b : Nat) : Nat := aesMulGo 8 a b

/-- The power a^n in GF(2^8) by repeated squaring, `k` bits of `n`. -/
def aesPow : Nat → Nat → Nat → Nat
  | 0, _, _ => 1
  | k + 1, a, n => aesMul (if n % 2 = 1 then a else 1) (aesPow k (aesMul a a) (n / 2))

/-- Rotate a byte left. -/
def rotl8 (x k : Nat) : Nat := (x * 2 ^ k) % 256 + x / 2 ^ (8 - k)

/-- The S-box: the inverse, then the affine map. -/
def aesSbox (a : Nat) : Nat :=
  let b := aesPow 8 a 254
  b ^^^ rotl8 b 1 ^^^ rotl8 b 2 ^^^ rotl8 b 3 ^^^ rotl8 b 4 ^^^ 0x63

/-- Byte-wise exclusive or. -/
def xorBytes (a b : List Nat) : List Nat := List.zipWith (· ^^^ ·) a b

/-- One word of the key schedule from the word before it and the word four before it. -/
def aesKeyWord (i rcon : Nat) (prev back : List Nat) : List Nat :=
  if i % 4 = 0 then xorBytes back (xorBytes ((prev.drop 1 ++ prev.take 1).map aesSbox) [rcon, 0, 0, 0])
  else xorBytes back prev

/-- The key schedule: words in order, `k` still to come. -/
def aesExpand : Nat → Nat → Nat → List (List Nat) → List (List Nat)
  | 0, _, _, ws => ws
  | k + 1, i, rcon, ws =>
    let w := aesKeyWord i rcon (nthD ws (i - 1) []) (nthD ws (i - 4) [])
    aesExpand k (i + 1) (if i % 4 = 0 then aesXt rcon else rcon) (ws ++ [w])

def aesKeys (key : List Nat) : List (List Nat) :=
  aesExpand 40 4 1 ((List.range 4).map (fun i => (key.drop (4 * i)).take 4))

/-- Round key `r`, 16 bytes. -/
def aesRoundKey (ws : List (List Nat)) (r : Nat) : List Nat := ((ws.drop (4 * r)).take 4).flatten

/-- ShiftRows on the 16 state bytes, column by column. -/
def aesShift (s : List Nat) : List Nat := (List.range 16).map (fun i => nthD s ((i + 4 * (i % 4)) % 16) 0)

/-- MixColumns. -/
def aesMix (s : List Nat) : List Nat :=
  (List.range 16).map fun i =>
    let c := i - i % 4
    let g := fun k => nthD s (c + (i + k) % 4) 0
    aesMul 2 (g 0) ^^^ aesMul 3 (g 1) ^^^ g 2 ^^^ g 3

/-- One middle round after another: `k` remain. -/
def aesRounds (ws : List (List Nat)) : Nat → Nat → List Nat → List Nat
  | 0, _, s => s
  | k + 1, r, s => aesRounds ws k (r + 1) (xorBytes (aesMix (aesShift (s.map aesSbox))) (aesRoundKey ws r))

/-- AES-128 of one block. -/
def aes128 (key block : List Nat) : List Nat :=
  let ws := aesKeys key
  let s := aesRounds ws 9 1 (xorBytes block (aesRoundKey ws 0))
  xorBytes (aesShift (s.map aesSbox)) (aesRoundKey ws 10)

/-- The first `k` bytes of a number as naturals, lowest first. -/
def natBytes : Nat → Nat → List Nat
  | 0, _ => []
  | k + 1, n => n % 256 :: natBytes k (n / 256)

def ofNatBytes : List Nat → Nat
  | [] => 0
  | b :: bs => b + 256 * ofNatBytes bs

/-- The 64 bits that the generator returns (R276). The key is the seed, byte 0 its lowest. -/
def draw64 (seed step stream site pass index : Nat) : Nat :=
  let blk := step % 2 ^ 36 + (stream % 2 ^ 32) * 2 ^ 36 + (site % 16) * 2 ^ 68 + (pass % 2 ^ 10) * 2 ^ 72
    + (index % 2 ^ 46) * 2 ^ 82
  ofNatBytes ((aes128 (natBytes 16 seed) (natBytes 16 blk)).take 8)

/-- The 16-bit draw of element `e`: lane e mod 4 of index ⌊e ÷ 4⌋ (R154). -/
def draw16 (seed step stream site pass e : Nat) : Nat := bitsAt (draw64 seed step stream site pass (e / 4)) (16 * (e % 4)) 16

/-! ### CRC-32C -/

/-- Eight steps of the reflected polynomial. -/
def crcByte : Nat → Nat → Nat
  | 0, c => c
  | k + 1, c => crcByte k (if c % 2 = 1 then c / 2 ^^^ 0x82F63B78 else c / 2)

/-- CRC-32C of bytes (Castagnoli, reflected, initial value and final XOR 0xFFFF_FFFF). -/
def crc32c (bs : List Byte) : Nat :=
  (bs.foldl (fun c b => crcByte 8 (c ^^^ b.toNat)) 0xFFFFFFFF) ^^^ 0xFFFFFFFF

end Sys2Proof.Machine
end

