-- ==== Sys2Proof/Config.lean ====
section
/-! DEFINITION. What the spec leaves open: values that an implementation fixes or that no rule states, as constants with no
body. Every one is named in the assumption log; nothing can be proved of its value. -/

namespace Sys2Proof.Machine

/-- A number as the arithmetic units hold it: NaN, a signed infinity, or the exact value ± man · 2^exp. -/
inductive FVal
  | nan
  | inf (neg : Bool)
  | fin (neg : Bool) (man : Nat) (exp : Int)
  deriving DecidableEq, Repr, Inhabited

/-- The order of a sum: terms by number, added two by two. -/
inductive SumTree
  | leaf (i : Nat)
  | node (l r : SumTree)
  deriving DecidableEq, Repr, Inhabited

end Sys2Proof.Machine

namespace Sys2Proof

open Machine

/-- Whether a cell of the array rounds an inexact FP32 partial sum away from zero (the spec gives the format of the sums but
not the rounding inside a column; log entry 20). -/
opaque Config.cellUp : FVal → FVal → Bool

/-- The value a function unit gives before its output is rounded, where a rule gives only an error bound: the unit (0 drain,
1 SFE and the other engines, 2 sums that no rule rounds and outputs of a failed cell), the function code and the arguments (log entry 21). -/
opaque Config.funcUnit : Nat → Nat → List FVal → FVal

/-- The fixed order in which an engine adds `n` terms in a lane mode: the spec fixes that there is one, not which (log entry 61). -/
opaque Config.sumOrder : Nat → Nat → SumTree

/-- A number the spec leaves open, drawn afresh: the argument is the model's count of such draws (log entry 22). -/
opaque Config.freeNat : Nat → Nat

/-- A draw of the accumulator's stochastic rounding whose K pass number has no term in R154, which numbers passes 0 to 511: stream, pass
and the element's position (log entry 59). -/
opaque Config.freeDraw : Nat → Nat → Nat → Nat

/-- A byte the spec leaves open, by a tag of the place that needs it and an index (log entry 22). -/
opaque Config.freeByte : Nat → Nat → Byte

/-- SHA-256 and SHA-384 of a byte string: the digest's width in bits, the bytes, the digest's bytes (log entry 23). -/
opaque Config.sha : Nat → List Byte → List Byte

/-- AES-256-GCM: key bytes, the 12 nonce bytes, additional data, text; gives ciphertext and tag (log entry 23). -/
opaque Config.gcmSeal : List Byte → List Byte → List Byte → List Byte → List Byte × List Byte

/-- AES-256-GCM decryption of a text (the tag is checked by sealing again; log entry 23). -/
opaque Config.gcmOpen : List Byte → List Byte → List Byte → List Byte → List Byte

/-- A signature scheme's check: scheme code, key, message and signature (log entry 23). -/
opaque Config.sigOk : Nat → List Byte → List Byte → List Byte → Bool

/-- RSA-OAEP decryption with the device key: the label followed by the wrapped bytes, to the key bytes; none where the padding fails
(log entry 23). -/
opaque Config.oaepOpen : List Byte → Option (List Byte)

/-- A private key's signature of a message: key 0 identity, 1 weight (log entry 23). -/
opaque Config.sign : Nat → List Byte → List Byte

/-- Bytes that manufacture gives a device: 0 the certificate chain of slot 0, 1 that of slot 1, 2 the ROM's digest (log entry 23). -/
opaque Config.made : Nat → List Byte

/-- A certificate chain reaches the ROM's root digest (log entry 23). -/
opaque Config.chainOk : List Byte → Bool

end Sys2Proof
end

