-- ==== Sys2Proof/Machine/RegTable.lean ====
section
/-! DEFINITION. The register table of PF BAR0 beyond the common page header: every register, its fields, their access,
reset value and the values a write may leave (02_register_pages.md R32 to R38 and the register tables of every chapter). -/

namespace Sys2Proof.Machine

/-- The blocks of PF BAR0 (02_register_pages.md R32). -/
inductive Block
  | glb | tim | pwr | spr | sec | evt | hlt | hif | kqp | ldg | ccr | mkt | eng | hbm | acr | tir | six | fab | tbn | col | rng
  deriving DecidableEq, Repr

/-- How software may touch a field (00_scope.md, access codes). `rw1cAll` is a counter that a 1 in any of its bits clears;
`woKept` is write-only data that the device keeps (seeds, wake tokens). -/
inductive Access
  | ro | rw | rw1c | rw1cAll | w1s | wo | woKept | rwl
  deriving DecidableEq, Repr

/-- What a written field value becomes (the "reads back as" clauses of the register tables). -/
inductive Legal
  /-- Every value is kept. -/
  | any
  /-- A value outside `lo` to `hi` becomes `dflt`. -/
  | range (lo hi dflt : Nat)
  /-- A value below `lo` becomes `dlo`; one above `hi` becomes `dhi`. -/
  | two (lo dlo hi dhi : Nat)
  /-- Each zero byte becomes 1 (FAB_DWRR). -/
  | bytesNonzero
  /-- A signed 4-bit value outside -7 to 0 becomes -4 (TIM_CFG.LOG_SYNC). -/
  | logSync
  /-- A value not below FAB_PFC.XOFF, as written, becomes XOFF - 1. -/
  | xon
  /-- A value not above COL_HB.SUSPECT as kept, or above 1,000, becomes 20. -/
  | hbRemove
  deriving DecidableEq, Repr

/-- One field of a register. -/
structure FieldDef where
  lo : Nat
  w : Nat
  access : Access
  reset : Nat
  legal : Legal
  deriving DecidableEq, Repr

/-- One register, or `count` registers `stride` bytes apart; register `j`'s reset word is the fields' plus `idx * j`. -/
structure RegDef where
  page : Nat
  off : Nat
  count : Nat
  stride : Nat
  fields : List FieldDef
  idx : Nat := 0
  deriving DecidableEq, Repr

/-- Registers of GLB. -/
def regsGlb : List RegDef :=
  [⟨0, 0x80, 1, 0x0, [⟨0, 32, .rw1cAll, 0, .any⟩], 0⟩,
   ⟨0, 0x84, 1, 0x0, [⟨0, 26, .ro, 0, .any⟩, ⟨26, 2, .ro, 0, .any⟩, ⟨28, 4, .ro, 0, .any⟩], 0⟩,
   ⟨0, 0x90, 1, 0x0, [⟨0, 17, .rwl, 4096, .range 0 65536 4096⟩], 0⟩,
   ⟨1, 0x80, 1, 0x20, [⟨0, 1, .rwl, 1, .any⟩, ⟨1, 4, .rwl, 0, .any⟩, ⟨5, 6, .rwl, 0, .any⟩, ⟨11, 7, .rwl, 64, .any⟩], 0⟩,
   ⟨1, 0xA0, 7, 0x20, [⟨0, 1, .rwl, 0, .any⟩, ⟨1, 4, .rwl, 0, .any⟩, ⟨5, 6, .rwl, 0, .any⟩, ⟨11, 7, .rwl, 0, .any⟩], 0⟩,
   ⟨1, 0x84, 8, 0x20, [⟨0, 17, .rwl, 65536, .range 1 65536 65536⟩], 0⟩,
   ⟨1, 0x88, 8, 0x20, [⟨0, 3, .rwl, 1, .range 1 4 1⟩], 0⟩]

/-- Registers of TIM. -/
def regsTim : List RegDef :=
  [⟨0, 0x80, 1, 0x0, [⟨0, 2, .rwl, 1, .range 0 2 1⟩, ⟨2, 1, .rwl, 0, .any⟩, ⟨3, 8, .rwl, 0, .range 0 127 0⟩, ⟨11, 4, .rwl, 12, .logSync⟩], 0⟩,
   ⟨0, 0x84, 1, 0x0, [⟨0, 1, .wo, 0, .any⟩], 0⟩,
   ⟨0, 0x88, 1, 0x0, [⟨0, 3, .ro, 0, .any⟩, ⟨3, 5, .ro, 0, .any⟩], 0⟩,
   ⟨0, 0x8C, 1, 0x0, [⟨0, 14, .rwl, 50, .range 1 10000 50⟩], 0⟩,
   ⟨0, 0x90, 1, 0x0, [⟨0, 32, .ro, 0, .any⟩], 0⟩,
   ⟨0, 0x94, 1, 0x0, [⟨0, 32, .ro, 0, .any⟩], 0⟩,
   ⟨0, 0x98, 1, 0x0, [⟨0, 32, .ro, 0, .any⟩], 0⟩,
   ⟨0, 0x9C, 1, 0x0, [⟨0, 32, .ro, 4294967295, .any⟩], 0⟩,
   ⟨0, 0xA0, 1, 0x0, [⟨0, 16, .rw, 0, .any⟩], 0⟩]

/-- Registers of PWR. -/
def regsPwr : List RegDef :=
  [⟨0, 0x80, 1, 0x0, [⟨0, 7, .rw, 72, .range 40 72 72⟩], 0⟩,
   ⟨0, 0x84, 1, 0x0, [⟨0, 2, .wo, 0, .any⟩, ⟨8, 8, .wo, 0, .any⟩], 0⟩,
   ⟨0, 0x88, 1, 0x0, [⟨0, 3, .ro, 0, .any⟩, ⟨3, 1, .ro, 0, .any⟩, ⟨4, 7, .ro, 64, .any⟩, ⟨11, 4, .ro, 0, .any⟩, ⟨16, 10, .ro, 0, .any⟩], 0⟩,
   ⟨0, 0x8C, 1, 0x0, [⟨0, 8, .ro, 0, .any⟩, ⟨8, 5, .ro, 0, .any⟩, ⟨16, 8, .ro, 72, .any⟩], 0⟩,
   ⟨0, 0x90, 1, 0x0, [⟨0, 2, .ro, 0, .any⟩], 0⟩]

/-- Registers of SPR. -/
def regsSpr : List RegDef :=
  [⟨0, 0x80, 1, 0x0, [⟨0, 4, .rw, 0, .range 0 10 0⟩, ⟨4, 8, .rw, 0, .any⟩], 0⟩,
   ⟨0, 0x84, 1, 0x0, [⟨0, 8, .ro, 0, .any⟩, ⟨8, 1, .ro, 0, .any⟩, ⟨9, 1, .ro, 0, .any⟩], 0⟩,
   ⟨0, 0x88, 3, 0x4, [⟨0, 32, .ro, 0, .any⟩], 0⟩,
   ⟨0, 0xA0, 1, 0x0, [⟨0, 32, .ro, 0, .any⟩], 0⟩,
   ⟨0, 0xA4, 1, 0x0, [⟨0, 32, .ro, 0, .any⟩], 0⟩,
   ⟨0, 0xA8, 1, 0x0, [⟨0, 2, .ro, 0, .any⟩, ⟨4, 12, .ro, 0, .any⟩], 0⟩,
   ⟨0, 0xAC, 1, 0x0, [⟨0, 7, .ro, 0, .any⟩], 0⟩,
   ⟨0, 0xB0, 1, 0x0, [⟨0, 1, .rw, 0, .any⟩], 0⟩,
   ⟨1, 0x80, 1, 0x0, [⟨0, 1, .ro, 0, .any⟩], 0⟩,
   ⟨1, 0x84, 1, 0x0, [⟨0, 4, .ro, 0, .any⟩], 0⟩,
   ⟨1, 0x88, 1, 0x0, [⟨0, 32, .ro, 0, .any⟩], 0⟩,
   ⟨1, 0x8C, 1, 0x0, [⟨0, 2, .rw, 0, .range 0 2 0⟩], 0⟩,
   ⟨1, 0x90, 1, 0x0, [⟨0, 32, .ro, 0, .any⟩], 0⟩]

/-- Registers of SEC. -/
def regsSec : List RegDef :=
  [⟨0, 0x80, 1, 0x0, [⟨0, 2, .ro, 0, .any⟩, ⟨2, 1, .ro, 0, .any⟩, ⟨3, 1, .ro, 0, .any⟩], 0⟩,
   ⟨0, 0x84, 1, 0x0, [⟨0, 32, .ro, 0, .any⟩], 0⟩,
   ⟨0, 0x88, 1, 0x0, [⟨0, 32, .ro, 0, .any⟩], 0⟩,
   ⟨0, 0x8C, 2, 0x4, [⟨0, 32, .ro, 0, .any⟩], 0⟩,
   ⟨0, 0x94, 1, 0x0, [⟨0, 4, .ro, 0, .any⟩, ⟨8, 4, .ro, 0, .any⟩, ⟨12, 2, .ro, 0, .any⟩], 0⟩,
   ⟨0, 0xA0, 1, 0x0, [⟨0, 4, .rw, 0, .any⟩], 0⟩,
   ⟨0, 0xA4, 8, 0x4, [⟨0, 32, .ro, 0, .any⟩], 0⟩,
   ⟨1, 0x80, 1, 0x0, [⟨12, 20, .rw, 0, .any⟩], 0⟩,
   ⟨1, 0x84, 1, 0x0, [⟨0, 16, .rw, 0, .any⟩], 0⟩,
   ⟨1, 0x88, 1, 0x0, [⟨0, 25, .rw, 0, .any⟩], 0⟩,
   ⟨1, 0x8C, 1, 0x0, [⟨0, 1, .wo, 0, .any⟩, ⟨1, 1, .wo, 0, .any⟩, ⟨2, 1, .wo, 0, .any⟩], 0⟩,
   ⟨1, 0x90, 1, 0x0, [⟨0, 1, .ro, 0, .any⟩, ⟨16, 16, .ro, 0, .any⟩, ⟨1, 3, .ro, 0, .any⟩], 0⟩,
   ⟨2, 0x80, 1, 0x0, [⟨0, 1, .rw, 0, .any⟩, ⟨1, 1, .rw, 0, .any⟩, ⟨31, 1, .wo, 0, .any⟩], 0⟩,
   ⟨2, 0x84, 1, 0x0, [⟨0, 1, .rwl, 0, .any⟩, ⟨8, 24, .rwl, 0, .any⟩], 0⟩]

/-- Registers of EVT. -/
def regsEvt : List RegDef :=
  [⟨0, 0x80, 1, 0x0, [⟨0, 1, .rwl, 0, .any⟩, ⟨15, 17, .rwl, 0, .any⟩], 0⟩,
   ⟨0, 0x84, 1, 0x0, [⟨0, 4, .rw, 0, .any⟩, ⟨4, 4, .rw, 0, .any⟩], 0⟩,
   ⟨0, 0x88, 1, 0x0, [⟨0, 4, .ro, 0, .any⟩, ⟨4, 1, .ro, 0, .any⟩, ⟨5, 1, .ro, 0, .any⟩], 0⟩,
   ⟨0, 0x8C, 1, 0x0, [⟨0, 11, .wo, 0, .any⟩], 0⟩,
   ⟨1, 0x80, 2048, 0x4, [⟨0, 1, .rw, 0, .any⟩, ⟨1, 2, .rw, 0, .range 0 2 0⟩, ⟨3, 4, .rw, 0, .any⟩, ⟨8, 11, .rw, 0, .any⟩, ⟨29, 1, .ro, 0, .any⟩, ⟨30, 1, .ro, 0, .any⟩, ⟨31, 1, .ro, 0, .any⟩], 0⟩,
   ⟨5, 0x80, 64, 0x4, [⟨0, 32, .ro, 0, .any⟩], 0⟩]

/-- Registers of HLT. -/
def regsHlt : List RegDef :=
  [⟨0, 0x80, 1, 0x0, [⟨0, 1, .wo, 0, .any⟩, ⟨1, 1, .wo, 0, .any⟩, ⟨8, 8, .wo, 0, .any⟩], 0⟩,
   ⟨0, 0x84, 1, 0x0, [⟨0, 2, .ro, 0, .any⟩, ⟨16, 16, .ro, 0, .any⟩], 0⟩,
   ⟨0, 0x88, 1, 0x0, [⟨0, 4, .rwl, 4, .range 1 15 4⟩, ⟨16, 16, .rwl, 3600, .range 60 65535 3600⟩], 0⟩,
   ⟨0, 0x8C, 1, 0x0, [⟨0, 4, .ro, 0, .any⟩], 0⟩,
   ⟨0, 0x90, 1, 0x0, [⟨0, 4, .rwl, 2, .range 1 15 2⟩, ⟨8, 8, .rwl, 60, .range 1 255 1⟩], 0⟩,
   ⟨1, 0x80, 1, 0x0, [⟨0, 1, .rwl, 1, .any⟩, ⟨8, 6, .rwl, 30, .range 10 33 30⟩], 0⟩,
   ⟨1, 0x84, 1, 0x0, [⟨0, 5, .ro, 0, .any⟩, ⟨8, 8, .rw1cAll, 0, .any⟩, ⟨16, 16, .ro, 0, .any⟩], 0⟩,
   ⟨1, 0x88, 2, 0x4, [⟨0, 32, .ro, 0, .any⟩], 0⟩,
   ⟨2, 0x80, 1, 0x0, [⟨0, 1, .wo, 0, .any⟩, ⟨1, 1, .rw, 0, .any⟩, ⟨2, 1, .rw, 0, .any⟩, ⟨3, 1, .rw, 0, .any⟩, ⟨4, 1, .wo, 0, .any⟩, ⟨5, 1, .rw, 0, .any⟩], 0⟩,
   ⟨2, 0x84, 1, 0x0, [⟨0, 1, .ro, 0, .any⟩, ⟨1, 1, .ro, 0, .any⟩, ⟨2, 1, .ro, 0, .any⟩, ⟨3, 1, .ro, 0, .any⟩, ⟨8, 8, .rw1cAll, 0, .any⟩, ⟨16, 16, .rw1cAll, 0, .any⟩], 0⟩,
   ⟨2, 0x88, 1, 0x0, [⟨12, 20, .rwl, 0, .any⟩], 0⟩,
   ⟨2, 0x8C, 1, 0x0, [⟨0, 16, .rwl, 0, .any⟩], 0⟩,
   ⟨2, 0x90, 1, 0x0, [⟨0, 24, .rw, 0, .any⟩, ⟨24, 8, .rw, 0, .any⟩], 0⟩,
   ⟨4, 0x80, 1, 0x0, [⟨0, 32, .ro, 0, .any⟩], 0⟩,
   ⟨4, 0x84, 1, 0x0, [⟨0, 32, .rw, 0, .any⟩], 0⟩,
   ⟨4, 0xA0, 8, 0x4, [⟨0, 32, .ro, 0, .any⟩], 0⟩]

/-- Registers of HIF. -/
def regsHif : List RegDef :=
  [⟨0, 0x80, 1, 0x0, [⟨0, 2, .ro, 0, .any⟩, ⟨2, 5, .ro, 0, .any⟩, ⟨7, 1, .ro, 0, .any⟩], 0⟩,
   ⟨0, 0x84, 1, 0x0, [⟨0, 2, .ro, 0, .any⟩, ⟨2, 5, .ro, 0, .any⟩, ⟨7, 1, .ro, 0, .any⟩], 0⟩,
   ⟨0, 0x88, 1, 0x0, [⟨0, 1, .ro, 0, .any⟩], 0⟩,
   ⟨0, 0x8C, 1, 0x0, [⟨0, 32, .rw1cAll, 0, .any⟩], 0⟩,
   ⟨0, 0x90, 1, 0x0, [⟨0, 32, .rw1cAll, 0, .any⟩], 0⟩,
   ⟨2, 0x80, 1, 0x0, [⟨0, 12, .rw, 0, .any⟩], 0⟩,
   ⟨2, 0x84, 1, 0x0, [⟨0, 1, .rw, 0, .any⟩, ⟨1, 1, .rw, 0, .any⟩, ⟨2, 19, .rw, 0, .any⟩, ⟨21, 3, .rw, 0, .any⟩], 0⟩,
   ⟨2, 0x88, 1, 0x0, [⟨0, 32, .rw, 0, .any⟩], 0⟩]

/-- Registers of KQP. -/
def regsKqp : List RegDef :=
  [⟨0, 0x80, 1, 0x0, [⟨0, 12, .rw, 0, .any⟩], 0⟩,
   ⟨0, 0x84, 1, 0x0, [⟨0, 1, .ro, 1, .any⟩, ⟨1, 15, .ro, 1, .any⟩, ⟨16, 1, .ro, 0, .any⟩, ⟨17, 1, .ro, 0, .any⟩, ⟨18, 1, .ro, 0, .any⟩], 0⟩,
   ⟨0, 0x88, 1, 0x0, [⟨0, 8, .rwl, 4, .range 1 255 1⟩], 0⟩,
   ⟨0, 0x8C, 1, 0x0, [⟨0, 7, .rwl, 10, .two 1 1 100 10⟩], 0⟩,
   ⟨1, 0x80, 1, 0x0, [⟨0, 20, .ro, 0, .any⟩, ⟨20, 2, .ro, 0, .any⟩, ⟨24, 4, .ro, 0, .any⟩], 0⟩,
   ⟨1, 0x84, 1, 0x0, [⟨0, 16, .rw1cAll, 0, .any⟩, ⟨16, 16, .rw1cAll, 0, .any⟩], 0⟩,
   ⟨1, 0x100, 16, 0x40, [⟨0, 1, .rw, 0, .any⟩, ⟨1, 3, .rwl, 0, .any⟩, ⟨4, 3, .rwl, 0, .any⟩, ⟨7, 5, .rwl, 6, .range 6 16 6⟩, ⟨12, 2, .rw, 0, .any⟩], 0⟩,
   ⟨1, 0x104, 16, 0x40, [⟨0, 3, .ro, 0, .any⟩, ⟨3, 1, .ro, 0, .any⟩, ⟨4, 1, .ro, 0, .any⟩, ⟨5, 1, .ro, 0, .any⟩, ⟨6, 1, .ro, 0, .any⟩, ⟨16, 6, .ro, 0, .any⟩], 0⟩,
   ⟨1, 0x108, 16, 0x40, [⟨12, 20, .rwl, 0, .any⟩], 0⟩,
   ⟨1, 0x10C, 16, 0x40, [⟨0, 16, .rwl, 0, .any⟩], 0⟩,
   ⟨1, 0x110, 16, 0x40, [⟨12, 20, .rwl, 0, .any⟩], 0⟩,
   ⟨1, 0x114, 16, 0x40, [⟨0, 16, .rwl, 0, .any⟩], 0⟩,
   ⟨1, 0x118, 16, 0x40, [⟨0, 32, .ro, 0, .any⟩], 0⟩,
   ⟨1, 0x11C, 16, 0x40, [⟨0, 32, .ro, 0, .any⟩], 0⟩,
   ⟨1, 0x120, 16, 0x40, [⟨0, 32, .ro, 0, .any⟩], 0⟩,
   ⟨1, 0x124, 16, 0x40, [⟨0, 16, .ro, 0, .any⟩, ⟨16, 16, .ro, 0, .any⟩], 0⟩,
   ⟨1, 0x128, 16, 0x40, [⟨0, 1, .wo, 0, .any⟩, ⟨1, 1, .wo, 0, .any⟩], 0⟩,
   ⟨1, 0x12C, 16, 0x40, [⟨0, 11, .rw, 0, .any⟩], 0⟩,
   ⟨1, 0x130, 16, 0x40, [⟨0, 12, .rw, 0, .any⟩, ⟨12, 8, .rw, 0, .any⟩, ⟨20, 1, .rw, 0, .any⟩], 0⟩,
   ⟨2, 0x80, 1, 0x0, [⟨0, 16, .rw, 0, .any⟩, ⟨16, 3, .rw, 0, .any⟩], 0⟩,
   ⟨2, 0x84, 1, 0x0, [⟨0, 32, .rw, 0, .any⟩], 0⟩,
   ⟨2, 0x88, 1, 0x0, [⟨0, 32, .wo, 0, .any⟩], 0⟩]

/-- Registers of LDG. -/
def regsLdg : List RegDef :=
  [⟨0, 0x80, 1, 0x0, [⟨0, 10, .rwl, 20, .range 5 1000 20⟩, ⟨10, 7, .rwl, 5, .range 1 100 5⟩, ⟨17, 12, .rwl, 600, .range 1 3600 600⟩], 0⟩,
   ⟨0, 0x90, 1, 0x0, [⟨0, 32, .ro, 0, .any⟩], 0⟩,
   ⟨0, 0x94, 1, 0x0, [⟨0, 3, .ro, 0, .any⟩, ⟨3, 1, .ro, 0, .any⟩, ⟨16, 16, .ro, 0, .any⟩], 0⟩,
   ⟨0, 0x98, 2, 0x4, [⟨0, 32, .ro, 0, .any⟩], 0⟩,
   ⟨0, 0xA0, 1, 0x0, [⟨0, 16, .ro, 0, .any⟩], 0⟩,
   ⟨0, 0xA4, 8, 0x4, [⟨0, 32, .ro, 0, .any⟩], 0⟩,
   ⟨0, 0xC4, 1, 0x0, [⟨0, 1, .rw, 0, .any⟩, ⟨16, 16, .rw, 0, .any⟩], 0⟩,
   ⟨0, 0xC8, 2, 0x4, [⟨0, 32, .rw, 0, .any⟩], 0⟩,
   ⟨1, 0x80, 8, 0x40, [⟨0, 12, .rwl, 0, .any⟩, ⟨12, 1, .rwl, 0, .any⟩, ⟨13, 3, .rwl, 0, .any⟩, ⟨16, 16, .rw, 0, .any⟩], 0⟩,
   ⟨1, 0x84, 8, 0x40, [⟨0, 3, .ro, 0, .any⟩, ⟨3, 3, .ro, 0, .any⟩, ⟨6, 1, .ro, 0, .any⟩, ⟨8, 8, .ro, 0, .any⟩, ⟨16, 10, .ro, 0, .any⟩], 0⟩,
   ⟨1, 0x88, 8, 0x40, [⟨0, 32, .ro, 0, .any⟩], 0⟩,
   ⟨1, 0x8C, 8, 0x40, [⟨0, 32, .ro, 0, .any⟩], 0⟩,
   ⟨1, 0x90, 8, 0x40, [⟨0, 32, .ro, 0, .any⟩], 0⟩,
   ⟨1, 0x94, 8, 0x40, [⟨0, 32, .ro, 0, .any⟩], 0⟩,
   ⟨1, 0x98, 8, 0x40, [⟨0, 1, .wo, 0, .any⟩], 0⟩,
   ⟨1, 0x9C, 8, 0x40, [⟨0, 16, .ro, 0, .any⟩, ⟨16, 16, .ro, 65535, .any⟩], 0⟩,
   ⟨1, 0xA0, 8, 0x40, [⟨0, 32, .ro, 4294967295, .any⟩], 0⟩,
   ⟨1, 0xA4, 8, 0x40, [⟨0, 32, .ro, 4294967295, .any⟩], 0⟩,
   ⟨1, 0xA8, 8, 0x40, [⟨0, 1, .ro, 0, .any⟩, ⟨1, 1, .ro, 0, .any⟩], 0⟩,
   ⟨1, 0xAC, 8, 0x40, [⟨0, 8, .rwl, 0, .any⟩, ⟨8, 1, .rwl, 1, .any⟩, ⟨9, 1, .rwl, 0, .any⟩, ⟨10, 2, .ro, 0, .any⟩], 0⟩,
   ⟨1, 0xB0, 8, 0x40, [⟨0, 32, .rw1cAll, 0, .any⟩], 0⟩,
   ⟨1, 0xB4, 8, 0x40, [⟨0, 32, .rw1cAll, 0, .any⟩], 0⟩,
   ⟨1, 0xB8, 8, 0x40, [⟨0, 32, .rw1cAll, 0, .any⟩], 0⟩,
   ⟨2, 0x80, 1, 0x0, [⟨0, 3, .rw, 0, .any⟩, ⟨3, 10, .rw, 0, .any⟩], 0⟩,
   ⟨2, 0x100, 64, 0x4, [⟨0, 32, .ro, 0, .any⟩], 0⟩,
   ⟨3, 0x80, 1, 0x0, [⟨0, 16, .rwl, 65535, .any⟩, ⟨16, 16, .rwl, 65535, .any⟩], 0⟩,
   ⟨3, 0x84, 1, 0x0, [⟨0, 16, .rwl, 65535, .any⟩, ⟨16, 16, .rwl, 65535, .any⟩], 0⟩,
   ⟨3, 0x88, 1, 0x0, [⟨0, 19, .rwl, 0, .any⟩], 0⟩,
   ⟨3, 0x90, 1, 0x0, [⟨12, 20, .rwl, 0, .any⟩], 0⟩,
   ⟨3, 0x94, 1, 0x0, [⟨0, 16, .rwl, 0, .any⟩], 0⟩,
   ⟨3, 0x98, 1, 0x0, [⟨0, 16, .rwl, 0, .any⟩], 0⟩,
   ⟨4, 0x80, 8, 0x10, [⟨0, 2, .rwl, 0, .range 0 2 0⟩, ⟨2, 5, .rwl, 16, .range 1 24 16⟩, ⟨7, 3, .rwl, 1, .any⟩, ⟨16, 16, .rwl, 200, .any⟩], 0⟩,
   ⟨4, 0x84, 8, 0x10, [⟨0, 16, .rwl, 200, .any⟩], 0⟩,
   ⟨4, 0x88, 8, 0x10, [⟨0, 32, .rwl, 0, .any⟩], 0⟩,
   ⟨4, 0x8C, 8, 0x10, [⟨0, 16, .ro, 0, .any⟩, ⟨16, 1, .ro, 0, .any⟩], 0⟩]

/-- Registers of CCR. -/
def regsCcr : List RegDef :=
  [⟨0, 0x80, 1, 0x0, [⟨0, 6, .ro, 0, .any⟩, ⟨6, 3, .ro, 0, .any⟩, ⟨9, 1, .ro, 0, .any⟩], 0⟩,
   ⟨0, 0x84, 1, 0x0, [⟨0, 9, .rwl, 32, .range 8 256 32⟩], 0⟩,
   ⟨0, 0x88, 1, 0x0, [⟨0, 4, .rwl, 2, .range 1 15 1⟩, ⟨8, 8, .rwl, 60, .range 1 255 1⟩], 0⟩,
   ⟨0, 0x8C, 1, 0x0, [⟨0, 8, .ro, 0, .any⟩, ⟨8, 1, .ro, 0, .any⟩, ⟨9, 1, .ro, 0, .any⟩, ⟨16, 7, .ro, 0, .any⟩, ⟨23, 1, .ro, 0, .any⟩, ⟨24, 7, .ro, 0, .any⟩, ⟨31, 1, .ro, 0, .any⟩], 0⟩,
   ⟨1, 0x80, 1, 0x0, [⟨0, 16, .rw1cAll, 0, .any⟩, ⟨16, 16, .rw1cAll, 0, .any⟩], 0⟩,
   ⟨1, 0x84, 1, 0x0, [⟨0, 12, .ro, 0, .any⟩, ⟨16, 8, .ro, 255, .any⟩, ⟨24, 8, .ro, 255, .any⟩], 0⟩,
   ⟨1, 0x88, 1, 0x0, [⟨0, 32, .rw1cAll, 0, .any⟩], 0⟩,
   ⟨1, 0x8C, 1, 0x0, [⟨0, 32, .ro, 0, .any⟩], 0⟩,
   ⟨2, 0x80, 1, 0x0, [⟨0, 16, .rw1cAll, 0, .any⟩, ⟨16, 16, .rw1cAll, 0, .any⟩], 0⟩,
   ⟨2, 0x84, 1, 0x0, [⟨0, 32, .rw1cAll, 0, .any⟩], 0⟩,
   ⟨2, 0x88, 1, 0x0, [⟨0, 32, .rw1cAll, 0, .any⟩], 0⟩,
   ⟨2, 0x8C, 1, 0x0, [⟨0, 20, .ro, 0, .any⟩, ⟨20, 2, .ro, 0, .any⟩, ⟨22, 7, .ro, 0, .any⟩], 0⟩,
   ⟨3, 0x80, 1, 0x0, [⟨0, 32, .ro, 51315199, .any⟩], 0⟩,
   ⟨3, 0x84, 1, 0x0, [⟨0, 16, .ro, 1, .any⟩], 0⟩,
   ⟨3, 0x88, 1, 0x0, [⟨0, 32, .rw1cAll, 0, .any⟩], 0⟩]

/-- Registers of MKT. -/
def regsMkt : List RegDef :=
  [⟨0, 0x80, 1, 0x0, [⟨0, 12, .rwl, 512, .range 256 2048 512⟩, ⟨16, 12, .ro, 512, .any⟩], 0⟩,
   ⟨0, 0x90, 9, 0x4, [⟨0, 15, .rwl, 0, .any⟩, ⟨16, 15, .ro, 0, .any⟩], 0⟩,
   ⟨1, 0x80, 1, 0x0, [⟨0, 12, .rw, 0, .any⟩], 0⟩,
   ⟨1, 0x84, 1, 0x0, [⟨0, 14, .ro, 0, .any⟩, ⟨16, 2, .ro, 0, .any⟩, ⟨18, 4, .ro, 0, .any⟩, ⟨22, 3, .ro, 0, .any⟩, ⟨25, 2, .ro, 0, .any⟩, ⟨27, 1, .ro, 0, .any⟩, ⟨31, 1, .ro, 0, .any⟩], 0⟩,
   ⟨1, 0x88, 1, 0x0, [⟨0, 15, .ro, 0, .any⟩], 0⟩,
   ⟨2, 0x80, 1, 0x0, [⟨0, 8, .rwl, 10, .range 1 255 1⟩], 0⟩,
   ⟨2, 0x84, 1, 0x0, [⟨0, 32, .rw1cAll, 0, .any⟩], 0⟩,
   ⟨2, 0x88, 1, 0x0, [⟨0, 32, .rw1cAll, 0, .any⟩], 0⟩,
   ⟨2, 0x8C, 1, 0x0, [⟨0, 32, .ro, 0, .any⟩], 0⟩,
   ⟨2, 0x90, 1, 0x0, [⟨0, 24, .ro, 0, .any⟩, ⟨24, 2, .ro, 0, .any⟩], 0⟩,
   ⟨2, 0x94, 1, 0x0, [⟨0, 16, .rwl, 64, .range 1 65535 1⟩], 0⟩,
   ⟨3, 0x80, 1, 0x0, [⟨0, 10, .rw, 0, .any⟩], 0⟩,
   ⟨3, 0x84, 1, 0x0, [⟨0, 11, .ro, 0, .any⟩, ⟨12, 2, .ro, 0, .any⟩], 0⟩,
   ⟨3, 0x88, 1, 0x0, [⟨0, 7, .ro, 64, .any⟩], 0⟩]

/-- Registers of ENG. -/
def regsEng : List RegDef :=
  [⟨0, 0x80, 1, 0x0, [⟨0, 5, .ro, 0, .any⟩, ⟨5, 3, .ro, 0, .any⟩], 0⟩,
   ⟨0, 0x84, 1, 0x0, [⟨0, 12, .ro, 0, .any⟩, ⟨12, 12, .ro, 0, .any⟩], 0⟩,
   ⟨1, 0x80, 1, 0x0, [⟨0, 32, .ro, 0, .any⟩], 0⟩,
   ⟨1, 0x84, 1, 0x0, [⟨0, 32, .rw1cAll, 0, .any⟩], 0⟩,
   ⟨1, 0x88, 1, 0x0, [⟨0, 20, .ro, 0, .any⟩, ⟨20, 12, .ro, 0, .any⟩], 0⟩,
   ⟨2, 0x80, 2, 0x4, [⟨0, 32, .rw1cAll, 0, .any⟩], 0⟩]

/-- Registers of HBM. -/
def regsHbm : List RegDef :=
  [⟨0, 0x80, 1, 0x0, [⟨0, 2, .ro, 0, .any⟩, ⟨2, 1, .ro, 0, .any⟩], 0⟩,
   ⟨0, 0x84, 1, 0x0, [⟨0, 8, .rwl, 24, .range 1 168 24⟩], 0⟩,
   ⟨0, 0x88, 1, 0x0, [⟨0, 32, .rw1cAll, 0, .any⟩], 0⟩,
   ⟨0, 0x8C, 1, 0x0, [⟨0, 32, .rw1cAll, 0, .any⟩], 0⟩,
   ⟨0, 0x90, 1, 0x0, [⟨0, 31, .ro, 0, .any⟩, ⟨31, 1, .ro, 0, .any⟩], 0⟩,
   ⟨0, 0x94, 1, 0x0, [⟨0, 32, .ro, 0, .any⟩], 0⟩]

/-- Registers of ACR. -/
def regsAcr : List RegDef :=
  [⟨0, 0x80, 1, 0x0, [⟨0, 8, .rwl, 16, .range 1 255 1⟩, ⟨8, 8, .rwl, 10, .range 1 255 1⟩], 0⟩,
   ⟨0, 0x84, 1, 0x0, [⟨0, 2, .ro, 0, .any⟩, ⟨2, 1, .ro, 0, .any⟩], 0⟩,
   ⟨0, 0x88, 1, 0x0, [⟨0, 32, .ro, 0, .any⟩], 0⟩,
   ⟨0, 0x8C, 1, 0x0, [⟨0, 32, .ro, 0, .any⟩], 0⟩,
   ⟨0, 0x90, 1, 0x0, [⟨0, 32, .rw1cAll, 0, .any⟩], 0⟩,
   ⟨1, 0x80, 8, 0x20, [⟨0, 16, .rw, 100, .any⟩], 0⟩,
   ⟨1, 0x84, 8, 0x20, [⟨0, 32, .rw, 796917760, .any⟩], 0⟩,
   ⟨1, 0x88, 8, 0x20, [⟨0, 1, .rwl, 0, .any⟩], 0⟩,
   ⟨1, 0x8C, 8, 0x20, [⟨0, 32, .rw1cAll, 0, .any⟩], 0⟩,
   ⟨1, 0x90, 8, 0x20, [⟨0, 32, .rw1cAll, 0, .any⟩], 0⟩,
   ⟨1, 0x94, 8, 0x20, [⟨0, 12, .ro, 0, .any⟩, ⟨31, 1, .ro, 0, .any⟩], 0⟩,
   ⟨1, 0x98, 8, 0x20, [⟨0, 32, .ro, 0, .any⟩], 0⟩,
   ⟨1, 0x9C, 8, 0x20, [⟨0, 32, .rw, 0, .any⟩], 0⟩,
   ⟨2, 0x80, 1, 0x0, [⟨0, 3, .rw, 0, .any⟩, ⟨3, 12, .rw, 0, .any⟩, ⟨15, 1, .rw, 0, .any⟩], 0⟩,
   ⟨2, 0x84, 12, 0x4, [⟨0, 32, .ro, 0, .any⟩], 0⟩,
   ⟨2, 0xC0, 8, 0x4, [⟨0, 32, .ro, 0, .any⟩], 0⟩,
   ⟨3, 0x80, 1, 0x0, [⟨0, 32, .ro, 0, .any⟩], 0⟩,
   ⟨3, 0x84, 1, 0x0, [⟨0, 32, .ro, 0, .any⟩], 0⟩,
   ⟨3, 0x88, 1, 0x0, [⟨0, 12, .ro, 0, .any⟩, ⟨12, 3, .ro, 0, .any⟩], 0⟩,
   ⟨3, 0x90, 5, 0x8, [⟨0, 32, .ro, 0, .any⟩], 0⟩,
   ⟨3, 0x94, 5, 0x8, [⟨0, 32, .ro, 0, .any⟩], 0⟩,
   ⟨3, 0xC0, 1, 0x0, [⟨0, 32, .rw, 0, .any⟩], 0⟩,
   ⟨3, 0xC4, 1, 0x0, [⟨0, 32, .rw, 0, .any⟩], 0⟩,
   ⟨3, 0xC8, 1, 0x0, [⟨0, 32, .rw, 0, .any⟩], 0⟩,
   ⟨3, 0xCC, 1, 0x0, [⟨0, 32, .rw, 0, .any⟩], 0⟩]

/-- Registers of TIR. -/
def regsTir : List RegDef :=
  [⟨0, 0x80, 1, 0x0, [⟨0, 11, .rwl, 64, .range 1 1024 64⟩, ⟨11, 3, .rwl, 2, .any⟩, ⟨14, 4, .rwl, 4, .any⟩], 0⟩,
   ⟨0, 0x90, 9, 0x8, [⟨0, 19, .rwl, 0, .any⟩], 0⟩,
   ⟨0, 0x94, 9, 0x8, [⟨0, 19, .ro, 0, .any⟩], 0⟩,
   ⟨0, 0xE0, 9, 0x8, [⟨0, 27, .rwl, 0, .any⟩], 0⟩,
   ⟨0, 0xE4, 9, 0x8, [⟨0, 27, .ro, 0, .any⟩], 0⟩,
   ⟨0, 0x130, 1, 0x0, [⟨0, 19, .ro, 0, .any⟩], 0⟩,
   ⟨0, 0x134, 1, 0x0, [⟨0, 23, .ro, 0, .any⟩], 0⟩,
   ⟨1, 0x80, 1, 0x0, [⟨0, 4, .rw, 0, .any⟩, ⟨4, 2, .rw, 0, .any⟩, ⟨6, 2, .rw, 0, .any⟩, ⟨8, 3, .rw, 7, .any⟩, ⟨12, 3, .rw, 0, .any⟩, ⟨16, 16, .rw, 0, .any⟩], 0⟩,
   ⟨1, 0x84, 1, 0x0, [⟨0, 32, .rw, 0, .any⟩], 0⟩,
   ⟨1, 0x88, 1, 0x0, [⟨0, 32, .rw, 0, .any⟩], 0⟩,
   ⟨1, 0x8C, 1, 0x0, [⟨0, 3, .rw, 0, .any⟩], 0⟩,
   ⟨1, 0x90, 1, 0x0, [⟨0, 32, .rw, 0, .any⟩], 0⟩,
   ⟨1, 0x94, 1, 0x0, [⟨0, 16, .rw, 0, .any⟩], 0⟩,
   ⟨1, 0xA0, 1, 0x0, [⟨0, 1, .wo, 0, .any⟩], 0⟩,
   ⟨1, 0xA4, 1, 0x0, [⟨0, 16, .ro, 0, .any⟩, ⟨16, 1, .ro, 0, .any⟩], 0⟩,
   ⟨1, 0xC0, 8, 0x4, [⟨0, 32, .ro, 0, .any⟩], 0⟩,
   ⟨2, 0x80, 1, 0x0, [⟨0, 32, .ro, 0, .any⟩], 0⟩,
   ⟨2, 0x84, 1, 0x0, [⟨0, 32, .ro, 0, .any⟩], 0⟩,
   ⟨2, 0x88, 1, 0x0, [⟨0, 32, .ro, 0, .any⟩], 0⟩,
   ⟨2, 0x8C, 1, 0x0, [⟨0, 32, .ro, 0, .any⟩], 0⟩,
   ⟨2, 0x90, 1, 0x0, [⟨0, 9, .ro, 0, .any⟩], 0⟩,
   ⟨2, 0x94, 1, 0x0, [⟨0, 32, .rw1cAll, 0, .any⟩], 0⟩,
   ⟨2, 0x98, 1, 0x0, [⟨0, 16, .ro, 0, .any⟩], 0⟩,
   ⟨3, 0x80, 1, 0x0, [⟨0, 8, .rw, 0, .any⟩], 0⟩,
   ⟨3, 0x84, 1, 0x0, [⟨0, 16, .rwl, 0, .any⟩, ⟨16, 16, .rwl, 0, .any⟩], 0⟩,
   ⟨3, 0x88, 1, 0x0, [⟨0, 3, .ro, 0, .any⟩, ⟨3, 3, .ro, 0, .any⟩, ⟨6, 1, .ro, 0, .any⟩, ⟨7, 1, .ro, 0, .any⟩], 0⟩,
   ⟨3, 0x8C, 1, 0x0, [⟨0, 16, .ro, 0, .any⟩, ⟨16, 16, .ro, 0, .any⟩], 0⟩,
   ⟨3, 0x90, 1, 0x0, [⟨0, 32, .ro, 0, .any⟩], 0⟩,
   ⟨3, 0x94, 2, 0x4, [⟨0, 32, .ro, 0, .any⟩], 0⟩,
   ⟨3, 0x9C, 1, 0x0, [⟨0, 8, .rw, 0, .any⟩], 0⟩,
   ⟨3, 0xA0, 1, 0x0, [⟨0, 32, .ro, 0, .any⟩], 0⟩,
   ⟨3, 0xA4, 1, 0x0, [⟨0, 32, .rw1cAll, 0, .any⟩], 0⟩]

/-- Registers of SIX. -/
def regsSix : List RegDef :=
  [⟨0, 0x80, 8, 0x4, [⟨0, 17, .rwl, 4096, .range 0 65536 4096⟩], 0⟩,
   ⟨0, 0xA0, 1, 0x0, [⟨0, 21, .ro, 1048576, .any⟩], 0⟩,
   ⟨0, 0xA4, 1, 0x0, [⟨0, 21, .rw1cAll, 0, .any⟩], 0⟩,
   ⟨0, 0xA8, 1, 0x0, [⟨12, 20, .rwl, 0, .any⟩], 0⟩,
   ⟨0, 0xAC, 1, 0x0, [⟨0, 16, .rwl, 0, .any⟩], 0⟩,
   ⟨0, 0xB0, 1, 0x0, [⟨0, 5, .rwl, 10, .range 10 22 10⟩, ⟨5, 1, .rwl, 0, .any⟩], 0⟩,
   ⟨0, 0xB4, 1, 0x0, [⟨0, 23, .ro, 0, .any⟩], 0⟩,
   ⟨0, 0xB8, 1, 0x0, [⟨0, 32, .rw1cAll, 0, .any⟩], 0⟩,
   ⟨0, 0xC0, 1, 0x0, [⟨0, 32, .rw, 0, .any⟩], 0⟩,
   ⟨0, 0xC4, 8, 0x4, [⟨0, 32, .ro, 0, .any⟩], 0⟩]

/-- Registers of FAB. -/
def regsFab : List RegDef :=
  [⟨0, 0x80, 1, 0x0, [⟨0, 1, .rw, 1, .any⟩, ⟨1, 1, .rwl, 0, .any⟩, ⟨2, 3, .rwl, 7, .any⟩, ⟨5, 8, .rwl, 20, .range 1 255 1⟩, ⟨13, 14, .rwl, 9216, .range 1522 9216 9216⟩, ⟨27, 1, .rwl, 0, .any⟩], 0⟩,
   ⟨0, 0x84, 1, 0x0, [⟨0, 1, .wo, 0, .any⟩, ⟨1, 1, .wo, 0, .any⟩], 0⟩,
   ⟨0, 0x88, 1, 0x0, [⟨0, 3, .ro, 0, .any⟩, ⟨3, 2, .ro, 0, .any⟩, ⟨5, 4, .ro, 0, .any⟩, ⟨9, 4, .ro, 0, .any⟩, ⟨13, 4, .ro, 0, .any⟩], 0⟩,
   ⟨0, 0x8C, 1, 0x0, [⟨0, 4, .rwl, 5, .range 3 8 5⟩], 0⟩,
   ⟨0, 0x90, 1, 0x0, [⟨0, 12, .rwl, 0, .range 0 4094 0⟩], 0⟩,
   ⟨1, 0x80, 8, 0x4, [⟨0, 3, .rw, 0, .any⟩, ⟨3, 6, .rw, 0, .any⟩], 65⟩,
   ⟨1, 0xA0, 1, 0x0, [⟨0, 32, .rw, 269488144, .bytesNonzero⟩], 0⟩,
   ⟨1, 0xA4, 1, 0x0, [⟨0, 6, .rw, 2, .range 0 50 2⟩], 0⟩,
   ⟨1, 0xA8, 1, 0x0, [⟨0, 8, .rwl, 0, .any⟩, ⟨8, 3, .rwl, 3, .any⟩, ⟨11, 3, .rwl, 1, .xon⟩], 0⟩,
   ⟨1, 0xAC, 1, 0x0, [⟨0, 14, .rwl, 100, .range 1 10000 100⟩, ⟨14, 13, .rwl, 100, .range 1 6000 100⟩], 0⟩,
   ⟨1, 0xB0, 1, 0x0, [⟨0, 8, .ro, 0, .any⟩, ⟨8, 8, .ro, 0, .any⟩], 0⟩,
   ⟨1, 0xB4, 1, 0x0, [⟨0, 32, .rw1cAll, 0, .any⟩], 0⟩,
   ⟨2, 0x80, 1, 0x0, [⟨0, 16, .rwl, 0, .any⟩, ⟨16, 16, .rwl, 0, .any⟩], 0⟩,
   ⟨2, 0x84, 1, 0x0, [⟨0, 16, .rw, 0, .any⟩], 0⟩,
   ⟨2, 0x88, 1, 0x0, [⟨0, 4, .ro, 0, .any⟩, ⟨8, 8, .ro, 0, .any⟩, ⟨16, 16, .ro, 0, .any⟩], 0⟩,
   ⟨2, 0x8C, 1, 0x0, [⟨0, 32, .ro, 0, .any⟩], 0⟩,
   ⟨2, 0x90, 1, 0x0, [⟨0, 32, .ro, 0, .any⟩], 0⟩,
   ⟨2, 0x94, 1, 0x0, [⟨0, 1, .ro, 0, .any⟩, ⟨1, 1, .ro, 0, .any⟩], 0⟩,
   ⟨3, 0x80, 1, 0x0, [⟨0, 12, .rwl, 1, .range 1 4095 1⟩, ⟨12, 1, .rwl, 0, .any⟩, ⟨13, 1, .rw, 1, .any⟩], 0⟩,
   ⟨3, 0x84, 1, 0x0, [⟨0, 24, .ro, 0, .any⟩], 0⟩,
   ⟨3, 0x88, 1, 0x0, [⟨0, 16, .ro, 0, .any⟩, ⟨16, 1, .ro, 0, .any⟩, ⟨17, 1, .ro, 0, .any⟩], 0⟩,
   ⟨3, 0xC0, 16, 0x4, [⟨0, 32, .ro, 0, .any⟩], 0⟩,
   ⟨4, 0x80, 1, 0x0, [⟨0, 32, .ro, 0, .any⟩], 0⟩,
   ⟨4, 0x84, 1, 0x0, [⟨0, 32, .ro, 0, .any⟩], 0⟩,
   ⟨4, 0x88, 1, 0x0, [⟨0, 32, .rw1cAll, 0, .any⟩], 0⟩,
   ⟨4, 0x8C, 1, 0x0, [⟨0, 32, .rw1cAll, 0, .any⟩], 0⟩,
   ⟨4, 0x90, 1, 0x0, [⟨0, 32, .rw1cAll, 0, .any⟩], 0⟩,
   ⟨4, 0x94, 1, 0x0, [⟨0, 32, .rw1cAll, 0, .any⟩], 0⟩,
   ⟨4, 0x98, 1, 0x0, [⟨0, 32, .rw1cAll, 0, .any⟩], 0⟩,
   ⟨4, 0x9C, 1, 0x0, [⟨0, 32, .rw1cAll, 0, .any⟩], 0⟩,
   ⟨4, 0xA0, 1, 0x0, [⟨0, 32, .rw1cAll, 0, .any⟩], 0⟩,
   ⟨4, 0xA4, 1, 0x0, [⟨0, 32, .rw1cAll, 0, .any⟩], 0⟩,
   ⟨4, 0xA8, 1, 0x0, [⟨0, 32, .rw1cAll, 0, .any⟩], 0⟩,
   ⟨4, 0xC0, 1, 0x0, [⟨0, 5, .rwl, 0, .range 0 23 0⟩], 0⟩,
   ⟨4, 0xC4, 2, 0x4, [⟨0, 32, .woKept, 0, .any⟩], 0⟩,
   ⟨4, 0xCC, 1, 0x0, [⟨0, 32, .rw1cAll, 0, .any⟩], 0⟩]

/-- Registers of TBN. -/
def regsTbn : List RegDef :=
  [⟨0, 0x80, 1, 0x0, [⟨0, 16, .rwl, 47210, .any⟩, ⟨16, 4, .rwl, 7, .range 1 15 7⟩, ⟨20, 2, .rwl, 2, .any⟩, ⟨24, 4, .ro, 1, .any⟩], 0⟩,
   ⟨0, 0x84, 1, 0x0, [⟨0, 8, .rwl, 16, .range 1 255 1⟩, ⟨8, 8, .rwl, 40, .range 1 255 1⟩, ⟨16, 8, .rwl, 8, .range 1 255 1⟩, ⟨24, 8, .rwl, 10, .any⟩], 0⟩,
   ⟨0, 0x88, 1, 0x0, [⟨0, 3, .rwl, 3, .range 1 7 3⟩, ⟨3, 8, .rwl, 20, .any⟩, ⟨11, 8, .rwl, 40, .range 1 255 1⟩, ⟨19, 7, .rwl, 5, .range 1 100 5⟩, ⟨26, 4, .rwl, 5, .any⟩, ⟨30, 1, .rwl, 1, .any⟩], 0⟩,
   ⟨0, 0x8C, 1, 0x0, [⟨0, 10, .rwl, 1, .range 1 1023 1⟩, ⟨16, 10, .rwl, 50, .any⟩], 0⟩,
   ⟨0, 0x90, 1, 0x0, [⟨0, 8, .rwl, 10, .range 1 255 1⟩], 0⟩,
   ⟨0, 0xA0, 1, 0x0, [⟨0, 32, .ro, 0, .any⟩], 0⟩,
   ⟨0, 0xA4, 2, 0x4, [⟨0, 32, .ro, 0, .any⟩], 0⟩,
   ⟨0, 0xAC, 1, 0x0, [⟨0, 24, .rw, 0, .any⟩], 0⟩,
   ⟨1, 0x80, 1, 0x0, [⟨0, 32, .ro, 0, .any⟩], 0⟩,
   ⟨1, 0x84, 2, 0x4, [⟨0, 32, .ro, 0, .any⟩], 0⟩,
   ⟨1, 0x8C, 1, 0x0, [⟨0, 32, .ro, 0, .any⟩], 0⟩,
   ⟨1, 0x90, 1, 0x0, [⟨0, 32, .rw, 0, .any⟩], 0⟩,
   ⟨2, 0x80, 1, 0x0, [⟨0, 2, .rw, 0, .any⟩], 0⟩,
   ⟨2, 0x84, 1, 0x0, [⟨0, 1, .rwl, 0, .any⟩, ⟨1, 1, .rwl, 0, .any⟩, ⟨8, 7, .rwl, 0, .any⟩], 0⟩,
   ⟨2, 0x90, 4, 0x4, [⟨0, 32, .rwl, 0, .any⟩], 0⟩,
   ⟨2, 0xA0, 4, 0x4, [⟨0, 32, .rwl, 0, .any⟩], 0⟩,
   ⟨3, 0x80, 1, 0x0, [⟨0, 32, .ro, 0, .any⟩], 0⟩,
   ⟨3, 0x84, 1, 0x0, [⟨0, 32, .ro, 0, .any⟩], 0⟩,
   ⟨3, 0x88, 1, 0x0, [⟨0, 32, .rw1cAll, 0, .any⟩], 0⟩,
   ⟨3, 0x8C, 1, 0x0, [⟨0, 32, .rw1cAll, 0, .any⟩], 0⟩,
   ⟨3, 0x90, 1, 0x0, [⟨0, 32, .rw1cAll, 0, .any⟩], 0⟩,
   ⟨3, 0x94, 1, 0x0, [⟨0, 32, .rw1cAll, 0, .any⟩], 0⟩,
   ⟨3, 0x98, 1, 0x0, [⟨0, 32, .rw1cAll, 0, .any⟩], 0⟩,
   ⟨3, 0x9C, 1, 0x0, [⟨0, 32, .rw1cAll, 0, .any⟩], 0⟩,
   ⟨3, 0xA0, 1, 0x0, [⟨0, 32, .rw1cAll, 0, .any⟩], 0⟩,
   ⟨3, 0xA4, 1, 0x0, [⟨0, 32, .rw1cAll, 0, .any⟩], 0⟩,
   ⟨3, 0xA8, 1, 0x0, [⟨0, 32, .rw1cAll, 0, .any⟩], 0⟩,
   ⟨3, 0xAC, 1, 0x0, [⟨0, 32, .rw1cAll, 0, .any⟩], 0⟩,
   ⟨3, 0xB0, 1, 0x0, [⟨0, 15, .ro, 0, .any⟩], 0⟩,
   ⟨4, 0x80, 1, 0x0, [⟨0, 24, .rw, 0, .any⟩], 0⟩,
   ⟨4, 0x84, 2, 0x4, [⟨0, 32, .ro, 0, .any⟩], 0⟩,
   ⟨4, 0x8C, 1, 0x0, [⟨0, 4, .ro, 0, .any⟩, ⟨4, 8, .ro, 0, .any⟩, ⟨12, 8, .ro, 0, .any⟩, ⟨20, 12, .ro, 0, .any⟩], 0⟩,
   ⟨4, 0x90, 1, 0x0, [⟨0, 16, .ro, 0, .any⟩], 0⟩]

/-- Registers of COL. -/
def regsCol : List RegDef :=
  [⟨0, 0x80, 1, 0x0, [⟨0, 16, .rwl, 0, .any⟩, ⟨16, 1, .rwl, 0, .any⟩, ⟨17, 1, .rwl, 0, .any⟩], 0⟩,
   ⟨0, 0x84, 1, 0x0, [⟨0, 8, .rwl, 10, .range 1 100 10⟩, ⟨8, 8, .rwl, 5, .range 2 255 5⟩, ⟨16, 10, .rwl, 20, .hbRemove⟩], 0⟩,
   ⟨0, 0x88, 1, 0x0, [⟨0, 32, .ro, 0, .any⟩], 0⟩,
   ⟨0, 0x8C, 1, 0x0, [⟨0, 2, .ro, 0, .any⟩, ⟨2, 11, .ro, 0, .any⟩], 0⟩,
   ⟨0, 0x90, 2, 0x4, [⟨0, 32, .ro, 0, .any⟩], 0⟩,
   ⟨0, 0x98, 1, 0x0, [⟨0, 11, .rwl, 16, .range 1 1024 16⟩, ⟨11, 7, .rwl, 64, .range 1 64 64⟩], 0⟩,
   ⟨0, 0xA0, 2, 0x4, [⟨0, 32, .woKept, 0, .any⟩], 0⟩,
   ⟨0, 0xA8, 1, 0x0, [⟨0, 1, .wo, 0, .any⟩, ⟨1, 1, .wo, 0, .any⟩], 0⟩,
   ⟨0, 0xC0, 1, 0x0, [⟨0, 32, .ro, 0, .any⟩], 0⟩,
   ⟨0, 0xC4, 1, 0x0, [⟨0, 2, .ro, 0, .any⟩], 0⟩,
   ⟨0, 0xC8, 2, 0x4, [⟨0, 32, .ro, 0, .any⟩], 0⟩,
   ⟨0, 0xD0, 1, 0x0, [⟨0, 2, .rw, 0, .any⟩], 0⟩,
   ⟨0, 0xD4, 2, 0x4, [⟨0, 32, .rw, 0, .any⟩], 0⟩,
   ⟨1, 0x80, 1, 0x0, [⟨0, 10, .rw, 0, .any⟩], 0⟩,
   ⟨1, 0x84, 6, 0x4, [⟨0, 32, .ro, 0, .any⟩], 0⟩,
   ⟨1, 0x400, 16, 0x20, [⟨0, 1, .rw, 0, .any⟩, ⟨1, 1, .rw, 0, .any⟩], 0⟩,
   ⟨1, 0x410, 16, 0x20, [⟨0, 32, .rw, 0, .any⟩], 0⟩,
   ⟨1, 0x414, 16, 0x20, [⟨0, 32, .rw, 0, .any⟩], 0⟩,
   ⟨1, 0x418, 16, 0x20, [⟨0, 32, .rw, 0, .any⟩], 0⟩,
   ⟨1, 0x41C, 16, 0x20, [⟨0, 32, .rw, 0, .any⟩], 0⟩,
   ⟨2, 0x80, 1, 0x0, [⟨0, 12, .rw, 0, .any⟩], 0⟩,
   ⟨2, 0x84, 1, 0x0, [⟨0, 1, .ro, 0, .any⟩, ⟨1, 4, .rwl, 0, .any⟩, ⟨5, 3, .rw, 0, .any⟩, ⟨8, 8, .rw, 0, .any⟩, ⟨16, 8, .ro, 0, .any⟩, ⟨24, 1, .rw, 0, .any⟩], 0⟩,
   ⟨2, 0x88, 1, 0x0, [⟨0, 8, .ro, 0, .any⟩], 0⟩,
   ⟨2, 0x8C, 1, 0x0, [⟨0, 32, .ro, 0, .any⟩], 0⟩,
   ⟨2, 0x100, 64, 0x4, [⟨0, 32, .rw, 0, .any⟩], 0⟩,
   ⟨2, 0x800, 512, 0x4, [⟨0, 32, .rw, 0, .any⟩], 0⟩,
   ⟨3, 0x80, 8, 0x4, [⟨0, 16, .ro, 0, .any⟩], 0⟩,
   ⟨3, 0xA0, 1, 0x0, [⟨0, 14, .rw, 0, .any⟩], 0⟩,
   ⟨3, 0xA4, 4, 0x4, [⟨0, 32, .ro, 0, .any⟩], 0⟩,
   ⟨3, 0xC0, 1, 0x0, [⟨0, 32, .rw1cAll, 0, .any⟩], 0⟩,
   ⟨3, 0xC4, 1, 0x0, [⟨0, 32, .rw1cAll, 0, .any⟩], 0⟩,
   ⟨3, 0xC8, 1, 0x0, [⟨0, 32, .rw1cAll, 0, .any⟩], 0⟩,
   ⟨3, 0xCC, 1, 0x0, [⟨0, 32, .rw1cAll, 0, .any⟩], 0⟩,
   ⟨3, 0xD0, 1, 0x0, [⟨0, 32, .rw1cAll, 0, .any⟩], 0⟩]

/-- Registers of RNG. -/
def regsRng : List RegDef :=
  [⟨0, 0x80, 8, 0x20, [⟨0, 32, .woKept, 0, .any⟩], 0⟩,
   ⟨0, 0x84, 8, 0x20, [⟨0, 32, .woKept, 0, .any⟩], 0⟩,
   ⟨0, 0x88, 8, 0x20, [⟨0, 32, .woKept, 0, .any⟩], 0⟩,
   ⟨0, 0x8C, 8, 0x20, [⟨0, 32, .woKept, 0, .any⟩], 0⟩,
   ⟨0, 0x90, 8, 0x20, [⟨0, 32, .ro, 0, .any⟩], 0⟩,
   ⟨0, 0x94, 8, 0x20, [⟨0, 32, .ro, 0, .any⟩], 0⟩]

/-- The registers of a block. -/
def Block.regs : Block → List RegDef
  | .glb => regsGlb
  | .tim => regsTim
  | .pwr => regsPwr
  | .spr => regsSpr
  | .sec => regsSec
  | .evt => regsEvt
  | .hlt => regsHlt
  | .hif => regsHif
  | .kqp => regsKqp
  | .ldg => regsLdg
  | .ccr => regsCcr
  | .mkt => regsMkt
  | .eng => regsEng
  | .hbm => regsHbm
  | .acr => regsAcr
  | .tir => regsTir
  | .six => regsSix
  | .fab => regsFab
  | .tbn => regsTbn
  | .col => regsCol
  | .rng => regsRng

end Sys2Proof.Machine
end

