-- ==== Sys2Proof/Machine/RegFields.lean ====
section
/-! DEFINITION. The fields of the register tables by name: PF BAR0 byte address, low bit and width. Generated names follow the
spec's register and field names; `i` is the instance and `j` the index within a register array. -/

namespace Sys2Proof.Machine

/-- A field of a register: the register's storage key, the field's low bit and its width. -/
structure Fld where
  addr : Nat
  lo : Nat
  w : Nat
  deriving DecidableEq, Repr

end Sys2Proof.Machine

namespace Sys2Proof.Machine.F

def glbBadAccessCnt_count : Fld := ⟨0x80, 0, 32⟩
def glbBadAccessAddr_offset : Fld := ⟨0x84, 0, 26⟩
def glbBadAccessAddr_kind : Fld := ⟨0x84, 26, 2⟩
def glbBadAccessAddr_func : Fld := ⟨0x84, 28, 4⟩
def glbSrCfg_srMinChain : Fld := ⟨0x90, 0, 17⟩
def glbPart_enable (j : Nat) : Fld := ⟨0x1080 + 0x20 * j, 0, 1⟩
def glbPart_func (j : Nat) : Fld := ⟨0x1080 + 0x20 * j, 1, 4⟩
def glbPart_coreFirst (j : Nat) : Fld := ⟨0x1080 + 0x20 * j, 5, 6⟩
def glbPart_coreCount (j : Nat) : Fld := ⟨0x1080 + 0x20 * j, 11, 7⟩
def glbPartSem_semLimit (j : Nat) : Fld := ⟨0x1084 + 0x20 * j, 0, 17⟩
def glbPartBulk_bulkQ (j : Nat) : Fld := ⟨0x1088 + 0x20 * j, 0, 3⟩
def timCfg_role : Fld := ⟨0x4080, 0, 2⟩
def timCfg_mech : Fld := ⟨0x4080, 2, 1⟩
def timCfg_domain : Fld := ⟨0x4080, 3, 8⟩
def timCfg_logSync : Fld := ⟨0x4080, 11, 4⟩
def timCtrl_step : Fld := ⟨0x4084, 0, 1⟩
def timState_state : Fld := ⟨0x4088, 0, 3⟩
def timState_port : Fld := ⟨0x4088, 3, 5⟩
def timOffsetLim_limit : Fld := ⟨0x408C, 0, 14⟩
def timNowLo_now : Fld := ⟨0x4090, 0, 32⟩
def timNowHi_now : Fld := ⟨0x4094, 0, 32⟩
def timOffset_offset : Fld := ⟨0x4098, 0, 32⟩
def timUncertainty_uncertainty : Fld := ⟨0x409C, 0, 32⟩
def timAsymAllow_allow : Fld := ⟨0x40A0, 0, 16⟩
def pwrCap_cap : Fld := ⟨0x8080, 0, 7⟩
def pwrCtrl_req : Fld := ⟨0x8084, 0, 2⟩
def pwrCtrl_key : Fld := ⟨0x8084, 8, 8⟩
def pwrState_state : Fld := ⟨0x8088, 0, 3⟩
def pwrState_limited : Fld := ⟨0x8088, 3, 1⟩
def pwrState_duty : Fld := ⟨0x8088, 4, 7⟩
def pwrState_issue : Fld := ⟨0x8088, 11, 4⟩
def pwrState_power : Fld := ⟨0x8088, 16, 10⟩
def pwrTemp_max : Fld := ⟨0x808C, 0, 8⟩
def pwrTemp_sensor : Fld := ⟨0x808C, 8, 5⟩
def pwrTemp_thermalCap : Fld := ⟨0x808C, 16, 8⟩
def pwrLastOff_cause : Fld := ⟨0x8090, 0, 2⟩
def sprMapSel_type : Fld := ⟨0xC080, 0, 4⟩
def sprMapSel_logical : Fld := ⟨0xC080, 4, 8⟩
def sprMap_phys : Fld := ⟨0xC084, 0, 8⟩
def sprMap_valid : Fld := ⟨0xC084, 8, 1⟩
def sprMap_subst : Fld := ⟨0xC084, 9, 1⟩
def sprFree_free (j : Nat) : Fld := ⟨0xC088 + 0x4 * j, 0, 32⟩
def sprAssistOp_op : Fld := ⟨0xC0A0, 0, 32⟩
def sprAssistUnit_unit : Fld := ⟨0xC0A4, 0, 32⟩
def sprAssistKind_kind : Fld := ⟨0xC0A8, 0, 2⟩
def sprAssistKind_detail : Fld := ⟨0xC0A8, 4, 12⟩
def sprAssistCnt : Fld := ⟨0xC0AC, 0, 7⟩
def sprAssistDec_dec : Fld := ⟨0xC0B0, 0, 1⟩
def sprBootMode_alt : Fld := ⟨0xD080, 0, 1⟩
def sprBaltStage_stage : Fld := ⟨0xD084, 0, 4⟩
def sprBaltUnit_unit : Fld := ⟨0xD088, 0, 32⟩
def sprBaltChoice_choice : Fld := ⟨0xD08C, 0, 2⟩
def sprBaltOp_op : Fld := ⟨0xD090, 0, 32⟩
def secState_state : Fld := ⟨0x10080, 0, 2⟩
def secState_runSlot : Fld := ⟨0x10080, 2, 1⟩
def secState_prefSlot : Fld := ⟨0x10080, 3, 1⟩
def secSvn_svn : Fld := ⟨0x10084, 0, 32⟩
def secRunSvn_runSvn : Fld := ⟨0x10088, 0, 32⟩
def secRecSeq (j : Nat) : Fld := ⟨0x1008C + 0x4 * j, 0, 32⟩
def secBoot_stage : Fld := ⟨0x10094, 0, 4⟩
def secBoot_consecFail : Fld := ⟨0x10094, 8, 4⟩
def secBoot_kind : Fld := ⟨0x10094, 12, 2⟩
def secBrecSel_stage : Fld := ⟨0x100A0, 0, 4⟩
def secBrec (j : Nat) : Fld := ⟨0x100A4 + 0x4 * j, 0, 32⟩
def secFwAddrLo_addrLo : Fld := ⟨0x11080, 12, 20⟩
def secFwAddrHi_addrHi : Fld := ⟨0x11084, 0, 16⟩
def secFwLen_len : Fld := ⟨0x11088, 0, 25⟩
def secFwCtrl_write : Fld := ⟨0x1108C, 0, 1⟩
def secFwCtrl_activate : Fld := ⟨0x1108C, 1, 1⟩
def secFwCtrl_commit : Fld := ⟨0x1108C, 2, 1⟩
def secFwStatus_busy : Fld := ⟨0x11090, 0, 1⟩
def secFwStatus_status : Fld := ⟨0x11090, 16, 16⟩
def secFwStatus_reason : Fld := ⟨0x11090, 1, 3⟩
def secCfgReq_hostSplit : Fld := ⟨0x12080, 0, 1⟩
def secCfgReq_altMode : Fld := ⟨0x12080, 1, 1⟩
def secCfgReq_apply : Fld := ⟨0x12080, 31, 1⟩
def secPeer_require : Fld := ⟨0x12084, 0, 1⟩
def secPeer_minSvn : Fld := ⟨0x12084, 8, 24⟩
def evtCfg_mode : Fld := ⟨0x20080, 0, 1⟩
def evtCfg_vbase : Fld := ⟨0x20080, 15, 17⟩
def evtThresh_thresh0 : Fld := ⟨0x20084, 0, 4⟩
def evtThresh_thresh1 : Fld := ⟨0x20084, 4, 4⟩
def evtLevel_level : Fld := ⟨0x20088, 0, 4⟩
def evtLevel_normalBusy : Fld := ⟨0x20088, 4, 1⟩
def evtLevel_fastBusy : Fld := ⟨0x20088, 5, 1⟩
def evtEoi_source : Fld := ⟨0x2008C, 0, 11⟩
def evtSrc_en (j : Nat) : Fld := ⟨0x21080 + 0x1000 * (j / 512) + 4 * (j % 512), 0, 1⟩
def evtSrc_route (j : Nat) : Fld := ⟨0x21080 + 0x1000 * (j / 512) + 4 * (j % 512), 1, 2⟩
def evtSrc_prio (j : Nat) : Fld := ⟨0x21080 + 0x1000 * (j / 512) + 4 * (j % 512), 3, 4⟩
def evtSrc_vector (j : Nat) : Fld := ⟨0x21080 + 0x1000 * (j / 512) + 4 * (j % 512), 8, 11⟩
def evtSrc_pending (j : Nat) : Fld := ⟨0x21080 + 0x1000 * (j / 512) + 4 * (j % 512), 29, 1⟩
def evtSrc_inService (j : Nat) : Fld := ⟨0x21080 + 0x1000 * (j / 512) + 4 * (j % 512), 30, 1⟩
def evtSrc_line (j : Nat) : Fld := ⟨0x21080 + 0x1000 * (j / 512) + 4 * (j % 512), 31, 1⟩
def evtPend_pending (j : Nat) : Fld := ⟨0x25080 + 0x4 * j, 0, 32⟩
def hltResetCtrl_d3 : Fld := ⟨0x30080, 0, 1⟩
def hltResetCtrl_d4 : Fld := ⟨0x30080, 1, 1⟩
def hltResetCtrl_key : Fld := ⟨0x30080, 8, 8⟩
def hltState_state : Fld := ⟨0x30084, 0, 2⟩
def hltState_oosReason : Fld := ⟨0x30084, 16, 16⟩
def hltWarmCfg_limit : Fld := ⟨0x30088, 0, 4⟩
def hltWarmCfg_window : Fld := ⟨0x30088, 16, 16⟩
def hltWarmCnt_count : Fld := ⟨0x3008C, 0, 4⟩
def hltFaultCfg_limit : Fld := ⟨0x30090, 0, 4⟩
def hltFaultCfg_win : Fld := ⟨0x30090, 8, 8⟩
def hltStCfg_en : Fld := ⟨0x31080, 0, 1⟩
def hltStCfg_round : Fld := ⟨0x31080, 8, 6⟩
def hltStState_roundNo : Fld := ⟨0x31084, 0, 5⟩
def hltStState_fails : Fld := ⟨0x31084, 8, 8⟩
def hltStState_cycles : Fld := ⟨0x31084, 16, 16⟩
def hltStLast (j : Nat) : Fld := ⟨0x31088 + 0x4 * j, 0, 32⟩
def hltDumpCtrl_req : Fld := ⟨0x32080, 0, 1⟩
def hltDumpCtrl_hold0 : Fld := ⟨0x32080, 1, 1⟩
def hltDumpCtrl_hold1 : Fld := ⟨0x32080, 2, 1⟩
def hltDumpCtrl_onBound : Fld := ⟨0x32080, 3, 1⟩
def hltDumpCtrl_toHost : Fld := ⟨0x32080, 4, 1⟩
def hltDumpCtrl_slot : Fld := ⟨0x32080, 5, 1⟩
def hltDumpState_busy : Fld := ⟨0x32084, 0, 1⟩
def hltDumpState_last : Fld := ⟨0x32084, 1, 1⟩
def hltDumpState_valid0 : Fld := ⟨0x32084, 2, 1⟩
def hltDumpState_valid1 : Fld := ⟨0x32084, 3, 1⟩
def hltDumpState_merged : Fld := ⟨0x32084, 8, 8⟩
def hltDumpState_dropped : Fld := ⟨0x32084, 16, 16⟩
def hltDumpHostLo_hostLo : Fld := ⟨0x32088, 12, 20⟩
def hltDumpHostHi_hostHi : Fld := ⟨0x3208C, 0, 16⟩
def hltDumpSel_unit : Fld := ⟨0x32090, 0, 24⟩
def hltDumpSel_chunk : Fld := ⟨0x32090, 24, 8⟩
def hltLogHead_next : Fld := ⟨0x34080, 0, 32⟩
def hltLogSel_seq : Fld := ⟨0x34084, 0, 32⟩
def hltLogRec (j : Nat) : Fld := ⟨0x340A0 + 0x4 * j, 0, 32⟩
def hifLinkA_rate : Fld := ⟨0x40080, 0, 2⟩
def hifLinkA_width : Fld := ⟨0x40080, 2, 5⟩
def hifLinkA_flit : Fld := ⟨0x40080, 7, 1⟩
def hifLinkB_rate : Fld := ⟨0x40084, 0, 2⟩
def hifLinkB_width : Fld := ⟨0x40084, 2, 5⟩
def hifLinkB_flit : Fld := ⟨0x40084, 7, 1⟩
def hifLinkCfg_hostSplit : Fld := ⟨0x40088, 0, 1⟩
def hifB2Refused_refused : Fld := ⟨0x4008C, 0, 32⟩
def hifB2Poison_poison : Fld := ⟨0x40090, 0, 32⟩
def hifWinSel_entry : Fld := ⟨0x42080, 0, 12⟩
def hifWinCfg_valid : Fld := ⟨0x42084, 0, 1⟩
def hifWinCfg_write : Fld := ⟨0x42084, 1, 1⟩
def hifWinCfg_base : Fld := ⟨0x42084, 2, 19⟩
def hifWinCfg_part : Fld := ⟨0x42084, 21, 3⟩
def hifWinObj_handle : Fld := ⟨0x42088, 0, 32⟩
def kqpOpcSel_opcode (i : Nat) : Fld := ⟨0x80080 + 0x4000 * i, 0, 12⟩
def kqpOpcInfo_defined (i : Nat) : Fld := ⟨0x80084 + 0x4000 * i, 0, 1⟩
def kqpOpcInfo_versions (i : Nat) : Fld := ⟨0x80084 + 0x4000 * i, 1, 15⟩
def kqpOpcInfo_splits (i : Nat) : Fld := ⟨0x80084 + 0x4000 * i, 16, 1⟩
def kqpOpcInfo_stepOnly (i : Nat) : Fld := ⟨0x80084 + 0x4000 * i, 17, 1⟩
def kqpOpcInfo_stepNever (i : Nat) : Fld := ⟨0x80084 + 0x4000 * i, 18, 1⟩
def kqpBoundCfg_factor (i : Nat) : Fld := ⟨0x80088 + 0x4000 * i, 0, 8⟩
def kqpBeaconCfg_period (i : Nat) : Fld := ⟨0x8008C + 0x4000 * i, 0, 7⟩
def kqpRepeatLast_layer (i : Nat) : Fld := ⟨0x81080 + 0x4000 * i, 0, 20⟩
def kqpRepeatLast_exec (i : Nat) : Fld := ⟨0x81080 + 0x4000 * i, 20, 2⟩
def kqpRepeatLast_queue (i : Nat) : Fld := ⟨0x81080 + 0x4000 * i, 24, 4⟩
def kqpRepeatCnt_repeats (i : Nat) : Fld := ⟨0x81084 + 0x4000 * i, 0, 16⟩
def kqpRepeatCnt_exhausted (i : Nat) : Fld := ⟨0x81084 + 0x4000 * i, 16, 16⟩
def qCfg_enable (i : Nat) (j : Nat) : Fld := ⟨0x81100 + 0x4000 * i + 0x40 * j, 0, 1⟩
def qCfg_partition (i : Nat) (j : Nat) : Fld := ⟨0x81100 + 0x4000 * i + 0x40 * j, 1, 3⟩
def qCfg_job (i : Nat) (j : Nat) : Fld := ⟨0x81100 + 0x4000 * i + 0x40 * j, 4, 3⟩
def qCfg_log2Size (i : Nat) (j : Nat) : Fld := ⟨0x81100 + 0x4000 * i + 0x40 * j, 7, 5⟩
def qCfg_prio (i : Nat) (j : Nat) : Fld := ⟨0x81100 + 0x4000 * i + 0x40 * j, 12, 2⟩
def qState_state (i : Nat) (j : Nat) : Fld := ⟨0x81104 + 0x4000 * i + 0x40 * j, 0, 3⟩
def qState_waitSem (i : Nat) (j : Nat) : Fld := ⟨0x81104 + 0x4000 * i + 0x40 * j, 3, 1⟩
def qState_waitStep (i : Nat) (j : Nat) : Fld := ⟨0x81104 + 0x4000 * i + 0x40 * j, 4, 1⟩
def qState_waitFence (i : Nat) (j : Nat) : Fld := ⟨0x81104 + 0x4000 * i + 0x40 * j, 5, 1⟩
def qState_waitIndex (i : Nat) (j : Nat) : Fld := ⟨0x81104 + 0x4000 * i + 0x40 * j, 6, 1⟩
def qState_inExec (i : Nat) (j : Nat) : Fld := ⟨0x81104 + 0x4000 * i + 0x40 * j, 16, 6⟩
def qRingLo_base (i : Nat) (j : Nat) : Fld := ⟨0x81108 + 0x4000 * i + 0x40 * j, 12, 20⟩
def qRingHi_base (i : Nat) (j : Nat) : Fld := ⟨0x8110C + 0x4000 * i + 0x40 * j, 0, 16⟩
def qCplLo_base (i : Nat) (j : Nat) : Fld := ⟨0x81110 + 0x4000 * i + 0x40 * j, 12, 20⟩
def qCplHi_base (i : Nat) (j : Nat) : Fld := ⟨0x81114 + 0x4000 * i + 0x40 * j, 0, 16⟩
def qHead_count (i : Nat) (j : Nat) : Fld := ⟨0x81118 + 0x4000 * i + 0x40 * j, 0, 32⟩
def qTail_count (i : Nat) (j : Nat) : Fld := ⟨0x8111C + 0x4000 * i + 0x40 * j, 0, 32⟩
def qDone_count (i : Nat) (j : Nat) : Fld := ⟨0x81120 + 0x4000 * i + 0x40 * j, 0, 32⟩
def qErr_status (i : Nat) (j : Nat) : Fld := ⟨0x81124 + 0x4000 * i + 0x40 * j, 0, 16⟩
def qErr_index (i : Nat) (j : Nat) : Fld := ⟨0x81124 + 0x4000 * i + 0x40 * j, 16, 16⟩
def qCtrl_resume (i : Nat) (j : Nat) : Fld := ⟨0x81128 + 0x4000 * i + 0x40 * j, 0, 1⟩
def qCtrl_flush (i : Nat) (j : Nat) : Fld := ⟨0x81128 + 0x4000 * i + 0x40 * j, 1, 1⟩
def qMsix_vector (i : Nat) (j : Nat) : Fld := ⟨0x8112C + 0x4000 * i + 0x40 * j, 0, 11⟩
def qBeacon_group (i : Nat) (j : Nat) : Fld := ⟨0x81130 + 0x4000 * i + 0x40 * j, 0, 12⟩
def qBeacon_rank (i : Nat) (j : Nat) : Fld := ⟨0x81130 + 0x4000 * i + 0x40 * j, 12, 8⟩
def qBeacon_all (i : Nat) (j : Nat) : Fld := ⟨0x81130 + 0x4000 * i + 0x40 * j, 20, 1⟩
def kqpSemSel_index : Fld := ⟨0x82080, 0, 16⟩
def kqpSemSel_partition : Fld := ⟨0x82080, 16, 3⟩
def kqpSemVal_value : Fld := ⟨0x82084, 0, 32⟩
def kqpSemAdd_add : Fld := ⟨0x82088, 0, 32⟩
def ldgCfg_lead : Fld := ⟨0xC0080, 0, 10⟩
def ldgCfg_takeover : Fld := ⟨0xC0080, 10, 7⟩
def ldgCfg_parkLimit : Fld := ⟨0xC0080, 17, 12⟩
def ldgAssistOp : Fld := ⟨0xC0090, 0, 32⟩
def ldgAssistVote_job : Fld := ⟨0xC0094, 0, 3⟩
def ldgAssistVote_ready : Fld := ⟨0xC0094, 3, 1⟩
def ldgAssistVote_reason : Fld := ⟨0xC0094, 16, 16⟩
def ldgAssistStep (j : Nat) : Fld := ⟨0xC0098 + 0x4 * j, 0, 32⟩
def ldgAssistAtt : Fld := ⟨0xC00A0, 0, 16⟩
def ldgAssistDigest (j : Nat) : Fld := ⟨0xC00A4 + 0x4 * j, 0, 32⟩
def ldgAssistDec_commit : Fld := ⟨0xC00C4, 0, 1⟩
def ldgAssistDec_reason : Fld := ⟨0xC00C4, 16, 16⟩
def ldgAssistTc (j : Nat) : Fld := ⟨0xC00C8 + 0x4 * j, 0, 32⟩
def ldgJobCfg_group (j : Nat) : Fld := ⟨0xC1080 + 0x40 * j, 0, 12⟩
def ldgJobCfg_ckptHost (j : Nat) : Fld := ⟨0xC1080 + 0x40 * j, 12, 1⟩
def ldgJobCfg_part (j : Nat) : Fld := ⟨0xC1080 + 0x40 * j, 13, 3⟩
def ldgJobCfg_ckptEvery (j : Nat) : Fld := ⟨0xC1080 + 0x40 * j, 16, 16⟩
def ldgJobState_job (j : Nat) : Fld := ⟨0xC1084 + 0x40 * j, 0, 3⟩
def ldgJobState_step (j : Nat) : Fld := ⟨0xC1084 + 0x40 * j, 3, 3⟩
def ldgJobState_coord (j : Nat) : Fld := ⟨0xC1084 + 0x40 * j, 6, 1⟩
def ldgJobState_rank (j : Nat) : Fld := ⟨0xC1084 + 0x40 * j, 8, 8⟩
def ldgJobState_head (j : Nat) : Fld := ⟨0xC1084 + 0x40 * j, 16, 10⟩
def ldgCommittedLo (j : Nat) : Fld := ⟨0xC1088 + 0x40 * j, 0, 32⟩
def ldgCommittedHi (j : Nat) : Fld := ⟨0xC108C + 0x40 * j, 0, 32⟩
def ldgOpenedLo (j : Nat) : Fld := ⟨0xC1090 + 0x40 * j, 0, 32⟩
def ldgOpenedHi (j : Nat) : Fld := ⟨0xC1094 + 0x40 * j, 0, 32⟩
def ldgJobCtrl_unpark (j : Nat) : Fld := ⟨0xC1098 + 0x40 * j, 0, 1⟩
def ldgAbortLast_status (j : Nat) : Fld := ⟨0xC109C + 0x40 * j, 0, 16⟩
def ldgAbortLast_rank (j : Nat) : Fld := ⟨0xC109C + 0x40 * j, 16, 16⟩
def ldgCkptLastLo (j : Nat) : Fld := ⟨0xC10A0 + 0x40 * j, 0, 32⟩
def ldgCkptLastHi (j : Nat) : Fld := ⟨0xC10A4 + 0x40 * j, 0, 32⟩
def ldgCkptState_draining (j : Nat) : Fld := ⟨0xC10A8 + 0x40 * j, 0, 1⟩
def ldgCkptState_waiting (j : Nat) : Fld := ⟨0xC10A8 + 0x40 * j, 1, 1⟩
def ldgNbr_rank (j : Nat) : Fld := ⟨0xC10AC + 0x40 * j, 0, 8⟩
def ldgNbr_auto (j : Nat) : Fld := ⟨0xC10AC + 0x40 * j, 8, 1⟩
def ldgNbr_pairForce (j : Nat) : Fld := ⟨0xC10AC + 0x40 * j, 9, 1⟩
def ldgNbr_state (j : Nat) : Fld := ⟨0xC10AC + 0x40 * j, 10, 2⟩
def ldgStallUs (j : Nat) : Fld := ⟨0xC10B0 + 0x40 * j, 0, 32⟩
def ldgStaleMsg (j : Nat) : Fld := ⟨0xC10B4 + 0x40 * j, 0, 32⟩
def ldgLateFlip (j : Nat) : Fld := ⟨0xC10B8 + 0x40 * j, 0, 32⟩
def ldgRecSel_job : Fld := ⟨0xC2080, 0, 3⟩
def ldgRecSel_slot : Fld := ⟨0xC2080, 3, 10⟩
def ldgRec (j : Nat) : Fld := ⟨0xC2100 + 0x4 * j, 0, 32⟩
def ldgFd0_site : Fld := ⟨0xC3080, 0, 16⟩
def ldgFd0_feed : Fld := ⟨0xC3080, 16, 16⟩
def ldgFd1_chassis : Fld := ⟨0xC3084, 0, 16⟩
def ldgFd1_rack : Fld := ⟨0xC3084, 16, 16⟩
def ldgStore_extents : Fld := ⟨0xC3088, 0, 19⟩
def ldgHostckpt_baseLo : Fld := ⟨0xC3090, 12, 20⟩
def ldgHostckpt_baseHi : Fld := ⟨0xC3094, 0, 16⟩
def ldgHostckpt_size : Fld := ⟨0xC3098, 0, 16⟩
def ldgScaleCfg_mode (j : Nat) : Fld := ⟨0xC4080 + 0x10 * j, 0, 2⟩
def ldgScaleCfg_hist (j : Nat) : Fld := ⟨0xC4080 + 0x10 * j, 2, 5⟩
def ldgScaleCfg_margin (j : Nat) : Fld := ⟨0xC4080 + 0x10 * j, 7, 3⟩
def ldgScaleCfg_warmup (j : Nat) : Fld := ⟨0xC4080 + 0x10 * j, 16, 16⟩
def ldgScaleRestore_afterRestore (j : Nat) : Fld := ⟨0xC4084 + 0x10 * j, 0, 16⟩
def ldgScaleBase_handle (j : Nat) : Fld := ⟨0xC4088 + 0x10 * j, 0, 32⟩
def ldgScaleState_remain (j : Nat) : Fld := ⟨0xC408C + 0x10 * j, 0, 16⟩
def ldgScaleState_regime (j : Nat) : Fld := ⟨0xC408C + 0x10 * j, 16, 1⟩
def ccrMap_logical (i : Nat) : Fld := ⟨0x100080 + 0x4000 * i, 0, 6⟩
def ccrMap_role (i : Nat) : Fld := ⟨0x100080 + 0x4000 * i, 6, 3⟩
def ccrMap_die (i : Nat) : Fld := ⟨0x100080 + 0x4000 * i, 9, 1⟩
def ccrRamp_actRamp (i : Nat) : Fld := ⟨0x100084 + 0x4000 * i, 0, 9⟩
def ccrCsCfg_tolScale (i : Nat) : Fld := ⟨0x100088 + 0x4000 * i, 0, 4⟩
def ccrCsCfg_transientWin (i : Nat) : Fld := ⟨0x100088 + 0x4000 * i, 8, 8⟩
def ccrRepair_repCol (i : Nat) : Fld := ⟨0x10008C + 0x4000 * i, 0, 8⟩
def ccrRepair_repColValid (i : Nat) : Fld := ⟨0x10008C + 0x4000 * i, 8, 1⟩
def ccrRepair_csSwapped (i : Nat) : Fld := ⟨0x10008C + 0x4000 * i, 9, 1⟩
def ccrRepair_repRow0 (i : Nat) : Fld := ⟨0x10008C + 0x4000 * i, 16, 7⟩
def ccrRepair_row0Valid (i : Nat) : Fld := ⟨0x10008C + 0x4000 * i, 23, 1⟩
def ccrRepair_repRow1 (i : Nat) : Fld := ⟨0x10008C + 0x4000 * i, 24, 7⟩
def ccrRepair_row1Valid (i : Nat) : Fld := ⟨0x10008C + 0x4000 * i, 31, 1⟩
def ccrCsCnt_mismatch (i : Nat) : Fld := ⟨0x101080 + 0x4000 * i, 0, 16⟩
def ccrCsCnt_skipped (i : Nat) : Fld := ⟨0x101080 + 0x4000 * i, 16, 16⟩
def ccrCsLast_row (i : Nat) : Fld := ⟨0x101084 + 0x4000 * i, 0, 12⟩
def ccrCsLast_locCol (i : Nat) : Fld := ⟨0x101084 + 0x4000 * i, 16, 8⟩
def ccrCsLast_locRow (i : Nat) : Fld := ⟨0x101084 + 0x4000 * i, 24, 8⟩
def ccrResCnt_residue (i : Nat) : Fld := ⟨0x101088 + 0x4000 * i, 0, 32⟩
def ccrPasses_passes (i : Nat) : Fld := ⟨0x10108C + 0x4000 * i, 0, 32⟩
def ccrDrnSat_sat (i : Nat) : Fld := ⟨0x102080 + 0x4000 * i, 0, 16⟩
def ccrDrnSat_nonfinite (i : Nat) : Fld := ⟨0x102080 + 0x4000 * i, 16, 16⟩
def ccrDrnFtz_ftz (i : Nat) : Fld := ⟨0x102084 + 0x4000 * i, 0, 32⟩
def ccrDrnSub_sub (i : Nat) : Fld := ⟨0x102088 + 0x4000 * i, 0, 32⟩
def ccrDrnLast_layer (i : Nat) : Fld := ⟨0x10208C + 0x4000 * i, 0, 20⟩
def ccrDrnLast_class (i : Nat) : Fld := ⟨0x10208C + 0x4000 * i, 20, 2⟩
def ccrDrnLast_col (i : Nat) : Fld := ⟨0x10208C + 0x4000 * i, 22, 7⟩
def ccrFnInfo_funcs (i : Nat) : Fld := ⟨0x103080 + 0x4000 * i, 0, 32⟩
def ccrDrnVer_dvers (i : Nat) : Fld := ⟨0x103084 + 0x4000 * i, 0, 16⟩
def ccrAttnCnt_maskedRows (i : Nat) : Fld := ⟨0x103088 + 0x4000 * i, 0, 32⟩
def mktSysCfg_sysGranules : Fld := ⟨0x300080, 0, 12⟩
def mktSysCfg_sysActive : Fld := ⟨0x300080, 16, 12⟩
def mktQuota_limit (j : Nat) : Fld := ⟨0x300090 + 0x4 * j, 0, 15⟩
def mktQuota_use (j : Nat) : Fld := ⟨0x300090 + 0x4 * j, 16, 15⟩
def mktRgnSel_index : Fld := ⟨0x301080, 0, 12⟩
def mktRgnDesc0_base : Fld := ⟨0x301084, 0, 14⟩
def mktRgnDesc0_attr : Fld := ⟨0x301084, 16, 2⟩
def mktRgnDesc0_owner : Fld := ⟨0x301084, 18, 4⟩
def mktRgnDesc0_job : Fld := ⟨0x301084, 22, 3⟩
def mktRgnDesc0_stepTag : Fld := ⟨0x301084, 25, 2⟩
def mktRgnDesc0_fill : Fld := ⟨0x301084, 27, 1⟩
def mktRgnDesc0_valid : Fld := ⟨0x301084, 31, 1⟩
def mktRgnDesc1_count : Fld := ⟨0x301088, 0, 15⟩
def mktScrubCfg_period : Fld := ⟨0x302080, 0, 8⟩
def mktCeCnt_ce : Fld := ⟨0x302084, 0, 32⟩
def mktUeCnt_ue : Fld := ⟨0x302088, 0, 32⟩
def mktScrubPass_passes : Fld := ⟨0x30208C, 0, 32⟩
def mktErrAddr_line : Fld := ⟨0x302090, 0, 24⟩
def mktErrAddr_kind : Fld := ⟨0x302090, 24, 2⟩
def mktCeLimit_limit : Fld := ⟨0x302094, 0, 16⟩
def mktMapSel_bank : Fld := ⟨0x303080, 0, 10⟩
def mktMap_phys : Fld := ⟨0x303084, 0, 11⟩
def mktMap_state : Fld := ⟨0x303084, 12, 2⟩
def mktSpareFree_count : Fld := ⟨0x303088, 0, 7⟩
def engMap_logical (i : Nat) : Fld := ⟨0x400080 + 0x4000 * i, 0, 5⟩
def engMap_role (i : Nat) : Fld := ⟨0x400080 + 0x4000 * i, 5, 3⟩
def engInfo_lanes32 (i : Nat) : Fld := ⟨0x400084 + 0x4000 * i, 0, 12⟩
def engInfo_lanes64 (i : Nat) : Fld := ⟨0x400084 + 0x4000 * i, 12, 12⟩
def engParts_parts (i : Nat) : Fld := ⟨0x401080 + 0x4000 * i, 0, 32⟩
def engResCnt_residue (i : Nat) : Fld := ⟨0x401084 + 0x4000 * i, 0, 32⟩
def engLast_layer (i : Nat) : Fld := ⟨0x401088 + 0x4000 * i, 0, 20⟩
def engLast_opcode (i : Nat) : Fld := ⟨0x401088 + 0x4000 * i, 20, 12⟩
def engSpecCnt_cnt0 (i : Nat) (j : Nat) : Fld := ⟨0x402080 + 0x4000 * i + 0x4 * j, 0, 32⟩
def hbmState_state (i : Nat) : Fld := ⟨0x500080 + 0x10000 * i, 0, 2⟩
def hbmState_window (i : Nat) : Fld := ⟨0x500080 + 0x10000 * i, 2, 1⟩
def hbmScrubCfg_period (i : Nat) : Fld := ⟨0x500084 + 0x10000 * i, 0, 8⟩
def hbmCeCnt_ce (i : Nat) : Fld := ⟨0x500088 + 0x10000 * i, 0, 32⟩
def hbmUeCnt_ue (i : Nat) : Fld := ⟨0x50008C + 0x10000 * i, 0, 32⟩
def hbmErrAddr_sector (i : Nat) : Fld := ⟨0x500090 + 0x10000 * i, 0, 31⟩
def hbmErrAddr_kind (i : Nat) : Fld := ⟨0x500090 + 0x10000 * i, 31, 1⟩
def hbmScrubPass_passes (i : Nat) : Fld := ⟨0x500094 + 0x10000 * i, 0, 32⟩
def acrWindowCfg_hold (i : Nat) : Fld := ⟨0x580080 + 0x10000 * i, 0, 8⟩
def acrWindowCfg_gap (i : Nat) : Fld := ⟨0x580080 + 0x10000 * i, 8, 8⟩
def acrState_state (i : Nat) : Fld := ⟨0x580084 + 0x10000 * i, 0, 2⟩
def acrState_busy (i : Nat) : Fld := ⟨0x580084 + 0x10000 * i, 2, 1⟩
def acrCmds_cmds (i : Nat) : Fld := ⟨0x580088 + 0x10000 * i, 0, 32⟩
def acrAddLines_lines (i : Nat) : Fld := ⟨0x58008C + 0x10000 * i, 0, 32⟩
def acrResCnt_residue (i : Nat) : Fld := ⟨0x580090 + 0x10000 * i, 0, 32⟩
def acrQuietLimit_limit (j : Nat) : Fld := ⟨0x581080 + 0x20 * j, 0, 16⟩
def acrRatioLo_ratio (j : Nat) : Fld := ⟨0x581084 + 0x20 * j, 0, 32⟩
def acrFrozenCfg_fault (j : Nat) : Fld := ⟨0x581088 + 0x20 * j, 0, 1⟩
def acrFrozenHits_count (j : Nat) : Fld := ⟨0x58108C + 0x20 * j, 0, 32⟩
def acrDegenCnt_count (j : Nat) : Fld := ⟨0x581090 + 0x20 * j, 0, 32⟩
def acrQuietLast_group (j : Nat) : Fld := ⟨0x581094 + 0x20 * j, 0, 12⟩
def acrNoise_value (j : Nat) : Fld := ⟨0x581098 + 0x20 * j, 0, 32⟩
def acrNorm_handle (j : Nat) : Fld := ⟨0x58109C + 0x20 * j, 0, 32⟩
def acrGrpSel_job : Fld := ⟨0x582080, 0, 3⟩
def acrGrpSel_group : Fld := ⟨0x582080, 3, 12⟩
def acrGrpSel_pending : Fld := ⟨0x582080, 15, 1⟩
def acrGrpEntry (j : Nat) : Fld := ⟨0x582084 + 0x4 * j, 0, 32⟩
def acrGrpStats (j : Nat) : Fld := ⟨0x5820C0 + 0x4 * j, 0, 32⟩
def acrAssistOp (i : Nat) : Fld := ⟨0x583080 + 0x10000 * i, 0, 32⟩
def acrAssistCmd (i : Nat) : Fld := ⟨0x583084 + 0x10000 * i, 0, 32⟩
def acrAssistGrp_group (i : Nat) : Fld := ⟨0x583088 + 0x10000 * i, 0, 12⟩
def acrAssistGrp_job (i : Nat) : Fld := ⟨0x583088 + 0x10000 * i, 12, 3⟩
def acrAssistIn (i : Nat) (j : Nat) : Fld := ⟨0x583090 + 0x10000 * i + 0x8 * j, 0, 32⟩
def acrAssistOut (i : Nat) (j : Nat) : Fld := ⟨0x583094 + 0x10000 * i + 0x8 * j, 0, 32⟩
def acrAssistW2Lo (i : Nat) : Fld := ⟨0x5830C0 + 0x10000 * i, 0, 32⟩
def acrAssistW2Hi (i : Nat) : Fld := ⟨0x5830C4 + 0x10000 * i, 0, 32⟩
def acrAssistD2Lo (i : Nat) : Fld := ⟨0x5830C8 + 0x10000 * i, 0, 32⟩
def acrAssistD2Hi (i : Nat) : Fld := ⟨0x5830CC + 0x10000 * i, 0, 32⟩
def tirCfg_wholeLimit : Fld := ⟨0x600080, 0, 11⟩
def tirCfg_retry : Fld := ⟨0x600080, 11, 3⟩
def tirCfg_lookahead : Fld := ⟨0x600080, 14, 4⟩
def tirT1Quota_limit (j : Nat) : Fld := ⟨0x600090 + 0x8 * j, 0, 19⟩
def tirT1Use_use (j : Nat) : Fld := ⟨0x600094 + 0x8 * j, 0, 19⟩
def tirT2Quota_limit (j : Nat) : Fld := ⟨0x6000E0 + 0x8 * j, 0, 27⟩
def tirT2Use_use (j : Nat) : Fld := ⟨0x6000E4 + 0x8 * j, 0, 27⟩
def tirT1Avail_avail : Fld := ⟨0x600130, 0, 19⟩
def tirObjCount_count : Fld := ⟨0x600134, 0, 23⟩
def tirObjReq0_op : Fld := ⟨0x601080, 0, 4⟩
def tirObjReq0_kind : Fld := ⟨0x601080, 4, 2⟩
def tirObjReq0_attr : Fld := ⟨0x601080, 6, 2⟩
def tirObjReq0_stack : Fld := ⟨0x601080, 8, 3⟩
def tirObjReq0_job : Fld := ⟨0x601080, 12, 3⟩
def tirObjReq0_wset : Fld := ⟨0x601080, 16, 16⟩
def tirObjReq1_handle : Fld := ⟨0x601084, 0, 32⟩
def tirObjReq2_sizeL : Fld := ⟨0x601088, 0, 32⟩
def tirObjReq3_part : Fld := ⟨0x60108C, 0, 3⟩
def tirObjReq4_t2Addr : Fld := ⟨0x601090, 0, 32⟩
def tirObjReq5_t2Addrh : Fld := ⟨0x601094, 0, 16⟩
def tirObjGo_go : Fld := ⟨0x6010A0, 0, 1⟩
def tirObjStat_status : Fld := ⟨0x6010A4, 0, 16⟩
def tirObjStat_busy : Fld := ⟨0x6010A4, 16, 1⟩
def tirObjRes (j : Nat) : Fld := ⟨0x6010C0 + 0x4 * j, 0, 32⟩
def tirAssistOp_op : Fld := ⟨0x602080, 0, 32⟩
def tirAssistObj_obj : Fld := ⟨0x602084, 0, 32⟩
def tirAssistOff_off : Fld := ⟨0x602088, 0, 32⟩
def tirAssistLen_len : Fld := ⟨0x60208C, 0, 32⟩
def tirAssistCnt : Fld := ⟨0x602090, 0, 9⟩
def tirPoisonCnt_poisoned : Fld := ⟨0x602094, 0, 32⟩
def tirSetLast_wset : Fld := ⟨0x602098, 0, 16⟩
def wsetSel_set : Fld := ⟨0x603080, 0, 8⟩
def wsetDef_base : Fld := ⟨0x603084, 0, 16⟩
def wsetDef_countM1 : Fld := ⟨0x603084, 16, 16⟩
def wsetState_slot0 : Fld := ⟨0x603088, 0, 3⟩
def wsetState_slot1 : Fld := ⟨0x603088, 3, 3⟩
def wsetState_poisoned : Fld := ⟨0x603088, 6, 1⟩
def wsetState_defined : Fld := ⟨0x603088, 7, 1⟩
def wsetRefs_ref0 : Fld := ⟨0x60308C, 0, 16⟩
def wsetRefs_ref1 : Fld := ⟨0x60308C, 16, 16⟩
def wsetSwaps : Fld := ⟨0x603090, 0, 32⟩
def wsetPkg (j : Nat) : Fld := ⟨0x603094 + 0x4 * j, 0, 32⟩
def wsetAttach : Fld := ⟨0x60309C, 0, 8⟩
def wsetHandle : Fld := ⟨0x6030A0, 0, 32⟩
def wsetProtCnt : Fld := ⟨0x6030A4, 0, 32⟩
def sixReserve_reserve (j : Nat) : Fld := ⟨0x680080 + 0x4 * j, 0, 17⟩
def sixFree_free : Fld := ⟨0x6800A0, 0, 21⟩
def sixPeak_peak : Fld := ⟨0x6800A4, 0, 21⟩
def sixSpillLo_base : Fld := ⟨0x6800A8, 12, 20⟩
def sixSpillHi_base : Fld := ⟨0x6800AC, 0, 16⟩
def sixSpillCfg_log2 : Fld := ⟨0x6800B0, 0, 5⟩
def sixSpillCfg_en : Fld := ⟨0x6800B0, 5, 1⟩
def sixSpillUse_use : Fld := ⟨0x6800B4, 0, 23⟩
def sixRefused_refused : Fld := ⟨0x6800B8, 0, 32⟩
def sixEntrySel_handle : Fld := ⟨0x6800C0, 0, 32⟩
def sixEntry (j : Nat) : Fld := ⟨0x6800C4 + 0x4 * j, 0, 32⟩
def fabPortCfg_enable (i : Nat) : Fld := ⟨0x700080 + 0x8000 * i, 0, 1⟩
def fabPortCfg_medium (i : Nat) : Fld := ⟨0x700080 + 0x8000 * i, 1, 1⟩
def fabPortCfg_allow (i : Nat) : Fld := ⟨0x700080 + 0x8000 * i, 2, 3⟩
def fabPortCfg_linkWait (i : Nat) : Fld := ⟨0x700080 + 0x8000 * i, 5, 8⟩
def fabPortCfg_maxFrame (i : Nat) : Fld := ⟨0x700080 + 0x8000 * i, 13, 14⟩
def fabPortCfg_tagEn (i : Nat) : Fld := ⟨0x700080 + 0x8000 * i, 27, 1⟩
def fabPortCtrl_retrain (i : Nat) : Fld := ⟨0x700084 + 0x8000 * i, 0, 1⟩
def fabPortCtrl_clearLanes (i : Nat) : Fld := ⟨0x700084 + 0x8000 * i, 1, 1⟩
def fabPortState_state (i : Nat) : Fld := ⟨0x700088 + 0x8000 * i, 0, 3⟩
def fabPortState_rate (i : Nat) : Fld := ⟨0x700088 + 0x8000 * i, 3, 2⟩
def fabPortState_lanes (i : Nat) : Fld := ⟨0x700088 + 0x8000 * i, 5, 4⟩
def fabPortState_failed (i : Nat) : Fld := ⟨0x700088 + 0x8000 * i, 9, 4⟩
def fabPortState_retired (i : Nat) : Fld := ⟨0x700088 + 0x8000 * i, 13, 4⟩
def fabLaneCfg_serExp (i : Nat) : Fld := ⟨0x70008C + 0x8000 * i, 0, 4⟩
def fabVlan_vid (i : Nat) : Fld := ⟨0x700090 + 0x8000 * i, 0, 12⟩
def fabQmap_pcp (i : Nat) (j : Nat) : Fld := ⟨0x701080 + 0x8000 * i + 0x4 * j, 0, 3⟩
def fabQmap_dscp (i : Nat) (j : Nat) : Fld := ⟨0x701080 + 0x8000 * i + 0x4 * j, 3, 6⟩
def fabDwrr_w (i : Nat) : Fld := ⟨0x7010A0 + 0x8000 * i, 0, 32⟩
def fabQ0Min_pct (i : Nat) : Fld := ⟨0x7010A4 + 0x8000 * i, 0, 6⟩
def fabPfc_en (i : Nat) : Fld := ⟨0x7010A8 + 0x8000 * i, 0, 8⟩
def fabPfc_xoff (i : Nat) : Fld := ⟨0x7010A8 + 0x8000 * i, 8, 3⟩
def fabPfc_xon (i : Nat) : Fld := ⟨0x7010A8 + 0x8000 * i, 11, 3⟩
def fabPauseWd_wd (i : Nat) : Fld := ⟨0x7010AC + 0x8000 * i, 0, 14⟩
def fabPauseWd_holdoff (i : Nat) : Fld := ⟨0x7010AC + 0x8000 * i, 14, 13⟩
def fabPauseState_paused (i : Nat) : Fld := ⟨0x7010B0 + 0x8000 * i, 0, 8⟩
def fabPauseState_heldOff (i : Nat) : Fld := ⟨0x7010B0 + 0x8000 * i, 8, 8⟩
def fabPauseWdCnt_count (i : Nat) : Fld := ⟨0x7010B4 + 0x8000 * i, 0, 32⟩
def fabTsLat_tx (i : Nat) : Fld := ⟨0x702080 + 0x8000 * i, 0, 16⟩
def fabTsLat_rx (i : Nat) : Fld := ⟨0x702080 + 0x8000 * i, 16, 16⟩
def fabTsAsym_asym (i : Nat) : Fld := ⟨0x702084 + 0x8000 * i, 0, 16⟩
def fabTsFifo0_msgtype (i : Nat) : Fld := ⟨0x702088 + 0x8000 * i, 0, 4⟩
def fabTsFifo0_domain (i : Nat) : Fld := ⟨0x702088 + 0x8000 * i, 8, 8⟩
def fabTsFifo0_seqId (i : Nat) : Fld := ⟨0x702088 + 0x8000 * i, 16, 16⟩
def fabTsFifo1 (i : Nat) : Fld := ⟨0x70208C + 0x8000 * i, 0, 32⟩
def fabTsFifo2 (i : Nat) : Fld := ⟨0x702090 + 0x8000 * i, 0, 32⟩
def fabTsFifo3_valid (i : Nat) : Fld := ⟨0x702094 + 0x8000 * i, 0, 1⟩
def fabTsFifo3_overflow (i : Nat) : Fld := ⟨0x702094 + 0x8000 * i, 1, 1⟩
def fabLldpCfg_interval (i : Nat) : Fld := ⟨0x703080 + 0x8000 * i, 0, 12⟩
def fabLldpCfg_dest (i : Nat) : Fld := ⟨0x703080 + 0x8000 * i, 12, 1⟩
def fabLldpCfg_txEn (i : Nat) : Fld := ⟨0x703080 + 0x8000 * i, 13, 1⟩
def fabLldpOui_oui (i : Nat) : Fld := ⟨0x703084 + 0x8000 * i, 0, 24⟩
def fabNbrState_ttlLeft (i : Nat) : Fld := ⟨0x703088 + 0x8000 * i, 0, 16⟩
def fabNbrState_valid (i : Nat) : Fld := ⟨0x703088 + 0x8000 * i, 16, 1⟩
def fabNbrState_welfaum (i : Nat) : Fld := ⟨0x703088 + 0x8000 * i, 17, 1⟩
def fabNbr (i : Nat) (j : Nat) : Fld := ⟨0x7030C0 + 0x8000 * i + 0x4 * j, 0, 32⟩
def fabRxFrames (i : Nat) : Fld := ⟨0x704080 + 0x8000 * i, 0, 32⟩
def fabTxFrames (i : Nat) : Fld := ⟨0x704084 + 0x8000 * i, 0, 32⟩
def fabRxFcs (i : Nat) : Fld := ⟨0x704088 + 0x8000 * i, 0, 32⟩
def fabRxLen (i : Nat) : Fld := ⟨0x70408C + 0x8000 * i, 0, 32⟩
def fabRxFilter (i : Nat) : Fld := ⟨0x704090 + 0x8000 * i, 0, 32⟩
def fabRxNobuf (i : Nat) : Fld := ⟨0x704094 + 0x8000 * i, 0, 32⟩
def fabTxDiscard (i : Nat) : Fld := ⟨0x704098 + 0x8000 * i, 0, 32⟩
def fabFecCorr (i : Nat) : Fld := ⟨0x70409C + 0x8000 * i, 0, 32⟩
def fabFecUncorr (i : Nat) : Fld := ⟨0x7040A0 + 0x8000 * i, 0, 32⟩
def fabPfcRx (i : Nat) : Fld := ⟨0x7040A4 + 0x8000 * i, 0, 32⟩
def fabPfcTx (i : Nat) : Fld := ⟨0x7040A8 + 0x8000 * i, 0, 32⟩
def fabWakeCfg_port : Fld := ⟨0x7040C0, 0, 5⟩
def fabWakeToken (j : Nat) : Fld := ⟨0x7040C4 + 0x4 * j, 0, 32⟩
def fabWakeRej : Fld := ⟨0x7040CC, 0, 32⟩
def tbnCfg_udpPort : Fld := ⟨0x800080, 0, 16⟩
def tbnCfg_retryLimit : Fld := ⟨0x800080, 16, 4⟩
def tbnCfg_entropy : Fld := ⟨0x800080, 20, 2⟩
def tbnCfg_versionMax : Fld := ⟨0x800080, 24, 4⟩
def tbnTimer_rtoMin : Fld := ⟨0x800084, 0, 8⟩
def tbnTimer_rtoMax : Fld := ⟨0x800084, 8, 8⟩
def tbnTimer_nackHold : Fld := ⟨0x800084, 16, 8⟩
def tbnTimer_ctrlHold : Fld := ⟨0x800084, 24, 8⟩
def tbnCc_betaShift : Fld := ⟨0x800088, 0, 3⟩
def tbnCc_decGap : Fld := ⟨0x800088, 3, 8⟩
def tbnCc_incPeriod : Fld := ⟨0x800088, 11, 8⟩
def tbnCc_aiStep : Fld := ⟨0x800088, 19, 7⟩
def tbnCc_fastN : Fld := ⟨0x800088, 26, 4⟩
def tbnCc_en : Fld := ⟨0x800088, 30, 1⟩
def tbnCcMin_rmin : Fld := ⟨0x80008C, 0, 10⟩
def tbnCcMin_cnpGap : Fld := ⟨0x80008C, 16, 10⟩
def tbnConnIdle_idle : Fld := ⟨0x800090, 0, 8⟩
def tbnAssistOp : Fld := ⟨0x8000A0, 0, 32⟩
def tbnAssistPeer (j : Nat) : Fld := ⟨0x8000A4 + 0x4 * j, 0, 32⟩
def tbnAssistPaths : Fld := ⟨0x8000AC, 0, 24⟩
def tbnChainOp : Fld := ⟨0x801080, 0, 32⟩
def tbnChainPkg (j : Nat) : Fld := ⟨0x801084 + 0x4 * j, 0, 32⟩
def tbnChainNeed : Fld := ⟨0x80108C, 0, 32⟩
def tbnChainAvail : Fld := ⟨0x801090, 0, 32⟩
def tbnAddrSel_entry : Fld := ⟨0x802080, 0, 2⟩
def tbnAddrCfg_valid : Fld := ⟨0x802084, 0, 1⟩
def tbnAddrCfg_family : Fld := ⟨0x802084, 1, 1⟩
def tbnAddrCfg_prefix : Fld := ⟨0x802084, 8, 7⟩
def tbnAddr (j : Nat) : Fld := ⟨0x802090 + 0x4 * j, 0, 32⟩
def tbnGw (j : Nat) : Fld := ⟨0x8020A0 + 0x4 * j, 0, 32⟩
def tbnTxPkts : Fld := ⟨0x803080, 0, 32⟩
def tbnRxPkts : Fld := ⟨0x803084, 0, 32⟩
def tbnRetx : Fld := ⟨0x803088, 0, 32⟩
def tbnCrcFail : Fld := ⟨0x80308C, 0, 32⟩
def tbnDup : Fld := ⟨0x803090, 0, 32⟩
def tbnOutWin : Fld := ⟨0x803094, 0, 32⟩
def tbnStale : Fld := ⟨0x803098, 0, 32⟩
def tbnLateCtrl : Fld := ⟨0x80309C, 0, 32⟩
def tbnRxBad : Fld := ⟨0x8030A0, 0, 32⟩
def tbnNotReady : Fld := ⟨0x8030A4, 0, 32⟩
def tbnCnpTx : Fld := ⟨0x8030A8, 0, 32⟩
def tbnCnpRx : Fld := ⟨0x8030AC, 0, 32⟩
def tbnConns : Fld := ⟨0x8030B0, 0, 15⟩
def tbnConnSel_id : Fld := ⟨0x804080, 0, 24⟩
def tbnConn (j : Nat) : Fld := ⟨0x804084 + 0x4 * j, 0, 32⟩
def tbnConn2_ver : Fld := ⟨0x80408C, 0, 4⟩
def tbnConn2_payload : Fld := ⟨0x80408C, 4, 8⟩
def tbnConn2_paths : Fld := ⟨0x80408C, 12, 8⟩
def tbnConn2_unacked : Fld := ⟨0x80408C, 20, 12⟩
def tbnConn3_rate : Fld := ⟨0x804090, 0, 16⟩
def colDomain_id : Fld := ⟨0x900080, 0, 16⟩
def colDomain_en : Fld := ⟨0x900080, 16, 1⟩
def colDomain_spare : Fld := ⟨0x900080, 17, 1⟩
def colHb_period : Fld := ⟨0x900084, 0, 8⟩
def colHb_suspect : Fld := ⟨0x900084, 8, 8⟩
def colHb_remove : Fld := ⟨0x900084, 16, 10⟩
def colEpoch : Fld := ⟨0x900088, 0, 32⟩
def colRole_role : Fld := ⟨0x90008C, 0, 2⟩
def colRole_records : Fld := ⟨0x90008C, 2, 11⟩
def colKeeper (j : Nat) : Fld := ⟨0x900090 + 0x4 * j, 0, 32⟩
def colCfg_acrMin : Fld := ⟨0x900098, 0, 11⟩
def colCfg_segMax : Fld := ⟨0x900098, 11, 7⟩
def colWakeToken (j : Nat) : Fld := ⟨0x9000A0 + 0x4 * j, 0, 32⟩
def colCtrl_leave : Fld := ⟨0x9000A8, 0, 1⟩
def colCtrl_forget : Fld := ⟨0x9000A8, 1, 1⟩
def colAssistOp : Fld := ⟨0x9000C0, 0, 32⟩
def colAssistKind : Fld := ⟨0x9000C4, 0, 2⟩
def colAssistDev (j : Nat) : Fld := ⟨0x9000C8 + 0x4 * j, 0, 32⟩
def colAssistDec : Fld := ⟨0x9000D0, 0, 2⟩
def colAssistSpare (j : Nat) : Fld := ⟨0x9000D4 + 0x4 * j, 0, 32⟩
def colRstSel_index : Fld := ⟨0x901080, 0, 10⟩
def colRst (j : Nat) : Fld := ⟨0x901084 + 0x4 * j, 0, 32⟩
def colSeed_valid (j : Nat) : Fld := ⟨0x901400 + 0x20 * j, 0, 1⟩
def colSeed_family (j : Nat) : Fld := ⟨0x901400 + 0x20 * j, 1, 1⟩
def colSeedAddr0 (j : Nat) : Fld := ⟨0x901410 + 0x20 * j, 0, 32⟩
def colSeedAddr1 (j : Nat) : Fld := ⟨0x901414 + 0x20 * j, 0, 32⟩
def colSeedAddr2 (j : Nat) : Fld := ⟨0x901418 + 0x20 * j, 0, 32⟩
def colSeedAddr3 (j : Nat) : Fld := ⟨0x90141C + 0x20 * j, 0, 32⟩
def colGrpSel_group : Fld := ⟨0x902080, 0, 12⟩
def colGrpCfg_valid : Fld := ⟨0x902084, 0, 1⟩
def colGrpCfg_owner : Fld := ⟨0x902084, 1, 4⟩
def colGrpCfg_job : Fld := ⟨0x902084, 5, 3⟩
def colGrpCfg_sizeM1 : Fld := ⟨0x902084, 8, 8⟩
def colGrpCfg_myRank : Fld := ⟨0x902084, 16, 8⟩
def colGrpCfg_subst : Fld := ⟨0x902084, 24, 1⟩
def colGrpState_q : Fld := ⟨0x902088, 0, 8⟩
def colGrpEpoch : Fld := ⟨0x90208C, 0, 32⟩
def colMpart (j : Nat) : Fld := ⟨0x902100 + 0x4 * j, 0, 32⟩
def colMember (j : Nat) : Fld := ⟨0x902800 + 0x4 * j, 0, 32⟩
def colLayout (j : Nat) : Fld := ⟨0x903080 + 0x4 * j, 0, 16⟩
def colTagSel : Fld := ⟨0x9030A0, 0, 14⟩
def colTag (j : Nat) : Fld := ⟨0x9030A4 + 0x4 * j, 0, 32⟩
def colRedTx : Fld := ⟨0x9030C0, 0, 32⟩
def colRedRx : Fld := ⟨0x9030C4, 0, 32⟩
def colBadRank : Fld := ⟨0x9030C8, 0, 32⟩
def colTagReuse : Fld := ⟨0x9030CC, 0, 32⟩
def colTagFull : Fld := ⟨0x9030D0, 0, 32⟩
def rngSeed0 (j : Nat) : Fld := ⟨0xA00080 + 0x20 * j, 0, 32⟩
def rngSeed1 (j : Nat) : Fld := ⟨0xA00084 + 0x20 * j, 0, 32⟩
def rngSeed2 (j : Nat) : Fld := ⟨0xA00088 + 0x20 * j, 0, 32⟩
def rngSeed3 (j : Nat) : Fld := ⟨0xA0008C + 0x20 * j, 0, 32⟩
def rngSeedChk (j : Nat) : Fld := ⟨0xA00090 + 0x20 * j, 0, 32⟩
def rngSeedGen (j : Nat) : Fld := ⟨0xA00094 + 0x20 * j, 0, 32⟩

end Sys2Proof.Machine.F
end

