-- ==== Sys2Proof/Machine/Maps.lean ====
section
/-! DEFINITION. Finite tables and byte memories as lists in one canonical form: keys strictly rising, and in a table
with a default no entry equal to what an unlisted key reads as. -/

namespace Sys2Proof.Machine

/-- The entry listed under a key. -/
def mapLook {α : Type} : List (Nat × α) → Nat → Option α
  | [], _ => none
  | (k, v) :: m, q => if q = k then some v else mapLook m q

/-- The table with one entry written, keys kept in order. -/
def mapPut {α : Type} : List (Nat × α) → Nat → α → List (Nat × α)
  | [], q, x => [(q, x)]
  | (k, v) :: m, q, x =>
    if q = k then (q, x) :: m
    else if q < k then (q, x) :: (k, v) :: m
    else (k, v) :: mapPut m q x

/-- The table with one entry removed. -/
def mapDel {α : Type} (m : List (Nat × α)) (q : Nat) : List (Nat × α) := m.filter (fun e => e.1 != q)

/-- The value under a key, or what an unlisted key reads as. -/
def mapGet {α : Type} (d : α) (m : List (Nat × α)) (q : Nat) : α := (mapLook m q).getD d

/-- Write a value; the default value is not listed. -/
def mapSet {α : Type} [DecidableEq α] (d : α) (m : List (Nat × α)) (q : Nat) (x : α) : List (Nat × α) :=
  if x = d then mapDel m q else mapPut m q x

/-- Apply a function to the entry under a key, if there is one. -/
def mapUpd {α : Type} (m : List (Nat × α)) (q : Nat) (f : α → α) : List (Nat × α) :=
  match mapLook m q with
  | some v => mapPut m q (f v)
  | none => m

/-- Keys are strictly rising. -/
def mapSorted {α : Type} : List (Nat × α) → Bool
  | [] => true
  | [_] => true
  | (a, _) :: (b, y) :: m => decide (a < b) && mapSorted ((b, y) :: m)

/-- Canonical form of a table whose unlisted keys read as `d`. -/
def mapWf {α : Type} [DecidableEq α] (d : α) (m : List (Nat × α)) : Bool :=
  mapSorted m && m.all (fun e => decide (e.2 ≠ d))

/-- A byte memory: a canonical list of cells, unlisted bytes read zero (10_tiers_and_street_index.md R218 for the tiers). -/
abbrev Memory := List Host.Cell

/-- The canonical form of a memory. -/
def Memory.wf (m : Memory) : Bool := mapWf (0 : Byte) m

/-- Read one byte. -/
def Memory.read (m : Memory) (a : Nat) : Byte := mapGet 0 m a

/-- Write one byte. -/
def Memory.write (m : Memory) (a : Nat) (b : Byte) : Memory := mapSet 0 m a b

/-- Read `k` bytes from an address up. -/
def Memory.readBytes (m : Memory) (a : Nat) : Nat → List Byte
  | 0 => []
  | k + 1 => m.read a :: m.readBytes (a + 1) k

/-- Write bytes from an address up. -/
def Memory.writeBytes (m : Memory) (a : Nat) : List Byte → Memory
  | [] => m
  | b :: bs => (m.write a b).writeBytes (a + 1) bs

end Sys2Proof.Machine
end

