-- ==== Sys2Proof/Machine/State.lean ====
section
/-! DEFINITION. The state of the device: plain data, one structure per block of the device, the queue of waiting commands
beside them, and the state right after a D4 reset. -/

namespace Sys2Proof.Machine

/-- Why the machine stops. No command of the table stops with a fault on ordinary data; the constructor is here so that the
outcome type is complete. -/
inductive Fault
  /-- Raised by no meaning: every open value of the spec is a free value and every error it describes is recorded in the
  state. Safe. -/
  | unreachable
  deriving DecidableEq, Repr

/-- Why a command has no meaning. -/
inductive Refusal
  /-- Raised by an arm of `exec` whose command is not modelled yet. Safe: nothing is claimed of it. -/
  | notModelled (mnemonic : String)
  deriving DecidableEq, Repr

/-- What leaves the device (the model's own record of it; the world outside is not state). -/
inductive OutKind
  | hostWrite | completion | msix | frame | packet | ctrl | lldp | ptp | aer | spdm | doe | pldm | wake | pfc | alert | icmp | arp
  | pcieConfig | bar2
  deriving DecidableEq, Repr

/-- One thing that left the device: its kind, where it went, its fields as numbers and its bytes. -/
structure Output where
  kind : OutKind
  dest : Nat
  data : List Nat
  bytes : List Byte
  deriving DecidableEq, Repr

/-- The command, step and layer that caused an event (18_faults_resets_dumps.md R411). -/
structure Cause where
  step : Nat := 0
  layer : Nat := 0
  job : Nat := 0
  attempt : Nat := 0
  deriving DecidableEq, Repr

/-- One record of the event log (18_faults_resets_dumps.md R411, table Event record). -/
structure EventRec where
  stamp : Nat
  ident : Nat
  bit : Nat
  vf : Bool
  status : Nat
  seq : Nat
  cause : Cause
  logSeq : Nat
  deriving DecidableEq, Repr

/-- One Street Index entry (10_tiers_and_street_index.md R235, table Street Index entry). -/
structure SixEntry where
  kind : Nat := 0
  state : Nat := 0
  owner : Nat := 0
  job : Nat := 0
  gen : Nat := 1
  parent : Nat := 0
  start : Nat := 0
  change : Nat := 0
  object : Nat := 0
  status : Nat := 0
  queue : Nat := 0
  deriving DecidableEq, Repr

/-- One physical unit of the spare map (01_one_step_through_the_device.md R25; 18_faults_resets_dumps.md R396 to R398).
`role` is as in CCR_MAP: 0 active, 1 reserve, 2 self-test, 3 closed, 4 retired. -/
structure PhysUnit where
  role : Nat
  closures : List Nat := []
  faults : List Nat := []
  /-- Stamp of the last closure; start of the full self-test plus one (R397), 0 while none runs. -/
  testFrom : Nat := 0
  full : Nat := 0
  deriving DecidableEq, Repr

/-- One approval record of spare substitution (R31). -/
structure SprRec where
  handle : Nat
  ident : Nat
  kind : Nat
  detail : Nat
  utype : Nat
  logical : Nat
  deriving DecidableEq, Repr

/-- A reset in progress: its domain 0 to 3, the unit it covers and its start stamp. -/
structure ResetRun where
  dom : Nat
  unit : Nat
  start : Nat
  deriving DecidableEq, Repr

/-- The spare map and units. Identities are keyed `type * 256 + logical`, units `type * 256 + physical`; types are those of
SPR_MAP_SEL. -/
structure Spares where
  /-- Changed identities: physical unit + 1, or 0 for unmapped; an unlisted identity is on its original unit. -/
  map : List (Nat × Nat) := []
  units : List (Nat × PhysUnit) := []
  recs : List SprRec := []
  /-- Failures waiting for a free approval record, oldest first: (ident, kind, detail, type, logical). -/
  waiting : List SprRec := []
  /-- Identities approved but with no reserve free. -/
  approved : List Nat := []
  /-- Identities whose record the host declined. -/
  declined : List Nat := []
  resets : List ResetRun := []
  deriving DecidableEq, Repr

/-- The Street Index (R235 to R239). -/
structure SixState where
  entries : List (Nat × SixEntry) := []
  /-- Spill slots in use (R238). -/
  spill : List (Nat × SixEntry) := []
  spillNext : Nat := 0
  /-- Entries in use per owner, 0 to 7 partitions, 8 the device. -/
  use : List (Nat × Nat) := []
  /-- Rows marked for repair (R239), and rows already mapped to a reserve row. -/
  badRows : List Nat := []
  repaired : List Nat := []
  /-- INDEX_PRESSURE has been raised and SIX_FREE has not since risen above 16,384. -/
  pressed : Bool := false
  deriving DecidableEq, Repr

/-- The Signpost beyond its registers (17_host_link_and_signpost.md R385 to R390). -/
structure EvtState where
  /-- Enabled sources whose line has risen and not yet been latched. -/
  edges : List Nat := []
  /-- Sources in service, most recent first. -/
  service : List Nat := []
  deriving DecidableEq, Repr

/-- One part of a command in execution (03_klotchaex_command_stream.md R81). -/
structure Part where
  /-- Logical unit the part runs on, within its type; `utype` as in SPR_MAP_SEL, 255 for the queue processor itself. -/
  utype : Nat := 255
  unit : Nat := 0
  handle : Nat := 0
  start : Nat := 0
  /-- Hang bound in qns; 0 for none (R83). -/
  bound : Nat := 0
  /-- The part's work has been done and waits for its end. -/
  ran : Bool := false
  ended : Bool := false
  /-- 0 while the part has not failed. -/
  status : Nat := 0
  endStamp : Nat := 0
  /-- First informational status raised. -/
  info : Nat := 0
  work : Nat := 0
  /-- The stamp, plus one, since which a wait has stopped the bound's clock; 0 while it runs (12_step_ledger.md R281). -/
  held : Nat := 0
  /-- The first of the part's two phases is done: slicing (08_slice_precision.md R166) or scoring (09_arcade_engines.md R198). -/
  half : Bool := false
  deriving DecidableEq, Repr

/-- A started command of a queue that has not completed. -/
structure CmdEx where
  /-- Free-running ring count. -/
  count : Nat
  cmd : Cmd
  start : Nat
  handle : Nat
  parts : List Part
  /-- Layer run it belongs to; 0 none. -/
  run : Nat := 0
  /-- Its parts have all ended; its signals and record wait for the layer to drain. -/
  fin : Bool := false
  /-- Number of the execution, 0 for the first (R162). -/
  again : Nat := 0
  /-- Beacons sent so far (R84). -/
  beacons : Nat := 0
  /-- Status of a command that never started: rejected, or discarded by the step check (R66, R75). -/
  preset : Option Nat := none
  discarded : Bool := false
  /-- A destination lies in scratch (R80). -/
  scratch : Bool := false
  /-- Slots of a WAIT already satisfied (R71). -/
  waits : Nat := 0
  /-- A step-scoped command of this attempt's step. -/
  step : Bool := false
  /-- Weight-set bindings of a command with FLAGS.STEP = 0 (16_weights_and_partitions.md R364): base-4 digit `s` is 0 for
  none, 1 for slot 0, 2 for slot 1 of set `s`. -/
  binds : Nat := 0
  endStamp : Nat := 0
  deriving DecidableEq, Repr

/-- A layer run of a queue (R77). -/
structure LayerRun where
  id : Nat
  layer : Nat
  size : Nat
  ended : Bool := false
  /-- Repeats made (R162). -/
  repeats : Nat := 0
  /-- Format added by widening. -/
  wider : Bool := false
  flagged : Bool := false
  firstStart : List (Nat × Nat) := []
  copies : List (Nat × Cmd) := []
  /-- Ring counts fetched beyond the 4,096th of the run. -/
  excess : List Nat := []
  /-- Step-scoped objects that commands of the layer read: held from eviction until it drains (R78). -/
  held : List Nat := []
  /-- The command and part of the execution's first report (07_formats_and_scaling.md R161). -/
  reporter : Nat := 0
  reportPart : Nat := 0
  /-- A report failed the layer: nothing more of it starts until it has drained (R162). -/
  failed : Bool := false
  /-- Root entries of the commands of an earlier execution, and the commands whose header waits are satisfied, kept over a repeat. -/
  handles : List (Nat × Nat) := []
  waited : List Nat := []
  deriving DecidableEq, Repr

/-- A queue beyond its registers. -/
structure Queue where
  /-- Fetched and not started: (ring count, command, layer run). -/
  fetched : List (Nat × Cmd × Nat) := []
  exec : List CmdEx := []
  runs : List LayerRun := []
  nextRun : Nat := 1
  /-- Ring counts at or beyond Q_DONE whose records are written. -/
  done : List Nat := []
  /-- The head command's header wait has been satisfied (R71: it stays satisfied). -/
  waited : Bool := false
  /-- The head command first waited for index entries at this stamp, plus one; 0 not waiting (R237). -/
  indexWait : Nat := 0
  blockedAt : Nat := 0
  alarmed : Bool := false
  /-- Written 0 to ENABLE with commands still in execution. -/
  disabling : Bool := false
  /-- Disabled by FLR: records of commands in execution are not written (R60). -/
  noRecords : Bool := false
  /-- The (job-relative) step whose failure stopped the queue, plus one; 0 none (R76). -/
  stoppedBy : Nat := 0
  deriving DecidableEq, Repr

/-- The queue processors. -/
structure KqpState where
  queues : List (Nat × Queue) := []
  /-- Semaphores keyed `partition * 65536 + index`; unlisted are 0 (R70). -/
  sems : List (Nat × Nat) := []
  deriving DecidableEq, Repr

/-- Array state of the compute cores beyond their registers, by physical core (05_matrix_array.md R119, R124). -/
structure CcrState where
  /-- Cores whose array runs: stamp plus one of the end of its last part. -/
  on : List (Nat × Nat) := []
  /-- Cores under localisation after a checksum mismatch: the stamp of the mismatch. -/
  loc : List (Nat × Nat) := []
  /-- Stamp plus one of a core's last mismatch that localisation did not find. -/
  quiet : List (Nat × Nat) := []
  deriving DecidableEq, Repr

/-- One residency unit of an object: the whole object, or one tile (10_tiers_and_street_index.md R223, R224). States are the
codes of the table Residency states. -/
structure TUnit where
  t0 : Nat := 0
  t1 : Nat := 0
  t2 : Nat := 0
  /-- References on the T0 copy. -/
  ref0 : Nat := 0
  dirty0 : Bool := false
  /-- The T1 copy of this unit differs from its T2 copy. -/
  dirty1 : Bool := false
  /-- T0 byte address of the copy, and the region that holds it. -/
  base0 : Nat := 0
  rgn0 : Nat := 0
  /-- Tier an upward move reads from, plus one; 0 none. -/
  src : Nat := 0
  /-- Failed T2 reads so far, and the stamp of the reissue plus one (R232). -/
  tries : Nat := 0
  retryAt : Nat := 0
  /-- Stamp of the end of the last reference (R227). -/
  lastEnd : Nat := 0
  /-- Waiting for the host's assist doorbell (R226). -/
  assist : Nat := 0
  /-- The T1 copy is ARRIVING from REFILL (R219). -/
  refill : Bool := false
  /-- Handle of the upward move's Street Index entry. -/
  move : Nat := 0
  deriving DecidableEq, Repr

/-- A T0 copy that a flip made LEAVING and that references still hold (R220). -/
structure OldCopy where
  unit : Nat
  base0 : Nat
  rgn0 : Nat
  refs : Nat
  deriving DecidableEq, Repr

/-- One object of the residency directory (R217). -/
structure Obj where
  gen : Nat
  live : Bool := true
  sizeL : Nat
  kind : Nat
  attr : Nat
  keep : Nat := 0
  tiled : Bool := false
  owner : Nat
  job : Nat := 0
  stack : Nat := 7
  fmt : Nat := 0x1F
  /-- Size in lines before a repeat widened the object; 0 when it is not widened (07_formats_and_scaling.md R163). -/
  wasL : Nat := 0
  cur : Nat := 0
  ref1 : Nat := 0
  wset : Nat := 0
  /-- T1 extents of buffer A (or the only T1 copy), and of buffer B. -/
  extA : List Nat := []
  extB : List Nat := []
  t2Addr : Nat := 0
  units : List (Nat × TUnit) := []
  old : List OldCopy := []
  /-- Inactive buffer poisoned flags are kept per buffer for COMMITTED objects: bit 0 A, bit 1 B. -/
  bufPoison : Nat := 0
  /-- The copy's package entry has PROTECTED = 1 (16_weights_and_partitions.md R371). -/
  prot : Bool := false
  /-- An alias of an assisted UPDATE (11_acrek_update.md R260): 0 none, 1 IN, 2 OUT. -/
  alias_ : Nat := 0
  deriving DecidableEq, Repr

/-- A reference a part holds: (queue, ring count, part), object key, unit, old copy (R220, R226). -/
structure TRef where
  q : Nat
  count : Nat
  part : Nat
  obj : Nat
  unit : Nat
  old : Bool := false
  deriving DecidableEq, Repr

/-- A reference that waits for its unit to arrive. -/
structure TWait where
  q : Nat
  count : Nat
  part : Nat
  obj : Nat
  unit : Nat
  deriving DecidableEq, Repr

/-- A waiting residency work record (R226). -/
structure TirRec where
  handle : Nat
  obj : Nat
  unit : Nat
  deriving DecidableEq, Repr

/-- The tier manager. Objects are keyed `owner * 2^20 + INDEX`, owner 8 for the shared pool (R216). -/
structure TirState where
  objs : List (Nat × Obj) := []
  /-- T1 extents in use. -/
  extUsed : List (Nat × Nat) := []
  refs : List TRef := []
  waits : List TWait := []
  recs : List TirRec := []
  /-- Stacks retired (R214). -/
  retired : List Nat := []
  /-- T2 writes of this unit in progress are tagged here: (object key, unit, tier left). -/
  writeBacks : List (Nat × Nat × Nat) := []
  /-- HBM sectors poisoned (R212). -/
  badSectors : List Nat := []
  scrubAt : List (Nat × Nat) := []
  deriving DecidableEq, Repr

/-- One Market region (04_market.md R95). -/
structure Region where
  base : Nat
  count : Nat
  attr : Nat
  owner : Nat
  job : Nat := 0
  stepTag : Nat := 0
  fill : Bool := false
  deriving DecidableEq, Repr

/-- One entry of the bank map (R100). State: 0 NORMAL, 1 COPYING, 2 REPLACED, 3 CLOSED. -/
structure Bank where
  phys : Nat
  state : Nat := 0
  /-- Corrected errors in the present scrub period. -/
  ce : Nat := 0
  target : Nat := 0
  deriving DecidableEq, Repr

/-- The Market (04_market.md). -/
structure MktState where
  regions : List (Nat × Region) := []
  banks : List (Nat × Bank) := []
  /-- Physical reserve banks taken. -/
  taken : List Nat := []
  /-- Poisoned lines, as A[29:6]. -/
  poison : List Nat := []
  /-- Closed bank groups: the granules whose number modulo 64 they are have left allocation (R101). -/
  closed : List Nat := []
  deriving DecidableEq, Repr

/-- One ledger record (12_step_ledger.md R262, table Ledger record). -/
structure LedgerRec where
  step : Nat
  attempt : Nat
  state : Nat
  flipped : Bool := false
  ckpt : Bool := false
  ckptHost : Bool := false
  restored : Bool := false
  job : Nat
  reason : Nat := 0
  reasonRank : Nat := 0xFFFF
  tOpen : Nat := 0
  tSeal : Nat := 0
  tVote : Nat := 0
  tDecide : Nat := 0
  tEnd : Nat := 0
  tFlip : Nat := 0
  rosterEpoch : Nat := 0
  layoutEpoch : Nat := 0
  coord : Nat := 0
  term : Nat := 0
  seedChk : Nat := 0
  seedGen : Nat := 0
  cursor : Nat := 0
  /-- The 32 bytes of the vote digest. -/
  digest : List Byte := []
  g2 : Nat := 0
  l2 : Nat := 0
  bNoise : Nat := 0
  updates : Nat := 0
  repeats : Nat := 0
  degen : Nat := 0
  frozen : Nat := 0
  stallUs : Nat := 0
  votes : Nat := 0
  writeBytes : Nat := 0
  deriving DecidableEq, Repr

/-- A vote or an answer held for the newest attempt. -/
structure Vote where
  rank : Nat
  ready : Bool
  reason : Nat := 0
  reasonRank : Nat := 0xFFFF
  digest : List Byte := []
  deriving DecidableEq, Repr

/-- A decision for the newest attempt: T is T_commit or the decision stamp. -/
structure Decision where
  commit : Bool
  t : Nat
  decided : Nat
  reason : Nat := 0
  reasonRank : Nat := 0xFFFF
  rank : Nat
  term : Nat
  deriving DecidableEq, Repr

/-- An image being drained (R280). -/
structure Drain where
  image : Image
  /-- Chunk handles not yet acknowledged, and whether the local copy has ended. -/
  left : Nat
  handles : List Nat := []
  localDone : Bool := false
  hostWait : Bool := false
  deriving DecidableEq, Repr

/-- What the ledger keeps of one job beyond its registers. -/
structure JobState where
  ring : List (Nat × LedgerRec) := []
  opened : Bool := false
  /-- RESTORE of this step has just completed, plus one. -/
  restored : Nat := 0
  sealUpdates : Nat := 0
  voteWork : Nat := 0
  updatesDone : Nat := 0
  /-- A failure of a command of the newest attempt: status and rank, before the vote. -/
  failWith : Option (Nat × Nat) := none
  voted : Bool := false
  ckptPending : Nat := 0
  votes : List Vote := []
  answers : List (Nat × Bool) := []
  answerDecision : Option Decision := none
  /-- Start of the vote bound plus one; 0 not started (R269). -/
  boundFrom : Nat := 0
  boundRaised : Bool := false
  term : Nat := 0
  coordRank : Nat := 0
  /-- Ranks counted silent in the newest attempt (R270). -/
  silent : List Nat := []
  heard : Nat := 0
  /-- Stamp of the next HOLD (R268). -/
  holdNext : Nat := 0
  querying : Bool := false
  decision : Option Decision := none
  /-- Master handles and written bytes of the attempt's write set (11_acrek_update.md R251). -/
  writeSet : List Nat := []
  /-- Objects the flip toggles. -/
  flips : List Nat := []
  statSlots : List (Nat × Nat) := []
  drain : Option Drain := none
  waitingStep : Option LedgerRec := none
  localImgs : List Image := []
  recvImgs : List Image := []
  /-- Ranks whose PARK has not been answered by UNPARK, and the stamp of the first. -/
  parked : List Nat := []
  parkedAt : Nat := 0
  /-- Handle of the waiting assist record; 0 none. -/
  assist : Nat := 0
  stallNext : Nat := 0
  /-- Stamp plus one since which an UPDATE waits for an image; 0 none (R281). -/
  stallFrom : Nat := 0
  /-- Weight-set bindings of the attempt (R364). -/
  binds : Nat := 0
  redSeen : Bool := false
  /-- READY when a D3 reset came: the decision is asked of the group (R288). -/
  recovering : Bool := false
  seed : Nat := 0
  deriving DecidableEq, Repr

/-- The Step Ledger. -/
structure LdgState where
  jobs : List (Nat × JobState) := []
  deriving DecidableEq, Repr


/-- A dump: collected or in progress (18_faults_resets_dumps.md R406 to R410). -/
structure Dump where
  slot : Nat
  trigger : Nat
  status : Nat
  ident : Nat
  stop : Nat := 0
  logFirst : Nat := 0
  /-- Units named by triggers: suspects. -/
  suspects : List Nat := []
  /-- Sections asked so far: PG_IDENT and state (0 PRESENT, 1 ABSENT, 2 SKIPPED_RESET). -/
  sections : List (Nat × Nat) := []
  assist : Nat := 0
  deriving DecidableEq, Repr

/-- A unit under the rolling self-test (R394): type and physical number, the logical number it held plus one, the test's start plus one
(0 while it waits for its boundary), whether it is tested in place, slices run and the stamp of the last. -/
structure Testing where
  utype : Nat
  phys : Nat
  logical : Nat := 0
  start : Nat := 0
  inPlace : Bool := false
  slices : Nat := 0
  sliceAt : Nat := 0
  deriving DecidableEq, Repr

/-- Health, dumps and self-test beyond the HLT registers. -/
structure HltState where
  cur : Option Dump := none
  slots : List (Nat × Dump) := []
  copying : Option Nat := none
  /-- Chunk selected: unit, chunk, ABSENT. -/
  chunk : Option (Nat × Nat × Bool) := none
  /-- Units under self-test, or about to be. -/
  testing : List Testing := []
  /-- Start of the last round, and the round that starts next; a round of the present cycle has started. -/
  roundAt : Nat := 0
  nextRound : Nat := 0
  begun : Bool := false
  /-- Start stamps of recent D3 resets, in the always-on domain (R402). -/
  d3Starts : List Nat := []
  /-- Monitor faults (R392): the monitor's key and the stamp plus one at which the reset it caused ended; 0 while it runs. -/
  monitors : List (Nat × Nat) := []
  /-- A D3 lowered pool limits: QUOTA_CLIPPED is owed at its completion (R97). -/
  clipOwed : Bool := false
  deriving DecidableEq, Repr

/-- A message of a weight chain that is arriving: its number in the chain (0 the tables, 1 + i chunk i), its length, the byte ranges that
have come, and the bytes. -/
structure ChainMsg where
  no : Nat
  len : Nat
  got : List (Nat × Nat) := []
  data : List Host.Cell := []
  deriving DecidableEq, Repr

/-- A LOAD_WPK in execution (16_weights_and_partitions.md R366 to R370). -/
structure Load where
  q : Nat
  i : Nat
  set_ : Nat
  slot : Nat
  group : Nat
  /-- Ranks before and after this device in the chain; none for the root and for the last. -/
  pred : Option Nat := none
  succ : Option Nat := none
  assisted : Bool := false
  /-- Package header and tables, once obtained. -/
  tables : List Byte := []
  /-- Content key, once unwrapped; [] before, and after the load has ended. -/
  key : List Byte := []
  /-- Object table: directory key of the copy, PLAIN_OFF, SIZE. -/
  items : List (Nat × Nat × Nat) := []
  stage : Nat := 0
  /-- Messages arriving; records that have arrived and wait for decryption; numbers that have arrived; chunks that have passed. -/
  recv : List ChainMsg := []
  records : List (Nat × List Byte) := []
  have_ : List Nat := []
  passed : List Nat := []
  /-- Messages sent on and not yet acknowledged, with their Street Index entries. -/
  sent : List Nat := []
  handles : List (Nat × Nat) := []
  /-- Stamp from which a wait for the predecessor counts. -/
  since : Nat := 0
  /-- The own load has ended; the first failure of load or forwarding; forwarding has failed. -/
  ended : Bool := false
  status : Nat := 0
  broken : Bool := false
  /-- ASSIST: chunks present in host memory as last told, and the work record's handle. -/
  avail : Nat := 0
  handle : Nat := 0
  deriving DecidableEq, Repr

/-- Weight sets beyond their registers (16_weights_and_partitions.md R362 to R371). -/
structure WsetState where
  /-- Defined sets, in ascending order. -/
  defined : List Nat := []
  /-- PKG_ID of each slot's package, keyed set * 2 + slot. -/
  pkgs : List (Nat × Nat) := []
  /-- The last swap of a set: its stamp plus one, and the slot that was CURRENT before (0 none, 1 slot 0, 2 slot 1). -/
  swapped : List (Nat × Nat × Nat) := []
  loads : List Load := []
  deriving DecidableEq, Repr


/-- A group's statistics record (11_acrek_update.md, table ACR_GRP_STATS), with the quiet watch's latch. -/
structure GrpStats where
  w2 : Nat := 0
  d2 : Nat := 0
  ratio : Nat := 0
  quiet : Nat := 0
  zero : Nat := 0
  degen : Nat := 0
  frozen : Nat := 0
  /-- QUIET_GROUP has been raised in this run (R164). -/
  fired : Bool := false
  deriving DecidableEq, Repr

/-- What one UPDATE of the attempt leaves for R255: job, group, master handle, W2 and D2 as FP64 codes. -/
structure AcrSum where
  job : Nat
  group : Nat
  master : Nat
  w2 : Nat
  d2 : Nat
  deriving DecidableEq, Repr

/-- An open assist work record of an UPDATE (R260): its handle, its command, the keys of its IN and OUT aliases and of the
committed objects behind them. -/
structure AcrAssist where
  handle : Nat
  q : Nat
  i : Nat
  aliases : List (Nat × Nat × Nat)
  deriving DecidableEq, Repr

/-- The Acrek units beyond their registers. Group tables are keyed `job * 4096 + group` and hold bytes 16 to 63 of the
GROUP_CFG body as a number. -/
structure AcrState where
  pending : List (Nat × Nat) := []
  current : List (Nat × Nat) := []
  stats : List (Nat × GrpStats) := []
  sums : List AcrSum := []
  /-- Bytes of the norm record that the attempt's UPDATEs read, by job. -/
  norms : List (Nat × List Byte) := []
  assist : List (Nat × AcrAssist) := []
  /-- Near-memory window: stack and the stamp it was taken; stack and the end of its gap (R241). -/
  window : List (Nat × Nat) := []
  gap : List (Nat × Nat) := []
  deriving DecidableEq, Repr


/-- An entry of the group table as it is in effect (15_groups_and_collectives.md R341). -/
structure Grp where
  owner : Nat := 0
  job : Nat := 0
  size : Nat := 1
  members : List Nat := []
  parts : List Nat := []
  subst : Bool := false
  deriving DecidableEq, Repr

/-- A roster record with its addresses (R331, table Roster record). ROLE 0 MEMBER, 1 SPARE, 2 KEEPER; STATE 0 LIVE,
1 SUSPECT, 2 SLEEPING, 3 WAKING. `families` has bit a set where address a is IPv6. -/
structure RosterRec where
  role : Nat := 0
  state : Nat := 0
  addrs : List Nat := []
  families : Nat := 0
  labels : Nat := 0
  joined : Nat := 0
  deriving DecidableEq, Repr

/-- A shard tag (R354): destination key, version, layout epoch and job. -/
structure Tag where
  obj : Nat
  handle : Nat
  version : Nat
  epoch : Nat
  job : Nat
  deriving DecidableEq, Repr

/-- A quote the keeper has asked for (R435). -/
structure QuoteReq where
  device : Nat
  nonce : List Byte
  at_ : Nat
  parts : List (Nat × List Byte) := []
  count : Nat := 0
  join : List Byte
  deriving DecidableEq, Repr

/-- A spare being woken (R339): the spare, the device it replaces, the start of the try and the last wake frame. -/
structure Waking where
  spare : Nat
  gone : Nat
  since : Nat
  last : Nat
  deriving DecidableEq, Repr

/-- A transfer of a collective: the other rank, which buffer it concerns (0 the vector that is reduced or gathered, 1 SRC, 2 DST,
3 COUNTS, 4 STATS, 5 none), first byte and bytes. -/
structure Xfer where
  rank : Nat
  buf : Nat
  off : Nat
  len : Nat
  deriving DecidableEq, Repr

/-- One step of a collective's schedule: what is sent and received, whether a received range is added in or placed, and copies
within the device (from buffer, offset, to buffer, offset, bytes). -/
structure CollStep where
  sends : List Xfer := []
  recvs : List Xfer := []
  add : Bool := false
  copies : List (Xfer × Xfer) := []
  deriving DecidableEq, Repr

/-- A posted receive: sender, segment index, where its bytes go, ranges already placed, the stamp its wait counts from, its Street
Index entry. -/
structure Posted where
  rank : Nat
  seg : Nat
  buf : Nat
  off : Nat
  len : Nat
  got : List (Nat × Nat) := []
  since : Nat
  add : Bool := false
  handle : Nat := 0
  done : Bool := false
  deriving DecidableEq, Repr

/-- A collective, SEND or RECV that has started and not ended (R343 to R351). -/
structure Coll where
  q : Nat
  i : Nat
  group : Nat
  seq : Nat
  epoch : Nat
  /-- Low 32 bits of the step id, 0 for FLAGS.STEP = 0. -/
  step : Nat := 0
  /-- Incoming segments are added by the Acrek units (R347). -/
  acr : Bool := false
  steps : List CollStep := []
  phase : Nat := 0
  begun : Bool := false
  posted : List Posted := []
  /-- Segments to send that wait for an entry, and those sent and not yet fully acknowledged: (rank, segment index). -/
  todo : List (Xfer × Nat) := []
  sent : List (Nat × Nat) := []
  /-- Segments so far to each rank, and from each rank. -/
  txSegs : List (Nat × Nat) := []
  rxSegs : List (Nat × Nat) := []
  segSize : Nat := 0
  /-- Receive staging for partial sums of chunks that are not the device's own. -/
  stage : Memory := []
  status : Nat := 0
  failRank : Nat := 0xFFFF
  /-- What the shard tags say of an ALLGATHER with VERSION at its start (R354): 0 gather, 1 reuse, 2 mismatch. -/
  early : Nat := 0
  deriving DecidableEq, Repr

/-- The collective block beyond its registers. -/
structure ColState where
  roster : List (Nat × RosterRec) := []
  grps : List (Nat × Grp) := []
  /-- Groups written and not yet in effect (R341). -/
  dirty : List Nat := []
  tags : List (Nat × Tag) := []
  colls : List Coll := []
  /-- Last HB received from each device, and the next SEQ to send. -/
  heard : List (Nat × Nat) := []
  hbSeq : Nat := 0
  hbNext : Nat := 0
  joinFrom : Nat := 0
  joinNext : Nat := 0
  /-- Parts of a FULL ROSTER received so far, for the epoch named. -/
  fullEpoch : Nat := 0
  fullParts : List (Nat × Bool × List Byte) := []
  quotes : List QuoteReq := []
  waking : Option Waking := none
  leaving : Bool := false
  /-- A refused JOIN is repeated only every 10 s (R331). -/
  refused : Bool := false
  /-- Devices that the keeper counts as silent after it (R334). -/
  passed : List Nat := []
  /-- Handle of the waiting work record, and decisions that wait for it: kind and device (R340). -/
  assist : Nat := 0
  assistQ : List (Nat × Nat) := []
  /-- Removed devices for which a spare has still to be found (R339). -/
  substQ : List Nat := []
  /-- WAKE_DONE messages whose epoch has not come: epoch, spare, replaced device. -/
  wakeDone : List (Nat × Nat × Nat) := []
  deriving DecidableEq, Repr



/-- A frame waiting in a transmit queue (13_fabric_ports.md R300): its queue, length in bytes, the device it is for (0 where the
frame is for no one device), what it is, and its fields and bytes as `Output` holds them. -/
structure Frame where
  queue : Nat
  len : Nat
  dest : Nat
  kind : OutKind
  data : List Nat := []
  bytes : List Byte := []
  deriving DecidableEq, Repr

/-- A port's neighbour entry (R306): chassis id, port id, the Welfaum TLV's bytes 4 to 24 where there is one, the management
addresses, and the stamp at which it expires. -/
structure Neighbour where
  chassis : List Byte
  port : List Byte
  tlv : List Byte := []
  mgmt : List (Nat × Nat) := []
  expires : Nat
  deriving DecidableEq, Repr

/-- A port beyond its registers (R292 to R307). -/
structure FabPort where
  txq : List Frame := []
  /-- Deficit counters of queues 4 to 1, and the place in that order of the queue whose turn it is (R301). -/
  deficit : List Nat := [0, 0, 0, 0]
  turn : Nat := 0
  /-- The queue whose turn it is has not yet been given its quantum. -/
  fresh : Bool := true
  /-- Frames of queue 0 sent lately: stamp and bytes. -/
  q0Sent : List (Nat × Nat) := []
  /-- Class: end of the pause in effect; class: start of the watchdog's time; class: end of the hold-off (R302, R303). -/
  pauseEnd : List (Nat × Nat) := []
  pauseFrom : List (Nat × Nat) := []
  holdEnd : List (Nat × Nat) := []
  /-- Classes for which the port has sent XOFF: stamp of the last. -/
  xoff : List (Nat × Nat) := []
  /-- Failures of each lane: lane and stamp (R295). -/
  laneFails : List (Nat × Nat) := []
  /-- Lanes that failed and wait for the host's approval or for the retraining. -/
  waiting : Bool := false
  /-- Egress stamps (R304), oldest first: message type, domain, sequence id, stamp. -/
  tsFifo : List (Nat × Nat × Nat × Nat) := []
  tsOver : Bool := false
  nbr : Option Neighbour := none
  lldpNext : Nat := 0
  /-- Content of the last LLDPDU sent (R305: a change of content sends one at once). -/
  lldpSent : List Byte := []
  /-- Rate tried now in chip-to-module mode and the start of the try (R292); rate of the last time the link was up. -/
  trying : Nat := 0
  tryFrom : Nat := 0
  /-- Highest rate of this start: 2 where the port took its alternative of boot stage S8. -/
  cap : Nat := 3
  lastRate : Nat := 0
  /-- Stamps of the echo replies of the last second (R299). -/
  echoes : List Nat := []
  /-- Stamps of rejected wake frames, and the end of the lockout (R307). -/
  wakeRej : List Nat := []
  wakeLock : Nat := 0
  deriving DecidableEq, Repr

/-- The ports. -/
structure FabState where
  ports : List (Nat × FabPort) := []
  deriving DecidableEq, Repr

/-- The fields that every packet of a message carries (14_tabnus_transport.md R310). -/
structure MsgHead where
  id : Nat := 0
  ctrl : Bool := false
  /-- Transmit queue. -/
  queue : Nat := 5
  epoch : Nat := 0
  step : Nat := 0
  group : Nat := 0
  rank : Nat := 0
  len : Nat := 0
  deriving DecidableEq, Repr

/-- A packet not yet acknowledged: `lost` is its state LOST, else it is SENT (R320). -/
structure TxPkt where
  psn : Nat
  path : Nat
  lost : Bool := false
  msg : Nat
  head : MsgHead
  off : Nat
  bytes : List Byte
  stamp : Nat
  unverified : Nat := 0
  /-- A NOT_READY came for it: its loss does not count toward its path (R316). -/
  noCount : Bool := false
  deriving DecidableEq, Repr

/-- A message being sent: its number in the model, its header fields, bytes not yet in a packet, the offset of the first of them,
packets not yet acknowledged, its Street Index entry, and the collective and rank it belongs to. -/
structure TxMsg where
  no : Nat
  head : MsgHead
  rest : List Byte
  off : Nat := 0
  open_ : Nat := 0
  handle : Nat := 0
  q : Nat := 0
  i : Nat := 0
  toRank : Nat := 0xFFFF
  /-- What the message is for beside a collective: 0 nothing, 1 a checkpoint chunk, 2 a weight-chain chunk. -/
  use : Nat := 0
  deriving DecidableEq, Repr

/-- A connection (R313, R314, R317, R319, R321, R326). -/
structure Conn where
  peer : Nat
  part : Nat
  peerPart : Nat
  remote : Nat := 0
  isOpen : Bool := false
  ver : Nat := 1
  payload : Nat := 0
  psn : Nat := 0
  pkts : List TxPkt := []
  msgs : List TxMsg := []
  ids : Nat := 0
  turn : Nat := 0
  /-- Cumulative point of what was received: every PSN below it has come; marks above it. -/
  cum : Nat := 0
  marks : List Nat := []
  /-- Packets received since the last ACK, the stamp of the first plus one, and STAMP of the last. -/
  unacked : Nat := 0
  ackFrom : Nat := 0
  ackStamp : Nat := 0
  /-- Missing PSNs and the stamps since which they are missing. -/
  holes : List (Nat × Nat) := []
  /-- Present value of the retransmission timer in qns, and the stamp it runs from. -/
  rto : Nat := 0
  rtoFrom : Nat := 0
  /-- R and A in Mb/s, quiet periods in a row, stamps plus one of the last CNP, decrease and period start. -/
  rate : Nat := 0
  step : Nat := 0
  quiet : Nat := 0
  cnpSent : Nat := 0
  decAt : Nat := 0
  quietFrom : Nat := 0
  helloAt : Nat := 0
  lastUse : Nat := 0
  /-- UNVERIFIED NACKs returned for a PSN (R325). -/
  crcNacks : List (Nat × Nat) := []
  deriving DecidableEq, Repr

/-- A path to a peer: whether it is EXCLUDED, consecutive losses, stamp of the last PROBE (R322). -/
structure PathSt where
  excluded : Bool := false
  losses : Nat := 0
  probeAt : Nat := 0
  deriving DecidableEq, Repr

/-- A peer device: the ports that reach it, the condition of its paths, the stamp plus one since which every path is EXCLUDED, and
the open assist record (R315, R322 to R324). -/
structure Peer where
  ports : List Nat := []
  paths : List (Nat × PathSt) := []
  gone : Nat := 0
  assist : Nat := 0
  /-- Roster epoch of its last HELLO. -/
  epoch : Nat := 0
  deriving DecidableEq, Repr

/-- A CTRL message held for its turn (R318). -/
structure HeldCtrl where
  stamp : Nat
  device : Nat
  msgId : Nat
  due : Nat
  body : List Byte
  deriving DecidableEq, Repr

/-- The transport. Connections are keyed by local id. -/
structure TbnState where
  conns : List (Nat × Conn) := []
  nextId : Nat := 1
  peers : List (Nat × Peer) := []
  held : List HeldCtrl := []
  /-- Order key of the last message delivered. -/
  last : Option (Nat × Nat × Nat) := none
  nextMsg : Nat := 1
  /-- Messages that wait for a connection at the limit (R313): peer, its partition, own partition, the message. -/
  waiting : List (Nat × Nat × Nat × TxMsg) := []
  limited : Bool := false
  deriving DecidableEq, Repr



/-- A stage entry of a boot record (19_boot_and_trust.md R418). ALT is 0 none, 1 alternative, 2 retired. -/
structure BootStage where
  attempts : Nat := 0
  result : Nat := 0
  alt : Nat := 0
  unit : Nat := 0
  stamp : Nat := 0
  duration : Nat := 0
  deriving DecidableEq, Repr

/-- A boot record entry. KIND is 0 cold, 1 warm, 2 MAINTENANCE, 3 ROM recovery. -/
structure BootEntry where
  bootNo : Nat
  tStart : Nat
  consec : Nat
  last : Nat := 0
  kind : Nat
  slot : Nat := 0
  stages : List BootStage
  deriving DecidableEq, Repr

/-- A signed configuration record (R422): the parts of it that a rule reads or writes. Units are keyed as in the spare map. -/
structure ConfigRec where
  seq : Nat := 0
  svn : Nat := 0
  hostSplit : Bool := false
  altMode : Bool := false
  baseMac : Nat := 0
  retired : List Nat := []
  hbm : List Nat := []
  coreRepair : List Word := []
  bankMap : List (Nat × Nat) := []
  groups : List Nat := []
  lanes : List Nat := []
  tsLat : List Word := []
  sixRows : List Nat := []
  train : List Byte := []
  valid : Bool := true
  deriving DecidableEq, Repr

/-- A firmware slot (R430): what its image's header says, and whether the image passes the checks. -/
structure FwSlot where
  svn : Nat := 0
  version : Nat := 0
  hash : List Byte := []
  good : Bool := true
  deriving DecidableEq, Repr

/-- An SPDM requester's transcript: its transport (function, or 9 for the sideband), bytes so far, and the version reached. -/
structure Spdm where
  who : Nat
  bytes : List Byte := []
  stage : Nat := 0
  deriving DecidableEq, Repr

/-- Boot, flash and trust beyond the SEC and SPR registers. -/
structure SecState where
  ring : List BootEntry := []
  /-- A cold start is owed: after D4, or once PWR_GOOD rises. -/
  due : Bool := true
  /-- Stage that runs, its start, and whether one runs at all. -/
  running : Bool := false
  stage : Nat := 0
  stageFrom : Nat := 0
  /-- Stamp plus one at which a failed start begins again; 0 none. -/
  restartAt : Nat := 0
  /-- Alternative in effect for the stage that runs: 0 none, 1 alternative, 2 retired. -/
  alt : Nat := 0
  /-- Handle and start of a wait for SPR_BALT_CHOICE (R419). -/
  altOp : Nat := 0
  altFrom : Nat := 0
  /-- PWR_GOOD stamp of a cold start. -/
  powerGood : Nat := 0
  recA : ConfigRec := {}
  recB : ConfigRec := { valid := false }
  /-- The always-on domain's SEQ, 0 after the standby rail was lost (R423, R429). -/
  aonSeq : Nat := 0
  /-- Record writes held until the identity key is available. -/
  owed : Nat := 0
  /-- The record as the held writes would leave it. -/
  held : Option ConfigRec := none
  slot0 : FwSlot := {}
  slot1 : FwSlot := {}
  /-- The image being written (R431), and whether its checks passed. -/
  writing : Option (FwSlot × Nat) := none
  writeFrom : Nat := 0
  /-- Slot written since the start; slot that last passed S1; starts in a row whose S1 failed on both slots. -/
  written : Option Nat := none
  passed : Nat := 0
  bothFail : Nat := 0
  spdm : List Spdm := []
  deriving DecidableEq, Repr



/-- A foreign master as its Announce messages describe it (20_time_power_module.md R436; IEEE 1588-2019): the port it came by, its
identity, and its data set in the order the Best Master Clock Algorithm compares it. -/
structure Foreign where
  port : Nat
  clock : Nat
  rank : List Nat
  at_ : Nat
  deriving DecidableEq, Repr

/-- What a port's PTP exchange has measured: t1 to t4 of the delay exchange, the peer or path delay in qns, sequence of the Sync
whose Follow_Up is awaited, and its ingress stamp. -/
structure PtpPort where
  sync : Option (Nat × Nat) := none
  req : Option (Nat × Nat) := none
  t1 : Nat := 0
  t2 : Nat := 0
  delay : Int := 0
  /-- Peer-to-peer: sequence of the response awaited for its Follow_Up, its t2 and t4. -/
  resp : Option (Nat × Nat × Nat) := none
  /-- As master: stamps of the next Sync and the next Announce, sequence ids of what this port sends. -/
  syncNext : Nat := 0
  annNext : Nat := 0
  seqId : Nat := 0
  deriving DecidableEq, Repr

/-- The time base beyond its registers (R436 to R439). -/
structure TimState where
  best : Option Foreign := none
  ports : List (Nat × PtpPort) := []
  /-- Offset from the master in qns as last measured; stamp of the last usable sync. -/
  offset : Int := 0
  syncAt : Nat := 0
  /-- Stamps plus one since which the offset has been below the limit without a break, and above it; 0 none. -/
  goodFrom : Nat := 0
  badFrom : Nat := 0
  /-- Entry to HOLDOVER; STEP_NEEDED has been raised since. -/
  holdFrom : Nat := 0
  holdBase : Nat := 0
  stepRaised : Bool := false
  /-- |offset| of the last 16 s: stamp and qns. -/
  recent : List (Nat × Nat) := []
  /-- Stamp of the next write of TIM_UNCERTAINTY. -/
  uncNext : Nat := 0
  /-- Entered LOCKED since the start (R437: from then on no step). -/
  locked : Bool := false
  deriving DecidableEq, Repr

/-- Power and the module (R441 to R449). `mode`: 0 ACTIVE, 1 IDLE, 2 entering, 3 STANDBY, 4 DORMANT, 5 OFF. -/
structure PwrState where
  mode : Nat := 0
  /-- The state being entered (1 STANDBY, 2 DORMANT), and the stamp plus one at which the roster was left. -/
  target : Nat := 0
  leftAt : Nat := 0
  /-- 3.3 V standby rail, PWR_EN, PWR_GOOD. -/
  rail : Bool := true
  en : Bool := true
  good : Bool := true
  /-- PWR_EN must be deasserted before the module starts again (R442). -/
  latched : Bool := false
  /-- Wake port in effect, taken at the entry to STANDBY or DORMANT (R307). -/
  wakePort : Nat := 0
  slotId : Nat := 0
  eid : Nat := 0
  /-- WAKE# asserted; ALERT# asserted. -/
  wake : Bool := false
  alert : Bool := false
  /-- Last reading of the sensors. -/
  sampledAt : Nat := 0
  /-- A sensor has exceeded 95 °C and not all have since read 93 °C or less (R442); stamp of the thermal cap's last step. -/
  hot : Bool := false
  thermAt : Nat := 0
  /-- Stamp plus one since which nothing runs (R444). -/
  quietFrom : Nat := 0
  /-- PERST_A# asserted while in a low-power state (R446). -/
  perstA : Bool := false
  deriving DecidableEq, Repr

/-- The host interface beyond its registers (17_host_link_and_signpost.md R375 to R384). Links are 0 (A) and 1 (B). -/
structure HifState where
  /-- Links held in reset by PERST#. -/
  perst : List Nat := []
  /-- Largest rate code a link trains at (boot alternative of S3): link and code. -/
  maxRate : List (Nat × Nat) := []
  /-- Rate code before the last start. -/
  lastRate : List (Nat × Nat) := []
  /-- Configuration requests are answered (R378: Configuration Request Retry Status before S3). -/
  ready : Bool := false
  /-- BAR2 size of a function in GiB; an unlisted PF has 64, a VF 16. -/
  bar2 : List (Nat × Nat) := []
  /-- NumVFs of the PF and of PF_B. -/
  numVfs : Nat := 0
  numVfsB : Nat := 0
  /-- Configuration registers written by the host: function and register number. -/
  config : List (Nat × Word) := []
  deriving DecidableEq, Repr


/-- Everything the spec gives the device but the queue of waiting commands. -/
structure Dev where
  /-- The current stamp in qns (00_scope.md R6). -/
  now : Nat := 0
  /-- Every BAR0 register that does not read its reset value, by storage key. -/
  regs : List (Nat × Word) := []
  /-- Each function's holding register of each page (02_register_pages.md R44), keyed function * 2^32 + page key. -/
  stampHold : List (Nat × Word) := []
  /-- T0, the Market, by byte address (04_market.md R86). -/
  t0 : Memory := []
  /-- T1, HBM, by byte address: extent * 2 MiB + offset (10_tiers_and_street_index.md R218). -/
  t1 : Memory := []
  /-- The event log, newest first (18_faults_resets_dumps.md R411). -/
  log : List EventRec := []
  /-- LOG_SEQ of the next record. -/
  logSeq : Nat := 0
  /-- MSI-X tables, keyed function * 65536 + vector * 4 + word; an unlisted vector control word reads 1 (masked). -/
  msix : List (Nat × Word) := []
  /-- Pending bits, as function * 4096 + vector. -/
  msixPend : List Nat := []
  /-- Spare map, units, approval records, resets in progress. -/
  spr : Spares := {}
  /-- The Street Index. -/
  six : SixState := {}
  /-- The Signpost's latches and handlers. -/
  evt : EvtState := {}
  /-- Queues and semaphores. -/
  kqp : KqpState := {}
  /-- The device id (13_fabric_ports.md R308), fixed when the device is made. -/
  deviceId : Nat := 0
  /-- The model's own counter of free values drawn (no register of the device). -/
  free : Nat := 0
  /-- The model's own record of what left the device, newest first. -/
  out : List Output := []
  /-- The tier manager: directory, references, work records. -/
  tir : TirState := {}
  /-- Market regions, bank map, poisoned lines. -/
  mkt : MktState := {}
  /-- Jobs of the Step Ledger. -/
  ldg : LdgState := {}
  /-- Dumps, self-test, warm resets. -/
  hlt : HltState := {}
  /-- Weight sets. -/
  wset : WsetState := {}
  /-- The Acrek units. -/
  acr : AcrState := {}
  /-- Groups, roster and collectives. -/
  col : ColState := {}
  /-- The fabric ports beyond their registers. -/
  fab : FabState := {}
  /-- The Tabnus transport. -/
  tbn : TbnState := {}
  /-- Boot record, flash, configuration record, attestation. -/
  sec : SecState := {}
  /-- The time base beyond its registers. -/
  tim : TimState := {}
  /-- Power states and the module's pins. -/
  pwr : PwrState := {}
  /-- The host links. -/
  hif : HifState := {}
  /-- The compute cores' arrays beyond their registers. -/
  ccr : CcrState := {}
  deriving DecidableEq, Repr

/-- The machine: the device and the commands that wait for it, first in, first out. -/
structure State where
  dev : Dev
  pending : List Instr
  deriving DecidableEq, Repr

/-- The device right after a D4 reset (the reset values are those that unlisted entries of its tables read as). -/
def Dev.reset : Dev := {}

/-- The machine right after reset, with no command waiting. -/
def State.reset : State := { dev := Dev.reset, pending := [] }

end Sys2Proof.Machine
end

