-- ==== Sys2Proof/Machine/Pages.lean ====
section
/-! DEFINITION. The map of BAR0: which page and register an offset of a function reaches, which header facilities a page has,
and what every register resets to (02_register_pages.md R32 to R51). -/

namespace Sys2Proof.Machine

/-- Where a block starts in PF BAR0 (R32). -/
def Block.base : Block → Nat
  | .glb => 0 | .tim => 0x4000 | .pwr => 0x8000 | .spr => 0xC000 | .sec => 0x10000 | .evt => 0x20000
  | .hlt => 0x30000 | .hif => 0x40000 | .kqp => 0x80000 | .ldg => 0xC0000 | .ccr => 0x100000 | .mkt => 0x300000
  | .eng => 0x400000 | .hbm => 0x500000 | .acr => 0x580000 | .tir => 0x600000 | .six => 0x680000
  | .fab => 0x700000 | .tbn => 0x800000 | .col => 0x900000 | .rng => 0xA00000

/-- Bytes from one instance of a block to the next (R32). -/
def Block.stride : Block → Nat
  | .glb | .tim | .pwr | .spr | .kqp | .ccr | .eng => 0x4000
  | .sec | .evt | .hlt | .hbm | .acr | .rng => 0x10000
  | .hif | .ldg => 0x40000
  | .mkt | .tbn | .col => 0x100000
  | .tir | .six => 0x80000
  | .fab => 0x8000

/-- Instances of a block; engine slots 54 to 63 are unmapped (R32, R33). -/
def Block.count : Block → Nat
  | .kqp => 16 | .ccr => 72 | .eng => 54 | .hbm => 6 | .acr => 6 | .fab => 24 | _ => 1

/-- Pages of an instance that a block's chapter describes; the others are unmapped (R32). -/
def Block.pages : Block → List Nat
  | .glb => [0, 1] | .tim => [0] | .pwr => [0] | .spr => [0, 1] | .sec => [0, 1, 2]
  | .evt => [0, 1, 2, 3, 4, 5] | .hlt => [0, 1, 2, 3, 4] | .hif => [0, 2] | .kqp => [0, 1, 2]
  | .ldg => [0, 1, 2, 3, 4] | .ccr => [0, 1, 2, 3] | .mkt => [0, 1, 2, 3] | .eng => [0, 1, 2, 3] | .hbm => [0]
  | .acr => [0, 1, 2, 3] | .tir => [0, 1, 2, 3] | .six => [0] | .fab => [0, 1, 2, 3, 4]
  | .tbn => [0, 1, 2, 3, 4] | .col => [0, 1, 2, 3] | .rng => [0]

/-- All blocks in address order. -/
def Block.all : List Block :=
  [.glb, .tim, .pwr, .spr, .sec, .evt, .hlt, .hif, .kqp, .ldg, .ccr, .mkt, .eng, .hbm, .acr, .tir, .six, .fab, .tbn, .col,
   .rng]

/-- Block types of PG_IDENT (R32, R33). -/
def Block.ident : Block → Nat → Nat
  | .glb, _ => 0x0100 | .tim, _ => 0x0200 | .pwr, _ => 0x0300 | .spr, _ => 0x0400 | .sec, _ => 0x0500
  | .evt, _ => 0x0600 | .hlt, _ => 0x0700 | .hif, _ => 0x0800 | .kqp, _ => 0x0900 | .ldg, _ => 0x0A00
  | .ccr, _ => 0x0B00 | .mkt, _ => 0x0C00 | .hbm, _ => 0x0E00 | .acr, _ => 0x0F00 | .tir, _ => 0x1000
  | .six, _ => 0x1100 | .fab, _ => 0x1200 | .tbn, _ => 0x1300 | .col, _ => 0x1400 | .rng, _ => 0x1500
  | .eng, i =>
    if i < 18 then 0x0D01 else if i < 27 then 0x0D02 else if i < 36 then 0x0D03 else if i < 41 then 0x0D04
    else if i < 46 then 0x0D05 else if i < 51 then 0x0D06 else if i < 54 then 0x0D07 else 0

/-- A page: function (0 PF, 1 to 8 VF), block, instance and page number. -/
structure Page where
  func : Nat
  blk : Block
  inst : Nat
  page : Nat
  deriving DecidableEq, Repr

/-- A PF page. -/
def pfPage (b : Block) (i p : Nat) : Page := ⟨0, b, i, p⟩

/-- Where a view of a block starts in VF BAR0 and which of its pages the view holds, as (view page, block page) pairs (R49,
R62 and the VF-view sentences of the chapters). The KQP view's pages 1 to 8 all show queue sets, page 9 the semaphores; the
placing of TIR pages 0 to 2 first and SIX page 0 at half the shared 64 KiB is the model's (log entry 4). -/
def vfViews : List (Block × Nat × List (Nat × Nat)) :=
  [(.glb, 0x0, [(0, 0)]), (.tim, 0x4000, [(0, 0)]), (.hif, 0x8000, [(0, 0), (2, 2)]),
   (.kqp, 0x10000, [(0, 0), (1, 1), (2, 3), (3, 4), (4, 5), (5, 6), (6, 7), (7, 8), (8, 9), (9, 2)]),
   (.ldg, 0x20000, [(1, 1), (2, 2)]), (.tir, 0x30000, [(0, 0), (1, 1), (2, 2)]), (.six, 0x38000, [(0, 0)]),
   (.col, 0x40000, [(2, 2), (3, 3)]), (.acr, 0x50000, [(1, 1), (2, 2)]), (.evt, 0x60000, [(0, 0), (1, 1), (2, 5)]),
   (.rng, 0x64000, [(0, 0)])]

/-- The byte offset of a page within its function's BAR0. -/
def Page.offset (p : Page) : Nat :=
  if p.func = 0 then p.blk.base + p.inst * p.blk.stride + p.page * 0x1000
  else
    match vfViews.find? (fun v => v.1 == p.blk) with
    | some v =>
      match v.2.2.find? (fun e => e.2 == p.page) with
      | some e => v.2.1 + e.1 * 0x1000
      | none => 0
    | none => 0

/-- The storage key of a page: PF pages at their PF BAR0 address, those of VF n above them at n * 2^26. -/
def Page.key (p : Page) : Nat := p.func * 2 ^ 26 + p.offset

/-- PG_IDENT of a page: INSTANCE is the VF number in a VF view (02_register_pages.md, PG_IDENT). -/
def Page.ident (p : Page) : Nat :=
  let viewPage :=
    if p.func = 0 then p.page
    else match vfViews.find? (fun v => v.1 == p.blk) with
      | some v => match v.2.2.find? (fun e => e.2 == p.page) with
        | some e => e.1
        | none => 0
      | none => 0
  p.blk.ident p.inst + (if p.func = 0 then p.inst else p.func) * 0x10000 + viewPage * 0x1000000

/-- Header facilities of a page. -/
structure Caps where
  mode : Bool := false
  event : Bool := false
  timeout : Bool := false
  /-- Reset domains PG_RESET accepts: bit 0 D0, bit 1 D1, bit 2 D2. -/
  reset : Nat := 0
  assistDb : Bool := false
  deriving DecidableEq, Repr

/-- The facilities the chapters give each page (PG_CAPS sentences; R60 and R83 for the KQP timeouts, R454 for the event pages). -/
def pageCaps (p : Page) : Caps :=
  match p.blk, p.page with
  | .glb, 0 => { event := p.func == 0 }
  | .tim, 0 => { event := p.func == 0 }
  | .pwr, 0 => { event := true }
  | .spr, 0 => { mode := true, event := true, assistDb := true }
  | .spr, 1 => { event := true, timeout := true, assistDb := true }
  | .sec, 0 => { event := true }
  | .hlt, 0 => { mode := true, event := true, assistDb := true }
  | .hif, 0 => { event := true }
  | .kqp, 0 => { event := true, timeout := true }
  | .kqp, 1 => { event := true, timeout := p.func == 0 }
  | .kqp, n => if p.func ≠ 0 ∧ n ≠ 2 then { event := true } else {}
  | .ldg, 0 => { mode := true, event := true, timeout := true, assistDb := true }
  | .ldg, 4 => { event := true }
  | .ccr, 0 => { reset := 3 }
  | .ccr, 1 => { event := true }
  | .ccr, 2 => { event := true }
  | .mkt, 2 => { event := true }
  | .eng, 0 => { reset := 3 }
  | .eng, 1 => { event := true }
  | .hbm, 0 => { event := true, reset := 4 }
  | .acr, 0 => { mode := true, event := true, assistDb := true }
  | .tir, 2 => { mode := true, event := true, assistDb := true }
  | .tir, 3 => { event := true }
  | .six, 0 => { mode := true, event := true }
  | .fab, 0 => { event := true, reset := 4 }
  | .tbn, 0 => { mode := true, event := true, timeout := true, assistDb := true }
  | .tbn, 1 => { mode := true, event := true, assistDb := true }
  | .col, 0 => { mode := true, event := true, timeout := true, assistDb := true }
  | _, _ => {}

/-- PG_CAPS as it reads. BLOCK_CAPS is 0: no chapter defines a bit of it. -/
def Caps.word (c : Caps) (vf : Bool) : Word :=
  BitVec.ofNat 32 (boolNat c.mode + 2 * boolNat c.event + 4 * boolNat c.timeout + 8 * boolNat (c.reset != 0)
    + 16 * boolNat c.assistDb + 0x80000000 * boolNat vf)

/-- The Signpost source of an event page (21_status_catalogue.md R454). -/
def pfSource (p : Page) : Option Nat :=
  match p.blk, p.page with
  | .glb, 0 => some 0
  | .tim, 0 => some 1
  | .pwr, 0 => some 2
  | .spr, 0 => some 3
  | .spr, 1 => some 4
  | .sec, 0 => some 5
  | .hlt, 0 => some 6
  | .hif, 0 => some 7
  | .kqp, 0 => some (16 + 2 * p.inst)
  | .kqp, 1 => some (17 + 2 * p.inst)
  | .ldg, 0 => some 64
  | .ldg, 4 => some 65
  | .ccr, 1 => some (128 + 2 * p.inst)
  | .ccr, 2 => some (129 + 2 * p.inst)
  | .mkt, 2 => some 288
  | .eng, 1 => some (320 + p.inst)
  | .hbm, 0 => some (384 + p.inst)
  | .acr, 0 => some (392 + p.inst)
  | .tir, 2 => some 512
  | .tir, 3 => some 513
  | .six, 0 => some 520
  | .fab, 0 => some (768 + p.inst)
  | .tbn, 0 => some 912
  | .tbn, 1 => some 913
  | .col, 0 => some 960
  | _, _ => none

/-- The event pages of a VF's views in ascending BAR0 offset (R455). -/
def vfEventPages (n : Nat) : List Page :=
  [⟨n, .hif, 0, 0⟩, ⟨n, .kqp, 0, 0⟩, ⟨n, .kqp, 0, 1⟩, ⟨n, .kqp, 0, 3⟩, ⟨n, .kqp, 0, 4⟩, ⟨n, .kqp, 0, 5⟩,
   ⟨n, .kqp, 0, 6⟩, ⟨n, .kqp, 0, 7⟩, ⟨n, .kqp, 0, 8⟩, ⟨n, .kqp, 0, 9⟩, ⟨n, .tir, 0, 2⟩, ⟨n, .six, 0, 0⟩]

/-- The Signpost source of a page of any function (R454, R455). -/
def pageSource (p : Page) : Option Nat :=
  if p.func = 0 then pfSource p
  else (vfEventPages p.func).findIdx? (fun x => x == p) |>.map (fun i => 1024 + 128 * (p.func - 1) + i)

/-- The page that drives a source. -/
def sourcePage (n : Nat) : Option Page :=
  if n ≥ 1024 then (vfEventPages ((n - 1024) / 128 + 1))[(n - 1024) % 128]?
  else if 16 ≤ n ∧ n < 48 then some (pfPage .kqp ((n - 16) / 2) ((n - 16) % 2))
  else if 128 ≤ n ∧ n < 272 then some (pfPage .ccr ((n - 128) / 2) ((n - 128) % 2 + 1))
  else if 320 ≤ n ∧ n < 374 then some (pfPage .eng (n - 320) 1)
  else if 384 ≤ n ∧ n < 390 then some (pfPage .hbm (n - 384) 0)
  else if 392 ≤ n ∧ n < 398 then some (pfPage .acr (n - 392) 0)
  else if 768 ≤ n ∧ n < 792 then some (pfPage .fab (n - 768) 0)
  else
    match n with
    | 0 => some (pfPage .glb 0 0) | 1 => some (pfPage .tim 0 0) | 2 => some (pfPage .pwr 0 0)
    | 3 => some (pfPage .spr 0 0) | 4 => some (pfPage .spr 0 1) | 5 => some (pfPage .sec 0 0)
    | 6 => some (pfPage .hlt 0 0) | 7 => some (pfPage .hif 0 0) | 64 => some (pfPage .ldg 0 0)
    | 65 => some (pfPage .ldg 0 4) | 288 => some (pfPage .mkt 0 2) | 512 => some (pfPage .tir 0 2)
    | 513 => some (pfPage .tir 0 3) | 520 => some (pfPage .six 0 0) | 912 => some (pfPage .tbn 0 0)
    | 913 => some (pfPage .tbn 0 1) | 960 => some (pfPage .col 0 0) | _ => none

/-- The register of a block's page at a byte offset: its definition and its index within the array. -/
def findReg (b : Block) (page off : Nat) : Option (RegDef × Nat) :=
  let hit (r : RegDef) : Bool :=
    r.page == page && decide (r.off ≤ off) &&
      (if r.count = 1 then off == r.off
       else (off - r.off) % r.stride == 0 && decide ((off - r.off) / r.stride < r.count))
  (b.regs.find? hit).map (fun r => (r, if r.count = 1 then 0 else (off - r.off) / r.stride))

/-- The EVT control words run over pages 1 to 4 (17_host_link_and_signpost.md, EVT_SRC): source n is in page 1 + n ÷ 512. -/
def evtSrcReg (page off : Nat) : Option (RegDef × Nat) :=
  if 1 ≤ page ∧ page ≤ 4 ∧ 0x80 ≤ off ∧ off < 0x880 ∧ off % 4 = 0 then
    (findReg .evt 1 (0x80)).map (fun r => (r.1, (page - 1) * 512 + (off - 0x80) / 4))
  else none

/-- The register at an offset of a page. -/
def pageReg (b : Block) (page off : Nat) : Option (RegDef × Nat) :=
  if b = .evt ∧ page ≠ 0 ∧ page ≠ 5 then evtSrcReg page off else findReg b page off

/-- What a register reads right after reset, from its fields. -/
def RegDef.resetWord (r : RegDef) (j : Nat) : Nat :=
  r.fields.foldl (fun acc f => acc + (f.reset <<< f.lo)) (r.idx * j)

/-- The block and instance of a PF address. -/
def blockAt (a : Nat) : Option (Block × Nat) :=
  (Block.all.find? (fun b => decide (b.base ≤ a) && decide (a < b.base + b.count * b.stride))).map
    (fun b => (b, (a - b.base) / b.stride))

/-- What the register at an offset of a page resets to. -/
def pageReset (b : Block) (page off : Nat) : Word :=
  match pageReg b page off with
  | some (r, j) => BitVec.ofNat 32 (r.resetWord j)
  | none => 0

/-- The block and page that a VF's BAR0 offset shows. -/
def viewAtOff (off : Nat) : Option (Block × Nat) :=
  (vfViews.flatMap (fun v => v.2.2.map (fun e => (v.1, v.2.1 + e.1 * 0x1000, e.2)))).findSome? (fun x =>
    if x.2.1 = off / 0x1000 * 0x1000 then some (x.1, x.2.2) else none)

/-- What the register at a storage key reads when nothing has written it. -/
def regReset (key : Nat) : Word :=
  let a := key % 2 ^ 32
  if a ≥ 2 ^ 26 then
    match viewAtOff (a % 2 ^ 26) with
    | some (b, page) => pageReset b page (a % 0x1000)
    | none => 0
  else
    match blockAt a with
    | none => 0
    | some (b, i) =>
      let rel := a - b.base - i * b.stride
      pageReset b (rel / 0x1000) (rel % 0x1000)

end Sys2Proof.Machine
end

