-- ==== Sys2Proof/Machine/Status.lean ====
section
/-! DEFINITION. The status catalogue (21_status_catalogue.md R453): 16-bit codes, class in bits [15:12]. -/

namespace Sys2Proof.Machine.St

/-- OK: success. -/
def ok : Nat := 0x0000

/-- REPEATED_WIDER: layer repeated wider (R162). -/
def repeatedWider : Nat := 0x1001

/-- INDEX_PRESSURE: no free Street Index entry (R237); event. -/
def indexPressure : Nat := 0x1002

/-- QUIET_GROUP: group quiet for ACR_QUIET_LIMIT steps (R255). -/
def quietGroup : Nat := 0x1003

/-- FROZEN_SKIPPED: update of a frozen group discarded (R249). -/
def frozenSkipped : Nat := 0x1004

/-- DEGENERATE_STATS: singular normaliser; decay only (R248). -/
def degenerateStats : Nat := 0x1005

/-- PARTIAL: some parts failed; scratch holds partial data (R80, R82). -/
def partialDone : Nat := 0x1006

/-- BAD_OPCODE: undefined opcode (R66, R67). -/
def badOpcode : Nat := 0x2001

/-- BAD_VERSION: CMD_VER not accepted (R66, R68). -/
def badVersion : Nat := 0x2002

/-- BAD_FIELD: field out of range, at format check or at part start (R66, R127, R190, R254). -/
def badField : Nat := 0x2003

/-- RESERVED_NONZERO: reserved bit set (R66). -/
def reservedNonzero : Nat := 0x2004

/-- NONFINITE: non-finite value (R131, R161, R180, R250). -/
def nonfinite : Nat := 0x3001

/-- OVERFLOW_EXHAUSTED: no wider format left, or repeats spent (R161, R163, R180, R250). -/
def overflowExhausted : Nat := 0x3002

/-- TIER_POISON: unit unusable after a failed fetch, or after an uncorrectable error found by an earlier read (R224, R233). -/
def tierPoison : Nat := 0x4001

/-- QUOTA_EXCEEDED: pool limit reached (R97, R222, R162). -/
def quotaExceeded : Nat := 0x4002

/-- OBJECT_ABSENT: stale handle, unallocated granule, or no valid copy (R96, R113, R226). -/
def objectAbsent : Nat := 0x4003

/-- ECC_UNCORRECTABLE: uncorrectable storage or bus error (R98, R212, R239). -/
def eccUncorrectable : Nat := 0x4004

/-- PATH_FAILED: path excluded, or host refused all paths (R322, R324). -/
def pathFailed : Nat := 0x5001

/-- PEER_UNREACHABLE: no path for the bound (R323); image or chain peer lost (R280, R368). -/
def peerUnreachable : Nat := 0x5002

/-- CRC_EXHAUSTED: packet corrupt after 8 NACKs (R325). -/
def crcExhausted : Nat := 0x5003

/-- STALE_EPOCH: segment of an old layout epoch (R327, R353). -/
def staleEpoch : Nat := 0x5004

/-- MEMBER_MISSING: rank silent or removed (R270, R337, R349). -/
def memberMissing : Nat := 0x6001

/-- ROSTER_CHANGED: roster epoch advanced (R452); event. -/
def rosterChanged : Nat := 0x6002

/-- VERSION_MISMATCH: shard tag or vote digest differs (R268, R354). -/
def versionMismatch : Nat := 0x6003

/-- STEP_ABORTED: command of an aborted attempt discarded, or FLR abort (R75, R374). -/
def stepAborted : Nat := 0x7001

/-- VOTE_TIMEOUT: votes incomplete within the bound (R268, R269). -/
def voteTimeout : Nat := 0x7002

/-- RESTORE_SKEW: records of the image disagree (R284). -/
def restoreSkew : Nat := 0x7003

/-- PAIR_REFUSED: neighbour on the same power feed (R282). -/
def pairRefused : Nat := 0x7004

/-- DRAIN_STALL: UPDATE waits for an image (R281); event. -/
def drainStall : Nat := 0x7005

/-- PARKED: host link lost (R287). -/
def parked : Nat := 0x7006

/-- SIG_INVALID: image signature, hash, length or rollback (R429 to R431). -/
def sigInvalid : Nat := 0x8001

/-- KEY_UNWRAP_FAIL: no key entry, OAEP failure, or LIMITED (R367, R426). -/
def keyUnwrapFail : Nat := 0x8002

/-- TAG_MISMATCH: chunk authentication failed (R209, R367). -/
def tagMismatch : Nat := 0x8003

/-- PROTECTED_ACCESS: refused by isolation or protection (R96, R371). -/
def protectedAccess : Nat := 0x8004

/-- NO_RESOURCE: no unit, region, record, slot or store space (R27, R95, R219, R260, R280). -/
def noResource : Nat := 0x9001

/-- CHECKSUM_MISMATCH: array row failed its check (R124). -/
def checksumMismatch : Nat := 0xA001

/-- RESIDUE_ERROR: residue or duplicate-round mismatch (R123, R135, R189, R259). -/
def residueError : Nat := 0xA002

/-- LOCKSTEP: management pair disagreed (R405); event. -/
def lockstep : Nat := 0xA003

/-- BOUND_EXCEEDED: part exceeded its hang bound (R83). -/
def boundExceeded : Nat := 0xB001

/-- RESET_ESCALATED: reset did not complete in its bound (R401); event. -/
def resetEscalated : Nat := 0xB002

/-- OUT_OF_SERVICE: device out of service (R403); event. -/
def outOfService : Nat := 0xB003

/-- UNIT_RESET: part or command ended by a reset requested through PG_RESET (R40). -/
def unitReset : Nat := 0xB004

end Sys2Proof.Machine.St
end

