-- ==== Sys2Proof/Machine/Ops.lean ====
section
/-! DEFINITION. The named operations on registers, memory, the Street Index and what leaves the device, shared by every
command's meaning. -/

namespace Sys2Proof.Machine

/-! ### The tables of the device, one written at a time -/

def Dev.setNow (d : Dev) (x : Nat) : Dev := { d with now := x }
def Dev.setRegs (d : Dev) (x : List (Nat × Word)) : Dev := { d with regs := x }
def Dev.setStampHold (d : Dev) (x : List (Nat × Word)) : Dev := { d with stampHold := x }
def Dev.setT0 (d : Dev) (x : Memory) : Dev := { d with t0 := x }
def Dev.setT1 (d : Dev) (x : Memory) : Dev := { d with t1 := x }
def Dev.setMsix (d : Dev) (x : List (Nat × Word)) : Dev := { d with msix := x }
def Dev.setMsixPend (d : Dev) (x : List Nat) : Dev := { d with msixPend := x }
def Dev.setSpr (d : Dev) (x : Spares) : Dev := { d with spr := x }
def Dev.setSix (d : Dev) (x : SixState) : Dev := { d with six := x }
def Dev.setEvt (d : Dev) (x : EvtState) : Dev := { d with evt := x }
def Dev.setKqp (d : Dev) (x : KqpState) : Dev := { d with kqp := x }
def Dev.setFree (d : Dev) (x : Nat) : Dev := { d with free := x }
def Dev.setOut (d : Dev) (x : List Output) : Dev := { d with out := x }
def Dev.setTir (d : Dev) (x : TirState) : Dev := { d with tir := x }
def Dev.setMkt (d : Dev) (x : MktState) : Dev := { d with mkt := x }
def Dev.setLdg (d : Dev) (x : LdgState) : Dev := { d with ldg := x }
def Dev.setHlt (d : Dev) (x : HltState) : Dev := { d with hlt := x }
def Dev.setWset (d : Dev) (x : WsetState) : Dev := { d with wset := x }
def Dev.setAcr (d : Dev) (x : AcrState) : Dev := { d with acr := x }
def Dev.setCol (d : Dev) (x : ColState) : Dev := { d with col := x }
def Dev.setFab (d : Dev) (x : FabState) : Dev := { d with fab := x }
def Dev.setTbn (d : Dev) (x : TbnState) : Dev := { d with tbn := x }
def Dev.setSec (d : Dev) (x : SecState) : Dev := { d with sec := x }
def Dev.setTim (d : Dev) (x : TimState) : Dev := { d with tim := x }
def Dev.setPwr (d : Dev) (x : PwrState) : Dev := { d with pwr := x }
def Dev.setHif (d : Dev) (x : HifState) : Dev := { d with hif := x }
def Dev.setCcr (d : Dev) (x : CcrState) : Dev := { d with ccr := x }

/-- Apply `f` when `b` holds; otherwise the event is not enabled and nothing changes (log entry 1). -/
def Dev.when (d : Dev) (b : Bool) (f : Dev → Dev) : Dev := if b then f d else d

/-! ### The register file -/

/-- A register's stored word. -/
def Dev.reg (d : Dev) (k : Nat) : Word := (mapLook d.regs k).getD (regReset k)

/-- Store a register's word; a word equal to the reset value is not listed. -/
def Dev.setReg (d : Dev) (k : Nat) (v : Word) : Dev :=
  d.setRegs (if v = regReset k then mapDel d.regs k else mapPut d.regs k v)

/-- Read a field. -/
def Dev.rd (d : Dev) (f : Fld) : Nat := bitsAt (d.reg f.addr).toNat f.lo f.w

/-- Read a one-bit field. -/
def Dev.flag (d : Dev) (f : Fld) : Bool := d.rd f == 1

/-- Write a field, the rest of its register unchanged. -/
def Dev.wr (d : Dev) (f : Fld) (v : Nat) : Dev := d.setReg f.addr (setField (d.reg f.addr) f.lo f.w v)

/-- Write a one-bit field. -/
def Dev.setFlag (d : Dev) (f : Fld) (b : Bool) : Dev := d.wr f (boolNat b)

/-- Add to a counter field that wraps. -/
def Dev.inc (d : Dev) (f : Fld) (k : Nat) : Dev := d.wr f (d.rd f + k)

/-- Add to a counter field that saturates. -/
def Dev.incSat (d : Dev) (f : Fld) (k : Nat) : Dev := d.wr f (satAdd f.w (d.rd f) k)

/-- The copy of a windowed register that a selector value names. -/
def Fld.bank (f : Fld) (sel : Nat) : Fld := { f with addr := f.addr + (sel + 1) * 2 ^ 32 }

/-- A 64-bit value held in two registers, low word first. -/
def Dev.rd64 (d : Dev) (lo hi : Fld) : Nat := d.rd lo + d.rd hi * 2 ^ 32

/-- Write a 64-bit value into two registers, low word first. -/
def Dev.wr64 (d : Dev) (lo hi : Fld) (v : Nat) : Dev := (d.wr lo (v % 2 ^ 32)).wr hi (v / 2 ^ 32)

/-! ### Header registers of a page (02_register_pages.md R39) -/

/-- A field of a page's header. -/
def hdrFld (p : Page) (off lo w : Nat) : Fld := ⟨p.key + off, lo, w⟩

def hMode (p : Page) : Fld := hdrFld p 0x0C 0 1
def hLock (p : Page) : Fld := hdrFld p 0x0C 16 1
def hLastStatus (p : Page) : Fld := hdrFld p 0x10 0 16
def hAssistWait (p : Page) : Fld := hdrFld p 0x10 17 1
def hEvent (p : Page) : Fld := hdrFld p 0x14 0 32
def hEventEn (p : Page) : Fld := hdrFld p 0x18 0 32
def hSeq (p : Page) : Fld := hdrFld p 0x1C 0 32
def hStampLo (p : Page) : Fld := hdrFld p 0x20 0 32
def hStampHi (p : Page) : Fld := hdrFld p 0x24 0 32
def hTimeout (p : Page) : Fld := hdrFld p 0x28 0 16
def hTimeoutUnit (p : Page) : Fld := hdrFld p 0x28 16 2
def hInReset (p : Page) : Fld := hdrFld p 0x2C 8 1
def hEscalated (p : Page) : Fld := hdrFld p 0x2C 9 1
def hHealth (p : Page) : Fld := hdrFld p 0x30 0 2
def hCloseCount (p : Page) : Fld := hdrFld p 0x30 8 8

/-- The page is in ASSIST mode (01_one_step_through_the_device.md R20). -/
def Dev.assist (d : Dev) (p : Page) : Bool := (pageCaps p).mode && d.flag (hMode p)

/-- One microsecond, millisecond and second in qns. -/
def usQ : Nat := 4000
def msQ : Nat := 4000000
def secQ : Nat := 4000000000

/-- The unit of a PG_TIMEOUT in qns (02_register_pages.md, PG_TIMEOUT). -/
def timeoutUnit : Nat → Nat
  | 0 => usQ | 1 => 10 * usQ | 2 => msQ | _ => secQ

/-- A page's timeout in qns, or the block's default where it reads 0. -/
def Dev.timeout (d : Dev) (p : Page) (dflt : Nat) : Nat :=
  if d.rd (hTimeout p) = 0 then dflt else d.rd (hTimeout p) * timeoutUnit (d.rd (hTimeoutUnit p))

/-! ### What leaves the device -/

/-- Record something that leaves the device. -/
def Dev.emit (d : Dev) (k : OutKind) (dest : Nat) (data : List Nat) (bytes : List Byte := []) : Dev :=
  d.setOut (⟨k, dest, data, bytes⟩ :: d.out)

/-- A posted write to host memory. -/
def Dev.hostWrite (d : Dev) (addr : Nat) (bytes : List Byte) : Dev := d.emit .hostWrite addr [] bytes

/-- Vector `v` of function `f` is masked (an unwritten vector control reads 1, as PCI Express resets it). -/
def Dev.msixMasked (d : Dev) (f v : Nat) : Bool := (mapGet 1 d.msix (f * 65536 + v * 4 + 3)).toNat % 2 == 1

/-- Send an MSI-X message, or set the vector's pending bit while it is masked (17_host_link_and_signpost.md R381). -/
def Dev.sendMsix (d : Dev) (f v : Nat) : Dev :=
  if d.msixMasked f v then
    d.setMsixPend (if d.msixPend.contains (f * 4096 + v) then d.msixPend else d.msixPend ++ [f * 4096 + v])
  else
    d.emit .msix (f * 4096 + v)
      [(mapGet 0 d.msix (f * 65536 + v * 4)).toNat + (mapGet 0 d.msix (f * 65536 + v * 4 + 1)).toNat * 2 ^ 32,
       (mapGet 0 d.msix (f * 65536 + v * 4 + 2)).toNat]

/-- A fresh free value's index: the counter, and the device with the counter advanced. -/
def Dev.drawIndex (d : Dev) : Nat × Dev := (d.free, d.setFree (d.free + 1))

/-! ### Tier memories -/

/-- Bytes of an HBM extent: 2 MiB (10_tiers_and_street_index.md R218). -/
def extentBytes : Nat := 2 ^ 21


/-! ### The Street Index (10_tiers_and_street_index.md R235 to R238) -/

/-- The owner number of the device itself. -/
def ownDevice : Nat := 8

/-- Entries reserved for an owner (R236). -/
def Dev.sixReserve (d : Dev) (o : Nat) : Nat := if o = ownDevice then 16384 else d.rd (F.sixReserve_reserve o)

/-- Entries an owner holds. -/
def Dev.sixUse (d : Dev) (o : Nat) : Nat := mapGet 0 d.six.use o

/-- Entries in use. -/
def Dev.sixTotal (d : Dev) : Nat := sumBy (fun e => e.2) d.six.use

/-- Size of the common pool. -/
def Dev.sixPool (d : Dev) : Nat := 1048576 - sumBy d.sixReserve (List.range 9)

/-- Pool entries in use: what each owner holds beyond its reservation. -/
def Dev.sixPoolUse (d : Dev) : Nat := sumBy (fun o => d.sixUse o - d.sixReserve o) (List.range 9)

/-- An owner can take `n` more entries. -/
def Dev.sixCan (d : Dev) (o n : Nat) : Bool :=
  decide (d.sixUse o + n ≤ d.sixReserve o
    ∨ (d.sixUse o + n - d.sixReserve o) + (d.sixPoolUse - (d.sixUse o - d.sixReserve o)) ≤ d.sixPool)

/-- The first index from `i` up that is not busy and not in a row kept out of use; entries are in index order. -/
def sixFindFree (bad : List Nat) : Nat → List (Nat × SixEntry) → Nat → Nat
  | 0, _, i => i
  | fuel + 1, es, i =>
    if bad.contains (i / 64) then sixFindFree bad fuel es ((i / 64 + 1) * 64)
    else match es with
      | [] => i
      | (k, e) :: rest =>
        if k < i then sixFindFree bad fuel rest i
        else if k = i ∧ e.state ≠ 0 then sixFindFree bad fuel rest (i + 1)
        else i

/-- An operation handle: GEN above INDEX. -/
def mkHandle (gen idx : Nat) : Nat := gen * 2 ^ 20 + idx

/-- The spill ring is in use (R238). -/
def Dev.sixSpills (d : Dev) : Bool := d.assist (pfPage .six 0 0) && d.flag F.sixSpillCfg_en

/-- The 32 bytes of an entry (table Street Index entry). -/
def SixEntry.bytes (e : SixEntry) : List Byte :=
  leBytes 2 (e.kind + e.state * 16 + e.owner * 256 + e.job * 4096) ++ leBytes 2 e.gen ++ leBytes 4 e.parent
    ++ leBytes 8 e.start ++ leBytes 8 e.change ++ leBytes 4 e.object ++ leBytes 2 e.status ++ leBytes 1 e.queue ++ [0]

/-- Update SIX_FREE, SIX_PEAK and the pressure latch after a change of use. -/
def Dev.sixCount (d : Dev) : Dev :=
  let t := d.sixTotal
  let d := d.wr F.sixFree_free (1048576 - t)
  let d := if d.rd F.sixPeak_peak < t then d.wr F.sixPeak_peak t else d
  if 1048576 - t > 16384 then d.setSix { d.six with pressed := false } else d

/-- The next spill slot of `n` in ascending order that is not in use. -/
def SixState.spillSlot (x : SixState) (n : Nat) : Nat :=
  ((((List.range (x.spill.length + 1)).map (fun k => (x.spillNext + k) % n)).find? (fun k => (mapLook x.spill k).isNone))).getD
    (x.spillNext % n)

/-- Take an entry for an operation: its handle, or none when no entry can be had (R235, R236; in ASSIST mode a spill slot,
R238, in ascending order). The lowest free index is taken (log entry 5). -/
def Dev.sixAlloc (d : Dev) (kind owner job parent object queue : Nat) : Option (Nat × Dev) :=
  let e : SixEntry := { kind := kind, state := 2, owner := owner, job := job, parent := parent, start := d.now,
                        change := d.now, object := object, queue := queue }
  if d.sixCan owner 1 then
    let i := sixFindFree d.six.badRows (d.six.entries.length + d.six.badRows.length + 1) d.six.entries 0
    let g := (mapGet ({} : SixEntry) d.six.entries i).gen
    let six := { d.six with entries := mapPut d.six.entries i { e with gen := g },
                            use := mapSet 0 d.six.use owner (d.sixUse owner + 1) }
    some (mkHandle g i, (d.setSix six).sixCount)
  else if d.sixSpills ∧ d.six.spill.length < 2 ^ d.rd F.sixSpillCfg_log2 then
    let sl := d.six.spillSlot (2 ^ d.rd F.sixSpillCfg_log2)
    let h := 0x3FF * 2 ^ 22 + sl
    let e := { e with gen := h / 2 ^ 20 }
    let six := { d.six with spill := mapPut d.six.spill sl e, spillNext := sl + 1 }
    let d := (d.setSix six).wr F.sixSpillUse_use (d.six.spill.length + 1)
    some (h, d.hostWrite ((d.rd F.sixSpillLo_base * 4096 + d.rd F.sixSpillHi_base * 2 ^ 32) + sl * 32) e.bytes)
  else none

/-- Handles run 1 to 0xFFB (R216). -/
def nextGen (g : Nat) : Nat := if g ≥ 0xFFB then 1 else g + 1

/-- The entry a handle names, busy or free, when its GEN matches. -/
def Dev.sixEntry (d : Dev) (h : Nat) : Option SixEntry :=
  if h / 2 ^ 22 = 0x3FF then mapLook d.six.spill (h % 2 ^ 22)
  else
    let e := mapGet ({} : SixEntry) d.six.entries (h % 2 ^ 20)
    if e.gen = h / 2 ^ 20 then some e else none

/-- End an operation: its entry is freed, its fields kept, its GEN advanced (R235). -/
def Dev.sixRelease (d : Dev) (h status : Nat) : Dev :=
  if h / 2 ^ 22 = 0x3FF then
    match mapLook d.six.spill (h % 2 ^ 22) with
    | none => d
    | some e =>
      let e := { e with state := if status / 4096 ≤ 1 then 3 else 4, status := status, change := d.now }
      let d1 := d.setSix { d.six with spill := mapDel d.six.spill (h % 2 ^ 22) }
      (d1.wr F.sixSpillUse_use (d1.six.spill.length)).hostWrite
        ((d.rd F.sixSpillLo_base * 4096 + d.rd F.sixSpillHi_base * 2 ^ 32) + (h % 2 ^ 22) * 32) e.bytes
  else
    match mapLook d.six.entries (h % 2 ^ 20) with
    | none => d
    | some e =>
      if e.gen = h / 2 ^ 20 ∧ e.state ≠ 0 then
        let e' := { e with state := 0, status := status, change := d.now, gen := nextGen e.gen }
        let six := { d.six with entries := mapPut d.six.entries (h % 2 ^ 20) e',
                                use := mapSet 0 d.six.use e.owner (d.sixUse e.owner - 1) }
        (d.setSix six).sixCount
      else d

end Sys2Proof.Machine
end

