-- ==== Sys2Proof/Machine/Flags.lean ====
section
/-! DEFINITION. Event flags: what a set of a PG_EVENT bit does to its page, to the Signpost and to the event log, the health
of an instance, the record of a rejected access, and the flags an ASSIST work record raises. -/

namespace Sys2Proof.Machine

/-- A page's summary line (02_register_pages.md R42). -/
def Dev.line (d : Dev) (p : Page) : Bool :=
  (pageCaps p).event && ((d.reg (hEvent p).addr) &&& (d.reg (hEventEn p).addr)) != 0

/-- An enabled source whose line has risen waits to be latched (17_host_link_and_signpost.md R385). -/
def Dev.noteEdge (d : Dev) (p : Page) (before : Bool) : Dev :=
  match pageSource p with
  | none => d
  | some n =>
    if !before && d.line p && d.flag (F.evtSrc_en n) && !d.evt.edges.contains n then
      d.setEvt { d.evt with edges := d.evt.edges ++ [n] }
    else d

/-- One record of the event log (18_faults_resets_dumps.md R411); the ring keeps the newest 2,097,152. -/
def Dev.logEvent (d : Dev) (p : Page) (bit status : Nat) (c : Cause) : Dev :=
  let r : EventRec :=
    { stamp := d.now, ident := p.ident, bit := bit, vf := p.func != 0, status := status, seq := d.rd (hSeq p), cause := c,
      logSeq := d.logSeq }
  { d with log := r :: d.log, logSeq := (d.logSeq + 1) % 2 ^ 32 }

/-- Hardware sets the PG_EVENT bits `bits` of a page in one cycle (R43): LAST_STATUS, STAMP and SEQ follow, one log record is
written for each bit, and the summary line may rise. -/
def Dev.raiseBits (d : Dev) (p : Page) (bits : List Nat) (status : Nat) (c : Cause := {}) : Dev :=
  if bits = [] ∨ !(pageCaps p).event then d
  else
    let before := d.line p
    let mask := bits.foldl (fun (m : Word) b => m ||| (1#32 <<< b)) 0
    let d := d.setReg (hEvent p).addr (d.reg (hEvent p).addr ||| mask)
    let d := d.wr (hLastStatus p) status
    let d := d.inc (hSeq p) 1
    let d := d.wr64 (hStampLo p) (hStampHi p) d.now
    let d := bits.foldl (fun d b => d.logEvent p b status c) d
    d.noteEdge p before

/-- Hardware sets one PG_EVENT bit of a page (R43). -/
def Dev.raise (d : Dev) (p : Page) (bit status : Nat) (c : Cause := {}) : Dev := d.raiseBits p [bit] status c

/-- The function that owns a partition (16_weights_and_partitions.md R372). -/
def Dev.partFunc (d : Dev) (p : Nat) : Nat := if p < 8 then d.rd (F.glbPart_func p) else 0

/-- The function of a VF that owns an enabled partition, if one does. -/
def Dev.partVf (d : Dev) (p : Nat) : Option Nat :=
  if p < 8 ∧ d.flag (F.glbPart_enable p) ∧ d.rd (F.glbPart_func p) ≠ 0 then some (d.rd (F.glbPart_func p)) else none

/-- Set a bit in a PF page and, where a VF owns the partition, in the page of its view (R51). -/
def Dev.raiseFor (d : Dev) (part : Nat) (p : Page) (bit status : Nat) (c : Cause := {}) : Dev :=
  let d := d.raise p bit status c
  match d.partVf part with
  | some n => d.raise { p with func := n } bit status c
  | none => d

/-- The event pages of an instance. -/
def eventPages (b : Block) (i : Nat) : List Page :=
  (b.pages.map (fun p => pfPage b i p)).filter (fun p => (pageCaps p).event)

/-- Set PG_HEALTH.STATE of an instance; a change sets HEALTH_CHANGE in its event pages (R41; PG_EVENT bit 31). The state is
kept once, in page 0, and every page of the instance reads it. -/
def Dev.setHealth (d : Dev) (b : Block) (i st : Nat) : Dev :=
  if d.rd (hHealth (pfPage b i 0)) = st then d
  else (eventPages b i).foldl (fun d p => d.raise p 31 St.ok) (d.wr (hHealth (pfPage b i 0)) st)

/-- Record a rejected access (R35): count it, keep its address, ground and function, and set GLB PG_EVENT bit 0. -/
def Dev.badAccess (d : Dev) (f off kind : Nat) : Dev :=
  let d := d.incSat F.glbBadAccessCnt_count 1
  let d := d.wr F.glbBadAccessAddr_offset off
  let d := d.wr F.glbBadAccessAddr_kind kind
  let d := d.wr F.glbBadAccessAddr_func f
  d.raise (pfPage .glb 0 0) 0 St.ok

/-- Count an access without a BAR0 offset of its own (an assist doorbell that names no record, R56). -/
def Dev.badDoorbell (d : Dev) (f : Nat) (p : Page) : Dev := d.badAccess f p.offset 3

/-- A work record of ASSIST mode is written: ASSIST_REQ is set and the page waits (R22). -/
def Dev.assistOpen (d : Dev) (p : Page) (status : Nat := St.ok) : Dev := (d.setFlag (hAssistWait p) true).raise p 30 status

end Sys2Proof.Machine
end

