-- ==== Sys2Proof/Machine/SecOps.lean ====
section
/-! DEFINITION. The signed configuration record, its writes, and what the device attests: measurements and quotes
(19_boot_and_trust.md R421 to R434). -/

namespace Sys2Proof.Machine

def secPage : Page := pfPage .sec 0 0


/-- SEC_STATE.STATE codes. -/
def ssBOOTING : Nat := 0
def ssFULL : Nat := 1
def ssLIMITED : Nat := 2
def ssRECOVERY : Nat := 3

def Dev.secSt (d : Dev) : Nat := d.rd F.secState_state

/-- The copy in use: the valid one with the higher SEQ that is not below the always-on SEQ (R423). -/
def SecState.useA (x : SecState) : Bool :=
  let okA := x.recA.valid && decide (x.aonSeq ≤ x.recA.seq)
  let okB := x.recB.valid && decide (x.aonSeq ≤ x.recB.seq)
  okA && (!okB || decide (x.recB.seq ≤ x.recA.seq))

def SecState.current (x : SecState) : ConfigRec := if x.useA then x.recA else x.recB

/-- The record as the device's condition makes it: retirements, repairs, bank map, closed groups, lanes. -/
def Dev.recordNow (d : Dev) : ConfigRec :=
  { d.sec.current with
    retired := (d.spr.units.filter (fun e => e.2.role == 4)).map (fun e => e.1), hbm := d.tir.retired,
    coreRepair := (List.range 72).map (fun i => d.reg (F.ccrRepair_repColValid i).addr),
    bankMap := (d.mkt.banks.filter (fun e => decide (1024 ≤ e.2.phys))).map (fun e => (e.2.phys - 1024, e.1)),
    groups := d.mkt.closed,
    lanes := (List.range 96).filter (fun l => bitOf (d.rd (F.fabPortState_retired (l / 4))) (l % 4)),
    tsLat := (List.range 24).map (fun p => d.reg (F.fabTsLat_tx p).addr), sixRows := d.six.repaired }

/-- One write of the record (R423): the other copy with SEQ + 1, then the always-on SEQ; RECORD_WRITTEN. -/
def Dev.configCommit (d : Dev) (f : ConfigRec → ConfigRec) : Dev :=
  let cur := d.sec.current
  let new := { f d.recordNow with seq := cur.seq + 1, valid := true }
  let x := if d.sec.useA then { d.sec with recB := new } else { d.sec with recA := new }
  let d := d.setSec { x with aonSeq := new.seq }
  let d := d.wr64 (F.secRecSeq 0) (F.secRecSeq 1) new.seq
  (d.wr F.secSvn_svn new.svn).raise secPage 5 St.ok

/-- A retirement is recorded: at once where the identity key is available, else held (R423). -/
def Dev.recordRetirement (d : Dev) : Dev :=
  if d.secSt = ssFULL then d.configCommit id 
  else
    let old := d.sec.held.getD d.sec.current
    d.setSec { d.sec with owed := d.sec.owed + 1, held := some { d.recordNow with hostSplit := old.hostSplit, altMode := old.altMode } }

/-- Writes that were held are made once the key is available, each on its own. -/
def Dev.payOwed (d : Dev) : Dev :=
  let n := d.sec.owed
  let h := d.sec.held.getD d.sec.current
  (List.range n).foldl (fun d _ => d.configCommit (fun r => { r with hostSplit := h.hostSplit, altMode := h.altMode })) (d.setSec { d.sec with owed := 0, held := none })

/-! ### Measurements (R434) -/

/-- Bytes 0 to 32,255 of a record: fields at their places, zeros elsewhere. -/
def ConfigRec.image (r : ConfigRec) : List Byte :=
  let has (k : Nat) : Bool := r.retired.contains k
  let bits (ks : List Nat) : Nat := sumBy (fun (x : Nat × Nat) => if has x.1 then 2 ^ x.2 else 0) ks.zipIdx
  let unit (t lo n : Nat) : List Nat := (List.range n).map (fun i => t * 256 + lo + i)
  let engines := unit 1 0 18 ++ unit 2 18 9 ++ unit 3 27 9 ++ unit 4 36 5 ++ unit 5 41 5 ++ unit 6 46 5 ++ unit 7 51 3
  let stackBits := sumBy (fun k => if r.hbm.contains k then 2 ^ k else 0) (List.range 6)
  let pad (n : Nat) (bs : List Byte) : List Byte := bs ++ List.replicate (n - bs.length) 0
  pad 32256 (pad 1024 (leBytes 4 0x31524357 ++ leBytes 2 1 ++ leBytes 2 0 ++ leBytes 8 r.seq ++ leBytes 4 r.svn
      ++ leBytes 1 (boolNat r.hostSplit + 2 * boolNat r.altMode) ++ leBytes 3 0 ++ (leBytes 6 r.baseMac).reverse ++ leBytes 34 0
      ++ leBytes 9 (bits (unit 0 0 72)) ++ leBytes 7 (bits engines) ++ leBytes 3 (bits (unit 8 0 18)) ++ leBytes 3 (bits (unit 9 0 18))
      ++ leBytes 1 stackBits ++ leBytes 1 (bits (unit 10 0 2)) ++ leBytes 8 0
      ++ pad 288 (r.coreRepair.flatMap (fun w => leBytes 4 w.toNat))
      ++ (List.range 64).flatMap (fun i => leBytes 2 (((r.bankMap.find? (fun e => e.1 == i)).map (fun e => e.2)).getD 0xFFFF))
      ++ leBytes 8 (sumBy (fun g => 2 ^ g) r.groups) ++ leBytes 8 0 ++ leBytes 12 (sumBy (fun l => 2 ^ l) r.lanes) ++ leBytes 4 0
      ++ pad 96 (r.tsLat.flatMap (fun w => leBytes 4 w.toNat)) ++ pad 64 (r.sixRows.flatMap (leBytes 2))) ++ r.train)

/-- The firmware slot that runs. -/
def Dev.runSlot (d : Dev) : FwSlot := if d.rd F.secState_runSlot = 0 then d.sec.slot0 else d.sec.slot1

/-- The content of measurement `i` and whether it is raw. -/
def Dev.measure (d : Dev) (i : Nat) : Bool × List Byte :=
  match i with
  | 1 => (false, Config.made 2)
  | 2 => (false, d.runSlot.hash)
  | 3 => (false, Config.sha 512 d.sec.current.image)
  | 4 => (true, leBytes 4 d.sec.current.svn ++ leBytes 8 d.sec.current.seq)
  | _ =>
    match d.sec.ring.head? with
    | some e => (true, leBytes 1 e.kind ++ leBytes 1 e.slot ++ (e.stages.take 12).flatMap (fun s => leBytes 1 s.alt))
    | none => (true, leBytes 14 0)

/-- A measurement block as SPDM lays it out (DSP0274; log entry 44). -/
def Dev.measureBlock (d : Dev) (i : Nat) : List Byte :=
  let m := d.measure i
  leBytes 1 i ++ leBytes 1 1 ++ leBytes 2 (m.2.length + 3) ++ leBytes 1 (i - 1 + (if m.1 then 0x80 else 0)) ++ leBytes 2 m.2.length ++ m.2

/-- The quote data of R329: chain, blocks 1 to 4, signature over nonce and blocks. -/
def Dev.quoteData (d : Dev) (nonce : List Byte) : List Byte :=
  let chain := Config.made 0
  let blocks := [1, 2, 3, 4].flatMap d.measureBlock
  leBytes 4 chain.length ++ chain ++ leBytes 2 blocks.length ++ blocks ++ Config.sign 0 (nonce ++ blocks)

/-- What the keeper requires of a quote (R435): a chain to the root, a signature that holds, and an SVN that is high enough. -/
def Dev.quoteOk (d : Dev) (nonce data : List Byte) : Bool :=
  let n := leAt data 0 4
  let chain := (data.drop 4).take n
  let m := leAt data (4 + n) 2
  let blocks := (data.drop (6 + n)).take m
  let sig := data.drop (6 + n + m)
  let rec svnOf : Nat → List Byte → Nat
    | 0, _ => 0
    | k + 1, bs => if leAt bs 0 1 = 4 then leAt bs 7 4 else svnOf k (bs.drop (4 + leAt bs 2 2))
  Config.chainOk chain && Config.sigOk 0 chain (nonce ++ blocks) sig && decide (d.rd F.secPeer_minSvn ≤ svnOf 4 blocks)

end Sys2Proof.Machine
end

