-- ==== Sys2Proof/Machine/Units.lean ====
section
/-! DEFINITION. Physical and logical units: the spare map, closures and retirements, approval records and the substitution of
reserves (01_one_step_through_the_device.md R25 to R31; 18_faults_resets_dumps.md R396 to R398). -/

namespace Sys2Proof.Machine

/-- Unit types of SPR_MAP_SEL: 0 core, 1 VXE, 2 SFE, 3 NSE, 4 JNC, 5 SPX, 6 GSE, 7 CRY, 8 queue processor, 9 mover,
10 management pair. -/
def unitTypes : List Nat := List.range 11

/-- Active units of a type (R25). -/
def unitActive : Nat → Nat
  | 0 => 64 | 1 => 16 | 2 => 8 | 3 => 8 | 4 => 4 | 5 => 4 | 6 => 4 | 7 => 2 | 8 => 16 | 9 => 16 | 10 => 1 | _ => 0

/-- Reserve units of a type (R25). -/
def unitReserve : Nat → Nat
  | 0 => 8 | 1 => 2 | 2 => 1 | 3 => 1 | 4 => 1 | 5 => 1 | 6 => 1 | 7 => 1 | 8 => 2 | 9 => 2 | 10 => 1 | _ => 0

/-- First physical number of a type: engine slots for engines (02_register_pages.md R33). -/
def unitBase : Nat → Nat
  | 2 => 18 | 3 => 27 | 4 => 36 | 5 => 41 | 6 => 46 | 7 => 51 | _ => 0

/-- The type is an engine type, whose physical numbers are slots. -/
def isEngine (t : Nat) : Bool := decide (1 ≤ t ∧ t ≤ 7)

/-- Key of an identity or a unit. -/
def unitKey (t n : Nat) : Nat := t * 256 + n

/-- The physical unit a logical unit maps to, if any; originally logical `l` is on physical `l` of its type (log entry 6). -/
def Dev.physOf (d : Dev) (t l : Nat) : Option Nat :=
  match mapLook d.spr.map (unitKey t l) with
  | some 0 => none
  | some (p + 1) => some p
  | none => if l < unitActive t then some (unitBase t + l) else none

/-- A physical unit's condition; originally the first units of a type are active, the rest reserve. -/
def Dev.physUnit (d : Dev) (t p : Nat) : PhysUnit :=
  (mapLook d.spr.units (unitKey t p)).getD { role := if p < unitBase t + unitActive t then 0 else 1 }

def Dev.setPhys (d : Dev) (t p : Nat) (u : PhysUnit) : Dev :=
  d.setSpr { d.spr with units := mapPut d.spr.units (unitKey t p) u }

/-- The logical unit a physical unit holds, if any. -/
def Dev.logicalOf (d : Dev) (t p : Nat) : Option Nat :=
  (List.range (unitActive t)).find? (fun l => d.physOf t l == some p)

/-- A logical unit maps to a working physical unit. -/
def Dev.works (d : Dev) (t l : Nat) : Bool := (d.physOf t l).isSome

/-- Free reserves of a type, lowest first (SPR_FREE). -/
def Dev.reserves (d : Dev) (t : Nat) : List Nat :=
  (range' (unitBase t) (unitActive t + unitReserve t)).filter (fun p => (d.physUnit t p).role == 1)

/-- The page whose header reports a physical unit: CCR, ENG, the logical processor's KQP page; none for movers and pairs. -/
def Dev.unitPage (d : Dev) (t p : Nat) : Option (Block × Nat) :=
  if t = 0 then some (.ccr, p)
  else if isEngine t then some (.eng, p)
  else if t = 8 then (d.logicalOf 8 p).map (fun l => (.kqp, l))
  else none

/-- PG_IDENT that names a failed unit in an approval record: a mover is named by TIR page 0 (SPR_ASSIST_UNIT). -/
def Dev.unitIdent (d : Dev) (t p : Nat) : Nat :=
  match d.unitPage t p with
  | some (b, i) => (pfPage b i 0).ident
  | none => (pfPage .tir 0 0).ident

def sprPage : Page := pfPage .spr 0 0
def hltPage : Page := pfPage .hlt 0 0

/-- Every logical unit maps to a working unit, and no stack or port runs degraded (R41). -/
def Dev.allMapped (d : Dev) : Bool :=
  unitTypes.all (fun t => (List.range (unitActive t)).all (fun l => d.works t l))
    && d.tir.retired.isEmpty && d.mkt.closed.isEmpty
    && (List.range 24).all (fun p => d.rd (hHealth (pfPage .fab p 0)) == 0)

/-- GLB PG_HEALTH follows the map (R41, R27). -/
def Dev.glbHealth (d : Dev) : Dev := d.setHealth .glb 0 (if d.allMapped then 0 else 1)

def Dev.setMap (d : Dev) (t l : Nat) (v : Nat) : Dev :=
  d.setSpr { d.spr with map := mapPut d.spr.map (unitKey t l) v }

/-- Show the oldest open approval record in SPR_ASSIST_OP to SPR_ASSIST_CNT (R31). -/
def Dev.sprShow (d : Dev) : Dev :=
  let r := d.spr.recs.head?.getD { handle := 0, ident := 0, kind := 0, detail := 0, utype := 0, logical := 0 }
  let d := d.wr F.sprAssistOp_op r.handle
  let d := d.wr F.sprAssistUnit_unit r.ident
  let d := d.wr F.sprAssistKind_kind r.kind
  let d := d.wr F.sprAssistKind_detail r.detail
  let d := d.wr F.sprAssistCnt d.spr.recs.length
  d.setFlag (hAssistWait sprPage) (!d.spr.recs.isEmpty)

/-- Open one approval record, or let it wait for a free one (R31: at most 64). -/
def Dev.sprOpen (d : Dev) (r : SprRec) : Dev :=
  if d.spr.recs.length < 64 then
    match d.sixAlloc 7 ownDevice 0 0 0 0xFF with
    | some (h, d) =>
      let d := d.setSpr { d.spr with recs := d.spr.recs ++ [{ r with handle := h }] }
      (d.sprShow).raiseBits sprPage [2, 30] St.ok
    | none => d.setSpr { d.spr with waiting := d.spr.waiting ++ [r] }
  else d.setSpr { d.spr with waiting := d.spr.waiting ++ [r] }

/-- A failure that would bring in a reserve: in ASSIST mode it opens a record; in HW mode the reserve comes in at the next
boundary (SPARE_SUBSTITUTION). With no reserve free the identity stays unmapped and NO_RESERVE is set (R27). -/
def Dev.sprFailure (d : Dev) (t l ident kind detail : Nat) : Dev :=
  let tested := d.hlt.testing.any (fun x => x.utype == t && x.start != 0 && !x.inPlace)
  let d := if kind = 0 ∧ d.reserves t = [] ∧ !tested then d.raise sprPage 1 St.noResource else d
  if d.assist sprPage then
    d.sprOpen { handle := 0, ident := ident, kind := kind, detail := detail, utype := t, logical := l }
  else d

/-- 24 hours in qns. -/
def dayQ : Nat := 86400 * secQ

/-- Retire a unit (R398): ROLE and PG_HEALTH read RETIRED, HLT PG_EVENT bit 3, and the configuration record takes it. -/
def Dev.retireUnit (d : Dev) (t p : Nat) : Dev :=
  let d := d.setPhys t p { d.physUnit t p with role := 4 }
  let d := match d.unitPage t p with
    | some (b, i) => d.setHealth b i 3
    | none => d
  let d := d.raise hltPage 3 St.ok
  (d.raise sprPage 3 St.ok).recordRetirement

/-- Close a unit (R396): fence it, take its identity away, count the closure; the third within 24 h retires it (R398). -/
def Dev.closeUnit (d : Dev) (t p status : Nat) : Dev :=
  let u := d.physUnit t p
  let cl := (u.closures.filter (fun c => decide (d.now < c + dayQ))) ++ [d.now]
  let l := d.logicalOf t p
  let pg := d.unitPage t p
  let d := d.setPhys t p { u with role := 3, closures := cl, testFrom := d.now }
  let d := match pg with
    | some (b, i) =>
      let d := (d.setHealth b i 2).incSat (hCloseCount (pfPage b i 0)) 1
      if t = 0 ∨ isEngine t then d.raise (pfPage b i 1) 4 status else d
    | none => d
  let d := d.raise hltPage 2 status
  let ident := match pg with
    | some (b, i) => (pfPage b i 0).ident
    | none => (pfPage .tir 0 0).ident
  let d := match l with
    | some l => (d.setMap t l 0).sprFailure t l ident 0 (if t = 9 then p else 0)
    | none => d
  if 3 ≤ cl.length then d.retireUnit t p else d

/-- Count a fault of a unit: a residue mismatch or a BOUND_EXCEEDED end. HLT_FAULT_CFG.LIMIT within WIN closes it (R396). -/
def Dev.unitFault (d : Dev) (t p : Nat) : Dev :=
  let u := d.physUnit t p
  let fs := (u.faults.filter (fun c => decide (d.now < c + d.rd F.hltFaultCfg_win * secQ))) ++ [d.now]
  if d.rd F.hltFaultCfg_limit ≤ fs.length then
    (d.setPhys t p { u with faults := [] }).closeUnit t p St.ok
  else d.setPhys t p { u with faults := fs }

/-- A reserve takes an identity: the map changes and SPR PG_EVENT bit 0 is set (R30). -/
def Dev.takeIdentity (d : Dev) (t l p : Nat) : Dev :=
  let d := d.setMap t l (p + 1)
  let d := d.setPhys t p { d.physUnit t p with role := 0 }
  let d := d.setSpr { d.spr with approved := d.spr.approved.filter (· != unitKey t l) }
  d.raise sprPage 0 St.ok

/-- Identities of a type with no physical unit, lowest first. -/
def Dev.unmapped (d : Dev) (t : Nat) : List Nat := (List.range (unitActive t)).filter (fun l => !d.works t l)

/-- An identity may be brought in: in HW mode unless declined, in ASSIST mode once approved (R27, R28, R31). -/
def Dev.mayMap (d : Dev) (t l : Nat) : Bool :=
  if d.assist sprPage then d.spr.approved.contains (unitKey t l) else !d.spr.declined.contains (unitKey t l)

/-- A unit joins the reserve pool (R397): ROLE reads RESERVE, PG_HEALTH OK (DEGRADED where repairs remain), RESERVE_RETURNED. -/
def Dev.joinReserve (d : Dev) (t p : Nat) (repairs : Bool) : Dev :=
  let d := d.setPhys t p { d.physUnit t p with role := 1 }
  let d := match d.unitPage t p with
    | some (b, i) => d.setHealth b i (if repairs then 1 else 0)
    | none => d
  d.raise sprPage 4 St.ok

/-- Array repairs of a physical core remain in use (CCR_REPAIR). -/
def Dev.coreRepaired (d : Dev) (p : Nat) : Bool :=
  d.flag (F.ccrRepair_repColValid p) || d.flag (F.ccrRepair_row0Valid p) || d.flag (F.ccrRepair_row1Valid p)

end Sys2Proof.Machine
end

