-- ==== Sys2Proof/Machine/Operands.lean ====
section
/-! DEFINITION. The operand forms of queued commands: the 16-byte header, the flags, the control bodies, and the formats of
numbers in memory (03_klotchaex_command_stream.md R63 to R69). -/

namespace Sys2Proof.Machine

/-- `w` bits of a command from bit `lo` of byte `b`. -/
def cmdBits (c : Cmd) (b lo w : Nat) : Nat := bitsAt c.toNat (8 * b + lo) w

def cmdOpcode (c : Cmd) : Nat := cmdBits c 0 0 12
def cmdVer (c : Cmd) : Nat := cmdBits c 0 12 4
def cmdFlags (c : Cmd) : Nat := cmdBits c 2 0 16
def cmdWaitEn (c : Cmd) : Bool := cmdBits c 2 0 1 == 1
def cmdSigEn (c : Cmd) : Bool := cmdBits c 2 1 1 == 1
def cmdSigAlways (c : Cmd) : Bool := cmdBits c 2 2 1 == 1
def cmdFence (c : Cmd) : Bool := cmdBits c 2 3 1 == 1
def cmdIrq (c : Cmd) : Bool := cmdBits c 2 4 1 == 1
def cmdStep (c : Cmd) : Bool := cmdBits c 2 5 1 == 1
def cmdStepTag (c : Cmd) : Nat := cmdBits c 2 6 2
def cmdBeacon (c : Cmd) : Bool := cmdBits c 2 8 1 == 1
def cmdPartition (c : Cmd) : Nat := cmdBits c 4 0 4
def cmdLayer (c : Cmd) : Nat := cmdBits c 4 4 20
def cmdSigInc (c : Cmd) : Nat := cmdBits c 7 0 8
def cmdWaitSem (c : Cmd) : Nat := cmdBits c 8 0 16
def cmdWaitValue (c : Cmd) : Nat := cmdBits c 10 0 16
def cmdSigSem (c : Cmd) : Nat := cmdBits c 12 0 16
def cmdBound (c : Cmd) : Nat := cmdBits c 14 0 16

/-- COUNT of a WAIT or SIGNAL body (R69). -/
def cmdCount (c : Cmd) : Nat := cmdBits c 16 0 4

/-- SEM of slot `k` of a WAIT or SIGNAL body. -/
def slotSem (c : Cmd) (k : Nat) : Nat := cmdBits c (20 + 4 * k) 0 16

/-- VALUE or INC of slot `k`. -/
def slotVal (c : Cmd) (k : Nat) : Nat := cmdBits c (22 + 4 * k) 0 16

/-- ADDR of a STAMP body. -/
def stampAddr (c : Cmd) : Nat := cmdBits c 16 0 48

/-- Opcodes of the table Opcode map (R66). -/
def opNOP : Nat := 0x000
def opFENCE : Nat := 0x001
def opWAIT : Nat := 0x002
def opSIGNAL : Nat := 0x003
def opSTAMP : Nat := 0x004
def opSTEP_OPEN : Nat := 0x010
def opSTEP_SEAL : Nat := 0x011
def opCKPT : Nat := 0x012
def opRESTORE : Nat := 0x013
def opRESHARD : Nat := 0x014
def opWSET_SWAP : Nat := 0x015
def opMM : Nat := 0x100
def opMM_T : Nat := 0x101
def opCONV : Nat := 0x102
def opATTN : Nat := 0x103
def opSLICE64 : Nat := 0x104
def opSLICE32 : Nat := 0x105
def opVX : Nat := 0x200
def opSF : Nat := 0x201
def opNORM : Nat := 0x202
def opROUTE : Nat := 0x203
def opPERMUTE : Nat := 0x204
def opCOMBINE : Nat := 0x205
def opFFT : Nat := 0x206
def opGATHER : Nat := 0x207
def opSCATTER_ADD : Nat := 0x208
def opMOVE : Nat := 0x300
def opPREFETCH : Nat := 0x301
def opEVICT : Nat := 0x302
def opPIN : Nat := 0x303
def opUNPIN : Nat := 0x304
def opALLREDUCE : Nat := 0x400
def opREDUCE_SCATTER : Nat := 0x401
def opALLGATHER : Nat := 0x402
def opALLTOALL : Nat := 0x403
def opBCAST_CHAIN : Nat := 0x404
def opSEND : Nat := 0x405
def opRECV : Nat := 0x406
def opBARRIER : Nat := 0x407
def opUPDATE : Nat := 0x500
def opGROUP_CFG : Nat := 0x501
def opSTATS : Nat := 0x502
def opLOAD_WPK : Nat := 0x600

/-- The defined opcodes (R67). -/
def definedOpcodes : List Nat :=
  [0x000, 0x001, 0x002, 0x003, 0x004, 0x010, 0x011, 0x012, 0x013, 0x014, 0x015, 0x100, 0x101, 0x102, 0x103, 0x104, 0x105,
   0x200, 0x201, 0x202, 0x203, 0x204, 0x205, 0x206, 0x207, 0x208, 0x300, 0x301, 0x302, 0x303, 0x304, 0x400, 0x401, 0x402,
   0x403, 0x404, 0x405, 0x406, 0x407, 0x500, 0x501, 0x502, 0x600]

/-- FLAGS.STEP must be 1 (R64). -/
def stepOnly (op : Nat) : Bool := [opUPDATE, opSTATS, opSTEP_OPEN, opSTEP_SEAL, opCKPT].contains op

/-- FLAGS.STEP must be 0 (R64). -/
def stepNever (op : Nat) : Bool := [opRESTORE, opRESHARD, opWSET_SWAP, opLOAD_WPK].contains op

/-- Ledger commands (R75, R263 to R285). -/
def isLedgerOp (op : Nat) : Bool := [opSTEP_OPEN, opSTEP_SEAL, opCKPT, opRESTORE, opRESHARD, opWSET_SWAP].contains op

/-- WORK of a completion record: MANT [9:0] times 2^EXP [15:10], rounded down. -/
def workCode (w : Nat) : Nat :=
  let e := Nat.log2 w + 1 - 10
  if w = 0 then 0 else (w >>> e) + e * 1024

/-- The 32 bytes of a completion record. -/
def recordBytes (status work handle mask start stop : Nat) : List Byte :=
  leBytes 2 status ++ leBytes 2 (workCode work) ++ leBytes 4 handle ++ leBytes 8 mask ++ leBytes 8 start ++ leBytes 8 stop

end Sys2Proof.Machine
end

