-- ==== Sys2Proof/Machine/Queues.lean ====
section
/-! DEFINITION. Queues, parts and completion: the operations that start, end and complete a command, signal semaphores and
write records (03_klotchaex_command_stream.md R52 to R84), with the job's newest attempt as the step check reads it. -/

namespace Sys2Proof.Machine

def Dev.queue (d : Dev) (q : Nat) : Queue := mapGet {} d.kqp.queues q

def Dev.setQueue (d : Dev) (q : Nat) (x : Queue) : Dev :=
  d.setKqp { d.kqp with queues := mapPut d.kqp.queues q x }

/-- The job and partition of a queue. -/
def Dev.qJob (d : Dev) (q : Nat) : Nat := d.rd (F.qCfg_job (q / 16) (q % 16))
def Dev.qPart (d : Dev) (q : Nat) : Nat := d.rd (F.qCfg_partition (q / 16) (q % 16))

/-- Q_STATE.STATE codes. -/
def qsDISABLED : Nat := 0
def qsIDLE : Nat := 1
def qsACTIVE : Nat := 2
def qsBLOCKED : Nat := 3
def qsSTOPPED : Nat := 4

def Dev.qSt (d : Dev) (q : Nat) : Nat := d.rd (F.qState_state (q / 16) (q % 16))
def Dev.setQSt (d : Dev) (q st : Nat) : Dev := d.wr (F.qState_state (q / 16) (q % 16)) st
def Dev.qHead (d : Dev) (q : Nat) : Nat := d.rd (F.qHead_count (q / 16) (q % 16))
def Dev.qTail (d : Dev) (q : Nat) : Nat := d.rd (F.qTail_count (q / 16) (q % 16))
def Dev.qDone (d : Dev) (q : Nat) : Nat := d.rd (F.qDone_count (q / 16) (q % 16))
def Dev.qEnabled (d : Dev) (q : Nat) : Bool := d.flag (F.qCfg_enable (q / 16) (q % 16))

/-- Ring entries of a queue: 2^L (R53). -/
def Dev.qSize (d : Dev) (q : Nat) : Nat := 2 ^ d.rd (F.qCfg_log2Size (q / 16) (q % 16))

/-- The queues of a partition, in ascending order (R52). -/
def Dev.partQueues (d : Dev) (p : Nat) : List Nat := (List.range 256).filter (fun q => d.qPart q == p)

/-- A queue's number in the view of the VF that owns its partition. -/
def Dev.viewIndex (d : Dev) (q : Nat) : Option (Nat × Nat) :=
  match d.partVf (d.qPart q) with
  | some n => ((d.partQueues (d.qPart q)).findIdx? (· == q)).map (fun v => (n, v))
  | none => none

/-- The page of a VF's KQP view that shows view queue `v` (R62). -/
def viewQueuePage (n v : Nat) : Page := ⟨n, .kqp, 0, if v / 16 = 0 then 1 else v / 16 + 2⟩

/-- A field of KQP_REPEAT_LAST (0x80) or KQP_REPEAT_CNT (0x84) in a VF's view page (R62). -/
def viewRepeat (n v off lo w : Nat) : Fld := hdrFld (viewQueuePage n v) off lo w

/-- Set an event of a queue in KQP page 1 and in the view page of its VF: `bit` says which bit the set number takes. -/
def Dev.raiseQueue (d : Dev) (q : Nat) (bit : Nat → Nat) (status : Nat) (c : Cause := {}) : Dev :=
  let d1 := d.raise (pfPage .kqp (q / 16) 1) (bit (q % 16)) status c
  match d.viewIndex q with
  | some (n, v) => d1.raise (viewQueuePage n v) (bit (v % 16)) status c
  | none => d1

/-! ### The job's newest attempt -/

def Dev.job (d : Dev) (j : Nat) : JobState := mapGet {} d.ldg.jobs j

def Dev.setJob (d : Dev) (j : Nat) (x : JobState) : Dev := d.setLdg { d.ldg with jobs := mapPut d.ldg.jobs j x }

/-- The record of the newest attempt. -/
def Dev.newest (d : Dev) (j : Nat) : Option LedgerRec :=
  if (d.job j).opened then mapLook (d.job j).ring (d.rd (F.ldgJobState_head j)) else none

/-- Step state codes (12_step_ledger.md R261). -/
def stOPEN : Nat := 1
def stSEALED : Nat := 2
def stREADY : Nat := 3
def stCOMMITTED : Nat := 4
def stABORTED : Nat := 5

/-- The job has an attempt that is OPEN, SEALED or READY. -/
def Dev.attemptLive (d : Dev) (j : Nat) : Bool :=
  match d.newest j with
  | some r => decide (1 ≤ r.state ∧ r.state ≤ 3)
  | none => false

/-- The event record's cause: the step, layer, job and attempt of a command. -/
def Dev.causeOf (d : Dev) (q : Nat) (c : Cmd) : Cause :=
  if cmdStep c then
    match d.newest (d.qJob q) with
    | some r => { step := r.step % 2 ^ 32, layer := cmdLayer c, job := d.qJob q, attempt := r.attempt % 256 }
    | none => { layer := cmdLayer c, job := d.qJob q }
  else { layer := cmdLayer c, job := d.qJob q }

/-- This device's rank in a job's commit group. -/
def Dev.myRank (d : Dev) (j : Nat) : Nat := d.rd ((F.colGrpCfg_myRank).bank (d.rd (F.ldgJobCfg_group j)))

/-- The first failure of a command of the job's live attempt before the device has voted READY (R76, R266). -/
def Dev.stepFailure (d : Dev) (j status rank : Nat) : Dev :=
  if d.attemptLive j ∧ (d.job j).failWith.isNone ∧ !(d.job j).voted then
    d.setJob j { d.job j with failWith := some (status, rank) }
  else d

/-! ### Semaphores -/

def Dev.sem (d : Dev) (p i : Nat) : Nat := mapGet 0 d.kqp.sems (p * 65536 + i)

/-- A wait for `v` is satisfied (R71). -/
def semReached (s v : Nat) : Bool := decide ((s % 65536 + 65536 - v) % 65536 < 32768)

/-- Slots of a WAIT that its partition's semaphores satisfy now. -/
def Dev.waitMask (d : Dev) (p : Nat) (c : Cmd) : Nat :=
  sumBy (fun k => if semReached (d.sem p (slotSem c k)) (slotVal c k) then 2 ^ k else 0) (List.range (cmdCount c))

/-- After a change of a semaphore, the waits of one queue are evaluated again; one that is satisfied stays so (R71). -/
def Dev.queueWaits (d : Dev) (x : Nat × Queue) : Nat × Queue :=
  let q := x.1
  let p := d.qPart q
  let w := match x.2.fetched.head? with
    | some (_, c, _) =>
      x.2.waited || (d.flag (F.qState_waitSem (q / 16) (q % 16)) && semReached (d.sem p (cmdWaitSem c)) (cmdWaitValue c))
    | none => x.2.waited
  let ex := x.2.exec.map (fun e => if cmdOpcode e.cmd = opWAIT then { e with waits := e.waits ||| d.waitMask p e.cmd } else e)
  (q, { x.2 with waited := w, exec := ex })

/-- Set a semaphore and evaluate the waits again. -/
def Dev.semSet (d : Dev) (p i v : Nat) : Dev :=
  let d := d.setKqp { d.kqp with sems := mapSet 0 d.kqp.sems (p * 65536 + i) (v % 2 ^ 32) }
  d.setKqp { d.kqp with queues := d.kqp.queues.map d.queueWaits }

/-- Add to a semaphore, modulo 2^32. -/
def Dev.semAdd (d : Dev) (p i v : Nat) : Dev := d.semSet p i (d.sem p i + v)

/-! ### References held by parts -/

def Dev.obj? (d : Dev) (k : Nat) : Option Obj := mapLook d.tir.objs k

def Dev.setObj (d : Dev) (k : Nat) (o : Obj) : Dev := d.setTir { d.tir with objs := mapPut d.tir.objs k o }

/-- A unit nothing has touched: a COMMITTED object has its T1 copies from CREATE; a T2 address means a T2 copy, but for a STEP object,
every copy of which belongs to an attempt (10_tiers R218; log entry 112). -/
def Obj.fresh (o : Obj) : TUnit :=
  { t1 := if o.kind = 2 then 2 else 0, t2 := if o.t2Addr = 0 ∨ o.kind = 1 then 0 else 2 }

def Obj.unit (o : Obj) (u : Nat) : TUnit := mapGet o.fresh o.units u

def Obj.setUnit (o : Obj) (u : Nat) (x : TUnit) : Obj := { o with units := mapSet o.fresh o.units u x }

/-- End one reference: the count of the copy it was taken on falls (10_tiers_and_street_index.md R220, R226). -/
def Dev.endRef (d : Dev) (r : TRef) : Dev :=
  match d.obj? r.obj with
  | none => d
  | some o =>
    if r.old then
      d.setObj r.obj { o with old := (o.old.map (fun c => if c.unit = r.unit then { c with refs := c.refs - 1 } else c)) }
    else
      d.setObj r.obj (o.setUnit r.unit { o.unit r.unit with ref0 := (o.unit r.unit).ref0 - 1, lastEnd := d.now })

/-- A part's references and waits end with it. -/
def Dev.dropRefs (d : Dev) (q count part : Nat) : Dev :=
  let mine (r : TRef) : Bool := r.q == q && r.count == count && r.part == part
  let d := (d.tir.refs.filter mine).foldl Dev.endRef d
  let rest := d.tir.refs.filter (fun r => not (mine r))
  let waits := d.tir.waits.filter (fun w => not (w.q == q && w.count == count && w.part == part))
  d.setTir { d.tir with refs := rest, waits := waits }

/-! ### Completion -/

/-- The completion ring slot of a ring count. -/
def Dev.cplAddr (d : Dev) (q count : Nat) : Nat :=
  d.rd (F.qCplLo_base (q / 16) (q % 16)) * 4096 + d.rd (F.qCplHi_base (q / 16) (q % 16)) * 2 ^ 32 + (count % d.qSize q) * 32

/-- Parts that failed, as a mask (R80). -/
def partMask : List Part → Nat → Nat
  | [], _ => 0
  | p :: ps, i => (if p.status ≠ 0 then 2 ^ i else 0) + partMask ps (i + 1)

/-- The part that failed first: earliest failure stamp, then lowest index (R80). -/
def firstFailing (ps : List Part) : Option Part := minBy (fun p => p.endStamp) (ps.filter (fun p => p.status != 0))

/-- STATUS of a completion record (R80): the first informational status, PARTIAL, or the first failing part's status. -/
def CmdEx.outcome (e : CmdEx) : Nat :=
  match e.preset with
  | some st => st
  | none =>
    match firstFailing e.parts with
    | none => ((e.parts.filter (fun p => p.info != 0)).head?.map (fun p => p.info)).getD St.ok
    | some p => if e.scratch ∧ e.parts.any (fun x => x.status == 0) then St.partialDone else p.status

/-- The command failed: rejected, or with a failing part. -/
def CmdEx.failed (e : CmdEx) : Bool :=
  match e.preset with
  | some _ => !e.discarded
  | none => e.parts.any (fun p => p.status != 0)

/-- The status Q_ERR and LAST_STATUS take (R80). -/
def CmdEx.errStatus (e : CmdEx) : Nat :=
  match e.preset with
  | some st => st
  | none => match firstFailing e.parts with
    | some p => p.status
    | none => St.ok

/-- The command signals (R72): every part succeeded, or it was discarded or failed with SIG_ALWAYS; a rejected one never. -/
def CmdEx.signals (e : CmdEx) : Bool :=
  cmdSigEn e.cmd &&
    (match e.preset with
     | some _ => e.discarded && cmdSigAlways e.cmd
     | none => !e.failed || cmdSigAlways e.cmd)

/-- Q_DONE: ring counts from the start whose records are all written, without gaps. -/
def advanceDone : Nat → Nat → List Nat → Nat × List Nat
  | 0, n, l => (n, l)
  | k + 1, n, l => if l.contains (n % 2 ^ 32) then advanceDone k (n + 1) (l.filter (· != n % 2 ^ 32)) else (n % 2 ^ 32, l)

/-- Store Q_DONE after the record of `count`. -/
def Dev.noteDone (d : Dev) (q count : Nat) : Dev :=
  let x := d.queue q
  let l := if serialGe 32 count (d.qDone q) then x.done ++ [count % 2 ^ 32] else x.done
  let r := advanceDone (l.length + 1) (d.qDone q) l
  (d.setQueue q { x with done := r.2 }).wr (F.qDone_count (q / 16) (q % 16)) r.1

/-- The queue's state after a change, where it is neither STOPPED nor waiting: DISABLED once a disabled queue has nothing in
execution (R60), IDLE when all is done, ACTIVE otherwise (table Queue states). -/
def Dev.qSettle (d : Dev) (q : Nat) : Dev :=
  let x := d.queue q
  let i := q / 16
  let j := q % 16
  let d := d.wr (F.qState_inExec i j) ((x.exec.filter (fun e => !e.fin)).length)
  if x.disabling then
    if x.exec = [] then
      (((d.setQueue q { x with disabling := false, noRecords := false, fetched := [], runs := [] }).setQSt q qsDISABLED).wr
        (F.qHead_count i j) (d.qDone q))
    else d
  else if d.qSt q = qsSTOPPED ∨ d.qSt q = qsDISABLED then d
  else if x.fetched = [] ∧ x.exec = [] ∧ d.qHead q = d.qTail q then d.setQSt q qsIDLE
  else if d.qSt q = qsBLOCKED then d
  else d.setQSt q qsACTIVE

/-- The rank that a failed collective's status names; 0xFFFF for a status that names none (12_step_ledger.md R266, R355). -/
def Dev.failRank (d : Dev) (q count : Nat) : Nat :=
  ((d.col.colls.find? (fun c => c.q == q && c.i == count)).map (fun c => c.failRank)).getD 0xFFFF

/-- The newest attempt of a step of a job. -/
def Dev.attemptOf (d : Dev) (j step : Nat) : Option LedgerRec :=
  ((d.job j).ring.map (fun e => e.2)).foldl (fun b r =>
    if r.step ≠ step then b else match b with
      | some y => if y.attempt < r.attempt then some r else b
      | none => some r) none

/-- The newest attempt of the step that a command's STEP_TAG names (table Step check, R75). -/
def Dev.taggedAttempt (d : Dev) (j : Nat) (c : Cmd) : Option LedgerRec :=
  (d.newest j).bind fun r =>
    match (cmdStepTag c + 4 - r.step % 4) % 4 with
    | 0 => some r
    | k => d.attemptOf j ((r.step + 2 ^ 64 - (4 - k)) % 2 ^ 64)

/-- A queue that a step's failure stopped leaves STOPPED without host action (R76). -/
def Dev.leaveStopped (d : Dev) (q : Nat) : Dev := ((d.setQueue q { d.queue q with stoppedBy := 0 }).setQSt q qsACTIVE).qSettle q

/-- A failed command stops its queue: Q_ERR, STOPPED, the page 1 event; a step-scoped failure is the step's (R76, R80), and where its
step is ABORTED already the queue leaves STOPPED at once (log entry 123). -/
def Dev.stopQueue (d : Dev) (q : Nat) (e : CmdEx) : Dev :=
  let i := q / 16
  let j := q % 16
  let d := d.wr (F.qErr_status i j) e.errStatus
  let d := d.wr (F.qErr_index i j) (e.count % d.qSize q)
  let d := if (d.queue q).disabling then d else d.setQSt q qsSTOPPED
  let d := d.raiseQueue q id e.errStatus (d.causeOf q e.cmd)
  if e.step ∧ e.preset.isNone ∧ cmdOpcode e.cmd ≠ opSTEP_OPEN then
    match d.taggedAttempt (d.qJob q) e.cmd with
    | none => d
    | some r =>
      if r.state = stABORTED then (if d.qSt q = qsSTOPPED then d.leaveStopped q else d)
      else if r.state = stCOMMITTED then d
      else (d.setQueue q { d.queue q with stoppedBy := r.step + 1 }).stepFailure (d.qJob q) e.errStatus (d.failRank q e.count)
  else d

/-- The stamps of a record: start of the first part and end of the last (R78 for a repeated layer). -/
def CmdEx.startStamp (e : CmdEx) : Nat := e.start

/-- A command's weight-set bindings end with it (16_weights_and_partitions.md R364). -/
def Dev.unbind (d : Dev) (binds : Nat) : Dev :=
  d.wset.defined.foldl (fun d s =>
    match binds / 4 ^ s % 4 with
    | 1 => d.wr (F.wsetRefs_ref0.bank s) (d.rd (F.wsetRefs_ref0.bank s) - 1)
    | 2 => d.wr (F.wsetRefs_ref1.bank s) (d.rd (F.wsetRefs_ref1.bank s) - 1)
    | _ => d) d

/-- The record's effects in the order of R74: semaphores, the record, MSI-X. -/
def Dev.writeRecord (d : Dev) (q : Nat) (e : CmdEx) : Dev :=
  let p := d.qPart q
  let ok := e.preset.isNone && !e.failed
  let d := if cmdOpcode e.cmd = opSIGNAL ∧ ok then
      (List.range (cmdCount e.cmd)).foldl (fun d k => d.semAdd p (slotSem e.cmd k) (slotVal e.cmd k)) d
    else d
  let d := if e.signals then d.semAdd p (cmdSigSem e.cmd) (cmdSigInc e.cmd) else d
  let d := if cmdOpcode e.cmd = opSTAMP ∧ ok then d.hostWrite (stampAddr e.cmd) (leBytes 8 e.start) else d
  let st := if ok && e.again != 0 then St.repeatedWider else e.outcome
  let stop := if e.preset.isSome then e.start else e.endStamp
  let bytes := recordBytes st (sumBy (fun p => p.work) e.parts) e.handle (partMask e.parts 0) e.start stop
  let noRec := (d.queue q).noRecords
  let d := if noRec then d
    else d.emit .completion (d.cplAddr q e.count) [q, e.count, st, e.handle, partMask e.parts 0, e.start, stop] bytes
  let d := if e.handle = 0 then d else d.sixRelease e.handle st
  let d := d.unbind e.binds
  let d := d.noteDone q e.count
  if cmdIrq e.cmd ∧ !noRec then d.sendMsix (d.partFunc p) (d.rd (F.qMsix_vector (q / 16) (q % 16))) else d

/-- Remove a completed command, with its collective where it is one, and write its record. -/
def Dev.retire (d : Dev) (q : Nat) (e : CmdEx) : Dev :=
  let x := d.queue q
  let d := d.setQueue q { x with exec := x.exec.filter (fun y => y.count != e.count) }
  let d := d.setCol { d.col with colls := d.col.colls.filter (fun k => not (k.q == q && k.i == e.count)) }
  (d.writeRecord q e).qSettle q

/-- A command has ended: outside a layer it completes at once (R74); inside one it waits for the layer to drain (R78). A
failure stops the queue either way (R80). -/
def Dev.cmdEnded (d : Dev) (q : Nat) (e : CmdEx) : Dev :=
  let e := { e with fin := true, endStamp := d.now }
  let x := d.queue q
  let d := d.setQueue q { x with exec := x.exec.map (fun y => if y.count = e.count then e else y) }
  let d := if e.failed then d.stopQueue q e else d
  let d := if cmdOpcode e.cmd = opUPDATE ∧ e.step ∧ !e.failed ∧ e.preset.isNone then
      d.setJob (d.qJob q) { d.job (d.qJob q) with updatesDone := (d.job (d.qJob q)).updatesDone + 1 }
    else d
  if e.run = 0 then d.retire q e else d.qSettle q

/-- The command in execution at a ring count. -/
def Dev.cmdAt (d : Dev) (q count : Nat) : Option CmdEx := (d.queue q).exec.find? (fun e => e.count == count && !e.fin)

def Dev.setCmd (d : Dev) (q : Nat) (e : CmdEx) : Dev :=
  let x := d.queue q
  d.setQueue q { x with exec := x.exec.map (fun y => if y.count = e.count then e else y) }

/-- End part `p` of a command with a status; the last part to end ends the command (R81). -/
def Dev.endPart (d : Dev) (q count p status : Nat) : Dev :=
  match d.cmdAt q count with
  | none => d
  | some e =>
    match e.parts[p]? with
    | none => d
    | some x =>
      if x.ended then d
      else
        let x := { x with ended := true, status := status, endStamp := d.now }
        let e := { e with parts := setNth e.parts p x }
        let d := (d.setCmd q e).dropRefs q count p
        let d := if x.utype = 14 ∧ x.ran then d.setFlag (F.acrState_busy x.unit) false else d
        let d := match d.physOf 0 x.unit with
          | some u => if x.utype = 0 ∧ x.ran then d.setCcr { d.ccr with on := mapPut d.ccr.on u (d.now + 1) } else d
          | none => d
        let d := if x.handle = 0 ∨ x.handle = e.handle then d else d.sixRelease x.handle status
        if e.parts.all (fun y => y.ended) then d.cmdEnded q e else d

/-- A part's work is done with a result: failed with `status`, or succeeded with an informational status `info` or 0. It ends
with PART_END. -/
def Dev.partRan (d : Dev) (q count p status info work : Nat) : Dev :=
  match d.cmdAt q count with
  | none => d
  | some e =>
    match e.parts[p]? with
    | none => d
    | some x =>
      d.setCmd q { e with parts := setNth e.parts p { x with ran := true, status := status, info := info, work := work } }

/-- The part is running and its work has not been done: the condition under which a command's own event acts. -/
def Dev.partReady (d : Dev) (q count p op : Nat) : Bool :=
  match d.cmdAt q count with
  | none => false
  | some e => cmdOpcode e.cmd == op &&
    (match e.parts[p]? with
     | none => false
     | some x => !x.ended && !x.ran)

/-- The body of a running command. -/
def Dev.cmdBody (d : Dev) (q count : Nat) : Cmd := ((d.cmdAt q count).map (fun e => e.cmd)).getD 0

end Sys2Proof.Machine
end

