-- ==== Sys2Proof/Machine/FabOps.lean ====
section
/-! DEFINITION. The ports as the transport and the roster use them: what a port's queues hold, which port may send, the lengths of
frames (13_fabric_ports.md R289 to R301). -/

namespace Sys2Proof.Machine

def fabPage (p : Nat) : Page := pfPage .fab p 0

def Dev.port (d : Dev) (p : Nat) : FabPort := mapGet {} d.fab.ports p

def Dev.setPort (d : Dev) (p : Nat) (x : FabPort) : Dev := d.setFab { d.fab with ports := mapPut d.fab.ports p x }

/-- FAB_PORT_STATE.STATE codes. -/
def psDISABLED : Nat := 0
def psNO_SIGNAL : Nat := 1
def psNEGOTIATING : Nat := 2
def psUP : Nat := 4
def psDOWN : Nat := 5

def Dev.portSt (d : Dev) (p : Nat) : Nat := d.rd (F.fabPortState_state p)
def Dev.portUp (d : Dev) (p : Nat) : Bool := d.portSt p == psUP

/-- Rate of a port in units of 100 Gb/s: RATE 1 is 100, 2 is 200, 3 is 400 Gb/s. -/
def rateUnits : Nat → Nat
  | 1 => 1 | 2 => 2 | 3 => 4 | _ => 0

def Dev.portRate (d : Dev) (p : Nat) : Nat := rateUnits (d.rd (F.fabPortState_rate p))

/-- The ports whose link is up. -/
def Dev.upPorts (d : Dev) : List Nat := (List.range 24).filter d.portUp

/-- Bytes that wait in a queue of a port. -/
def FabPort.queued (x : FabPort) (q : Nat) : Nat := sumBy (fun f => f.len) (x.txq.filter (fun f => f.queue == q))

/-- A queue holds 256 KiB (R301). -/
def queueBytes : Nat := 262144

/-- The queue of a port has room for a frame. -/
def Dev.portRoom (d : Dev) (p q len : Nat) : Bool := decide ((d.port p).queued q + len ≤ queueBytes)

/-- A frame enters its queue. -/
def Dev.enqueue (d : Dev) (p : Nat) (f : Frame) : Dev := d.setPort p { d.port p with txq := (d.port p).txq ++ [f] }

/-- Length on the wire, from the destination address through the FCS, of a frame with `n` bytes above Ethernet (R297, R298). -/
def Dev.frameLen (d : Dev) (p n : Nat) : Nat := max 64 (18 + (if d.flag (F.fabPortCfg_tagEn p) then 4 else 0) + n)

/-- The device's own MAC addresses: the base address is spelt by the device id, b0-b1-b2-FF-FE-b3-b4-b5 (R308); port p sends from
offset 1 + p. -/
def Dev.baseMac (d : Dev) : Nat := bitsAt d.deviceId 40 24 * 2 ^ 24 + bitsAt d.deviceId 0 24
def Dev.portMac (d : Dev) (p : Nat) : Nat := d.baseMac + 1 + p

/-- The base address that a device id spells. -/
def macOfId (dev : Nat) : Nat := bitsAt dev 40 24 * 2 ^ 24 + bitsAt dev 0 24

end Sys2Proof.Machine
end

