-- ==== Sys2Proof/Machine/Dumps.lean ====
section
/-! DEFINITION. Dumps: what triggers one, the Back Lane collection, the host's pull, the copy to the host
(18_faults_resets_dumps.md R406 to R410). -/

namespace Sys2Proof.Machine


/-- The slot a new dump takes: one that is not held, the older when neither is (R409). -/
def Dev.dumpSlot (d : Dev) : Option Nat :=
  let h0 := d.flag F.hltDumpCtrl_hold0
  let h1 := d.flag F.hltDumpCtrl_hold1
  if h0 ∧ h1 then none
  else if h0 then some 1
  else if h1 then some 0
  else if (mapLook d.hlt.slots 0).isNone then some 0
  else if (mapLook d.hlt.slots 1).isNone then some 1
  else some (1 - d.rd F.hltDumpState_last)

/-- A trigger: a dump starts, or is merged into the one in progress, or is dropped (R406, R409). `ident` is the PG_IDENT of
the unit the trigger names, 0 for a request. -/
def Dev.dumpTrigger (d : Dev) (status ident : Nat) : Dev :=
  match d.hlt.cur with
  | some c =>
    let c := { c with suspects := if ident = 0 then c.suspects else c.suspects ++ [ident] }
    (d.setHlt { d.hlt with cur := some c }).incSat F.hltDumpState_merged 1
  | none =>
    match d.dumpSlot with
    | none => (d.incSat F.hltDumpState_dropped 1).raise hltPage 7 status
    | some sl =>
      let c : Dump := { slot := sl, trigger := d.now, status := status, ident := ident,
                        suspects := if ident = 0 then [] else [ident] }
      let d := d.setFlag F.hltDumpState_busy true
      let d := if sl = 0 then d.setFlag F.hltDumpState_valid0 false else d.setFlag F.hltDumpState_valid1 false
      let d := d.setHlt { d.hlt with slots := mapDel d.hlt.slots sl }
      if d.assist hltPage then
        match d.sixAlloc 7 ownDevice 0 0 0 0xFF with
        | some (h, d) => (d.setHlt { d.hlt with cur := some { c with assist := h } }).assistOpen hltPage status
        | none => d.setHlt { d.hlt with cur := some c }
      else d.setHlt { d.hlt with cur := some c }

/-- The header of a dump and its section table (table Dump layout). Section offsets and lengths follow what the collector
received: a section that is PRESENT has the length `len`, the others 0. -/
def Dump.header (c : Dump) (device : Nat) (len : Nat → Nat) : List Byte :=
  let n := c.sections.length
  let first := 64 + 16 * n
  let rec table : List (Nat × Nat) → Nat → List Byte
    | [], _ => []
    | (i, st) :: rest, off =>
      let l := if st = 0 then len i else 0
      leBytes 4 i ++ leBytes 1 st ++ leBytes 3 0 ++ leBytes 4 (if st = 0 then off else 0) ++ leBytes 4 l ++ table rest (off + l)
  leBytes 4 0x504D5544 ++ leBytes 2 1 ++ leBytes 2 n ++ leBytes 8 device ++ leBytes 8 c.trigger ++ leBytes 2 c.status
    ++ leBytes 4 c.ident ++ leBytes 2 0 ++ leBytes 8 c.stop ++ leBytes 4 c.logFirst ++ leBytes 20 0
    ++ table c.sections first

/-- Collection ends: the slot holds the dump, DUMP_DONE is set (R409). -/
def Dev.dumpEnd (d : Dev) (c : Dump) : Dev :=
  let c := { c with stop := d.now, logFirst := (d.logSeq + 2 ^ 32 - min d.log.length 65536) % 2 ^ 32 }
  let d := d.setHlt { d.hlt with cur := none, slots := mapPut d.hlt.slots c.slot c }
  let d := d.setFlag F.hltDumpState_busy false
  let d := d.wr F.hltDumpState_last c.slot
  let d := if c.slot = 0 then d.setFlag F.hltDumpState_valid0 true else d.setFlag F.hltDumpState_valid1 true
  d.raise hltPage 6 c.status

/-! ### Resets that start -/

/-- A reset of domain `dom` of a unit starts (R399). Unit keys 0 to 10 are those of the spare map; 11 HBM stack, 12 port,
13 Market bank group, 14 Acrek unit. -/
def Dev.startReset (d : Dev) (dom unit : Nat) : Dev :=
  d.setSpr { d.spr with resets := (d.spr.resets.filter (fun r => not (r.unit == unit))) ++ [⟨dom, unit, d.now⟩] }

/-- The page that shows a unit's PG_RESET. -/
def Dev.resetPage (d : Dev) (unit : Nat) : Option Page :=
  let t := unit / 256
  let p := unit % 256
  if t = 0 then some (pfPage .ccr p 0)
  else if isEngine t then some (pfPage .eng p 0)
  else if t = 11 ∨ t = 14 then some (pfPage .hbm p 0)
  else if t = 12 then some (pfPage .fab p 0)
  else none

/-- A reset starts and IN_RESET reads 1. -/
def Dev.beginReset (d : Dev) (dom unit : Nat) : Dev :=
  let d := d.startReset dom unit
  match d.resetPage unit with
  | some pg => d.setFlag (hInReset pg) true
  | none => d

/-- The physical unit a part runs on. -/
def Dev.partUnit (d : Dev) (x : Part) : Option Nat :=
  if x.utype = 14 then some (unitKey 14 x.unit)
  else if x.utype ≤ 10 then (d.physOf x.utype x.unit).map (fun p => unitKey x.utype p)
  else none

/-- Every running part of every queue, as (queue, ring count, part, unit). -/
def Dev.runningParts (d : Dev) : List (Nat × Nat × Nat × Part) :=
  d.kqp.queues.flatMap fun x => x.2.exec.flatMap fun e =>
    ((List.range e.parts.length).filterMap fun i =>
      match e.parts[i]? with
      | some p => if p.ended then none else some (x.1, e.count, i, p)
      | none => none)

/-- Every part running on a unit ends at once with a status (R40 for a requested reset). -/
def Dev.endPartsOn (d : Dev) (unit status : Nat) : Dev :=
  (d.runningParts.filter (fun r => d.partUnit r.2.2.2 == some unit)).foldl (fun d r => d.endPart r.1 r.2.1 r.2.2.1 status) d

/-- An Acrek unit is lost (01 R23; 11_acrek_update.md R259): STATE reads LOST, its page goes to ASSIST whatever LOCK says, UNIT_LOST is
set, and a running command fails with RESIDUE_ERROR. -/
def Dev.acrLost (d : Dev) (k : Nat) : Dev :=
  let pg := pfPage .acr k 0
  let d := d.wr (F.acrState_state k) 1
  let d := d.setFlag (hMode pg) true
  let d := d.setFlag (F.acrState_busy k) false
  let d := d.endPartsOn (unitKey 14 k) St.residueError
  d.raise pg 5 St.residueError

/-- Count a fault of an Acrek unit; one closed in this way is lost (R396). -/
def Dev.acrFault (d : Dev) (k : Nat) : Dev :=
  let u := d.physUnit 14 k
  let fs := (u.faults.filter (fun c => decide (d.now < c + d.rd F.hltFaultCfg_win * secQ))) ++ [d.now]
  if d.rd F.hltFaultCfg_limit ≤ fs.length then (d.setPhys 14 k { u with faults := [] }).acrLost k
  else d.setPhys 14 k { u with faults := fs }

/-- A hardware fault of a running part: the part ends with its status, its unit takes a D0 reset, and a residue mismatch or an
exceeded bound counts against the unit (R83, R135, R189, R259, R396). -/
def Dev.faultPart (d : Dev) (q count p status : Nat) : Dev :=
  match d.cmdAt q count with
  | none => d
  | some e =>
    match e.parts[p]? with
    | none => d
    | some x =>
      let u := d.partUnit x
      let d := d.endPart q count p status
      match u with
      | none => d
      | some u =>
        let t := u / 256
        let d := if t ≤ 7 ∨ t = 14 then d.beginReset 0 u else d
        let d := if t = 0 ∧ status = St.residueError then
            (d.incSat (F.ccrResCnt_residue (u % 256)) 1).raise (pfPage .ccr (u % 256) 1) 1 status (d.causeOf q e.cmd)
          else if isEngine t ∧ status = St.residueError then
            (((d.incSat (F.engResCnt_residue (u % 256)) 1).wr (F.engLast_layer (u % 256)) (cmdLayer e.cmd)).wr
              (F.engLast_opcode (u % 256)) (cmdOpcode e.cmd)).raise (pfPage .eng (u % 256) 1) 2 status (d.causeOf q e.cmd)
          else d
        let d := if t = 14 ∧ status = St.residueError then
            (d.incSat (F.acrResCnt_residue (u % 256)) 1).raise (pfPage .acr (u % 256) 0) 4 status (d.causeOf q e.cmd)
          else d
        if t = 14 ∧ (status = St.residueError ∨ status = St.boundExceeded) then d.acrFault (u % 256)
        else if t ≤ 9 ∧ (status = St.residueError ∨ status = St.boundExceeded) then d.unitFault t (u % 256) else d

end Sys2Proof.Machine
end

