-- ==== Sys2Proof/Machine/Tiers.lean ====
section
/-! DEFINITION. Tier operations: handles, the space of the Market and of HBM, residency units, references, moves, eviction and
poison (04_market.md R86 to R101; 10_tiers_and_street_index.md R216 to R233). -/

namespace Sys2Proof.Machine

def tirPage : Page := pfPage .tir 0 2
def mktPage : Page := pfPage .mkt 0 2


/-- Residency states (R224). -/
def tsABSENT : Nat := 0
def tsARRIVING : Nat := 1
def tsRESIDENT : Nat := 2
def tsLEAVING : Nat := 3
def tsPINNED : Nat := 4
def tsPOISONED : Nat := 5

/-- Object kinds (R217). -/
def kSCRATCH : Nat := 0
def kSTEP : Nat := 1
def kCOMMITTED : Nat := 2

/-- A view is the partition a handle is used by, with the weight-set bindings in force above it: `partition + 8 * binds`
(R216; 16_weights_and_partitions.md R362 to R364). -/
def viewPart (v : Nat) : Nat := v % 8

/-- The slot a view binds a set to, if any. -/
def viewSlot (v s : Nat) : Option Nat :=
  match v / 8 / 4 ^ s % 4 with
  | 1 => some 0
  | 2 => some 1
  | _ => none

/-- A defined set that an index belongs to. -/
def Dev.setOfIndex (d : Dev) (i : Nat) : Option Nat :=
  d.wset.defined.find? fun s =>
    let base := 0xF0000 + d.rd (F.wsetDef_base.bank s)
    decide (base ≤ i) && decide (i ≤ base + d.rd (F.wsetDef_countM1.bank s))

/-- The directory key of a handle: private, shared, or a slot's copy of a set member. -/
def Dev.objKey? (d : Dev) (v h : Nat) : Option Nat :=
  let i := h % 2 ^ 20
  if i < 0xF0000 then some (viewPart v * 2 ^ 20 + i)
  else
    match d.setOfIndex i with
    | none => some (8 * 2 ^ 20 + i)
    | some s =>
      if bitOf (d.rd (F.wsetAttach.bank s)) (viewPart v) then (viewSlot v s).map (fun sl => (9 + sl) * 2 ^ 20 + i) else none

/-- The live object a handle names in a view (R216). -/
def Dev.resolve (d : Dev) (v h : Nat) : Option (Nat × Obj) :=
  match d.objKey? v h with
  | none => none
  | some k =>
    match d.obj? k with
    | some o => if o.live ∧ o.gen = h / 2 ^ 20 then some (k, o) else none
    | none => none

/-- The slot that a binding made now takes: the CURRENT one, or at the stamp of a swap the one that was CURRENT before it (R364, R365);
0 none, 1 slot 0, 2 slot 1. -/
def Dev.slotNow (d : Dev) (s : Nat) : Nat :=
  match mapLook d.wset.swapped s with
  | some (t, old) =>
    if t = d.now + 1 then old
    else if d.rd (F.wsetState_slot0.bank s) = 3 then 1 else if d.rd (F.wsetState_slot1.bank s) = 3 then 2 else 0
  | none => if d.rd (F.wsetState_slot0.bank s) = 3 then 1 else if d.rd (F.wsetState_slot1.bank s) = 3 then 2 else 0

/-- The bindings of the sets attached to a partition as they are made now. -/
def Dev.bindNow (d : Dev) (p : Nat) : Nat :=
  sumBy (fun s => if bitOf (d.rd (F.wsetAttach.bank s)) p then d.slotNow s * 4 ^ s else 0) d.wset.defined

/-- The view of a command in execution. -/
def Dev.viewAt (d : Dev) (q i : Nat) : Nat :=
  match d.cmdAt q i with
  | some e => d.qPart q + 8 * (if e.step then (d.job (d.qJob q)).binds else e.binds)
  | none => d.qPart q

/-- The handle of an object. -/
def objHandle (k : Nat) (o : Obj) : Nat := mkHandle o.gen (k % 2 ^ 20)

/-- Bytes of an object. -/
def Obj.bytes (o : Obj) : Nat := o.sizeL * 64

/-- A tile is 256 KiB (R223). -/
def tileBytes : Nat := 262144

/-- The unit that holds a byte. -/
def Obj.unitAt (o : Obj) (off : Nat) : Nat := if o.tiled then off / tileBytes else 0

/-- A byte's offset within its unit. -/
def Obj.unitOff (o : Obj) (off : Nat) : Nat := if o.tiled then off % tileBytes else off

/-- First byte and length of a unit. -/
def Obj.unitStart (o : Obj) (u : Nat) : Nat := if o.tiled then u * tileBytes else 0
def Obj.unitLen (o : Obj) (u : Nat) : Nat := if o.tiled then min tileBytes (o.bytes - u * tileBytes) else o.bytes

/-- The units of an object. -/
def Obj.unitCount (o : Obj) : Nat := if o.tiled then ceilDiv o.bytes tileBytes else 1

/-- The units a byte range touches. -/
def Obj.unitsOf (o : Obj) (off len : Nat) : List Nat :=
  if len = 0 then [] else range' (o.unitAt off) (o.unitAt (off + len - 1) + 1 - o.unitAt off)

/-- A T0 copy that engines may read. -/
def TUnit.valid0 (x : TUnit) : Bool := x.t0 == tsRESIDENT || x.t0 == tsPINNED

/-- Every unit of a range has a valid T0 copy. -/
def Obj.valid0 (o : Obj) (off len : Nat) : Bool := (o.unitsOf off len).all (fun u => (o.unit u).valid0)

/-- T0 address of a byte of an object. -/
def Obj.addr0 (o : Obj) (off : Nat) : Nat := (o.unit (o.unitAt off)).base0 + o.unitOff off

/-- T1 address of a byte of a buffer, given its extents (R218). -/
def extAddr (ext : List Nat) (off : Nat) : Nat := nthD ext (off / extentBytes) 0 * extentBytes + off % extentBytes

/-- The extents of the current T1 copy (R16 for COMMITTED objects). -/
def Obj.curExt (o : Obj) : List Nat := if o.kind = kCOMMITTED ∧ o.cur = 1 then o.extB else o.extA
def Obj.idleExt (o : Obj) : List Nat := if o.cur = 1 then o.extA else o.extB

/-- Byte `off` of an object: from the T0 copy, and from T1 where the unit has only that (11_acrek_update.md R257). -/
def Dev.byteAt (d : Dev) (o : Obj) (off : Nat) : Byte :=
  let x := o.unit (o.unitAt off)
  if x.t0 = tsABSENT ∧ x.t1 = tsRESIDENT then d.t1.read (extAddr o.curExt off) else d.t0.read (o.addr0 off)

/-- Bytes that a part reads. -/
def Dev.read0 (d : Dev) (o : Obj) (off : Nat) : Nat → List Byte
  | 0 => []
  | n + 1 => d.byteAt o off :: d.read0 o (off + 1) n

def writeObj0 (m : Memory) (o : Obj) (off : Nat) : List Byte → Memory
  | [] => m
  | b :: bs => writeObj0 (m.write (o.addr0 off) b) o (off + 1) bs

/-- Mark the units of a range dirty in T0. -/
def Obj.dirty (o : Obj) (off len : Nat) : Obj :=
  (o.unitsOf off len).foldl (fun o u => o.setUnit u { o.unit u with dirty0 := true }) o

def Dev.write0 (d : Dev) (k off : Nat) (bs : List Byte) : Dev :=
  match d.obj? k with
  | none => d
  | some o => (d.setT0 (writeObj0 d.t0 o off bs)).setObj k (o.dirty off bs.length)

/-- Read and write bytes of a buffer in T1. -/
def Dev.read1 (d : Dev) (ext : List Nat) (off : Nat) : Nat → List Byte
  | 0 => []
  | n + 1 => d.t1.read (extAddr ext off) :: d.read1 ext (off + 1) n

def writeExt (m : Memory) (ext : List Nat) (off : Nat) : List Byte → Memory
  | [] => m
  | b :: bs => writeExt (m.write (extAddr ext off) b) ext (off + 1) bs

def Dev.write1 (d : Dev) (ext : List Nat) (off : Nat) (bs : List Byte) : Dev :=
  d.setT1 (writeExt d.t1 ext off bs)

/-! ### Moving bytes between memories without naming the zero ones -/

/-- The cells of `[lo, lo + n)`, re-based to 0: canonical when the memory is. -/
def memSlice (m : Memory) (lo n : Nat) : Memory :=
  (m.filter (fun c => decide (lo ≤ c.1) && decide (c.1 < lo + n))).map (fun c => (c.1 - lo, c.2))

/-- The memory with `[lo, lo + n)` reading zero. -/
def memErase (m : Memory) (lo n : Nat) : Memory := m.filter (fun c => not (decide (lo ≤ c.1) && decide (c.1 < lo + n)))

/-- Write listed cells through an address function. -/
def memPour (m : Memory) (at_ : Nat → Nat) : Memory → Memory
  | [] => m
  | (a, b) :: cs => memPour (m.write (at_ a) b) at_ cs

/-- A sector of T1 under a byte range is poisoned (R212). -/
def Dev.sectorBad (d : Dev) (ext : List Nat) (off len : Nat) : Bool :=
  (range' (off / 64) ((off + len - 1) / 64 + 1 - off / 64)).any (fun s => d.tir.badSectors.contains (extAddr ext (s * 64) / 64))

/-- Whole sectors that are written are no longer poisoned. -/
def Dev.healSectors (d : Dev) (ext : List Nat) (off len : Nat) : Dev :=
  if d.tir.badSectors = [] then d
  else
    let whole := (range' (off / 64) ((off + len - 1) / 64 + 1 - off / 64)).filter (fun s => decide (off ≤ s * 64 ∧ s * 64 + 64 ≤ off + len))
    d.setTir { d.tir with badSectors := d.tir.badSectors.filter (fun b => !(whole.any (fun s => extAddr ext (s * 64) / 64 == b))) }

/-- A unit's T1 bytes, re-based to the unit: the extents it lies in, in order. -/
def Dev.slice1 (d : Dev) (ext : List Nat) (start len : Nat) : Memory :=
  (List.range ext.length).foldl (fun acc i =>
    let lo := max start (i * extentBytes)
    let hi := min (start + len) ((i + 1) * extentBytes)
    if lo < hi then
      acc ++ (memSlice d.t1 (nthD ext i 0 * extentBytes + (lo - i * extentBytes)) (hi - lo)).map
        (fun c => (c.1 + (lo - start), c.2))
    else acc) []

def Dev.erase1 (d : Dev) (ext : List Nat) (start len : Nat) : Dev :=
  d.setT1 ((List.range ext.length).foldl (fun m i =>
    let lo := max start (i * extentBytes)
    let hi := min (start + len) ((i + 1) * extentBytes)
    if lo < hi then memErase m (nthD ext i 0 * extentBytes + (lo - i * extentBytes)) (hi - lo) else m) d.t1)

/-- Replace a unit's bytes in T1. -/
def Dev.pour1 (d : Dev) (ext : List Nat) (start len : Nat) (data : Memory) : Dev :=
  let d := (d.erase1 ext start len).healSectors ext start len
  d.setT1 (memPour d.t1 (fun a => extAddr ext (start + a)) data)

/-- Replace a unit's bytes in T0. -/
def Dev.pour0 (d : Dev) (base len : Nat) (data : Memory) : Dev :=
  d.setT0 (memPour (memErase d.t0 base len) (fun a => base + a) data)

/-- Listed bytes from data that arrived over PCIe, zero where the list is short. -/
def cellsOf (bs : List Byte) : Memory := (Memory.writeBytes [] 0 bs)

/-! ### Market space (04_market.md R95, R97) -/

/-- Granule bytes: 64 KiB. -/
def granuleBytes : Nat := 65536

def Dev.sysGranules (d : Dev) : Nat := d.rd F.mktSysCfg_sysActive

/-- A run of granules is free: past the system granules, in no region and in no closed bank group. -/
def Dev.granulesFree (d : Dev) (b n : Nat) : Bool :=
  decide (d.sysGranules ≤ b) && decide (b + n ≤ 16384)
    && d.mkt.regions.all (fun r => decide (b + n ≤ r.2.base) || decide (r.2.base + r.2.count ≤ b))
    && d.mkt.closed.all (fun g => decide (n ≤ (g + 64 - b % 64) % 64))

/-- The lowest run of `n` free granules (log entry 7). -/
def Dev.findRun (d : Dev) (n : Nat) : Option Nat :=
  let starts := d.sysGranules :: (d.mkt.regions.map (fun r => r.2.base + r.2.count) ++ d.mkt.closed.flatMap (fun g => (List.range 256).map (fun k => g + 1 + 64 * k)))
  minBy id (starts.filter (fun b => d.granulesFree b n))

/-- The lowest free entry of a table of `n`. -/
def freeSlot {α : Type} (m : List (Nat × α)) (n : Nat) : Option Nat :=
  let rec go : Nat → List (Nat × α) → Nat → Option Nat
    | 0, _, i => if i < n then some i else none
    | f + 1, l, i => match l with
      | [] => if i < n then some i else none
      | (k, _) :: r => if k = i then go f r (i + 1) else if i < n then some i else none
  go m.length m 0

/-- The quota of a pool leaves room for `n` more granules. -/
def Dev.quota0 (d : Dev) (o n : Nat) : Bool := decide (d.rd (F.mktQuota_use o) + n ≤ d.rd (F.mktQuota_limit o))

/-- Create a region where quota, table and space allow it. -/
def Dev.newRegion (d : Dev) (r : Region) : Option (Nat × Nat × Dev) :=
  if d.quota0 r.owner r.count then
    match d.findRun r.count, freeSlot d.mkt.regions 4096 with
    | some b, some i =>
      let d := d.setMkt { d.mkt with regions := mapPut d.mkt.regions i { r with base := b } }
      some (i, b, d.inc (F.mktQuota_use r.owner) r.count)
    | _, _ => none
  else none

/-- Delete a region and release its granules. -/
def Dev.freeRegion (d : Dev) (i : Nat) : Dev :=
  match mapLook d.mkt.regions i with
  | none => d
  | some r =>
    let d := d.setMkt { d.mkt with regions := mapDel d.mkt.regions i,
                                   poison := d.mkt.poison.filter (fun l => l / 1024 < r.base || r.base + r.count ≤ l / 1024) }
    let d := d.setT0 (memErase d.t0 (r.base * granuleBytes) (r.count * granuleBytes))
    d.wr (F.mktQuota_use r.owner) (d.rd (F.mktQuota_use r.owner) - r.count)

/-- Region attribute of an object's T0 copies (R95). -/
def Obj.rgnAttr (o : Obj) : Nat := if o.attr = 1 then 3 else if o.attr = 2 then 2 else if o.kind = kSTEP then 1 else 0

/-- Granules of a unit's T0 copy: a tile takes 4 (R223). -/
def Obj.unitGranules (o : Obj) : Nat := if o.tiled then 4 else ceilDiv o.bytes granuleBytes

/-! ### T1 extents (R218, R221) -/

/-- Working stacks. -/
def Dev.liveStacks (d : Dev) : List Nat := (List.range 6).filter (fun k => not (d.tir.retired.contains k))

/-- TIR_T1_AVAIL: the working extents less the device reserve of 512 (R221). -/
def Dev.t1Avail (d : Dev) : Nat := 65536 * d.liveStacks.length - 512

/-- The lowest free extent of a stack; the first 512 of the first working stack are the device reserve (log entry 8). -/
def Dev.freeExtent (d : Dev) (stack : Nat) (also : List Nat) : Option Nat :=
  let lo := stack * 65536 + (if d.liveStacks.head? = some stack then 512 else 0)
  let rec go : Nat → Nat → Option Nat
    | 0, _ => none
    | f + 1, e =>
      if e ≥ (stack + 1) * 65536 then none
      else if (mapLook d.tir.extUsed e).isSome || also.contains e then go f (e + 1) else some e
  go (d.tir.extUsed.length + also.length + 1) lo

/-- Extents for an object of index `idx`: in its stack, or round-robin over the working stacks from INDEX mod their number. -/
def Dev.pickExtents (d : Dev) (idx stack n : Nat) (also : List Nat) : Option (List Nat) :=
  let st := d.liveStacks
  (List.range n).foldl (fun acc i =>
    match acc with
    | none => none
    | some l =>
      let s := if stack < 6 then stack else nthD st ((idx + i) % st.length) 0
      match d.freeExtent s (also ++ l) with
      | some e => some (l ++ [e])
      | none => none) (some [])

/-- Extents an object's copy needs. -/
def Obj.extents (o : Obj) : Nat := ceilDiv o.bytes extentBytes

def Dev.quota1 (d : Dev) (o n : Nat) : Bool := decide (d.rd (F.tirT1Use_use o) + n ≤ d.rd (F.tirT1Quota_limit o))

/-- Charge and mark extents. -/
def Dev.useExtents (d : Dev) (k owner : Nat) (es : List Nat) : Dev :=
  let d := d.setTir { d.tir with extUsed := es.foldl (fun m e => mapPut m e k) d.tir.extUsed }
  d.inc (F.tirT1Use_use owner) es.length

/-- Release extents: their bytes are no one's. -/
def Dev.freeExtents (d : Dev) (owner : Nat) (es : List Nat) : Dev :=
  let d := d.setTir { d.tir with extUsed := es.foldl (fun m e => mapDel m e) d.tir.extUsed,
                                 badSectors := d.tir.badSectors.filter (fun s => !es.contains (s / 32768)) }
  let d := d.setT1 (es.foldl (fun m e => memErase m (e * extentBytes) extentBytes) d.t1)
  d.wr (F.tirT1Use_use owner) (d.rd (F.tirT1Use_use owner) - es.length)

/-- Give an object its T1 extents where it has none; none when the pool or the stacks have no room. -/
def Dev.ensureT1 (d : Dev) (k : Nat) : Option Dev :=
  match d.obj? k with
  | none => none
  | some o =>
    if o.extA ≠ [] then some d
    else if d.quota1 o.owner o.extents then
      match d.pickExtents (k % 2 ^ 20) o.stack o.extents [] with
      | some es => some ((d.useExtents k o.owner es).setObj k { o with extA := es })
      | none => none
    else none

/-- Release an object's T1 extents once no unit has a T1 copy. -/
def Dev.trimT1 (d : Dev) (k : Nat) : Dev :=
  match d.obj? k with
  | none => d
  | some o =>
    if o.kind ≠ kCOMMITTED ∧ o.alias_ = 0 ∧ o.extA ≠ [] ∧ o.units.all (fun x => x.2.t1 == tsABSENT) then
      (d.freeExtents o.owner o.extA).setObj k { o with extA := [] }
    else d

/-! ### Units -/

def Dev.unitOf (d : Dev) (k u : Nat) : TUnit := ((d.obj? k).map (fun o => o.unit u)).getD {}

def Dev.setUnit (d : Dev) (k u : Nat) (x : TUnit) : Dev :=
  match d.obj? k with
  | some o => d.setObj k (o.setUnit u x)
  | none => d

/-- Release a unit's T0 copy: its region is deleted, the unit is ABSENT in T0. -/
def Dev.release0 (d : Dev) (k u : Nat) : Dev :=
  let x := d.unitOf k u
  let d := if x.t0 = tsABSENT ∨ x.t0 = tsPOISONED ∧ x.base0 = 0 then d else d.freeRegion x.rgn0
  d.setUnit k u { x with t0 := tsABSENT, base0 := 0, rgn0 := 0, dirty0 := false, ref0 := 0 }

/-- A unit's T0 copy no longer stands for the unit; it is kept aside for the references taken on it, which stay tied to it (R220). -/
def Dev.setAsideUnit (d : Dev) (k u : Nat) : Dev :=
  match d.obj? k with
  | none => d
  | some o =>
    let x := o.unit u
    let o := o.setUnit u { x with t0 := tsABSENT, base0 := 0, rgn0 := 0, ref0 := 0, dirty0 := false }
    let d := d.setObj k { o with old := o.old ++ [{ unit := u, base0 := x.base0, rgn0 := x.rgn0, refs := x.ref0 }] }
    d.setTir { d.tir with refs := d.tir.refs.map (fun (r : TRef) => if r.obj = k ∧ r.unit = u then { r with old := true } else r) }

/-- A unit's T0 copy is given up without write-back: released now, or when the references on it end. -/
def Dev.dropT0 (d : Dev) (k u : Nat) : Dev := if (d.unitOf k u).ref0 = 0 then d.release0 k u else d.setAsideUnit k u

/-- A copy may be chosen for eviction from T0 (R227): RESIDENT, no reference, no upward move pending; STEP regions never. -/
def Dev.evictable0 (d : Dev) (k : Nat) (o : Obj) (u : Nat) : Bool :=
  let x := o.unit u
  x.t0 == tsRESIDENT && x.ref0 == 0 && o.kind != kSTEP && (!x.dirty0 || o.kind == kSCRATCH)
    && d.tir.waits.all (fun w => not (w.obj == k && w.unit == u))

/-- Eviction candidates of a pool in the order of R227: clean copies first, then dirty ones, earliest last reference first. -/
def Dev.victims0 (d : Dev) (owner : Nat) : List (Nat × Nat) :=
  let all := d.tir.objs.flatMap fun e =>
    if e.2.owner = owner then
      (e.2.units.filter (fun y => d.evictable0 e.1 e.2 y.1)).map (fun y => (e.1, y.1, y.2))
    else []
  let key := fun (v : Nat × Nat × TUnit) => boolNat v.2.2.dirty0 * 2 ^ 64 + v.2.2.lastEnd
  (sortBy key all).map (fun v => (v.1, v.2.1))

/-- A copy is chosen for eviction: LEAVING; a dirty one is written back to T1 first (R228). -/
def Dev.leave0 (d : Dev) (k u : Nat) : Dev :=
  let x := d.unitOf k u
  let d := d.setUnit k u { x with t0 := tsLEAVING }
  if x.dirty0 then
    match d.ensureT1 k with
    | some d => d.setTir { d.tir with writeBacks := d.tir.writeBacks ++ [(k, u, 0)] }
    | none => d.setUnit k u x
  else d

/-- Granules of a pool whose copies are already on their way out. -/
def Dev.leaving0 (d : Dev) (owner : Nat) : Nat :=
  sumBy (fun e => if e.2.owner = owner then e.2.unitGranules * (e.2.units.filter (fun y => y.2.t0 == tsLEAVING)).length else 0) d.tir.objs

/-- Space for `n` granules of a pool is short: the pool's own copies leave first, in order, until enough granules are on their
way out; where quota is not the obstacle, other pools' copies follow (R95, R97). -/
def Dev.makeRoom0 (d : Dev) (owner n : Nat) : Dev :=
  let others := if d.quota0 owner n then ((List.range 9).filter (· != owner)).flatMap d.victims0 else []
  (((d.victims0 owner ++ others)).foldl (fun (acc : Nat × Dev) v =>
    if acc.1 ≥ n then acc
    else
      match acc.2.obj? v.1 with
      | some o => (acc.1 + o.unitGranules, acc.2.leave0 v.1 v.2)
      | none => acc) (d.leaving0 owner, d)).2

/-- STEP objects live only within an attempt of their job (R218). -/
def Dev.stepAllowed (d : Dev) (o : Obj) : Bool := o.kind != kSTEP || d.attemptLive o.job

/-- STEP_TAG of the job's live attempt. -/
def Dev.liveTag (d : Dev) (j : Nat) : Nat := ((d.newest j).map (fun r => r.step % 4)).getD 0

/-- Allocate a unit's T0 copy in a region of the object's attribute, in state `st`. -/
def Dev.alloc0 (d : Dev) (k u st : Nat) : Option Dev :=
  match d.obj? k with
  | none => none
  | some o =>
    let r : Region := { base := 0, count := o.unitGranules, attr := o.rgnAttr, owner := o.owner, job := o.job,
                        stepTag := if o.kind = kSTEP then d.liveTag o.job else 0, fill := o.attr == 1 && st == tsARRIVING }
    match d.newRegion r with
    | some (i, b, d) => some (d.setUnit k u { d.unitOf k u with t0 := st, base0 := b * granuleBytes, rgn0 := i })
    | none => none

/-- Bytes of an object from its newest valid copy, T0 before T1. -/
def Dev.readAny (d : Dev) (o : Obj) (off n : Nat) : Option (List Byte) :=
  if o.valid0 off n then some (d.read0 o off n)
  else if (o.unitsOf off n).all (fun u => (o.unit u).t1 == tsRESIDENT) then some (d.read1 o.curExt off n)
  else none

/-- The lowest index of an owner's handle space that no live object has, below `lim`. -/
def Dev.freeIndex (d : Dev) (owner lo lim : Nat) : Option Nat :=
  let mine := d.tir.objs.filter (fun e => decide (e.1 / 2 ^ 20 = owner) && e.2.live)
  let cand := lo :: mine.map (fun e => e.1 % 2 ^ 20 + 1)
  minBy id (cand.filter (fun i => decide (lo ≤ i) && decide (i < lim) && mine.all (fun e => e.1 % 2 ^ 20 != i)))

/-- Write bytes of an object into its newest valid copy, T0 before T1; nothing where there is none. -/
def Dev.writeAny (d : Dev) (k off : Nat) (bs : List Byte) : Dev :=
  match d.obj? k with
  | none => d
  | some o =>
    if o.valid0 off bs.length then d.write0 k off bs
    else if (o.unitsOf off bs.length).all (fun u => (o.unit u).t1 == tsRESIDENT) then
      (o.unitsOf off bs.length).foldl (fun d u => d.setUnit k u { d.unitOf k u with dirty1 := true }) (d.write1 o.curExt off bs)
    else d

/-- A unit's home copy in T2 holds data. -/
def Obj.valid2 (o : Obj) (u : Nat) : Bool := o.t2Addr != 0 && (o.unit u).t2 == tsRESIDENT

/-- A part's reference on a unit is taken (once per part and unit); REF0 counts it (R226). -/
def Dev.takeRef (d : Dev) (q i p k u : Nat) : Dev :=
  if d.tir.refs.any (fun r => r.q == q && r.count == i && r.part == p && r.obj == k && r.unit == u) then d
  else
    let d := d.setUnit k u { d.unitOf k u with ref0 := (d.unitOf k u).ref0 + 1 }
    d.setTir { d.tir with refs := d.tir.refs ++ [⟨q, i, p, k, u, false⟩],
                          waits := d.tir.waits.filter (fun w => not (w.q == q && w.count == i && w.part == p && w.obj == k
                            && w.unit == u)) }

/-- A part's reference waits for a unit. -/
def Dev.waitRef (d : Dev) (q i p k u : Nat) : Dev :=
  if d.tir.waits.any (fun w => w.q == q && w.count == i && w.part == p && w.obj == k && w.unit == u) then d
  else d.setTir { d.tir with waits := d.tir.waits ++ [⟨q, i, p, k, u⟩] }

/-- A running part fails in its work with a status: its end is PART_END. -/
def Dev.failPart (d : Dev) (q i p status : Nat) : Dev := d.partRan q i p status 0 0

/-- Every reference that waits for a unit fails (R233). -/
def Dev.failWaits (d : Dev) (k u status : Nat) : Dev :=
  let ws := d.tir.waits.filter (fun w => w.obj == k && w.unit == u)
  let d := ws.foldl (fun d w => d.failPart w.q w.count w.part status) d
  d.setTir { d.tir with waits := d.tir.waits.filter (fun w => not (w.obj == k && w.unit == u)) }

/-- Partitions that reference an object, or are attached to its set (R233 step 4). -/
def Dev.setPartitions (d : Dev) (k set_ : Nat) : List Nat :=
  let att := d.rd ((F.wsetAttach).bank set_)
  (List.range 8).filter (fun p => bitOf att p || d.tir.refs.any (fun r => r.obj == k && d.qPart r.q == p))

/-- A job whose current committed buffer is poisoned votes ABORT with ECC_UNCORRECTABLE (R233). -/
def Dev.committedPoisoned (d : Dev) (o : Obj) : Dev :=
  if o.kind = kCOMMITTED then d.stepFailure o.job St.eccUncorrectable 0xFFFF else d

/-- POISON_UNIT (R233): the unit becomes POISONED in a tier, every waiting reference fails with TIER_POISON, the unit is
counted, its weight set flagged, and a step whose committed buffer it is aborts. -/
def Dev.poisonUnit (d : Dev) (k u tier : Nat) : Dev :=
  match d.obj? k with
  | none => d
  | some o =>
    let x := o.unit u
    let d := if tier = 1 ∧ x.t0 = tsARRIVING then d.release0 k u else d
    let x := d.unitOf k u
    let d := if tier = 0 then d.setUnit k u { x with t0 := tsPOISONED, src := 0 }
      else d.setUnit k u { x with t1 := tsPOISONED, src := 0, retryAt := 0, tries := 0, refill := false }
    let d := if x.move = 0 then d else d.sixRelease x.move St.tierPoison
    let d := d.setUnit k u { d.unitOf k u with move := 0 }
    let d := d.failWaits k u St.tierPoison
    let d := d.raiseFor o.owner tirPage 0 St.tierPoison
    let d := d.incSat F.tirPoisonCnt_poisoned 1
    let d := if o.wset = 0 then d
      else
        let d := d.wr F.tirSetLast_wset o.wset
        let d := d.raise tirPage 1 St.tierPoison
        (d.setPartitions k o.wset).foldl (fun d p =>
          match d.partVf p with
          | some n => d.raise { tirPage with func := n } 1 St.tierPoison
          | none => d) d
    if tier = 1 then d.committedPoisoned o else d

/-- The object and unit whose T0 copy holds a granule. -/
def Dev.unitAt0 (d : Dev) (g : Nat) : Option (Nat × Nat) :=
  (d.tir.objs.findSome? fun e =>
    (e.2.units.find? (fun y => y.2.t0 != tsABSENT && decide (y.2.base0 / granuleBytes ≤ g)
      && decide (g < y.2.base0 / granuleBytes + e.2.unitGranules))).map (fun y => (e.1, y.1)))

/-- A lower copy is valid: a clean T0 copy can be dropped and fetched again (R98). -/
def Obj.lowerValid (o : Obj) (u : Nat) : Bool := (o.unit u).t1 == tsRESIDENT || o.kind == kCOMMITTED || o.valid2 u

/-- An uncorrectable error in a T0 copy: a clean copy with a valid lower one is dropped; otherwise the unit is poisoned (R98,
R233). Answers whether the reader is spared. -/
def Dev.loseT0 (d : Dev) (k u : Nat) : Bool × Dev :=
  match d.obj? k with
  | none => (true, d)
  | some o =>
    if !(o.unit u).dirty0 ∧ o.lowerValid u then
      let d := d.release0 k u
      (true, d.setTir { d.tir with refs := d.tir.refs.filter (fun r => not (r.obj == k && r.unit == u)) })
    else (false, d.poisonUnit k u 0)

/-- Record a Market error (MKT_ERR_ADDR). -/
def Dev.mktError (d : Dev) (line kind : Nat) : Dev := (d.wr F.mktErrAddr_line line).wr F.mktErrAddr_kind kind

end Sys2Proof.Machine
end

