-- ==== Sys2Proof/Machine/TbnOps.lean ====
section
/-! DEFINITION. The Tabnus transport: connections and their opening, paths, packets, messages and their failures
(14_tabnus_transport.md R309 to R327). -/

namespace Sys2Proof.Machine

def tbnPage : Page := pfPage .tbn 0 0


def Dev.conn? (d : Dev) (c : Nat) : Option Conn := mapLook d.tbn.conns c

/-- Store a connection; TBN_CONNS counts the open ones. -/
def Dev.setConn (d : Dev) (c : Nat) (x : Conn) : Dev :=
  let t := { d.tbn with conns := mapPut d.tbn.conns c x }
  (d.setTbn t).wr F.tbnConns ((t.conns.filter (fun e => e.2.isOpen)).length)

def Dev.dropConn (d : Dev) (c : Nat) : Dev :=
  let t := { d.tbn with conns := mapDel d.tbn.conns c }
  (d.setTbn t).wr F.tbnConns ((t.conns.filter (fun e => e.2.isOpen)).length)

def Dev.peer (d : Dev) (p : Nat) : Peer := mapGet {} d.tbn.peers p
def Dev.setPeer (d : Dev) (p : Nat) (x : Peer) : Dev := d.setTbn { d.tbn with peers := mapPut d.tbn.peers p x }

/-! ### Addresses and paths (R309, R315) -/

/-- The address entry `a` of the device is valid, and its family. -/
def Dev.ownFamilies (d : Dev) : List Nat :=
  ((List.range 4).filter (fun e => d.flag (F.tbnAddrCfg_valid.bank e))).map (fun e => d.rd (F.tbnAddrCfg_family.bank e))

/-- The first family of a peer's addresses that this device has too (15_groups_and_collectives.md R342). -/
def Dev.familyTo (d : Dev) (peer : Nat) : Option Nat :=
  match mapLook d.col.roster peer with
  | some r =>
    ((List.range r.addrs.length).map (fun a => bitsAt r.families a 1)).find? (fun f => d.ownFamilies.contains f)
  | none => if (mapLook d.tbn.peers peer).isSome then some (d.ownFamilies.head?.getD 1) else none

/-- Entropy values of a port: E. -/
def Dev.entropy (d : Dev) : Nat := 2 ^ d.rd F.tbnCfg_entropy

/-- The port of a path. -/
def Dev.pathPort (d : Dev) (path : Nat) : Nat := path / d.entropy

def Dev.pathSt (d : Dev) (peer path : Nat) : PathSt := mapGet {} (d.peer peer).paths path

def Dev.setPath (d : Dev) (peer path : Nat) (x : PathSt) : Dev :=
  let p := d.peer peer
  d.setPeer peer { p with paths := mapPut p.paths path x }

/-- The paths to a peer that are ACTIVE: on ports that reach it, whose link is up, and not EXCLUDED. -/
def Dev.activePaths (d : Dev) (peer : Nat) : List Nat :=
  let ports := (List.range 24).filter (fun p => (d.peer peer).ports.contains p && d.portUp p)
  (ports.flatMap (fun p => range' (p * d.entropy) d.entropy)).filter (fun x => !(d.pathSt peer x).excluded)

/-- The turns of the ACTIVE paths, each in proportion to its port's rate (log entry 35 for their order). -/
def Dev.turns (d : Dev) (peer : Nat) : List Nat :=
  (d.activePaths peer).flatMap (fun x => List.replicate (d.portRate (d.pathPort x)) x)

/-- The sum of the rates of a peer's ACTIVE paths' ports, in kb/s (R326). -/
def Dev.fullRate (d : Dev) (peer : Nat) : Nat :=
  sumBy (fun p => d.portRate p * 100000000) (((d.activePaths peer).map d.pathPort).eraseDups)

/-! ### Packets (R309 to R312) -/

/-- Packet types of the header. -/
def ptDATA : Nat := 0
def ptCTRL : Nat := 1
def ptACK : Nat := 2
def ptNACK : Nat := 3
def ptNOT_READY : Nat := 4
def ptCNP : Nat := 5
def ptHELLO : Nat := 6
def ptHELLO_ACK : Nat := 7
def ptPROBE : Nat := 8
def ptCLOSE : Nat := 9

/-- The 40-byte header (table Tabnus header). -/
def tbnHeader (ver type flags conn path psn stamp off : Nat) (h : MsgHead) : List Byte :=
  leBytes 1 (ver + type * 16) ++ leBytes 1 flags ++ leBytes 3 conn ++ leBytes 1 path ++ leBytes 2 h.epoch ++ leBytes 4 psn
    ++ leBytes 4 h.id ++ leBytes 4 off ++ leBytes 8 stamp ++ leBytes 4 h.step ++ leBytes 2 (h.group % 4096) ++ leBytes 1 h.rank
    ++ leBytes 1 0 ++ leBytes 4 (h.len - 1)

/-- The UDP payload: header, payload and the CRC-32C trailer (R311). -/
def tbnPacket (header payload : List Byte) : List Byte := header ++ payload ++ leBytes 4 (crc32c (header ++ payload))

/-- Bytes above Ethernet of a datagram of `n` payload bytes. -/
def ipBytes (family n : Nat) : Nat := (if family = 0 then 20 else 40) + 8 + 40 + n + 4

/-- A Tabnus datagram enters a transmit queue: its source port carries the local port and the entropy value, DATA and CTRL packets
carry ECT(0) (R309). -/
def Dev.sendPacket (d : Dev) (peer path queue type : Nat) (header payload : List Byte) : Dev :=
  let p := d.pathPort path
  let e := path % d.entropy
  let fam := (d.familyTo peer).getD 1
  let ect := if type ≤ 1 then 2 else 0
  let f : Frame := { queue := queue, len := d.frameLen p (ipBytes fam payload.length), dest := peer, kind := .packet,
                     data := [type, path, 49152 + 16 * p + e, d.rd F.tbnCfg_udpPort, fam, d.rd (F.fabQmap_dscp p queue), ect, e],
                     bytes := tbnPacket header payload }
  (d.enqueue p f).inc F.tbnTxPkts 1

/-- A packet without payload of a message of its own: ACK, NACK, NOT_READY, CNP, PROBE, CLOSE go on queue 5, on the first ACTIVE
path, or on a given port. -/
def Dev.sendService (d : Dev) (c : Nat) (type flags psn : Nat) (h : MsgHead) (body : List Byte) : Dev :=
  match d.conn? c with
  | none => d
  | some x =>
    match (d.activePaths x.peer).head? with
    | none => d
    | some path =>
      d.sendPacket x.peer path 5 type (tbnHeader x.ver type flags x.remote path psn d.now 0 { h with len := max 1 body.length }) body

/-- The largest payload in 64 B units that the enabled ports' MAX_FRAME allows with 114 B of overhead (R312). -/
def Dev.maxPayload (d : Dev) : Nat :=
  let frames := ((List.range 24).filter (fun p => d.flag (F.fabPortCfg_enable p))).map (fun p => d.rd (F.fabPortCfg_maxFrame p))
  ((minBy id frames).getD 1522 - 114) / 64

/-- P from both ends' largest payloads, in bytes: 8,192, else 4,096, else the multiple of 64 (R312). -/
def payloadOf (a b : Nat) : Nat :=
  let n := min a b
  if 128 ≤ n then 8192 else if 64 ≤ n then 4096 else n * 64

/-- The HELLO body (R314). -/
def Dev.helloBody (d : Dev) (c part : Nat) : List Byte :=
  leBytes 8 d.deviceId ++ [1, BitVec.ofNat 8 (d.rd F.tbnCfg_versionMax)] ++ leBytes 1 part ++ leBytes 1 0 ++ leBytes 2 d.maxPayload
    ++ leBytes 2 0 ++ leBytes 3 c ++ leBytes 1 0 ++ leBytes 4 (d.rd F.colEpoch)

/-- HELLO, HELLO_ACK and CLOSE leave by a port whether or not it reaches the peer yet. -/
def Dev.sendByPort (d : Dev) (peer p type conn : Nat) (body : List Byte) : Dev :=
  d.sendPacket peer (p * d.entropy) 5 type (tbnHeader 1 type 0 conn (p * d.entropy) 0 d.now 0 { len := max 1 body.length }) body

/-- A connection's HELLO goes out on every port that is up (log entry 36). -/
def Dev.sendHello (d : Dev) (c : Nat) : Dev :=
  match d.conn? c with
  | none => d
  | some x =>
    let d := d.setConn c { x with helloAt := d.now }
    d.upPorts.foldl (fun d p => d.sendByPort x.peer p ptHELLO 0 (d.helloBody c x.part)) d

/-! ### Sending (R316, R317, R320) -/

/-- A LOST packet goes out again with RETX, on another ACTIVE path where there is one (R315). -/
def Dev.resend (d : Dev) (c : Nat) (x : Conn) (k : TxPkt) : Option Dev :=
  let ps := d.activePaths x.peer
  let ps' := ps.filter (· != k.path)
  match (if ps' = [] then ps else ps')[x.turn % (max 1 (if ps' = [] then ps else ps').length)]? with
  | none => none
  | some path =>
    let fam := (d.familyTo x.peer).getD 1
    if d.portRoom (d.pathPort path) k.head.queue (d.frameLen (d.pathPort path) (ipBytes fam k.bytes.length)) then
      let x := { x with pkts := x.pkts.map (fun y => if y.psn = k.psn then { y with lost := false, path := path, noCount := false } else y),
                        turn := x.turn + 1, rtoFrom := if x.pkts.all (fun y => y.lost) then d.now else x.rtoFrom }
      let t := if k.head.ctrl then ptCTRL else ptDATA
      some (((d.setConn c x).sendPacket x.peer path k.head.queue t
        (tbnHeader x.ver t 1 x.remote path k.psn k.stamp k.off k.head) k.bytes).incSat F.tbnRetx 1)
    else none

/-- The next packet of a message goes out on the path whose turn it is. -/
def Dev.sendNext (d : Dev) (c : Nat) (x : Conn) (m : TxMsg) : Option Dev :=
  let ts := d.turns x.peer
  match ts[x.turn % max 1 ts.length]? with
  | none => none
  | some path =>
    let bytes := m.rest.take x.payload
    let fam := (d.familyTo x.peer).getD 1
    if d.portRoom (d.pathPort path) m.head.queue (d.frameLen (d.pathPort path) (ipBytes fam bytes.length)) then
      let k : TxPkt := { psn := x.psn, path := path, msg := m.no, head := m.head, off := m.off, bytes := bytes, stamp := d.now }
      let m' := { m with rest := m.rest.drop x.payload, off := m.off + bytes.length, open_ := m.open_ + 1 }
      let x := { x with psn := (x.psn + 1) % 2 ^ 32, pkts := x.pkts ++ [k], turn := x.turn + 1, lastUse := d.now,
                        msgs := x.msgs.map (fun y => if y.no = m.no then m' else y),
                        rtoFrom := if x.pkts.all (fun y => y.lost) then d.now else x.rtoFrom }
      let t := if m.head.ctrl then ptCTRL else ptDATA
      some ((d.setConn c x).sendPacket x.peer path m.head.queue t
        (tbnHeader x.ver t 0 x.remote path k.psn k.stamp k.off m.head) bytes)
    else none

/-- A connection sends what it can: LOST packets first, then new packets of its messages, the highest queue first, at most 4,096
unacknowledged. The rate of R326 only spaces packets in time (log entry 37). -/
def Dev.pumpGo : Nat → Dev → Nat → Dev
  | 0, d, _ => d
  | fuel + 1, d, c =>
    match d.conn? c with
    | none => d
    | some x =>
      if !x.isOpen then d
      else
        match x.pkts.find? (fun k => k.lost) with
        | some k =>
          match d.resend c x k with
          | some d => d.pumpGo fuel c
          | none => d
        | none =>
          if 4096 ≤ x.pkts.length then d
          else
            match minBy (fun (m : TxMsg) => 7 - m.head.queue) (x.msgs.filter (fun m => !m.rest.isEmpty)) with
            | none => d
            | some m =>
              match d.sendNext c x m with
              | some d => d.pumpGo fuel c
              | none => d

def Dev.pump (d : Dev) (c : Nat) : Dev := Dev.pumpGo 8192 d c

/-- Every connection sends what it can. -/
def Dev.pumpAll (d : Dev) : Dev := (d.tbn.conns.map (fun e => e.1)).foldl Dev.pump d

/-! ### Messages and their ends -/

/-- A collective's command fails with a status and the rank it names; the first failure stands (15_groups R355). -/
def Dev.failColl (d : Dev) (q i status rank : Nat) : Dev :=
  let d := d.setCol { d.col with colls := d.col.colls.map (fun c =>
    if c.q = q ∧ c.i = i ∧ c.status = 0 then { c with status := status, failRank := rank } else c) }
  match d.cmdAt q i with
  | none => d
  | some e =>
    match e.parts[0]? with
    | none => d
    | some p => if p.ended ∨ p.ran then d else d.failPart q i 0 status

/-- A transfer with a rank fails its collective; where it fails with MEMBER_MISSING, COL PG_EVENT bit 6 is set (R337, R349; log
entry 124). -/
def Dev.failTransfer (d : Dev) (q i status rank : Nat) : Dev :=
  let news := status == St.memberMissing && d.col.colls.any (fun c => c.q == q && c.i == i && c.status == 0)
  let d := d.failColl q i status rank
  if news then d.raise (pfPage .col 0 0) 6 St.memberMissing { job := d.qJob q } else d

/-- A message is over: its entry is freed; a failed one fails its collective. -/
def Dev.msgOver (d : Dev) (m : TxMsg) (status : Nat) : Dev :=
  let d := if m.handle = 0 then d else d.sixRelease m.handle status
  if m.use = 1 then
    match (d.job m.q).drain with
    | none => d
    | some x => if status = 0 then d.setJob m.q { d.job m.q with drain := some { x with left := x.left - 1 } } else d
  else if m.use = 2 then
    let no := m.head.id % 2 ^ 20
    let fails := status ≠ 0 ∧ d.wset.loads.any (fun l => l.q == m.q && l.i == m.i && !l.broken)
    let d := d.setWset { d.wset with loads := d.wset.loads.map (fun (l : Load) =>
        if l.q = m.q ∧ l.i = m.i then
          (if status = 0 then { l with sent := l.sent.filter (· != no) }
           else { l with broken := true, sent := [], status := if l.status = 0 then status else l.status })
        else l) }
    if fails then d.raise (pfPage .tbn 0 1) 1 status else d
  else if m.use = 0 ∧ m.toRank ≠ 0xFFFF then
    if status = 0 then
      d.setCol { d.col with colls := d.col.colls.map (fun c =>
        if c.q = m.q ∧ c.i = m.i then { c with sent := c.sent.filter (fun x => x != (m.toRank, m.head.id % 4096)) } else c) }
    else d.failTransfer m.q m.i status m.toRank
  else d

/-- The connection to a peer's partition from an own one. -/
def Dev.findConn (d : Dev) (peer part peerPart : Nat) : Option Nat :=
  (d.tbn.conns.find? (fun e => e.2.peer == peer && e.2.part == part && e.2.peerPart == peerPart)).map (fun e => e.1)

/-- The connection that gives way at the limit: idle longest, for at least 1 s (R313). -/
def Dev.idleConn (d : Dev) : Option Nat :=
  (minBy (fun (e : Nat × Conn) => e.2.lastUse)
    (d.tbn.conns.filter (fun e => e.2.isOpen && e.2.msgs.isEmpty && e.2.pkts.isEmpty && decide (e.2.lastUse + secQ ≤ d.now)))).map
    (fun e => e.1)

/-- Close an open connection: CLOSE goes to the peer. -/
def Dev.closeConn (d : Dev) (c : Nat) : Dev :=
  match d.conn? c with
  | none => d
  | some _ => (d.sendService c ptCLOSE 0 0 {} []).dropConn c

/-- A place for a new connection: none at the limit when no connection qualifies for closing. -/
def Dev.connRoom (d : Dev) : Option Dev :=
  if d.tbn.conns.length < 16384 then some d
  else d.idleConn.map (fun c => d.closeConn c)

/-- A new connection's id is the next 24-bit number that none has. -/
def Dev.newConn (d : Dev) (x : Conn) : Nat × Dev :=
  let n := d.tbn.nextId % 2 ^ 24
  let d := d.setTbn { d.tbn with nextId := if n + 1 = 2 ^ 24 then 1 else n + 1 }
  (n, d.setConn n { x with lastUse := d.now, rto := d.rd F.tbnTimer_rtoMin * usQ })

/-- Put a message on the connection to a peer's partition, opening it where there is none (R313). -/
def Dev.post (d : Dev) (peer part peerPart : Nat) (m : TxMsg) : Dev :=
  let place (d : Dev) (c : Nat) : Dev :=
    match d.conn? c with
    | none => d
    | some x =>
      let m := if m.head.ctrl ∨ m.use = 1 then { m with head := { m.head with id := x.ids % 2 ^ 32 } } else m
      (d.setConn c { x with msgs := x.msgs ++ [m], ids := x.ids + 1, lastUse := d.now }).pump c
  match d.findConn peer part peerPart with
  | some c => place d c
  | none =>
    match d.connRoom with
    | none =>
      let d := d.setTbn { d.tbn with waiting := d.tbn.waiting ++ [(peer, peerPart, part, m)] }
      if d.tbn.limited then d else (d.setTbn { d.tbn with limited := true }).raise tbnPage 5 St.ok
    | some d =>
      let r := d.newConn { peer := peer, part := part, peerPart := peerPart }
      (place r.2 r.1).sendHello r.1

/-- A number for a new message. -/
def Dev.newMsg (d : Dev) : Nat × Dev := (d.tbn.nextMsg, d.setTbn { d.tbn with nextMsg := d.tbn.nextMsg + 1 })

/-- Send a CTRL message to a device: one packet on a queue, between partitions 0 (log entry 38). A device without an address gets
none (15_groups R337). -/
def Dev.postCtrl (d : Dev) (peer queue : Nat) (body : List Byte) : Dev :=
  if peer = d.deviceId ∨ (d.familyTo peer).isNone then d
  else
    let r := d.newMsg
    match r.2.sixAlloc 3 ownDevice 0 0 0 0xFF with
    | some (h, d) =>
      d.post peer 0 0 { no := r.1, head := { ctrl := true, queue := queue, len := body.length }, rest := body, handle := h }
    | none => r.2.post peer 0 0 { no := r.1, head := { ctrl := true, queue := queue, len := body.length }, rest := body }

/-! ### Losses and exclusion (R320 to R324) -/

/-- TBN_ASSIST shows a waiting record. -/
def Dev.showTbnAssist (d : Dev) : Dev :=
  match d.tbn.peers.find? (fun e => e.2.assist != 0) with
  | none => (d.wr F.tbnAssistOp 0).setFlag (hAssistWait tbnPage) false
  | some (p, x) => (d.wr F.tbnAssistOp x.assist).wr64 (F.tbnAssistPeer 0) (F.tbnAssistPeer 1) p

/-- Every path to a peer is EXCLUDED: the bound starts, and in ASSIST mode a work record names the peer (R323, R324). -/
def Dev.lastPath (d : Dev) (peer : Nat) : Dev :=
  let d := d.setPeer peer { d.peer peer with gone := d.now + 1 }
  if d.assist tbnPage ∧ (d.peer peer).assist = 0 then
    match d.sixAlloc 7 ownDevice 0 0 0 0xFF with
    | some (h, d) => ((d.setPeer peer { d.peer peer with assist := h }).showTbnAssist).assistOpen tbnPage St.pathFailed
    | none => d
  else d

/-- Every SENT packet of a path becomes LOST. -/
def Dev.losePath (d : Dev) (peer path : Nat) : Dev :=
  d.setTbn { d.tbn with conns := d.tbn.conns.map (fun (e : Nat × Conn) =>
    if e.2.peer = peer then
      (e.1, { e.2 with pkts := e.2.pkts.map (fun (k : TxPkt) => if k.path = path then { k with lost := true } else k) })
    else e) }

/-- A loss counts against the path that carried the packet; at RETRY_LIMIT the path is EXCLUDED (R322). -/
def Dev.countLoss (d : Dev) (peer path : Nat) : Dev :=
  let x := d.pathSt peer path
  if x.excluded then d
  else if x.losses + 1 < d.rd F.tbnCfg_retryLimit then d.setPath peer path { x with losses := x.losses + 1 }
  else
    let d := d.setPath peer path { excluded := true, losses := x.losses + 1, probeAt := d.now }
    let d := (d.losePath peer path).raise tbnPage 0 St.pathFailed
    if d.activePaths peer = [] then d.lastPath peer else d

/-- A SENT packet becomes LOST; a loss that does not count says so. -/
def Dev.losePkt (d : Dev) (c psn : Nat) : Dev :=
  match d.conn? c with
  | none => d
  | some x =>
    match x.pkts.find? (fun k => k.psn == psn && !k.lost) with
    | none => d
    | some k =>
      let d := d.setConn c { x with pkts := x.pkts.map (fun (y : TxPkt) => if y.psn = psn then { y with lost := true } else y) }
      if k.noCount then d else d.countLoss x.peer k.path

/-- A message fails: its packets are forgotten. -/
def Dev.failMsg (d : Dev) (c no status : Nat) : Dev :=
  match d.conn? c with
  | none => d
  | some x =>
    match x.msgs.find? (fun m => m.no == no) with
    | none => d
    | some m =>
      (d.setConn c { x with msgs := x.msgs.filter (fun m => m.no != no), pkts := x.pkts.filter (fun k => k.msg != no) }).msgOver m status

/-- Receives posted from a device fail with a status. -/
def Dev.failPosted (d : Dev) (peer status : Nat) : Dev :=
  d.col.colls.foldl (fun d (c : Coll) =>
    match c.posted.find? (fun p => !p.done && nthD ((mapGet {} d.col.grps c.group).members) p.rank 0 == peer) with
    | some p => d.failTransfer c.q c.i status p.rank
    | none => d) d

/-- Every message to or from a peer fails and its connections close (R323; 15_groups R337). -/
def Dev.losePeer (d : Dev) (peer status : Nat) : Dev :=
  let cs := (d.tbn.conns.filter (fun e => e.2.peer == peer)).map (fun e => e.1)
  let d := cs.foldl (fun d c =>
    let ms := ((d.conn? c).map (fun x => x.msgs)).getD []
    (ms.foldl (fun d m => d.failMsg c m.no status) d).dropConn c) d
  let ws := d.tbn.waiting.filter (fun w => w.1 == peer)
  let d := d.setTbn { d.tbn with waiting := d.tbn.waiting.filter (fun w => w.1 != peer) }
  let d := ws.foldl (fun d w => d.msgOver w.2.2.2 status) d
  let d := if (d.peer peer).assist = 0 then d else d.sixRelease (d.peer peer).assist status
  let d := (d.setTbn { d.tbn with peers := mapDel d.tbn.peers peer }).showTbnAssist
  d.failPosted peer status

end Sys2Proof.Machine
end

