-- ==== Sys2Proof/Machine/GroupOps.lean ====
section
/-! DEFINITION. Groups, members and the control messages sent to them (15_groups_and_collectives.md R328, R341; 12_step_ledger.md
R267). -/

namespace Sys2Proof.Machine

def colPage : Page := pfPage .col 0 0
def ldgPage : Page := pfPage .ldg 0 0

/-- A group as it is in effect. -/
def Dev.grp (d : Dev) (g : Nat) : Grp := mapGet {} d.col.grps g

/-- The device is a member of the group. -/
def Dev.grpValid (d : Dev) (g : Nat) : Bool := d.flag (F.colGrpCfg_valid.bank g)

/-- Members of a group; a group the device is not in counts as the device alone (log entry 33). -/
def Dev.grpSize (d : Dev) (g : Nat) : Nat := if d.grpValid g then (d.grp g).size else 1

def Dev.grpRank (d : Dev) (g : Nat) : Nat := if d.grpValid g then d.rd (F.colGrpCfg_myRank.bank g) else 0

/-- Device id of a rank. -/
def Dev.memberOf (d : Dev) (g r : Nat) : Nat := if d.grpValid g then nthD (d.grp g).members r 0 else d.deviceId

/-- The group that the registers of a group's window spell. -/
def Dev.grpWritten (d : Dev) (g : Nat) : Grp :=
  let n := d.rd (F.colGrpCfg_sizeM1.bank g) + 1
  { owner := d.rd (F.colGrpCfg_owner.bank g), job := d.rd (F.colGrpCfg_job.bank g), size := n,
    members := (List.range n).map (fun r => d.rd64 ((F.colMember (2 * r)).bank g) ((F.colMember (2 * r + 1)).bank g)),
    parts := (List.range n).map (fun r => bitsAt (d.rd ((F.colMpart (r / 4)).bank g)) (8 * (r % 4)) 3),
    subst := d.flag (F.colGrpCfg_subst.bank g) }

/-- The lowest rank that is this device's own (R341). -/
def Dev.ownRank (d : Dev) (x : Grp) : Option Nat :=
  (List.range x.size).find? (fun r => nthD x.members r 0 == d.deviceId && nthD x.parts r 0 == x.owner)

/-- A written group takes effect (R341): VALID, MY_RANK, the epoch of the change, and q starts at 0 (R343). -/
def Dev.applyGroup (d : Dev) (g : Nat) : Dev :=
  let x := d.grpWritten g
  let own := d.ownRank x
  let d := d.setCol { d.col with grps := mapPut d.col.grps g x, dirty := d.col.dirty.filter (· != g) }
  let d := d.setFlag (F.colGrpCfg_valid.bank g) own.isSome
  let d := d.wr (F.colGrpCfg_myRank.bank g) (own.getD 0)
  let d := d.wr (F.colGrpState_q.bank g) 0
  d.wr (F.colGrpEpoch.bank g) (d.rd F.colEpoch)

/-- The written groups of a job take effect. -/
def Dev.applyGroups (d : Dev) (j : Nat) : Dev :=
  (d.col.dirty.filter (fun g => d.rd (F.colGrpCfg_job.bank g) == j)).foldl Dev.applyGroup d

/-- A CTRL message handed to the transport for a device, with the queue it travels on. -/
def Dev.sendCtrl (d : Dev) (dev queue : Nat) (body : List Byte) : Dev :=
  d.postCtrl dev queue body

/-- The commit group of a job. -/
def Dev.commitGroup (d : Dev) (j : Nat) : Nat := d.rd (F.ldgJobCfg_group j)

/-- Ranks of a job's commit group other than the device's own. -/
def Dev.others (d : Dev) (j : Nat) : List Nat :=
  (List.range (d.grpSize (d.commitGroup j))).filter (· != d.grpRank (d.commitGroup j))

/-- The fields of a ledger message (R267). -/
structure LdgMsg where
  type : Nat
  flags : Nat := 0
  sender : Nat
  group : Nat
  reason : Nat := 0
  step : Nat
  attempt : Nat
  reasonRank : Nat := 0xFFFF
  term : Nat := 0
  t : Nat := 0
  digest : List Byte := []
  deriving DecidableEq, Repr

/-- The 64 bytes of a ledger message. -/
def LdgMsg.bytes (m : LdgMsg) : List Byte :=
  leBytes 1 m.type ++ leBytes 1 m.flags ++ leBytes 2 m.sender ++ leBytes 2 m.group ++ leBytes 2 m.reason ++ leBytes 8 m.step
    ++ leBytes 2 m.attempt ++ leBytes 2 m.reasonRank ++ leBytes 4 m.term ++ leBytes 8 m.t
    ++ (if m.digest = [] then leBytes 32 0 else m.digest)

/-- Read a ledger message's body. -/
def readLdgMsg (b : Cmd) : LdgMsg :=
  { type := cmdBits b 0 0 8, flags := cmdBits b 1 0 8, sender := cmdBits b 2 0 16, group := cmdBits b 4 0 16,
    reason := cmdBits b 6 0 16, step := cmdBits b 8 0 64, attempt := cmdBits b 16 0 16, reasonRank := cmdBits b 18 0 16,
    term := cmdBits b 20 0 32, t := cmdBits b 24 0 64, digest := leBytes 32 (cmdBits b 32 0 256) }

/-- Send a ledger message of a job's newest attempt to a rank of its commit group, on transmit queue 7. -/
def Dev.sendLdg (d : Dev) (j rank : Nat) (m : LdgMsg) : Dev := d.sendCtrl (d.memberOf (d.commitGroup j) rank) 7 m.bytes

/-- A message of the newest attempt, with its sender, group, step, attempt and term filled in. -/
def Dev.ldgMsg (d : Dev) (j type : Nat) : LdgMsg :=
  let r := d.newest j
  { type := type, sender := d.grpRank (d.commitGroup j), group := d.commitGroup j, step := (r.map (fun r => r.step)).getD 0,
    attempt := (r.map (fun r => r.attempt)).getD 0, term := (d.job j).term }

/-- Update the record of the newest attempt. -/
def Dev.updNewest (d : Dev) (j : Nat) (f : LedgerRec → LedgerRec) : Dev :=
  let x := d.job j
  d.setJob j { x with ring := mapUpd x.ring (d.rd (F.ldgJobState_head j)) f }

/-- Set the state of the newest attempt, in its record and in LDG_JOB_STATE. -/
def Dev.setStepState (d : Dev) (j st : Nat) : Dev :=
  (d.updNewest j (fun r => { r with state := st })).wr (F.ldgJobState_step j) st

end Sys2Proof.Machine
end

