-- ==== Sys2Proof/Machine/Bodies.lean ====
section
/-! DEFINITION. The bodies of queued commands: every field of every body table, and the bits each opcode reserves
(03_klotchaex_command_stream.md R66, R69 and the body tables of the chapters). -/

namespace Sys2Proof.Machine

/-- A field of a command body: byte, lowest bit, width. -/
structure CF where
  b : Nat
  lo : Nat
  w : Nat
  deriving DecidableEq, Repr

/-! Fields of WAIT and SIGNAL (R69). -/

def waitCount (c : Cmd) : Nat := cmdBits c 16 0 4
def waitSlots (c : Cmd) : Nat := cmdBits c 20 0 256

/-! Fields of STAMP (R69). -/

def stmpAddr (c : Cmd) : Nat := cmdBits c 16 0 48

/-- The fields of STAMP (R69). -/
def stmpFields : List CF :=
  [⟨16, 0, 48⟩]

/-! Fields of STEP_OPEN (12_step_ledger.md R263). -/

def openStep (c : Cmd) : Nat := cmdBits c 16 0 64
def openCursor (c : Cmd) : Nat := cmdBits c 24 0 256

/-- The fields of STEP_OPEN (12_step_ledger.md R263). -/
def openFields : List CF :=
  [⟨16, 0, 64⟩, ⟨24, 0, 256⟩]

/-! Fields of STEP_SEAL (R265). -/

def sealUpdates (c : Cmd) : Nat := cmdBits c 16 0 32
def sealVoteWork (c : Cmd) : Nat := cmdBits c 20 0 64

/-- The fields of STEP_SEAL (R265). -/
def sealFields : List CF :=
  [⟨16, 0, 32⟩, ⟨20, 0, 64⟩]

/-! Fields of CKPT (R278). -/

def ckptHost (c : Cmd) : Nat := cmdBits c 16 0 1

/-- The fields of CKPT (R278). -/
def ckptFields : List CF :=
  [⟨16, 0, 1⟩]

/-! Fields of RESTORE (R284). -/

def rstStep (c : Cmd) : Nat := cmdBits c 16 0 64
def rstCursor (c : Cmd) : Nat := cmdBits c 24 0 256
def rstSource (c : Cmd) : Nat := cmdBits c 56 0 2
def rstHostAddr (c : Cmd) : Nat := cmdBits c 58 0 48

/-- The fields of RESTORE (R284). -/
def rstFields : List CF :=
  [⟨16, 0, 64⟩, ⟨24, 0, 256⟩, ⟨56, 0, 2⟩, ⟨58, 0, 48⟩]

/-! Fields of RESHARD (15_groups_and_collectives.md R353). -/

def reshNewEpoch (c : Cmd) : Nat := cmdBits c 16 0 16

/-- The fields of RESHARD (15_groups_and_collectives.md R353). -/
def reshFields : List CF :=
  [⟨16, 0, 16⟩]

/-! Fields of WSET_SWAP (16_weights_and_partitions.md R365). -/

def swapSet (c : Cmd) : Nat := cmdBits c 16 0 8

/-- The fields of WSET_SWAP (16_weights_and_partitions.md R365). -/
def swapFields : List CF :=
  [⟨16, 0, 8⟩]

/-! Fields of MM and MM_T (05_matrix_array.md R112). -/

def mmAFmt (c : Cmd) : Nat := cmdBits c 16 0 4
def mmBFmt (c : Cmd) : Nat := cmdBits c 16 4 4
def mmCFmt (c : Cmd) : Nat := cmdBits c 16 8 4
def mmSplit (c : Cmd) : Nat := cmdBits c 16 12 2
def mmAcc (c : Cmd) : Nat := cmdBits c 18 0 1
def mmTa (c : Cmd) : Nat := cmdBits c 18 1 1
def mmTb (c : Cmd) : Nat := cmdBits c 18 2 1
def mmMM1 (c : Cmd) : Nat := cmdBits c 20 0 16
def mmNM1 (c : Cmd) : Nat := cmdBits c 22 0 16
def mmKM1 (c : Cmd) : Nat := cmdBits c 24 0 16
def mmAHandle (c : Cmd) : Nat := cmdBits c 28 0 32
def mmBHandle (c : Cmd) : Nat := cmdBits c 32 0 32
def mmCHandle (c : Cmd) : Nat := cmdBits c 36 0 32
def mmAOff (c : Cmd) : Nat := cmdBits c 40 0 32
def mmBOff (c : Cmd) : Nat := cmdBits c 44 0 32
def mmCOff (c : Cmd) : Nat := cmdBits c 48 0 32
def mmLda (c : Cmd) : Nat := cmdBits c 52 0 16
def mmLdb (c : Cmd) : Nat := cmdBits c 54 0 16
def mmLdc (c : Cmd) : Nat := cmdBits c 56 0 16
def mmCoreFirst (c : Cmd) : Nat := cmdBits c 58 0 6
def mmCoreCount (c : Cmd) : Nat := cmdBits c 59 0 7
def mmDrain (c : Cmd) : Nat := cmdBits c 60 0 32

/-- The fields of MM and MM_T (05_matrix_array.md R112). -/
def mmFields : List CF :=
  [⟨16, 0, 4⟩, ⟨16, 4, 4⟩, ⟨16, 8, 4⟩, ⟨16, 12, 2⟩, ⟨18, 0, 1⟩, ⟨18, 1, 1⟩, ⟨18, 2, 1⟩, ⟨20, 0, 16⟩, ⟨22, 0,
   16⟩, ⟨24, 0, 16⟩, ⟨28, 0, 32⟩, ⟨32, 0, 32⟩, ⟨36, 0, 32⟩, ⟨40, 0, 32⟩, ⟨44, 0, 32⟩, ⟨48, 0, 32⟩, ⟨52, 0,
   16⟩, ⟨54, 0, 16⟩, ⟨56, 0, 16⟩, ⟨58, 0, 6⟩, ⟨59, 0, 7⟩, ⟨60, 0, 32⟩]

/-! Fields of CONV (table CONV body). -/

def convAFmt (c : Cmd) : Nat := cmdBits c 16 0 4
def convBFmt (c : Cmd) : Nat := cmdBits c 16 4 4
def convCFmt (c : Cmd) : Nat := cmdBits c 16 8 4
def convSplit (c : Cmd) : Nat := cmdBits c 16 12 2
def convAcc (c : Cmd) : Nat := cmdBits c 18 0 1
def convPass (c : Cmd) : Nat := cmdBits c 18 1 2
def convDxM1 (c : Cmd) : Nat := cmdBits c 20 0 16
def convDyM1 (c : Cmd) : Nat := cmdBits c 22 0 16
def convDzM1 (c : Cmd) : Nat := cmdBits c 24 0 16
def convCinM1 (c : Cmd) : Nat := cmdBits c 26 0 16
def convCoutM1 (c : Cmd) : Nat := cmdBits c 28 0 16
def convGM1 (c : Cmd) : Nat := cmdBits c 30 0 16
def convBM1 (c : Cmd) : Nat := cmdBits c 32 0 16
def convFX (c : Cmd) : Nat := cmdBits c 34 0 5
def convFY (c : Cmd) : Nat := cmdBits c 34 5 5
def convFZ (c : Cmd) : Nat := cmdBits c 34 10 5
def convSX (c : Cmd) : Nat := cmdBits c 36 0 4
def convSY (c : Cmd) : Nat := cmdBits c 36 4 4
def convSZ (c : Cmd) : Nat := cmdBits c 36 8 4
def convLX (c : Cmd) : Nat := cmdBits c 38 0 4
def convLY (c : Cmd) : Nat := cmdBits c 38 4 4
def convLZ (c : Cmd) : Nat := cmdBits c 38 8 4
def convPloX (c : Cmd) : Nat := cmdBits c 40 0 5
def convPloY (c : Cmd) : Nat := cmdBits c 40 5 5
def convPloZ (c : Cmd) : Nat := cmdBits c 40 10 5
def convPhiX (c : Cmd) : Nat := cmdBits c 42 0 5
def convPhiY (c : Cmd) : Nat := cmdBits c 42 5 5
def convPhiZ (c : Cmd) : Nat := cmdBits c 42 10 5
def convModeX (c : Cmd) : Nat := cmdBits c 44 0 2
def convModeY (c : Cmd) : Nat := cmdBits c 44 2 2
def convModeZ (c : Cmd) : Nat := cmdBits c 44 4 2
def convCoreFirst (c : Cmd) : Nat := cmdBits c 45 0 6
def convCoreCount (c : Cmd) : Nat := cmdBits c 46 0 7
def convOp0Handle (c : Cmd) : Nat := cmdBits c 48 0 32
def convOp1Handle (c : Cmd) : Nat := cmdBits c 52 0 32
def convOp2Handle (c : Cmd) : Nat := cmdBits c 56 0 32
def convDrain (c : Cmd) : Nat := cmdBits c 60 0 32

/-- The fields of CONV (table CONV body). -/
def convFields : List CF :=
  [⟨16, 0, 4⟩, ⟨16, 4, 4⟩, ⟨16, 8, 4⟩, ⟨16, 12, 2⟩, ⟨18, 0, 1⟩, ⟨18, 1, 2⟩, ⟨20, 0, 16⟩, ⟨22, 0, 16⟩, ⟨24, 0,
   16⟩, ⟨26, 0, 16⟩, ⟨28, 0, 16⟩, ⟨30, 0, 16⟩, ⟨32, 0, 16⟩, ⟨34, 0, 5⟩, ⟨34, 5, 5⟩, ⟨34, 10, 5⟩, ⟨36, 0, 4⟩,
   ⟨36, 4, 4⟩, ⟨36, 8, 4⟩, ⟨38, 0, 4⟩, ⟨38, 4, 4⟩, ⟨38, 8, 4⟩, ⟨40, 0, 5⟩, ⟨40, 5, 5⟩, ⟨40, 10, 5⟩, ⟨42, 0,
   5⟩, ⟨42, 5, 5⟩, ⟨42, 10, 5⟩, ⟨44, 0, 2⟩, ⟨44, 2, 2⟩, ⟨44, 4, 2⟩, ⟨45, 0, 6⟩, ⟨46, 0, 7⟩, ⟨48, 0, 32⟩, ⟨52,
   0, 32⟩, ⟨56, 0, 32⟩, ⟨60, 0, 32⟩]

/-! Fields of ATTN (06_drain_and_backward_pass.md R138). -/

def attnQFmt (c : Cmd) : Nat := cmdBits c 16 0 4
def attnKFmt (c : Cmd) : Nat := cmdBits c 16 4 4
def attnVFmt (c : Cmd) : Nat := cmdBits c 16 8 4
def attnOFmt (c : Cmd) : Nat := cmdBits c 16 12 4
def attnMask (c : Cmd) : Nat := cmdBits c 18 0 2
def attnMM1 (c : Cmd) : Nat := cmdBits c 20 0 16
def attnSM1 (c : Cmd) : Nat := cmdBits c 22 0 16
def attnDM1 (c : Cmd) : Nat := cmdBits c 24 0 8
def attnDvM1 (c : Cmd) : Nat := cmdBits c 25 0 8
def attnHM1 (c : Cmd) : Nat := cmdBits c 26 0 16
def attnQHandle (c : Cmd) : Nat := cmdBits c 28 0 32
def attnKHandle (c : Cmd) : Nat := cmdBits c 32 0 32
def attnVHandle (c : Cmd) : Nat := cmdBits c 36 0 32
def attnOHandle (c : Cmd) : Nat := cmdBits c 40 0 32
def attnScale (c : Cmd) : Nat := cmdBits c 44 0 32
def attnLseHandle (c : Cmd) : Nat := cmdBits c 48 0 32
def attnCausalOff (c : Cmd) : Nat := cmdBits c 52 0 16
def attnCoreFirst (c : Cmd) : Nat := cmdBits c 54 0 6
def attnCoreCount (c : Cmd) : Nat := cmdBits c 55 0 7
def attnDrain (c : Cmd) : Nat := cmdBits c 60 0 32

/-- The fields of ATTN (06_drain_and_backward_pass.md R138). -/
def attnFields : List CF :=
  [⟨16, 0, 4⟩, ⟨16, 4, 4⟩, ⟨16, 8, 4⟩, ⟨16, 12, 4⟩, ⟨18, 0, 2⟩, ⟨20, 0, 16⟩, ⟨22, 0, 16⟩, ⟨24, 0, 8⟩, ⟨25, 0,
   8⟩, ⟨26, 0, 16⟩, ⟨28, 0, 32⟩, ⟨32, 0, 32⟩, ⟨36, 0, 32⟩, ⟨40, 0, 32⟩, ⟨44, 0, 32⟩, ⟨48, 0, 32⟩, ⟨52, 0, 16⟩,
   ⟨54, 0, 6⟩, ⟨55, 0, 7⟩, ⟨60, 0, 32⟩]

/-! Fields of SLICE64 and SLICE32 (08_slice_precision.md R176). -/

def slS (c : Cmd) : Nat := cmdBits c 16 0 4
def slAcc (c : Cmd) : Nat := cmdBits c 16 4 1
def slSplit (c : Cmd) : Nat := cmdBits c 16 5 2
def slTa (c : Cmd) : Nat := cmdBits c 17 0 1
def slTb (c : Cmd) : Nat := cmdBits c 17 1 1
def slCFmt (c : Cmd) : Nat := cmdBits c 18 0 4
def slMM1 (c : Cmd) : Nat := cmdBits c 20 0 16
def slNM1 (c : Cmd) : Nat := cmdBits c 22 0 16
def slKM1 (c : Cmd) : Nat := cmdBits c 24 0 16
def slAHandle (c : Cmd) : Nat := cmdBits c 28 0 32
def slBHandle (c : Cmd) : Nat := cmdBits c 32 0 32
def slCHandle (c : Cmd) : Nat := cmdBits c 36 0 32
def slAOff (c : Cmd) : Nat := cmdBits c 40 0 32
def slBOff (c : Cmd) : Nat := cmdBits c 44 0 32
def slCOff (c : Cmd) : Nat := cmdBits c 48 0 32
def slLda (c : Cmd) : Nat := cmdBits c 52 0 16
def slLdb (c : Cmd) : Nat := cmdBits c 54 0 16
def slLdc (c : Cmd) : Nat := cmdBits c 56 0 16
def slCoreFirst (c : Cmd) : Nat := cmdBits c 58 0 6
def slCoreCount (c : Cmd) : Nat := cmdBits c 59 0 7
def slWsHandle (c : Cmd) : Nat := cmdBits c 60 0 32

/-- The fields of SLICE64 and SLICE32 (08_slice_precision.md R176). -/
def slFields : List CF :=
  [⟨16, 0, 4⟩, ⟨16, 4, 1⟩, ⟨16, 5, 2⟩, ⟨17, 0, 1⟩, ⟨17, 1, 1⟩, ⟨18, 0, 4⟩, ⟨20, 0, 16⟩, ⟨22, 0, 16⟩, ⟨24, 0,
   16⟩, ⟨28, 0, 32⟩, ⟨32, 0, 32⟩, ⟨36, 0, 32⟩, ⟨40, 0, 32⟩, ⟨44, 0, 32⟩, ⟨48, 0, 32⟩, ⟨52, 0, 16⟩, ⟨54, 0,
   16⟩, ⟨56, 0, 16⟩, ⟨58, 0, 6⟩, ⟨59, 0, 7⟩, ⟨60, 0, 32⟩]

/-! Fields of VX (09_arcade_engines.md R192). -/

def vxCountM1 (c : Cmd) : Nat := cmdBits c 16 0 32
def vxChain (c : Cmd) : Nat := cmdBits c 20 0 32
def vxIn0 (c : Cmd) : Nat := cmdBits c 24 0 32
def vxIn1 (c : Cmd) : Nat := cmdBits c 28 0 32
def vxIn2 (c : Cmd) : Nat := cmdBits c 32 0 32
def vxIn3 (c : Cmd) : Nat := cmdBits c 36 0 32
def vxOut0 (c : Cmd) : Nat := cmdBits c 40 0 32
def vxOut1 (c : Cmd) : Nat := cmdBits c 44 0 32
def vxEngFirst (c : Cmd) : Nat := cmdBits c 48 0 4
def vxEngCount (c : Cmd) : Nat := cmdBits c 49 0 5

/-- The fields of VX (09_arcade_engines.md R192). -/
def vxFields : List CF :=
  [⟨16, 0, 32⟩, ⟨20, 0, 32⟩, ⟨24, 0, 32⟩, ⟨28, 0, 32⟩, ⟨32, 0, 32⟩, ⟨36, 0, 32⟩, ⟨40, 0, 32⟩, ⟨44, 0, 32⟩,
   ⟨48, 0, 4⟩, ⟨49, 0, 5⟩]

/-! Fields of SF (R194). -/

def sfCountM1 (c : Cmd) : Nat := cmdBits c 16 0 32
def sfFn (c : Cmd) : Nat := cmdBits c 20 0 5
def sfLane (c : Cmd) : Nat := cmdBits c 20 5 1
def sfInFmt (c : Cmd) : Nat := cmdBits c 21 0 5
def sfOutFmt (c : Cmd) : Nat := cmdBits c 22 0 5
def sfPre (c : Cmd) : Nat := cmdBits c 24 0 32
def sfOffset (c : Cmd) : Nat := cmdBits c 28 0 32
def sfPost (c : Cmd) : Nat := cmdBits c 32 0 32
def sfIn (c : Cmd) : Nat := cmdBits c 36 0 32
def sfInOff (c : Cmd) : Nat := cmdBits c 40 0 32
def sfOut (c : Cmd) : Nat := cmdBits c 44 0 32
def sfOutOff (c : Cmd) : Nat := cmdBits c 48 0 32
def sfOut2 (c : Cmd) : Nat := cmdBits c 52 0 32
def sfEngFirst (c : Cmd) : Nat := cmdBits c 56 0 3
def sfEngCount (c : Cmd) : Nat := cmdBits c 57 0 4

/-- The fields of SF (R194). -/
def sfFields : List CF :=
  [⟨16, 0, 32⟩, ⟨20, 0, 5⟩, ⟨20, 5, 1⟩, ⟨21, 0, 5⟩, ⟨22, 0, 5⟩, ⟨24, 0, 32⟩, ⟨28, 0, 32⟩, ⟨32, 0, 32⟩, ⟨36, 0,
   32⟩, ⟨40, 0, 32⟩, ⟨44, 0, 32⟩, ⟨48, 0, 32⟩, ⟨52, 0, 32⟩, ⟨56, 0, 3⟩, ⟨57, 0, 4⟩]

/-! Fields of NORM (R195). -/

def normOp (c : Cmd) : Nat := cmdBits c 16 0 4
def normXFmt (c : Cmd) : Nat := cmdBits c 17 0 5
def normYFmt (c : Cmd) : Nat := cmdBits c 18 0 5
def normLane (c : Cmd) : Nat := cmdBits c 19 0 1
def normRowsM1 (c : Cmd) : Nat := cmdBits c 20 0 32
def normLenM1 (c : Cmd) : Nat := cmdBits c 24 0 32
def normX (c : Cmd) : Nat := cmdBits c 28 0 32
def normY (c : Cmd) : Nat := cmdBits c 32 0 32
def normGamma (c : Cmd) : Nat := cmdBits c 36 0 32
def normBeta (c : Cmd) : Nat := cmdBits c 40 0 32
def normSave (c : Cmd) : Nat := cmdBits c 44 0 32
def normDy (c : Cmd) : Nat := cmdBits c 48 0 32
def normEps (c : Cmd) : Nat := cmdBits c 52 0 32
def normDparam (c : Cmd) : Nat := cmdBits c 56 0 32
def normEngFirst (c : Cmd) : Nat := cmdBits c 60 0 3
def normEngCount (c : Cmd) : Nat := cmdBits c 61 0 4

/-- The fields of NORM (R195). -/
def normFields : List CF :=
  [⟨16, 0, 4⟩, ⟨17, 0, 5⟩, ⟨18, 0, 5⟩, ⟨19, 0, 1⟩, ⟨20, 0, 32⟩, ⟨24, 0, 32⟩, ⟨28, 0, 32⟩, ⟨32, 0, 32⟩, ⟨36, 0,
   32⟩, ⟨40, 0, 32⟩, ⟨44, 0, 32⟩, ⟨48, 0, 32⟩, ⟨52, 0, 32⟩, ⟨56, 0, 32⟩, ⟨60, 0, 3⟩, ⟨61, 0, 4⟩]

/-! Fields of ROUTE (R197). -/

def routeEM1 (c : Cmd) : Nat := cmdBits c 16 0 10
def routeK (c : Cmd) : Nat := cmdBits c 16 10 4
def routeScore (c : Cmd) : Nat := cmdBits c 18 0 1
def routeNormk (c : Cmd) : Nat := cmdBits c 18 1 1
def routeDrop (c : Cmd) : Nat := cmdBits c 18 2 1
def routeLogitFmt (c : Cmd) : Nat := cmdBits c 19 0 5
def routeTM1 (c : Cmd) : Nat := cmdBits c 20 0 24
def routeCap (c : Cmd) : Nat := cmdBits c 24 0 25
def routeLogits (c : Cmd) : Nat := cmdBits c 28 0 32
def routeBias (c : Cmd) : Nat := cmdBits c 32 0 32
def routeSel (c : Cmd) : Nat := cmdBits c 36 0 32
def routeStats (c : Cmd) : Nat := cmdBits c 40 0 32
def routeEngFirst (c : Cmd) : Nat := cmdBits c 44 0 2
def routeEngCount (c : Cmd) : Nat := cmdBits c 45 0 3

/-- The fields of ROUTE (R197). -/
def routeFields : List CF :=
  [⟨16, 0, 10⟩, ⟨16, 10, 4⟩, ⟨18, 0, 1⟩, ⟨18, 1, 1⟩, ⟨18, 2, 1⟩, ⟨19, 0, 5⟩, ⟨20, 0, 24⟩, ⟨24, 0, 25⟩, ⟨28, 0,
   32⟩, ⟨32, 0, 32⟩, ⟨36, 0, 32⟩, ⟨40, 0, 32⟩, ⟨44, 0, 2⟩, ⟨45, 0, 3⟩]

/-! Fields of PERMUTE (R200). -/

def permDir (c : Cmd) : Nat := cmdBits c 16 0 1
def permFmt (c : Cmd) : Nat := cmdBits c 17 0 5
def permOutFmt (c : Cmd) : Nat := cmdBits c 18 0 5
def permK (c : Cmd) : Nat := cmdBits c 19 0 4
def permTM1 (c : Cmd) : Nat := cmdBits c 20 0 24
def permDM1 (c : Cmd) : Nat := cmdBits c 24 0 16
def permSel (c : Cmd) : Nat := cmdBits c 28 0 32
def permSrc (c : Cmd) : Nat := cmdBits c 32 0 32
def permDst (c : Cmd) : Nat := cmdBits c 36 0 32
def permEngFirst (c : Cmd) : Nat := cmdBits c 48 0 2
def permEngCount (c : Cmd) : Nat := cmdBits c 49 0 3

/-- The fields of PERMUTE (R200). -/
def permFields : List CF :=
  [⟨16, 0, 1⟩, ⟨17, 0, 5⟩, ⟨18, 0, 5⟩, ⟨19, 0, 4⟩, ⟨20, 0, 24⟩, ⟨24, 0, 16⟩, ⟨28, 0, 32⟩, ⟨32, 0, 32⟩, ⟨36, 0,
   32⟩, ⟨48, 0, 2⟩, ⟨49, 0, 3⟩]

/-! Fields of COMBINE (R200). -/

def combMode (c : Cmd) : Nat := cmdBits c 16 0 1
def combFmt (c : Cmd) : Nat := cmdBits c 17 0 5
def combOutFmt (c : Cmd) : Nat := cmdBits c 18 0 5
def combK (c : Cmd) : Nat := cmdBits c 19 0 4
def combTM1 (c : Cmd) : Nat := cmdBits c 20 0 24
def combDM1 (c : Cmd) : Nat := cmdBits c 24 0 16
def combSel (c : Cmd) : Nat := cmdBits c 28 0 32
def combEout (c : Cmd) : Nat := cmdBits c 32 0 32
def combY (c : Cmd) : Nat := cmdBits c 36 0 32
def combDy (c : Cmd) : Nat := cmdBits c 40 0 32
def combDw (c : Cmd) : Nat := cmdBits c 44 0 32
def combEngFirst (c : Cmd) : Nat := cmdBits c 48 0 2
def combEngCount (c : Cmd) : Nat := cmdBits c 49 0 3

/-- The fields of COMBINE (R200). -/
def combFields : List CF :=
  [⟨16, 0, 1⟩, ⟨17, 0, 5⟩, ⟨18, 0, 5⟩, ⟨19, 0, 4⟩, ⟨20, 0, 24⟩, ⟨24, 0, 16⟩, ⟨28, 0, 32⟩, ⟨32, 0, 32⟩, ⟨36, 0,
   32⟩, ⟨40, 0, 32⟩, ⟨44, 0, 32⟩, ⟨48, 0, 2⟩, ⟨49, 0, 3⟩]

/-! Fields of FFT (R202). -/

def fftDims (c : Cmd) : Nat := cmdBits c 16 0 2
def fftPrec (c : Cmd) : Nat := cmdBits c 16 2 1
def fftKind (c : Cmd) : Nat := cmdBits c 16 3 2
def fftDir (c : Cmd) : Nat := cmdBits c 16 5 1
def fftNorm (c : Cmd) : Nat := cmdBits c 16 6 2
def fftNxM1 (c : Cmd) : Nat := cmdBits c 17 0 24
def fftNyM1 (c : Cmd) : Nat := cmdBits c 20 0 24
def fftNzM1 (c : Cmd) : Nat := cmdBits c 23 0 24
def fftBatchM1 (c : Cmd) : Nat := cmdBits c 28 0 32
def fftIn (c : Cmd) : Nat := cmdBits c 32 0 32
def fftOut (c : Cmd) : Nat := cmdBits c 36 0 32
def fftEngFirst (c : Cmd) : Nat := cmdBits c 40 0 2
def fftEngCount (c : Cmd) : Nat := cmdBits c 41 0 3

/-- The fields of FFT (R202). -/
def fftFields : List CF :=
  [⟨16, 0, 2⟩, ⟨16, 2, 1⟩, ⟨16, 3, 2⟩, ⟨16, 5, 1⟩, ⟨16, 6, 2⟩, ⟨17, 0, 24⟩, ⟨20, 0, 24⟩, ⟨23, 0, 24⟩, ⟨28, 0,
   32⟩, ⟨32, 0, 32⟩, ⟨36, 0, 32⟩, ⟨40, 0, 2⟩, ⟨41, 0, 3⟩]

/-! Fields of GATHER (R205). -/

def gatStrict (c : Cmd) : Nat := cmdBits c 16 0 1
def gatWLM1 (c : Cmd) : Nat := cmdBits c 18 0 10
def gatNM1 (c : Cmd) : Nat := cmdBits c 20 0 32
def gatRowsM1 (c : Cmd) : Nat := cmdBits c 24 0 32
def gatTable (c : Cmd) : Nat := cmdBits c 28 0 32
def gatIdx (c : Cmd) : Nat := cmdBits c 32 0 32
def gatOut (c : Cmd) : Nat := cmdBits c 36 0 32
def gatTableOff (c : Cmd) : Nat := cmdBits c 40 0 32
def gatIdxOff (c : Cmd) : Nat := cmdBits c 44 0 32
def gatOutOff (c : Cmd) : Nat := cmdBits c 48 0 32
def gatEngFirst (c : Cmd) : Nat := cmdBits c 52 0 2
def gatEngCount (c : Cmd) : Nat := cmdBits c 53 0 3

/-- The fields of GATHER (R205). -/
def gatFields : List CF :=
  [⟨16, 0, 1⟩, ⟨18, 0, 10⟩, ⟨20, 0, 32⟩, ⟨24, 0, 32⟩, ⟨28, 0, 32⟩, ⟨32, 0, 32⟩, ⟨36, 0, 32⟩, ⟨40, 0, 32⟩, ⟨44,
   0, 32⟩, ⟨48, 0, 32⟩, ⟨52, 0, 2⟩, ⟨53, 0, 3⟩]

/-! Fields of SCATTER_ADD (R206). -/

def scaMode (c : Cmd) : Nat := cmdBits c 16 0 1
def scaStrict (c : Cmd) : Nat := cmdBits c 16 1 1
def scaRed (c : Cmd) : Nat := cmdBits c 16 2 2
def scaSrcFmt (c : Cmd) : Nat := cmdBits c 17 0 5
def scaDM1 (c : Cmd) : Nat := cmdBits c 18 0 14
def scaNM1 (c : Cmd) : Nat := cmdBits c 20 0 32
def scaRowsM1 (c : Cmd) : Nat := cmdBits c 24 0 32
def scaSrc (c : Cmd) : Nat := cmdBits c 28 0 32
def scaIdx (c : Cmd) : Nat := cmdBits c 32 0 32
def scaDst (c : Cmd) : Nat := cmdBits c 36 0 32
def scaXRowsM1 (c : Cmd) : Nat := cmdBits c 40 0 32
def scaStream (c : Cmd) : Nat := cmdBits c 44 0 32
def scaEngFirst (c : Cmd) : Nat := cmdBits c 48 0 2
def scaEngCount (c : Cmd) : Nat := cmdBits c 49 0 3

/-- The fields of SCATTER_ADD (R206). -/
def scaFields : List CF :=
  [⟨16, 0, 1⟩, ⟨16, 1, 1⟩, ⟨16, 2, 2⟩, ⟨17, 0, 5⟩, ⟨18, 0, 14⟩, ⟨20, 0, 32⟩, ⟨24, 0, 32⟩, ⟨28, 0, 32⟩, ⟨32, 0,
   32⟩, ⟨36, 0, 32⟩, ⟨40, 0, 32⟩, ⟨44, 0, 32⟩, ⟨48, 0, 2⟩, ⟨49, 0, 3⟩]

/-! Fields of the tier commands (10_tiers_and_street_index.md R229). -/

def tierObject (c : Cmd) : Nat := cmdBits c 16 0 32
def tierOff (c : Cmd) : Nat := cmdBits c 20 0 32
def tierLen (c : Cmd) : Nat := cmdBits c 24 0 32
def tierTier (c : Cmd) : Nat := cmdBits c 28 0 2
def tierDropSrc (c : Cmd) : Nat := cmdBits c 28 2 1

/-- The fields of the tier commands (10_tiers_and_street_index.md R229). -/
def tierFields : List CF :=
  [⟨16, 0, 32⟩, ⟨20, 0, 32⟩, ⟨24, 0, 32⟩, ⟨28, 0, 2⟩, ⟨28, 2, 1⟩]

/-! Fields of the collectives (15_groups_and_collectives.md R344). -/

def colGroup (c : Cmd) : Nat := cmdBits c 16 0 12
def colAlg (c : Cmd) : Nat := cmdBits c 18 0 3
def colSite (c : Cmd) : Nat := cmdBits c 18 3 2
def colVersion (c : Cmd) : Nat := cmdBits c 18 5 1
def colAcc (c : Cmd) : Nat := cmdBits c 18 6 1
def colDtype (c : Cmd) : Nat := cmdBits c 19 0 3
def colCountM1 (c : Cmd) : Nat := cmdBits c 20 0 32
def colSrc (c : Cmd) : Nat := cmdBits c 24 0 32
def colSrcOff (c : Cmd) : Nat := cmdBits c 28 0 32
def colDst (c : Cmd) : Nat := cmdBits c 32 0 32
def colDstOff (c : Cmd) : Nat := cmdBits c 36 0 32
def colPeer (c : Cmd) : Nat := cmdBits c 40 0 8
def colTag (c : Cmd) : Nat := cmdBits c 42 0 12
def colStream (c : Cmd) : Nat := cmdBits c 44 0 32

/-- The fields of the collectives (15_groups_and_collectives.md R344). -/
def colFields : List CF :=
  [⟨16, 0, 12⟩, ⟨18, 0, 3⟩, ⟨18, 3, 2⟩, ⟨18, 5, 1⟩, ⟨18, 6, 1⟩, ⟨19, 0, 3⟩, ⟨20, 0, 32⟩, ⟨24, 0, 32⟩, ⟨28, 0,
   32⟩, ⟨32, 0, 32⟩, ⟨36, 0, 32⟩, ⟨40, 0, 8⟩, ⟨42, 0, 12⟩, ⟨44, 0, 32⟩]

/-! Fields of ALLTOALL (R350). -/

def a2aGroup (c : Cmd) : Nat := cmdBits c 16 0 12
def a2aDir (c : Cmd) : Nat := cmdBits c 18 0 1
def a2aFmt (c : Cmd) : Nat := cmdBits c 19 0 5
def a2aDM1 (c : Cmd) : Nat := cmdBits c 20 0 16
def a2aEpr (c : Cmd) : Nat := cmdBits c 22 0 10
def a2aSrc (c : Cmd) : Nat := cmdBits c 24 0 32
def a2aDst (c : Cmd) : Nat := cmdBits c 28 0 32
def a2aStats (c : Cmd) : Nat := cmdBits c 32 0 32
def a2aCounts (c : Cmd) : Nat := cmdBits c 36 0 32

/-- The fields of ALLTOALL (R350). -/
def a2aFields : List CF :=
  [⟨16, 0, 12⟩, ⟨18, 0, 1⟩, ⟨19, 0, 5⟩, ⟨20, 0, 16⟩, ⟨22, 0, 10⟩, ⟨24, 0, 32⟩, ⟨28, 0, 32⟩, ⟨32, 0, 32⟩, ⟨36,
   0, 32⟩]

/-! Fields of UPDATE and STATS (11_acrek_update.md R254). -/

def updGroup (c : Cmd) : Nat := cmdBits c 16 0 12
def updTwinMode (c : Cmd) : Nat := cmdBits c 18 0 2
def updGFmt (c : Cmd) : Nat := cmdBits c 18 2 2
def updTwinFmt (c : Cmd) : Nat := cmdBits c 19 0 4
def updRowsM1 (c : Cmd) : Nat := cmdBits c 20 0 32
def updColsM1 (c : Cmd) : Nat := cmdBits c 24 0 16
def updFX (c : Cmd) : Nat := cmdBits c 26 0 5
def updFY (c : Cmd) : Nat := cmdBits c 26 5 5
def updFZ (c : Cmd) : Nat := cmdBits c 26 10 5
def updStatsWs (c : Cmd) : Nat := cmdBits c 28 0 32
def updMaster (c : Cmd) : Nat := cmdBits c 32 0 32
def updMom1 (c : Cmd) : Nat := cmdBits c 36 0 32
def updMom2 (c : Cmd) : Nat := cmdBits c 40 0 32
def updGrad (c : Cmd) : Nat := cmdBits c 44 0 32
def updTwinF (c : Cmd) : Nat := cmdBits c 48 0 32
def updTwinT (c : Cmd) : Nat := cmdBits c 52 0 32
def updEtaMul (c : Cmd) : Nat := cmdBits c 56 0 32
def updLambdaMul (c : Cmd) : Nat := cmdBits c 60 0 32

/-- The fields of UPDATE and STATS (11_acrek_update.md R254). -/
def updFields : List CF :=
  [⟨16, 0, 12⟩, ⟨18, 0, 2⟩, ⟨18, 2, 2⟩, ⟨19, 0, 4⟩, ⟨20, 0, 32⟩, ⟨24, 0, 16⟩, ⟨26, 0, 5⟩, ⟨26, 5, 5⟩, ⟨26, 10,
   5⟩, ⟨28, 0, 32⟩, ⟨32, 0, 32⟩, ⟨36, 0, 32⟩, ⟨40, 0, 32⟩, ⟨44, 0, 32⟩, ⟨48, 0, 32⟩, ⟨52, 0, 32⟩, ⟨56, 0, 32⟩,
   ⟨60, 0, 32⟩]

/-! Fields of GROUP_CFG (R243). -/

def grpGroup (c : Cmd) : Nat := cmdBits c 16 0 12
def grpRule (c : Cmd) : Nat := cmdBits c 18 0 2
def grpFrozen (c : Cmd) : Nat := cmdBits c 18 2 1
def grpMomFmt (c : Cmd) : Nat := cmdBits c 18 3 1
def grpSched (c : Cmd) : Nat := cmdBits c 18 4 4
def grpEtaBase (c : Cmd) : Nat := cmdBits c 20 0 32
def grpLambda (c : Cmd) : Nat := cmdBits c 24 0 32
def grpBeta1 (c : Cmd) : Nat := cmdBits c 28 0 32
def grpBeta2 (c : Cmd) : Nat := cmdBits c 32 0 32
def grpEps1 (c : Cmd) : Nat := cmdBits c 36 0 32
def grpEps2 (c : Cmd) : Nat := cmdBits c 40 0 32
def grpD (c : Cmd) : Nat := cmdBits c 44 0 32
def grpClip (c : Cmd) : Nat := cmdBits c 48 0 32

/-- The fields of GROUP_CFG (R243). -/
def grpFields : List CF :=
  [⟨16, 0, 12⟩, ⟨18, 0, 2⟩, ⟨18, 2, 1⟩, ⟨18, 3, 1⟩, ⟨18, 4, 4⟩, ⟨20, 0, 32⟩, ⟨24, 0, 32⟩, ⟨28, 0, 32⟩, ⟨32, 0,
   32⟩, ⟨36, 0, 32⟩, ⟨40, 0, 32⟩, ⟨44, 0, 32⟩, ⟨48, 0, 32⟩]

/-! Fields of LOAD_WPK (16_weights_and_partitions.md R366). -/

def wpkSet (c : Cmd) : Nat := cmdBits c 16 0 8
def wpkSlot (c : Cmd) : Nat := cmdBits c 17 0 1
def wpkGroup (c : Cmd) : Nat := cmdBits c 18 0 12
def wpkRoot (c : Cmd) : Nat := cmdBits c 20 0 8
def wpkPkgId (c : Cmd) : Nat := cmdBits c 24 0 64
def wpkHostAddr (c : Cmd) : Nat := cmdBits c 32 0 48
def wpkPkgLen (c : Cmd) : Nat := cmdBits c 40 0 64

/-- The fields of LOAD_WPK (16_weights_and_partitions.md R366). -/
def wpkFields : List CF :=
  [⟨16, 0, 8⟩, ⟨17, 0, 1⟩, ⟨18, 0, 12⟩, ⟨20, 0, 8⟩, ⟨24, 0, 64⟩, ⟨32, 0, 48⟩, ⟨40, 0, 64⟩]

/-- The slots of a WAIT or SIGNAL that are fields: the first min(COUNT, 8) (R69). -/
def slotFields (c : Cmd) : List CF :=
  ⟨16, 0, 4⟩ :: (List.range (min (cmdCount c) 8)).map (fun k => ⟨20 + 4 * k, 0, 32⟩)

/-- A field list without some of its bits. -/
def without (l : List CF) (x : List CF) : List CF := l.filter (fun f => not (x.contains f))

/-- The fields that an opcode's body uses; a collective's unused fields count as reserved (R344). -/
def bodyFields (c : Cmd) : List CF :=
  if cmdOpcode c = opWAIT then slotFields c
  else if cmdOpcode c = opSIGNAL then slotFields c
  else if cmdOpcode c = opSTAMP then stmpFields
  else if cmdOpcode c = opSTEP_OPEN then openFields
  else if cmdOpcode c = opSTEP_SEAL then sealFields
  else if cmdOpcode c = opCKPT then ckptFields
  else if cmdOpcode c = opRESTORE then rstFields
  else if cmdOpcode c = opRESHARD then reshFields
  else if cmdOpcode c = opWSET_SWAP then swapFields
  else if cmdOpcode c = opMM then without mmFields [⟨18, 1, 1⟩, ⟨18, 2, 1⟩]
  else if cmdOpcode c = opMM_T then mmFields
  else if cmdOpcode c = opCONV then convFields
  else if cmdOpcode c = opATTN then attnFields
  else if cmdOpcode c = opSLICE64 then without slFields [⟨18, 0, 4⟩]
  else if cmdOpcode c = opSLICE32 then without slFields [⟨16, 0, 4⟩]
  else if cmdOpcode c = opVX then vxFields
  else if cmdOpcode c = opSF then sfFields
  else if cmdOpcode c = opNORM then normFields
  else if cmdOpcode c = opROUTE then routeFields
  else if cmdOpcode c = opPERMUTE then permFields
  else if cmdOpcode c = opCOMBINE then combFields
  else if cmdOpcode c = opFFT then fftFields
  else if cmdOpcode c = opGATHER then gatFields
  else if cmdOpcode c = opSCATTER_ADD then scaFields
  else if cmdOpcode c = opMOVE then tierFields
  else if cmdOpcode c = opPREFETCH then without tierFields [⟨28, 2, 1⟩]
  else if cmdOpcode c = opEVICT then without tierFields [⟨28, 2, 1⟩]
  else if cmdOpcode c = opPIN then without tierFields [⟨28, 0, 2⟩, ⟨28, 2, 1⟩]
  else if cmdOpcode c = opUNPIN then without tierFields [⟨28, 0, 2⟩, ⟨28, 2, 1⟩]
  else if cmdOpcode c = opALLREDUCE then without colFields [⟨18, 5, 1⟩, ⟨40, 0, 8⟩, ⟨42, 0, 12⟩]
  else if cmdOpcode c = opREDUCE_SCATTER then without colFields [⟨18, 5, 1⟩, ⟨40, 0, 8⟩, ⟨42, 0, 12⟩]
  else if cmdOpcode c = opALLGATHER then without colFields [⟨18, 3, 2⟩, ⟨18, 6, 1⟩, ⟨40, 0, 8⟩, ⟨42, 0, 12⟩, ⟨44, 0, 32⟩]
  else if cmdOpcode c = opALLTOALL then a2aFields
  else if cmdOpcode c = opBCAST_CHAIN then without colFields [⟨18, 0, 3⟩, ⟨18, 3, 2⟩, ⟨18, 5, 1⟩, ⟨18, 6, 1⟩, ⟨19, 0, 3⟩, ⟨42, 0, 12⟩, ⟨44, 0, 32⟩]
  else if cmdOpcode c = opSEND then without colFields [⟨18, 0, 3⟩, ⟨18, 3, 2⟩, ⟨18, 5, 1⟩, ⟨18, 6, 1⟩, ⟨19, 0, 3⟩, ⟨32, 0, 32⟩, ⟨36, 0, 32⟩, ⟨44, 0, 32⟩]
  else if cmdOpcode c = opRECV then without colFields [⟨18, 0, 3⟩, ⟨18, 3, 2⟩, ⟨18, 5, 1⟩, ⟨18, 6, 1⟩, ⟨19, 0, 3⟩, ⟨24, 0, 32⟩, ⟨28, 0, 32⟩, ⟨44, 0, 32⟩]
  else if cmdOpcode c = opBARRIER then without colFields [⟨18, 3, 2⟩, ⟨18, 5, 1⟩, ⟨18, 6, 1⟩, ⟨19, 0, 3⟩, ⟨20, 0, 32⟩, ⟨24, 0, 32⟩, ⟨28, 0, 32⟩, ⟨32, 0, 32⟩, ⟨36, 0, 32⟩, ⟨40, 0, 8⟩, ⟨42, 0, 12⟩, ⟨44, 0, 32⟩]
  else if cmdOpcode c = opUPDATE then updFields
  else if cmdOpcode c = opSTATS then updFields
  else if cmdOpcode c = opGROUP_CFG then grpFields
  else if cmdOpcode c = opLOAD_WPK then wpkFields
  else []

/-- The bits of the body that no field covers. -/
def reservedBits (c : Cmd) : Nat :=
  (bodyFields c).foldl (fun n f => putBitsAt n (8 * (f.b - 16) + f.lo) f.w 0) (bitsAt c.toNat 128 384)

/-- A reserved bit of the header or of the body is set (R66, check 3). -/
def reservedSet (c : Cmd) : Bool := cmdBits c 2 9 7 != 0 || reservedBits c != 0

end Sys2Proof.Machine
end

