-- ==== Sys2Proof/Machine/Numerics.lean ====
section
/-! DEFINITION. Number formats: the encodings of R145 to R147, exact values, rounding and saturating conversion
(07_formats_and_scaling.md R145 to R153), packed elements (R148). -/

namespace Sys2Proof.Machine

/-! ### Exact values -/

/-- Zero, one, and the value of an integer. -/
def FVal.zero : FVal := .fin false 0 0
def FVal.one : FVal := .fin false 1 0
def FVal.ofNat (n : Nat) : FVal := .fin false n 0
def FVal.ofInt (i : Int) : FVal := .fin (decide (i < 0)) i.natAbs 0

/-- 2^e. -/
def FVal.pow2 (e : Int) : FVal := .fin false 1 e

def FVal.isFinite : FVal → Bool
  | .fin .. => true
  | _ => false

def FVal.isZero : FVal → Bool
  | .fin _ 0 _ => true
  | _ => false

def FVal.isNeg : FVal → Bool
  | .nan => false
  | .inf n => n
  | .fin n m _ => n && m != 0

/-- The sign, of zeros and infinities too. -/
def FVal.signed : FVal → Bool
  | .nan => false
  | .inf n => n
  | .fin n _ _ => n

def FVal.neg : FVal → FVal
  | .nan => .nan
  | .inf n => .inf (!n)
  | .fin n m e => .fin (!n) m e

def FVal.abs : FVal → FVal
  | .nan => .nan
  | .inf _ => .inf false
  | .fin _ m e => .fin false m e

/-- A signed mantissa at a lower exponent. -/
def alignTo (neg : Bool) (m : Nat) (e e0 : Int) : Int :=
  let v := Int.ofNat (m * 2 ^ (e - e0).toNat)
  if neg then -v else v

/-- The exact sum; opposite infinities give NaN, an exact zero sum is +0 unless both terms are -0 (IEEE 754-2019). -/
def FVal.add : FVal → FVal → FVal
  | .nan, _ => .nan
  | _, .nan => .nan
  | .inf a, .inf b => if a = b then .inf a else .nan
  | .inf a, _ => .inf a
  | _, .inf b => .inf b
  | .fin a m e, .fin b n f =>
    let e0 := min e f
    let s := alignTo a m e e0 + alignTo b n f e0
    if s = 0 then .fin (a && b) 0 e0 else .fin (decide (s < 0)) s.natAbs e0

def FVal.sub (x y : FVal) : FVal := x.add y.neg

/-- The exact product. -/
def FVal.mul : FVal → FVal → FVal
  | .nan, _ => .nan
  | _, .nan => .nan
  | .inf a, .inf b => .inf (a != b)
  | .inf a, .fin b m _ => if m = 0 then .nan else .inf (a != b)
  | .fin a m _, .inf b => if m = 0 then .nan else .inf (a != b)
  | .fin a m e, .fin b n f => .fin (a != b) (m * n) (e + f)

/-- The value scaled by 2^k. -/
def FVal.scale (x : FVal) (k : Int) : FVal :=
  match x with
  | .fin n m e => .fin n m (e + k)
  | y => y

/-- `x < y` for values that are not NaN. -/
def FVal.lt : FVal → FVal → Bool
  | .nan, _ => false
  | _, .nan => false
  | .inf a, .inf b => a && !b
  | .inf a, .fin .. => a
  | .fin .., .inf b => !b
  | .fin a m e, .fin b n f => let e0 := min e f; decide (alignTo a m e e0 < alignTo b n f e0)

def FVal.le (x y : FVal) : Bool := x != .nan && y != .nan && !(y.lt x)

/-- Equal as numbers (zeros of either sign are equal; NaN equals nothing). -/
def FVal.eqv (x y : FVal) : Bool := x.le y && y.le x

/-- The larger and the smaller of two values, the first where neither is larger; NaN if either is. -/
def FVal.max (x y : FVal) : FVal :=
  if x = .nan ∨ y = .nan then .nan else if x.lt y then y else x
def FVal.min (x y : FVal) : FVal :=
  if x = .nan ∨ y = .nan then .nan else if y.lt x then y else x

/-- ⌊log₂ |x|⌋ of a nonzero finite value. -/
def ilog2 (m : Nat) (e : Int) : Int := Int.ofNat (Nat.log2 m) + e

/-! ### Formats -/

/-- A floating-point encoding (R145): exponent and mantissa bits, bias, whether the largest exponent codes Inf and NaN, the
NaN it writes, and the code of its largest finite value. -/
structure FFmt where
  eb : Nat
  mb : Nat
  bias : Nat
  ieee : Bool
  nan : Option Nat
  top : Nat
  deriving DecidableEq, Repr

def fp64 : FFmt := ⟨11, 52, 1023, true, some 0x7FF8000000000000, 0x7FEFFFFFFFFFFFFF⟩
def fp32 : FFmt := ⟨8, 23, 127, true, some 0x7FC00000, 0x7F7FFFFF⟩
def fp16 : FFmt := ⟨5, 10, 15, true, some 0x7E00, 0x7BFF⟩
def bf16 : FFmt := ⟨8, 7, 127, true, some 0x7FC0, 0x7F7F⟩
def e4m3 : FFmt := ⟨4, 3, 7, false, some 0x7F, 0x7E⟩
def e5m2 : FFmt := ⟨5, 2, 15, true, some 0x7E, 0x7B⟩
def e3m2 : FFmt := ⟨3, 2, 3, false, none, 0x1F⟩
def e2m3 : FFmt := ⟨2, 3, 1, false, none, 0x1F⟩
def e2m1 : FFmt := ⟨2, 1, 1, false, none, 0x7⟩

/-- Bits of an encoding. -/
def FFmt.bits (f : FFmt) : Nat := 1 + f.eb + f.mb

/-- The value a code encodes (R145). -/
def FFmt.decode (f : FFmt) (c : Nat) : FVal :=
  let s := bitOf c (f.eb + f.mb)
  let mag := c % 2 ^ (f.eb + f.mb)
  let e := mag / 2 ^ f.mb
  let m := mag % 2 ^ f.mb
  if f.ieee ∧ e = 2 ^ f.eb - 1 then (if m = 0 then .inf s else .nan)
  else if !f.ieee ∧ f.nan = some mag then .nan
  else if e = 0 then .fin s m (1 - Int.ofNat f.bias - Int.ofNat f.mb)
  else .fin s (2 ^ f.mb + m) (Int.ofNat e - Int.ofNat f.bias - Int.ofNat f.mb)

/-- How a value between two neighbours is rounded: to nearest with ties to even (R151), by a 16-bit draw (R152), toward zero,
or away from zero. -/
inductive Rnd
  | near
  | draw (r : Nat)
  | down
  | up
  deriving DecidableEq, Repr

/-- Whether the value n + rem / 2^k goes to n + 1. -/
def Rnd.goesUp : Rnd → Nat → Nat → Nat → Bool
  | .near, n, rem, k => decide (2 * rem > 2 ^ k) || (decide (2 * rem = 2 ^ k) && n % 2 == 1)
  | .draw r, _, rem, k => decide (r < rem * 2 ^ 16 / 2 ^ k)
  | .down, _, _, _ => false
  | .up, _, rem, _ => rem != 0

/-- m · 2^e in units of 2^q: the whole part, the rest, and the rest's power-of-two denominator. -/
def inUnits (m : Nat) (e q : Int) : Nat × Nat × Nat :=
  if q ≤ e then (m * 2 ^ (e - q).toNat, 0, 0)
  else let k := (q - e).toNat; (m / 2 ^ k, m % 2 ^ k, k)

/-- The magnitude code of m · 2^e under a rounding, before any limit, and whether it is exact: codes of rising magnitudes are
consecutive in every encoding of R145. -/
def FFmt.roundMag (f : FFmt) (rnd : Rnd) (m : Nat) (e : Int) : Nat × Bool :=
  if m = 0 then (0, true)
  else
    let lo := 1 - Int.ofNat f.bias
    let x := max (ilog2 m e) lo
    let u := inUnits m e (x - Int.ofNat f.mb)
    let n := if rnd.goesUp u.1 u.2.1 u.2.2 then u.1 + 1 else u.1
    ((x - lo).toNat * 2 ^ f.mb + n, u.2.1 == 0)

/-- Sign bit of a code. -/
def FFmt.sign (f : FFmt) (neg : Bool) (mag : Nat) : Nat := mag + boolNat neg * 2 ^ (f.eb + f.mb)

/-- IEEE rounding of a value to a format with infinities: a magnitude past the largest finite value is infinite. -/
def FFmt.ieeeCode (f : FFmt) (rnd : Rnd) : FVal → Nat
  | .nan => f.nan.getD f.top
  | .inf s => f.sign s (f.top + 1)
  | .fin s m e => f.sign s (min (f.roundMag rnd m e).1 (f.top + 1))

/-- A value rounded to a format under IEEE rules, as a value. -/
def FFmt.ieee' (f : FFmt) (rnd : Rnd) (x : FVal) : FVal := f.decode (f.ieeeCode rnd x)

/-- Round to nearest even into FP32 and FP64. -/
def r32 (x : FVal) : FVal := fp32.ieee' .near x
def r64 (x : FVal) : FVal := fp64.ieee' .near x

/-- Classes of R131. -/
inductive Cls
  | plain | saturate | nonfinite | ftz | subnormal
  deriving DecidableEq, Repr

/-- Saturating conversion with its class (R131, R151, R152): SATURATE writes the largest finite value with the sign;
NONFINITE the format's NaN, or the largest finite value where it has none. -/
def FFmt.conv (f : FFmt) (rnd : Rnd) : FVal → Nat × Cls
  | .nan => (f.nan.getD f.top, .nonfinite)
  | .inf s => (match f.nan with | some c => c | none => f.sign s f.top, .nonfinite)
  | .fin s m e =>
    let r := f.roundMag rnd m e
    let tooBig := match rnd with
      | .draw _ => let z := f.roundMag .down m e; decide (f.top < z.1) || (z.1 == f.top && !z.2)
      | _ => decide (f.top < r.1)
    if tooBig then (f.sign s f.top, .saturate)
    else if m = 0 then (f.sign s 0, .plain)
    else if r.1 = 0 then (f.sign s 0, .ftz)
    else if r.1 < 2 ^ f.mb then (f.sign s r.1, .subnormal)
    else (f.sign s r.1, .plain)

/-! ### Division and square root, correctly rounded

The quotient and the root are formed with more bits than any format holds and a sticky bit below them, so that rounding the
result once is rounding the exact value once. -/

/-- The quotient with 128 fractional bits past the divisor's length, last bit sticky. -/
def FVal.quot : FVal → FVal → FVal
  | .nan, _ => .nan
  | _, .nan => .nan
  | .inf _, .inf _ => .nan
  | .inf a, .fin b _ _ => .inf (a != b)
  | .fin a _ _, .inf b => .fin (a != b) 0 0
  | .fin a m e, .fin b n f =>
    if n = 0 then (if m = 0 then .nan else .inf (a != b))
    else
      let k := 128 + Nat.log2 n
      let q := m * 2 ^ k / n
      let st := if m * 2 ^ k % n = 0 then 0 else 1
      .fin (a != b) (2 * q + st) (e - f - Int.ofNat k - 1)

/-- Integer square root, by bits from the top: `k` bits remain to be tried. -/
def isqrtGo : Nat → Nat → Nat → Nat
  | 0, r, _ => r
  | k + 1, r, n => if (r + 2 ^ k) * (r + 2 ^ k) ≤ n then isqrtGo k (r + 2 ^ k) n else isqrtGo k r n

def isqrt (n : Nat) : Nat := isqrtGo (Nat.log2 n / 2 + 1) 0 n

/-- The square root, with a sticky last bit; of a negative value NaN, of -0 itself (IEEE 754-2019). -/
def FVal.root : FVal → FVal
  | .nan => .nan
  | .inf s => if s then .nan else .inf false
  | .fin s m e =>
    if m = 0 then .fin s 0 0
    else if s then .nan
    else
      let odd := (e % 2).toNat
      let n := m * 2 ^ (256 + odd)
      let r := isqrt n
      let st := if r * r = n then 0 else 1
      .fin false (2 * r + st) ((e - Int.ofNat (256 + odd)) / 2 - 1)

/-! ### Integers -/

/-- A value to the nearest integer of magnitude at most `top`, saturating (R131): the integer and its class. -/
def intConv (top : Nat) (rnd : Rnd) : FVal → Int × Cls
  | .nan => (Int.ofNat top, .nonfinite)
  | .inf s => (if s then -Int.ofNat top else Int.ofNat top, .nonfinite)
  | .fin s m e =>
    let u := inUnits m e 0
    let n := if rnd.goesUp u.1 u.2.1 u.2.2 then u.1 + 1 else u.1
    let tooBig := match rnd with
      | .draw _ => decide (top < u.1) || (u.1 == top && u.2.1 != 0)
      | _ => decide (top < n)
    let v := if tooBig then top else n
    (if s then -Int.ofNat v else Int.ofNat v,
     if tooBig then .saturate else if m ≠ 0 ∧ n = 0 then .ftz else .plain)

/-! ### Element formats of tensors (R102, R145 to R149) -/

/-- The float encoding of an array format code; INT8, INT32 and MXINT8 have none. -/
def codeFmt : Nat → Option FFmt
  | 0x0 => some bf16 | 0x1 => some fp16 | 0x2 => some e4m3 | 0x3 => some e5m2 | 0x5 => some e3m2 | 0x6 => some e2m3
  | 0x7 => some e2m1 | 0x8 => some e4m3 | 0x9 => some e5m2 | 0xA => some e3m2 | 0xB => some e2m3 | 0xC => some e2m1
  | 0xE => some fp32 | _ => none

/-- Bits of an element of an array format code. -/
def codeBits : Nat → Nat
  | 0x0 => 16 | 0x1 => 16 | 0x2 => 8 | 0x3 => 8 | 0x4 => 8 | 0x5 => 6 | 0x6 => 6 | 0x7 => 4
  | 0x8 => 8 | 0x9 => 8 | 0xA => 6 | 0xB => 6 | 0xC => 4 | 0xD => 8 | _ => 32

/-- The format stores block scales. -/
def codeMx (c : Nat) : Bool := decide (8 ≤ c ∧ c ≤ 0xD)

/-- The value of an element code, block scale apart. -/
def decodeElem (c raw : Nat) : FVal :=
  match codeFmt c with
  | some f => f.decode raw
  | none =>
    if c = 0x4 then FVal.ofInt (signedOf 8 raw)
    else if c = 0xD then (FVal.ofInt (signedOf 8 raw)).scale (-6)
    else FVal.ofInt (signedOf 32 raw)

/-- Write a value as an element, saturating, with its class. -/
def encodeElem (c : Nat) (rnd : Rnd) (x : FVal) : Nat × Cls :=
  match codeFmt c with
  | some f => f.conv rnd x
  | none =>
    if c = 0x4 then let r := intConv 127 rnd x; (unsignedOf 8 r.1, r.2)
    else if c = 0xD then let r := intConv 127 rnd (x.scale 6); (unsignedOf 8 r.1, r.2)
    else let r := intConv (2 ^ 31 - 1) rnd x; (unsignedOf 32 r.1, r.2)

/-- The largest finite element value of a format code (R150, R158). -/
def codeMax (c : Nat) : FVal :=
  match codeFmt c with
  | some f => f.decode f.top
  | none => if c = 0xD then .fin false 127 (-6) else if c = 0x4 then .fin false 127 0 else .fin false (2 ^ 31 - 1) 0

/-- The value of an E8M0 scale byte (R146). -/
def e8m0 (b : Nat) : FVal := if b = 255 then .nan else .pow2 (Int.ofNat b - 127)

/-- An element times its block's scale (R147). -/
def mxElem (c raw scale : Nat) : FVal := (e8m0 scale).mul (decodeElem c raw)

/-- ⌈log₂ (a ÷ b)⌉ of positive values. -/
def ceilLog2Ratio (m : Nat) (e : Int) (n : Nat) (f : Int) : Int :=
  let d := ilog2 m e - ilog2 n f
  let le (k : Int) : Bool := (FVal.fin false m e).le ((FVal.fin false n f).scale k)
  if le (d - 1) then d - 1 else if le d then d else d + 1

/-- ⌊log₂ (a ÷ b)⌋ of positive values. -/
def floorLog2Ratio (m : Nat) (e : Int) (n : Nat) (f : Int) : Int := - ceilLog2Ratio n f m e

/-- The scale byte of a block that the device writes (R150). -/
def mxScale (c : Nat) (xs : List FVal) : Nat :=
  if xs.any (fun x => !x.isFinite) then 255
  else
    match xs.foldl (fun a x => a.max x.abs) FVal.zero, codeMax c with
    | .fin _ m e, .fin _ n f =>
      if m = 0 then 0
      else
        let s := ceilLog2Ratio m e n f
        if s < -127 then 0 else if s > 127 then 254 else (s + 127).toNat
    | _, _ => 255

/-- A block quantised: its scale byte and its element codes with their classes (R131, R150). -/
def mxBlock (c : Nat) (xs : List (FVal × Rnd)) : Nat × List (Nat × Cls) :=
  let b := mxScale c (xs.map (fun x => x.1))
  if b = 255 then
    (255, xs.map (fun x => (0, if x.1.isFinite then Cls.plain else .nonfinite)))
  else (b, xs.map (fun x => encodeElem c x.2 (x.1.scale (127 - Int.ofNat b))))

/-- Bytes of a row of `n` packed elements. -/
def packedBytes (bits n : Nat) : Nat := ceilDiv (n * bits) 8

/-- The element of `w` bits at index `i` of packed bytes (R148). -/
def unpackAt (w i : Nat) (bs : List Byte) : Nat := bitsAt (leAt bs (i * w / 8) 5) (i * w % 8) w

end Sys2Proof.Machine
end

