-- ==== Sys2Proof/Machine/Tensor.lean ====
section
/-! DEFINITION. Tensors in objects: where an element lies, how it is read and written, extents and their checks
(05_matrix_array.md R112 to R114; 07_formats_and_scaling.md R148, R149, R163; 09_arcade_engines.md R187). -/

namespace Sys2Proof.Machine

/-- Bits of an element of an Arcade format code: those of the array, 0x10 FP64 and 0x11 INT16. -/
def elemBits (c : Nat) : Nat := if c = 0x10 then 64 else if c = 0x11 then 16 else codeBits c

/-- The value of an element of an Arcade format code. -/
def elemVal (c raw : Nat) : FVal :=
  if c = 0x10 then fp64.decode raw else if c = 0x11 then FVal.ofInt (signedOf 16 raw) else decodeElem c raw

/-- Write a value in an Arcade format code. -/
def elemEnc (c : Nat) (rnd : Rnd) (x : FVal) : Nat × Cls :=
  if c = 0x10 then fp64.conv rnd x
  else if c = 0x11 then let r := intConv 32767 rnd x; (unsignedOf 16 r.1, r.2)
  else encodeElem c rnd x

/-- A matrix of elements in an object: format, first byte, rows, columns, row pitch in bits, and the orientation of MX
blocks (down columns, or along rows). -/
structure Tens where
  code : Nat
  off : Nat
  rows : Nat
  cols : Nat
  pitch : Nat
  down : Bool := false
  deriving DecidableEq, Repr

/-- Bytes of the element plane: to the end of its last row's pitch where a scale plane follows. -/
def Tens.plane (t : Tens) : Nat := roundUp (ceilDiv (t.rows * t.pitch) 8) 64

/-- Row pitch of the scale plane in bytes (R149). -/
def Tens.scalePitch (t : Tens) : Nat := roundUp (if t.down then t.cols else ceilDiv t.cols 32) 64

/-- Bytes from the tensor's first to its last. -/
def Tens.len (t : Tens) : Nat :=
  if codeMx t.code then
    t.plane + (if t.down then (ceilDiv t.rows 32 - 1) * t.scalePitch + t.cols
      else (t.rows - 1) * t.scalePitch + ceilDiv t.cols 32)
  else ceilDiv ((t.rows - 1) * t.pitch + t.cols * elemBits t.code) 8

/-- Byte of the scale of element (r, c). -/
def Tens.scaleAt (t : Tens) (r c : Nat) : Nat :=
  t.off + t.plane + (if t.down then (r / 32) * t.scalePitch + c else r * t.scalePitch + c / 32)

/-- First bit of element (r, c). -/
def Tens.bitAt (t : Tens) (r c : Nat) : Nat := t.off * 8 + r * t.pitch + c * elemBits t.code

/-- Rows padded to whole lines (R138, R187). -/
def densePitch (code cols : Nat) : Nat := roundUp (ceilDiv (cols * elemBits code) 8) 64 * 8

/-- A byte count of one format's tensor after its object was widened to another (log entry 24: offsets, pitches and sizes
scale by the ratio of the element sizes, to whole lines). -/
def widenBytes (old new n : Nat) : Nat := if old = new then n else roundUp (ceilDiv (n * elemBits new) (elemBits old)) 64

/-- A tensor as an object holds it: in the format a repeat has given the object, where it has (R163). -/
def Tens.in (t : Tens) (o : Obj) : Tens :=
  if o.fmt = 0x1F ∨ o.fmt = t.code then t
  else { t with code := o.fmt, off := widenBytes t.code o.fmt t.off, pitch := widenBytes t.code o.fmt (t.pitch / 8) * 8 }

/-- Raw bits of element (r, c), read through the object's T0 copy. -/
def Dev.rawAt (d : Dev) (o : Obj) (t : Tens) (r c : Nat) : Nat :=
  let b := t.bitAt r c
  let w := elemBits t.code
  bitsAt (ofLeBytes (d.read0 o (b / 8) ((b % 8 + w + 7) / 8))) (b % 8) w

/-- The value of element (r, c), block scale included. -/
def Dev.elem (d : Dev) (o : Obj) (t : Tens) (r c : Nat) : FVal :=
  let v := elemVal t.code (d.rawAt o t r c)
  if codeMx t.code then (e8m0 (ofLeBytes (d.read0 o (t.scaleAt r c) 1))).mul v else v

/-- Write raw bits of element (r, c), neighbours within its bytes unchanged. -/
def putRaw (m : Memory) (o : Obj) (t : Tens) (r c raw : Nat) : Memory :=
  let b := t.bitAt r c
  let w := elemBits t.code
  let n := (b % 8 + w + 7) / 8
  let old := ofLeBytes ((List.range n).map (fun i => m.read (o.addr0 (b / 8 + i))))
  writeObj0 m o (b / 8) (leBytes n (putBitsAt old (b % 8) w raw))

/-- Write one byte of an object. -/
def putByte (m : Memory) (o : Obj) (off v : Nat) : Memory := m.write (o.addr0 off) (BitVec.ofNat 8 v)

/-- A row of raw codes from column `c` on. -/
def putRow (m : Memory) (o : Obj) (t : Tens) (r : Nat) : Nat → List Nat → Memory
  | _, [] => m
  | c, x :: xs => putRow (putRaw m o t r c x) o t r (c + 1) xs

/-- A column of raw codes from row `r` on. -/
def putCol (m : Memory) (o : Obj) (t : Tens) (c : Nat) : Nat → List Nat → Memory
  | _, [] => m
  | r, x :: xs => putCol (putRaw m o t r c x) o t c (r + 1) xs

/-- FP32, FP64 and 32-bit words at a byte of an object. -/
def Dev.f32At (d : Dev) (o : Obj) (off : Nat) : FVal := fp32.decode (ofLeBytes (d.read0 o off 4))
def Dev.f64At (d : Dev) (o : Obj) (off : Nat) : FVal := fp64.decode (ofLeBytes (d.read0 o off 8))
def Dev.u32At (d : Dev) (o : Obj) (off : Nat) : Nat := ofLeBytes (d.read0 o off 4)
def putWord (m : Memory) (o : Obj) (off n v : Nat) : Memory := writeObj0 m o off (leBytes n v)

/-- A list cut into runs of `n`. -/
def chunksOf {α : Type} (n : Nat) (l : List α) : List (List α) :=
  (List.range (ceilDiv l.length n)).map (fun i => (l.drop (i * n)).take n)

/-! ### Operands of a command -/

/-- An operand as the checks see it: handle, byte range, whether it is written and added into, and the format that a repeat
would widen (0x1F none); `stat` marks a statistics slot, which is no destination for R80 and R161. -/
structure Opnd where
  handle : Nat
  off : Nat := 0
  len : Nat := 0
  write : Bool := false
  acc : Bool := false
  fmt : Nat := 0x1F
  stat : Bool := false
  deriving DecidableEq, Repr

/-- The operand that a tensor of an object is. -/
def Tens.opnd (t : Tens) (h : Nat) (write : Bool := false) (acc : Bool := false) (fmt : Nat := 0x1F) : Opnd :=
  { handle := h, off := t.off, len := t.len, write := write, acc := acc, fmt := fmt }

/-- A range of bytes of an object. -/
def bytesOpnd (h off len : Nat) (write : Bool := false) (acc : Bool := false) : Opnd :=
  { handle := h, off := off, len := len, write := write, acc := acc }

/-- Two operands share a byte. -/
def Opnd.overlaps (a b : Opnd) : Bool :=
  a.handle == b.handle && decide (0 < a.len) && decide (0 < b.len) && decide (a.off < b.off + b.len) && decide (b.off < a.off + a.len)

/-- The same bytes. -/
def Opnd.same (a b : Opnd) : Bool := a.handle == b.handle && a.off == b.off && a.len == b.len

/-- An operand reaches past its object (an absent object is a matter for the part's start). -/
def Dev.beyond (d : Dev) (part : Nat) (x : Opnd) : Bool :=
  match d.resolve part x.handle with
  | some (_, o) => decide (o.bytes < x.off + x.len)
  | none => false

/-- Any pair of a list overlaps, or two lists do. -/
def anyOverlap : List Opnd → Bool
  | [] => false
  | x :: xs => xs.any x.overlaps || anyOverlap xs

/-- A handle that names no live object of the partition or of the shared pool. -/
def Dev.absent (d : Dev) (part h : Nat) : Bool := (d.resolve part h).isNone

/-- Key and record of an operand's object, the empty record where there is none. -/
def Dev.objOf (d : Dev) (part h : Nat) : Nat × Obj :=
  (d.resolve part h).getD (0, { gen := 0, sizeL := 0, kind := 0, attr := 0, owner := 0 })

/-- A running part: queue, ring count, part number, command, partition and job. -/
structure PartId where
  q : Nat
  i : Nat
  p : Nat
  deriving DecidableEq, Repr

/-- A part's own view of an object: a unit whose copy a flip replaced is read through the copy the part holds (R220). -/
def Dev.partObj (d : Dev) (x : PartId) (h : Nat) : Nat × Obj :=
  let e := d.objOf (d.viewAt x.q x.i) h
  let mine := d.tir.refs.filter (fun r => r.old && r.q == x.q && r.count == x.i && r.part == x.p && r.obj == e.1)
  (e.1, mine.foldl (fun o r =>
    match o.old.find? (fun c => c.unit == r.unit) with
    | some c => o.setUnit r.unit { o.unit r.unit with t0 := tsLEAVING, base0 := c.base0, rgn0 := c.rgn0 }
    | none => o) e.2)

/-- The Acrek units are adding into an object for a collective in execution (11_acrek_update.md R257). -/
def Dev.adding (d : Dev) (k : Nat) : Bool :=
  d.col.colls.any (fun c =>
    let b := d.cmdBody c.q c.i
    c.acr && c.begun && (cmdOpcode b == opALLREDUCE || cmdOpcode b == opREDUCE_SCATTER)
      && ((d.resolve (d.viewAt c.q c.i) (colDst b)).map (fun x => x.1)) == some k)

/-- A reading reference that is served from T1 and makes no T0 copy. -/
def Dev.servedByT1 (d : Dev) (k u : Nat) (write : Bool) : Bool :=
  !write && (d.unitOf k u).t0 == tsABSENT && (d.unitOf k u).t1 == tsRESIDENT && d.adding k

/-- Every unit of an operand has a T0 copy on which the part holds a reference (R226), or is served from T1 (R257). -/
def Dev.ready (d : Dev) (x : PartId) (a : Opnd) : Bool :=
  match d.resolve (d.viewAt x.q x.i) a.handle with
  | none => false
  | some (k, _) =>
    let o := (d.partObj x a.handle).2
    (o.unitsOf a.off a.len).all (fun u => (((o.unit u).valid0 || (o.unit u).t0 == tsLEAVING) &&
      d.tir.refs.any (fun r => r.q == x.q && r.count == x.i && r.part == x.p && r.obj == k && r.unit == u))
      || d.servedByT1 k u a.write)

/-- Every operand is ready. -/
def Dev.allReady (d : Dev) (x : PartId) (l : List Opnd) : Bool := l.all (d.ready x)

/-- A request that R96 refuses: MKT_ERR_ADDR names its line with KIND 3, and ISOLATION is set. -/
def Dev.refused (d : Dev) (line status : Nat) : Dev := (d.mktError line 3).raise mktPage 6 status

/-- The line that a part's refused request names: which of the operand's lines it asks for first is open (log entry 22). -/
def Dev.refusedLine (d : Dev) (x : PartId) : Nat :=
  ofLeBytes ((List.range 3).map (fun j => Config.freeByte 42 (((d.now * 1024 + x.q) * 4096 + x.p) * 4 + j)))

/-- A refused access of a part (04_market.md R96): the part's failure, MKT_ERR_ADDR and ISOLATION. -/
def Dev.isolate (d : Dev) (x : PartId) (status : Nat) : Dev :=
  (d.failPart x.q x.i x.p status).refused (d.refusedLine x) status

/-- A partition may not write this object's copies: another partition's, a SHARED_RO one, or a read-only copy of a committed
object (R96). -/
def Obj.writeRefused (o : Obj) (part : Nat) : Bool :=
  o.attr == 1 || o.kind == kCOMMITTED || o.alias_ == 1 || (decide (o.owner < 8) && o.owner != viewPart part)

/-- The status with which a part fails before it touches its operands: a handle that names no live object, or a write that
isolation refuses. -/
def Dev.operandFault (d : Dev) (part : Nat) (l : List Opnd) : Option Nat :=
  if l.any (fun a => d.absent part a.handle) then some St.objectAbsent
  else if l.any (fun a => a.write && (d.objOf part a.handle).2.writeRefused part) then some St.protectedAccess
  else none

end Sys2Proof.Machine
end

