-- ==== Sys2Proof/Machine/TierOps.lean ====
section
/-! DEFINITION. Residency moves: a unit brought to a tier, room made for it, references served and waiting, arrivals, copies released,
errors in HBM, the work records of ASSIST mode (10_tiers_and_street_index.md R212 to R234). -/

namespace Sys2Proof.Machine

def sixPage : Page := pfPage .six 0 0
def hbmPage (k : Nat) : Page := pfPage .hbm k 0

/-! ### Eviction from T1 (R222, R227) -/

/-- A layer that has not drained reads this step-scoped object (03_klotchaex_command_stream.md R78). -/
def Dev.layerHolds (d : Dev) (k : Nat) : Bool := d.kqp.queues.any (fun x => x.2.runs.any (fun r => r.held.contains k))

/-- A unit's T1 copy may be chosen for eviction. -/
def Dev.evictable1 (d : Dev) (k : Nat) (o : Obj) (u : Nat) : Bool :=
  let x := o.unit u
  x.t1 == tsRESIDENT && o.ref1 == 0 && x.src == 0 && o.kind != kCOMMITTED && o.t2Addr != 0 && o.alias_ == 0
    && d.tir.waits.all (fun w => !(w.obj == k && w.unit == u)) && !(o.kind == kSTEP && d.layerHolds k)

/-- Class of the table Eviction order, T1. -/
def Obj.class1 (o : Obj) (x : TUnit) : Nat :=
  if !x.dirty1 ∧ x.t2 = tsRESIDENT then 1
  else if o.kind = kSTEP then (if o.keep = 2 then 2 else if o.keep = 1 then 4 else 3)
  else 5

/-- T1 victims of a pool in order. -/
def Dev.victims1 (d : Dev) (owner : Nat) : List (Nat × Nat) :=
  let all := d.tir.objs.flatMap fun e =>
    if e.2.owner = owner then
      ((List.range e.2.unitCount).filter (d.evictable1 e.1 e.2)).map (fun u => (e.1, u, e.2.class1 (e.2.unit u) * 2 ^ 64 + (e.2.unit u).lastEnd))
    else []
  (sortBy (fun v => v.2.2) all).map (fun v => (v.1, v.2.1))

/-- A unit that moves takes a Street Index entry, charged to the object's owner (R229, R235); an entry it already has is kept. -/
def Dev.moveEntry (d : Dev) (k u parent : Nat) : Option Dev :=
  match d.obj? k with
  | none => none
  | some o =>
    if (o.unit u).move ≠ 0 then some d
    else
      match d.sixAlloc 2 o.owner o.job parent (objHandle k o) 0xFF with
      | some (h, d) => some (d.setUnit k u { d.unitOf k u with move := h })
      | none => none

/-- The unit's move has ended: its entry is freed. -/
def Dev.moveDone (d : Dev) (k u status : Nat) : Dev :=
  let x := d.unitOf k u
  if x.move = 0 then d else (d.sixRelease x.move status).setUnit k u { x with move := 0 }

/-- A write-back of a unit from tier `t` to the tier below starts, unless it runs already. -/
def Dev.writeBack (d : Dev) (k u t parent : Nat) : Dev :=
  if d.tir.writeBacks.contains (k, u, t) then d
  else
    match d.moveEntry k u parent with
    | some d => d.setTir { d.tir with writeBacks := d.tir.writeBacks ++ [(k, u, t)] }
    | none => d

/-- A unit's T1 copy is chosen: LEAVING; a dirty one, or one whose T2 copy is not valid, is written to T2 first. -/
def Dev.leave1 (d : Dev) (k u parent : Nat) : Dev :=
  let x := d.unitOf k u
  let d := d.setUnit k u { x with t1 := tsLEAVING }
  if x.dirty1 ∨ x.t2 ≠ tsRESIDENT then d.writeBack k u 1 parent else d

/-- Extents on their way out of a pool. -/
def Dev.leaving1 (d : Dev) (owner : Nat) : Nat :=
  sumBy (fun e => if e.2.owner = owner ∧ e.2.units.any (fun y => y.2.t1 == tsLEAVING) then e.2.extA.length else 0) d.tir.objs

/-- Room for `n` extents of a pool: its own T1 copies leave in order (R222). -/
def Dev.makeRoom1 (d : Dev) (owner n : Nat) : Dev :=
  ((d.victims1 owner).foldl (fun (acc : Nat × Dev) v =>
    if acc.1 ≥ n then acc
    else (acc.1 + (((acc.2.obj? v.1).map (fun o => ceilDiv (o.unitLen v.2) extentBytes)).getD 0), acc.2.leave1 v.1 v.2 0)) (d.leaving1 owner, d)).2

/-- The T1 copies of a pool that are clean, and whose T2 copies are current, go at once to make room for a CREATE (R222). -/
def Dev.freeClean1 (d : Dev) (owner n : Nat) : Dev :=
  (d.victims1 owner).foldl (fun d v =>
    let x := d.unitOf v.1 v.2
    if d.quota1 owner n ∨ x.dirty1 ∨ x.t2 ≠ tsRESIDENT ∨ x.ref0 ≠ 0 then d
    else (d.setUnit v.1 v.2 { x with t1 := tsABSENT }).trimT1 v.1) d

/-- A run of granules and a table entry stand ready for one more unit of an object. -/
def Dev.space0 (d : Dev) (o : Obj) : Bool :=
  d.quota0 o.owner o.unitGranules && (d.findRun o.unitGranules).isSome && (freeSlot d.mkt.regions 4096).isSome

/-- Room is made where an object's next copy finds none. -/
def Dev.room (d : Dev) (k : Nat) (in0 in1 : Bool) : Dev :=
  match d.obj? k with
  | none => d
  | some o =>
    let d := if in1 ∧ o.extA = [] ∧ (d.ensureT1 k).isNone then d.makeRoom1 o.owner o.extents else d
    if in0 ∧ !d.space0 o then d.makeRoom0 o.owner o.unitGranules else d

/-! ### Work records (R226) -/

/-- The oldest work record in TIR_ASSIST_OP to TIR_ASSIST_CNT. -/
def Dev.showTir (d : Dev) : Dev :=
  let r := d.tir.recs.head?.getD ⟨0, 0, 0⟩
  let o := d.obj? r.obj
  let f (g : Obj → Nat) : Nat := if r.handle = 0 then 0 else (o.map g).getD 0
  let d := d.wr F.tirAssistOp_op r.handle
  let d := d.wr F.tirAssistObj_obj (f (objHandle r.obj))
  let d := d.wr F.tirAssistOff_off (f (fun o => o.unitStart r.unit / 64))
  let d := d.wr F.tirAssistLen_len (f (fun o => ceilDiv (o.unitLen r.unit) 64))
  let d := d.wr F.tirAssistCnt d.tir.recs.length
  d.setFlag (hAssistWait tirPage) (!d.tir.recs.isEmpty)

/-- Open a work record for a unit, if one of the 256 is free and the unit has none. -/
def Dev.openTirRec (d : Dev) (k u : Nat) : Dev :=
  if d.tir.recs.any (fun r => r.obj == k && r.unit == u) ∨ 256 ≤ d.tir.recs.length then d
  else
    match d.obj? k with
    | none => d
    | some o =>
      match d.sixAlloc 7 o.owner o.job 0 (objHandle k o) 0xFF with
      | some (h, d) =>
        let d := d.setTir { d.tir with recs := d.tir.recs ++ [⟨h, k, u⟩] }
        (d.setUnit k u { d.unitOf k u with assist := h }).showTir.assistOpen tirPage
      | none => d

/-! ### Bringing a unit to a tier -/

/-- How a request for a unit stands: its copy is there, it is on its way or waits for room, or the request fails. -/
inductive Fetch
  | here
  | coming
  | fail (status : Nat)
  deriving DecidableEq, Repr

/-- Start a unit's upward move to `tier` (0 or 1) from T1 (`src` 2) or T2 (`src` 3); without an entry or space it does not start. A move
from T2 to T0 makes the T1 copy too (log entry 9). -/
def Dev.startMove (d : Dev) (k u tier src parent : Nat) : Dev :=
  let room := d.room k (tier == 0) (src == 3)
  match (if src = 3 then d.ensureT1 k else some d) with
  | none => room
  | some d1 =>
    match (if tier = 0 then d1.alloc0 k u tsARRIVING else some d1) with
    | none => room
    | some d2 =>
      match d2.moveEntry k u parent with
      | none => d
      | some d3 => d3.setUnit k u { d3.unitOf k u with src := src, t1 := if src = 3 then tsARRIVING else (d3.unitOf k u).t1, tries := 0 }

/-- A copy of a unit that no tier holds is made in T0: nothing is moved, it reads as zero (R218, R226). -/
def Dev.freshUnit (d : Dev) (k u : Nat) (dirty : Bool) : Fetch × Dev :=
  match d.alloc0 k u tsRESIDENT with
  | some d => (.here, d.setUnit k u { d.unitOf k u with dirty0 := dirty })
  | none => (.coming, d.room k true false)

/-- A unit that moves whole and is larger than its T0 pool's limit cannot be fetched (R223). -/
def Dev.tooLarge (d : Dev) (o : Obj) : Bool := !o.tiled && decide (d.rd (F.mktQuota_limit o.owner) < o.unitGranules)

/-- A unit is wanted in T0 (R226, R228): LEAVING clean copies are kept, valid lower copies are fetched, in ASSIST mode nothing comes
from T2 without the host. -/
def Dev.bring0 (d : Dev) (k u : Nat) (write : Bool) (parent : Nat) : Fetch × Dev :=
  match d.obj? k with
  | none => (.fail St.objectAbsent, d)
  | some o =>
    let x := o.unit u
    if x.t0 = tsPOISONED ∨ x.t1 = tsPOISONED then (.fail St.tierPoison, d)
    else if x.valid0 then (.here, d)
    else if x.t0 = tsLEAVING then (if x.dirty0 then (.coming, d) else (.here, d.setUnit k u { x with t0 := tsRESIDENT }))
    else if x.t0 = tsARRIVING then (.coming, d)
    else if d.adding k then (.coming, d)
    else if !d.stepAllowed o then (.fail St.badField, d)
    else if d.tooLarge o then (.fail St.quotaExceeded, d.raise mktPage 5 St.quotaExceeded)
    else if x.t1 = tsRESIDENT then (.coming, d.startMove k u 0 2 parent)
    else if x.t1 = tsLEAVING then
      (if x.dirty1 then (.coming, d) else (.coming, (d.setUnit k u { x with t1 := tsRESIDENT }).startMove k u 0 2 parent))
    else if x.t1 = tsARRIVING then (.coming, d)
    else if d.assist tirPage ∧ (o.valid2 u ∨ !write) then (.coming, d.openTirRec k u)
    else if o.valid2 u then (.coming, d.startMove k u 0 3 parent)
    else d.freshUnit k u write

/-- A unit is wanted in T1. -/
def Dev.bring1 (d : Dev) (k u parent : Nat) : Fetch × Dev :=
  match d.obj? k with
  | none => (.fail St.objectAbsent, d)
  | some o =>
    let x := o.unit u
    if x.t0 = tsPOISONED ∨ x.t1 = tsPOISONED then (.fail St.tierPoison, d)
    else if x.t1 = tsRESIDENT ∧ !x.dirty0 then (.here, d)
    else if x.t1 = tsLEAVING ∧ !x.dirty1 ∧ !x.dirty0 then (.here, d.setUnit k u { x with t1 := tsRESIDENT })
    else if x.t0 = tsARRIVING ∨ x.t1 = tsARRIVING ∨ x.t1 = tsLEAVING then (.coming, d)
    else if !d.stepAllowed o then (.fail St.badField, d)
    else if x.t0 ≠ tsABSENT then
      match d.ensureT1 k with
      | some d => (.coming, d.writeBack k u 0 parent)
      | none => (.coming, d.room k false true)
    else if o.valid2 u then
      (if d.assist tirPage then (.coming, d.openTirRec k u) else (.coming, d.startMove k u 1 3 parent))
    else
      match d.ensureT1 k with
      | some d => (.here, d.setUnit k u { d.unitOf k u with t1 := tsRESIDENT, dirty1 := true })
      | none => (.coming, d.room k false true)

/-- A unit is wanted in T2: newer copies are written down. -/
def Dev.bring2 (d : Dev) (k u parent : Nat) : Fetch × Dev :=
  match d.obj? k with
  | none => (.fail St.objectAbsent, d)
  | some o =>
    let x := o.unit u
    if x.t0 = tsPOISONED ∨ x.t1 = tsPOISONED then (.fail St.tierPoison, d)
    else if x.t2 = tsRESIDENT ∧ !x.dirty1 ∧ !x.dirty0 then (.here, d)
    else if !d.stepAllowed o then (.fail St.badField, d)
    else if (x.t1 = tsRESIDENT ∨ x.t1 = tsLEAVING) ∧ !x.dirty0 then (.coming, d.writeBack k u 1 parent)
    else let r := d.bring1 k u parent; (match r.1 with | .fail s => .fail s | _ => .coming, r.2)

/-! ### References -/

/-- Every part that waits for a unit takes its reference (R225). -/
def Dev.grantWaits (d : Dev) (k u : Nat) : Dev :=
  (d.tir.waits.filter (fun w => w.obj == k && w.unit == u)).foldl (fun d w => d.takeRef w.q w.count w.part k u) d

/-- Waiting references are served again, oldest first, after space or a copy has come free (R226, R228). -/
def Dev.serveWaits (d : Dev) : Dev :=
  d.tir.waits.foldl (fun d w =>
    if (d.unitOf w.obj w.unit).assist ≠ 0 then d
    else
      match d.bring0 w.obj w.unit false 0 with
      | (.here, d) => d.takeRef w.q w.count w.part w.obj w.unit
      | (.coming, d) => d
      | (.fail s, d) => d.failWaits w.obj w.unit s) d

/-- The next tiles of a tiled object are fetched ahead of a reading part (R223). -/
def Dev.lookAhead (d : Dev) (k u : Nat) : Dev :=
  match d.obj? k with
  | none => d
  | some o =>
    if !o.tiled then d
    else (range' (u + 1) (d.rd F.tirCfg_lookahead)).foldl (fun d v =>
      let x := d.unitOf k v
      if v < o.unitCount ∧ x.t0 = tsABSENT ∧ (x.t1 = tsRESIDENT ∨ (x.t1 = tsABSENT ∧ o.valid2 v ∧ !d.assist tirPage)) then
        (d.bring0 k v false 0).2
      else d) d

/-- A layer's command reads a step-scoped object: it is held until the layer drains (R78). -/
def Dev.holdForLayer (d : Dev) (q run k : Nat) : Dev :=
  if run = 0 ∨ ((d.obj? k).map (fun o => o.kind)) ≠ some kSTEP then d
  else
    let x := d.queue q
    d.setQueue q { x with runs := x.runs.map (fun (r : LayerRun) => if r.id = run ∧ !r.held.contains k then { r with held := r.held ++ [k] } else r) }

/-! ### HBM errors (R212, R233) -/

/-- The errors of a stack: counters, address, events. `scrub` where the patrol scrubber found it. -/
def Dev.hbmError (d : Dev) (sector : Nat) (bad scrub : Bool) : Dev :=
  let k := sector / 2 ^ 31
  let d := d.wr (F.hbmErrAddr_sector k) (sector % 2 ^ 31)
  let d := d.wr (F.hbmErrAddr_kind k) (boolNat bad)
  if bad then
    let d := d.setTir { d.tir with badSectors := if d.tir.badSectors.contains sector then d.tir.badSectors else d.tir.badSectors ++ [sector] }
    (d.incSat (F.hbmUeCnt_ue k) 1).raiseBits (hbmPage k) (if scrub then [1, 2] else [1]) St.eccUncorrectable
  else (d.incSat (F.hbmCeCnt_ce k) 1).raise (hbmPage k) 0 St.ok

/-- An uncorrectable error in a unit's T1 copy (R233): a clean copy whose T2 copy is valid is dropped, to be fetched again; otherwise the
unit is poisoned. Answers whether the reader is spared. -/
def Dev.loseT1 (d : Dev) (k u : Nat) : Bool × Dev :=
  match d.obj? k with
  | none => (true, d)
  | some o =>
    let x := o.unit u
    if o.kind ≠ kCOMMITTED ∧ o.valid2 u ∧ !x.dirty1 ∧ !x.dirty0 ∧ x.t2 = tsRESIDENT then
      let d := if x.t0 = tsARRIVING then d.release0 k u else d
      (true, ((d.moveDone k u St.ok).setUnit k u { d.unitOf k u with t1 := tsABSENT, src := 0, move := 0 }).trimT1 k)
    else (false, d.poisonUnit k u 1)

/-- The object, unit and whether the sector lies in the copy in use (the current buffer of a COMMITTED object). -/
def Dev.sectorUnit (d : Dev) (sector : Nat) : Option (Nat × Nat × Bool) :=
  match mapLook d.tir.extUsed (sector / 32768) with
  | none => none
  | some k =>
    match d.obj? k with
    | none => none
    | some o =>
      let off (ext : List Nat) : Option Nat := (ext.findIdx? (· == sector / 32768)).map (fun i => i * extentBytes + sector % 32768 * 64)
      match off o.curExt, off o.idleExt with
      | some a, _ => if a < o.bytes then some (k, o.unitAt a, true) else none
      | none, some a => if o.kind = kCOMMITTED ∧ a < o.bytes then some (k, o.unitAt a, false) else none
      | none, none => none

/-! ### Arrivals and releases -/

/-- A region's FILL is cleared (04_market.md R96). -/
def Dev.fillDone (d : Dev) (rgn : Nat) : Dev := d.setMkt { d.mkt with regions := mapUpd d.mkt.regions rgn (fun r => { r with fill := false }) }

/-- A unit's T0 copy is complete: PINNED in a PINNED region, else RESIDENT. -/
def Dev.settle0 (d : Dev) (k u : Nat) : Dev :=
  let x := d.unitOf k u
  let pin := ((mapLook d.mkt.regions x.rgn0).map (fun r => r.attr)) == some 2
  (d.setUnit k u { x with t0 := if pin then tsPINNED else tsRESIDENT, dirty0 := false }).fillDone x.rgn0

/-- A unit's upward move has been written whole (R225). `data` is what came from T2. -/
def Dev.arrive (d : Dev) (k u : Nat) (data : List Byte) : Dev :=
  match d.obj? k with
  | none => d
  | some o =>
    let x := o.unit u
    let st := o.unitStart u
    let n := o.unitLen u
    let d := if x.src = 3 then
        (d.pour1 o.extA st n (cellsOf (data.take n))).setUnit k u { x with t1 := tsRESIDENT, dirty1 := false }
      else d
    let d := if x.t0 = tsARRIVING then (d.pour0 x.base0 n (d.slice1 o.curExt st n)).settle0 k u else d
    let d := d.moveDone k u St.ok
    let d := d.setUnit k u { d.unitOf k u with src := 0, tries := 0, retryAt := 0 }
    if (d.unitOf k u).valid0 then d.grantWaits k u else d.serveWaits

/-- Write a unit's newest data one tier down (R228): T0 to T1, or T1 to the home copy in host memory. -/
def Dev.writeDown (d : Dev) (k u t : Nat) : Dev :=
  match d.obj? k with
  | none => d
  | some o =>
    let x := o.unit u
    let st := o.unitStart u
    let n := o.unitLen u
    if t = 0 then
      let d := d.pour1 o.extA st n (memSlice d.t0 x.base0 n)
      d.setUnit k u { x with t1 := tsRESIDENT, dirty0 := false, dirty1 := true }
    else
      let d := d.hostWrite (o.t2Addr + st) (d.read1 o.extA st n)
      d.setUnit k u { x with t2 := tsRESIDENT, dirty1 := false }

/-- Release what has left (R220, R228): clean LEAVING copies, and copies set aside whose references have ended. -/
def Dev.releaseLeft (d : Dev) (k u : Nat) : Dev :=
  let x := d.unitOf k u
  let busy (t : Nat) : Bool := d.tir.writeBacks.contains (k, u, t)
  let d := if x.t0 = tsLEAVING ∧ !x.dirty0 ∧ x.ref0 = 0 ∧ !busy 0 then d.release0 k u else d
  let x := d.unitOf k u
  let d := if x.t1 = tsLEAVING ∧ !busy 1 then (d.setUnit k u { x with t1 := tsABSENT }).trimT1 k else d
  match d.obj? k with
  | none => d
  | some o =>
    let gone := o.old.filter (fun c => c.unit == u && c.refs == 0)
    let d := gone.foldl (fun d c => d.freeRegion c.rgn0) d
    if gone = [] then d
    else d.setObj k { ((d.obj? k).getD o) with old := o.old.filter (fun c => !(c.unit == u && c.refs == 0)) }

end Sys2Proof.Machine
end

