-- ==== Sys2Proof/Machine/LoadOps.lean ====
section
/-! DEFINITION. Weight sets and packages: slots, the checks of a package's tables, the copies and the staging region of a load, chunks
decrypted, forwarding down the chain, the end of a load (16_weights_and_partitions.md R358 to R371). -/

namespace Sys2Proof.Machine

def wsetPage : Page := pfPage .tir 0 3

/-- State and binding count of a slot. -/
def Dev.slotState (d : Dev) (s sl : Nat) : Nat := d.rd (if sl = 0 then F.wsetState_slot0.bank s else F.wsetState_slot1.bank s)
def Dev.setSlotState (d : Dev) (s sl st : Nat) : Dev := d.wr (if sl = 0 then F.wsetState_slot0.bank s else F.wsetState_slot1.bank s) st
def Dev.slotRefs (d : Dev) (s sl : Nat) : Nat := d.rd (if sl = 0 then F.wsetRefs_ref0.bank s else F.wsetRefs_ref1.bank s)
def Dev.setSlotRefs (d : Dev) (s sl n : Nat) : Dev := d.wr (if sl = 0 then F.wsetRefs_ref0.bank s else F.wsetRefs_ref1.bank s) n

/-- Directory key of member `m` of a set's copy in a slot. -/
def Dev.slotKey (d : Dev) (s sl m : Nat) : Nat := (9 + sl) * 2 ^ 20 + 0xF0000 + d.rd (F.wsetDef_base.bank s) + m

/-- Members of a set. -/
def Dev.wsetCount (d : Dev) (s : Nat) : Nat := d.rd (F.wsetDef_countM1.bank s) + 1

/-- Delete one member's copy: T0 and T1 space is released and the shared pool's charge falls. -/
def Dev.dropCopy (d : Dev) (k : Nat) : Dev :=
  match d.obj? k with
  | none => d
  | some o =>
    let d := (List.range o.unitCount).foldl (fun d u => d.release0 k u) d
    let d := d.freeExtents 8 o.extA
    d.setTir { d.tir with objs := mapDel d.tir.objs k }

/-- A slot becomes EMPTY: its copies are deleted. -/
def Dev.emptySlot (d : Dev) (s sl : Nat) : Dev :=
  ((List.range (d.wsetCount s)).foldl (fun d m => d.dropCopy (d.slotKey s sl m)) d).setSlotState s sl 0

/-! ### Loads -/


def chainPage : Page := pfPage .tbn 0 1

def Dev.load? (d : Dev) (q i : Nat) : Option Load := d.wset.loads.find? (fun l => l.q == q && l.i == i)

def Dev.updLoad (d : Dev) (q i : Nat) (f : Load → Load) : Dev :=
  d.setWset { d.wset with loads := d.wset.loads.map (fun l => if l.q = q ∧ l.i = i then f l else l) }

/-- Bytes of a header field of the package tables (table Package header). -/
def wpkHdr (t : List Byte) (off n : Nat) : Nat := leAt t off n
def wpkObjCount (t : List Byte) : Nat := wpkHdr t 16 4
def wpkKeyCount (t : List Byte) : Nat := wpkHdr t 20 4
def wpkPlainLen (t : List Byte) : Nat := wpkHdr t 24 8
def wpkChunks (t : List Byte) : Nat := wpkHdr t 32 4
def wpkObjOff (t : List Byte) : Nat := wpkHdr t 36 4
def wpkKeyOff (t : List Byte) : Nat := wpkHdr t 40 4
def wpkPayOff (t : List Byte) : Nat := wpkHdr t 44 8
def wpkHash (t : List Byte) : List Byte := (t.drop 64).take 64

/-- A chunk of the plaintext stream, and the distance of two chunks in the payload (R361). -/
def chunkBytes : Nat := 2 ^ 20
def chunkStride : Nat := 2 ^ 20 + 64
def chunkLen (t : List Byte) (n : Nat) : Nat := min chunkBytes (wpkPlainLen t - n * chunkBytes)

/-- An entry of the object table (table Object table entry). -/
structure WpkObj where
  member : Nat
  stack : Nat
  prot : Bool
  off : Nat
  size : Nat
  deriving DecidableEq, Repr

def wpkObj (t : List Byte) (k : Nat) : WpkObj :=
  let b := wpkObjOff t + 64 * k
  { member := leAt t b 2, stack := leAt t (b + 2) 1 % 8, prot := bitOf (leAt t (b + 2) 1) 3, off := leAt t (b + 8) 8, size := leAt t (b + 16) 8 }

def wpkObjs (t : List Byte) : List WpkObj := (List.range (wpkObjCount t)).map (wpkObj t)

/-- Objects ascend in the plaintext stream and do not overlap. -/
def wpkOrdered : List WpkObj → Bool
  | [] => true
  | [_] => true
  | a :: b :: r => decide (a.off + a.size ≤ b.off) && wpkOrdered (b :: r)

/-- The tables are wrong (R367 step 3), for a package of `len` bytes and a set of `count` members. -/
def wpkTablesBad (t : List Byte) (pkg len count : Nat) : Bool :=
  let os := wpkObjs t
  wpkHdr t 0 4 != 0x314B5057 || wpkHdr t 4 2 != 1 || decide (1 < wpkHdr t 52 1) || wpkHdr t 8 8 != pkg
    || wpkObjCount t != count || decide (wpkKeyCount t < 1) || decide (1024 < wpkKeyCount t)
    || wpkChunks t != ceilDiv (wpkPlainLen t) chunkBytes
    || wpkObjOff t % 4096 != 0 || wpkKeyOff t % 4096 != 0 || wpkPayOff t % 4096 != 0
    || decide (wpkObjOff t < 256) || decide (wpkKeyOff t < wpkObjOff t + 64 * wpkObjCount t)
    || decide (wpkPayOff t < wpkKeyOff t + 576 * wpkKeyCount t) || t.length != wpkPayOff t
    || len != wpkPayOff t + wpkPlainLen t + 64 * wpkChunks t
    || os.any (fun o => decide (count ≤ o.member) || o.off % 64 != 0 || decide (wpkPlainLen t < o.off + o.size) || o.stack == 6)
    || !wpkOrdered os || (os.map (fun o => o.member)).eraseDups.length != os.length
    || wpkHash t != Config.sha 512 (t.take 64 ++ (t.drop (wpkObjOff t)).take (64 * wpkObjCount t) ++ (t.drop (wpkKeyOff t)).take (576 * wpkKeyCount t))

/-- The content key for this device (R360, R367 step 4): none without an entry for it, when its padding fails, or without the weight key
(19_boot_and_trust.md). -/
def Dev.wpkKey (d : Dev) (t : List Byte) : Option (List Byte) :=
  if d.secSt ≠ ssFULL then none
  else
    let at_ (k : Nat) : Nat := wpkKeyOff t + 576 * k
    match (List.range (wpkKeyCount t)).find? (fun k => leAt t (at_ k) 8 == d.deviceId) with
    | none => none
    | some k => Config.oaepOpen (leBytes 8 (wpkHdr t 8 8) ++ (t.drop (at_ k + 64)).take 512)

/-- The T0 copies that a pool may lose at once make room for `n` granules: clean ones, in the order of R227. -/
def Dev.freeClean0 (d : Dev) (owner n : Nat) : Dev :=
  (d.victims0 owner).foldl (fun d v =>
    if (d.unitOf v.1 v.2).dirty0 ∨ (d.quota0 owner n ∧ (d.findRun n).isSome) then d else d.release0 v.1 v.2) d

/-- The slot's copies are created, ARRIVING in T1, with the staging region (R367 step 5). -/
def Dev.makeCopies (d : Dev) (l : Load) (os : List WpkObj) : Option (List (Nat × Nat × Nat) × Nat × Dev) :=
  let gen := d.rd (F.wsetHandle.bank l.set_) / 2 ^ 20
  let r := os.foldl (fun (acc : Option (List (Nat × Nat × Nat) × Dev)) o =>
    match acc with
    | none => none
    | some (items, d) =>
      let k := d.slotKey l.set_ l.slot o.member
      let n := ceilDiv o.size 64
      let obj : Obj := { gen := gen, sizeL := n, kind := kSCRATCH, attr := 1, tiled := decide (d.rd F.tirCfg_wholeLimit * 2 ^ 20 < n * 64),
                         owner := 8, stack := o.stack, wset := l.set_, prot := o.prot }
      let obj := { obj with units := (List.range obj.unitCount).map (fun u => (u, ({ t1 := tsARRIVING } : TUnit))) }
      let d := if d.quota1 8 obj.extents then d else d.freeClean1 8 obj.extents
      ((d.setObj k obj).ensureT1 k).map (fun d => (items ++ [(k, o.off, o.size)], d))) (some ([], d))
  match r with
  | none => none
  | some (items, d) =>
    let d := d.freeClean0 8 64
    (d.newRegion { base := 0, count := 64, attr := 3, owner := 8, fill := true }).map (fun x => (items, x.1, x.2.2))

/-- The own load has ended without success: the slot's copies and the staging region go, the key clears, the slot is EMPTY, LOAD_FAILED
is set (R367). -/
def Dev.loadFail (d : Dev) (l : Load) (status : Nat) : Dev :=
  let d := if l.stage = 0 then d else d.freeRegion (l.stage - 1)
  let d := (d.emptySlot l.set_ l.slot).raise wsetPage 1 status
  d.updLoad l.q l.i (fun l => { l with ended := true, key := [], records := [], items := [], stage := 0,
                                       status := if l.status = 0 then status else l.status })

/-- Forwarding has failed: CHAIN_BROKEN; nothing more is sent on (R368). -/
def Dev.chainBroken (d : Dev) (l : Load) (status : Nat) : Dev :=
  (d.updLoad l.q l.i (fun l => { l with broken := true, sent := [], status := if l.status = 0 then status else l.status })).raise chainPage 1 status

/-- Numbers of the messages a load obtains, the tables and every chunk, by the body's PKG_LEN (forwarding depends on no check). -/
def Load.total (l : Load) (c : Cmd) : Nat := if l.tables = [] then 1 else 1 + ceilDiv (wpkPkgLen c - wpkPayOff l.tables) chunkStride

/-- Bytes obtained are sent on to the successor: the tables as message 0, chunk i as message 1 + i (log entry 57). -/
def Dev.forward (d : Dev) (l : Load) (no : Nat) (bytes : List Byte) : Dev :=
  match l.succ with
  | none => d
  | some r =>
    if l.broken ∨ bytes = [] then d
    else
      let parent := ((d.cmdAt l.q l.i).map (fun e => e.handle)).getD 0
      let m := d.newMsg
      let e : Nat × Dev := match m.2.sixAlloc (if no = 0 then 3 else 6) (d.qPart l.q) 0 parent 0 l.q with
        | some (h, d) => (h, d)
        | none => (0, m.2)
      let d := e.2.updLoad l.q l.i (fun l => { l with sent := l.sent ++ [no] })
      let head : MsgHead := { id := l.group * 2 ^ 20 + no % 2 ^ 20, queue := 0, group := l.group, rank := d.grpRank l.group, len := bytes.length }
      d.post (d.memberOf l.group r) (d.qPart l.q) (nthD (d.grp l.group).parts r 0)
        { no := m.1, head := head, rest := bytes, handle := e.1, q := l.q, i := l.i, toRank := r, use := 2 }

/-- Bytes of the plaintext stream from `off` on go to the T1 copies they belong to; padding is discarded. -/
def Dev.putPlain (d : Dev) (items : List (Nat × Nat × Nat)) (off : Nat) (bs : List Byte) : Dev :=
  items.foldl (fun d x =>
    let lo := max off x.2.1
    let hi := min (off + bs.length) (x.2.1 + x.2.2)
    if lo < hi then
      match d.obj? x.1 with
      | some o => d.write1 o.extA (lo - x.2.1) ((bs.drop (lo - off)).take (hi - lo))
      | none => d
    else d) d

/-- A CRY engine that works, by turns (09_arcade_engines.md R209). -/
def Dev.cryFor (d : Dev) (n : Nat) : Option Nat :=
  match d.physOf 7 (n % 2) with
  | some p => some p
  | none => d.physOf 7 ((n + 1) % 2)

/-- Every chunk has passed its tag: the copies are RESIDENT, the staging region goes, the slot is READY (R367 step 7). -/
def Dev.loadDone (d : Dev) (l : Load) : Dev :=
  let d := l.items.foldl (fun d x =>
    match d.obj? x.1 with
    | some o => d.setObj x.1 { o with units := o.units.map (fun (y : Nat × TUnit) => (y.1, { y.2 with t1 := tsRESIDENT })) }
    | none => d) d
  let d := (d.freeRegion (l.stage - 1)).setSlotState l.set_ l.slot 2
  (d.updLoad l.q l.i (fun l => { l with ended := true, key := [], stage := 0 })).raise wsetPage 0 St.ok

/-- The tables are here: forwarded, checked, the key unwrapped, the copies made (R367 steps 2 to 5). -/
def Dev.takeTables (d : Dev) (l : Load) (t : List Byte) : Dev :=
  let c := d.cmdBody l.q l.i
  let d := (d.updLoad l.q l.i (fun l => { l with tables := t, have_ := l.have_ ++ [0], since := d.now })).forward l 0 t
  if l.ended then d
  else if wpkTablesBad t (wpkPkgId c) (wpkPkgLen c) (d.wsetCount l.set_) then d.loadFail l St.badField
  else
    match d.wpkKey t with
    | none => d.loadFail l St.keyUnwrapFail
    | some key =>
      match d.makeCopies l (wpkObjs t) with
      | some (items, stage, d) =>
        let d := d.setWset { d.wset with pkgs := mapPut d.wset.pkgs (l.set_ * 2 + l.slot) (wpkPkgId c) }
        let d := d.updLoad l.q l.i (fun l => { l with key := key, items := items, stage := stage + 1 })
        if wpkChunks t = 0 then (match d.load? l.q l.i with
          | some l => d.loadDone l
          | none => d) else d
      | none => d.loadFail l (if d.quota0 8 64 ∧ d.quota1 8 (sumBy (fun (o : WpkObj) => ceilDiv o.size extentBytes) (wpkObjs t)) then St.noResource else St.quotaExceeded)

/-- A chunk is decrypted in the staging region and its tag checked (R361, R367 step 6); a mismatch poisons its range. -/
def Dev.openChunk (d : Dev) (l : Load) (n : Nat) (rec : List Byte) : Dev :=
  match d.cryFor n with
  | none => d
  | some slot =>
    let t := l.tables
    let len := chunkLen t n
    let cipher := rec.take len
    let nonce := leBytes 8 (wpkHdr t 8 8) ++ leBytes 4 n
    let aad := wpkHash t ++ leBytes 4 (wpkChunks t)
    let plain := Config.gcmOpen l.key nonce aad cipher
    let d := d.updLoad l.q l.i (fun l => { l with records := l.records.filter (fun r => r.1 != n), passed := l.passed ++ [n] })
    if Config.gcmSeal l.key nonce aad plain = (cipher, (rec.drop len).take 16) then
      let d := (d.putPlain l.items (n * chunkBytes) plain).incSat (F.engSpecCnt_cnt0 slot 0) 1
      if l.passed.length + 1 = wpkChunks t then d.loadDone l else d
    else
      let d := (d.incSat (F.engSpecCnt_cnt0 slot 1) 1).raise (pfPage .eng slot 1) 7 St.tagMismatch
      let d := l.items.foldl (fun d x =>
        match d.obj? x.1 with
        | none => d
        | some o =>
          if x.2.1 < n * chunkBytes + len ∧ n * chunkBytes < x.2.1 + x.2.2 then
            (o.unitsOf (max x.2.1 (n * chunkBytes) - x.2.1) (min (x.2.1 + x.2.2) (n * chunkBytes + len) - max x.2.1 (n * chunkBytes))).foldl
              (fun d u => d.poisonUnit x.1 u 1) d
          else d) d
      d.loadFail l St.tagMismatch

/-- A chunk record is here: forwarded, and kept for decryption while the own load goes on. -/
def Dev.takeChunk (d : Dev) (l : Load) (n : Nat) (rec : List Byte) : Dev :=
  (d.updLoad l.q l.i (fun l => { l with have_ := l.have_ ++ [n + 1], since := d.now, records := if l.ended then l.records else l.records ++ [(n, rec)] })).forward l (n + 1) rec

/-! ### Chain messages -/

/-- The load that waits for data of a group from a rank. -/
def Dev.chainLoad (d : Dev) (group rank : Nat) : Option Load :=
  d.wset.loads.find? (fun l => l.group == group && l.pred == some rank && !l.broken)

/-- Chunks that have arrived and have not been sent on (R368: at most 16). -/
def Load.unsent (l : Load) : Nat := if l.succ.isSome ∧ !l.broken then (l.sent.filter (· != 0)).length else 0

/-- A message of the chain may be placed: it is known, not yet complete, and there is room for it. -/
def Load.accepts (l : Load) (no : Nat) : Bool :=
  !l.have_.contains no && (l.recv.any (fun m => m.no == no) || decide (l.unsent < 16))

/-- Bytes of a chain message arrive; a whole message is the tables or a chunk. -/
def Dev.chainPlace (d : Dev) (l : Load) (no off len : Nat) (bytes : List Byte) : Dev :=
  let m := (l.recv.find? (fun m => m.no == no)).getD { no := no, len := len }
  let m := { m with got := m.got ++ [(off, bytes.length)], data := Memory.writeBytes m.data off bytes }
  if m.len ≤ sumBy (fun x => x.2) m.got then
    let l' := { l with recv := l.recv.filter (fun x => x.no != no) }
    let d := d.updLoad l.q l.i (fun _ => l')
    let whole := Memory.readBytes m.data 0 m.len
    if no = 0 then d.takeTables l' whole else d.takeChunk l' (no - 1) whole
  else d.updLoad l.q l.i (fun l => { l with recv := (l.recv.filter (fun x => x.no != no)) ++ [m], since := d.now })

/-! ### ASSIST (R370) -/

/-- The work record of the oldest assisted load: it says which chunk is needed next and asks the host. -/
def Dev.chainAsk (d : Dev) : Dev :=
  match d.wset.loads.find? (fun l => l.assisted && !l.ended && l.tables != [] && decide (l.have_.length ≤ wpkChunks l.tables)) with
  | none => d
  | some l =>
    let need := (l.have_.filter (· != 0)).length
    if l.handle ≠ 0 ∧ need < l.avail then d
    else if l.handle ≠ 0 ∧ d.flag (hAssistWait chainPage) then d
    else
      match (if l.handle = 0 then d.sixAlloc 7 ownDevice 0 0 0 0xFF else some (l.handle, d)) with
      | none => d
      | some (h, d) =>
        let pkg := wpkPkgId (d.cmdBody l.q l.i)
        let d := d.updLoad l.q l.i (fun l => { l with handle := h })
        let d := ((d.wr F.tbnChainOp h).wr (F.tbnChainPkg 0) (pkg % 2 ^ 32)).wr (F.tbnChainPkg 1) (pkg / 2 ^ 32)
        (d.wr F.tbnChainNeed need).assistOpen chainPage

/-! ### Ends -/

/-- Everything the load has obtained is with its successor. -/
def Load.forwarded (l : Load) (total : Nat) : Bool := l.broken || l.succ.isNone || (decide (total ≤ l.have_.length) && l.sent == [])

/-- A load goes: its work record is closed. -/
def Dev.dropLoad (d : Dev) (l : Load) : Dev :=
  let d := d.setWset { d.wset with loads := d.wset.loads.filter (fun x => !(x.q == l.q && x.i == l.i)) }
  if l.handle = 0 then d else ((d.sixRelease l.handle l.status).setFlag (hAssistWait chainPage) false).chainAsk

/-- A load whose command is gone fails; one whose own load and forwarding have ended completes its command, with CHAIN_DONE where the
chain was served. -/
def Dev.sweepLoads (d : Dev) : Dev :=
  d.wset.loads.foldl (fun d l =>
    if d.partReady l.q l.i 0 opLOAD_WPK then
      if l.ended ∧ l.forwarded (l.total (d.cmdBody l.q l.i)) then
        let d := if l.broken ∨ l.assisted then d else d.raise chainPage 0 l.status
        d.partRan l.q l.i 0 l.status 0 (wpkPkgLen (d.cmdBody l.q l.i))
      else d
    else ((if l.ended then d else d.loadFail l St.stepAborted).dropLoad l)) d

end Sys2Proof.Machine
end

