-- ==== Sys2Proof/Machine/TestOps.lean ====
section
/-! DEFINITION. The rolling self-test: a unit's boundary, the reserve that stands in for it, the end of its test
(18_faults_resets_dumps.md R393 to R395; 01_one_step_through_the_device.md R26; 03_klotchaex_command_stream.md R59). -/

namespace Sys2Proof.Machine

/-- A reserve queue processor takes over (R59): commands fetched and not started are fetched again; started ones run on. -/
def Dev.qpTakeover (d : Dev) (l : Nat) : Dev :=
  (List.range 16).foldl (fun d j =>
    let q := 16 * l + j
    let x := d.queue q
    if x.fetched = [] then d
    else
      let h := (d.qHead q + 2 ^ 32 - x.fetched.length) % 2 ^ 32
      let back := fun (r : LayerRun) => x.fetched.foldl (fun (r : LayerRun) y =>
        if y.2.2 = r.id then { r with size := r.size - 1, ended := false, copies := r.copies.filter (fun c => c.1 != y.1) }
        else r) r
      let runs := (x.runs.map back).filter (fun r => r.size != 0)
      (d.setQueue q { x with fetched := [], waited := false, runs := runs }).wr (F.qHead_count l j) h) d

/-- Length of a unit's test, and of the full self-test of a closed unit (R394, R397). -/
def testQns (t : Nat) : Nat := if t = 0 then 2 * msQ else if isEngine t then msQ else if t = 10 then 5 * msQ else 500 * usQ

/-- No part runs on the unit: a command boundary of a core or engine. Processors and movers hold no part (R59, R25). -/
def Dev.unitIdle (d : Dev) (t p : Nat) : Bool :=
  decide (8 ≤ t) || !(d.runningParts.any (fun r => d.partUnit r.2.2.2 == some (unitKey t p)))

def Dev.setTesting (d : Dev) (l : List Testing) : Dev := d.setHlt { d.hlt with testing := l }

def Testing.is (x : Testing) (t p : Nat) : Bool := x.utype == t && x.phys == p

def Dev.dropTesting (d : Dev) (t p : Nat) : Dev := d.setTesting (d.hlt.testing.filter (fun x => not (x.is t p)))

def Dev.putTesting (d : Dev) (y : Testing) : Dev :=
  d.setTesting (d.hlt.testing.map (fun x => if x.is y.utype y.phys then y else x))

/-- An identity moves to a unit of its type. -/
def Dev.moveIdentity (d : Dev) (t l p : Nat) : Dev :=
  let d := d.takeIdentity t l p
  if t = 8 then d.qpTakeover l else d

/-- A unit's test begins at its boundary: a free reserve takes its identity and its ROLE reads SELF_TEST; with none free it is tested
in place and keeps its identity. A reserve unit is tested with no identity to hand over. -/
def Dev.beginTest (d : Dev) (x : Testing) : Dev :=
  let t := x.utype
  let p := x.phys
  match d.logicalOf t p with
  | none => (d.setPhys t p { d.physUnit t p with role := 2 }).putTesting { x with start := d.now + 1 }
  | some l =>
    match d.reserves t with
    | r :: _ =>
      let d := d.moveIdentity t l r
      (d.setPhys t p { d.physUnit t p with role := 2 }).putTesting { x with logical := l + 1, start := d.now + 1 }
    | [] => d.putTesting { x with logical := l + 1, start := d.now + 1, inPlace := true, sliceAt := d.now }

/-- A test ends: the unit takes its identity back and the reserve is free again. -/
def Dev.endTest (d : Dev) (x : Testing) : Dev :=
  let t := x.utype
  let p := x.phys
  let d := d.dropTesting t p
  if x.start = 0 ∨ x.inPlace then d
  else if x.logical = 0 then d.setPhys t p { d.physUnit t p with role := 1 }
  else
    let l := x.logical - 1
    let d := match d.physOf t l with
      | some r => d.setPhys t r { d.physUnit t r with role := 1 }
      | none => d
    d.moveIdentity t l p

/-- Units that wait for their test and have reached their boundary begin it; one closed meanwhile leaves the round. -/
def Dev.startTests (d : Dev) : Dev :=
  d.hlt.testing.foldl (fun d x =>
    if x.start ≠ 0 then d
    else if 2 ≤ (d.physUnit x.utype x.phys).role then d.dropTesting x.utype x.phys
    else if d.unitIdle x.utype x.phys then d.beginTest x
    else d) d

/-- A substitution for a closure takes precedence over the self-test: with no other reserve free, a test that holds one ends early
(R26). -/
def Dev.freeTested (d : Dev) (t : Nat) : Dev :=
  if d.reserves t ≠ [] then d
  else
    match d.hlt.testing.find? (fun x => x.utype == t && x.start != 0 && !x.inPlace) with
    | some x => d.endTest x
    | none => d

end Sys2Proof.Machine
end

