-- ==== Sys2Proof/Machine/Act.lean ====
section
/-! DEFINITION. Weight-set bindings, and what follows every command at once: a DRAINING slot without bindings empties, and GLB
PG_HEALTH follows the spare map (16_weights_and_partitions.md R363, R364; 02_register_pages.md R41). -/

namespace Sys2Proof.Machine

/-- Every binding of `binds` adds to its slot's count. -/
def Dev.addBinds (d : Dev) (binds : Nat) : Dev :=
  d.wset.defined.foldl (fun d s =>
    match viewSlot (8 * binds) s with
    | some sl => d.setSlotRefs s sl (d.slotRefs s sl + 1)
    | none => d) d

/-- DRAINING slots whose last binding has ended become EMPTY, and TIR page 3 PG_EVENT bit 3 is set (R363); at the stamp of the swap itself a
binding may still take the old slot (R365). -/
def Dev.drainSlots (d : Dev) : Dev :=
  d.wset.defined.foldl (fun d s =>
    [0, 1].foldl (fun d sl =>
      if d.slotState s sl = 4 ∧ d.slotRefs s sl = 0 ∧ (mapGet (0, 0) d.wset.swapped s).1 ≠ d.now + 1 then (d.emptySlot s sl).raise wsetPage 3 St.ok else d) d) d

/-! ### Power states and ALERT# after a command (20_time_power_module.md R444, R449) -/

/-- A command is in execution or a queue is ACTIVE. -/
def Dev.busyNow (d : Dev) : Bool :=
  d.kqp.queues.any (fun x => !x.2.exec.isEmpty || d.qSt x.1 == qsACTIVE)

def pwrPage : Page := pfPage .pwr 0 0

/-- ALERT#: a PWR event bit 0 to 2 set and enabled, OUT_OF_SERVICE, or heat (R442). -/
def Dev.alertNow (d : Dev) : Bool :=
  ((d.reg (hEvent pwrPage).addr) &&& (d.reg (hEventEn pwrPage).addr) &&& 7#32) != 0 || d.rd F.hltState_state == 1 || d.pwr.hot || d.pwr.latched

/-- The time since which nothing runs; IDLE ends with a doorbell, a packet or an event; ALERT# follows. -/
def Dev.settlePower (d before : Dev) : Dev :=
  let busy := d.busyNow
  let leave := d.pwr.mode = 1 ∧ (busy ∨ d.logSeq ≠ before.logSeq ∨ d.rd F.tbnRxPkts ≠ before.rd F.tbnRxPkts)
  let quiet := if busy then 0 else if d.pwr.quietFrom = 0 ∨ leave then d.now + 1 else d.pwr.quietFrom
  let d := if leave then (d.setPwr { d.pwr with mode := 0 }).wr F.pwrState_state 0 else d
  let alert := d.alertNow
  let d := if alert = d.pwr.alert then d else d.emit .alert 0 [boolNat alert]
  d.setPwr { d.pwr with quietFrom := quiet, alert := alert }

/-- What follows every command at once: package loads whose command is gone or done end, DRAINING slots empty, waiting self-tests start at their boundary, GLB PG_HEALTH and the power
state follow. -/
def Dev.settle (d before : Dev) : Dev := (d.sweepLoads.drainSlots.startTests.glbHealth).settlePower before

/-- A command that answers a next state: the device changed by `f`, with what follows at once (R41, R363); the queue of waiting
commands is untouched. -/
def State.act (s : State) (f : Dev → Dev) : Host.Outcome State Fault Refusal :=
  .next { s with dev := (f s.dev).settle s.dev }

end Sys2Proof.Machine
end

