-- ==== Sys2Proof/Machine/AcrekOps.lean ====
section
/-! DEFINITION. What the Acrek units compute: T1 tensors, the group tables, the update rules, statistics and twins
(11_acrek_update.md R240 to R256). -/

namespace Sys2Proof.Machine

def acrPage (k n : Nat) : Page := pfPage .acr k n

/-! ### Tensors in T1 -/

/-- The T1 copy of every dirty T0 unit of an object is brought up to date (R240); none where T1 has no room. -/
def Dev.flush0 (d : Dev) (k : Nat) : Option Dev :=
  match d.obj? k with
  | none => some d
  | some o =>
    (List.range o.unitCount).foldl (fun acc u =>
      match acc with
      | none => none
      | some d =>
        let x := d.unitOf k u
        if x.dirty0 ∧ x.valid0 then
          match d.ensureT1 k with
          | none => none
          | some d =>
            match d.obj? k with
            | none => some d
            | some o =>
              let d := d.pour1 o.extA (o.unitStart u) (o.unitLen u) (memSlice d.t0 x.base0 (o.unitLen u))
              some (d.setUnit k u { d.unitOf k u with dirty0 := false, t1 := tsRESIDENT, dirty1 := true })
        else some d) (some d)

/-- Every unit of an object has a valid T1 copy. -/
def Obj.valid1 (o : Obj) : Bool := (List.range o.unitCount).all (fun u => (o.unit u).t1 == tsRESIDENT)

/-- `n` elements of a format in T1 from a byte on. -/
def Dev.vec1 (d : Dev) (ext : List Nat) (off code n : Nat) : List FVal :=
  (chunksOf (elemBits code / 8) (d.read1 ext off (n * (elemBits code / 8)))).map (fun b => elemVal code (ofLeBytes b))

/-- Write element codes of a format whose elements are whole bytes. -/
def Dev.putVec1 (d : Dev) (ext : List Nat) (off code : Nat) (raws : List Nat) : Dev :=
  d.write1 ext off (raws.flatMap (leBytes (elemBits code / 8)))

/-- Write one element of a tensor in T1, neighbours within its bytes unchanged. -/
def putRaw1 (m : Memory) (ext : List Nat) (t : Tens) (r c raw : Nat) : Memory :=
  let b := t.bitAt r c
  let n := (b % 8 + elemBits t.code + 7) / 8
  let old := ofLeBytes ((List.range n).map (fun i => m.read (extAddr ext (b / 8 + i))))
  writeExt m ext (b / 8) (leBytes n (putBitsAt old (b % 8) (elemBits t.code) raw))

/-! ### FP32 and FP64 arithmetic of R246 -/

def fAdd (x y : FVal) : FVal := r32 (x.add y)
def fSub (x y : FVal) : FVal := r32 (x.sub y)
def fMul (x y : FVal) : FVal := r32 (x.mul y)
def fDiv (x y : FVal) : FVal := r32 (x.quot y)
def fRoot (x : FVal) : FVal := r32 x.root
def fma (a b c : FVal) : FVal := r32 ((a.mul b).add c)

/-- β x + (1−β) y, formed as fma(β, x − y, y). -/
def fLerp (b x y : FVal) : FVal := fma b (fSub x y) y

/-- An FP64 sum in ascending order. -/
def dSum (xs : List FVal) : FVal := xs.foldl (fun a x => r64 (a.add x)) FVal.zero

/-- FP32 and FP64 codes of a value. -/
def code32 (x : FVal) : Nat := fp32.ieeeCode .near x
def code64 (x : FVal) : Nat := fp64.ieeeCode .near x

/-! ### Groups and commands -/

/-- The GROUP_CFG fields of a group's entry, read through the body's own accessors. -/
def entryCmd (g : Nat) : Cmd := BitVec.ofNat 512 (g * 2 ^ 128)

def Dev.grpCurrent (d : Dev) (j g : Nat) : Cmd := entryCmd (mapGet 0 d.acr.current (j * 4096 + g))


def Dev.grpStats (d : Dev) (j g : Nat) : GrpStats := mapGet {} d.acr.stats (j * 4096 + g)

def Dev.setGrpStats (d : Dev) (j g : Nat) (x : GrpStats) : Dev :=
  d.setAcr { d.acr with stats := mapPut d.acr.stats (j * 4096 + g) x }

/-- Rows and columns of an update's tensor (table UPDATE body). -/
def updRows (c : Cmd) : Nat :=
  if updTwinMode c = 2 then
    (updRowsM1 c / 65536 + 1) * updFZ c * updFY c * updFX c * (updRowsM1 c % 65536 + 1)
  else updRowsM1 c + 1
def updCols (c : Cmd) : Nat := updColsM1 c + 1
def updElems (c : Cmd) : Nat := updRows c * updCols c
def updIsVec (c : Cmd) : Bool := updRows c == 1 || updCols c == 1

/-- Format codes of the gradient and of a momentum. -/
def updGradCode (c : Cmd) : Nat := if updGFmt c = 0 then 0xE else if updGFmt c = 1 then 0x0 else 0x10
def momCode (e : Cmd) : Nat := if grpMomFmt e = 1 then 0xE else 0x0

/-- The rule of an entry: factored rules keep second moments, all but FAC a momentum. -/
def ruleFac (e : Cmd) : Bool := grpRule e == 1 || grpRule e == 2
def ruleMom (e : Cmd) : Bool := grpRule e != 1

/-- FP32 fields of an entry; EPS2 written 0 stands for 2^-126. -/
def eBeta1 (e : Cmd) : FVal := fp32.decode (grpBeta1 e)
def eBeta2 (e : Cmd) : FVal := fp32.decode (grpBeta2 e)
def eEps1 (e : Cmd) : FVal := fp32.decode (grpEps1 e)
def eEps2 (e : Cmd) : FVal := if grpEps2 e = 0 then .pow2 (-126) else fp32.decode (grpEps2 e)

/-- Bytes of a twin: elements, then the scale plane. -/
def twinTens (c : Cmd) (transposed : Bool) : Tens :=
  let g := updRowsM1 c / 65536 + 1
  if updTwinMode c = 2 then
    if transposed then
      { packedTens' (updTwinFmt c) (g * updFZ c * updFY c * updFX c * updCols c) (updRowsM1 c % 65536 + 1) with down := true }
    else { packedTens' (updTwinFmt c) (updRows c) (updCols c) with down := true }
  else
    let r := if transposed then updCols c else updRows c
    let n := if transposed then updRows c else updCols c
    { code := updTwinFmt c, off := 0, rows := r, cols := n, pitch := densePitch (updTwinFmt c) n, down := true }
where
  /-- Rows packed one after another. -/
  packedTens' (code rows cols : Nat) : Tens := { code := code, off := 0, rows := rows, cols := cols, pitch := cols * elemBits code }

/-- Bytes of MOM2: r′ then c′, or v, in FP32. -/
def mom2Bytes (c : Cmd) : Nat := 4 * (if updIsVec c then updElems c else updRows c + updCols c)

/-- Bytes of the statistics workspace (R247). -/
def wsBytes (c : Cmd) : Nat := if updIsVec c then 64 else 64 + 4 * (updRows c + updCols c)

/-- Bytes per element of the table Bytes per element, times 32. -/
def perElem32 (e c : Cmd) (stats : Bool) : Nat :=
  let bg := elemBits (updGradCode c) / 8
  let bm := elemBits (momCode e) / 8
  let bt := if updTwinMode c = 0 then 0 else 4 * elemBits (updTwinFmt c) + (if codeMx (updTwinFmt c) then 1 else 0)
  if grpFrozen e = 1 then 0
  else if stats then (if updIsVec c then 32 * (bg + 4) else 64 * bg)
  else if !ruleFac e then 32 * (bg + 8 + 2 * bm) + 2 * bt
  else
    let m := if grpRule e = 2 then 2 * bm else 0
    32 * (bg + 8 + m + (if updIsVec c then 8 else 0)) + 2 * bt

/-- B of R242: the work of an UPDATE or STATS in bytes. -/
def updWork (e c : Cmd) (stats : Bool) : Nat :=
  if grpFrozen e = 1 then 0
  else ceilDiv (updElems c * perElem32 e c stats) 32 + (if ruleFac e ∧ !updIsVec c then 8 * (updRows c + updCols c) else 0)

/-- B ÷ 3.0 TB/s in qns: 750 bytes each. -/
def updQns (bytes : Nat) : Nat := ceilDiv bytes 750

/-! ### The rules -/

/-- The terms common to every rule (R244). -/
structure UpdTerms where
  gscale : FVal
  kappa : FVal
  eta : FVal
  lam : FVal
  deriving DecidableEq, Repr

/-- κ = min(1, CLIP ÷ √G2), in FP64 then FP32. -/
def clipFactor (clip g2 : FVal) : FVal :=
  if clip.isZero ∨ g2.isZero then FVal.one else r32 (FVal.one.min (r64 (clip.quot (r64 g2.root))))

def updTerms (e c : Cmd) (norm : List Byte) : UpdTerms :=
  { gscale := fp32.decode (leAt norm 16 4), kappa := clipFactor (fp32.decode (grpClip e)) (fp64.decode (leAt norm 0 8)),
    eta := fMul (fp32.decode (grpEtaBase e)) (fp32.decode (updEtaMul c)),
    lam := fMul (fp32.decode (grpLambda e)) (fp32.decode (updLambdaMul c)) }

/-- w′ from the step term t: p = fma(λ′, w, t), w′ = fma(−η, p, w). -/
def newWeight (t : UpdTerms) (w step : FVal) : FVal := fma t.eta.neg (fma t.lam w step) w

/-- Rows of a row-major list. -/
def rowsOf {α : Type} (cols : Nat) (xs : List α) : List (List α) := chunksOf cols xs

/-- Column `j` of a row-major list of rows. -/
def colOf (rows : List (List FVal)) (j : Nat) : List FVal := rows.map (fun r => nthD r j FVal.zero)

/-- r′ or c′ from a sum over `n` elements. -/
def facMoment (e : Cmd) (old sum : FVal) (n : Nat) : FVal :=
  fLerp (eBeta2 e) old (fAdd (fDiv sum (FVal.ofNat n)) (eEps1 e))

/-- v′ of a vector element. -/
def vecMoment (e : Cmd) (v g : FVal) : FVal := fLerp (eBeta2 e) v (fAdd (fMul g g) (eEps1 e))

/-- v̂ of a matrix element: the product rounded, then the quotient by ρ rounded. -/
def vHat (r c rho : FVal) : FVal := fDiv (fMul r c) rho

/-- φ = max(1, κ √(S ÷ n) ÷ d), S rounded to FP32. -/
def facPhi (t : UpdTerms) (s dLim : FVal) (n : Nat) : FVal :=
  FVal.one.max (fDiv (fMul t.kappa (fRoot (fDiv (r32 s) (FVal.ofNat n)))) dLim)

/-- u = κĝ ÷ (φ √v̂). -/
def facStep (t : UpdTerms) (phi g v : FVal) : FVal := fDiv (fMul t.kappa g) (fMul phi (fRoot v))

/-- What STATS finds of a matrix: r′, c′, ρ, S, DEGEN and Σ ĝ² (R247, R248). -/
structure FacStats where
  r : List FVal
  c : List FVal
  rho : FVal
  s : FVal
  degen : Bool
  gsq : FVal
  deriving DecidableEq, Repr

def matStats (e : Cmd) (rows cols : Nat) (old : List FVal) (g : List FVal) : FacStats :=
  let gr := rowsOf cols g
  let sq := fun (x : FVal) => x.mul x
  let rs := gr.map (fun row => dSum (row.map sq))
  let cs := (List.range cols).map (fun j => dSum ((colOf gr j).map sq))
  let r' := List.zipWith (fun o s => facMoment e o s cols) (old.take rows) rs
  let c' := List.zipWith (fun o s => facMoment e o s rows) (old.drop rows) cs
  let rho := r64 ((dSum r').quot (FVal.ofNat rows))
  let degen := rho.lt (eEps2 e) || c'.any FVal.isZero
  let s := if degen then FVal.zero
    else dSum ((List.zipWith (fun row r => List.zipWith (fun x c => fDiv (fMul x x) (vHat r c rho)) row c') gr r').flatten)
  ⟨r', c', rho, s, degen, dSum (g.map sq)⟩

/-- S of a vector over its elements that are not singular (R248). -/
def vecStats (e : Cmd) (old g : List FVal) : FacStats :=
  let v := List.zipWith (vecMoment e) old g
  let s := dSum (List.zipWith (fun x y => if y.lt (eEps2 e) then FVal.zero else fDiv (fMul x x) y) g v)
  ⟨v, [], FVal.zero, s, false, dSum (g.map (fun x => x.mul x))⟩

/-- The bytes of the workspace (table STATS workspace). -/
def FacStats.bytes (f : FacStats) (master step : Nat) (vec : Bool) : List Byte :=
  leBytes 4 master ++ leBytes 1 (1 + 2 * boolNat f.degen) ++ leBytes 3 0 ++ leBytes 8 step
    ++ leBytes 8 (if f.degen then 0 else code64 f.s) ++ leBytes 8 (code64 f.rho) ++ leBytes 8 (code64 f.gsq) ++ leBytes 24 0
    ++ (if vec then [] else (f.r ++ f.c).flatMap (fun x => leBytes 4 (code32 x)))

/-- What an update writes: new master values, new momentum values before their format's rounding, new second moments as
values, and whether the tensor was singular. -/
structure UpdResult where
  w : List FVal
  m : List FVal
  m2 : List FVal
  degen : Bool
  deriving DecidableEq, Repr

/-- The sign of a value, 0 for zero. -/
def signVal (x : FVal) : FVal := if x.isZero then FVal.zero else if x.isNeg then FVal.one.neg else FVal.one

/-- Rules MOM and SGN (R245). -/
def plainRule (e : Cmd) (t : UpdTerms) (w m g : List FVal) : UpdResult :=
  let kg := g.map (fMul t.kappa)
  if grpRule e = 0 then
    let m' := List.zipWith (fun x y => fma (eBeta1 e) x y) m kg
    ⟨List.zipWith (newWeight t) w m', m', [], false⟩
  else
    let k := List.zipWith (fun x y => fLerp (eBeta1 e) x y) m kg
    ⟨List.zipWith (fun x y => newWeight t x (signVal y)) w k, List.zipWith (fun x y => fLerp (eBeta2 e) x y) m kg, [], false⟩

/-- Rules FAC and FACM: `u` from the statistics, then the momentum of FACM; on the singular path FACM keeps β₁ m (R248). -/
def facRule (e c : Cmd) (t : UpdTerms) (w m g old : List FVal) (ws : List Byte) : UpdResult :=
  let n := updElems c
  let s := fp64.decode (leAt ws 16 8)
  let phi := facPhi t s (fp32.decode (grpD e)) n
  let vec := updIsVec c
  let v := List.zipWith (vecMoment e) old g
  let sing := !vec && bitOf (leAt ws 4 1) 1
  let m2 := if vec then v
    else (chunksOf 4 ((ws.drop 64).take (4 * (updRows c + updCols c)))).map (fun b => fp32.decode (ofLeBytes b))
  let rho := fp64.decode (leAt ws 24 8)
  let vh (i : Nat) : FVal :=
    vHat (nthD m2 (i / updCols c) FVal.zero) (nthD m2 (updRows c + i % updCols c) FVal.zero) rho
  let dead (i : Nat) : Bool := if vec then (nthD v i FVal.zero).lt (eEps2 e) else sing
  let u := (List.range n).map fun i =>
    if dead i then FVal.zero else facStep t phi (nthD g i FVal.zero) (if vec then nthD v i FVal.zero else vh i)
  if grpRule e = 1 then ⟨List.zipWith (newWeight t) w u, [], m2, (List.range n).any dead⟩
  else
    let m' := (List.range n).map fun i =>
      if dead i then fMul (eBeta1 e) (nthD m i FVal.zero) else fLerp (eBeta1 e) (nthD m i FVal.zero) (nthD u i FVal.zero)
    ⟨List.zipWith (newWeight t) w m', m', m2, (List.range n).any dead⟩

/-! ### Twins (R252) -/

/-- Write a matrix of values as a twin: plain formats element by element, MX formats in blocks of 32 rows of a column; answers
whether some value saturated. -/
def putTwin (m : Memory) (ext : List Nat) (t : Tens) (at_ : Nat → Nat → FVal) : Memory × Bool :=
  if codeMx t.code then
    (List.range t.cols).foldl (fun (acc : Memory × Bool) c =>
      (List.range (ceilDiv t.rows 32)).foldl (fun (acc : Memory × Bool) b =>
        let n := min 32 (t.rows - 32 * b)
        let blk := mxBlock t.code ((List.range n).map (fun i => (at_ (32 * b + i) c, Rnd.near)))
        let m := writeExt acc.1 ext (t.scaleAt (32 * b) c) (leBytes 1 blk.1)
        let m := (List.range n).foldl (fun m i => putRaw1 m ext t (32 * b + i) c (nthD blk.2 i (0, .plain)).1) m
        (m, acc.2 || blk.2.any (fun x => x.2 == .saturate))) acc) (m, false)
  else
    (List.range t.rows).foldl (fun (acc : Memory × Bool) r =>
      (List.range t.cols).foldl (fun (acc : Memory × Bool) c =>
        let e := encodeElem t.code .near (at_ r c)
        (putRaw1 acc.1 ext t r c e.1, acc.2 || e.2 == .saturate)) acc) (m, false)

/-- The value at (r, c) of the transposed twin. -/
def twinSource (c : Cmd) (w : List FVal) (r n : Nat) : FVal :=
  if updTwinMode c = 2 then
    let cin := updRowsM1 c % 65536 + 1
    let k := updFZ c * updFY c * updFX c
    let g := r / (k * updCols c)
    let f := r / updCols c % k
    nthD w (((g * k + (k - 1 - f)) * cin + n) * updCols c + r % updCols c) FVal.zero
  else nthD w (n * updCols c + r) FVal.zero

end Sys2Proof.Machine
end

