-- ==== Sys2Proof/Machine/Acrek.lean ====
section
/-! DEFINITION. The Acrek units' commands: GROUP_CFG, STATS, UPDATE, the near-memory window, assisted updates and the loss of a
unit (11_acrek_update.md R240 to R260). -/

namespace Sys2Proof.Machine

/-! ### Checks -/

/-- A finite value that is not negative. -/
def finNonNeg (x : Nat) : Bool := (fp32.decode x).isFinite && !(fp32.decode x).isNeg

/-- The field ranges of a GROUP_CFG body (R243). -/
def grpBad (c : Cmd) : Bool :=
  let beta (x : Nat) : Bool := finNonNeg x && (fp32.decode x).lt FVal.one
  !finNonNeg (grpEtaBase c) || !finNonNeg (grpLambda c) || !beta (grpBeta1 c) || !beta (grpBeta2 c) || !finNonNeg (grpEps1 c)
    || !finNonNeg (grpEps2 c) || !finNonNeg (grpD c) || (fp32.decode (grpD c)).isZero || !finNonNeg (grpClip c)

/-- The objects that an UPDATE uses; a STATS carries the same body and uses only some of it (R247; log entry 29). -/
def updHandles (c : Cmd) : List Nat :=
  ([updStatsWs c, updMaster c, updMom2 c, updGrad c]
    ++ (if cmdOpcode c = opSTATS then [] else [updMom1 c, updTwinF c, updTwinT c])).filter (· != 0)

/-- The format-check conditions of R254 that the body decides alone, with sizes of objects that exist (log entry 29). -/
def Dev.updBad (d : Dev) (v : Nat) (c : Cmd) : Bool :=
  let conv := updTwinMode c == 2
  let kern := [updFX c, updFY c, updFZ c]
  updTwinMode c == 3 || updGFmt c == 3 || updTwinFmt c == 0x4 || decide (0xE ≤ updTwinFmt c)
    || (if conv then kern.any (· == 0) else kern.any (· != 0))
    || ((conv || !updIsVec c || updTwinMode c == 1) && (decide (65536 < updRows c) || decide (65536 < updCols c)))
    || decide (2 ^ 32 - 1 < updElems c) || !finNonNeg (updEtaMul c) || !finNonNeg (updLambdaMul c)
    || updMaster c == 0 || updGrad c == 0
    || (cmdOpcode c != opSTATS && if updTwinMode c = 0 then updTwinF c != 0 || updTwinT c != 0 else updTwinF c == 0 || updTwinT c == 0)
    || !(updHandles c).Nodup
    || d.beyond v (bytesOpnd (updMaster c) 0 (4 * updElems c))
    || d.beyond v (bytesOpnd (updGrad c) 0 (updElems c * (elemBits (updGradCode c) / 8)))
    || (cmdOpcode c != opSTATS && updTwinMode c != 0 && (d.beyond v ((twinTens c false).opnd (updTwinF c)) || d.beyond v ((twinTens c true).opnd (updTwinT c))))

/-- The conditions judged when an UPDATE or STATS starts: handles its rule needs or does not use, kinds, stack, job and the
write set (R247, R251, R254; log entry 29). -/
def Dev.updStart (d : Dev) (v j stack : Nat) (e c : Cmd) (stats : Bool) : Option Nat :=
  let obj (h : Nat) : Obj := (d.objOf v h).2
  let use (h : Nat) (need : Bool) : Bool := (h != 0) == need
  let committed := ([updMaster c, updMom2 c] ++ (if stats then [] else [updMom1 c, updTwinF c, updTwinT c])).filter (· != 0)
  if (updHandles c).any (d.absent v) then some St.objectAbsent
  else if (stats && !ruleFac e) || (!stats && !use (updMom1 c) (ruleMom e)) || !use (updMom2 c) (ruleFac e) || !use (updStatsWs c) (ruleFac e)
    || committed.any (fun h => (obj h).kind != kCOMMITTED || (obj h).job != j)
    || (obj (updGrad c)).kind == kCOMMITTED || (updStatsWs c != 0 && (obj (updStatsWs c)).kind != kSTEP)
    || (updHandles c).any (fun h => (obj h).stack != stack)
    || (!stats && ruleMom e && d.beyond v (bytesOpnd (updMom1 c) 0 (updElems c * (elemBits (momCode e) / 8))))
    || (ruleFac e && (d.beyond v (bytesOpnd (updMom2 c) 0 (mom2Bytes c)) || d.beyond v (bytesOpnd (updStatsWs c) 0 (wsBytes c))))
    || (!stats && committed.any (fun h => (d.job j).flips.contains (d.objOf v h).1))
  then some St.badField
  else none

/-! ### GROUP_CFG -/

/-- GROUP_CFG (R243): one entry of the pending table of the queue's job. -/
def effectGroupCfg (q i : Nat) (d : Dev) : Dev :=
  d.when (d.partReady q i 0 opGROUP_CFG) fun d =>
    let c := d.cmdBody q i
    let key := d.qJob q * 4096 + grpGroup c
    (d.setAcr { d.acr with pending := mapSet 0 d.acr.pending key (c.toNat / 2 ^ 128) }).partRan q i 0 0 0 0

/-- GROUP_CFG: its own effect, then what follows at once. -/
def execGroupCfg (q i : Nat) (s : State) : Host.Outcome State Fault Refusal := s.act (effectGroupCfg q i)

/-! ### The window (R241) -/

/-- The unit may take its window: it holds it, or its gap has passed. -/
def Dev.windowFree (d : Dev) (k : Nat) : Bool :=
  (mapLook d.acr.window k).isSome || decide (mapGet 0 d.acr.gap k ≤ d.now)

/-- The unit takes its window at the start of its work, and counts the command. -/
def Dev.takeUnit (d : Dev) (k : Nat) : Dev :=
  let w := if (mapLook d.acr.window k).isSome then d.acr.window else mapPut d.acr.window k d.now
  ((d.setAcr { d.acr with window := w }).setFlag (F.acrState_busy k) true).inc (F.acrCmds_cmds k) 1

/-- ACR_WINDOW_RELEASE (R241): a hub request waits and the unit has held its window for HOLD; it lets it go and does not take
it again for GAP. -/
def effectAcrWindowRelease (k : Nat) (d : Dev) : Dev :=
  match mapLook d.acr.window k with
  | none => d
  | some t =>
    d.when (decide (t + d.rd (F.acrWindowCfg_hold k) * usQ ≤ d.now)) fun d =>
      d.setAcr { d.acr with window := mapDel d.acr.window k,
                            gap := mapPut d.acr.gap k (d.now + d.rd (F.acrWindowCfg_gap k) * 400) }

/-- ACR_WINDOW_RELEASE: its own effect, then what follows at once. -/
def execAcrWindowRelease (k : Nat) (s : State) : Host.Outcome State Fault Refusal := s.act (effectAcrWindowRelease k)

/-! ### Frozen groups, failures -/

/-- R249: the request is counted and its event set; it completes with FROZEN_SKIPPED, or fails when FAULT asks for it. -/
def Dev.frozenSkip (d : Dev) (q i k : Nat) (c : Cmd) : Dev :=
  let j := d.qJob q
  let g := updGroup c
  let st := d.grpStats j g
  let d := d.incSat (F.acrFrozenHits_count j) 1
  let d := d.setGrpStats j g { st with frozen := satAdd 16 st.frozen 1 }
  let d := match d.newest j with
    | some r => d.setJob j { d.job j with ring := mapPut (d.job j).ring (d.rd (F.ldgJobState_head j)) { r with frozen := satAdd 16 r.frozen 1 } }
    | none => d
  let d := d.raise (acrPage k 0) 2 St.frozenSkipped (d.causeOf q c)
  if d.flag (F.acrFrozenCfg_fault j) then d.partRan q i 0 St.badField 0 0 else d.partRan q i 0 0 St.frozenSkipped 0

/-- A failure of R250, with its event. -/
def Dev.acrFail (d : Dev) (q i k status bit : Nat) : Dev :=
  (d.partRan q i 0 status 0 0).raise (acrPage k 0) bit status (d.causeOf q (d.cmdBody q i))

/-- Every named object's T1 copy is made current; none where T1 has no room. -/
def Dev.flushAll (d : Dev) : List Nat → Option Dev
  | [] => some d
  | k :: ks => match d.flush0 k with
    | some d => d.flushAll ks
    | none => none

/-- The objects that a command reads in T1 are written back, and `k`, which it writes, can take T1 space; none where an allocation
lacks quota: the part waits, and fails when its bound expires (10_tiers_and_street_index.md R222). -/
def Dev.stageT1 (d : Dev) (ks : List Nat) (k : Option Nat) : Option Dev :=
  match d.flushAll ks with
  | none => none
  | some d => if k.any (fun k => (d.ensureT1 k).isNone) then none else some d

/-- Some unit of an object's current buffer cannot be read. -/
def Obj.unreadable1 (o : Obj) : Bool := (List.range o.unitCount).any (fun u => (o.unit u).t1 == tsPOISONED)

/-- The stack an UPDATE or STATS runs on: that of its MASTER. -/
def Dev.updStack (d : Dev) (v : Nat) (c : Cmd) : Nat := (d.objOf v (updMaster c)).2.stack

/-- The gradient scaled, as FP32 values: ĝ = GSCALE × g. -/
def Dev.gradient (d : Dev) (o : Obj) (c : Cmd) (gs : FVal) : List FVal :=
  (d.vec1 o.curExt 0 (updGradCode c) (updElems c)).map (fun x => fMul gs (r32 x))

/-- The norm record of a job, where its object is live and readable. -/
def Dev.normRecord (d : Dev) (v j : Nat) : Option (List Byte) :=
  match d.resolve v (d.rd (F.acrNorm_handle j)) with
  | some (_, o) => if o.bytes < 32 then none else d.readAny o 0 32
  | none => none

/-- GSCALE must be finite and nonzero. -/
def gscaleBad (norm : List Byte) : Bool :=
  let g := fp32.decode (leAt norm 16 4)
  !g.isFinite || g.isZero

/-! ### STATS -/

/-- Store the workspace in T1 and let no older T0 copy of it stand. -/
def Dev.putWorkspace (d : Dev) (k : Nat) (bs : List Byte) : Option Dev :=
  match d.ensureT1 k with
  | none => none
  | some d =>
    match d.obj? k with
    | none => some d
    | some o =>
      let d := d.write1 o.extA 0 bs
      some ((List.range o.unitCount).foldl (fun d u =>
        (d.release0 k u).setUnit k u { (d.release0 k u).unitOf k u with t1 := tsRESIDENT, dirty1 := true }) d)

/-- The statistics of a tensor, formed by its unit (R247). -/
def Dev.runStats (d : Dev) (q i k : Nat) (e c : Cmd) (norm : List Byte) : Dev :=
  let v := d.viewAt q i
  let og := (d.objOf v (updGrad c)).2
  let om := (d.objOf v (updMom2 c)).2
  if !og.valid1 then d.failPart q i 0 (if og.unreadable1 then St.tierPoison else St.objectAbsent)
  else if om.unreadable1 then d.failPart q i 0 St.eccUncorrectable
  else
    let g := d.gradient og c (fp32.decode (leAt norm 16 4))
    let old := d.vec1 om.curExt 0 0xE (mom2Bytes c / 4)
    if (g ++ old).any (fun x => !x.isFinite) then d.acrFail q i k St.nonfinite 3
    else
      let f := if updIsVec c then vecStats e old g else matStats e (updRows c) (updCols c) old g
      if (f.r ++ f.c ++ [f.s, f.rho, f.gsq]).any (fun x => !x.isFinite) then d.acrFail q i k St.nonfinite 3
      else
        let step := ((d.newest (d.qJob q)).map (fun r => r.step)).getD 0
        match d.putWorkspace (d.objOf v (updStatsWs c)).1 (f.bytes (updMaster c) step (updIsVec c)) with
        | some d => d.partRan q i 0 0 0 (updWork e c true)
        | none => d.failPart q i 0 St.quotaExceeded

/-- STATS (R247): it reads GSCALE of the norm record alone (log entry 30). A frozen group is skipped (R249), and in ASSIST
mode nothing is done (R260). -/
def effectStats (q i : Nat) (d : Dev) : Dev :=
  d.when (d.partReady q i 0 opSTATS) fun d =>
    let c := d.cmdBody q i
    let v := d.viewAt q i
    let j := d.qJob q
    let k := d.updStack v c
    let e := d.grpCurrent j (updGroup c)
    if grpFrozen e = 1 then d.frozenSkip q i k c
    else
      match d.updStart v j k e c true with
      | some st => d.failPart q i 0 st
      | none =>
        if d.assist (acrPage k 0) then d.partRan q i 0 0 0 0
        else
          d.when (!d.flag (F.acrState_busy k) && d.windowFree k) fun d =>
            match d.stageT1 [(d.objOf v (updGrad c)).1] (some (d.objOf v (updStatsWs c)).1) with
            | none => d
            | some d =>
              match d.normRecord v j with
              | none => d.failPart q i 0 St.objectAbsent
              | some norm =>
                if gscaleBad norm then d.failPart q i 0 St.badField else (d.takeUnit k).runStats q i k e c norm

/-- STATS: its own effect, then what follows at once. -/
def execStats (q i : Nat) (s : State) : Host.Outcome State Fault Refusal := s.act (effectStats q i)

/-! ### UPDATE -/

/-- The workspace of a factored update holds what R247 asks. -/
def wsValid (ws : List Byte) (master step : Nat) : Bool :=
  leAt ws 0 4 == master && bitOf (leAt ws 4 1) 0 && leAt ws 8 8 == step

/-- An object joins the write set (R251): its inactive buffer will become current at the flip. -/
def Dev.joinWrites (d : Dev) (j : Nat) (keys : List Nat) (master bytes : Nat) : Dev :=
  let x := d.job j
  let x := { x with flips := x.flips ++ keys, writeSet := insertBy id master x.writeSet }
  let x := match d.newest j with
    | some r => { x with ring := mapPut x.ring (d.rd (F.ldgJobState_head j)) { r with writeBytes := r.writeBytes + bytes } }
    | none => x
  d.setJob j x

/-- Count a singular tensor (R248). -/
def Dev.countDegen (d : Dev) (q k : Nat) (c : Cmd) : Dev :=
  let j := d.qJob q
  let st := d.grpStats j (updGroup c)
  let d := d.incSat (F.acrDegenCnt_count j) 1
  let d := d.setGrpStats j (updGroup c) { st with degen := satAdd 16 st.degen 1 }
  let d := match d.newest j with
    | some r => d.setJob j { d.job j with ring := mapPut (d.job j).ring (d.rd (F.ldgJobState_head j)) { r with degen := satAdd 16 r.degen 1 } }
    | none => d
  d.raise (acrPage k 0) 1 St.degenerateStats (d.causeOf q c)

/-- The rule's draws for a BF16 momentum: site 3, the master's INDEX, pass 0 (R246). -/
def Dev.momRnd (d : Dev) (j : Nat) (e c : Cmd) (n : Nat) : Rnd :=
  if grpMomFmt e = 1 then .near
  else .draw (draw16 (d.job j).seed (((d.newest j).map (fun r => r.step)).getD 0) (updMaster c % 2 ^ 20) 3 0 n)

/-- Twins into the inactive buffers; answers whether a value saturated. -/
def Dev.putTwins (d : Dev) (v : Nat) (c : Cmd) (w : List FVal) : Dev × Bool :=
  if updTwinMode c = 0 then (d, false)
  else
    let f := putTwin d.t1 (d.objOf v (updTwinF c)).2.idleExt (twinTens c false) (fun r n => nthD w (r * updCols c + n) FVal.zero)
    let t := putTwin f.1 (d.objOf v (updTwinT c)).2.idleExt (twinTens c true) (twinSource c w)
    ((d.setT1 t.1), f.2 || t.2)

/-- The update proper (R245, R246, R250 to R252): every output is computed, checked and written to the inactive buffers. -/
def Dev.runUpdate (d : Dev) (q i k : Nat) (e c : Cmd) (norm : List Byte) : Dev :=
  let v := d.viewAt q i
  let j := d.qJob q
  let obj (h : Nat) : Obj := (d.objOf v h).2
  let n := updElems c
  let step := ((d.newest j).map (fun r => r.step)).getD 0
  let wsObj := obj (updStatsWs c)
  let ws := if ruleFac e then d.read1 wsObj.curExt 0 (wsBytes c) else []
  let ins := [updMaster c, updMom1 c, updMom2 c].filter (· != 0)
  if (ruleFac e && wsObj.unreadable1) || (obj (updGrad c)).unreadable1 then d.failPart q i 0 St.tierPoison
  else if ruleFac e ∧ !(wsObj.valid1 && wsValid ws (updMaster c) step) then d.failPart q i 0 St.badField
  else if ins.any (fun h => (obj h).unreadable1) then d.failPart q i 0 St.eccUncorrectable
  else if !(obj (updGrad c)).valid1 then d.failPart q i 0 St.objectAbsent
  else
    let t := updTerms e c norm
    let g := d.gradient (obj (updGrad c)) c t.gscale
    let w := d.vec1 (obj (updMaster c)).curExt 0 0xE n
    let m := if ruleMom e then d.vec1 (obj (updMom1 c)).curExt 0 (momCode e) n else []
    let old := if ruleFac e then d.vec1 (obj (updMom2 c)).curExt 0 0xE (mom2Bytes c / 4) else []
    let r := if ruleFac e then facRule e c t w m g old ws else plainRule e t w m g
    let mom := (List.range r.m.length).map (fun x => (elemEnc (momCode e) (d.momRnd j e c x) (nthD r.m x FVal.zero)))
    if (g ++ w ++ m ++ old ++ r.w ++ r.m ++ r.m2 ++ [t.kappa, t.eta, t.lam]).any (fun x => !x.isFinite)
        || mom.any (fun x => x.2 == .saturate) then
      d.acrFail q i k St.nonfinite 3
    else
      let d1 := d.putVec1 (obj (updMaster c)).idleExt 0 0xE (r.w.map code32)
      let d1 := if ruleMom e then d1.putVec1 (obj (updMom1 c)).idleExt 0 (momCode e) (mom.map (fun x => x.1)) else d1
      let d1 := if ruleFac e then d1.putVec1 (obj (updMom2 c)).idleExt 0 0xE (r.m2.map code32) else d1
      let tw := d1.putTwins v c r.w
      if tw.2 then d.acrFail q i k St.overflowExhausted 6
      else
        let sq := fun (x : FVal) => r64 (x.mul x)
        let w2 := dSum (w.map sq)
        let d2 := dSum (List.zipWith (fun a b => sq (r64 (a.sub b))) r.w w)
        let keys := ([updMaster c, updMom1 c, updMom2 c, updTwinF c, updTwinT c].filter (· != 0)).map (fun h => (d.objOf v h).1)
        let bytes := 4 * n + (if ruleMom e then n * (elemBits (momCode e) / 8) else 0) + (if ruleFac e then mom2Bytes c else 0)
          + (if updTwinMode c = 0 then 0 else (twinTens c false).len + (twinTens c true).len)
        let d := tw.1.joinWrites j keys (updMaster c) bytes
        let d := d.setAcr { d.acr with sums := d.acr.sums ++ [⟨j, updGroup c, updMaster c, code64 w2, code64 d2⟩],
                                       norms := mapPut d.acr.norms j norm }
        let d := if r.degen then d.countDegen q k c else d
        d.partRan q i 0 0 (if r.degen then St.degenerateStats else 0) (updWork e c false)

/-! ### Waiting for an image (12_step_ledger.md R281) -/

/-- The UPDATE would write an inactive buffer that an unfinished image is taken from. -/
def Dev.imageBlocks (d : Dev) (v j : Nat) (c : Cmd) : Bool :=
  match (d.job j).drain with
  | none => false
  | some dr => [updMaster c, updMom1 c, updMom2 c, updTwinF c, updTwinT c].any fun h =>
      h != 0 && dr.image.objs.any (fun o => o.handle == h) && !d.absent v h

/-- The wait begins: DRAIN_STALL, and the bound's clock stops. -/
def Dev.stallBegin (d : Dev) (q i : Nat) : Dev :=
  let j := d.qJob q
  if (d.job j).stallFrom ≠ 0 then d
  else
    let d := d.setJob j { d.job j with stallFrom := d.now + 1, stallNext := d.now }
    let d := match d.cmdAt q i with
      | some e => d.setCmd q { e with parts := e.parts.map (fun (x : Part) => { x with held := d.now + 1 }) }
      | none => d
    d.raiseFor (d.qPart q) (pfPage .ldg 0 0) 3 St.drainStall (d.causeOf q (d.cmdBody q i))

/-- The wait ends: its time goes to STALL_US, and the bound is moved by it. -/
def Dev.stallEnd (d : Dev) (q i : Nat) : Dev :=
  let j := d.qJob q
  if (d.job j).stallFrom = 0 then d
  else
    let us := (d.now + 1 - (d.job j).stallFrom) / usQ
    let d := d.incSat (F.ldgStallUs j) us
    let x := { d.job j with stallFrom := 0, stallNext := 0 }
    let x := match d.newest j with
      | some r => { x with ring := mapPut x.ring (d.rd (F.ldgJobState_head j)) { r with stallUs := satAdd 32 r.stallUs us } }
      | none => x
    let d := d.setJob j x
    match d.cmdAt q i with
    | some e => d.setCmd q { e with parts := e.parts.map (fun (x : Part) =>
        if x.held = 0 then x else { x with held := 0, bound := (if x.bound = 0 then 0 else x.bound + (d.now + 1 - x.held)) }) }
    | none => d

/-! ### Assisted updates (R260) -/

/-- An alias of a buffer: an object of the partition whose T1 copy is that buffer. -/
def aliasObj (o : Obj) (gen part : Nat) (idle : Bool) : Obj :=
  let a : Obj := { o with gen := gen, live := true, kind := kSTEP, owner := part, cur := 0, ref1 := 0, wset := 0, keep := 0,
                          attr := 0, extA := if idle then o.idleExt else o.curExt, extB := [], t2Addr := 0, old := [],
                          alias_ := if idle then 2 else 1, units := [] }
  { a with units := (List.range a.unitCount).map (fun u => (u, ({ t1 := tsRESIDENT } : TUnit))) }

/-- Create one alias in the partition's handle space, at its lowest free index (log entry 31). -/
def Dev.makeAlias (d : Dev) (part : Nat) (o : Obj) (idle : Bool) : Option (Nat × Dev) :=
  match d.freeIndex part 0 0xF0000 with
  | none => none
  | some i =>
    let k := part * 2 ^ 20 + i
    let g := match d.obj? k with
      | some o => o.gen
      | none => 1
    some (k, d.setObj k (aliasObj o g part idle))

/-- Both aliases of each object, with the registers of page 3. -/
def Dev.makeAliases (d : Dev) (st part : Nat) : List (Nat × Nat) → Option (List (Nat × Nat × Nat) × Dev)
  | [] => some ([], d)
  | (n, k) :: rest =>
    match d.obj? k with
    | none => none
    | some o =>
      match d.makeAlias part o false with
      | none => none
      | some (a, d) =>
        match d.makeAlias part o true with
        | none => none
        | some (b, d) =>
          let hnd (d : Dev) (x : Nat) : Nat := ((d.obj? x).map (objHandle x)).getD 0
          let d := (d.wr (F.acrAssistIn st n) (hnd d a)).wr (F.acrAssistOut st n) (hnd d b)
          match d.makeAliases st part rest with
          | none => none
          | some (l, d) => some ((a, b, k) :: l, d)

/-- The device opens the work record of an assisted UPDATE. -/
def Dev.assistUpdate (d : Dev) (q i k : Nat) (c : Cmd) : Dev :=
  let v := d.viewAt q i
  let keys := ((List.range 5).zip [updMaster c, updMom1 c, updMom2 c, updTwinF c, updTwinT c]).filterMap fun x =>
    if x.2 = 0 then none else some (x.1, (d.objOf v x.2).1)
  let clean := (List.range 5).foldl (fun d n => (d.wr (F.acrAssistIn k n) 0).wr (F.acrAssistOut k n) 0) d
  match clean.makeAliases k (viewPart v) keys with
  | none => d.failPart q i 0 St.noResource
  | some (l, d) =>
    match d.sixAlloc 7 (viewPart v) (d.qJob q) 0 (updMaster c) 0xFF with
    | none => d.failPart q i 0 St.noResource
    | some (h, d) =>
      let d := d.setAcr { d.acr with assist := mapPut d.acr.assist k { handle := h, q := q, i := i, aliases := l } }
      let d := d.wr (F.acrAssistOp k) h
      let d := d.wr (F.acrAssistCmd k) (((d.cmdAt q i).map (fun e => e.handle)).getD 0)
      let d := (d.wr (F.acrAssistGrp_group k) (updGroup c)).wr (F.acrAssistGrp_job k) (d.qJob q)
      d.assistOpen (acrPage k 0)

/-- UPDATE (R245): it waits while an unfinished image reads the buffers it would write (R281); a frozen group is skipped
(R249); in ASSIST mode it opens a work record (R260). -/
def effectUpdate (q i : Nat) (d : Dev) : Dev :=
  d.when (d.partReady q i 0 opUPDATE) fun d =>
    let c := d.cmdBody q i
    let v := d.viewAt q i
    let j := d.qJob q
    let k := d.updStack v c
    let e := d.grpCurrent j (updGroup c)
    if grpFrozen e = 1 then d.frozenSkip q i k c
    else if d.imageBlocks v j c then d.stallBegin q i
    else
      let d := d.stallEnd q i
      match d.updStart v j k e c false with
      | some st => d.failPart q i 0 st
      | none =>
        if d.assist (acrPage k 0) then
          (if (mapLook d.acr.assist k).isSome then d else d.assistUpdate q i k c)
        else
          d.when (!d.flag (F.acrState_busy k) && d.windowFree k) fun d =>
            match d.stageT1 (([updGrad c, updStatsWs c].filter (· != 0)).map (fun h => (d.objOf v h).1)) none with
            | none => d
            | some d =>
              match d.normRecord v j with
              | none => d.failPart q i 0 St.objectAbsent
              | some norm =>
                if gscaleBad norm then d.failPart q i 0 St.badField else (d.takeUnit k).runUpdate q i k e c norm

/-- UPDATE: its own effect, then what follows at once. -/
def execUpdate (q i : Nat) (s : State) : Host.Outcome State Fault Refusal := s.act (effectUpdate q i)

/-- An alias ends: its T0 copies are released and it names no object any more; its extents stay the buffer's. -/
def Dev.dropAlias (d : Dev) (k : Nat) : Dev :=
  match d.obj? k with
  | none => d
  | some o =>
    let d := (List.range o.unitCount).foldl (fun d u => d.release0 k u) d
    d.setObj k { o with live := false, gen := nextGen o.gen, extA := [], units := [] }

/-- ACR_ASSIST_DOORBELL (R260): the OUT copies are written back to the inactive buffers, the aliases deleted, the objects join
the write set, and the UPDATE completes with the host's sums. -/
def effectAcrAssistDoorbell (f k h : Nat) (d : Dev) : Dev :=
  match mapLook d.acr.assist k with
  | none => d.badDoorbell f (acrPage k 0)
  | some a =>
    if a.handle ≠ h then d.badDoorbell f (acrPage k 0)
    else
      let c := d.cmdBody a.q a.i
      let j := d.qJob a.q
      let d := (d.flushAll (a.aliases.map (fun x => x.2.1))).getD d
      let bytes := sumBy (fun x => ((d.obj? x.2.2).map Obj.bytes).getD 0) a.aliases
      let d := a.aliases.foldl (fun d x => (d.dropAlias x.1).dropAlias x.2.1) d
      let d := d.setAcr { d.acr with assist := mapDel d.acr.assist k }
      let d := (d.setFlag (hAssistWait (acrPage k 0)) false).sixRelease h St.ok
      d.when (d.partReady a.q a.i 0 opUPDATE) fun d =>
        let d := d.joinWrites j (a.aliases.map (fun x => x.2.2)) (updMaster c) bytes
        let w2 := d.rd64 (F.acrAssistW2Lo k) (F.acrAssistW2Hi k)
        let d2 := d.rd64 (F.acrAssistD2Lo k) (F.acrAssistD2Hi k)
        let norms := match d.normRecord (d.viewAt a.q a.i) j with
          | some n => mapPut d.acr.norms j n
          | none => d.acr.norms
        let d := d.setAcr { d.acr with sums := d.acr.sums ++ [⟨j, updGroup c, updMaster c, w2, d2⟩], norms := norms }
        d.partRan a.q a.i 0 0 0 (updWork (d.grpCurrent j (updGroup c)) c false)

/-- ACR_ASSIST_DOORBELL: its own effect, then what follows at once. -/
def execAcrAssistDoorbell (f k h : Nat) (s : State) : Host.Outcome State Fault Refusal := s.act (effectAcrAssistDoorbell f k h)

end Sys2Proof.Machine
end

