-- ==== Sys2Proof/Machine/Scale.lean ====
section
/-! DEFINITION. Delayed scaling: the scale table of a job, its history and the rewriting of descriptors
(07_formats_and_scaling.md R155 to R160). -/

namespace Sys2Proof.Machine

/-- The view of a job's own objects: its partition with the attempt's bindings. -/
def Dev.jobView (d : Dev) (j : Nat) : Nat := d.rd (F.ldgJobCfg_part j) + 8 * (d.job j).binds

/-- The scale table object of a job, when LDG_SCALE_BASE names a live one. -/
def Dev.scaleTable (d : Dev) (j : Nat) : Option (Nat × Obj) :=
  if d.rd (F.ldgScaleBase_handle j) = 0 then none else d.resolve (d.jobView j) (d.rd (F.ldgScaleBase_handle j))

/-- The 128 bytes of entry `n`, as a number, where the table holds it and can be read. -/
def Dev.scaleEntry (d : Dev) (j n : Nat) : Option Nat :=
  match d.scaleTable j with
  | some (_, o) => if o.bytes < 128 * (n + 1) then none else (d.readAny o (128 * n) 128).map ofLeBytes
  | none => none

/-- Fields of an entry. -/
def seCur (x : Nat) : Nat := bitsAt x 0 32
def seValid (x : Nat) : Bool := bitOf x 32
def seDelay (x : Nat) : Bool := bitOf x 33
def seFmt (x : Nat) : Nat := bitsAt x 36 4
def seFixed (x : Nat) : Int := signedOf 8 (bitsAt x 40 8)
def seApplied (x : Nat) : Int := signedOf 8 (bitsAt x 64 8)
def seCount (x : Nat) : Nat := bitsAt x 72 8
def seHead (x : Nat) : Nat := bitsAt x 80 8
def seProd (x : Nat) : Nat := bitsAt x 96 32
def seCons (x k : Nat) : Nat := bitsAt x (128 + 32 * k) 32
def seHist (x k : Nat) : Nat := bitsAt x (256 + 32 * k) 32

/-- Write bytes of an entry. -/
def Dev.putEntry (d : Dev) (j n off : Nat) (bs : List Byte) : Dev :=
  match d.scaleTable j with
  | some (k, _) => d.writeAny k (128 * n + off) bs
  | none => d

/-- Apply `f` to every valid entry. -/
def Dev.eachEntry (d : Dev) (j : Nat) (f : Dev → Nat → Nat → Dev) : Dev :=
  match d.scaleTable j with
  | none => d
  | some (_, o) =>
    (List.range (min 4096 (o.bytes / 128))).foldl (fun d n =>
      match d.scaleEntry j n with
      | some x => if seValid x then f d n x else d
      | none => d) d

/-- The part's largest |y| raises CUR_AMAX of its entry (R157). -/
def Dev.raiseAmax (d : Dev) (j n : Nat) (y : FVal) : Dev :=
  match d.scaleEntry j n with
  | some x => if seValid x ∧ (fp32.decode (seCur x)).lt y then d.putEntry j n 0 (leBytes 4 (code32 y)) else d
  | none => d

/-- At a commit every valid maximum enters the history (R157). -/
def Dev.scaleCommit (d : Dev) (j : Nat) : Dev :=
  d.eachEntry j fun d n x =>
    let d := d.putEntry j n (32 + 4 * (seHead x % 24)) (leBytes 4 (seCur x))
    let d := d.putEntry j n 9 (leBytes 1 (min 24 (seCount x + 1)) ++ leBytes 1 ((seHead x + 1) % 24))
    d.putEntry j n 0 (leBytes 4 0)

/-- At an abort the maxima are cleared (R157). -/
def Dev.scaleAbort (d : Dev) (j : Nat) : Dev := d.eachEntry j fun d n _ => d.putEntry j n 0 (leBytes 4 0)

/-- When RESTORE completes, COUNT and CUR_AMAX of every entry are cleared (R157). -/
def Dev.scaleRestore (d : Dev) (j : Nat) : Dev :=
  d.eachEntry j fun d n _ => (d.putEntry j n 0 (leBytes 4 0)).putEntry j n 9 (leBytes 1 0)

/-- T_d of an entry (R158). -/
def scaleDelayed (x hist margin : Nat) : Int :=
  let n := min hist (seCount x)
  let a := (List.range n).foldl (fun (a : FVal) k => a.max (fp32.decode (seHist x ((seHead x + 24 - 1 - k) % 24)))) FVal.zero
  match a, codeMax (seFmt x) with
  | .fin _ m e, .fin _ mf ef =>
    if m = 0 then seFixed x else max (-127) (min 127 (floorLog2Ratio mf ef m e - Int.ofNat margin))
  | _, _ => seFixed x

/-- The SCALE code of a consumer descriptor after a multiplication by 2^k; none outside FP32's normal range. -/
def rescale (old : FVal) (k : Int) : Option Nat :=
  match old.scale k with
  | .fin s m e =>
    if m = 0 ∨ ilog2 m e < -126 ∨ ilog2 m e > 127 then none else some (code32 (.fin s m e))
  | _ => none

/-- Consumer descriptors of an entry with their new SCALE; none where one would leave the normal range or cannot be read. -/
def Dev.newScales (d : Dev) (v x : Nat) (k : Int) : Option (List (Nat × Nat × Nat)) :=
  (([0, 1, 2].map (seCons x)).filter (· != 0)).foldl (fun acc h =>
    match acc, d.resolve v h with
    | some l, some (key, o) =>
      (match d.readAny o 0 12 with
       | some bs =>
         let old := if bitOf (leAt bs 2 1) 0 then fp32.decode (leAt bs 8 4) else FVal.one
         (rescale old k).map (fun c => l ++ [(key, leAt bs 2 1, c)])
       | none => none)
    | _, _ => none) (some [])

/-- R160 for one entry: TSCALE of the producer, SCALE of every consumer, APPLIED_T; or SCALE_REFUSED and nothing changed. -/
def Dev.applyScale (d : Dev) (j n x : Nat) (t : Int) : Dev :=
  if t = seApplied x then d
  else
    let v := d.jobView j
    match d.newScales v x (seApplied x - t) with
    | none => d.raise (pfPage .ldg 0 4) (8 + j) St.ok
    | some l =>
      let d := match d.resolve v (seProd x) with
        | some (k, _) => d.writeAny k 7 (leBytes 1 (unsignedOf 8 t))
        | none => d
      let d := l.foldl (fun d e => (d.writeAny e.1 2 (leBytes 1 (e.2.1 ||| 1))).writeAny e.1 8 (leBytes 4 e.2.2)) d
      d.putEntry j n 8 (leBytes 1 (unsignedOf 8 t))

/-- The regime of the step that opens (R159), and the descriptors it needs (R160). -/
def Dev.scaleOpen (d : Dev) (j : Nat) : Dev :=
  if d.rd (F.ldgScaleBase_handle j) = 0 then d
  else
    let mode := d.rd (F.ldgScaleCfg_mode j)
    let delayed := mode == 2 || (mode == 0 && d.rd (F.ldgScaleState_remain j) != 0)
    let d := if boolNat delayed = d.rd (F.ldgScaleState_regime j) then d
      else (d.setFlag (F.ldgScaleState_regime j) delayed).raise (pfPage .ldg 0 4) j St.ok
    d.eachEntry j fun d n x =>
      if seDelay x then
        d.applyScale j n x (if delayed then scaleDelayed x (d.rd (F.ldgScaleCfg_hist j)) (d.rd (F.ldgScaleCfg_margin j)) else seFixed x)
      else d

end Sys2Proof.Machine
end

