-- ==== Sys2Proof/Machine/LedgerOps.lean ====
section
/-! DEFINITION. What a step's opening, vote, flip and abort do to the device (12_step_ledger.md R261 to R282; 10_tiers R218, R220;
11_acrek R255, R256; 15_groups R356). -/

namespace Sys2Proof.Machine

/-- Job states of LDG_JOB_STATE.JOB. -/
def jsRUNNING : Nat := 1
def jsPARKING : Nat := 2
def jsPARKED : Nat := 3
def jsENDED : Nat := 4
def jsSUPERSEDED : Nat := 5

def Dev.jobSt (d : Dev) (j : Nat) : Nat := d.rd (F.ldgJobState_job j)
def Dev.setJobSt (d : Dev) (j st : Nat) : Dev := d.wr (F.ldgJobState_job j) st

/-- A job's events go to LDG page 0. -/
def Dev.raiseLdg (d : Dev) (j bit status : Nat) : Dev :=
  let r := d.newest j
  d.raise ldgPage bit status { step := ((r.map (fun r => r.step)).getD 0) % 2 ^ 32, job := j,
                               attempt := ((r.map (fun r => r.attempt)).getD 0) % 256 }

/-- The job is placed: it has opened a step or been restored. -/
def Dev.jobKnown (d : Dev) (j : Nat) : Bool := (d.job j).opened || d.jobSt j != 0

/-- The job whose commit group a message names. -/
def Dev.jobOfGroup (d : Dev) (g : Nat) : Option Nat :=
  (List.range 8).find? (fun j => d.jobKnown j && d.commitGroup j == g)

/-- This device coordinates the newest attempt. -/
def Dev.coordinates (d : Dev) (j : Nat) : Bool := (d.job j).coordRank == d.grpRank (d.commitGroup j)

/-- COORD of LDG_JOB_STATE follows. -/
def Dev.showCoord (d : Dev) (j : Nat) : Dev := d.setFlag (F.ldgJobState_coord j) (d.coordinates j)

/-! ### Space at the end of a step -/

/-- Release a unit's copies in every tier without write-back; a T0 copy that a part still holds goes when its reference ends
(log entry 34). -/
def Dev.discardUnit (d : Dev) (k u : Nat) : Dev :=
  let d := d.dropT0 k u
  let x := d.unitOf k u
  d.setUnit k u { x with t1 := tsABSENT, t2 := tsABSENT, dirty0 := false, dirty1 := false, src := 0, tries := 0, retryAt := 0,
                         refill := false }

/-- A widened object takes its own format and size again. -/
def Obj.narrow (o : Obj) : Obj := { o with fmt := 0x1F, sizeL := if o.wasL = 0 then o.sizeL else o.wasL, wasL := 0 }

/-- STEP objects of a job: every copy is released, KEEP and FMT are cleared (R218); formats widened by a repeat end with the step
(07_formats_and_scaling.md R163); tags of STEP objects are freed (R354). -/
def Dev.releaseStep (d : Dev) (j : Nat) : Dev :=
  let keys := (d.tir.objs.filter (fun e => e.2.kind == kSTEP && e.2.job == j && e.2.alias_ == 0)).map (fun e => e.1)
  let d := keys.foldl (fun d k =>
    match d.obj? k with
    | none => d
    | some o =>
      let d := (o.units.map (fun e => e.1)).foldl (fun d u => d.discardUnit k u) d
      let d := match d.obj? k with
        | some o => d.setObj k { o.narrow with keep := 0 }
        | none => d
      d.trimT1 k) d
  let d := d.setTir { d.tir with objs := d.tir.objs.map (fun e => if e.2.job = j ∧ e.2.fmt ≠ 0x1F then (e.1, e.2.narrow) else e),
                                 writeBacks := d.tir.writeBacks.filter (fun w => not (keys.contains w.1)) }
  d.setCol { d.col with tags := d.col.tags.filter (fun t => not (keys.contains t.2.obj)) }

/-- Every T0 copy of a job's committed objects becomes LEAVING and is kept aside for the references taken on it (R220). -/
def Obj.setAside (o : Obj) : Obj :=
  o.units.foldl (fun (o : Obj) e =>
    if e.2.valid0 then
      let x := e.2
      { (o.setUnit e.1 { x with t0 := tsABSENT, base0 := 0, rgn0 := 0, ref0 := 0, dirty0 := false }) with
        old := o.old ++ [{ unit := e.1, base0 := x.base0, rgn0 := x.rgn0, refs := x.ref0 }], attr := if o.attr = 2 then 0 else o.attr }
    else o) o

/-- The flip of the write set (R271) and what R220 does to T0 copies; a new current buffer is unpoisoned. -/
def Dev.flipBuffers (d : Dev) (j : Nat) : Dev :=
  let fl := (d.job j).flips
  let objs := d.tir.objs.map fun e =>
    if e.2.kind = kCOMMITTED ∧ e.2.job = j then
      let o := e.2.setAside
      if fl.contains e.1 then
        (e.1, { o with cur := 1 - o.cur, units := o.units.map (fun u => (u.1, { u.2 with t1 := tsRESIDENT })) })
      else (e.1, o)
    else e
  let mine := fun (r : TRef) => match d.obj? r.obj with
    | some o => o.kind == kCOMMITTED && o.job == j
    | none => false
  d.setTir { d.tir with objs := objs, refs := d.tir.refs.map (fun r => if mine r then { r with old := true } else r) }

/-! ### Statistics at a commit (R164, R255, R256) -/

/-- One group's record after a commit, from its sums. -/
def GrpStats.commit (x : GrpStats) (w2 d2 : FVal) (lo : FVal) (limit : Nat) : GrpStats :=
  let ratio := if w2.isZero then FVal.zero else fDiv (fRoot d2) (fRoot w2)
  let quietStep := d2.isZero || (!w2.isZero && ratio.lt lo)
  let run := if quietStep then satAdd 32 x.quiet 1 else 0
  { x with w2 := code64 w2, d2 := code64 d2, ratio := code32 ratio, quiet := run,
           zero := (if d2.isZero then x.zero + 1 else x.zero) % 2 ^ 32,
           fired := quietStep && (x.fired || (limit != 0 && run == limit)) }

/-- Update the records of the groups that the attempt's UPDATEs changed, and raise QUIET_GROUP where a run reaches the limit. -/
def Dev.commitGroups (d : Dev) (j : Nat) : Dev :=
  let mine := d.acr.sums.filter (fun s => s.job == j)
  let groups := (mine.map (fun s => s.group)).eraseDups
  let d := groups.foldl (fun d g =>
    let ss := sortBy (fun (s : AcrSum) => s.master) (mine.filter (fun s => s.group == g))
    let w2 := dSum (ss.map (fun s => fp64.decode s.w2))
    let d2 := dSum (ss.map (fun s => fp64.decode s.d2))
    let old : GrpStats := d.grpStats j g
    let x : GrpStats := old.commit w2 d2 (fp32.decode (d.rd (F.acrRatioLo_ratio j))) (d.rd (F.acrQuietLimit_limit j))
    let d := d.setGrpStats j g x
    if x.fired ∧ !old.fired then (d.wr (F.acrQuietLast_group j) g).raise (acrPage 0 0) 0 St.quietGroup { job := j } else d) d
  d.setAcr { d.acr with sums := d.acr.sums.filter (fun s => s.job != j) }

/-- B_noise of R256: its FP32 value, or none when it is not valid. -/
def noiseScale (norm : List Byte) : Option FVal :=
  let g2 := fp64.decode (leAt norm 0 8)
  let l2 := fp64.decode (leAt norm 8 8)
  let small := leAt norm 20 4
  let big := leAt norm 24 4
  if big ≤ small ∨ small = 0 then none
  else
    let m (x y : FVal) : FVal := r64 (x.mul y)
    let q (x y : FVal) : FVal := r64 (x.quot y)
    let s (x y : FVal) : FVal := r64 (x.sub y)
    let nb := FVal.ofNat big
    let ns := FVal.ofNat small
    let g := q (s (m nb g2) (m ns l2)) (s nb ns)
    let sig := q (s l2 g2) (s (q FVal.one ns) (q FVal.one nb))
    if FVal.zero.lt g then some (r32 (q sig g)) else none

/-- ACR_NOISE and the record's norm terms, for a step whose UPDATEs read a norm record. -/
def Dev.commitNoise (d : Dev) (j : Nat) : Dev :=
  match mapLook d.acr.norms j with
  | none => d
  | some norm =>
    let b := noiseScale norm
    let v := ((b.map code32).getD 0)
    let k := (F.acrQuietLast_group j).addr
    let d := d.wr (F.acrNoise_value j) v
    let d := d.wr ⟨k, 31, 1⟩ (boolNat b.isSome)
    let d := d.updNewest j (fun r => { r with g2 := leAt norm 0 8, l2 := leAt norm 8 8, bNoise := v })
    d.setAcr { d.acr with norms := mapDel d.acr.norms j }

/-! ### Images (R278 to R283) -/

/-- The current buffer's non-zero bytes of an object. -/
def Dev.bufferCells (d : Dev) (o : Obj) : List (Nat × Byte) := d.slice1 o.curExt 0 o.bytes

/-- Register keys that hold the membership and routing of a job's groups. -/
def Dev.routingOf (d : Dev) (j : Nat) : List (Nat × Word) :=
  let gs := (List.range 4096).filter (fun g => d.grpValid g && (d.grp g).job == j)
  gs.flatMap fun g =>
    ((F.colGrpCfg_owner.bank g).addr :: (List.range (2 * (d.grp g).size)).map (fun r => ((F.colMember r).bank g).addr)
      ++ (List.range (ceilDiv (d.grp g).size 4)).map (fun r => ((F.colMpart r).bank g).addr)).map (fun k => (k, d.reg k))

/-- The image of a job's committed state as it stands (R279). -/
def Dev.takeImage (d : Dev) (j : Nat) (r : LedgerRec) : Image :=
  let objs := d.tir.objs.filter (fun e => e.2.kind == kCOMMITTED && e.2.job == j && e.2.live)
  { job := j, rank := d.grpRank (d.commitGroup j), step := r.step, complete := true, recStep := r.step, recState := r.state,
    recChk := r.seedChk, cursor := r.cursor, seed := (d.job j).seed, seedChk := d.rd (F.rngSeedChk j), rngStep := r.step,
    objs := objs.map (fun e => ⟨objHandle e.1 e.2, e.2.sizeL, e.2.stack, d.bufferCells e.2⟩),
    groups := (d.acr.current.filter (fun e => e.1 / 4096 == j)).map (fun e => (e.1 % 4096, e.2)), routing := d.routingOf j }

/-- Bytes of an image's objects. -/
def imageBytes (im : Image) : Nat := sumBy (fun o => o.sizeL * 64) im.objs

/-- Byte `a` of an image's objects laid end to end (log entry 42 for what a chunk carries). -/
def imageByte : List ImageObj → Nat → Byte
  | [], _ => 0
  | o :: os, a => if a < o.sizeL * 64 then mapGet 0 o.data a else imageByte os (a - o.sizeL * 64)

/-- Chunk `i` of an image: 1 MiB, the last one shorter. -/
def imageChunk (im : Image) (i : Nat) : List Byte :=
  (List.range (min (2 ^ 20) (imageBytes im - i * 2 ^ 20))).map (fun a => imageByte im.objs (i * 2 ^ 20 + a))

/-- Start the drain of an image, in 1 MiB chunks each with its Street Index entry; one that does not fit the store fails
(R280; log entry 12 for the store's four equal slots). -/
def Dev.startDrain (d : Dev) (j : Nat) (r : LedgerRec) : Dev :=
  let im := d.takeImage j r
  let nbr := d.rd (F.ldgNbr_state j)
  if nbr ≠ 1 ∧ nbr ≠ 2 then d
  else if d.rd F.ldgStore_extents / 4 * extentBytes < imageBytes im then d.raiseLdg j 5 St.noResource
  else
    let n := ceilDiv (imageBytes im) (2 ^ 20)
    let host := nbr == 2 || r.ckptHost
    let d := d.setJob j { d.job j with drain := some { image := im, left := n, hostWait := host } }
    let d := d.setFlag (F.ldgCkptState_draining j) true
    let g := d.commitGroup j
    let to_ := d.rd (F.ldgNbr_rank j)
    (List.range n).foldl (fun d i =>
      let bytes := imageChunk im i
      let m := d.newMsg
      let head : MsgHead := { queue := 0, step := r.step % 2 ^ 32, group := g, rank := d.grpRank g, len := bytes.length }
      match m.2.sixAlloc 5 ownDevice j 0 0 0xFF with
      | some (h, d) =>
        let d := d.setJob j { d.job j with drain := (d.job j).drain.map (fun x => { x with handles := x.handles ++ [h] }) }
        d.post (d.memberOf g to_) (d.rd (F.ldgJobCfg_part j)) (nthD (d.grp g).parts to_ 0)
          { no := m.1, head := head, rest := bytes, handle := h, q := j, use := 1 }
      | none =>
        m.2.post (d.memberOf g to_) (d.rd (F.ldgJobCfg_part j)) (nthD (d.grp g).parts to_ 0)
          { no := m.1, head := head, rest := bytes, q := j, use := 1 }) d

/-- An image that is due starts, or waits for the one that drains (R278, R280). -/
def Dev.dueImage (d : Dev) (j : Nat) (r : LedgerRec) : Dev :=
  let ev := d.rd (F.ldgJobCfg_ckptEvery j)
  let r := { r with ckptHost := r.ckptHost || d.flag (F.ldgJobCfg_ckptHost j) }
  if r.ckpt || (ev != 0 && r.step % ev == 0) then
    if (d.job j).drain.isSome then
      (d.setJob j { d.job j with waitingStep := some r }).setFlag (F.ldgCkptState_waiting j) true
    else d.startDrain j r
  else d

/-- The drain ends; an image that waits starts. -/
def Dev.drainOver (d : Dev) (j status : Nat) : Dev :=
  let hs := ((d.job j).drain.map (fun x => x.handles)).getD []
  let d := hs.foldl (fun d h => d.sixRelease h status) d
  let d := (d.setJob j { d.job j with drain := none }).setFlag (F.ldgCkptState_draining j) false
  match (d.job j).waitingStep with
  | none => d
  | some r =>
    let d := (d.setJob j { d.job j with waitingStep := none }).setFlag (F.ldgCkptState_waiting j) false
    d.startDrain j r

/-! ### The end of an attempt -/

/-- A job that was parking is parked at its step boundary (R287). -/
def Dev.parkAtBoundary (d : Dev) (j : Nat) : Dev :=
  if d.jobSt j = jsPARKING ∧ !d.attemptLive j then (d.setJobSt j jsPARKED).raiseLdg j 7 St.parked else d

/-- What commit and abort share: step-scoped space goes, bindings end, the stall of an UPDATE is over, a parking job parks. -/
def Dev.stepOver (d : Dev) (j : Nat) : Dev :=
  let d := d.releaseStep j
  let d := d.unbind (d.job j).binds
  let d := d.setJob j { d.job j with binds := 0, boundFrom := 0, stallFrom := 0, stallNext := 0, querying := false }
  d.parkAtBoundary j

/-- Queues that the step's failure stopped resume with the command after Q_ERR.INDEX (R76). -/
def Dev.resumeStopped (d : Dev) (j step : Nat) : Dev :=
  (List.range 256).foldl (fun d q =>
    if d.qJob q = j ∧ (d.queue q).stoppedBy = step + 1 ∧ d.qSt q = qsSTOPPED then
      d.leaveStopped q
    else d) d

/-- The newest attempt ends ABORTED (R275): record, registers, event; maxima and sums are discarded; queues resume. -/
def Dev.abortAttempt (d : Dev) (j reason rank t : Nat) : Dev :=
  if d.attemptLive j then
    let step := ((d.newest j).map (fun r => r.step)).getD 0
    let d := d.updNewest j (fun r => { r with reason := reason, reasonRank := rank, tEnd := t })
    let d := d.setStepState j stABORTED
    let d := (d.wr (F.ldgAbortLast_status j) reason).wr (F.ldgAbortLast_rank j) rank
    let d := d.scaleAbort j
    let d := d.setAcr { d.acr with sums := d.acr.sums.filter (fun s => s.job != j), norms := mapDel d.acr.norms j }
    let d := d.raiseLdg j 0 reason
    (d.stepOver j).resumeStopped j step
  else d

/-- The flip (R271): the write set changes CUR, the record becomes COMMITTED, and R157, R164, R255 and R256 take effect; then an
image that is due starts. -/
def Dev.flip (d : Dev) (j t : Nat) : Dev :=
  let d := d.flipBuffers j
  let d := d.updNewest j (fun r => { r with flipped := true, tEnd := t, tFlip := d.now })
  let d := d.setStepState j stCOMMITTED
  let step := ((d.newest j).map (fun r => r.step)).getD 0
  let d := d.wr64 (F.ldgCommittedLo j) (F.ldgCommittedHi j) step
  let d := d.scaleCommit j
  let d := d.wr (F.ldgScaleState_remain j) (d.rd (F.ldgScaleState_remain j) - 1)
  let d := (d.commitGroups j).commitNoise j
  let d := match d.newest j with
    | some r => d.dueImage j r
    | none => d
  d.stepOver j

/-! ### Red lights -/

/-- The 40 bytes of a RED body. -/
def redBody (g reason rank origin step attempt t : Nat) : List Byte :=
  [0x26, 0] ++ leBytes 2 g ++ leBytes 2 reason ++ leBytes 2 rank ++ leBytes 8 origin ++ leBytes 8 step ++ leBytes 2 attempt
    ++ leBytes 6 0 ++ leBytes 8 t

/-- The member originates a red light for its attempt (R356). -/
def Dev.originateRed (d : Dev) (j reason rank : Nat) : Dev :=
  if (d.job j).redSeen then d
  else
    let g := d.commitGroup j
    let m := d.ldgMsg j 0
    let body := redBody g reason rank d.deviceId m.step m.attempt d.now
    let rs := d.others j
    let d := rs.foldl (fun d r => d.sendCtrl (d.memberOf g r) 7 body) d
    let d := d.setJob j { d.job j with redSeen := true }
    let d := d.incSat F.colRedTx rs.length
    d.raise colPage 5 reason { job := j }

/-! ### Coordination -/

/-- The coordinator's decision goes to every member, itself included (R268). -/
def Dev.decide_ (d : Dev) (j : Nat) (commit : Bool) (t reason rank : Nat) : Dev :=
  let x := d.job j
  let me := d.grpRank (d.commitGroup j)
  let dec : Decision := { commit := commit, t := t, decided := d.now, reason := reason, reasonRank := rank, rank := me, term := x.term }
  let d := d.setJob j { x with decision := some dec, boundFrom := 0, querying := false }
  let m := { d.ldgMsg j (if commit then 2 else 3) with reason := reason, reasonRank := rank, t := if commit then t else d.now }
  let d := (d.others j).foldl (fun d r => d.sendLdg j r m) d
  let d := d.updNewest j (fun r => { r with tDecide := d.now, coord := me, term := x.term,
                                            votes := (x.votes.filter (fun v => v.ready)).length })
  if commit then d else d.abortAttempt j reason rank d.now

/-- The lowest rank of a list, 0xFFFF for none. -/
def lowest (l : List Nat) : Nat := (minBy id l).getD 0xFFFF

/-- The coordinator decides once its votes allow (R268). -/
def Dev.coordDecide (d : Dev) (j : Nat) : Dev :=
  let x := d.job j
  if x.decision.isSome ∨ x.querying ∨ !d.coordinates j then d
  else
    match x.votes.find? (fun v => !v.ready) with
    | some v => d.decide_ j false 0 v.reason v.reasonRank
    | none =>
      let g := d.commitGroup j
      let own := ((x.votes.find? (fun v => v.rank == d.grpRank g)).map (fun v => v.digest.take 24)).getD []
      if (List.range (d.grpSize g)).all (fun r => x.votes.any (fun v => v.rank == r)) then
        let bad := (x.votes.filter (fun v => v.digest.take 24 != own)).map (fun v => v.rank)
        if bad = [] then d.decide_ j true (d.now + d.rd F.ldgCfg_lead * usQ) 0 0xFFFF
        else d.decide_ j false 0 St.versionMismatch (lowest bad)
      else d

/-- The vote digest (R267). -/
def Dev.voteDigest (d : Dev) (j : Nat) (r : LedgerRec) : List Byte :=
  let groups := (List.range 4096).flatMap (fun g => leBytes 48 (mapGet 0 d.acr.current (j * 4096 + g)))
  leBytes 8 r.step ++ leBytes 4 r.rosterEpoch ++ leBytes 2 r.layoutEpoch ++ leBytes 2 r.attempt ++ leBytes 4 r.seedChk
    ++ leBytes 4 (crc32c groups) ++ leBytes 4 (d.job j).sealUpdates
    ++ leBytes 4 (crc32c ((d.job j).writeSet.flatMap (leBytes 4)))

/-- Show the waiting work record of the lowest job in the registers of R274. -/
def Dev.showLdgAssist (d : Dev) : Dev :=
  match (List.range 8).find? (fun j => (d.job j).assist != 0) with
  | none => (d.wr F.ldgAssistOp 0).setFlag (hAssistWait ldgPage) false
  | some j =>
    let x := d.job j
    let v := x.votes.find? (fun v => v.rank == d.grpRank (d.commitGroup j))
    let d := d.wr F.ldgAssistOp x.assist
    let d := (d.wr F.ldgAssistVote_job j).wr F.ldgAssistVote_ready (boolNat ((v.map (fun v => v.ready)).getD false))
    let d := d.wr F.ldgAssistVote_reason ((v.map (fun v => v.reason)).getD 0)
    let m := d.ldgMsg j 0
    let d := (d.wr64 (F.ldgAssistStep 0) (F.ldgAssistStep 1) m.step).wr F.ldgAssistAtt m.attempt
    let dg := (v.map (fun v => v.digest)).getD []
    (List.range 8).foldl (fun d k => d.wr (F.ldgAssistDigest k) (leAt dg (4 * k) 4)) d

/-- The vote bound in qns (R269). -/
def Dev.voteBound (d : Dev) (j : Nat) : Nat :=
  d.timeout ldgPage (max (100 * msQ) (ceilDiv (4 * (d.job j).voteWork) 750))

/-- The vote bound starts. -/
def Dev.startBound (d : Dev) (j : Nat) : Dev :=
  if (d.job j).boundFrom = 0 then d.setJob j { d.job j with boundFrom := d.now + 1 } else d

/-- This device's vote, taken by itself as coordinator, sent to the coordinator, or written to the host's work record (R274). -/
def Dev.castVote (d : Dev) (j : Nat) (v : Vote) : Dev :=
  let d := d.setJob j { d.job j with votes := d.job j |>.votes |>.filter (fun w => w.rank != v.rank) |> (· ++ [v]), voted := v.ready,
                                     heard := d.now }
  let d := d.updNewest j (fun r => { r with tVote := d.now, digest := v.digest, updates := (d.job j).updatesDone })
  if d.assist ldgPage then
    match d.sixAlloc 7 (d.rd (F.ldgJobCfg_part j)) j 0 0 0xFF with
    | some (h, d) => ((d.setJob j { d.job j with assist := h }).showLdgAssist).assistOpen ldgPage v.reason
    | none => d
  else if d.coordinates j then (d.startBound j).coordDecide j
  else d.sendLdg j (d.job j).coordRank { d.ldgMsg j 1 with flags := boolNat v.ready, reason := v.reason, reasonRank := v.reasonRank,
                                                            digest := if v.ready then v.digest else [] }

/-- A job is superseded (R273). -/
def Dev.supersede (d : Dev) (j : Nat) : Dev := (d.setJobSt j jsSUPERSEDED).raiseLdg j 10 St.ok

/-- Jobs whose READY attempt a D3 reset left undecided ask their group (R288). -/
def Dev.askDecisions (d : Dev) : Dev :=
  (List.range 8).foldl (fun d j =>
    if (d.job j).recovering then
      (List.range (d.grpSize (d.commitGroup j))).foldl (fun d r =>
        if r = d.grpRank (d.commitGroup j) then d else d.sendLdg j r (d.ldgMsg j 5)) d
    else d) d

/-! ### Neighbours (R282) -/

/-- Failure-domain label `i` (0 site, 1 feed, 2 chassis, 3 rack) of 64 bits of labels. -/
def labelOf (x i : Nat) : Nat := bitsAt x (16 * i) 16

/-- Two labels are known and differ. -/
def labelsDiffer (a b : Nat) : Bool := a != b && a != 0xFFFF && b != 0xFFFF

/-- The device's own labels, and those of a member as the roster gives them (unknown without a record). -/
def Dev.ownLabels (d : Dev) : Nat :=
  d.rd F.ldgFd0_site + d.rd F.ldgFd0_feed * 2 ^ 16 + d.rd F.ldgFd1_chassis * 2 ^ 32 + d.rd F.ldgFd1_rack * 2 ^ 48

def Dev.labelsOf (d : Dev) (dev : Nat) : Nat :=
  if dev = d.deviceId then d.ownLabels else ((mapLook d.col.roster dev).map (fun r => r.labels)).getD (2 ^ 64 - 1)

/-- The neighbour of a job is chosen (R282). -/
def Dev.chooseNeighbour (d : Dev) (j : Nat) : Dev :=
  let g := d.commitGroup j
  let n := d.grpSize g
  let me := d.grpRank g
  let own := d.ownLabels
  let lab (r : Nat) : Nat := d.labelsOf (d.memberOf g r)
  let diff (i r : Nat) : Bool := labelsDiffer (labelOf own i) (labelOf (lab r) i)
  let after := (range' 1 (n - 1)).map (fun k => (me + k) % n)
  let pick := if d.flag (F.ldgNbr_auto j) then
      (match after.find? (fun r => diff 1 r && diff 3 r) with
       | some r => some r
       | none => match after.find? (diff 1) with
         | some r => some r
         | none => after.head?)
    else some (d.rd (F.ldgNbr_rank j))
  match pick with
  | none => d.wr (F.ldgNbr_state j) 0
  | some r =>
    let same := !diff 0 r && !diff 1 r
    let d := d.wr (F.ldgNbr_rank j) r
    if !same then d.wr (F.ldgNbr_state j) 1
    else if d.flag (F.ldgNbr_pairForce j) then d.wr (F.ldgNbr_state j) 2
    else (d.wr (F.ldgNbr_state j) 3).raiseLdg j 6 St.pairRefused

end Sys2Proof.Machine
end

