-- ==== Sys2Proof/Machine/CollPlan.lean ====
section
/-! DEFINITION. Collectives before they run: the choice of algorithm, the schedule of every rank, the segment size, the operands and
the checks (15_groups_and_collectives.md R343 to R351). -/

namespace Sys2Proof.Machine

/-- Bytes of an element of a DTYPE: FP32, BF16, FP64, INT32, BYTES. -/
def collEs : Nat → Nat
  | 0 => 4 | 1 => 2 | 2 => 8 | 3 => 4 | _ => 1

def collN (c : Cmd) : Nat := colCountM1 c + 1

/-- Commands that reduce; commands of a body with COUNT in bytes. -/
def collReduces (op : Nat) : Bool := op == opALLREDUCE || op == opREDUCE_SCATTER
def collBytesOnly (op : Nat) : Bool := op == opSEND || op == opRECV || op == opBCAST_CHAIN || op == opBARRIER

/-- The whole vector in bytes. -/
def collLen (c : Cmd) : Nat := collN c * (if collBytesOnly (cmdOpcode c) then 1 else collEs (colDtype c))

/-- Chunk `r` of `n`: first byte and bytes (R344). -/
def chunkOf (c : Cmd) (n r : Nat) : Nat × Nat :=
  let es := collEs (colDtype c)
  let lo := r * collN c / n
  (lo * es, ((r + 1) * collN c / n - lo) * es)

/-- Algorithms: 1 RING, 2 DBTREE, 3 DIRECT, 4 HIER, 5 dissemination, 6 local copy. -/
def algRING : Nat := 1
def algDBTREE : Nat := 2
def algDIRECT : Nat := 3
def algHIER : Nat := 4
def algDISS : Nat := 5
def algLOCAL : Nat := 6

/-- The racks of a group's members: ranks by rack label, in rank order (R345). -/
def Dev.racks (d : Dev) (g : Nat) : List (List Nat) :=
  let n := d.grpSize g
  let lab (r : Nat) : Nat := labelOf (d.labelsOf (d.memberOf g r)) 3
  (((List.range n).map lab).eraseDups).map (fun l => (List.range n).filter (fun r => lab r == l))

/-- At least two racks, each with the same number, at least two, of members. -/
def racksOk (rs : List (List Nat)) : Bool :=
  decide (2 ≤ rs.length) && rs.all (fun r => decide (2 ≤ r.length) && r.length == ((rs.head?.map List.length).getD 0))

/-- The algorithm of a command (table Algorithm choice), or none where the explicit one is refused. -/
def collAlg (c : Cmd) (n : Nat) (racks : List (List Nat)) : Option Nat :=
  let op := cmdOpcode c
  let s := collLen c
  if op = opBARRIER then some (if n ≤ 16 then algDIRECT else algDISS)
  else if colAlg c = algDIRECT ∧ 16 < n then none
  else if colAlg c = algHIER ∧ !racksOk racks then none
  else if colAlg c = algDBTREE then some (if n = 1 then algLOCAL else if op = opALLREDUCE then algDBTREE else algRING)
  else if n = 1 then some algLOCAL
  else if colAlg c ≠ 0 then some (colAlg c)
  else if n ≤ 16 ∧ s ≤ 4 * 2 ^ 20 then some algDIRECT
  else if op = opALLREDUCE ∧ s ≤ 512 * 1024 then some algDBTREE
  else if racksOk racks then some algHIER
  else some algRING

/-! ### Schedules -/

/-- The ranges of a chunk as transfers of the vector with a rank. -/
def chunkX (rank : Nat) (rs : List (Nat × Nat)) : List Xfer := (rs.filter (fun r => r.2 != 0)).map (fun r => ⟨rank, 0, r.1, r.2⟩)

/-- RING among members `m`, this one at position `p`: n − 1 rounds of reduce-scatter. -/
def ringReduce (m : List Nat) (p : Nat) (ch : Nat → List (Nat × Nat)) : List CollStep :=
  let n := m.length
  (List.range (n - 1)).map fun t =>
    { sends := chunkX (nthD m ((p + 1) % n) 0) (ch ((p + 2 * n - 1 - t) % n)),
      recvs := chunkX (nthD m ((p + n - 1) % n) 0) (ch ((p + 2 * n - 2 - t) % n)), add := true }

/-- n − 1 rounds of all-gather. -/
def ringGather (m : List Nat) (p : Nat) (ch : Nat → List (Nat × Nat)) : List CollStep :=
  let n := m.length
  (List.range (n - 1)).map fun t =>
    { sends := chunkX (nthD m ((p + 1) % n) 0) (ch ((p + 2 * n - t) % n)),
      recvs := chunkX (nthD m ((p + n - 1) % n) 0) (ch ((p + 2 * n - 1 - t) % n)) }

/-- DIRECT: each chunk to its owner; the owner's chunk to every member. -/
def directReduce (n me : Nat) (ch : Nat → List (Nat × Nat)) : CollStep :=
  let others := (List.range n).filter (· != me)
  { sends := others.flatMap (fun j => chunkX j (ch j)), recvs := others.flatMap (fun j => chunkX j (ch me)), add := true }

def directGather (n me : Nat) (ch : Nat → List (Nat × Nat)) : CollStep :=
  let others := (List.range n).filter (· != me)
  { sends := others.flatMap (fun j => chunkX j (ch me)), recvs := others.flatMap (fun j => chunkX j (ch j)) }

/-- The two trees: in the first the node numbered k has children 2k + 1 and 2k + 2, in the second the ranks are numbered from the
other end (log entry 39). -/
def treePos (half n r : Nat) : Nat := if half = 0 then r else n - 1 - r

/-- One half of the vector up its tree and down again. -/
def treeSteps (half n me : Nat) (r : Nat × Nat) : List CollStep :=
  let k := treePos half n me
  let kids := ([2 * k + 1, 2 * k + 2].filter (fun x => decide (x < n))).map (treePos half n)
  let up := if k = 0 then [] else [treePos half n ((k - 1) / 2)]
  [{ recvs := kids.flatMap (fun j => chunkX j [r]), add := true }, { sends := up.flatMap (fun j => chunkX j [r]) },
   { recvs := up.flatMap (fun j => chunkX j [r]) }, { sends := kids.flatMap (fun j => chunkX j [r]) }]

/-- The two halves of a vector. -/
def halves (c : Cmd) : List (Nat × Nat) :=
  let es := collEs (colDtype c)
  let h := collN c / 2 * es
  [(0, h), (h, collLen c - h)]

/-- HIER: within the rack, among equal positions of the racks, and back. -/
def hierSteps (op : Nat) (racks : List (List Nat)) (me : Nat) (ch : Nat → Nat × Nat) : List CollStep :=
  let g := (racks.findIdx? (fun r => r.contains me)).getD 0
  let rack := nthD racks g []
  let p := (rack.findIdx? (· == me)).getD 0
  let peers := racks.map (fun r => nthD r p 0)
  let set_ (k : Nat) : List (Nat × Nat) := racks.map (fun r => ch (nthD r k 0))
  let mine (k : Nat) : List (Nat × Nat) := [ch (nthD peers k 0)]
  (if op = opALLGATHER then [] else ringReduce rack p set_ ++ ringReduce peers g mine)
    ++ (if op = opREDUCE_SCATTER then [] else ringGather peers g mine ++ ringGather rack p set_)

/-- BARRIER: a byte to and from every member, or ⌈log₂ n⌉ rounds of dissemination. -/
def barrierSteps (alg n me : Nat) : List CollStep :=
  if alg = algDIRECT then
    let others := (List.range n).filter (· != me)
    [{ sends := others.map (fun j => ⟨j, 5, 0, 1⟩), recvs := others.map (fun j => ⟨j, 5, 0, 1⟩) }]
  else
    (List.range (clog2 n)).map fun k =>
      { sends := [⟨(me + 2 ^ k) % n, 5, 0, 1⟩], recvs := [⟨(me + n - 2 ^ k % n) % n, 5, 0, 1⟩] }

/-- BCAST_CHAIN in 1 MiB chunks, each sent on as soon as it has arrived. -/
def chainSteps (c : Cmd) (n me : Nat) : List CollStep :=
  let p := (me + n - colPeer c % n) % n
  let len := collLen c
  let k := ceilDiv len (2 ^ 20)
  let x (rank i : Nat) : List Xfer := [⟨rank, 0, i * 2 ^ 20, min (2 ^ 20) (len - i * 2 ^ 20)⟩]
  let nxt (i : Nat) : List Xfer := if p + 1 < n then x ((me + 1) % n) i else []
  let prv (i : Nat) : List Xfer := if p = 0 then [] else x ((me + n - 1) % n) i
  (List.range k).flatMap fun i => [{ recvs := prv i }, { sends := nxt i }]

/-- The schedule of one rank, from the body and the group alone. -/
def collSteps (c : Cmd) (alg n me : Nat) (racks : List (List Nat)) : List CollStep :=
  let op := cmdOpcode c
  let ch (r : Nat) : List (Nat × Nat) := [chunkOf c n r]
  let all := List.range n
  if op = opBARRIER then barrierSteps alg n me
  else if op = opBCAST_CHAIN then chainSteps c n me
  else if op = opSEND then [{ sends := [⟨colPeer c, 1, 0, collLen c⟩] }]
  else if op = opRECV then [{ recvs := [⟨colPeer c, 0, 0, collLen c⟩] }]
  else if alg = algLOCAL then []
  else if alg = algDIRECT then
    (if op = opALLGATHER then [] else [directReduce n me ch]) ++ (if op = opREDUCE_SCATTER then [] else [directGather n me ch])
  else if alg = algDBTREE then
    ((halves c).zipIdx).flatMap (fun h => treeSteps h.2 n me h.1)
  else if alg = algHIER then hierSteps op racks me (chunkOf c n)
  else
    (if op = opALLGATHER then [] else ringReduce all me ch) ++ (if op = opREDUCE_SCATTER then [] else ringGather all me ch)

/-- Bytes that one rank sends to another, and segments they make. -/
def pairSends (steps : List CollStep) (j : Nat) : List Nat :=
  (steps.flatMap (fun s => s.sends)).filterMap (fun x => if x.rank = j then some x.len else none)

/-- The segment size (R344): SEG_MAX, unless some pair would then exchange more than 4,096 segments. -/
def segmentSize (c : Cmd) (alg n segMax : Nat) (racks : List (List Nat)) : Nat :=
  let pairs := (List.range n).flatMap (fun r =>
    let st := collSteps c alg n r racks
    ((st.flatMap (fun s => s.sends.map (fun x => x.rank))).eraseDups).map (pairSends st))
  if pairs.all (fun l => decide (sumBy (fun x => ceilDiv x segMax) l ≤ 4096)) then segMax
  else roundUp (ceilDiv ((pairs.map (sumBy id)).foldl max 0) 4096) 64

/-! ### Operands and checks -/

/-- ALLTOALL: experts of the group, and a dispatch buffer's tensor. -/
def a2aD (c : Cmd) : Nat := a2aDM1 c + 1

/-- The rank of the device in a command's group. -/
def collGroupOf (c : Cmd) : Nat := if cmdOpcode c = opALLTOALL then a2aGroup c else colGroup c

/-- The operands that a collective touches in T0; a destination that the Acrek units add into is none of them (R257). -/
def Dev.collOpnds (d : Dev) (view : Nat) (c : Cmd) (acr : Bool) : List Opnd :=
  let op := cmdOpcode c
  let g := collGroupOf c
  let n := d.grpSize g
  let me := d.grpRank g
  let own := (chunkOf c n me).2
  let src (len : Nat) : Opnd := bytesOpnd (colSrc c) (colSrcOff c * 64) len
  let dst (len : Nat) : List Opnd := if acr then [] else [bytesOpnd (colDst c) (colDstOff c * 64) len true (colAcc c == 1)]
  if op = opALLTOALL then
    let e := n * a2aEpr c
    [(let t := denseTens (a2aFmt c) 1 1; { t.opnd (a2aSrc c) with len := (d.objOf view (a2aSrc c)).2.bytes }),
     { handle := a2aDst c, len := (d.objOf view (a2aDst c)).2.bytes, write := true },
     bytesOpnd (a2aCounts c) 0 (8 * e) (a2aDir c == 0)]
      ++ (if a2aDir c = 0 then [bytesOpnd (a2aStats c) 0 (16 * e)] else [])
  else if op = opBARRIER then []
  else if op = opSEND then [src (collLen c)]
  else if op = opRECV then dst (collLen c)
  else if op = opBCAST_CHAIN then (if me = colPeer c then [src (collLen c)] else []) ++ dst (collLen c)
  else if op = opREDUCE_SCATTER then src (collLen c) :: dst own
  else if op = opALLGATHER then src own :: dst (collLen c)
  else src (collLen c) :: dst (collLen c)
where
  denseTens (code rows cols : Nat) : Tens := { code := code, off := 0, rows := rows, cols := cols, pitch := densePitch code cols }

/-- Field values that no group makes good (R345, R347, R350). -/
def collFieldBad (c : Cmd) : Bool :=
  let op := cmdOpcode c
  if op = opALLTOALL then a2aEpr c == 0 || decide (0x11 < a2aFmt c) || a2aFmt c == 0xF
  else
    decide (4 < colAlg c) || colSite c == 3 || decide (4 < colDtype c) || (collReduces op && colDtype c == 4)

/-- What a collective's part finds wrong when it starts: its group, its algorithm, its peer, its extents, its destination (log
entry 40). -/
def Dev.collBad (d : Dev) (view : Nat) (c : Cmd) (acr : Bool) : Bool :=
  let op := cmdOpcode c
  let g := collGroupOf c
  let n := d.grpSize g
  !d.grpValid g || (op != opALLTOALL && (collAlg c n (d.racks g)).isNone)
    || ((op == opSEND || op == opRECV || op == opBCAST_CHAIN) && decide (n ≤ colPeer c))
    || (d.collOpnds view c acr).any (d.beyond view)
    || (collReduces op && (match d.resolve view (colDst c) with
        | some (_, o) => o.kind == kCOMMITTED || decide (o.bytes < colDstOff c * 64 + (if op = opREDUCE_SCATTER then
            (chunkOf c n (d.grpRank g)).2 else collLen c))
        | none => false))

/-- The Acrek units add incoming segments (R347): a reduction whose element format they have, with SITE 2 or a chunk of at least
ACR_MIN, where the unit of every stack of the destination is ACTIVE (log entry 41). -/
def Dev.collAcr (d : Dev) (view : Nat) (c : Cmd) : Bool :=
  let g := collGroupOf c
  let n := d.grpSize g
  collReduces (cmdOpcode c) && decide (colDtype c ≤ 2) && colSite c != 1
    && (colSite c == 2 || decide (d.rd F.colCfg_acrMin * 65536 ≤ (chunkOf c n (d.grpRank g)).2))
    && (match d.resolve view (colDst c) with
        | some (k, o) =>
          let st := if o.extA ≠ [] then o.extA.map (fun e => e / 65536)
            else if o.stack < 6 then [o.stack]
            else (List.range o.extents).map (fun i => nthD d.liveStacks ((k % 2 ^ 20 + i) % d.liveStacks.length) 0)
          o.kind != kCOMMITTED && st.all (fun s => d.rd (F.acrState_state s) == 0)
        | none => false)

end Sys2Proof.Machine
end

