-- ==== Sys2Proof/Machine/Coll.lean ====
section
/-! DEFINITION. Collectives as they run: their buffers, segments sent and posted, received bytes placed or added, their ends; the
commands ALLREDUCE to BARRIER, RESHARD and the bound of a wait (15_groups_and_collectives.md R343 to R354). -/

namespace Sys2Proof.Machine

/-- The collective of a command in execution. -/
def Dev.coll? (d : Dev) (q i : Nat) : Option Coll := d.col.colls.find? (fun c => c.q == q && c.i == i)

def Dev.updColl (d : Dev) (q i : Nat) (f : Coll → Coll) : Dev :=
  d.setCol { d.col with colls := d.col.colls.map (fun c => if c.q = q ∧ c.i = i then f c else c) }

/-! ### Buffers -/

/-- Where a range of the vector lies: in DST, or in receive staging for a chunk that REDUCE_SCATTER leaves to others. -/
def vecAt (c : Cmd) (n me off : Nat) : Option Nat :=
  let own := chunkOf c n me
  if cmdOpcode c = opREDUCE_SCATTER then
    (if own.1 ≤ off ∧ off < own.1 + own.2 then some (colDstOff c * 64 + (off - own.1)) else none)
  else some (colDstOff c * 64 + off)

/-- The objects that the buffers 1 to 4 of a command are, and where they begin. -/
def bufObj (c : Cmd) (buf : Nat) : Nat × Nat :=
  let a2a := cmdOpcode c == opALLTOALL
  match buf with
  | 1 => if a2a then (a2aSrc c, 0) else (colSrc c, colSrcOff c * 64)
  | 2 => if a2a then (a2aDst c, 0) else (colDst c, colDstOff c * 64)
  | 3 => (a2aCounts c, 0)
  | _ => (a2aStats c, 0)

/-- Bytes of an object as the part sees it: its T0 copy, or its T1 copy where the Acrek units add into it (R257). -/
def Dev.collRead (d : Dev) (x : PartId) (inT1 : Bool) (h off n : Nat) : List Byte :=
  let o := (d.partObj x h).2
  if inT1 then d.read1 o.curExt off n else d.read0 o off n

def Dev.collWrite (d : Dev) (x : PartId) (inT1 : Bool) (h off : Nat) (bs : List Byte) : Dev :=
  let e := d.partObj x h
  if inT1 then
    (e.2.unitsOf off bs.length).foldl (fun d u => if (d.unitOf e.1 u).refill then d else d.setUnit e.1 u { d.unitOf e.1 u with dirty1 := true })
      (d.write1 e.2.curExt off bs)
  else d.write0 e.1 off bs

/-- Bytes of a buffer of a collective. -/
def Dev.bufRead (d : Dev) (k : Coll) (c : Cmd) (buf off n : Nat) : List Byte :=
  let x : PartId := ⟨k.q, k.i, 0⟩
  if buf = 5 then List.replicate n 0
  else if buf = 0 then
    match vecAt c (d.grpSize k.group) (d.grpRank k.group) off with
    | some o => d.collRead x k.acr (colDst c) o n
    | none => k.stage.readBytes off n
  else d.collRead x false (bufObj c buf).1 ((bufObj c buf).2 + off) n

def Dev.bufWrite (d : Dev) (k : Coll) (c : Cmd) (buf off : Nat) (bs : List Byte) : Dev :=
  let x : PartId := ⟨k.q, k.i, 0⟩
  if buf = 5 then d
  else if buf = 0 then
    match vecAt c (d.grpSize k.group) (d.grpRank k.group) off with
    | some o => d.collWrite x k.acr (colDst c) o bs
    | none => d.updColl k.q k.i (fun k => { k with stage := k.stage.writeBytes off bs })
  else d.collWrite x false (bufObj c buf).1 ((bufObj c buf).2 + off) bs

/-! ### Additions (R94, R257, R348) -/

/-- One element of a DTYPE with another added in. -/
def addElem (dtype : Nat) (rnd : Rnd) (a b : Nat) : Nat :=
  match dtype with
  | 0 => fp32.ieeeCode .near ((fp32.decode a).add (fp32.decode b))
  | 1 => bf16.ieeeCode rnd ((bf16.decode a).add (bf16.decode b))
  | 2 => fp64.ieeeCode .near ((fp64.decode a).add (fp64.decode b))
  | _ => (a + b) % 2 ^ 32

/-- The draw of an addition: the reducer's at site 2 by the element's place in the whole vector (R348), the Acrek units' at site 3
by its place in the destination (R257; log entry 41). -/
def Dev.addDraw (d : Dev) (k : Coll) (c : Cmd) (rank off e : Nat) : Rnd :=
  let seed := (d.job (d.qJob k.q)).seed
  let step := if cmdStep c then ((d.newest (d.qJob k.q)).map (fun r => r.step)).getD 0 else 0
  if k.acr then
    let own := chunkOf c (d.grpSize k.group) (d.grpRank k.group)
    let base := if cmdOpcode c = opREDUCE_SCATTER then own.1 else 0
    .draw (draw16 seed step (colDst c % 2 ^ 20) 3 (1 + rank) ((off - base) / 2 + e))
  else .draw (draw16 seed step (colStream c) 2 (1 + rank) (off / 2 + e))

/-- The bytes of a range of the vector with a rank's bytes added in. -/
def Dev.addBytes (d : Dev) (k : Coll) (c : Cmd) (rank off : Nat) (old bs : List Byte) : List Byte :=
  let es := collEs (colDtype c)
  (List.range (bs.length / es)).flatMap fun e =>
    leBytes es (addElem (colDtype c) (d.addDraw k c rank off e) (leAt old (e * es) es) (leAt bs (e * es) es))

/-- Add a rank's bytes into the vector; the Acrek units count the lines (ACR_ADD_LINES). -/
def Dev.addInto (d : Dev) (k : Coll) (c : Cmd) (rank buf off : Nat) (bs : List Byte) : Dev :=
  let d' := d.bufWrite k c buf off (d.addBytes k c rank off (d.bufRead k c buf off bs.length) bs)
  if k.acr then
    match vecAt c (d.grpSize k.group) (d.grpRank k.group) off with
    | some o =>
      let stack := nthD ((d.partObj ⟨k.q, k.i, 0⟩ (colDst c)).2.curExt) (o / extentBytes) 0 / 65536
      d'.inc (F.acrAddLines_lines stack) (ceilDiv bs.length 64)
    | none => d'
  else d'

/-! ### ALLTOALL (R350, R351) -/

/-- Word `k` of the count object, and the kept count of an expert. -/
def Dev.countAt (d : Dev) (k : Coll) (c : Cmd) (w : Nat) : Nat := ofLeBytes (d.bufRead k c 3 (4 * w) 4)
def Dev.keptAt (d : Dev) (k : Coll) (c : Cmd) (e : Nat) : Nat := ofLeBytes (d.bufRead k c 4 (16 * e) 4)

/-- The ranges of `n` rows from row `b` of a buffer: elements, then scales of MX rows. -/
def Dev.rowRanges (d : Dev) (view h : Nat) (c : Cmd) (b n : Nat) : List (Nat × Nat) :=
  let code := a2aFmt c
  let pitch := densePitch code (a2aD c)
  let one := pitch / 8 + (if codeMx code then roundUp (ceilDiv (a2aD c) 32) 64 else 0)
  let rows := (d.objOf view h).2.bytes / max one 1
  let t : Tens := { code := code, off := 0, rows := rows, cols := a2aD c, pitch := pitch }
  [(b * (pitch / 8), n * (pitch / 8))] ++ (if codeMx code then [(t.plane + b * t.scalePitch, n * t.scalePitch)] else [])

/-- Transfers of a buffer for rows, empty ones left out. -/
def rowX (rank buf : Nat) (rs : List (Nat × Nat)) : List Xfer := (rs.filter (fun r => r.2 != 0)).map (fun r => ⟨rank, buf, r.1, r.2⟩)

/-- First row of local expert `l` from source `s` at the hosting rank. -/
def Dev.hostRow (d : Dev) (k : Coll) (c : Cmd) (n s l : Nat) : Nat :=
  let r := a2aEpr c
  sumBy (fun l' => sumBy (fun s' => d.countAt k c (s' * r + l')) (List.range n)) (List.range l)
    + sumBy (fun s' => d.countAt k c (s' * r + l)) (List.range s)

/-- The phase that moves rows: to the hosting ranks, or back. -/
def Dev.rowPhase (d : Dev) (k : Coll) (c : Cmd) : CollStep :=
  let n := d.grpSize k.group
  let me := d.grpRank k.group
  let r := a2aEpr c
  let view := d.viewAt k.q k.i
  let sent (e : Nat) : Nat := d.countAt k c (n * r + e)
  let base (e : Nat) : Nat := sumBy sent (List.range e)
  let host := if a2aDir c = 0 then 2 else 1
  let home := if a2aDir c = 0 then 1 else 2
  let hostX (s l : Nat) : List Xfer :=
    rowX s host (d.rowRanges view (bufObj c host).1 c (d.hostRow k c n s l) (d.countAt k c (s * r + l)))
  let homeX (j l : Nat) : List Xfer := rowX j home (d.rowRanges view (bufObj c home).1 c (base (j * r + l)) (sent (j * r + l)))
  let others := (List.range n).filter (· != me)
  let hosted := others.flatMap (fun s => (List.range r).flatMap (hostX s))
  let homes := others.flatMap (fun j => (List.range r).flatMap (homeX j))
  let local_ := List.zip ((List.range r).flatMap (homeX me)) ((List.range r).flatMap (hostX me))
  if a2aDir c = 0 then { sends := homes, recvs := hosted, copies := local_ }
  else { sends := hosted, recvs := homes, copies := local_.map (fun x => (x.2, x.1)) }

/-- The phase that exchanges counts. -/
def countPhase (c : Cmd) (n me : Nat) : CollStep :=
  let r := a2aEpr c
  let others := (List.range n).filter (· != me)
  { sends := others.map (fun j => ⟨j, 3, 4 * (n * r + j * r), 4 * r⟩), recvs := others.map (fun s => ⟨s, 3, 4 * (s * r), 4 * r⟩),
    copies := [(⟨me, 3, 4 * (n * r + me * r), 4 * r⟩, ⟨me, 3, 4 * (me * r), 4 * r⟩)] }

/-! ### Segments -/

/-- A transfer cut into segments. -/
def cutSegs (size : Nat) (x : Xfer) : List Xfer :=
  (List.range (ceilDiv x.len size)).map (fun k => { x with off := x.off + k * size, len := min size (x.len - k * size) })

/-- Number the segments of a list of transfers, each rank's in order, from the counts so far. -/
def numberSegs (counts : List (Nat × Nat)) (xs : List Xfer) : List (Nat × Nat) × List (Xfer × Nat) :=
  xs.foldl (fun acc x => (mapPut acc.1 x.rank (mapGet 0 acc.1 x.rank + 1), acc.2 ++ [(x, mapGet 0 acc.1 x.rank)])) (counts, [])

/-- Sequence value of SEND and RECV messages. -/
def seqSEND : Nat := 255

/-- MSG_ID of a segment (R343). -/
def segId (g seq seg : Nat) : Nat := g * 2 ^ 20 + seq * 4096 + seg % 4096

/-- Segments that wait go out while the Street Index has entries (R237, R344). -/
def Dev.collPushGo : Nat → Dev → Nat → Nat → Cmd → Dev
  | 0, d, _, _, _ => d
  | fuel + 1, d, q, i, c =>
    match d.coll? q i with
    | none => d
    | some k =>
      match k.todo with
      | [] => d
      | (x, seg) :: rest =>
        let parent := ((d.cmdAt q i).map (fun e => e.handle)).getD 0
        match d.sixAlloc 4 (d.qPart q) (d.qJob q) parent 0 q with
        | none => d
        | some (h, d) =>
          let bytes := d.bufRead k c x.buf x.off x.len
          let tag := if k.seq = seqSEND then colTag c else seg
          let head : MsgHead := { id := segId k.group k.seq tag, queue := 4, epoch := k.epoch, step := k.step, group := k.group,
                                  rank := d.grpRank k.group, len := x.len }
          let m := d.newMsg
          let d := m.2.updColl q i (fun k => { k with todo := rest, sent := k.sent ++ [(x.rank, tag)] })
          let d := d.post (d.memberOf k.group x.rank) (d.qPart q) (nthD (d.grp k.group).parts x.rank 0)
            { no := m.1, head := head, rest := bytes, handle := h, q := q, i := i, toRank := x.rank }
          d.collPushGo fuel q i c

def Dev.collPush (d : Dev) (q i : Nat) (c : Cmd) : Dev :=
  Dev.collPushGo (((d.coll? q i).map (fun k => k.todo.length)).getD 0) d q i c

/-- A rank of a group has no address: its device has been removed (R337). -/
def Dev.rankGone (d : Dev) (g r : Nat) : Bool :=
  let m := d.memberOf g r
  m != d.deviceId && (d.familyTo m).isNone

/-- A step of the schedule starts: copies, receives posted, segments to send. A transfer with a rank that has no address fails with
MEMBER_MISSING; rows beyond DST with BAD_FIELD. -/
def Dev.startPhase (d : Dev) (k : Coll) (c : Cmd) (st : CollStep) : Dev :=
  let q := k.q
  let i := k.i
  let d := st.copies.foldl (fun d x => d.bufWrite k c x.2.buf x.2.off (d.bufRead k c x.1.buf x.1.off x.1.len)) d
  let rx := numberSegs k.rxSegs (st.recvs.flatMap (cutSegs k.segSize))
  let tx := numberSegs k.txSegs (st.sends.flatMap (cutSegs k.segSize))
  let posted := rx.2.map (fun (x : Xfer × Nat) =>
    ({ rank := x.1.rank, seg := if k.seq = seqSEND then colTag c else x.2, buf := x.1.buf, off := x.1.off, len := x.1.len,
       since := d.now, add := st.add } : Posted))
  let d := d.updColl q i (fun k => { k with phase := k.phase + 1, posted := posted, rxSegs := rx.1, txSegs := tx.1,
                                            todo := k.todo ++ tx.2 })
  let size := (d.objOf (d.viewAt q i) (a2aDst c)).2.bytes
  match (st.recvs ++ st.sends).find? (fun x => d.rankGone k.group x.rank) with
  | some x => d.failTransfer q i St.memberMissing x.rank
  | none =>
    if cmdOpcode c = opALLTOALL then
      match (st.recvs ++ st.copies.map (fun x => x.2)).find? (fun x => x.buf == 2 && decide (size < x.off + x.len)) with
      | some x => d.failColl q i St.badField x.rank
      | none => d
    else d

/-- Version of an ALLGATHER's source (R354): the committed step, the set's swap count, or none. -/
def Dev.srcVersion (d : Dev) (view j : Nat) (h : Nat) : Option Nat :=
  match d.resolve view h with
  | some (_, o) =>
    if o.wset ≠ 0 then some (d.rd (F.wsetSwaps.bank o.wset))
    else if o.kind = kCOMMITTED then some (d.rd64 (F.ldgCommittedLo j) (F.ldgCommittedHi j))
    else none
  | none => none

/-- Store the tag of a gathered destination; a full table leaves it untagged. -/
def Dev.putTag (d : Dev) (t : Tag) : Dev :=
  let tags := d.col.tags.filter (fun e => e.2.obj != t.obj)
  match freeSlot tags 16384 with
  | some n => d.setCol { d.col with tags := mapPut tags n t }
  | none => (d.setCol { d.col with tags := tags }).incSat F.colTagFull 1

/-- A collective has ended well. -/
def Dev.collDone (d : Dev) (k : Coll) (c : Cmd) : Dev :=
  let j := d.qJob k.q
  let view := d.viewAt k.q k.i
  let d := if cmdOpcode c = opALLGATHER ∧ colVersion c = 1 then
      match d.srcVersion view j (colSrc c) with
      | some v => d.putTag { obj := (d.objOf view (colDst c)).1, handle := colDst c, version := v, epoch := k.epoch, job := j }
      | none => d
    else d
  let work := if cmdOpcode c = opALLTOALL then sumBy (fun x => x.len) (k.steps.flatMap (fun s => s.sends))
    else if cmdOpcode c = opBARRIER then 0 else collLen c
  d.partRan k.q k.i 0 0 0 work

/-- A collective goes on as far as it can: posted receives done and segments out, the next step starts; after the last step and the
last acknowledgement it ends. -/
def Dev.collGo : Nat → Dev → Nat → Nat → Dev
  | 0, d, _, _ => d
  | fuel + 1, d, q, i =>
    match d.coll? q i, d.cmdAt q i with
    | some k, some e =>
      let c := e.cmd
      if !k.begun ∨ k.status ≠ 0 ∨ !(d.partReady q i 0 (cmdOpcode c)) then d
      else
        let d := d.collPush q i c
        match d.coll? q i with
        | none => d
        | some k =>
          if k.todo != [] ∨ k.posted.any (fun p => !p.done) ∨ k.status ≠ 0 then d
          else
            match k.steps[k.phase]? with
            | some st => (d.startPhase k c st).collGo fuel q i
            | none =>
              if cmdOpcode c = opALLTOALL ∧ a2aDir c = 0 ∧ k.steps.length = 1 then
                (d.updColl q i (fun k' => { k' with steps := k'.steps ++ [d.rowPhase k c] })).collGo fuel q i
              else if k.sent = [] then d.collDone k c
              else d
    | _, _ => d

def Dev.collAdvance (d : Dev) (q i : Nat) : Dev :=
  Dev.collGo (((d.coll? q i).map (fun k => k.steps.length)).getD 0 + 4) d q i

/-- Every collective goes on as far as it can. -/
def Dev.collAll (d : Dev) : Dev := (d.col.colls.map (fun k => (k.q, k.i))).foldl (fun d x => d.collAdvance x.1 x.2) d

/-! ### Start -/

/-- The tag of an ALLGATHER's destination as its part starts: 0 gather, 1 reuse, 2 mismatch (R354). -/
def Dev.tagCheck (d : Dev) (view j epoch : Nat) (c : Cmd) : Nat :=
  if cmdOpcode c ≠ opALLGATHER ∨ colVersion c = 0 then 0
  else
    match d.resolve view (colDst c) with
    | none => 0
    | some (k, o) =>
      match (d.col.tags.find? (fun t => t.2.obj == k && t.2.handle == colDst c)).map (fun t => t.2) with
      | none => 0
      | some t =>
        let there := (o.unitsOf (colDstOff c * 64) (collLen c)).all (fun u => (o.unit u).valid0 || (o.unit u).t1 == tsRESIDENT)
        if !there then 0
        else if some t.version = d.srcVersion view j (colSrc c) ∧ t.epoch = epoch then 1
        else 2

/-- The next q of a group keeps 128 clear of its oldest incomplete collective (R343). -/
def Dev.seqRoom (d : Dev) (c : Cmd) : Bool :=
  let g := collGroupOf c
  let q := d.rd (F.colGrpState_q.bank g)
  if cmdOpcode c = opSEND ∨ cmdOpcode c = opRECV then true
  else
    match d.col.colls.find? (fun k => k.group == g && k.seq != seqSEND) with
    | none => true
    | some k => decide ((q + 255 - k.seq) % 255 < 128)

/-- A RECV into an object whose T1 copy REFILL is filling: it writes T1 (10_tiers_and_street_index.md R219, R234). -/
def Dev.recvRefill (d : Dev) (view : Nat) (c : Cmd) : Bool :=
  cmdOpcode c == opRECV &&
    (match d.resolve view (colDst c) with
     | some (_, o) => (o.unitsOf (colDstOff c * 64) (collLen c)).all (fun u => (o.unit u).t1 == tsARRIVING && (o.unit u).refill)
     | none => false)

/-- A collective command starts: it takes its q and its epoch (R343, R344, R352). -/
def Dev.collStart (d : Dev) (q i : Nat) (c : Cmd) : Dev :=
  let g := collGroupOf c
  let j := d.qJob q
  let view := d.viewAt q i
  let p2p := cmdOpcode c == opSEND || cmdOpcode c == opRECV
  let seq := if p2p then seqSEND else d.rd (F.colGrpState_q.bank g)
  let r := d.newest j
  let live := cmdStep c && d.attemptLive j
  let layout := if live then (r.map (fun r => r.layoutEpoch)).getD 0 else d.rd (F.colLayout j)
  let k : Coll := { q := q, i := i, group := g, seq := seq, epoch := if p2p then 0 else layout,
                    step := if live then ((r.map (fun r => r.step)).getD 0) % 2 ^ 32 else 0, acr := d.collAcr view c || d.recvRefill view c,
                    early := d.tagCheck view j layout c }
  let d := d.setCol { d.col with colls := d.col.colls ++ [k] }
  if p2p then d else d.wr (F.colGrpState_q.bank g) ((seq + 1) % 255)

/-- A part holds a T0 copy of an object, or one is arriving. -/
def Dev.t0Busy (d : Dev) (k : Nat) : Bool :=
  (d.obj? k).any (fun o => (List.range o.unitCount).any (fun u => (o.unit u).ref0 != 0 || (o.unit u).t0 == tsARRIVING))

/-- The destination of an Acrek reduction in T1: its T0 copy is written back and released (R257); none where T1 has no room. -/
def Dev.acrDest (d : Dev) (k : Nat) : Option Dev :=
  if d.t0Busy k then none
  else
  match d.flush0 k with
  | none => none
  | some d =>
    match d.ensureT1 k with
    | none => none
    | some d =>
      match d.obj? k with
      | none => some d
      | some o =>
        some ((List.range o.unitCount).foldl (fun d u =>
          let x := d.unitOf k u
          let d := if x.valid0 then d.release0 k u else d
          d.setUnit k u { d.unitOf k u with t1 := tsRESIDENT, dirty1 := true }) d)

/-- The device's own contribution goes into the vector first (R346), with ACC added into the range this device completes. -/
def Dev.contribute (d : Dev) (k : Coll) (c : Cmd) (alg : Nat) : Dev :=
  let op := cmdOpcode c
  let n := d.grpSize k.group
  let me := d.grpRank k.group
  let own := chunkOf c n me
  let src (lo len : Nat) : List Byte := d.bufRead k c 1 lo len
  if collReduces op then
    let keep : List (Nat × Nat) :=
      if alg = algLOCAL then [(0, collLen c)]
      else if alg = algDBTREE then
        ((halves c).zipIdx).filterMap (fun h => if treePos h.2 n me = 0 then some h.1 else none)
      else [own]
    let parts := if alg = algDBTREE then halves c else if alg = algLOCAL then [(0, collLen c)] else (List.range n).map (chunkOf c n)
    parts.foldl (fun d r =>
      if r.2 = 0 then d
      else if colAcc c = 1 ∧ keep.contains r then d.addInto k c me 0 r.1 (src r.1 r.2)
      else d.bufWrite k c 0 r.1 (src r.1 r.2)) d
  else if op = opALLGATHER then d.bufWrite k c 0 own.1 (src 0 own.2)
  else if op = opBCAST_CHAIN ∧ me = colPeer c then d.bufWrite k c 0 0 (src 0 (collLen c))
  else d

/-- A collective's part begins once its operands are ready: checks, own contribution, schedule (R344 to R351). -/
def Dev.collBegin (d : Dev) (q i : Nat) : Dev :=
  match d.coll? q i, d.cmdAt q i with
  | some k, some e =>
    let c := e.cmd
    let view := d.viewAt q i
    let g := k.group
    let n := d.grpSize g
    let me := d.grpRank g
    let x : PartId := ⟨q, i, 0⟩
    let ops := d.collOpnds view c k.acr
    if k.early = 1 then (d.incSat F.colTagReuse 1).partRan q i 0 0 0 0
    else if k.early = 2 then (d.raise colPage 7 St.versionMismatch).failColl q i St.versionMismatch me
    else if d.collBad view c k.acr then d.failColl q i St.badField 0xFFFF
    else
      match d.operandFault view (ops ++ (if k.acr then [bytesOpnd (colDst c) 0 0 (cmdOpcode c != opRECV)] else [])) with
      | some st => if st = St.protectedAccess then (d.failColl q i st 0xFFFF).refused (d.refusedLine x) st else d.failColl q i st 0xFFFF
      | none =>
        if !d.allReady x ops then d
        else
          match (if k.acr ∧ cmdOpcode c ≠ opRECV then d.acrDest (d.objOf view (colDst c)).1 else some d) with
          | none => d
          | some d =>
            let alg := (collAlg c n (d.racks g)).getD algRING
            let d := d.contribute k c alg
            if cmdOpcode c = opALLTOALL then
              let r := a2aEpr c
              let d := if a2aDir c = 0 then
                  (List.range (n * r)).foldl (fun d e => d.bufWrite k c 3 (4 * (n * r + e)) (leBytes 4 (d.keptAt k c e))) d
                else d
              let st := if a2aDir c = 0 then countPhase c n me else d.rowPhase k c
              d.updColl q i (fun k => { k with begun := true, steps := [st], segSize := d.rd F.colCfg_segMax * 2 ^ 20 })
            else
              let size := if k.seq = seqSEND then 2 ^ 32 else segmentSize c alg n (d.rd F.colCfg_segMax * 2 ^ 20) (d.racks g)
              d.updColl q i (fun k => { k with begun := true, steps := collSteps c alg n me (d.racks g), segSize := size })
  | _, _ => d

/-- The event of a collective command's part: it begins, or goes on where it waited for entries. -/
def Dev.runColl (d : Dev) (q i op : Nat) : Dev :=
  d.when (d.partReady q i 0 op) fun d =>
    let d := if ((d.coll? q i).map (fun k => k.begun)) = some false then d.collBegin q i else d
    d.collAdvance q i

/-- ALLREDUCE: every DST holds the sum of all SRC vectors. -/
def effectAllreduce (q i : Nat) (d : Dev) : Dev := d.runColl q i opALLREDUCE

/-- ALLREDUCE: its own effect, then what follows at once. -/
def execAllreduce (q i : Nat) (s : State) : Host.Outcome State Fault Refusal := s.act (effectAllreduce q i)

/-- REDUCE_SCATTER: rank r's DST holds chunk r of the sum. -/
def effectReduceScatter (q i : Nat) (d : Dev) : Dev := d.runColl q i opREDUCE_SCATTER

/-- REDUCE_SCATTER: its own effect, then what follows at once. -/
def execReduceScatter (q i : Nat) (s : State) : Host.Outcome State Fault Refusal := s.act (effectReduceScatter q i)

/-- ALLGATHER: every DST holds chunk r from rank r's SRC. -/
def effectAllgather (q i : Nat) (d : Dev) : Dev := d.runColl q i opALLGATHER

/-- ALLGATHER: its own effect, then what follows at once. -/
def execAllgather (q i : Nat) (s : State) : Host.Outcome State Fault Refusal := s.act (effectAllgather q i)

/-- ALLTOALL (R351). -/
def effectAlltoall (q i : Nat) (d : Dev) : Dev := d.runColl q i opALLTOALL

/-- ALLTOALL: its own effect, then what follows at once. -/
def execAlltoall (q i : Nat) (s : State) : Host.Outcome State Fault Refusal := s.act (effectAlltoall q i)

/-- BCAST_CHAIN. -/
def effectBcastChain (q i : Nat) (d : Dev) : Dev := d.runColl q i opBCAST_CHAIN

/-- BCAST_CHAIN: its own effect, then what follows at once. -/
def execBcastChain (q i : Nat) (s : State) : Host.Outcome State Fault Refusal := s.act (effectBcastChain q i)

/-- SEND. -/
def effectSend (q i : Nat) (d : Dev) : Dev := d.runColl q i opSEND

/-- SEND: its own effect, then what follows at once. -/
def execSend (q i : Nat) (s : State) : Host.Outcome State Fault Refusal := s.act (effectSend q i)

/-- RECV. -/
def effectRecv (q i : Nat) (d : Dev) : Dev := d.runColl q i opRECV

/-- RECV: its own effect, then what follows at once. -/
def execRecv (q i : Nat) (s : State) : Host.Outcome State Fault Refusal := s.act (effectRecv q i)

/-- BARRIER. -/
def effectBarrier (q i : Nat) (d : Dev) : Dev := d.runColl q i opBARRIER

/-- BARRIER: its own effect, then what follows at once. -/
def execBarrier (q i : Nat) (s : State) : Host.Outcome State Fault Refusal := s.act (effectBarrier q i)

/-- The bound of a wait for `n` bytes: PG_TIMEOUT of COL page 0, or 50 ms + 4 × bytes ÷ 50 GB/s (R349). -/
def Dev.waitBound (d : Dev) (n : Nat) : Nat := d.timeout colPage (50 * msQ + ceilDiv (8 * n) 25)

/-- COLLECTIVE_WAIT_TIMEOUT: neither data nor a beacon from a rank has come for the whole bound. -/
def effectCollectiveWaitTimeout (q i rank : Nat) (d : Dev) : Dev :=
  match d.coll? q i with
  | none =>
    match d.load? q i with
    | none => d
    | some l =>
      let c := d.cmdBody q i
      let waits := l.pred == some rank && !l.broken && decide (l.have_.length < l.total c)
        && decide (l.since + d.waitBound (if l.tables = [] then 4096 else chunkStride) ≤ d.now)
      d.when waits fun d =>
        let d := (d.chainBroken l St.memberMissing).raise colPage 6 St.memberMissing { job := d.qJob q }
        if l.ended then d else d.loadFail l St.memberMissing
  | some k =>
    match k.posted.find? (fun p => !p.done && p.rank == rank && decide (p.since + d.waitBound p.len ≤ d.now)) with
    | none => d
    | some p =>
      d.when (k.status == 0) fun d =>
        let d := if p.handle = 0 then d else d.sixRelease p.handle St.memberMissing
        (d.failColl q i St.memberMissing rank).raise colPage 6 St.memberMissing { job := d.qJob q }

/-- COLLECTIVE_WAIT_TIMEOUT: its own effect, then what follows at once. -/
def execCollectiveWaitTimeout (q i rank : Nat) (s : State) : Host.Outcome State Fault Refusal := s.act (effectCollectiveWaitTimeout q i rank)

/-- RESHARD (R353): an open or sealed attempt of the job votes ABORT with STALE_EPOCH; a READY one and collectives of the old epoch
are waited for; then the layout epoch advances. -/
def effectReshard (q i : Nat) (d : Dev) : Dev :=
  d.when (d.partReady q i 0 opRESHARD) fun d =>
    let j := d.qJob q
    let old := d.rd (F.colLayout j)
    let new := reshNewEpoch (d.cmdBody q i)
    if new ≠ (old + 1) % 2 ^ 16 then d.endPart q i 0 St.badField
    else if d.attemptLive j then d.stepFailure j St.staleEpoch 0xFFFF
    else if d.col.colls.any (fun k => d.qJob k.q == j && k.seq != seqSEND && k.epoch == old) then d
    else (d.wr (F.colLayout j) new).endPart q i 0 St.ok

/-- RESHARD: its own effect, then what follows at once. -/
def execReshard (q i : Nat) (s : State) : Host.Outcome State Fault Refusal := s.act (effectReshard q i)

end Sys2Proof.Machine
end

