-- ==== Sys2Proof/Machine/PlanArray.lean ====
section
/-! DEFINITION. Array commands before they run: their operands, the checks of their bodies, their parts and the work of each
(05_matrix_array.md R103, R108, R109, R112 to R118; 06_drain_and_backward_pass.md R125 to R129, R137 to R139;
08_slice_precision.md R173 to R181). -/

namespace Sys2Proof.Machine

/-- MACs per cell per cycle of an operand format (table Array format codes); 0 for one that is no operand. FP32 operands, which
only widening makes, run as BF16 (R175). -/
def macsPer : Nat → Nat
  | 0x0 => 1 | 0x1 => 1 | 0x2 => 2 | 0x3 => 2 | 0x4 => 2 | 0x5 => 4 | 0x6 => 4 | 0x7 => 4
  | 0x8 => 2 | 0x9 => 2 | 0xA => 4 | 0xB => 4 | 0xC => 4 | 0xD => 2 | _ => 1

/-- The rate of a pair and its K_b (R103). -/
def pairMacs (a b : Nat) : Nat := min (macsPer a) (macsPer b)
def pairKb (a b : Nat) : Nat := 128 * pairMacs a b

/-- A pair breaks R103, or an operand format is 0xE or 0xF (R113). -/
def pairBad (a b : Nat) : Bool := decide (0xE ≤ a) || decide (0xE ≤ b) || ((a == 0x4) != (b == 0x4))

/-- The blocks that part `i` of `p` takes of `b` blocks: the first and how many (R109). -/
def blockRange (b p i : Nat) : Nat × Nat :=
  (i * (b / p) + min i (b % p), b / p + (if i < b % p then 1 else 0))

/-- The elements of a dimension of `n` that a run of 128-blocks covers. -/
def blockElems (n : Nat) (r : Nat × Nat) : Nat × Nat := (r.1 * 128, min n ((r.1 + r.2) * 128) - r.1 * 128)

/-- Compute cycles of a run of passes over chunks of `chunk` rows, `per` passes for each chunk (R108). -/
def computeCycles (chunk m per : Nat) : Nat :=
  let full := m / chunk
  let rest := m % chunk
  let last := if rest = 0 then min m chunk else rest
  let total := per * (full * max chunk 128 + (if rest = 0 then 0 else max rest 128))
  128 + (total - max last 128) + last + 294

/-- The split dimension of R109: true for N. `per n` is the passes per chunk of a part of `n` columns. -/
def splitsN (split m n cores chunk : Nat) (per : Nat → Nat) : Bool :=
  if split = 0 then false
  else if split = 1 then true
  else
    let bm := ceilDiv m 128
    let bn := ceilDiv n 128
    let rows := min m (ceilDiv bm (min cores bm) * 128)
    let cols := min n (ceilDiv bn (min cores bn) * 128)
    decide (computeCycles chunk m (per cols) < computeCycles chunk rows (per n))

/-- Rows and columns of part `i`: (first row, rows, first column, columns). -/
def splitPart (byN : Bool) (m n cores i : Nat) : Nat × Nat × Nat × Nat :=
  let b := ceilDiv (if byN then n else m) 128
  let e := blockElems (if byN then n else m) (blockRange b (min cores b) i)
  if byN then (0, m, e.1, e.2) else (e.1, e.2, 0, n)

/-- Parts of a split (R109). -/
def splitCount (byN : Bool) (m n cores : Nat) : Nat := min cores (ceilDiv (if byN then n else m) 128)

/-- Array time of a MAC count at a pair's rate, in qns (R83): 16,384 cells at 600 MHz. -/
def macQns (macs per : Nat) : Nat := ceilDiv (macs * 20) (49152 * per)

/-- Array cycles in qns. -/
def arrayQns (cycles : Nat) : Nat := ceilDiv (cycles * 20) 3

/-- The cores of a command lie within the device and within its partition (R113, R373). -/
def Dev.coresBad (d : Dev) (part first count : Nat) : Bool :=
  count == 0 || decide (64 < first + count) || decide (d.rd (F.glbPart_coreCount (viewPart part)) < first + count)

/-- The logical core of part `i`: cores count from the partition's first (R373). -/
def Dev.coreOf (d : Dev) (part first i : Nat) : Nat := d.rd (F.glbPart_coreFirst (viewPart part)) + first + i

/-! ### Drain descriptors (table Drain descriptor) -/

/-- A field of a descriptor of which `x` is the bytes as a number. -/
def df (x b lo w : Nat) : Nat := bitsAt x (8 * b + lo) w

def dVer (x : Nat) : Nat := df x 0 0 16
def dScaleEn (x : Nat) : Bool := df x 2 0 1 == 1
def dBiasEn (x : Nat) : Bool := df x 2 1 1 == 1
def dFunc (x : Nat) : Bool := df x 2 2 1 == 1
def dDeriv (x : Nat) : Bool := df x 2 3 1 == 1
def dSave (x : Nat) : Bool := df x 2 4 1 == 1
def dColsum (x : Nat) : Bool := df x 2 5 1 == 1
def dTcopy (x : Nat) : Bool := df x 2 6 1 == 1
def dStats (x : Nat) : Bool := df x 2 7 1 == 1
def dSr (x : Nat) : Bool := df x 2 8 1 == 1
def dFn (x : Nat) : Nat := df x 4 0 5
def dDsrc (x : Nat) : Nat := df x 5 0 1
def dSaveWhat (x : Nat) : Nat := df x 5 1 1
def dKeep (x : Nat) : Nat := df x 6 0 2
def dTscale (x : Nat) : Int := signedOf 8 (df x 7 0 8)
def dScale (x : Nat) : FVal := fp32.decode (df x 8 0 32)
def dStream (x : Nat) : Nat := df x 12 0 32
def dBias (x : Nat) : Nat × Nat := (df x 16 0 32, df x 20 0 32 * 64)
def dSaved (x : Nat) : Nat × Nat := (df x 24 0 32, df x 28 0 32 * 64)
def dLdsd (x : Nat) : Nat := df x 32 0 16
def dSavedFmt (x : Nat) : Nat := df x 34 0 4
def dSaveT (x : Nat) : Nat × Nat := (df x 36 0 32, df x 40 0 32 * 64)
def dLdsv (x : Nat) : Nat := df x 44 0 16
def dSaveFmt (x : Nat) : Nat := df x 46 0 4
def dCopy (x : Nat) : Nat × Nat := (df x 48 0 32, df x 52 0 32 * 64)
def dLdt (x : Nat) : Nat := df x 56 0 16
def dStatSlot (x : Nat) : Nat := df x 58 0 12
def dStatsH (x : Nat) : Nat := df x 60 0 32
def dRowvec (x : Nat) : Nat × Nat := (df x 64 0 32, df x 68 0 32 * 64)
def dColsumV (x : Nat) : Nat × Nat := (df x 72 0 32, df x 76 0 32 * 64)

/-- The descriptor that DRAIN = 0 stands for: conversion only. -/
def descNone : Nat := 1

/-- Bits of a descriptor that are reserved. -/
def descReserved (x : Nat) : Bool :=
  df x 2 9 7 != 0 || df x 4 5 3 != 0 || df x 5 2 6 != 0 || df x 6 2 6 != 0 || df x 6 0 2 == 3 || df x 34 4 4 != 0 || df x 35 0 8 != 0
    || df x 46 4 4 != 0 || df x 47 0 8 != 0 || df x 58 12 4 != 0 || df x 80 0 384 != 0

/-- The gated functions (table Drain functions). -/
def gatedFn (f : Nat) : Bool := decide (16 ≤ f ∧ f ≤ 19)

/-- Function codes that the table lists. -/
def listedFn (f : Nat) : Bool := decide (f ≤ 8) || gatedFn f || f == 24 || f == 25

/-- The function stages as enabled: gated forward, gated derivative. -/
def dGatedFwd (x : Nat) : Bool := dFunc x && gatedFn (dFn x)
def dGatedBwd (x : Nat) : Bool := dDeriv x && gatedFn (dFn x)

/-- Columns written for a product of `n` columns (R129). -/
def drainCols (x n : Nat) : Nat := if dGatedFwd x then n / 2 else if dGatedBwd x then 2 * n else n

/-- A DSRC that the table allows. -/
def dsrcOk (f src : Nat) : Bool := if src = 0 then true else [0, 1, 2, 6, 7, 8].contains f

/-- The part reads the saved tensor: DERIV but for IDENTITY, or FN 25. -/
def dReadsSaved (x : Nat) : Bool := (dDeriv x && dFn x != 0) || (dFunc x && dFn x == 25)
def dReadsRow (x : Nat) : Bool := dFunc x && (dFn x == 24 || dFn x == 25)

/-- The saved tensor, as read for a command of `m` rows and `n` product columns. -/
def savedTens (x m n : Nat) : Tens :=
  { code := dSavedFmt x, off := (dSaved x).2, rows := m, cols := drainCols x n, pitch := dLdsd x * 512 }

/-- The save tensor: Z has the product's columns, Y the output's. -/
def saveTens (x m n : Nat) : Tens :=
  { code := dSaveFmt x, off := (dSaveT x).2, rows := m, cols := if dSaveWhat x = 0 then n else drainCols x n,
    pitch := dLdsv x * 512 }

/-- The transposed-quantised copy: same order as the primary, blocks down columns (R134). -/
def copyTens (x code m n : Nat) : Tens :=
  { code := code, off := (dCopy x).2, rows := m, cols := drainCols x n, pitch := dLdt x * 512, down := true }

/-- Every operand that a descriptor's enabled stages name, for a product of `m` rows and `n` columns written in `code`. -/
def descOpnds (x code m n : Nat) : List Opnd :=
  (if dBiasEn x then [bytesOpnd (dBias x).1 (dBias x).2 (4 * n)] else [])
    ++ (if dReadsSaved x then [(savedTens x m n).opnd (dSaved x).1] else [])
    ++ (if dReadsRow x then [bytesOpnd (dRowvec x).1 (dRowvec x).2 (4 * m)] else [])
    ++ (if dSave x then [(saveTens x m n).opnd (dSaveT x).1 true false (dSaveFmt x)] else [])
    ++ (if dTcopy x then [(copyTens x code m n).opnd (dCopy x).1 true false code] else [])
    ++ (if dStats x then [{ bytesOpnd (dStatsH x) (32 * dStatSlot x) 32 true true with stat := true }] else [])
    ++ (if dColsum x then [bytesOpnd (dColsumV x).1 (dColsumV x).2 (4 * drainCols x n) true true] else [])

/-- The save, copy, column-sum and statistics extents among a descriptor's operands. -/
def descWrites (x code m n : Nat) : List Opnd := (descOpnds x code m n).filter (fun a => a.write)

/-- A descriptor's formats are not those of their stages. -/
def descFmtBad (x code : Nat) : Bool :=
  let ok (f : Nat) : Bool := f == 0 || f == 1 || f == 0xE
  (dReadsSaved x && !ok (dSavedFmt x)) || (dSave x && !ok (dSaveFmt x)) || (dTcopy x && !codeMx code)

/-- A handle that an enabled stage needs is 0. -/
def descHandles (x : Nat) : List Nat :=
  (if dBiasEn x then [(dBias x).1] else []) ++ (if dReadsSaved x then [(dSaved x).1] else [])
    ++ (if dReadsRow x then [(dRowvec x).1] else []) ++ (if dSave x then [(dSaveT x).1] else [])
    ++ (if dTcopy x then [(dCopy x).1] else []) ++ (if dStats x then [dStatsH x] else [])
    ++ (if dColsum x then [(dColsumV x).1] else [])

/-- A row pitch of a descriptor tensor is too short for its row. -/
def Tens.pitchBad (t : Tens) : Bool := decide (t.pitch < t.cols * elemBits t.code)

/-- The part fails its descriptor (R127): `ip` for an INT8 pair, `cOps` the operands A and B, `c` the output tensor with the
descriptor's column count, `attn` where only SCALE, TCOPY, STATS and SR may be enabled (R139). -/
def Dev.descBad (d : Dev) (part x code m n : Nat) (ip attn : Bool) (ins : List Opnd) (c : Opnd) : Bool :=
  let ws := descWrites x code m n
  let fn := dFn x
  dVer x != 1 || descReserved x || (dFunc x && dDeriv x) || (dDeriv x && (fn == 24 || fn == 25))
    || (descHandles x).any (fun h => h == 0 || d.absent part h) || descFmtBad x code
    || (dScaleEn x && !(dScale x).isFinite) || dTscale x == -128
    || ws.any (fun w => (c :: ins).any w.overlaps) || anyOverlap ws
    || (descOpnds x code m n).any (d.beyond part)
    || (dStats x && (d.objOf part (dStatsH x)).2.kind == kSTEP)
    || ((dFunc x || dDeriv x) && !listedFn fn) || (dDeriv x && !dsrcOk fn (dDsrc x))
    || (ip && (dFunc x || dDeriv x || dSave x || dColsum x || dTscale x != 0))
    || d.beyond part c || ins.any c.overlaps || (dGatedFwd x && n % 2 == 1)
    || (attn && (dBiasEn x || dFunc x || dDeriv x || dSave x || dColsum x))
    || (dSave x && (saveTens x m n).pitchBad) || (dTcopy x && (copyTens x code m n).pitchBad)
    || (dReadsSaved x && (savedTens x m n).pitchBad)

/-- The bytes of a descriptor object. -/
def descOpnd (h : Nat) : Opnd := bytesOpnd h 0 128

/-! ### MM and MM_T -/

def mmM (c : Cmd) : Nat := mmMM1 c + 1
def mmN (c : Cmd) : Nat := mmNM1 c + 1
def mmK (c : Cmd) : Nat := mmKM1 c + 1

/-- TA and TB as they hold: in MM they are reserved and 0. -/
def mmA (c : Cmd) : Tens :=
  { code := mmAFmt c, off := mmAOff c * 64, rows := if mmTa c = 1 then mmK c else mmM c,
    cols := if mmTa c = 1 then mmM c else mmK c, pitch := mmLda c * 512, down := mmTa c == 1 }

def mmB (c : Cmd) : Tens :=
  { code := mmBFmt c, off := mmBOff c * 64, rows := if mmTb c = 1 then mmN c else mmK c,
    cols := if mmTb c = 1 then mmK c else mmN c, pitch := mmLdb c * 512, down := mmTb c != 1 }

/-- C with a column count. -/
def mmC (c : Cmd) (n : Nat) : Tens :=
  { code := mmCFmt c, off := mmCOff c * 64, rows := mmM c, cols := n, pitch := mmLdc c * 512 }

/-- The checks of R113 at the format check. -/
def Dev.mmBad (d : Dev) (part : Nat) (c : Cmd) : Bool :=
  let a := (mmA c).opnd (mmAHandle c)
  let b := (mmB c).opnd (mmBHandle c)
  let o := (mmC c (mmN c)).opnd (mmCHandle c)
  pairBad (mmAFmt c) (mmBFmt c) || (mmCFmt c == 0xF && mmAFmt c != 0x4) || mmSplit c == 3
    || mmLda c == 0 || mmLdb c == 0 || mmLdc c == 0 || (mmA c).pitchBad || (mmB c).pitchBad
    || d.beyond part a || d.beyond part b
    || (mmDrain c == 0 && ((mmC c (mmN c)).pitchBad || d.beyond part o || o.overlaps a || o.overlaps b))
    || d.coresBad part (mmCoreFirst c) (mmCoreCount c)

/-- The split of an MM. -/
def mmByN (c : Cmd) : Bool :=
  splitsN (mmSplit c) (mmM c) (mmN c) (mmCoreCount c) 4096
    (fun n => ceilDiv n 128 * ceilDiv (mmK c) (pairKb (mmAFmt c) (mmBFmt c)))

def mmCount (c : Cmd) : Nat := splitCount (mmByN c) (mmM c) (mmN c) (mmCoreCount c)
def mmPart (c : Cmd) (i : Nat) : Nat × Nat × Nat × Nat := splitPart (mmByN c) (mmM c) (mmN c) (mmCoreCount c) i

/-- An object that a repeat has widened to FP32 makes its reader run three products (R175). -/
def Dev.isWide (d : Dev) (part h : Nat) : Bool := (d.objOf part h).2.fmt == 0xE

/-- Work of part `i` in MACs. -/
def Dev.mmWork (d : Dev) (part : Nat) (c : Cmd) (i : Nat) : Nat :=
  let r := mmPart c i
  r.2.1 * r.2.2.2 * mmK c * (if d.isWide part (mmAHandle c) || d.isWide part (mmBHandle c) then 3 else 1)

/-- Operands of an MM with its descriptor `x`. -/
def mmOpnds (x : Nat) (c : Cmd) : List Opnd :=
  let n := drainCols x (mmN c)
  [(mmA c).opnd (mmAHandle c), (mmB c).opnd (mmBHandle c),
   (mmC c n).opnd (mmCHandle c) true (mmAcc c == 1) (mmCFmt c)]
    ++ (if mmDrain c = 0 then [] else descOpnd (mmDrain c) :: descOpnds x (mmCFmt c) (mmM c) (mmN c))

/-! ### CONV -/

/-- One dimension of a convolution: input size, kernel, stride, dilation, paddings and padding mode. -/
structure ConvDim where
  d : Nat
  f : Nat
  s : Nat
  l : Nat
  lo : Nat
  hi : Nat
  mode : Nat
  deriving DecidableEq, Repr

def convX (c : Cmd) : ConvDim := ⟨convDxM1 c + 1, convFX c, convSX c, convLX c, convPloX c, convPhiX c, convModeX c⟩
def convY (c : Cmd) : ConvDim := ⟨convDyM1 c + 1, convFY c, convSY c, convLY c, convPloY c, convPhiY c, convModeY c⟩
def convZ (c : Cmd) : ConvDim := ⟨convDzM1 c + 1, convFZ c, convSZ c, convLZ c, convPloZ c, convPhiZ c, convModeZ c⟩

/-- Output size O_d, as an integer (R115). -/
def ConvDim.outI (x : ConvDim) : Int :=
  (Int.ofNat (x.d + x.lo + x.hi) - Int.ofNat (x.l * (x.f - 1)) - 1) / Int.ofNat (max x.s 1) + 1

def ConvDim.out (x : ConvDim) : Nat := x.outI.toNat

/-- The per-dimension refusals of R118 and the ranges of the body. -/
def ConvDim.bad (x : ConvDim) (dgrad : Bool) : Bool :=
  x.f == 0 || x.s == 0 || x.l == 0 || x.mode == 3 || decide (x.outI < 1)
    || (x.mode == 0 && (decide (x.l * (x.f - 1) < x.lo) || decide (x.l * (x.f - 1) < x.hi)))
    || (x.mode == 1 && (decide (x.d - 1 < x.lo) || decide (x.d - 1 < x.hi) || dgrad))
    || (x.mode == 2 && (decide (x.d < x.lo) || decide (x.d < x.hi) || (decide (1 < x.s) && x.d % x.s != 0)))

def convG (c : Cmd) : Nat := convGM1 c + 1
def convCin (c : Cmd) : Nat := convCinM1 c + 1
def convCout (c : Cmd) : Nat := convCoutM1 c + 1
def convBatch (c : Cmd) : Nat := convBM1 c + 1

/-- Positions of input and output, kernel offsets. -/
def convIns (c : Cmd) : Nat := convBatch c * ((convZ c).d * (convY c).d * (convX c).d)
def convOuts (c : Cmd) : Nat := convBatch c * ((convZ c).out * (convY c).out * (convX c).out)
def convKers (c : Cmd) : Nat := (convZ c).f * (convY c).f * (convX c).f

/-- M, N and the reduction (table Convolution passes). -/
def convM (c : Cmd) : Nat :=
  if convPass c = 0 then convOuts c else if convPass c = 1 then convIns c else convKers c * (convCin c / convG c)
def convN (c : Cmd) : Nat := if convPass c = 1 then convCin c / convG c else convCout c / convG c
def convK (c : Cmd) : Nat :=
  if convPass c = 0 then convKers c * (convCin c / convG c)
  else if convPass c = 1 then convKers c * (convCout c / convG c) else convOuts c

/-- A dense tensor with rows packed one after another (R114). -/
def packedTens (code rows cols : Nat) (down : Bool) : Tens :=
  { code := code, off := 0, rows := rows, cols := cols, pitch := cols * elemBits code, down := down }

/-- Streamed, stationary and written tensors (table Convolution passes; log entry 25 for MX formats in them). -/
def convOp0 (c : Cmd) : Tens :=
  packedTens (convAFmt c) (if convPass c = 1 then convOuts c else convIns c) (if convPass c = 1 then convCout c else convCin c)
    (convPass c == 2)
def convOp1 (c : Cmd) : Tens :=
  if convPass c = 2 then packedTens (convBFmt c) (convOuts c) (convCout c) true
  else packedTens (convBFmt c) (convG c * convK c) (convN c) true
def convOp2 (c : Cmd) (cols : Nat) : Tens :=
  packedTens (convCFmt c) (if convPass c = 2 then convG c * convM c else convM c) cols false

/-- Columns of the written tensor when the product has its own column count. -/
def convCols (c : Cmd) : Nat := if convPass c = 2 then convN c else convG c * convN c

/-- Parts by whole groups (R118, end). -/
def convByGroup (c : Cmd) : Bool := decide (1 < convG c) && convSplit c == 2

def convByN (c : Cmd) : Bool :=
  splitsN (convSplit c) (convM c) (convN c) (convCoreCount c) 4096
    (fun n => ceilDiv n 128 * ceilDiv (convK c) (pairKb (convAFmt c) (convBFmt c)))

def convCount (c : Cmd) : Nat :=
  if convByGroup c then min (convCoreCount c) (convG c)
  else splitCount (convByN c) (convM c) (convN c) (convCoreCount c)

/-- The groups, rows and columns of part `i`: (first group, groups, first row, rows, first column, columns). -/
def convPart (c : Cmd) (i : Nat) : Nat × Nat × Nat × Nat × Nat × Nat :=
  if convByGroup c then
    let r := blockRange (convG c) (convCount c) i
    (r.1, r.2, 0, convM c, 0, convN c)
  else (0, convG c, splitPart (convByN c) (convM c) (convN c) (convCoreCount c) i)

/-- The checks of R118. -/
def Dev.convBad (d : Dev) (part : Nat) (c : Cmd) : Bool :=
  let dg := convPass c == 1
  let a := (convOp0 c).opnd (convOp0Handle c)
  let b := (convOp1 c).opnd (convOp1Handle c)
  let o := (convOp2 c (convCols c)).opnd (convOp2Handle c)
  let ip := convAFmt c == 0x4
  convPass c == 3 || convSplit c == 3 || (convX c).bad dg || (convY c).bad dg || (convZ c).bad dg
    || convCin c % convG c != 0 || convCout c % convG c != 0
    || decide (2 ^ 32 - 1 < convM c) || decide (65536 < convN c)
    || decide ((if convPass c = 2 then 2 ^ 32 - 1 else 65536) < convK c) || (ip && decide (65536 < convK c))
    || pairBad (convAFmt c) (convBFmt c) || (convCFmt c == 0xF && !ip)
    || d.beyond part a || d.beyond part b
    || (convDrain c == 0 && (d.beyond part o || o.overlaps a || o.overlaps b))
    || d.coresBad part (convCoreFirst c) (convCoreCount c)

def Dev.convWork (d : Dev) (part : Nat) (c : Cmd) (i : Nat) : Nat :=
  let r := convPart c i
  r.2.1 * r.2.2.2.1 * r.2.2.2.2.2 * convK c
    * (if d.isWide part (convOp0Handle c) || d.isWide part (convOp1Handle c) then 3 else 1)

/-- Rows of the written tensor. -/
def convRows (c : Cmd) : Nat := if convPass c = 2 then convG c * convM c else convM c

/-- Operands of a CONV with its descriptor. -/
def convOpnds (x : Nat) (c : Cmd) : List Opnd :=
  [(convOp0 c).opnd (convOp0Handle c), (convOp1 c).opnd (convOp1Handle c),
   (convOp2 c (drainCols x (convCols c))).opnd (convOp2Handle c) true (convAcc c == 1) (convCFmt c)]
    ++ (if convDrain c = 0 then [] else descOpnd (convDrain c) :: descOpnds x (convCFmt c) (convRows c) (convCols c))

/-! ### ATTN -/

def attnM (c : Cmd) : Nat := attnMM1 c + 1
def attnS (c : Cmd) : Nat := attnSM1 c + 1
def attnD (c : Cmd) : Nat := attnDM1 c + 1
def attnDv (c : Cmd) : Nat := attnDvM1 c + 1
def attnH (c : Cmd) : Nat := attnHM1 c + 1

/-- Tensors stored [head][row][element], rows padded to lines, as one matrix of heads times rows (R138). -/
def denseTens (code rows cols : Nat) : Tens := { code := code, off := 0, rows := rows, cols := cols, pitch := densePitch code cols }

def attnQ (c : Cmd) : Tens := denseTens (attnQFmt c) (attnH c * attnM c) (attnD c)
def attnK (c : Cmd) : Tens := denseTens (attnKFmt c) (attnH c * attnS c) (attnD c)
def attnV (c : Cmd) : Tens := denseTens (attnVFmt c) (attnH c * attnS c) (attnDv c)
def attnO (c : Cmd) : Tens := denseTens (attnOFmt c) (attnH c * attnM c) (attnDv c)

/-- Groups of 384 query rows per head; units of the split (R138). -/
def attnGroups (c : Cmd) : Nat := ceilDiv (attnM c) 384
def attnCount (c : Cmd) : Nat := min (attnCoreCount c) (attnH c * attnGroups c)

/-- Key `j` is masked for query `i` (R136). -/
def attnMasked (c : Cmd) (i j : Nat) : Bool :=
  attnMask c == 1 && decide (Int.ofNat j > Int.ofNat i + signedOf 16 (attnCausalOff c))

/-- Key blocks that the last chunk of a group needs: those with an unmasked key (R136, R137). -/
def attnBlocks (c : Cmd) (g : Nat) : Nat :=
  let last := min (attnM c) ((g + 1) * 384) - 1
  if attnMask c = 1 then
    let lim := Int.ofNat last + signedOf 16 (attnCausalOff c) + 1
    ceilDiv (min (attnS c) lim.toNat) 128
  else ceilDiv (attnS c) 128

def Dev.attnBad (d : Dev) (part : Nat) (c : Cmd) : Bool :=
  let q := (attnQ c).opnd (attnQHandle c)
  let k := (attnK c).opnd (attnKHandle c)
  let v := (attnV c).opnd (attnVHandle c)
  let o := (attnO c).opnd (attnOHandle c) true
  let l := bytesOpnd (attnLseHandle c) 0 (4 * attnH c * attnM c) true
  decide (3 < attnQFmt c) || decide (3 < attnKFmt c) || decide (3 < attnVFmt c) || attnOFmt c == 0x4 || attnOFmt c == 0xF
    || decide (2 ≤ attnMask c) || d.coresBad part (attnCoreFirst c) (attnCoreCount c)
    || [q, k, v, o].any (d.beyond part) || (attnLseHandle c != 0 && (d.beyond part l || [q, k, v, o].any l.overlaps))
    || anyOverlap [q, k, v, o]

/-- Compute cycles of part `i` (R137). -/
def attnCycles (c : Cmd) (i : Nat) : Nat :=
  let kb := pairKb (attnQFmt c) (attnKFmt c)
  let r := blockRange (attnH c * attnGroups c) (attnCount c) i
  128 + sumBy (fun u => 384 * (ceilDiv (attnD c) kb + ceilDiv (attnDv c) 128) * attnBlocks c (u % attnGroups c))
    (range' r.1 r.2) + 294

/-- Operands of an ATTN with its descriptor. -/
def attnOpnds (x : Nat) (c : Cmd) : List Opnd :=
  [(attnQ c).opnd (attnQHandle c), (attnK c).opnd (attnKHandle c), (attnV c).opnd (attnVHandle c),
   (attnO c).opnd (attnOHandle c) true false (attnOFmt c)]
    ++ (if attnLseHandle c = 0 then [] else [bytesOpnd (attnLseHandle c) 0 (4 * attnH c * attnM c) true])
    ++ (if attnDrain c = 0 then [] else descOpnd (attnDrain c) :: descOpnds x (attnOFmt c) (attnH c * attnM c) (attnDv c))

/-! ### SLICE64 and SLICE32 -/

def slM (c : Cmd) : Nat := slMM1 c + 1
def slN (c : Cmd) : Nat := slNM1 c + 1
def slK (c : Cmd) : Nat := slKM1 c + 1
def slIs64 (c : Cmd) : Bool := cmdOpcode c == opSLICE64

/-- Format of the operands, and of C. -/
def slIn (c : Cmd) : Nat := if slIs64 c then 0x10 else 0xE
def slOut (c : Cmd) : Nat := if slIs64 c then 0x10 else slCFmt c

def slA (c : Cmd) : Tens :=
  { code := slIn c, off := slAOff c * 64, rows := if slTa c = 1 then slK c else slM c,
    cols := if slTa c = 1 then slM c else slK c, pitch := slLda c * 512 }
def slB (c : Cmd) : Tens :=
  { code := slIn c, off := slBOff c * 64, rows := if slTb c = 1 then slN c else slK c,
    cols := if slTb c = 1 then slK c else slN c, pitch := slLdb c * 512 }
def slC (c : Cmd) : Tens := { code := slOut c, off := slCOff c * 64, rows := slM c, cols := slN c, pitch := slLdc c * 512 }

/-- Planes of the workspace (table Workspace layout): digits for SLICE64, BF16 halves for SLICE32. -/
def slPlanes (c : Cmd) : Nat := if slIs64 c then slS c else 2
def slCode (c : Cmd) : Nat := if slIs64 c then 0x4 else 0x0
def slLinesA (c : Cmd) : Nat := slM c * (densePitch (slCode c) (slK c) / 512)
def slLinesB (c : Cmd) : Nat := slK c * (densePitch (slCode c) (slN c) / 512)
def slPlaneA (c : Cmd) (t : Nat) : Tens :=
  { denseTens (slCode c) (slM c) (slK c) with off := t * slLinesA c * 64 }
def slPlaneB (c : Cmd) (t : Nat) : Tens :=
  { denseTens (slCode c) (slK c) (slN c) with off := (slPlanes c * slLinesA c + t * slLinesB c) * 64 }
def slVecE (c : Cmd) : Nat := slPlanes c * (slLinesA c + slLinesB c) * 64
def slVecF (c : Cmd) : Nat := slVecE c + ceilDiv (slM c) 32 * 64
def slWsBytes (c : Cmd) : Nat := if slIs64 c then slVecF c + ceilDiv (slN c) 32 * 64 else slVecE c

/-- Pairs kept (R169), and K_b of the product phase. -/
def slPairs (c : Cmd) : Nat := slS c * (slS c + 1) / 2
def slKb (c : Cmd) : Nat := if slIs64 c then 256 else 128
def slChunk (c : Cmd) : Nat := if slIs64 c then 512 else 4096

def slByN (c : Cmd) : Bool :=
  splitsN (slSplit c) (slM c) (slN c) (slCoreCount c) (slChunk c)
    (fun n => ceilDiv n 128 * (if slIs64 c then slPairs c else 3) * ceilDiv (slK c) (slKb c))

def slCount (c : Cmd) : Nat := splitCount (slByN c) (slM c) (slN c) (slCoreCount c)
def slPart (c : Cmd) (i : Nat) : Nat × Nat × Nat × Nat := splitPart (slByN c) (slM c) (slN c) (slCoreCount c) i

/-- Rows of op(A) and columns of op(B) that part `i` slices (R178). -/
def slShare (n p i : Nat) : Nat × Nat := blockElems n (blockRange (ceilDiv n 128) p i)

def slOpnds (c : Cmd) : List Opnd :=
  [(slA c).opnd (slAHandle c), (slB c).opnd (slBHandle c), (slC c).opnd (slCHandle c) true (slAcc c == 1) (slOut c),
   bytesOpnd (slWsHandle c) 0 (slWsBytes c) true]

/-- The checks of R179, with R176's ranges and R177's place of the workspace. -/
def Dev.slBad (d : Dev) (part : Nat) (c : Cmd) : Bool :=
  (slIs64 c && (decide (slS c < 5) || decide (9 < slS c))) || (!slIs64 c && slCFmt c != 0x0 && slCFmt c != 0xE)
    || slSplit c == 3 || slLda c == 0 || slLdb c == 0 || slLdc c == 0
    || (slA c).pitchBad || (slB c).pitchBad || (slC c).pitchBad
    || (slOpnds c).any (d.beyond part) || anyOverlap (slOpnds c)
    || (match d.resolve part (slWsHandle c) with | some (_, o) => o.kind == kCOMMITTED | none => false)
    || d.coresBad part (slCoreFirst c) (slCoreCount c)

/-- Time of part `i` at peak, in qns (R181). -/
def slQns (c : Cmd) (i : Nat) : Nat :=
  let r := slPart c i
  let macs := r.2.1 * r.2.2.2 * slK c * (if slIs64 c then slPairs c else 3)
  let ra := (slShare (slM c) (slCount c) i).2
  let rb := (slShare (slN c) (slCount c) i).2
  let rd := (ra + rb) * slK c * (if slIs64 c then 8 else 4)
  let wr := if slIs64 c then slS c * (ra + rb) * slK c + 2 * (ra + rb) else 4 * (ra + rb) * slK c
  macQns macs (if slIs64 c then 2 else 1) + ceilDiv (max rd wr) 64

end Sys2Proof.Machine
end

