-- ==== Sys2Proof/Machine/PlanArcade.lean ====
section
/-! DEFINITION. Arcade commands before they run: their operands, the checks of their bodies, their parts and the time of each
(09_arcade_engines.md R185 to R208). -/

namespace Sys2Proof.Machine

/-- A flat vector of elements from a byte on. -/
def flatTens (code off n : Nat) : Tens := { code := code, off := off, rows := 1, cols := n, pitch := densePitch code n }

/-- Time of a part in qns: 96 cycles and the largest of the three counts, at 800 MHz (R185). -/
def arcadeQns (op rd wr : Nat) : Nat := 5 * (96 + max op (max (ceilDiv rd 640) (ceilDiv wr 640)))

/-- The engine type of an Arcade opcode, as in SPR_MAP_SEL. -/
def engType (op : Nat) : Nat :=
  if op = opVX then 1 else if op = opSF then 2 else if op = opNORM then 3
  else if op = opROUTE ∨ op = opPERMUTE ∨ op = opCOMBINE then 4 else if op = opFFT then 5 else 6

/-- ENG_COUNT is 0 or the range passes the type's logical engines (R186). -/
def engBad (t first count : Nat) : Bool := count == 0 || decide (unitActive t < first + count)

/-- The units of an extent that part `i` of `p` covers when `b` units split by blocks of `blk`: first and count. -/
def unitRange (n blk p i : Nat) : Nat × Nat :=
  let r := blockRange (ceilDiv n blk) p i
  (r.1 * blk, min n ((r.1 + r.2) * blk) - r.1 * blk)

/-- An output may coincide exactly with an input; any other overlap is refused (R187). -/
def arcadeOverlap (ins outs : List Opnd) (sameShape : Opnd → Opnd → Bool) : Bool :=
  outs.any (fun o => ins.any (fun i => o.overlaps i && !(o.same i && sameShape o i))) || anyOverlap outs

/-- Same bytes and same format. -/
def sameFmt (a b : Opnd) : Bool := a.fmt == b.fmt

/-- A float format of the Arcade. -/
def floatCode (c : Nat) : Bool := c == 0x10 || (decide (c ≤ 0xE) && c != 0x4)

/-- Formats that a lane mode accepts: 0 FP32, 1 FP64, 2 INT32, 3 INT16 (R190). -/
def laneAccepts (lane c : Nat) : Bool :=
  match lane with
  | 0 => floatCode c
  | 1 => c == 0x10 || c == 0xE || c == 0x0
  | 2 => c == 0xF || c == 0x11 || c == 0x4
  | _ => c == 0x11 || c == 0x4

/-- Elements per cycle of VXE lanes (R184). -/
def vxLanes : Nat → Nat
  | 0 => 1024 | 1 => 256 | 2 => 1024 | _ => 2048

/-! ### VX chains (table Chain descriptor) -/

def vxE (c : Cmd) : Nat := vxCountM1 c + 1

/-- Entry `k` of a chain: IN0 to IN3, OUT0, OUT1. -/
def chOff (x k : Nat) : Nat := df x (16 + 8 * k) 0 32 * 64
def chFmt (x k : Nat) : Nat := df x (20 + 8 * k) 0 5
def chShape (x k : Nat) : Nat := df x (20 + 8 * k) 5 2
def chLane (x : Nat) : Nat := df x 2 0 2
def chOps (x : Nat) : Nat := df x 3 0 5
def chRowlen (x : Nat) : Nat := df x 12 0 32
def chStats (x : Nat) : Bool := df x 8 0 1 == 1
def chStatsH (x : Nat) : Nat := df x 192 0 32
def chSlot (x : Nat) : Nat := df x 196 0 12

/-- Op `k`: OPC, DST, sources A, B, C and IMM. -/
def chOpc (x k : Nat) : Nat := df x (64 + 8 * k) 0 8
def chDst (x k : Nat) : Nat := df x (65 + 8 * k) 0 4
def chA (x k : Nat) : Nat := df x (65 + 8 * k) 4 4
def chB (x k : Nat) : Nat := df x (66 + 8 * k) 0 4
def chC (x k : Nat) : Nat := df x (66 + 8 * k) 4 4
def chImm (x k : Nat) : Nat := df x (68 + 8 * k) 0 32

/-- How many sources an op reads; 0 for an unlisted OPC (table VXE operations). -/
def vxArity (opc : Nat) : Nat :=
  if opc = 0x04 ∨ opc = 0x0B ∨ opc = 0x0C then 3
  else if opc = 0x07 ∨ opc = 0x08 ∨ opc = 0x12 ∨ opc = 0x13 then 1
  else if 1 ≤ opc ∧ opc ≤ 0x13 then 2 else 0

/-- Cost of an op. -/
def vxCost (opc : Nat) : Nat := if opc = 0x04 ∨ opc = 0x0C then 2 else 1

/-- Sources of op `k`: SEL reads a, b and c; the others their first operands. -/
def chSrcs (x k : Nat) : List Nat := ([chA x k, chB x k, chC x k]).take (vxArity (chOpc x k))

/-- The input handles and output handles of a VX. -/
def vxIn (c : Cmd) (k : Nat) : Nat := nthD [vxIn0 c, vxIn1 c, vxIn2 c, vxIn3 c] k 0
def vxOut (c : Cmd) (k : Nat) : Nat := nthD [vxOut0 c, vxOut1 c] k 0

/-- Inputs that some op of the chain names. -/
def chInputs (x : Nat) : List Nat :=
  (List.range 4).filter (fun k => (List.range (chOps x)).any (fun o => (chSrcs x o).contains (8 + k)))

/-- Outputs that some op writes. -/
def chOutputs (x : Nat) : List Nat := (List.range 2).filter (fun k => (List.range (chOps x)).any (fun o => chDst x o == 8 + k))

/-- Elements of input `k`'s vector. -/
def chLen (x e k : Nat) : Nat :=
  match chShape x k with
  | 0 => e
  | 1 => ceilDiv e (max (chRowlen x) 1)
  | 2 => chRowlen x
  | _ => 1

def chTens (x e k : Nat) : Tens := flatTens (chFmt x k) (chOff x k) (chLen x e k)

/-- Reserved bits of a chain descriptor. -/
def chReserved (x : Nat) : Bool :=
  df x 2 2 6 != 0 || df x 3 5 3 != 0 || df x 4 0 32 != 0 || df x 8 1 31 != 0
    || (List.range 6).any (fun k => df x (20 + 8 * k) 7 1 != 0 || df x (21 + 8 * k) 0 24 != 0)
    || (List.range 16).any (fun k => df x (67 + 8 * k) 0 8 != 0)
    || df x 196 12 4 != 0 || df x 198 0 464 != 0

/-- An op of a chain that R190 refuses: an unlisted OPC, an integer op in FP lanes or the reverse, a code that is no source or
destination, a register read before it is written, an input with no handle. `wr` are the registers written so far. -/
def chOpBad (x : Nat) (c : Cmd) (lane k : Nat) (wr : List Nat) : Bool :=
  let opc := chOpc x k
  vxArity opc == 0 || (decide (0x0D ≤ opc) && decide (opc ≤ 0x11) && decide (lane ≤ 1)) || (opc == 0x04 && decide (2 ≤ lane))
    || (opc == 0x12 && lane != 0) || (opc == 0x12 && (codeFmt (chImm x k % 32)).isNone)
    || decide (9 < chDst x k)
    || (chSrcs x k).any (fun s => decide (12 < s) || (decide (s < 8) && !wr.contains s)
        || (decide (8 ≤ s) && decide (s < 12) && vxIn c (s - 8) == 0))

/-- Registers written before op `k`. -/
def chWritten (x k : Nat) : List Nat := ((List.range k).map (chDst x)).filter (fun r => decide (r < 8))

/-- The part fails its chain (R190). -/
def Dev.chainBad (d : Dev) (part x : Nat) (c : Cmd) : Bool :=
  let n := chOps x
  let ks := List.range n
  df x 0 0 16 != 1 || chReserved x || n == 0 || decide (16 < n)
    || ks.any (fun k => chOpBad x c (chLane x) k (chWritten x k))
    || decide (1 < (ks.filter (fun k => chDst x k == 8)).length) || decide (1 < (ks.filter (fun k => chDst x k == 9)).length)
    || !(chOutputs x).contains 0 || (chOutputs x).any (fun k => chShape x (4 + k) != 0 || vxOut c k == 0)
    || ((chInputs x).any (fun k => chShape x k == 1 || chShape x k == 2) && chRowlen x == 0)
    || (chInputs x).any (fun k => !laneAccepts (chLane x) (chFmt x k))
    || (chOutputs x).any (fun k => !laneAccepts (chLane x) (chFmt x (4 + k)))
    || (chStats x && (chStatsH x == 0 || d.absent part (chStatsH x)))

/-- Operands of a VX with its chain. -/
def vxOpnds (x : Nat) (c : Cmd) : List Opnd :=
  let ins := (chInputs x).map (fun k => (chTens x (vxE c) k).opnd (vxIn c k) false false (chFmt x k))
  let outs := (chOutputs x).map fun k =>
    let o := (chTens x (vxE c) (4 + k)).opnd (vxOut c k) true false (chFmt x (4 + k))
    { o with acc := ins.any o.same }
  descOpnd (vxChain c) :: ins ++ outs ++ (if chStats x then [{ bytesOpnd (chStatsH x) (32 * chSlot x) 32 true true with stat := true }] else [])

/-- The chain's checks against objects and one another (R187), made when the part reads it. -/
def Dev.chainExtentBad (d : Dev) (part x : Nat) (c : Cmd) : Bool :=
  let l := (vxOpnds x c).drop 1
  l.any (d.beyond part) || arcadeOverlap (l.filter (fun a => !a.write)) (l.filter (fun a => a.write)) sameFmt

/-- The chain's cost L. -/
def chCost (x : Nat) : Nat := sumBy (fun k => vxCost (chOpc x k)) (List.range (chOps x))

/-! ### SF -/

def sfE (c : Cmd) : Nat := sfCountM1 c + 1
def sfInT (c : Cmd) : Tens := flatTens (sfInFmt c) (sfInOff c * 64) (sfE c)
def sfOutT (c : Cmd) : Tens := flatTens (sfOutFmt c) (sfOutOff c * 64) (sfE c)

def sfOpnds (c : Cmd) : List Opnd :=
  let i := (sfInT c).opnd (sfIn c) false false (sfInFmt c)
  let o := (sfOutT c).opnd (sfOut c) true false (sfOutFmt c)
  [i, { o with acc := o.same i }] ++ (if sfFn c = 9 then [(sfOutT c).opnd (sfOut2 c) true false (sfOutFmt c)] else [])

def Dev.sfBad (d : Dev) (part : Nat) (c : Cmd) : Bool :=
  let l := sfOpnds c
  decide (10 < sfFn c) || !laneAccepts (sfLane c) (sfInFmt c) || !laneAccepts (sfLane c) (sfOutFmt c)
    || [sfPre c, sfOffset c, sfPost c].any (fun v => !(fp32.decode v).isFinite) || (sfFn c != 9 && sfOut2 c != 0)
    || l.any (d.beyond part) || arcadeOverlap (l.take 1) (l.drop 1) sameFmt || engBad 2 (sfEngFirst c) (sfEngCount c)

/-! ### NORM -/

def normRows (c : Cmd) : Nat := normRowsM1 c + 1
def normLen (c : Cmd) : Nat := normLenM1 c + 1

/-- Ops with a row output like the input, and the limits of LEN (table NORM operations). -/
def normLimit : Nat → Nat
  | 4 => 2 ^ 24 | 6 => 2 ^ 32 | 7 => 2 ^ 32 | 8 => 2 ^ 32 | _ => 65536
def normLaneOps : Nat → Nat
  | 0 => 6 | 1 => 4 | 2 => 10 | 3 => 7 | 4 => 4 | 5 => 3 | 6 => 2 | _ => 1

def normXT (c : Cmd) : Tens := denseTens (normXFmt c) (normRows c) (normLen c)
def normYT (c : Cmd) : Tens := denseTens (normYFmt c) (normRows c) (normLen c)

/-- Bytes of SAVE per row. -/
def normSaveBytes (op : Nat) : Nat := if op = 0 ∨ op = 2 then 8 else 4

/-- Operands of NORM; DY is read in X_FMT (log entry 26). -/
def normOpnds (c : Cmd) : List Opnd :=
  let op := normOp c
  let x := (normXT c).opnd (normX c) false false (normXFmt c)
  let y := if op ≤ 4 then (normYT c).opnd (normY c) true false (normYFmt c)
    else if op = 5 then bytesOpnd (normY c) 0 (8 * normLen c) true
    else bytesOpnd (normY c) 0 (8 * (normRows c + 1)) true
  [x, { y with acc := y.same x }]
    ++ (if normGamma c ≠ 0 ∧ op ≤ 3 then [bytesOpnd (normGamma c) 0 (4 * normLen c)] else [])
    ++ (if normBeta c ≠ 0 ∧ op = 0 then [bytesOpnd (normBeta c) 0 (4 * normLen c)] else [])
    ++ (if normSave c ≠ 0 ∧ op ≤ 4 then
          [bytesOpnd (normSave c) 0 (normSaveBytes op * normRows c) (op != 2 && op != 3)] else [])
    ++ (if op = 2 ∨ op = 3 then [(normXT c).opnd (normDy c)] else [])
    ++ (if (op = 2 ∨ op = 3) ∧ normDparam c ≠ 0 then [bytesOpnd (normDparam c) 0 (8 * normLen c) true true] else [])

def Dev.normBad (d : Dev) (part : Nat) (c : Cmd) : Bool :=
  let l := normOpnds c
  let op := normOp c
  let eps := fp32.decode (normEps c)
  decide (8 < op) || decide (normLimit op < normLen c) || !laneAccepts (normLane c) (normXFmt c)
    || (decide (6 ≤ op) && normYFmt c != 0x10) || (op == 5 && normYFmt c != 0xE)
    || (decide (op ≤ 4) && !laneAccepts (normLane c) (normYFmt c))
    || (decide (op ≤ 3) && !(FVal.zero.lt eps && eps.isFinite)) || ((op == 2 || op == 3) && (normDy c == 0 || normSave c == 0))
    || l.any (d.beyond part)
    || arcadeOverlap (l.filter (fun a => !a.write)) (l.filter (fun a => a.write)) sameFmt
    || engBad 3 (normEngFirst c) (normEngCount c)

/-- The split of NORM: how many units and of what size (table Split units). -/
def normUnits (c : Cmd) : Nat × Nat :=
  if normOp c = 5 then (normLen c, 1024) else if normOp c ≤ 3 then (normRows c, 16) else (normRows c, 1)

/-! ### ROUTE, PERMUTE, COMBINE -/

def routeT (c : Cmd) : Nat := routeTM1 c + 1
def routeE (c : Cmd) : Nat := routeEM1 c + 1
def routeLogitT (c : Cmd) : Tens := denseTens (routeLogitFmt c) (routeT c) (routeE c)

/-- First byte of the weights in SEL (R199). -/
def selWeights (t k : Nat) : Nat := roundUp (8 * t * k) 64
def selBytes (t k : Nat) : Nat := selWeights t k + 4 * t * k

def routeOpnds (c : Cmd) : List Opnd :=
  [(routeLogitT c).opnd (routeLogits c), bytesOpnd (routeSel c) 0 (selBytes (routeT c) (routeK c)) true,
   bytesOpnd (routeStats c) 0 (16 * routeE c + 4) true]
    ++ (if routeBias c = 0 then [] else [bytesOpnd (routeBias c) 0 (4 * routeE c)])

def Dev.routeBad (d : Dev) (part : Nat) (c : Cmd) : Bool :=
  routeK c == 0 || decide (8 < routeK c) || decide (routeE c < routeK c)
    || !(routeLogitFmt c == 0 || routeLogitFmt c == 1 || routeLogitFmt c == 0xE) || decide (2 ^ 24 < routeCap c)
    || (routeOpnds c).any (d.beyond part) || anyOverlap (routeOpnds c) || engBad 4 (routeEngFirst c) (routeEngCount c)

def permT (c : Cmd) : Nat := permTM1 c + 1
def permD (c : Cmd) : Nat := permDM1 c + 1
def combT (c : Cmd) : Nat := combTM1 c + 1
def combD (c : Cmd) : Nat := combDM1 c + 1

/-- Rows of a token buffer, and of a dispatch buffer as long as its object: its rows are checked one by one (R200). -/
def tokenTens (code t n : Nat) : Tens := denseTens code t n
def Dev.bufferTens (d : Dev) (part h code n : Nat) : Tens :=
  let o := (d.objOf part h).2
  let one := densePitch code n / 8 + (if codeMx code then roundUp (ceilDiv n 32) 64 else 0)
  denseTens code (o.bytes / max one 1) n

def Dev.permOpnds (d : Dev) (part : Nat) (c : Cmd) : List Opnd :=
  bytesOpnd (permSel c) 0 (selBytes (permT c) (permK c)) ::
    if permDir c = 0 then
      [(tokenTens (permFmt c) (permT c) (permD c)).opnd (permSrc c),
       (d.bufferTens part (permDst c) (permFmt c) (permD c)).opnd (permDst c) true]
    else
      [(d.bufferTens part (permSrc c) (permFmt c) (permD c)).opnd (permSrc c),
       (tokenTens (permOutFmt c) (permT c) (permD c)).opnd (permDst c) true false (permOutFmt c)]

def Dev.permBad (d : Dev) (part : Nat) (c : Cmd) : Bool :=
  permK c == 0 || decide (8 < permK c) || decide (0x11 < permFmt c)
    || (permDir c == 1 && (!laneAccepts 0 (permFmt c) || !laneAccepts 0 (permOutFmt c)))
    || (d.permOpnds part c).any (d.beyond part) || anyOverlap (d.permOpnds part c)
    || engBad 4 (permEngFirst c) (permEngCount c)

def Dev.combOpnds (d : Dev) (part : Nat) (c : Cmd) : List Opnd :=
  [bytesOpnd (combSel c) 0 (selBytes (combT c) (combK c)),
   (d.bufferTens part (combEout c) (combFmt c) (combD c)).opnd (combEout c)]
    ++ (if combMode c = 0 then [(tokenTens (combOutFmt c) (combT c) (combD c)).opnd (combY c) true false (combOutFmt c)]
        else [(d.bufferTens part (combY c) (combOutFmt c) (combD c)).opnd (combY c) true false (combOutFmt c),
              (tokenTens (combFmt c) (combT c) (combD c)).opnd (combDy c),
              bytesOpnd (combDw c) 0 (4 * combT c * combK c) true])

def Dev.combBad (d : Dev) (part : Nat) (c : Cmd) : Bool :=
  combK c == 0 || decide (8 < combK c) || !laneAccepts 0 (combFmt c) || !laneAccepts 0 (combOutFmt c)
    || (d.combOpnds part c).any (d.beyond part) || anyOverlap (d.combOpnds part c)
    || engBad 4 (combEngFirst c) (combEngCount c)

/-! ### FFT -/

def fftNx (c : Cmd) : Nat := fftNxM1 c + 1
def fftNy (c : Cmd) : Nat := if 2 ≤ fftDims c then fftNyM1 c + 1 else 1
def fftNz (c : Cmd) : Nat := if 3 ≤ fftDims c then fftNzM1 c + 1 else 1
def fftBatch (c : Cmd) : Nat := fftBatchM1 c + 1
def fftPoints (c : Cmd) : Nat := fftNx c * fftNy c * fftNz c

/-- How often `p` divides `n`, and what is left. -/
def divOut (p : Nat) : Nat → Nat → Nat × Nat
  | 0, n => (0, n)
  | k + 1, n => if n ≠ 0 ∧ n % p = 0 then let r := divOut p k (n / p); (r.1 + 1, r.2) else (0, n)

/-- 2^a 3^b 5^c: the exponents, or none. -/
def smooth (n : Nat) : Option (Nat × Nat × Nat) :=
  let a := divOut 2 32 n
  let b := divOut 3 32 a.2
  let c := divOut 5 32 b.2
  if c.2 = 1 then some (a.1, b.1, c.1) else none

/-- Slots of a line of length `n`, doubled (S(N) of R203). -/
def slots2 (n : Nat) : Nat :=
  match smooth n with
  | some (a, b, c) => (a + 2 * b + 4 * c) * n
  | none => 0

/-- Numbers along x in and out: real counts 1 per point, complex 2. -/
def fftInX (c : Cmd) : Nat := if fftKind c = 1 then fftNx c else if fftKind c = 2 then 2 * (fftNx c / 2 + 1) else 2 * fftNx c
def fftOutX (c : Cmd) : Nat := if fftKind c = 1 then 2 * (fftNx c / 2 + 1) else if fftKind c = 2 then fftNx c else 2 * fftNx c
def fftCode (c : Cmd) : Nat := if fftPrec c = 1 then 0x10 else 0xE

/-- Numbers in one transform's input and output. -/
def fftInN (c : Cmd) : Nat := fftInX c * fftNy c * fftNz c
def fftOutN (c : Cmd) : Nat := fftOutX c * fftNy c * fftNz c

def fftInT (c : Cmd) : Tens := packedTens (fftCode c) (fftBatch c) (fftInN c) false
def fftOutT (c : Cmd) : Tens := packedTens (fftCode c) (fftBatch c) (fftOutN c) false

def fftOpnds (c : Cmd) : List Opnd :=
  let i := (fftInT c).opnd (fftIn c)
  let o := (fftOutT c).opnd (fftOut c) true false (fftCode c)
  [i, { o with acc := o.same i }]

def Dev.fftBad (d : Dev) (part : Nat) (c : Cmd) : Bool :=
  let l := fftOpnds c
  fftDims c == 0 || fftKind c == 3 || fftNorm c == 3 || (decide (fftDims c < 2) && fftNyM1 c != 0)
    || (decide (fftDims c < 3) && fftNzM1 c != 0) || [fftNx c, fftNy c, fftNz c].any (fun n => (smooth n).isNone)
    || decide (2 ^ 25 < fftPoints c) || (fftKind c != 0 && fftNx c % 2 == 1)
    || l.any (d.beyond part) || arcadeOverlap (l.take 1) (l.drop 1) (fun _ _ => fftKind c == 0)
    || engBad 5 (fftEngFirst c) (fftEngCount c)

/-- Butterfly slots of one transform, doubled. -/
def fftSlots2 (c : Cmd) : Nat :=
  let cols := if fftKind c = 0 then fftNx c else fftNx c / 2 + 1
  (if fftKind c = 0 then slots2 (fftNx c) else slots2 (fftNx c / 2) + fftNx c) * fftNy c * fftNz c
    + (if 2 ≤ fftDims c then slots2 (fftNy c) * cols * fftNz c else 0)
    + (if 3 ≤ fftDims c then slots2 (fftNz c) * cols * fftNy c else 0)

/-- Passes over the data of a transform (R203). -/
def fftPasses (c : Cmd) : Nat :=
  let lim := if fftPrec c = 1 then 2 ^ 17 else 2 ^ 18
  if fftPoints c ≤ lim then 1
  else sumBy (fun n => if n ≤ lim then 1 else 2) ([fftNx c, fftNy c, fftNz c].take (fftDims c))

/-! ### GATHER and SCATTER_ADD -/

def gatN (c : Cmd) : Nat := gatNM1 c + 1
def gatW (c : Cmd) : Nat := (gatWLM1 c + 1) * 64

def gatOpnds (c : Cmd) : List Opnd :=
  [bytesOpnd (gatTable c) (gatTableOff c * 64) ((gatRowsM1 c + 1) * gatW c), bytesOpnd (gatIdx c) (gatIdxOff c * 64) (4 * gatN c),
   bytesOpnd (gatOut c) (gatOutOff c * 64) (gatN c * gatW c) true]

def Dev.gatBad (d : Dev) (part : Nat) (c : Cmd) : Bool :=
  (gatOpnds c).any (d.beyond part) || anyOverlap (gatOpnds c) || engBad 6 (gatEngFirst c) (gatEngCount c)

def scaN (c : Cmd) : Nat := scaNM1 c + 1
def scaD (c : Cmd) : Nat := scaDM1 c + 1

/-- Format code of RED. -/
def redCode : Nat → Nat
  | 0 => 0xE | 1 => 0x0 | 2 => 0x10 | _ => 0xF

def scaSrcT (c : Cmd) : Tens := denseTens (scaSrcFmt c) (if scaMode c = 1 then scaXRowsM1 c + 1 else scaN c) (scaD c)
def scaDstT (c : Cmd) : Tens := denseTens (redCode (scaRed c)) (scaRowsM1 c + 1) (scaD c)

def scaOpnds (c : Cmd) : List Opnd :=
  [(scaSrcT c).opnd (scaSrc c), bytesOpnd (scaIdx c) 0 ((if scaMode c = 1 then 12 else 4) * scaN c),
   (scaDstT c).opnd (scaDst c) true true (redCode (scaRed c))]

def Dev.scaBad (d : Dev) (part : Nat) (c : Cmd) : Bool :=
  (scaMode c == 1 && scaRed c == 3) || (scaRed c == 3 && !laneAccepts 2 (scaSrcFmt c)) || (scaRed c != 3 && !floatCode (scaSrcFmt c))
    || (scaMode c == 0 && scaXRowsM1 c != 0) || (scaRed c != 1 && scaStream c != 0)
    || decide (0x11 < scaSrcFmt c) || (scaOpnds c).any (d.beyond part)
    || anyOverlap (scaOpnds c) || engBad 6 (scaEngFirst c) (scaEngCount c)

/-! ### Parts and times -/

/-- First engine and count of an Arcade command. -/
def engRange (c : Cmd) : Nat × Nat :=
  let op := cmdOpcode c
  if op = opVX then (vxEngFirst c, vxEngCount c)
  else if op = opSF then (sfEngFirst c, sfEngCount c)
  else if op = opNORM then (normEngFirst c, normEngCount c)
  else if op = opROUTE then (routeEngFirst c, if routeDrop c = 1 then min (routeEngCount c) 1 else routeEngCount c)
  else if op = opPERMUTE then (permEngFirst c, permEngCount c)
  else if op = opCOMBINE then (combEngFirst c, combEngCount c)
  else if op = opFFT then (fftEngFirst c, fftEngCount c)
  else if op = opGATHER then (gatEngFirst c, gatEngCount c)
  else (scaEngFirst c, scaEngCount c)

/-- What an Arcade command splits: how many units, and how many of them make a block (table Split units). -/
def arcadeUnits (c : Cmd) : Nat × Nat :=
  let op := cmdOpcode c
  if op = opVX then (vxE c, 4096)
  else if op = opSF then (sfE c, 4096)
  else if op = opNORM then normUnits c
  else if op = opROUTE then (routeT c, 1024)
  else if op = opPERMUTE then (permT c, 1024)
  else if op = opCOMBINE then (combT c, 1024)
  else if op = opFFT then (fftBatch c, 1)
  else if op = opGATHER then (gatN c, 4096)
  else (scaN c, 4096)

def arcadeCount (c : Cmd) : Nat :=
  let u := arcadeUnits c
  if cmdOpcode c = opROUTE ∧ routeDrop c = 1 then 1 else min (engRange c).2 (ceilDiv u.1 u.2)

/-- The units of part `i`: first and count. -/
def arcadePart (c : Cmd) (i : Nat) : Nat × Nat :=
  let u := arcadeUnits c
  if arcadeCount c = 1 then (0, u.1) else unitRange u.1 u.2 (arcadeCount c) i

/-- Bytes of `n` elements. -/
def elemBytes (code n : Nat) : Nat := ceilDiv (n * elemBits code) 8 + (if codeMx code then ceilDiv n 32 else 0)

/-- Time of part `i` at peak (R185; the timing rules of the types); `x` is the chain of a VX. -/
def arcadeTime (x : Nat) (c : Cmd) (i : Nat) : Nat :=
  let op := cmdOpcode c
  let n := (arcadePart c i).2
  if op = opVX then
    arcadeQns (ceilDiv n (vxLanes (chLane x)) * chCost x)
      (sumBy (fun k => elemBytes (chFmt x k) (if chShape x k = 0 then n else ceilDiv n (max (chRowlen x) 1))) (chInputs x))
      (sumBy (fun k => elemBytes (chFmt x (4 + k)) n) (chOutputs x))
  else if op = opSF then
    let k := if sfFn c = 9 then 2 else 1
    arcadeQns (k * ceilDiv n (if sfLane c = 1 then 64 else 256)) (elemBytes (sfInFmt c) n) (k * elemBytes (sfOutFmt c) n)
  else if op = opNORM then
    let e := if normOp c = 5 then n * normRows c else n * normLen c
    let reads := (if normOp c = 4 ∧ 65536 < normLen c then 2 else 1) + (if normOp c = 2 ∨ normOp c = 3 then 1 else 0)
    arcadeQns (ceilDiv e (if normLane c = 1 then 256 else 1024) * normLaneOps (normOp c)) (reads * elemBytes (normXFmt c) e)
      (if normOp c ≤ 4 then elemBytes (normYFmt c) e else 8 * n)
  else if op = opROUTE then
    let tk := n * routeK c
    arcadeQns (n * (2 * ceilDiv (routeE c) 256 + routeK c)) (n * (densePitch (routeLogitFmt c) (routeE c) / 8)) 0
      + arcadeQns (ceilDiv tk 16 + (if routeDrop c = 1 then ceilDiv (tk * clog2 tk) 16 else 0)) (8 * tk) (12 * tk)
  else if op = opPERMUTE then
    let k := permK c
    let row := densePitch (permFmt c) (permD c) / 8
    if permDir c = 0 then arcadeQns (n * k) (n * row + 8 * n * k) (n * k * row)
    else arcadeQns (n * k) (n * k * row + 8 * n * k) (n * (densePitch (permOutFmt c) (permD c) / 8))
  else if op = opCOMBINE then
    let k := combK c
    let row := densePitch (combFmt c) (combD c) / 8
    let out := densePitch (combOutFmt c) (combD c) / 8
    if combMode c = 0 then arcadeQns (n * k) (n * k * row + 12 * n * k) (n * out)
    else arcadeQns (n * k) (n * (k + 1) * row + 12 * n * k) (n * k * (out + 4))
  else if op = opFFT then
    let b := elemBits (fftCode c) / 8
    arcadeQns (ceilDiv (n * fftSlots2 c) (2 * (if fftPrec c = 1 then 16 else 32))) (n * b * fftInN c * fftPasses c)
      (n * b * fftOutN c * fftPasses c)
  else if op = opGATHER then arcadeQns n (n * (4 + gatW c)) (n * gatW c)
  else arcadeQns n (n * ((if scaMode c = 1 then 12 else 4) + densePitch (scaSrcFmt c) (scaD c) / 8))
    (n * (densePitch (redCode (scaRed c)) (scaD c) / 8))

end Sys2Proof.Machine
end

