-- ==== Sys2Proof/Machine/Access.lean ====
section
/-! DEFINITION. What a BAR0 offset of a function reaches (02_register_pages.md R32 to R35, R49; 17_host_link_and_signpost.md R380, R381;
18_faults_resets_dumps.md R403; 19_boot_and_trust.md R417). -/

namespace Sys2Proof.Machine

/-- Only GLB, TIM, SEC and HLT are served: OUT_OF_SERVICE and MAINTENANCE. -/
def Dev.fewPages (d : Dev) : Bool := d.rd F.hltState_state != 0

def servedAlways : List Block := [.glb, .tim, .sec, .hlt]

/-- The partition that a function's views show: the enabled one whose FUNC names it (R372). -/
def Dev.ownPart (d : Dev) (f : Nat) : Option Nat := (List.range 8).find? (fun p => d.flag (F.glbPart_enable p) && d.partFunc p == f)

/-- The page of PF BAR0 at an offset, and the offset within it. -/
def pfPageAt (off : Nat) : Option (Page × Nat) :=
  match blockAt off with
  | none => none
  | some (b, i) =>
    let rel := off - b.base - i * b.stride
    if b.pages.contains (rel / 0x1000) then some (pfPage b i (rel / 0x1000), rel % 0x1000) else none

/-- The page of a VF's BAR0 at an offset, and the offset within it. -/
def vfPageAt (f off : Nat) : Option (Page × Nat) := (viewAtOff off).map (fun x => (⟨f, x.1, 0, x.2⟩, off % 0x1000))

/-- The page an access of a function reaches; none where it is unmapped. A VF without an enabled partition reaches nothing (R380). -/
def Dev.pageAt (d : Dev) (f off : Nat) : Option (Page × Nat) :=
  let hit := if f = 0 then pfPageAt off else if f ≤ 8 ∧ (d.ownPart f).isSome then vfPageAt f off else none
  hit.filter (fun x => !d.fewPages || servedAlways.contains x.1.blk)

/-- A write of a locked register that would change its value is recorded and has no effect; one that would not is not recorded (R47).
`key` is the register, `off` the offset the function wrote. -/
def Dev.underLock (d : Dev) (lock : Page) (f off key : Nat) (act : Dev → Dev) : Dev :=
  if d.flag (hLock lock) then (if (act d).reg key = d.reg key then d else d.badAccess f off 1) else act d

end Sys2Proof.Machine
end

