-- ==== Sys2Proof/Machine/MktOps.lean ====
section
/-! DEFINITION. The Market's banks: where an address lies, failed banks, their replacement and the closing of bank groups
(04_market.md R86, R98 to R101). -/

namespace Sys2Proof.Machine

/-! ### Addresses (R86) -/

/-- Granule, bank group, logical bank and row of a line number A[29:6]. -/
def lineGranule (line : Nat) : Nat := line / 1024
def lineGroup (line : Nat) : Nat := lineGranule line % 64
def lineBank (line : Nat) : Nat := lineGroup line * 16 + ((line % 16) ^^^ (line / 16 % 16))
def lineRow (line : Nat) : Nat := lineGranule line / 64 * 64 + line % 1024 / 16

/-! ### Banks -/

def Dev.bank (d : Dev) (b : Nat) : Bank := mapGet { phys := b } d.mkt.banks b
def Dev.setBank (d : Dev) (b : Nat) (x : Bank) : Dev :=
  let d := d.setMkt { d.mkt with banks := mapPut d.mkt.banks b x }
  (d.wr (F.mktMap_phys.bank b) x.phys).wr (F.mktMap_state.bank b) x.state

/-- MKT_MAP states. -/
def bkNORMAL : Nat := 0
def bkCOPYING : Nat := 1
def bkREPLACED : Nat := 2
def bkCLOSED : Nat := 3

/-- Free reserve banks, lowest first. -/
def Dev.reserveBanks (d : Dev) : List Nat := (range' 1024 64).filter (fun b => !d.mkt.taken.contains b)

/-- Parts that hold a reference on a unit fail. -/
def Dev.failRefs (d : Dev) (k u status : Nat) : Dev :=
  (d.tir.refs.filter (fun r => r.obj == k && r.unit == u && !r.old)).foldl (fun d r => d.failPart r.q r.count r.part status) d

/-- T0 copies that have granules in a bank group. -/
def Dev.unitsInGroup (d : Dev) (g : Nat) : List (Nat × Nat) :=
  d.tir.objs.flatMap fun e =>
    (e.2.units.filter (fun y => y.2.t0 != tsABSENT && y.2.t0 != tsPOISONED
      && decide ((g + 64 - y.2.base0 / granuleBytes % 64) % 64 < e.2.unitGranules))).map (fun y => (e.1, y.1))

/-- Close a bank group (R101): its banks read CLOSED, clean copies are dropped, every other object there becomes POISONED, a step
whose objects lie there aborts. -/
def Dev.closeGroup (d : Dev) (g : Nat) : Dev :=
  if d.mkt.closed.contains g then d
  else
    let d := d.setMkt { d.mkt with closed := d.mkt.closed ++ [g] }
    let d := (range' (16 * g) 16).foldl (fun d b => d.setBank b { d.bank b with state := bkCLOSED }) d
    let d := (d.unitsInGroup g).foldl (fun d ku =>
      let step := (d.obj? ku.1).map (fun o => (o.kind == kSTEP, o.job))
      let r := d.loseT0 ku.1 ku.2
      let d := if r.1 then r.2 else r.2.failRefs ku.1 ku.2 St.eccUncorrectable
      match step with
      | some (true, j) => d.stepFailure j St.eccUncorrectable 0xFFFF
      | _ => d) d
    (d.raise mktPage 3 St.eccUncorrectable).recordRetirement

/-- A bank has failed (R100): the lowest free reserve bank takes its lines; with none, or in ASSIST mode until the host approves, its
group is closed. `bit` is the event of the cause. -/
def Dev.failBank (d : Dev) (b bit : Nat) : Dev :=
  let x := d.bank b
  if x.state = bkCOPYING ∨ x.state = bkCLOSED then d.raise mktPage bit St.eccUncorrectable
  else
    let d := d.raise mktPage bit St.eccUncorrectable
    if d.assist sprPage then
      (d.closeGroup (b / 16)).sprOpen { handle := 0, ident := mktPage.ident, kind := 1, detail := b, utype := 13, logical := b }
    else
      match d.reserveBanks with
      | [] => d.closeGroup (b / 16)
      | r :: _ => (d.setMkt { d.mkt with taken := d.mkt.taken ++ [r] }).setBank b { x with state := bkCOPYING, target := r }

/-- A reserve bank takes a logical bank's place (R100): MKT_MAP reads REPLACED, one reserve bank fewer is free. -/
def Dev.bankReplaced (d : Dev) (b : Nat) : Dev :=
  let d := d.setBank b { d.bank b with phys := (d.bank b).target, state := bkREPLACED, ce := 0 }
  ((d.wr F.mktSpareFree_count (d.rd F.mktSpareFree_count - 1)).raise mktPage 2 St.ok).recordRetirement

/-- An approved bank failure (R28, R31): the reserve bank is brought in and, with no other bank of it out, the group returns. -/
def Dev.bankApproved (d : Dev) (b : Nat) : Dev :=
  match d.reserveBanks with
  | [] => d
  | r :: _ =>
    let d := d.setMkt { d.mkt with taken := d.mkt.taken ++ [r] }
    let d := (d.setBank b { d.bank b with target := r }).bankReplaced b
    let rest := d.spr.recs.any (fun x => x.kind == 1 && x.detail / 16 == b / 16) || d.spr.waiting.any (fun x => x.kind == 1 && x.detail / 16 == b / 16)
    let d := if rest then d
      else
        let d := d.setMkt { d.mkt with closed := d.mkt.closed.filter (· != b / 16) }
        (range' (16 * (b / 16)) 16).foldl (fun d i =>
          if (d.bank i).state = bkCLOSED then
            d.setBank i { d.bank i with state := if (d.bank i).phys = i then bkNORMAL else bkREPLACED }
          else d) d
    d.raise sprPage 0 St.ok

/-! ### Errors found in a line (R98) -/

/-- A correctable error: the corrected word is written back and counted; past MKT_CE_LIMIT the bank fails. -/
def Dev.lineCe (d : Dev) (line : Nat) : Dev :=
  let b := lineBank line
  let d := ((d.incSat F.mktCeCnt_ce 1).mktError line 0).setBank b { d.bank b with ce := (d.bank b).ce + 1 }
  if d.rd F.mktCeLimit_limit < (d.bank b).ce ∧ (d.bank b).state ≠ bkCOPYING then d.failBank b 0 else d

/-- A line is marked poisoned, and the object that holds it loses its T0 copy. Answers whether the copy could be dropped. -/
def Dev.poisonLine (d : Dev) (line : Nat) : Bool × Dev :=
  let d := d.setMkt { d.mkt with poison := if d.mkt.poison.contains line then d.mkt.poison else d.mkt.poison ++ [line] }
  match d.unitAt0 (lineGranule line) with
  | none => (false, d)
  | some (k, u) => d.loseT0 k u

/-- An uncorrectable error: counted, the line poisoned, the bank failed. Answers whether the reader is spared. -/
def Dev.lineUe (d : Dev) (line : Nat) : Bool × Dev :=
  let r := ((d.incSat F.mktUeCnt_ue 1).mktError line 1).poisonLine line
  (r.1, r.2.failBank (lineBank line) 1)

/-- The sum of the nine limits a write of one may leave (R97, R221): clipped to the largest value that keeps it. -/
def clipLimit (total others v : Nat) : Nat := min v (total - others)

end Sys2Proof.Machine
end

