-- ==== Sys2Proof/Machine/PortOps.lean ====
section
/-! DEFINITION. Operations on one fabric port: the rates its good lanes allow, its link coming up and going down, its LLDPDUs, and
what its health reads (13_fabric_ports.md R289 to R295, R305). -/

namespace Sys2Proof.Machine

/-! ### Rates and lanes (R290, R292, R294) -/

/-- ALLOW permits a rate code (1 is 100, 2 is 200, 3 is 400 Gb/s). -/
def Dev.rateAllowed (d : Dev) (p r : Nat) : Bool := decide (1 ≤ r ∧ r ≤ 3) && bitOf (d.rd (F.fabPortCfg_allow p)) (3 - r)

/-- Lanes of a port that have failed or are retired. -/
def Dev.badLanes (d : Dev) (p : Nat) : Nat := d.rd (F.fabPortState_failed p) ||| d.rd (F.fabPortState_retired p)

def Dev.laneGood (d : Dev) (p l : Nat) : Bool := !bitOf (d.badLanes p) l

/-- The lanes a rate uses, or none where too few are good: 200 Gb/s takes 0 and 1 before 2 and 3, 100 Gb/s the lowest (R294). -/
def Dev.lanesFor (d : Dev) (p r : Nat) : Option Nat :=
  match r with
  | 3 => if d.badLanes p = 0 then some 0xF else none
  | 2 => if d.laneGood p 0 && d.laneGood p 1 then some 0x3 else if d.laneGood p 2 && d.laneGood p 3 then some 0xC else none
  | 1 => ((List.range 4).find? (d.laneGood p)).map (fun l => 2 ^ l)
  | _ => none

/-- Rates the port may use now, highest first. -/
def Dev.usableRates (d : Dev) (p : Nat) : List Nat :=
  [3, 2, 1].filter (fun r => decide (r ≤ (d.port p).cap) && d.rateAllowed p r && (d.lanesFor p r).isSome)

/-- A port runs degraded: a lane is out, or it has been started and does not run at 400 Gb/s (R294). -/
def Dev.portDegraded (d : Dev) (p : Nat) : Bool :=
  d.badLanes p != 0 || (d.portSt p != psDISABLED && !(d.portUp p && d.rd (F.fabPortState_rate p) == 3))

/-- PG_HEALTH of the port's pages follows its condition (R294, R41). -/
def Dev.portHealth (d : Dev) (p : Nat) : Dev := d.setHealth .fab p (if d.portDegraded p then 1 else 0)

def Dev.setPortSt (d : Dev) (p st rate lanes : Nat) : Dev :=
  ((d.wr (F.fabPortState_state p) st).wr (F.fabPortState_rate p) rate).wr (F.fabPortState_lanes p) lanes

/-! ### LLDP (R305) -/

/-- A number in network byte order. -/
def beBytes (k n : Nat) : List Byte := (leBytes k n).reverse

/-- An LLDP TLV: type and length in 16 bits, then its value. -/
def lldpTlv (t : Nat) (v : List Byte) : List Byte := beBytes 2 (t * 512 + v.length) ++ v

/-- The bytes of an own address entry in network order. -/
def Dev.addrBytes (d : Dev) (e : Nat) : List Byte :=
  let w := (List.range 4).flatMap (fun j => leBytes 4 (d.rd ((F.tbnAddr j).bank e)))
  if d.rd (F.tbnAddrCfg_family.bank e) = 0 then w.take 4 else w

/-- The Welfaum TLV's value (table Welfaum LLDP TLV). -/
def Dev.welfaumTlv (d : Dev) (p : Nat) : List Byte :=
  beBytes 3 (d.rd (F.fabLldpOui_oui p)) ++ [1] ++ beBytes 8 d.deviceId
    ++ beBytes 2 (d.rd F.ldgFd0_site) ++ beBytes 2 (d.rd F.ldgFd0_feed) ++ beBytes 2 (d.rd F.ldgFd1_chassis) ++ beBytes 2 (d.rd F.ldgFd1_rack)
    ++ leBytes 1 p ++ leBytes 1 (1 + d.rd (F.fabPortState_rate p) * 16) ++ beBytes 2 (d.rd F.tbnCfg_udpPort)
    ++ leBytes 1 (d.rd F.tbnCfg_versionMax)

/-- The LLDPDU with a TTL; a management address TLV carries no interface number and no OID (log entry 50). -/
def Dev.lldpdu (d : Dev) (p ttl : Nat) : List Byte :=
  let mgmt := ((List.range 4).filter (fun e => d.flag (F.tbnAddrCfg_valid.bank e))).flatMap (fun e =>
    let a := d.addrBytes e
    lldpTlv 8 (leBytes 1 (a.length + 1) ++ leBytes 1 (d.rd (F.tbnAddrCfg_family.bank e) + 1) ++ a ++ [1, 0, 0, 0, 0, 0]))
  lldpTlv 1 ([4] ++ beBytes 6 d.baseMac) ++ lldpTlv 2 ([3] ++ beBytes 6 (d.portMac p)) ++ lldpTlv 3 (beBytes 2 ttl)
    ++ mgmt ++ lldpTlv 127 (d.welfaumTlv p) ++ lldpTlv 0 []

/-- TTL of an LLDPDU: 4 × INTERVAL. -/
def Dev.lldpTtl (d : Dev) (p : Nat) : Nat := 4 * d.rd (F.fabLldpCfg_interval p)

/-- The destination address of LLDPDUs. -/
def Dev.lldpDest (d : Dev) (p : Nat) : Nat := if d.flag (F.fabLldpCfg_dest p) then 0x0180C2000000 else 0x0180C200000E

/-- An LLDPDU enters queue 6 and the interval starts again. -/
def Dev.sendLldp (d : Dev) (p : Nat) : Dev :=
  if d.flag (F.fabLldpCfg_txEn p) ∧ d.portUp p then
    let b := d.lldpdu p (d.lldpTtl p)
    let d := d.setPort p { d.port p with lldpNext := d.now + d.rd (F.fabLldpCfg_interval p) * secQ, lldpSent := b }
    d.enqueue p { queue := 6, len := d.frameLen p b.length, dest := 0, kind := .lldp, data := [d.lldpDest p], bytes := b }
  else d

/-- A shutdown LLDPDU leaves ahead of the port's going down: chassis, port, TTL 0 and End. -/
def Dev.shutdownLldp (d : Dev) (p : Nat) : Dev :=
  if d.flag (F.fabLldpCfg_txEn p) ∧ d.portUp p then
    (d.emit .lldp (d.lldpDest p) [p, 6, d.portMac p]
      (lldpTlv 1 ([4] ++ beBytes 6 d.baseMac) ++ lldpTlv 2 ([3] ++ beBytes 6 (d.portMac p)) ++ lldpTlv 3 [0, 0] ++ lldpTlv 0 [])).inc
      (F.fabTxFrames p) 1
  else d

/-! ### The link comes up and goes down (R292, R294, R315) -/

/-- Unacknowledged packets sent on a port become LOST and count toward no path (R315). -/
def Dev.losePort (d : Dev) (p : Nat) : Dev :=
  d.setTbn { d.tbn with conns := d.tbn.conns.map (fun (e : Nat × Conn) =>
    (e.1, { e.2 with pkts := e.2.pkts.map (fun (k : TxPkt) => if d.pathPort k.path = p then { k with lost := true } else k) })) }

/-- An UP link goes down into a state: waiting frames are discarded and counted, LINK_DOWN is set, the transport stops using the
port. -/
def Dev.dropLink (d : Dev) (p st : Nat) : Dev :=
  if d.portUp p then
    let x := d.port p
    let d := d.setPort p { x with txq := [], lastRate := d.rd (F.fabPortState_rate p), pauseEnd := [], pauseFrom := [], xoff := [] }
    let d := d.incSat (F.fabTxDiscard p) x.txq.length
    let d := d.wr (F.fabPauseState_paused p) 0
    let d := (d.setPortSt p st 0 0).raise (fabPage p) 1 St.ok
    (d.losePort p).pumpAll.portHealth p
  else (d.setPortSt p st 0 0).portHealth p

/-- Bring-up starts: copper negotiates, chip-to-module tries the highest rate whose lanes are good; with none the port is DOWN. -/
def Dev.startPort (d : Dev) (p : Nat) : Dev :=
  if !d.flag (F.fabPortCfg_enable p) then d.dropLink p psDISABLED
  else
    match d.usableRates p with
    | [] => d.dropLink p psDOWN
    | r :: _ =>
      let d := d.dropLink p (if d.flag (F.fabPortCfg_medium p) then psNO_SIGNAL else psNEGOTIATING)
      d.setPort p { d.port p with trying := r, tryFrom := d.now, waiting := false }

/-- Take a port down for good: a shutdown LLDPDU, then DISABLED (R305). -/
def Dev.stopPort (d : Dev) (p : Nat) : Dev := (d.shutdownLldp p).dropLink p psDISABLED

/-- An approved lane failure: the port goes on from step 2 of R294 (R295). -/
def Dev.laneApproved (d : Dev) (p : Nat) : Dev :=
  if (d.port p).waiting then (d.startPort p).raise sprPage 0 St.ok else d

end Sys2Proof.Machine
end

