-- ==== Sys2Proof/Machine/Stream.lean ====
section
/-! DEFINITION. The command stream: doorbells, fetch, the end of parts, layers, queue control, semaphores, bounds, the control
commands and the substitution of spares (03_klotchaex_command_stream.md R52 to R84; 01_one_step_through_the_device.md R25 to
R31). -/

namespace Sys2Proof.Machine

/-- The queue a doorbell or a view names: queue `n` for the PF, view queue `n` of the VF's partition otherwise (R52, R54). -/
def Dev.queueOf (d : Dev) (f n : Nat) : Option Nat :=
  if f = 0 then (if n < 256 then some n else none)
  else
    match (List.range 8).find? (fun p => d.partVf p == some f) with
    | some p => (d.partQueues p)[n]?
    | none => none

/-- A doorbell the device ignores (R54): beyond the ring, or backwards. -/
def Dev.doorbellBad (d : Dev) (q t : Nat) : Bool :=
  decide ((t + 2 ^ 32 - d.qDone q) % 2 ^ 32 > d.qSize q) || decide ((t + 2 ^ 32 - d.qTail q) % 2 ^ 32 ≥ 2 ^ 31)

/-- DOORBELL_WRITE (R54): sets the queue's tail count, or is ignored and sets DOORBELL_BAD. -/
def effectDoorbellWrite (f n : Nat) (t : Word) (d : Dev) : Dev :=
  match d.queueOf f n with
  | none => d
  | some q =>
    if d.doorbellBad q t.toNat then d.raiseQueue q (fun _ => 16) St.ok
    else
      let d := d.wr (F.qTail_count (q / 16) (q % 16)) t.toNat
      if d.qSt q = qsIDLE ∧ d.qHead q ≠ t.toNat then d.setQSt q qsACTIVE else d

/-- DOORBELL_WRITE: its own effect, then what follows at once. -/
def execDoorbellWrite (f n : Nat) (t : Word) (s : State) : Host.Outcome State Fault Refusal := s.act (effectDoorbellWrite f n t)

/-! ### Fetch and layers -/

/-- Commands fetched and not completed; those of a layer that have ended and wait for it to drain are the layer's copies (R78). -/
def Queue.held (x : Queue) : Nat := x.fetched.length + (x.exec.filter (fun e => !e.fin)).length

/-- Close the open run of a queue. -/
def Queue.endRun (x : Queue) : Queue := { x with runs := x.runs.map (fun r => { r with ended := true }) }

/-- Put a fetched command at the back of the queue and into its layer run (R77). -/
def Queue.take (x : Queue) (count : Nat) (c : Cmd) : Queue :=
  let l := cmdLayer c
  match x.runs.getLast? with
  | some r =>
    if !r.ended ∧ r.layer = l ∧ l ≠ 0 then
      let r' := if r.size < 4096 then { r with size := r.size + 1, copies := r.copies ++ [(count, c)] }
        else { r with size := r.size + 1, excess := r.excess ++ [count] }
      { x with fetched := x.fetched ++ [(count, c, r.id)], runs := x.runs.dropLast ++ [r'] }
    else if l = 0 then { x.endRun with fetched := x.fetched ++ [(count, c, 0)] }
    else { x.endRun with fetched := x.fetched ++ [(count, c, x.nextRun)], nextRun := x.nextRun + 1,
                         runs := x.endRun.runs ++ [{ id := x.nextRun, layer := l, size := 1, copies := [(count, c)] }] }
  | none =>
    if l = 0 then { x with fetched := x.fetched ++ [(count, c, 0)] }
    else { x with fetched := x.fetched ++ [(count, c, x.nextRun)], nextRun := x.nextRun + 1,
                  runs := [{ id := x.nextRun, layer := l, size := 1, copies := [(count, c)] }] }

/-- Fetched commands enter in ring order. -/
def Queue.takeAll : Queue → Nat → List Cmd → Queue
  | x, _, [] => x
  | x, n, c :: cs => (x.take (n % 2 ^ 32) c).takeAll (n + 1) cs

/-- COMMAND_FETCH (R57): a PCIe read of up to 64 commands completes; the commands enter in ring order, at most as many as the
host has made known, and the queue never holds more than 64. -/
def effectCommandFetch (q : Nat) (cmds : List Cmd) (d : Dev) : Dev :=
  let x := d.queue q
  let known := (d.qTail q + 2 ^ 32 - d.qHead q) % 2 ^ 32
  let ok := decide (q < 256) && d.works 8 (q / 16) && d.qEnabled q && !x.disabling && d.qSt q != qsDISABLED && cmds != []
    && decide (cmds.length ≤ known) && decide (x.held + cmds.length ≤ 64)
  d.when ok fun d =>
    let x := x.takeAll (d.qHead q) cmds
    let h := (d.qHead q + cmds.length) % 2 ^ 32
    let d := d.wr (F.qHead_count (q / 16) (q % 16)) h
    let x := if h = d.qTail q then x.endRun else x
    (d.setQueue q x).qSettle q

/-- COMMAND_FETCH: its own effect, then what follows at once. -/
def execCommandFetch (q : Nat) (cmds : List Cmd) (s : State) : Host.Outcome State Fault Refusal := s.act (effectCommandFetch q cmds)

/-- PART_END (R81): a part ends, with the status its work gave or with a hardware fault's; the last part completes the
command (R74). -/
def effectPartEnd (q i p fault : Nat) (d : Dev) : Dev :=
  match d.cmdAt q i with
  | none => d
  | some e =>
    match e.parts[p]? with
    | none => d
    | some x =>
      if x.ended then d
      else if fault ≠ 0 then d.faultPart q i p fault
      else if x.ran then d.endPart q i p x.status
      else d

/-- PART_END: its own effect, then what follows at once. -/
def execPartEnd (q i p fault : Nat) (s : State) : Host.Outcome State Fault Refusal := s.act (effectPartEnd q i p fault)

/-- The commands of a layer run that have ended, in ring order. -/
def Queue.runCmds (x : Queue) (run : Nat) : List CmdEx := x.exec.filter (fun e => e.run == run)

/-- The layer has ended, none of its commands waits to start, and all have ended (R77); one that a report has failed drains without
its unstarted commands (07_formats_and_scaling.md R162). -/
def Queue.drained (x : Queue) (r : LayerRun) : Bool :=
  (x.runCmds r.id).all (fun e => e.fin) && (r.failed || (r.ended && x.fetched.all (fun y => y.2.2 != r.id)))

/-- LAYER_DRAIN (R78): the layer's signals and records are released together, in ring order. A layer that still has to be
repeated does not drain (R162). What a failed layer has not started stays in the queue, a layer of its own. -/
def effectLayerDrain (q run : Nat) (d : Dev) : Dev :=
  let x := d.queue q
  match x.runs.find? (fun r => r.id == run) with
  | none => d
  | some r =>
    d.when (x.drained r && !r.flagged) fun d =>
      let es := x.runCmds run
      let rest := x.fetched.filter (fun y => y.2.2 == run)
      let left := if rest = [] then []
        else [({ id := run, layer := r.layer, size := rest.length, ended := r.ended, copies := rest.map (fun y => (y.1, y.2.1)),
                 excess := r.excess } : LayerRun)]
      let d := d.setQueue q { x with runs := x.runs.flatMap (fun y => if y.id = run then left else [y]),
                                     exec := x.exec.filter (fun e => e.run != run) }
      let d := d.setCol { d.col with colls := d.col.colls.filter (fun k => not (k.q == q && es.any (fun e => e.count == k.i))) }
      let start := fun (e : CmdEx) => mapGet e.start r.firstStart e.count
      (es.foldl (fun d e => d.writeRecord q { e with start := start e }) d).qSettle q

/-- LAYER_DRAIN: its own effect, then what follows at once. -/
def execLayerDrain (q run : Nat) (s : State) : Host.Outcome State Fault Refusal := s.act (effectLayerDrain q run)

/-! ### Bounds and alarms -/

/-- The part's hang bound has passed (R83). -/
def Part.expired (x : Part) (now : Nat) : Bool := !x.ended && x.held == 0 && decide (x.bound ≠ 0) && decide (x.start + x.bound ≤ now)

/-- QUEUE_BLOCKED_ALARM (R60, R62): a queue BLOCKED for longer than its processor's page 1 PG_TIMEOUT sets page 0 PG_EVENT
bit j, and in a VF the queue's KQP_VBLOCKED bit and view page 0 bit 0. -/
def effectQueueBlockedAlarm (q : Nat) (d : Dev) : Dev :=
  let x := d.queue q
  let lim := d.timeout (pfPage .kqp (q / 16) 1) (10 * secQ)
  d.when (decide (q < 256) && d.qSt q == qsBLOCKED && !x.alarmed && decide (x.blockedAt + lim < d.now)) fun d =>
    let d := d.setQueue q { x with alarmed := true }
    let d := d.raise (pfPage .kqp (q / 16) 0) (q % 16) St.ok
    match d.viewIndex q with
    | none => d
    | some (n, v) =>
      let vp : Page := ⟨n, .kqp, 0, 0⟩
      let k := vp.key + 0x90 + 4 * (v / 32)
      (d.setReg k (d.reg k ||| (1#32 <<< (v % 32)))).raise vp 0 St.ok

/-- QUEUE_BLOCKED_ALARM: its own effect, then what follows at once. -/
def execQueueBlockedAlarm (q : Nat) (s : State) : Host.Outcome State Fault Refusal := s.act (effectQueueBlockedAlarm q)

/-! ### Queue control -/

/-- ENABLE written 1 (R60): a DISABLED queue becomes IDLE and fetches from Q_DONE. -/
def Dev.enableQueue (d : Dev) (q : Nat) : Dev :=
  if d.qSt q = qsDISABLED then
    let d := d.setFlag (F.qCfg_enable (q / 16) (q % 16)) true
    let d := d.wr (F.qHead_count (q / 16) (q % 16)) (d.qDone q)
    let d := d.setQueue q { d.queue q with fetched := [], runs := [], done := [], waited := false, disabling := false }
    (d.setQSt q qsIDLE).qSettle q
  else d

/-- QUEUE_ENABLE (R60): ENABLE written 1; fetching resumes at Q_DONE. -/
def effectQueueEnable (f n : Nat) (d : Dev) : Dev :=
  match d.queueOf f n with
  | none => d
  | some q => d.enableQueue q

/-- QUEUE_ENABLE: its own effect, then what follows at once. -/
def execQueueEnable (f n : Nat) (s : State) : Host.Outcome State Fault Refusal := s.act (effectQueueEnable f n)

/-- ENABLE written 0 (R60): fetch and start stop, unstarted commands are dropped without records, and the queue is DISABLED
once its commands in execution have completed. -/
def Dev.disableQueue (d : Dev) (q : Nat) (noRecords : Bool) : Dev :=
  let d := d.setFlag (F.qCfg_enable (q / 16) (q % 16)) false
  if d.qSt q = qsDISABLED then d
  else
    let x := d.queue q
    let x := { x.endRun with fetched := [], disabling := true, noRecords := noRecords, waited := false, indexWait := 0 }
    (d.setQueue q x).qSettle q

/-- QUEUE_DISABLE (R60). -/
def effectQueueDisable (f n : Nat) (d : Dev) : Dev :=
  match d.queueOf f n with
  | none => d
  | some q => d.disableQueue q false

/-- QUEUE_DISABLE: its own effect, then what follows at once. -/
def execQueueDisable (f n : Nat) (s : State) : Host.Outcome State Fault Refusal := s.act (effectQueueDisable f n)

/-- A stopped queue goes on: ACTIVE or IDLE. -/
def Dev.unstop (d : Dev) (q : Nat) : Dev :=
  ((d.setQueue q { d.queue q with stoppedBy := 0 }).setQSt q qsACTIVE).qSettle q

/-- RESUME (table Queue register set, Q_CTRL): a STOPPED queue goes on with the command after Q_ERR.INDEX. -/
def effectResume (f n : Nat) (d : Dev) : Dev :=
  match d.queueOf f n with
  | none => d
  | some q => d.when (d.qSt q == qsSTOPPED) fun d => d.unstop q

/-- RESUME: its own effect, then what follows at once. -/
def execResume (f n : Nat) (s : State) : Host.Outcome State Fault Refusal := s.act (effectResume f n)

/-- FLUSH (Q_CTRL): a STOPPED queue discards every fetched command that has not started, without records, and sets head and
done to the tail; a write of both RESUME and FLUSH is a FLUSH. -/
def effectFlush (f n : Nat) (d : Dev) : Dev :=
  match d.queueOf f n with
  | none => d
  | some q =>
    d.when (d.qSt q == qsSTOPPED) fun d =>
      let t := d.qTail q
      let x := d.queue q
      let d := d.setQueue q { x.endRun with fetched := [], done := [], waited := false, indexWait := 0 }
      let d := d.wr (F.qHead_count (q / 16) (q % 16)) t
      let d := d.wr (F.qDone_count (q / 16) (q % 16)) t
      d.unstop q

/-- FLUSH: its own effect, then what follows at once. -/
def execFlush (f n : Nat) (s : State) : Host.Outcome State Fault Refusal := s.act (effectFlush f n)

/-! ### Semaphores -/

/-- The semaphore that a function's KQP_SEM_SEL selects: the PF's field names the partition, a VF uses its own (R70). -/
def Dev.semSel (d : Dev) (f : Nat) : Option (Nat × Nat) :=
  if f = 0 then some (d.rd F.kqpSemSel_partition, d.rd F.kqpSemSel_index)
  else
    match (List.range 8).find? (fun p => d.partVf p == some f) with
    | some p => some (p, bitsAt (d.reg ((⟨f, .kqp, 0, 2⟩ : Page).key + 0x80)).toNat 0 16)
    | none => none

/-- SEMAPHORE_SET (R73): a write to KQP_SEM_VAL sets the selected semaphore; waits are evaluated again (R71). -/
def effectSemaphoreSet (f : Nat) (v : Word) (d : Dev) : Dev :=
  match d.semSel f with
  | some (p, i) => d.semSet p i v.toNat
  | none => d

/-- SEMAPHORE_SET: its own effect, then what follows at once. -/
def execSemaphoreSet (f : Nat) (v : Word) (s : State) : Host.Outcome State Fault Refusal := s.act (effectSemaphoreSet f v)

/-- SEMAPHORE_ADD (R73): a write to KQP_SEM_ADD adds modulo 2^32. -/
def effectSemaphoreAdd (f : Nat) (v : Word) (d : Dev) : Dev :=
  match d.semSel f with
  | some (p, i) => d.semAdd p i v.toNat
  | none => d

/-- SEMAPHORE_ADD: its own effect, then what follows at once. -/
def execSemaphoreAdd (f : Nat) (v : Word) (s : State) : Host.Outcome State Fault Refusal := s.act (effectSemaphoreAdd f v)

/-! ### Control commands (R69) -/

/-- A control command that runs at once: its one part ends OK. -/
def Dev.endControl (d : Dev) (q i op : Nat) (ok : Bool) : Dev :=
  d.when (d.partReady q i 0 op && ok) fun d => d.endPart q i 0 St.ok

/-- NOP completes at once. -/
def effectNop (q i : Nat) (d : Dev) : Dev := d.endControl q i opNOP true

/-- NOP: its own effect, then what follows at once. -/
def execNop (q i : Nat) (s : State) : Host.Outcome State Fault Refusal := s.act (effectNop q i)

/-- FENCE, once started, completes: it started only when every earlier command of the job had completed. -/
def effectFence (q i : Nat) (d : Dev) : Dev := d.endControl q i opFENCE true

/-- FENCE: its own effect, then what follows at once. -/
def execFence (q i : Nat) (s : State) : Host.Outcome State Fault Refusal := s.act (effectFence q i)

/-- WAIT completes when every listed wait is satisfied; a slot once satisfied stays so (R71). -/
def effectWait (q i : Nat) (d : Dev) : Dev :=
  match d.cmdAt q i with
  | none => d
  | some e =>
    let m := e.waits ||| d.waitMask (d.qPart q) e.cmd
    (d.setCmd q { e with waits := m }).endControl q i opWAIT (m == 2 ^ cmdCount e.cmd - 1)

/-- WAIT: its own effect, then what follows at once. -/
def execWait (q i : Nat) (s : State) : Host.Outcome State Fault Refusal := s.act (effectWait q i)

/-- SIGNAL adds each INC at completion (`writeRecord`). -/
def effectSignal (q i : Nat) (d : Dev) : Dev := d.endControl q i opSIGNAL true

/-- SIGNAL: its own effect, then what follows at once. -/
def execSignal (q i : Nat) (s : State) : Host.Outcome State Fault Refusal := s.act (effectSignal q i)

/-- STAMP writes its start stamp to ADDR before its record (`writeRecord`). -/
def effectStamp (q i : Nat) (d : Dev) : Dev := d.endControl q i opSTAMP true

/-- STAMP: its own effect, then what follows at once. -/
def execStamp (q i : Nat) (s : State) : Host.Outcome State Fault Refusal := s.act (effectStamp q i)

/-- BEACON_SEND (R84): a running command with FLAGS.BEACON sends a beacon each period to the member or members Q_BEACON names:
the 32-byte body of 15_groups_and_collectives.md R330, on transmit queue 5. -/
def effectBeaconSend (q i : Nat) (d : Dev) : Dev :=
  match d.cmdAt q i with
  | none => d
  | some e =>
    let per := d.rd (F.kqpBeaconCfg_period (q / 16)) * msQ
    d.when (cmdBeacon e.cmd && decide (e.start + (e.beacons + 1) * per ≤ d.now)) fun d =>
      let g := d.rd (F.qBeacon_group (q / 16) (q % 16))
      let step := ((d.newest (d.qJob q)).map (fun r => r.step % 2 ^ 32)).getD 0
      let body := [0x10, 0] ++ leBytes 2 g ++ leBytes 1 (d.grpRank g) ++ leBytes 3 0
        ++ leBytes 4 (if cmdStep e.cmd then step else 0) ++ leBytes 4 (cmdLayer e.cmd) ++ leBytes 8 e.start ++ leBytes 8 d.now
      let ranks := if d.flag (F.qBeacon_all (q / 16) (q % 16)) then (List.range (d.grpSize g)).filter (· != d.grpRank g)
        else [d.rd (F.qBeacon_rank (q / 16) (q % 16))]
      let d := d.setCmd q { e with beacons := e.beacons + 1 }
      ranks.foldl (fun d r => d.sendCtrl (d.memberOf g r) 5 body) d

/-- BEACON_SEND: its own effect, then what follows at once. -/
def execBeaconSend (q i : Nat) (s : State) : Host.Outcome State Fault Refusal := s.act (effectBeaconSend q i)

/-! ### Spares -/

/-- SPARE_SUBSTITUTION (R25 to R28): at a boundary of its kind the lowest free reserve takes the lowest unmapped identity of
the type that may be brought in; `logical` must be that identity. -/
def effectSpareSubstitution (utype logical : Nat) (d : Dev) : Dev :=
  let d := if (d.unmapped utype).any (d.mayMap utype) then d.freeTested utype else d
  match d.reserves utype, (d.unmapped utype).filter (d.mayMap utype) with
  | p :: _, l :: _ =>
    d.when (logical == l) fun d =>
      let d := d.takeIdentity utype l p
      if utype = 8 then d.qpTakeover l else d
  | _, _ => d

/-- SPARE_SUBSTITUTION: its own effect, then what follows at once. -/
def execSpareSubstitution (utype logical : Nat) (s : State) : Host.Outcome State Fault Refusal := s.act (effectSpareSubstitution utype logical)

/-- The next failure waiting for a record takes the freed one (R31). -/
def Dev.sprNext (d : Dev) : Dev :=
  match d.spr.waiting with
  | [] => d
  | r :: rest => (d.setSpr { d.spr with waiting := rest }).sprOpen r

/-- SPR_ASSIST_DOORBELL (R31): DEC = 0 approves, and the reserve may be brought in; DEC = 1 declines. -/
def effectSprAssistDoorbell (f h : Nat) (d : Dev) : Dev :=
  match d.spr.recs.find? (fun r => r.handle == h) with
  | none => d.badDoorbell f sprPage
  | some r =>
    let key := unitKey r.utype r.logical
    let dec := d.rd F.sprAssistDec_dec
    let recs := d.spr.recs.filter (fun x => x.handle != h)
    let spr := if r.kind ≠ 0 then { d.spr with recs := recs, approved := d.spr.approved ++ (if dec = 0 then [key] else []) }
      else if dec = 0 then { d.spr with recs := recs, approved := d.spr.approved ++ [key],
                                        declined := d.spr.declined.filter (· != key) }
      else { d.spr with recs := recs, declined := d.spr.declined ++ [key] }
    let d := d.setSpr spr
    let d := ((d.sixRelease h St.ok).sprShow).sprNext
    if r.kind = 2 ∧ dec = 0 then d.laneApproved r.logical
    else if r.kind = 1 ∧ dec = 0 then d.bankApproved r.detail
    else d

/-- SPR_ASSIST_DOORBELL: its own effect, then what follows at once. -/
def execSprAssistDoorbell (f h : Nat) (s : State) : Host.Outcome State Fault Refusal := s.act (effectSprAssistDoorbell f h)

end Sys2Proof.Machine
end

