-- ==== Sys2Proof/Machine/Ledger.lean ====
section
/-! DEFINITION. The Step Ledger's commands: opening and sealing, votes and decisions, the flip, checkpoints, restore, seeds and
parking (12_step_ledger.md R261 to R288; 15_groups_and_collectives.md R356). -/

namespace Sys2Proof.Machine

/-! ### Opening and sealing -/

/-- STEP_OPEN may go on: no attempt runs, the job is not parking or parked, and the device is not leaving (R263, R336). -/
def Dev.openWaits (d : Dev) (j : Nat) : Bool :=
  d.attemptLive j || d.jobSt j == jsPARKING || d.jobSt j == jsPARKED || d.col.leaving

/-- The attempt number with which a step may open now; none where R263 refuses it. -/
def Dev.openAttempt (d : Dev) (j step : Nat) : Option Nat :=
  let x := d.job j
  if d.jobSt j = jsENDED ∨ d.jobSt j = jsSUPERSEDED then none
  else
    match d.newest j with
    | none => some 0
    | some r =>
      if x.restored ≠ 0 then (if step = x.restored % 2 ^ 64 then some 0 else none)
      else if r.state = stCOMMITTED then (if step = (r.step + 1) % 2 ^ 64 then some 0 else none)
      else if step = r.step then some (r.attempt + 1)
      else if step = (r.step + 1) % 2 ^ 64 then some 0
      else none

/-- The record of a new attempt (R262, R263). -/
def Dev.openRecord (d : Dev) (j step att cursor : Nat) : LedgerRec :=
  { step := step, attempt := att % 2 ^ 16, state := stOPEN, job := j, tOpen := d.now, rosterEpoch := d.rd F.colEpoch,
    layoutEpoch := d.rd (F.colLayout j), coord := 0xFFFF, seedChk := d.rd (F.rngSeedChk j), seedGen := d.rd (F.rngSeedGen j),
    cursor := cursor, reasonRank := 0xFFFF }

/-- The next ring slot takes a record (R262). -/
def Dev.pushRecord (d : Dev) (j : Nat) (r : LedgerRec) : Dev :=
  let x := d.job j
  let h := if x.opened then (d.rd (F.ldgJobState_head j) + 1) % 1024 else 0
  (d.setJob j { x with ring := mapPut x.ring h r, opened := true }).wr (F.ldgJobState_head j) h

/-- The attempt opens: epochs and cursor are fixed, the pending group table becomes current, written groups take effect, sets are
bound and R159 and R160 are applied. A poisoned current buffer makes it fail at once (R233). -/
def Dev.openStep (d : Dev) (j part step att cursor : Nat) : Dev :=
  let d := if (d.job j).opened then d else d.wr (F.colLayout j) 0
  let d := d.applyGroups j
  let d := d.pushRecord j (d.openRecord j step att cursor)
  let b := d.bindNow part
  let x := d.job j
  let d := d.setJob j { x with restored := 0, sealUpdates := 0, voteWork := 0, updatesDone := 0, failWith := none, voted := false,
                               votes := [], answers := [], answerDecision := none, boundFrom := 0, boundRaised := false, term := 0,
                               coordRank := 0, silent := [], heard := d.now, querying := false, decision := none, writeSet := [],
                               flips := [], stallFrom := 0, stallNext := 0, binds := b, redSeen := false }
  let d := d.addBinds b
  let d := d.setAcr { d.acr with
    current := (d.acr.current.filter (fun e => e.1 / 4096 < j)) ++ (d.acr.pending.filter (fun e => e.1 / 4096 == j))
                 ++ (d.acr.current.filter (fun e => decide (j < e.1 / 4096))) }
  let d := (d.setStepState j stOPEN).wr64 (F.ldgOpenedLo j) (F.ldgOpenedHi j) step
  let d := (d.setJobSt j jsRUNNING).wr (F.ldgJobState_rank j) (d.grpRank (d.commitGroup j))
  let d := (d.showCoord j).scaleOpen j
  if d.tir.objs.any (fun e => e.2.kind == kCOMMITTED && e.2.job == j && e.2.units.any (fun u => u.2.t1 == tsPOISONED)) then
    d.stepFailure j St.eccUncorrectable 0xFFFF
  else d

/-- STEP_OPEN (R263). -/
def effectStepOpen (q i : Nat) (d : Dev) : Dev :=
  d.when (d.partReady q i 0 opSTEP_OPEN) fun d =>
    let c := d.cmdBody q i
    let j := d.qJob q
    if d.openWaits j ∧ d.jobSt j ≠ jsENDED ∧ d.jobSt j ≠ jsSUPERSEDED then d
    else
      match d.openAttempt j (openStep c) with
      | none => d.endPart q i 0 St.badField
      | some a => (d.openStep j (d.qPart q) (openStep c) a (openCursor c)).endPart q i 0 St.ok

/-- STEP_OPEN: its own effect, then what follows at once. -/
def execStepOpen (q i : Nat) (s : State) : Host.Outcome State Fault Refusal := s.act (effectStepOpen q i)

/-- STEP_SEAL (R265): the step is SEALED; the coordinator's vote bound starts (R269). An attempt that has ended meanwhile is not
sealed, and the command ends STEP_ABORTED (log entry 32). -/
def effectStepSeal (q i : Nat) (d : Dev) : Dev :=
  d.when (d.partReady q i 0 opSTEP_SEAL) fun d =>
    let c := d.cmdBody q i
    let j := d.qJob q
    if ((d.newest j).map (fun r => r.state)) = some stOPEN then
      let d := d.setJob j { d.job j with sealUpdates := sealUpdates c, voteWork := sealVoteWork c }
      let d := (d.updNewest j (fun r => { r with tSeal := d.now })).setStepState j stSEALED
      let d := if d.coordinates j ∨ d.assist ldgPage then d.startBound j else d
      d.endPart q i 0 St.ok
    else d.endPart q i 0 St.stepAborted

/-- STEP_SEAL: its own effect, then what follows at once. -/
def execStepSeal (q i : Nat) (s : State) : Host.Outcome State Fault Refusal := s.act (effectStepSeal q i)

/-- CKPT (R278): marks the record; one that comes after the vote fails. -/
def effectCkpt (q i : Nat) (d : Dev) : Dev :=
  d.when (d.partReady q i 0 opCKPT) fun d =>
    let j := d.qJob q
    if (d.job j).voted ∨ !d.attemptLive j then d.endPart q i 0 St.badField
    else
      (d.updNewest j (fun r => { r with ckpt := true, ckptHost := r.ckptHost || ckptHost (d.cmdBody q i) == 1 })).endPart q i 0 St.ok

/-- CKPT: its own effect, then what follows at once. -/
def execCkpt (q i : Nat) (s : State) : Host.Outcome State Fault Refusal := s.act (effectCkpt q i)

/-! ### Votes and decisions -/

/-- A CKPT of the step has not completed (R266). -/
def Dev.ckptRunning (d : Dev) (j : Nat) : Bool :=
  d.kqp.queues.any (fun x => d.qJob x.1 == j && x.2.exec.any (fun e => cmdOpcode e.cmd == opCKPT && !e.fin))

/-- DEVICE_VOTE (R266): ABORT at the first failure of the step, whatever its state short of READY, with a red light (R356); READY
when it is SEALED and its UPDATEs have completed. -/
def effectDeviceVote (j : Nat) (d : Dev) : Dev :=
  match d.newest j with
  | none => d
  | some r =>
    let x := d.job j
    d.when (!x.voted && decide (r.state = stOPEN ∨ r.state = stSEALED)) fun d =>
      let me := d.grpRank (d.commitGroup j)
      match x.failWith with
      | some (st, rank) =>
        let d := d.castVote j { rank := me, ready := false, reason := st, reasonRank := rank, digest := d.voteDigest j r }
        (d.originateRed j st rank).abortAttempt j st rank d.now
      | none =>
        d.when (decide (r.state = stSEALED ∧ x.sealUpdates ≤ x.updatesDone) && !d.ckptRunning j) fun d =>
          (d.setStepState j stREADY).castVote j { rank := me, ready := true, digest := d.voteDigest j r }

/-- DEVICE_VOTE: its own effect, then what follows at once. -/
def execDeviceVote (j : Nat) (s : State) : Host.Outcome State Fault Refusal := s.act (effectDeviceVote j)

/-- A ledger message names the newest attempt of a job this device runs. -/
def Dev.msgJob (d : Dev) (m : LdgMsg) : Option (Nat × Bool) :=
  match d.jobOfGroup m.group with
  | none => none
  | some j => some (j, match d.newest j with
    | some r => r.step == m.step && r.attempt == m.attempt
    | none => false)

/-- A message that is ignored is counted (R268). -/
def Dev.staleMsg (d : Dev) (j : Nat) : Dev := d.incSat (F.ldgStaleMsg j) 1

/-- VOTE_RECEIVE (R268): the coordinator takes a vote and decides once it can; in ASSIST mode a vote is only counted (R274). -/
def Dev.takeVote (d : Dev) (m : LdgMsg) : Dev :=
  match d.msgJob m with
  | none => d
  | some (j, cur) =>
    let x := d.job j
    if d.assist ldgPage ∨ !cur ∨ x.decision.isSome ∨ !d.attemptLive j ∨ m.term < x.term then d.staleMsg j
    else
      let v : Vote := { rank := m.sender, ready := bitOf m.flags 0, reason := m.reason, reasonRank := m.reasonRank, digest := m.digest }
      let d := d.setJob j { x with votes := (x.votes.filter (fun w => w.rank != m.sender)) ++ [v] }
      (d.startBound j).coordDecide j

/-- A VOTE of a member (12_step_ledger.md R266, R267). -/
def effectVoteReceive (body : Cmd) (d : Dev) : Dev := d.takeVote (readLdgMsg body)

/-- VOTE_RECEIVE: its own effect, then what follows at once. -/
def execVoteReceive (body : Cmd) (s : State) : Host.Outcome State Fault Refusal := s.act (effectVoteReceive body)

/-- HOLD_SEND (R268): once every 1 ms the coordinator that lacks votes sends HOLD to every member that has voted. -/
def effectHoldSend (j : Nat) (d : Dev) : Dev :=
  let x := d.job j
  d.when (d.attemptLive j && d.coordinates j && x.decision.isNone && !d.assist ldgPage && decide (x.holdNext ≤ d.now)) fun d =>
    let voted := (d.others j).filter (fun r => x.votes.any (fun v => v.rank == r))
    let d := d.setJob j { x with holdNext := d.now + msQ }
    voted.foldl (fun d r => d.sendLdg j r (d.ldgMsg j 4)) d

/-- HOLD_SEND: its own effect, then what follows at once. -/
def execHoldSend (j : Nat) (s : State) : Host.Outcome State Fault Refusal := s.act (effectHoldSend j)

/-- HOLD_RECEIVE (R270): the member's silence timer starts again. -/
def Dev.takeHold (d : Dev) (m : LdgMsg) : Dev :=
  match d.msgJob m with
  | none => d
  | some (j, cur) =>
    if !cur ∨ (d.job j).decision.isSome ∨ !d.attemptLive j ∨ m.term < (d.job j).term then d.staleMsg j
    else d.setJob j { d.job j with heard := d.now }

/-- A HOLD of the coordinator (12_step_ledger.md R268). -/
def effectHoldReceive (body : Cmd) (d : Dev) : Dev := d.takeHold (readLdgMsg body)

/-- HOLD_RECEIVE: its own effect, then what follows at once. -/
def execHoldReceive (body : Cmd) (s : State) : Host.Outcome State Fault Refusal := s.act (effectHoldReceive body)

/-- VOTE_TIMEOUT (R269, R274): the bound has passed; the coordinator decides ABORT naming the lowest rank without a vote, or in
ASSIST mode the event is set once and the device keeps waiting. -/
def effectVoteTimeout (j : Nat) (d : Dev) : Dev :=
  let x := d.job j
  d.when (d.attemptLive j && decide (x.boundFrom ≠ 0) && decide (x.boundFrom - 1 + d.voteBound j ≤ d.now)) fun d =>
    if d.assist ldgPage then
      d.when (!x.boundRaised) fun d => (d.setJob j { x with boundRaised := true }).raiseLdg j 1 St.voteTimeout
    else
      d.when (d.coordinates j && x.decision.isNone) fun d =>
        let missing := (List.range (d.grpSize (d.commitGroup j))).filter (fun r => x.votes.all (fun v => v.rank != r))
        (d.raiseLdg j 1 St.voteTimeout).decide_ j false 0 St.voteTimeout (lowest missing)

/-- VOTE_TIMEOUT: its own effect, then what follows at once. -/
def execVoteTimeout (j : Nat) (s : State) : Host.Outcome State Fault Refusal := s.act (effectVoteTimeout j)

/-- STALL_SEND (R281): every 1 ms while an UPDATE waits for an image. -/
def effectStallSend (j : Nat) (d : Dev) : Dev :=
  let x := d.job j
  d.when (decide (x.stallFrom ≠ 0) && decide (x.stallNext ≤ d.now)) fun d =>
    let d := d.setJob j { x with stallNext := d.now + msQ }
    if d.coordinates j then (if x.boundFrom = 0 then d else d.setJob j { d.job j with boundFrom := d.now + 1 })
    else d.sendLdg j x.coordRank (d.ldgMsg j 7)

/-- STALL_SEND: its own effect, then what follows at once. -/
def execStallSend (j : Nat) (s : State) : Host.Outcome State Fault Refusal := s.act (effectStallSend j)

/-- STALL_RECEIVE (R269): a STALL restarts the coordinator's vote bound. -/
def Dev.takeStall (d : Dev) (m : LdgMsg) : Dev :=
  match d.msgJob m with
  | none => d
  | some (j, cur) =>
    if !cur ∨ (d.job j).decision.isSome ∨ !d.attemptLive j ∨ m.term < (d.job j).term then d.staleMsg j
    else if (d.job j).boundFrom = 0 then d
    else d.setJob j { d.job j with boundFrom := d.now + 1 }

/-- A STALL of a member (12_step_ledger.md R269, R281). -/
def effectStallReceive (body : Cmd) (d : Dev) : Dev := d.takeStall (readLdgMsg body)

/-- STALL_RECEIVE: its own effect, then what follows at once. -/
def execStallReceive (body : Cmd) (s : State) : Host.Outcome State Fault Refusal := s.act (effectStallReceive body)

/-! ### Another coordinator (R270) -/

/-- The candidate that asks decides ABORT once every member that is not silent has answered. -/
def Dev.queryDecide (d : Dev) (j : Nat) : Dev :=
  let x := d.job j
  let waiting := (d.others j).filter (fun r => !x.silent.contains r && x.answers.all (fun a => a.1 != r))
  if x.querying ∧ waiting = [] then d.decide_ j false 0 St.memberMissing (lowest x.silent) else d

/-- COORDINATOR_TAKEOVER: a voted member has heard nothing from the coordinator for TAKEOVER; the lowest rank not silent takes
the next term, and asks every member if it is this device. -/
def effectCoordinatorTakeover (j : Nat) (d : Dev) : Dev :=
  let x := d.job j
  let me := d.grpRank (d.commitGroup j)
  d.when (d.attemptLive j && x.voted && x.decision.isNone && !d.assist ldgPage && x.coordRank != me
      && decide (x.heard + d.rd F.ldgCfg_takeover * msQ ≤ d.now)) fun d =>
    let silent := x.silent ++ [x.coordRank]
    let next := lowest ((List.range (d.grpSize (d.commitGroup j))).filter (fun r => !silent.contains r))
    let d := d.setJob j { x with silent := silent, term := x.term + 1, coordRank := next, heard := d.now, answers := [],
                                 querying := next == me }
    let d := d.showCoord j
    d.when (next == me) fun d =>
      let d := d.raiseLdg j 2 St.ok
      let d := (d.others j).foldl (fun d r => d.sendLdg j r (d.ldgMsg j 5)) d
      d.queryDecide j

/-- COORDINATOR_TAKEOVER: its own effect, then what follows at once. -/
def execCoordinatorTakeover (j : Nat) (s : State) : Host.Outcome State Fault Refusal := s.act (effectCoordinatorTakeover j)

/-- QUERY_RECEIVE: the member takes the term and answers with its vote and any decision it holds. -/
def Dev.takeQuery (d : Dev) (m : LdgMsg) : Dev :=
  match d.msgJob m with
  | none => d
  | some (j, cur) =>
    let x := d.job j
    if !cur ∨ m.term < x.term then d.staleMsg j
    else
      let d := d.setJob j { x with term := m.term, coordRank := m.sender, heard := d.now, querying := false }
      let d := d.showCoord j
      let r := d.newest j
      let st := (r.map (fun r => r.state)).getD 0
      let commit := st == stCOMMITTED || ((x.decision.map (fun y => y.commit)).getD false)
      let decided := commit || st == stABORTED || x.decision.isSome
      let t := if commit then ((x.decision.map (fun y => y.t)).getD ((r.map (fun r => r.tEnd)).getD 0)) else 0
      d.sendLdg j m.sender { d.ldgMsg j 6 with
        flags := boolNat x.voted + 2 * boolNat decided + 4 * boolNat commit, t := t,
        reason := (r.map (fun r => r.reason)).getD 0, reasonRank := (r.map (fun r => r.reasonRank)).getD 0xFFFF }

/-- A QUERY of a new coordinator (12_step_ledger.md R270). -/
def effectQueryReceive (body : Cmd) (d : Dev) : Dev := d.takeQuery (readLdgMsg body)

/-- QUERY_RECEIVE: its own effect, then what follows at once. -/
def execQueryReceive (body : Cmd) (s : State) : Host.Outcome State Fault Refusal := s.act (effectQueryReceive body)

/-- ANSWER_RECEIVE: COMMIT if any answer holds it, with the same T_commit; that ABORT if any holds one; otherwise ABORT with
MEMBER_MISSING once every member that is not silent has answered. -/
def Dev.takeAnswer (d : Dev) (m : LdgMsg) : Dev :=
  match d.msgJob m with
  | none => d
  | some (j, cur) =>
    let x := d.job j
    if cur ∧ x.recovering then
      let d := d.setJob j { x with recovering := !bitOf m.flags 1 && !bitOf m.flags 2 }
      if bitOf m.flags 2 then d.flip j m.t
      else if bitOf m.flags 1 then d.abortAttempt j m.reason m.reasonRank d.now
      else d
    else if !cur ∨ !x.querying ∨ m.term < x.term then d.staleMsg j
    else if bitOf m.flags 2 then d.decide_ j true m.t 0 0xFFFF
    else if bitOf m.flags 1 then d.decide_ j false 0 m.reason m.reasonRank
    else (d.setJob j { x with answers := x.answers ++ [(m.sender, bitOf m.flags 0)] }).queryDecide j

/-- An ANSWER to a QUERY (12_step_ledger.md R270). -/
def effectAnswerReceive (body : Cmd) (d : Dev) : Dev := d.takeAnswer (readLdgMsg body)

/-- ANSWER_RECEIVE: its own effect, then what follows at once. -/
def execAnswerReceive (body : Cmd) (s : State) : Host.Outcome State Fault Refusal := s.act (effectAnswerReceive body)

/-! ### Decisions applied -/

/-- A flip that comes later than T_commit is counted (R271). -/
def Dev.lateFlip (d : Dev) (j t : Nat) : Dev := ((d.incSat (F.ldgLateFlip j) 1).raiseLdg j 9 St.ok).flip j t

/-- COMMIT_RECEIVE (R271): the flip is set for T_commit, or made at once when that has passed. -/
def Dev.takeCommit (d : Dev) (m : LdgMsg) : Dev :=
  match d.msgJob m with
  | none => d
  | some (j, cur) =>
    let x := d.job j
    if !cur ∨ m.term < x.term ∨ x.decision.isSome ∨ ((d.newest j).map (fun r => r.state)) ≠ some stREADY then d.staleMsg j
    else
      let dec : Decision := { commit := true, t := m.t, decided := m.t - d.rd F.ldgCfg_lead * usQ, rank := m.sender, term := m.term }
      let d := d.setJob j { x with decision := some dec, boundFrom := 0 }
      let d := d.updNewest j (fun r => { r with tDecide := dec.decided, coord := m.sender, term := m.term })
      if m.t < d.now then d.lateFlip j m.t else d

/-- A COMMIT of the coordinator (12_step_ledger.md R268, R271). -/
def effectCommitReceive (body : Cmd) (d : Dev) : Dev := d.takeCommit (readLdgMsg body)

/-- COMMIT_RECEIVE: its own effect, then what follows at once. -/
def execCommitReceive (body : Cmd) (s : State) : Host.Outcome State Fault Refusal := s.act (effectCommitReceive body)

/-- COMMIT_APPLY (R271): the local stamp has reached T_commit. -/
def effectCommitApply (j : Nat) (d : Dev) : Dev :=
  match (d.job j).decision with
  | none => d
  | some x =>
    d.when (x.commit && ((d.newest j).map (fun r => r.state)) == some stREADY && decide (x.t ≤ d.now)) fun d =>
      d.flip j x.t

/-- COMMIT_APPLY: its own effect, then what follows at once. -/
def execCommitApply (j : Nat) (s : State) : Host.Outcome State Fault Refusal := s.act (effectCommitApply j)

/-- ABORT_RECEIVE (R275): the attempt ends ABORTED; a higher term's ABORT of an attempt that has flipped supersedes the job
(R273). -/
def Dev.takeAbort (d : Dev) (m : LdgMsg) : Dev :=
  match d.msgJob m with
  | none => d
  | some (j, cur) =>
    let x := d.job j
    let st := (d.newest j).map (fun r => r.state)
    if !cur ∨ m.term < x.term then d.staleMsg j
    else if st = some stCOMMITTED then
      (if ((x.decision.map (fun y => y.term)).getD 0) < m.term then d.supersede j else d.staleMsg j)
    else if x.decision.isSome ∧ m.term ≤ x.term then d.staleMsg j
    else
      let dec : Decision := { commit := false, t := m.t, decided := m.t, reason := m.reason, reasonRank := m.reasonRank,
                              rank := m.sender, term := m.term }
      let d := d.setJob j { x with decision := some dec }
      let d := d.updNewest j (fun r => { r with tDecide := m.t, coord := m.sender, term := m.term })
      d.abortAttempt j m.reason m.reasonRank m.t

/-- An ABORT of the coordinator (12_step_ledger.md R268, R272). -/
def effectAbortReceive (body : Cmd) (d : Dev) : Dev := d.takeAbort (readLdgMsg body)

/-- ABORT_RECEIVE: its own effect, then what follows at once. -/
def execAbortReceive (body : Cmd) (s : State) : Host.Outcome State Fault Refusal := s.act (effectAbortReceive body)

/-- A red light reaches the device (R272, R356): the first for the attempt is relayed and aborts it; a coordinator decides ABORT
(R268); later copies are counted. -/
def Dev.takeRed (d : Dev) (src : Nat) (b : Cmd) : Dev :=
  let g := cmdBits b 2 0 12
  let reason := cmdBits b 4 0 16
  let rank := cmdBits b 6 0 16
  let origin := cmdBits b 8 0 64
  match d.jobOfGroup g with
  | none => d
  | some j =>
    match d.newest j with
    | none => d
    | some r =>
      if r.step ≠ cmdBits b 16 0 64 ∨ r.attempt ≠ cmdBits b 24 0 16 then d
      else if (d.job j).redSeen then d.incSat F.colRedRx 1
      else
        let rs := (d.others j).filter (fun k => d.memberOf g k != origin && d.memberOf g k != src)
        let d := rs.foldl (fun d k => d.sendCtrl (d.memberOf g k) 7 (leBytes 40 b.toNat)) d
        let d := (d.setJob j { d.job j with redSeen := true }).incSat F.colRedTx rs.length
        let d := d.raise colPage 5 reason { job := j }
        if r.tOpen ≤ cmdBits b 32 0 64 ∧ d.attemptLive j then
          (if d.coordinates j ∧ (d.job j).decision.isNone ∧ !d.assist ldgPage then d.decide_ j false 0 reason rank
           else d.abortAttempt j reason rank d.now)
        else d

/-- RED_RECEIVE (R356), from device `src`. -/
def effectRedReceive (src : Nat) (body : Cmd) (d : Dev) : Dev := d.takeRed src body

/-- RED_RECEIVE: its own effect, then what follows at once. -/
def execRedReceive (src : Nat) (body : Cmd) (s : State) : Host.Outcome State Fault Refusal := s.act (effectRedReceive src body)

/-! ### Checkpoints -/

/-- CKPT_COMPLETE (R280): every chunk is acknowledged and the local copy has ended, and the host has it where it needs it (R283):
the image replaces the older slot. A host copy is written once the rest is done, and waits for the doorbell. -/
def Dev.imageDone (d : Dev) (j : Nat) (im : Image) : Dev :=
  let x := d.job j
  let d := d.setJob j { x with localImgs := (im :: x.localImgs).take 2 }
  let d := d.wr64 (F.ldgCkptLastLo j) (F.ldgCkptLastHi j) im.step
  (d.raiseLdg j 4 St.ok).drainOver j St.ok

/-- The host area of the image that is written: two images, in turn (R283). -/
def Dev.hostImageAddr (d : Dev) (step : Nat) : Nat :=
  d.rd F.ldgHostckpt_baseLo * 4096 + d.rd F.ldgHostckpt_baseHi * 2 ^ 32 + (step % 2) * d.rd F.ldgHostckpt_size * 2 ^ 30

/-- The image of a CKPT is complete (12_step_ledger.md R280 to R283). -/
def effectCkptComplete (j : Nat) (d : Dev) : Dev :=
  match (d.job j).drain with
  | none => d
  | some dr =>
    if dr.left ≠ 0 then d
    else if !dr.hostWait then d.imageDone j dr.image
    else
      d.when ((d.job j).assist == 0) fun d =>
        let data := dr.image.objs.flatMap (fun o => o.data.map (fun c => c.2))
        let d := d.hostWrite (d.hostImageAddr dr.image.step) data
        match d.sixAlloc 7 ownDevice j 0 0 0xFF with
        | none => d
        | some (h, d) =>
          let d := d.setJob j { d.job j with assist := h, drain := some { dr with localDone := true } }
          (d.wr F.ldgAssistOp h).assistOpen ldgPage St.ok

/-- CKPT_COMPLETE: its own effect, then what follows at once. -/
def execCkptComplete (j : Nat) (s : State) : Host.Outcome State Fault Refusal := s.act (effectCkptComplete j)

/-- CKPT_FAILED (R280): the image does not fit (NO_RESOURCE) or its neighbour is lost (PEER_UNREACHABLE). -/
def effectCkptFailed (j status : Nat) (d : Dev) : Dev :=
  d.when ((d.job j).drain.isSome && (status == St.noResource || status == St.peerUnreachable)) fun d =>
    (d.raiseLdg j 5 status).drainOver j status

/-- CKPT_FAILED: its own effect, then what follows at once. -/
def execCkptFailed (j status : Nat) (s : State) : Host.Outcome State Fault Refusal := s.act (effectCkptFailed j status)

/-- LDG_ASSIST_DEC and LDG_ASSIST_TC applied to the job's attempt (R274). -/
def Dev.hostDecision (d : Dev) (j : Nat) : Dev :=
  let t := d.rd64 (F.ldgAssistTc 0) (F.ldgAssistTc 1)
  let reason := d.rd F.ldgAssistDec_reason
  let commit := d.flag F.ldgAssistDec_commit
  if !d.attemptLive j then d
  else
    let dec : Decision := { commit := commit, t := t, decided := d.now, reason := reason, rank := 0xFFFF, term := (d.job j).term }
    let d := d.setJob j { d.job j with decision := some dec, boundFrom := 0 }
    let d := d.updNewest j (fun r => { r with tDecide := d.now, coord := 0xFFFF })
    if !commit then d.abortAttempt j reason 0xFFFF d.now
    else if ((d.newest j).map (fun r => r.state)) = some stREADY ∧ t < d.now then d.lateFlip j t
    else d

/-- LDG_ASSIST_DOORBELL: the host's decision on a vote (R274), or the end of its copy of an image (R283). -/
def effectLdgAssistDoorbell (f h : Nat) (d : Dev) : Dev :=
  match (List.range 8).find? (fun j => (d.job j).assist == h && h != 0) with
  | none => d.badDoorbell f ldgPage
  | some j =>
    let x := d.job j
    let d := (d.setJob j { x with assist := 0 }).sixRelease h St.ok
    let d := d.showLdgAssist
    match x.drain with
    | some dr => if dr.localDone then d.imageDone j dr.image else d.hostDecision j
    | none => d.hostDecision j

/-- LDG_ASSIST_DOORBELL: its own effect, then what follows at once. -/
def execLdgAssistDoorbell (f h : Nat) (s : State) : Host.Outcome State Fault Refusal := s.act (effectLdgAssistDoorbell f h)
/-! ### Restore (R284, R285) -/

/-- The checks of R284, in their order, on the image that was fetched. -/
def Dev.restoreCheck (d : Dev) (part j : Nat) (c : Cmd) (img : Option Image) : Option Nat :=
  if d.attemptLive j then some St.badField
  else
    match img with
    | none => some St.restoreSkew
    | some im =>
      if !im.complete ∨ im.recStep ≠ rstStep c ∨ im.recState ≠ stCOMMITTED then some St.restoreSkew
      else if im.rngStep ≠ rstStep c ∨ im.seedChk ≠ im.recChk then some St.restoreSkew
      else if rstCursor c ≠ im.cursor then some St.restoreSkew
      else if im.objs.any (fun o =>
          match d.obj? (part * 2 ^ 20 + o.handle % 2 ^ 20) with
          | some y => y.live && (y.gen != o.handle / 2 ^ 20 || y.kind != kCOMMITTED || y.sizeL != o.sizeL || y.job != j)
          | none => false) then some St.noResource
      else none

/-- The object RESTORE finds under its handle, or creates at its source size and stack (R285). -/
def Dev.remake (d : Dev) (k idx n : Nat) (fresh : Obj) : Option Dev :=
  if (d.obj? k).any (fun o => o.live) then some d
  else if d.quota1 fresh.owner (2 * n) then
    match d.pickExtents idx fresh.stack n [], (d.pickExtents idx fresh.stack n []).bind (d.pickExtents idx fresh.stack n) with
    | some a, some b => some ((d.useExtents k fresh.owner (a ++ b)).setObj k { fresh with extA := a, extB := b })
    | _, _ => none
  else none

/-- An absent object of the image is created with both its buffers; none where quota or space is short. -/
def Dev.restoreObj (d : Dev) (part j : Nat) (io : ImageObj) : Option Dev :=
  let idx := io.handle % 2 ^ 20
  let k := part * 2 ^ 20 + idx
  let fresh : Obj := { gen := io.handle / 2 ^ 20, sizeL := io.sizeL, kind := kCOMMITTED, attr := 0, owner := part, job := j, stack := io.stack }
  (d.remake k idx fresh.extents fresh).map (fun d =>
    match d.obj? k with
    | none => d
    | some o =>
      let o := { o.setAside with cur := 0, units := [], bufPoison := 0 }
      (d.setObj k o).pour1 o.extA 0 o.bytes io.data)

/-- Everything RESTORE writes after its checks (R285). -/
def Dev.restoreApply (d : Dev) (j : Nat) (im : Image) : Dev :=
  let d := im.routing.foldl (fun d e => d.setReg e.1 e.2) d
  let gs := (im.routing.map (fun e => e.1 / 2 ^ 32 - 1)).eraseDups
  let d := gs.foldl Dev.applyGroup d
  let table := im.groups.map (fun e => (j * 4096 + e.1, e.2))
  let set_ (m : List (Nat × Nat)) : List (Nat × Nat) :=
    table.foldl (fun m e => mapSet 0 m e.1 e.2) (m.filter (fun e => e.1 / 4096 != j))
  let d := d.setAcr { d.acr with current := set_ d.acr.current, pending := set_ d.acr.pending }
  let d := d.wr (F.rngSeedChk j) im.seedChk
  let d := d.pushRecord j { step := im.step, attempt := 0, state := stCOMMITTED, restored := true, job := j, tEnd := d.now,
                            rosterEpoch := d.rd F.colEpoch, layoutEpoch := d.rd (F.colLayout j), seedChk := im.seedChk,
                            cursor := im.cursor, coord := 0xFFFF }
  let d := d.setJob j { d.job j with seed := im.seed, restored := im.step + 1, parked := [] }
  let d := (d.wr64 (F.ldgCommittedLo j) (F.ldgCommittedHi j) im.step).setStepState j stCOMMITTED
  let d := (d.setJobSt j jsRUNNING).scaleRestore j
  let d := d.wr (F.ldgScaleState_remain j) (max (d.rd (F.ldgScaleState_remain j)) (d.rd (F.ldgScaleRestore_afterRestore j)))
  d.chooseNeighbour j

/-- RESTORE (R284, R285): `img` is what the neighbour or the host gave; SOURCE 1 takes the local store's image. A failure after
the checks leaves the job SUPERSEDED. -/
def effectRestore (q i : Nat) (img : Option Image) (d : Dev) : Dev :=
  d.when (d.partReady q i 0 opRESTORE) fun d =>
    let c := d.cmdBody q i
    let j := d.qJob q
    let part := d.qPart q
    let img := if rstSource c = 1 then (d.job j).localImgs.find? (fun x => x.step == rstStep c) else img
    match d.restoreCheck part j c img with
    | some st =>
      let d := if st = St.restoreSkew then d.raiseLdg j 8 st else d
      d.partRan q i 0 st 0 0
    | none =>
      match img with
      | none => d
      | some im =>
        match im.objs.foldl (fun acc o => acc.bind (fun d => d.restoreObj part j o)) (some d) with
        | none => (d.supersede j).partRan q i 0 St.noResource 0 0
        | some d => (d.restoreApply j im).partRan q i 0 0 0 (imageBytes im)

/-- RESTORE: its own effect, then what follows at once. -/
def execRestore (q i : Nat) (img : Option Image) (s : State) : Host.Outcome State Fault Refusal := s.act (effectRestore q i img)

/-! ### Seeds, scale table -/

/-- The function may reach a job's registers: the PF all of them, a VF those of its partition (R49, R61). -/
def Dev.ownsJob (d : Dev) (f j : Nat) : Bool := f == 0 || d.ownPart f == some (d.rd (F.ldgJobCfg_part j))

/-- SEED_WRITE (R277): the write to RNG_SEED3 makes the seed take effect; with an attempt open it is refused. -/
def effectSeedWrite (f j : Nat) (v : Word) (d : Dev) : Dev :=
  let off := (⟨f, .rng, 0, 0⟩ : Page).offset + 0x8C + 0x20 * j
  d.when (decide (j < 8)) fun d =>
    if (d.pageAt f off).isNone then d.badAccess f off 0
    else if !d.ownsJob f j then d
    else if d.attemptLive j then d.badAccess f off 3
    else
      let seed := d.rd (F.rngSeed0 j) + d.rd (F.rngSeed1 j) * 2 ^ 32 + d.rd (F.rngSeed2 j) * 2 ^ 64 + v.toNat * 2 ^ 96
      let d := d.setJob j { d.job j with seed := seed }
      (d.inc (F.rngSeedGen j) 1).wr (F.rngSeedChk j) (crc32c (leBytes 16 seed))

/-- SEED_WRITE: its own effect, then what follows at once. -/
def execSeedWrite (f j : Nat) (v : Word) (s : State) : Host.Outcome State Fault Refusal := s.act (effectSeedWrite f j v)

/-- SCALE_BASE_WRITE (R159): names the scale table; REMAIN is set to WARMUP. A locked register refuses (R47). -/
def effectScaleBaseWrite (f j : Nat) (v : Word) (d : Dev) : Dev :=
  let off := (F.ldgScaleBase_handle j).addr
  d.when (decide (j < 8)) fun d =>
    if f ≠ 0 ∨ (d.pageAt f off).isNone then d.badAccess f off 0
    else d.underLock (pfPage .ldg 0 4) f off off fun d =>
      (d.wr (F.ldgScaleBase_handle j) v.toNat).wr (F.ldgScaleState_remain j) (d.rd (F.ldgScaleCfg_warmup j))

/-- SCALE_BASE_WRITE: its own effect, then what follows at once. -/
def execScaleBaseWrite (f j : Nat) (v : Word) (s : State) : Host.Outcome State Fault Refusal := s.act (effectScaleBaseWrite f j v)

/-! ### Parking (R287) -/

/-- The job parks now, or at its next step boundary. -/
def Dev.parkJob (d : Dev) (j rank : Nat) : Dev :=
  let x := d.job j
  let d := d.setJob j { x with parked := if x.parked.contains rank then x.parked else x.parked ++ [rank],
                               parkedAt := if x.parked = [] then d.now else x.parkedAt }
  if d.jobSt j = jsRUNNING then (d.setJobSt j jsPARKING).parkAtBoundary j else d

/-- HOST_LINK_LOST: every running job of the function's partitions parks; an attempt not yet SEALED votes ABORT with PARKED; PARK
goes to every member. -/
def Dev.hostLost (d : Dev) (f : Nat) : Dev :=
  (List.range 8).foldl (fun d j =>
    if d.partFunc (d.rd (F.ldgJobCfg_part j)) = f ∧ d.jobSt j = jsRUNNING then
      let d := if ((d.newest j).map (fun r => r.state)) = some stOPEN then d.stepFailure j St.parked 0xFFFF else d
      let d := (d.others j).foldl (fun d r => d.sendLdg j r (d.ldgMsg j 8)) d
      d.parkJob j (d.grpRank (d.commitGroup j))
    else d) d

/-- PARK_RECEIVE: treated like the member's own loss at its next step boundary. -/
def Dev.takePark (d : Dev) (m : LdgMsg) : Dev :=
  match d.jobOfGroup m.group with
  | none => d
  | some j => d.parkJob j m.sender

/-- A PARK message (12_step_ledger.md R287). -/
def effectParkReceive (body : Cmd) (d : Dev) : Dev := d.takePark (readLdgMsg body)

/-- PARK_RECEIVE: its own effect, then what follows at once. -/
def execParkReceive (body : Cmd) (s : State) : Host.Outcome State Fault Refusal := s.act (effectParkReceive body)

/-- A rank has unparked; the job resumes once every one that parked has. -/
def Dev.unparkRank (d : Dev) (j rank : Nat) : Dev :=
  let x := d.job j
  let d := d.setJob j { x with parked := x.parked.filter (· != rank) }
  if (d.job j).parked = [] ∧ (d.jobSt j = jsPARKED ∨ d.jobSt j = jsPARKING) then d.setJobSt j jsRUNNING else d

/-- UNPARK: LDG_JOB_CTRL.UNPARK written 1 on a device that parked the job sends UNPARK to every member. -/
def effectUnpark (j : Nat) (d : Dev) : Dev :=
  let me := d.grpRank (d.commitGroup j)
  d.when ((d.job j).parked.contains me) fun d =>
    ((d.others j).foldl (fun d r => d.sendLdg j r (d.ldgMsg j 9)) d).unparkRank j me

/-- UNPARK: its own effect, then what follows at once. -/
def execUnpark (j : Nat) (s : State) : Host.Outcome State Fault Refusal := s.act (effectUnpark j)

def Dev.takeUnpark (d : Dev) (m : LdgMsg) : Dev :=
  match d.jobOfGroup m.group with
  | none => d
  | some j => d.unparkRank j m.sender

/-- An UNPARK message (12_step_ledger.md R287). -/
def effectUnparkReceive (body : Cmd) (d : Dev) : Dev := d.takeUnpark (readLdgMsg body)

/-- UNPARK_RECEIVE: its own effect, then what follows at once. -/
def execUnparkReceive (body : Cmd) (s : State) : Host.Outcome State Fault Refusal := s.act (effectUnparkReceive body)

/-- PARK_LIMIT_EXPIRY: the job becomes ENDED and its queues are disabled. -/
def effectParkLimitExpiry (j : Nat) (d : Dev) : Dev :=
  d.when ((d.job j).parked != [] && decide ((d.job j).parkedAt + d.rd F.ldgCfg_parkLimit * secQ ≤ d.now)) fun d =>
    let d := d.setJobSt j jsENDED
    let d := (List.range 256).foldl (fun d q => if d.qJob q = j ∧ d.qEnabled q then d.disableQueue q false else d) d
    d.raiseLdg j 11 St.ok

/-- PARK_LIMIT_EXPIRY: its own effect, then what follows at once. -/
def execParkLimitExpiry (j : Nat) (s : State) : Host.Outcome State Fault Refusal := s.act (effectParkLimitExpiry j)

end Sys2Proof.Machine
end

