-- ==== Sys2Proof/Machine/RosterOps.lean ====
section
/-! DEFINITION. The roster: its records, changes and their effects, the keeper's work, substitution of spares and what the messages of
the collective block do (15_groups_and_collectives.md R328 to R342). -/

namespace Sys2Proof.Machine

/-- Roles and states of a record. -/
def roMEMBER : Nat := 0
def roSPARE : Nat := 1
def roKEEPER : Nat := 2
def rsLIVE : Nat := 0
def rsSUSPECT : Nat := 1
def rsSLEEPING : Nat := 2
def rsWAKING : Nat := 3

def Dev.rec? (d : Dev) (dev : Nat) : Option RosterRec := mapLook d.col.roster dev

/-- The device is in a roster. -/
def Dev.enrolled (d : Dev) : Bool := (d.rec? d.deviceId).isSome

/-- The keeper's device id as COL_KEEPER shows it. -/
def Dev.keeper (d : Dev) : Nat := d.rd64 (F.colKeeper 0) (F.colKeeper 1)

def Dev.isKeeper (d : Dev) : Bool := d.enrolled && d.keeper == d.deviceId

/-- The LIVE records that may keep the roster, lowest device id first (R332). -/
def liveIds (r : List (Nat × RosterRec)) : List Nat :=
  (r.filter (fun e => e.2.state == rsLIVE && e.2.role != roSPARE)).map (fun e => e.1)

/-- The keeper of a roster: the LIVE member with the lowest device id. -/
def keeperOf (r : List (Nat × RosterRec)) : Nat := (liveIds r).head?.getD 0

/-- COL_ROLE and COL_KEEPER follow the roster; a device without a record has no roster. -/
def Dev.showRoster (d : Dev) (keeper : Nat) : Dev :=
  let roster := d.col.roster.map (fun (e : Nat × RosterRec) =>
    if e.1 = keeper then (e.1, { e.2 with role := roKEEPER }) else if e.2.role = roKEEPER then (e.1, { e.2 with role := roMEMBER }) else e)
  let d := d.setCol { d.col with roster := roster }
  let role := match d.rec? d.deviceId with
    | none => 0
    | some r => if r.role = roKEEPER then 3 else if r.role = roSPARE then 2 else 1
  let d := d.wr F.colRole_role role
  let d := if role = 0 then d.setCol { d.col with roster := [], heard := [] } else d
  let d := d.wr F.colRole_records d.col.roster.length
  d.wr64 (F.colKeeper 0) (F.colKeeper 1) keeper

/-! ### Records as bytes (tables Roster record, ROSTER body) -/

/-- An address in network byte order: four words, the first the highest. -/
def addrBytes (a : Nat) : List Byte := (leBytes 16 a).reverse
def addrOf (bs : List Byte) : Nat := ofBeBytes (bs.take 16)

/-- The four 16-byte address slots. -/
def addrSlots (l : List Nat) : List Byte := (List.range 4).flatMap (fun a => addrBytes (nthD l a 0))

/-- The 96 bytes of a ROSTER entry. -/
def entryBytes (op dev : Nat) (r : RosterRec) : List Byte :=
  leBytes 1 op ++ leBytes 1 r.families ++ leBytes 6 0 ++ leBytes 8 dev ++ leBytes 1 (r.role + r.state * 4)
    ++ leBytes 1 r.addrs.length ++ leBytes 2 0 ++ leBytes 8 r.labels ++ leBytes 4 r.joined ++ addrSlots r.addrs

/-- The 24 bytes of a record as COL_RST0 to COL_RST5 show them. -/
def recordWords (dev : Nat) (r : RosterRec) : List Byte :=
  leBytes 8 dev ++ leBytes 1 (r.role + r.state * 4) ++ leBytes 1 r.addrs.length ++ leBytes 2 0 ++ leBytes 8 r.labels ++ leBytes 4 r.joined

/-- Read an entry: operation, device, record. -/
def readEntry (bs : List Byte) : Nat × Nat × RosterRec :=
  let n := leAt bs 17 1 % 8
  (leAt bs 0 1, leAt bs 8 8,
   { role := leAt bs 16 1 % 4, state := leAt bs 16 1 / 4 % 4, addrs := (List.range (min n 4)).map (fun a => addrOf (bs.drop (32 + 16 * a))),
     families := leAt bs 1 1, labels := leAt bs 20 8, joined := leAt bs 28 4 })

/-- A ROSTER body. -/
def rosterBody (flags epoch keeper part : Nat) (entries : List (Nat × Nat × RosterRec)) : List Byte :=
  [0x21] ++ leBytes 1 flags ++ leBytes 2 entries.length ++ leBytes 4 epoch ++ leBytes 8 keeper ++ leBytes 2 part ++ leBytes 6 0
    ++ entries.flatMap (fun e => entryBytes e.1 e.2.1 e.2.2)

/-- The parts of a whole roster: 14 records each, at least one part (R329). -/
def fullRoster (epoch keeper : Nat) (r : List (Nat × RosterRec)) : List (List Byte) :=
  let n := max 1 (ceilDiv r.length 14)
  (List.range n).map fun p =>
    rosterBody (if p + 1 = n then 3 else 1) epoch keeper p (((r.drop (14 * p)).take 14).map (fun e => (0, e.1, e.2)))

/-- A JOIN body (R329) of this device. -/
def Dev.joinBody (d : Dev) : List Byte :=
  let own := (List.range 4).filter (fun e => d.flag (F.tbnAddrCfg_valid.bank e))
  let fam := sumBy (fun (x : Nat × Nat) => d.rd (F.tbnAddrCfg_family.bank x.1) * 2 ^ x.2) own.zipIdx
  let addr (e : Nat) : List Byte := (List.range 4).flatMap (fun k => leBytes 4 (d.rd ((F.tbnAddr k).bank e)))
  let slots := own.flatMap addr
  [0x20] ++ leBytes 1 (d.rd F.colDomain_spare) ++ leBytes 2 (d.rd F.colDomain_id) ++ leBytes 1 (d.rd F.tbnCfg_versionMax)
    ++ leBytes 1 own.length ++ leBytes 1 fam ++ leBytes 1 0 ++ leBytes 8 d.deviceId ++ leBytes 8 d.ownLabels ++ slots
    ++ List.replicate (64 - slots.length) 0

/-- The device's own record. -/
def Dev.ownRecord (d : Dev) (joined : Nat) : RosterRec :=
  let b := d.joinBody
  let n := leAt b 5 1
  { role := if leAt b 1 1 % 2 = 1 then roSPARE else roMEMBER, addrs := (List.range n).map (fun a => addrOf (b.drop (24 + 16 * a))),
    families := leAt b 6 1, labels := leAt b 16 8, joined := joined }

/-! ### Sending -/

def colQueue : Nat := 6

/-- To every LIVE record but the device's own. -/
def Dev.sendLive (d : Dev) (body : List Byte) : Dev :=
  ((d.col.roster.filter (fun e => e.2.state == rsLIVE && e.1 != d.deviceId)).map (fun e => e.1)).foldl
    (fun d m => d.sendCtrl m colQueue body) d

/-- A whole roster to one device. -/
def Dev.sendFull (d : Dev) (to_ : Nat) : Dev :=
  (fullRoster (d.rd F.colEpoch) d.keeper d.col.roster).foldl (fun d b => d.sendCtrl to_ colQueue b) d

/-! ### Effects of a change -/

/-- A job whose commit group holds a removed device (R337): the step fails naming its rank; a coordinator without its vote decides
ABORT at once; a device that is itself removed is superseded (R273). -/
def Dev.memberGone (d : Dev) (dev : Nat) : Dev :=
  (List.range 8).foldl (fun d j =>
    if !d.jobKnown j ∨ !d.attemptLive j then d
    else
      let g := d.commitGroup j
      if dev = d.deviceId then d.supersede j
      else
        match (List.range (d.grpSize g)).find? (fun r => d.memberOf g r == dev) with
        | none => d
        | some r =>
          let d := d.stepFailure j St.memberMissing r
          if d.coordinates j ∧ (d.job j).decision.isNone ∧ !d.assist ldgPage ∧ (d.job j).votes.all (fun v => v.rank != r)
              ∧ ((d.job j).voted ∨ (d.job j).boundFrom ≠ 0) then
            d.decide_ j false 0 St.memberMissing r
          else d) d

/-- One entry of a ROSTER applied. -/
def Dev.applyEntry (d : Dev) (e : Nat × Nat × RosterRec) : Dev :=
  let dev := e.2.1
  if e.1 = 2 then
    if (d.rec? dev).isNone then d
    else
      let d := d.setCol { d.col with roster := mapDel d.col.roster dev, heard := mapDel d.col.heard dev }
      let d := d.losePeer dev St.memberMissing
      (d.memberGone dev).raise colPage 1 St.memberMissing
  else
    let old := d.rec? dev
    let d := d.setCol { d.col with roster := mapPut d.col.roster dev e.2.2,
                                   heard := if old.all (fun r => r.state != rsLIVE && r.state != rsSUSPECT) then mapPut d.col.heard dev d.now else d.col.heard }
    let d := if old.isNone then d.raise colPage 2 St.ok else d
    if e.2.2.state = rsSUSPECT ∧ ((old.map (fun r => r.state)) ≠ some rsSUSPECT) then d.raise colPage 0 St.ok else d

/-- A group with SUBST takes a spare's id in place of a removed device's; the change takes effect as a write does (R339, R341). -/
def Dev.substGroups (d : Dev) (spare gone : Nat) : Dev :=
  let gs := (d.col.grps.map (fun e => e.1)).filter (fun g => d.flag (F.colGrpCfg_subst.bank g))
  let d := gs.foldl (fun d g =>
    let n := d.rd (F.colGrpCfg_sizeM1.bank g) + 1
    let hit := (List.range n).filter (fun r =>
      d.rd64 ((F.colMember (2 * r)).bank g) ((F.colMember (2 * r + 1)).bank g) == gone)
    if hit = [] then d
    else
      let d := hit.foldl (fun d r => d.wr64 ((F.colMember (2 * r)).bank g) ((F.colMember (2 * r + 1)).bank g) spare) d
      d.setCol { d.col with dirty := if d.col.dirty.contains g then d.col.dirty else d.col.dirty ++ [g] }) d
  (List.range 8).foldl (fun d j => if d.attemptLive j then d else d.applyGroups j) d

/-- WAKE_DONE messages whose epoch has come. -/
def Dev.dueWakeDone (d : Dev) : Dev :=
  let e := d.rd F.colEpoch
  let due := d.col.wakeDone.filter (fun w => serialGe 32 e w.1)
  let d := d.setCol { d.col with wakeDone := d.col.wakeDone.filter (fun w => !serialGe 32 e w.1) }
  due.foldl (fun d w => d.substGroups w.2.1 w.2.2) d

/-- What every change of the roster brings: epoch, event, keeper, role, neighbours (R282, R332). From a change of the keeper on, the
periods without an HB count anew (log entry 122). -/
def Dev.rosterChanged (d : Dev) (epoch keeper : Nat) : Dev :=
  let was := d.keeper
  let d := if was ≠ keeper then d.setCol { d.col with heard := d.col.roster.map (fun e => (e.1, d.now)) } else d
  let d := (d.wr F.colEpoch epoch).showRoster keeper
  let d := d.raise colPage 3 St.rosterChanged
  let d := if was ≠ keeper ∧ was ≠ 0 then d.raise colPage 4 St.ok else d
  let d := d.dueWakeDone
  (List.range 8).foldl (fun d j => if d.jobKnown j then d.chooseNeighbour j else d) d

/-- The keeper makes a change: the next epoch, applied here and sent to every LIVE member (R332). -/
def Dev.keeperChange (d : Dev) (entries : List (Nat × Nat × RosterRec)) : Dev :=
  let e := (d.rd F.colEpoch + 1) % 2 ^ 32
  let targets := (d.col.roster.filter (fun x => x.2.state == rsLIVE && x.1 != d.deviceId)).map (fun x => x.1)
  let d := entries.foldl Dev.applyEntry d
  let k := keeperOf d.col.roster
  let d := d.rosterChanged e k
  targets.foldl (fun d m => d.sendCtrl m colQueue (rosterBody 0 e k 0 entries)) d

/-- A record changed by the keeper. -/
def Dev.changeRec (d : Dev) (dev : Nat) (f : RosterRec → RosterRec) : Dev :=
  match d.rec? dev with
  | none => d
  | some r => d.keeperChange [(1, dev, f r)]

/-! ### Substitution (R339) -/

/-- The wake frame to a device's base address, from every port that is up (13_fabric_ports.md R307). -/
def Dev.wakeFrames (d : Dev) (spare : Nat) : Dev :=
  d.upPorts.foldl (fun d p =>
    let body := (leBytes 6 (macOfId spare)).reverse ++ (leBytes 6 (d.portMac p)).reverse ++ [0x08, 0x42]
      ++ leBytes 4 (d.rd (F.colWakeToken 0)) ++ leBytes 4 (d.rd (F.colWakeToken 1))
    d.enqueue p { queue := colQueue, len := d.frameLen p 46, dest := spare, kind := .wake, bytes := body }) d

/-- The spare that replaces a device: lowest id among SLEEPING spares on another power feed, else lowest of all. -/
def Dev.chooseSpare (d : Dev) (goneLabels : Nat) : Option Nat :=
  let all := d.col.roster.filter (fun e => e.2.role == roSPARE && e.2.state == rsSLEEPING)
  let other := all.filter (fun e => labelsDiffer (labelOf e.2.labels 1) (labelOf goneLabels 1))
  ((if other = [] then all else other).head?).map (fun e => e.1)

/-- The keeper starts to wake a spare. -/
def Dev.wakeSpare (d : Dev) (spare gone : Nat) : Dev :=
  let d := d.changeRec spare (fun r => { r with state := rsWAKING })
  let d := d.setCol { d.col with waking := some { spare := spare, gone := gone, since := d.now, last := d.now } }
  (d.wakeFrames spare).raise colPage 8 St.ok

/-- The next removed device that needs a spare gets one; with none left NO_SPARE is set. -/
def Dev.nextSubst (d : Dev) : Dev :=
  if d.col.waking.isSome then d
  else
    match d.col.substQ with
    | [] => d
    | g :: rest =>
      let d := d.setCol { d.col with substQ := rest }
      match d.chooseSpare (d.labelsOf g) with
      | some s => d.wakeSpare s g
      | none => d.raise colPage 9 St.ok

/-- A group that asks for substitution holds the device. -/
def Dev.wantsSubst (d : Dev) (dev : Nat) : Bool :=
  d.col.grps.any (fun e => e.2.subst && e.2.members.contains dev)

/-- The keeper removes a device; in HW mode a spare takes its place where a group asks for one. -/
def Dev.removeDevice (d : Dev) (dev : Nat) (subst : Bool) : Dev :=
  match d.rec? dev with
  | none => d
  | some r =>
    let want := subst && d.wantsSubst dev
    let pick := d.chooseSpare r.labels
    let d := d.keeperChange [(2, dev, r)]
    if !want then d
    else if d.col.waking.isSome then d.setCol { d.col with substQ := d.col.substQ ++ [dev] }
    else
      match pick with
      | some s => d.wakeSpare s dev
      | none => d.raise colPage 9 St.ok

/-- In ASSIST mode the keeper writes a work record instead (R340): kind 0 missed heartbeats, 1 UNREACH, 2 LEAVE. -/
def Dev.colAssist (d : Dev) (kind dev : Nat) : Dev :=
  let shown := d.rd64 (F.colAssistDev 0) (F.colAssistDev 1)
  if d.col.assist ≠ 0 then
    if shown = dev ∨ d.col.assistQ.any (fun x => x.2 == dev) then d
    else d.setCol { d.col with assistQ := d.col.assistQ ++ [(kind, dev)] }
  else
    match d.sixAlloc 7 ownDevice 0 0 0 0xFF with
    | none => d
    | some (h, d) =>
      let d := d.setCol { d.col with assist := h }
      let d := (d.wr F.colAssistOp h).wr F.colAssistKind kind
      (d.wr64 (F.colAssistDev 0) (F.colAssistDev 1) dev).assistOpen colPage St.ok

/-- The keeper's way to remove a device: at once in HW mode, by the host in ASSIST mode. -/
def Dev.wantRemoved (d : Dev) (kind dev : Nat) : Dev :=
  if d.assist colPage then d.colAssist kind dev else d.removeDevice dev true

/-! ### Messages -/

/-- A body shorter than its layout, or of an unknown type, is dropped and counted (R328, R329). -/
def Dev.rxBad (d : Dev) : Dev := d.incSat F.tbnRxBad 1

def Dev.colHb (d : Dev) : Nat := d.rd F.colHb_period * (msQ / 10)

/-- JOIN at the keeper, once admitted: a new record, or a known one that is back; the whole roster goes to it (R333, R339). A device
of another domain's roster brings its epoch. -/
def Dev.enrol (d : Dev) (b : List Byte) : Dev :=
  let dev := leAt b 8 8
  let n := min (leAt b 5 1) 4
  let r : RosterRec := { role := if leAt b 1 1 % 2 = 1 then roSPARE else roMEMBER, state := rsLIVE, families := leAt b 6 1,
                         labels := leAt b 16 8, addrs := (List.range n).map (fun a => addrOf (b.drop (24 + 16 * a))),
                         joined := (d.rd F.colEpoch + 1) % 2 ^ 32 }
  match d.rec? dev with
  | some old =>
    let woken := match d.col.waking with
      | some w => if w.spare = dev then some w else none
      | none => none
    match woken with
    | some w =>
      let e := (d.rd F.colEpoch + 1) % 2 ^ 32
      let body := [0x27, 0, 0, 0] ++ leBytes 4 e ++ leBytes 8 dev ++ leBytes 8 w.gone
      let d := d.setCol { d.col with waking := none, wakeDone := d.col.wakeDone ++ [(e, dev, w.gone)] }
      let d := (d.sendLive body).keeperChange [(1, dev, { r with joined := old.joined })]
      (d.sendFull dev).nextSubst
    | none =>
      let same : RosterRec := { r with role := old.role, joined := old.joined }
      let d := if same = old then d else d.keeperChange [(1, dev, same)]
      d.sendFull dev
  | none =>
    if 1024 ≤ d.col.roster.length then d.sendCtrl dev colQueue (rosterBody 0 (d.rd F.colEpoch) d.keeper 0 [])
    else
      let other := (d.peer dev).epoch
      let d := if other > d.rd F.colEpoch then d.wr F.colEpoch other else d
      let d := d.keeperChange [(0, dev, { r with joined := (d.rd F.colEpoch + 1) % 2 ^ 32 })]
      d.sendFull dev

/-- JOIN (R333, R435): a member forwards it to the keeper; the keeper admits, or asks for a quote. -/
def Dev.takeJoin (d : Dev) (b : List Byte) : Dev :=
  if b.length < 88 then d.rxBad
  else if !d.enrolled ∨ leAt b 2 2 ≠ d.rd F.colDomain_id then d
  else if !d.isKeeper then d.sendCtrl d.keeper colQueue b
  else
    let dev := leAt b 8 8
    if d.flag F.secPeer_require ∧ (d.rec? dev).isNone then
      if d.col.quotes.any (fun q => q.device == dev) then d
      else
        let r := d.drawIndex
        let nonce := (List.range 32).map (Config.freeByte r.1)
        let d := r.2.setCol { r.2.col with quotes := r.2.col.quotes ++ [{ device := dev, nonce := nonce, at_ := d.now, join := b }] }
        d.sendCtrl dev colQueue ([0x28] ++ leBytes 7 0 ++ leBytes 8 d.deviceId ++ nonce)
    else d.enrol b

/-- A whole roster replaces the device's own. -/
def Dev.applyFull (d : Dev) (epoch keeper : Nat) (entries : List (Nat × Nat × RosterRec)) : Dev :=
  let gone := d.col.roster.filter (fun e => entries.all (fun x => x.2.1 != e.1))
  let d := gone.foldl (fun d e => d.applyEntry (2, e.1, e.2)) d
  let d := entries.foldl (fun d e => d.applyEntry (0, e.2.1, e.2.2)) d
  let d := d.setCol { d.col with fullParts := [], joinFrom := 0, refused := false }
  (d.rosterChanged epoch keeper).askDecisions

/-- Ask the keeper for the whole roster: with a JOIN (log entry 43). -/
def Dev.askRoster (d : Dev) (keeper : Nat) : Dev := d.sendCtrl keeper colQueue d.joinBody

/-- ROSTER (R332, R333): applied in epoch order; a gap asks for the whole roster; one without records refuses a JOIN. -/
def Dev.takeRoster (d : Dev) (b : List Byte) : Dev :=
  let n := leAt b 2 2
  if b.length < 24 + 96 * n ∨ b.length < 24 then d.rxBad
  else
    let full := bitOf (leAt b 1 1) 0
    let last := bitOf (leAt b 1 1) 1
    let epoch := leAt b 4 4
    let keeper := leAt b 8 8
    let part := leAt b 16 2
    let entries := (List.range n).map (fun i => readEntry (b.drop (24 + 96 * i)))
    let cur := d.rd F.colEpoch
    if !full ∧ n = 0 then
      if d.enrolled then d
      else (d.setCol { d.col with refused := true, joinNext := d.now + 10 * secQ }).raise colPage 10 St.ok
    else if full then
      if d.enrolled ∧ !serialGt 32 epoch cur then d
      else
        let old := if d.col.fullEpoch = epoch then d.col.fullParts else []
        let parts := mapPut old part (last, b)
        let d := d.setCol { d.col with fullEpoch := epoch, fullParts := parts }
        match parts.find? (fun p => p.2.1) with
        | none => d
        | some (k, _) =>
          if (List.range (k + 1)).all (fun i => (mapLook parts i).isSome) then
            let all := parts.flatMap (fun p =>
              (List.range (leAt p.2.2 2 2)).map (fun i => readEntry (p.2.2.drop (24 + 96 * i))))
            d.applyFull epoch keeper all
          else d
    else if !d.enrolled then d
    else if d.isKeeper ∧ keeper ≠ d.deviceId then
      if keeper < d.deviceId ∧ (d.rec? keeper).isNone then
        let d := d.askRoster keeper
        d.sendLive ([0x24, 0, 0, 0] ++ leBytes 4 cur ++ leBytes 8 keeper ++ leBytes 8 d.deviceId)
      else d
    else if epoch = (cur + 1) % 2 ^ 32 then (entries.foldl Dev.applyEntry d).rosterChanged epoch keeper
    else if serialGt 32 epoch cur then d.askRoster d.keeper
    else d

/-- HB (R334): the sender has been heard; at the keeper a SUSPECT member is LIVE again. -/
def Dev.takeHb (d : Dev) (b : List Byte) : Dev :=
  if b.length < 24 then d.rxBad
  else
    let dev := leAt b 8 8
    let d := d.setCol { d.col with heard := mapPut d.col.heard dev d.now, passed := if dev = d.keeper then [] else d.col.passed }
    if d.isKeeper ∧ (d.rec? dev).map (fun r => r.state) = some rsSUSPECT then
      d.changeRec dev (fun r => { r with state := rsLIVE })
    else d

/-- LEAVE (R336, R338): a spare that goes to sleep keeps its record; any other device is removed. -/
def Dev.takeLeave (d : Dev) (b : List Byte) : Dev :=
  if b.length < 16 then d.rxBad
  else
    let dev := leAt b 8 8
    if !d.isKeeper then d
    else
      match d.rec? dev with
      | none => d
      | some r =>
        if bitOf (leAt b 1 1) 0 ∧ r.role = roSPARE then d.changeRec dev (fun r => { r with state := rsSLEEPING })
        else d.wantRemoved 2 dev

/-- KEEPER (R334): the new keeper has removed the old one at the epoch named. A keeper of another roster with a lower id is joined
(R333). -/
def Dev.takeKeeper (d : Dev) (b : List Byte) : Dev :=
  if b.length < 24 then d.rxBad
  else
    let epoch := leAt b 4 4
    let new := leAt b 8 8
    let old := leAt b 16 8
    let cur := d.rd F.colEpoch
    if !d.enrolled then d
    else if (d.rec? new).isNone then (if new < d.keeper then d.askRoster new else d)
    else if old ≠ d.keeper ∨ !serialGt 32 epoch cur then d
    else
      let r := (d.rec? old).getD {}
      (d.applyEntry (2, old, r)).rosterChanged epoch new

/-- UNREACH (R335): the keeper removes the named device when reporter and named are both LIVE. -/
def Dev.takeUnreach (d : Dev) (b : List Byte) : Dev :=
  if b.length < 24 then d.rxBad
  else
    let live (x : Nat) : Bool := (d.rec? x).map (fun r => r.state) == some rsLIVE
    if d.isKeeper ∧ live (leAt b 8 8) ∧ live (leAt b 16 8) then d.wantRemoved 1 (leAt b 16 8) else d

/-- WAKE_DONE (R339): from its epoch on, groups with SUBST name the spare. -/
def Dev.takeWakeDone (d : Dev) (b : List Byte) : Dev :=
  if b.length < 24 then d.rxBad
  else (d.setCol { d.col with wakeDone := d.col.wakeDone ++ [(leAt b 4 4, leAt b 8 8, leAt b 16 8)] }).dueWakeDone

/-- A beacon (R330, R349): every wait for the sending rank's data starts again. -/
def Dev.takeBeacon (d : Dev) (b : List Byte) : Dev :=
  if b.length < 32 then d.rxBad
  else
    let g := leAt b 2 2 % 4096
    let r := leAt b 4 1
    let d := d.setWset { d.wset with loads := d.wset.loads.map (fun (l : Load) => if l.group = g ∧ l.pred = some r then { l with since := d.now } else l) }
    d.setCol { d.col with colls := d.col.colls.map (fun (k : Coll) =>
      if k.group = g then { k with posted := k.posted.map (fun (p : Posted) => if p.rank = r then { p with since := d.now } else p) }
      else k) }

/-- The device tells the keeper that a peer is unreachable (R335); a keeper takes its own report at once. -/
def Dev.reportUnreach (d : Dev) (peer : Nat) : Dev :=
  if !d.enrolled then d
  else
    let body := [0x25] ++ leBytes 7 0 ++ leBytes 8 d.deviceId ++ leBytes 8 peer
    if d.isKeeper then d.takeUnreach body else d.sendCtrl d.keeper colQueue body

end Sys2Proof.Machine
end

