-- ==== Sys2Proof/Machine/ResetOps.lean ====
section
/-! DEFINITION. What a D3 and a D4 reset lose and keep, what the signed configuration record gives a start, and OUT_OF_SERVICE
(18_faults_resets_dumps.md R399 to R404; 02_register_pages.md R44, R48; 04_market.md R87, R97; 10_tiers R214). -/

namespace Sys2Proof.Machine

/-! ### D3: registers -/

/-- The fields of a register at a storage key. -/
def fieldsAt (key : Nat) : List FieldDef :=
  let a := key % 2 ^ 32
  if a ≥ 2 ^ 26 then []
  else
    match blockAt a with
    | none => []
    | some (b, i) =>
      match pageReg b ((a - b.base - i * b.stride) / 0x1000) ((a - b.base - i * b.stride) % 0x1000) with
      | some (r, _) => r.fields
      | none => []

/-- Blocks whose read-only registers start anew with a D3: they show what the reset loses. -/
def d3Fresh : List Block := [.evt, .tim, .tbn, .six]

/-- A register's word after a D3 reset (R404): in a page header the event flags, their count and stamp, LOCK and the reset bits are
gone; elsewhere every counter that a write of 1 clears is. -/
def d3Word (key : Nat) (w : Word) : Word :=
  let off := key % 0x1000
  if key < 2 ^ 32 ∧ off < 0x34 then
    (if off = 0x0C then setField w 16 1 0
     else if off = 0x10 ∨ off = 0x14 ∨ off = 0x1C ∨ off = 0x20 ∨ off = 0x24 ∨ off = 0x2C then 0
     else w)
  else
    let fresh := (blockAt (key % 2 ^ 32)).any (fun b => d3Fresh.contains b.1)
    (fieldsAt key).foldl (fun (w : Word) (f : FieldDef) =>
      if f.access = .rw1c ∨ f.access = .rw1cAll ∨ (fresh ∧ f.access = .ro) then setField w f.lo f.w f.reset else w) w

/-- The register file after a D3 reset; words equal to their reset values are not listed. -/
def Dev.d3Regs (d : Dev) : Dev :=
  d.setRegs ((d.regs.map (fun (e : Nat × Word) => (e.1, d3Word e.1 e.2))).filter (fun e => e.2 != regReset e.1))

/-! ### D3: tiers, queues and services -/

/-- One residency unit over a D3 reset (R14, R404): T0 copies are gone, a scratch copy held only there is POISONED; moves in flight
are dropped. -/
def Obj.unitD3 (o : Obj) (u : Nat) (x : TUnit) : TUnit :=
  let had := x.t0 != tsABSENT && x.t0 != tsARRIVING
  let t1 := if x.t1 = tsARRIVING ∧ !x.refill then tsABSENT else if x.t1 = tsLEAVING then tsRESIDENT else x.t1
  let lost := had && o.kind == kSCRATCH && t1 != tsRESIDENT && !(o.valid2 u && t1 == tsABSENT)
  { x with t0 := if lost then tsPOISONED else tsABSENT, t1 := t1, ref0 := 0, dirty0 := false, base0 := 0, rgn0 := 0, src := 0,
           tries := 0, retryAt := 0, assist := 0, move := 0 }

def Obj.afterD3 (o : Obj) : Obj :=
  if o.alias_ ≠ 0 then { o with live := false, gen := if o.live then nextGen o.gen else o.gen, extA := [], units := [], old := [] }
  else { o with units := (o.units.map (fun (e : Nat × TUnit) => (e.1, o.unitD3 e.1 e.2))).filter (fun e => e.2 != o.fresh), ref1 := 0, old := [] }

/-- A job over a D3 reset: what the ledger holds outside its ring is gone; a READY attempt is to ask for its decision (R288). -/
def Dev.jobD3 (d : Dev) (j : Nat) (x : JobState) : JobState :=
  let ready := ((d.newest j).map (fun r => r.state)) == some stREADY
  { x with votes := [], answers := [], answerDecision := none, boundFrom := 0, querying := false, decision := none, silent := [],
           drain := none, waitingStep := none, assist := 0, stallFrom := 0, stallNext := 0, redSeen := false, recovering := ready }

/-- Every queue is disabled and holds nothing; its head returns to its done count (R60, R404). -/
def Dev.queuesD3 (d : Dev) : Dev :=
  let d := d.setKqp { queues := [], sems := [] }
  (List.range 256).foldl (fun d q =>
    let i := q / 16
    let j := q % 16
    let d := (d.setFlag (F.qCfg_enable i j) false).wr (F.qHead_count i j) (d.qDone q)
    let st := F.qState_state i j
    d.setReg st.addr (regReset st.addr)) d

/-- The Market's limits under a new SYS_GRANULES are lowered from pool 8 down (R97). -/
def Dev.lowerLimits (d : Dev) : Dev :=
  let avail := 16384 - d.sysGranules
  let r := [8, 7, 6, 5, 4, 3, 2, 1, 0].foldl (fun (acc : Nat × Dev) p =>
    let l := acc.2.rd (F.mktQuota_limit p)
    let cut := min l acc.1
    (acc.1 - cut, if cut = 0 then acc.2 else acc.2.wr (F.mktQuota_limit p) (l - cut)))
    (sumBy (fun p => d.rd (F.mktQuota_limit p)) (List.range 9) - avail, d)
  if sumBy (fun p => d.rd (F.mktQuota_limit p)) (List.range 9) ≤ avail then d
  else r.2.setHlt { r.2.hlt with clipOwed := true }

/-- Binding counts after every command in execution is gone: one for each live attempt that holds the slot (R364). -/
def Dev.bindsD3 (d : Dev) : Dev :=
  d.wset.defined.foldl (fun d s =>
    let n (v : Nat) : Nat := ((List.range 8).filter (fun j => d.attemptLive j && (d.job j).binds / 4 ^ s % 4 == v)).length
    (d.wr (F.wsetRefs_ref0.bank s) (n 1)).wr (F.wsetRefs_ref1.bank s) (n 2)) d

/-- A port over a D3 reset: its frames are gone and its link is down; its lanes' failures stay. -/
def Dev.portD3 (d : Dev) (p : Nat) : Dev :=
  let x := d.port p
  let fresh : FabPort := { laneFails := x.laneFails, wakeRej := x.wakeRej, wakeLock := x.wakeLock, lastRate := x.lastRate }
  let d := d.setPort p fresh
  (((d.setPortSt p psDISABLED 0 0).wr (F.fabPauseState_paused p) 0).wr (F.fabPauseState_heldOff p) 0).wr (F.fabNbrState_valid p) 0

/-- What a D3 reset loses (R404). -/
def Dev.loseD3 (d : Dev) : Dev :=
  let d := d.hlt.testing.foldl Dev.endTest d
  let jobs := d.ldg.jobs.map (fun (e : Nat × JobState) => (e.1, d.jobD3 e.1 e.2))
  let d := d.setLdg { jobs := jobs }
  let d := d.queuesD3
  let d := d.setTir { d.tir with objs := d.tir.objs.map (fun (e : Nat × Obj) => (e.1, e.2.afterD3)),
                                 refs := [], waits := [], recs := [], writeBacks := [] }
  let d := (d.setT0 []).setCcr {}
  let d := d.setMkt { d.mkt with regions := [], poison := [] }
  let d := (List.range 9).foldl (fun d p => d.wr (F.mktQuota_use p) 0) d
  let d := (d.wr F.mktSysCfg_sysActive (d.rd F.mktSysCfg_sysGranules)).lowerLimits
  let d := (((d.setSix { badRows := d.six.badRows, repaired := d.six.repaired }).setTbn {}).setStampHold []).setEvt {}
  let d := (d.setTim {}).setSpr { d.spr with recs := [], waiting := [], resets := [] }
  let d := d.setCol { d.col with roster := [], colls := [], tags := [], heard := [], hbSeq := 0, joinFrom := 0, joinNext := 0, fullParts := [],
                                 quotes := [], waking := none, leaving := false, refused := false, passed := [], assist := 0, assistQ := [],
                                 substQ := [], wakeDone := [] }
  let d := (((d.wr F.colRole_role 0).wr F.colRole_records 0).wr F.colEpoch 0)
  let d := d.setAcr { d.acr with assist := [], window := [], gap := [] }
  let d := d.setHlt { d.hlt with testing := [], nextRound := 0, begun := false }
  let d := ((d.wr F.hltStState_roundNo 0).wr F.hltStState_cycles 0)
  let d := (List.range 24).foldl Dev.portD3 d
  d.bindsD3.d3Regs

/-! ### The record at a start (R422, R423) -/

/-- A unit that the record retires. -/
def Dev.markRetired (d : Dev) (k : Nat) : Dev :=
  let d := d.setPhys (k / 256) (k % 256) { d.physUnit (k / 256) (k % 256) with role := 4 }
  match d.unitPage (k / 256) (k % 256) with
  | some (b, i) => d.setHealth b i 3
  | none => d

/-- Identities without a working unit take free reserves, lowest first (R25; at a start no approval is asked, R31). -/
def Dev.mapSpares (d : Dev) : Dev :=
  let d := d.setSpr { d.spr with declined := [], approved := [] }
  unitTypes.foldl (fun d t =>
    (List.range (unitActive t)).foldl (fun d l =>
      let gone := match d.physOf t l with
        | some p => decide (2 ≤ (d.physUnit t p).role)
        | none => true
      if !gone then d
      else
        match d.reserves t with
        | p :: _ => d.takeIdentity t l p
        | [] => d.setMap t l 0) d) d

/-- What a start takes from the record in use (S0, S2); a cold start takes repairs and retirements from it, with those a held write
would add. -/
def Dev.applyRecord (d : Dev) (warm : Bool) : Dev :=
  let r := d.sec.current
  let d := (d.wr64 (F.secRecSeq 0) (F.secRecSeq 1) r.seq).wr F.secSvn_svn r.svn
  let d := ((d.wr F.hifLinkCfg_hostSplit (boolNat r.hostSplit)).wr F.sprBootMode_alt (boolNat r.altMode))
  let d := (d.wr F.secCfgReq_hostSplit (boolNat r.hostSplit)).wr F.secCfgReq_altMode (boolNat r.altMode)
  if warm then d
  else
  let r := d.sec.held.getD r
  let d := r.retired.foldl Dev.markRetired d
  let d := d.setTir { d.tir with retired := r.hbm }
  let d := d.wr F.tirT1Avail_avail d.t1Avail
  let d := r.hbm.foldl (fun d k => (d.wr (F.hbmState_state k) 2).setHealth .hbm k 3) d
  let d := r.coreRepair.zipIdx.foldl (fun d e => d.setReg (F.ccrRepair_repColValid e.2).addr e.1) d
  let d := r.bankMap.foldl (fun d e =>
    (d.setMkt { d.mkt with taken := if d.mkt.taken.contains (1024 + e.1) then d.mkt.taken else d.mkt.taken ++ [1024 + e.1] }).setBank e.2
      { phys := 1024 + e.1, state := bkREPLACED }) d
  let d := d.wr F.mktSpareFree_count (64 - d.mkt.taken.length)
  let d := d.setMkt { d.mkt with closed := r.groups }
  let d := r.groups.foldl (fun d g => (range' (16 * g) 16).foldl (fun d b => d.setBank b { d.bank b with state := bkCLOSED }) d) d
  let d := r.lanes.foldl (fun d l =>
    let bit := 2 ^ (l % 4)
    let d := d.wr (F.fabPortState_retired (l / 4)) (d.rd (F.fabPortState_retired (l / 4)) ||| bit)
    d.wr (F.fabPortState_failed (l / 4)) (d.rd (F.fabPortState_failed (l / 4)) ||| bit)) d
  let d := r.tsLat.zipIdx.foldl (fun d e => d.setReg (F.fabTsLat_tx e.2).addr e.1) d
  d.setSix { d.six with repaired := r.sixRows }

/-- Lanes that are FAILED and not retired are tried again at a start (R294). -/
def Dev.freshLanes (d : Dev) : Dev :=
  (List.range 24).foldl (fun d p => d.wr (F.fabPortState_failed p) (d.rd (F.fabPortState_retired p))) d

/-! ### D4 -/

/-- Everything but the flash, the wake token, the device's identity and the always-on domain is as after reset (R404). -/
def Dev.wipe (d : Dev) : Dev :=
  let x := d.sec
  let kept : SecState := { ring := x.ring, recA := x.recA, recB := x.recB, aonSeq := x.aonSeq, owed := x.owed, held := x.held, slot0 := x.slot0,
                           slot1 := x.slot1, passed := x.passed, bothFail := x.bothFail }
  let d0 : Dev := { now := d.now, deviceId := d.deviceId, free := d.free, out := d.out, sec := kept, pwr := d.pwr,
                    hlt := { d3Starts := d.hlt.d3Starts } }
  let d0 := ((d0.wr (F.fabWakeToken 0) (d.rd (F.fabWakeToken 0))).wr (F.fabWakeToken 1) (d.rd (F.fabWakeToken 1)))
  let d0 := (d0.wr F.pwrLastOff_cause (d.rd F.pwrLastOff_cause)).wr F.hltWarmCnt_count (d.rd F.hltWarmCnt_count)
  d0.wr F.secState_prefSlot (d.rd F.secState_prefSlot)

/-! ### Stacks (R214) and OUT_OF_SERVICE (R403) -/

/-- A stack is retired: TIR_T1_AVAIL falls; copies in it other than committed ones are POISONED; committed objects in it wait for the
neighbour's image, and their job's step fails. -/
def Dev.retireStack (d : Dev) (k : Nat) : Dev :=
  if d.tir.retired.contains k then d
  else
    let d := d.setTir { d.tir with retired := d.tir.retired ++ [k] }
    let d := ((d.wr F.tirT1Avail_avail d.t1Avail).wr (F.hbmState_state k) 2).setHealth .hbm k 3
    let hit := d.tir.objs.flatMap (fun e => ((e.2.units.filter (fun y => y.2.t1 != tsABSENT
      && (e.2.extA ++ e.2.extB).any (fun x => x / 65536 == k))).map (fun y => (e.1, y.1))))
    (hit.foldl (fun d y => d.poisonUnit y.1 y.2 1) d).recordRetirement

/-- The device goes out of service with a reason. -/
def Dev.outOfService (d : Dev) (reason : Nat) : Dev :=
  if d.rd F.hltState_state = 1 then d
  else
    let d := if d.enrolled ∧ !d.isKeeper then d.sendCtrl d.keeper colQueue ([0x23, 0] ++ leBytes 6 0 ++ leBytes 8 d.deviceId) else d
    let d := (d.upPorts).foldl Dev.stopPort d
    let d := (List.range 24).foldl (fun d p => d.setPortSt p psDISABLED 0 0) d
    let d := [0, 1].foldl (fun d l => if l = 0 ∨ d.flag F.hifLinkCfg_hostSplit then d.emit .aer l [0, reason] else d) d
    let d := (d.wr F.hltState_state 1).wr F.hltState_oosReason reason
    let d := d.raise hltPage 9 St.outOfService
    d.dumpTrigger St.outOfService 0

end Sys2Proof.Machine
end

