-- ==== Sys2Proof/Machine/BootOps.lean ====
section
/-! DEFINITION. Starts: the boot record, a stage's begin and end, alternatives, failures, MAINTENANCE and ROM recovery
(19_boot_and_trust.md R413 to R420, R426). -/

namespace Sys2Proof.Machine

def sprPage1 : Page := pfPage .spr 0 1

/-! ### The boot record (R418) -/

/-- The entry of the present start. -/
def Dev.bootEntry (d : Dev) : BootEntry :=
  d.sec.ring.head?.getD { bootNo := 0, tStart := 0, consec := 0, kind := 0, stages := [] }

/-- A stage's entry in it. -/
def Dev.stageEntry (d : Dev) (k : Nat) : BootStage := nthD d.bootEntry.stages k {}

/-- SEC_BREC shows the selected 32 bytes of the newest entry. -/
def BootEntry.head32 (e : BootEntry) : List Byte :=
  leBytes 4 0x31524257 ++ leBytes 4 e.bootNo ++ leBytes 8 e.tStart ++ leBytes 1 e.consec ++ leBytes 1 e.last ++ leBytes 1 e.kind
    ++ leBytes 1 e.slot ++ leBytes 12 0

def BootStage.bytes (s : BootStage) : List Byte :=
  leBytes 2 s.attempts ++ leBytes 2 s.result ++ leBytes 1 s.alt ++ leBytes 3 0 ++ leBytes 4 s.unit ++ leBytes 8 s.stamp ++ leBytes 4 s.duration
    ++ leBytes 8 0

def Dev.showBrec (d : Dev) : Dev :=
  match d.sec.ring.head? with
  | none => d
  | some e =>
    let n := d.rd F.secBrecSel_stage
    let b := if n = 15 then e.head32 else if n ≤ 12 then (nthD e.stages n {}).bytes else []
    (List.range 8).foldl (fun d j => d.wr (F.secBrec j) (leAt b (4 * j) 4)) d

/-- Rewrite the newest entry; SEC_BOOT follows it. -/
def Dev.updEntry (d : Dev) (f : BootEntry → BootEntry) : Dev :=
  match d.sec.ring with
  | [] => d
  | e :: rest =>
    let e := f e
    let d := d.setSec { d.sec with ring := e :: rest }
    (((d.wr F.secBoot_stage e.last).wr F.secBoot_consecFail e.consec).wr F.secBoot_kind e.kind).showBrec

def Dev.updStage (d : Dev) (k : Nat) (f : BootStage → BootStage) : Dev :=
  d.updEntry (fun e => { e with stages := setNth e.stages k (f (nthD e.stages k {})) })

/-! ### Bounds (table Boot stages) -/

/-- A warm start. -/
def Dev.warm (d : Dev) : Bool := d.bootEntry.kind == 1

/-- The bound of a stage in qns; S5 has 2 s for a stack with stored training values (table, S5). -/
def Dev.stageBound (d : Dev) (k : Nat) : Nat :=
  if k = 5 ∧ d.sec.alt = 1 then 2 * secQ
  else
    let w := d.warm
    (match k with
     | 0 => 50 | 1 => 300 | 2 => 200 | 3 => if w then 50 else 100 | 4 => 500 | 5 => if w then 200 else 20000 | 6 => 500 | 7 => 300
     | 8 => 200 | 9 => 1000 | 10 => if w then 300 else 1000 | _ => d.rd F.ldgCfg_takeover + 100) * msQ

/-! ### Units named by a stage: a PG_IDENT; a bank group has the MKT identity with the group as INSTANCE (log entry 51) -/

def unitOfIdent (id : Nat) : Nat := id / 0x10000 % 256
def typeOfIdent (id : Nat) : Nat := id % 0x10000

/-- A unit starts closed: one closure counts (R416). -/
def Dev.startClosed (d : Dev) (id : Nat) : Dev :=
  if typeOfIdent id = 0x0B00 then d.closeUnit 0 (unitOfIdent id) St.ok
  else if typeOfIdent id / 256 = 0x0D then d.closeUnit (typeOfIdent id % 256) (unitOfIdent id) St.ok
  else d

def Dev.retireNamed (d : Dev) (id : Nat) : Dev :=
  if typeOfIdent id = 0x0B00 then d.retireUnit 0 (unitOfIdent id)
  else if typeOfIdent id / 256 = 0x0D then d.retireUnit (typeOfIdent id % 256) (unitOfIdent id)
  else d

/-- Every job of the device is SUPERSEDED (S11). -/
def Dev.supersedeAll (d : Dev) : Dev :=
  (List.range 8).foldl (fun d j => if d.jobKnown j then (d.setJob j { d.job j with recovering := false }).supersede j else d) d

/-- A stage's alternative for the unit it named, or with `retire` its third consecutive failure (table Boot stages). -/
def Dev.takeAlt (d : Dev) (k id : Nat) (retire : Bool) : Dev :=
  match k with
  | 2 => if retire then d.retireNamed id else d.startClosed id
  | 3 =>
    let top (l : Nat) : Nat := if retire then 1 else max 1 (mapGet 3 d.hif.lastRate l - 1)
    d.setHif { d.hif with maxRate := [(0, top 0), (1, top 1)] }
  | 4 => d.closeGroup (unitOfIdent id)
  | 5 => if retire then d.retireStack (unitOfIdent id) else d
  | 6 => if retire then d.retireNamed id else d.startClosed id
  | 7 => if retire then d.retireNamed id else d.startClosed id
  | 8 =>
    let p := unitOfIdent id
    if retire then
      let f := d.rd (F.fabPortState_failed p)
      let d := (d.wr (F.fabPortState_retired p) (d.rd (F.fabPortState_retired p) ||| f)).setPortSt p psDOWN 0 0
      (d.setPort p { d.port p with cap := 0 }).recordRetirement
    else d.setPort p { d.port p with cap := 2 }
  | 9 => d.wr F.timState_state 0
  | 11 => d.supersedeAll
  | _ => d

/-- Ledger recovery at the begin of S11 of a warm start (R288). -/
def Dev.recoverJobs (d : Dev) : Dev :=
  ((List.range 8).foldl (fun d j =>
    match d.newest j with
    | some r =>
      if r.state = stOPEN ∨ r.state = stSEALED then d.abortAttempt j St.stepAborted 0xFFFF d.now else d
    | none => d) d).askDecisions

/-- An alternative or a retirement takes effect and its code is written. -/
def Dev.chooseAlt (d : Dev) (k alt : Nat) : Dev :=
  let id := (d.stageEntry k).unit
  let d := d.setSec { d.sec with alt := alt, altOp := 0, altFrom := 0, stageFrom := d.now }
  let d := d.updStage k (fun s => { s with alt := alt })
  if alt = 0 then d else d.takeAlt k id (alt == 2)

/-- A stage begins. -/
def Dev.beginStage (d : Dev) (k : Nat) : Dev :=
  let d := d.setSec { d.sec with stage := k, stageFrom := d.now, alt := 0, altOp := 0, altFrom := 0, running := true }
  let d := d.updEntry (fun e => { e with last := k })
  let d := if k = 9 ∧ d.rd F.timCfg_role ≠ 0 then d.wr F.timState_state 1 else d
  let d := if k = 11 ∧ d.warm then d.recoverJobs else d
  let n := (d.stageEntry k).attempts
  if n = 0 ∨ k = 0 ∨ k = 10 then d
  else if 3 ≤ n then d.chooseAlt k 2
  else if d.flag F.sprBootMode_alt ∧ 4 ≤ k then
    let d := (d.wr F.sprBaltStage_stage k).wr F.sprBaltUnit_unit (d.stageEntry k).unit
    let r := (d.sixAlloc 7 ownDevice 0 0 0 0xFF).getD (0xFFFFFFFF, d)
    let d := (r.2.wr F.sprBaltOp_op r.1).setSec { r.2.sec with altOp := r.1, altFrom := d.now + 1 }
    (d.setFlag (hAssistWait sprPage1) true).raiseBits sprPage1 [0, 30] St.ok
  else d.chooseAlt k 1

/-- Both links go down; each host sees a surprise down. -/
def Dev.linksDown (d : Dev) : Dev :=
  let keep := [(0, d.rd F.hifLinkA_rate), (1, d.rd F.hifLinkB_rate)].map (fun (e : Nat × Nat) =>
    (e.1, if e.2 = 0 then mapGet 3 d.hif.lastRate e.1 else e.2))
  let d := d.setHif { d.hif with ready := false, lastRate := keep }
  let d := ((d.wr F.hifLinkA_rate 0).wr F.hifLinkA_width 0).wr F.hifLinkA_flit 0
  ((d.wr F.hifLinkB_rate 0).wr F.hifLinkB_width 0).wr F.hifLinkB_flit 0

/-- The ROM goes into recovery (R420). -/
def Dev.romRecovery (d : Dev) : Dev :=
  let d := d.setSec { d.sec with running := false, restartAt := 0 }
  let d := d.updEntry (fun e => { e with kind := 3 })
  (d.wr F.secState_state ssRECOVERY).setHif { d.hif with ready := true, maxRate := [(0, 1), (1, 0)] }

/-- A start begins at S0 (R413 to R418): `kind` 0 cold, 1 warm. Six failed starts in a row make it MAINTENANCE (R417). -/
def Dev.bootStart (d : Dev) (kind : Nat) : Dev :=
  let old := d.sec.ring.head?
  let consec : Nat := (old.map (fun (e : BootEntry) => e.consec)).getD 0
  let prev : List BootStage := (old.map (fun (e : BootEntry) => e.stages)).getD []
  let kind := if 6 ≤ consec then 2 else kind
  let e : BootEntry := { bootNo := (old.map (fun (e : BootEntry) => e.bootNo)).getD 0 + 1, tStart := d.now, consec := consec, kind := kind,
                         stages := (List.range 13).map (fun k => let s := nthD prev k {}
                           { attempts := s.attempts, unit := s.unit }) }
  let d := d.setSec { d.sec with ring := (e :: d.sec.ring).take 64, due := false, restartAt := 0, spdm := [] }
  let d := d.wr F.secState_state ssBOOTING
  let d := d.setHif { d.hif with maxRate := [] }
  d.beginStage 0

/-! ### Failures (R415) -/

/-- A stage fails, naming a unit. -/
def Dev.stageFail (d : Dev) (id status : Nat) : Dev :=
  let k := d.sec.stage
  let d := d.updStage k (fun s => { s with result := status, attempts := if s.attempts ≠ 0 ∧ s.unit = id then s.attempts + 1 else 1, unit := id,
                                           stamp := d.now, duration := (d.now - d.sec.stageFrom) / usQ })
  let d := d.updEntry (fun e => { e with consec := e.consec + 1 })
  let d := if k = 9 then d.wr F.timState_state 0 else d
  let d := if k = 1 then d.setSec { d.sec with bothFail := d.sec.bothFail + 1 } else d
  let third := (d.stageEntry k).attempts ≥ 3
  let island := k = 2 ∧ typeOfIdent id ≠ 0x0B00 ∧ typeOfIdent id / 256 ≠ 0x0D
  let d := d.setSec { d.sec with running := false, restartAt := d.now + 100 * msQ + 1 }
  if third ∧ island then d.updEntry (fun e => { e with consec := max 6 e.consec }) else d

/-- The ROM's grounds for recovery at a start: no valid record, S1 failed on both slots in two starts in a row, S0 or S1 failed three
times (R420). -/
def Dev.mustRecover (d : Dev) : Bool :=
  let x := d.sec
  let ok (r : ConfigRec) : Bool := r.valid && decide (x.aonSeq ≤ r.seq)
  !(ok x.recA || ok x.recB) || decide (2 ≤ x.bothFail) || decide (3 ≤ (d.stageEntry 0).attempts) || decide (3 ≤ (d.stageEntry 1).attempts)

/-- Restart after a failed stage, in the same kind of start; after S3 both links have gone down. -/
def Dev.bootRestart (d : Dev) : Dev :=
  let kind := d.bootEntry.kind
  let d := if 3 < d.bootEntry.last then d.linksDown else d
  let d := d.bootStart kind
  if d.mustRecover then d.romRecovery else d

/-! ### A stage's work, done when it ends -/

/-- The slot S1 loads: the preferred one, the other as the alternative, in MAINTENANCE the one that last passed (R413, R417). -/
def Dev.slotToLoad (d : Dev) : Nat :=
  let pref := d.rd F.secState_prefSlot
  if d.bootEntry.kind = 2 then d.sec.passed else if d.sec.alt = 1 then 1 - pref else pref

def Dev.slot (d : Dev) (n : Nat) : FwSlot := if n = 0 then d.sec.slot0 else d.sec.slot1

/-- A slot's image passes S1 (R429, R430). -/
def Dev.slotOk (d : Dev) (n : Nat) : Bool := (d.slot n).good && decide (d.sec.current.svn ≤ (d.slot n).svn)

/-- The D3 reset of a warm start is complete at the end of S3 (R413): the warm-reset count decides whether the start goes on (R402). -/
def Dev.d3Complete (d : Dev) : Dev :=
  let starts := d.hlt.d3Starts.filter (fun t => decide (d.now < t + d.rd F.hltWarmCfg_window * secQ))
  let d := d.setHlt { d.hlt with d3Starts := starts }
  let d := d.wr F.hltWarmCnt_count (min 15 starts.length)
  let d := d.setSpr { d.spr with resets := d.spr.resets.filter (fun r => r.dom != 3) }
  let d := d.setHlt { d.hlt with monitors := d.hlt.monitors.map (fun e => if e.2 = 0 then (e.1, d.now + 1) else e) }
  let d := d.raise hltPage 8 St.ok
  let d := if d.hlt.clipOwed then (d.setHlt { d.hlt with clipOwed := false }).raise mktPage 7 St.ok else d
  if d.rd F.hltWarmCfg_limit ≤ starts.length then
    (d.setSec { d.sec with running := false }).outOfService St.outOfService
  else d

/-- S12: the device is READY. -/
def Dev.bootReady (d : Dev) : Dev :=
  let deg := d.bootEntry.stages.any (fun s => s.alt != 0)
  let d := d.setSec { d.sec with running := false, stage := 12 }
  let d := d.updEntry (fun e => { e with last := 12, consec := 0 })
  let d := d.mapSpares
  let d := d.wr F.hltState_state 0
  let d := if d.rd F.pwrState_state = 0 then d else (d.wr F.pwrState_state 0).raise pwrPage 2 St.ok
  d.raiseBits secPage (if deg then [0, 1] else [0]) St.ok

/-- The stage that runs ends well: `bad` names units that failed their own test (physical units, bank numbers at S4), `key` says that
the key-encryption key was reproduced at S10. -/
def Dev.stageWork (d : Dev) (bad : List Nat) (key : Bool) : Dev :=
  match d.sec.stage with
  | 0 => d.applyRecord d.warm
  | 1 =>
    let n := d.slotToLoad
    let d := d.setSec { d.sec with passed := n, bothFail := 0 }
    ((d.wr F.secState_runSlot n).wr F.secRunSvn_runSvn (d.slot n).svn).updEntry (fun e => { e with slot := n })
  | 3 =>
    let d := d.setHif { d.hif with ready := true }
    if d.spr.resets.any (fun r => r.dom == 3) then d.d3Complete else d
  | 4 => bad.foldl (fun d b => d.failBank b 1) d
  | 6 => bad.foldl (fun d p => d.closeUnit 0 p St.checksumMismatch) d
  | 7 => bad.foldl (fun d k => d.closeUnit (k / 256) (k % 256) St.residueError) d
  | 8 => (List.range 24).foldl (fun d p => d.startPort p) d.freshLanes
  | 10 =>
    if key then (d.wr F.secState_state ssFULL).payOwed
    else (d.wr F.secState_state ssLIMITED).raise secPage 2 St.keyUnwrapFail
  | 11 =>
    (List.range 8).foldl (fun d j =>
      if (d.job j).recovering then (d.setJob j { d.job j with recovering := false }).supersede j else d) d
  | _ => d

/-- A stage ends and the next begins; MAINTENANCE stops after S3 (R417). -/
def Dev.stageDone (d : Dev) (bad : List Nat) (key : Bool) : Dev :=
  let k := d.sec.stage
  if k = 1 ∧ !d.slotOk d.slotToLoad then
    let low := (d.slot d.slotToLoad).good
    (d.wr F.secFwStatus_reason (if low then 3 else 1)).stageFail secPage.ident St.sigInvalid
  else
    let alt := d.sec.alt
    let d := d.updStage k (fun s => { s with result := St.ok, stamp := d.now, duration := (d.now - d.sec.stageFrom) / usQ,
                                             attempts := if alt = 0 then 0 else s.attempts })
    let d := d.stageWork bad key
    if !d.sec.running then d
    else if k = 3 ∧ d.bootEntry.kind = 2 then (d.setSec { d.sec with running := false }).wr F.hltState_state 2
    else if k = 11 then d.bootReady
    else d.beginStage (k + 1)

/-! ### Device resets -/

/-- Queues of partitions park nothing: the device takes a D3 reset (R399, R402, R404) and starts warm. -/
def Dev.startD3 (d : Dev) : Dev :=
  if d.rd F.hltState_state = 1 then d
  else
    let d := d.setHlt { d.hlt with d3Starts := d.hlt.d3Starts ++ [d.now] }
    let d := d.loseD3
    let d := d.setPwr { d.pwr with mode := 0, leftAt := 0 }
    let d := d.setSpr { d.spr with resets := [⟨3, 15 * 256, d.now⟩] }
    let d := d.setSec { d.sec with running := false, due := false, restartAt := 0, alt := 0, altOp := 0, altFrom := 0 }
    let d := d.bootStart 1
    if d.mustRecover then d.romRecovery else d

/-- The device takes a D4 reset and starts cold (R400). -/
def Dev.startD4 (d : Dev) : Dev :=
  let d := d.wipe
  let d := d.setPwr { d.pwr with mode := 0, leftAt := 0, hot := false }
  let d := d.bootStart 0
  if d.mustRecover then d.romRecovery else d

end Sys2Proof.Machine
end

