-- ==== Sys2Proof/Machine/EvtOps.lean ====
section
/-! DEFINITION. The Signpost: latching, routes, presentation and the end of service (17_host_link_and_signpost.md R385 to R390). -/

namespace Sys2Proof.Machine

/-- The function that owns a source's page. -/
def sourceFunc (n : Nat) : Nat := if n < 1024 then 0 else (n - 1024) / 128 + 1

/-- Level of a source's summary line. -/
def Dev.sourceLine (d : Dev) (n : Nat) : Bool := (sourcePage n).any d.line

/-- A source's route; VF-view sources accept only the host (R386). -/
def Dev.route (d : Dev) (n : Nat) : Nat := if 1024 ≤ n then 2 else d.rd (F.evtSrc_route n)


/-- The line is sampled: PENDING latches when it is high and the source enabled; an edge of the same cycle adds nothing (R385, R390). -/
def Dev.sampleSource (d : Dev) (n : Nat) : Dev :=
  let d := d.setEvt { d.evt with edges := d.evt.edges.filter (· != n) }
  if d.flag (F.evtSrc_en n) ∧ d.sourceLine n then d.setFlag (F.evtSrc_pending n) true else d

/-- Sources in service that run a handler of a class (R387). -/
def Dev.handlers (d : Dev) (r : Nat) : List Nat := d.evt.service.filter (fun n => d.route n == r)

/-- The running level of compatibility mode: the highest PRIO of any source in service (R388). -/
def Dev.runLevel (d : Dev) : Nat := d.evt.service.foldl (fun a n => max a (d.rd (F.evtSrc_prio n))) 0

/-- EVT_LEVEL follows the sources in service. -/
def Dev.showLevel (d : Dev) : Dev :=
  let compat := d.flag F.evtCfg_mode
  let d := d.wr F.evtLevel_level (if compat then d.runLevel else 0)
  let d := d.setFlag F.evtLevel_normalBusy (!compat && d.handlers 0 != [])
  d.setFlag F.evtLevel_fastBusy (!compat && d.handlers 1 != [])

/-- Threshold of the active pair. -/
def Dev.pairThresh (d : Dev) : Nat :=
  if d.physOf 10 0 = some 1 then d.rd F.evtThresh_thresh1 else d.rd F.evtThresh_thresh0

/-- Sources that wait to be presented to the pair. -/
def Dev.waitingSources (d : Dev) : List Nat :=
  (List.range 1024).filter (fun n => d.flag (F.evtSrc_pending n) && !d.evt.service.contains n && decide (d.route n < 2))

/-- The source the Signpost presents now (R387 native, R388 compatibility). -/
def Dev.nextSource (d : Dev) : Option Nat :=
  let w := d.waitingSources
  if d.flag F.evtCfg_mode then
    let floor := max d.pairThresh d.runLevel
    let ok := w.filter (fun n => decide (floor < d.rd (F.evtSrc_prio n)))
    let top := ok.foldl (fun a n => max a (d.rd (F.evtSrc_prio n))) 0
    ok.find? (fun n => d.rd (F.evtSrc_prio n) == top)
  else if d.handlers 1 ≠ [] then none
  else
    match w.find? (fun n => d.route n == 1) with
    | some n => some n
    | none => if d.handlers 0 = [] then w.find? (fun n => d.route n == 0) else none

/-- A source enters service. -/
def Dev.serveSource (d : Dev) (n : Nat) : Dev :=
  let d := (d.setFlag (F.evtSrc_pending n) false).setFlag (F.evtSrc_inService n) true
  (d.setEvt { d.evt with service := n :: d.evt.service }).showLevel

/-- Service of a source ends and its line is sampled (R390). -/
def Dev.endService (d : Dev) (n : Nat) : Dev :=
  let d := d.setFlag (F.evtSrc_inService n) false
  ((d.setEvt { d.evt with service := d.evt.service.filter (· != n) }).sampleSource n).showLevel

/-- The standby pair takes over: every IN_SERVICE clears and every line is sampled (R387). -/
def Dev.evtTakeover (d : Dev) : Dev :=
  let d := d.evt.service.foldl (fun d n => d.setFlag (F.evtSrc_inService n) false) d
  let d := d.setEvt { d.evt with service := [] }
  ((List.range 2048).foldl (fun d n => if d.flag (F.evtSrc_en n) then d.sampleSource n else d) d).showLevel

/-- Where a function reaches EVT_SRC of a source: the PF in EVT pages 1 to 4, a VF its own sources from view page 1 on (log entry 4). -/
def srcOff (f n : Nat) : Nat :=
  if f = 0 then Block.evt.base + 0x1000 * (1 + n / 512) + 0x80 + 4 * (n % 512)
  else (⟨f, .evt, 0, 1⟩ : Page).offset + 0x80 + 4 * (n % 128)

/-- A write of a source's control word (R385, R386): a route that the source does not accept stays and is
recorded; EN written 1 samples the line. -/
def Dev.writeSource (d : Dev) (f off n : Nat) (v : Word) : Dev :=
  let x := v.toNat
  let r := bitsAt x 1 2
  let vec := if n < 1024 then bitsAt x 8 11 else bitsAt x 8 8
  let en := bitOf x 0
  let d := d.setFlag (F.evtSrc_en n) en
  let d := (d.wr (F.evtSrc_prio n) (bitsAt x 3 4)).wr (F.evtSrc_vector n) vec
  let d := if n < 1024 then d.wr (F.evtSrc_route n) (if r = 3 then 0 else r)
    else if r = 2 then d.wr (F.evtSrc_route n) 2 else d.badAccess f off 3
  let d := if en then d.sampleSource n else d.setEvt { d.evt with edges := d.evt.edges.filter (· != n) }
  d.showLevel

end Sys2Proof.Machine
end

