-- ==== Sys2Proof/Machine/Reset.lean ====
section
/-! DEFINITION. Reset requests, completion and escalation, monitor faults, the rolling self-test, closed units and the management pairs
(02_register_pages.md R40; 18_faults_resets_dumps.md R392 to R405). -/

namespace Sys2Proof.Machine

/-! ### Requests through PG_RESET (R40) -/

/-- The reset domains of an instance, as a unit key. -/
def pageUnit (pg : Page) : Nat :=
  match pg.blk with
  | .ccr => unitKey 0 pg.inst
  | .eng => unitKey (pg.blk.ident pg.inst % 256) pg.inst
  | .hbm => unitKey 11 pg.inst
  | _ => unitKey 12 pg.inst

/-- A reset of domain 0 to 2 of a unit starts: parts on it, or on the stack's Acrek unit, end with a status; a stack's window is let go and
a port's link goes down (R399, R404). -/
def Dev.resetUnit (d : Dev) (dom unit status : Nat) : Dev :=
  let t := unit / 256
  let n := unit % 256
  let d :=
    if t = 11 then
      let d := d.endPartsOn (unitKey 14 n) status
      (d.setAcr { d.acr with window := mapDel d.acr.window n }).setFlag (F.acrState_busy n) false
    else if t = 12 then d.dropLink n psNO_SIGNAL
    else d.endPartsOn unit status
  d.beginReset dom unit

/-- PG_RESET.REQ is written: a VF's write is recorded (R50), a domain that does not apply is ignored. -/
def Dev.requestReset (d : Dev) (f off dom : Nat) : Dev :=
  match d.pageAt f off with
  | none => d.badAccess f off 0
  | some (pg, r) =>
    d.when (r == 0x2C) fun d =>
      if f ≠ 0 then d.badAccess f off 3
      else d.when (bitOf (pageCaps pg).reset dom) fun d => d.resetUnit dom (pageUnit pg) St.unitReset

/-- PG_RESET bit 0: a D0 of the page's unit (02_register_pages.md R40; 18_faults_resets_dumps.md R399). -/
def effectD0Request (f off : Nat) (d : Dev) : Dev := d.requestReset f off 0

/-- D0_REQUEST: its own effect, then what follows at once. -/
def execD0Request (f off : Nat) (s : State) : Host.Outcome State Fault Refusal := s.act (effectD0Request f off)

/-- PG_RESET bit 1: a D1 of the page's unit (02_register_pages.md R40; 18_faults_resets_dumps.md R399). -/
def effectD1Request (f off : Nat) (d : Dev) : Dev := d.requestReset f off 1

/-- D1_REQUEST: its own effect, then what follows at once. -/
def execD1Request (f off : Nat) (s : State) : Host.Outcome State Fault Refusal := s.act (effectD1Request f off)

/-- PG_RESET bit 2: a D2 of the page's unit (02_register_pages.md R40; 18_faults_resets_dumps.md R399). -/
def effectD2Request (f off : Nat) (d : Dev) : Dev := d.requestReset f off 2

/-- D2_REQUEST: its own effect, then what follows at once. -/
def execD2Request (f off : Nat) (s : State) : Host.Outcome State Fault Refusal := s.act (effectD2Request f off)

/-! ### Completion and escalation (R399, R401) -/

/-- Completion bounds of the domains; 4 stands for an island whose power-off is awaited after a D1 (R401). -/
def resetBound : Nat → Nat
  | 0 => 20 * usQ | 1 => 200 * usQ | 2 => 10 * msQ | 3 => 5 * secQ | _ => 200 * usQ

/-- The units that a monitor's reset covers: islands 0 core, 1 Arcade, 3 stack; the others are the device's. -/
def monitorCovers (key unit : Nat) : Bool :=
  match key / 256 with
  | 0 => unit == key
  | 1 => isEngine (unit / 256)
  | 3 => unit == unitKey 11 (key % 256)
  | _ => unit == 15 * 256

/-- Monitors whose reset has ended note when (R392). -/
def Dev.noteMonitors (d : Dev) : Dev :=
  d.setHlt { d.hlt with monitors := d.hlt.monitors.map (fun e =>
    if e.2 = 0 ∧ !(d.spr.resets.any (fun r => monitorCovers e.1 r.unit)) then (e.1, d.now + 1) else e) }

/-- The reset of a unit leaves the list. -/
def Dev.endReset (d : Dev) (unit : Nat) : Dev :=
  let d := d.setSpr { d.spr with resets := d.spr.resets.filter (fun r => r.unit != unit) }
  match d.resetPage unit with
  | some pg => d.setFlag (hInReset pg) false
  | none => d

/-- A unit rejoins service after its reset, or is fenced where its post-reset check failed. -/
def Dev.resetDone (d : Dev) (dom unit : Nat) (pass : Bool) : Dev :=
  let t := unit / 256
  let n := unit % 256
  let d := (d.endReset unit).noteMonitors
  if dom = 4 then d
  else if t = 12 then d.startPort n
  else if pass then d
  else if t ≤ 9 then d.closeUnit t n St.residueError
  else if t = 11 ∨ t = 14 then d.acrLost n
  else d

/-- RESET_COMPLETE (R399): domains 0 to 2, and the power-off of a closed island. A D3 is complete with boot stage S3. -/
def effectResetComplete (dom unit : Nat) (pass : Bool) (d : Dev) : Dev :=
  d.when (dom != 3 && d.spr.resets.any (fun r => r.dom == dom && r.unit == unit)) fun d => d.resetDone dom unit pass

/-- RESET_COMPLETE: its own effect, then what follows at once. -/
def execResetComplete (dom unit : Nat) (pass : Bool) (s : State) : Host.Outcome State Fault Refusal := s.act (effectResetComplete dom unit pass)

/-- ESCALATED in the unit's page, RESET_ESCALATED, a dump (R401). -/
def Dev.noteEscalation (d : Dev) (unit : Nat) : Dev :=
  let pg := d.resetPage unit
  let d := match pg with
    | some pg => d.setFlag (hEscalated pg) true
    | none => d
  let d := d.raise hltPage 1 St.resetEscalated
  d.dumpTrigger St.resetEscalated ((pg.map Page.ident).getD 0)

/-- RESET_ESCALATION (R401): the reset has not completed within its bound. -/
def effectResetEscalation (dom unit : Nat) (d : Dev) : Dev :=
  match d.spr.resets.find? (fun r => r.dom == dom && r.unit == unit) with
  | none => d
  | some r =>
    d.when (decide (r.start + resetBound dom ≤ d.now)) fun d =>
      let t := unit / 256
      match dom with
      | 0 =>
        let d := d.noteEscalation unit
        if t = 14 then (d.endReset unit).resetUnit 2 (unitKey 11 (unit % 256)) St.resetEscalated else d.beginReset 1 unit
      | 1 =>
        let d := d.noteEscalation unit
        let d := d.closeUnit t (unit % 256) St.resetEscalated
        (d.endReset unit).startReset 4 unit
      | 3 => (d.noteEscalation unit).outOfService St.resetEscalated
      | _ => d.startD3.noteEscalation unit

/-- RESET_ESCALATION: its own effect, then what follows at once. -/
def execResetEscalation (dom unit : Nat) (s : State) : Host.Outcome State Fault Refusal := s.act (effectResetEscalation dom unit)

/-! ### Device resets (R400) -/

/-- HLT_RESET_CTRL takes a request only from the PF and with its key. -/
def Dev.resetKeyOk (d : Dev) (f key : Nat) : Bool × Dev :=
  if f = 0 ∧ key = 0xA5 then (true, d) else (false, d.badAccess f 0x30080 3)

/-- HLT_RESET_CTRL.D3: a warm reset of the device (18_faults_resets_dumps.md R400). -/
def effectD3Request (f key : Nat) (d : Dev) : Dev :=
  let r := d.resetKeyOk f key
  r.2.when r.1 fun d => d.startD3

/-- D3_REQUEST: its own effect, then what follows at once. -/
def execD3Request (f key : Nat) (s : State) : Host.Outcome State Fault Refusal := s.act (effectD3Request f key)

/-- The warm-reset count clears; in MAINTENANCE so does CONSEC_FAIL (19_boot_and_trust.md R417). -/
def Dev.clearWarm (d : Dev) : Dev :=
  let d := (d.setHlt { d.hlt with d3Starts := [] }).wr F.hltWarmCnt_count 0
  if d.rd F.hltState_state = 2 then d.updEntry (fun e => { e with consec := 0 }) else d

/-- HLT_RESET_CTRL.D4: a cold reset of the device, with the warm-reset count cleared (18_faults_resets_dumps.md R400, R402). -/
def effectD4Request (f key : Nat) (d : Dev) : Dev :=
  let r := d.resetKeyOk f key
  r.2.when r.1 fun d => (d.clearWarm.wr F.pwrLastOff_cause 3).startD4

/-- D4_REQUEST: its own effect, then what follows at once. -/
def execD4Request (f key : Nat) (s : State) : Host.Outcome State Fault Refusal := s.act (effectD4Request f key)

/-! ### Monitors (R392) -/

/-- A monitor fires: one that recurs within a second after the reset it caused takes the device out of service, otherwise `f` resets. -/
def Dev.monitorFault (d : Dev) (key : Nat) (f : Dev → Dev) : Dev :=
  let again := d.hlt.monitors.any (fun e => e.1 == key && e.2 != 0 && decide (d.now < e.2 - 1 + secQ))
  let d := if again then d.outOfService St.outOfService
    else
      let d := d.setHlt { d.hlt with monitors := mapPut d.hlt.monitors key 0 }
      f d
  d.raise hltPage 10 St.ok

/-- The status a part ends with when its island's clock fails is not stated: a free value that is not OK (log entry 52). -/
def Dev.monitorStatus (d : Dev) : Nat × Dev :=
  let r := d.drawIndex
  (1 + Config.freeNat r.1 % 65535, r.2)

/-- CLOCK_FAULT (R392): islands are 0 core `n`, 1 Arcade, 2 Market and Ring Road, 3 the controller of stack `n`, 4 fabric, 5 management. -/
def effectClockFault (island n : Nat) (d : Dev) : Dev :=
  let r := d.monitorStatus
  r.2.monitorFault (island * 256 + (if island = 0 ∨ island = 3 then n else 0)) fun d =>
    match island with
    | 0 => d.resetUnit 1 (unitKey 0 n) r.1
    | 1 => (List.range 54).foldl (fun d sl => d.resetUnit 1 (unitKey (Block.eng.ident sl % 256) sl) r.1) d
    | 3 => d.resetUnit 2 (unitKey 11 n) r.1
    | _ => d.startD3

/-- CLOCK_FAULT: its own effect, then what follows at once. -/
def execClockFault (island n : Nat) (s : State) : Host.Outcome State Fault Refusal := s.act (effectClockFault island n)

/-- SUPPLY_FAULT (R392): a rail is outside its window. -/
def effectSupplyFault (d : Dev) : Dev := d.monitorFault (6 * 256) Dev.startD3

/-- SUPPLY_FAULT: its own effect, then what follows at once. -/
def execSupplyFault (s : State) : Host.Outcome State Fault Refusal := s.act (effectSupplyFault)

/-! ### The rolling self-test (R393 to R395) -/

/-- The units of a round: rounds of the three kinds alternate; each of the 27 tests its share in ascending physical number. -/
def roundUnits (n : Nat) : List (Nat × Nat) :=
  let k := n / 3
  match n % 3 with
  | 0 => (range' (8 * k) 8).map (fun p => (0, p))
  | 1 =>
    let slots (t : Nat) : List (Nat × Nat) :=
      if k < unitActive t + unitReserve t then [(t, unitBase t + k)] else []
    [(1, 2 * k), (1, 2 * k + 1)] ++ [2, 3, 4, 5, 6, 7].flatMap slots
  | _ => [(8, 2 * k), (8, 2 * k + 1), (9, 2 * k), (9, 2 * k + 1)]

/-- SELF_TEST_ROUND: every ROUND seconds, while EN is 1, the next round starts on its units; closed and retired ones are passed over. -/
def effectSelfTestRound (d : Dev) : Dev :=
  d.when (d.flag F.hltStCfg_en && decide (d.hlt.roundAt + d.rd F.hltStCfg_round * secQ ≤ d.now)) fun d =>
    let n := d.hlt.nextRound
    let d := if n = 0 ∧ d.hlt.begun then (d.inc F.hltStState_cycles 1).wr64 (F.hltStLast 0) (F.hltStLast 1) d.now else d
    let d := d.wr F.hltStState_roundNo n
    let fresh := (roundUnits n).filter (fun x =>
      decide ((d.physUnit x.1 x.2).role < 2) && !(d.hlt.testing.any (fun y => y.is x.1 x.2)))
    d.setHlt { d.hlt with roundAt := d.now, nextRound := (n + 1) % 27, begun := true,
                          testing := d.hlt.testing ++ fresh.map (fun x => { utype := x.1, phys := x.2 }) }

/-- SELF_TEST_ROUND: its own effect, then what follows at once. -/
def execSelfTestRound (s : State) : Host.Outcome State Fault Refusal := s.act (effectSelfTestRound)

/-- The test has run its length: in one piece, or in slices of 50 µs. -/
def Testing.ran (x : Testing) (now : Nat) : Bool :=
  x.start != 0 && (if x.inPlace then decide (testQns x.utype ≤ x.slices * (50 * usQ)) else decide (x.start - 1 + testQns x.utype ≤ now))

/-- SELF_TEST_END: at the next boundary after the test (no part runs on the unit that stands in) the identity returns; a unit that fails
is then closed. -/
def effectSelfTestEnd (t p : Nat) (pass : Bool) (d : Dev) : Dev :=
  match d.hlt.testing.find? (fun x => x.is t p) with
  | none => d
  | some x =>
    let standIn := if x.logical = 0 then some p else d.physOf t (x.logical - 1)
    d.when (x.ran d.now && (standIn.map (fun r => d.unitIdle t r)).getD true) fun d =>
      let d := d.endTest x
      if pass then d
      else ((d.incSat F.hltStState_fails 1).raise hltPage 5 St.ok).closeUnit t p St.ok

/-- SELF_TEST_END: its own effect, then what follows at once. -/
def execSelfTestEnd (t p : Nat) (pass : Bool) (s : State) : Host.Outcome State Fault Refusal := s.act (effectSelfTestEnd t p pass)

/-- SELF_TEST_SLICE: a slice of an in-place test, at a boundary at which no part waits, or when a millisecond has passed since the last. -/
def effectSelfTestSlice (t p : Nat) (d : Dev) : Dev :=
  match d.hlt.testing.find? (fun x => x.is t p) with
  | none => d
  | some x =>
    d.when (x.inPlace && !x.ran d.now && (d.unitIdle t p || decide (x.sliceAt + msQ ≤ d.now))) fun d =>
      d.putTesting { x with slices := x.slices + 1, sliceAt := d.now }

/-- SELF_TEST_SLICE: its own effect, then what follows at once. -/
def execSelfTestSlice (t p : Nat) (s : State) : Host.Outcome State Fault Refusal := s.act (effectSelfTestSlice t p)

/-! ### Closed units (R397, R398) -/

/-- CLOSED_UNIT_RETEST: one second after its closure a unit gets a D1 reset and its full self-test. -/
def effectClosedUnitRetest (t p : Nat) (d : Dev) : Dev :=
  let u := d.physUnit t p
  d.when (decide (t ≤ 10) && u.role == 3 && u.full == 0 && decide (u.testFrom + secQ ≤ d.now)) fun d =>
    let d := if t ≤ 7 then d.beginReset 1 (unitKey t p) else d
    d.setPhys t p { u with full := d.now + 1 }

/-- CLOSED_UNIT_RETEST: its own effect, then what follows at once. -/
def execClosedUnitRetest (t p : Nat) (s : State) : Host.Outcome State Fault Refusal := s.act (effectClosedUnitRetest t p)

/-- FULL_SELF_TEST_END: the unit joins the reserve pool, or is retired. -/
def effectFullSelfTestEnd (t p : Nat) (pass : Bool) (d : Dev) : Dev :=
  let u := d.physUnit t p
  d.when (u.role == 3 && u.full != 0 && decide (u.full - 1 + testQns t ≤ d.now)) fun d =>
    let d := (d.setPhys t p { u with full := 0 }).endReset (unitKey t p)
    if pass then d.joinReserve t p (t == 0 && d.coreRepaired p) else d.retireUnit t p

/-- FULL_SELF_TEST_END: its own effect, then what follows at once. -/
def execFullSelfTestEnd (t p : Nat) (pass : Bool) (s : State) : Host.Outcome State Fault Refusal := s.act (effectFullSelfTestEnd t p pass)

/-! ### Management pairs (R405) -/

/-- The failed pair is closed; its third closure within 24 h retires it. -/
def Dev.closePair (d : Dev) (p : Nat) : Dev :=
  let u := d.physUnit 10 p
  let cl := (u.closures.filter (fun c => decide (d.now < c + dayQ))) ++ [d.now]
  let d := d.setPhys 10 p { u with role := 3, closures := cl, testFrom := d.now, full := 0 }
  if 3 ≤ cl.length then d.retireUnit 10 p else d

/-- LOCKSTEP: the standby pair resumes from the journal; without one the device goes out of service. -/
def effectLockstep (d : Dev) : Dev :=
  match d.reserves 10, d.physOf 10 0 with
  | r :: _, some p =>
    let d := d.closePair p
    let d := d.takeIdentity 10 0 r
    let d := d.evtTakeover
    let d := d.raise hltPage 4 St.lockstep
    d.dumpTrigger St.lockstep hltPage.ident
  | _, _ => d.outOfService St.lockstep

/-- LOCKSTEP: its own effect, then what follows at once. -/
def execLockstep (s : State) : Host.Outcome State Fault Refusal := s.act (effectLockstep)

end Sys2Proof.Machine
end

