-- ==== Sys2Proof/Machine/Power.lean ====
section
/-! DEFINITION. Power: the cap and the governor, temperature, power states, wake, supplies and the sideband
(20_time_power_module.md R441 to R449; 13_fabric_ports.md R307). -/

namespace Sys2Proof.Machine

/-! ### The cap and the governor (R441) -/

/-- PWR_CAP takes a value of 40 to 72 in 10 W units; any other reads back as 72. -/
def Dev.setCap (d : Dev) (v : Nat) : Dev := d.wr F.pwrCap_cap (if 40 ≤ v ∧ v ≤ 72 then v else 72)

/-- CAP_WRITE: a BAR0 write of PWR_CAP; PWR has no VF view. -/
def effectCapWrite (f : Nat) (v : Word) (d : Dev) : Dev :=
  if f ≠ 0 ∨ d.fewPages then d.badAccess f 0x8080 0 else d.setCap (bitsAt v.toNat 0 7)

/-- CAP_WRITE: its own effect, then what follows at once. -/
def execCapWrite (f : Nat) (v : Word) (s : State) : Host.Outcome State Fault Refusal := s.act (effectCapWrite f v)

/-- The effective cap in W: the lower of PWR_CAP and the thermal cap. -/
def Dev.effCap (d : Dev) : Nat := 10 * min (d.rd F.pwrCap_cap) (d.rd F.pwrTemp_thermalCap)

/-- LIMITED reads 1 while either stage holds the module; CAP_LIMITED is set each time it rises. -/
def Dev.showLimited (d : Dev) : Dev :=
  let now := decide (d.rd F.pwrState_duty < 64) || d.rd F.pwrState_issue != 0
  let was := d.flag F.pwrState_limited
  let d := d.setFlag F.pwrState_limited now
  if now && !was then d.raise pwrPage 0 St.ok else d

/-- GOVERNOR_ADJUST: one step of the governor on the 1 ms input power: duty falls in 1/64, then the issue rate in 1/16; below the cap
less 10 W they rise again, the issue rate first (log entry 54). -/
def effectGovernorAdjust (power : Nat) (d : Dev) : Dev :=
  let d := d.wr F.pwrState_power (min power 1023)
  let duty := d.rd F.pwrState_duty
  let issue := d.rd F.pwrState_issue
  let d :=
    if d.effCap < power then
      if duty ≠ 0 then d.wr F.pwrState_duty (duty - 1)
      else d.wr F.pwrState_issue (if issue = 0 then 15 else max 1 (issue - 1))
    else if power + 10 < d.effCap then
      if issue ≠ 0 then d.wr F.pwrState_issue (if issue = 15 then 0 else issue + 1)
      else d.wr F.pwrState_duty (min 64 (duty + 1))
    else d
  d.showLimited

/-- GOVERNOR_ADJUST: its own effect, then what follows at once. -/
def execGovernorAdjust (power : Nat) (s : State) : Host.Outcome State Fault Refusal := s.act (effectGovernorAdjust power)

/-! ### Power-down (R442, R447) -/

/-- Every rail but the always-on domain's goes off, for a cause. -/
def Dev.powerOff (d : Dev) (cause : Nat) : Dev :=
  let d := (d.wr F.pwrLastOff_cause cause).wipe
  let d := d.setSec { d.sec with due := false }
  d.setPwr { d.pwr with mode := 5, good := false, leftAt := 0, wake := false, hot := false, perstA := false }

/-! ### Temperature (R442) -/

/-- Highest reading and the lowest sensor that holds it. -/
def hottest (temps : List Nat) : Nat × Nat :=
  let m := temps.foldl max 0
  (m, (temps.findIdx? (· == m)).getD 0)

/-- TEMP_SAMPLE: every 250 µs; above 95 °C the thermal cap starts to fall, at 110 °C the module shuts down. -/
def effectTempSample (temps : List Nat) (d : Dev) : Dev :=
  d.when (d.pwr.good && temps.length == 32 && decide (d.pwr.sampledAt + 250 * usQ ≤ d.now)) fun d =>
    let h := hottest temps
    let d := (d.setPwr { d.pwr with sampledAt := d.now }).wr F.pwrTemp_max (min h.1 255)
    let d := d.wr F.pwrTemp_sensor h.2
    if 110 ≤ h.1 then
      let d := d.powerOff 1
      d.setPwr { d.pwr with latched := true }
    else if 95 < h.1 ∧ !d.pwr.hot then (d.setPwr { d.pwr with hot := true, thermAt := d.now }).raise pwrPage 1 St.ok
    else if h.1 ≤ 93 ∧ d.pwr.hot then d.setPwr { d.pwr with hot := false, thermAt := d.now }
    else d

/-- TEMP_SAMPLE: its own effect, then what follows at once. -/
def execTempSample (temps : List Nat) (s : State) : Host.Outcome State Fault Refusal := s.act (effectTempSample temps)

/-- THERMAL_CAP_STEP: every 10 ms the thermal cap falls by 10 W, to 300 W at least, or rises by 10 W. -/
def effectThermalCapStep (d : Dev) : Dev :=
  let c := d.rd F.pwrTemp_thermalCap
  d.when (decide (d.pwr.thermAt + 10 * msQ ≤ d.now)) fun d =>
    (d.setPwr { d.pwr with thermAt := d.now }).wr F.pwrTemp_thermalCap (if d.pwr.hot then max 30 (c - 1) else min 72 (c + 1))

/-- THERMAL_CAP_STEP: its own effect, then what follows at once. -/
def execThermalCapStep (s : State) : Host.Outcome State Fault Refusal := s.act (effectThermalCapStep)

/-! ### Power states (R444, R445) -/

/-- IDLE_ENTRY: nothing has run for 100 µs. -/
def effectIdleEntry (d : Dev) : Dev :=
  d.when (d.pwr.mode == 0 && decide (d.pwr.quietFrom ≠ 0 ∧ d.pwr.quietFrom - 1 + 100 * usQ ≤ d.now)) fun d =>
    (d.setPwr { d.pwr with mode := 1 }).wr F.pwrState_state 1

/-- IDLE_ENTRY: its own effect, then what follows at once. -/
def execIdleEntry (s : State) : Host.Outcome State Fault Refusal := s.act (effectIdleEntry)

/-- A request for STANDBY (1) or DORMANT (2): in service, with its key, none in progress and no wake under way; the device begins to leave
its roster. -/
def Dev.requestLow (d : Dev) (f key target : Nat) : Dev :=
  if f ≠ 0 ∨ d.fewPages then d.badAccess f 0x8084 0
  else
    d.when (d.rd F.hltState_state == 0 && key == 0xA5 && decide (d.pwr.mode ≤ 1) && !d.pwr.wake) fun d =>
      let d := (d.setPwr { d.pwr with mode := 2, target := target, leftAt := 0 }).wr F.pwrState_state 2
      let d := d.raise pwrPage 2 St.ok
      if d.enrolled then d.setCol { d.col with leaving := true } else d

/-- PWR_CTRL.REQ = 1 (20_time_power_module.md R444, R445). -/
def effectStandbyRequest (f key : Nat) (d : Dev) : Dev := d.requestLow f key 1

/-- STANDBY_REQUEST: its own effect, then what follows at once. -/
def execStandbyRequest (f key : Nat) (s : State) : Host.Outcome State Fault Refusal := s.act (effectStandbyRequest f key)

/-- PWR_CTRL.REQ = 2 (20_time_power_module.md R444, R445). -/
def effectDormantRequest (f key : Nat) (d : Dev) : Dev := d.requestLow f key 2

/-- DORMANT_REQUEST: its own effect, then what follows at once. -/
def execDormantRequest (f key : Nat) (s : State) : Host.Outcome State Fault Refusal := s.act (effectDormantRequest f key)

/-- The roster has been left, or keeps the device as SLEEPING, and every frame is on the wire. -/
def Dev.leaveOver (d : Dev) : Bool :=
  ((d.rec? d.deviceId).map (fun r => r.state == rsSLEEPING)).getD true && (List.range 24).all (fun p => (d.port p).txq.isEmpty)

/-- The state is entered: the links are down; STANDBY keeps HBM, DORMANT only the always-on domain. -/
def Dev.enterLow (d : Dev) : Dev :=
  let port := d.rd F.fabWakeCfg_port
  let d := d.linksDown
  let d := if d.pwr.target = 1 then d.loseD3 else d.wipe
  let d := d.setSec { d.sec with due := false, running := false }
  (d.setPwr { d.pwr with mode := if d.pwr.target = 1 then 3 else 4, leftAt := 0, wakePort := port, hot := false }).wr F.pwrState_state 2

/-- What time does while a request is in progress (R445): the leave ends, queues are disabled, and once their commands have completed, or
1 s after the leave, the state is entered. -/
def Dev.lowPower (d : Dev) : Dev :=
  if d.pwr.mode ≠ 2 then d
  else
    let d := if d.pwr.leftAt = 0 ∧ d.leaveOver then
        (List.range 256).foldl (fun d q => d.disableQueue q false) (d.setPwr { d.pwr with leftAt := d.now + 1 })
      else d
    if d.pwr.leftAt ≠ 0 ∧ (d.kqp.queues.all (fun x => x.2.exec.isEmpty) ∨ d.pwr.leftAt - 1 + secQ ≤ d.now) then d.enterLow else d

/-- One qns passes with no command waiting (log entry 2). -/
def Dev.tick (d : Dev) : Dev := (d.setNow (d.now + 1)).lowPower

/-! ### Wake (R446, R307) -/

/-- A wake: WAKE# is asserted; the start is warm from STANDBY and cold from DORMANT. -/
def Dev.wakeUp (d : Dev) : Dev :=
  if d.pwr.mode ≠ 3 ∧ d.pwr.mode ≠ 4 then d
  else
    let kind := if d.pwr.mode = 3 then 1 else 0
    let d := (d.setPwr { d.pwr with mode := 0, wake := true }).emit .wake 0 [1]
    let d := d.bootStart kind
    if d.mustRecover then d.romRecovery else d

/-- The wake token as the eight bytes of its two registers. -/
def Dev.wakeToken (d : Dev) : List Byte := leBytes 4 (d.rd (F.fabWakeToken 0)) ++ leBytes 4 (d.rd (F.fabWakeToken 1))

/-- WAKE_FRAME: the wake port's detector sees a frame with `tags` 802.1Q tags, EtherType `etype` and the eight bytes `token`. -/
def effectWakeFrame (p : Nat) (fr : RxFrame) (tags etype : Nat) (token : List Byte) (d : Dev) : Dev :=
  let x := d.port p
  let low := d.pwr.mode == 3 || d.pwr.mode == 4
  d.when (low && p == d.pwr.wakePort && fr.fcsOk && decide (64 ≤ fr.len) && fr.dest == d.baseMac && decide (tags ≤ 1) && etype == 0x0842
      && decide (x.wakeLock ≤ d.now)) fun d =>
    let tok := d.wakeToken
    if token = tok then (if tok.all (fun b => b == 0) then d else d.wakeUp)
    else
      let rej := x.wakeRej.filter (fun t => decide (d.now < t + secQ)) ++ [d.now]
      let d := d.setPort p { x with wakeRej := rej, wakeLock := if 16 ≤ rej.length then d.now + 10 * secQ else x.wakeLock }
      (d.incSat F.fabWakeRej 1).raise (fabPage p) 7 St.ok

/-- WAKE_FRAME: its own effect, then what follows at once. -/
def execWakeFrame (p : Nat) (fr : RxFrame) (tags etype : Nat) (token : List Byte) (s : State) : Host.Outcome State Fault Refusal := s.act (effectWakeFrame p fr tags etype token)

/-! ### Supplies (R447, R448, R418) -/

/-- PWR_EN_ASSERT: with the standby rail present; the cold start begins with PWR_GOOD (BOOT_START). -/
def effectPwrEnAssert (d : Dev) : Dev :=
  d.when (d.pwr.rail && !d.pwr.en) fun d => (d.setPwr { d.pwr with en := true }).setSec { d.sec with due := true }

/-- PWR_EN_ASSERT: its own effect, then what follows at once. -/
def execPwrEnAssert (s : State) : Host.Outcome State Fault Refusal := s.act (effectPwrEnAssert)

/-- PWR_EN falls: every rail but the always-on domain goes, and a latched shutdown is over (20_time_power_module.md R442, R447). -/
def effectPwrEnDeassert (d : Dev) : Dev :=
  d.when d.pwr.en fun d =>
    let d := if d.pwr.good then d.powerOff 0 else d
    (d.setPwr { d.pwr with en := false, latched := false }).setSec { d.sec with due := false }

/-- PWR_EN_DEASSERT: its own effect, then what follows at once. -/
def execPwrEnDeassert (s : State) : Host.Outcome State Fault Refusal := s.act (effectPwrEnDeassert)

/-- INPUT_LOW: the input has been below 46 V for 5 µs. -/
def effectInputLow (d : Dev) : Dev := d.when d.pwr.good fun d => d.powerOff 2

/-- INPUT_LOW: its own effect, then what follows at once. -/
def execInputLow (s : State) : Host.Outcome State Fault Refusal := s.act (effectInputLow)

/-- STANDBY_RAIL_RISE: the always-on domain has power and SLOT_ID is read. -/
def effectStandbyRailRise (slotId : Nat) (d : Dev) : Dev :=
  d.when (!d.pwr.rail) fun d => d.setPwr { d.pwr with rail := true, slotId := slotId % 8 }

/-- STANDBY_RAIL_RISE: its own effect, then what follows at once. -/
def execStandbyRailRise (slotId : Nat) (s : State) : Host.Outcome State Fault Refusal := s.act (effectStandbyRailRise slotId)

/-- STANDBY_RAIL_LOSS: what the always-on domain keeps is lost: its counter, its SEQ, the wake token, the starts of D3 resets, the cause
of the last power-down and the sideband's endpoint id. -/
def effectStandbyRailLoss (d : Dev) : Dev :=
  d.when d.pwr.rail fun d =>
    let d := if d.pwr.good then d.powerOff 0 else d
    let d := (((d.wr (F.fabWakeToken 0) 0).wr (F.fabWakeToken 1) 0).wr F.pwrLastOff_cause 0).wr F.hltWarmCnt_count 0
    let d := (d.setHlt { d.hlt with d3Starts := [], monitors := [] }).setNow 0
    (d.setSec { d.sec with aonSeq := 0 }).setPwr { d.pwr with rail := false, eid := 0, latched := false }

/-- STANDBY_RAIL_LOSS: its own effect, then what follows at once. -/
def execStandbyRailLoss (s : State) : Host.Outcome State Fault Refusal := s.act (effectStandbyRailLoss)

/-! ### The sideband (R449) -/

/-- The device is ACTIVE or IDLE. -/
def Dev.poweredUp (d : Dev) : Bool := d.pwr.good && decide (d.pwr.mode ≤ 1)

/-- The sensors, numbered in the order of the table Sideband sensors and effecters: their value where available. -/
def Dev.sensor (d : Dev) : Nat → Option (List Nat)
  | 0 => if d.poweredUp then some [d.rd F.pwrState_power] else none
  | 1 => if d.pwr.mode ≠ 5 then some [d.rd F.pwrTemp_max] else none
  | 2 => some [d.rd F.pwrState_state]
  | 3 => if d.poweredUp then some [d.rd (hHealth (pfPage .glb 0 0)), d.rd F.hltState_state] else none
  | _ => none

/-- PLDM_GET_SENSOR: the reading, or that the sensor is unavailable. -/
def effectPldmGetSensor (id : Nat) (d : Dev) : Dev :=
  d.when d.pwr.rail fun d =>
    match d.sensor id with
    | some v => d.emit .pldm id (1 :: v)
    | none => d.emit .pldm id [0]

/-- PLDM_GET_SENSOR: its own effect, then what follows at once. -/
def execPldmGetSensor (id : Nat) (s : State) : Host.Outcome State Fault Refusal := s.act (effectPldmGetSensor id)

/-- PLDM_POWER_CAP: the POWER_CAP effecter, in 10 W units. -/
def effectPldmPowerCap (v : Nat) (d : Dev) : Dev :=
  d.when (d.pwr.rail && d.poweredUp) fun d => d.setCap v

/-- PLDM_POWER_CAP: its own effect, then what follows at once. -/
def execPldmPowerCap (v : Nat) (s : State) : Host.Outcome State Fault Refusal := s.act (effectPldmPowerCap v)

/-- PLDM_WAKE: the WAKE effecter. -/
def effectPldmWake (d : Dev) : Dev := d.when d.pwr.rail fun d => d.wakeUp

/-- PLDM_WAKE: its own effect, then what follows at once. -/
def execPldmWake (s : State) : Host.Outcome State Fault Refusal := s.act (effectPldmWake)

/-- PLDM_RESET_D4: the RESET_D4 effecter, wherever the module has its main supply. -/
def effectPldmResetD4 (d : Dev) : Dev :=
  d.when (d.pwr.rail && decide (d.pwr.mode ≠ 5)) fun d => (d.clearWarm.wr F.pwrLastOff_cause 3).startD4

/-- PLDM_RESET_D4: its own effect, then what follows at once. -/
def execPldmResetD4 (s : State) : Host.Outcome State Fault Refusal := s.act (effectPldmResetD4)

/-- MCTP_SET_ENDPOINT_ID: the null and the broadcast id are not endpoint ids (DSP0236; log entry 55). -/
def effectMctpSetEndpointId (eid : Nat) (d : Dev) : Dev :=
  d.when (d.pwr.rail && decide (0 < eid ∧ eid < 255)) fun d => d.setPwr { d.pwr with eid := eid }

/-- MCTP_SET_ENDPOINT_ID: its own effect, then what follows at once. -/
def execMctpSetEndpointId (eid : Nat) (s : State) : Host.Outcome State Fault Refusal := s.act (effectMctpSetEndpointId eid)

end Sys2Proof.Machine
end

