-- ==== Sys2Proof/Machine/Hif.lean ====
section
/-! DEFINITION. The host links: resets of a link and of a VF, configuration, MSI-X, the BAR2 window
(17_host_link_and_signpost.md R375 to R384; 16_weights_and_partitions.md R371, R374). -/

namespace Sys2Proof.Machine

def hifPage : Page := pfPage .hif 0 0

/-- Two ×8 links (R377). -/
def Dev.split (d : Dev) : Bool := d.flag F.hifLinkCfg_hostSplit

/-- The functions of a link: 0 the PF, 1 to 8 the VFs, 9 PF_B (R377). -/
def Dev.linkFuncs (d : Dev) (l : Nat) : List Nat :=
  if d.split then (if l = 0 then [0, 1, 2, 3, 4] else if l = 1 then [9, 5, 6, 7, 8] else [])
  else if l = 0 then List.range 9 else []

def Dev.linkOf (d : Dev) (f : Nat) : Nat := if d.split ∧ 5 ≤ f then 1 else 0

/-- The link reports no rate. -/
def Dev.linkGone (d : Dev) (l : Nat) : Dev :=
  if l = 0 then ((d.wr F.hifLinkA_rate 0).wr F.hifLinkA_width 0).wr F.hifLinkA_flit 0
  else ((d.wr F.hifLinkB_rate 0).wr F.hifLinkB_width 0).wr F.hifLinkB_flit 0

/-- The configuration of a function is as after reset: MSI-X table and pending bits, BAR2 size, NumVFs, other registers. -/
def Dev.resetConfig (d : Dev) (f : Nat) : Dev :=
  let d := (d.setMsix (d.msix.filter (fun e => e.1 / 65536 != f))).setMsixPend (d.msixPend.filter (fun e => e / 4096 != f))
  d.setHif { d.hif with bar2 := d.hif.bar2.filter (fun e => e.1 != f), config := d.hif.config.filter (fun e => e.1 / 65536 != f),
                        numVfs := if f = 0 then 0 else d.hif.numVfs, numVfsB := if f = 9 then 0 else d.hif.numVfsB }

/-- An event of a function's HIF page; a VF's sets the PF page too (02_register_pages.md R51). -/
def Dev.hifRaise (d : Dev) (f bit : Nat) : Dev :=
  let d := d.raise hifPage bit St.ok
  if f = 0 then d else d.raise { hifPage with func := f } bit St.ok

/-- A saturating counter of a function's HIF page. -/
def Dev.hifCount (d : Dev) (f off : Nat) : Dev := d.incSat (hdrFld { hifPage with func := f } off 0 32) 1

/-! ### Function Level Reset (R374, R60, R44) -/

/-- What FLR does to a VF's partition: queues disabled without records, semaphores cleared, OPEN and SEALED attempts vote ABORT, bindings
end. -/
def Dev.flrPartition (d : Dev) (p : Nat) : Dev :=
  let qs := d.partQueues p
  let d := qs.foldl (fun d q => d.disableQueue q true) d
  let d := d.setKqp { d.kqp with sems := d.kqp.sems.filter (fun e => e.1 / 65536 != p) }
  let d := qs.foldl (fun d q =>
    let x := d.queue q
    let d := x.exec.foldl (fun d e => d.unbind e.binds) d
    if x.exec = [] then d else d.setQueue q { x with exec := x.exec.map (fun (e : CmdEx) => { e with binds := 0 }) }) d
  (List.range 8).foldl (fun d j =>
    if d.rd (F.ldgJobCfg_part j) = p ∧ d.jobKnown j then
      let st := (d.newest j).map (fun r => r.state)
      let d := if st = some stOPEN ∨ st = some stSEALED then d.stepFailure j St.stepAborted 0xFFFF else d
      let d := d.unbind (d.job j).binds
      d.setJob j { d.job j with binds := 0 }
    else d) d

def Dev.flr (d : Dev) (f : Nat) : Dev :=
  let d := match d.ownPart f with
    | some p => d.flrPartition p
    | none => d
  let d := (d.resetConfig f)
  let d := d.setStampHold (d.stampHold.filter (fun e => e.1 / 2 ^ 32 != f))
  d.hifRaise f 4

/-- VF_FLR. -/
def effectVfFlr (f : Nat) (d : Dev) : Dev := d.when (decide (1 ≤ f ∧ f ≤ 8)) fun d => d.flr f

/-- VF_FLR: its own effect, then what follows at once. -/
def execVfFlr (f : Nat) (s : State) : Host.Outcome State Fault Refusal := s.act (effectVfFlr f)

/-! ### Link resets (R378) -/

/-- PERST_ASSERT: in a low-power state link A's is the first half of a wake (R446); otherwise its functions' configuration resets, link A
takes the device through D3, link B disables VFs 5 to 8 as FLR does. -/
def effectPerstAssert (link : Nat) (d : Dev) : Dev :=
  if d.pwr.mode = 3 ∨ d.pwr.mode = 4 then d.when (link == 0) fun d => d.setPwr { d.pwr with perstA := true }
  else
    d.when (d.pwr.rail && d.pwr.good && (link == 0 || (link == 1 && d.split))) fun d =>
      let fs := d.linkFuncs link
      let d := (d.linkGone link).setHif { d.hif with perst := if d.hif.perst.contains link then d.hif.perst else d.hif.perst ++ [link] }
      let d := if link = 0 then d else [5, 6, 7, 8].foldl Dev.flr d
      let d := fs.foldl Dev.resetConfig d
      if link = 0 then (d.setHif { d.hif with ready := false }).startD3 else d

/-- PERST_ASSERT: its own effect, then what follows at once. -/
def execPerstAssert (link : Nat) (s : State) : Host.Outcome State Fault Refusal := s.act (effectPerstAssert link)

/-- PERST_RELEASE: link A's ends a wake (R446). -/
def effectPerstRelease (link : Nat) (d : Dev) : Dev :=
  if d.pwr.perstA ∧ link = 0 then (d.setPwr { d.pwr with perstA := false }).wakeUp
  else d.setHif { d.hif with perst := d.hif.perst.filter (· != link) }

/-- PERST_RELEASE: its own effect, then what follows at once. -/
def execPerstRelease (link : Nat) (s : State) : Host.Outcome State Fault Refusal := s.act (effectPerstRelease link)

/-- HOT_RESET: the configuration of the link's functions resets, their queues are disabled and their jobs park (R287). -/
def effectHotReset (link : Nat) (d : Dev) : Dev :=
  d.when (d.linkFuncs link != []) fun d =>
    let d := (d.linkFuncs link).foldl (fun d f =>
      let d := d.resetConfig f
      let ps := (List.range 8).filter (fun p => d.flag (F.glbPart_enable p) && d.partFunc p == f)
      let d := ps.foldl (fun d p => (d.partQueues p).foldl (fun d q => d.disableQueue q false) d) d
      d.hostLost f) d
    d.linkGone link

/-- HOT_RESET: its own effect, then what follows at once. -/
def execHotReset (link : Nat) (s : State) : Host.Outcome State Fault Refusal := s.act (effectHotReset link)

/-- HOST_LINK_LOST (R378, R287): the link has been out of L0 for more than 100 ms, or a surprise down. -/
def effectHostLinkLost (link : Nat) (d : Dev) : Dev :=
  d.when (d.linkFuncs link != []) fun d =>
    let d := (d.linkGone link).raise hifPage link St.ok
    (d.linkFuncs link).foldl Dev.hostLost d

/-- HOST_LINK_LOST: its own effect, then what follows at once. -/
def execHostLinkLost (link : Nat) (s : State) : Host.Outcome State Fault Refusal := s.act (effectHostLinkLost link)

/-- PCIE_LINK_UP (R375, R446): the link reaches L0; on link A the module deasserts WAKE#. -/
def effectPcieLinkUp (link rate width : Nat) (flit : Bool) (d : Dev) : Dev :=
  d.when (d.linkFuncs link != [] && !d.hif.perst.contains link && decide (1 ≤ rate ∧ rate ≤ mapGet 3 d.hif.maxRate link)
      && (width == 4 || width == 8 || (width == 16 && !d.split)) && (flit || decide (rate < 3)) && d.pwr.good && decide (d.pwr.mode ≤ 1)) fun d =>
    if link = 0 then
      let d := ((d.wr F.hifLinkA_rate rate).wr F.hifLinkA_width width).setFlag F.hifLinkA_flit flit
      if d.pwr.wake then (d.setPwr { d.pwr with wake := false }).emit .wake 0 [0] else d
    else ((d.wr F.hifLinkB_rate rate).wr F.hifLinkB_width width).setFlag F.hifLinkB_flit flit

/-- PCIE_LINK_UP: its own effect, then what follows at once. -/
def execPcieLinkUp (link rate width : Nat) (flit : Bool) (s : State) : Host.Outcome State Fault Refusal := s.act (effectPcieLinkUp link rate width flit)

/-! ### Configuration (R379, R380) -/

/-- VFs that an SR-IOV capability offers. -/
def Dev.totalVfs (d : Dev) (f : Nat) : Nat := if d.split then 4 else if f = 0 then 8 else 0

/-- The size of a function's BAR2 in GiB. -/
def Dev.bar2Size (d : Dev) (f : Nat) : Nat := (mapLook d.hif.bar2 f).getD (if f = 0 then 64 else 16)

/-- A configuration write. Registers are numbered by the model: 0 NumVFs, 1 the Resizable BAR size of BAR2 (log2 of GiB), 2 TotalVFs, the
others hold what is written (log entry 56). -/
def Dev.configWrite (d : Dev) (f reg v : Nat) : Dev :=
  match reg with
  | 0 =>
    if d.totalVfs f < v then d
    else if f = 0 then d.setHif { d.hif with numVfs := v } else if f = 9 then d.setHif { d.hif with numVfsB := v } else d
  | 1 => if f < 9 ∧ v ≤ (if f = 0 then 10 else 7) then d.setHif { d.hif with bar2 := mapPut d.hif.bar2 f (2 ^ v) } else d
  | 2 => d
  | _ => d.setHif { d.hif with config := mapPut d.hif.config (f * 65536 + reg) (BitVec.ofNat 32 v) }

/-- A configuration read: a register nothing has written holds a free value. -/
def Dev.configRead (d : Dev) (f reg : Nat) : Nat × Dev :=
  match reg with
  | 0 => (if f = 0 then d.hif.numVfs else if f = 9 then d.hif.numVfsB else 0, d)
  | 1 => (Nat.log2 (d.bar2Size f), d)
  | 2 => (d.totalVfs f, d)
  | _ =>
    match mapLook d.hif.config (f * 65536 + reg) with
    | some w => (w.toNat, d)
    | none =>
      let r := d.drawIndex
      (Config.freeNat r.1 % 2 ^ 32, r.2)

/-- PCIE_CONFIG_ACCESS: before boot stage S3 the answer is Configuration Request Retry Status (1), after it success (0). -/
def effectPcieConfigAccess (f reg : Nat) (val : Option Word) (d : Dev) : Dev :=
  d.when ((d.linkFuncs (d.linkOf f)).contains f && !d.hif.perst.contains (d.linkOf f)) fun d =>
    if !d.hif.ready then d.emit .pcieConfig f [reg, 1]
    else
      match val with
      | some v => (d.configWrite f reg v.toNat).emit .pcieConfig f [reg, 0]
      | none =>
        let r := d.configRead f reg
        r.2.emit .pcieConfig f [reg, 0, r.1]

/-- PCIE_CONFIG_ACCESS: its own effect, then what follows at once. -/
def execPcieConfigAccess (f reg : Nat) (val : Option Word) (s : State) : Host.Outcome State Fault Refusal := s.act (effectPcieConfigAccess f reg val)

/-! ### MSI-X (R381) -/

/-- Vectors of a function. -/
def vectors (f : Nat) : Nat := if f = 0 then 2048 else 256

/-- Write a vector's control word: unmasking sends a pending message. -/
def Dev.vectorControl (d : Dev) (f n : Nat) (v : Word) : Dev :=
  let d := d.setMsix (mapPut d.msix (f * 65536 + n * 4 + 3) (v &&& 1#32))
  let id := f * 4096 + n
  if v.toNat % 2 = 0 ∧ d.msixPend.contains id then
    (d.setMsixPend (d.msixPend.filter (· != id))).sendMsix f n
  else d

/-- VECTOR_UNMASK. -/
def effectVectorUnmask (f n : Nat) (d : Dev) : Dev :=
  d.when (decide (f ≤ 8 ∧ n < vectors f)) fun d => d.vectorControl f n 0

/-- VECTOR_UNMASK: its own effect, then what follows at once. -/
def execVectorUnmask (f n : Nat) (s : State) : Host.Outcome State Fault Refusal := s.act (effectVectorUnmask f n)

/-! ### The BAR2 window (R383, R384) -/

/-- A field of a function's window registers, in the copy of an entry. -/
def winFld (f off lo w entry : Nat) : Fld := (hdrFld ⟨f, .hif, 0, 2⟩ off lo w).bank entry

def Dev.winSel (d : Dev) (f : Nat) : Nat := d.rd (hdrFld ⟨f, .hif, 0, 2⟩ 0x80 0 12) % (if f = 0 then 4096 else 512)
def wValid (f e : Nat) : Fld := winFld f 0x84 0 1 e
def wWrite (f e : Nat) : Fld := winFld f 0x84 1 1 e
def wBase (f e : Nat) : Fld := winFld f 0x84 2 19 e
def wPart (f e : Nat) : Fld := winFld f 0x84 21 3 e
def wHandle (f e : Nat) : Fld := winFld f 0x88 0 32 e

/-- Valid entries of a function. -/
def Dev.windows (d : Dev) (f : Nat) : List Nat :=
  let a := (wValid f 0).addr - 2 ^ 32
  (d.regs.filter (fun e => e.1 % 2 ^ 32 == a && decide (2 ^ 32 ≤ e.1) && bitOf e.2.toNat 0)).map (fun e => e.1 / 2 ^ 32 - 1)

/-- The partition an entry's handle belongs to. -/
def Dev.winPart (d : Dev) (f e : Nat) : Option Nat := if f = 0 then some (d.rd (wPart 0 e)) else d.ownPart f

/-- The object an entry shows. -/
def Dev.winObj (d : Dev) (f e : Nat) : Option (Nat × Obj) :=
  (d.winPart f e).bind (fun p => d.resolve (p + 8 * d.bindNow p) (d.rd (wHandle f e)))

/-- Bytes of BAR2 that an entry maps: the first, and how many. -/
def Dev.winRange (d : Dev) (f e : Nat) : Nat × Nat :=
  (d.rd (wBase f e) * 2 ^ 21, ((d.winObj f e).map (fun x => x.2.bytes)).getD 0)

/-- The entry may be valid. -/
def Dev.winOk (d : Dev) (f e : Nat) : Bool :=
  let r := d.winRange f e
  let owned := f != 0 || (d.flag (F.glbPart_enable (d.rd (wPart 0 e))) && d.partFunc (d.rd (wPart 0 e)) == 0)
  owned && (d.winObj f e).isSome && decide (r.1 + r.2 ≤ d.bar2Size f * 2 ^ 30)
    && (d.windows f).all (fun o => o == e ||
      (let x := d.winRange f o
       decide (r.1 + r.2 ≤ x.1) || decide (x.1 + x.2 ≤ r.1)))

/-- HIF_WIN_CFG of the selected entry is written. -/
def Dev.writeWindow (d : Dev) (f : Nat) (v : Word) : Dev :=
  let e := d.winSel f
  let x := v.toNat
  let d := ((d.wr (wValid f e) 0).wr (wWrite f e) (bitsAt x 1 1)).wr (wBase f e) (bitsAt x 2 19)
  let d := if f = 0 then d.wr (wPart f e) (bitsAt x 21 3) else d
  if bitOf x 0 then (if d.winOk f e then d.wr (wValid f e) 1 else d.hifRaise f 5) else d

/-- WINDOW_CONFIG. -/
def effectWindowConfig (f : Nat) (v : Word) (d : Dev) : Dev :=
  d.when ((d.pageAt f ((⟨f, .hif, 0, 2⟩ : Page).offset)).isSome) fun d => d.writeWindow f v

/-- WINDOW_CONFIG: its own effect, then what follows at once. -/
def execWindowConfig (f : Nat) (v : Word) (s : State) : Host.Outcome State Fault Refusal := s.act (effectWindowConfig f v)

/-- The entry and object of an access: all of its bytes lie in one valid entry, below the object's end. -/
def Dev.winHit (d : Dev) (f off len : Nat) : Option (Nat × Nat × Obj × Nat) :=
  (d.windows f).findSome? (fun e =>
    match d.winObj f e with
    | some (k, o) =>
      let r := d.winRange f e
      if r.1 ≤ off ∧ off + len ≤ r.1 + r.2 then some (e, k, o, off - r.1) else none
    | none => none)

/-- Dirty T0 copies of a range are written back to T1 first (R228, R384). -/
def Dev.flushRange (d : Dev) (k off len : Nat) : Dev :=
  match d.obj? k with
  | none => d
  | some o =>
    (o.unitsOf off len).foldl (fun d u =>
      let x := d.unitOf k u
      if x.dirty0 ∧ x.valid0 then
        match d.obj? k with
        | some o =>
          let d := d.pour1 o.extA (o.unitStart u) (o.unitLen u) (memSlice d.t0 x.base0 (o.unitLen u))
          d.setUnit k u { d.unitOf k u with dirty0 := false, dirty1 := true }
        | none => d
      else d) d

def ones (n : Nat) : List Byte := List.replicate n 0xFF#8

/-- What a read through an entry delivers: bytes, or none for all ones; and the device after it. -/
def Dev.winRead (d : Dev) (k : Nat) (o : Obj) (off len : Nat) : Option (List Byte) × List Nat × Dev :=
  if o.prot then
    (none, [], (d.incSat F.wsetProtCnt 1).raise wsetPage 4 St.protectedAccess)
  else if o.kind = kCOMMITTED then (some (d.read1 o.curExt off len), o.curExt, d)
  else if (o.unitsOf off len).all (fun u => (o.unit u).t1 == tsRESIDENT) then
    let d := d.flushRange k off len
    (some (d.read1 o.extA off len), o.extA, d)
  else (none, [], d)

/-- BAR2_READ: the completion carries the poison bit and the bytes. -/
def effectBar2Read (f off len : Nat) (d : Dev) : Dev :=
  d.when (decide (0 < len)) fun d =>
    match d.winHit f off len with
    | none => (d.hifCount f 0x8C).emit .bar2 f [off, 0] (ones len)
    | some (_, k, o, x) =>
      match d.winRead k o x len with
      | (none, _, d) => d.emit .bar2 f [off, 0] (ones len)
      | (some bs, ext, d) =>
        if d.sectorBad ext x len then (d.hifCount f 0x90).emit .bar2 f [off, 1] bs
        else d.emit .bar2 f [off, 0] bs

/-- BAR2_READ: its own effect, then what follows at once. -/
def execBar2Read (f off len : Nat) (s : State) : Host.Outcome State Fault Refusal := s.act (effectBar2Read f off len)

/-- A T0 copy that a write through the window made stale goes once nothing references it. -/
def Dev.staleT0 (d : Dev) (k u : Nat) : Dev :=
  if (d.unitOf k u).valid0 then d.dropT0 k u else d

/-- A write through an entry that allows writes; `none` where it is dropped. -/
def Dev.winWrite (d : Dev) (k : Nat) (o : Obj) (off : Nat) (data : List Byte) : Option Dev :=
  let us := o.unitsOf off data.length
  if o.prot ∨ o.attr = 1 then none
  else if o.kind = kCOMMITTED then
    if d.jobSt o.job = 0 then
      some (((d.write1 o.extA off data).write1 o.extB off data).healSectors o.extA off data.length |>.healSectors o.extB off data.length)
    else none
  else if us.all (fun u => (o.unit u).t1 == tsRESIDENT || ((o.unit u).t1 == tsARRIVING && (o.unit u).refill)) then
    let d := d.flushRange k off data.length
    let d := (d.write1 o.extA off data).healSectors o.extA off data.length
    some (us.foldl (fun d u => (d.setUnit k u { d.unitOf k u with dirty1 := true }).staleT0 k u) d)
  else none

/-- BAR2_WRITE: a dropped write counts and sets B2_REFUSED. -/
def effectBar2Write (f off : Nat) (data : List Byte) (d : Dev) : Dev :=
  d.when (!data.isEmpty) fun d =>
    let refused (d : Dev) : Dev := (d.hifCount f 0x8C).hifRaise f 3
    match d.winHit f off data.length with
    | none => d.hifCount f 0x8C
    | some (e, k, o, x) =>
      if !d.flag (wWrite f e) then refused d
      else
        match d.winWrite k o x data with
        | some d => d
        | none => if o.prot then refused ((d.incSat F.wsetProtCnt 1).raise wsetPage 4 St.protectedAccess) else refused d

/-- BAR2_WRITE: its own effect, then what follows at once. -/
def execBar2Write (f off : Nat) (data : List Byte) (s : State) : Host.Outcome State Fault Refusal := s.act (effectBar2Write f off data)

end Sys2Proof.Machine
end

