-- ==== Sys2Proof/Machine/Tier.lean ====
section
/-! DEFINITION. The tier manager's commands: the object mailbox, references and arrivals, the tier commands of a queue, failed T2 reads,
HBM scrubbing and Street Index repair (10_tiers_and_street_index.md R212 to R239). -/

namespace Sys2Proof.Machine

/-! ### The object mailbox (R219) -/

/-- A field of a function's mailbox page. -/
def mbx (f off lo w : Nat) : Fld := hdrFld ⟨f, .tir, 0, 1⟩ off lo w

/-- A mailbox request as written. -/
structure MbxReq where
  op : Nat
  kind : Nat
  attr : Nat
  stack : Nat
  job : Nat
  wset : Nat
  handle : Nat
  sizeL : Nat
  part : Nat
  t2Addr : Nat
  deriving DecidableEq, Repr

def Dev.mbxReq (d : Dev) (f : Nat) : MbxReq :=
  let r (off lo w : Nat) : Nat := d.rd (mbx f off lo w)
  { op := r 0x80 0 4, kind := r 0x80 4 2, attr := r 0x80 6 2, stack := r 0x80 8 3, job := r 0x80 12 3, wset := r 0x80 16 16,
    handle := r 0x84 0 32, sizeL := r 0x88 0 32, part := r 0x8C 0 3, t2Addr := r 0x90 0 32 + r 0x94 0 16 * 2 ^ 32 }

/-- The partition a request acts for: a VF's own, or the PF's PART if it is enabled and owned by the PF. -/
def Dev.mbxPart (d : Dev) (f part : Nat) : Option Nat :=
  if f = 0 then (if d.flag (F.glbPart_enable part) ∧ d.partFunc part = 0 then some part else none) else d.ownPart f

/-- States of an object as its record shows them. A tiled object's T0 state is POISONED if any tile is, else RESIDENT if any tile is
there, else ABSENT (R217); its T1 and T2 states are read the same way, with ARRIVING before ABSENT. -/
def Obj.state (o : Obj) (g : TUnit → Nat) (t0 : Bool) : Nat :=
  if !o.tiled then g (o.unit 0)
  else
    let l := (List.range o.unitCount).map (fun u => g (o.unit u))
    if l.contains tsPOISONED then tsPOISONED
    else if l.contains tsRESIDENT ∨ l.contains tsPINNED then tsRESIDENT
    else if l.contains tsARRIVING ∧ !t0 then tsARRIVING else tsABSENT

/-- T0_ST of a residency record: LEAVING where the one T0 copy is that of a buffer that is no longer the current one (R220; log entry 111). -/
def Obj.t0State (o : Obj) : Nat :=
  let st := o.state (fun x => x.t0) true
  if !o.tiled ∧ st = tsABSENT ∧ o.old ≠ [] then tsLEAVING else st

/-- The 32 bytes of a residency record (R217). -/
def objRecord (k : Nat) (o : Obj) : List Byte :=
  let us := (List.range o.unitCount).map o.unit
  let dirty0 := us.any (fun x => x.dirty0)
  let dirty1 := o.t2Addr != 0 && us.any (fun x => x.dirty1)
  leBytes 4 (objHandle k o) ++ leBytes 4 o.sizeL
    ++ leBytes 1 (o.kind + o.attr * 4 + o.keep * 16 + boolNat o.tiled * 64 + boolNat dirty0 * 128)
    ++ leBytes 1 (min (k / 2 ^ 20) 8 + o.job * 16 + boolNat dirty1 * 128)
    ++ leBytes 2 (o.t0State + o.state (fun x => x.t1) false * 8 + o.state (fun x => x.t2) false * 64 + o.stack * 512)
    ++ leBytes 1 o.fmt ++ leBytes 1 o.cur ++ leBytes 2 (sumBy (fun x => x.ref0) us) ++ leBytes 2 o.ref1 ++ leBytes 2 o.wset
    ++ leBytes 4 (o.curExt.head?.getD 0) ++ leBytes 8 o.t2Addr

/-- The result of a request: its status, and for QUERY, CREATE and REFILL_DONE the record. -/
def Dev.mbxDone (d : Dev) (f status : Nat) (key : Option Nat) : Dev :=
  let d := d.wr (mbx f 0xA4 0 16) status
  match key.bind (fun k => (d.obj? k).map (fun o => objRecord k o)) with
  | none => d
  | some bs => (List.range 8).foldl (fun d i => d.wr (mbx f (0xC0 + 4 * i) 0 32) (leAt bs (4 * i) 4)) d

/-- GO with an operation code: a request while BUSY is recorded with KIND 3; otherwise `act` is given the request, the partition acted
for and, for OP 1 to 5, the object (R219's checks 1 and 2). -/
def Dev.mailbox (d : Dev) (f op : Nat) (act : Dev → MbxReq → Nat → Nat → Obj → Dev) : Dev :=
  let r := d.mbxReq f
  d.when (r.op == op && (d.pageAt f ((⟨f, .tir, 0, 1⟩ : Page).offset)).isSome) fun d =>
    if d.flag (mbx f 0xA4 16 1) then d.badAccess f ((⟨f, .tir, 0, 1⟩ : Page).offset + 0xA0) 3
    else
      match d.mbxPart f r.part with
      | none => d.mbxDone f St.badField none
      | some p =>
        if op = 0 then act d r p 0 { gen := 0, sizeL := 0, kind := 0, attr := 0, owner := 0 }
        else
          match d.resolve (p + 8 * d.bindNow p) r.handle with
          | none => d.mbxDone f St.objectAbsent none
          | some (k, o) => act d r p k o

/-- Units of 2 MiB that an object is charged for in T2 (R221). -/
def t2Units (sizeL : Nat) : Nat := ceilDiv (sizeL * 64) extentBytes

/-- The refusals of CREATE that a request itself shows. -/
def Dev.createBad (d : Dev) (f : Nat) (r : MbxReq) (p : Nat) : Bool :=
  (r.attr == 1 && f != 0) || (r.kind == kCOMMITTED && (r.stack == 7 || r.t2Addr != 0)) || r.kind == 3 || decide (2 ≤ r.attr) || r.stack == 6
    || d.rd (F.ldgJobCfg_part r.job) != p || r.sizeL == 0

/-- The lowest free index of a new object: private, or in the shared range outside every weight set's members. -/
def Dev.newIndex (d : Dev) (owner : Nat) : Option Nat :=
  if owner < 8 then d.freeIndex owner 0 0xF0000
  else
    let taken (i : Nat) : Bool := (d.setOfIndex i).isSome || (d.tir.objs.any (fun e => e.1 == 8 * 2 ^ 20 + i && e.2.live))
    let ends := d.wset.defined.map (fun s => 0xF0000 + d.rd (F.wsetDef_base.bank s) + d.rd (F.wsetDef_countM1.bank s) + 1)
    let cand := 0xF0000 :: (ends ++ (d.tir.objs.filter (fun e => e.1 / 2 ^ 20 == 8)).map (fun e => e.1 % 2 ^ 20 + 1))
    minBy id (cand.filter (fun i => decide (0xF0000 ≤ i) && decide (i < 2 ^ 20) && !taken i))

/-- Extents for both buffers of a COMMITTED object. -/
def Dev.committedExtents (d : Dev) (idx stack n : Nat) : Option (List Nat × List Nat) :=
  match d.pickExtents idx stack n [] with
  | none => none
  | some a => (d.pickExtents idx stack n a).map (fun b => (a, b))

/-- CREATE: the object's record; a shared object, which SHARED_RO makes, belongs to the shared pool. -/
def Dev.createObj (d : Dev) (f : Nat) (r : MbxReq) (p : Nat) : Dev :=
  let owner := if r.attr = 1 then 8 else p
  let n := ceilDiv (r.sizeL * 64) extentBytes
  let refuse (d : Dev) : Dev := (d.raise tirPage 3 St.quotaExceeded).mbxDone f St.quotaExceeded none
  if d.createBad f r p then d.mbxDone f St.badField none
  else if r.t2Addr ≠ 0 ∧ d.rd (F.tirT2Quota_limit owner) < d.rd (F.tirT2Use_use owner) + t2Units r.sizeL then d.mbxDone f St.quotaExceeded none
  else
    let d := if r.kind = kCOMMITTED ∧ !d.quota1 owner (2 * n) then d.freeClean1 owner (2 * n) else d
    if r.kind = kCOMMITTED ∧ !d.quota1 owner (2 * n) then refuse d
    else
      match d.newIndex owner with
      | none => d.mbxDone f St.noResource none
      | some i =>
        let k := owner * 2 ^ 20 + i
        let ext := if r.kind = kCOMMITTED then d.committedExtents i r.stack n else some ([], [])
        match ext with
        | none => d.mbxDone f St.noResource none
        | some (a, b) =>
          if 4194304 ≤ (d.tir.objs.filter (fun e => e.2.live)).length then d.mbxDone f St.noResource none
          else
            let before := d.obj? k
            let o : Obj := { gen := (before.map (fun o => o.gen)).getD 1, sizeL := r.sizeL, kind := r.kind, attr := r.attr,
                             tiled := decide (d.rd F.tirCfg_wholeLimit * 2 ^ 20 < r.sizeL * 64), owner := owner, job := r.job,
                             stack := r.stack, wset := r.wset, extA := a, extB := b, t2Addr := r.t2Addr,
                             old := (before.map (fun o => o.old)).getD [] }
            let d := if r.kind = kCOMMITTED then d.useExtents k owner (a ++ b) else d
            let d := if r.t2Addr = 0 then d else d.inc (F.tirT2Use_use owner) (t2Units r.sizeL)
            (d.setObj k o).mbxDone f St.ok (some k)

/-- TIR mailbox operation CREATE (10_tiers_and_street_index.md R219). -/
def effectCreate (f : Nat) (d : Dev) : Dev :=
  d.mailbox f 0 fun d r p _ _ => d.createObj f r p

/-- CREATE: its own effect, then what follows at once. -/
def execCreate (f : Nat) (s : State) : Host.Outcome State Fault Refusal := s.act (effectCreate f)

/-- BAR2 window entries that show an object are cleared (17_host_link_and_signpost.md R383). -/
def Dev.clearWindows (d : Dev) (k : Nat) : Dev :=
  (List.range 9).foldl (fun d f =>
    (d.windows f).foldl (fun d e => if ((d.winObj f e).map (fun x => x.1)) = some k then d.wr (wValid f e) 0 else d) d) d

/-- DELETE: GEN increments at once; copies without references are released, referenced ones when their references end. -/
def Dev.deleteObj (d : Dev) (k : Nat) (o : Obj) : Dev :=
  let d := d.clearWindows k
  let d := (List.range o.unitCount).foldl (fun d u =>
    let d := (d.failWaits k u St.objectAbsent).moveDone k u St.objectAbsent
    if (d.unitOf k u).assist ≠ 0 then d.sixRelease (d.unitOf k u).assist St.objectAbsent else d) d
  let d := d.setTir { d.tir with recs := d.tir.recs.filter (fun r => r.obj != k), writeBacks := d.tir.writeBacks.filter (fun w => w.1 != k) }
  let d := d.showTir
  let d := (List.range o.unitCount).foldl (fun d u => d.dropT0 k u) d
  let d := if o.alias_ = 0 then d.freeExtents o.owner (o.extA ++ o.extB) else d
  let d := if o.t2Addr = 0 then d else d.wr (F.tirT2Use_use o.owner) (d.rd (F.tirT2Use_use o.owner) - t2Units o.sizeL)
  let d := d.setCol { d.col with tags := d.col.tags.filter (fun t => t.2.obj != k) }
  match d.obj? k with
  | none => d
  | some o => d.setObj k { o with live := false, gen := nextGen o.gen, extA := [], extB := [], units := [], t2Addr := 0 }

/-- TIR mailbox operation DELETE (10_tiers_and_street_index.md R219). -/
def effectDelete (f : Nat) (d : Dev) : Dev :=
  d.mailbox f 1 fun d _ _ k o => (d.deleteObj k o).mbxDone f St.ok none

/-- DELETE: its own effect, then what follows at once. -/
def execDelete (f : Nat) (s : State) : Host.Outcome State Fault Refusal := s.act (effectDelete f)

/-- TIR mailbox operation QUERY (10_tiers_and_street_index.md R217, R219). -/
def effectQuery (f : Nat) (d : Dev) : Dev :=
  d.mailbox f 2 fun d _ _ k _ => d.mbxDone f St.ok (some k)

/-- QUERY: its own effect, then what follows at once. -/
def execQuery (f : Nat) (s : State) : Host.Outcome State Fault Refusal := s.act (effectQuery f)

/-- REFILL: the T1 copy is ARRIVING and takes writes from BAR2 and RECV. -/
def effectRefill (f : Nat) (d : Dev) : Dev :=
  d.mailbox f 3 fun d _ _ k o =>
    let st := o.state (fun x => x.t1) false
    if !(st == tsABSENT || st == tsPOISONED) || !d.stepAllowed o then d.mbxDone f St.badField none
    else
      match d.ensureT1 k with
      | none => (d.raise tirPage 3 St.quotaExceeded).mbxDone f St.quotaExceeded none
      | some d =>
        let d := (List.range o.unitCount).foldl (fun d u => d.setUnit k u { d.unitOf k u with t1 := tsARRIVING, refill := true }) d
        d.mbxDone f St.ok none

/-- REFILL: its own effect, then what follows at once. -/
def execRefill (f : Nat) (s : State) : Host.Outcome State Fault Refusal := s.act (effectRefill f)

/-- REFILL_DONE: the T1 copy is RESIDENT, POISONED in T0 is cleared, DIRTY1 is set where there is a T2 copy. -/
def effectRefillDone (f : Nat) (d : Dev) : Dev :=
  d.mailbox f 4 fun d _ _ k o =>
    let us := List.range o.unitCount
    if !(us.all (fun u => (o.unit u).t1 == tsARRIVING && (o.unit u).refill)) then d.mbxDone f St.badField none
    else
      let d := us.foldl (fun d u =>
        let x := d.unitOf k u
        let d := if x.t0 = tsPOISONED then d.release0 k u else d
        let x := d.unitOf k u
        d.setUnit k u { x with t0 := if x.t0 = tsPOISONED then tsABSENT else x.t0, t1 := tsRESIDENT, refill := false,
                               dirty1 := o.t2Addr != 0 }) d
      d.serveWaits.mbxDone f St.ok (some k)

/-- REFILL_DONE: its own effect, then what follows at once. -/
def execRefillDone (f : Nat) (s : State) : Host.Outcome State Fault Refusal := s.act (effectRefillDone f)

/-- RELOAD: the host has rewritten the T2 copy. -/
def effectReload (f : Nat) (d : Dev) : Dev :=
  d.mailbox f 5 fun d _ _ k o =>
    if o.t2Addr = 0 then d.mbxDone f St.badField none
    else
      let d := (List.range o.unitCount).foldl (fun d u =>
        let d := if (d.unitOf k u).t0 = tsPOISONED then d.release0 k u else d
        let x := d.unitOf k u
        let z (t : Nat) : Nat := if t = tsPOISONED then tsABSENT else t
        d.setUnit k u { x with t0 := z x.t0, t1 := z x.t1, t2 := tsRESIDENT, dirty1 := false }) d
      (d.trimT1 k).mbxDone f St.ok none

/-- RELOAD: its own effect, then what follows at once. -/
def execReload (f : Nat) (s : State) : Host.Outcome State Fault Refusal := s.act (effectReload f)

/-! ### References, arrivals, releases -/

/-- OBJECT_REFERENCE (R226, R223): part `p` touches unit `u` of the object that `h` names; `write` where it writes it. `err` is what the
mover's read of the T1 copy finds in line `line` of the unit: 0 nothing, 1 a corrected error, 2 an uncorrectable one (R212). -/
def effectObjectReference (q i p h u : Nat) (write : Bool) (err line : Nat) (d : Dev) : Dev :=
  match d.cmdAt q i with
  | none => d
  | some e =>
    d.when ((e.parts[p]?).any (fun x => !x.ended && !x.ran)) fun d =>
      let v := d.viewAt q i
      match d.resolve v h with
      | none => d.failPart q i p St.objectAbsent
      | some (k, o) =>
        d.when (decide (u < o.unitCount)) fun d =>
          if write ∧ o.writeRefused v then d.isolate ⟨q, i, p⟩ St.protectedAccess
          else
            let x := o.unit u
            let reads1 := x.t0 == tsABSENT && x.t1 == tsRESIDENT && d.stepAllowed o
            let sector := extAddr o.curExt (o.unitStart u + line * 64) / 64
            let d := if err ≠ 0 ∧ reads1 then d.hbmError sector (err == 2) false else d
            let lost := if err = 2 ∧ reads1 then d.loseT1 k u else (true, d)
            let d := lost.2
            if !lost.1 then d.failPart q i p St.eccUncorrectable
            else
              let d := if write then d else d.holdForLayer q e.run k
              if d.servedByT1 k u write then d
              else
              match d.bring0 k u write e.handle with
              | (.here, d) => (d.takeRef q i p k u).lookAhead k u
              | (.coming, d) => (d.waitRef q i p k u).lookAhead k u
              | (.fail st, d) => d.failPart q i p st

/-- OBJECT_REFERENCE: its own effect, then what follows at once. -/
def execObjectReference (q i p h u : Nat) (write : Bool) (err line : Nat) (s : State) : Host.Outcome State Fault Refusal := s.act (effectObjectReference q i p h u write err line)

/-- UNIT_ARRIVED (R225): an upward move is complete; `data` is what a T2 read returned. -/
def effectUnitArrived (k u : Nat) (data : List Byte) (d : Dev) : Dev :=
  let x := d.unitOf k u
  d.when (decide (x.src ≠ 0 ∧ x.retryAt = 0)) fun d => d.arrive k u data

/-- UNIT_ARRIVED: its own effect, then what follows at once. -/
def execUnitArrived (k u : Nat) (data : List Byte) (s : State) : Host.Outcome State Fault Refusal := s.act (effectUnitArrived k u data)

/-- WRITE_BACK_END (R228): the data are one tier down; a LEAVING copy's space is released, and waiting references are served. -/
def effectWriteBackEnd (k u t : Nat) (d : Dev) : Dev :=
  d.when (d.tir.writeBacks.contains (k, u, t)) fun d =>
    let d := d.setTir { d.tir with writeBacks := d.tir.writeBacks.filter (· != (k, u, t)) }
    let d := (d.writeDown k u t).moveDone k u St.ok
    (d.releaseLeft k u).serveWaits

/-- WRITE_BACK_END: its own effect, then what follows at once. -/
def execWriteBackEnd (k u t : Nat) (s : State) : Host.Outcome State Fault Refusal := s.act (effectWriteBackEnd k u t)

/-- LEAVING_RELEASE (R220, R228). -/
def effectLeavingRelease (k u : Nat) (d : Dev) : Dev := (d.releaseLeft k u).serveWaits

/-- LEAVING_RELEASE: its own effect, then what follows at once. -/
def execLeavingRelease (k u : Nat) (s : State) : Host.Outcome State Fault Refusal := s.act (effectLeavingRelease k u)

/-- TIR_ASSIST_DOORBELL (R226): the record is done; the device moves the unit from T1, or the references fail. -/
def effectTirAssistDoorbell (f h : Nat) (d : Dev) : Dev :=
  match d.tir.recs.find? (fun r => r.handle == h) with
  | none => d.badDoorbell f tirPage
  | some r =>
    let d := d.setTir { d.tir with recs := d.tir.recs.filter (fun x => x.handle != h) }
    let d := (d.sixRelease h St.ok).setUnit r.obj r.unit { d.unitOf r.obj r.unit with assist := 0 }
    let d := d.showTir
    let x := d.unitOf r.obj r.unit
    let d := if x.t1 = tsRESIDENT ∨ x.t1 = tsLEAVING ∨ x.valid0 then d else d.failWaits r.obj r.unit St.objectAbsent
    d.serveWaits

/-- TIR_ASSIST_DOORBELL: its own effect, then what follows at once. -/
def execTirAssistDoorbell (f h : Nat) (s : State) : Host.Outcome State Fault Refusal := s.act (effectTirAssistDoorbell f h)

/-! ### Failed T2 reads (R232, R233) -/

/-- T2_READ_FAIL: the whole read is reissued 1 ms later, up to RETRY times; after the last the unit is POISONED. -/
def effectT2ReadFail (k u : Nat) (d : Dev) : Dev :=
  let x := d.unitOf k u
  d.when (x.src == 3 && x.retryAt == 0) fun d =>
    if x.tries < d.rd F.tirCfg_retry then d.setUnit k u { x with tries := x.tries + 1, retryAt := d.now + msQ + 1 }
    else d.poisonUnit k u 1

/-- T2_READ_FAIL: its own effect, then what follows at once. -/
def execT2ReadFail (k u : Nat) (s : State) : Host.Outcome State Fault Refusal := s.act (effectT2ReadFail k u)

/-- T2_RETRY: the read is issued again and T2_RETRY is set. -/
def effectT2Retry (k u : Nat) (d : Dev) : Dev :=
  let x := d.unitOf k u
  d.when (x.src == 3 && x.retryAt != 0 && decide (x.retryAt ≤ d.now + 1)) fun d =>
    (d.setUnit k u { x with retryAt := 0 }).raise tirPage 2 St.ok

/-- T2_RETRY: its own effect, then what follows at once. -/
def execT2Retry (k u : Nat) (s : State) : Host.Outcome State Fault Refusal := s.act (effectT2Retry k u)

/-! ### Tier commands (R229 to R231) -/

/-- The units of a tier command's range. -/
def tierUnits (o : Obj) (c : Cmd) : List Nat :=
  let off := tierOff c * 64
  o.unitsOf off (if tierLen c = 0 then o.bytes - off else tierLen c * 64)

/-- Beyond R66 a tier command is rejected in these cases (R231); a protected copy's MOVE to T2 is left to R371. -/
def Dev.tierBad (d : Dev) (view : Nat) (c : Cmd) : Bool :=
  let op := cmdOpcode c
  let t := tierTier c
  (op == opMOVE && t == 3) || ((op == opPREFETCH || op == opEVICT) && decide (2 ≤ t))
    || (match d.resolve view (tierObject c) with
        | none => false
        | some (_, o) =>
          decide (o.sizeL ≤ tierOff c) || decide (o.sizeL < tierOff c + tierLen c)
            || (((op == opMOVE && t == 2 && !o.prot) || (op == opEVICT && t == 1)) && (o.kind == kCOMMITTED || o.t2Addr == 0))
            || (op == opPIN && (o.kind == kSTEP || o.tiled)))

/-- Bytes moved are the command's work: a part adds what a unit's move will carry. -/
def Dev.addWork (d : Dev) (q i n : Nat) : Dev :=
  match d.cmdAt q i with
  | some e => d.setCmd q { e with parts := e.parts.map (fun (p : Part) => { p with work := p.work + n }) }
  | none => d

/-- A tier command ends: its work is what it has moved. -/
def Dev.tierDone (d : Dev) (q i status : Nat) : Dev :=
  d.partRan q i 0 status 0 ((((d.cmdAt q i).bind (fun e => e.parts[0]?)).map (fun x => x.work)).getD 0)

/-- A unit is asked for at a tier; a move that starts now counts as work. Answers the request's standing. -/
def Dev.tierAsk (d : Dev) (q i k u t : Nat) : Fetch × Dev :=
  let parent := ((d.cmdAt q i).map (fun e => e.handle)).getD 0
  let had := (d.unitOf k u).move
  let r := if t = 0 then d.bring0 k u false parent else if t = 1 then d.bring1 k u parent else d.bring2 k u parent
  let n := ((r.2.obj? k).map (fun o => o.unitLen u)).getD 0
  if had = 0 ∧ (r.2.unitOf k u).move ≠ 0 then (r.1, r.2.addWork q i n) else r

/-- Ask for every unit; answers whether all are there and the first failure. -/
def Dev.tierAskAll (d : Dev) (q i k t : Nat) : List Nat → Bool × Option Nat × Dev
  | [] => (true, none, d)
  | u :: us =>
    match d.tierAsk q i k u t with
    | (.fail s, d) => (false, some s, d)
    | (.here, d) => d.tierAskAll q i k t us
    | (.coming, d) => let r := d.tierAskAll q i k t us; (false, r.2.1, r.2.2)

/-- The event of a tier command: `act` runs on its object while it is not complete. -/
def Dev.runTier (d : Dev) (q i op : Nat) (act : Dev → Cmd → Nat → Obj → Dev) : Dev :=
  d.when (d.partReady q i 0 op) fun d =>
    let c := d.cmdBody q i
    match d.resolve (d.viewAt q i) (tierObject c) with
    | none => d.failPart q i 0 St.objectAbsent
    | some (k, o) => act d c k o

/-- A refusal under R371: counted, with TIR page 3 bit 4. -/
def Dev.protRefused (d : Dev) : Dev := (d.incSat F.wsetProtCnt 1).raise wsetPage 4 St.protectedAccess

/-- DROP_SRC: copies above the target leave; they are clean by now. -/
def Dev.dropAbove (d : Dev) (k t : Nat) (us : List Nat) : Dev :=
  us.foldl (fun d u =>
    let x := d.unitOf k u
    let d := if 1 ≤ t ∧ x.t0 = tsRESIDENT then d.setUnit k u { x with t0 := tsLEAVING } else d
    let x := d.unitOf k u
    if 2 ≤ t ∧ x.t1 = tsRESIDENT then d.setUnit k u { x with t1 := tsLEAVING } else d) d

/-- MOVE (R230): complete when every unit is RESIDENT at TIER; with DROP_SRC higher copies are then released. -/
def effectMove (q i : Nat) (d : Dev) : Dev :=
  d.runTier q i opMOVE fun d c k o =>
    let t := tierTier c
    if o.prot ∧ t = 2 then (d.failPart q i 0 St.protectedAccess).protRefused
    else
      match d.tierAskAll q i k t (tierUnits o c) with
      | (_, some st, d) => d.failPart q i 0 st
      | (false, none, d) => d
      | (true, none, d) => (if tierDropSrc c = 1 then d.dropAbove k t (tierUnits o c) else d).tierDone q i 0

/-- MOVE: its own effect, then what follows at once. -/
def execMove (q i : Nat) (s : State) : Host.Outcome State Fault Refusal := s.act (effectMove q i)

/-- The upward move of a unit to a tier has been issued, or there is nothing to move. -/
def Dev.issued (d : Dev) (k u t : Nat) : Bool :=
  match d.obj? k with
  | none => true
  | some o =>
    let x := o.unit u
    x.assist != 0 || x.src != 0 || (if t = 0 then x.valid0 else x.t1 == tsRESIDENT)
      || (x.t0 == tsABSENT && x.t1 == tsABSENT && !o.valid2 u)

/-- PREFETCH (R230): complete when the upward moves have been issued; a unit that no tier holds has nothing to move. -/
def effectPrefetch (q i : Nat) (d : Dev) : Dev :=
  d.runTier q i opPREFETCH fun d c k o =>
    let t := tierTier c
    let us := (tierUnits o c).filter (fun u => !d.issued k u t)
    match d.tierAskAll q i k t us with
    | (_, some st, d) => d.failPart q i 0 st
    | (_, none, d) => if us.all (fun u => d.issued k u t) then d.tierDone q i 0 else d

/-- PREFETCH: its own effect, then what follows at once. -/
def execPrefetch (q i : Nat) (s : State) : Host.Outcome State Fault Refusal := s.act (effectPrefetch q i)

/-- One unit leaves a tier: written down first where it is newer; a referenced T0 copy is waited for. -/
def Dev.evictUnit (d : Dev) (q i k u t : Nat) : Dev :=
  let parent := ((d.cmdAt q i).map (fun e => e.handle)).getD 0
  let x := d.unitOf k u
  let n := ((d.obj? k).map (fun o => o.unitLen u)).getD 0
  let d' :=
    if t = 0 then
      if x.t0 = tsRESIDENT ∧ x.ref0 = 0 then
        (if x.dirty0 then
          (match d.ensureT1 k with
           | some d => (d.setUnit k u { d.unitOf k u with t0 := tsLEAVING }).writeBack k u 0 parent
           | none => d.room k false true)
         else (d.setUnit k u { x with t0 := tsLEAVING }).releaseLeft k u)
      else d
    else if x.t1 = tsRESIDENT ∧ x.src = 0 then (d.leave1 k u parent).releaseLeft k u
    else d
  if x.move = 0 ∧ (d'.unitOf k u).move ≠ 0 then d'.addWork q i n else d'

/-- EVICT (R230): a PINNED copy fails it with BAD_FIELD (R231). -/
def effectEvict (q i : Nat) (d : Dev) : Dev :=
  d.runTier q i opEVICT fun d c k o =>
    let t := tierTier c
    let us := tierUnits o c
    if t = 0 ∧ us.any (fun u => (o.unit u).t0 == tsPINNED) then d.failPart q i 0 St.badField
    else
      let d := us.foldl (fun d u => d.evictUnit q i k u t) d
      let gone (u : Nat) : Bool :=
        let x := d.unitOf k u
        if t = 0 then x.t0 == tsABSENT || x.t0 == tsPOISONED else x.t1 == tsABSENT || x.t1 == tsPOISONED
      (if us.all gone then d.tierDone q i 0 else d).serveWaits

/-- EVICT: its own effect, then what follows at once. -/
def execEvict (q i : Nat) (s : State) : Host.Outcome State Fault Refusal := s.act (effectEvict q i)

/-- A T0 copy's region takes another attribute. -/
def Dev.setRegionAttr (d : Dev) (rgn attr : Nat) : Dev := d.setMkt { d.mkt with regions := mapUpd d.mkt.regions rgn (fun r => { r with attr := attr }) }

/-- PIN (R230): the whole object PINNED in T0, in a PINNED region charged to its owner. Where no room can be made it fails with
QUOTA_EXCEEDED or NO_RESOURCE (04_market.md R95, R97); a SHARED_RO object stays SHARED_RO and is only not evicted. -/
def effectPin (q i : Nat) (d : Dev) : Dev :=
  d.runTier q i opPIN fun d _ k o =>
    let x := o.unit 0
    if x.valid0 then
      let d := (d.setUnit k 0 { x with t0 := tsPINNED }).setRegionAttr x.rgn0 2
      match d.obj? k with
      | some o => (d.setObj k { o with attr := if o.attr = 1 then 1 else 2 }).tierDone q i 0
      | none => d
    else
      let lacks := x.t0 == tsABSENT && !d.space0 o
      let d := if lacks then d.makeRoom0 o.owner o.unitGranules else d
      if lacks ∧ d.leaving0 o.owner = 0 then
        (if d.quota0 o.owner o.unitGranules then d.failPart q i 0 St.noResource
         else (d.failPart q i 0 St.quotaExceeded).raise mktPage 5 St.quotaExceeded)
      else
        match d.tierAsk q i k 0 0 with
        | (.fail st, d) => d.failPart q i 0 st
        | (_, d) => d

/-- PIN: its own effect, then what follows at once. -/
def execPin (q i : Nat) (s : State) : Host.Outcome State Fault Refusal := s.act (effectPin q i)

/-- UNPIN (R230): of an object that is not PINNED it has no effect. -/
def effectUnpin (q i : Nat) (d : Dev) : Dev :=
  d.runTier q i opUNPIN fun d _ k o =>
    let d := (List.range o.unitCount).foldl (fun d u =>
      let x := d.unitOf k u
      if x.t0 = tsPINNED then
        (d.setUnit k u { x with t0 := tsRESIDENT }).setRegionAttr x.rgn0 (if o.attr = 2 then 0 else o.rgnAttr)
      else d) d
    let d := match d.obj? k with
      | some o => d.setObj k { o with attr := if o.attr = 2 then 0 else o.attr }
      | none => d
    d.tierDone q i 0

/-- UNPIN: its own effect, then what follows at once. -/
def execUnpin (q i : Nat) (s : State) : Host.Outcome State Fault Refusal := s.act (effectUnpin q i)

/-! ### HBM and the Street Index -/

/-- HBM_SCRUB (R213): the patrol scrubber reads the next sector of a working stack. -/
def effectHbmScrub (k err : Nat) (d : Dev) : Dev :=
  d.when (d.liveStacks.contains k && d.rd (F.hbmState_state k) == 0) fun d =>
    let at_ := mapGet 0 d.tir.scrubAt k
    let sector := k * 2 ^ 31 + at_
    let d := d.setTir { d.tir with scrubAt := mapSet 0 d.tir.scrubAt k ((at_ + 1) % 2 ^ 31) }
    let d := if err = 1 then d.hbmError sector false true else if err = 2 then d.hbmError sector true true else d
    let d := if at_ + 1 = 2 ^ 31 then d.inc (F.hbmScrubPass_passes k) 1 else d
    if err ≠ 2 then d
    else
      match d.sectorUnit sector with
      | some (key, u, true) => if (d.unitOf key u).t1 = tsRESIDENT ∨ (d.unitOf key u).t1 = tsLEAVING then (d.loseT1 key u).2 else d
      | _ => d

/-- HBM_SCRUB: its own effect, then what follows at once. -/
def execHbmScrub (k err : Nat) (s : State) : Host.Outcome State Fault Refusal := s.act (effectHbmScrub k err)

/-- The operation that a busy entry stands for fails (R239): a command's parts, one part, a collective whose segment it was, a unit's
move. -/
def Dev.failEntry (d : Dev) (h : Nat) : Dev :=
  let st := St.eccUncorrectable
  let d := d.runningParts.foldl (fun d r =>
    match d.cmdAt r.1 r.2.1 with
    | some e => if r.2.2.2.handle = h ∨ e.handle = h then d.endPart r.1 r.2.1 r.2.2.1 st else d
    | none => d) d
  let d := d.tir.objs.foldl (fun d e =>
    match e.2.units.find? (fun y => y.2.move == h) with
    | some (u, x) =>
      let d := if x.t0 = tsARRIVING then d.release0 e.1 u else d
      let x := d.unitOf e.1 u
      (d.failWaits e.1 u st).setUnit e.1 u { x with src := 0, move := 0, t1 := if x.t1 = tsARRIVING ∧ !x.refill then tsABSENT else x.t1 }
    | none => d) d
  let d := d.col.colls.foldl (fun d k => if k.posted.any (fun p => p.handle == h) then d.failPart k.q k.i 0 st else d) d
  let d := d.tbn.conns.foldl (fun d c => (c.2.msgs.filter (fun m => m.handle == h && m.use == 0)).foldl (fun d m => d.failPart m.q m.i 0 st) d) d
  d.sixRelease h st

/-- SIX_ROW_REPAIR (R239): `fault` 1 is a row's seventeenth corrected error in an hour, 2 + e an uncorrectable error in its entry e; a row
marked for repair is mapped to a reserve row once its 64 entries are free. -/
def effectSixRowRepair (row fault : Nat) (d : Dev) : Dev :=
  d.when (decide (row < 16384)) fun d =>
    let d := if fault ≠ 0 ∧ !d.six.badRows.contains row then d.setSix { d.six with badRows := d.six.badRows ++ [row] } else d
    let idx := row * 64 + (fault - 2) % 64
    let e := mapGet ({} : SixEntry) d.six.entries idx
    let d := if 2 ≤ fault ∧ e.state ≠ 0 then d.failEntry (mkHandle e.gen idx) else d
    let free := (List.range 64).all (fun n => (mapGet ({} : SixEntry) d.six.entries (row * 64 + n)).state == 0)
    if d.six.badRows.contains row ∧ free ∧ d.six.repaired.length < 32 then
      ((d.setSix { d.six with badRows := d.six.badRows.filter (· != row), repaired := d.six.repaired ++ [row] }).raise sixPage 2 St.ok).recordRetirement
    else d

/-- SIX_ROW_REPAIR: its own effect, then what follows at once. -/
def execSixRowRepair (row fault : Nat) (s : State) : Host.Outcome State Fault Refusal := s.act (effectSixRowRepair row fault)

end Sys2Proof.Machine
end

