-- ==== Sys2Proof/Machine/Weights.lean ====
section
/-! DEFINITION. Weight-set commands and partition registers: WSET_DEF, WSET_SWAP, LOAD_WPK with its chunks and assist doorbell, GLB_PART
(16_weights_and_partitions.md R362 to R373). -/

namespace Sys2Proof.Machine

/-- A write to a register of a lockable PF page: unmapped for another function (R35 KIND 0), refused while the page is locked (KIND 1). -/
def Dev.lockedWrite (d : Dev) (f : Nat) (p : Page) (off key : Nat) (act : Dev → Dev) : Dev :=
  if f ≠ 0 ∨ (d.pageAt f off).isNone then d.badAccess f off 0
  else d.underLock p f off key act

/-- WSET_DEF_WRITE (R362): the selected set is defined anew, with the next GEN; only while both slots are EMPTY. A range beyond the
65,536 indices leaves the register as it is (log entry 58). -/
def effectWsetDefWrite (f : Nat) (v : Word) (d : Dev) : Dev :=
  let w := d.rd F.wsetSel_set
  let off := F.wsetDef_base.addr
  d.lockedWrite f wsetPage off (F.wsetDef_base.bank w).addr fun d =>
    let base := bitsAt v.toNat 0 16
    let countM1 := bitsAt v.toNat 16 16
    if w = 0 then d
    else if d.slotState w 0 ≠ 0 ∨ d.slotState w 1 ≠ 0 then d.badAccess f off 1
    else if 65536 < base + countM1 + 1 then d
    else
      let gen := nextGen (d.rd (F.wsetHandle.bank w) / 2 ^ 20)
      let d := (d.wr (F.wsetDef_base.bank w) base).wr (F.wsetDef_countM1.bank w) countM1
      let d := ((d.wr (F.wsetState_defined.bank w) 1).wr (F.wsetSwaps.bank w) 0).wr (F.wsetHandle.bank w) (gen * 2 ^ 20 + 0xF0000 + base)
      if d.wset.defined.contains w then d else d.setWset { d.wset with defined := insertBy id w d.wset.defined }

/-- WSET_DEF_WRITE: its own effect, then what follows at once. -/
def execWsetDefWrite (f : Nat) (v : Word) (s : State) : Host.Outcome State Fault Refusal := s.act (effectWsetDefWrite f v)

/-- The slot that a swap makes CURRENT: the other one, or where none is CURRENT the READY one. -/
def Dev.swapTo (d : Dev) (w : Nat) : Option Nat :=
  let other := if d.slotState w 0 = 3 then [1] else if d.slotState w 1 = 3 then [0] else [0, 1]
  other.find? (fun sl => d.slotState w sl == 2)

/-- WSET_SWAP (R365). -/
def effectWsetSwap (q i : Nat) (d : Dev) : Dev :=
  d.when (d.partReady q i 0 opWSET_SWAP) fun d =>
    let w := swapSet (d.cmdBody q i)
    match (if d.wset.defined.contains w then d.swapTo w else none) with
    | none => d.failPart q i 0 St.badField
    | some sl =>
      let old := if d.slotState w (1 - sl) = 3 then 2 - sl else 0
      let d := if old = 0 then d else d.setSlotState w (1 - sl) 4
      let d := (d.setSlotState w sl 3).inc (F.wsetSwaps.bank w) 1
      let pkg := mapGet 0 d.wset.pkgs (w * 2 + sl)
      let d := (d.wr ((F.wsetPkg 0).bank w) (pkg % 2 ^ 32)).wr ((F.wsetPkg 1).bank w) (pkg / 2 ^ 32)
      let d := d.setWset { d.wset with swapped := mapPut d.wset.swapped w (d.now + 1, old) }
      (d.raise wsetPage 2 St.ok).partRan q i 0 St.ok 0 0

/-- WSET_SWAP: its own effect, then what follows at once. -/
def execWsetSwap (q i : Nat) (s : State) : Host.Outcome State Fault Refusal := s.act (effectWsetSwap q i)

/-! ### Loading -/

/-- A LOAD_WPK's body is refused at its start (R367 step 1). -/
def Dev.loadBad (d : Dev) (c : Cmd) : Bool :=
  !d.wset.defined.contains (wpkSet c) || d.slotState (wpkSet c) (wpkSlot c) != 0 || !d.grpValid (wpkGroup c)
    || decide (d.grpSize (wpkGroup c) ≤ wpkRoot c)

/-- The place of this device in the chain. -/
def Dev.newLoad (d : Dev) (q i : Nat) (c : Cmd) : Load :=
  let g := wpkGroup c
  let n := d.grpSize g
  let me := d.grpRank g
  let pos := (me + n - wpkRoot c) % n
  let a := d.assist chainPage
  { q := q, i := i, set_ := wpkSet c, slot := wpkSlot c, group := g, assisted := a, since := d.now,
    pred := if a ∨ pos = 0 then none else some ((me + n - 1) % n),
    succ := if a ∨ pos + 1 = n then none else some ((me + 1) % n) }

/-- A read of the host's memory has failed for good (R368). -/
def Dev.loadPoison (d : Dev) (l : Load) : Dev :=
  let d := if l.succ.isSome then d.chainBroken l St.tierPoison else d
  if l.ended then d
  else match d.load? l.q l.i with
    | some l => d.loadFail l St.tierPoison
    | none => d

/-- LOAD_WPK (R367 steps 1 to 5): `tables` is what the host's memory answers to the device that reads there, [] before; `fail` where the
read has failed after its retries. -/
def effectLoadWpk (q i : Nat) (tables : List Byte) (fail : Bool) (d : Dev) : Dev :=
  d.when (d.partReady q i 0 opLOAD_WPK) fun d =>
    let c := d.cmdBody q i
    let d := match d.load? q i with
      | some _ => d
      | none =>
        if d.loadBad c then d.failPart q i 0 St.badField
        else
          let l := d.newLoad q i c
          (d.setWset { d.wset with loads := d.wset.loads ++ [l] }).setSlotState l.set_ l.slot 1
    match d.load? q i with
    | none => d
    | some l =>
      if l.pred.isSome ∨ l.tables ≠ [] then d
      else if fail then d.loadPoison l
      else if tables = [] then d
      else (d.takeTables l tables).chainAsk

/-- LOAD_WPK: its own effect, then what follows at once. -/
def execLoadWpk (q i : Nat) (tables : List Byte) (fail : Bool) (s : State) : Host.Outcome State Fault Refusal := s.act (effectLoadWpk q i tables fail)

/-- The chunk may be read from the host now: the next one in order, the tables known, at most 16 not yet sent on, and in ASSIST mode
present as the host has said. -/
def Load.reads (l : Load) (n : Nat) : Bool :=
  l.pred.isNone && l.tables != [] && decide (n < wpkChunks l.tables) && n + 1 == l.have_.length && decide (l.unsent < 16)
    && (!l.assisted || decide (n < l.avail)) && !(l.ended && l.succ.isNone)

/-- WPK_CHUNK (R367 steps 6 and 7): chunk `n` is read from the host's memory by the device that reads there, as `bytes`, and a chunk that
is here is decrypted once the key is there. -/
def effectWpkChunk (q i n : Nat) (bytes : List Byte) (fail : Bool) (d : Dev) : Dev :=
  d.when (d.partReady q i 0 opLOAD_WPK) fun d =>
    match d.load? q i with
    | none => d
    | some l =>
      if l.reads n ∧ fail then d.loadPoison l
      else
        let d := if l.reads n then d.takeChunk l n bytes else d
        match d.load? q i with
        | none => d
        | some l =>
          let d := match l.records.find? (fun r => r.1 == n) with
            | some r => if l.key ≠ [] then d.openChunk l n r.2 else d
            | none => d
          if l.assisted then d.chainAsk else d

/-- WPK_CHUNK: its own effect, then what follows at once. -/
def execWpkChunk (q i n : Nat) (bytes : List Byte) (fail : Bool) (s : State) : Host.Outcome State Fault Refusal := s.act (effectWpkChunk q i n bytes fail)

/-- CHAIN_ASSIST_DOORBELL (R370): the chunks now present; a count that does not exceed the previous one is ignored. -/
def effectChainAssistDoorbell (f h : Nat) (d : Dev) : Dev :=
  match d.wset.loads.find? (fun l => l.handle != 0 && l.handle == h) with
  | none => d.badDoorbell f chainPage
  | some l =>
    let n := d.rd F.tbnChainAvail
    if n ≤ l.avail then d
    else ((d.updLoad l.q l.i (fun l => { l with avail := n })).setFlag (hAssistWait chainPage) false).chainAsk

/-- CHAIN_ASSIST_DOORBELL: its own effect, then what follows at once. -/
def execChainAssistDoorbell (f h : Nat) (s : State) : Host.Outcome State Fault Refusal := s.act (effectChainAssistDoorbell f h)

/-! ### Partitions -/

/-- Two ranges of cores overlap. -/
def coresMeet (a n b m : Nat) : Bool := decide (a < b + m) && decide (b < a + n)

/-- The partition's cores would overlap another enabled one's, or a VF would own two (R373). -/
def Dev.partRefused (d : Dev) (p func first count : Nat) : Bool :=
  (List.range 8).any fun x =>
    x != p && d.flag (F.glbPart_enable x)
      && (coresMeet first count (d.rd (F.glbPart_coreFirst x)) (d.rd (F.glbPart_coreCount x)) || (func != 0 && d.partFunc x == func))

/-- PARTITION_WRITE (R372, R373): register `r` of partition `p`: 0 GLB_PART, 1 SEM_LIMIT, 2 BULK_Q. -/
def effectPartitionWrite (f p r : Nat) (v : Word) (d : Dev) : Dev :=
  d.when (decide (p < 8) && decide (r < 3)) fun d =>
    d.lockedWrite f (pfPage .glb 0 1) ((F.glbPart_enable p).addr + 4 * r) ((F.glbPart_enable p).addr + 4 * r) fun d =>
      let x := v.toNat
      if r = 0 then
        let func := bitsAt x 1 4
        let first := bitsAt x 5 6
        let count := bitsAt x 11 7
        if bitOf x 0 ∧ d.partRefused p func first count then d.raise (pfPage .glb 0 0) 1 St.ok
        else ((((d.wr (F.glbPart_enable p) (bitsAt x 0 1)).wr (F.glbPart_func p) func).wr (F.glbPart_coreFirst p) first).wr
          (F.glbPart_coreCount p) count)
      else if r = 1 then d.wr (F.glbPartSem_semLimit p) (let n := bitsAt x 0 17; if 1 ≤ n ∧ n ≤ 65536 then n else 65536)
      else d.wr (F.glbPartBulk_bulkQ p) (let n := bitsAt x 0 3; if 1 ≤ n ∧ n ≤ 4 then n else 1)

/-- PARTITION_WRITE: its own effect, then what follows at once. -/
def execPartitionWrite (f p r : Nat) (v : Word) (s : State) : Host.Outcome State Fault Refusal := s.act (effectPartitionWrite f p r v)

end Sys2Proof.Machine
end

