-- ==== Sys2Proof/Machine/Plan.lean ====
section
/-! DEFINITION. A command before it starts: its operands, its format check, the units it is split over and the hang bound of each part
(01_one_step_through_the_device.md R27; 03_klotchaex_command_stream.md R64 to R69, R81, R83; 09_arcade_engines.md R186). -/

namespace Sys2Proof.Machine

/-! ### Descriptors and operands -/

/-- A descriptor object as it stands: its newest readable copy. -/
def Dev.planBytes (d : Dev) (v h n : Nat) : Option Nat :=
  match d.resolve v h with
  | some (_, o) => (d.readAny o 0 n).map ofLeBytes
  | none => none

/-- The drain descriptor that a command would read now; the plain conversion for handle 0. -/
def Dev.planDesc (d : Dev) (v h : Nat) : Nat := if h = 0 then descNone else (d.planBytes v h 128).getD descNone

/-- The chain descriptor that a command would read now. -/
def Dev.planChain (d : Dev) (v h : Nat) : Nat := (d.planBytes v h 256).getD 0

def isArray (op : Nat) : Bool := decide (opMM ≤ op ∧ op ≤ opSLICE32)
def isArcade (op : Nat) : Bool := decide (opVX ≤ op ∧ op ≤ opSCATTER_ADD)
def isColl (op : Nat) : Bool := decide (opALLREDUCE ≤ op ∧ op ≤ opBARRIER)
def isTier (op : Nat) : Bool := decide (opMOVE ≤ op ∧ op ≤ opUNPIN)

/-- The handle of the drain descriptor of an array command. -/
def drainOf (c : Cmd) : Nat :=
  let op := cmdOpcode c
  if op = opMM ∨ op = opMM_T then mmDrain c else if op = opCONV then convDrain c else if op = opATTN then attnDrain c else 0

/-- The operands of an array or Arcade command whose descriptor is `x`. -/
def Dev.unitOpnds (d : Dev) (v x : Nat) (c : Cmd) : List Opnd :=
  let op := cmdOpcode c
  if op = opMM ∨ op = opMM_T then mmOpnds x c
  else if op = opCONV then convOpnds x c
  else if op = opATTN then attnOpnds x c
  else if op = opSLICE64 ∨ op = opSLICE32 then slOpnds c
  else if op = opVX then vxOpnds x c
  else if op = opSF then sfOpnds c
  else if op = opNORM then normOpnds c
  else if op = opROUTE then routeOpnds c
  else if op = opPERMUTE then d.permOpnds v c
  else if op = opCOMBINE then d.combOpnds v c
  else if op = opFFT then fftOpnds c
  else if op = opGATHER then gatOpnds c
  else if op = opSCATTER_ADD then scaOpnds c
  else []

/-- The operands of a command; none for those that touch no object's contents, or name objects under rules of their own (UPDATE,
STATS, LOAD_WPK, the tier and ledger commands). -/
def Dev.cmdOpnds (d : Dev) (v : Nat) (c : Cmd) : List Opnd :=
  if isColl (cmdOpcode c) then d.collOpnds v c false
  else d.unitOpnds v (if cmdOpcode c = opVX then d.planChain v (vxChain c) else d.planDesc v (drainOf c)) c

/-- Destinations: written operands but for statistics slots (R65, R80). -/
def destinations (l : List Opnd) : List Opnd := l.filter (fun a => a.write && !a.stat)

/-- A destination lies in scratch (R80). -/
def Dev.writesScratch (d : Dev) (v : Nat) (c : Cmd) : Bool :=
  (destinations (d.cmdOpnds v c)).any (fun a =>
    match d.resolve v a.handle with
    | some (_, o) => o.kind == kSCRATCH
    | none => false)

/-- A command with FLAGS.STEP = 0 touches step-scoped space (R64). -/
def Dev.touchesStep (d : Dev) (v : Nat) (c : Cmd) : Bool :=
  (d.cmdOpnds v c).any (fun a =>
    match d.resolve v a.handle with
    | some (_, o) => o.kind == kSTEP
    | none => false)

/-! ### The format check (R66) -/

/-- The body checks of an opcode's chapter. -/
def Dev.bodyBad (d : Dev) (v : Nat) (c : Cmd) : Bool :=
  let op := cmdOpcode c
  if op = opWAIT then cmdCount c == 0 || decide (8 < cmdCount c)
  else if op = opSIGNAL then cmdCount c == 0 || decide (8 < cmdCount c) || (List.range (cmdCount c)).any (fun k => slotVal c k == 0)
  else if op = opSTAMP then stampAddr c % 8 != 0
  else if op = opSTEP_OPEN then Sys2Proof.Machine.openStep c % 4 != cmdStepTag c
  else if op = opRESTORE then rstSource c == 3 || rstHostAddr c % 4096 != 0 || (rstSource c != 2 && rstHostAddr c != 0)
  else if op = opMM ∨ op = opMM_T then d.mmBad v c
  else if op = opCONV then d.convBad v c
  else if op = opATTN then d.attnBad v c
  else if op = opSLICE64 ∨ op = opSLICE32 then d.slBad v c
  else if op = opVX then engBad 1 (vxEngFirst c) (vxEngCount c)
  else if op = opSF then d.sfBad v c
  else if op = opNORM then d.normBad v c
  else if op = opROUTE then d.routeBad v c
  else if op = opPERMUTE then d.permBad v c
  else if op = opCOMBINE then d.combBad v c
  else if op = opFFT then d.fftBad v c
  else if op = opGATHER then d.gatBad v c
  else if op = opSCATTER_ADD then d.scaBad v c
  else if isTier op then d.tierBad v c
  else if isColl op then collFieldBad c
  else if op = opUPDATE ∨ op = opSTATS then d.updBad v c
  else if op = opGROUP_CFG then grpBad c
  else if op = opLOAD_WPK then wpkSet c == 0 || wpkHostAddr c % 4096 != 0
  else false

/-- A semaphore index at or above the partition's SEM_LIMIT in a field that is read. -/
def Dev.semBad (d : Dev) (p : Nat) (c : Cmd) : Bool :=
  let lim := d.rd (F.glbPartSem_semLimit p)
  let op := cmdOpcode c
  (cmdWaitEn c && decide (lim ≤ cmdWaitSem c)) || (cmdSigEn c && decide (lim ≤ cmdSigSem c))
    || ((op == opWAIT || op == opSIGNAL) && (List.range (min (cmdCount c) 8)).any (fun k => decide (lim ≤ slotSem c k)))

/-- A RESHARD whose NEW_EPOCH is not the job's next layout epoch (15_groups_and_collectives.md R353). -/
def Dev.epochBad (d : Dev) (q : Nat) (c : Cmd) : Bool :=
  cmdOpcode c == opRESHARD && reshNewEpoch c != (d.rd (F.colLayout (d.qJob q)) + 1) % 2 ^ 16

/-- The status of the first check of R66 that fails; `excess` for a command beyond the 4,096th of its layer (R77). -/
def Dev.formatStatus (d : Dev) (q v : Nat) (c : Cmd) (excess : Bool) : Option Nat :=
  let op := cmdOpcode c
  if !definedOpcodes.contains op then some St.badOpcode
  else if cmdVer c ≠ 1 then some St.badVersion
  else if reservedSet c then some St.reservedNonzero
  else if cmdPartition c != d.qPart q || (cmdSigEn c && cmdSigInc c == 0) || d.semBad (d.qPart q) c
      || (stepOnly op && !cmdStep c) || (stepNever op && cmdStep c) || excess || d.bodyBad v c || d.epochBad q c || (!cmdStep c && d.touchesStep v c) then
    some St.badField
  else none

/-! ### Units of a command -/

/-- First core and cores of an array command. -/
def coreRange (c : Cmd) : Nat × Nat :=
  let op := cmdOpcode c
  if op = opMM ∨ op = opMM_T then (mmCoreFirst c, mmCoreCount c)
  else if op = opCONV then (convCoreFirst c, convCoreCount c)
  else if op = opATTN then (attnCoreFirst c, attnCoreCount c)
  else (slCoreFirst c, slCoreCount c)

/-- Parts of a command (R81). -/
def cmdParts (c : Cmd) : Nat :=
  let op := cmdOpcode c
  if op = opMM ∨ op = opMM_T then mmCount c
  else if op = opCONV then convCount c
  else if op = opATTN then attnCount c
  else if op = opSLICE64 ∨ op = opSLICE32 then slCount c
  else if isArcade op then arcadeCount c
  else 1

/-- The unit type, first unit and unit count of the range that a command is split over. -/
def Dev.cmdRange (d : Dev) (v : Nat) (c : Cmd) : Nat × Nat × Nat :=
  let op := cmdOpcode c
  if isArray op then
    let r := coreRange c
    (0, d.coreOf v r.1 0, r.2)
  else if isArcade op then
    let r := engRange c
    (engType op, r.1, r.2)
  else if op = opUPDATE ∨ op = opSTATS then (14, d.updStack v c, 1)
  else (255, 0, 1)

/-- The units that may take a part which finds none in its range: the partition's cores, the type's engines (R27). -/
def Dev.spareUnits (d : Dev) (v t : Nat) : List Nat :=
  if t = 0 then range' (d.rd (F.glbPart_coreFirst (viewPart v))) (d.rd (F.glbPart_coreCount (viewPart v)))
  else List.range (unitActive t)

/-- The unit that part `p` runs on (R27, R186): its own, the lowest working one of the range, or the lowest outside it. -/
def Dev.placeOf (d : Dev) (v : Nat) (c : Cmd) (p : Nat) : Option Nat :=
  let r := d.cmdRange v c
  if 10 < r.1 then some r.2.1
  else if d.works r.1 (r.2.1 + p) then some (r.2.1 + p)
  else match (range' r.2.1 r.2.2).find? (d.works r.1) with
    | some l => some l
    | none => (d.spareUnits v r.1).find? (d.works r.1)

/-! ### Hang bounds (R83) -/

/-- Bytes that a tier command moves, at most: its whole range. -/
def Dev.tierQns (d : Dev) (v : Nat) (c : Cmd) : Nat :=
  match d.resolve v (tierObject c) with
  | none => 0
  | some (_, o) =>
    let us := tierUnits o c
    let n := sumBy o.unitLen us
    let t2 := (cmdOpcode c == opMOVE && tierTier c == 2) || (cmdOpcode c == opEVICT && tierTier c == 1)
      || us.any (fun u => (o.unit u).t0 == tsABSENT && (o.unit u).t1 == tsABSENT)
    if t2 then ceilDiv (4 * n) 115 else ceilDiv n 512

/-- The time of part `p` at its unit's peak rate, in qns; none for a command whose chapter gives no rate (its bound saturates). -/
def Dev.peakQns (d : Dev) (v j : Nat) (c : Cmd) (p : Nat) : Option Nat :=
  let op := cmdOpcode c
  if op = opMM ∨ op = opMM_T then some (macQns (d.mmWork v c p) (pairMacs (mmAFmt c) (mmBFmt c)))
  else if op = opCONV then some (macQns (d.convWork v c p) (pairMacs (convAFmt c) (convBFmt c)))
  else if op = opATTN then some (arrayQns (attnCycles c p - 422))
  else if op = opSLICE64 ∨ op = opSLICE32 then some (slQns c p)
  else if isArcade op then some (arcadeTime (if op = opVX then d.planChain v (vxChain c) else 0) c p)
  else if isTier op then some (d.tierQns v c)
  else if op = opUPDATE ∨ op = opSTATS then
    let w := updWork (d.grpCurrent j (updGroup c)) c (op == opSTATS)
    some (if op = opUPDATE ∧ d.assist (acrPage (d.updStack v c) 0) then ceilDiv w 128 else updQns w)
  else if op = opLOAD_WPK then some (ceilDiv (wpkPkgLen c) 6 + 2 * msQ)
  else if isColl op ∨ isLedgerOp op then none
  else some 0

/-- The hang bound of part `p` (R83); 0 for a WAIT without one. -/
def Dev.partBound (d : Dev) (q v : Nat) (c : Cmd) (p : Nat) : Nat :=
  if cmdBound c ≠ 0 then cmdBound c * 10 * usQ
  else if cmdOpcode c = opWAIT then 0
  else
    let floor := d.timeout (pfPage .kqp (q / 16) 0) (200 * usQ)
    match d.peakQns v (d.qJob q) c p with
    | some t => min (3600 * secQ) (max floor (max 1 (d.rd (F.kqpBoundCfg_factor (q / 16))) * t))
    | none => 3600 * secQ

/-! ### What a part needs when it runs -/

/-- The part's view of its descriptor, read once (06_drain_and_backward_pass.md R126). -/
def Dev.partDesc (d : Dev) (x : PartId) (h n : Nat) : Nat := ofLeBytes (d.read0 (d.partObj x h).2 0 n)

/-- The part's command and view. -/
def Dev.partView (d : Dev) (x : PartId) : Nat := d.viewAt x.q x.i

/-- Another part occupies the unit: its work is done there and it has not ended. -/
def Dev.unitTaken (d : Dev) (x : PartId) (t l : Nat) : Bool :=
  d.runningParts.any (fun r => r.2.2.2.utype == t && r.2.2.2.unit == l && r.2.2.2.ran && !(r.1 == x.q && r.2.1 == x.i && r.2.2.1 == x.p))

/-- A part of the same command whose own unit is `l` has not ended: a part moved there waits for it (R27). -/
def nativeRunning (e : CmdEx) (first l p : Nat) : Bool :=
  decide (first ≤ l) && l - first != p && ((e.parts[l - first]?).map (fun y => !y.ended)).getD false

/-- Where the part may run now: its unit works and is free, in no reset and, for a core, in no localisation; none while it waits. -/
def Dev.seat (d : Dev) (x : PartId) : Option Nat :=
  match d.cmdAt x.q x.i with
  | none => none
  | some e =>
    let v := d.partView x
    let r := d.cmdRange v e.cmd
    match d.placeOf v e.cmd x.p with
    | none => none
    | some l =>
      let key := (d.physOf r.1 l).map (unitKey r.1)
      let busy := d.spr.resets.any (fun z => some z.unit == key)
        || (r.1 == 0 && d.ccr.loc.any (fun z => some (unitKey 0 z.1) == key))
        || d.unitTaken x r.1 l || (l != r.2.1 + x.p && nativeRunning e r.2.1 l x.p)
      if busy then none else some l

/-- The part is placed on its unit. -/
def Dev.sit (d : Dev) (x : PartId) (l : Nat) : Dev :=
  match d.cmdAt x.q x.i with
  | none => d
  | some e =>
    match e.parts[x.p]? with
    | none => d
    | some y => d.setCmd x.q { e with parts := setNth e.parts x.p { y with unit := l } }

/-- The physical unit that a running part sits on. -/
def Dev.seated (d : Dev) (x : PartId) : Nat :=
  match (d.cmdAt x.q x.i).bind (fun e => e.parts[x.p]?) with
  | some y => (d.physOf y.utype y.unit).getD 0
  | none => 0

/-- No unit of the type is left for the part (R27). -/
def Dev.noUnit (d : Dev) (x : PartId) (c : Cmd) : Bool := (d.placeOf (d.partView x) c x.p).isNone

/-- The whole of an object that a repeat has widened counts as touched: its tensors lie elsewhere than the body says. -/
def Dev.wholeWide (d : Dev) (v : Nat) (a : Opnd) : Opnd :=
  let o := (d.objOf v a.handle).2
  if o.fmt = 0x1F then a else { a with off := 0, len := o.bytes }

/-- Every operand of the part is in T0 and held. -/
def Dev.inPlace (d : Dev) (x : PartId) (l : List Opnd) : Bool := d.allReady x (l.map (d.wholeWide (d.partView x)))

/-- The part runs on its unit: nothing where it is not due or no unit of its range is free, a failure where none is left (R27). -/
def Dev.onUnit (d : Dev) (x : PartId) (op : Nat) (act : Dev → Cmd → Nat → Dev) : Dev :=
  d.when (d.partReady x.q x.i x.p op) fun d =>
    let c := d.cmdBody x.q x.i
    if d.noUnit x c then d.failPart x.q x.i x.p St.noResource
    else match d.seat x with
    | none => d
    | some l => act (d.sit x l) c (d.partView x)

/-- The part reads the `n` bytes of its descriptor once they are in T0 (R126): `bad` where its object is too small for one. -/
def Dev.withWord (d : Dev) (x : PartId) (h n : Nat) (bad : Dev → Dev) (act : Dev → Nat → Dev) : Dev :=
  let v := d.partView x
  if d.absent v h then d.failPart x.q x.i x.p St.objectAbsent
  else if d.beyond v (bytesOpnd h 0 n) then bad d
  else if d.inPlace x [bytesOpnd h 0 n] then act d (d.partDesc x h n) else d

/-- The part's operands: an absent object or a write that isolation refuses fails it (R96, R113); it waits until all are in T0. -/
def Dev.gate (d : Dev) (x : PartId) (l : List Opnd) (act : Dev → Dev) : Dev :=
  match d.operandFault (d.partView x) l with
  | some st => if st = St.protectedAccess then d.isolate x st else d.failPart x.q x.i x.p st
  | none => if d.inPlace x l then act d else d

end Sys2Proof.Machine
end

