-- ==== Sys2Proof/Machine/Report.lean ====
section
/-! DEFINITION. What follows a SATURATE or NONFINITE value: the layer is repeated in wider formats, or fails
(07_formats_and_scaling.md R161 to R163). -/

namespace Sys2Proof.Machine

/-- KQP_REPEAT_CNT of the queue's processor, and of the view page of the VF that owns the queue (R62), counts a repeat or an exhausted
ladder. -/
def Dev.countRepeat (d : Dev) (q : Nat) (exhausted : Bool) : Dev :=
  let d := d.incSat (if exhausted then F.kqpRepeatCnt_exhausted (q / 16) else F.kqpRepeatCnt_repeats (q / 16)) 1
  match d.viewIndex q with
  | some (n, v) => d.incSat (viewRepeat n v 0x84 (if exhausted then 16 else 0) 16) 1
  | none => d

/-- KQP_REPEAT_LAST of the queue's processor and of the view page names the layer, its execution and the queue (R62, R162). -/
def Dev.showRepeat (d : Dev) (q layer exec : Nat) : Dev :=
  let d := ((d.wr (F.kqpRepeatLast_layer (q / 16)) layer).wr (F.kqpRepeatLast_exec (q / 16)) exec).wr (F.kqpRepeatLast_queue (q / 16)) (q % 16)
  match d.viewIndex q with
  | some (n, v) =>
    ((d.wr (viewRepeat n v 0x80 0 20) layer).wr (viewRepeat n v 0x80 20 2) exec).wr (viewRepeat n v 0x80 24 4) (v % 16)
  | none => d

/-- The next format of the ladder, 0x1F where there is none (table Format ladder). -/
def ladder : Nat → Nat
  | 0x7 => 0x3 | 0x5 => 0x3 | 0x6 => 0x3
  | 0xC => 0x9 | 0xA => 0x9 | 0xB => 0x9
  | 0x2 => 0x0 | 0x3 => 0x0 | 0x4 => 0x0 | 0x8 => 0x0 | 0x9 => 0x0 | 0xD => 0x0 | 0x1 => 0x0
  | 0x0 => 0xE
  | _ => 0x1F

/-- The format in which a command's object stands now, given the format its body names. -/
def Obj.format (o : Obj) (code : Nat) : Nat := if o.fmt = 0x1F then code else o.fmt

/-- The status of a part that fails: OVERFLOW_EXHAUSTED for SATURATE, NONFINITE for NONFINITE. -/
def reportStatus : Cls → Nat
  | .nonfinite => St.nonfinite
  | _ => St.overflowExhausted

/-- An object that a command adds into (ACC = 1, in-place Arcade work, column sums); statistics slots are none (R161). -/
def adds (l : List Opnd) : List Nat := (l.filter (fun a => a.acc && !a.stat)).map (fun a => a.handle)

/-- Objects that a command writes without adding. -/
def setsAnew (l : List Opnd) : List Nat := (l.filter (fun a => a.write && !a.acc && !a.stat)).map (fun a => a.handle)

/-- Some command of a list, in ring order, adds into an object that no earlier one of the list wrote first. `seen` are the objects
written so far. -/
def Dev.addsUnwritten (d : Dev) (q : Nat) : List Nat → List CmdEx → Bool
  | _, [] => false
  | seen, e :: es =>
    let l := d.cmdOpnds (d.viewAt q e.count) e.cmd
    (adds l).any (fun h => !seen.contains h) || d.addsUnwritten q (seen ++ setsAnew l) es

/-- The conditions of R161 on the commands of a run that have started in this execution. -/
def Dev.repeatable (d : Dev) (q : Nat) (r : LayerRun) : Bool :=
  let es := (d.queue q).runCmds r.id
  es.all (fun e => cmdStep e.cmd && !e.scratch) && !d.addsUnwritten q [] es && decide (r.repeats < 2) && !r.failed

def Dev.updRun (d : Dev) (q run : Nat) (f : LayerRun → LayerRun) : Dev :=
  let x := d.queue q
  d.setQueue q { x with runs := x.runs.map (fun r => if r.id = run then f r else r) }

/-- A part's work is done and its outputs were classed `c`: nothing to report, a report that marks its layer for a repeat, a later
report of an execution already marked, or a failure (R161). `fmt` is the format its primary output was written in. -/
def Dev.finish (d : Dev) (x : PartId) (c : Cls) (fmt info work : Nat) : Dev :=
  if c ≠ .saturate ∧ c ≠ .nonfinite then d.partRan x.q x.i x.p 0 info work
  else
    match d.cmdAt x.q x.i with
    | none => d
    | some e =>
      match (d.queue x.q).runs.find? (fun r => r.id == e.run) with
      | none => d.partRan x.q x.i x.p (reportStatus c) 0 work
      | some r =>
        if r.flagged then d.partRan x.q x.i x.p 0 info work
        else if d.repeatable x.q r ∧ ladder fmt ≠ 0x1F then
          (d.updRun x.q r.id (fun r => { r with flagged := true, reporter := x.i, reportPart := x.p })).partRan x.q x.i x.p 0 info work
        else
          let d := if r.failed then d else d.countRepeat x.q true
          (d.updRun x.q r.id (fun r => { r with failed := true })).partRan x.q x.i x.p (reportStatus c) 0 work

/-! ### The repeat (R162) -/

/-- The tensors a layer writes whose format the ladder lists: step-scoped objects, each once, with the format the bodies name. -/
def Dev.widened (d : Dev) (q : Nat) (r : LayerRun) : List (Nat × Nat) :=
  let all := r.copies.flatMap (fun (x : Nat × Cmd) =>
    let v := d.viewAt q x.1
    let v := if cmdStep x.2 then d.qPart q + 8 * (d.job (d.qJob q)).binds else v
    (destinations (d.cmdOpnds v x.2)).filterMap (fun a =>
      match d.resolve v a.handle with
      | some (k, o) => if o.kind = kSTEP ∧ ladder (o.format a.fmt) ≠ 0x1F then some (k, a.fmt) else none
      | none => none))
  all.foldl (fun l y => if l.any (fun z => z.1 == y.1) then l else l ++ [y]) []

/-- One object one step up the ladder: the earlier copies are released, the new one is allocated in step-scoped space; none where
there is no room. -/
def Dev.widen (d : Dev) (k code : Nat) : Option Dev :=
  match d.obj? k with
  | none => some d
  | some o =>
    let old := o.format code
    let d := (List.range o.unitCount).foldl (fun d u => d.dropT0 k u) d
    let d := d.freeExtents o.owner o.extA
    let d := d.setTir { d.tir with writeBacks := d.tir.writeBacks.filter (fun w => w.1 != k) }
    match d.obj? k with
    | none => some d
    | some o =>
      let o := { o with fmt := ladder old, wasL := if o.fmt = 0x1F then o.sizeL else o.wasL, extA := [], units := [],
                        sizeL := widenBytes old (ladder old) o.bytes / 64 }
      (List.range o.unitCount).foldl (fun acc u =>
        acc.bind (fun (d : Dev) => (d.alloc0 k u tsRESIDENT).map (fun (d : Dev) => d.setUnit k u { d.unitOf k u with dirty0 := true })))
        (some (d.setObj k o))

def Dev.widenAll (d : Dev) : List (Nat × Nat) → Option Dev
  | [] => some d
  | (k, f) :: l => match d.widen k f with
    | some d => d.widenAll l
    | none => none

/-- What an UPDATE of the earlier execution left in the attempt's write set is taken back: it will be written again. -/
def Dev.undoUpdate (d : Dev) (q : Nat) (e : CmdEx) : Dev :=
  if cmdOpcode e.cmd = opUPDATE ∧ !e.failed then
    let j := d.qJob q
    let v := d.viewAt q e.count
    let keys := [updMaster e.cmd, updMom1 e.cmd, updMom2 e.cmd, updTwinF e.cmd, updTwinT e.cmd].map (fun h => (d.objOf v h).1)
    let x := d.job j
    let d := d.setJob j { x with flips := x.flips.filter (fun k => !keys.contains k), writeSet := x.writeSet.filter (· != updMaster e.cmd),
                                 updatesDone := x.updatesDone - 1 }
    d.setAcr { d.acr with sums := d.acr.sums.filter (fun s => not (s.job == j && s.master == updMaster e.cmd)) }
  else d

/-- The layer's commands wait to start again, first those of the copies, then what the queue held behind them. -/
def Dev.refill (d : Dev) (q : Nat) (r : LayerRun) : Dev :=
  let x := d.queue q
  let es := x.runCmds r.id
  let head := match x.fetched.head? with
    | some (n, _, run) => if x.waited && run == r.id then [n] else []
    | none => []
  let r' := { r with repeats := r.repeats + 1, flagged := false, wider := true, reporter := 0, reportPart := 0,
                     firstStart := es.foldl (fun m e => if (mapLook m e.count).isSome then m else mapPut m e.count e.start) r.firstStart,
                     handles := es.foldl (fun m e => if e.handle = 0 then m else mapPut m e.count e.handle) r.handles,
                     waited := r.waited ++ es.map (fun e => e.count) ++ head }
  let d := d.setCol { d.col with colls := d.col.colls.filter (fun k => not (k.q == q && es.any (fun e => e.count == k.i))) }
  d.setQueue q { x with fetched := r.copies.map (fun y => (y.1, y.2, r.id)) ++ x.fetched.filter (fun y => y.2.2 != r.id),
                        exec := x.exec.filter (fun e => e.run != r.id), waited := x.waited && head == [],
                        runs := x.runs.map (fun y => if y.id = r.id then r' else y) }

/-- An allocation of the repeat fails: the command of the first report fails with QUOTA_EXCEEDED and stops the queue. -/
def Dev.repeatFails (d : Dev) (q : Nat) (r : LayerRun) : Dev :=
  let d := d.updRun q r.id (fun r => { r with flagged := false, failed := true })
  match (d.queue q).exec.find? (fun e => e.count == r.reporter) with
  | none => d
  | some e =>
    let e := { e with parts := match e.parts[r.reportPart]? with
      | some y => setNth e.parts r.reportPart { y with status := St.quotaExceeded }
      | none => e.parts }
    ((d.setCmd q e).raise mktPage 5 St.quotaExceeded (d.causeOf q e.cmd)).stopQueue q e

/-- LAYER_REPEAT (R162): every started part of the reported layer has ended; its tensors are widened, KQP page 1 bit 17 is set and the
layer runs again from its first command. A layer one of whose commands has failed in another way, or whose queue is being disabled, is
not repeated and drains. -/
def effectLayerRepeat (q run : Nat) (d : Dev) : Dev :=
  let x := d.queue q
  match x.runs.find? (fun r => r.id == run) with
  | none => d
  | some r =>
    let es := x.runCmds run
    d.when (r.flagged && es.all (fun e => e.fin)) fun d =>
      if es.any (fun e => e.failed) ∨ x.disabling then d.updRun q run (fun r => { r with flagged := false, failed := true })
      else
        match d.widenAll (d.widened q r) with
        | none => (d.repeatFails q r).qSettle q
        | some d =>
          let d := es.foldl (fun d e => d.undoUpdate q e) d
          let c : Cause := (es.head?.map (fun e => d.causeOf q e.cmd)).getD {}
          let d := d.raiseQueue q (fun _ => 17) St.repeatedWider c
          let d := (d.showRepeat q r.layer (r.repeats + 1)).countRepeat q false
          let j := d.qJob q
          let d := match d.newest j with
            | some y => d.setJob j { d.job j with ring := mapPut (d.job j).ring (d.rd (F.ldgJobState_head j)) { y with repeats := satAdd 16 y.repeats 1 } }
            | none => d
          (d.refill q r).qSettle q

/-- LAYER_REPEAT: its own effect, then what follows at once. -/
def execLayerRepeat (q run : Nat) (s : State) : Host.Outcome State Fault Refusal := s.act (effectLayerRepeat q run)

end Sys2Proof.Machine
end

