-- ==== Sys2Proof/Machine/Drain.lean ====
section
/-! DEFINITION. The drain: its functions, the stages of one tile of outputs, classes and counts, side copies
(06_drain_and_backward_pass.md R125 to R134; 07_formats_and_scaling.md R150 to R157). -/

namespace Sys2Proof.Machine

/-! ### Functions and derivatives (R129, R130) -/

/-- A value that a rule gives exactly, or none where it gives only an error bound (log entry 21). -/
def sigmoidExact (x : FVal) : Option FVal :=
  if !x.isFinite then none
  else if x.lt (.ofInt (-104)) then some .zero
  else if FVal.lt (.ofNat 17) x then some .one
  else none

/-- max(0, x). -/
def relu (x : FVal) : FVal := FVal.max .zero x

/-- y = f(x) for the functions of one argument. -/
def fnExact (f : Nat) (x : FVal) : Option FVal :=
  match f with
  | 0 => some x
  | 1 => some (relu x)
  | 2 => some (r32 ((relu x).mul (relu x)))
  | 5 => (sigmoidExact x).map (fun s => r32 (x.mul s))
  | 6 => sigmoidExact x
  | 8 => if x.isFinite ∧ FVal.lt (.ofNat 20) x then some x else none
  | _ => none

/-- f(x), rounded to FP32. -/
def fnVal (f : Nat) (x : FVal) : FVal := (fnExact f x).getD (r32 (Config.funcUnit 0 f [x]))

/-- The gate g of a gated function. -/
def gateExact (f : Nat) (b : FVal) : Option FVal :=
  match f with
  | 16 => sigmoidExact b
  | 17 => fnExact 5 b
  | 19 => some (relu b)
  | _ => none

/-- a · g(b). -/
def gatedVal (f : Nat) (a b : FVal) : FVal :=
  match gateExact f b with
  | some g => r32 (a.mul g)
  | none => r32 (Config.funcUnit 0 f [a, b])

/-- f′ from the saved value, Z (src 0) or Y (src 1), where it is exact. -/
def derivExact (f src : Nat) (z : FVal) : Option FVal :=
  match f with
  | 0 => some .one
  | 1 => some (if FVal.lt .zero z then .one else .zero)
  | 2 => if src = 0 then some (r32 ((relu z).scale 1)) else some (r32 ((r32 z.root).scale 1))
  | 8 => if src = 0 then sigmoidExact z else none
  | _ => none

/-- x · f′(saved). -/
def derivVal (f src : Nat) (x z : FVal) : FVal :=
  match derivExact f src z with
  | some g => r32 (x.mul g)
  | none => r32 (Config.funcUnit 0 (32 + f + 64 * src) [x, z])

/-- da = x · g(b) and db = x · a · g′(b). -/
def gatedDeriv (f : Nat) (x a b : FVal) : FVal × FVal :=
  (match gateExact f b with
    | some g => r32 (x.mul g)
    | none => r32 (Config.funcUnit 0 (32 + f) [x, b]),
   if f = 19 then r32 ((r32 (x.mul a)).mul (if FVal.lt .zero b then .one else .zero))
   else r32 (Config.funcUnit 0 (96 + f) [x, a, b]))

/-! ### One part's drain -/

/-- What a part's drain works from: the device as the part found it, the descriptor, the written tensor and its object, the product's
rows and columns, and the keys of its draws. -/
structure DrainIn where
  d : Dev
  x : PartId
  desc : Nat
  out : Tens
  obj : Obj
  m : Nat
  n : Nat
  ip : Bool
  acc : Bool
  seed : Nat
  step : Nat

/-- What it has done so far: T0, its counts, the largest |y|, the first flagged class, and the code and array column
of the last flagged value or masked row. -/
structure DrainSt where
  mem : Memory
  outs : Nat := 0
  sat : Nat := 0
  nf : Nat := 0
  ftz : Nat := 0
  sub : Nat := 0
  pftz : Nat := 0
  masked : Nat := 0
  amax : FVal := .zero
  first : Option Cls := none
  last : Option (Nat × Nat) := none

/-- An object of the part. -/
def DrainIn.o (g : DrainIn) (h : Nat) : Obj := (g.d.partObj g.x h).2

/-- The written tensor as its object holds it. -/
def DrainIn.t (g : DrainIn) : Tens := g.out.in g.obj

/-- The INT32 sum stays exact (R125). -/
def DrainIn.exact (g : DrainIn) : Bool := g.ip && !dScaleEn g.desc && !dBiasEn g.desc && g.t.code == 0xF

def DrainIn.gated (g : DrainIn) : Bool := dGatedFwd g.desc || dGatedBwd g.desc

/-- The integer nearest to zero that a value holds. -/
def FVal.toInt : FVal → Int
  | .fin s m e => let n := Int.ofNat (inUnits m e 0).1; if s then -n else n
  | _ => 0

/-- INT32 addition with wrapping. -/
def wrapAdd (x y : FVal) : FVal := FVal.ofInt (signedOf 32 (unsignedOf 32 (x.toInt + y.toInt)))

/-- The existing value of the destination. -/
def DrainIn.old (g : DrainIn) (r c : Nat) : FVal := g.d.elem g.obj g.t r c

/-- Stages 1 and 2 for product column `j` of row `r`. -/
def DrainIn.stage2 (g : DrainIn) (r j : Nat) (a : FVal) : FVal :=
  let x := if g.exact then a else if dScaleEn g.desc then r32 ((r32 a).mul (dScale g.desc)) else r32 a
  let x := if g.acc && !g.gated then (if g.exact then wrapAdd x (g.old r j) else r32 (x.add (g.old r j))) else x
  if dBiasEn g.desc then r32 (x.add (g.d.f32At (g.o (dBias g.desc).1) ((dBias g.desc).2 + 4 * j))) else x

/-- An element of the saved tensor. -/
def DrainIn.saved (g : DrainIn) (r c : Nat) : FVal :=
  let o := g.o (dSaved g.desc).1
  g.d.elem o ((savedTens g.desc g.m g.n).in o) r c

/-- An element of ROWVEC. -/
def DrainIn.rowvec (g : DrainIn) (r : Nat) : FVal := g.d.f32At (g.o (dRowvec g.desc).1) ((dRowvec g.desc).2 + 4 * r)

/-- Stage 4: the outputs that product column `j` of row `r` completes, as (written column, y). `z` gives stage 2's values. -/
def DrainIn.stage4 (g : DrainIn) (r j : Nat) (z : Nat → FVal) : List (Nat × FVal) :=
  let f := dFn g.desc
  let add (c : Nat) (y : FVal) : Nat × FVal := (c, if g.acc then r32 (y.add (g.old r c)) else y)
  if dGatedFwd g.desc then (if j % 2 = 1 then [add (j / 2) (gatedVal f (z (j - 1)) (z j))] else [])
  else if dGatedBwd g.desc then
    let y := gatedDeriv f (z j) (g.saved r (2 * j)) (g.saved r (2 * j + 1))
    [add (2 * j) y.1, add (2 * j + 1) y.2]
  else if dFunc g.desc then
    [(j, if f = 24 then r32 (Config.funcUnit 0 24 [z j, g.rowvec r])
         else if f = 25 then r32 (Config.funcUnit 0 25 [g.saved r j, z j, g.rowvec r]) else fnVal f (z j))]
  else if dDeriv g.desc ∧ f ≠ 0 then [(j, derivVal f (dDsrc g.desc) (z j) (g.saved r j))]
  else [(j, z j)]

/-- Stage 7. -/
def DrainIn.stage7 (g : DrainIn) (y : FVal) : FVal := if dTscale g.desc = 0 then y else r32 (y.scale (dTscale g.desc))

/-- The rounding of an output: stochastic with SR, site 0, by the element's place in the whole output (R154). -/
def DrainIn.rnd (g : DrainIn) (pass r c : Nat) : Rnd :=
  if dSr g.desc then .draw (draw16 g.seed g.step (dStream g.desc) 0 pass (r * g.out.cols + c)) else .near

/-- Consecutive columns cut where a block of 32 ends. -/
def blocks32 (l : List (Nat × FVal)) : List (List (Nat × FVal)) :=
  ((l.map (fun x => x.1 / 32)).eraseDups).map (fun b => l.filter (fun x => x.1 / 32 == b))

/-- Stages 8 to 10 of one row of outputs: memory and the class of each, in the row's order. -/
def DrainIn.putRow (g : DrainIn) (m : Memory) (r : Nat) (ys : List (Nat × FVal)) : Memory × List Cls :=
  let t := g.t
  if g.exact then
    (ys.foldl (fun m y => putRaw m g.obj t r y.1 (unsignedOf 32 y.2.toInt)) m, ys.map (fun _ => .plain))
  else if codeMx t.code then
    (blocks32 ys).foldl (fun (acc : Memory × List Cls) bl =>
      let q := mxBlock t.code (bl.map (fun y => (g.stage7 y.2, g.rnd 0 r y.1)))
      let c0 := (bl.head?.map (fun y => y.1)).getD 0
      (putByte (Machine.putRow acc.1 g.obj t r c0 (q.2.map (fun e => e.1))) g.obj (t.scaleAt r c0) q.1, acc.2 ++ q.2.map (fun e => e.2))) (m, [])
  else
    ys.foldl (fun (acc : Memory × List Cls) y =>
      let e := encodeElem t.code (g.rnd 0 r y.1) (g.stage7 y.2)
      (putRaw acc.1 g.obj t r y.1 e.1, acc.2 ++ [e.2])) (m, [])

/-- Stages 3 and 5: the save tensor, rounded to nearest and saturating, not classified. -/
def DrainIn.putSave (g : DrainIn) (m : Memory) (r : Nat) (l : List (Nat × FVal)) : Memory :=
  let o := g.o (dSaveT g.desc).1
  let t := (saveTens g.desc g.m g.n).in o
  l.foldl (fun m y => putRaw m o t r y.1 (encodeElem t.code .near y.2).1) m

/-- The transposed-quantised copy of a tile's rows (R134): blocks run down 32 rows of the command's output; where the primary has become
non-MX the copy is plain, in the new format. `done` tells which rows have drained. -/
def DrainIn.putCopy (g : DrainIn) (m : Memory) (r0 nr done : Nat) (rows : List (List (Nat × FVal))) : Memory :=
  let o := g.o (dCopy g.desc).1
  let t := (copyTens g.desc g.out.code g.m g.n).in o
  let all := (rows.zipIdx).flatMap (fun x => x.1.map (fun y => (r0 + x.2, y.1, g.stage7 y.2)))
  if !codeMx t.code then all.foldl (fun m y => putRaw m o t y.1 y.2.1 (encodeElem t.code (g.rnd 1 y.1 y.2.1) y.2.2).1) m
  else
    let bs := ((range' r0 nr).map (fun r => r / 32)).eraseDups.filter (fun b => decide (min (32 * b + 32) (r0 + nr) ≤ r0 + done))
    let cols := ((rows.head?.getD []).map (fun y => y.1))
    bs.foldl (fun m b => cols.foldl (fun m c =>
      let bl := all.filter (fun y => y.1 / 32 == b && y.2.1 == c)
      let q := mxBlock t.code (bl.map (fun y => (y.2.2, g.rnd 1 y.1 c)))
      let ra := (bl.head?.map (fun y => y.1)).getD 0
      putByte (putCol m o t c ra (q.2.map (fun e => e.1))) o (t.scaleAt ra c) q.1) m) m

/-- Stage 6 at the end of a chunk (R133): each column's exact sum, rounded once, is added by an FP32 reduction write. -/
def DrainIn.putSums (g : DrainIn) (m : Memory) (rows : List (List (Nat × FVal))) : Memory :=
  let o := g.o (dColsumV g.desc).1
  let at_ (c : Nat) : Nat := (dColsumV g.desc).2 + 4 * c
  ((rows.head?.getD []).map (fun y => y.1)).foldl (fun m c =>
    let s := r32 (rows.foldl (fun s l => (l.filter (fun y => y.1 == c)).foldl (fun s y => s.add y.2) s) FVal.zero)
    let old := ofLeBytes ((List.range 4).map (fun i => m.read (o.addr0 (at_ c + i))))
    putWord m o (at_ c) 4 (addElem 0 .near old (fp32.ieeeCode .near s))) m

/-- Values of two classes are flagged. -/
def Cls.flagged : Cls → Bool
  | .saturate => true
  | .nonfinite => true
  | _ => false

/-- The code of a class in CCR_DRN_LAST. -/
def Cls.code : Cls → Nat
  | .nonfinite => 1
  | _ => 0

/-- A tile's counts: `cl` lists (row in the tile, array column, class). Values leave the array in the order row + column (R104). -/
def DrainSt.count (s : DrainSt) (cl : List (Nat × Nat × Cls)) : DrainSt :=
  let n (c : Cls) : Nat := (cl.filter (fun e => e.2.2 == c)).length
  let fl := sortBy (fun e => (e.1 + e.2.1) * 128 + e.2.1) (cl.filter (fun e => e.2.2.flagged))
  { s with outs := s.outs + cl.length, sat := s.sat + n .saturate, nf := s.nf + n .nonfinite, ftz := s.ftz + n .ftz,
           sub := s.sub + n .subnormal, first := s.first.or (fl.head?.map (fun e => e.2.2)),
           last := (fl.getLast?.map (fun e => (e.2.2.code, e.2.1))).or s.last }

/-- The drain of one tile: product rows `r0 …`, product columns `c0 …` (array column 0 on), `acc` the accumulated values; `done` of the
rows have drained (all of them but where a checksum mismatch ends the part). -/
def DrainIn.tile (g : DrainIn) (s : DrainSt) (r0 nr c0 nc done : Nat) (acc : Nat → Nat → FVal) : DrainSt :=
  let js := range' c0 nc
  let rows := (range' r0 (min done nr)).map (fun r =>
    let zs := js.map (fun j => (j, g.stage2 r j (acc r j)))
    let z (j : Nat) : FVal := nthD (zs.map (fun y => y.2)) (j - c0) .zero
    (r, zs, js.flatMap (fun j => (g.stage4 r j z).map (fun y => (y, j - c0)))))
  let ys (row : Nat × List (Nat × FVal) × List ((Nat × FVal) × Nat)) : List (Nat × FVal) := row.2.2.map (fun y => y.1)
  let put := rows.foldl (fun (a : DrainSt × List (Nat × Nat × Cls)) row =>
    let m := if dSave g.desc then g.putSave a.1.mem row.1 (if dSaveWhat g.desc = 0 then row.2.1 else ys row) else a.1.mem
    let w := g.putRow m row.1 (ys row)
    ({ a.1 with mem := w.1, amax := (ys row).foldl (fun x y => if y.2.isFinite then x.max y.2.abs else x) a.1.amax },
     a.2 ++ List.zipWith (fun (y : (Nat × FVal) × Nat) c => (row.1 - r0, y.2, c)) row.2.2 w.2)) (s, [])
  let m := if dTcopy g.desc then g.putCopy put.1.mem r0 nr (min done nr) (rows.map ys) else put.1.mem
  let m := if dColsum g.desc ∧ nr ≤ done then g.putSums m (rows.map ys) else m
  { put.1 with mem := m }.count put.2

/-! ### The end of a part's drain -/

/-- Counts added to a statistics slot by INT32 reduction writes (R132). -/
def putCounts (m : Memory) (o : Obj) (slot : Nat) (l : List Nat) : Memory :=
  (l.zipIdx).foldl (fun m e =>
    let off := 32 * slot + 4 * e.2
    putWord m o off 4 ((ofLeBytes ((List.range 4).map (fun i => m.read (o.addr0 (off + i)))) + e.1) % 2 ^ 32)) m

def DrainIn.putStats (g : DrainIn) (m : Memory) (l : List Nat) : Memory := putCounts m (g.o (dStatsH g.desc)) (dStatSlot g.desc) l

/-- The units of an operand that the part's T0 copy holds are dirty. -/
def Dev.soil (d : Dev) (x : PartId) (a : Opnd) : Dev :=
  let e := d.partObj x a.handle
  let a := d.wholeWide (d.partView x) a
  match d.obj? e.1 with
  | none => d
  | some o => d.setObj e.1 ((e.2.unitsOf a.off a.len).foldl (fun (o : Obj) u =>
      if (o.unit u).base0 = (e.2.unit u).base0 ∧ (o.unit u).valid0 then o.setUnit u { o.unit u with dirty0 := true } else o) o)

/-- KEEP tags the save tensor and the copy (R143). -/
def Dev.tagKeep (d : Dev) (x : PartId) (desc : Nat) : Dev :=
  if dKeep desc = 0 then d
  else ((if dSave desc then [(dSaveT desc).1] else []) ++ (if dTcopy desc then [(dCopy desc).1] else [])).foldl (fun d h =>
    let k := (d.partObj x h).1
    match d.obj? k with
    | some o => d.setObj k { o with keep := dKeep desc }
    | none => d) d

def drnPage (p : Nat) : Page := pfPage .ccr p 2

/-- What a part's drain leaves in its core and in memory, whether the part succeeded or failed. -/
def Dev.drained (d : Dev) (g : DrainIn) (s : DrainSt) (opnds : List Opnd) : Dev :=
  let p := d.seated g.x
  let c := d.cmdBody g.x.q g.x.i
  let cause := d.causeOf g.x.q c
  let m := if dStats g.desc then g.putStats s.mem [s.outs, s.sat, s.nf, s.ftz, s.sub, s.pftz, s.masked] else s.mem
  let d := (opnds.filter (fun a => a.write)).foldl (fun d a => d.soil g.x a) (d.setT0 m)
  let d := d.tagKeep g.x g.desc
  let d := (d.incSat (F.ccrDrnSat_sat p) s.sat).incSat (F.ccrDrnSat_nonfinite p) s.nf
  let d := (d.incSat (F.ccrDrnFtz_ftz p) s.ftz).incSat (F.ccrDrnSub_sub p) s.sub
  let d := d.incSat (F.ccrAttnCnt_maskedRows p) s.masked
  let d := match s.last with
    | some (k, col) => ((d.wr (F.ccrDrnLast_layer p) (cmdLayer c)).wr (F.ccrDrnLast_class p) k).wr (F.ccrDrnLast_col p) (col % 128)
    | none => d
  let d := if s.masked = 0 then d else d.raise (drnPage p) 3 St.ok cause
  let d := if s.sat = 0 then d else d.raise (drnPage p) 0 St.ok cause
  let d := if s.nf = 0 then d else d.raise (drnPage p) 1 St.nonfinite cause
  if dStats g.desc then d.raiseAmax (d.qJob g.x.q) (dStatSlot g.desc) s.amax else d

/-- A rejected descriptor (R127): BAD_FIELD, DESC_BAD, CCR_DRN_LAST class 2. -/
def Dev.descRejected (d : Dev) (x : PartId) : Dev :=
  let p := d.seated x
  let c := d.cmdBody x.q x.i
  let d := (d.wr (F.ccrDrnLast_layer p) (cmdLayer c)).wr (F.ccrDrnLast_class p) 2
  (d.raise (drnPage p) 2 St.badField (d.causeOf x.q c)).failPart x.q x.i x.p St.badField

/-- The drain of a part. -/
def Dev.drainIn (d : Dev) (x : PartId) (desc : Nat) (handle : Nat) (out : Tens) (m n : Nat) (ip acc : Bool) : DrainIn :=
  let j := d.qJob x.q
  { d := d, x := x, desc := desc, out := out, obj := (d.partObj x handle).2, m := m, n := n, ip := ip, acc := acc, seed := (d.job j).seed,
    step := if cmdStep (d.cmdBody x.q x.i) then ((d.newest j).map (fun r => r.step)).getD 0 else 0 }

end Sys2Proof.Machine
end

