-- ==== Sys2Proof/Machine/Array.lean ====
section
/-! DEFINITION. The matrix array: passes and the accumulator, MM, MM_T and CONV, the checksum column and localisation, attention, the power
ramp (05_matrix_array.md R103 to R124; 06_drain_and_backward_pass.md R136 to R139; 07_formats_and_scaling.md R151 to R154, R163). -/

namespace Sys2Proof.Machine

/-! ### One pass (R103 to R106, R121, R122) -/

/-- A partial sum moves through a cell: the cell's exact products are added, FP32 sums rounded, INT32 sums exact (log entry 20). -/
def cellAdd (ip : Bool) (acc e : FVal) : FVal :=
  let x := acc.add e
  if ip then x else fp32.ieee' (if Config.cellUp acc x then .up else .down) x

/-- The sum that leaves a column for the products of a row with its weights, `mu` to a cell. -/
def column (ip : Bool) (mu : Nat) (row weights : List FVal) : FVal :=
  (chunksOf mu (List.zipWith FVal.mul row weights)).foldl (fun acc g => cellAdd ip acc (g.foldl FVal.add .zero)) .zero

/-- The column sums c_k or d_k that the checksum cells hold. -/
def checkSums (cols : List (List FVal)) : List FVal :=
  match cols with
  | [] => []
  | w :: ws => ws.foldl (fun s w => List.zipWith (cellAdd false) s w) (w.map r32)

/-- A row of a pass is not checked: an output, s_m or S_m is not finite (R122). INT8 sums are always finite. -/
def rowSkipped (ip : Bool) (mu : Nat) (row outs cs ds : List FVal) : Bool :=
  !ip && (outs.any (fun y => !y.isFinite) || !(column false mu row cs).isFinite || !(column false mu (row.map FVal.abs) ds).isFinite)

/-- One pass of rows against the live columns of a weight tile: its outputs, and how many rows were not checked. -/
def passRows (ip : Bool) (mu : Nat) (rows cols : List (List FVal)) : List (List FVal) × Nat :=
  let cs := checkSums cols
  let ds := checkSums (cols.map (fun w => w.map FVal.abs))
  let outs := rows.map (fun r => cols.map (column ip mu r))
  (outs, (List.zipWith (fun r o => rowSkipped ip mu r o cs ds) rows outs).count true)

/-- The addition of a K pass's sum into the accumulator: INT32 exact; FP32 rounded once, to nearest or, in a long chain, by a draw
(R107, R151, R153). -/
def accAdd (ip : Bool) (draw : Option Nat) (old x : FVal) : FVal :=
  let z := old.add x
  if ip then z
  else match draw with
    | none => r32 z
    | some r =>
      if (fp32.decode fp32.top).lt z.abs then .inf z.isNeg else fp32.ieee' (.draw r) z

/-- The two BF16 halves of an FP32 operand's element (R173). -/
def hiHalf (x : FVal) : FVal := bf16.decode (bf16.conv .near x).1
def loHalf (x : FVal) : FVal := hiHalf (x.sub (hiHalf x))

/-! ### A part's product -/

/-- What a part multiplies: its drain, formats, reduction length and factors. `a s g r k` and `b s g k c` are the streamed and the
stationary element of group `g` in product `s` of R173 (2 for a part that runs one); `row0` and `col0` say where a group's product lies in the whole one. -/
structure Product where
  g : DrainIn
  ip : Bool
  wide : Bool
  k : Nat
  mu : Nat
  stream : Nat
  srMin : Nat
  a : Nat → Nat → Nat → Nat → FVal
  b : Nat → Nat → Nat → Nat → FVal
  row0 : Nat → Nat := fun _ => 0
  col0 : Nat → Nat := fun _ => 0

/-- The half of an operand that product `s` of R173 reads, where the part runs three products. -/
def halfA (wide : Bool) (s : Nat) (x : FVal) : FVal := if !wide then x else if s = 0 then loHalf x else hiHalf x
def halfB (wide : Bool) (s : Nat) (x : FVal) : FVal := if !wide then x else if s = 1 then loHalf x else hiHalf x

/-- A tile: its group, its rows and its columns. -/
structure TileAt where
  grp : Nat
  r0 : Nat
  nr : Nat
  c0 : Nat
  nc : Nat

/-- The passes of a tile, in order: product of R173 (2 for a part that runs one), K block. -/
def Product.passes (z : Product) : List (Nat × Nat) :=
  let kbs := List.range (ceilDiv z.k (128 * z.mu))
  (if z.wide then [0, 1, 2] else [2]).flatMap (fun s => kbs.map (fun b => (s, b)))

/-- The tiles of a part, groups outside, then chunks of `chunk` rows, then N blocks (R106, R118). -/
def tilesOf (chunk g0 ng r0 nr c0 nc : Nat) : List TileAt :=
  (range' g0 ng).flatMap (fun g => (List.range (ceilDiv nr chunk)).flatMap (fun i => (List.range (ceilDiv nc 128)).map (fun j =>
    ⟨g, r0 + i * chunk, min chunk (nr - i * chunk), c0 + j * 128, min 128 (nc - j * 128)⟩)))

/-- The outputs of one pass, and how many rows it left unchecked. -/
def Product.run (z : Product) (t : TileAt) (s b : Nat) : List (List FVal) × Nat :=
  let ks := range' (b * 128 * z.mu) (min (128 * z.mu) (z.k - b * 128 * z.mu))
  passRows z.ip z.mu ((range' t.r0 t.nr).map (fun r => ks.map (z.a s t.grp r)))
    ((range' t.c0 t.nc).map (fun c => ks.map (fun k => z.b s t.grp k c)))

/-- The draw of an accumulator addition, where the chain takes one (R153, R154). -/
def Product.draw (z : Product) (s b row col : Nat) : Option Nat :=
  if z.srMin = 65536 ∨ (if z.wide then 3 * z.k else z.k) ≤ z.srMin then none
  else
    let e := row * z.g.n + col
    let st := if z.wide then s else z.stream
    some (if b < 512 then draw16 z.g.seed z.g.step st 1 b e else Config.freeDraw st b e % 65536)

/-- A pass's outputs enter the accumulator; the first pass of a tile writes it. -/
def Product.accumulate (z : Product) (t : TileAt) (s b : Nat) (old : Option (List (List FVal))) (new : List (List FVal)) : List (List FVal) :=
  match old with
  | none => new
  | some old =>
    (List.zipWith (fun (o n : List FVal) => o.zip n) old new).zipIdx.map (fun row =>
      row.1.zipIdx.map (fun y =>
        accAdd z.ip (z.draw s b (z.row0 t.grp + t.r0 + row.2) (z.col0 t.grp + t.c0 + y.2)) y.1.1 y.1.2))

/-- A part's run so far: the drain, passes, rows not checked. -/
structure ArrayRun where
  s : DrainSt
  passes : Nat := 0
  skipped : Nat := 0

/-- A tile's first `n` passes, and its accumulated values. In the pass `n`, when `fault` names a row, the outputs of that row are a failed
cell's: a free value. -/
def Product.fill (z : Product) (t : TileAt) (n : Nat) (fault : Option Nat) : Option (List (List FVal)) × Nat :=
  ((z.passes.take n).zipIdx).foldl (fun (st : Option (List (List FVal)) × Nat) e =>
    let r := z.run t e.1.1 e.1.2
    let outs := match fault with
      | some row => if e.2 + 1 = n then r.1.zipIdx.map (fun y => if y.2 = row then y.1.map (fun v => r32 (Config.funcUnit 2 0 [v])) else y.1) else r.1
      | none => r.1
    (some (z.accumulate t e.1.1 e.1.2 st.1 outs), st.2 + r.2)) (none, 0)

/-- A tile of `n` passes, of whose rows `done` drain. -/
def Product.tile (z : Product) (st : ArrayRun) (t : TileAt) (n : Nat) (fault : Option Nat) (done : Nat) : ArrayRun :=
  let f := z.fill t n fault
  let at_ (r c : Nat) : FVal := nthD (nthD (f.1.getD []) (r - (z.row0 t.grp + t.r0)) []) (c - (z.col0 t.grp + t.c0)) .zero
  { s := if done = 0 then st.s else z.g.tile st.s (z.row0 t.grp + t.r0) t.nr (z.col0 t.grp + t.c0) t.nc done at_,
    passes := st.passes + n, skipped := st.skipped + f.2 }

/-- Every tile, whole. -/
def Product.tiles (z : Product) (ts : List TileAt) (st : ArrayRun) : ArrayRun :=
  ts.foldl (fun st t => z.tile st t z.passes.length none t.nr) st

/-! ### The end of a part on its core -/

/-- Pass and skip counts, and the drain's work, are left behind. -/
def Dev.coreCounts (d : Dev) (core passes skipped : Nat) : Dev :=
  let d := d.wr (F.ccrPasses_passes core) ((d.rd (F.ccrPasses_passes core) + passes) % 2 ^ 32)
  d.incSat (F.ccrCsCnt_skipped core) skipped

/-- The array runs from a part's work on; it stops 64 idle cycles after the part has ended (R119). -/
def Dev.coreOn (d : Dev) (core : Nat) : Dev := d.setCcr { d.ccr with on := mapPut d.ccr.on core (d.now + 1) }

/-- A part has run. -/
def Dev.arrayDone (d : Dev) (g : DrainIn) (r : ArrayRun) (opnds : List Opnd) (fmt work : Nat) : Dev :=
  let core := d.seated g.x
  (((d.drained g r.s opnds).coreCounts core r.passes r.skipped).coreOn core).finish g.x (r.s.first.getD .plain) fmt 0 work

/-- A row fails its check (R124): what the part had written stays, the part ends with CHECKSUM_MISMATCH, the core takes a D0 reset and goes
into localisation. -/
def Dev.arrayMismatch (d : Dev) (g : DrainIn) (r : ArrayRun) (opnds : List Opnd) (row : Nat) : Dev :=
  let core := d.seated g.x
  let cause := d.causeOf g.x.q (d.cmdBody g.x.q g.x.i)
  let d := (d.drained g r.s opnds).coreCounts core r.passes r.skipped
  let d := (d.incSat (F.ccrCsCnt_mismatch core) 1).wr (F.ccrCsLast_row core) (row % 4096)
  let d := (d.wr (F.ccrCsLast_locCol core) 0xFF).wr (F.ccrCsLast_locRow core) 0xFF
  let d := d.raise (pfPage .ccr core 1) 0 St.checksumMismatch cause
  let d := d.setCcr { d.ccr with loc := mapPut d.ccr.loc core d.now }
  (d.endPart g.x.q g.x.i g.x.p St.checksumMismatch).beginReset 0 (unitKey 0 core)

/-- Run a product's tiles, up to the mismatch where there is one; a mismatch that names no pass, row or drained rows of the part is no
event of it. -/
def Dev.runProd (d : Dev) (z : Product) (ts : List TileAt) (bad : Option CsFault) (opnds : List Opnd) (fmt work : Nat) : Dev :=
  let st : ArrayRun := { s := { mem := d.t0 } }
  match bad with
  | none => d.arrayDone z.g (z.tiles ts st) opnds fmt work
  | some f =>
    let np := z.passes.length
    let n := f.pass % np + 1
    match ts[f.pass / np]? with
    | none => d
    | some t =>
      if t.nr ≤ f.row ∨ t.nr < f.rows ∨ (n < np ∧ f.rows ≠ 0) then d
      else d.arrayMismatch z.g (z.tile (z.tiles (ts.take (f.pass / np)) st) t n (some f.row) f.rows) opnds f.row

/-! ### The descriptor of an array part -/

/-- A part reads and checks its descriptor, or converts only where DRAIN is 0 (R126, R127). `l` are the operands its body names. -/
def Dev.withDesc (d : Dev) (x : PartId) (h : Nat) (l : List Opnd) (bad : Dev → Nat → Bool) (act : Dev → Nat → Dev) : Dev :=
  if l.any (fun a => d.absent (d.partView x) a.handle) then d.failPart x.q x.i x.p St.objectAbsent
  else if h = 0 then act d descNone
  else d.withWord x h 128 (fun d => d.descRejected x) (fun d y => if bad d y then d.descRejected x else act d y)

/-- The format in which an operand stands now. -/
def Dev.actual (d : Dev) (x : PartId) (h code : Nat) : Nat := (d.partObj x h).2.format code

/-- The saved tensor that the descriptor reads stands in a format the drain does not accept (R163). -/
def Dev.savedUnfit (d : Dev) (x : PartId) (desc : Nat) : Bool :=
  dReadsSaved desc && !([0x0, 0x1, 0xE] : List Nat).contains (d.actual x (dSaved desc).1 (dSavedFmt desc))

/-- A command that would receive a format it does not accept (R163). -/
def Dev.unfit (d : Dev) (x : PartId) : Dev := d.failPart x.q x.i x.p St.overflowExhausted

/-! ### MM and MM_T (R112) -/

/-- The drain descriptor `y` does not fit the command (R126, R127). -/
def Dev.mmRejects (d : Dev) (v : Nat) (c : Cmd) (y : Nat) : Bool :=
  d.descBad v y (mmCFmt c) (mmM c) (mmN c) (mmAFmt c == 0x4) false ((mmOpnds descNone c).take 2) ((mmC c (drainCols y (mmN c))).opnd (mmCHandle c) true)
    || (mmC c (drainCols y (mmN c))).pitchBad

/-- MM and MM_T. -/
def Dev.runMm (d : Dev) (x : PartId) (op : Nat) (bad : Option CsFault) : Dev :=
  d.onUnit x op fun d c v =>
    let m := mmM c
    let n := mmN c
    d.withDesc x (mmDrain c) ((mmOpnds descNone c).take 3) (fun d y => d.mmRejects v c y) fun d y =>
      let l := mmOpnds y c
      d.gate x l fun d =>
        let fa := d.actual x (mmAHandle c) (mmAFmt c)
        let fb := d.actual x (mmBHandle c) (mmBFmt c)
        if d.savedUnfit x y then d.unfit x
        else
          let oa := (d.partObj x (mmAHandle c)).2
          let ob := (d.partObj x (mmBHandle c)).2
          let ta := (mmA c).in oa
          let tb := (mmB c).in ob
          let g := d.drainIn x y (mmCHandle c) (mmC c (drainCols y n)) m n (fa == 0x4 && fb == 0x4) (mmAcc c == 1)
          let wide := fa == 0xE || fb == 0xE
          let z : Product := {
            g := g, ip := g.ip, wide := wide, k := mmK c, mu := pairMacs fa fb, stream := dStream y,
            srMin := d.rd F.glbSrCfg_srMinChain,
            a := fun s _ r k => halfA wide s (if mmTa c = 1 then d.elem oa ta k r else d.elem oa ta r k),
            b := fun s _ k j => halfB wide s (if mmTb c = 1 then d.elem ob tb j k else d.elem ob tb k j) }
          let r := mmPart c x.p
          d.runProd z (tilesOf 4096 0 1 r.1 r.2.1 r.2.2.1 r.2.2.2) bad l (g.obj.format (mmCFmt c)) (d.mmWork v c x.p)

/-- MM (R112). `bad` names the pass and row whose checksum fails, if one does. -/
def effectMm (q i p : Nat) (bad : Option CsFault) (d : Dev) : Dev := d.runMm ⟨q, i, p⟩ opMM bad

/-- MM: its own effect, then what follows at once. -/
def execMm (q i p : Nat) (bad : Option CsFault) (s : State) : Host.Outcome State Fault Refusal := s.act (effectMm q i p bad)

/-- MM_T (R112): one operand or both read transposed through the Underpass. -/
def effectMmT (q i p : Nat) (bad : Option CsFault) (d : Dev) : Dev := d.runMm ⟨q, i, p⟩ opMM_T bad

/-- MM_T: its own effect, then what follows at once. -/
def execMmT (q i p : Nat) (bad : Option CsFault) (s : State) : Host.Outcome State Fault Refusal := s.act (effectMmT q i p bad)

/-! ### CONV (R114 to R118) -/

/-- A batch index and coordinates along z, y, x, from a position of dimensions `dz`, `dy`, `dx`. -/
def unflat (dz dy dx p : Nat) : Nat × Nat × Nat × Nat := (p / (dx * dy * dz), p / (dx * dy) % dz, p / dx % dy, p % dx)

def flat (dz dy dx n z y x : Nat) : Nat := ((n * dz + z) * dy + y) * dx + x

/-- The input coordinate of output point `o` and kernel offset `f`; none where the feeder supplies 0 (R115, R116). -/
def ConvDim.coord (x : ConvDim) (o f : Nat) : Option Nat :=
  let i := Int.ofNat (o * x.s + f * x.l) - Int.ofNat x.lo
  let top := Int.ofNat x.d
  if 0 ≤ i ∧ i < top then some i.toNat
  else if x.mode = 0 then none
  else if x.mode = 1 then some (if i < 0 then (-i).toNat else (2 * (top - 1) - i).toNat)
  else some (i % top).toNat

/-- The output position that contributes to input position `i` through kernel offset `f`; none where the term is 0 (R117). -/
def ConvDim.back (x : ConvDim) (i f : Nat) : Option Nat :=
  let n := Int.ofNat (i + x.lo) - Int.ofNat (f * x.l)
  let n := if x.mode = 2 then n % Int.ofNat x.d else n
  let s := Int.ofNat (max x.s 1)
  if n < 0 ∨ n % s ≠ 0 ∨ x.outI ≤ n / s then none else some (n / s).toNat

/-- Three coordinates, all of them present. -/
def all3 (z y x : Option Nat) : Option (Nat × Nat × Nat) := z.bind fun z => y.bind fun y => x.map fun x => (z, y, x)

/-- Kernel offsets along z, y, x and channel of a reduction index with `cg` channels. -/
def kernelAt (c : Cmd) (cg k : Nat) : (Nat × Nat × Nat) × Nat :=
  let u := unflat (convZ c).f (convY c).f (convX c).f (k / cg)
  (u.2, k % cg)

/-- The row of X that output position `o` reads at kernel offset `f`. -/
def convIn (c : Cmd) (o : Nat) (f : Nat × Nat × Nat) : Option Nat :=
  let u := unflat (convZ c).out (convY c).out (convX c).out o
  (all3 ((convZ c).coord u.2.1 f.1) ((convY c).coord u.2.2.1 f.2.1) ((convX c).coord u.2.2.2 f.2.2)).map
    (fun i => flat (convZ c).d (convY c).d (convX c).d u.1 i.1 i.2.1 i.2.2)

/-- The row of dY that contributes to input position `i` at kernel offset `f`. -/
def convBack (c : Cmd) (i : Nat) (f : Nat × Nat × Nat) : Option Nat :=
  let u := unflat (convZ c).d (convY c).d (convX c).d i
  (all3 ((convZ c).back u.2.1 f.1) ((convY c).back u.2.2.1 f.2.1) ((convX c).back u.2.2.2 f.2.2)).map
    (fun o => flat (convZ c).out (convY c).out (convX c).out u.1 o.1 o.2.1 o.2.2)

/-- Row and column of the streamed tensor for product row `r` and reduction index `k` of group `g`. The reduction of DGRAD runs in the
order in which the twin stores its kernel, each offset reversed (R114). -/
def convStream (c : Cmd) (g r k : Nat) : Option Nat × Nat :=
  let ci := convCin c / convG c
  let co := convCout c / convG c
  if convPass c = 0 then
    let f := kernelAt c ci k
    (convIn c r f.1, g * ci + f.2)
  else if convPass c = 1 then
    let f := kernelAt c co k
    (convBack c r ((convZ c).f - 1 - f.1.1, (convY c).f - 1 - f.1.2.1, (convX c).f - 1 - f.1.2.2), g * co + f.2)
  else
    let f := kernelAt c ci r
    (convIn c k f.1, g * ci + f.2)

/-- The drain descriptor `y` does not fit the command (R126, R127). -/
def Dev.convRejects (d : Dev) (v : Nat) (c : Cmd) (y : Nat) : Bool :=
  d.descBad v y (convCFmt c) (convRows c) (convCols c) (convAFmt c == 0x4) false ((convOpnds descNone c).take 2)
    ((convOp2 c (drainCols y (convCols c))).opnd (convOp2Handle c) true) || (dGatedFwd y && convN c % 2 == 1)

/-- CONV. -/
def Dev.runConv (d : Dev) (x : PartId) (bad : Option CsFault) : Dev :=
  d.onUnit x opCONV fun d c v =>
    let n := convCols c
    d.withDesc x (convDrain c) ((convOpnds descNone c).take 3) (fun d y => d.convRejects v c y) fun d y =>
      let l := convOpnds y c
      d.gate x l fun d =>
        let fa := d.actual x (convOp0Handle c) (convAFmt c)
        let fb := d.actual x (convOp1Handle c) (convBFmt c)
        if d.savedUnfit x y then d.unfit x
        else
          let oa := (d.partObj x (convOp0Handle c)).2
          let ob := (d.partObj x (convOp1Handle c)).2
          let ta := (convOp0 c).in oa
          let tb := (convOp1 c).in ob
          let g := d.drainIn x y (convOp2Handle c) (convOp2 c (drainCols y n)) (convRows c) n (fa == 0x4 && fb == 0x4) (convAcc c == 1)
          let wide := fa == 0xE || fb == 0xE
          let z : Product := {
            g := g, ip := g.ip, wide := wide, k := convK c, mu := pairMacs fa fb, stream := dStream y,
            srMin := d.rd F.glbSrCfg_srMinChain,
            a := fun s gr r k => match convStream c gr r k with
              | (some row, col) => halfA wide s (d.elem oa ta row col)
              | (none, _) => .zero,
            b := fun s gr k j =>
              halfB wide s (if convPass c = 2 then d.elem ob tb k (gr * convN c + j) else d.elem ob tb (gr * convK c + k) j),
            row0 := fun gr => if convPass c = 2 then gr * convM c else 0,
            col0 := fun gr => if convPass c = 2 then 0 else gr * convN c }
          let r := convPart c x.p
          d.runProd z (tilesOf 4096 r.1 r.2.1 r.2.2.1 r.2.2.2.1 r.2.2.2.2.1 r.2.2.2.2.2) bad l (g.obj.format (convCFmt c)) (d.convWork v c x.p)

/-- CONV (R114 to R118). -/
def effectConv (q i p : Nat) (bad : Option CsFault) (d : Dev) : Dev := d.runConv ⟨q, i, p⟩ bad

/-- CONV: its own effect, then what follows at once. -/
def execConv (q i p : Nat) (bad : Option CsFault) (s : State) : Host.Outcome State Fault Refusal := s.act (effectConv q i p bad)

/-! ### ATTN (R136 to R138) -/

/-- What an ATTN part works from. -/
structure Attn where
  g : DrainIn
  c : Cmd
  qk : Nat
  mv : Nat
  vCode : Nat
  srMin : Nat
  q : Nat → Nat → Nat → FVal
  k : Nat → Nat → Nat → FVal
  v : Nat → Nat → Nat → FVal

/-- A row's running maximum, sum and accumulated output. -/
structure AttnRow where
  m : FVal := .inf true
  l : FVal := .zero
  acc : List FVal := []

/-- exp(a − b), rounded to FP32: 0 for a masked key. -/
def expDiff (a b : FVal) : FVal := if a = .inf true then .zero else r32 (Config.funcUnit 0 9 [a, b])

/-- Rounding of an attention sum: to nearest, or in a long chain by a free draw, for which R154 gives no terms. -/
def Attn.round (z : Attn) (long : Bool) (tag : Nat) (x : FVal) : FVal :=
  if !long then r32 x
  else if (fp32.decode fp32.top).lt x.abs then .inf x.isNeg
  else fp32.ieee' (.draw (Config.freeDraw (dStream z.g.desc) 0x400 tag % 65536)) x

/-- A chain of `n` products takes stochastic rounding. -/
def Attn.long (z : Attn) (n : Nat) : Bool := z.srMin != 65536 && decide (z.srMin < n)

/-- A key block leaves work for a chunk: some key of it is unmasked for some row. -/
def chunkWorks (c : Cmd) (r0 nr t : Nat) : Bool :=
  decide (t * 128 < attnS c) && !(attnMasked c (r0 + nr - 1) (t * 128))

/-- The chunks of a unit of the split: head and group. -/
def attnChunks (c : Cmd) (u : Nat) : List (Nat × Nat) :=
  let g := u % attnGroups c
  ((List.range 3).map (fun i => g * 384 + i * 128)).filterMap (fun r0 => if r0 < attnM c then some (r0, min 128 (attnM c - r0)) else none)

/-- Passes of a chunk for one key block that leaves it work. -/
def Attn.blockPasses (z : Attn) : Nat := ceilDiv (attnD z.c) (128 * z.qk) + ceilDiv (attnDv z.c) 128

/-- Passes of a unit. -/
def Attn.unitPasses (z : Attn) (u : Nat) : Nat :=
  z.blockPasses * sumBy (fun ch => ((List.range (ceilDiv (attnS z.c) 128)).filter (chunkWorks z.c ch.1 ch.2)).length) (attnChunks z.c u)

/-- The scores of a chunk's rows with a key block: s_ij = SCALE × (q_i · k_j), and the rows not checked. -/
def Attn.scores (z : Attn) (h r0 nr t nk : Nat) : List (List FVal) × Nat :=
  let kb := 128 * z.qk
  let d := attnD z.c
  let blocks := (List.range (ceilDiv d kb)).map (fun b =>
    let ks := range' (b * kb) (min kb (d - b * kb))
    passRows false z.qk ((range' r0 nr).map (fun i => ks.map (z.q h i))) ((range' (t * 128) nk).map (fun j => ks.map (z.k h j))))
  let dots := blocks.foldl (fun (old : Option (List (List FVal))) b =>
    some (match old with
      | none => b.1
      | some o => (List.zipWith (fun (x y : List FVal) => x.zip y) o b.1).zipIdx.map (fun row => row.1.zipIdx.map (fun e =>
          z.round (z.long d) ((h * attnM z.c + r0 + row.2) * attnS z.c + t * 128 + e.2) (e.1.1.add e.1.2))))) none
  ((dots.getD []).map (fun row => row.map (fun s => r32 ((fp32.decode (attnScale z.c)).mul s))), sumBy (fun b => b.2) blocks)

/-- One key block of a chunk (R136 steps 1 to 6): the rows, P_FTZ values and rows not checked. -/
def Attn.block (z : Attn) (h r0 nr : Nat) (st : List AttnRow × Nat × Nat) (t : Nat) : List AttnRow × Nat × Nat :=
  let nk := min 128 (attnS z.c - t * 128)
  let sc := z.scores h r0 nr t nk
  let stats := (st.1.zip sc.1).zipIdx.map (fun e =>
    let s := e.1.2.zipIdx.map (fun y => if attnMasked z.c (r0 + e.2) (t * 128 + y.2) then FVal.inf true else y.1)
    let m' := s.foldl FVal.max e.1.1.m
    let p := s.map (fun y => expDiff y m')
    let al := expDiff e.1.1.m m'
    (m', al, r32 (p.foldl FVal.add (al.mul e.1.1.l)), p.map (fun y => encodeElem z.vCode .near y)))
  let ps := stats.map (fun e => e.2.2.2.map (fun y => decodeElem z.vCode y.1))
  let vs := (List.range (ceilDiv (attnDv z.c) 128)).map (fun b =>
    passRows false z.mv ps ((range' (b * 128) (min 128 (attnDv z.c - b * 128))).map (fun j => (range' (t * 128) nk).map (fun k => z.v h k j))))
  let rows := (st.1.zip stats).zipIdx.map (fun e =>
    let pv := vs.flatMap (fun b => nthD b.1 e.2 [])
    { m := e.1.2.1, l := e.1.2.2.1,
      acc := pv.zipIdx.map (fun y => z.round (z.long (attnS z.c)) (((h * attnM z.c + r0 + e.2) * 256 + y.2) * 512 + t)
        ((e.1.2.2.1.mul (nthD e.1.1.acc y.2 .zero)).add y.1)) : AttnRow })
  let ftz := sumBy (fun e => (e.2.2.2.filter (fun y => y.2 == Cls.ftz)).length) stats
  (rows, st.2.1 + ftz, st.2.2 + sc.2 + sumBy (fun b => b.2) vs)

/-- Every key of a row is masked. -/
def allMasked (c : Cmd) (i : Nat) : Bool := attnMasked c i 0

/-- A chunk of a head: its key blocks, then O, and L for every row; `done` of the rows are written. -/
def Attn.chunk (z : Attn) (h : Nat) (st : ArrayRun) (ch : Nat × Nat) (done : Nat) : ArrayRun :=
  let c := z.c
  let blocks := (List.range (ceilDiv (attnS c) 128)).filter (chunkWorks c ch.1 ch.2)
  let e := blocks.foldl (z.block h ch.1 ch.2) (List.replicate ch.2 {}, 0, 0)
  let row0 := h * attnM c + ch.1
  let o (r j : Nat) : FVal :=
    if allMasked c (r - h * attnM c) then .zero
    else let y := nthD e.1 (r - row0) {}; r32 ((nthD y.acc j .zero).quot y.l)
  let s := { st.s with pftz := st.s.pftz + e.2.1 }
  let s := if done = 0 then s
    else (List.range (ceilDiv (attnDv c) 128)).foldl (fun s b => z.g.tile s row0 ch.2 (b * 128) (min 128 (attnDv c - b * 128)) done o) s
  let ls := (range' 0 (min done ch.2)).map (fun i =>
    let y := nthD e.1 i {}
    (i, if allMasked c (ch.1 + i) then FVal.inf true else r32 (Config.funcUnit 0 10 [y.m, y.l])))
  let mem := if attnLseHandle c = 0 then s.mem
    else ls.foldl (fun m y => putWord m (z.g.o (attnLseHandle c)) (4 * (row0 + y.1)) 4 (fp32.ieeeCode .near y.2)) s.mem
  let nm := ((range' ch.1 (min done ch.2)).filter (allMasked c)).length
  { s := { s with mem := mem, masked := s.masked + nm, last := if nm = 0 then s.last else some (3, 0) },
    passes := st.passes + z.blockPasses * blocks.length, skipped := st.skipped + e.2.2 }

/-- A unit of the split: the chunks of one group of one head; `done` of its rows are written. -/
def Attn.unit (z : Attn) (st : ArrayRun) (u done : Nat) : ArrayRun :=
  (attnChunks z.c u).foldl (fun st ch => z.chunk (u / attnGroups z.c) st ch (done - (ch.1 - (u % attnGroups z.c) * 384))) st

/-- The unit in which pass `n` of a part lies, and the pass's number within it. -/
def Attn.find (z : Attn) : List Nat → Nat → Option (Nat × Nat)
  | [], _ => none
  | u :: us, n => if n < z.unitPasses u then some (u, n) else z.find us (n - z.unitPasses u)

/-- The saved row factors that ATTN writes, where it does. -/
def attnSaved (c : Cmd) : List Opnd := if attnLseHandle c = 0 then [] else ((attnOpnds descNone c).drop 4).take 1

/-- The drain descriptor `y` does not fit the command (R126, R127). -/
def Dev.attnRejects (d : Dev) (v : Nat) (c : Cmd) (y : Nat) : Bool :=
  d.descBad v y (attnOFmt c) (attnH c * attnM c) (attnDv c) false true ((attnOpnds descNone c).take 3 ++ attnSaved c) ((attnO c).opnd (attnOHandle c) true)

/-- ATTN. A mismatch names a pass of the part; `rows` is then how many rows of its group had been written. -/
def Dev.runAttn (d : Dev) (x : PartId) (bad : Option CsFault) : Dev :=
  d.onUnit x opATTN fun d c v =>
    let m := attnH c * attnM c
    let n := attnDv c
    d.withDesc x (attnDrain c) ((attnOpnds descNone c).take 4 ++ attnSaved c) (fun d y => d.attnRejects v c y) fun d y =>
      let l := attnOpnds y c
      d.gate x l fun d =>
        let fq := d.actual x (attnQHandle c) (attnQFmt c)
        let fk := d.actual x (attnKHandle c) (attnKFmt c)
        let fv := d.actual x (attnVHandle c) (attnVFmt c)
        if 3 < fq ∨ 3 < fk ∨ 3 < fv then d.unfit x
        else
          let oq := (d.partObj x (attnQHandle c)).2
          let ok := (d.partObj x (attnKHandle c)).2
          let ov := (d.partObj x (attnVHandle c)).2
          let g := d.drainIn x y (attnOHandle c) (attnO c) m n false false
          let z : Attn := {
            g := g, c := c, qk := pairMacs fq fk, mv := macsPer fv, vCode := fv, srMin := d.rd F.glbSrCfg_srMinChain,
            q := fun h i k => d.elem oq ((attnQ c).in oq) (h * attnM c + i) k,
            k := fun h j k => d.elem ok ((attnK c).in ok) (h * attnS c + j) k,
            v := fun h j k => d.elem ov ((attnV c).in ov) (h * attnS c + j) k }
          let r := blockRange (attnH c * attnGroups c) (attnCount c) x.p
          let us := range' r.1 r.2
          let st : ArrayRun := { s := { mem := d.t0 } }
          let full := 384
          match bad with
          | none => d.arrayDone g (us.foldl (fun st u => z.unit st u full) st) l (g.obj.format (attnOFmt c))
              ((attnCycles c x.p - 422) * 16384 * pairMacs fq fk)
          | some f =>
            match z.find us f.pass with
            | none => d
            | some (u, k) =>
              if 128 ≤ f.row ∨ full < f.rows then d
              else
                let whole := (us.filter (· < u)).foldl (fun st u => z.unit st u full) st
                let part := z.unit whole u f.rows
                d.arrayMismatch g { part with passes := whole.passes + k + 1, skipped := whole.skipped } l f.row

/-- ATTN (R136 to R138). -/
def effectAttn (q i p : Nat) (bad : Option CsFault) (d : Dev) : Dev := d.runAttn ⟨q, i, p⟩ bad

/-- ATTN: its own effect, then what follows at once. -/
def execAttn (q i p : Nat) (bad : Option CsFault) (s : State) : Host.Outcome State Fault Refusal := s.act (effectAttn q i p bad)

/-! ### Localisation (R124) and the ramp (R119) -/

/-- A repair is recorded: the core reads DEGRADED. -/
def Dev.repaired (d : Dev) (core bit : Nat) : Dev := (d.raise (pfPage .ccr core 1) bit St.ok).setHealth .ccr core 1

/-- The core is closed: CCR page 1 PG_EVENT bit 4 (R124, R396). -/
def Dev.closeCore (d : Dev) (core : Nat) : Dev := d.closeUnit 0 core St.checksumMismatch

/-- A failed column in use. -/
def Dev.colFailed (d : Dev) (core c : Nat) : Dev :=
  if d.flag (F.ccrRepair_repColValid core) then d.closeCore core
  else
    let d := (d.wr (F.ccrRepair_repCol core) c).setFlag (F.ccrRepair_repColValid core) true
    ((if c = 128 then d.setFlag (F.ccrRepair_csSwapped core) true else d)).repaired core 2

/-- A failed row in use: a working row, or a spare row that already stands in for one. -/
def Dev.rowFailed (d : Dev) (core r : Nat) : Dev :=
  let v0 := d.flag (F.ccrRepair_row0Valid core)
  let v1 := d.flag (F.ccrRepair_row1Valid core)
  let row := if r = 128 then d.rd (F.ccrRepair_repRow0 core) else r
  if v0 ∧ v1 ∨ r = 129 then d.closeCore core
  else if !v0 then ((d.wr (F.ccrRepair_repRow0 core) row).setFlag (F.ccrRepair_row0Valid core) true).repaired core 3
  else
    let d := if r = 128 then d.setFlag (F.ccrRepair_row0Valid core) false else d
    ((d.wr (F.ccrRepair_repRow1 core) row).setFlag (F.ccrRepair_row1Valid core) true).repaired core 3

/-- Columns in use: all but the one a repair has replaced; column 129 where it repairs. -/
def Dev.colUsed (d : Dev) (core c : Nat) : Bool :=
  if c = 129 then d.flag (F.ccrRepair_repColValid core)
  else decide (c < 129) && !(d.flag (F.ccrRepair_repColValid core) && d.rd (F.ccrRepair_repCol core) == c)

/-- Rows in use. -/
def Dev.rowUsed (d : Dev) (core r : Nat) : Bool :=
  let v0 := d.flag (F.ccrRepair_row0Valid core)
  let v1 := d.flag (F.ccrRepair_row1Valid core)
  if r = 128 then v0
  else if r = 129 then v1
  else decide (r < 128) && !(v0 && d.rd (F.ccrRepair_repRow0 core) == r) && !(v1 && d.rd (F.ccrRepair_repRow1 core) == r)

/-- LOCALISATION_END (R124): the test of core `p` has found the failed columns and rows given, of which those in use count. -/
def effectLocalisationEnd (p : Nat) (cols rows : List Nat) (d : Dev) : Dev :=
  match mapLook d.ccr.loc p with
  | none => d
  | some t =>
    d.when (!d.spr.resets.any (fun z => z.unit == unitKey 0 p)) fun d =>
      let cs := (cols.eraseDups).filter (d.colUsed p)
      let rs := (rows.eraseDups).filter (d.rowUsed p)
      let d := d.setCcr { d.ccr with loc := mapDel d.ccr.loc p }
      match cs, rs with
      | [], [] =>
        let near := match mapLook d.ccr.quiet p with
          | some u => decide (t < u - 1 + d.rd (F.ccrCsCfg_transientWin p) * secQ)
          | none => false
        if near then d.closeCore p else d.setCcr { d.ccr with quiet := mapPut d.ccr.quiet p (t + 1) }
      | [c], [] => (d.wr (F.ccrCsLast_locCol p) c).colFailed p c
      | [], [r] => (d.wr (F.ccrCsLast_locRow p) r).rowFailed p r
      | cs, rs =>
        let d := match cs with
          | c :: _ => d.wr (F.ccrCsLast_locCol p) c
          | [] => d
        let d := match rs with
          | r :: _ => d.wr (F.ccrCsLast_locRow p) r
          | [] => d
        d.closeCore p

/-- LOCALISATION_END: its own effect, then what follows at once. -/
def execLocalisationEnd (p : Nat) (cols rows : List Nat) (s : State) : Host.Outcome State Fault Refusal := s.act (effectLocalisationEnd p cols rows)

/-- ARRAY_RAMP_DOWN (R119): core `p` has been idle for 64 cycles and its array stops. -/
def effectArrayRampDown (p : Nat) (d : Dev) : Dev :=
  match mapLook d.ccr.on p with
  | none => d
  | some t =>
    d.when (!(d.runningParts.any (fun r => d.partUnit r.2.2.2 == some (unitKey 0 p))) && decide (t - 1 + 427 ≤ d.now)) fun d =>
      d.setCcr { d.ccr with on := mapDel d.ccr.on p }

/-- ARRAY_RAMP_DOWN: its own effect, then what follows at once. -/
def execArrayRampDown (p : Nat) (s : State) : Host.Outcome State Fault Refusal := s.act (effectArrayRampDown p)

end Sys2Proof.Machine
end

