-- ==== Sys2Proof/Machine/Boot.lean ====
section
/-! DEFINITION. The commands of a start, of firmware update, of the configuration record and of the SPDM responder
(19_boot_and_trust.md R413 to R434; 17_host_link_and_signpost.md R382). -/

namespace Sys2Proof.Machine

/-! ### Starts -/

/-- BOOT_START (R414): PWR_GOOD is asserted and a cold start begins at S0. -/
def effectBootStart (d : Dev) : Dev :=
  d.when (d.sec.due && d.pwr.rail && d.pwr.en && !d.pwr.latched) fun d =>
    let d := d.setPwr { d.pwr with good := true, mode := 0 }
    let d := d.setSec { d.sec with powerGood := d.now }
    let d := d.bootStart 0
    if d.mustRecover then d.romRecovery else d

/-- BOOT_START: its own effect, then what follows at once. -/
def execBootStart (s : State) : Host.Outcome State Fault Refusal := s.act (effectBootStart)

/-- STAGE_COMPLETE (R413): the stage that runs ends within its bound. -/
def effectStageComplete (bad : List Nat) (key : Bool) (d : Dev) : Dev :=
  d.when (d.sec.running && decide (d.sec.altFrom = 0) && decide (d.now ≤ d.sec.stageFrom + d.stageBound d.sec.stage)) fun d =>
    d.stageDone bad key

/-- STAGE_COMPLETE: its own effect, then what follows at once. -/
def execStageComplete (bad : List Nat) (key : Bool) (s : State) : Host.Outcome State Fault Refusal := s.act (effectStageComplete bad key)

/-- STAGE_FAIL (R415): the stage exceeds its bound, or stops with an error it cannot absorb; `unit` is the PG_IDENT of the unit it was
working on. -/
def effectStageFail (unit status : Nat) (d : Dev) : Dev :=
  d.when (d.sec.running && decide (d.sec.altFrom = 0) && d.sec.stage != 10
      && (status != St.boundExceeded || decide (d.sec.stageFrom + d.stageBound d.sec.stage < d.now))) fun d =>
    d.stageFail unit status

/-- STAGE_FAIL: its own effect, then what follows at once. -/
def execStageFail (unit status : Nat) (s : State) : Host.Outcome State Fault Refusal := s.act (effectStageFail unit status)

/-- BOOT_RESTART (R415): 100 ms after a failed stage. -/
def effectBootRestart (d : Dev) : Dev :=
  d.when (decide (d.sec.restartAt ≠ 0 ∧ d.sec.restartAt ≤ d.now + 1)) fun d => d.bootRestart

/-- BOOT_RESTART: its own effect, then what follows at once. -/
def execBootRestart (s : State) : Host.Outcome State Fault Refusal := s.act (effectBootRestart)

/-- A wait for the host's choice ends. -/
def Dev.altChosen (d : Dev) (alt : Nat) : Dev :=
  let d := d.sixRelease d.sec.altOp St.ok
  (d.setFlag (hAssistWait sprPage1) false).chooseAlt d.sec.stage alt

/-- BOOT_ALT_DOORBELL (R419): SPR_BALT_CHOICE 0 takes the alternative, 1 runs the stage as normal, 2 retires the unit. -/
def effectBootAltDoorbell (f h : Nat) (d : Dev) : Dev :=
  if d.sec.altFrom ≠ 0 ∧ d.sec.altOp = h then
    d.altChosen (match d.rd F.sprBaltChoice_choice with | 1 => 0 | 2 => 2 | _ => 1)
  else d.badDoorbell f sprPage1

/-- BOOT_ALT_DOORBELL: its own effect, then what follows at once. -/
def execBootAltDoorbell (f h : Nat) (s : State) : Host.Outcome State Fault Refusal := s.act (effectBootAltDoorbell f h)

/-- BOOT_ALT_TIMEOUT (R419): the page's timeout expires and the stage takes its alternative. -/
def effectBootAltTimeout (d : Dev) : Dev :=
  d.when (decide (d.sec.altFrom ≠ 0) && decide (d.sec.altFrom - 1 + d.timeout sprPage1 (60 * secQ) ≤ d.now)) fun d =>
    (d.altChosen 1).raise sprPage1 29 St.ok

/-- BOOT_ALT_TIMEOUT: its own effect, then what follows at once. -/
def execBootAltTimeout (s : State) : Host.Outcome State Fault Refusal := s.act (effectBootAltTimeout)

/-! ### Firmware (R430 to R432) -/

/-- Why an image is refused: 4 length, 1 signature, 2 hash, 3 rollback; 0 for one that passes. -/
def Dev.fwReason (d : Dev) (img : List Byte) : Nat :=
  let n := leAt img 16 4
  let signer := (img.drop 128).take 3968
  if leAt img 0 4 ≠ 0x31574657 ∨ leAt img 4 2 ≠ 1 ∨ 29351936 < n ∨ img.length ≠ 8192 + n then 4
  else if !Config.chainOk signer || !Config.sigOk 2 signer (img.take 4096) ((img.drop 4096).take 512) then 1
  else if Config.sha 512 (img.drop 8192) ≠ (img.drop 64).take 64 then 2
  else if leAt img 8 4 < d.sec.current.svn then 3
  else 0

/-- An operation on SEC_FW_CTRL while BUSY reads 1 is ignored and recorded. -/
def Dev.fwOp (d : Dev) (f : Dev → Dev) : Dev := if d.flag F.secFwStatus_busy then d.badAccess 0 0x1108C 3 else f d

/-- An image is read, checked, and its writing into the slot that does not run begins; a failed check leaves the slot unchanged. -/
def Dev.fwWrite (d : Dev) (img : List Byte) : Dev :=
  d.fwOp fun d =>
    let r := d.fwReason img
    if r = 0 then
      let x : FwSlot := { svn := leAt img 8 4, version := leAt img 12 4, hash := (img.drop 64).take 64 }
      let d := d.setSec { d.sec with writing := some (x, 1 - d.rd F.secState_runSlot), writeFrom := d.now }
      d.setFlag F.secFwStatus_busy true
    else ((d.wr F.secFwStatus_status St.sigInvalid).wr F.secFwStatus_reason r).raise secPage 4 St.sigInvalid

/-- FW_WRITE (R431): SEC_FW_CTRL.WRITE; `img` holds the SEC_FW_LEN bytes read at SEC_FW_ADDR. -/
def effectFwWrite (img : List Byte) (d : Dev) : Dev := d.fwWrite img

/-- FW_WRITE: its own effect, then what follows at once. -/
def execFwWrite (img : List Byte) (s : State) : Host.Outcome State Fault Refusal := s.act (effectFwWrite img)

/-- PLDM_FIRMWARE_UPDATE (R431): the same image by the sideband, through the same checks. -/
def effectPldmFirmwareUpdate (img : List Byte) (d : Dev) : Dev :=
  d.when d.pwr.rail fun d => d.fwWrite img

/-- PLDM_FIRMWARE_UPDATE: its own effect, then what follows at once. -/
def execPldmFirmwareUpdate (img : List Byte) (s : State) : Host.Outcome State Fault Refusal := s.act (effectPldmFirmwareUpdate img)

/-- FW_WRITE_COMPLETE (R431): the write and its read-back have ended; `same` says that the slot reads back as written. -/
def effectFwWriteComplete (same : Bool) (d : Dev) : Dev :=
  match d.sec.writing with
  | none => d
  | some (x, n) =>
    let x := { x with good := same }
    let sec := if n = 0 then { d.sec with slot0 := x } else { d.sec with slot1 := x }
    let d := d.setSec { sec with writing := none, written := if same then some n else sec.written }
    let d := d.setFlag F.secFwStatus_busy false
    if same then ((d.wr F.secFwStatus_status St.ok).wr F.secFwStatus_reason 0).raise secPage 3 St.ok
    else ((d.wr F.secFwStatus_status St.sigInvalid).wr F.secFwStatus_reason 5).raise secPage 4 St.sigInvalid

/-- FW_WRITE_COMPLETE: its own effect, then what follows at once. -/
def execFwWriteComplete (same : Bool) (s : State) : Host.Outcome State Fault Refusal := s.act (effectFwWriteComplete same)

/-- FW_ACTIVATE (R431): the written slot is preferred from the next start. -/
def effectFwActivate (d : Dev) : Dev :=
  d.fwOp fun d =>
    match d.sec.written with
    | some n => d.wr F.secState_prefSlot n
    | none => d

/-- FW_ACTIVATE: its own effect, then what follows at once. -/
def execFwActivate (s : State) : Host.Outcome State Fault Refusal := s.act (effectFwActivate)

/-- FW_COMMIT (R432): the record's SVN rises to the running image's. -/
def effectFwCommit (d : Dev) : Dev :=
  d.fwOp fun d =>
    d.when (d.secSt == ssFULL && decide (d.sec.current.svn < d.rd F.secRunSvn_runSvn)) fun d =>
      d.configCommit (fun r => { r with svn := d.rd F.secRunSvn_runSvn })

/-- FW_COMMIT: its own effect, then what follows at once. -/
def execFwCommit (s : State) : Host.Outcome State Fault Refusal := s.act (effectFwCommit)

/-- CONFIG_REQUEST (R424): SEC_CFG_REQ with APPLY; ignored and recorded in LIMITED, held before the identity key is available. -/
def effectConfigRequest (hostSplit altMode : Bool) (d : Dev) : Dev :=
  if d.secSt = ssLIMITED then d.badAccess 0 0x12080 3
  else
    let d := (d.setFlag F.secCfgReq_hostSplit hostSplit).setFlag F.secCfgReq_altMode altMode
    if d.secSt = ssFULL then d.configCommit (fun r => { r with hostSplit := hostSplit, altMode := altMode })
    else
      d.setSec { d.sec with owed := d.sec.owed + 1, held := some { d.recordNow with hostSplit := hostSplit, altMode := altMode } }

/-- CONFIG_REQUEST: its own effect, then what follows at once. -/
def execConfigRequest (hostSplit altMode : Bool) (s : State) : Host.Outcome State Fault Refusal := s.act (effectConfigRequest hostSplit altMode)

/-! ### SPDM (R433, R434; message layouts of DSP0274, log entry 44) -/

def Dev.spdm (d : Dev) (who : Nat) : Spdm := (d.sec.spdm.find? (fun x => x.who == who)).getD { who := who }

def Dev.setSpdm (d : Dev) (x : Spdm) : Dev := d.setSec { d.sec with spdm := d.sec.spdm.filter (fun y => y.who != x.who) ++ [x] }

/-- The responder answers: not in ROM recovery, not before S3, over the sideband only with its rail (R420, R449). -/
def Dev.spdmUp (d : Dev) (who : Nat) : Bool :=
  d.secSt != ssRECOVERY && decide (who ≤ 9) && (if who = 9 then d.pwr.rail else d.hif.ready)

def Dev.spdmAnswer (d : Dev) (who : Nat) (bytes : List Byte) : Dev := d.emit .spdm who [] bytes

/-- An ERROR response: 1 invalid request, 4 unexpected request, 5 unspecified. -/
def Dev.spdmError (d : Dev) (who code : Nat) : Dev := d.spdmAnswer who ([0x12, 0x7F] ++ leBytes 1 code ++ [0])

/-- A request and its response enter the requester's transcript, and the response leaves. -/
def Dev.spdmReply (d : Dev) (x : Spdm) (req rsp : List Byte) (stage : Nat) : Dev :=
  (d.setSpdm { x with bytes := x.bytes ++ req ++ rsp, stage := max stage x.stage }).spdmAnswer x.who rsp

/-- GET_VERSION starts a transcript anew and reports 1.2 only. -/
def effectGetVersion (who : Nat) (req : List Byte) (d : Dev) : Dev :=
  d.when (d.spdmUp who) fun d => d.spdmReply { who := who } req [0x10, 0x04, 0, 0, 0, 1, 0x00, 0x12] 1

/-- GET_VERSION: its own effect, then what follows at once. -/
def execGetVersion (who : Nat) (req : List Byte) (s : State) : Host.Outcome State Fault Refusal := s.act (effectGetVersion who req)

/-- GET_CAPABILITIES: CERT, CHAL and MEAS with signature; the timing exponent is not stated by the spec. -/
def effectGetCapabilities (who : Nat) (req : List Byte) (d : Dev) : Dev :=
  d.when (d.spdmUp who) fun d =>
    let x := d.spdm who
    if x.stage ≠ 1 then d.spdmError who 4
    else
      d.spdmReply x req ([0x12, 0x61, 0, 0, 0, Config.freeByte 40 0, 0, 0, 0x16, 0, 0, 0] ++ leBytes 4 65536 ++ leBytes 4 65536) 2

/-- GET_CAPABILITIES: its own effect, then what follows at once. -/
def execGetCapabilities (who : Nat) (req : List Byte) (s : State) : Host.Outcome State Fault Refusal := s.act (effectGetCapabilities who req)

/-- NEGOTIATE_ALGORITHMS: RSAPSS_4096 and SHA_512. -/
def effectNegotiateAlgorithms (who : Nat) (req : List Byte) (d : Dev) : Dev :=
  d.when (d.spdmUp who) fun d =>
    let x := d.spdm who
    if x.stage ≠ 2 then d.spdmError who 4
    else
      d.spdmReply x req ([0x12, 0x63, 0, 0] ++ leBytes 2 36 ++ [1, 0] ++ leBytes 4 8 ++ leBytes 4 0x40 ++ leBytes 4 4 ++ leBytes 12 0
        ++ [0, 0, 0, 0]) 3

/-- NEGOTIATE_ALGORITHMS: its own effect, then what follows at once. -/
def execNegotiateAlgorithms (who : Nat) (req : List Byte) (s : State) : Host.Outcome State Fault Refusal := s.act (effectNegotiateAlgorithms who req)

/-- GET_DIGESTS: the digests of the chains of slots 0 and 1. -/
def effectGetDigests (who : Nat) (req : List Byte) (d : Dev) : Dev :=
  d.when (d.spdmUp who) fun d =>
    let x := d.spdm who
    if x.stage < 3 then d.spdmError who 4
    else d.spdmReply x req ([0x12, 0x01, 0, 3] ++ Config.sha 512 (Config.made 0) ++ Config.sha 512 (Config.made 1)) 3

/-- GET_DIGESTS: its own effect, then what follows at once. -/
def execGetDigests (who : Nat) (req : List Byte) (s : State) : Host.Outcome State Fault Refusal := s.act (effectGetDigests who req)

/-- GET_CERTIFICATE: a portion of a slot's chain. -/
def effectGetCertificate (who : Nat) (req : List Byte) (d : Dev) : Dev :=
  d.when (d.spdmUp who) fun d =>
    let x := d.spdm who
    let slot := leAt req 2 1 % 16
    let off := leAt req 4 2
    let chain := Config.made slot
    if x.stage < 3 then d.spdmError who 4
    else if 2 ≤ slot ∨ chain.length ≤ off then d.spdmError who 1
    else
      let part := (chain.drop off).take (leAt req 6 2)
      d.spdmReply x req ([0x12, 0x02] ++ leBytes 1 slot ++ [0] ++ leBytes 2 part.length ++ leBytes 2 (chain.length - off - part.length) ++ part) 3

/-- GET_CERTIFICATE: its own effect, then what follows at once. -/
def execGetCertificate (who : Nat) (req : List Byte) (s : State) : Host.Outcome State Fault Refusal := s.act (effectGetCertificate who req)

/-- A nonce of the responder: 32 bytes the spec leaves open. -/
def Dev.spdmNonce (d : Dev) : List Byte × Dev :=
  let r := d.drawIndex
  ((List.range 32).map (fun i => Config.freeByte 41 (r.1 * 32 + i)), r.2)

/-- All measurement blocks, concatenated. -/
def Dev.allBlocks (d : Dev) : List Byte := [1, 2, 3, 4, 5].flatMap d.measureBlock

/-- CHALLENGE: a response signed over the transcript; an error where no signature can be made (R426). -/
def effectChallenge (who : Nat) (req : List Byte) (d : Dev) : Dev :=
  d.when (d.spdmUp who) fun d =>
    let x := d.spdm who
    let slot := leAt req 2 1
    if x.stage < 3 then d.spdmError who 4
    else if d.secSt ≠ ssFULL then d.spdmError who 5
    else if 2 ≤ slot then d.spdmError who 1
    else
      let r := d.spdmNonce
      let summary := if leAt req 3 1 = 0 then [] else Config.sha 512 d.allBlocks
      let rsp := [0x12, 0x03] ++ leBytes 1 slot ++ [3] ++ Config.sha 512 (Config.made slot) ++ r.1 ++ summary ++ [0, 0]
      r.2.spdmReply x req (rsp ++ Config.sign 0 (x.bytes ++ req ++ rsp)) 4

/-- CHALLENGE: its own effect, then what follows at once. -/
def execChallenge (who : Nat) (req : List Byte) (s : State) : Host.Outcome State Fault Refusal := s.act (effectChallenge who req)

/-- GET_MEASUREMENTS: the number of blocks, one block, or all, signed when the request asks for it (R434). -/
def effectGetMeasurements (who : Nat) (req : List Byte) (d : Dev) : Dev :=
  d.when (d.spdmUp who) fun d =>
    let x := d.spdm who
    let wantSig := leAt req 2 1 % 2 = 1
    let op := leAt req 3 1
    if x.stage < 3 then d.spdmError who 4
    else if wantSig ∧ d.secSt ≠ ssFULL then d.spdmError who 5
    else if op ≠ 255 ∧ 5 < op then d.spdmError who 1
    else
      let rec_ := if op = 0 then [] else if op = 255 then d.allBlocks else d.measureBlock op
      let n := if op = 0 then 0 else if op = 255 then 5 else 1
      let r := d.spdmNonce
      let rsp := [0x12, 0x60] ++ leBytes 1 (if op = 0 then 5 else 0) ++ [0] ++ leBytes 1 n ++ leBytes 3 rec_.length ++ rec_ ++ r.1 ++ [0, 0]
      r.2.spdmReply x req (if wantSig then rsp ++ Config.sign 0 (x.bytes ++ req ++ rsp) else rsp) 4

/-- GET_MEASUREMENTS: its own effect, then what follows at once. -/
def execGetMeasurements (who : Nat) (req : List Byte) (s : State) : Host.Outcome State Fault Refusal := s.act (effectGetMeasurements who req)

/-- DOE_DISCOVERY (R382): the mailbox of a function carries DOE Discovery and CMA-SPDM. -/
def effectDoeDiscovery (f index : Nat) (d : Dev) : Dev :=
  d.when (d.hif.ready && decide (f ≤ 8)) fun d =>
    d.emit .doe f (match index with | 0 => [1, 0, 1] | 1 => [1, 1, 0] | _ => [0xFFFF, 0, 0])

/-- DOE_DISCOVERY: its own effect, then what follows at once. -/
def execDoeDiscovery (f index : Nat) (s : State) : Host.Outcome State Fault Refusal := s.act (effectDoeDiscovery f index)

end Sys2Proof.Machine
end

