-- ==== Sys2Proof/Machine/DumpCmds.lean ====
section
/-! DEFINITION. The commands of dumps: requests, agents that do not answer, collection, the host's pull and the copy to the host
(18_faults_resets_dumps.md R406 to R410). -/

namespace Sys2Proof.Machine

/-- DUMP_REQUEST (R406): HLT_DUMP_CTRL.REQ written 1 by the PF starts a dump. -/
def effectDumpRequest (d : Dev) : Dev := d.dumpTrigger St.ok 0

/-- DUMP_REQUEST: its own effect, then what follows at once. -/
def execDumpRequest (s : State) : Host.Outcome State Fault Refusal := s.act (effectDumpRequest)

/-- DUMP_AGENT_TIMEOUT (R407): the agent asked did not answer in 10 µs; its section is ABSENT and it is suspect. -/
def effectDumpAgentTimeout (ident : Nat) (d : Dev) : Dev :=
  match d.hlt.cur with
  | none => d
  | some c =>
    d.when (not (c.sections.any (fun x => x.1 == ident))) fun d =>
      d.setHlt { d.hlt with cur := some { c with sections := c.sections ++ [(ident, 1)], suspects := c.suspects ++ [ident] } }

/-- DUMP_AGENT_TIMEOUT: its own effect, then what follows at once. -/
def execDumpAgentTimeout (ident : Nat) (s : State) : Host.Outcome State Fault Refusal := s.act (effectDumpAgentTimeout ident)

/-- DUMP_COMPLETE (R409): collection ends; the sections not recorded ABSENT are those the collector received, or skipped
because their unit is in reset. In ASSIST mode the host's doorbell ends the dump instead (R410). -/
def effectDumpComplete (present skipped : List Nat) (d : Dev) : Dev :=
  match d.hlt.cur with
  | none => d
  | some c =>
    d.when (c.assist == 0) fun d =>
      let fresh := fun i => not (c.sections.any (fun x => x.1 == i))
      d.dumpEnd { c with sections := c.sections ++ (present.filter fresh).map (fun i => (i, 0))
                                      ++ (skipped.filter fresh).map (fun i => (i, 2)) }

/-- DUMP_COMPLETE: its own effect, then what follows at once. -/
def execDumpComplete (present skipped : List Nat) (s : State) : Host.Outcome State Fault Refusal := s.act (effectDumpComplete present skipped)

/-- DUMP_CHUNK_FETCH (R410): HLT_DUMP_SEL is written and its chunk fetched over the Back Lane, or reads ABSENT. -/
def effectDumpChunkFetch (v : Word) (present : Bool) (d : Dev) : Dev :=
  let d := d.setReg (F.hltDumpSel_unit).addr v
  d.setHlt { d.hlt with chunk := some (d.rd F.hltDumpSel_unit, d.rd F.hltDumpSel_chunk, not present) }

/-- DUMP_CHUNK_FETCH: its own effect, then what follows at once. -/
def execDumpChunkFetch (v : Word) (present : Bool) (s : State) : Host.Outcome State Fault Refusal := s.act (effectDumpChunkFetch v present)

/-- HLT_ASSIST_DOORBELL (R410, R56): the host ends the dump it pulled; a handle that names no waiting record is counted. -/
def effectHltAssistDoorbell (f h : Nat) (d : Dev) : Dev :=
  match d.hlt.cur with
  | some c =>
    if c.assist ≠ 0 ∧ c.assist = h then ((d.setFlag (hAssistWait hltPage) false).sixRelease h St.ok).dumpEnd c
    else d.badDoorbell f hltPage
  | none => d.badDoorbell f hltPage

/-- HLT_ASSIST_DOORBELL: its own effect, then what follows at once. -/
def execHltAssistDoorbell (f h : Nat) (s : State) : Host.Outcome State Fault Refusal := s.act (effectHltAssistDoorbell f h)

/-- DUMP_TO_HOST (R410): TO_HOST starts copying slot SLOT; a slot that holds no complete dump, or a busy collector, starts
nothing. -/
def effectDumpToHost (d : Dev) : Dev :=
  let sl := d.rd F.hltDumpCtrl_slot
  d.when ((mapLook d.hlt.slots sl).isSome && d.hlt.cur.isNone && d.hlt.copying.isNone) fun d =>
    (d.setHlt { d.hlt with copying := some sl }).setFlag F.hltDumpState_busy true

/-- DUMP_TO_HOST: its own effect, then what follows at once. -/
def execDumpToHost (s : State) : Host.Outcome State Fault Refusal := s.act (effectDumpToHost)

/-- DUMP_COPY_END (R410): the slot has been written to HLT_DUMP_HOST and DUMP_DONE is set. The section data is the units' own
and is not modelled; the header and section table are. -/
def effectDumpCopyEnd (d : Dev) : Dev :=
  match d.hlt.copying with
  | none => d
  | some sl =>
    let d := d.setHlt { d.hlt with copying := none }
    let d := d.setFlag F.hltDumpState_busy d.hlt.cur.isSome
    let addr := d.rd F.hltDumpHostLo_hostLo * 4096 + d.rd F.hltDumpHostHi_hostHi * 2 ^ 32
    let d := match mapLook d.hlt.slots sl with
      | some c => d.hostWrite addr (c.header d.deviceId (fun _ => 0))
      | none => d
    d.raise hltPage 6 St.ok

/-- DUMP_COPY_END: its own effect, then what follows at once. -/
def execDumpCopyEnd (s : State) : Host.Outcome State Fault Refusal := s.act (effectDumpCopyEnd)

end Sys2Proof.Machine
end

