-- ==== Sys2Proof/Machine/Evt.lean ====
section
/-! DEFINITION. The commands of the Signpost (17_host_link_and_signpost.md R385 to R390). -/

namespace Sys2Proof.Machine

/-- SOURCE_ENABLE (R385): EVT_SRC of source `n` is written, by the PF or by the VF that owns its page, with EN = 1. -/
def effectSourceEnable (f n : Nat) (v : Word) (d : Dev) : Dev :=
  d.when (decide (n < 2048) && (f == 0 || f == sourceFunc n) && bitOf v.toNat 0) fun d =>
    if (d.pageAt f (srcOff f n)).isNone then d.badAccess f (srcOff f n) 0 else d.writeSource f (srcOff f n) n v

/-- SOURCE_ENABLE: its own effect, then what follows at once. -/
def execSourceEnable (f n : Nat) (v : Word) (s : State) : Host.Outcome State Fault Refusal := s.act (effectSourceEnable f n v)

/-- SOURCE_LATCH (R385): the rise of an enabled source's line reaches the Signpost. -/
def effectSourceLatch (n : Nat) (d : Dev) : Dev :=
  d.when (d.evt.edges.contains n) fun d =>
    let d := d.setEvt { d.evt with edges := d.evt.edges.filter (· != n) }
    if d.flag (F.evtSrc_en n) then d.setFlag (F.evtSrc_pending n) true else d

/-- SOURCE_LATCH: its own effect, then what follows at once. -/
def execSourceLatch (n : Nat) (s : State) : Host.Outcome State Fault Refusal := s.act (effectSourceLatch n)

/-- SOURCE_PRESENT (R387, R388): the active pair jumps to the source's vector. -/
def effectSourcePresent (n : Nat) (d : Dev) : Dev :=
  d.when (d.nextSource == some n) fun d => d.serveSource n

/-- SOURCE_PRESENT: its own effect, then what follows at once. -/
def execSourcePresent (n : Nat) (s : State) : Host.Outcome State Fault Refusal := s.act (effectSourcePresent n)

/-- HOST_MESSAGE (R389): a latched source routed to the host asks for its vector's message. -/
def effectHostMessage (n : Nat) (d : Dev) : Dev :=
  d.when (decide (n < 2048) && d.flag (F.evtSrc_pending n) && d.route n == 2 && !d.evt.service.contains n) fun d =>
    (d.serveSource n).sendMsix (sourceFunc n) (d.rd (F.evtSrc_vector n))

/-- HOST_MESSAGE: its own effect, then what follows at once. -/
def execHostMessage (n : Nat) (s : State) : Host.Outcome State Fault Refusal := s.act (effectHostMessage n)

/-- EOI (R390): a write of source `n` to EVT_EOI of the function that owns its page; one that is not in service is ignored. -/
def effectEoi (f n : Nat) (d : Dev) : Dev :=
  d.when (f == sourceFunc n && d.evt.service.contains n) fun d => d.endService n

/-- EOI: its own effect, then what follows at once. -/
def execEoi (f n : Nat) (s : State) : Host.Outcome State Fault Refusal := s.act (effectEoi f n)

end Sys2Proof.Machine
end

