-- ==== Sys2Proof/Machine/Fab.lean ====
section
/-! DEFINITION. The fabric ports' commands: bring-up, lane failures, received frames, transmit queues, PFC, LLDP and egress stamps
(13_fabric_ports.md R289 to R306). -/

namespace Sys2Proof.Machine

/-! ### Bring-up and lanes -/

/-- A port may come up at a rate: chip-to-module at the rate it tries; copper at any common rate, or with a bad lane only at the one
it advertises (R292, R294). -/
def Dev.mayLink (d : Dev) (p r : Nat) : Bool :=
  decide (p < 24) && d.flag (F.fabPortCfg_enable p) && [psNO_SIGNAL, psNEGOTIATING, 3].contains (d.portSt p)
    && (d.usableRates p).contains r && (r == (d.port p).trying || (!d.flag (F.fabPortCfg_medium p) && d.badLanes p == 0))

/-- LINK_UP (R292): the PCS is aligned and has shown no fault for 1 ms. -/
def effectLinkUp (p rate : Nat) (d : Dev) : Dev :=
  d.when (d.mayLink p rate) fun d =>
    let old := (d.port p).lastRate
    let d := d.setPortSt p psUP rate ((d.lanesFor p rate).getD 0)
    let d := d.setPort p { d.port p with lastRate := rate }
    let d := d.raiseBits (fabPage p) (if old ≠ 0 ∧ old ≠ rate then [0, 3] else [0]) St.ok
    ((d.portHealth p).sendLldp p).pumpAll

/-- LINK_UP: its own effect, then what follows at once. -/
def execLinkUp (p rate : Nat) (s : State) : Host.Outcome State Fault Refusal := s.act (effectLinkUp p rate)

/-- LINK_DOWN (R292): a fault has lasted 1 ms; the port brings its link up anew. -/
def effectLinkDown (p : Nat) (d : Dev) : Dev :=
  d.when (d.portUp p) fun d => d.startPort p

/-- LINK_DOWN: its own effect, then what follows at once. -/
def execLinkDown (p : Nat) (s : State) : Host.Outcome State Fault Refusal := s.act (effectLinkDown p)

/-- RATE_FALLBACK (R292): LINK_WAIT passes without link in chip-to-module mode; the next lower usable rate is tried, after the lowest
the highest again. -/
def effectRateFallback (p : Nat) (d : Dev) : Dev :=
  let x := d.port p
  d.when (d.flag (F.fabPortCfg_medium p) && d.portSt p == psNO_SIGNAL
      && decide (x.tryFrom + d.rd (F.fabPortCfg_linkWait p) * 100 * msQ ≤ d.now)) fun d =>
    match (d.usableRates p).find? (fun r => decide (r < x.trying)), (d.usableRates p).head? with
    | some r, _ => d.setPort p { x with trying := r, tryFrom := d.now }
    | none, some r => d.setPort p { x with trying := r, tryFrom := d.now }
    | none, none => d

/-- RATE_FALLBACK: its own effect, then what follows at once. -/
def execRateFallback (p : Nat) (s : State) : Host.Outcome State Fault Refusal := s.act (effectRateFallback p)

/-- A lane's failures within 24 h, this one included; the third retires the lane (R295). -/
def Dev.countLane (d : Dev) (p l : Nat) : Dev :=
  let x := d.port p
  let fs := x.laneFails.filter (fun e => decide (d.now < e.2 + dayQ)) ++ [(l, d.now)]
  let d := d.setPort p { x with laneFails := fs }
  if 3 ≤ (fs.filter (fun e => e.1 == l)).length then
    (d.wr (F.fabPortState_retired p) (d.rd (F.fabPortState_retired p) ||| 2 ^ l)).recordRetirement
  else d

/-- LANE_FAIL (R293 to R295). -/
def effectLaneFail (p lane : Nat) (d : Dev) : Dev :=
  d.when (decide (p < 24 ∧ lane < 4) && d.laneGood p lane && d.portSt p != psDISABLED) fun d =>
    let d := d.dropLink p psDOWN
    let d := (d.wr (F.fabPortState_failed p) (d.rd (F.fabPortState_failed p) ||| 2 ^ lane)).raise (fabPage p) 2 St.ok
    let d := (d.countLane p lane).portHealth p
    if d.assist sprPage then
      let d := d.setPort p { d.port p with waiting := true }
      d.sprOpen { handle := 0, ident := (fabPage p).ident, kind := 2, detail := lane, utype := 12, logical := p }
    else d.startPort p

/-- LANE_FAIL: its own effect, then what follows at once. -/
def execLaneFail (p lane : Nat) (s : State) : Host.Outcome State Fault Refusal := s.act (effectLaneFail p lane)

/-- PORT_RETRAIN (R294; FAB_PORT_CTRL.RETRAIN). -/
def effectPortRetrain (p : Nat) (d : Dev) : Dev :=
  d.when (decide (p < 24) && !(d.port p).waiting) fun d => d.startPort p

/-- PORT_RETRAIN: its own effect, then what follows at once. -/
def execPortRetrain (p : Nat) (s : State) : Host.Outcome State Fault Refusal := s.act (effectPortRetrain p)

/-- RETRAIN_CLEAR_LANES (R294): FAILED clears for lanes that are not retired, then the port retrains. -/
def effectRetrainClearLanes (p : Nat) (d : Dev) : Dev :=
  d.when (decide (p < 24)) fun d =>
    (d.wr (F.fabPortState_failed p) (d.rd (F.fabPortState_failed p) &&& d.rd (F.fabPortState_retired p))).startPort p

/-- RETRAIN_CLEAR_LANES: its own effect, then what follows at once. -/
def execRetrainClearLanes (p : Nat) (s : State) : Host.Outcome State Fault Refusal := s.act (effectRetrainClearLanes p)

/-- PORT_DISABLE (FAB_PORT_CFG.ENABLE written 0; R305). -/
def effectPortDisable (p : Nat) (d : Dev) : Dev :=
  d.when (decide (p < 24)) fun d => (d.stopPort p).setFlag (F.fabPortCfg_enable p) false

/-- PORT_DISABLE: its own effect, then what follows at once. -/
def execPortDisable (p : Nat) (s : State) : Host.Outcome State Fault Refusal := s.act (effectPortDisable p)

/-! ### Received frames (R296 to R299) -/

/-- The destination is one of the port's: an own address but the reserved ones, broadcast, the listed group addresses, or the IPv6
all-nodes or a solicited-node address of a configured address. -/
def Dev.takesDest (d : Dev) (a : Nat) : Bool :=
  (decide (d.baseMac ≤ a) && decide (a ≤ d.baseMac + 24)) || a == 0xFFFFFFFFFFFF
    || [0x0180C200000E, 0x0180C2000000, 0x0180C2000001, 0x011B19000000].contains a
    || (d.ownFamilies.contains 1 && a == 0x333300000001)
    || (List.range 4).any (fun e => d.flag (F.tbnAddrCfg_valid.bank e) && d.rd (F.tbnAddrCfg_family.bank e) == 1
        && a == 0x3333FF000000 + ofBeBytes ((d.addrBytes e).drop 13))

/-- The class of a received frame (R300). -/
def rxClass (f : RxFrame) : Nat := if f.tagged then f.pcp else f.dscp / 8

/-- The counter of a frame that the port refuses, or none for one it takes. -/
def Dev.refusal (d : Dev) (p : Nat) (f : RxFrame) : Option Fld :=
  if !f.fcsOk then some (F.fabRxFcs p)
  else if f.len < 64 ∨ d.rd (F.fabPortCfg_maxFrame p) < f.len then some (F.fabRxLen p)
  else if (f.tagged ∧ f.vid ≠ 0 ∧ f.vid ≠ d.rd (F.fabVlan_vid p)) ∨ !d.takesDest f.dest ∨ 7 ≤ f.carries then some (F.fabRxFilter p)
  else if !f.room ∧ !bitOf (d.rd (F.fabPfc_en p)) (rxClass f) then some (F.fabRxNobuf p)
  else none

/-- FRAME_REFUSED (R296): the frame is dropped and counted. -/
def effectFrameRefused (p : Nat) (fr : RxFrame) (d : Dev) : Dev :=
  d.when (d.portUp p) fun d =>
    match d.refusal p fr with
    | some c => d.incSat c 1
    | none => d

/-- FRAME_REFUSED: its own effect, then what follows at once. -/
def execFrameRefused (p : Nat) (fr : RxFrame) (s : State) : Host.Outcome State Fault Refusal := s.act (effectFrameRefused p fr)

/-- The device has an address of a family. -/
def Dev.ownsAddr (d : Dev) (family : Nat) (a : List Byte) : Bool :=
  (List.range 4).any (fun e => d.flag (F.tbnAddrCfg_valid.bank e) && d.rd (F.tbnAddrCfg_family.bank e) == family && d.addrBytes e == a)

/-- ARP_RECEIVE (R299): a reply for an own address. -/
def effectArpReceive (p family : Nat) (target asker : List Byte) (d : Dev) : Dev :=
  d.when (d.portUp p && d.ownsAddr family target) fun d =>
    ((d.inc (F.fabRxFrames p) 1).emit .arp p [family, d.portMac p] (target ++ asker)).inc (F.fabTxFrames p) 1

/-- ARP_RECEIVE: its own effect, then what follows at once. -/
def execArpReceive (p family : Nat) (target asker : List Byte) (s : State) : Host.Outcome State Fault Refusal := s.act (effectArpReceive p family target asker)

/-- ECHO_REQUEST (R299): a reply, at most 100 within one second on a port. -/
def effectEchoRequest (p family : Nat) (target asker body : List Byte) (d : Dev) : Dev :=
  d.when (d.portUp p && d.ownsAddr family target) fun d =>
    let d := d.inc (F.fabRxFrames p) 1
    let es := (d.port p).echoes.filter (fun t => decide (d.now < t + secQ))
    if 100 ≤ es.length then d.setPort p { d.port p with echoes := es }
    else
      ((d.setPort p { d.port p with echoes := es ++ [d.now] }).emit .icmp p [family, d.portMac p] (target ++ asker ++ body)).inc
        (F.fabTxFrames p) 1

/-- ECHO_REQUEST: its own effect, then what follows at once. -/
def execEchoRequest (p family : Nat) (target asker body : List Byte) (s : State) : Host.Outcome State Fault Refusal := s.act (effectEchoRequest p family target asker body)

/-! ### LLDP (R305, R306) -/

/-- The neighbour registers show the entry. -/
def Dev.showNbr (d : Dev) (p : Nat) : Dev :=
  let pad (n : Nat) (b : List Byte) : List Byte := (b ++ List.replicate (n - b.length) 0).take n
  match (d.port p).nbr with
  | none => (d.setFlag (F.fabNbrState_valid p) false).setFlag (F.fabNbrState_welfaum p) false
  | some x =>
    let b := pad 64 (pad 16 x.chassis ++ pad 16 x.port ++ x.tlv)
    let d := (d.setFlag (F.fabNbrState_valid p) true).setFlag (F.fabNbrState_welfaum p) (!x.tlv.isEmpty)
    (List.range 16).foldl (fun d j => d.wr (F.fabNbr p j) (leAt b (4 * j) 4)) d

/-- LLDPDU_RECEIVE (R306): the most recent LLDPDU is the entry; TTL 0 invalidates it; a change sets NBR_CHANGE. -/
def effectLldpduReceive (p ttl : Nat) (chassis port tlv : List Byte) (mgmt : List (Nat × Nat)) (d : Dev) : Dev :=
  d.when (d.portUp p) fun d =>
    let d := d.inc (F.fabRxFrames p) 1
    let x := d.port p
    let new : Option Neighbour := if ttl = 0 then none
      else some { chassis := chassis, port := port, tlv := tlv, mgmt := mgmt, expires := d.now + ttl * secQ }
    let key (n : Option Neighbour) : Option (List Byte × List Byte × List Byte × List (Nat × Nat)) :=
      n.map (fun e => (e.chassis, e.port, e.tlv, e.mgmt))
    let d := (d.setPort p { x with nbr := new }).showNbr p
    if key x.nbr = key new then d else d.raise (fabPage p) 5 St.ok

/-- LLDPDU_RECEIVE: its own effect, then what follows at once. -/
def execLldpduReceive (p ttl : Nat) (chassis port tlv : List Byte) (mgmt : List (Nat × Nat)) (s : State) : Host.Outcome State Fault Refusal := s.act (effectLldpduReceive p ttl chassis port tlv mgmt)

/-- LLDP_NEIGHBOUR_EXPIRE (R306): the entry's TTL has passed. -/
def effectLldpNeighbourExpire (p : Nat) (d : Dev) : Dev :=
  match (d.port p).nbr with
  | none => d
  | some x =>
    d.when (decide (x.expires ≤ d.now)) fun d =>
      ((d.setPort p { d.port p with nbr := none }).showNbr p).raise (fabPage p) 5 St.ok

/-- LLDP_NEIGHBOUR_EXPIRE: its own effect, then what follows at once. -/
def execLldpNeighbourExpire (p : Nat) (s : State) : Host.Outcome State Fault Refusal := s.act (effectLldpNeighbourExpire p)

/-- LLDP_SEND (R305): each INTERVAL, and at once when the content has changed. -/
def effectLldpSend (p : Nat) (d : Dev) : Dev :=
  let x := d.port p
  d.when (decide (x.lldpNext ≤ d.now) || x.lldpSent != d.lldpdu p (d.lldpTtl p)) fun d => d.sendLldp p

/-- LLDP_SEND: its own effect, then what follows at once. -/
def execLldpSend (p : Nat) (s : State) : Host.Outcome State Fault Refusal := s.act (effectLldpSend p)

/-! ### PFC and its watchdog (R302, R303) -/

def Dev.pcp (d : Dev) (p q : Nat) : Nat := d.rd (F.fabQmap_pcp p q)

/-- Classes set in a list of (class, value). -/
def classBits (l : List (Nat × Nat)) : Nat := sumBy (fun (e : Nat × Nat) => 2 ^ e.1) l

/-- FAB_PAUSE_STATE follows the pauses and hold-offs. -/
def Dev.showPause (d : Dev) (p : Nat) : Dev :=
  let x := d.port p
  (d.wr (F.fabPauseState_paused p) (classBits x.pauseEnd)).wr (F.fabPauseState_heldOff p) (classBits x.holdEnd)

/-- The pause of a class ends: its watchdog timer stops and resets. -/
def Dev.unpause (d : Dev) (p c : Nat) : Dev :=
  let x := d.port p
  (d.setPort p { x with pauseEnd := mapDel x.pauseEnd c, pauseFrom := mapDel x.pauseFrom c }).showPause p

/-- Length of `n` quanta of 512 bit times in qns, rounded up. -/
def Dev.quantaQ (d : Dev) (p n : Nat) : Nat := ceilDiv (n * 2048) (100 * max 1 (d.portRate p))

/-- The watchdog's time of a class. -/
def Dev.wdQ (d : Dev) (p : Nat) : Nat := d.rd (F.fabPauseWd_wd p) * msQ

/-- The watchdog of a class is about to fire or fires now. -/
def Dev.wdDue (d : Dev) (p c : Nat) : Bool :=
  match mapLook (d.port p).pauseFrom c with
  | some t => decide (t + d.wdQ p < d.now)
  | none => false

/-- A PFC frame pauses one class, or resumes it with zero quanta; a class in hold-off, not enabled, or of queue 7 is left alone. -/
def Dev.pauseClass (d : Dev) (p c n : Nat) : Dev :=
  let x := d.port p
  if !bitOf (d.rd (F.fabPfc_en p)) c ∨ c = d.pcp p 7 ∨ (mapLook x.holdEnd c).isSome ∨ d.wdDue p c then d
  else if n = 0 then d.unpause p c
  else
    let live := match mapLook x.pauseEnd c with
      | some t => decide (d.now < t)
      | none => false
    (d.setPort p { x with pauseEnd := mapPut x.pauseEnd c (d.now + d.quantaQ p n),
                          pauseFrom := if live then x.pauseFrom else mapPut x.pauseFrom c d.now }).showPause p

/-- PFC_FRAME_RECEIVE (R302): `vec` names the classes, `quanta` holds their times. -/
def effectPfcFrameReceive (p vec : Nat) (quanta : List Nat) (d : Dev) : Dev :=
  d.when (d.portUp p) fun d =>
    let d := (d.inc (F.fabRxFrames p) 1).incSat (F.fabPfcRx p) 1
    (List.range 8).foldl (fun d c => if bitOf vec c then d.pauseClass p c (nthD quanta c 0) else d) d

/-- PFC_FRAME_RECEIVE: its own effect, then what follows at once. -/
def execPfcFrameReceive (p vec : Nat) (quanta : List Nat) (s : State) : Host.Outcome State Fault Refusal := s.act (effectPfcFrameReceive p vec quanta)

/-- A PFC frame of one class leaves. -/
def Dev.sendPfc (d : Dev) (p c n : Nat) : Dev :=
  ((d.emit .pfc p [c, n, d.portMac p]).incSat (F.fabPfcTx p) 1).inc (F.fabTxFrames p) 1

/-- PFC_XOFF_REPEAT (R302): `held` is what the class occupies of the receive buffer. Above XOFF the port sends XOFF, and repeats it
every 32,768 quanta; below XON it sends XON. It never sends one for the classes of queues 6 and 7. -/
def effectPfcXoffRepeat (p cls held : Nat) (d : Dev) : Dev :=
  let x := d.port p
  d.when (d.portUp p && decide (cls < 8) && bitOf (d.rd (F.fabPfc_en p)) cls && cls != d.pcp p 6 && cls != d.pcp p 7) fun d =>
    let above := decide ((d.rd (F.fabPfc_xoff p) + 1) * 65536 < held)
    let under := decide (held < (d.rd (F.fabPfc_xon p) + 1) * 65536)
    match mapLook x.xoff cls with
    | none => if above then (d.setPort p { x with xoff := mapPut x.xoff cls d.now }).sendPfc p cls 65535 else d
    | some t =>
      if under then (d.setPort p { x with xoff := mapDel x.xoff cls }).sendPfc p cls 0
      else if above ∧ t + d.quantaQ p 32768 ≤ d.now then (d.setPort p { x with xoff := mapPut x.xoff cls d.now }).sendPfc p cls 65535
      else d

/-- PFC_XOFF_REPEAT: its own effect, then what follows at once. -/
def execPfcXoffRepeat (p cls held : Nat) (s : State) : Host.Outcome State Fault Refusal := s.act (effectPfcXoffRepeat p cls held)

/-- PAUSE_EXPIRY (R302, R303): the quanta of a class have run out. -/
def effectPauseExpiry (p cls : Nat) (d : Dev) : Dev :=
  match mapLook (d.port p).pauseEnd cls with
  | none => d
  | some t => d.when (decide (t ≤ d.now)) fun d => d.unpause p cls

/-- PAUSE_EXPIRY: its own effect, then what follows at once. -/
def execPauseExpiry (p cls : Nat) (s : State) : Host.Outcome State Fault Refusal := s.act (effectPauseExpiry p cls)

/-- PAUSE_WATCHDOG (R303): the class has been paused for longer than WD; its pause is ignored for HOLDOFF. -/
def effectPauseWatchdog (p cls : Nat) (d : Dev) : Dev :=
  d.when (d.wdDue p cls) fun d =>
    let d := d.unpause p cls
    let x := d.port p
    let d := (d.setPort p { x with holdEnd := mapPut x.holdEnd cls (d.now + d.rd (F.fabPauseWd_holdoff p) * 10 * msQ) }).showPause p
    (d.incSat (F.fabPauseWdCnt_count p) 1).raise (fabPage p) 4 St.ok

/-- PAUSE_WATCHDOG: its own effect, then what follows at once. -/
def execPauseWatchdog (p cls : Nat) (s : State) : Host.Outcome State Fault Refusal := s.act (effectPauseWatchdog p cls)

/-- PAUSE_HOLDOFF_END (R303). -/
def effectPauseHoldoffEnd (p cls : Nat) (d : Dev) : Dev :=
  let x := d.port p
  match mapLook x.holdEnd cls with
  | none => d
  | some t => d.when (decide (t ≤ d.now)) fun d => (d.setPort p { x with holdEnd := mapDel x.holdEnd cls }).showPause p

/-- PAUSE_HOLDOFF_END: its own effect, then what follows at once. -/
def execPauseHoldoffEnd (p cls : Nat) (s : State) : Host.Outcome State Fault Refusal := s.act (effectPauseHoldoffEnd p cls)

/-! ### Transmission (R298, R300, R301) and egress stamps (R304) -/

/-- A queue is paused: its class is, and it is not queue 7. -/
def Dev.qPaused (d : Dev) (p q : Nat) : Bool :=
  q != 7 && match mapLook (d.port p).pauseEnd (d.pcp p q) with
    | some t => decide (d.now < t)
    | none => false

/-- A queue has a frame that may start. -/
def Dev.qReady (d : Dev) (p q : Nat) : Bool := (d.port p).txq.any (fun f => f.queue == q) && !d.qPaused p q

/-- Queue 0 is below its guaranteed share over the last 100 µs. -/
def Dev.q0Owed (d : Dev) (p : Nat) : Bool :=
  let sent := sumBy (fun (e : Nat × Nat) => e.2) ((d.port p).q0Sent.filter (fun e => decide (d.now < e.1 + 100 * usQ)))
  decide (sent * 8 < d.rd (F.fabQ0Min_pct p) * d.portRate p * 100000)

/-- Quantum of the queue at a place in the order 4, 3, 2, 1. -/
def Dev.quantum (d : Dev) (p k : Nat) : Nat := bitsAt (d.rd (F.fabDwrr_w p)) (8 * (3 - k)) 8 * 512

/-- Deficit-weighted round robin: the queue whose frame starts, and the port's counters after the choice. -/
def Dev.dwrr (d : Dev) (p : Nat) : Nat → FabPort → Option (Nat × FabPort)
  | 0, _ => none
  | fuel + 1, x =>
    let k := x.turn % 4
    let q := 4 - k
    let next (df : Nat) : FabPort := { x with turn := (k + 1) % 4, fresh := true, deficit := setNth x.deficit k df }
    match x.txq.find? (fun f => f.queue == q) with
    | none => d.dwrr p fuel (next 0)
    | some f =>
      if d.qPaused p q then d.dwrr p fuel (next (nthD x.deficit k 0))
      else
        let df := nthD x.deficit k 0 + (if x.fresh then d.quantum p k else 0)
        if f.len ≤ df then some (q, { x with fresh := false, deficit := setNth x.deficit k (df - f.len) })
        else d.dwrr p fuel (next df)

/-- The queue the port serves next, and its counters. -/
def Dev.nextQueue (d : Dev) (p : Nat) : Option (Nat × FabPort) :=
  let x := d.port p
  match [7, 6, 5].find? (d.qReady p) with
  | some q => some (q, x)
  | none =>
    if d.qReady p 0 && d.q0Owed p then some (0, x)
    else
      match (if [4, 3, 2, 1].any (d.qReady p) then d.dwrr p 128 x else none) with
      | some r => some r
      | none => if d.qReady p 0 then some (0, x) else none

/-- Remove the first frame of a queue. -/
def takeFrame (q : Nat) : List Frame → Option (Frame × List Frame)
  | [] => none
  | f :: fs => if f.queue = q then some (f, fs) else (takeFrame q fs).map (fun r => (r.1, f :: r.2))

/-- The FIFO registers show the oldest stamp. -/
def Dev.showTs (d : Dev) (p : Nat) : Dev :=
  let x := d.port p
  let e := x.tsFifo.head?.getD (0, 0, 0, 0)
  let d := ((d.wr (F.fabTsFifo0_msgtype p) e.1).wr (F.fabTsFifo0_domain p) e.2.1).wr (F.fabTsFifo0_seqId p) e.2.2.1
  let d := (d.wr (F.fabTsFifo1 p) (e.2.2.2 % 2 ^ 32)).wr (F.fabTsFifo2 p) (e.2.2.2 / 2 ^ 32)
  (d.setFlag (F.fabTsFifo3_valid p) (!x.tsFifo.isEmpty)).setFlag (F.fabTsFifo3_overflow p) x.tsOver

/-- An egress stamp enters the FIFO of 16, or is lost. -/
def Dev.pushTs (d : Dev) (p : Nat) (e : Nat × Nat × Nat × Nat) : Dev :=
  let x := d.port p
  if x.tsFifo.length < 16 then (d.setPort p { x with tsFifo := x.tsFifo ++ [e] }).showTs p
  else ((d.setPort p { x with tsOver := true }).showTs p).raise (fabPage p) 6 St.ok

/-- A PTP message enters queue 6. Its data are messageType, domain, sequence id, the stamp it carries. -/
def Dev.queuePtp (d : Dev) (p kind dom seq stamp : Nat) : Dev :=
  d.enqueue p { queue := 6, len := d.frameLen p 64, dest := 0, kind := .ptp, data := [kind, dom, seq, stamp] }

/-- What the stamp of an event message's egress sets off: Sync and Pdelay_Resp are followed by their Follow_Up with the stamp
(two-step operation), Delay_Req and Pdelay_Req keep it as t3 or t1. -/
def Dev.ptpSent (d : Dev) (p kind dom seq stamp : Nat) : Dev :=
  let d := d.pushTs p (kind, dom, seq, stamp)
  match kind with
  | 0 => d.queuePtp p 8 dom seq stamp
  | 3 => d.queuePtp p 10 dom seq stamp
  | _ =>
    let x : PtpPort := mapGet {} d.tim.ports p
    d.setTim { d.tim with ports := mapPut d.tim.ports p { x with req := some (seq, stamp) } }

/-- FRAME_TRANSMIT (R301): the port starts a frame; `align` is the alignment delay measured for it (R304). The transport may then send
more. -/
def effectFrameTransmit (p align : Nat) (d : Dev) : Dev :=
  d.when (d.portUp p) fun d =>
    match d.nextQueue p with
    | none => d
    | some (q, x) =>
      match takeFrame q x.txq with
      | none => d
      | some (f, rest) =>
        let sent := if q = 0 then x.q0Sent.filter (fun e => decide (d.now < e.1 + 100 * usQ)) ++ [(d.now, f.len)] else x.q0Sent
        let d := d.setPort p { x with txq := rest, q0Sent := sent }
        let tag := if d.flag (F.fabPortCfg_tagEn p) then [1, d.rd (F.fabVlan_vid p), d.pcp p q] else [0, 0, 0]
        let d := (d.emit f.kind f.dest ([p, q, d.portMac p] ++ tag ++ f.data) f.bytes).inc (F.fabTxFrames p) 1
        let d := if f.kind = .ptp ∧ nthD f.data 0 15 ≤ 3 then
            d.ptpSent p (nthD f.data 0 0) (nthD f.data 1 0) (nthD f.data 2 0) (d.now + d.rd (F.fabTsLat_tx p) + align)
          else d
        d.pumpAll

/-- FRAME_TRANSMIT: its own effect, then what follows at once. -/
def execFrameTransmit (p align : Nat) (s : State) : Host.Outcome State Fault Refusal := s.act (effectFrameTransmit p align)

/-- TS_FIFO_POP (R304): a read of FAB_TS_FIFO3 removes the oldest entry and OVERFLOW. -/
def effectTsFifoPop (p : Nat) (d : Dev) : Dev :=
  d.when (decide (p < 24)) fun d => (d.setPort p { d.port p with tsFifo := (d.port p).tsFifo.drop 1, tsOver := false }).showTs p

/-- TS_FIFO_POP: its own effect, then what follows at once. -/
def execTsFifoPop (p : Nat) (s : State) : Host.Outcome State Fault Refusal := s.act (effectTsFifoPop p)

/-- WAKE_LOCKOUT_END (R307). -/
def effectWakeLockoutEnd (p : Nat) (d : Dev) : Dev :=
  let x := d.port p
  d.when (decide (x.wakeLock ≠ 0 ∧ x.wakeLock ≤ d.now)) fun d => d.setPort p { x with wakeLock := 0, wakeRej := [] }

/-- WAKE_LOCKOUT_END: its own effect, then what follows at once. -/
def execWakeLockoutEnd (p : Nat) (s : State) : Host.Outcome State Fault Refusal := s.act (effectWakeLockoutEnd p)

end Sys2Proof.Machine
end

