-- ==== Sys2Proof/Machine/Slice.lean ====
section
/-! DEFINITION. FP64 and FP32 work on the narrow array: the slicing phase and the product phase of SLICE64 and SLICE32
(08_slice_precision.md R166 to R182). -/

namespace Sys2Proof.Machine

/-! ### The slicing phase (R167, R168, R173, R178) -/

/-- An element of op(A) and of op(B), read in stored order. -/
def Dev.slElemA (d : Dev) (o : Obj) (c : Cmd) (i k : Nat) : FVal := if slTa c = 1 then d.elem o (slA c) k i else d.elem o (slA c) i k
def Dev.slElemB (d : Dev) (o : Obj) (c : Cmd) (k j : Nat) : FVal := if slTb c = 1 then d.elem o (slB c) j k else d.elem o (slB c) k j

/-- The exponent of a row or column: ilogb of its largest magnitude, plus 1; 0 where every element is zero (R167). -/
def sliceExp (xs : List FVal) : Int :=
  match xs.foldl (fun a x => a.max x.abs) FVal.zero with
  | .fin _ m e => if m = 0 then 0 else ilog2 m e + 1
  | _ => 0

/-- Digit `t` of an element under exponent `e` with `s` slices (R168). -/
def sliceDigit (s : Nat) (e : Int) (t : Nat) (x : FVal) : Int :=
  match x with
  | .fin neg m f =>
    let v := Int.ofNat ((inUnits m f (e - 7 * Int.ofNat s)).1 / 128 ^ (s - t) % 128)
    if neg then -v else v
  | _ => 0

/-- A vector's planes: digits for SLICE64, BF16 halves for SLICE32. `at_ t` is where the elements of plane `t` go. -/
def putPlanes (m : Memory) (ws : Obj) (c : Cmd) (xs : List FVal) (plane : Nat → Tens) (at_ : Nat → Nat × Nat) : Memory :=
  let e := sliceExp xs
  (List.range (slPlanes c)).foldl (fun m t => (xs.zipIdx).foldl (fun m y =>
    let raw := if slIs64 c then unsignedOf 8 (sliceDigit (slS c) e (t + 1) y.1)
      else (bf16.conv .near (if t = 0 then y.1 else y.1.sub (hiHalf y.1))).1
    putRaw m ws (plane t) (at_ y.2).1 (at_ y.2).2 raw) m) m

/-- The exponent of row or column `i`, stored as INT16 at its place in a vector. -/
def putExp (m : Memory) (ws : Obj) (c : Cmd) (vec i : Nat) (xs : List FVal) : Memory :=
  if slIs64 c then putWord m ws (vec + 2 * i) 2 (unsignedOf 16 (sliceExp xs)) else m

/-- Part `p`'s share of op(A) and op(B): rows and columns as (index, elements). -/
def Dev.slRows (d : Dev) (x : PartId) (c : Cmd) : List (Nat × List FVal) :=
  let o := (d.partObj x (slAHandle c)).2
  let r := slShare (slM c) (slCount c) x.p
  (range' r.1 r.2).map (fun i => (i, (List.range (slK c)).map (d.slElemA o c i)))

def Dev.slCols (d : Dev) (x : PartId) (c : Cmd) : List (Nat × List FVal) :=
  let o := (d.partObj x (slBHandle c)).2
  let r := slShare (slN c) (slCount c) x.p
  (range' r.1 r.2).map (fun j => (j, (List.range (slK c)).map (fun k => d.slElemB o c k j)))

/-- A part has run its first phase. -/
def Dev.setHalf (d : Dev) (x : PartId) : Dev :=
  match d.cmdAt x.q x.i with
  | none => d
  | some e =>
    match e.parts[x.p]? with
    | none => d
    | some y => d.setCmd x.q { e with parts := setNth e.parts x.p { y with half := true } }

/-- The part is in its second phase. -/
def Dev.isHalf (d : Dev) (x : PartId) : Bool :=
  (((d.cmdAt x.q x.i).bind (fun e => e.parts[x.p]?)).map (fun y => y.half)).getD false

/-- An operand stands in a format that slicing does not read (R163). -/
def Dev.slUnfit (d : Dev) (x : PartId) (c : Cmd) : Bool :=
  [slAHandle c, slBHandle c].any (fun h => d.actual x h (slIn c) != slIn c) || (slIs64 c && d.actual x (slCHandle c) 0x10 != 0x10)
    || d.actual x (slWsHandle c) (slCode c) != slCode c

/-- The slicing phase of a part. -/
def Dev.runSlice (d : Dev) (x : PartId) (op : Nat) : Dev :=
  if d.isHalf x then d
  else d.onUnit x op fun d c _ =>
    d.gate x (slOpnds c) fun d =>
      let rows := d.slRows x c
      let cols := d.slCols x c
      if d.slUnfit x c then d.unfit x
      else if (rows ++ cols).any (fun r => r.2.any (fun y => !y.isFinite)) then d.failPart x.q x.i x.p St.nonfinite
      else
        let ws := (d.partObj x (slWsHandle c)).2
        let m := rows.foldl (fun m r => putExp (putPlanes m ws c r.2 (slPlaneA c) (fun k => (r.1, k))) ws c (slVecE c) r.1 r.2) d.t0
        let m := cols.foldl (fun m r => putExp (putPlanes m ws c r.2 (slPlaneB c) (fun k => (k, r.1))) ws c (slVecF c) r.1 r.2) m
        ((d.setT0 m).soil x (bytesOpnd (slWsHandle c) 0 (slWsBytes c) true)).setHalf x

/-- SLICE64 (R166): the slicing phase of part `p`. -/
def effectSlice64 (q i p : Nat) (d : Dev) : Dev := d.runSlice ⟨q, i, p⟩ opSLICE64

/-- SLICE64: its own effect, then what follows at once. -/
def execSlice64 (q i p : Nat) (s : State) : Host.Outcome State Fault Refusal := s.act (effectSlice64 q i p)

/-- SLICE32 (R166): the slicing phase of part `p`. -/
def effectSlice32 (q i p : Nat) (d : Dev) : Dev := d.runSlice ⟨q, i, p⟩ opSLICE32

/-- SLICE32: its own effect, then what follows at once. -/
def execSlice32 (q i p : Nat) (s : State) : Host.Outcome State Fault Refusal := s.act (effectSlice32 q i p)

/-! ### The product phase (R169 to R171, R173) -/

/-- The pairs kept, in ascending order of t + u and then of t (R169, R170). -/
def slicePairs (s : Nat) : List (Nat × Nat) :=
  (range' 2 s).flatMap (fun m => (range' 1 s).filterMap (fun t => if t < m ∧ m - t ≤ s then some (t, m - t) else none))

/-- A term of the recombination; below 2^−1022 it is rounded as it is formed (R171). -/
def sliceTerm (sum : Int) (e : Int) : FVal :=
  let x := (FVal.ofInt sum).scale e
  if x.abs.lt (.pow2 (-1022)) then r64 x else x

/-- A sum fits the 106 bits of the double-double. -/
def fits106 : FVal → Bool
  | .fin _ m _ => m % 2 ^ (Nat.log2 m - 105) == 0
  | _ => true

/-- The recombined value: the exact sum of the terms; with an existing value, exact where every partial sum fits the double-double, else
free (log entry 60). -/
def recombine (old : Option FVal) (terms : List FVal) : FVal :=
  match old with
  | none => terms.foldl FVal.add .zero
  | some c =>
    let r := terms.foldl (fun (a : FVal × Bool) t => let x := a.1.add t; (x, a.2 && fits106 x)) (c, true)
    if r.2 then r.1 else Config.funcUnit 2 1 (c :: terms)

/-- What a SLICE64 part works from: plane digits and exponents as integers. -/
structure Slice where
  g : DrainIn
  c : Cmd
  ws : Obj

/-- A digit of plane `t` of A and of B, read from the workspace. -/
def Slice.da (z : Slice) (t i k : Nat) : FVal := z.g.d.elem z.ws (slPlaneA z.c (t - 1)) i k
def Slice.db (z : Slice) (t k j : Nat) : FVal := z.g.d.elem z.ws (slPlaneB z.c (t - 1)) k j

/-- An exponent, read from the workspace. -/
def Slice.exp (z : Slice) (vec i : Nat) : Int := signedOf 16 (ofLeBytes (z.g.d.read0 z.ws (vec + 2 * i) 2))

/-- The passes of a tile: pair, K block. -/
def Slice.passes (z : Slice) : List ((Nat × Nat) × Nat) :=
  (slicePairs (slS z.c)).flatMap (fun p => (List.range (ceilDiv (slK z.c) 256)).map (fun b => (p, b)))

/-- The INT32 sums of a pair over a tile; a failed row of the last pass run holds a free value. -/
def Slice.sums (z : Slice) (t : TileAt) (p : Nat × Nat) (fault : Option Nat) : List (List FVal) :=
  let ks := List.range (slK z.c)
  let outs := (passRows true 2 ((range' t.r0 t.nr).map (fun i => ks.map (z.da p.1 i)))
    ((range' t.c0 t.nc).map (fun j => ks.map (fun k => z.db p.2 k j)))).1
  outs.zipIdx.map (fun y => if fault = some y.2 then y.1.map (fun v => FVal.ofInt (r32 (Config.funcUnit 2 0 [v])).toInt) else y.1)

/-- A tile drains `done` rows: recombination, one rounding, stage 8. -/
def Slice.tile (z : Slice) (st : ArrayRun) (t : TileAt) (n : Nat) (fault : Option Nat) (done : Nat) : ArrayRun :=
  let st := { st with passes := st.passes + n }
  if done = 0 then st
  else
    let ps := slicePairs (slS z.c)
    let sums := ps.map (fun p => (p.1 + p.2, z.sums t p (if ps.getLast? = some p then fault else none)))
    let out := (List.range (min done t.nr)).flatMap (fun i => (List.range t.nc).map (fun j =>
      let e := z.exp (slVecE z.c) (t.r0 + i) + z.exp (slVecF z.c) (t.c0 + j)
      let terms := sums.map (fun y => sliceTerm (nthD (nthD y.2 i []) j .zero).toInt (e - 7 * Int.ofNat y.1))
      (i, j, recombine (if z.g.acc then some (z.g.old (t.r0 + i) (t.c0 + j)) else none) terms)))
    let w := out.foldl (fun (a : Memory × List (Nat × Nat × Cls)) y =>
      let c := fp64.conv .near y.2.2
      (putRaw a.1 z.g.obj z.g.t (t.r0 + y.1) (t.c0 + y.2.1) c.1, a.2 ++ [(y.1, y.2.1, c.2)])) (st.s.mem, [])
    { st with s := { st.s with mem := w.1 }.count w.2 }

/-- A SLICE64 part's tiles up to a mismatch, where there is one: the run and the status with which the part is to fail. -/
def Dev.runSlice64 (d : Dev) (z : Slice) (ts : List TileAt) (bad : Option CsFault) (work : Nat) : Dev :=
  let np := z.passes.length
  let l := slOpnds z.c
  let whole (ts : List TileAt) : ArrayRun := ts.foldl (fun st t => z.tile st t np none t.nr) { s := { mem := d.t0 } }
  match bad with
  | none =>
    let r := whole ts
    let core := d.seated z.g.x
    let d := ((d.drained z.g r.s l).coreCounts core r.passes 0).coreOn core
    d.partRan z.g.x.q z.g.x.i z.g.x.p ((r.s.first.map reportStatus).getD 0) 0 work
  | some f =>
    let n := f.pass % np + 1
    match ts[f.pass / np]? with
    | none => d
    | some t =>
      if t.nr ≤ f.row ∨ t.nr < f.rows ∨ (n < np ∧ f.rows ≠ 0) then d
      else d.arrayMismatch z.g (z.tile (whole (ts.take (f.pass / np))) t n (some f.row) f.rows) l f.row

/-- The status with which a command's slicing phase failed (R178). -/
def sliceFailed (ps : List Part) : Option Nat := (ps.find? (fun y => y.status != 0 && !y.half)).map (fun y => y.status)

/-- The product phase of a part: once every part has sliced; a failed slicing phase fails it unrun. -/
def Dev.runProduct (d : Dev) (x : PartId) (op : Nat) (bad : Option CsFault) : Dev :=
  match d.cmdAt x.q x.i with
  | none => d
  | some e =>
    match sliceFailed e.parts with
    | some st => d.when (d.partReady x.q x.i x.p op) fun d => d.failPart x.q x.i x.p st
    | none =>
      if !e.parts.all (fun y => y.half) then d
      else d.onUnit x op fun d c _ =>
        d.gate x (slOpnds c) fun d =>
          let ws := (d.partObj x (slWsHandle c)).2
          let g := d.drainIn x descNone (slCHandle c) (slC c) (slM c) (slN c) false (slAcc c == 1)
          let r := slPart c x.p
          let ts := tilesOf (slChunk c) 0 1 r.1 r.2.1 r.2.2.1 r.2.2.2
          let macs := r.2.1 * r.2.2.2 * slK c
          if slIs64 c then d.runSlice64 ⟨g, c, ws⟩ ts bad (macs * slPairs c)
          else
            let z : Product := {
              g := g, ip := false, wide := true, k := slK c, mu := 1, stream := 0, srMin := d.rd F.glbSrCfg_srMinChain,
              a := fun s _ i k => d.elem ws (slPlaneA c (if s = 0 then 1 else 0)) i k,
              b := fun s _ k j => d.elem ws (slPlaneB c (if s = 1 then 1 else 0)) k j }
            d.runProd z ts bad (slOpnds c) (g.obj.format (slCFmt c)) (3 * macs)

/-- SLICE_PRODUCT_PHASE (R166, R170 to R173). -/
def effectSliceProductPhase (q i p : Nat) (bad : Option CsFault) (d : Dev) : Dev :=
  d.runProduct ⟨q, i, p⟩ (if cmdOpcode (d.cmdBody q i) = opSLICE64 then opSLICE64 else opSLICE32) bad

/-- SLICE_PRODUCT_PHASE: its own effect, then what follows at once. -/
def execSliceProductPhase (q i p : Nat) (bad : Option CsFault) (s : State) : Host.Outcome State Fault Refusal := s.act (effectSliceProductPhase q i p bad)

end Sys2Proof.Machine
end

