-- ==== Sys2Proof/Machine/Engine.lean ====
section
/-! DEFINITION. What the Arcade's engines share: lane modes, output conversion and its classes, the end of a part, sums
(09_arcade_engines.md R183 to R190, R196, R210). -/

namespace Sys2Proof.Machine

def engPage (p n : Nat) : Page := pfPage .eng p n

/-- The format of a floating-point lane mode, and rounding to it (R191). -/
def laneFmt (lane : Nat) : FFmt := if lane = 1 then fp64 else fp32
def laneRnd (lane : Nat) (x : FVal) : FVal := (laneFmt lane).ieee' .near x

/-- Lane width in bits. -/
def laneBits : Nat → Nat
  | 1 => 64 | 3 => 16 | _ => 32

/-- An integer in a lane, wrapping. -/
def laneWrap (lane : Nat) (x : Int) : FVal := FVal.ofInt (signedOf (laneBits lane) (unsignedOf (laneBits lane) x))

/-- An element converted to the lane mode as it is read: exactly, FP64 into FP32 lanes to nearest (R187). -/
def toLane (lane : Nat) (x : FVal) : FVal := if lane = 0 then r32 x else if lane = 1 then x else laneWrap lane x.toInt

/-! ### Outputs (R188) -/

/-- A row of outputs, consecutive columns in order, converted to the tensor's format: memory and classes. MX outputs are quantised along
rows. -/
def putVals (m : Memory) (o : Obj) (t : Tens) (r : Nat) (ys : List (Nat × FVal)) : Memory × List Cls :=
  if codeMx t.code then
    (blocks32 ys).foldl (fun (acc : Memory × List Cls) bl =>
      let q := mxBlock t.code (bl.map (fun y => (y.2, Rnd.near)))
      let c0 := (bl.head?.map (fun y => y.1)).getD 0
      (putByte (putRow acc.1 o t r c0 (q.2.map (fun e => e.1))) o (t.scaleAt r c0) q.1, acc.2 ++ q.2.map (fun e => e.2))) (m, [])
  else
    ys.foldl (fun (acc : Memory × List Cls) y =>
      let e := elemEnc t.code .near y.2
      (putRaw acc.1 o t r y.1 e.1, acc.2 ++ [e.2])) (m, [])

/-- Outputs of a part: memory, counts and the first flagged class, kept as a drain keeps them. -/
abbrev EngSt := DrainSt

/-- A row of outputs is written and counted. -/
def DrainSt.put (s : EngSt) (o : Obj) (t : Tens) (r : Nat) (ys : List (Nat × FVal)) : EngSt :=
  let w := putVals s.mem o t r ys
  { s with mem := w.1 }.count ((w.2.zipIdx).map (fun (c : Cls × Nat) => (0, c.2, c.1)))

/-! ### The end of a part -/

/-- The last flagged part. -/
def Dev.engFlag (d : Dev) (x : PartId) : Dev :=
  let p := d.seated x
  let c := d.cmdBody x.q x.i
  (d.wr (F.engLast_layer p) (cmdLayer c)).wr (F.engLast_opcode p) (cmdOpcode c)

/-- An event of the part's engine. -/
def Dev.engRaise (d : Dev) (x : PartId) (bit status : Nat) : Dev :=
  (d.engFlag x).raise (engPage (d.seated x) 1) bit status (d.causeOf x.q (d.cmdBody x.q x.i))

/-- What a part leaves in memory and in its engine: written units are dirty, PARTS counts it, SATURATE and NONFINITE set their events. -/
def Dev.engCounts (d : Dev) (x : PartId) (s : EngSt) (opnds : List Opnd) : Dev :=
  let p := d.seated x
  let d := (opnds.filter (fun a => a.write)).foldl (fun d a => d.soil x a) (d.setT0 s.mem)
  let d := d.wr (F.engParts_parts p) ((d.rd (F.engParts_parts p) + 1) % 2 ^ 32)
  let d := if s.sat = 0 then d else d.engRaise x 0 St.ok
  if s.nf = 0 then d else d.engRaise x 1 St.nonfinite

/-- A part has run: its outputs' classes are reported (R161). -/
def Dev.engDone (d : Dev) (x : PartId) (s : EngSt) (opnds : List Opnd) (fmt work : Nat) : Dev :=
  (d.engCounts x s opnds).finish x (s.first.getD .plain) fmt 0 work

/-- A part that stops with a status after part of its work; what it had written remains (R82). -/
def Dev.engFail (d : Dev) (x : PartId) (s : EngSt) (opnds : List Opnd) (status : Nat) : Dev :=
  (d.engCounts x s opnds).failPart x.q x.i x.p status

/-- JNC and GSE: dropped assignments (bit 5) and out-of-range records (bit 6) counted in ENG_SPEC_CNT0. -/
def Dev.engSpecial (d : Dev) (x : PartId) (bit n : Nat) : Dev :=
  if n = 0 then d else (d.incSat (F.engSpecCnt_cnt0 (d.seated x) 0) n).engRaise x bit St.ok

/-- The tensor as its object holds it, and the object. -/
def Dev.tensOf (d : Dev) (x : PartId) (h : Nat) (t : Tens) : Obj × Tens := let o := (d.partObj x h).2; (o, t.in o)

/-! ### Sums in a fixed order (R196) -/

/-- The terms that a tree adds, left to right. -/
def SumTree.leaves : SumTree → List Nat
  | .leaf i => [i]
  | .node l r => l.leaves ++ r.leaves

/-- The sum along a tree. -/
def SumTree.eval (rnd : FVal → FVal) (xs : List FVal) : SumTree → FVal
  | .leaf i => nthD xs i .zero
  | .node l r => rnd ((l.eval rnd xs).add (r.eval rnd xs))

/-- The sum of terms, each addition rounded: in the engine's own fixed order where that adds every term once, else in list order
(log entry 61). -/
def treeSum (lane : Nat) (rnd : FVal → FVal) (xs : List FVal) : FVal :=
  match xs with
  | [] => .zero
  | y :: ys =>
    let t := Config.sumOrder lane (ys.length + 1)
    if sortBy id t.leaves = List.range (ys.length + 1) then t.eval rnd xs else ys.foldl (fun a b => rnd (a.add b)) y

/-- A sum in FP64, in lanes of the mode. -/
def sum64 (lane : Nat) (xs : List FVal) : FVal := treeSum lane r64 xs

end Sys2Proof.Machine
end

