-- ==== Sys2Proof/Machine/Norm.lean ====
section
/-! DEFINITION. NORM: norms, statistics and reductions (09_arcade_engines.md R195, R196). Elementwise work is in the lane format, one
rounding for each operation as written; sums are FP64 in the engine's fixed order (log entry 61). -/

namespace Sys2Proof.Machine

/-- What a NORM part works from. -/
structure NormIn where
  d : Dev
  x : PartId
  c : Cmd

def NormIn.lane (z : NormIn) : Nat := normLane z.c
def NormIn.len (z : NormIn) : Nat := normLen z.c

/-- Rounding to the lane. -/
def NormIn.r (z : NormIn) (x : FVal) : FVal := laneRnd z.lane x

/-- A row of X, and of DY, in the lane. -/
def NormIn.row (z : NormIn) (r : Nat) : List FVal :=
  let e := z.d.tensOf z.x (normX z.c) (normXT z.c)
  (List.range z.len).map (fun k => toLane z.lane (z.d.elem e.1 e.2 r k))
def NormIn.dyRow (z : NormIn) (r : Nat) : List FVal :=
  let e := z.d.tensOf z.x (normDy z.c) (normXT z.c)
  (List.range z.len).map (fun k => toLane z.lane (z.d.elem e.1 e.2 r k))

/-- An FP32 vector of the command: GAMMA, BETA, SAVE. -/
def NormIn.vec (z : NormIn) (h k : Nat) : FVal := z.d.f32At (z.d.partObj z.x h).2 (4 * k)

def NormIn.gamma (z : NormIn) (k : Nat) : FVal := if normGamma z.c = 0 then .one else z.vec (normGamma z.c) k
def NormIn.beta (z : NormIn) (k : Nat) : FVal := if normBeta z.c = 0 then .zero else z.vec (normBeta z.c) k

/-- The FP64 sum and mean of a row's terms. -/
def NormIn.sum (z : NormIn) (xs : List FVal) : FVal := sum64 z.lane xs
def NormIn.mean (z : NormIn) (xs : List FVal) : FVal := r64 ((z.sum xs).quot (.ofNat xs.length))

/-- 1 ÷ √(v + ε). -/
def NormIn.invRoot (z : NormIn) (v : FVal) : FVal := z.r (r64 (FVal.one.quot (r64 (r64 (v.add (fp32.decode (normEps z.c)))).root)))

/-- A product of a sum of squares. -/
def sq64 (x : FVal) : FVal := r64 (x.mul x)

/-- Results of a row: Y's elements, SAVE's values. -/
structure NormRow where
  y : List FVal := []
  save : List FVal := []

/-- LAYERNORM and RMSNORM. -/
def NormIn.forward (z : NormIn) (r : Nat) : NormRow :=
  let xs := z.row r
  if normOp z.c = 0 then
    let mu := z.r (z.mean xs)
    let ds := xs.map (fun x => z.r (x.sub mu))
    let rr := z.invRoot (z.mean (ds.map sq64))
    { y := ds.zipIdx.map (fun e => z.r ((z.r ((z.r (e.1.mul rr)).mul (z.gamma e.2))).add (z.beta e.2))), save := [mu, rr] }
  else
    let rr := z.invRoot (z.mean (xs.map sq64))
    { y := xs.zipIdx.map (fun e => z.r ((z.r (e.1.mul rr)).mul (z.gamma e.2))), save := [rr] }

/-- x̂ of a row, from SAVE. -/
def NormIn.hat (z : NormIn) (r : Nat) : List FVal × FVal :=
  if normOp z.c = 2 then
    let mu := z.vec (normSave z.c) (2 * r)
    let rr := z.vec (normSave z.c) (2 * r + 1)
    ((z.row r).map (fun x => z.r ((z.r (x.sub mu)).mul rr)), rr)
  else
    let rr := z.vec (normSave z.c) r
    ((z.row r).map (fun x => z.r (x.mul rr)), rr)

/-- LAYERNORM_BWD and RMSNORM_BWD. -/
def NormIn.backward (z : NormIn) (r : Nat) : NormRow :=
  let h := z.hat r
  let gs := (z.dyRow r).zipIdx.map (fun e => z.r ((z.gamma e.2).mul e.1))
  let mg := z.r (z.mean gs)
  let mgx := z.r (z.mean (List.zipWith (fun g x => r64 (g.mul x)) gs h.1))
  { y := List.zipWith (fun g x =>
      let a := if normOp z.c = 2 then z.r (g.sub mg) else g
      z.r (h.2.mul (z.r (a.sub (z.r (x.mul mgx)))))) gs h.1 }

/-- SOFTMAX; exp and ln have no stated result (log entry 21). -/
def NormIn.softmax (z : NormIn) (r : Nat) : NormRow :=
  let xs := z.row r
  let m := xs.foldl FVal.max (.inf true)
  let es := xs.map (fun x => z.r (Config.funcUnit 1 (64 + z.lane) [x, m]))
  let l := z.sum es
  { y := es.map (fun e => z.r (e.quot l)), save := [Config.funcUnit 1 (66 + z.lane) [m, l]] }

/-- Ops 6 to 8 on a row. -/
def NormIn.reduce (z : NormIn) (r : Nat) : FVal :=
  let xs := z.row r
  if normOp z.c = 6 then z.sum (xs.map sq64)
  else if normOp z.c = 7 then z.sum xs
  else xs.foldl (fun a x => if x = .nan then a else a.max x.abs) FVal.zero

/-- Y and SAVE of a row. NORM outputs in FP64 are not classified (R188). -/
def NormIn.putRow (z : NormIn) (s : EngSt) (r : Nat) (w : NormRow) : EngSt :=
  let o := z.d.tensOf z.x (normY z.c) (normYT z.c)
  let ys := w.y.zipIdx.map (fun e => (e.2, e.1))
  let s := if o.2.code = 0x10 then { s with mem := (putVals s.mem o.1 o.2 r ys).1 } else s.put o.1 o.2 r ys
  if normSave z.c = 0 ∨ normOp z.c = 2 ∨ normOp z.c = 3 then s
  else
    let sv := (z.d.partObj z.x (normSave z.c)).2
    { s with mem := (w.save.zipIdx).foldl (fun m e => putWord m sv ((r * w.save.length + e.2) * 4) 4 (fp32.ieeeCode .near e.1)) s.mem }

/-- dγ and dβ of the part's rows, added to DPARAM by FP32 reduction writes. -/
def NormIn.putParams (z : NormIn) (m : Memory) (rows : List Nat) : Memory :=
  if normDparam z.c = 0 then m
  else
    let o := (z.d.partObj z.x (normDparam z.c)).2
    let add (m : Memory) (k : Nat) (v : FVal) : Memory :=
      let old := ofLeBytes ((List.range 4).map (fun i => m.read (o.addr0 (4 * k + i))))
      putWord m o (4 * k) 4 (addElem 0 .near old (fp32.ieeeCode .near v))
    let dys := rows.map z.dyRow
    let hs := rows.map (fun r => (z.hat r).1)
    (List.range z.len).foldl (fun m k =>
      let m := add m k (z.sum (List.zipWith (fun dy h => r64 ((nthD dy k .zero).mul (nthD h k .zero))) dys hs))
      if normOp z.c = 2 then add m (z.len + k) (z.sum (dys.map (fun dy => nthD dy k .zero))) else m) m

/-- Mean and population variance of a column. -/
def NormIn.column (z : NormIn) (k : Nat) : FVal × FVal :=
  let e := z.d.tensOf z.x (normX z.c) (normXT z.c)
  let xs := (List.range (normRows z.c)).map (fun r => toLane z.lane (z.d.elem e.1 e.2 r k))
  let mu := z.mean xs
  (mu, z.mean (xs.map (fun x => sq64 (r64 (x.sub mu)))))

/-- BATCHSTAT on the part's columns. -/
def NormIn.batchstat (z : NormIn) (s : EngSt) (cols : List Nat) : EngSt :=
  let o := (z.d.partObj z.x (normY z.c)).2
  let t : Tens := { code := 0xE, off := 0, rows := 1, cols := 2 * z.len, pitch := 64 * z.len }
  cols.foldl (fun s k => let v := z.column k; s.put o t 0 [(2 * k, v.1), (2 * k + 1, v.2)]) s

/-- Every other part of the command has run and succeeded: this one ends last (R196). -/
def Dev.lastToRun (d : Dev) (x : PartId) : Bool :=
  match d.cmdAt x.q x.i with
  | none => false
  | some e => (e.parts.zipIdx).all (fun y => y.2 == x.p || ((y.1.ran || y.1.ended) && y.1.status == 0))

/-- Ops 6 to 8 on the part's rows; the part that ends last adds the total, in row order. -/
def NormIn.reductions (z : NormIn) (m : Memory) (rows : List Nat) : Memory :=
  let o := (z.d.partObj z.x (normY z.c)).2
  let m := rows.foldl (fun m r => putWord m o (8 * r) 8 (fp64.ieeeCode .near (z.reduce r))) m
  if !z.d.lastToRun z.x then m
  else
    let at_ (r : Nat) : FVal := fp64.decode (ofLeBytes ((List.range 8).map (fun i => m.read (o.addr0 (8 * r + i)))))
    let total := (range' 1 (normRows z.c - 1)).foldl (fun a r => r64 (a.add (at_ r))) (at_ 0)
    putWord m o (8 * normRows z.c) 8 (fp64.ieeeCode .near total)

/-- NORM. -/
def Dev.runNorm (d : Dev) (x : PartId) : Dev :=
  d.onUnit x opNORM fun d c _ =>
    let l := normOpnds c
    d.gate x l fun d =>
      let op := normOp c
      if !laneAccepts (normLane c) (d.actual x (normX c) (normXFmt c))
          ∨ ((op = 2 ∨ op = 3) ∧ !laneAccepts (normLane c) (d.actual x (normDy c) (normXFmt c))) then d.unfit x
      else
        let z : NormIn := ⟨d, x, c⟩
        let r := arcadePart c x.p
        let us := range' r.1 r.2
        let s0 : EngSt := { mem := d.t0 }
        let s :=
          if op ≤ 1 then us.foldl (fun s r => z.putRow s r (z.forward r)) s0
          else if op ≤ 3 then
            let s := us.foldl (fun s r => z.putRow s r (z.backward r)) s0
            { s with mem := z.putParams s.mem us }
          else if op = 4 then us.foldl (fun s r => z.putRow s r (z.softmax r)) s0
          else if op = 5 then z.batchstat s0 us
          else { s0 with mem := z.reductions s0.mem us }
        let fmt := if op ≤ 4 then (d.partObj x (normY c)).2.format (normYFmt c) else 0x10
        d.engDone x s l fmt (if op = 5 then r.2 * normRows c else r.2 * normLen c)

/-- NORM (R195, R196). -/
def effectNorm (q i p : Nat) (d : Dev) : Dev := d.runNorm ⟨q, i, p⟩

/-- NORM: its own effect, then what follows at once. -/
def execNorm (q i p : Nat) (s : State) : Host.Outcome State Fault Refusal := s.act (effectNorm q i p)

end Sys2Proof.Machine
end

