-- ==== Sys2Proof/Machine/Junction.lean ====
section
/-! DEFINITION. Mixture-of-experts routing: ROUTE and its second phase, PERMUTE, COMBINE (09_arcade_engines.md R197 to R201). -/

namespace Sys2Proof.Machine

/-! ### SEL (R199) -/

/-- An assignment of SEL: expert, dropped, row, weight. -/
structure SelRec where
  expert : Nat
  dropped : Bool
  row : Nat
  weight : FVal

/-- Record `i` (token times K plus position) of a SEL for `t` tokens of `k`, read from memory. -/
def selAt (m : Memory) (o : Obj) (t k i : Nat) : SelRec :=
  let w (off : Nat) : Nat := ofLeBytes ((List.range 4).map (fun b => m.read (o.addr0 (off + b))))
  let a := w (8 * i)
  { expert := bitsAt a 0 11, dropped := bitOf a 15, row := w (8 * i + 4), weight := fp32.decode (w (selWeights t k + 4 * i)) }

def putSel (m : Memory) (o : Obj) (t k i : Nat) (r : SelRec) : Memory :=
  let m := putWord m o (8 * i) 4 (r.expert + boolNat r.dropped * 32768)
  putWord (putWord m o (8 * i + 4) 4 r.row) o (selWeights t k + 4 * i) 4 (fp32.ieeeCode .near r.weight)

/-- The kept assignments of a token, in ascending position. -/
def keptOf (m : Memory) (o : Obj) (t k tok : Nat) : List (Nat × SelRec) :=
  ((List.range k).map (fun j => (j, selAt m o t k (tok * k + j)))).filter (fun e => !e.2.dropped)

/-! ### ROUTE, first phase (R197) -/

/-- The scores of a token, in FP32: softmax or logistic values, whose rounding no rule states (log entry 21). -/
def routeScores (c : Cmd) (ls : List FVal) : List FVal :=
  ls.map (fun l => r32 (if routeScore c = 0 then Config.funcUnit 1 70 (l :: ls) else Config.funcUnit 1 71 [l]))

/-- The `k` largest keys, largest first, ties to the lower index; `keys` lists (expert, key). -/
def topK : Nat → List (Nat × FVal) → List Nat
  | 0, _ => []
  | _, [] => []
  | k + 1, x :: xs =>
    let best := xs.foldl (fun (b e : Nat × FVal) => if b.2.lt e.2 then e else b) x
    best.1 :: topK k ((x :: xs).filter (fun e => e.1 != best.1))

/-- A token's scores. -/
def Dev.tokenScores (d : Dev) (x : PartId) (c : Cmd) (tok : Nat) : List FVal :=
  let e := d.tensOf x (routeLogits c) (routeLogitT c)
  routeScores c ((List.range (routeE c)).map (fun k => d.elem e.1 e.2 tok k))

/-- A token's selection: expert and weight of each position. -/
def Dev.tokenSelect (d : Dev) (x : PartId) (c : Cmd) (tok : Nat) : List (Nat × FVal) :=
  let ss := d.tokenScores x c tok
  let bias (e : Nat) : FVal := if routeBias c = 0 then .zero else d.f32At (d.partObj x (routeBias c)).2 (4 * e)
  let es := topK (routeK c) (ss.zipIdx.map (fun s => (s.2, if routeBias c = 0 then s.1 else r32 (s.1.add (bias s.2)))))
  let ws := es.map (fun e => (e, nthD ss e .zero))
  let sum := match ws with
    | [] => FVal.zero
    | w :: l => l.foldl (fun a y => r32 (a.add y.2)) w.2
  if routeNormk c = 1 then ws.map (fun w => (w.1, r32 (w.2.quot sum))) else ws

/-- A logit tensor stands in a format that ROUTE does not accept (R163). -/
def Dev.routeUnfit (d : Dev) (x : PartId) (c : Cmd) : Bool := !([0x0, 0x1, 0xE] : List Nat).contains (d.actual x (routeLogits c) (routeLogitFmt c))

/-- ROUTE: a part scores and selects for its tokens; SEL takes experts and weights. -/
def Dev.runRoute (d : Dev) (x : PartId) : Dev :=
  if d.isHalf x then d
  else d.onUnit x opROUTE fun d c _ =>
    d.gate x (routeOpnds c) fun d =>
      if d.routeUnfit x c then d.unfit x
      else
        let r := arcadePart c x.p
        let o := (d.partObj x (routeSel c)).2
        let m := (range' r.1 r.2).foldl (fun m tok => ((d.tokenSelect x c tok).zipIdx).foldl (fun m e =>
          putSel m o (routeT c) (routeK c) (tok * routeK c + e.2) ⟨e.1.1, false, 0, e.1.2⟩) m) d.t0
        ((d.setT0 m).soil x (bytesOpnd (routeSel c) 0 (selBytes (routeT c) (routeK c)) true)).setHalf x

/-- ROUTE (R197, R198), phase 1. -/
def effectRoute (q i p : Nat) (d : Dev) : Dev := d.runRoute ⟨q, i, p⟩

/-- ROUTE: its own effect, then what follows at once. -/
def execRoute (q i p : Nat) (s : State) : Host.Outcome State Fault Refusal := s.act (effectRoute q i p)

/-! ### ROUTE, second phase (R198, R199) -/

/-- The assignments of an expert in the order in which capacity takes them: by token and position, or by falling weight. -/
def capOrder (c : Cmd) (l : List (Nat × SelRec)) : List (Nat × SelRec) :=
  if routeDrop c = 0 then l
  else l.foldl (fun acc x => (acc.takeWhile (fun y => !y.2.weight.lt x.2.weight)) ++ x :: acc.dropWhile (fun y => !y.2.weight.lt x.2.weight)) []

/-- Indices of the assignments of an expert that are kept. -/
def keptIdx (c : Cmd) (l : List (Nat × SelRec)) : List Nat :=
  ((if routeCap c = 0 then l else (capOrder c l).take (routeCap c))).map (fun e => e.1)

/-- Where every selection goes: for each expert its assignments, and those kept, by ascending index. -/
def routePlan (c : Cmd) (all : List (Nat × SelRec)) : List (List (Nat × SelRec) × List Nat) :=
  (List.range (routeE c)).map (fun e => let l := all.filter (fun r => r.2.expert == e); (l, sortBy id (keptIdx c l)))

/-- STATS: per expert KEPT, DROPPED, SCORE_SUM, SELECTED; then the total kept. -/
def Dev.routeStats' (d : Dev) (x : PartId) (c : Cmd) (plan : List (List (Nat × SelRec) × List Nat)) (m : Memory) : Memory :=
  let o := (d.partObj x (routeStats c)).2
  let scores := (List.range (routeT c)).map (d.tokenScores x c)
  let m := (plan.zipIdx).foldl (fun m e =>
    let sum := scores.foldl (fun a s => r64 (a.add (nthD s e.2 .zero))) FVal.zero
    let put (m : Memory) (k v : Nat) : Memory := putWord m o (16 * e.2 + 4 * k) 4 v
    put (put (put (put m 0 e.1.2.length) 1 (e.1.1.length - e.1.2.length)) 2 (fp32.ieeeCode .near sum)) 3 e.1.1.length) m
  putWord m o (16 * routeE c) 4 (sumBy (fun e => e.2.length) plan)

/-- ROUTE_PHASE2: the part assigns rows to its tokens' selections once every part has selected; a failed first phase fails it unrun. The
part that runs last writes STATS. -/
def Dev.runRoute2 (d : Dev) (x : PartId) : Dev :=
  match d.cmdAt x.q x.i with
  | none => d
  | some e =>
    match sliceFailed e.parts with
    | some st => d.when (d.partReady x.q x.i x.p opROUTE) fun d => d.failPart x.q x.i x.p st
    | none =>
      if !e.parts.all (fun y => y.half) then d
      else d.onUnit x opROUTE fun d c _ =>
        d.gate x (routeOpnds c) fun d =>
          let t := routeT c
          let k := routeK c
          let o := (d.partObj x (routeSel c)).2
          let sels := (List.range (t * k)).map (fun i => (i, selAt d.t0 o t k i))
          -- records that an earlier part has finished are read as they were selected
          let plan := routePlan c sels
          let base (e : Nat) : Nat := sumBy (fun y => y.2.length) (plan.take e)
          let r := arcadePart c x.p
          let mine := sels.filter (fun s => decide (r.1 * k ≤ s.1 ∧ s.1 < (r.1 + r.2) * k))
          let placed := mine.map (fun s =>
            let kept := ((plan[s.2.expert]?).map (fun y => y.2)).getD []
            match kept.findIdx? (· == s.1) with
            | some n => (s.1, { s.2 with dropped := false, row := base s.2.expert + n })
            | none => (s.1, { s.2 with dropped := true, row := 2 ^ 32 - 1, weight := .zero }))
          let m := placed.foldl (fun m s => putSel m o t k s.1 s.2) d.t0
          let last := e.parts.zipIdx.all (fun y => y.2 == x.p || y.1.ran || y.1.ended)
          let m := if last then d.routeStats' x c plan m else m
          let n := (placed.filter (fun s => s.2.dropped)).length
          (d.engSpecial x 5 n).engDone x { mem := m } (routeOpnds c) 0xE (r.2 * routeE c)

/-- ROUTE_PHASE2 (R198, R199). -/
def effectRoutePhase2 (q i p : Nat) (d : Dev) : Dev := d.runRoute2 ⟨q, i, p⟩

/-- ROUTE_PHASE2: its own effect, then what follows at once. -/
def execRoutePhase2 (q i p : Nat) (s : State) : Host.Outcome State Fault Refusal := s.act (effectRoutePhase2 q i p)

/-! ### PERMUTE (R200) -/

/-- Copy a row bit for bit, scales included. -/
def copyRow (d : Dev) (m : Memory) (so : Obj) (st : Tens) (sr : Nat) (o : Obj) (t : Tens) (r : Nat) : Memory :=
  let m := (List.range st.cols).foldl (fun m k => putRaw m o t r k (d.rawAt so st sr k)) m
  if codeMx st.code then
    (List.range (ceilDiv st.cols 32)).foldl (fun m b =>
      putByte m o (t.scaleAt r (32 * b)) (ofLeBytes (d.read0 so (st.scaleAt sr (32 * b)) 1))) m
  else m

/-- Run a part's tokens in order until one needs a row beyond its object; the state and whether one did. -/
def tokensRun (f : EngSt → Nat → Option EngSt) : List Nat → EngSt → EngSt × Bool
  | [], s => (s, false)
  | t :: ts, s => match f s t with
    | some s => tokensRun f ts s
    | none => (s, true)

/-- A part whose tokens ran ends, with BAD_FIELD where a row lay beyond its object. -/
def Dev.tokensDone (d : Dev) (x : PartId) (w : EngSt × Bool) (l : List Opnd) (fmt work : Nat) : Dev :=
  if w.2 then d.engFail x w.1 l St.badField else d.engDone x w.1 l fmt work

/-- PERMUTE. -/
def Dev.runPermute (d : Dev) (x : PartId) : Dev :=
  d.onUnit x opPERMUTE fun d c v =>
    let l := d.permOpnds v c
    d.gate x l fun d =>
      let t := permT c
      let k := permK c
      let sel := (d.partObj x (permSel c)).2
      let r := arcadePart c x.p
      let toks := range' r.1 r.2
      let moved := sumBy (fun tok => (keptOf d.t0 sel t k tok).length) toks
      if permDir c = 0 then
        if d.actual x (permSrc c) (permFmt c) ≠ permFmt c ∨ d.actual x (permDst c) (permFmt c) ≠ permFmt c then d.unfit x
        else
          let so := (d.partObj x (permSrc c)).2
          let o := (d.partObj x (permDst c)).2
          let st := tokenTens (permFmt c) t (permD c)
          let dt := d.bufferTens v (permDst c) (permFmt c) (permD c)
          let w := tokensRun (fun s tok =>
            let ks := keptOf d.t0 sel t k tok
            if ks.any (fun e => decide (dt.rows ≤ e.2.row)) then none
            else some { s with mem := ks.foldl (fun m e => copyRow d m so st tok o dt e.2.row) s.mem }) toks { mem := d.t0 }
          d.tokensDone x w l 0x1F moved
      else if !laneAccepts 0 (d.actual x (permSrc c) (permFmt c)) then d.unfit x
      else
        let st := d.bufferTens v (permSrc c) (permFmt c) (permD c)
        let src := d.tensOf x (permSrc c) st
        let dst := d.tensOf x (permDst c) (tokenTens (permOutFmt c) t (permD c))
        let w := tokensRun (fun s tok =>
          let ks := keptOf d.t0 sel t k tok
          if ks.any (fun e => decide (st.rows ≤ e.2.row)) then none
          else some (s.put dst.1 dst.2 tok ((List.range (permD c)).map (fun j =>
            (j, ks.foldl (fun a e => r32 (a.add (toLane 0 (d.elem src.1 src.2 e.2.row j)))) FVal.zero)))) ) toks { mem := d.t0 }
        d.tokensDone x w l (dst.1.format (permOutFmt c)) r.2

/-- PERMUTE (R200). -/
def effectPermute (q i p : Nat) (d : Dev) : Dev := d.runPermute ⟨q, i, p⟩

/-- PERMUTE: its own effect, then what follows at once. -/
def execPermute (q i p : Nat) (s : State) : Host.Outcome State Fault Refusal := s.act (effectPermute q i p)

/-! ### COMBINE (R200) -/

/-- COMBINE. -/
def Dev.runCombine (d : Dev) (x : PartId) : Dev :=
  d.onUnit x opCOMBINE fun d c v =>
    let l := d.combOpnds v c
    d.gate x l fun d =>
      let t := combT c
      let k := combK c
      let sel := (d.partObj x (combSel c)).2
      let r := arcadePart c x.p
      let toks := range' r.1 r.2
      let et := d.bufferTens v (combEout c) (combFmt c) (combD c)
      let eout := d.tensOf x (combEout c) et
      let cols := List.range (combD c)
      if !laneAccepts 0 eout.2.code then d.unfit x
      else if combMode c = 0 then
        let y := d.tensOf x (combY c) (tokenTens (combOutFmt c) t (combD c))
        let w := tokensRun (fun s tok =>
          let ks := keptOf d.t0 sel t k tok
          if ks.any (fun e => decide (et.rows ≤ e.2.row)) then none
          else some (s.put y.1 y.2 tok (cols.map (fun j =>
            (j, ks.foldl (fun a e => r32 (a.add (r32 (e.2.weight.mul (toLane 0 (d.elem eout.1 eout.2 e.2.row j)))))) FVal.zero))))) toks { mem := d.t0 }
        d.tokensDone x w l (y.1.format (combOutFmt c)) r.2
      else
        let yt := d.bufferTens v (combY c) (combOutFmt c) (combD c)
        let y := d.tensOf x (combY c) yt
        let dy := d.tensOf x (combDy c) (tokenTens (combFmt c) t (combD c))
        let dw := (d.partObj x (combDw c)).2
        if !laneAccepts 0 dy.2.code then d.unfit x
        else
          let w := tokensRun (fun s tok =>
            let ks := keptOf d.t0 sel t k tok
            if ks.any (fun e => decide (et.rows ≤ e.2.row) || decide (yt.rows ≤ e.2.row)) then none
            else
              let g := cols.map (fun j => toLane 0 (d.elem dy.1 dy.2 tok j))
              let s := (List.range k).foldl (fun (s : EngSt) j => { s with mem := putWord s.mem dw (4 * (tok * k + j)) 4 0 }) s
              some (ks.foldl (fun (s : EngSt) e =>
                let s := s.put y.1 y.2 e.2.row ((cols.zip g).map (fun z => (z.1, r32 (e.2.weight.mul z.2))))
                let dot := treeSum 0 r32 (List.zipWith (fun j z => r32 (z.mul (toLane 0 (d.elem eout.1 eout.2 e.2.row j)))) cols g)
                { s with mem := putWord s.mem dw (4 * (tok * k + e.1)) 4 (fp32.ieeeCode .near dot) }) s)) toks { mem := d.t0 }
          d.tokensDone x w l (y.1.format (combOutFmt c)) (sumBy (fun tok => (keptOf d.t0 sel t k tok).length) toks)

/-- COMBINE (R200). -/
def effectCombine (q i p : Nat) (d : Dev) : Dev := d.runCombine ⟨q, i, p⟩

/-- COMBINE: its own effect, then what follows at once. -/
def execCombine (q i p : Nat) (s : State) : Host.Outcome State Fault Refusal := s.act (effectCombine q i p)

end Sys2Proof.Machine
end

