-- ==== Sys2Proof/Machine/Gather.lean ====
section
/-! DEFINITION. FFT, GATHER and SCATTER_ADD (09_arcade_engines.md R202 to R208). -/

namespace Sys2Proof.Machine

/-! ### FFT (R202 to R204) -/

/-- Output number `n` of a transform of the numbers `xs`: of one point, the point itself; otherwise the spec bounds the error of the whole
vector and states no element's rounding, so each is free (log entry 63). -/
def fftVal (c : Cmd) (xs : List FVal) (n : Nat) : FVal :=
  if fftPoints c = 1 then nthD xs n .zero
  else (laneFmt (fftPrec c)).ieee' .near (Config.funcUnit 1 (80 + fftPrec c)
    ([fftKind c, fftDir c, fftNorm c, fftNx c, fftNy c, fftNz c, n].map FVal.ofNat ++ xs))

/-- FFT. -/
def Dev.runFft (d : Dev) (x : PartId) : Dev :=
  d.onUnit x opFFT fun d c _ =>
    let l := fftOpnds c
    d.gate x l fun d =>
      let code := fftCode c
      if d.actual x (fftIn c) code ≠ code ∨ d.actual x (fftOut c) code ≠ code then d.unfit x
      else
        let i := (d.partObj x (fftIn c)).2
        let o := (d.partObj x (fftOut c)).2
        let r := arcadePart c x.p
        let s := (range' r.1 r.2).foldl (fun (s : EngSt) b =>
          let xs := (List.range (fftInN c)).map (fun n => d.elem i (fftInT c) b n)
          s.put o (fftOutT c) b ((List.range (fftOutN c)).map (fun n => (n, fftVal c xs n)))) { mem := d.t0 }
        d.engDone x s l code (r.2 * fftPoints c)

/-- FFT (R202). -/
def effectFft (q i p : Nat) (d : Dev) : Dev := d.runFft ⟨q, i, p⟩

/-- FFT: its own effect, then what follows at once. -/
def execFft (q i p : Nat) (s : State) : Host.Outcome State Fault Refusal := s.act (effectFft q i p)

/-! ### GATHER (R205, R207) -/

/-- A part's records in order: `f` gives the state after a record, and whether it was out of range. With `strict`, the part stops at the
first record out of range. The state, the records out of range, and whether it stopped. -/
def recordsRun (strict : Bool) (f : Memory → Nat → Option Memory) : List Nat → Memory → Nat → Memory × Nat × Bool
  | [], m, n => (m, n, false)
  | i :: is, m, n =>
    match f m i with
    | some m => recordsRun strict f is m n
    | none => if strict then (m, n + 1, true) else recordsRun strict f is m (n + 1)

/-- A part whose records ran ends: with BAD_FIELD where STRICT stopped it. -/
def Dev.recordsDone (d : Dev) (x : PartId) (w : Memory × Nat × Bool) (l : List Opnd) (s : EngSt) (fmt work : Nat) : Dev :=
  let d := d.engSpecial x 6 w.2.1
  let s := { s with mem := w.1 }
  if w.2.2 then d.engFail x s l St.badField else d.engDone x s l fmt work

/-- A signed 32-bit index within `n` rows. -/
def indexOf (n raw : Nat) : Option Nat :=
  let i := signedOf 32 raw
  if i < 0 ∨ Int.ofNat n ≤ i then none else some i.toNat

/-- GATHER. -/
def Dev.runGather (d : Dev) (x : PartId) : Dev :=
  d.onUnit x opGATHER fun d c v =>
    let l := gatOpnds c
    d.gate x l fun d =>
      if [gatTable c, gatIdx c, gatOut c].any (fun h => (d.objOf v h).2.fmt != 0x1F) then d.unfit x
      else
        let tb := (d.partObj x (gatTable c)).2
        let ix := (d.partObj x (gatIdx c)).2
        let o := (d.partObj x (gatOut c)).2
        let wd := gatW c
        let strict := gatStrict c == 1
        let r := arcadePart c x.p
        let at_ (i : Nat) : Option Nat := indexOf (gatRowsM1 c + 1) (d.u32At ix (gatIdxOff c * 64 + 4 * i))
        let out (m : Memory) (i : Nat) (bs : List Byte) : Memory := writeObj0 m o (gatOutOff c * 64 + i * wd) bs
        -- with STRICT = 0 a record out of range writes a zero row
        let zeros := if strict then d.t0
          else (range' r.1 r.2).foldl (fun m i => if (at_ i).isNone then out m i (List.replicate wd 0) else m) d.t0
        let w := recordsRun strict (fun m i => (at_ i).map (fun k => out m i (d.read0 tb (gatTableOff c * 64 + k * wd) wd))) (range' r.1 r.2) zeros 0
        d.recordsDone x w l { mem := d.t0 } 0x1F r.2

/-- GATHER (R205). -/
def effectGather (q i p : Nat) (d : Dev) : Dev := d.runGather ⟨q, i, p⟩

/-- GATHER: its own effect, then what follows at once. -/
def execGather (q i p : Nat) (s : State) : Host.Outcome State Fault Refusal := s.act (effectGather q i p)

/-! ### SCATTER_ADD (R206, R207) -/

/-- A value as the addend of a reduction write: the raw element and its class. -/
def addendOf (red : Nat) (v : FVal) : Nat × Cls := elemEnc (redCode red) .near v

/-- SCATTER_ADD. -/
def Dev.runScatter (d : Dev) (x : PartId) : Dev :=
  d.onUnit x opSCATTER_ADD fun d c _ =>
    let l := scaOpnds c
    d.gate x l fun d =>
      let red := scaRed c
      let code := redCode red
      let src := d.tensOf x (scaSrc c) (scaSrcT c)
      let dst := d.tensOf x (scaDst c) (scaDstT c)
      let ix := (d.partObj x (scaIdx c)).2
      if dst.2.code ≠ code ∨ (if red = 3 then !laneAccepts 2 src.2.code else !floatCode src.2.code) then d.unfit x
      else
        let edge := scaMode c == 1
        let j := d.qJob x.q
        let seed := (d.job j).seed
        let step := if cmdStep (d.cmdBody x.q x.i) then ((d.newest j).map (fun r => r.step)).getD 0 else 0
        -- destination row, source row and weight of a record
        let rec_ (i : Nat) : Option (Nat × Nat × FVal) :=
          if edge then
            (indexOf (scaXRowsM1 c + 1) (d.u32At ix (12 * i))).bind fun s =>
              (indexOf (scaRowsM1 c + 1) (d.u32At ix (12 * i + 4))).map fun t => (t, s, d.f32At ix (12 * i + 8))
          else (indexOf (scaRowsM1 c + 1) (d.u32At ix (4 * i))).map fun t => (t, i, .one)
        -- the element as read, in RED's format, weighted for an edge
        let val (s k : Nat) (w : FVal) : FVal :=
          let y := elemVal code (addendOf red (d.elem src.1 src.2 s k)).1
          if edge then (if red = 2 then r64 (w.mul y) else r32 (w.mul y)) else d.elem src.1 src.2 s k
        let add (m : Memory) (i : Nat) : Option Memory := (rec_ i).map fun (t, s, w) =>
          (List.range (scaD c)).foldl (fun m k =>
            let b := dst.2.bitAt t k / 8
            let n := elemBits code / 8
            let old := ofLeBytes ((List.range n).map (fun z => m.read (dst.1.addr0 (b + z))))
            let rnd := if red = 1 then Rnd.draw (draw16 seed step (scaStream c) 4 0 (i * scaD c + k)) else .near
            putWord m dst.1 b n (addElem red rnd old (addendOf red (val s k w)).1)) m
        let r := arcadePart c x.p
        let w := recordsRun (scaStrict c == 1) add (range' r.1 r.2) d.t0 0
        let done := (range' r.1 r.2).takeWhile (fun i => !(scaStrict c == 1 && (rec_ i).isNone))
        let cls := if red = 3 then [] else (done.filterMap rec_).flatMap (fun (_, s, w) =>
          (List.range (scaD c)).map (fun k => (addendOf red (val s k w)).2))
        let st : EngSt := ({ mem := d.t0 } : EngSt).count ((cls.zipIdx).map (fun (y : Cls × Nat) => (0, y.2, y.1)))
        d.recordsDone x w l st code r.2

/-- SCATTER_ADD (R206). -/
def effectScatterAdd (q i p : Nat) (d : Dev) : Dev := d.runScatter ⟨q, i, p⟩

/-- SCATTER_ADD: its own effect, then what follows at once. -/
def execScatterAdd (q i p : Nat) (s : State) : Host.Outcome State Fault Refusal := s.act (effectScatterAdd q i p)

end Sys2Proof.Machine
end

