-- ==== Sys2Proof/Machine/Market.lean ====
section
/-! DEFINITION. The Market's commands: requests granted at a bank, scrubbing, bank copies and pool limits (04_market.md R91 to
R100). -/

namespace Sys2Proof.Machine

/-- The region a line lies in. -/
def Dev.regionOf (d : Dev) (line : Nat) : Option Region :=
  (d.mkt.regions.find? (fun r => decide (r.2.base ≤ lineGranule line) && decide (lineGranule line < r.2.base + r.2.count))).map
    (fun r => r.2)

/-- The region holds a read-only copy of a committed object. -/
def Dev.committedAt (d : Dev) (line : Nat) : Bool :=
  match d.unitAt0 (lineGranule line) with
  | none => false
  | some (k, _) => (d.obj? k).any (fun o => o.kind == kCOMMITTED)

/-- Movers and CRY engines, which may write a SHARED_RO region while it is being filled (R96, R88). -/
def fillsShared (port : Nat) : Bool := decide (132 ≤ port ∧ port ≤ 149) || decide (123 ≤ port ∧ port ≤ 125)

/-- Why a request of a partition (8: device-internal) is refused, if it is (R96). System granules belong to no region. -/
def Dev.requestRefused (d : Dev) (port part line : Nat) (write : Bool) : Option Nat :=
  match d.regionOf line with
  | none => if part = 8 ∧ lineGranule line < d.sysGranules then none else some St.objectAbsent
  | some r =>
    if part ≠ 8 ∧ r.owner ≠ part ∧ !(r.attr == 3 && !write) then some St.protectedAccess
    else if write ∧ r.attr = 3 ∧ !(r.fill && fillsShared port) then some St.protectedAccess
    else if write ∧ part ≠ 8 ∧ d.committedAt line then some St.protectedAccess
    else none

/-- A refused request: ISOLATION is set and the part that issued it fails. -/
def Dev.refuseLine (d : Dev) (x : PartId) (line status : Nat) : Dev := (d.failPart x.q x.i x.p status).refused line status

/-- What an error found by a request does: 0 none, 1 corrected, 2 uncorrectable, 3 a flit failed its CRC four times (R98). -/
def Dev.lineError (d : Dev) (x : PartId) (line err : Nat) : Dev :=
  match err with
  | 0 => d
  | 1 => d.lineCe line
  | 2 =>
    let r := d.lineUe line
    if r.1 then r.2 else r.2.failPart x.q x.i x.p St.eccUncorrectable
  | _ =>
    (((d.incSat F.mktUeCnt_ue 1).mktError line 2).raise mktPage 4 St.eccUncorrectable).failPart x.q x.i x.p St.eccUncorrectable

/-- MARKET_READ (R92, R96, R98): part `p` of command `i` of queue `q` reads a line through a port, for partition `part`. -/
def effectMarketRead (port part q i p line err : Nat) (d : Dev) : Dev :=
  match d.requestRefused port part line false with
  | some st => d.refuseLine ⟨q, i, p⟩ line st
  | none =>
    if d.mkt.poison.contains line ∧ err = 0 then d.failPart q i p St.eccUncorrectable
    else d.lineError ⟨q, i, p⟩ line err

/-- MARKET_READ: its own effect, then what follows at once. -/
def execMarketRead (port part q i p line err : Nat) (s : State) : Host.Outcome State Fault Refusal := s.act (effectMarketRead port part q i p line err)

/-- Write the enabled bytes of a line. -/
def writeLine (m : Memory) (line mask : Nat) (data : List Byte) : Memory :=
  (List.range 64).foldl (fun m b => if bitOf mask b then m.write (line * 64 + b) (nthD data b 0) else m) m

/-- The object that holds a line is dirty in T0. -/
def Dev.dirtyLine (d : Dev) (line : Nat) : Dev :=
  match d.unitAt0 (lineGranule line) with
  | none => d
  | some (k, u) => d.setUnit k u { d.unitOf k u with dirty0 := true }

/-- MARKET_WRITE (R93, R96): `mask` has bit b set where byte b is enabled. A write of the whole line leaves it sound. -/
def effectMarketWrite (port part q i p line mask : Nat) (data : List Byte) (err : Nat) (d : Dev) : Dev :=
  match d.requestRefused port part line true with
  | some st => d.refuseLine ⟨q, i, p⟩ line st
  | none =>
    if 2 ≤ err then d.lineError ⟨q, i, p⟩ line err
    else
      let d := d.lineError ⟨q, i, p⟩ line err
      let d := d.setT0 (writeLine d.t0 line mask data)
      let d := if mask = 2 ^ 64 - 1 then d.setMkt { d.mkt with poison := d.mkt.poison.filter (· != line) } else d
      d.dirtyLine line

/-- MARKET_WRITE: its own effect, then what follows at once. -/
def execMarketWrite (port part q i p line mask : Nat) (data : List Byte) (err : Nat) (s : State) : Host.Outcome State Fault Refusal := s.act (effectMarketWrite port part q i p line mask data err)

/-- Element bytes of a reducer mode: 0 FP32, 1 BF16, 2 FP64, 3 INT32 (table Market reducer modes). -/
def modeBytes : Nat → Nat
  | 1 => 2 | 2 => 8 | _ => 4

/-- REDUCTION_WRITE (R94, R348): the data is added into the line in place; BF16 sums are rounded by the draws of site 2 with STREAM
`stream`, pass `pass` and the position `first` of the line's first element in the whole vector. -/
def effectReductionWrite (port part q i p line mode stream pass first : Nat) (data : List Byte) (err : Nat) (d : Dev) : Dev :=
  match d.requestRefused port part line true with
  | some st => d.refuseLine ⟨q, i, p⟩ line st
  | none =>
    if 2 ≤ err then d.lineError ⟨q, i, p⟩ line err
    else
      let d := d.lineError ⟨q, i, p⟩ line err
      let w := modeBytes mode
      let j := d.qJob q
      let step := ((d.newest j).map (fun r => r.step)).getD 0
      let old := d.t0.readBytes (line * 64) 64
      let sum := (List.range (64 / w)).flatMap fun e =>
        leBytes w (addElem mode (.draw (draw16 (d.job j).seed step stream 2 pass (first + e))) (leAt old (e * w) w) (leAt data (e * w) w))
      (d.setT0 (d.t0.writeBytes (line * 64) sum)).dirtyLine line

/-- REDUCTION_WRITE: its own effect, then what follows at once. -/
def execReductionWrite (port part q i p line mode stream pass first : Nat) (data : List Byte) (err : Nat) (s : State) : Host.Outcome State Fault Refusal := s.act (effectReductionWrite port part q i p line mode stream pass first data err)

/-- SCRUB_READ (R99): the scrubber reads a line; a poisoned one is reported to the tier manager at once; the last line of a pass
counts the pass and starts the banks' error counts anew. -/
def effectScrubRead (line err : Nat) (d : Dev) : Dev :=
  d.when (decide (line < 2 ^ 24)) fun d =>
    let d := if err = 1 then d.lineCe line else if err = 2 then (d.lineUe line).2 else d
    if line = 2 ^ 24 - 1 then
      (d.inc F.mktScrubPass_passes 1).setMkt { d.mkt with banks := d.mkt.banks.map (fun (b : Nat × Bank) => (b.1, { b.2 with ce := 0 })) }
    else d

/-- SCRUB_READ: its own effect, then what follows at once. -/
def execScrubRead (line err : Nat) (s : State) : Host.Outcome State Fault Refusal := s.act (effectScrubRead line err)

/-- BANK_COPY_END (R100): the logical bank maps to the reserve bank; lines the copier could not correct are poisoned there. -/
def effectBankCopyEnd (b : Nat) (bad : List Nat) (d : Dev) : Dev :=
  d.when ((d.bank b).state == bkCOPYING) fun d =>
    let d := d.bankReplaced b
    (bad.filter (fun l => lineBank l == b)).foldl (fun d l => (d.poisonLine l).2) d

/-- BANK_COPY_END: its own effect, then what follows at once. -/
def execBankCopyEnd (b : Nat) (bad : List Nat) (s : State) : Host.Outcome State Fault Refusal := s.act (effectBankCopyEnd b bad)

/-- A LIMIT is written: clipped to what the sum of the nine limits allows (R97). -/
def Dev.writeLimit (d : Dev) (lim : Nat → Fld) (total n v : Nat) (page : Page) (bit : Nat) : Dev :=
  let x := clipLimit total (sumBy (fun k => if k = n then 0 else d.rd (lim k)) (List.range 9)) v
  let d := d.wr (lim n) x
  if x < v then d.raise page bit St.ok else d

/-- QUOTA_WRITE (R97, R221): the PF writes a pool's LIMIT, of the Market or of T1; while the page is locked the write is rejected. -/
def effectQuotaWrite (t1 : Bool) (n v : Nat) (d : Dev) : Dev :=
  d.when (decide (n < 9)) fun d =>
    let off := if t1 then (F.tirT1Quota_limit n).addr else (F.mktQuota_limit n).addr
    if (d.pageAt 0 off).isNone then d.badAccess 0 off 0
    else if t1 then
      d.underLock (pfPage .tir 0 0) 0 off off fun d => d.writeLimit F.tirT1Quota_limit d.t1Avail n (v % 2 ^ 19) tirPage 4
    else d.underLock (pfPage .mkt 0 0) 0 off off fun d => d.writeLimit F.mktQuota_limit (16384 - d.sysGranules) n (v % 2 ^ 15) mktPage 7

/-- QUOTA_WRITE: its own effect, then what follows at once. -/
def execQuotaWrite (t1 : Bool) (n v : Nat) (s : State) : Host.Outcome State Fault Refusal := s.act (effectQuotaWrite t1 n v)

end Sys2Proof.Machine
end

