-- ==== Sys2Proof/Machine/TimeBase.lean ====
section
/-! DEFINITION. The time base: PTP messages, the servo's states, steps and the uncertainty (20_time_power_module.md R436 to R439;
13_fabric_ports.md R304). -/

namespace Sys2Proof.Machine

def timPage : Page := pfPage .tim 0 0

/-- TIM_STATE.STATE codes. -/
def tmFREE : Nat := 0
def tmACQUIRING : Nat := 1
def tmLOCKED : Nat := 2
def tmHOLDOVER : Nat := 3

def Dev.timSt (d : Dev) : Nat := d.rd F.timState_state

/-- 10 ns in qns. -/
def tenNs : Nat := 40

/-! ### The Best Master Clock Algorithm (R436; IEEE 1588-2019, log entry 53) -/

/-- Data sets in the order of comparison: the lower list wins. -/
def rankLess : List Nat → List Nat → Bool
  | [], _ => false
  | _, [] => false
  | a :: as, b :: bs => decide (a < b) || (a == b && rankLess as bs)

/-- The identity of the device's clock: the EUI-64 of its base address. -/
def Dev.clockId (d : Dev) : Nat := d.baseMac / 2 ^ 24 * 2 ^ 40 + 0xFFFE * 2 ^ 24 + d.baseMac % 2 ^ 24

/-- The device's own data set: priority1, class, accuracy, variance, priority2, identity. -/
def Dev.ownRank4 (d : Dev) : List Nat := [128, 248, 0xFE, 0xFFFF, 128, d.clockId]

/-- An Announce interval of 2 s; a master is forgotten after three. -/
def announceQ : Nat := 2 * secQ

/-- The master in effect: the best foreign one that still announces itself and is better than the device. -/
def Dev.master (d : Dev) : Option Foreign :=
  d.tim.best.filter (fun x => decide (d.now ≤ x.at_ + 3 * announceQ) && rankLess x.rank d.ownRank4)

/-- The device serves time on a port: as grandmaster on every port, as a boundary clock on the ports that do not take time. -/
def Dev.serves (d : Dev) (p : Nat) : Bool :=
  match d.master with
  | none => decide (d.rd F.timCfg_role ≠ 0)
  | some x => d.rd F.timCfg_role == 2 && x.port != p

def Dev.ptp (d : Dev) (p : Nat) : PtpPort := mapGet {} d.tim.ports p

def Dev.setPtp (d : Dev) (p : Nat) (x : PtpPort) : Dev := d.setTim { d.tim with ports := mapPut d.tim.ports p x }

/-- An Announce: a better master, a newer word of the same one, or a successor of one that has gone silent. -/
def Dev.announced (d : Dev) (p : Nat) (m : PtpMsg) : Dev :=
  let x : Foreign := { port := p, clock := m.clock, rank := m.rank, at_ := d.now }
  let better := match d.tim.best with
    | none => true
    | some b => (b.clock == m.clock && b.port == p) || decide (b.at_ + 3 * announceQ < d.now) || rankLess m.rank b.rank
  if better then
    let d := d.setTim { d.tim with best := some x }
    if d.master.isSome then d.wr F.timState_port p else d
  else d

/-! ### The servo -/

/-- A usable sync has given an offset (R437, R438). -/
def Dev.noteOffset (d : Dev) (o : Int) : Dev :=
  let t := d.tim
  let a := o.natAbs
  let lim := d.rd F.timOffsetLim_limit * tenNs
  let gap := t.syncAt + secQ < d.now
  let since (ok : Bool) (at_ : Nat) : Nat := if ok then (if gap ∨ at_ = 0 then d.now + 1 else at_) else 0
  let big := decide (msQ < a)
  let alarm := d.timSt == tmHOLDOVER && big && !t.stepRaised
  let recent := t.recent.filter (fun e => decide (d.now ≤ e.1 + 16 * secQ)) ++ [(d.now, a)]
  let d := d.setTim { t with offset := o, syncAt := d.now, goodFrom := since (decide (a < lim)) t.goodFrom,
                             badFrom := since (decide (lim < a)) t.badFrom, recent := recent, stepRaised := (t.stepRaised && big) || alarm }
  let sat : Int := max (-(2 : Int) ^ 31) (min ((2 : Int) ^ 31 - 1) o)
  let d := d.wr F.timOffset_offset (unsignedOf 32 sat)
  if alarm then d.raise timPage 2 St.ok else d

/-- The ingress stamp of a message that has just arrived (13_fabric_ports.md R304). -/
def Dev.ingress (d : Dev) (p align : Nat) : Nat :=
  (Int.ofNat d.now + signedOf 16 (d.rd (F.fabTsAsym_asym p)) - Int.ofNat (d.rd (F.fabTsLat_rx p) + align)).toNat

/-- A PTP message of the device's domain is taken. -/
def Dev.takePtp (d : Dev) (p : Nat) (m : PtpMsg) : Dev :=
  let x := d.ptp p
  let dom := d.rd F.timCfg_domain
  let at_ := d.ingress p m.align
  let p2p := d.flag F.timCfg_mech
  let slave := d.master.any (fun b => b.port == p && b.clock == m.clock)
  match m.kind with
  | 11 => d.announced p m
  | 0 => d.when slave fun d => d.setPtp p { x with sync := some (m.seq, at_ - m.corr) }
  | 8 =>
    match x.sync with
    | some (seq, t2) =>
      d.when (slave && seq == m.seq) fun d =>
        let t1 := m.stamp + m.corr
        let x := { x with sync := none, t1 := t1, t2 := t2, seqId := (x.seqId + 1) % 65536 }
        let d := (d.setPtp p x).noteOffset (Int.ofNat t2 - Int.ofNat t1 - x.delay)
        d.queuePtp p (if p2p then 2 else 1) dom x.seqId 0
    | none => d
  | 9 =>
    match x.req with
    | some (seq, t3) =>
      d.when (slave && !p2p && seq == m.seq) fun d =>
        let t4 := m.stamp - m.corr
        d.setPtp p { x with req := none, delay := (Int.ofNat x.t2 - Int.ofNat x.t1 + Int.ofNat t4 - Int.ofNat t3) / 2 }
    | none => d
  | 1 => d.when (!p2p && d.serves p) fun d => d.queuePtp p 9 dom m.seq at_
  | 2 => d.when p2p fun d => d.queuePtp p 3 dom m.seq at_
  | 3 => d.when (p2p && x.req.any (fun r => r.1 == m.seq)) fun d => d.setPtp p { x with resp := some (m.seq, m.stamp, at_) }
  | 10 =>
    match x.req, x.resp with
    | some (_, t1), some (seq, t2, t4) =>
      d.when (p2p && seq == m.seq) fun d =>
        d.setPtp p { x with req := none, resp := none,
                            delay := (Int.ofNat t4 - Int.ofNat t1 - (Int.ofNat m.stamp - Int.ofNat t2)) / 2 }
    | _, _ => d
  | _ => d

/-- PTP_RECEIVE (R436): a role with PTP, a port that is UP, the domain configured. -/
def effectPtpReceive (p : Nat) (m : PtpMsg) (d : Dev) : Dev :=
  d.when (d.rd F.timCfg_role != 0 && d.timSt != tmFREE && d.portUp p && m.domain == d.rd F.timCfg_domain) fun d => d.takePtp p m

/-- PTP_RECEIVE: its own effect, then what follows at once. -/
def execPtpReceive (p : Nat) (m : PtpMsg) (s : State) : Host.Outcome State Fault Refusal := s.act (effectPtpReceive p m)

/-- The sync interval: 2^LOG_SYNC s. -/
def Dev.syncQ (d : Dev) : Nat :=
  let v := d.rd F.timCfg_logSync
  if v = 0 then secQ else secQ / 2 ^ (16 - v)

/-- SYNC_SEND (R436): as master on a port the device sends Sync, and Announce when it is due. -/
def effectSyncSend (p : Nat) (d : Dev) : Dev :=
  let x := d.ptp p
  d.when (d.timSt != tmFREE && d.portUp p && d.serves p && decide (x.syncNext ≤ d.now)) fun d =>
    let dom := d.rd F.timCfg_domain
    let ann := decide (x.annNext ≤ d.now)
    let d := d.setPtp p { x with syncNext := d.now + d.syncQ, annNext := if ann then d.now + announceQ else x.annNext,
                                 seqId := (x.seqId + 1) % 65536 }
    let d := if ann then d.queuePtp p 11 dom x.seqId 0 else d
    d.queuePtp p 0 dom x.seqId 0

/-- SYNC_SEND: its own effect, then what follows at once. -/
def execSyncSend (p : Nat) (s : State) : Host.Outcome State Fault Refusal := s.act (effectSyncSend p)

/-! ### States (R437, R438) -/

/-- The time steps to the master's. -/
def Dev.stepTime (d : Dev) : Dev :=
  let t := (Int.ofNat d.now - d.tim.offset).toNat
  let d := d.setNow t
  (d.setTim { d.tim with offset := 0, syncAt := t, goodFrom := 0, badFrom := 0, recent := [], stepRaised := false }).wr F.timOffset_offset 0

/-- TIME_LOCK (R437): the offset has stayed below the limit for 4 s; at boot stage S9 the entry from ACQUIRING steps the time. -/
def effectTimeLock (d : Dev) : Dev :=
  let t := d.tim
  d.when ((d.timSt == tmACQUIRING || d.timSt == tmHOLDOVER) && decide (t.goodFrom ≠ 0 ∧ t.goodFrom - 1 + 4 * secQ ≤ d.now)
      && decide (d.now ≤ t.syncAt + secQ)) fun d =>
    let d := if d.timSt = tmACQUIRING ∧ d.sec.running ∧ d.sec.stage = 9 then d.stepTime else d
    let d := (d.setTim { d.tim with locked := true, stepRaised := false }).wr F.timState_state tmLOCKED
    d.raise timPage 1 St.ok

/-- TIME_LOCK: its own effect, then what follows at once. -/
def execTimeLock (s : State) : Host.Outcome State Fault Refusal := s.act (effectTimeLock)

/-- OFFSET_ALARM (R438): no usable sync for 1 s, or an offset above the limit for 1 s. -/
def effectOffsetAlarm (d : Dev) : Dev :=
  let t := d.tim
  d.when (d.timSt == tmLOCKED && (decide (t.syncAt + secQ ≤ d.now) || decide (t.badFrom ≠ 0 ∧ t.badFrom - 1 + secQ ≤ d.now))) fun d =>
    let big := decide (msQ < t.offset.natAbs)
    let d := d.setTim { t with holdFrom := d.now, holdBase := d.rd F.timUncertainty_uncertainty, goodFrom := 0, stepRaised := big }
    (d.wr F.timState_state tmHOLDOVER).raiseBits timPage (if big then [0, 2] else [0]) St.ok

/-- OFFSET_ALARM: its own effect, then what follows at once. -/
def execOffsetAlarm (s : State) : Host.Outcome State Fault Refusal := s.act (effectOffsetAlarm)

/-- TIME_STEP (R437): TIM_CTRL.STEP written 1 while no attempt is open; any other time it is recorded. -/
def effectTimeStep (f : Nat) (d : Dev) : Dev :=
  if f ≠ 0 ∨ (List.range 8).any d.attemptLive then d.badAccess f 0x4084 3 else d.stepTime

/-- TIME_STEP: its own effect, then what follows at once. -/
def execTimeStep (f : Nat) (s : State) : Host.Outcome State Fault Refusal := s.act (effectTimeStep f)

/-- UNCERTAINTY_UPDATE (R439): once per second. -/
def effectUncertaintyUpdate (d : Dev) : Dev :=
  let t := d.tim
  d.when (decide (t.uncNext ≤ d.now)) fun d =>
    let worst := (t.recent.filter (fun e => decide (d.now ≤ e.1 + 16 * secQ))).foldl (fun a e => max a e.2) 0
    let v := if d.timSt = tmLOCKED then max 16 (2 * (worst + d.rd F.timAsymAllow_allow))
      else if d.timSt = tmHOLDOVER then t.holdBase + 80 * ((d.now - t.holdFrom) / secQ)
      else 2 ^ 32 - 1
    (d.setTim { t with uncNext := d.now + secQ }).wr F.timUncertainty_uncertainty (min v (2 ^ 32 - 1))

/-- UNCERTAINTY_UPDATE: its own effect, then what follows at once. -/
def execUncertaintyUpdate (s : State) : Host.Outcome State Fault Refusal := s.act (effectUncertaintyUpdate)

end Sys2Proof.Machine
end

