-- ==== Sys2Proof/Machine/Roster.lean ====
section
/-! DEFINITION. The roster's commands: joining, heartbeats, removal, the keeper's succession, spares, quotes and leaving
(15_groups_and_collectives.md R331 to R340; 19_boot_and_trust.md R435). -/

namespace Sys2Proof.Machine

/-- Valid seeds as (family, address). -/
def Dev.seeds (d : Dev) : List (Nat × Nat) :=
  ((List.range 16).filter (fun s => d.flag (F.colSeed_valid s))).map fun s =>
    (d.rd (F.colSeed_family s), addrOf (leBytes 4 (d.rd (F.colSeedAddr0 s)) ++ leBytes 4 (d.rd (F.colSeedAddr1 s))
      ++ leBytes 4 (d.rd (F.colSeedAddr2 s)) ++ leBytes 4 (d.rd (F.colSeedAddr3 s))))

/-- Management addresses of valid LLDP neighbour entries with a Welfaum TLV. -/
def Dev.lldpPeers (d : Dev) : List (Nat × Nat) :=
  (List.range 24).flatMap fun p =>
    match (d.port p).nbr with
    | some x => if d.flag (F.fabNbrState_valid p) ∧ x.tlv ≠ [] then x.mgmt else []
    | none => []

/-- JOIN_SEND (R333): every 10 ms, or every 10 s once refused; a JOIN leaves for an address, whose device is not known (log
entry 45). -/
def effectJoinSend (d : Dev) : Dev :=
  d.when (d.flag F.colDomain_en && !d.enrolled && !d.col.leaving && decide (d.col.joinNext ≤ d.now)) fun d =>
    let gap := if d.col.refused then 10 * secQ else 10 * msQ
    let d := d.setCol { d.col with joinNext := d.now + gap, joinFrom := if d.col.joinFrom = 0 then d.now + 1 else d.col.joinFrom }
    let body := d.joinBody
    (d.seeds ++ d.lldpPeers).foldl (fun d a => d.emit .ctrl a.2 [colQueue, a.1, d.now] body) d

/-- JOIN_SEND: its own effect, then what follows at once. -/
def execJoinSend (s : State) : Host.Outcome State Fault Refusal := s.act (effectJoinSend)

/-- BECOME_KEEPER (R333): no ROSTER within 100 ms of the first JOIN. -/
def effectBecomeKeeper (d : Dev) : Dev :=
  d.when (d.flag F.colDomain_en && !d.enrolled && !d.col.refused && decide (d.col.joinFrom ≠ 0)
      && decide (d.col.joinFrom - 1 + 100 * msQ ≤ d.now)) fun d =>
    let d := d.setCol { d.col with roster := [(d.deviceId, d.ownRecord 1)], joinFrom := 0 }
    d.rosterChanged 1 d.deviceId

/-- BECOME_KEEPER: its own effect, then what follows at once. -/
def execBecomeKeeper (s : State) : Host.Outcome State Fault Refusal := s.act (effectBecomeKeeper)

/-- JOIN_RECEIVE. -/
def effectJoinReceive (body : List Byte) (d : Dev) : Dev := d.takeJoin body

/-- JOIN_RECEIVE: its own effect, then what follows at once. -/
def execJoinReceive (body : List Byte) (s : State) : Host.Outcome State Fault Refusal := s.act (effectJoinReceive body)

/-- ROSTER_RECEIVE. -/
def effectRosterReceive (body : List Byte) (d : Dev) : Dev := d.takeRoster body

/-- ROSTER_RECEIVE: its own effect, then what follows at once. -/
def execRosterReceive (body : List Byte) (s : State) : Host.Outcome State Fault Refusal := s.act (effectRosterReceive body)

/-- HB_SEND (R334): a LIVE member to the keeper, the keeper to every LIVE member, once a period. -/
def effectHbSend (d : Dev) : Dev :=
  d.when ((d.rec? d.deviceId).map (fun r => r.state) == some rsLIVE && decide (d.col.hbNext ≤ d.now)) fun d =>
    let body := [0x22, 0, 0, 0] ++ leBytes 4 (d.rd F.colEpoch) ++ leBytes 8 d.deviceId ++ leBytes 4 d.col.hbSeq ++ leBytes 4 0
    let d := d.setCol { d.col with hbSeq := (d.col.hbSeq + 1) % 2 ^ 32, hbNext := d.now + d.colHb }
    if d.isKeeper then d.sendLive body else d.sendCtrl d.keeper colQueue body

/-- HB_SEND: its own effect, then what follows at once. -/
def execHbSend (s : State) : Host.Outcome State Fault Refusal := s.act (effectHbSend)

/-- HB_RECEIVE. -/
def effectHbReceive (body : List Byte) (d : Dev) : Dev := d.takeHb body

/-- HB_RECEIVE: its own effect, then what follows at once. -/
def execHbReceive (body : List Byte) (s : State) : Host.Outcome State Fault Refusal := s.act (effectHbReceive body)

/-- The stamp of the last HB of a device. -/
def Dev.heardAt (d : Dev) (dev : Nat) : Nat := mapGet 0 d.col.heard dev

/-- MEMBER_SUSPECT (R334): the keeper has had no HB from a LIVE member for SUSPECT periods. -/
def effectMemberSuspect (dev : Nat) (d : Dev) : Dev :=
  d.when (d.isKeeper && dev != d.deviceId && (d.rec? dev).map (fun r => r.state) == some rsLIVE
      && decide (d.heardAt dev + d.rd F.colHb_suspect * d.colHb ≤ d.now)) fun d =>
    d.changeRec dev (fun r => { r with state := rsSUSPECT })

/-- MEMBER_SUSPECT: its own effect, then what follows at once. -/
def execMemberSuspect (dev : Nat) (s : State) : Host.Outcome State Fault Refusal := s.act (effectMemberSuspect dev)

/-- MEMBER_REMOVE (R334, R337, R340): no HB for REMOVE periods. -/
def effectMemberRemove (dev : Nat) (d : Dev) : Dev :=
  let st := (d.rec? dev).map (fun r => r.state)
  d.when (d.isKeeper && dev != d.deviceId && (st == some rsLIVE || st == some rsSUSPECT)
      && decide (d.heardAt dev + d.rd F.colHb_remove * d.colHb ≤ d.now)) fun d =>
    d.wantRemoved 0 dev

/-- MEMBER_REMOVE: its own effect, then what follows at once. -/
def execMemberRemove (dev : Nat) (s : State) : Host.Outcome State Fault Refusal := s.act (effectMemberRemove dev)

/-- KEEPER_LOSS (R334): no HB from the keeper for REMOVE periods; the lowest LIVE device that has not been passed over takes its
place, and if that is this device it sends KEEPER and removes the old keeper at the next epoch. -/
def effectKeeperLoss (d : Dev) : Dev :=
  let k := d.keeper
  d.when (d.enrolled && !d.isKeeper && decide (d.heardAt k + d.rd F.colHb_remove * d.colHb ≤ d.now)) fun d =>
    match (liveIds d.col.roster).find? (fun x => x != k && !d.col.passed.contains x) with
    | none => d
    | some c =>
      if c = d.deviceId then
        let e := (d.rd F.colEpoch + 1) % 2 ^ 32
        let r := (d.rec? k).getD {}
        let body := [0x24, 0, 0, 0] ++ leBytes 4 e ++ leBytes 8 d.deviceId ++ leBytes 8 k
        let gone := k :: d.col.passed
        let d := (d.applyEntry (2, k, r)).rosterChanged e d.deviceId
        let d := d.setCol { d.col with passed := [] }
        ((d.col.roster.filter (fun x => x.2.state == rsLIVE && x.1 != d.deviceId && !gone.contains x.1)).map (fun x => x.1)).foldl
          (fun d m => d.sendCtrl m colQueue body) d
      else
        d.setCol { d.col with passed := d.col.passed ++ [c], heard := mapPut d.col.heard k d.now }

/-- KEEPER_LOSS: its own effect, then what follows at once. -/
def execKeeperLoss (s : State) : Host.Outcome State Fault Refusal := s.act (effectKeeperLoss)

/-- KEEPER_RECEIVE. -/
def effectKeeperReceive (body : List Byte) (d : Dev) : Dev := d.takeKeeper body

/-- KEEPER_RECEIVE: its own effect, then what follows at once. -/
def execKeeperReceive (body : List Byte) (s : State) : Host.Outcome State Fault Refusal := s.act (effectKeeperReceive body)

/-- LEAVE_RECEIVE. -/
def effectLeaveReceive (body : List Byte) (d : Dev) : Dev := d.takeLeave body

/-- LEAVE_RECEIVE: its own effect, then what follows at once. -/
def execLeaveReceive (body : List Byte) (s : State) : Host.Outcome State Fault Refusal := s.act (effectLeaveReceive body)

/-- UNREACH_RECEIVE. -/
def effectUnreachReceive (body : List Byte) (d : Dev) : Dev := d.takeUnreach body

/-- UNREACH_RECEIVE: its own effect, then what follows at once. -/
def execUnreachReceive (body : List Byte) (s : State) : Host.Outcome State Fault Refusal := s.act (effectUnreachReceive body)

/-- SPARE_WAKE_SEND (R339): wake frames every 100 ms. -/
def effectSpareWakeSend (d : Dev) : Dev :=
  match d.col.waking with
  | none => d
  | some w =>
    d.when (d.isKeeper && decide (w.last + 100 * msQ ≤ d.now)) fun d =>
      (d.setCol { d.col with waking := some { w with last := d.now } }).wakeFrames w.spare

/-- SPARE_WAKE_SEND: its own effect, then what follows at once. -/
def execSpareWakeSend (s : State) : Host.Outcome State Fault Refusal := s.act (effectSpareWakeSend)

/-- SPARE_WAKE_TIMEOUT (R339): the spare has not joined within 10 s; its record is removed and another spare is chosen. -/
def effectSpareWakeTimeout (d : Dev) : Dev :=
  match d.col.waking with
  | none => d
  | some w =>
    d.when (d.isKeeper && decide (w.since + 10 * secQ ≤ d.now)) fun d =>
      let d := d.setCol { d.col with waking := none, substQ := w.gone :: d.col.substQ }
      (d.removeDevice w.spare false).nextSubst

/-- SPARE_WAKE_TIMEOUT: its own effect, then what follows at once. -/
def execSpareWakeTimeout (s : State) : Host.Outcome State Fault Refusal := s.act (effectSpareWakeTimeout)

/-- WAKE_DONE_RECEIVE. -/
def effectWakeDoneReceive (body : List Byte) (d : Dev) : Dev := d.takeWakeDone body

/-- WAKE_DONE_RECEIVE: its own effect, then what follows at once. -/
def execWakeDoneReceive (body : List Byte) (s : State) : Host.Outcome State Fault Refusal := s.act (effectWakeDoneReceive body)

/-- COL_ASSIST_DOORBELL (R340): the host's decision on the device of the work record. -/
def effectColAssistDoorbell (f h : Nat) (d : Dev) : Dev :=
  if h = 0 ∨ d.col.assist ≠ h then d.badDoorbell f colPage
  else
    let dev := d.rd64 (F.colAssistDev 0) (F.colAssistDev 1)
    let spare := d.rd64 (F.colAssistSpare 0) (F.colAssistSpare 1)
    let d := (d.setCol { d.col with assist := 0 }).sixRelease h St.ok
    let d := (d.wr F.colAssistOp 0).setFlag (hAssistWait colPage) false
    let d :=
      match d.rd F.colAssistDec with
      | 1 => d.removeDevice dev false
      | 2 => (d.removeDevice dev false).wakeSpare spare dev
      | _ => d.setCol { d.col with heard := mapPut d.col.heard dev d.now }
    match d.col.assistQ with
    | [] => d
    | (k, x) :: rest => (d.setCol { d.col with assistQ := rest }).colAssist k x

/-- COL_ASSIST_DOORBELL: its own effect, then what follows at once. -/
def execColAssistDoorbell (f h : Nat) (s : State) : Host.Outcome State Fault Refusal := s.act (effectColAssistDoorbell f h)

/-! ### Quotes -/

/-- QUOTE_REQ: the joining device sends its quote in parts of 1,344 bytes (R329, R435). -/
def Dev.takeQuoteReq (d : Dev) (b : List Byte) : Dev :=
  if b.length < 48 then d.rxBad
  else
    let nonce := (b.drop 16).take 32
    let data := d.quoteData nonce
    let n := ceilDiv data.length 1344
    (List.range n).foldl (fun d p =>
      let piece := (data.drop (1344 * p)).take 1344
      d.sendCtrl (leAt b 8 8) colQueue
        ([0x29, 0] ++ leBytes 2 p ++ leBytes 2 n ++ leBytes 2 piece.length ++ leBytes 8 d.deviceId ++ nonce ++ piece)) d

/-- QUOTE: a complete quote admits the joining device or refuses it. -/
def Dev.takeQuote (d : Dev) (b : List Byte) : Dev :=
  if b.length < 48 + leAt b 6 2 ∨ b.length < 48 then d.rxBad
  else
    let dev := leAt b 8 8
    let nonce := (b.drop 16).take 32
    match d.col.quotes.find? (fun q => q.device == dev && q.nonce == nonce) with
    | none => d
    | some q =>
      let q' := { q with parts := mapPut q.parts (leAt b 2 2) ((b.drop 48).take (leAt b 6 2)), count := leAt b 4 2 }
      if (List.range q'.count).all (fun p => (mapLook q'.parts p).isSome) then
        let data := q'.parts.flatMap (fun p => p.2)
        let d := d.setCol { d.col with quotes := d.col.quotes.filter (fun x => x.device != dev) }
        if d.quoteOk nonce data then d.enrol q'.join
        else (d.sendCtrl dev colQueue (rosterBody 0 (d.rd F.colEpoch) d.keeper 0 [])).raise secPage 6 St.ok
      else d.setCol { d.col with quotes := d.col.quotes.map (fun (x : QuoteReq) => if x.device = dev then q' else x) }

/-- QUOTE_REQ_RECEIVE. -/
def effectQuoteReqReceive (body : List Byte) (d : Dev) : Dev := d.takeQuoteReq body

/-- QUOTE_REQ_RECEIVE: its own effect, then what follows at once. -/
def execQuoteReqReceive (body : List Byte) (s : State) : Host.Outcome State Fault Refusal := s.act (effectQuoteReqReceive body)

/-- QUOTE_RECEIVE. -/
def effectQuoteReceive (body : List Byte) (d : Dev) : Dev := d.takeQuote body

/-- QUOTE_RECEIVE: its own effect, then what follows at once. -/
def execQuoteReceive (body : List Byte) (s : State) : Host.Outcome State Fault Refusal := s.act (effectQuoteReceive body)

/-- QUOTE_TIMEOUT (R329): the parts of a quote have not all come within 1 s of its request. -/
def effectQuoteTimeout (dev : Nat) (d : Dev) : Dev :=
  d.setCol { d.col with quotes := d.col.quotes.filter (fun q => not (q.device == dev && decide (q.at_ + secQ ≤ d.now))) }

/-- QUOTE_TIMEOUT: its own effect, then what follows at once. -/
def execQuoteTimeout (dev : Nat) (s : State) : Host.Outcome State Fault Refusal := s.act (effectQuoteTimeout dev)

/-! ### Leaving (R336, R338) -/

/-- GRACEFUL_LEAVE: COL_CTRL.LEAVE written 1; no job opens a further step. -/
def effectGracefulLeave (d : Dev) : Dev :=
  d.when d.enrolled fun d => d.setCol { d.col with leaving := true }

/-- GRACEFUL_LEAVE: its own effect, then what follows at once. -/
def execGracefulLeave (s : State) : Host.Outcome State Fault Refusal := s.act (effectGracefulLeave)

/-- The LEAVE body; bit 0 of FLAGS is SLEEPING. -/
def Dev.leaveBody (d : Dev) (sleeping : Bool) : List Byte :=
  [0x23] ++ leBytes 1 (boolNat sleeping) ++ leBytes 6 0 ++ leBytes 8 d.deviceId

/-- LEAVE_SEND: no attempt open and no image draining; a keeper removes its own record. -/
def effectLeaveSend (d : Dev) : Dev :=
  d.when (d.col.leaving && d.enrolled && (List.range 8).all (fun j => !d.attemptLive j && (d.job j).drain.isNone)) fun d =>
    if d.isKeeper then d.keeperChange [(2, d.deviceId, (d.rec? d.deviceId).getD {})]
    else d.sendCtrl d.keeper colQueue (d.leaveBody (d.pwr.mode == 2 && d.flag F.colDomain_spare))

/-- LEAVE_SEND: its own effect, then what follows at once. -/
def execLeaveSend (s : State) : Host.Outcome State Fault Refusal := s.act (effectLeaveSend)

/-- FORGET (R338): the keeper deletes the sleeping spare selected in COL_RST_SEL. -/
def effectForget (d : Dev) : Dev :=
  match d.col.roster[d.rd F.colRstSel_index]? with
  | none => d
  | some (dev, r) =>
    d.when (d.isKeeper && r.role == roSPARE && r.state == rsSLEEPING) fun d => d.keeperChange [(2, dev, r)]

/-- FORGET: its own effect, then what follows at once. -/
def execForget (s : State) : Host.Outcome State Fault Refusal := s.act (effectForget)

/-- BEACON_RECEIVE. -/
def effectBeaconReceive (body : List Byte) (d : Dev) : Dev := d.takeBeacon body

/-- BEACON_RECEIVE: its own effect, then what follows at once. -/
def execBeaconReceive (body : List Byte) (s : State) : Host.Outcome State Fault Refusal := s.act (effectBeaconReceive body)

end Sys2Proof.Machine
end

