-- ==== Sys2Proof/Machine/View.lean ====
section
/-! DEFINITION. What a function reads in BAR0: which register an offset of a page or of a VF view reaches, the windows that show the
device's tables, the common page header, and the read itself (02_register_pages.md R34 to R51 and the register tables of every
chapter). -/

namespace Sys2Proof.Machine

/-- A register as a function reaches it: where it stands in the PF map, its index within its array, its storage key, and its fields as the
function may use them. -/
structure RegAt where
  blk : Block
  inst : Nat
  page : Nat
  off : Nat
  idx : Nat
  key : Nat
  fields : List FieldDef
  deriving DecidableEq, Repr

/-- The page of the PF map that a register stands in; its LOCK governs the register in every view (R47, R50). -/
def RegAt.pf (r : RegAt) : Page := pfPage r.blk r.inst r.page

/-- Every field as read-only. -/
def roFields (l : List FieldDef) : List FieldDef := l.map (fun f => { f with access := .ro })

/-- One field as read-only. -/
def roField (lo : Nat) (l : List FieldDef) : List FieldDef := l.map (fun f => if f.lo = lo then { f with access := .ro } else f)

/-- The window entry that a selector register picks for a register of the page; none where the register is in no window. -/
def Dev.windowOf (d : Dev) (f : Nat) (b : Block) (page off : Nat) : Option Nat :=
  match b, page with
  | .tir, 3 => if 0x84 ≤ off ∧ off ≤ 0xA0 then some (d.rd F.wsetSel_set) else none
  | .tbn, 2 => if 0x84 ≤ off then some (bitsAt (d.reg ((pfPage .tbn 0 2).key + 0x80)).toNat 0 2) else none
  | .col, 2 => if 0x84 ≤ off then some (d.rd (hdrFld ⟨f, .col, 0, 2⟩ 0x80 0 12)) else none
  | .hif, 2 => if 0x84 ≤ off then some (d.winSel f) else none
  | _, _ => none

/-- The storage key of a register of the PF map: EVT_SRC words lie side by side, the ACR pages 1 and 2 of every instance show the same
registers (11_acrek_update.md), and a window's registers have a copy for each entry. -/
def Dev.pfKey (d : Dev) (b : Block) (inst page off idx : Nat) : Nat :=
  if b = .evt ∧ 1 ≤ page ∧ page ≤ 4 then (F.evtSrc_en idx).addr
  else
    let a := (pfPage b (if b = .acr ∧ (page = 1 ∨ page = 2) then 0 else inst) page).key + off
    match d.windowOf 0 b page off with
    | some e => ((⟨a, 0, 32⟩ : Fld).bank e).addr
    | none => a

/-- A register of the PF map. KQP page 2 exists in instance 0 only. -/
def Dev.pfReg (d : Dev) (b : Block) (inst page off : Nat) : Option RegAt :=
  if b = .kqp ∧ page = 2 ∧ inst ≠ 0 then none
  else (pageReg b page off).map (fun r => ⟨b, inst, page, off, r.2, d.pfKey b inst page off r.2, r.1.fields⟩)

/-- The same register in the VF's own page. -/
def ownReg (p : Page) (off : Nat) : Option RegAt :=
  (pageReg p.blk p.page off).map (fun r => ⟨p.blk, 0, p.page, off, r.2, p.key + off, r.1.fields⟩)

/-- The registers of a job `j` of the partition `part`. -/
def Dev.jobOf (d : Dev) (part j : Nat) : Bool := decide (j < 8) && d.rd (F.ldgJobCfg_part j) == part

/-- The queue set at an offset of a KQP view page: view queue and its register set (R62). -/
def Dev.viewSet (d : Dev) (p : Page) (off : Nat) : Option RegAt :=
  let k := if p.page = 1 then 0 else p.page - 2
  match d.queueOf p.func (16 * k + (off - 0x100) / 0x40) with
  | some q => (d.pfReg .kqp (q / 16) 1 (0x100 + q % 16 * 0x40 + (off - 0x100) % 0x40)).map (fun r =>
      if off % 0x40 = 0 then { r with fields := roField 1 r.fields } else r)
  | none => none

/-- What a VF's view shows at an offset of one of its pages (R49 to R51, R62 and the VF-view sentences of the chapters); none where the
view shows nothing: such an offset reads 0 and ignores writes. -/
def Dev.viewReg (d : Dev) (p : Page) (part off : Nat) : Option RegAt :=
  let pf := d.pfReg p.blk 0 p.page off
  let ro := pf.map (fun r => { r with fields := roFields r.fields })
  let job (base step : Nat) : Option RegAt := if base ≤ off ∧ d.jobOf part ((off - base) / step) then pf else none
  match p.blk, p.page with
  | .tim, _ => if off = 0x90 ∨ off = 0x94 ∨ off = 0x9C then ro else none
  | .hif, 0 => if off = 0x8C ∨ off = 0x90 then ownReg p off else none
  | .hif, _ => (ownReg p off).map (fun r =>
      { r with key := if off = 0x80 then r.key else ((⟨r.key, 0, 32⟩ : Fld).bank (d.winSel p.func)).addr,
               fields := if off = 0x84 then r.fields.filter (fun x => x.lo != 21) else r.fields })
  | .kqp, 0 =>
    if off = 0x80 ∨ off = 0x84 then ownReg p off
    else if 0x90 ≤ off ∧ off < 0xA0 ∧ off % 4 = 0 then some ⟨.kqp, 0, 0, off, (off - 0x90) / 4, p.key + off, [⟨0, 32, .rw1c, 0, .any⟩]⟩
    else none
  | .kqp, 2 => ownReg p off
  | .kqp, _ =>
    if 0x100 ≤ off then d.viewSet p off
    else if off = 0x80 ∨ off = 0x84 then (pageReg .kqp 1 off).map (fun r => ⟨.kqp, 0, 1, off, 0, p.key + off, r.1.fields⟩)
    else none
  | .ldg, 1 => (job 0x80 0x40).map (fun r => if (off - 0x80) % 0x40 = 0 then { r with fields := roField 13 r.fields } else r)
  | .ldg, _ => if off = 0x80 then ownReg p off else pf
  | .tir, 0 => if [0x90 + 8 * part, 0x94 + 8 * part, 0xE0 + 8 * part, 0xE4 + 8 * part].contains off then ro else none
  | .tir, 1 => ownReg p off
  | .tir, _ => if off = 0x98 then ro else none
  | .six, _ => if off = 0x80 + 4 * part then ro else if off = 0xC0 then ownReg p off else if 0xC4 ≤ off then pf else none
  | .col, 2 =>
    if off = 0x80 then ownReg p off
    else
      let g := d.rd (hdrFld p 0x80 0 12)
      if d.rd (F.colGrpCfg_owner.bank g) = part then
        pf.map (fun r => { r with key := ((⟨(pfPage .col 0 2).key + off, 0, 32⟩ : Fld).bank g).addr,
                                  fields := if off = 0x84 then roField 1 r.fields else r.fields })
      else none
  | .col, _ => if off = 0xA0 then ownReg p off else if 0xA4 ≤ off ∧ off < 0xB4 then pf else if off < 0xA0 then job 0x80 4 else none
  | .acr, 1 => job 0x80 0x20
  | .acr, _ => if off = 0x80 then ownReg p off else pf
  | .evt, 0 => if off = 0x8C then pf else none
  | .evt, 1 =>
    if 0x80 ≤ off ∧ off < 0x280 ∧ off % 4 = 0 then
      let n := 1024 + 128 * (p.func - 1) + (off - 0x80) / 4
      d.pfReg .evt 0 (1 + n / 512) (0x80 + 4 * (n % 512))
    else none
  | .evt, _ =>
    if 0x80 ≤ off ∧ off < 0x90 ∧ off % 4 = 0 then d.pfReg .evt 0 5 (0x80 + 4 * (32 + 4 * (p.func - 1)) + (off - 0x80)) else none
  | .rng, _ => job 0x80 0x20
  | _, _ => none

/-- The register that an offset of a page reaches, for the function that owns the page. -/
def Dev.regAt (d : Dev) (p : Page) (off : Nat) : Option RegAt :=
  if p.func = 0 then d.pfReg p.blk p.inst p.page off
  else (d.ownPart p.func).bind (fun part => d.viewReg p part off)

/-! ### Tables that registers show -/

/-- Four bytes of a record as a register word. -/
def wordOf (bs : List Byte) (i : Nat) : Nat := leAt bs (4 * i) 4

/-- A number's `i`-th 32-bit word. -/
def wordAt (n i : Nat) : Nat := bitsAt n (32 * i) 32

/-- SPR_MAP of a type and logical number (R30). -/
def Dev.sprMapWord (d : Dev) (t l : Nat) : Nat :=
  match d.physOf t l with
  | some p => p + 256 + (if p < unitBase t + unitActive t then 0 else 512)
  | none => 0xFF

/-- ROLE and the logical number held, as CCR_MAP and ENG_MAP show them. -/
def Dev.mapWord (d : Dev) (t p lw : Nat) : Nat := ((d.logicalOf t p).getD 0) + 2 ^ lw * (d.physUnit t p).role

/-- The type of the engine in a slot. -/
def slotType (slot : Nat) : Nat := Block.eng.ident slot % 256

/-- Lanes of an engine type: FP32, FP64 (ENG_INFO). -/
def engLanes : Nat → Nat × Nat
  | 1 => (1024, 256) | 3 => (1024, 256) | 2 => (256, 64) | _ => (0, 0)

/-- Opcodes whose commands can split into parts (R81 and the split rules of the chapters). -/
def opSplits (op : Nat) : Bool :=
  [opMM, opMM_T, opCONV, opATTN, opSLICE64, opSLICE32, opVX, opSF, opNORM, opROUTE, opPERMUTE, opCOMBINE, opFFT, opGATHER,
   opSCATTER_ADD].contains op

/-- KQP_OPC_INFO. -/
def opcInfo (op : Nat) : Nat :=
  if definedOpcodes.contains op then
    1 + 2 + 0x10000 * boolNat (opSplits op) + 0x20000 * boolNat (stepOnly op) + 0x40000 * boolNat (stepNever op)
  else 0

/-- The 256 bytes of a ledger record (12_step_ledger.md R262, table Ledger record). -/
def LedgerRec.bytes (r : LedgerRec) : List Byte :=
  leBytes 8 r.step ++ leBytes 2 r.attempt
    ++ leBytes 1 (r.state + 8 * boolNat r.flipped + 16 * boolNat r.ckpt + 32 * boolNat r.ckptHost + 64 * boolNat r.restored)
    ++ leBytes 1 r.job ++ leBytes 2 r.reason ++ leBytes 2 r.reasonRank ++ leBytes 8 r.tOpen ++ leBytes 8 r.tSeal ++ leBytes 8 r.tVote
    ++ leBytes 8 r.tDecide ++ leBytes 8 r.tEnd ++ leBytes 8 r.tFlip ++ leBytes 4 r.rosterEpoch ++ leBytes 2 r.layoutEpoch ++ leBytes 2 r.coord
    ++ leBytes 4 r.term ++ leBytes 4 r.seedChk ++ leBytes 4 r.seedGen ++ leBytes 12 0 ++ leBytes 32 r.cursor
    ++ (r.digest ++ leBytes 32 0).take 32 ++ leBytes 8 r.g2 ++ leBytes 8 r.l2 ++ leBytes 4 r.bNoise ++ leBytes 4 r.updates
    ++ leBytes 2 r.repeats ++ leBytes 2 r.degen ++ leBytes 2 r.frozen ++ leBytes 2 0 ++ leBytes 4 r.stallUs ++ leBytes 4 r.votes
    ++ leBytes 8 r.writeBytes ++ leBytes 48 0

/-- The 32 bytes of an event record (18_faults_resets_dumps.md R411, table Event record). -/
def EventRec.bytes (r : EventRec) : List Byte :=
  leBytes 8 r.stamp ++ leBytes 4 r.ident ++ leBytes 1 r.bit ++ leBytes 1 (boolNat r.vf) ++ leBytes 2 r.status ++ leBytes 4 r.seq
    ++ leBytes 4 r.cause.step ++ leBytes 3 (r.cause.layer + 2 ^ 20 * r.cause.job) ++ leBytes 1 r.cause.attempt ++ leBytes 4 r.logSeq

/-- The 32 bytes of a group's statistics record (11_acrek_update.md, ACR_GRP_STATS). -/
def GrpStats.bytes (x : GrpStats) : List Byte :=
  leBytes 8 x.w2 ++ leBytes 8 x.d2 ++ leBytes 4 x.ratio ++ leBytes 4 x.quiet ++ leBytes 4 x.zero ++ leBytes 2 x.degen ++ leBytes 2 x.frozen

/-- A region's two descriptor words (04_market.md, MKT_RGN_DESC0 and MKT_RGN_DESC1). -/
def Region.words (r : Region) : Nat × Nat :=
  (r.base + 2 ^ 16 * r.attr + 2 ^ 18 * r.owner + 2 ^ 22 * r.job + 2 ^ 25 * r.stepTag + 2 ^ 27 * boolNat r.fill + 2 ^ 31, r.count % 2 ^ 14)

/-- A connection's four words (14_tabnus_transport.md, TBN_CONN0 to TBN_CONN3); UNACKED counts the packets sent and not yet acknowledged. -/
def Dev.connWords (d : Dev) (x : Conn) : List Nat :=
  [wordAt x.peer 0, wordAt x.peer 1,
   if x.isOpen then x.ver + 2 ^ 4 * (x.payload / 64) + 2 ^ 12 * (d.activePaths x.peer).length + 2 ^ 20 * min 4095 (ceilDiv x.pkts.length 2) else 0,
   min 65535 (x.rate / 1000000)]

/-- A member of a weight set is POISONED in either slot (WSET_STATE.POISONED). -/
def Dev.setPoisoned (d : Dev) (s : Nat) : Bool :=
  d.wset.defined.contains s && (List.range (d.wsetCount s)).any (fun m => [0, 1].any (fun sl =>
    (d.obj? (d.slotKey s sl m)).any (fun o => (List.range o.unitCount).any (fun u =>
      (o.unit u).t0 == tsPOISONED || (o.unit u).t1 == tsPOISONED))))

/-- PENDING of source `n`. -/
def Dev.srcPending (d : Dev) (n : Nat) : Bool := d.flag (F.evtSrc_pending n)

/-- The job, slot and pending bit that a function's selector picks. -/
def Dev.selOf (d : Dev) (f : Nat) (b : Block) (page lo w : Nat) : Nat := d.rd (hdrFld ⟨f, b, 0, page⟩ 0x80 lo w)

/-- The owner that may see a record through a function: the PF all, a VF its own partition. -/
def Dev.mayShow (d : Dev) (f owner : Nat) : Bool := f == 0 || d.ownPart f == some owner

/-- The words of registers that show a table and not a stored word: the function that reads, and the register. -/
def Dev.shown (d : Dev) (f : Nat) (r : RegAt) : Option Nat :=
  let word (bs : Option (List Byte)) (first : Nat) : Option Nat := some ((bs.map (fun b => wordOf b ((r.off - first) / 4))).getD 0)
  match r.blk, r.page, r.off with
  | .tim, 0, 0x90 => some (wordAt d.now 0)
  | .tim, 0, 0x94 => some (wordAt d.now 1)
  | .spr, 0, 0x84 => some (d.sprMapWord (d.rd F.sprMapSel_type) (d.rd F.sprMapSel_logical))
  | .kqp, 0, 0x84 => some (opcInfo (bitsAt (d.reg (r.key - 4)).toNat 0 12))
  | .kqp, 2, 0x84 => some (((d.semSel f).map (fun s => d.sem s.1 s.2)).getD 0)
  | .hlt, 4, 0x80 => some d.logSeq
  | .ccr, 0, 0x80 => some (d.mapWord 0 r.inst 6 + (if r.inst < 36 then 0 else 512))
  | .eng, 0, 0x80 => some (d.mapWord (slotType r.inst) r.inst 5)
  | .eng, 0, 0x84 => some ((engLanes (slotType r.inst)).1 + 2 ^ 12 * (engLanes (slotType r.inst)).2)
  | .mkt, 1, 0x84 => some (((mapLook d.mkt.regions (d.rd F.mktRgnSel_index)).map (fun x => x.words.1)).getD 0)
  | .mkt, 1, 0x88 => some (((mapLook d.mkt.regions (d.rd F.mktRgnSel_index)).map (fun x => x.words.2)).getD 0)
  | .mkt, 3, 0x84 => some ((d.bank (d.rd F.mktMapSel_bank)).phys + 2 ^ 12 * (d.bank (d.rd F.mktMapSel_bank)).state)
  | .tir, 0, 0x134 => some ((d.tir.objs.filter (fun e => e.2.live)).length)
  | .tir, 3, 0x88 => some ((setField (d.reg r.key) 6 1 (boolNat (d.setPoisoned (d.rd F.wsetSel_set)))).toNat)
  | .hbm, 0, 0x80 => some ((setField (d.reg r.key) 2 1 (boolNat (mapLook d.acr.window r.inst).isSome)).toNat)
  | .fab, 3, 0x88 =>
    some ((setField (d.reg r.key) 0 16 (((d.port r.inst).nbr.map (fun x => ceilDiv (x.expires - d.now) secQ)).getD 0)).toNat)
  | .spr, 0, _ =>
    if 0x88 ≤ r.off ∧ r.off < 0x94 then
      some (sumBy (fun k => 256 ^ k * (if 4 * r.idx + k < 11 then (d.reserves (4 * r.idx + k)).length else 0)) (List.range 4))
    else none
  | .evt, 5, _ => some (sumBy (fun b => if d.srcPending (32 * r.idx + b) then 2 ^ b else 0) (List.range 32))
  | .evt, page, _ =>
    if page = 0 then none else some ((setField (d.reg r.key) 31 1 (boolNat (d.sourceLine r.idx))).toNat)
  | .hlt, 4, _ =>
    if 0xA0 ≤ r.off then word (((d.log.take 2097152).find? (fun e => e.logSeq == d.rd F.hltLogSel_seq)).map EventRec.bytes) 0xA0 else none
  | .ldg, 2, _ =>
    if 0x100 ≤ r.off then
      let j := d.selOf f .ldg 2 0 3
      if d.mayShow f (d.rd (F.ldgJobCfg_part j)) then word ((mapLook (d.job j).ring (d.selOf f .ldg 2 3 10)).map LedgerRec.bytes) 0x100
      else some 0
    else none
  | .acr, 2, _ =>
    let j := d.selOf f .acr 2 0 3
    let k := j * 4096 + d.selOf f .acr 2 3 12
    if r.off = 0x80 then none
    else if !d.mayShow f (d.rd (F.ldgJobCfg_part j)) then some 0
    else if 0xC0 ≤ r.off then word ((mapLook d.acr.stats k).map GrpStats.bytes) 0xC0
    else some (wordAt (mapGet 0 (if d.selOf f .acr 2 15 1 = 1 then d.acr.pending else d.acr.current) k) ((r.off - 0x84) / 4))
  | .six, 0, _ =>
    if 0xC4 ≤ r.off then
      word (((d.sixEntry (d.rd (hdrFld ⟨f, .six, 0, 0⟩ 0xC0 0 32))).filter (fun e => d.mayShow f e.owner)).map SixEntry.bytes) 0xC4
    else none
  | .tbn, 4, _ =>
    if 0x84 ≤ r.off then
      some (((mapLook d.tbn.conns (d.rd F.tbnConnSel_id)).map (fun x => nthD (d.connWords x) ((r.off - 0x84) / 4) 0)).getD 0)
    else none
  | .col, 1, _ =>
    if 0x84 ≤ r.off ∧ r.off ≤ 0x98 then word ((d.col.roster[d.rd F.colRstSel_index]?).map (fun e => recordWords e.1 e.2)) 0x84 else none
  | .col, 3, _ =>
    if 0xA4 ≤ r.off ∧ r.off < 0xB4 then
      some ((((mapLook d.col.tags (d.rd (hdrFld ⟨f, .col, 0, 3⟩ 0xA0 0 14))).filter (fun t => d.mayShow f (d.rd (F.ldgJobCfg_part t.job)))).map
        (fun t => nthD [t.handle, wordAt t.version 0, wordAt t.version 1, t.epoch] ((r.off - 0xA4) / 4) 0)).getD 0)
    else none
  | _, _, _ => none

/-! ### The common page header -/

/-- The logical or physical unit whose closures an instance counts. -/
def Dev.closuresOf (d : Dev) (p : Page) : Nat :=
  let live (t u : Nat) : Nat := ((d.physUnit t u).closures.filter (fun c => decide (d.now < c + dayQ))).length
  match p.blk with
  | .ccr => live 0 p.inst
  | .eng => live (slotType p.inst) p.inst
  | .kqp => ((d.physOf 8 p.inst).map (live 8)).getD (d.rd (hCloseCount (pfPage .kqp p.inst 0)))
  | _ => 0

/-- BUSY of a page's instance. -/
def Dev.pageBusy (d : Dev) (p : Page) : Bool :=
  match p.blk with
  | .ccr => d.runningParts.any (fun x => x.2.2.2.unit == unitKey 0 p.inst)
  | .eng => d.runningParts.any (fun x => x.2.2.2.unit == unitKey (slotType p.inst) p.inst)
  | .kqp => d.kqp.queues.any (fun x => x.1 / 16 == p.inst && !x.2.exec.isEmpty)
  | .acr => d.flag (F.acrState_busy p.inst)
  | .sec => d.flag F.secFwStatus_busy
  | .hlt => d.flag F.hltDumpState_busy
  | _ => false

/-- PG_TIMEOUT as it reads: a VF's KQP view page 0 shows the blocked-queue alarm of the processor of its first queue (R62). -/
def Dev.timeoutWord (d : Dev) (p : Page) : Word :=
  if p.func = 0 then d.reg (hTimeout p).addr
  else match d.queueOf p.func 0 with
    | some q => d.reg (hTimeout (pfPage .kqp (q / 16) 1)).addr
    | none => 0

/-- A register of the common header. -/
def Dev.headerWord (d : Dev) (p : Page) (off : Nat) : Word :=
  let c := pageCaps p
  let pf : Page := { p with func := 0 }
  let ev (w : Word) : Word := if c.event then w else 0
  match off with
  | 0x00 => BitVec.ofNat 32 p.ident
  | 0x04 => 0x00010001#32
  | 0x08 => c.word (p.func != 0)
  | 0x0C => BitVec.ofNat 32 ((if c.mode then d.rd (hMode pf) else 0) + 2 ^ 16 * d.rd (hLock pf))
  | 0x10 => setField (d.reg (hLastStatus p).addr) 16 1 (boolNat (d.pageBusy p))
  | 0x14 => ev (d.reg (hEvent p).addr)
  | 0x18 => ev (d.reg (hEventEn p).addr)
  | 0x1C => ev (d.reg (hSeq p).addr)
  | 0x20 => ev (d.reg (hStampLo p).addr)
  | 0x24 => if c.event then mapGet 0 d.stampHold (p.func * 2 ^ 32 + p.key) else 0
  | 0x28 => if c.timeout then d.timeoutWord p else 0
  | 0x2C => if p.func = 0 then BitVec.ofNat 32 (d.rd (hInReset p) * 2 ^ 8 + d.rd (hEscalated p) * 2 ^ 9) else 0
  | 0x30 => BitVec.ofNat 32 (d.rd (hHealth (pfPage p.blk p.inst 0)) + 2 ^ 8 * min 255 (d.closuresOf p))
  | _ => 0

/-! ### The read -/

/-- The MSI-X structures (R381): the table entry and word at an offset, or a word of the pending bit array. -/
inductive MsixAt
  | entry (vec word : Nat)
  | pending (word : Nat)
  | rest
  deriving DecidableEq, Repr

def Dev.msixAt (d : Dev) (f off : Nat) : Option MsixAt :=
  let table := if f = 0 then 0x48000 else 0xC000
  let pba := if f = 0 then 0x50000 else 0xD000
  if d.fewPages ∨ (f ≠ 0 ∧ (8 < f ∨ (d.ownPart f).isNone)) then none
  else if table ≤ off ∧ off < table + 16 * vectors f then some (.entry ((off - table) / 16) ((off - table) % 16 / 4))
  else if pba ≤ off ∧ off < pba + vectors f / 8 then some (.pending ((off - pba) / 4))
  else if pba ≤ off ∧ off < pba + 0x1000 then some .rest
  else none

/-- A field that a read returns: write-only fields read 0. -/
def FieldDef.readable (x : FieldDef) : Bool := x.access != .wo && x.access != .woKept

/-- The stored word of a register as it reads. -/
def RegAt.mask (r : RegAt) (w : Word) : Word :=
  r.fields.foldl (fun a x => if x.readable then setField a x.lo x.w (bitsAt w.toNat x.lo x.w) else a) 0

/-- A byte of the dump chunk that HLT page 3 shows; the units' own bytes are free (18_faults_resets_dumps.md R410). -/
def Dev.chunkWord (d : Dev) (off : Nat) : Word :=
  match d.hlt.chunk with
  | none => 0
  | some (unit, chunk, absent) =>
    if off = 0x80 then BitVec.ofNat 32 (boolNat absent + 4)
    else if absent ∨ off < 0x800 then 0
    else BitVec.ofNat 32 (ofLeBytes ((List.range 4).map (fun i => Config.freeByte (2 ^ 40 + unit * 256 + chunk) (off - 0x800 + i))))

/-- What a function reads from an aligned 32-bit register (R34 to R51); an unmapped address reads 0 (R35). -/
def Dev.readWord (d : Dev) (f off : Nat) : Word :=
  match d.msixAt f off with
  | some (.entry v w) => mapGet (if w = 3 then 1 else 0) d.msix (f * 65536 + v * 4 + w)
  | some (.pending w) => BitVec.ofNat 32 (sumBy (fun b => if d.msixPend.contains (f * 4096 + 32 * w + b) then 2 ^ b else 0) (List.range 32))
  | some .rest => 0
  | none =>
    match d.pageAt f off with
    | none => 0
    | some (p, o) =>
      if o < 0x80 then d.headerWord p o
      else if p.blk = .hlt ∧ p.page = 3 then d.chunkWord o
      else
        match d.regAt p o with
        | none => 0
        | some r =>
          match d.shown f r with
          | some w => BitVec.ofNat 32 w
          | none => r.mask (d.reg r.key)

end Sys2Proof.Machine
end

