-- ==== Sys2Proof/Machine/Registers.lean ====
section
/-! DEFINITION. The commands of the register pages: writes under the access codes, the lock and the reserved-field rules, rejected
accesses, PG_MODE, event flags and the stamp's holding register (02_register_pages.md R35 to R51). -/

namespace Sys2Proof.Machine

/-! ### What a write leaves in a field -/

/-- The value that a field keeps of a written value `x`, by its table's "reads back as" clause; `v` is the whole written word. -/
def Legal.fix (l : Legal) (x : Nat) (v : Nat) : Nat :=
  match l with
  | .any => x
  | .range lo hi dflt => if lo ≤ x ∧ x ≤ hi then x else dflt
  | .two lo dlo hi dhi => if x < lo then dlo else if hi < x then dhi else x
  | .bytesNonzero => sumBy (fun i => 256 ^ i * max 1 (bitsAt x (8 * i) 8)) (List.range 4)
  | .logSync => if -7 ≤ signedOf 4 x ∧ signedOf 4 x ≤ 0 then x else 12
  | .xon => if x < bitsAt v 8 3 then x else bitsAt v 8 3 - 1
  | .hbRemove =>
    let suspect := if bitsAt v 8 8 < 2 then 5 else bitsAt v 8 8
    if suspect < x ∧ x ≤ 1000 then x else 20

/-- A field after a write of the word `v` over the word `o`: its access code, its legal values, and the lock (R38, R47). -/
def FieldDef.next (x : FieldDef) (o v : Nat) (locked : Bool) : Nat :=
  let old := bitsAt o x.lo x.w
  let new := bitsAt v x.lo x.w
  match x.access with
  | .ro => old
  | .rw => x.legal.fix new v
  | .rwl => if locked then old else x.legal.fix new v
  | .rw1c => old - (old &&& new)
  | .rw1cAll => if new = 0 then old else 0
  | .w1s => old ||| new
  | .wo => old
  | .woKept => new

/-- A register's word after a write; reserved bits stay as they are (R38). -/
def RegAt.next (r : RegAt) (o v : Word) (locked : Bool) : Word :=
  r.fields.foldl (fun a x => setField a x.lo x.w (x.next o.toNat v.toNat locked)) o

/-- The lowest four bits set of a byte (13_fabric_ports.md R302). -/
def lowFour (n : Nat) : Nat :=
  ((List.range 8).foldl (fun (a : Nat × Nat) i => if bitOf n i ∧ a.2 < 4 then (a.1 + 2 ^ i, a.2 + 1) else a) (0, 0)).1

/-- The written word as the register takes it: FAB_PFC.EN keeps at most four classes. -/
def RegAt.taken (r : RegAt) (v : Word) : Word :=
  if r.blk = .fab ∧ r.page = 1 ∧ r.off = 0xA8 then setField v 0 8 (lowFour (bitsAt v.toNat 0 8)) else v

/-- Registers whose write is a command of its own: GLB_PART, PWR_CAP, HLT_DUMP_SEL, HIF_WIN_CFG, KQP_SEM_VAL, LDG_SCALE_BASE, RNG_SEED3, the
pool limits of R97 and R221, and WSET_DEF. -/
def RegAt.ownRow (r : RegAt) : Bool :=
  match r.blk, r.page with
  | .glb, 1 => true
  | .pwr, 0 => r.off == 0x80
  | .hlt, 2 => r.off == 0x90
  | .hif, 2 => r.off == 0x84
  | .kqp, 2 => r.off != 0x80
  | .ldg, 4 => (r.off - 0x80) % 0x10 == 8
  | .rng, _ => (r.off - 0x80) % 0x20 == 0xC
  | .mkt, 0 => decide (0x90 ≤ r.off)
  | .tir, 0 => decide (0x90 ≤ r.off ∧ r.off < 0xD8)
  | .tir, 3 => r.off == 0x84
  | _, _ => false

/-- The register is a Q_CFG or COL_GRP_CFG: where its JOB field lies, and the partition that the written word leaves it in (R61). -/
def RegAt.jobField (r : RegAt) (w : Word) : Option (Nat × Nat) :=
  if r.blk = .kqp ∧ r.page = 1 ∧ 0x100 ≤ r.off ∧ r.off % 0x40 = 0 then some (4, bitsAt w.toNat 1 3)
  else if r.blk = .col ∧ r.page = 2 ∧ r.off = 0x84 then some (5, bitsAt w.toNat 1 4)
  else none

/-! ### What a write sets going -/

/-- A written group takes effect at the next STEP_OPEN of its job, or at once where the job has no attempt open (15_groups_and_collectives.md
R341). -/
def Dev.groupTouched (d : Dev) (g : Nat) : Dev :=
  let d := d.setCol { d.col with dirty := if d.col.dirty.contains g then d.col.dirty else d.col.dirty ++ [g] }
  let j := d.rd (F.colGrpCfg_job.bank g)
  if d.attemptLive j then d else d.applyGroups j

/-- ROLE written: 0 stops PTP, another role starts it from FREE (20_time_power_module.md R436, table Time base states). -/
def Dev.roleWritten (d : Dev) : Dev :=
  if d.rd F.timCfg_role = 0 then (d.setTim { d.tim with goodFrom := 0, badFrom := 0, locked := false }).wr F.timState_state tmFREE
  else if d.timSt = tmFREE then (d.setTim { d.tim with goodFrom := 0, badFrom := 0 }).wr F.timState_state tmACQUIRING
  else d

/-- What the write of a register sets going, beyond its value: `before` is the device before the write. -/
def Dev.touched (d before : Dev) (f : Nat) (r : RegAt) : Dev :=
  match r.blk, r.page with
  | .kqp, 1 =>
    if 0x100 ≤ r.off ∧ r.off % 0x40 = 0 then
      let n := r.inst * 16 + (r.off - 0x100) / 0x40
      let en := F.qCfg_enable r.inst ((r.off - 0x100) / 0x40)
      match before.flag en, d.flag en with
      | false, true => (d.setFlag en false).enableQueue n
      | true, false => (d.setFlag en true).disableQueue n false
      | _, _ => d
    else d
  | .tim, 0 => if r.off = 0x80 ∧ before.rd F.timCfg_role ≠ d.rd F.timCfg_role then d.roleWritten else d
  | .sec, 0 => if r.off = 0xA0 then d.showBrec else d
  | .evt, 0 => d.showLevel
  | .hlt, 1 => if r.off = 0x80 ∧ before.flag F.hltStCfg_en ∧ !d.flag F.hltStCfg_en then d.raise hltPage 11 St.ok else d
  | .fab, 0 =>
    if r.off = 0x80 then
      match before.flag (F.fabPortCfg_enable r.inst), d.flag (F.fabPortCfg_enable r.inst) with
      | false, true => d.startPort r.inst
      | true, false => d.stopPort r.inst
      | _, _ => d
    else d
  | .ldg, 1 =>
    if (r.off - 0x80) % 0x40 = 0x2C ∧ d.jobKnown ((r.off - 0x80) / 0x40) then d.chooseNeighbour ((r.off - 0x80) / 0x40) else d
  | .col, 2 => if 0x84 ≤ r.off then d.groupTouched (r.key / 2 ^ 32 - 1) else d
  | .tir, 1 => if r.off = 0xA0 ∧ 6 ≤ (d.mbxReq f).op then d.mbxDone f St.badField none else d
  | _, _ => d

/-! ### One 32-bit write -/

/-- The range a page's chapter states for its PG_TIMEOUT, in qns. -/
def timeoutRange (p : Page) : Nat × Nat :=
  match p.blk, p.page with
  | .kqp, 0 => (10 * usQ, 10 * secQ)
  | .kqp, _ => (msQ, 600 * secQ)
  | .tbn, _ => (msQ, secQ)
  | .spr, _ => (secQ, 600 * secQ)
  | _, _ => (0, 65535 * secQ)

/-- VALUE and UNIT of a PG_TIMEOUT as the page keeps them. -/
def timeoutKept (p : Page) (v : Word) : Nat :=
  let t := bitsAt v.toNat 0 16 * timeoutUnit (bitsAt v.toNat 16 2)
  if t ≠ 0 ∧ (t < (timeoutRange p).1 ∨ (timeoutRange p).2 < t) then 0 else bitsAt v.toNat 0 18

/-- A write of an RWL header field under the lock: what is left, and whether a value would have changed. -/
def Dev.headerRwl (d : Dev) (p : Page) (x : Fld) (v : Nat) : Dev × Option Nat :=
  if d.flag (hLock p) then (d, if d.rd x = v then none else some 1) else (d.wr x v, none)

/-- PG_MODE written (R21, R47, R48): MODE for operations that begin afterwards, under LOCK as it stood before; LOCK once set stays. -/
def Dev.writeMode (d : Dev) (p : Page) (v : Word) : Dev × Option Nat :=
  let r := if (pageCaps p).mode then d.headerRwl p (hMode p) (bitsAt v.toNat 0 1) else (d, none)
  (if bitOf v.toNat 16 then r.1.setFlag (hLock p) true else r.1, r.2)

/-- A write of a header register: the device, and the ground on which it is recorded. Registers whose write is a command of its own (PG_EVENT,
PG_RESET.REQ) are left alone here. -/
def Dev.writeHeader (d : Dev) (p : Page) (off : Nat) (v : Word) : Dev × Option Nat :=
  match off with
  | 0x0C => if p.func ≠ 0 then (d, some 3) else d.writeMode p v
  | 0x18 =>
    if (pageCaps p).event then ((d.setReg (hEventEn p).addr v).noteEdge p (d.line p), none) else (d, none)
  | 0x28 =>
    if p.func ≠ 0 then (d, some 3)
    else if (pageCaps p).timeout then d.headerRwl p (hdrFld p 0x28 0 18) (timeoutKept p v)
    else (d, none)
  | 0x2C => if p.func ≠ 0 then (d, some 3) else (if bitOf v.toNat 9 then d.setFlag (hEscalated p) false else d, none)
  | _ => (d, none)

/-- An RWL field that the write would change. -/
def RegAt.wouldChange (r : RegAt) (o v : Nat) : Bool :=
  r.fields.any (fun x => x.access == .rwl && x.next o v false != bitsAt o x.lo x.w)

/-- A write of a block's register: the device, and the ground on which the write is recorded. -/
def Dev.writeBlockReg (d : Dev) (f : Nat) (r : RegAt) (v : Word) : Dev × Option Nat :=
  let locked := d.flag (hLock r.pf)
  let o := d.reg r.key
  let v := r.taken v
  let next := r.next o v locked
  let foreign := (r.jobField next).filter (fun x =>
    d.rd (F.ldgJobCfg_part (bitsAt v.toNat x.1 3)) != x.2 && (!locked || r.blk == .col))
  let next := match foreign with
    | some x => setField next x.1 3 (bitsAt o.toNat x.1 3)
    | none => next
  let kind := if foreign.isSome then some 3 else if locked && r.wouldChange o.toNat v.toNat then some 1 else none
  (((d.setReg r.key next).touched d f r), kind)

/-- A 32-bit write at an aligned offset: the device, and the KIND under which the access is recorded (R35). -/
def Dev.writeCore (d : Dev) (f off : Nat) (v : Word) : Dev × Option Nat :=
  match d.msixAt f off with
  | some (.entry n w) => (if w = 3 then d.vectorControl f n v else d.setMsix (mapPut d.msix (f * 65536 + n * 4 + w) v), none)
  | some _ => (d, none)
  | none =>
    match d.pageAt f off with
    | none => (d, some 0)
    | some (p, o) =>
      if o < 0x80 then d.writeHeader p o v
      else
        match d.regAt p o with
        | none => (d, none)
        | some r =>
          if r.blk = .evt ∧ 1 ≤ r.page ∧ r.page ≤ 4 then (d.writeSource f off r.idx v, none)
          else if r.ownRow then (d, none)
          else d.writeBlockReg f r v

/-- The write, and its record where it is rejected. -/
def Dev.writeWord (d : Dev) (f off : Nat) (v : Word) : Dev :=
  match d.writeCore f off v with
  | (d, some k) => d.badAccess f off k
  | (d, none) => d

/-- An access of the widths and alignment that R36 knows. -/
def wellFormedAccess (off size : Nat) : Bool := [1, 2, 4, 8].contains size && off % size == 0

/-- The address is mapped for the function. -/
def Dev.mapped (d : Dev) (f off : Nat) : Bool := (d.pageAt f off).isSome || (d.msixAt f off).isSome

/-- A narrow write: unmapped (KIND 0) or ignored as narrow (KIND 2). -/
def Dev.narrowWrite (d : Dev) (f off : Nat) : Dev := d.badAccess f off (if d.mapped f off then 2 else 0)

/-- REGISTER_WRITE (R36): a write of 4 or 8 bytes takes effect, an 8-byte one as two writes, the lower address first; a narrow or unmapped
one is rejected as under UNMAPPED_ACCESS. -/
def Dev.registerWrite (d : Dev) (f off size : Nat) (v : DWord) : Dev :=
  if size < 4 then d.narrowWrite f off
  else if !d.mapped f off then d.badAccess f off 0
  else
    let d := d.writeWord f off (v.setWidth 32)
    if size = 8 then d.writeWord f (off + 4) ((v >>> 32).setWidth 32) else d

/-- A write of a register page (02_register_pages.md R35, R36, R47). -/
def effectRegisterWrite (f off size : Nat) (v : DWord) (d : Dev) : Dev :=
  d.when (wellFormedAccess off size) fun d => d.registerWrite f off size v

/-- REGISTER_WRITE: its own effect, then what follows at once. -/
def execRegisterWrite (f off size : Nat) (v : DWord) (s : State) : Host.Outcome State Fault Refusal := s.act (effectRegisterWrite f off size v)

/-- UNMAPPED_ACCESS (R35): an access that is rejected: an unmapped read or write, a narrow write, a write to a control that the function does
not own, a locked write. An access that nothing rejects is no such event. -/
def effectUnmappedAccess (f off size : Nat) (isWrite : Bool) (v : DWord) (d : Dev) : Dev :=
  d.when (wellFormedAccess off size) fun d =>
    if !isWrite then d.when (!d.mapped f off) fun d => d.badAccess f off 0
    else if size < 4 ∨ !d.mapped f off then d.registerWrite f off size v
    else
      d.when ((d.writeCore f off (v.setWidth 32)).2.isSome || (decide (size = 8) && (d.writeCore f (off + 4) ((v >>> 32).setWidth 32)).2.isSome))
        fun d => d.registerWrite f off size v

/-- UNMAPPED_ACCESS: its own effect, then what follows at once. -/
def execUnmappedAccess (f off size : Nat) (isWrite : Bool) (v : DWord) (s : State) : Host.Outcome State Fault Refusal := s.act (effectUnmappedAccess f off size isWrite v)

/-- PG_MODE_WRITE (R21, R47, R50): `off` names a page's PG_MODE. -/
def effectPgModeWrite (f off : Nat) (v : Word) (d : Dev) : Dev :=
  d.when (decide (off % 0x1000 = 0x0C)) fun d => d.writeWord f off v

/-- PG_MODE_WRITE: its own effect, then what follows at once. -/
def execPgModeWrite (f off : Nat) (v : Word) (s : State) : Host.Outcome State Fault Refusal := s.act (effectPgModeWrite f off v)

/-- PG_EVENT_CLEAR (R43): the bits written 1 clear, but for those that hardware sets in the same cycle, `hwSet`, with the status of
that set. -/
def Dev.clearEvents (d : Dev) (p : Page) (v : Word) (hwSet status : Nat) : Dev :=
  let bits := (List.range 32).filter (bitOf hwSet)
  let d := d.raiseBits p bits status
  d.setReg (hEvent p).addr (d.reg (hEvent p).addr &&& ~~~(v &&& ~~~(BitVec.ofNat 32 hwSet)))

/-- A write of PG_EVENT, with what hardware sets in the same cycle (02_register_pages.md R43). -/
def effectPgEventClear (f off : Nat) (v : Word) (hwSet status : Nat) (d : Dev) : Dev :=
  d.when (decide (off % 0x1000 = 0x14)) fun d =>
    match d.pageAt f off with
    | none => if (d.msixAt f off).isSome then d else d.badAccess f off 0
    | some (p, _) => d.when (pageCaps p).event fun d => d.clearEvents p v hwSet status

/-- PG_EVENT_CLEAR: its own effect, then what follows at once. -/
def execPgEventClear (f off : Nat) (v : Word) (hwSet status : Nat) (s : State) : Host.Outcome State Fault Refusal := s.act (effectPgEventClear f off v hwSet status)

/-- PG_STAMP_LO_READ (R44): a 4-byte read of PG_STAMP_LO copies PG_STAMP_HI into the function's holding register for the page. -/
def effectPgStampLoRead (f off : Nat) (d : Dev) : Dev :=
  d.when (decide (off % 0x1000 = 0x20)) fun d =>
    match d.pageAt f off with
    | none => if (d.msixAt f off).isSome then d else d.badAccess f off 0
    | some (p, _) =>
      d.when (pageCaps p).event fun d =>
        d.setStampHold (mapPut d.stampHold (f * 2 ^ 32 + p.key) (d.reg (hStampHi p).addr))

/-- PG_STAMP_LO_READ: its own effect, then what follows at once. -/
def execPgStampLoRead (f off : Nat) (s : State) : Host.Outcome State Fault Refusal := s.act (effectPgStampLoRead f off)

end Sys2Proof.Machine
end

