-- ==== Sys2Proof/Machine/Start.lean ====
section
/-! DEFINITION. The start of a command: format check, step check, waits, fences, Street Index entries, and its parts; hang bounds that pass
(03_klotchaex_command_stream.md R58, R66, R69, R71, R75, R81, R83; 10_tiers_and_street_index.md R237). -/

namespace Sys2Proof.Machine

/-! ### What the head command meets (R58) -/

/-- The view of a command that is about to start: a step-scoped one sees the attempt's bindings, any other those of now (16_weights_and_partitions.md
R364). -/
def Dev.startView (d : Dev) (q : Nat) (c : Cmd) : Nat :=
  d.qPart q + 8 * (if cmdStep c then (if d.attemptLive (d.qJob q) then (d.job (d.qJob q)).binds else 0) else d.bindNow (d.qPart q))

/-- What becomes of a head command: it starts; it is rejected, or discarded; or it is held, on a semaphore (0), a step (1), a fence (2) or, for
a collective, on the room of its group's sequence (3). -/
inductive StartWay
  | go
  | reject (status : Nat)
  | discard
  | hold (why : Nat)
  deriving DecidableEq, Repr

/-- The step check (R75); `.go` where it allows the command. -/
def Dev.stepCheck (d : Dev) (j : Nat) (c : Cmd) : StartWay :=
  let op := cmdOpcode c
  if !cmdStep c then .go
  else if op = opSTEP_OPEN then
    (if d.openWaits j ∧ d.jobSt j ≠ jsENDED ∧ d.jobSt j ≠ jsSUPERSEDED then .hold 1 else .go)
  else
    match d.newest j with
    | none => .hold 1
    | some r =>
      match (cmdStepTag c + 4 - r.step % 4) % 4 with
      | 0 =>
        if r.state = stOPEN then (if op = opUPDATE then .hold 1 else .go)
        else if r.state = stSEALED ∨ r.state = stREADY then
          (if op = opUPDATE ∨ op = opSTATS ∨ isLedgerOp op then .go else .reject St.badField)
        else if r.state = stABORTED then .discard else .reject St.badField
      | 1 => .hold 1
      | k =>
        match d.attemptOf j ((r.step + 2 ^ 64 - (4 - k)) % 2 ^ 64) with
        | some y => if y.state = stABORTED then .discard else .reject St.badField
        | none => .reject St.badField

/-- The header wait of a head command is satisfied, now or before (R71). -/
def Dev.waitMet (d : Dev) (q n run : Nat) (c : Cmd) : Bool :=
  let x := d.queue q
  !cmdWaitEn c || x.waited || (x.runs.any (fun r => r.id == run && r.waited.contains n))
    || semReached (d.sem (d.qPart q) (cmdWaitSem c)) (cmdWaitValue c)

/-- Every command on which a fence of a head command waits has completed: FLAGS.FENCE for its queue, a command of its own layer counting once
its parts have ended (R78); FENCE and STEP_SEAL for every queue of the job; a FENCE that has not completed holds its queue (R69). -/
def Dev.fenceMet (d : Dev) (q run : Nat) (c : Cmd) : Bool :=
  let done (e : CmdEx) : Bool := e.run == run && run != 0 && e.fin
  let x := d.queue q
  let all := [opFENCE, opSTEP_SEAL].contains (cmdOpcode c)
  (!cmdFence c || x.exec.all done) && x.exec.all (fun e => cmdOpcode e.cmd != opFENCE || done e)
    && (!all || d.kqp.queues.all (fun y => d.qJob y.1 != d.qJob q || y.2.exec.isEmpty))

/-- What becomes of the head command of a queue, index entries apart; none where nothing of the queue may start. -/
def Dev.startWay (d : Dev) (q : Nat) : Option StartWay :=
  let x := d.queue q
  match x.fetched with
  | [] => none
  | (n, c, run) :: _ =>
    let r := x.runs.find? (fun r => r.id == run)
    let stuck := (r.map (fun r => r.flagged || r.failed)).getD false
    if !d.works 8 (q / 16) ∨ x.disabling ∨ d.qSt q = qsSTOPPED ∨ d.qSt q = qsDISABLED ∨ stuck
        ∨ 32 ≤ (x.exec.filter (fun e => !e.fin)).length then none
    else
      let again := (r.map (fun r => (mapLook r.handles n).isSome)).getD false
      let excess := (r.map (fun r => r.excess.contains n)).getD false
      match if again then none else d.formatStatus q (d.startView q c) c excess with
      | some st => some (.reject st)
      | none =>
        match d.stepCheck (d.qJob q) c with
        | .go =>
          if !d.waitMet q n run c then some (.hold 0)
          else if !d.fenceMet q run c then some (.hold 2)
          else if isColl (cmdOpcode c) && !d.seqRoom c then some (.hold 3)
          else some .go
        | w => some w

/-- A queue of the same processor with a higher priority could start a command. -/
def Dev.outranked (d : Dev) (q : Nat) : Bool :=
  let prio (q : Nat) : Nat := d.rd (F.qCfg_prio (q / 16) (q % 16))
  (range' (q / 16 * 16) 16).any (fun y => decide (prio q < prio y) && d.startWay y == some .go && (d.queue y).indexWait == 0)

/-! ### Starting -/

/-- The wait bits of Q_STATE. -/
def Dev.setWaits (d : Dev) (q : Nat) (sem step fence index : Bool) : Dev :=
  let i := q / 16
  let j := q % 16
  (((d.setFlag (F.qState_waitSem i j) sem).setFlag (F.qState_waitStep i j) step).setFlag (F.qState_waitFence i j) fence).setFlag
    (F.qState_waitIndex i j) index

/-- The head command cannot start: the queue is BLOCKED. -/
def Dev.blockQueue (d : Dev) (q : Nat) : Dev :=
  if d.qSt q = qsBLOCKED then d
  else (d.setQueue q { d.queue q with blockedAt := d.now, alarmed := false }).setQSt q qsBLOCKED

/-- The head command leaves the queue of those that wait to start. -/
def Dev.dropHead (d : Dev) (q : Nat) : Dev :=
  let x := d.queue q
  let d := d.setQueue q { x with fetched := x.fetched.drop 1, waited := false, indexWait := 0, alarmed := false }
  let d := d.setWaits q false false false false
  if d.qSt q = qsBLOCKED then d.setQSt q qsACTIVE else d

/-- A command that never starts: rejected, or discarded by the step check. -/
def Dev.neverStarts (d : Dev) (q n run : Nat) (c : Cmd) (status : Nat) (discarded : Bool) : Dev :=
  let e : CmdEx := { count := n, cmd := c, start := d.now, handle := 0, parts := [], run := run, preset := some status,
                     discarded := discarded, endStamp := d.now }
  let d := d.dropHead q
  let x := d.queue q
  (d.setQueue q { x with exec := x.exec ++ [e] }).cmdEnded q e

/-- Handles for `n` parts under a root; none where an entry cannot be had. -/
def Dev.partHandles (d : Dev) (q root : Nat) : Nat → List Nat → Option (List Nat × Dev)
  | 0, l => some (l, d)
  | n + 1, l =>
    match d.sixAlloc 1 (d.qPart q) (d.qJob q) root 0 q with
    | some (h, d) => d.partHandles q root n (l ++ [h])
    | none => none

/-- The root entry of a command, kept from an earlier execution, and an entry for each part of a split command (R81, R235). -/
def Dev.takeEntries (d : Dev) (q np : Nat) (kept : Option Nat) : Option (Nat × List Nat × Dev) :=
  match (match kept with
    | some h => some (h, d)
    | none => d.sixAlloc 0 (d.qPart q) (d.qJob q) 0 0 q) with
  | none => none
  | some (h, d) =>
    if np = 1 then some (h, [h], d)
    else match d.partHandles q h np [] with
      | some (l, d) => some (h, l, d)
      | none => none

/-- No entry: the command waits at the head of its queue; the first operation to wait raises INDEX_PRESSURE, or in ASSIST mode the full ring its
own event (R237, R238). -/
def Dev.indexHold (d : Dev) (q : Nat) : Dev :=
  let x := d.queue q
  let d := d.setQueue q { x with indexWait := if x.indexWait = 0 then d.now + 1 else x.indexWait }
  let d := (d.setWaits q false false false true).blockQueue q
  let page := pfPage .six 0 0
  if x.indexWait ≠ 0 then d
  else if d.sixSpills then d.raise page 1 St.indexPressure
  else if d.six.pressed then d
  else (d.setSix { d.six with pressed := true }).raise page 0 St.indexPressure

/-- The command starts: its entries are taken, and each part is given its unit and its bound. -/
def Dev.begin (d : Dev) (q n run : Nat) (c : Cmd) : Dev :=
  let v := d.startView q c
  let np := cmdParts c
  let x := d.queue q
  let r := x.runs.find? (fun r => r.id == run)
  match d.takeEntries q np (r.bind (fun r => mapLook r.handles n)) with
  | none => d.indexHold q
  | some (h, hs, d) =>
    let t := (d.cmdRange v c).1
    let from_ := if x.indexWait = 0 then d.now else x.indexWait - 1
    let parts := (hs.zipIdx).map (fun e =>
      ({ utype := t, unit := (d.placeOf v c e.2).getD ((d.cmdRange v c).2.1 + e.2), handle := e.1, start := from_,
         bound := d.partBound q v c e.2 } : Part))
    let binds := if cmdStep c then 0 else d.bindNow (d.qPart q)
    let e : CmdEx := { count := n, cmd := c, start := d.now, handle := h, parts := parts, run := run, again := (r.map (fun r => r.repeats)).getD 0,
                       scratch := d.writesScratch v c, step := cmdStep c, binds := binds }
    let d := (d.addBinds binds).dropHead q
    let y := d.queue q
    let d := d.setQueue q { y with exec := y.exec ++ [e] }
    let d := if isColl (cmdOpcode c) then d.collStart q n c else d
    d.qSettle q

/-- COMMAND_START (R58): the processor checks the head command of a queue; it starts, is rejected, is discarded, or waits. -/
def effectCommandStart (q : Nat) (d : Dev) : Dev :=
  let x := d.queue q
  match x.fetched, d.startWay q with
  | (n, c, run) :: _, some way =>
    let d := if d.waitMet q n run c ∧ cmdWaitEn c ∧ (way = .go ∨ way = .hold 2 ∨ way = .hold 3) then d.setQueue q { x with waited := true } else d
    match way with
    | .go => if d.outranked q then d else d.begin q n run c
    | .reject st => d.neverStarts q n run c st false
    | .discard => d.neverStarts q n run c St.stepAborted true
    | .hold why => (d.setWaits q (why == 0) (why == 1) (why == 2) false).blockQueue q
  | _, _ => d

/-- COMMAND_START: its own effect, then what follows at once. -/
def execCommandStart (q : Nat) (s : State) : Host.Outcome State Fault Refusal := s.act (effectCommandStart q)

/-- The smallest of some bounds, 0 for none. -/
def minNat : List Nat → Nat
  | [] => 0
  | x :: xs => xs.foldl min x

/-! ### Bounds -/

/-- What an object's unit lacks to start its move: Market quota, a run of granules, or HBM quota; the status and whether the Market
refuses it. -/
def Dev.unitLack (d : Dev) (k u : Nat) : Option (Nat × Bool) :=
  match d.obj? k with
  | none => none
  | some o =>
    let x := o.unit u
    if x.t0 ≠ tsABSENT ∨ x.assist ≠ 0 ∨ x.src ≠ 0 then none
    else if !d.quota0 o.owner o.unitGranules then some (St.quotaExceeded, true)
    else if !d.space0 o then some (St.noResource, true)
    else if x.t1 = tsABSENT ∧ (d.ensureT1 k).isNone then some (St.quotaExceeded, false)
    else none

/-- A command that the Acrek units or a receive-side reduction serve waits for T1 space: for a written-back operand, its workspace or its
destination. -/
def Dev.t1Lack (d : Dev) (q i : Nat) : Bool :=
  let c := d.cmdBody q i
  let v := d.viewAt q i
  let key (h : Nat) : Nat := (d.objOf v h).1
  let lacks (k : Nat) : Bool := (d.obj? k).isSome && (d.ensureT1 k).isNone
  let dirty (k : Nat) : Bool := (d.obj? k).any (fun o => (List.range o.unitCount).any (fun u => (o.unit u).dirty0 && (o.unit u).valid0))
  if cmdOpcode c = opSTATS then (dirty (key (updGrad c)) && lacks (key (updGrad c))) || lacks (key (updStatsWs c))
  else if cmdOpcode c = opUPDATE then
    ([updGrad c, updStatsWs c].filter (· != 0)).any (fun h => dirty (key h) && lacks (key h))
  else if isColl (cmdOpcode c) ∧ cmdOpcode c ≠ opRECV then
    d.col.colls.any (fun k => k.q == q && k.i == i && k.acr && !k.begun) && lacks (key (colDst c))
  else false

/-- The allocation that a part still waits for when its bound expires (04_market.md R95, R97; 10_tiers_and_street_index.md R222). -/
def Dev.allocLack (d : Dev) (q i p : Nat) : Option (Nat × Bool) :=
  let mine := d.tir.waits.filter (fun w => w.q == q && w.count == i && w.part == p)
  let c := d.cmdBody q i
  let asked : List (Nat × Nat) :=
    if cmdOpcode c = opMOVE ∨ cmdOpcode c = opPREFETCH ∨ cmdOpcode c = opPIN then
      (match d.resolve (d.viewAt q i) (tierObject c) with
       | some (k, o) => (if cmdOpcode c = opPIN then [0] else tierUnits o c).map (fun u => (k, u))
       | none => [])
    else []
  match (mine.map (fun w => (w.obj, w.unit)) ++ asked).findSome? (fun x => d.unitLack x.1 x.2) with
  | some s => some s
  | none => if d.t1Lack q i then some (St.quotaExceeded, false) else none

/-- BOUND_EXPIRY (R83): a part that still waits for an allocation fails with its status; otherwise the part ends with BOUND_EXCEEDED, its unit takes a D0 reset, HLT PG_EVENT bit 0 is set and, with
ON_BOUND, a dump starts (R406). A command whose bound ends while it waits for index entries fails with no unit reset (R237). -/
def effectBoundExpiry (q i p : Nat) (d : Dev) : Dev :=
  match d.cmdAt q i with
  | some e =>
    match e.parts[p]? with
    | some x =>
      d.when (x.expired d.now) fun d =>
        match d.allocLack q i p with
        | some (st, mkt) =>
          let d := d.endPart q i p st
          if st = St.quotaExceeded then d.raise (if mkt then mktPage else tirPage) (if mkt then 5 else 3) st (d.causeOf q e.cmd) else d
        | none =>
        let u := d.partUnit x
        let ident := (u.bind (fun u => d.resetPage u)).map (fun pg => pg.ident)
        let c := d.causeOf q e.cmd
        let d := d.faultPart q i p St.boundExceeded
        let d := d.raise hltPage 0 St.boundExceeded c
        if d.flag F.hltDumpCtrl_onBound then d.dumpTrigger St.boundExceeded (ident.getD 0) else d
    | none => d
  | none =>
    let x := d.queue q
    match x.fetched with
    | [] => d
    | (n, c, run) :: rest =>
      let v := d.startView q c
      let np := cmdParts c
      let lim := minNat ((List.range np).map (d.partBound q v c))
      d.when (n == i && decide (x.indexWait ≠ 0) && lim != 0 && decide (x.indexWait - 1 + lim ≤ d.now)) fun d =>
        let part : Part := { ended := true, status := St.boundExceeded, endStamp := d.now, start := x.indexWait - 1 }
        let e : CmdEx := { count := n, cmd := c, start := x.indexWait - 1, handle := 0, parts := List.replicate np part, run := run,
                           step := cmdStep c, scratch := false }
        let d := d.setQueue q { x with fetched := rest, exec := x.exec ++ [e], indexWait := 0, waited := false }
        d.cmdEnded q e

/-- BOUND_EXPIRY: its own effect, then what follows at once. -/
def execBoundExpiry (q i p : Nat) (s : State) : Host.Outcome State Fault Refusal := s.act (effectBoundExpiry q i p)

end Sys2Proof.Machine
end

