-- ==== Sys2Proof/Machine/Tbn.lean ====
section
/-! DEFINITION. The transport's commands: packets received and sent, acknowledgements and losses, connections, paths, rates and CTRL
delivery (14_tabnus_transport.md R313 to R327; 15_groups_and_collectives.md R328, R342). -/

namespace Sys2Proof.Machine

/-! ### Receiving -/

/-- An open connection whose version a packet has; any other packet is dropped and counted (R314). -/
def Dev.onConn (d : Dev) (c ver : Nat) (f : Dev → Conn → Dev) : Dev :=
  match d.conn? c with
  | none => d.rxBad
  | some x => if x.isOpen ∧ x.ver = ver then f (d.inc F.tbnRxPkts 1) x else d.rxBad

/-- Where a PSN stands: 0 new, 1 duplicate, 2 outside the window (R317). -/
def Conn.place (x : Conn) (psn : Nat) : Nat :=
  if !serialGe 32 psn x.cum ∨ x.marks.contains psn then 1
  else if (psn + 2 ^ 32 - x.cum) % 2 ^ 32 < 4096 then 0 else 2

/-- Advance the cumulative point past marked PSNs. -/
def advanceCum : Nat → Nat → List Nat → Nat × List Nat
  | 0, c, m => (c, m)
  | k + 1, c, m => if m.contains c then advanceCum k ((c + 1) % 2 ^ 32) (m.filter (· != c)) else (c, m)

/-- A packet counts toward the next ACK (R319). -/
def Conn.toAck (x : Conn) (stamp now : Nat) : Conn :=
  { x with unacked := x.unacked + 1, ackFrom := if x.ackFrom = 0 then now + 1 else x.ackFrom, ackStamp := stamp, lastUse := now }

/-- A PSN has arrived: marked; PSNs below it that are missing are holes from now on. -/
def Conn.take (x : Conn) (psn stamp now : Nat) : Conn :=
  let r := advanceCum (x.marks.length + 1) x.cum (x.marks ++ [psn])
  let between := (List.range ((psn + 2 ^ 32 - x.cum) % 2 ^ 32)).map (fun k => (x.cum + k) % 2 ^ 32)
  let new := between.filter (fun p => !x.marks.contains p && x.holes.all (fun h => h.1 != p))
  let holes := (x.holes.filter (fun h => h.1 != psn && serialGe 32 h.1 r.1)) ++ new.map (fun p => (p, now))
  ({ x with cum := r.1, marks := r.2, holes := holes, crcNacks := mapDel x.crcNacks psn }).toAck stamp now

/-- An ACK goes out: cumulative point, bitmap of 64 PSNs above it, STAMP of the packet that triggered it. -/
def Dev.sendAck (d : Dev) (c : Nat) (stale : Bool) : Dev :=
  match d.conn? c with
  | none => d
  | some x =>
    let bits := sumBy (fun k => if x.marks.contains ((x.cum + 1 + k) % 2 ^ 32) then 2 ^ k else 0) (List.range 64)
    let body := leBytes 4 x.cum ++ leBytes 8 bits ++ leBytes 8 x.ackStamp
    (d.setConn c { x with unacked := 0, ackFrom := 0 }).sendService c ptACK (if stale then 4 else 0) 0 {} body

/-- A CE mark brings a CNP, at most once per CNP_GAP (R326). -/
def Dev.onMark (d : Dev) (c : Nat) (ce : Bool) : Dev :=
  match d.conn? c with
  | none => d
  | some x =>
    if ce ∧ (x.cnpSent = 0 ∨ x.cnpSent - 1 + d.rd F.tbnCcMin_cnpGap * usQ ≤ d.now) then
      ((d.setConn c { x with cnpSent := d.now + 1 }).sendService c ptCNP 0 0 {} []).incSat F.tbnCnpTx 1
    else d

/-- NOT_READY for a packet (R316). -/
def Dev.notReady (d : Dev) (c psn : Nat) : Dev := (d.sendService c ptNOT_READY 0 psn {} []).incSat F.tbnNotReady 1

/-- The epoch that the receiver's own open step has, for a group's job (R327). -/
def Dev.ownEpoch (d : Dev) (g : Nat) : Nat :=
  let j := (d.grp g).job
  if d.attemptLive j then ((d.newest j).map (fun r => r.layoutEpoch)).getD 0 else d.rd (F.colLayout j)

/-- The receive that a packet's MSG_ID, group and rank name. -/
def Dev.findPosted (d : Dev) (g rank msgId : Nat) : Option (Coll × Posted) :=
  let seq := msgId / 4096 % 256
  let seg := msgId % 4096
  if msgId / 2 ^ 20 ≠ g then none
  else
    d.col.colls.findSome? fun k =>
      if k.group = g ∧ k.seq = seq ∧ k.begun ∧ k.status = 0 then
        (k.posted.find? (fun p => p.rank == rank && p.seg == seg && !p.done)).map (fun p => (k, p))
      else none

def Dev.updPosted (d : Dev) (q i rank seg : Nat) (f : Posted → Posted) : Dev :=
  d.updColl q i (fun k => { k with posted := k.posted.map (fun p => if p.rank = rank ∧ p.seg = seg then f p else p) })

/-- Data from a rank restarts every wait for it (03_klotchaex_command_stream.md R84). -/
def Dev.hearRank (d : Dev) (g rank : Nat) : Dev :=
  d.setCol { d.col with colls := d.col.colls.map (fun (k : Coll) =>
    if k.group = g then { k with posted := k.posted.map (fun (p : Posted) => if p.rank = rank then { p with since := d.now } else p) }
    else k) }

/-- Bytes of a packet go to their place, or are added in; a message that is complete frees its entry. -/
def Dev.placeData (d : Dev) (k : Coll) (p : Posted) (off lenM1 : Nat) (bytes : List Byte) : Dev :=
  let c := d.cmdBody k.q k.i
  let d := if p.add then d.addInto k c p.rank p.buf (p.off + off) bytes else d.bufWrite k c p.buf (p.off + off) bytes
  let got := p.got ++ [(off, bytes.length)]
  let done := decide (lenM1 + 1 ≤ sumBy (fun x => x.2) got)
  let d := d.updPosted k.q k.i p.rank p.seg (fun p => { p with got := got, done := done })
  let d := if done ∧ p.handle ≠ 0 then d.sixRelease p.handle St.ok else d
  d.hearRank k.group p.rank

/-- DATA_RECEIVE (R316, R317, R327; R342 for the rank). -/
def effectDataReceive (conn ver psn msgId off epoch step group rank lenM1 stamp : Nat) (ce : Bool) (bytes : List Byte) (d : Dev) : Dev :=
  d.onConn conn ver fun d x =>
    let d := d.onMark conn ce
    match x.place psn with
    | 1 => (d.setConn conn (((d.conn? conn).getD x).toAck stamp d.now)).incSat F.tbnDup 1
    | 2 => d.incSat F.tbnOutWin 1
    | _ =>
      let g := d.grp group
      if !d.grpValid group ∨ nthD g.members rank 0 ≠ x.peer ∨ nthD g.parts rank 0 ≠ x.peerPart ∨ g.size ≤ rank then
        (d.incSat F.colBadRank 1).raise colPage 10 St.ok
      else
        match (if (d.findPosted group rank msgId).isSome ∨ msgId / 2 ^ 20 ≠ group then none else d.chainLoad group rank) with
        | some l =>
          let no := msgId % 2 ^ 20
          if l.accepts no then (d.setConn conn (((d.conn? conn).getD x).take psn stamp d.now)).chainPlace l no off (lenM1 + 1) bytes
          else d.notReady conn psn
        | none =>
        let own := d.ownEpoch group
        let coll := msgId / 4096 % 256 != seqSEND
        let mark (d : Dev) : Dev := d.setConn conn (((d.conn? conn).getD x).take psn stamp d.now)
        if coll ∧ epoch ≠ own ∧ !serialGe 16 epoch own then
          (((mark d).incSat F.tbnStale 1).raise tbnPage 4 St.staleEpoch).sendAck conn true
        else if coll ∧ epoch ≠ own then d.notReady conn psn
        else
          match d.findPosted group rank msgId with
          | none => d.notReady conn psn
          | some (k, p) =>
            if p.len < lenM1 + 1 ∨ lenM1 + 1 < off + bytes.length then (mark d).failColl k.q k.i St.badField rank
            else if p.handle ≠ 0 then
              ((mark d).placeData k p off lenM1 bytes).collAdvance k.q k.i
            else
              let parent := ((d.cmdAt k.q k.i).map (fun e => e.handle)).getD 0
              match d.sixAlloc (if coll then 4 else 3) g.owner g.job parent 0 k.q with
              | none => ((d.incSat F.sixRefused_refused 1).raise (pfPage .six 0 0) 3 St.indexPressure).notReady conn psn
              | some (h, d) =>
                let d := d.updPosted k.q k.i p.rank p.seg (fun p => { p with handle := h })
                ((mark d).placeData k { p with handle := h } off lenM1 bytes).collAdvance k.q k.i

/-- DATA_RECEIVE: its own effect, then what follows at once. -/
def execDataReceive (conn ver psn msgId off epoch step group rank lenM1 stamp : Nat) (ce : Bool) (bytes : List Byte) (s : State) : Host.Outcome State Fault Refusal := s.act (effectDataReceive conn ver psn msgId off epoch step group rank lenM1 stamp ce bytes)

/-! ### Control messages (R318, R328) -/

/-- A ledger message goes to what its type names. -/
def Dev.ledgerCtrl (d : Dev) (b : List Byte) : Dev :=
  if b.length < 64 then d.rxBad
  else
    let m := readLdgMsg (BitVec.ofNat 512 (ofLeBytes (b.take 64)))
    match m.type with
    | 1 => d.takeVote m
    | 2 => d.takeCommit m
    | 3 => d.takeAbort m
    | 4 => d.takeHold m
    | 5 => d.takeQuery m
    | 6 => d.takeAnswer m
    | 7 => d.takeStall m
    | 8 => d.takePark m
    | 9 => d.takeUnpark m
    | _ => d.rxBad

/-- Byte 0 of a CTRL body selects the receiving unit. -/
def Dev.deliver (d : Dev) (src : Nat) (b : List Byte) : Dev :=
  match leAt b 0 1 with
  | 0x10 => d.takeBeacon b
  | 0x20 => d.takeJoin b
  | 0x21 => d.takeRoster b
  | 0x22 => d.takeHb b
  | 0x23 => d.takeLeave b
  | 0x24 => d.takeKeeper b
  | 0x25 => d.takeUnreach b
  | 0x26 => if b.length < 40 then d.rxBad else d.takeRed src (BitVec.ofNat 512 (ofLeBytes (b.take 40)))
  | 0x27 => d.takeWakeDone b
  | 0x28 => d.takeQuoteReq b
  | 0x29 => d.takeQuote b
  | t => if 1 ≤ t ∧ t ≤ 0xF then d.ledgerCtrl b else d.rxBad

/-- Order of CTRL messages: STAMP, then sender device id, then MSG_ID. -/
def ctrlLt (a b : Nat × Nat × Nat) : Bool :=
  decide (a.1 < b.1) || (a.1 == b.1 && (decide (a.2.1 < b.2.1) || (a.2.1 == b.2.1 && decide (a.2.2 < b.2.2))))

def HeldCtrl.key (h : HeldCtrl) : Nat × Nat × Nat := (h.stamp, h.device, h.msgId)

/-- Insert a message into the list held in order. -/
def holdCtrl (h : HeldCtrl) : List HeldCtrl → List HeldCtrl
  | [] => [h]
  | x :: xs => if ctrlLt h.key x.key then h :: x :: xs else x :: holdCtrl h xs

/-- CTRL_RECEIVE (R318): held until its stamp plus CTRL_HOLD; one that comes after a later one was delivered is delivered at once
and counted. The hold is the one in force at its arrival (log entry 46). -/
def effectCtrlReceive (conn ver psn msgId stamp : Nat) (ce : Bool) (body : List Byte) (d : Dev) : Dev :=
  d.onConn conn ver fun d x =>
    let d := d.onMark conn ce
    match x.place psn with
    | 1 => (d.setConn conn (((d.conn? conn).getD x).toAck stamp d.now)).incSat F.tbnDup 1
    | 2 => d.incSat F.tbnOutWin 1
    | _ =>
      let d := d.setConn conn (((d.conn? conn).getD x).take psn stamp d.now)
      let h : HeldCtrl := { stamp := stamp, device := x.peer, msgId := msgId, due := stamp + d.rd F.tbnTimer_ctrlHold * usQ, body := body }
      match d.tbn.last with
      | some l =>
        if ctrlLt h.key l then ((d.incSat F.tbnLateCtrl 1).raise tbnPage 7 St.ok).deliver x.peer body
        else d.setTbn { d.tbn with held := holdCtrl h d.tbn.held }
      | none => d.setTbn { d.tbn with held := holdCtrl h d.tbn.held }

/-- CTRL_RECEIVE: its own effect, then what follows at once. -/
def execCtrlReceive (conn ver psn msgId stamp : Nat) (ce : Bool) (body : List Byte) (s : State) : Host.Outcome State Fault Refusal := s.act (effectCtrlReceive conn ver psn msgId stamp ce body)

/-- CTRL_DELIVER (R318): the local stamp has reached the first held message's STAMP plus CTRL_HOLD. -/
def effectCtrlDeliver (d : Dev) : Dev :=
  match d.tbn.held with
  | [] => d
  | h :: rest =>
    d.when (decide (h.due ≤ d.now)) fun d =>
      (d.setTbn { d.tbn with held := rest, last := some h.key }).deliver h.device h.body

/-- CTRL_DELIVER: its own effect, then what follows at once. -/
def execCtrlDeliver (s : State) : Host.Outcome State Fault Refusal := s.act (effectCtrlDeliver)

/-! ### Acknowledgements and losses (R319 to R322, R325) -/

/-- A PSN is covered by an ACK. -/
def ackCovers (cum bitmap psn : Nat) : Bool :=
  (serialGe 32 cum psn && psn != cum)
    || (let k := (psn + 2 ^ 32 - (cum + 1) % 2 ^ 32) % 2 ^ 32; decide (k < 64) && bitOf bitmap k)

/-- Messages whose last packet has been acknowledged are over. -/
def Dev.sentOver (d : Dev) (c : Nat) : Dev :=
  match d.conn? c with
  | none => d
  | some x =>
    let gone := x.msgs.filter (fun m => m.rest.isEmpty && x.pkts.all (fun k => k.msg != m.no))
    let d := d.setConn c { x with msgs := x.msgs.filter (fun m => gone.all (fun o => o.no != m.no)) }
    gone.foldl (fun d m => d.msgOver m St.ok) d

/-- ACK_RECEIVE (R320 to R322, R327). -/
def effectAckReceive (conn ver cum bitmap stamp : Nat) (stale : Bool) (d : Dev) : Dev :=
  d.onConn conn ver fun d x =>
    let acked := x.pkts.filter (fun k => ackCovers cum bitmap k.psn)
    d.when (!acked.isEmpty) fun d =>
      let rest := x.pkts.filter (fun k => !ackCovers cum bitmap k.psn)
      let d := d.setConn conn { x with pkts := rest, rto := d.rd F.tbnTimer_rtoMin * usQ, rtoFrom := d.now, lastUse := d.now }
      let d := acked.foldl (fun d k =>
        let st := d.pathSt x.peer k.path
        if st.excluded then d else d.setPath x.peer k.path { st with losses := 0 }) d
      let d := if stale then
          ((acked.filter (fun k => k.stamp == stamp && !k.head.ctrl)).filterMap
            (fun k => x.msgs.find? (fun m => m.no == k.msg))).foldl (fun d m => d.failMsg conn m.no St.staleEpoch) d
        else d
      ((d.sentOver conn).pump conn).collAll

/-- ACK_RECEIVE: its own effect, then what follows at once. -/
def execAckReceive (conn ver cum bitmap stamp : Nat) (stale : Bool) (s : State) : Host.Outcome State Fault Refusal := s.act (effectAckReceive conn ver cum bitmap stamp stale)

/-- NACK_RECEIVE (R320, R325): the named packets are LOST and go out again; UNVERIFIED ones are counted, and the eighth fails the
message. -/
def effectNackReceive (conn ver : Nat) (psns : List Nat) (unverified : Bool) (d : Dev) : Dev :=
    d.onConn conn ver fun d _ =>
      let d := (psns.take 16).foldl (fun d psn =>
        match d.conn? conn with
        | none => d
        | some x =>
          match x.pkts.find? (fun k => k.psn == psn && !k.lost) with
          | none => d
          | some k =>
            if unverified then
              let n := k.unverified + 1
              let d := d.setConn conn { x with pkts := x.pkts.map (fun (y : TxPkt) => if y.psn = psn then { y with unverified := n } else y) }
              if 8 ≤ n then (d.failMsg conn k.msg St.crcExhausted).raise tbnPage 3 St.crcExhausted else d.losePkt conn psn
            else d.losePkt conn psn) d
      d.pump conn

/-- NACK_RECEIVE: its own effect, then what follows at once. -/
def execNackReceive (conn ver : Nat) (psns : List Nat) (unverified : Bool) (s : State) : Host.Outcome State Fault Refusal := s.act (effectNackReceive conn ver psns unverified)

/-- NOT_READY_RECEIVE (R316): the packet waits for the timer, and its loss will not count toward its path. -/
def effectNotReadyReceive (conn ver psn : Nat) (d : Dev) : Dev :=
  d.onConn conn ver fun d x =>
    d.setConn conn { x with pkts := x.pkts.map (fun (k : TxPkt) => if k.psn = psn then { k with noCount := true } else k) }

/-- NOT_READY_RECEIVE: its own effect, then what follows at once. -/
def execNotReadyReceive (conn ver psn : Nat) (s : State) : Host.Outcome State Fault Refusal := s.act (effectNotReadyReceive conn ver psn)

/-- RETRANSMIT_TIMEOUT (R321): the oldest SENT packet is LOST and the timer doubles, up to RTO_MAX. -/
def effectRetransmitTimeout (conn : Nat) (d : Dev) : Dev :=
  match d.conn? conn with
  | none => d
  | some x =>
    match x.pkts.find? (fun k => !k.lost) with
    | none => d
    | some k =>
      d.when (decide (x.rtoFrom + x.rto ≤ d.now)) fun d =>
        let d := d.setConn conn { x with rto := min (2 * x.rto) (d.rd F.tbnTimer_rtoMax * 100 * usQ), rtoFrom := d.now }
        (d.losePkt conn k.psn).pump conn

/-- RETRANSMIT_TIMEOUT: its own effect, then what follows at once. -/
def execRetransmitTimeout (conn : Nat) (s : State) : Host.Outcome State Fault Refusal := s.act (effectRetransmitTimeout conn)

/-- ACK_SEND (R319): 16 packets, or 4 µs since the first that is not acknowledged. -/
def effectAckSend (conn : Nat) (d : Dev) : Dev :=
  match d.conn? conn with
  | none => d
  | some x =>
    d.when (decide (16 ≤ x.unacked) || (decide (x.ackFrom ≠ 0) && decide (x.ackFrom - 1 + 4 * usQ ≤ d.now))) fun d =>
      d.sendAck conn false

/-- ACK_SEND: its own effect, then what follows at once. -/
def execAckSend (conn : Nat) (s : State) : Host.Outcome State Fault Refusal := s.act (effectAckSend conn)

/-- NACK_SEND (R319): PSNs missing for NACK_HOLD, up to 16 in one NACK; a named PSN waits NACK_HOLD again (log entry 47). -/
def effectNackSend (conn : Nat) (d : Dev) : Dev :=
  match d.conn? conn with
  | none => d
  | some x =>
    let due := ((x.holes.filter (fun h => decide (h.2 + d.rd F.tbnTimer_nackHold * usQ ≤ d.now))).map (fun h => h.1)).take 16
    d.when (!due.isEmpty) fun d =>
      let d := d.setConn conn { x with holes := x.holes.map (fun h => if due.contains h.1 then (h.1, d.now) else h) }
      d.sendService conn ptNACK 0 0 {} (leBytes 4 due.length ++ due.flatMap (leBytes 4))

/-- NACK_SEND: its own effect, then what follows at once. -/
def execNackSend (conn : Nat) (s : State) : Host.Outcome State Fault Refusal := s.act (effectNackSend conn)

/-- PACKET_CRC_FAIL (R325): dropped and counted; a packet that a connection may be waiting for is NACKed as UNVERIFIED, and the
eighth time its message fails. `group`, `rank` and `msgId` are what the corrupt header says. -/
def effectPacketCrcFail (conn psn group rank msgId : Nat) (d : Dev) : Dev :=
  let d := d.incSat F.tbnCrcFail 1
  match d.conn? conn with
  | none => d
  | some x =>
    d.when (x.isOpen && x.place psn == 0) fun d =>
      let n := mapGet 0 x.crcNacks psn + 1
      let d := d.setConn conn { x with crcNacks := mapPut x.crcNacks psn n }
      let d := d.sendService conn ptNACK 2 0 {} (leBytes 4 1 ++ leBytes 4 psn)
      if 8 ≤ n then
        match d.findPosted group rank msgId with
        | some (k, _) => (d.failColl k.q k.i St.crcExhausted rank).raise tbnPage 3 St.crcExhausted
        | none => d.raise tbnPage 3 St.crcExhausted
      else d

/-- PACKET_CRC_FAIL: its own effect, then what follows at once. -/
def execPacketCrcFail (conn psn group rank msgId : Nat) (s : State) : Host.Outcome State Fault Refusal := s.act (effectPacketCrcFail conn psn group rank msgId)

/-! ### Rates (R326) -/

/-- CNP_RECEIVE: R falls by the factor 1 − 2^−b, at most once per DEC_GAP, not below RMIN; A returns to AI_STEP. -/
def effectCnpReceive (conn ver : Nat) (d : Dev) : Dev :=
  d.onConn conn ver fun d x =>
    let d := d.incSat F.tbnCnpRx 1
    d.when (d.flag F.tbnCc_en) fun d =>
      let b := 2 ^ d.rd F.tbnCc_betaShift
      let r := if x.decAt = 0 ∨ x.decAt - 1 + d.rd F.tbnCc_decGap * usQ ≤ d.now then
          { x with rate := max (x.rate * (b - 1) / b) (d.rd F.tbnCcMin_rmin * 1000000), decAt := d.now + 1 }
        else x
      d.setConn conn { r with step := d.rd F.tbnCc_aiStep * 1000000, quiet := 0, quietFrom := d.now }

/-- CNP_RECEIVE: its own effect, then what follows at once. -/
def execCnpReceive (conn ver : Nat) (s : State) : Host.Outcome State Fault Refusal := s.act (effectCnpReceive conn ver)

/-- RATE_INCREASE: an INC_PERIOD without a CNP raises R by A; after FAST_N such periods A doubles at each further one. -/
def effectRateIncrease (conn : Nat) (d : Dev) : Dev :=
  match d.conn? conn with
  | none => d
  | some x =>
    d.when (x.isOpen && d.flag F.tbnCc_en && decide (x.quietFrom + d.rd F.tbnCc_incPeriod * usQ ≤ d.now)) fun d =>
      let a := if d.rd F.tbnCc_fastN ≤ x.quiet then 2 * x.step else x.step
      d.setConn conn { x with rate := min (x.rate + a) (d.fullRate x.peer), step := a, quiet := x.quiet + 1, quietFrom := d.now }

/-- RATE_INCREASE: its own effect, then what follows at once. -/
def execRateIncrease (conn : Nat) (s : State) : Host.Outcome State Fault Refusal := s.act (effectRateIncrease conn)

/-! ### Connections (R313, R314) -/

/-- A connection opens with the other end's id, version and payload; its port reaches the peer, and messages that wait go out. -/
def Dev.openWith (d : Dev) (c port remote ver payload : Nat) : Dev :=
  match d.conn? c with
  | none => d
  | some x =>
    let p := d.peer x.peer
    let d := d.setPeer x.peer { p with ports := if p.ports.contains port then p.ports else p.ports ++ [port] }
    let was := x.isOpen
    let x := { x with remote := remote, isOpen := true, ver := ver, payload := payload, lastUse := d.now }
    let x := if was then x else { x with rate := d.fullRate x.peer, step := d.rd F.tbnCc_aiStep * 1000000, quietFrom := d.now }
    (d.setConn c x).pump c

/-- The version two ends agree on, if any. -/
def Dev.agreedVersion (d : Dev) (vmin vmax : Nat) : Option Nat :=
  let v := min vmax (d.rd F.tbnCfg_versionMax)
  if max vmin 1 ≤ v then some v else none

/-- HELLO_RECEIVE: answered with HELLO_ACK, or with CLOSE where versions do not agree or no connection is left. The HELLO names no
partition of the receiver; the connection is to the partition of the sender's number (log entry 38). -/
def effectHelloReceive (port : Nat) (body : Cmd) (d : Dev) : Dev :=
  let dev := cmdBits body 0 0 64
  let part := cmdBits body 10 0 8
  let src := cmdBits body 16 0 24
  let p := d.peer dev
  let d := d.setPeer dev { p with epoch := cmdBits body 20 0 32, ports := if p.ports.contains port then p.ports else p.ports ++ [port] }
  match d.agreedVersion (cmdBits body 8 0 8) (cmdBits body 9 0 8) with
  | none => (d.sendByPort dev port ptCLOSE src []).raise tbnPage 6 St.ok
  | some v =>
    let payload := payloadOf (cmdBits body 12 0 16) d.maxPayload
    let known := (d.tbn.conns.find? (fun e => e.2.peer == dev && e.2.peerPart == part && (!e.2.isOpen || e.2.remote == src))).map (fun e => e.1)
    match known with
    | some c => (d.openWith c port src v payload).sendByPort dev port ptHELLO_ACK src (d.helloBody c (((d.conn? c).map (fun x => x.part)).getD 0))
    | none =>
      match d.connRoom with
      | none => d.sendByPort dev port ptCLOSE src []
      | some d =>
        let r := d.newConn { peer := dev, part := part, peerPart := part }
        (r.2.openWith r.1 port src v payload).sendByPort dev port ptHELLO_ACK src (r.2.helloBody r.1 part)

/-- HELLO_RECEIVE: its own effect, then what follows at once. -/
def execHelloReceive (port : Nat) (body : Cmd) (s : State) : Host.Outcome State Fault Refusal := s.act (effectHelloReceive port body)

/-- HELLO_ACK_RECEIVE: the connection opens. -/
def effectHelloAckReceive (port conn : Nat) (body : Cmd) (d : Dev) : Dev :=
  match d.conn? conn with
  | none => d.rxBad
  | some x =>
    if x.peer ≠ cmdBits body 0 0 64 then d.rxBad
    else
      match d.agreedVersion (cmdBits body 8 0 8) (cmdBits body 9 0 8) with
      | none => d.raise tbnPage 6 St.ok
      | some v => d.openWith conn port (cmdBits body 16 0 24) v (payloadOf (cmdBits body 12 0 16) d.maxPayload)

/-- HELLO_ACK_RECEIVE: its own effect, then what follows at once. -/
def execHelloAckReceive (port conn : Nat) (body : Cmd) (s : State) : Host.Outcome State Fault Refusal := s.act (effectHelloAckReceive port conn body)

/-- HELLO_RESEND: 1 ms has passed without an answer. -/
def effectHelloResend (conn : Nat) (d : Dev) : Dev :=
  match d.conn? conn with
  | none => d
  | some x => d.when (!x.isOpen && decide (x.helloAt + msQ ≤ d.now)) fun d => d.sendHello conn

/-- HELLO_RESEND: its own effect, then what follows at once. -/
def execHelloResend (conn : Nat) (s : State) : Host.Outcome State Fault Refusal := s.act (effectHelloResend conn)

/-- Messages that waited for a connection are put on one as far as there is room. -/
def Dev.postWaiting (d : Dev) : Dev :=
  let ws := d.tbn.waiting
  let d := d.setTbn { d.tbn with waiting := [] }
  ws.foldl (fun d w => d.post w.1 w.2.2.1 w.2.1 w.2.2.2) d

/-- CLOSE_RECEIVE: an opening is refused, and its HELLO goes out again after 1 ms; an open connection with nothing in flight closes
(log entry 48). -/
def effectCloseReceive (conn : Nat) (d : Dev) : Dev :=
  match d.conn? conn with
  | none => d
  | some x =>
    if !x.isOpen then d.setConn conn { x with helloAt := d.now }
    else if x.pkts.isEmpty ∧ x.msgs.isEmpty then (d.dropConn conn).postWaiting
    else d

/-- CLOSE_RECEIVE: its own effect, then what follows at once. -/
def execCloseReceive (conn : Nat) (s : State) : Host.Outcome State Fault Refusal := s.act (effectCloseReceive conn)

/-- CONN_IDLE_CLOSE: no message in flight for TBN_CONN_IDLE. -/
def effectConnIdleClose (conn : Nat) (d : Dev) : Dev :=
  match d.conn? conn with
  | none => d
  | some x =>
    d.when (x.isOpen && x.pkts.isEmpty && x.msgs.isEmpty && decide (x.lastUse + d.rd F.tbnConnIdle_idle * secQ ≤ d.now)) fun d =>
      (d.closeConn conn).postWaiting

/-- CONN_IDLE_CLOSE: its own effect, then what follows at once. -/
def execConnIdleClose (conn : Nat) (s : State) : Host.Outcome State Fault Refusal := s.act (effectConnIdleClose conn)

/-! ### Paths (R322 to R324) -/

/-- PROBE_SEND: every 1 ms an EXCLUDED path is probed. -/
def effectProbeSend (peer path : Nat) (d : Dev) : Dev :=
  let x := d.pathSt peer path
  d.when (x.excluded && decide (x.probeAt + msQ ≤ d.now)) fun d =>
    let d := d.setPath peer path { x with probeAt := d.now }
    d.sendPacket peer path 5 ptPROBE (tbnHeader 1 ptPROBE 0 0 path 0 d.now 0 { len := 1 }) []

/-- PROBE_SEND: its own effect, then what follows at once. -/
def execProbeSend (peer path : Nat) (s : State) : Host.Outcome State Fault Refusal := s.act (effectProbeSend peer path)

/-- PROBE_RECEIVE: on an EXCLUDED path it is the answer that makes the path ACTIVE; on any other it is the peer's own probe and is
answered with one, and the port reaches the peer (log entry 49). -/
def effectProbeReceive (peer path : Nat) (d : Dev) : Dev :=
  let port := d.pathPort path
  let p := d.peer peer
  let d := d.setPeer peer { p with ports := if p.ports.contains port then p.ports else p.ports ++ [port] }
  if (d.pathSt peer path).excluded then
    let d := d.setPath peer path {}
    let d := d.setPeer peer { d.peer peer with gone := 0 }
    (d.raise tbnPage 1 St.ok).pumpAll
  else d.sendPacket peer path 5 ptPROBE (tbnHeader 1 ptPROBE 0 0 path 0 d.now 0 { len := 1 }) []

/-- PROBE_RECEIVE: its own effect, then what follows at once. -/
def execProbeReceive (peer path : Nat) (s : State) : Host.Outcome State Fault Refusal := s.act (effectProbeReceive peer path)

/-- PEER_UNREACHABLE (R323): the bound has passed since the last path was EXCLUDED. -/
def effectPeerUnreachable (peer : Nat) (d : Dev) : Dev :=
  let p := d.peer peer
  d.when (decide (p.gone ≠ 0) && decide (p.gone - 1 + d.timeout tbnPage (50 * msQ) ≤ d.now)) fun d =>
    let d := (d.losePeer peer St.peerUnreachable).raise tbnPage 2 St.peerUnreachable
    (d.reportUnreach peer).postWaiting

/-- PEER_UNREACHABLE: its own effect, then what follows at once. -/
def execPeerUnreachable (peer : Nat) (s : State) : Host.Outcome State Fault Refusal := s.act (effectPeerUnreachable peer)

/-- TBN_ASSIST_DOORBELL (R324): paths on the named ports become ACTIVE and the bound restarts; a mask of 0 fails every message to
the peer. -/
def effectTbnAssistDoorbell (f h : Nat) (d : Dev) : Dev :=
  match d.tbn.peers.find? (fun e => e.2.assist == h && h != 0) with
  | none => d.badDoorbell f tbnPage
  | some (peer, x) =>
    let mask := d.rd F.tbnAssistPaths
    let d := ((d.setPeer peer { x with assist := 0 }).sixRelease h St.ok).showTbnAssist
    if mask = 0 then
      let cs := (d.tbn.conns.filter (fun e => e.2.peer == peer)).map (fun e => (e.1, e.2.msgs))
      cs.foldl (fun d c => c.2.foldl (fun d m => d.failMsg c.1 m.no St.pathFailed) d) d
    else
      let x := d.peer peer
      let paths := x.paths.map (fun e => if bitOf mask (d.pathPort e.1) then (e.1, ({} : PathSt)) else e)
      (d.setPeer peer { x with paths := paths, gone := d.now + 1 }).pumpAll

/-- TBN_ASSIST_DOORBELL: its own effect, then what follows at once. -/
def execTbnAssistDoorbell (f h : Nat) (s : State) : Host.Outcome State Fault Refusal := s.act (effectTbnAssistDoorbell f h)

end Sys2Proof.Machine
end

