-- ==== Sys2Proof/Machine/Vector.lean ====
section
/-! DEFINITION. VX, elementwise chains, and SF, special functions (09_arcade_engines.md R190 to R194). -/

namespace Sys2Proof.Machine

/-! ### VX -/

/-- An op on floating-point lanes (table VXE operations). -/
def vxFp (lane opc imm : Nat) (a b c : FVal) : FVal :=
  let r := laneRnd lane
  let truth (x : Bool) : FVal := if x then .one else .zero
  match opc with
  | 0x01 => r (a.add b)
  | 0x02 => r (a.sub b)
  | 0x03 => r (a.mul b)
  | 0x04 => r ((a.mul b).add c)
  | 0x05 => a.min b
  | 0x06 => a.max b
  | 0x07 => a.abs
  | 0x08 => a.neg
  | 0x09 => truth (a.lt b)
  | 0x0A => truth (a.eqv b)
  | 0x0B => if c.isZero then b else a
  | 0x0C => (a.max b).min c
  | 0x12 => decodeElem (imm % 32) (encodeElem (imm % 32) .near a).1
  | _ => a

/-- An op on integer lanes, wrapping. -/
def vxInt (lane opc : Nat) (a b c : FVal) : FVal :=
  let w := laneBits lane
  let x := a.toInt
  let y := b.toInt
  let u := unsignedOf w x
  let v := unsignedOf w y
  let r := laneWrap lane
  match opc with
  | 0x01 => r (x + y)
  | 0x02 => r (x - y)
  | 0x03 => r (x * y)
  | 0x05 => r (min x y)
  | 0x06 => r (max x y)
  | 0x07 => r (Int.ofNat x.natAbs)
  | 0x08 => r (-x)
  | 0x09 => r (if x < y then 1 else 0)
  | 0x0A => r (if x = y then 1 else 0)
  | 0x0B => r (if c.toInt = 0 then y else x)
  | 0x0C => r (min (max x y) c.toInt)
  | 0x0D => r (Int.ofNat (u &&& v))
  | 0x0E => r (Int.ofNat (u ||| v))
  | 0x0F => r (Int.ofNat (u ^^^ v))
  | 0x10 => r (Int.ofNat (u * 2 ^ (v % w)))
  | 0x11 => r (x / Int.ofNat (2 ^ (v % w)))
  | _ => r x

/-- IMM in a lane mode: an FP32 value, or an INT32 one. -/
def vxImm (lane imm : Nat) : FVal := if lane ≤ 1 then fp32.decode imm else laneWrap lane (signedOf 32 imm)

/-- One op of a chain on the registers and outputs, by destination code. -/
def chainStep (x lane k : Nat) (ins : Nat → FVal) (regs : List (Nat × FVal)) : List (Nat × FVal) :=
  let src (s : Nat) : FVal := if s < 8 then mapGet .zero regs s else if s < 12 then ins (s - 8) else vxImm lane (chImm x k)
  let f := if lane ≤ 1 then vxFp lane (chOpc x k) (chImm x k) else vxInt lane (chOpc x k)
  mapPut regs (chDst x k) (f (src (chA x k)) (src (chB x k)) (src (chC x k)))

/-- A chain applied to one element: the values of OUT0 and OUT1 under codes 8 and 9. -/
def chainRun (x : Nat) (ins : Nat → FVal) : List (Nat × FVal) :=
  (List.range (chOps x)).foldl (fun regs k => chainStep x (chLane x) k ins regs) []

/-- The element of input `k` that element `e` of the command reads. -/
def chIndex (x k e : Nat) : Nat :=
  match chShape x k with
  | 0 => e
  | 1 => e / max (chRowlen x) 1
  | 2 => e % max (chRowlen x) 1
  | _ => 0

/-- A rejected chain (R190): BAD_FIELD, DESC_BAD. -/
def Dev.chainRejected (d : Dev) (x : PartId) : Dev := (d.engRaise x 3 St.badField).failPart x.q x.i x.p St.badField

/-- Output `k` of a part over elements `lo` to `lo + n − 1`. -/
def Dev.vxOutput (d : Dev) (x : PartId) (y : Nat) (c : Cmd) (k lo : Nat) (vals : List (List (Nat × FVal))) (s : EngSt) : EngSt :=
  if !(chOutputs y).contains k then s
  else
    let e := d.tensOf x (vxOut c k) (chTens y (vxE c) (4 + k))
    s.put e.1 e.2 0 (vals.zipIdx.map (fun v => (lo + v.2, mapGet .zero v.1 (8 + k))))

/-- VX. -/
def Dev.runVx (d : Dev) (x : PartId) : Dev :=
  d.onUnit x opVX fun d c v =>
    d.withWord x (vxChain c) 256 (fun d => d.chainRejected x) fun d y =>
      let l := vxOpnds y c
      if d.chainBad v y c then d.chainRejected x
      else if d.chainExtentBad v y c then d.failPart x.q x.i x.p St.badField
      else d.gate x l fun d =>
        let lane := chLane y
        if (chInputs y).any (fun k => !laneAccepts lane (d.actual x (vxIn c k) (chFmt y k))) then d.unfit x
        else
          let ins := (chInputs y).map (fun k => (k, d.tensOf x (vxIn c k) (chTens y (vxE c) k)))
          let r := arcadePart c x.p
          let vals := (range' r.1 r.2).map (fun e => chainRun y (fun k =>
            match mapLook ins k with
            | some o => toLane lane (d.elem o.1 o.2 0 (chIndex y k e))
            | none => .zero))
          let s0 := d.vxOutput x y c 0 r.1 vals { mem := d.t0 }
          let s := d.vxOutput x y c 1 r.1 vals s0
          let top := vals.foldl (fun a e => let z := mapGet FVal.zero e 8; if z.isFinite then a.max z.abs else a) FVal.zero
          let s := if chStats y then
              { s with mem := putCounts s.mem (d.partObj x (chStatsH y)).2 (chSlot y) [s0.outs, s0.sat, s0.nf, s0.ftz, s0.sub, 0, 0] }
            else s
          let d := d.engDone x s l ((d.partObj x (vxOut c 0)).2.format (chFmt y 4)) r.2
          if chStats y then d.raiseAmax (d.qJob x.q) (chSlot y) top else d

/-- VX (R190 to R192). -/
def effectVx (q i p : Nat) (d : Dev) : Dev := d.runVx ⟨q, i, p⟩

/-- VX: its own effect, then what follows at once. -/
def execVx (q i p : Nat) (s : State) : Host.Outcome State Fault Refusal := s.act (effectVx q i p)

/-! ### SF -/

/-- The special results of a function that the table marks (table SFE functions); none where the rule gives only an error bound. -/
def sfSpecial (lane fn : Nat) (z : FVal) : Option FVal :=
  let below := z.lt .zero
  match fn with
  | 0 => if (fp32.decode 0x42B17217).lt z ∧ lane = 0 ∨ (fp64.decode 0x40862E42FEFA39EF).lt z then some (.inf false) else none
  | 1 => if (FVal.ofNat (if lane = 1 then 1024 else 128)).le z then some (.inf false) else none
  | 2 | 3 => if z.isZero then some (.inf true) else if below then some .nan else none
  | 4 => if z = .fin false 0 0 ∨ (z.isZero ∧ !z.signed) then some (.inf false) else if below then some .nan else none
  | 5 => if below then some .nan else none
  | 6 => if z.isZero then some (.inf z.signed) else none
  | 7 | 8 => match z with
    | .inf _ => some .nan
    | _ => none
  | 10 =>
    let lim := FVal.ofNat (if lane = 1 then 27 else 6)
    if lim.lt z then some .one else if z.lt lim.neg then some FVal.one.neg else none
  | _ => none

/-- POST × f(z), rounded to the lane. -/
def sfVal (lane fn : Nat) (post z : FVal) : FVal :=
  match sfSpecial lane fn z with
  | some r => laneRnd lane (post.mul r)
  | none => laneRnd lane (Config.funcUnit 1 (fn + 32 * lane) [post, z])

/-- SF. -/
def Dev.runSf (d : Dev) (x : PartId) : Dev :=
  d.onUnit x opSF fun d c _ =>
    let l := sfOpnds c
    d.gate x l fun d =>
      let lane := sfLane c
      if !laneAccepts lane (d.actual x (sfIn c) (sfInFmt c)) then d.unfit x
      else
        let i := d.tensOf x (sfIn c) (sfInT c)
        let r := arcadePart c x.p
        let zs := (range' r.1 r.2).map (fun e => (e,
          laneRnd lane (((fp32.decode (sfPre c)).mul (toLane lane (d.elem i.1 i.2 0 e))).add (fp32.decode (sfOffset c)))))
        let post := fp32.decode (sfPost c)
        let out (h fn : Nat) (s : EngSt) : EngSt :=
          let o := d.tensOf x h (sfOutT c)
          s.put o.1 o.2 0 (zs.map (fun y => (y.1, sfVal lane fn post y.2)))
        let s := if sfFn c = 9 then out (sfOut2 c) 8 (out (sfOut c) 7 { mem := d.t0 }) else out (sfOut c) (sfFn c) { mem := d.t0 }
        d.engDone x s l ((d.partObj x (sfOut c)).2.format (sfOutFmt c)) r.2

/-- SF (R193, R194). -/
def effectSf (q i p : Nat) (d : Dev) : Dev := d.runSf ⟨q, i, p⟩

/-- SF: its own effect, then what follows at once. -/
def execSf (q i p : Nat) (s : State) : Host.Outcome State Fault Refusal := s.act (effectSf q i p)

end Sys2Proof.Machine
end

