-- ==== Sys2Proof/Machine/Dispatch.lean ====
section
/-! DEFINITION. The commands' meanings, one arm per constructor; an arm that is rejected by name is not modelled yet. -/

namespace Sys2Proof.Machine

def exec (i : Instr) (s : State) : Host.Outcome State Fault Refusal :=
  match i with
  | .registerWrite f off size v => Sys2Proof.Machine.execRegisterWrite f off size v s
  | .unmappedAccess f off size isWrite v => Sys2Proof.Machine.execUnmappedAccess f off size isWrite v s
  | .pgModeWrite f off v => Sys2Proof.Machine.execPgModeWrite f off v s
  | .pgEventClear f off v hwSet status => Sys2Proof.Machine.execPgEventClear f off v hwSet status s
  | .pgStampLoRead f off => Sys2Proof.Machine.execPgStampLoRead f off s
  | .d0Request f off => Sys2Proof.Machine.execD0Request f off s
  | .d1Request f off => Sys2Proof.Machine.execD1Request f off s
  | .d2Request f off => Sys2Proof.Machine.execD2Request f off s
  | .resetComplete dom unit pass => Sys2Proof.Machine.execResetComplete dom unit pass s
  | .resetEscalation dom unit => Sys2Proof.Machine.execResetEscalation dom unit s
  | .doorbellWrite f n t => Sys2Proof.Machine.execDoorbellWrite f n t s
  | .commandFetch q cmds => Sys2Proof.Machine.execCommandFetch q cmds s
  | .commandStart q => Sys2Proof.Machine.execCommandStart q s
  | .partEnd q ix p fault => Sys2Proof.Machine.execPartEnd q ix p fault s
  | .layerDrain q run => Sys2Proof.Machine.execLayerDrain q run s
  | .layerRepeat q run => Sys2Proof.Machine.execLayerRepeat q run s
  | .boundExpiry q ix p => Sys2Proof.Machine.execBoundExpiry q ix p s
  | .queueBlockedAlarm q => Sys2Proof.Machine.execQueueBlockedAlarm q s
  | .queueEnable f n => Sys2Proof.Machine.execQueueEnable f n s
  | .queueDisable f n => Sys2Proof.Machine.execQueueDisable f n s
  | .resume f n => Sys2Proof.Machine.execResume f n s
  | .flush f n => Sys2Proof.Machine.execFlush f n s
  | .semaphoreSet f v => Sys2Proof.Machine.execSemaphoreSet f v s
  | .semaphoreAdd f v => Sys2Proof.Machine.execSemaphoreAdd f v s
  | .beaconSend q ix => Sys2Proof.Machine.execBeaconSend q ix s
  | .beaconReceive body => Sys2Proof.Machine.execBeaconReceive body s
  | .spareSubstitution utype logical => Sys2Proof.Machine.execSpareSubstitution utype logical s
  | .sprAssistDoorbell f h => Sys2Proof.Machine.execSprAssistDoorbell f h s
  | .nop q ix => Sys2Proof.Machine.execNop q ix s
  | .fence q ix => Sys2Proof.Machine.execFence q ix s
  | .wait q ix => Sys2Proof.Machine.execWait q ix s
  | .signal q ix => Sys2Proof.Machine.execSignal q ix s
  | .stamp q ix => Sys2Proof.Machine.execStamp q ix s
  | .stepOpen q ix => Sys2Proof.Machine.execStepOpen q ix s
  | .stepSeal q ix => Sys2Proof.Machine.execStepSeal q ix s
  | .ckpt q ix => Sys2Proof.Machine.execCkpt q ix s
  | .restore q ix img => Sys2Proof.Machine.execRestore q ix img s
  | .reshard q ix => Sys2Proof.Machine.execReshard q ix s
  | .wsetSwap q ix => Sys2Proof.Machine.execWsetSwap q ix s
  | .mm q ix p bad => Sys2Proof.Machine.execMm q ix p bad s
  | .mmT q ix p bad => Sys2Proof.Machine.execMmT q ix p bad s
  | .conv q ix p bad => Sys2Proof.Machine.execConv q ix p bad s
  | .attn q ix p bad => Sys2Proof.Machine.execAttn q ix p bad s
  | .slice64 q ix p => Sys2Proof.Machine.execSlice64 q ix p s
  | .slice32 q ix p => Sys2Proof.Machine.execSlice32 q ix p s
  | .sliceProductPhase q ix p bad => Sys2Proof.Machine.execSliceProductPhase q ix p bad s
  | .localisationEnd p cols rows => Sys2Proof.Machine.execLocalisationEnd p cols rows s
  | .arrayRampDown p => Sys2Proof.Machine.execArrayRampDown p s
  | .vx q ix p => Sys2Proof.Machine.execVx q ix p s
  | .sf q ix p => Sys2Proof.Machine.execSf q ix p s
  | .norm q ix p => Sys2Proof.Machine.execNorm q ix p s
  | .route q ix p => Sys2Proof.Machine.execRoute q ix p s
  | .routePhase2 q ix p => Sys2Proof.Machine.execRoutePhase2 q ix p s
  | .permute q ix p => Sys2Proof.Machine.execPermute q ix p s
  | .combine q ix p => Sys2Proof.Machine.execCombine q ix p s
  | .fft q ix p => Sys2Proof.Machine.execFft q ix p s
  | .gather q ix p => Sys2Proof.Machine.execGather q ix p s
  | .scatterAdd q ix p => Sys2Proof.Machine.execScatterAdd q ix p s
  | .move q ix => Sys2Proof.Machine.execMove q ix s
  | .prefetch q ix => Sys2Proof.Machine.execPrefetch q ix s
  | .evict q ix => Sys2Proof.Machine.execEvict q ix s
  | .pin q ix => Sys2Proof.Machine.execPin q ix s
  | .unpin q ix => Sys2Proof.Machine.execUnpin q ix s
  | .allreduce q ix => Sys2Proof.Machine.execAllreduce q ix s
  | .reduceScatter q ix => Sys2Proof.Machine.execReduceScatter q ix s
  | .allgather q ix => Sys2Proof.Machine.execAllgather q ix s
  | .alltoall q ix => Sys2Proof.Machine.execAlltoall q ix s
  | .bcastChain q ix => Sys2Proof.Machine.execBcastChain q ix s
  | .send q ix => Sys2Proof.Machine.execSend q ix s
  | .recv q ix => Sys2Proof.Machine.execRecv q ix s
  | .barrier q ix => Sys2Proof.Machine.execBarrier q ix s
  | .collectiveWaitTimeout q ix rank => Sys2Proof.Machine.execCollectiveWaitTimeout q ix rank s
  | .update q ix => Sys2Proof.Machine.execUpdate q ix s
  | .groupCfg q ix => Sys2Proof.Machine.execGroupCfg q ix s
  | .stats q ix => Sys2Proof.Machine.execStats q ix s
  | .acrWindowRelease k => Sys2Proof.Machine.execAcrWindowRelease k s
  | .acrAssistDoorbell f k h => Sys2Proof.Machine.execAcrAssistDoorbell f k h s
  | .loadWpk q ix tables fail => Sys2Proof.Machine.execLoadWpk q ix tables fail s
  | .wpkChunk q ix n bytes fail => Sys2Proof.Machine.execWpkChunk q ix n bytes fail s
  | .chainAssistDoorbell f h => Sys2Proof.Machine.execChainAssistDoorbell f h s
  | .wsetDefWrite f v => Sys2Proof.Machine.execWsetDefWrite f v s
  | .marketRead port part q ix p line err => Sys2Proof.Machine.execMarketRead port part q ix p line err s
  | .marketWrite port part q ix p line mask data err => Sys2Proof.Machine.execMarketWrite port part q ix p line mask data err s
  | .reductionWrite port part q ix p line mode stream pass first data err => Sys2Proof.Machine.execReductionWrite port part q ix p line mode stream pass first data err s
  | .scrubRead line err => Sys2Proof.Machine.execScrubRead line err s
  | .bankCopyEnd b bad => Sys2Proof.Machine.execBankCopyEnd b bad s
  | .quotaWrite t1 n v => Sys2Proof.Machine.execQuotaWrite t1 n v s
  | .create f => Sys2Proof.Machine.execCreate f s
  | .delete f => Sys2Proof.Machine.execDelete f s
  | .query f => Sys2Proof.Machine.execQuery f s
  | .refill f => Sys2Proof.Machine.execRefill f s
  | .refillDone f => Sys2Proof.Machine.execRefillDone f s
  | .reload f => Sys2Proof.Machine.execReload f s
  | .objectReference q ix p h u write err line => Sys2Proof.Machine.execObjectReference q ix p h u write err line s
  | .unitArrived k u data => Sys2Proof.Machine.execUnitArrived k u data s
  | .writeBackEnd k u t => Sys2Proof.Machine.execWriteBackEnd k u t s
  | .leavingRelease k u => Sys2Proof.Machine.execLeavingRelease k u s
  | .tirAssistDoorbell f h => Sys2Proof.Machine.execTirAssistDoorbell f h s
  | .t2ReadFail k u => Sys2Proof.Machine.execT2ReadFail k u s
  | .t2Retry k u => Sys2Proof.Machine.execT2Retry k u s
  | .sixRowRepair row fault => Sys2Proof.Machine.execSixRowRepair row fault s
  | .hbmScrub k err => Sys2Proof.Machine.execHbmScrub k err s
  | .deviceVote j => Sys2Proof.Machine.execDeviceVote j s
  | .voteReceive body => Sys2Proof.Machine.execVoteReceive body s
  | .holdSend j => Sys2Proof.Machine.execHoldSend j s
  | .holdReceive body => Sys2Proof.Machine.execHoldReceive body s
  | .voteTimeout j => Sys2Proof.Machine.execVoteTimeout j s
  | .stallSend j => Sys2Proof.Machine.execStallSend j s
  | .stallReceive body => Sys2Proof.Machine.execStallReceive body s
  | .coordinatorTakeover j => Sys2Proof.Machine.execCoordinatorTakeover j s
  | .queryReceive body => Sys2Proof.Machine.execQueryReceive body s
  | .answerReceive body => Sys2Proof.Machine.execAnswerReceive body s
  | .commitReceive body => Sys2Proof.Machine.execCommitReceive body s
  | .commitApply j => Sys2Proof.Machine.execCommitApply j s
  | .abortReceive body => Sys2Proof.Machine.execAbortReceive body s
  | .ldgAssistDoorbell f h => Sys2Proof.Machine.execLdgAssistDoorbell f h s
  | .ckptComplete j => Sys2Proof.Machine.execCkptComplete j s
  | .ckptFailed j status => Sys2Proof.Machine.execCkptFailed j status s
  | .seedWrite f j v => Sys2Proof.Machine.execSeedWrite f j v s
  | .scaleBaseWrite f j v => Sys2Proof.Machine.execScaleBaseWrite f j v s
  | .hostLinkLost link => Sys2Proof.Machine.execHostLinkLost link s
  | .parkReceive body => Sys2Proof.Machine.execParkReceive body s
  | .unpark j => Sys2Proof.Machine.execUnpark j s
  | .unparkReceive body => Sys2Proof.Machine.execUnparkReceive body s
  | .parkLimitExpiry j => Sys2Proof.Machine.execParkLimitExpiry j s
  | .linkUp p rate => Sys2Proof.Machine.execLinkUp p rate s
  | .linkDown p => Sys2Proof.Machine.execLinkDown p s
  | .rateFallback p => Sys2Proof.Machine.execRateFallback p s
  | .laneFail p lane => Sys2Proof.Machine.execLaneFail p lane s
  | .portRetrain p => Sys2Proof.Machine.execPortRetrain p s
  | .retrainClearLanes p => Sys2Proof.Machine.execRetrainClearLanes p s
  | .portDisable p => Sys2Proof.Machine.execPortDisable p s
  | .frameRefused p fr => Sys2Proof.Machine.execFrameRefused p fr s
  | .arpReceive p family target asker => Sys2Proof.Machine.execArpReceive p family target asker s
  | .echoRequest p family target asker body => Sys2Proof.Machine.execEchoRequest p family target asker body s
  | .lldpduReceive p ttl chassis port tlv mgmt => Sys2Proof.Machine.execLldpduReceive p ttl chassis port tlv mgmt s
  | .lldpNeighbourExpire p => Sys2Proof.Machine.execLldpNeighbourExpire p s
  | .lldpSend p => Sys2Proof.Machine.execLldpSend p s
  | .pfcFrameReceive p vec quanta => Sys2Proof.Machine.execPfcFrameReceive p vec quanta s
  | .pfcXoffRepeat p cls held => Sys2Proof.Machine.execPfcXoffRepeat p cls held s
  | .pauseWatchdog p cls => Sys2Proof.Machine.execPauseWatchdog p cls s
  | .pauseHoldoffEnd p cls => Sys2Proof.Machine.execPauseHoldoffEnd p cls s
  | .frameTransmit p align => Sys2Proof.Machine.execFrameTransmit p align s
  | .tsFifoPop p => Sys2Proof.Machine.execTsFifoPop p s
  | .ptpReceive p m => Sys2Proof.Machine.execPtpReceive p m s
  | .syncSend p => Sys2Proof.Machine.execSyncSend p s
  | .wakeFrame p fr tags etype token => Sys2Proof.Machine.execWakeFrame p fr tags etype token s
  | .wakeLockoutEnd p => Sys2Proof.Machine.execWakeLockoutEnd p s
  | .dataReceive conn ver psn msgId off epoch step group rank lenM1 stamp ce bytes => Sys2Proof.Machine.execDataReceive conn ver psn msgId off epoch step group rank lenM1 stamp ce bytes s
  | .ctrlReceive conn ver psn msgId stamp ce body => Sys2Proof.Machine.execCtrlReceive conn ver psn msgId stamp ce body s
  | .ctrlDeliver => Sys2Proof.Machine.execCtrlDeliver s
  | .ackReceive conn ver cum bitmap stamp stale => Sys2Proof.Machine.execAckReceive conn ver cum bitmap stamp stale s
  | .nackReceive conn ver psns unverified => Sys2Proof.Machine.execNackReceive conn ver psns unverified s
  | .notReadyReceive conn ver psn => Sys2Proof.Machine.execNotReadyReceive conn ver psn s
  | .cnpReceive conn ver => Sys2Proof.Machine.execCnpReceive conn ver s
  | .rateIncrease conn => Sys2Proof.Machine.execRateIncrease conn s
  | .helloReceive port body => Sys2Proof.Machine.execHelloReceive port body s
  | .helloAckReceive port conn body => Sys2Proof.Machine.execHelloAckReceive port conn body s
  | .helloResend conn => Sys2Proof.Machine.execHelloResend conn s
  | .closeReceive conn => Sys2Proof.Machine.execCloseReceive conn s
  | .packetCrcFail conn psn group rank msgId => Sys2Proof.Machine.execPacketCrcFail conn psn group rank msgId s
  | .ackSend conn => Sys2Proof.Machine.execAckSend conn s
  | .nackSend conn => Sys2Proof.Machine.execNackSend conn s
  | .retransmitTimeout conn => Sys2Proof.Machine.execRetransmitTimeout conn s
  | .probeSend peer path => Sys2Proof.Machine.execProbeSend peer path s
  | .probeReceive peer path => Sys2Proof.Machine.execProbeReceive peer path s
  | .peerUnreachable peer => Sys2Proof.Machine.execPeerUnreachable peer s
  | .tbnAssistDoorbell f h => Sys2Proof.Machine.execTbnAssistDoorbell f h s
  | .connIdleClose conn => Sys2Proof.Machine.execConnIdleClose conn s
  | .joinSend => Sys2Proof.Machine.execJoinSend s
  | .becomeKeeper => Sys2Proof.Machine.execBecomeKeeper s
  | .joinReceive body => Sys2Proof.Machine.execJoinReceive body s
  | .rosterReceive body => Sys2Proof.Machine.execRosterReceive body s
  | .hbSend => Sys2Proof.Machine.execHbSend s
  | .hbReceive body => Sys2Proof.Machine.execHbReceive body s
  | .memberSuspect dev => Sys2Proof.Machine.execMemberSuspect dev s
  | .memberRemove dev => Sys2Proof.Machine.execMemberRemove dev s
  | .keeperLoss => Sys2Proof.Machine.execKeeperLoss s
  | .keeperReceive body => Sys2Proof.Machine.execKeeperReceive body s
  | .leaveReceive body => Sys2Proof.Machine.execLeaveReceive body s
  | .unreachReceive body => Sys2Proof.Machine.execUnreachReceive body s
  | .spareWakeSend => Sys2Proof.Machine.execSpareWakeSend s
  | .spareWakeTimeout => Sys2Proof.Machine.execSpareWakeTimeout s
  | .wakeDoneReceive body => Sys2Proof.Machine.execWakeDoneReceive body s
  | .colAssistDoorbell f h => Sys2Proof.Machine.execColAssistDoorbell f h s
  | .redReceive src body => Sys2Proof.Machine.execRedReceive src body s
  | .quoteReqReceive body => Sys2Proof.Machine.execQuoteReqReceive body s
  | .quoteReceive body => Sys2Proof.Machine.execQuoteReceive body s
  | .quoteTimeout dev => Sys2Proof.Machine.execQuoteTimeout dev s
  | .gracefulLeave => Sys2Proof.Machine.execGracefulLeave s
  | .leaveSend => Sys2Proof.Machine.execLeaveSend s
  | .forget => Sys2Proof.Machine.execForget s
  | .partitionWrite f p r v => Sys2Proof.Machine.execPartitionWrite f p r v s
  | .vfFlr f => Sys2Proof.Machine.execVfFlr f s
  | .perstAssert link => Sys2Proof.Machine.execPerstAssert link s
  | .perstRelease link => Sys2Proof.Machine.execPerstRelease link s
  | .hotReset link => Sys2Proof.Machine.execHotReset link s
  | .bar2Read f off len => Sys2Proof.Machine.execBar2Read f off len s
  | .bar2Write f off data => Sys2Proof.Machine.execBar2Write f off data s
  | .windowConfig f v => Sys2Proof.Machine.execWindowConfig f v s
  | .vectorUnmask f n => Sys2Proof.Machine.execVectorUnmask f n s
  | .sourceEnable f n v => Sys2Proof.Machine.execSourceEnable f n v s
  | .sourceLatch n => Sys2Proof.Machine.execSourceLatch n s
  | .sourcePresent n => Sys2Proof.Machine.execSourcePresent n s
  | .hostMessage n => Sys2Proof.Machine.execHostMessage n s
  | .eoi f n => Sys2Proof.Machine.execEoi f n s
  | .getVersion who req => Sys2Proof.Machine.execGetVersion who req s
  | .getCapabilities who req => Sys2Proof.Machine.execGetCapabilities who req s
  | .negotiateAlgorithms who req => Sys2Proof.Machine.execNegotiateAlgorithms who req s
  | .getDigests who req => Sys2Proof.Machine.execGetDigests who req s
  | .getCertificate who req => Sys2Proof.Machine.execGetCertificate who req s
  | .challenge who req => Sys2Proof.Machine.execChallenge who req s
  | .getMeasurements who req => Sys2Proof.Machine.execGetMeasurements who req s
  | .clockFault island n => Sys2Proof.Machine.execClockFault island n s
  | .supplyFault => Sys2Proof.Machine.execSupplyFault s
  | .selfTestRound => Sys2Proof.Machine.execSelfTestRound s
  | .selfTestEnd t p pass => Sys2Proof.Machine.execSelfTestEnd t p pass s
  | .selfTestSlice t p => Sys2Proof.Machine.execSelfTestSlice t p s
  | .closedUnitRetest t p => Sys2Proof.Machine.execClosedUnitRetest t p s
  | .fullSelfTestEnd t p pass => Sys2Proof.Machine.execFullSelfTestEnd t p pass s
  | .d3Request f key => Sys2Proof.Machine.execD3Request f key s
  | .d4Request f key => Sys2Proof.Machine.execD4Request f key s
  | .lockstep => Sys2Proof.Machine.execLockstep s
  | .dumpRequest => Sys2Proof.Machine.execDumpRequest s
  | .dumpAgentTimeout ident => Sys2Proof.Machine.execDumpAgentTimeout ident s
  | .dumpComplete present skipped => Sys2Proof.Machine.execDumpComplete present skipped s
  | .dumpChunkFetch v present => Sys2Proof.Machine.execDumpChunkFetch v present s
  | .hltAssistDoorbell f h => Sys2Proof.Machine.execHltAssistDoorbell f h s
  | .dumpToHost => Sys2Proof.Machine.execDumpToHost s
  | .dumpCopyEnd => Sys2Proof.Machine.execDumpCopyEnd s
  | .bootStart => Sys2Proof.Machine.execBootStart s
  | .stageComplete bad key => Sys2Proof.Machine.execStageComplete bad key s
  | .stageFail unit status => Sys2Proof.Machine.execStageFail unit status s
  | .bootRestart => Sys2Proof.Machine.execBootRestart s
  | .bootAltDoorbell f h => Sys2Proof.Machine.execBootAltDoorbell f h s
  | .bootAltTimeout => Sys2Proof.Machine.execBootAltTimeout s
  | .fwWrite img => Sys2Proof.Machine.execFwWrite img s
  | .fwActivate => Sys2Proof.Machine.execFwActivate s
  | .fwCommit => Sys2Proof.Machine.execFwCommit s
  | .configRequest hostSplit altMode => Sys2Proof.Machine.execConfigRequest hostSplit altMode s
  | .timeLock => Sys2Proof.Machine.execTimeLock s
  | .offsetAlarm => Sys2Proof.Machine.execOffsetAlarm s
  | .timeStep f => Sys2Proof.Machine.execTimeStep f s
  | .uncertaintyUpdate => Sys2Proof.Machine.execUncertaintyUpdate s
  | .capWrite f v => Sys2Proof.Machine.execCapWrite f v s
  | .governorAdjust power => Sys2Proof.Machine.execGovernorAdjust power s
  | .tempSample temps => Sys2Proof.Machine.execTempSample temps s
  | .thermalCapStep => Sys2Proof.Machine.execThermalCapStep s
  | .idleEntry => Sys2Proof.Machine.execIdleEntry s
  | .standbyRequest f key => Sys2Proof.Machine.execStandbyRequest f key s
  | .dormantRequest f key => Sys2Proof.Machine.execDormantRequest f key s
  | .pwrEnAssert => Sys2Proof.Machine.execPwrEnAssert s
  | .pwrEnDeassert => Sys2Proof.Machine.execPwrEnDeassert s
  | .inputLow => Sys2Proof.Machine.execInputLow s
  | .pldmGetSensor id => Sys2Proof.Machine.execPldmGetSensor id s
  | .pldmPowerCap v => Sys2Proof.Machine.execPldmPowerCap v s
  | .pldmWake => Sys2Proof.Machine.execPldmWake s
  | .pldmResetD4 => Sys2Proof.Machine.execPldmResetD4 s
  | .pldmFirmwareUpdate img => Sys2Proof.Machine.execPldmFirmwareUpdate img s
  | .standbyRailRise slotId => Sys2Proof.Machine.execStandbyRailRise slotId s
  | .standbyRailLoss => Sys2Proof.Machine.execStandbyRailLoss s
  | .pcieLinkUp link rate width flit => Sys2Proof.Machine.execPcieLinkUp link rate width flit s
  | .pcieConfigAccess f reg val => Sys2Proof.Machine.execPcieConfigAccess f reg val s
  | .doeDiscovery f index => Sys2Proof.Machine.execDoeDiscovery f index s
  | .mctpSetEndpointId eid => Sys2Proof.Machine.execMctpSetEndpointId eid s
  | .pauseExpiry p cls => Sys2Proof.Machine.execPauseExpiry p cls s
  | .fwWriteComplete same => Sys2Proof.Machine.execFwWriteComplete same s

end Sys2Proof.Machine
end

