-- ==== Sys2Proof/Machine/Step.lean ====
section
/-! DEFINITION. One step: the command at the front of the queue, or one qns of idling. -/

namespace Sys2Proof.Machine

/-- The block idles: one qns passes, a power state that was requested may be entered, and what follows every command follows here as well
(00_scope.md R6; 20_time_power_module.md R445; log entry 2). -/
def State.idle (s : State) : State := { s with dev := s.dev.tick.settle s.dev }

/-- One step: the front command runs with the rest of the queue waiting; an empty queue idles. -/
def step (s : State) : Host.Outcome State Fault Refusal :=
  match s.pending with
  | [] => .next s.idle
  | c :: rest => exec c { s with pending := rest }

/-- The state with the command that a word spells put at the front of its queue: none is spelled, so the state itself. -/
def State.withFetchWord (s : State) (nbits w : Nat) : State :=
  match decodeTableWord nbits w with
  | some c => { s with pending := c :: s.pending }
  | none => s

end Sys2Proof.Machine
end

