-- ==== Sys2Proof/Safety.lean ====
section
/-! DEFINITION. What a well-kept state and a safe step are, which parts of the device a change touches, and what it means that a command completes
with its own effect. -/

namespace Sys2Proof.Machine

/-- A step neither stops with a fault nor refuses. -/
def safeStep (s : State) : Prop := ∃ t, step s = .next t

/-- The byte memories of the two device tiers are in canonical form. -/
def Dev.canonical (d : Dev) : Bool := Memory.wf d.t0 && Memory.wf d.t1

/-! ### Frames -/

/-- The tables that make up the device, one for each field of its state. -/
inductive Table
  | now | regs | stampHold | t0 | t1 | log | logSeq | msix | msixPend | spr | six | evt | kqp | deviceId | free | out | tir | mkt | ldg | hlt | wset
  | acr | col | fab | tbn | sec | tim | pwr | hif | ccr
  deriving DecidableEq, Repr

/-- A table reads the same before and after. -/
def Dev.same (d e : Dev) : Table → Prop
  | .now => e.now = d.now
  | .regs => e.regs = d.regs
  | .stampHold => e.stampHold = d.stampHold
  | .t0 => e.t0 = d.t0
  | .t1 => e.t1 = d.t1
  | .log => e.log = d.log
  | .logSeq => e.logSeq = d.logSeq
  | .msix => e.msix = d.msix
  | .msixPend => e.msixPend = d.msixPend
  | .spr => e.spr = d.spr
  | .six => e.six = d.six
  | .evt => e.evt = d.evt
  | .kqp => e.kqp = d.kqp
  | .deviceId => e.deviceId = d.deviceId
  | .free => e.free = d.free
  | .out => e.out = d.out
  | .tir => e.tir = d.tir
  | .mkt => e.mkt = d.mkt
  | .ldg => e.ldg = d.ldg
  | .hlt => e.hlt = d.hlt
  | .wset => e.wset = d.wset
  | .acr => e.acr = d.acr
  | .col => e.col = d.col
  | .fab => e.fab = d.fab
  | .tbn => e.tbn = d.tbn
  | .sec => e.sec = d.sec
  | .tim => e.tim = d.tim
  | .pwr => e.pwr = d.pwr
  | .hif => e.hif = d.hif
  | .ccr => e.ccr = d.ccr

/-- Only the tables named may differ between `d` and `e`: every other one is unchanged. -/
structure Dev.changesOnly (tables : List Table) (d e : Dev) : Prop where
  rest : ∀ t, t ∉ tables → d.same e t

/-! ### What statements speak of -/

/-- Every register but those at the storage keys named reads as before. -/
def Dev.keeps (d e : Dev) (keys : List Nat) : Prop := ∀ k, k ∉ keys → e.reg k = d.reg k

/-- A bit of a page's PG_EVENT. -/
def Dev.eventBit (d : Dev) (p : Page) (bit : Nat) : Bool := (d.reg (hEvent p).addr).getLsbD bit

/-- A page's PG_STAMP pair. -/
def Dev.pageStamp (d : Dev) (p : Page) : Nat := d.rd64 (hStampLo p) (hStampHi p)

/-- The header registers of a page that a set of one of its event bits writes. -/
def Page.eventRegs (p : Page) : List Nat := [(hEvent p).addr, (hLastStatus p).addr, (hSeq p).addr, (hStampLo p).addr, (hStampHi p).addr]

/-- A rejected access stands recorded (02_register_pages.md R35). -/
structure Dev.recorded (d e : Dev) (f off kind : Nat) : Prop where
  count : e.rd F.glbBadAccessCnt_count = min (d.rd F.glbBadAccessCnt_count + 1) (2 ^ 32 - 1)
  offset : e.rd F.glbBadAccessAddr_offset = off % 2 ^ 26
  kind : e.rd F.glbBadAccessAddr_kind = kind % 4
  func : e.rd F.glbBadAccessAddr_func = f % 16
  event : e.eventBit (pfPage .glb 0 0) 0 = true
  others : d.keeps e (F.glbBadAccessCnt_count.addr :: F.glbBadAccessAddr_offset.addr :: (pfPage .glb 0 0).eventRegs)

/-- `exec` answers a next state: the device of the command's own effect with what follows every command at once, the queue untouched. -/
def Answers (c : Instr) (s : State) (own : Dev) : Prop := exec c s = .next { s with dev := own.settle s.dev }

/-- A part is due for an event of opcode `op`, a unit of its range is there for it, and `l` is the one it may run on now. -/
def Dev.due (d : Dev) (x : PartId) (op l : Nat) : Prop :=
  d.partReady x.q x.i x.p op = true ∧ d.noUnit x (d.cmdBody x.q x.i) = false ∧ d.seat x = some l

/-- Every operand of a part exists, may be written where it is written, and is held in T0. -/
def Dev.fed (d : Dev) (x : PartId) (opnds : List Opnd) : Prop :=
  d.operandFault (d.partView x) opnds = none ∧ d.inPlace x opnds = true

/-- A part's descriptor of `n` bytes is in T0 and reads `y`. -/
def Dev.reads (d : Dev) (x : PartId) (h n y : Nat) : Prop :=
  d.absent (d.partView x) h = false ∧ d.beyond (d.partView x) (bytesOpnd h 0 n) = false ∧ d.inPlace x [bytesOpnd h 0 n] = true ∧
  d.partDesc x h n = y

/-- The drain descriptor of an array part is `y`: the plain conversion of handle 0, or one that is in T0 and not rejected. -/
def Dev.drains (d : Dev) (x : PartId) (h y : Nat) (rejected : Bool) : Prop :=
  (h = 0 ∧ y = descNone) ∨ (h ≠ 0 ∧ d.reads x h 128 y ∧ rejected = false)

/-- A part's work is done: its status is OK, or that of the class its outputs are reported with (R131, R161). -/
def Dev.hasRun (d : Dev) (x : PartId) : Prop :=
  ∃ y, (d.cmdAt x.q x.i).bind (fun e => e.parts[x.p]?) = some y ∧ y.ran = true ∧
    (y.status = St.ok ∨ y.status = reportStatus .saturate ∨ y.status = reportStatus .nonfinite)

/-- A function asks its object mailbox for operation `op`, of partition `p`, with the page there and not busy. -/
def Dev.asks (d : Dev) (f op p : Nat) : Prop :=
  (d.mbxReq f).op = op ∧ (d.pageAt f ((⟨f, .tir, 0, 1⟩ : Page).offset)).isSome = true ∧ d.flag (mbx f 0xA4 16 1) = false ∧
  d.mbxPart f (d.mbxReq f).part = some p

/-- The mailbox request names the live object `o`, of key `k`. -/
def Dev.asksOf (d : Dev) (f op p k : Nat) (o : Obj) : Prop :=
  d.asks f op p ∧ d.resolve (p + 8 * d.bindNow p) (d.mbxReq f).handle = some (k, o)

/-- The status that the mailbox answers. -/
def Dev.answered (d : Dev) (f : Nat) : Nat := d.rd (mbx f 0xA4 0 16)

/-! ### The commands' own effects -/

/-- A command's own effect on the device: its state before what follows every command at once (`Dev.settle`). -/
def effect (c : Instr) (d : Dev) : Dev :=
  match c with
  | .registerWrite f off size v => effectRegisterWrite f off size v d
  | .unmappedAccess f off size isWrite v => effectUnmappedAccess f off size isWrite v d
  | .pgModeWrite f off v => effectPgModeWrite f off v d
  | .pgEventClear f off v hwSet status => effectPgEventClear f off v hwSet status d
  | .pgStampLoRead f off => effectPgStampLoRead f off d
  | .d0Request f off => effectD0Request f off d
  | .d1Request f off => effectD1Request f off d
  | .d2Request f off => effectD2Request f off d
  | .resetComplete dom unit pass => effectResetComplete dom unit pass d
  | .resetEscalation dom unit => effectResetEscalation dom unit d
  | .doorbellWrite f n t => effectDoorbellWrite f n t d
  | .commandFetch q cmds => effectCommandFetch q cmds d
  | .commandStart q => effectCommandStart q d
  | .partEnd q ix p fault => effectPartEnd q ix p fault d
  | .layerDrain q run => effectLayerDrain q run d
  | .layerRepeat q run => effectLayerRepeat q run d
  | .boundExpiry q ix p => effectBoundExpiry q ix p d
  | .queueBlockedAlarm q => effectQueueBlockedAlarm q d
  | .queueEnable f n => effectQueueEnable f n d
  | .queueDisable f n => effectQueueDisable f n d
  | .resume f n => effectResume f n d
  | .flush f n => effectFlush f n d
  | .semaphoreSet f v => effectSemaphoreSet f v d
  | .semaphoreAdd f v => effectSemaphoreAdd f v d
  | .beaconSend q ix => effectBeaconSend q ix d
  | .beaconReceive body => effectBeaconReceive body d
  | .spareSubstitution utype logical => effectSpareSubstitution utype logical d
  | .sprAssistDoorbell f h => effectSprAssistDoorbell f h d
  | .nop q ix => effectNop q ix d
  | .fence q ix => effectFence q ix d
  | .wait q ix => effectWait q ix d
  | .signal q ix => effectSignal q ix d
  | .stamp q ix => effectStamp q ix d
  | .stepOpen q ix => effectStepOpen q ix d
  | .stepSeal q ix => effectStepSeal q ix d
  | .ckpt q ix => effectCkpt q ix d
  | .restore q ix img => effectRestore q ix img d
  | .reshard q ix => effectReshard q ix d
  | .wsetSwap q ix => effectWsetSwap q ix d
  | .mm q ix p bad => effectMm q ix p bad d
  | .mmT q ix p bad => effectMmT q ix p bad d
  | .conv q ix p bad => effectConv q ix p bad d
  | .attn q ix p bad => effectAttn q ix p bad d
  | .slice64 q ix p => effectSlice64 q ix p d
  | .slice32 q ix p => effectSlice32 q ix p d
  | .sliceProductPhase q ix p bad => effectSliceProductPhase q ix p bad d
  | .localisationEnd p cols rows => effectLocalisationEnd p cols rows d
  | .arrayRampDown p => effectArrayRampDown p d
  | .vx q ix p => effectVx q ix p d
  | .sf q ix p => effectSf q ix p d
  | .norm q ix p => effectNorm q ix p d
  | .route q ix p => effectRoute q ix p d
  | .routePhase2 q ix p => effectRoutePhase2 q ix p d
  | .permute q ix p => effectPermute q ix p d
  | .combine q ix p => effectCombine q ix p d
  | .fft q ix p => effectFft q ix p d
  | .gather q ix p => effectGather q ix p d
  | .scatterAdd q ix p => effectScatterAdd q ix p d
  | .move q ix => effectMove q ix d
  | .prefetch q ix => effectPrefetch q ix d
  | .evict q ix => effectEvict q ix d
  | .pin q ix => effectPin q ix d
  | .unpin q ix => effectUnpin q ix d
  | .allreduce q ix => effectAllreduce q ix d
  | .reduceScatter q ix => effectReduceScatter q ix d
  | .allgather q ix => effectAllgather q ix d
  | .alltoall q ix => effectAlltoall q ix d
  | .bcastChain q ix => effectBcastChain q ix d
  | .send q ix => effectSend q ix d
  | .recv q ix => effectRecv q ix d
  | .barrier q ix => effectBarrier q ix d
  | .collectiveWaitTimeout q ix rank => effectCollectiveWaitTimeout q ix rank d
  | .update q ix => effectUpdate q ix d
  | .groupCfg q ix => effectGroupCfg q ix d
  | .stats q ix => effectStats q ix d
  | .acrWindowRelease k => effectAcrWindowRelease k d
  | .acrAssistDoorbell f k h => effectAcrAssistDoorbell f k h d
  | .loadWpk q ix tables fail => effectLoadWpk q ix tables fail d
  | .wpkChunk q ix n bytes fail => effectWpkChunk q ix n bytes fail d
  | .chainAssistDoorbell f h => effectChainAssistDoorbell f h d
  | .wsetDefWrite f v => effectWsetDefWrite f v d
  | .marketRead port part q ix p line err => effectMarketRead port part q ix p line err d
  | .marketWrite port part q ix p line mask data err => effectMarketWrite port part q ix p line mask data err d
  | .reductionWrite port part q ix p line mode stream pass first data err => effectReductionWrite port part q ix p line mode stream pass first data err d
  | .scrubRead line err => effectScrubRead line err d
  | .bankCopyEnd b bad => effectBankCopyEnd b bad d
  | .quotaWrite t1 n v => effectQuotaWrite t1 n v d
  | .create f => effectCreate f d
  | .delete f => effectDelete f d
  | .query f => effectQuery f d
  | .refill f => effectRefill f d
  | .refillDone f => effectRefillDone f d
  | .reload f => effectReload f d
  | .objectReference q ix p h u write err line => effectObjectReference q ix p h u write err line d
  | .unitArrived k u data => effectUnitArrived k u data d
  | .writeBackEnd k u t => effectWriteBackEnd k u t d
  | .leavingRelease k u => effectLeavingRelease k u d
  | .tirAssistDoorbell f h => effectTirAssistDoorbell f h d
  | .t2ReadFail k u => effectT2ReadFail k u d
  | .t2Retry k u => effectT2Retry k u d
  | .sixRowRepair row fault => effectSixRowRepair row fault d
  | .hbmScrub k err => effectHbmScrub k err d
  | .deviceVote j => effectDeviceVote j d
  | .voteReceive body => effectVoteReceive body d
  | .holdSend j => effectHoldSend j d
  | .holdReceive body => effectHoldReceive body d
  | .voteTimeout j => effectVoteTimeout j d
  | .stallSend j => effectStallSend j d
  | .stallReceive body => effectStallReceive body d
  | .coordinatorTakeover j => effectCoordinatorTakeover j d
  | .queryReceive body => effectQueryReceive body d
  | .answerReceive body => effectAnswerReceive body d
  | .commitReceive body => effectCommitReceive body d
  | .commitApply j => effectCommitApply j d
  | .abortReceive body => effectAbortReceive body d
  | .ldgAssistDoorbell f h => effectLdgAssistDoorbell f h d
  | .ckptComplete j => effectCkptComplete j d
  | .ckptFailed j status => effectCkptFailed j status d
  | .seedWrite f j v => effectSeedWrite f j v d
  | .scaleBaseWrite f j v => effectScaleBaseWrite f j v d
  | .hostLinkLost link => effectHostLinkLost link d
  | .parkReceive body => effectParkReceive body d
  | .unpark j => effectUnpark j d
  | .unparkReceive body => effectUnparkReceive body d
  | .parkLimitExpiry j => effectParkLimitExpiry j d
  | .linkUp p rate => effectLinkUp p rate d
  | .linkDown p => effectLinkDown p d
  | .rateFallback p => effectRateFallback p d
  | .laneFail p lane => effectLaneFail p lane d
  | .portRetrain p => effectPortRetrain p d
  | .retrainClearLanes p => effectRetrainClearLanes p d
  | .portDisable p => effectPortDisable p d
  | .frameRefused p fr => effectFrameRefused p fr d
  | .arpReceive p family target asker => effectArpReceive p family target asker d
  | .echoRequest p family target asker body => effectEchoRequest p family target asker body d
  | .lldpduReceive p ttl chassis port tlv mgmt => effectLldpduReceive p ttl chassis port tlv mgmt d
  | .lldpNeighbourExpire p => effectLldpNeighbourExpire p d
  | .lldpSend p => effectLldpSend p d
  | .pfcFrameReceive p vec quanta => effectPfcFrameReceive p vec quanta d
  | .pfcXoffRepeat p cls held => effectPfcXoffRepeat p cls held d
  | .pauseWatchdog p cls => effectPauseWatchdog p cls d
  | .pauseHoldoffEnd p cls => effectPauseHoldoffEnd p cls d
  | .frameTransmit p align => effectFrameTransmit p align d
  | .tsFifoPop p => effectTsFifoPop p d
  | .ptpReceive p m => effectPtpReceive p m d
  | .syncSend p => effectSyncSend p d
  | .wakeFrame p fr tags etype token => effectWakeFrame p fr tags etype token d
  | .wakeLockoutEnd p => effectWakeLockoutEnd p d
  | .dataReceive conn ver psn msgId off epoch step group rank lenM1 stamp ce bytes => effectDataReceive conn ver psn msgId off epoch step group rank lenM1 stamp ce bytes d
  | .ctrlReceive conn ver psn msgId stamp ce body => effectCtrlReceive conn ver psn msgId stamp ce body d
  | .ctrlDeliver => effectCtrlDeliver d
  | .ackReceive conn ver cum bitmap stamp stale => effectAckReceive conn ver cum bitmap stamp stale d
  | .nackReceive conn ver psns unverified => effectNackReceive conn ver psns unverified d
  | .notReadyReceive conn ver psn => effectNotReadyReceive conn ver psn d
  | .cnpReceive conn ver => effectCnpReceive conn ver d
  | .rateIncrease conn => effectRateIncrease conn d
  | .helloReceive port body => effectHelloReceive port body d
  | .helloAckReceive port conn body => effectHelloAckReceive port conn body d
  | .helloResend conn => effectHelloResend conn d
  | .closeReceive conn => effectCloseReceive conn d
  | .packetCrcFail conn psn group rank msgId => effectPacketCrcFail conn psn group rank msgId d
  | .ackSend conn => effectAckSend conn d
  | .nackSend conn => effectNackSend conn d
  | .retransmitTimeout conn => effectRetransmitTimeout conn d
  | .probeSend peer path => effectProbeSend peer path d
  | .probeReceive peer path => effectProbeReceive peer path d
  | .peerUnreachable peer => effectPeerUnreachable peer d
  | .tbnAssistDoorbell f h => effectTbnAssistDoorbell f h d
  | .connIdleClose conn => effectConnIdleClose conn d
  | .joinSend => effectJoinSend d
  | .becomeKeeper => effectBecomeKeeper d
  | .joinReceive body => effectJoinReceive body d
  | .rosterReceive body => effectRosterReceive body d
  | .hbSend => effectHbSend d
  | .hbReceive body => effectHbReceive body d
  | .memberSuspect dev => effectMemberSuspect dev d
  | .memberRemove dev => effectMemberRemove dev d
  | .keeperLoss => effectKeeperLoss d
  | .keeperReceive body => effectKeeperReceive body d
  | .leaveReceive body => effectLeaveReceive body d
  | .unreachReceive body => effectUnreachReceive body d
  | .spareWakeSend => effectSpareWakeSend d
  | .spareWakeTimeout => effectSpareWakeTimeout d
  | .wakeDoneReceive body => effectWakeDoneReceive body d
  | .colAssistDoorbell f h => effectColAssistDoorbell f h d
  | .redReceive src body => effectRedReceive src body d
  | .quoteReqReceive body => effectQuoteReqReceive body d
  | .quoteReceive body => effectQuoteReceive body d
  | .quoteTimeout dev => effectQuoteTimeout dev d
  | .gracefulLeave => effectGracefulLeave d
  | .leaveSend => effectLeaveSend d
  | .forget => effectForget d
  | .partitionWrite f p r v => effectPartitionWrite f p r v d
  | .vfFlr f => effectVfFlr f d
  | .perstAssert link => effectPerstAssert link d
  | .perstRelease link => effectPerstRelease link d
  | .hotReset link => effectHotReset link d
  | .bar2Read f off len => effectBar2Read f off len d
  | .bar2Write f off data => effectBar2Write f off data d
  | .windowConfig f v => effectWindowConfig f v d
  | .vectorUnmask f n => effectVectorUnmask f n d
  | .sourceEnable f n v => effectSourceEnable f n v d
  | .sourceLatch n => effectSourceLatch n d
  | .sourcePresent n => effectSourcePresent n d
  | .hostMessage n => effectHostMessage n d
  | .eoi f n => effectEoi f n d
  | .getVersion who req => effectGetVersion who req d
  | .getCapabilities who req => effectGetCapabilities who req d
  | .negotiateAlgorithms who req => effectNegotiateAlgorithms who req d
  | .getDigests who req => effectGetDigests who req d
  | .getCertificate who req => effectGetCertificate who req d
  | .challenge who req => effectChallenge who req d
  | .getMeasurements who req => effectGetMeasurements who req d
  | .clockFault island n => effectClockFault island n d
  | .supplyFault => effectSupplyFault d
  | .selfTestRound => effectSelfTestRound d
  | .selfTestEnd t p pass => effectSelfTestEnd t p pass d
  | .selfTestSlice t p => effectSelfTestSlice t p d
  | .closedUnitRetest t p => effectClosedUnitRetest t p d
  | .fullSelfTestEnd t p pass => effectFullSelfTestEnd t p pass d
  | .d3Request f key => effectD3Request f key d
  | .d4Request f key => effectD4Request f key d
  | .lockstep => effectLockstep d
  | .dumpRequest => effectDumpRequest d
  | .dumpAgentTimeout ident => effectDumpAgentTimeout ident d
  | .dumpComplete present skipped => effectDumpComplete present skipped d
  | .dumpChunkFetch v present => effectDumpChunkFetch v present d
  | .hltAssistDoorbell f h => effectHltAssistDoorbell f h d
  | .dumpToHost => effectDumpToHost d
  | .dumpCopyEnd => effectDumpCopyEnd d
  | .bootStart => effectBootStart d
  | .stageComplete bad key => effectStageComplete bad key d
  | .stageFail unit status => effectStageFail unit status d
  | .bootRestart => effectBootRestart d
  | .bootAltDoorbell f h => effectBootAltDoorbell f h d
  | .bootAltTimeout => effectBootAltTimeout d
  | .fwWrite img => effectFwWrite img d
  | .fwActivate => effectFwActivate d
  | .fwCommit => effectFwCommit d
  | .configRequest hostSplit altMode => effectConfigRequest hostSplit altMode d
  | .timeLock => effectTimeLock d
  | .offsetAlarm => effectOffsetAlarm d
  | .timeStep f => effectTimeStep f d
  | .uncertaintyUpdate => effectUncertaintyUpdate d
  | .capWrite f v => effectCapWrite f v d
  | .governorAdjust power => effectGovernorAdjust power d
  | .tempSample temps => effectTempSample temps d
  | .thermalCapStep => effectThermalCapStep d
  | .idleEntry => effectIdleEntry d
  | .standbyRequest f key => effectStandbyRequest f key d
  | .dormantRequest f key => effectDormantRequest f key d
  | .pwrEnAssert => effectPwrEnAssert d
  | .pwrEnDeassert => effectPwrEnDeassert d
  | .inputLow => effectInputLow d
  | .pldmGetSensor id => effectPldmGetSensor id d
  | .pldmPowerCap v => effectPldmPowerCap v d
  | .pldmWake => effectPldmWake d
  | .pldmResetD4 => effectPldmResetD4 d
  | .pldmFirmwareUpdate img => effectPldmFirmwareUpdate img d
  | .standbyRailRise slotId => effectStandbyRailRise slotId d
  | .standbyRailLoss => effectStandbyRailLoss d
  | .pcieLinkUp link rate width flit => effectPcieLinkUp link rate width flit d
  | .pcieConfigAccess f reg val => effectPcieConfigAccess f reg val d
  | .doeDiscovery f index => effectDoeDiscovery f index d
  | .mctpSetEndpointId eid => effectMctpSetEndpointId eid d
  | .pauseExpiry p cls => effectPauseExpiry p cls d
  | .fwWriteComplete same => effectFwWriteComplete same d

/-- The command completes: `exec` answers a next state, its own effect followed by what follows every command at once, the queue of waiting
commands untouched; and the own effect does what `post` says. -/
def Completes (c : Instr) (s : State) (post : Dev → Prop) : Prop :=
  exec c s = .next { s with dev := (effect c s.dev).settle s.dev } ∧ post (effect c s.dev)

/-- The tables a command's own effect may change. -/
def touches : Instr → List Table
  | .registerWrite _ _ _ _ => [.regs, .log, .logSeq, .msix, .msixPend, .evt, .kqp, .out, .col, .fab, .tbn, .tim]
  | .unmappedAccess _ _ _ _ _ => [.regs, .log, .logSeq, .msix, .msixPend, .evt, .kqp, .out, .col, .fab, .tbn, .tim]
  | .pgModeWrite _ _ _ => [.regs, .log, .logSeq, .msix, .msixPend, .evt, .kqp, .out, .col, .fab, .tbn, .tim]
  | .pgEventClear _ _ _ _ _ => [.regs, .log, .logSeq, .evt]
  | .pgStampLoRead _ _ => [.regs, .stampHold, .log, .logSeq, .evt]
  | .d0Request _ _ => [.regs, .log, .logSeq, .msixPend, .spr, .six, .evt, .kqp, .out, .tir, .ldg, .acr, .col, .fab, .tbn, .ccr]
  | .d1Request _ _ => [.regs, .log, .logSeq, .msixPend, .spr, .six, .evt, .kqp, .out, .tir, .ldg, .acr, .col, .fab, .tbn, .ccr]
  | .d2Request _ _ => [.regs, .log, .logSeq, .msixPend, .spr, .six, .evt, .kqp, .out, .tir, .ldg, .acr, .col, .fab, .tbn, .ccr]
  | .resetComplete _ _ _ => [.regs, .log, .logSeq, .msixPend, .spr, .six, .evt, .kqp, .out, .tir, .ldg, .hlt, .col, .fab, .tbn, .sec, .ccr]
  | .resetEscalation _ _ => [.regs, .stampHold, .t0, .t1, .log, .logSeq, .msixPend, .spr, .six, .evt, .kqp, .out, .tir, .mkt, .ldg, .hlt, .acr, .col, .fab, .tbn, .sec, .tim, .pwr, .hif, .ccr]
  | .doorbellWrite _ _ _ => [.regs, .log, .logSeq, .evt]
  | .commandFetch _ _ => [.regs, .kqp]
  | .commandStart _ => [.regs, .log, .logSeq, .msixPend, .six, .evt, .kqp, .out, .ldg, .col]
  | .partEnd _ _ _ _ => [.regs, .log, .logSeq, .msixPend, .spr, .six, .evt, .kqp, .out, .tir, .ldg, .col, .sec, .ccr]
  | .layerDrain _ _ => [.regs, .msixPend, .six, .kqp, .out, .col]
  | .layerRepeat _ _ => [.regs, .t0, .t1, .log, .logSeq, .evt, .kqp, .tir, .mkt, .ldg, .acr, .col]
  | .boundExpiry _ _ _ => [.regs, .log, .logSeq, .msixPend, .spr, .six, .evt, .kqp, .out, .tir, .ldg, .hlt, .col, .sec, .ccr]
  | .queueBlockedAlarm _ => [.regs, .log, .logSeq, .evt, .kqp]
  | .queueEnable _ _ => [.regs, .kqp]
  | .queueDisable _ _ => [.regs, .kqp]
  | .resume _ _ => [.regs, .kqp]
  | .flush _ _ => [.regs, .kqp]
  | .semaphoreSet _ _ => [.kqp]
  | .semaphoreAdd _ _ => [.kqp]
  | .beaconSend _ _ => [.regs, .log, .logSeq, .six, .evt, .kqp, .out, .fab, .tbn]
  | .beaconReceive _ => [.regs, .wset, .col]
  | .spareSubstitution _ _ => [.regs, .log, .logSeq, .spr, .evt, .kqp, .hlt]
  | .sprAssistDoorbell _ _ => [.regs, .log, .logSeq, .spr, .six, .evt, .out, .mkt, .fab, .tbn, .sec]
  | .nop _ _ => [.regs, .log, .logSeq, .msixPend, .six, .evt, .kqp, .out, .tir, .ldg, .col, .ccr]
  | .fence _ _ => [.regs, .log, .logSeq, .msixPend, .six, .evt, .kqp, .out, .tir, .ldg, .col, .ccr]
  | .wait _ _ => [.regs, .log, .logSeq, .msixPend, .six, .evt, .kqp, .out, .tir, .ldg, .col, .ccr]
  | .signal _ _ => [.regs, .log, .logSeq, .msixPend, .six, .evt, .kqp, .out, .tir, .ldg, .col, .ccr]
  | .stamp _ _ => [.regs, .log, .logSeq, .msixPend, .six, .evt, .kqp, .out, .tir, .ldg, .col, .ccr]
  | .stepOpen _ _ => [.regs, .t0, .t1, .log, .logSeq, .msixPend, .six, .evt, .kqp, .out, .tir, .ldg, .acr, .col, .ccr]
  | .stepSeal _ _ => [.regs, .log, .logSeq, .msixPend, .six, .evt, .kqp, .out, .tir, .ldg, .col, .ccr]
  | .ckpt _ _ => [.regs, .log, .logSeq, .msixPend, .six, .evt, .kqp, .out, .tir, .ldg, .col, .ccr]
  | .restore _ _ _ => [.regs, .t0, .t1, .log, .logSeq, .evt, .kqp, .tir, .ldg, .acr, .col]
  | .reshard _ _ => [.regs, .log, .logSeq, .msixPend, .six, .evt, .kqp, .out, .tir, .ldg, .col, .ccr]
  | .wsetSwap _ _ => [.regs, .log, .logSeq, .evt, .kqp, .wset]
  | .mm _ _ _ _ => [.regs, .t0, .t1, .log, .logSeq, .msixPend, .spr, .six, .evt, .kqp, .out, .tir, .ldg, .col, .ccr]
  | .mmT _ _ _ _ => [.regs, .t0, .t1, .log, .logSeq, .msixPend, .spr, .six, .evt, .kqp, .out, .tir, .ldg, .col, .ccr]
  | .conv _ _ _ _ => [.regs, .t0, .t1, .log, .logSeq, .msixPend, .spr, .six, .evt, .kqp, .out, .tir, .ldg, .col, .ccr]
  | .attn _ _ _ _ => [.regs, .t0, .t1, .log, .logSeq, .msixPend, .spr, .six, .evt, .kqp, .out, .tir, .ldg, .col, .ccr]
  | .slice64 _ _ _ => [.regs, .t0, .log, .logSeq, .evt, .kqp, .tir]
  | .slice32 _ _ _ => [.regs, .t0, .log, .logSeq, .evt, .kqp, .tir]
  | .sliceProductPhase _ _ _ _ => [.regs, .t0, .t1, .log, .logSeq, .msixPend, .spr, .six, .evt, .kqp, .out, .tir, .ldg, .col, .ccr]
  | .localisationEnd _ _ _ => [.regs, .log, .logSeq, .spr, .six, .evt, .out, .sec, .ccr]
  | .arrayRampDown _ => [.ccr]
  | .vx _ _ _ => [.regs, .t0, .t1, .log, .logSeq, .evt, .kqp, .tir]
  | .sf _ _ _ => [.regs, .t0, .log, .logSeq, .evt, .kqp, .tir]
  | .norm _ _ _ => [.regs, .t0, .log, .logSeq, .evt, .kqp, .tir]
  | .route _ _ _ => [.regs, .t0, .log, .logSeq, .evt, .kqp, .tir]
  | .routePhase2 _ _ _ => [.regs, .t0, .log, .logSeq, .evt, .kqp, .tir]
  | .permute _ _ _ => [.regs, .t0, .log, .logSeq, .evt, .kqp, .tir]
  | .combine _ _ _ => [.regs, .t0, .log, .logSeq, .evt, .kqp, .tir]
  | .fft _ _ _ => [.regs, .t0, .log, .logSeq, .evt, .kqp, .tir]
  | .gather _ _ _ => [.regs, .t0, .log, .logSeq, .evt, .kqp, .tir]
  | .scatterAdd _ _ _ => [.regs, .t0, .log, .logSeq, .evt, .kqp, .tir]
  | .move _ _ => [.regs, .log, .logSeq, .six, .evt, .kqp, .out, .tir, .mkt]
  | .prefetch _ _ => [.regs, .log, .logSeq, .six, .evt, .kqp, .out, .tir, .mkt]
  | .evict _ _ => [.regs, .t0, .t1, .log, .logSeq, .six, .evt, .kqp, .out, .tir, .mkt]
  | .pin _ _ => [.regs, .log, .logSeq, .six, .evt, .kqp, .out, .tir, .mkt]
  | .unpin _ _ => [.kqp, .tir, .mkt]
  | .allreduce _ _ => [.regs, .t0, .t1, .log, .logSeq, .six, .evt, .kqp, .out, .tir, .mkt, .col, .fab, .tbn]
  | .reduceScatter _ _ => [.regs, .t0, .t1, .log, .logSeq, .six, .evt, .kqp, .out, .tir, .mkt, .col, .fab, .tbn]
  | .allgather _ _ => [.regs, .t0, .t1, .log, .logSeq, .six, .evt, .kqp, .out, .tir, .mkt, .col, .fab, .tbn]
  | .alltoall _ _ => [.regs, .t0, .t1, .log, .logSeq, .six, .evt, .kqp, .out, .tir, .mkt, .col, .fab, .tbn]
  | .bcastChain _ _ => [.regs, .t0, .t1, .log, .logSeq, .six, .evt, .kqp, .out, .tir, .mkt, .col, .fab, .tbn]
  | .send _ _ => [.regs, .t0, .t1, .log, .logSeq, .six, .evt, .kqp, .out, .tir, .mkt, .col, .fab, .tbn]
  | .recv _ _ => [.regs, .t0, .t1, .log, .logSeq, .six, .evt, .kqp, .out, .tir, .mkt, .col, .fab, .tbn]
  | .barrier _ _ => [.regs, .t0, .t1, .log, .logSeq, .six, .evt, .kqp, .out, .tir, .mkt, .col, .fab, .tbn]
  | .collectiveWaitTimeout _ _ _ => [.regs, .t0, .t1, .log, .logSeq, .six, .evt, .kqp, .out, .tir, .mkt, .wset, .col]
  | .update _ _ => [.regs, .t1, .log, .logSeq, .six, .evt, .kqp, .out, .tir, .ldg, .acr]
  | .groupCfg _ _ => [.kqp, .acr]
  | .stats _ _ => [.regs, .t0, .t1, .log, .logSeq, .evt, .kqp, .tir, .mkt, .ldg, .acr]
  | .acrWindowRelease _ => [.acr]
  | .acrAssistDoorbell _ _ _ => [.regs, .t0, .t1, .log, .logSeq, .six, .evt, .kqp, .out, .tir, .mkt, .ldg, .acr]
  | .loadWpk _ _ _ _ => [.regs, .t0, .t1, .log, .logSeq, .six, .evt, .kqp, .out, .tir, .mkt, .wset, .fab, .tbn]
  | .wpkChunk _ _ _ _ _ => [.regs, .t0, .t1, .log, .logSeq, .six, .evt, .kqp, .out, .tir, .mkt, .ldg, .wset, .fab, .tbn]
  | .chainAssistDoorbell _ _ => [.regs, .log, .logSeq, .six, .evt, .out, .wset]
  | .wsetDefWrite _ _ => [.regs, .log, .logSeq, .evt, .wset]
  | .marketRead _ _ _ _ _ _ _ => [.regs, .t0, .log, .logSeq, .spr, .six, .evt, .kqp, .out, .tir, .mkt, .ldg, .sec]
  | .marketWrite _ _ _ _ _ _ _ _ _ => [.regs, .t0, .log, .logSeq, .spr, .six, .evt, .kqp, .out, .tir, .mkt, .ldg, .sec]
  | .reductionWrite _ _ _ _ _ _ _ _ _ _ _ _ => [.regs, .t0, .log, .logSeq, .spr, .six, .evt, .kqp, .out, .tir, .mkt, .ldg, .sec]
  | .scrubRead _ _ => [.regs, .t0, .log, .logSeq, .spr, .six, .evt, .kqp, .out, .tir, .mkt, .ldg, .sec]
  | .bankCopyEnd _ _ => [.regs, .t0, .log, .logSeq, .six, .evt, .kqp, .out, .tir, .mkt, .ldg, .sec]
  | .quotaWrite _ _ _ => [.regs, .log, .logSeq, .evt]
  | .create _ => [.regs, .t1, .log, .logSeq, .evt, .tir]
  | .delete _ => [.regs, .t0, .t1, .log, .logSeq, .six, .evt, .kqp, .out, .tir, .mkt, .col]
  | .query _ => [.regs, .log, .logSeq, .evt]
  | .refill _ => [.regs, .log, .logSeq, .evt, .tir]
  | .refillDone _ => [.regs, .t0, .log, .logSeq, .six, .evt, .kqp, .out, .tir, .mkt]
  | .reload _ => [.regs, .t0, .t1, .log, .logSeq, .evt, .tir, .mkt]
  | .objectReference _ _ _ _ _ _ _ _ => [.regs, .t0, .t1, .log, .logSeq, .six, .evt, .kqp, .out, .tir, .mkt, .ldg]
  | .unitArrived _ _ _ => [.regs, .t0, .t1, .log, .logSeq, .six, .evt, .kqp, .out, .tir, .mkt]
  | .writeBackEnd _ _ _ => [.regs, .t0, .t1, .log, .logSeq, .six, .evt, .kqp, .out, .tir, .mkt]
  | .leavingRelease _ _ => [.regs, .t0, .t1, .log, .logSeq, .six, .evt, .kqp, .out, .tir, .mkt]
  | .tirAssistDoorbell _ _ => [.regs, .log, .logSeq, .six, .evt, .kqp, .out, .tir, .mkt]
  | .t2ReadFail _ _ => [.regs, .t0, .log, .logSeq, .six, .evt, .kqp, .out, .tir, .mkt, .ldg]
  | .t2Retry _ _ => [.regs, .log, .logSeq, .evt, .tir]
  | .sixRowRepair _ _ => [.regs, .t0, .log, .logSeq, .msixPend, .six, .evt, .kqp, .out, .tir, .mkt, .ldg, .col, .sec, .ccr]
  | .hbmScrub _ _ => [.regs, .t0, .t1, .log, .logSeq, .six, .evt, .kqp, .out, .tir, .mkt, .ldg]
  | .deviceVote _ => [.regs, .t0, .t1, .log, .logSeq, .six, .evt, .kqp, .out, .tir, .mkt, .ldg, .acr, .col, .fab, .tbn]
  | .voteReceive _ => [.regs, .t0, .t1, .log, .logSeq, .six, .evt, .kqp, .out, .tir, .mkt, .ldg, .acr, .col, .fab, .tbn]
  | .holdSend _ => [.regs, .log, .logSeq, .six, .evt, .out, .ldg, .fab, .tbn]
  | .holdReceive _ => [.regs, .ldg]
  | .voteTimeout _ => [.regs, .t0, .t1, .log, .logSeq, .six, .evt, .kqp, .out, .tir, .mkt, .ldg, .acr, .col, .fab, .tbn]
  | .stallSend _ => [.regs, .log, .logSeq, .six, .evt, .out, .ldg, .fab, .tbn]
  | .stallReceive _ => [.regs, .ldg]
  | .coordinatorTakeover _ => [.regs, .t0, .t1, .log, .logSeq, .six, .evt, .kqp, .out, .tir, .mkt, .ldg, .acr, .col, .fab, .tbn]
  | .queryReceive _ => [.regs, .log, .logSeq, .six, .evt, .out, .ldg, .fab, .tbn]
  | .answerReceive _ => [.regs, .t0, .t1, .log, .logSeq, .six, .evt, .kqp, .out, .tir, .mkt, .ldg, .acr, .col, .fab, .tbn]
  | .commitReceive _ => [.regs, .t0, .t1, .log, .logSeq, .six, .evt, .out, .tir, .mkt, .ldg, .acr, .col, .fab, .tbn]
  | .commitApply _ => [.regs, .t0, .t1, .log, .logSeq, .six, .evt, .out, .tir, .mkt, .ldg, .acr, .col, .fab, .tbn]
  | .abortReceive _ => [.regs, .t0, .t1, .log, .logSeq, .evt, .kqp, .tir, .mkt, .ldg, .acr, .col]
  | .ldgAssistDoorbell _ _ => [.regs, .t0, .t1, .log, .logSeq, .six, .evt, .kqp, .out, .tir, .mkt, .ldg, .acr, .col, .fab, .tbn]
  | .ckptComplete _ => [.regs, .log, .logSeq, .six, .evt, .out, .ldg, .fab, .tbn]
  | .ckptFailed _ _ => [.regs, .log, .logSeq, .six, .evt, .out, .ldg, .fab, .tbn]
  | .seedWrite _ _ _ => [.regs, .log, .logSeq, .evt, .ldg]
  | .scaleBaseWrite _ _ _ => [.regs, .log, .logSeq, .evt]
  | .hostLinkLost _ => [.regs, .log, .logSeq, .six, .evt, .out, .ldg, .fab, .tbn]
  | .parkReceive _ => [.regs, .log, .logSeq, .evt, .ldg]
  | .unpark _ => [.regs, .log, .logSeq, .six, .evt, .out, .ldg, .fab, .tbn]
  | .unparkReceive _ => [.regs, .ldg]
  | .parkLimitExpiry _ => [.regs, .log, .logSeq, .evt, .kqp]
  | .linkUp _ _ => [.regs, .log, .logSeq, .evt, .fab, .tbn]
  | .linkDown _ => [.regs, .log, .logSeq, .evt, .fab, .tbn]
  | .rateFallback _ => [.fab]
  | .laneFail _ _ => [.regs, .log, .logSeq, .spr, .six, .evt, .out, .fab, .tbn, .sec]
  | .portRetrain _ => [.regs, .log, .logSeq, .evt, .fab, .tbn]
  | .retrainClearLanes _ => [.regs, .log, .logSeq, .evt, .fab, .tbn]
  | .portDisable _ => [.regs, .log, .logSeq, .evt, .out, .fab, .tbn]
  | .frameRefused _ _ => [.regs]
  | .arpReceive _ _ _ _ => [.regs, .out]
  | .echoRequest _ _ _ _ _ => [.regs, .out, .fab]
  | .lldpduReceive _ _ _ _ _ _ => [.regs, .log, .logSeq, .evt, .fab]
  | .lldpNeighbourExpire _ => [.regs, .log, .logSeq, .evt, .fab]
  | .lldpSend _ => [.fab]
  | .pfcFrameReceive _ _ _ => [.regs, .fab]
  | .pfcXoffRepeat _ _ _ => [.regs, .out, .fab]
  | .pauseWatchdog _ _ => [.regs, .log, .logSeq, .evt, .fab]
  | .pauseHoldoffEnd _ _ => [.regs, .fab]
  | .frameTransmit _ _ => [.regs, .log, .logSeq, .evt, .out, .fab, .tbn, .tim]
  | .tsFifoPop _ => [.regs, .fab]
  | .ptpReceive _ _ => [.regs, .log, .logSeq, .evt, .fab, .tim]
  | .syncSend _ => [.fab, .tim]
  | .wakeFrame _ _ _ _ _ => [.regs, .t0, .t1, .log, .logSeq, .spr, .six, .evt, .kqp, .out, .tir, .mkt, .ldg, .acr, .col, .fab, .tbn, .sec, .pwr, .hif]
  | .wakeLockoutEnd _ => [.fab]
  | .dataReceive _ _ _ _ _ _ _ _ _ _ _ _ _ => [.regs, .t0, .t1, .log, .logSeq, .six, .evt, .kqp, .out, .tir, .mkt, .wset, .col, .fab, .tbn]
  | .ctrlReceive _ _ _ _ _ _ _ => [.regs, .t0, .t1, .log, .logSeq, .six, .evt, .kqp, .free, .out, .tir, .mkt, .ldg, .wset, .acr, .col, .fab, .tbn]
  | .ctrlDeliver => [.regs, .t0, .t1, .log, .logSeq, .six, .evt, .kqp, .free, .out, .tir, .mkt, .ldg, .wset, .acr, .col, .fab, .tbn]
  | .ackReceive _ _ _ _ _ _ => [.regs, .t0, .t1, .log, .logSeq, .six, .evt, .kqp, .out, .tir, .ldg, .wset, .col, .fab, .tbn]
  | .nackReceive _ _ _ _ => [.regs, .log, .logSeq, .six, .evt, .kqp, .out, .ldg, .wset, .col, .fab, .tbn]
  | .notReadyReceive _ _ _ => [.regs, .tbn]
  | .cnpReceive _ _ => [.regs, .tbn]
  | .rateIncrease _ => [.regs, .tbn]
  | .helloReceive _ _ => [.regs, .log, .logSeq, .evt, .fab, .tbn]
  | .helloAckReceive _ _ _ => [.regs, .log, .logSeq, .evt, .fab, .tbn]
  | .helloResend _ => [.regs, .fab, .tbn]
  | .closeReceive _ => [.regs, .log, .logSeq, .evt, .fab, .tbn]
  | .packetCrcFail _ _ _ _ _ => [.regs, .log, .logSeq, .evt, .kqp, .col, .fab, .tbn]
  | .ackSend _ => [.regs, .fab, .tbn]
  | .nackSend _ => [.regs, .fab, .tbn]
  | .retransmitTimeout _ => [.regs, .log, .logSeq, .six, .evt, .out, .fab, .tbn]
  | .probeSend _ _ => [.regs, .fab, .tbn]
  | .probeReceive _ _ => [.regs, .log, .logSeq, .evt, .fab, .tbn]
  | .peerUnreachable _ => [.regs, .t0, .t1, .log, .logSeq, .six, .evt, .kqp, .out, .tir, .mkt, .ldg, .wset, .acr, .col, .fab, .tbn]
  | .tbnAssistDoorbell _ _ => [.regs, .log, .logSeq, .six, .evt, .kqp, .out, .ldg, .wset, .col, .fab, .tbn]
  | .connIdleClose _ => [.regs, .log, .logSeq, .evt, .fab, .tbn]
  | .joinSend => [.out, .col]
  | .becomeKeeper => [.regs, .log, .logSeq, .evt, .col]
  | .joinReceive _ => [.regs, .t0, .t1, .log, .logSeq, .six, .evt, .kqp, .free, .out, .tir, .mkt, .ldg, .wset, .acr, .col, .fab, .tbn]
  | .rosterReceive _ => [.regs, .t0, .t1, .log, .logSeq, .six, .evt, .kqp, .out, .tir, .mkt, .ldg, .wset, .acr, .col, .fab, .tbn]
  | .hbSend => [.regs, .log, .logSeq, .six, .evt, .out, .col, .fab, .tbn]
  | .hbReceive _ => [.regs, .t0, .t1, .log, .logSeq, .six, .evt, .kqp, .out, .tir, .mkt, .ldg, .wset, .acr, .col, .fab, .tbn]
  | .memberSuspect _ => [.regs, .t0, .t1, .log, .logSeq, .six, .evt, .kqp, .out, .tir, .mkt, .ldg, .wset, .acr, .col, .fab, .tbn]
  | .memberRemove _ => [.regs, .t0, .t1, .log, .logSeq, .six, .evt, .kqp, .out, .tir, .mkt, .ldg, .wset, .acr, .col, .fab, .tbn]
  | .keeperLoss => [.regs, .t0, .t1, .log, .logSeq, .six, .evt, .kqp, .out, .tir, .mkt, .ldg, .wset, .acr, .col, .fab, .tbn]
  | .keeperReceive _ => [.regs, .t0, .t1, .log, .logSeq, .six, .evt, .kqp, .out, .tir, .mkt, .ldg, .wset, .acr, .col, .fab, .tbn]
  | .leaveReceive _ => [.regs, .t0, .t1, .log, .logSeq, .six, .evt, .kqp, .out, .tir, .mkt, .ldg, .wset, .acr, .col, .fab, .tbn]
  | .unreachReceive _ => [.regs, .t0, .t1, .log, .logSeq, .six, .evt, .kqp, .out, .tir, .mkt, .ldg, .wset, .acr, .col, .fab, .tbn]
  | .spareWakeSend => [.col, .fab]
  | .spareWakeTimeout => [.regs, .t0, .t1, .log, .logSeq, .six, .evt, .kqp, .out, .tir, .mkt, .ldg, .wset, .acr, .col, .fab, .tbn]
  | .wakeDoneReceive _ => [.regs, .col]
  | .colAssistDoorbell _ _ => [.regs, .t0, .t1, .log, .logSeq, .six, .evt, .kqp, .out, .tir, .mkt, .ldg, .wset, .acr, .col, .fab, .tbn]
  | .redReceive _ _ => [.regs, .t0, .t1, .log, .logSeq, .six, .evt, .kqp, .out, .tir, .mkt, .ldg, .acr, .col, .fab, .tbn]
  | .quoteReqReceive _ => [.regs, .log, .logSeq, .six, .evt, .out, .fab, .tbn]
  | .quoteReceive _ => [.regs, .t0, .t1, .log, .logSeq, .six, .evt, .kqp, .out, .tir, .mkt, .ldg, .wset, .acr, .col, .fab, .tbn]
  | .quoteTimeout _ => [.col]
  | .gracefulLeave => [.col]
  | .leaveSend => [.regs, .t0, .t1, .log, .logSeq, .six, .evt, .kqp, .out, .tir, .mkt, .ldg, .wset, .acr, .col, .fab, .tbn]
  | .forget => [.regs, .t0, .t1, .log, .logSeq, .six, .evt, .kqp, .out, .tir, .mkt, .ldg, .wset, .acr, .col, .fab, .tbn]
  | .partitionWrite _ _ _ _ => [.regs, .log, .logSeq, .evt]
  | .vfFlr _ => [.regs, .stampHold, .log, .logSeq, .msix, .msixPend, .evt, .kqp, .ldg, .hif]
  | .perstAssert _ => [.regs, .stampHold, .t0, .t1, .log, .logSeq, .msix, .msixPend, .spr, .six, .evt, .kqp, .out, .tir, .mkt, .ldg, .hlt, .acr, .col, .fab, .tbn, .sec, .tim, .pwr, .hif, .ccr]
  | .perstRelease _ => [.regs, .t0, .t1, .log, .logSeq, .spr, .six, .evt, .kqp, .out, .tir, .mkt, .ldg, .acr, .col, .fab, .tbn, .sec, .pwr, .hif]
  | .hotReset _ => [.regs, .log, .logSeq, .msix, .msixPend, .six, .evt, .kqp, .out, .ldg, .fab, .tbn, .hif]
  | .bar2Read _ _ _ => [.regs, .t1, .log, .logSeq, .evt, .out, .tir]
  | .bar2Write _ _ _ => [.regs, .t0, .t1, .log, .logSeq, .evt, .tir, .mkt]
  | .windowConfig _ _ => [.regs, .log, .logSeq, .evt]
  | .vectorUnmask _ _ => [.msix, .msixPend, .out]
  | .sourceEnable _ _ _ => [.regs, .log, .logSeq, .evt]
  | .sourceLatch _ => [.regs, .evt]
  | .sourcePresent _ => [.regs, .evt]
  | .hostMessage _ => [.regs, .msixPend, .evt, .out]
  | .eoi _ _ => [.regs, .evt]
  | .getVersion _ _ => [.out, .sec]
  | .getCapabilities _ _ => [.out, .sec]
  | .negotiateAlgorithms _ _ => [.out, .sec]
  | .getDigests _ _ => [.out, .sec]
  | .getCertificate _ _ => [.out, .sec]
  | .challenge _ _ => [.free, .out, .sec]
  | .getMeasurements _ _ => [.free, .out, .sec]
  | .clockFault _ _ => [.regs, .stampHold, .t0, .t1, .log, .logSeq, .msixPend, .spr, .six, .evt, .kqp, .free, .out, .tir, .mkt, .ldg, .hlt, .acr, .col, .fab, .tbn, .sec, .tim, .pwr, .hif, .ccr]
  | .supplyFault => [.regs, .stampHold, .t0, .t1, .log, .logSeq, .spr, .six, .evt, .kqp, .out, .tir, .mkt, .ldg, .hlt, .acr, .col, .fab, .tbn, .sec, .tim, .pwr, .hif, .ccr]
  | .selfTestRound => [.regs, .hlt]
  | .selfTestEnd _ _ _ => [.regs, .log, .logSeq, .spr, .six, .evt, .kqp, .out, .hlt, .sec]
  | .selfTestSlice _ _ => [.hlt]
  | .closedUnitRetest _ _ => [.regs, .spr]
  | .fullSelfTestEnd _ _ _ => [.regs, .log, .logSeq, .spr, .evt, .sec]
  | .d3Request _ _ => [.regs, .stampHold, .t0, .t1, .log, .logSeq, .spr, .six, .evt, .kqp, .out, .tir, .mkt, .ldg, .hlt, .acr, .col, .fab, .tbn, .sec, .tim, .pwr, .hif, .ccr]
  | .d4Request _ _ => [.regs, .stampHold, .t0, .t1, .log, .logSeq, .msix, .msixPend, .spr, .six, .evt, .kqp, .out, .tir, .mkt, .ldg, .hlt, .wset, .acr, .col, .fab, .tbn, .sec, .tim, .pwr, .hif, .ccr]
  | .lockstep => [.regs, .log, .logSeq, .spr, .six, .evt, .out, .hlt, .fab, .tbn, .sec]
  | .dumpRequest => [.regs, .log, .logSeq, .six, .evt, .out, .hlt]
  | .dumpAgentTimeout _ => [.hlt]
  | .dumpComplete _ _ => [.regs, .log, .logSeq, .evt, .hlt]
  | .dumpChunkFetch _ _ => [.regs, .hlt]
  | .hltAssistDoorbell _ _ => [.regs, .log, .logSeq, .six, .evt, .out, .hlt]
  | .dumpToHost => [.regs, .hlt]
  | .dumpCopyEnd => [.regs, .log, .logSeq, .evt, .out, .hlt]
  | .bootStart => [.regs, .t0, .t1, .log, .logSeq, .spr, .six, .evt, .kqp, .out, .tir, .mkt, .ldg, .acr, .col, .fab, .tbn, .sec, .pwr, .hif]
  | .stageComplete _ _ => [.regs, .t0, .t1, .log, .logSeq, .spr, .six, .evt, .kqp, .out, .tir, .mkt, .ldg, .hlt, .acr, .col, .fab, .tbn, .sec, .hif]
  | .stageFail _ _ => [.regs, .sec]
  | .bootRestart => [.regs, .t0, .t1, .log, .logSeq, .spr, .six, .evt, .kqp, .out, .tir, .mkt, .ldg, .acr, .col, .fab, .tbn, .sec, .hif]
  | .bootAltDoorbell _ _ => [.regs, .t0, .log, .logSeq, .spr, .six, .evt, .kqp, .out, .tir, .mkt, .ldg, .fab, .sec, .hif]
  | .bootAltTimeout => [.regs, .t0, .log, .logSeq, .spr, .six, .evt, .kqp, .out, .tir, .mkt, .ldg, .fab, .sec, .hif]
  | .fwWrite _ => [.regs, .log, .logSeq, .evt, .sec]
  | .fwActivate => [.regs, .log, .logSeq, .evt]
  | .fwCommit => [.regs, .log, .logSeq, .evt, .sec]
  | .configRequest _ _ => [.regs, .log, .logSeq, .evt, .sec]
  | .timeLock => [.now, .regs, .log, .logSeq, .evt, .tim]
  | .offsetAlarm => [.regs, .log, .logSeq, .evt, .tim]
  | .timeStep _ => [.now, .regs, .log, .logSeq, .evt, .tim]
  | .uncertaintyUpdate => [.regs, .tim]
  | .capWrite _ _ => [.regs, .log, .logSeq, .evt]
  | .governorAdjust _ => [.regs, .log, .logSeq, .evt]
  | .tempSample _ => [.regs, .stampHold, .t0, .t1, .log, .logSeq, .msix, .msixPend, .spr, .six, .evt, .kqp, .tir, .mkt, .ldg, .hlt, .wset, .acr, .col, .fab, .tbn, .sec, .tim, .pwr, .hif, .ccr]
  | .thermalCapStep => [.regs, .pwr]
  | .idleEntry => [.regs, .pwr]
  | .standbyRequest _ _ => [.regs, .log, .logSeq, .evt, .col, .pwr]
  | .dormantRequest _ _ => [.regs, .log, .logSeq, .evt, .col, .pwr]
  | .pwrEnAssert => [.sec, .pwr]
  | .pwrEnDeassert => [.regs, .stampHold, .t0, .t1, .log, .logSeq, .msix, .msixPend, .spr, .six, .evt, .kqp, .tir, .mkt, .ldg, .hlt, .wset, .acr, .col, .fab, .tbn, .sec, .tim, .pwr, .hif, .ccr]
  | .inputLow => [.regs, .stampHold, .t0, .t1, .log, .logSeq, .msix, .msixPend, .spr, .six, .evt, .kqp, .tir, .mkt, .ldg, .hlt, .wset, .acr, .col, .fab, .tbn, .sec, .tim, .pwr, .hif, .ccr]
  | .pldmGetSensor _ => [.out]
  | .pldmPowerCap _ => [.regs]
  | .pldmWake => [.regs, .t0, .t1, .log, .logSeq, .spr, .six, .evt, .kqp, .out, .tir, .mkt, .ldg, .acr, .col, .fab, .tbn, .sec, .pwr, .hif]
  | .pldmResetD4 => [.regs, .stampHold, .t0, .t1, .log, .logSeq, .msix, .msixPend, .spr, .six, .evt, .kqp, .out, .tir, .mkt, .ldg, .hlt, .wset, .acr, .col, .fab, .tbn, .sec, .tim, .pwr, .hif, .ccr]
  | .pldmFirmwareUpdate _ => [.regs, .log, .logSeq, .evt, .sec]
  | .standbyRailRise _ => [.pwr]
  | .standbyRailLoss => [.now, .regs, .stampHold, .t0, .t1, .log, .logSeq, .msix, .msixPend, .spr, .six, .evt, .kqp, .tir, .mkt, .ldg, .hlt, .wset, .acr, .col, .fab, .tbn, .sec, .tim, .pwr, .hif, .ccr]
  | .pcieLinkUp _ _ _ _ => [.regs, .out, .pwr]
  | .pcieConfigAccess _ _ _ => [.free, .out, .hif]
  | .doeDiscovery _ _ => [.out]
  | .mctpSetEndpointId _ => [.pwr]
  | .pauseExpiry _ _ => [.regs, .fab]
  | .fwWriteComplete _ => [.regs, .log, .logSeq, .evt, .sec]

end Sys2Proof.Machine
end

