-- ==== Sys2Proof/Certificates/Slice0/Obligations.lean ====
section
/-! DEFINITION. The statements for the provers, spread over every family of commands and every kind of state: each clause speaks of one command (or a
named list of commands) at every state that meets its premises, and says which next state the machine answers (`Answers`, `Completes`). -/

open Sys2Proof Sys2Proof.Machine

/-- A step takes the command at the front of the queue and runs it with the queue's rest. -/
def Obligations.StepRunsTheFront : Prop :=
  ∀ (c : Instr) (rest : List Instr) (s : State), step { s with pending := c :: rest } = exec c { s with pending := rest }

/-- Every command answers a next state: its own effect on the device, what follows every command at once, and the waiting commands as they
were. -/
def Obligations.EveryCommandAnswers : Prop := ∀ (c : Instr) (s : State), Answers c s (effect c s.dev)

/-- An empty queue idles: one qns passes (00_scope.md R6; that a tick is what an empty queue does is the model's choice, log entry 2). -/
def Obligations.EmptyQueueTicks : Prop :=
  ∀ s : State, s.pending = [] → ∃ t, step s = .next t ∧ t.pending = [] ∧ t.dev.now = s.dev.now + 1 ∧ t.dev.deviceId = s.dev.deviceId

/-- Waiting commands are served first in, first out, and none is lost: `n` steps of a machine with `n` commands waiting leave the queue
empty, and no step stops. -/
def Obligations.QueueDrains : Prop :=
  ∀ s : State, ∃ t, Host.Core.run core s.pending.length s = .next t ∧ t.pending = []

/-- FRAME of every command: the own effect of a command changes only the tables of the device that `touches` names for it; every byte of
the two tiers, every register and every record of another table reads as before. FRAME of what follows every command at once. Which
commands move the clock, and that nothing changes the device's identity: the current stamp is the same before and after every command but
TIME_LOCK, TIME_STEP and STANDBY_RAIL_LOSS, and the device id is the same before and after every step. -/
def Obligations.EveryCommandFrame : Prop :=
  (
  ∀ (c : Instr) (d : Dev), Dev.changesOnly (touches c) d (effect c d)) ∧
  (
  ∀ d before : Dev, Dev.changesOnly
    [.regs, .t0, .t1, .log, .logSeq, .spr, .six, .evt, .kqp, .out, .tir, .mkt, .hlt, .wset, .pwr] d (d.settle before)) ∧
  (
  (∀ (c : Instr) (s t : State), c ≠ .timeLock → (∀ b, c ≠ .timeStep b) → c ≠ .standbyRailLoss → exec c s = .next t → t.dev.now = s.dev.now) ∧
  (∀ s t : State, step s = .next t → t.dev.deviceId = s.dev.deviceId))

/-- GLB PG_HEALTH after every step (R41): whatever the front command did, and whether or not there was one, the GLB page's STATE reads OK
exactly when every logical unit maps to a working physical unit and no stack, bank group or port runs retired or degraded, and DEGRADED
otherwise; it never reads CLOSED or RETIRED. -/
def Obligations.GlbHealthAfterEveryStep : Prop :=
  ∀ s t : State, step s = .next t → t.dev.rd (hHealth (pfPage .glb 0 0)) = if t.dev.allMapped then 0 else 1

/-- Both byte memories keep their canonical form over every step: addresses strictly rising, no listed byte zero; so two states whose
tiers hold the same bytes are equal there, whichever commands wrote them. -/
def Obligations.TiersStayCanonical : Prop :=
  ∀ s t : State, step s = .next t → s.dev.canonical = true → t.dev.canonical = true

/-- Reset (R48, R70, R402 and the register tables): nothing waits, both tiers are in canonical form, every semaphore is 0, no page with a
Signpost source is locked, in a mode other than 0 or has an event bit set, and fields whose tables give a reset value read it. That reset
is the machine just after D4 with power present is the model's choice (log entry 64). -/
def Obligations.ResetValues : Prop :=
  State.reset.pending = [] ∧ Dev.reset.canonical = true ∧ (∀ p i, Dev.reset.sem p i = 0) ∧
  (∀ n p, sourcePage n = some p → n < 2048 →
    Dev.reset.flag (hLock p) = false ∧ Dev.reset.rd (hMode p) = 0 ∧ ∀ b, Dev.reset.eventBit p b = false) ∧
  Dev.reset.rd F.hltWarmCfg_limit = 4 ∧ Dev.reset.rd F.hltWarmCfg_window = 3600 ∧ Dev.reset.rd F.hltWarmCnt_count = 0 ∧
  Dev.reset.rd F.glbBadAccessCnt_count = 0

/-- Register writes and rejected accesses (R35, R36, R47, R61): a 4-byte write of an unlocked register of a block leaves the register's
next word; an 8-byte write is two writes, the lower address first; a narrow write is recorded; so is a read of an unmapped address. What a
locked page keeps (R47): a write of a register whose LOCK is set leaves every RWL field as it was; it is recorded with KIND 1 where a
value would have changed. PG_MODE (R21, R47, R50): the PF's write sets LOCK for good, and MODE where the page has one and LOCK stood clear
before; a VF's write is recorded with KIND 3 and changes nothing else. -/
def Obligations.RegisterWrites : Prop :=
  (
  (∀ (s : State) (f off o : Nat) (v : DWord) (p : Page) (r : RegAt),
    off % 4 = 0 → s.dev.msixAt f off = none → s.dev.pageAt f off = some (p, o) → 0x80 ≤ o → s.dev.regAt p o = some r →
    ¬(r.blk = .evt ∧ 1 ≤ r.page ∧ r.page ≤ 4) → r.ownRow = false → s.dev.flag (hLock r.pf) = false →
    (∀ x, r.jobField (r.next (s.dev.reg r.key) (r.taken (v.setWidth 32)) false) = some x →
      s.dev.rd (F.ldgJobCfg_part (bitsAt (r.taken (v.setWidth 32)).toNat x.1 3)) = x.2) →
    Answers (.registerWrite f off 4 v) s
      ((s.dev.setReg r.key (r.next (s.dev.reg r.key) (r.taken (v.setWidth 32)) false)).touched s.dev f r)) ∧
  (∀ (s : State) (f off : Nat) (v : DWord), off % 8 = 0 → s.dev.mapped f off = true →
    Answers (.registerWrite f off 8 v) s ((s.dev.writeWord f off (v.setWidth 32)).writeWord f (off + 4) ((v >>> 32).setWidth 32))) ∧
  (∀ (s : State) (f off size : Nat) (v : DWord), size = 1 ∨ size = 2 → off % size = 0 →
    Completes (.registerWrite f off size v) s fun e => s.dev.recorded e f off (if s.dev.mapped f off then 2 else 0)) ∧
  (∀ (s : State) (f off size : Nat) (v : DWord), wellFormedAccess off size = true → s.dev.mapped f off = false →
    Completes (.unmappedAccess f off size false v) s fun e => s.dev.recorded e f off 0)) ∧
  (
  ∀ (d : Dev) (f : Nat) (r : RegAt) (v : Word),
    d.flag (hLock r.pf) = true → r.blk ≠ .col → (∀ y ∈ r.fields, y.access = .rwl) →
    r.wouldChange (d.reg r.key).toNat (r.taken v).toNat = true →
    (d.writeBlockReg f r v).2 = some 1 ∧ r.next (d.reg r.key) (r.taken v) true = d.reg r.key) ∧
  (
  (∀ (s : State) (off : Nat) (v : Word) (p : Page), off % 0x1000 = 0x0C → s.dev.msixAt 0 off = none → s.dev.pageAt 0 off = some (p, 0x0C) →
    Completes (.pgModeWrite 0 off v) s fun e =>
      e.flag (hLock p) = (s.dev.flag (hLock p) || bitOf v.toNat 16) ∧
      e.rd (hMode p) = (if (pageCaps p).mode = true ∧ s.dev.flag (hLock p) = false then bitsAt v.toNat 0 1 else s.dev.rd (hMode p))) ∧
  (∀ (s : State) (f off : Nat) (v : Word) (p : Page), f ≠ 0 → off % 0x1000 = 0x0C → s.dev.msixAt f off = none →
    s.dev.pageAt f off = some (p, 0x0C) → Completes (.pgModeWrite f off v) s fun e => s.dev.recorded e f off 3))

/-- Clearing event bits (R43): a write of 1 clears a bit that hardware does not set in the same cycle and leaves every other register and
every bit written 0 alone, so a write of 1 to a bit that is already 0 has no effect; a bit that hardware sets in the same cycle stays 1,
and PG_EVENT_SEQ, LAST_STATUS and the stamp follow the set. A set of an event bit by hardware (R43): LAST_STATUS, the stamp pair and
PG_EVENT_SEQ follow in the same cycle, one record enters the log, and no other register changes. -/
def Obligations.EventsSetAndClear : Prop :=
  (
  (∀ (s : State) (f off o st : Nat) (v : Word) (p : Page), off % 0x1000 = 0x14 → s.dev.pageAt f off = some (p, o) → (pageCaps p).event = true →
    Completes (.pgEventClear f off v 0 st) s fun e =>
      (∀ b, e.eventBit p b = (s.dev.eventBit p b && !v.getLsbD b)) ∧ s.dev.keeps e [(hEvent p).addr]) ∧
  (∀ (s : State) (f off o st b : Nat) (v : Word) (p : Page), off % 0x1000 = 0x14 → s.dev.pageAt f off = some (p, o) →
    (pageCaps p).event = true → b < 32 → v.getLsbD b = true →
    Completes (.pgEventClear f off v (2 ^ b) st) s fun e =>
      e.eventBit p b = true ∧ e.rd (hSeq p) = (s.dev.rd (hSeq p) + 1) % 2 ^ 32 ∧ e.rd (hLastStatus p) = st % 2 ^ 16 ∧
      e.pageStamp p = s.dev.now % 2 ^ 64)) ∧
  (
  ∀ (d : Dev) (p : Page) (bit st : Nat) (c : Cause), (pageCaps p).event = true → bit < 32 →
    let e := d.raise p bit st c
    e.eventBit p bit = true ∧ (∀ b, b ≠ bit → e.eventBit p b = d.eventBit p b) ∧ e.rd (hLastStatus p) = st % 2 ^ 16 ∧
    e.rd (hSeq p) = (d.rd (hSeq p) + 1) % 2 ^ 32 ∧ e.pageStamp p = d.now % 2 ^ 64 ∧ d.keeps e p.eventRegs ∧
    e.log.length = d.log.length + 1 ∧ e.logSeq = (d.logSeq + 1) % 2 ^ 32)

/-- A 4-byte read of PG_STAMP_LO copies PG_STAMP_HI into the function's holding register for the page and changes nothing else (R44). -/
def Obligations.StampHolds : Prop :=
  ∀ (s : State) (f off o : Nat) (p : Page), off % 0x1000 = 0x20 → s.dev.pageAt f off = some (p, o) → (pageCaps p).event = true →
    Completes (.pgStampLoRead f off) s fun e =>
      mapLook e.stampHold (f * 2 ^ 32 + p.key) = some (s.dev.reg (hStampHi p).addr) ∧ Dev.changesOnly [.stampHold] s.dev e ∧
      ∀ k, k ≠ f * 2 ^ 32 + p.key → mapLook e.stampHold k = mapLook s.dev.stampHold k

/-- PG_RESET requests (R40): the PF's request of a domain that applies starts that reset of the page's unit now, after parts on it have
ended with UNIT_RESET; a domain that does not apply is ignored; a VF's request is recorded with KIND 3. Completion and escalation (R399,
R401): a core or engine reset that completes and passes its check leaves the list of resets; a D0 that misses its bound becomes a D1 of
the same unit, a D1 closes the unit and its island awaits power-off; a reset that has not missed its bound does not escalate. -/
def Obligations.UnitResets : Prop :=
  (
  ∀ (s : State) (off : Nat) (pg : Page), s.dev.pageAt 0 off = some (pg, 0x2C) →
    (∀ (c : Instr) (dom : Nat), (c, dom) ∈ [(Instr.d0Request 0 off, 0), (Instr.d1Request 0 off, 1), (Instr.d2Request 0 off, 2)] →
      (bitOf (pageCaps pg).reset dom = true →
        Completes c s fun e => (⟨dom, pageUnit pg, s.dev.now⟩ ∈ e.spr.resets) ∧ e = s.dev.resetUnit dom (pageUnit pg) St.unitReset) ∧
      (bitOf (pageCaps pg).reset dom = false → Answers c s s.dev)) ∧
    (∀ (f off' : Nat) (pg' : Page), f ≠ 0 → s.dev.pageAt f off' = some (pg', 0x2C) →
      ∀ c ∈ [Instr.d0Request f off', Instr.d1Request f off', Instr.d2Request f off'],
        Completes c s fun e => s.dev.recorded e f off' 3)) ∧
  (
  (∀ (s : State) (dom unit : Nat), dom ≤ 2 → unit / 256 ≤ 9 → (∃ r ∈ s.dev.spr.resets, r.dom = dom ∧ r.unit = unit) →
    Completes (.resetComplete dom unit true) s fun e => ∀ r, r ∈ e.spr.resets ↔ (r ∈ s.dev.spr.resets ∧ r.unit ≠ unit)) ∧
  (∀ (s : State) (unit : Nat) (r : ResetRun), unit / 256 ≠ 14 → s.dev.spr.resets.find? (fun r => r.dom == 0 && r.unit == unit) = some r →
    r.start + 20 * usQ ≤ s.dev.now →
    Completes (.resetEscalation 0 unit) s fun e =>
      (⟨1, unit, s.dev.now⟩ ∈ e.spr.resets) ∧ e = (s.dev.noteEscalation unit).beginReset 1 unit) ∧
  (∀ (s : State) (unit : Nat) (r : ResetRun), s.dev.spr.resets.find? (fun r => r.dom == 1 && r.unit == unit) = some r →
    r.start + 200 * usQ ≤ s.dev.now →
    Completes (.resetEscalation 1 unit) s fun e =>
      (⟨4, unit, s.dev.now⟩ ∈ e.spr.resets) ∧
      e = (((s.dev.noteEscalation unit).closeUnit (unit / 256) (unit % 256) St.resetEscalated).endReset unit).startReset 4 unit) ∧
  (∀ (s : State) (dom unit : Nat) (r : ResetRun), s.dev.spr.resets.find? (fun r => r.dom == dom && r.unit == unit) = some r →
    s.dev.now < r.start + resetBound dom → Answers (.resetEscalation dom unit) s s.dev))

/-- Device resets (R400): HLT_RESET_CTRL takes a request from the PF with its key; any other write of it is recorded with KIND 3 and
resets nothing. A D4 request clears the warm-reset count, and boot stands at S0, entered now. -/
def Obligations.DeviceResets : Prop :=
  (∀ s : State, Answers (.d3Request 0 0xA5) s s.dev.startD3) ∧
  (∀ s : State, Completes (.d4Request 0 0xA5) s fun e =>
    e.hlt.d3Starts = [] ∧ e.rd F.hltWarmCnt_count = 0 ∧ e.sec.stage = 0 ∧ e.sec.stageFrom = s.dev.now ∧
    e = (s.dev.clearWarm.wr F.pwrLastOff_cause 3).startD4) ∧
  (∀ (s : State) (f key : Nat), ¬(f = 0 ∧ key = 0xA5) →
    (Completes (.d3Request f key) s fun e => s.dev.recorded e f 0x30080 3) ∧
    (Completes (.d4Request f key) s fun e => s.dev.recorded e f 0x30080 3))

/-- Monitors (R392): a clock or supply fault sets HLT PG_EVENT bit 10; in a device in service without a monitor reset in the last second
the failed core, stack or the whole device is reset; one that recurs within a second takes the device out of service. The rolling
self-test (R393 to R395): while it is enabled a round begins every ROUND seconds with its number in HLT_ST_STATE; a test that has run its
length ends at its unit's boundary, and a unit that passes is no longer under test; an in-place test advances by slices. Closed units
(R397, R398, R405): one second after its closure a unit is reset and its full self-test begins; a pass returns it to the reserve pool, a
failure retires it; a lockstep mismatch with a standby pair sets HLT PG_EVENT bit 4, and without one takes the device out of service. -/
def Obligations.MonitorsSelfTestsAndClosedUnits : Prop :=
  (
  (∀ (s : State) (island n : Nat), Completes (.clockFault island n) s fun e => e.eventBit hltPage 10 = true) ∧
  (∀ s : State, Completes .supplyFault s fun e => e.eventBit hltPage 10 = true) ∧
  (∀ s : State, (∀ m ∈ s.dev.hlt.monitors, m.1 = 6 * 256 → m.2 = 0) →
    Answers .supplyFault s (((s.dev.setHlt { s.dev.hlt with monitors := mapPut s.dev.hlt.monitors (6 * 256) 0 }).startD3).raise hltPage 10 St.ok)) ∧
  (∀ (s : State) (m : Nat × Nat), m ∈ s.dev.hlt.monitors → m.1 = 6 * 256 → m.2 ≠ 0 → s.dev.now < m.2 - 1 + secQ →
    Answers .supplyFault s ((s.dev.outOfService St.outOfService).raise hltPage 10 St.ok)) ∧
  (∀ (s : State) (n : Nat), (∀ m ∈ s.dev.hlt.monitors, m.1 = n → m.2 = 0) →
    Answers (.clockFault 0 n) s ((((s.dev.setFree (s.dev.free + 1)).setHlt { s.dev.hlt with monitors := mapPut s.dev.hlt.monitors n 0 }).resetUnit 1
      (unitKey 0 n) (1 + Config.freeNat s.dev.free % 65535)).raise hltPage 10 St.ok))) ∧
  (
  (∀ s : State, s.dev.flag F.hltStCfg_en = true → s.dev.hlt.roundAt + s.dev.rd F.hltStCfg_round * secQ ≤ s.dev.now → s.dev.hlt.nextRound < 27 →
    Completes .selfTestRound s fun e =>
      e.rd F.hltStState_roundNo = s.dev.hlt.nextRound ∧ e.hlt.nextRound = (s.dev.hlt.nextRound + 1) % 27 ∧ e.hlt.roundAt = s.dev.now ∧
      ∀ x ∈ roundUnits s.dev.hlt.nextRound, (s.dev.physUnit x.1 x.2).role < 2 → ∃ y ∈ e.hlt.testing, y.is x.1 x.2 = true) ∧
  (∀ (s : State) (t p : Nat) (x : Testing), s.dev.hlt.testing.find? (fun x => x.is t p) = some x → x.inPlace = true → x.ran s.dev.now = true →
    (x.logical = 0 → s.dev.unitIdle t p = true) → (x.logical ≠ 0 → ∀ r, s.dev.physOf t (x.logical - 1) = some r → s.dev.unitIdle t r = true) →
    Completes (.selfTestEnd t p true) s fun e => e.hlt.testing.all (fun y => !y.is x.utype x.phys) = true) ∧
  (∀ (s : State) (t p : Nat) (x : Testing), s.dev.hlt.testing.find? (fun x => x.is t p) = some x → x.inPlace = true → x.ran s.dev.now = false →
    s.dev.unitIdle t p = true →
    Answers (.selfTestSlice t p) s (s.dev.putTesting { x with slices := x.slices + 1, sliceAt := s.dev.now }))) ∧
  (
  (∀ (s : State) (t p : Nat), t ≤ 7 → (s.dev.physUnit t p).role = 3 → (s.dev.physUnit t p).full = 0 →
    (s.dev.physUnit t p).testFrom + secQ ≤ s.dev.now →
    Completes (.closedUnitRetest t p) s fun e =>
      (⟨1, unitKey t p, s.dev.now⟩ ∈ e.spr.resets) ∧ (e.physUnit t p).full = s.dev.now + 1 ∧ (e.physUnit t p).role = 3) ∧
  (∀ (s : State) (t p : Nat) (pass : Bool), (s.dev.physUnit t p).role = 3 → (s.dev.physUnit t p).full ≠ 0 →
    (s.dev.physUnit t p).full - 1 + testQns t ≤ s.dev.now →
    Completes (.fullSelfTestEnd t p pass) s fun e => (e.physUnit t p).role = (if pass then 1 else 4)) ∧
  (∀ (s : State) (r p : Nat) (l : List Nat), s.dev.reserves 10 = r :: l → s.dev.physOf 10 0 = some p →
    Answers .lockstep s (((((s.dev.closePair p).takeIdentity 10 0 r).evtTakeover).raise hltPage 4 St.lockstep).dumpTrigger St.lockstep hltPage.ident)) ∧
  (∀ s : State, s.dev.reserves 10 = [] → Answers .lockstep s (s.dev.outOfService St.lockstep)))

/-- Doorbells (R52, R54): a good value becomes the tail count of the queue that the function's doorbell names, an IDLE queue with
something to fetch becomes ACTIVE, and nothing else changes; a value beyond the ring or backwards leaves the tail alone and sets
DOORBELL_BAD, bit 16, in KQP page 1 and in the view page of the queue's VF; a doorbell that names no queue does nothing. -/
def Obligations.Doorbells : Prop :=
  (∀ (s : State) (f n q : Nat) (t : Word), s.dev.queueOf f n = some q → s.dev.doorbellBad q t.toNat = false →
    Completes (.doorbellWrite f n t) s fun e =>
      e.qTail q = t.toNat ∧ e.qSt q = (if s.dev.qSt q = qsIDLE ∧ s.dev.qHead q ≠ t.toNat then qsACTIVE else s.dev.qSt q) ∧
      Dev.changesOnly [.regs] s.dev e ∧
      s.dev.keeps e [(F.qTail_count (q / 16) (q % 16)).addr, (F.qState_state (q / 16) (q % 16)).addr]) ∧
  (∀ (s : State) (f n q : Nat) (t : Word), s.dev.queueOf f n = some q → s.dev.doorbellBad q t.toNat = true →
    Completes (.doorbellWrite f n t) s fun e =>
      e = s.dev.raiseQueue q (fun _ => 16) St.ok ∧ e.qTail q = s.dev.qTail q ∧ e.eventBit (pfPage .kqp (q / 16) 1) 16 = true) ∧
  (∀ (s : State) (f n : Nat) (t : Word), s.dev.queueOf f n = none → Answers (.doorbellWrite f n t) s s.dev)

/-- Fetch (R57): commands that the host has made known enter the queue in ring order behind those it holds, at most 64 held in all, and
the head count moves past them; a read beyond what is known, or to a queue that is full, disabled or without a working processor, takes
nothing. The start of a head command (R58, R66, R75): one that nothing holds begins; a rejected or discarded one never starts and ends at
once with its status; a held one blocks its queue, and Q_STATE says on what it waits. -/
def Obligations.FetchAndStart : Prop :=
  (
  (∀ (s : State) (q : Nat) (cmds : List Cmd), q < 256 → s.dev.works 8 (q / 16) = true → s.dev.qEnabled q = true →
    (s.dev.queue q).disabling = false → s.dev.qSt q ≠ qsDISABLED → cmds ≠ [] →
    cmds.length ≤ (s.dev.qTail q + 2 ^ 32 - s.dev.qHead q) % 2 ^ 32 → (s.dev.queue q).held + cmds.length ≤ 64 →
    Completes (.commandFetch q cmds) s fun e =>
      e.qHead q = (s.dev.qHead q + cmds.length) % 2 ^ 32 ∧
      (e.queue q).fetched.map (fun y => (y.1, y.2.1)) =
        (s.dev.queue q).fetched.map (fun y => (y.1, y.2.1)) ++ cmds.zipIdx.map (fun y => ((s.dev.qHead q + y.2) % 2 ^ 32, y.1)) ∧
      (e.queue q).exec = (s.dev.queue q).exec) ∧
  (∀ (s : State) (q : Nat) (cmds : List Cmd),
    256 ≤ q ∨ (s.dev.qTail q + 2 ^ 32 - s.dev.qHead q) % 2 ^ 32 < cmds.length ∨ 64 < (s.dev.queue q).held + cmds.length ∨
      s.dev.qEnabled q = false ∨ s.dev.works 8 (q / 16) = false →
    Answers (.commandFetch q cmds) s s.dev)) ∧
  (
  (∀ (s : State) (q n run : Nat) (c : Cmd) (rest : List (Nat × Cmd × Nat)), (s.dev.queue q).fetched = (n, c, run) :: rest →
    s.dev.startWay q = some .go → s.dev.waitMet q n run c = true →
    (cmdWaitEn c = false → s.dev.outranked q = false → Answers (.commandStart q) s (s.dev.begin q n run c)) ∧
    (cmdWaitEn c = true → (s.dev.setQueue q { s.dev.queue q with waited := true }).outranked q = false →
      Answers (.commandStart q) s ((s.dev.setQueue q { s.dev.queue q with waited := true }).begin q n run c))) ∧
  (∀ (s : State) (q n run st : Nat) (c : Cmd) (rest : List (Nat × Cmd × Nat)), (s.dev.queue q).fetched = (n, c, run) :: rest →
    s.dev.startWay q = some (.reject st) → Answers (.commandStart q) s (s.dev.neverStarts q n run c st false)) ∧
  (∀ (s : State) (q n run : Nat) (c : Cmd) (rest : List (Nat × Cmd × Nat)), (s.dev.queue q).fetched = (n, c, run) :: rest →
    s.dev.startWay q = some .discard → Answers (.commandStart q) s (s.dev.neverStarts q n run c St.stepAborted true)) ∧
  (∀ (s : State) (q n run why : Nat) (c : Cmd) (rest : List (Nat × Cmd × Nat)), (s.dev.queue q).fetched = (n, c, run) :: rest →
    s.dev.startWay q = some (.hold why) → why ≤ 1 →
    Completes (.commandStart q) s fun e =>
      e.qSt q = qsBLOCKED ∧ e.flag (F.qState_waitSem (q / 16) (q % 16)) = decide (why = 0) ∧
      e.flag (F.qState_waitStep (q / 16) (q % 16)) = decide (why = 1)) ∧
  (∀ (s : State) (q : Nat), s.dev.startWay q = none → Answers (.commandStart q) s s.dev))

/-- Parts that end, and layers (R77, R78, R81, R162): a part that has run ends with its own status, one with a hardware fault with the
fault's; a drained layer that is not to be repeated releases its records in ring order; a reported layer with another failure drains
unrepeated. -/
def Obligations.PartsAndLayersEnd : Prop :=
  (∀ (s : State) (q i p : Nat) (e : CmdEx) (x : Part), s.dev.cmdAt q i = some e → e.parts[p]? = some x → x.ended = false → x.ran = true →
    Answers (.partEnd q i p 0) s (s.dev.endPart q i p x.status)) ∧
  (∀ (s : State) (q i p fault : Nat) (e : CmdEx) (x : Part), s.dev.cmdAt q i = some e → e.parts[p]? = some x → x.ended = false → fault ≠ 0 →
    Answers (.partEnd q i p fault) s (s.dev.faultPart q i p fault)) ∧
  (∀ (s : State) (q run : Nat) (r : LayerRun), (s.dev.queue q).runs.find? (fun r => r.id == run) = some r → run ≠ 0 →
    (s.dev.queue q).drained r = true → r.flagged = false → (s.dev.queue q).exec.all (fun e => e.run == run) = true →
    Completes (.layerDrain q run) s fun e => (e.queue q).exec = []) ∧
  (∀ (s : State) (q run : Nat) (r : LayerRun), (s.dev.queue q).runs.find? (fun r => r.id == run) = some r → r.flagged = true →
    ((s.dev.queue q).runCmds run).all (fun e => e.fin) = true → ((s.dev.queue q).runCmds run).any (fun e => e.failed) = true →
    Answers (.layerRepeat q run) s (s.dev.updRun q run (fun r => { r with flagged := false, failed := true }))) ∧
  (∀ (s : State) (q run : Nat) (r : LayerRun), (s.dev.queue q).runs.find? (fun r => r.id == run) = some r → r.flagged = true →
    ((s.dev.queue q).runCmds run).all (fun e => e.fin) = true → ((s.dev.queue q).runCmds run).any (fun e => e.failed) = false →
    q < 256 → (s.dev.queue q).disabling = false → (s.dev.widenAll (s.dev.widened q r)).isSome = true →
    Completes (.layerRepeat q run) s fun e => e.eventBit (pfPage .kqp (q / 16) 1) 17 = true)

/-- Hang bounds and the blocked-queue alarm (R60, R83): a part past its bound that waits for no allocation ends with BOUND_EXCEEDED and
HLT PG_EVENT bit 0 is set; a part whose bound has not passed is left alone; a queue BLOCKED beyond page 1 PG_TIMEOUT sets its bit of page
0. Progress beacons (R84): a running command with FLAGS.BEACON sends its next beacon when its period has passed, and the count of beacons
sent rises by one; before that none is sent. -/
def Obligations.BoundsAlarmsAndBeacons : Prop :=
  (
  (∀ (s : State) (q i p : Nat) (e : CmdEx) (x : Part), s.dev.cmdAt q i = some e → e.parts[p]? = some x → x.expired s.dev.now = true →
    s.dev.allocLack q i p = none →
    ((s.dev.faultPart q i p St.boundExceeded).raise hltPage 0 St.boundExceeded (s.dev.causeOf q e.cmd)).flag F.hltDumpCtrl_onBound = false →
    Completes (.boundExpiry q i p) s fun d =>
      d.eventBit hltPage 0 = true ∧
      d = (s.dev.faultPart q i p St.boundExceeded).raise hltPage 0 St.boundExceeded (s.dev.causeOf q e.cmd)) ∧
  (∀ (s : State) (q i p : Nat) (e : CmdEx) (x : Part), s.dev.cmdAt q i = some e → e.parts[p]? = some x → x.expired s.dev.now = false →
    Answers (.boundExpiry q i p) s s.dev) ∧
  (∀ (s : State) (q : Nat), q < 256 → s.dev.qSt q = qsBLOCKED → (s.dev.queue q).alarmed = false →
    (s.dev.queue q).blockedAt + s.dev.timeout (pfPage .kqp (q / 16) 1) (10 * secQ) < s.dev.now →
    Completes (.queueBlockedAlarm q) s fun e =>
      e.eventBit (pfPage .kqp (q / 16) 0) (q % 16) = true ∧ (e.queue q).alarmed = true ∧ e.qSt q = qsBLOCKED)) ∧
  (
  (∀ (s : State) (q i : Nat) (x : CmdEx), s.dev.cmdAt q i = some x → cmdBeacon x.cmd = true →
    s.dev.flag (F.qBeacon_all (q / 16) (q % 16)) = false →
    x.start + (x.beacons + 1) * (s.dev.rd (F.kqpBeaconCfg_period (q / 16)) * msQ) ≤ s.dev.now →
    Completes (.beaconSend q i) s fun e => e.kqp = (s.dev.setCmd q { x with beacons := x.beacons + 1 }).kqp) ∧
  (∀ (s : State) (q i : Nat) (x : CmdEx), s.dev.cmdAt q i = some x →
    (cmdBeacon x.cmd = false ∨ s.dev.now < x.start + (x.beacons + 1) * (s.dev.rd (F.kqpBeaconCfg_period (q / 16)) * msQ)) →
    Answers (.beaconSend q i) s s.dev) ∧
  (∀ (s : State) (body : List Byte), Answers (.beaconReceive body) s (s.dev.takeBeacon body)))

/-- Queue control (R60 and table Queue register set): ENABLE 1 makes a DISABLED queue IDLE or ACTIVE with its head at its done count and
its ENABLE bit 1; ENABLE 0 drops unstarted commands, and an idle queue is DISABLED with head at done; RESUME takes a STOPPED queue out of
STOPPED; FLUSH also discards what has not started and sets head and done to the tail; outside their state the two do nothing. -/
def Obligations.QueueControl : Prop :=
  (∀ (s : State) (f n q : Nat), s.dev.queueOf f n = some q → s.dev.qSt q = qsDISABLED →
    Completes (.queueEnable f n) s fun e =>
      e.qEnabled q = true ∧ e.qHead q = s.dev.qDone q ∧ e.qTail q = s.dev.qTail q ∧ (e.queue q).fetched = [] ∧
      (e.qSt q = qsIDLE ∨ e.qSt q = qsACTIVE)) ∧
  (∀ (s : State) (f n q : Nat), s.dev.queueOf f n = some q → s.dev.qSt q ≠ qsDISABLED →
    Completes (.queueDisable f n) s fun e =>
      e.qEnabled q = false ∧ (e.queue q).fetched = [] ∧ e.qTail q = s.dev.qTail q ∧
      ((s.dev.queue q).exec = [] → e.qSt q = qsDISABLED ∧ e.qHead q = s.dev.qDone q)) ∧
  (∀ (s : State) (f n q : Nat), s.dev.queueOf f n = some q → s.dev.qSt q = qsSTOPPED → (s.dev.queue q).disabling = false →
    (Completes (.resume f n) s fun e =>
      (e.qSt q = qsIDLE ∨ e.qSt q = qsACTIVE) ∧ (e.queue q).fetched = (s.dev.queue q).fetched ∧ e.qHead q = s.dev.qHead q) ∧
    (Completes (.flush f n) s fun e =>
      (e.qSt q = qsIDLE ∨ e.qSt q = qsACTIVE) ∧ (e.queue q).fetched = [] ∧ e.qHead q = s.dev.qTail q ∧ e.qDone q = s.dev.qTail q)) ∧
  (∀ (s : State) (f n q : Nat), s.dev.queueOf f n = some q → s.dev.qSt q ≠ qsSTOPPED →
    Answers (.resume f n) s s.dev ∧ Answers (.flush f n) s s.dev)

/-- Semaphores (R70, R73): a write of KQP_SEM_VAL sets the selected semaphore, one of KQP_SEM_ADD adds modulo 2^32; no other semaphore
changes. -/
def Obligations.Semaphores : Prop :=
  ∀ (s : State) (f p i : Nat) (v : Word), s.dev.semSel f = some (p, i) → i < 65536 →
    (Completes (.semaphoreSet f v) s fun e =>
      e.sem p i = v.toNat ∧ Dev.changesOnly [.kqp] s.dev e ∧ ∀ p' i', i' < 65536 → (p', i') ≠ (p, i) → e.sem p' i' = s.dev.sem p' i') ∧
    (Completes (.semaphoreAdd f v) s fun e =>
      e.sem p i = (s.dev.sem p i + v.toNat) % 2 ^ 32 ∧ Dev.changesOnly [.kqp] s.dev e ∧
      ∀ p' i', i' < 65536 → (p', i') ≠ (p, i) → e.sem p' i' = s.dev.sem p' i')

/-- A wait is satisfied exactly when the semaphore's low half is 0 to 32,767 steps past the value, modulo 65,536 (R71); a wait once
satisfied stays so over every later change of any semaphore. -/
def Obligations.WaitsAreSerial : Prop :=
  (∀ s v : Nat, v < 65536 → (semReached s v = true ↔ ∃ k, k < 32768 ∧ s % 65536 = (v + k) % 65536)) ∧
  (∀ (d : Dev) (q p i v : Nat) (x : Queue), mapLook d.kqp.queues q = some x → x.waited = true → ((d.semSet p i v).queue q).waited = true) ∧
  (∀ (d : Dev) (q p i v : Nat) (x : Queue) (e : CmdEx), mapLook d.kqp.queues q = some x → e ∈ x.exec → cmdOpcode e.cmd = opWAIT →
    ∃ y ∈ ((d.semSet p i v).queue q).exec, y.count = e.count ∧ y.cmd = e.cmd ∧ y.waits &&& e.waits = e.waits)

/-- Control commands (R69): NOP, a started FENCE, SIGNAL and STAMP end their one part with OK; WAIT does so once every listed wait is
satisfied, and until then only notes which are. -/
def Obligations.ControlCommands : Prop :=
  (∀ (s : State) (q i : Nat), (s.dev.partReady q i 0 opNOP = true → Answers (.nop q i) s (s.dev.endPart q i 0 St.ok)) ∧
    (s.dev.partReady q i 0 opFENCE = true → Answers (.fence q i) s (s.dev.endPart q i 0 St.ok)) ∧
    (s.dev.partReady q i 0 opSIGNAL = true → Answers (.signal q i) s (s.dev.endPart q i 0 St.ok)) ∧
    (s.dev.partReady q i 0 opSTAMP = true → Answers (.stamp q i) s (s.dev.endPart q i 0 St.ok))) ∧
  (∀ (s : State) (q i : Nat) (e : CmdEx), s.dev.cmdAt q i = some e → s.dev.partReady q i 0 opWAIT = true →
    (e.waits ||| s.dev.waitMask (s.dev.qPart q) e.cmd) = 2 ^ cmdCount e.cmd - 1 →
    Answers (.wait q i) s ((s.dev.setCmd q { e with waits := 2 ^ cmdCount e.cmd - 1 }).endPart q i 0 St.ok)) ∧
  (∀ (s : State) (q i : Nat) (e : CmdEx), s.dev.cmdAt q i = some e →
    (e.waits ||| s.dev.waitMask (s.dev.qPart q) e.cmd) ≠ 2 ^ cmdCount e.cmd - 1 →
    Answers (.wait q i) s (s.dev.setCmd q { e with waits := e.waits ||| s.dev.waitMask (s.dev.qPart q) e.cmd }))

/-- Spares (R25 to R28, R31): in HW mode the lowest free reserve takes the lowest unmapped identity of its type, and SPR PG_EVENT bit 0 is
set; the doorbell of an open closure record with DEC = 0 approves its identity and closes the record, DEC = 1 declines it; a doorbell that
names no record is recorded. -/
def Obligations.Spares : Prop :=
  (∀ (s : State) (t l p : Nat) (ps ls : List Nat), t ≠ 8 → s.dev.reserves t = p :: ps → (s.dev.unmapped t).filter (s.dev.mayMap t) = l :: ls →
    (s.dev.unmapped t).any (s.dev.mayMap t) = true → s.dev.freeTested t = s.dev →
    Completes (.spareSubstitution t l) s fun e =>
      e.physOf t l = some p ∧ (e.physUnit t p).role = 0 ∧ e.eventBit sprPage 0 = true ∧
      ∀ t' l', unitKey t' l' ≠ unitKey t l → e.physOf t' l' = s.dev.physOf t' l') ∧
  (∀ (s : State) (f h : Nat) (r : SprRec), s.dev.spr.recs.find? (fun r => r.handle == h) = some r → r.kind = 0 → s.dev.spr.waiting = [] →
    Completes (.sprAssistDoorbell f h) s fun e =>
      e.spr.recs = s.dev.spr.recs.filter (fun x => x.handle != h) ∧
      (s.dev.rd F.sprAssistDec_dec = 0 → unitKey r.utype r.logical ∈ e.spr.approved ∧ unitKey r.utype r.logical ∉ e.spr.declined) ∧
      (s.dev.rd F.sprAssistDec_dec ≠ 0 → unitKey r.utype r.logical ∈ e.spr.declined ∧ e.spr.approved = s.dev.spr.approved)) ∧
  (∀ (s : State) (f h : Nat), s.dev.spr.recs.find? (fun r => r.handle == h) = none →
    Completes (.sprAssistDoorbell f h) s fun e => s.dev.recorded e f sprPage.offset 3)

/-- Step commands (R75, R263, R264, R280, R285): STEP_OPEN of a step that may open opens its attempt and ends OK, and one that may not
ends BAD_FIELD; STEP_SEAL seals an OPEN attempt, and after its end it ends STEP_ABORTED; CKPT before the vote marks the attempt, after it
ends BAD_FIELD; RESTORE ends with the status its checks give, or restores. -/
def Obligations.StepCommands : Prop :=
  (∀ (s : State) (q i : Nat), s.dev.partReady q i 0 opSTEP_OPEN = true →
    (s.dev.openWaits (s.dev.qJob q) = false ∨ s.dev.jobSt (s.dev.qJob q) = jsENDED ∨ s.dev.jobSt (s.dev.qJob q) = jsSUPERSEDED) →
    (∀ a, s.dev.openAttempt (s.dev.qJob q) (openStep (s.dev.cmdBody q i)) = some a →
      Answers (.stepOpen q i) s ((s.dev.openStep (s.dev.qJob q) (s.dev.qPart q) (openStep (s.dev.cmdBody q i)) a (openCursor (s.dev.cmdBody q i))).endPart
        q i 0 St.ok)) ∧
    (s.dev.openAttempt (s.dev.qJob q) (openStep (s.dev.cmdBody q i)) = none → Answers (.stepOpen q i) s (s.dev.endPart q i 0 St.badField))) ∧
  (∀ (s : State) (q i : Nat) (r : LedgerRec), s.dev.partReady q i 0 opSTEP_SEAL = true → s.dev.newest (s.dev.qJob q) = some r →
    (r.state = stOPEN → s.dev.coordinates (s.dev.qJob q) = false → s.dev.assist ldgPage = false →
      let x := s.dev.job (s.dev.qJob q)
      let c := s.dev.cmdBody q i
      let d1 := s.dev.setJob (s.dev.qJob q) { x with sealUpdates := sealUpdates c, voteWork := sealVoteWork c }
      Answers (.stepSeal q i) s
        (((d1.updNewest (s.dev.qJob q) (fun r => { r with tSeal := s.dev.now })).setStepState (s.dev.qJob q) stSEALED).endPart q i 0 St.ok)) ∧
    (r.state ≠ stOPEN → Answers (.stepSeal q i) s (s.dev.endPart q i 0 St.stepAborted))) ∧
  (∀ (s : State) (q i : Nat), s.dev.partReady q i 0 opCKPT = true →
    ((s.dev.job (s.dev.qJob q)).voted = false → s.dev.attemptLive (s.dev.qJob q) = true →
      Answers (.ckpt q i) s ((s.dev.updNewest (s.dev.qJob q) (fun r =>
        { r with ckpt := true, ckptHost := r.ckptHost || ckptHost (s.dev.cmdBody q i) == 1 })).endPart q i 0 St.ok)) ∧
    ((s.dev.job (s.dev.qJob q)).voted = true → Answers (.ckpt q i) s (s.dev.endPart q i 0 St.badField))) ∧
  (∀ (s : State) (q i : Nat) (im : Image), s.dev.partReady q i 0 opRESTORE = true → rstSource (s.dev.cmdBody q i) ≠ 1 → im.objs = [] →
    s.dev.restoreCheck (s.dev.qPart q) (s.dev.qJob q) (s.dev.cmdBody q i) (some im) = none →
    Answers (.restore q i (some im)) s ((s.dev.restoreApply (s.dev.qJob q) im).partRan q i 0 0 0 (imageBytes im)))

/-- Votes of the device (R265, R266): a sealed attempt whose updates are done votes READY and its record is READY; one with a failed
command votes ABORT with the first failure's status and ends. Messages of another attempt than the newest are counted in LDG_STALE_MSG and
change nothing else; those of a group that is no job's commit group are ignored (R270). Votes, holds and stalls of the current attempt
while it is undecided (R265, R267, R269): a vote of the member replaces its earlier one and the bound starts; a HOLD is heard; a STALL
restarts the coordinator's bound. -/
def Obligations.VotesHoldsAndStalls : Prop :=
  (
  (∀ (s : State) (j : Nat) (r : LedgerRec), s.dev.newest j = some r → (s.dev.job j).voted = false → r.state = stSEALED →
    (s.dev.job j).failWith = none → (s.dev.job j).sealUpdates ≤ (s.dev.job j).updatesDone → s.dev.ckptRunning j = false →
    Answers (.deviceVote j) s ((s.dev.setStepState j stREADY).castVote j
      { rank := s.dev.grpRank (s.dev.commitGroup j), ready := true, digest := s.dev.voteDigest j r })) ∧
  (∀ (s : State) (j st rank : Nat) (r : LedgerRec), s.dev.newest j = some r → (s.dev.job j).voted = false → r.state = stOPEN ∨ r.state = stSEALED →
    (s.dev.job j).failWith = some (st, rank) →
    let v : Vote := { rank := s.dev.grpRank (s.dev.commitGroup j), ready := false, reason := st, reasonRank := rank, digest := s.dev.voteDigest j r }
    Answers (.deviceVote j) s (((s.dev.castVote j v).originateRed j st rank).abortAttempt j st rank
      ((s.dev.castVote j v).originateRed j st rank).now)) ∧
  (∀ (s : State) (j : Nat), s.dev.newest j = none → Answers (.deviceVote j) s s.dev)) ∧
  (
  ∀ (s : State) (b : Cmd), ∀ c ∈ [Instr.voteReceive b, .holdReceive b, .stallReceive b, .queryReceive b, .answerReceive b, .commitReceive b, .abortReceive b],
    (s.dev.msgJob (readLdgMsg b) = none → Answers c s s.dev) ∧
    (∀ j, s.dev.msgJob (readLdgMsg b) = some (j, false) →
      Completes c s fun e =>
        e.rd (F.ldgStaleMsg j) = min (s.dev.rd (F.ldgStaleMsg j) + 1) (2 ^ (F.ldgStaleMsg j).w - 1) ∧ Dev.changesOnly [.regs] s.dev e ∧
        s.dev.keeps e [(F.ldgStaleMsg j).addr])) ∧
  (
  ∀ (s : State) (b : Cmd) (j : Nat), s.dev.msgJob (readLdgMsg b) = some (j, true) → (s.dev.job j).decision = none → s.dev.attemptLive j = true →
    (s.dev.job j).term ≤ (readLdgMsg b).term →
    (s.dev.assist ldgPage = false →
      let m := readLdgMsg b
      let x := s.dev.job j
      let v : Vote := { rank := m.sender, ready := bitOf m.flags 0, reason := m.reason, reasonRank := m.reasonRank, digest := m.digest }
      Answers (.voteReceive b) s
        (((s.dev.setJob j { x with votes := x.votes.filter (fun w => w.rank != m.sender) ++ [v] }).startBound j).coordDecide j)) ∧
    (Completes (.holdReceive b) s fun e =>
      e.job j = { s.dev.job j with heard := s.dev.now } ∧ Dev.changesOnly [.ldg] s.dev e ∧ ∀ k, k ≠ j → e.job k = s.dev.job k) ∧
    ((s.dev.job j).boundFrom ≠ 0 →
      Completes (.stallReceive b) s fun e =>
        e.job j = { s.dev.job j with boundFrom := s.dev.now + 1 } ∧ Dev.changesOnly [.ldg] s.dev e ∧ ∀ k, k ≠ j → e.job k = s.dev.job k))

/-- The coordinator's periods (R267 to R269): while it has not decided, HOLD goes out every millisecond; the vote bound's end decides
ABORT with VOTE_TIMEOUT for the lowest rank that has not voted; a stalled member sends its STALL every millisecond. A silent coordinator
(R273): once nothing has been heard for the takeover bound, the lowest rank not known silent coordinates under the next term; where that
is another member the device only notes it. A QUERY is answered and its sender is the coordinator; an ANSWER with a COMMIT decides COMMIT. -/
def Obligations.Coordinators : Prop :=
  (
  (∀ (s : State) (j : Nat), s.dev.attemptLive j = true → s.dev.coordinates j = true → (s.dev.job j).decision = none → s.dev.assist ldgPage = false →
    (s.dev.job j).holdNext ≤ s.dev.now → Completes (.holdSend j) s fun e => e.job j = { s.dev.job j with holdNext := s.dev.now + msQ }) ∧
  (∀ (s : State) (j : Nat), s.dev.attemptLive j = true → (s.dev.job j).boundFrom ≠ 0 → (s.dev.job j).boundFrom - 1 + s.dev.voteBound j ≤ s.dev.now →
    s.dev.assist ldgPage = false → s.dev.coordinates j = true → (s.dev.job j).decision = none →
    Answers (.voteTimeout j) s ((s.dev.raiseLdg j 1 St.voteTimeout).decide_ j false 0 St.voteTimeout
      (lowest ((List.range (s.dev.grpSize (s.dev.commitGroup j))).filter (fun r => (s.dev.job j).votes.all (fun v => v.rank != r)))))) ∧
  (∀ (s : State) (j : Nat), s.dev.attemptLive j = true → (s.dev.job j).boundFrom ≠ 0 → (s.dev.job j).boundFrom - 1 + s.dev.voteBound j ≤ s.dev.now →
    s.dev.assist ldgPage = true → (s.dev.job j).boundRaised = false →
    Answers (.voteTimeout j) s ((s.dev.setJob j { s.dev.job j with boundRaised := true }).raiseLdg j 1 St.voteTimeout)) ∧
  (∀ (s : State) (j : Nat), (s.dev.job j).stallFrom ≠ 0 → (s.dev.job j).stallNext ≤ s.dev.now →
    (s.dev.setJob j { s.dev.job j with stallNext := s.dev.now + msQ }).coordinates j = false →
    Completes (.stallSend j) s fun e => e.job j = { s.dev.job j with stallNext := s.dev.now + msQ })) ∧
  (
  (∀ (s : State) (j next : Nat), s.dev.attemptLive j = true → (s.dev.job j).voted = true → (s.dev.job j).decision = none → s.dev.assist ldgPage = false →
    (s.dev.job j).coordRank ≠ s.dev.grpRank (s.dev.commitGroup j) → (s.dev.job j).heard + s.dev.rd F.ldgCfg_takeover * msQ ≤ s.dev.now →
    lowest ((List.range (s.dev.grpSize (s.dev.commitGroup j))).filter (fun r => !((s.dev.job j).silent ++ [(s.dev.job j).coordRank]).contains r)) = next →
    next ≠ s.dev.grpRank (s.dev.commitGroup j) →
    Completes (.coordinatorTakeover j) s fun e =>
      (e.job j).coordRank = next ∧ (e.job j).term = (s.dev.job j).term + 1 ∧ (e.job j).heard = s.dev.now) ∧
  (∀ (s : State) (b : Cmd) (j : Nat), s.dev.msgJob (readLdgMsg b) = some (j, true) → (s.dev.job j).term ≤ (readLdgMsg b).term →
    Completes (.queryReceive b) s fun e =>
      (e.job j).term = (readLdgMsg b).term ∧ (e.job j).coordRank = (readLdgMsg b).sender ∧ (e.job j).heard = s.dev.now) ∧
  (∀ (s : State) (b : Cmd) (j : Nat), s.dev.msgJob (readLdgMsg b) = some (j, true) → (s.dev.job j).recovering = false → (s.dev.job j).querying = true →
    (s.dev.job j).term ≤ (readLdgMsg b).term → bitOf (readLdgMsg b).flags 2 = true →
    Answers (.answerReceive b) s (s.dev.decide_ j true (readLdgMsg b).t 0 0xFFFF)))

/-- Decisions (R271, R272, R275): COMMIT of a READY attempt is held until T_commit, and then the attempt flips; ABORT ends the attempt
with its reason; a red light of another attempt is ignored, and a later copy is counted. -/
def Obligations.Decisions : Prop :=
  (∀ (s : State) (b : Cmd) (j : Nat) (r : LedgerRec), s.dev.msgJob (readLdgMsg b) = some (j, true) → s.dev.newest j = some r → r.state = stREADY →
    (s.dev.job j).decision = none → (s.dev.job j).term ≤ (readLdgMsg b).term → s.dev.now ≤ (readLdgMsg b).t →
    Completes (.commitReceive b) s fun e =>
      (e.job j).decision = some { commit := true, t := (readLdgMsg b).t, decided := (readLdgMsg b).t - s.dev.rd F.ldgCfg_lead * usQ,
                                  rank := (readLdgMsg b).sender, term := (readLdgMsg b).term }) ∧
  (∀ (s : State) (j : Nat) (x : Decision) (r : LedgerRec), (s.dev.job j).decision = some x → x.commit = true → s.dev.newest j = some r →
    r.state = stREADY →
    (x.t ≤ s.dev.now → Answers (.commitApply j) s (s.dev.flip j x.t)) ∧ (s.dev.now < x.t → Answers (.commitApply j) s s.dev)) ∧
  (∀ (s : State) (b : Cmd) (j : Nat) (r : LedgerRec), s.dev.msgJob (readLdgMsg b) = some (j, true) → s.dev.newest j = some r → r.state ≠ stCOMMITTED →
    (s.dev.job j).decision = none → (s.dev.job j).term ≤ (readLdgMsg b).term →
    let m := readLdgMsg b
    let x := s.dev.job j
    let y : Decision := { commit := false, t := m.t, decided := m.t, reason := m.reason, reasonRank := m.reasonRank, rank := m.sender, term := m.term }
    Answers (.abortReceive b) s (((s.dev.setJob j { x with decision := some y }).updNewest j
      (fun r => { r with tDecide := m.t, coord := m.sender, term := m.term })).abortAttempt j m.reason m.reasonRank m.t)) ∧
  (∀ (s : State) (src : Nat) (b : Cmd) (j : Nat) (r : LedgerRec), s.dev.jobOfGroup (cmdBits b 2 0 12) = some j → s.dev.newest j = some r →
    r.step = cmdBits b 16 0 64 → r.attempt = cmdBits b 24 0 16 → (s.dev.job j).redSeen = true → Answers (.redReceive src b) s (s.dev.incSat F.colRedRx 1)) ∧
  (∀ (s : State) (src : Nat) (b : Cmd) (j : Nat) (r : LedgerRec), s.dev.jobOfGroup (cmdBits b 2 0 12) = some j → s.dev.newest j = some r →
    r.step = cmdBits b 16 0 64 → r.attempt = cmdBits b 24 0 16 → (s.dev.job j).redSeen = false →
    let g := cmdBits b 2 0 12
    let rs := (s.dev.others j).filter (fun k => s.dev.memberOf g k != cmdBits b 8 0 64 && s.dev.memberOf g k != src)
    let d1 := rs.foldl (fun d k => d.sendCtrl (d.memberOf g k) 7 (leBytes 40 b.toNat)) s.dev
    let d2 := ((d1.setJob j { d1.job j with redSeen := true }).incSat F.colRedTx rs.length).raise colPage 5 (cmdBits b 4 0 16) { job := j }
    (cmdBits b 32 0 64 < r.tOpen → Answers (.redReceive src b) s d2) ∧
    (r.tOpen ≤ cmdBits b 32 0 64 → d2.attemptLive j = true → d2.coordinates j = false →
      Answers (.redReceive src b) s (d2.abortAttempt j (cmdBits b 4 0 16) (cmdBits b 6 0 16) d2.now)) ∧
    (r.tOpen ≤ cmdBits b 32 0 64 → d2.attemptLive j = true → d2.coordinates j = true → (d2.job j).decision = none → d2.assist ldgPage = false →
      Answers (.redReceive src b) s (d2.decide_ j false 0 (cmdBits b 4 0 16) (cmdBits b 6 0 16)))) ∧
  (∀ (s : State) (f h j : Nat), (List.range 8).find? (fun j => (s.dev.job j).assist == h && h != 0) = some j → (s.dev.job j).drain = none →
    Answers (.ldgAssistDoorbell f h) s ((((s.dev.setJob j { s.dev.job j with assist := 0 }).sixRelease h St.ok).showLdgAssist).hostDecision j)) ∧
  (∀ (s : State) (f h : Nat), (List.range 8).find? (fun j => (s.dev.job j).assist == h && h != 0) = none →
    Completes (.ldgAssistDoorbell f h) s fun e => s.dev.recorded e f ldgPage.offset 3)

/-- Images and parking (R280 to R284, R286): an image whose parts have all ended stands complete; one that fails sets LDG PG_EVENT bit 5
and its drain is over; a member that leaves the parked list un-parks the job when none is left, and a parked job that outlasts PARK_LIMIT
is ENDED. -/
def Obligations.ImagesAndParking : Prop :=
  (∀ (s : State) (j : Nat) (dr : Drain), (s.dev.job j).drain = some dr → dr.left = 0 → dr.hostWait = false →
    Answers (.ckptComplete j) s (s.dev.imageDone j dr.image)) ∧
  (∀ (s : State) (j : Nat), (s.dev.job j).drain.isSome = true →
    (∀ st ∈ [St.noResource, St.peerUnreachable], Answers (.ckptFailed j st) s ((s.dev.raiseLdg j 5 st).drainOver j st)) ∧
    (∀ st, st ≠ St.noResource → st ≠ St.peerUnreachable → Answers (.ckptFailed j st) s s.dev)) ∧
  (∀ (s : State) (b : Cmd) (j : Nat), s.dev.jobOfGroup (readLdgMsg b).group = some j →
    Answers (.parkReceive b) s (s.dev.parkJob j (readLdgMsg b).sender) ∧
    Completes (.unparkReceive b) s fun e => (readLdgMsg b).sender ∉ (e.job j).parked) ∧
  (∀ (s : State) (j : Nat), s.dev.grpRank (s.dev.commitGroup j) ∈ (s.dev.job j).parked →
    Completes (.unpark j) s fun e => s.dev.grpRank (s.dev.commitGroup j) ∉ (e.job j).parked) ∧
  (∀ (s : State) (j : Nat), (s.dev.job j).parked ≠ [] → (s.dev.job j).parkedAt + s.dev.rd F.ldgCfg_parkLimit * secQ ≤ s.dev.now →
    Completes (.parkLimitExpiry j) s fun e => e.eventBit ldgPage 11 = true)

/-- Seeds and scale tables (R277, R157): with no attempt open, the write of RNG_SEED3 makes the 128-bit seed take effect, RNG_SEED_CHK is
its CRC-32C and the seed generation rises; with one open it is recorded and changes no seed; the PF's write of LDG_SCALE_BASE takes the
handle and restarts the warm-up count. -/
def Obligations.SeedsAndScales : Prop :=
  (∀ (s : State) (j : Nat) (v : Word), j < 8 → (s.dev.pageAt 0 ((⟨0, .rng, 0, 0⟩ : Page).offset + 0x8C + 0x20 * j)).isSome = true →
    s.dev.attemptLive j = false →
    Completes (.seedWrite 0 j v) s fun e =>
      (e.job j).seed = s.dev.rd (F.rngSeed0 j) + s.dev.rd (F.rngSeed1 j) * 2 ^ 32 + s.dev.rd (F.rngSeed2 j) * 2 ^ 64 + v.toNat * 2 ^ 96 ∧
      e.rd (F.rngSeedChk j) = crc32c (leBytes 16 (e.job j).seed) % 2 ^ (F.rngSeedChk j).w ∧
      e.rd (F.rngSeedGen j) = (s.dev.rd (F.rngSeedGen j) + 1) % 2 ^ (F.rngSeedGen j).w ∧ ∀ k, k ≠ j → e.job k = s.dev.job k) ∧
  (∀ (s : State) (j : Nat) (v : Word), j < 8 → (s.dev.pageAt 0 ((⟨0, .rng, 0, 0⟩ : Page).offset + 0x8C + 0x20 * j)).isSome = true →
    s.dev.attemptLive j = true →
    Completes (.seedWrite 0 j v) s fun e =>
      s.dev.recorded e 0 ((⟨0, .rng, 0, 0⟩ : Page).offset + 0x8C + 0x20 * j) 3 ∧ ∀ k, e.job k = s.dev.job k) ∧
  (∀ (s : State) (j : Nat) (v : Word), j < 8 → (s.dev.pageAt 0 (F.ldgScaleBase_handle j).addr).isSome = true →
    s.dev.flag (hLock (pfPage .ldg 0 4)) = false →
    Completes (.scaleBaseWrite 0 j v) s fun e =>
      e.rd (F.ldgScaleBase_handle j) = v.toNat ∧
      e.rd (F.ldgScaleState_remain j) = s.dev.rd (F.ldgScaleCfg_warmup j) % 2 ^ (F.ldgScaleState_remain j).w) ∧
  (∀ (s : State) (f j : Nat) (v : Word), f ≠ 0 → j < 8 →
    Completes (.scaleBaseWrite f j v) s fun e => s.dev.recorded e f (F.ldgScaleBase_handle j).addr 0)

/-- Weight sets (R358 to R366): the PF's WSET_DEF write with both slots EMPTY defines the set and gives a fresh handle; a swap of a set
with a READY slot makes that slot ACTIVE, counts it and sets TIR page 3 PG_EVENT bit 2, and its part has run OK; a swap of a set that
cannot swap fails BAD_FIELD. Package loads (R358 to R362, R367): a LOAD_WPK of an undefined set or a slot that is not EMPTY fails
BAD_FIELD; one with an open load whose tables arrive takes them, and a failed read poisons the load; a chunk that the load's source
delivers is taken in order, and opened once the key is there; a relay doorbell with a greater count goes on with the chain, one that names
no load is recorded. -/
def Obligations.WeightSetsAndLoads : Prop :=
  (
  (∀ (s : State) (v : Word), s.dev.rd F.wsetSel_set ≠ 0 → (s.dev.pageAt 0 F.wsetDef_base.addr).isSome = true → s.dev.flag (hLock wsetPage) = false →
    s.dev.slotState (s.dev.rd F.wsetSel_set) 0 = 0 → s.dev.slotState (s.dev.rd F.wsetSel_set) 1 = 0 →
    bitsAt v.toNat 0 16 + bitsAt v.toNat 16 16 + 1 ≤ 65536 →
    Completes (.wsetDefWrite 0 v) s fun e =>
      s.dev.rd F.wsetSel_set ∈ e.wset.defined ∧ e.rd (F.wsetDef_base.bank (s.dev.rd F.wsetSel_set)) = bitsAt v.toNat 0 16 ∧
      e.rd (F.wsetDef_countM1.bank (s.dev.rd F.wsetSel_set)) = bitsAt v.toNat 16 16) ∧
  (∀ (s : State) (v : Word), (s.dev.pageAt 0 F.wsetDef_base.addr).isSome = true → s.dev.flag (hLock wsetPage) = false → s.dev.rd F.wsetSel_set ≠ 0 →
    (s.dev.slotState (s.dev.rd F.wsetSel_set) 0 ≠ 0 ∨ s.dev.slotState (s.dev.rd F.wsetSel_set) 1 ≠ 0) →
    Completes (.wsetDefWrite 0 v) s fun e => s.dev.recorded e 0 F.wsetDef_base.addr 1 ∧ e.wset = s.dev.wset) ∧
  (∀ (s : State) (q i sl : Nat), s.dev.partReady q i 0 opWSET_SWAP = true → swapSet (s.dev.cmdBody q i) ∈ s.dev.wset.defined →
    s.dev.swapTo (swapSet (s.dev.cmdBody q i)) = some sl → sl < 2 →
    Completes (.wsetSwap q i) s fun e =>
      e.slotState (swapSet (s.dev.cmdBody q i)) sl = 3 ∧ e.eventBit wsetPage 2 = true ∧
      mapLook e.wset.swapped (swapSet (s.dev.cmdBody q i)) =
        some (s.dev.now + 1, if s.dev.slotState (swapSet (s.dev.cmdBody q i)) (1 - sl) = 3 then 2 - sl else 0)) ∧
  (∀ (s : State) (q i : Nat), s.dev.partReady q i 0 opWSET_SWAP = true → swapSet (s.dev.cmdBody q i) ∉ s.dev.wset.defined →
    Answers (.wsetSwap q i) s (s.dev.failPart q i 0 St.badField))) ∧
  (
  (∀ (s : State) (q i : Nat) (tables : List Byte) (fail : Bool), s.dev.partReady q i 0 opLOAD_WPK = true → s.dev.load? q i = none →
    s.dev.loadBad (s.dev.cmdBody q i) = true →
    Answers (.loadWpk q i tables fail) s (s.dev.failPart q i 0 St.badField)) ∧
  (∀ (s : State) (q i : Nat) (l : Load) (tables : List Byte), s.dev.partReady q i 0 opLOAD_WPK = true → s.dev.load? q i = some l → l.pred = none →
    l.tables = [] → tables ≠ [] →
    Answers (.loadWpk q i tables false) s ((s.dev.takeTables l tables).chainAsk) ∧
    Answers (.loadWpk q i tables true) s (s.dev.loadPoison l)) ∧
  (∀ (s : State) (q i n : Nat) (l : Load) (bytes : List Byte), s.dev.partReady q i 0 opLOAD_WPK = true → s.dev.load? q i = some l → l.reads n = true →
    Answers (.wpkChunk q i n bytes true) s (s.dev.loadPoison l) ∧
    ((s.dev.takeChunk l n bytes).load? q i = none → Answers (.wpkChunk q i n bytes false) s (s.dev.takeChunk l n bytes)) ∧
    (∀ l', (s.dev.takeChunk l n bytes).load? q i = some l' → l'.assisted = false →
      (∀ r, l'.records.find? (fun r => r.1 == n) = some r → l'.key ≠ [] →
        Answers (.wpkChunk q i n bytes false) s ((s.dev.takeChunk l n bytes).openChunk l' n r.2)) ∧
      (l'.records.find? (fun r => r.1 == n) = none ∨ l'.key = [] → Answers (.wpkChunk q i n bytes false) s (s.dev.takeChunk l n bytes)))) ∧
  (∀ (s : State) (f h : Nat) (l : Load), s.dev.wset.loads.find? (fun l => l.handle != 0 && l.handle == h) = some l → l.avail < s.dev.rd F.tbnChainAvail →
    Answers (.chainAssistDoorbell f h) s
      (((s.dev.updLoad l.q l.i (fun l => { l with avail := s.dev.rd F.tbnChainAvail })).setFlag (hAssistWait chainPage) false).chainAsk)) ∧
  (∀ (s : State) (f h : Nat), s.dev.wset.loads.find? (fun l => l.handle != 0 && l.handle == h) = none →
    Completes (.chainAssistDoorbell f h) s fun e => s.dev.recorded e f chainPage.offset 3))

/-- Partitions (R372 to R374): the PF's write of an unlocked GLB_PART takes ENABLE, FUNC and the range of cores; one that enables what may
not be is refused with GLB PG_EVENT bit 1 and changes none of them; the semaphore limit and the bulk queue keep their legal values; a VF's
write is recorded. -/
def Obligations.Partitions : Prop :=
  (∀ (s : State) (p : Nat) (v : Word), p < 8 → (s.dev.pageAt 0 (F.glbPart_enable p).addr).isSome = true → s.dev.flag (hLock (pfPage .glb 0 1)) = false →
    (bitOf v.toNat 0 = true → s.dev.partRefused p (bitsAt v.toNat 1 4) (bitsAt v.toNat 5 6) (bitsAt v.toNat 11 7) = false) →
    Completes (.partitionWrite 0 p 0 v) s fun e =>
      e.flag (F.glbPart_enable p) = bitOf v.toNat 0 ∧ e.rd (F.glbPart_func p) = bitsAt v.toNat 1 4 ∧ e.rd (F.glbPart_coreFirst p) = bitsAt v.toNat 5 6 ∧
      e.rd (F.glbPart_coreCount p) = bitsAt v.toNat 11 7 ∧ s.dev.keeps e [(F.glbPart_enable p).addr] ∧ Dev.changesOnly [.regs] s.dev e) ∧
  (∀ (s : State) (p : Nat) (v : Word), p < 8 → (s.dev.pageAt 0 (F.glbPart_enable p).addr).isSome = true → s.dev.flag (hLock (pfPage .glb 0 1)) = false →
    bitOf v.toNat 0 = true → s.dev.partRefused p (bitsAt v.toNat 1 4) (bitsAt v.toNat 5 6) (bitsAt v.toNat 11 7) = true →
    Completes (.partitionWrite 0 p 0 v) s fun e =>
      e.eventBit (pfPage .glb 0 0) 1 = true ∧ e.reg (F.glbPart_enable p).addr = s.dev.reg (F.glbPart_enable p).addr) ∧
  (∀ (s : State) (p : Nat) (v : Word), p < 8 → (s.dev.pageAt 0 (F.glbPartSem_semLimit p).addr).isSome = true → s.dev.flag (hLock (pfPage .glb 0 1)) = false →
    Completes (.partitionWrite 0 p 1 v) s fun e => 1 ≤ e.rd (F.glbPartSem_semLimit p) ∧ e.rd (F.glbPartSem_semLimit p) ≤ 65536 ∧
      (1 ≤ bitsAt v.toNat 0 17 → bitsAt v.toNat 0 17 ≤ 65536 → e.rd (F.glbPartSem_semLimit p) = bitsAt v.toNat 0 17)) ∧
  (∀ (s : State) (p : Nat) (v : Word), p < 8 → (s.dev.pageAt 0 (F.glbPartBulk_bulkQ p).addr).isSome = true → s.dev.flag (hLock (pfPage .glb 0 1)) = false →
    Completes (.partitionWrite 0 p 2 v) s fun e => 1 ≤ e.rd (F.glbPartBulk_bulkQ p) ∧ e.rd (F.glbPartBulk_bulkQ p) ≤ 4) ∧
  (∀ (s : State) (f p r : Nat) (v : Word), f ≠ 0 → p < 8 → r < 3 →
    Completes (.partitionWrite f p r v) s fun e => s.dev.recorded e f ((F.glbPart_enable p).addr + 4 * r) 0)

/-- Array parts run (R112 to R114, R126, R136 to R138): a due part of MM, MM_T, CONV or ATTN whose core is there, whose descriptor stands
and is not rejected and whose operands are in T0 in formats that it accepts runs its tiles, and its work is done; a part that names no
live object fails with OBJECT_ABSENT, and one whose descriptor does not fit is rejected. -/
def Obligations.ArrayPartsRun : Prop :=
  (∀ (s : State) (q i p l y : Nat), let x : PartId := ⟨q, i, p⟩; let d := s.dev.sit x l; let c := s.dev.cmdBody q i; let v := s.dev.partView x
    ((mmOpnds descNone c).take 3).any (fun a => d.absent (d.partView x) a.handle) = false →
    d.drains x (mmDrain c) y (d.mmRejects v c y) → d.fed x (mmOpnds y c) → d.savedUnfit x y = false →
    (s.dev.due x opMM l → Completes (.mm q i p none) s fun e => e.hasRun x) ∧
    (s.dev.due x opMM_T l → Completes (.mmT q i p none) s fun e => e.hasRun x)) ∧
  (∀ (s : State) (q i p l y : Nat), let x : PartId := ⟨q, i, p⟩; let d := s.dev.sit x l; let c := s.dev.cmdBody q i; let v := s.dev.partView x
    s.dev.due x opCONV l → ((convOpnds descNone c).take 3).any (fun a => d.absent (d.partView x) a.handle) = false →
    d.drains x (convDrain c) y (d.convRejects v c y) → d.fed x (convOpnds y c) → d.savedUnfit x y = false →
    Completes (.conv q i p none) s fun e => e.hasRun x) ∧
  (∀ (s : State) (q i p l y : Nat), let x : PartId := ⟨q, i, p⟩; let d := s.dev.sit x l; let c := s.dev.cmdBody q i; let v := s.dev.partView x
    s.dev.due x opATTN l → ((attnOpnds descNone c).take 4 ++ attnSaved c).any (fun a => d.absent (d.partView x) a.handle) = false →
    d.drains x (attnDrain c) y (d.attnRejects v c y) → d.fed x (attnOpnds y c) →
    d.actual x (attnQHandle c) (attnQFmt c) ≤ 3 → d.actual x (attnKHandle c) (attnKFmt c) ≤ 3 → d.actual x (attnVHandle c) (attnVFmt c) ≤ 3 →
    Completes (.attn q i p none) s fun e => e.hasRun x) ∧
  (∀ (s : State) (q i p l : Nat) (bad : Option CsFault), let x : PartId := ⟨q, i, p⟩; let d := s.dev.sit x l; let c := s.dev.cmdBody q i
    s.dev.due x opMM l → ((mmOpnds descNone c).take 3).any (fun a => d.absent (d.partView x) a.handle) = true →
    Answers (.mm q i p bad) s (d.failPart q i p St.objectAbsent)) ∧
  (∀ (s : State) (q i p l y : Nat) (bad : Option CsFault), let x : PartId := ⟨q, i, p⟩; let d := s.dev.sit x l; let c := s.dev.cmdBody q i
    s.dev.due x opMM l → ((mmOpnds descNone c).take 3).any (fun a => d.absent (d.partView x) a.handle) = false → mmDrain c ≠ 0 →
    d.reads x (mmDrain c) 128 y → d.mmRejects (s.dev.partView x) c y = true → Answers (.mm q i p bad) s (d.descRejected x))

/-- SLICE (R166 to R173): a due part whose operands are in T0 slices its rows and columns into the workspace, which only then makes its
product phase due; one with a value that is not finite fails with NONFINITE; once every part has sliced, the product phase runs the part's
tiles. Localisation and the ramp (R119, R124): a localisation that finds nothing, the first of its core, leaves the core in use and notes
when it was; one failed column or row alone is noted and repaired; an array without running parts is off once its 427 cycles have passed. -/
def Obligations.SlicingLocalisationAndRamp : Prop :=
  (
  (∀ (s : State) (q i p l : Nat), let x : PartId := ⟨q, i, p⟩; let d := s.dev.sit x l; let c := s.dev.cmdBody q i
    s.dev.isHalf x = false → d.fed x (slOpnds c) → d.slUnfit x c = false →
    ((d.slRows x c ++ d.slCols x c).any (fun r => r.2.any (fun y => !y.isFinite)) = false →
      (s.dev.due x opSLICE64 l → Completes (.slice64 q i p) s fun e => e.isHalf x = true) ∧
      (s.dev.due x opSLICE32 l → Completes (.slice32 q i p) s fun e => e.isHalf x = true)) ∧
    ((d.slRows x c ++ d.slCols x c).any (fun r => r.2.any (fun y => !y.isFinite)) = true →
      (s.dev.due x opSLICE64 l → Answers (.slice64 q i p) s (d.failPart q i p St.nonfinite)) ∧
      (s.dev.due x opSLICE32 l → Answers (.slice32 q i p) s (d.failPart q i p St.nonfinite)))) ∧
  (∀ (s : State) (q i p l : Nat) (m : CmdEx), let x : PartId := ⟨q, i, p⟩; let d := s.dev.sit x l; let c := s.dev.cmdBody q i
    s.dev.cmdAt q i = some m → sliceFailed m.parts = none → m.parts.all (fun y => y.half) = true →
    s.dev.due x opSLICE64 l ∨ s.dev.due x opSLICE32 l → d.fed x (slOpnds c) →
    Completes (.sliceProductPhase q i p none) s fun e => e.hasRun x) ∧
  (∀ (s : State) (q i p : Nat) (m : CmdEx), s.dev.cmdAt q i = some m → sliceFailed m.parts = none → m.parts.all (fun y => y.half) = false →
    Answers (.sliceProductPhase q i p none) s s.dev)) ∧
  (
  (∀ (s : State) (p t : Nat), mapLook s.dev.ccr.loc p = some t → s.dev.spr.resets.any (fun z => z.unit == unitKey 0 p) = false →
    mapLook s.dev.ccr.quiet p = none →
    Completes (.localisationEnd p [] []) s fun e =>
      mapLook e.ccr.quiet p = some (t + 1) ∧ mapLook e.ccr.loc p = none ∧ Dev.changesOnly [.ccr] s.dev e) ∧
  (∀ (s : State) (p t c : Nat), mapLook s.dev.ccr.loc p = some t → s.dev.spr.resets.any (fun z => z.unit == unitKey 0 p) = false →
    s.dev.colUsed p c = true →
    Answers (.localisationEnd p [c] []) s
      (((s.dev.setCcr { s.dev.ccr with loc := mapDel s.dev.ccr.loc p }).wr (F.ccrCsLast_locCol p) c).colFailed p c)) ∧
  (∀ (s : State) (p t r : Nat), mapLook s.dev.ccr.loc p = some t → s.dev.spr.resets.any (fun z => z.unit == unitKey 0 p) = false →
    s.dev.rowUsed p r = true →
    Answers (.localisationEnd p [] [r]) s
      (((s.dev.setCcr { s.dev.ccr with loc := mapDel s.dev.ccr.loc p }).wr (F.ccrCsLast_locRow p) r).rowFailed p r)) ∧
  (∀ (s : State) (p t : Nat), mapLook s.dev.ccr.on p = some t →
    s.dev.runningParts.any (fun r => s.dev.partUnit r.2.2.2 == some (unitKey 0 p)) = false → t - 1 + 427 ≤ s.dev.now →
    Completes (.arrayRampDown p) s fun e => mapLook e.ccr.on p = none ∧ Dev.changesOnly [.ccr] s.dev e))

/-- Arcade parts run (R183 to R208): a due part of VX, SF, NORM, ROUTE, PERMUTE, COMBINE, FFT, GATHER or SCATTER_ADD whose engine is there
and whose operands (and chain descriptor) are in T0 in formats that it accepts does its work, and the part has run; ROUTE first selects,
and assigns rows in its second phase. Row i of a GATHER's output is a copy of the table row that index i names, where the output's bytes
are at addresses of their own. Parts that cannot run yet, or at all (R27, R66, R96): a part for which no unit of its type is left fails
with NO_RESOURCE; one that waits for its unit or for an operand leaves the device as it is, but for its seat; one that names an absent
object fails with OBJECT_ABSENT. -/
def Obligations.ArcadePartsRun : Prop :=
  (
  ∀ (s : State) (q i p l : Nat), let x : PartId := ⟨q, i, p⟩; let d := s.dev.sit x l; let c := s.dev.cmdBody q i; let v := s.dev.partView x
    (∀ y, s.dev.due x opVX l → d.reads x (vxChain c) 256 y → d.chainBad v y c = false → d.chainExtentBad v y c = false → d.fed x (vxOpnds y c) →
      (chInputs y).any (fun k => !laneAccepts (chLane y) (d.actual x (vxIn c k) (chFmt y k))) = false →
      Completes (.vx q i p) s fun e => e.hasRun x) ∧
    (s.dev.due x opSF l → d.fed x (sfOpnds c) → laneAccepts (sfLane c) (d.actual x (sfIn c) (sfInFmt c)) = true →
      Completes (.sf q i p) s fun e => e.hasRun x) ∧
    (s.dev.due x opNORM l → d.fed x (normOpnds c) → laneAccepts (normLane c) (d.actual x (normX c) (normXFmt c)) = true →
      ((normOp c = 2 ∨ normOp c = 3) → laneAccepts (normLane c) (d.actual x (normDy c) (normXFmt c)) = true) →
      Completes (.norm q i p) s fun e => e.hasRun x) ∧
    (s.dev.isHalf x = false → s.dev.due x opROUTE l → d.fed x (routeOpnds c) → d.routeUnfit x c = false →
      Completes (.route q i p) s fun e => e.isHalf x = true) ∧
    (∀ m, s.dev.cmdAt q i = some m → sliceFailed m.parts = none → m.parts.all (fun y => y.half) = true → s.dev.due x opROUTE l →
      d.fed x (routeOpnds c) → Completes (.routePhase2 q i p) s fun e => e.hasRun x) ∧
    (s.dev.due x opPERMUTE l → d.fed x (d.permOpnds v c) →
      (let rows (h : Nat) : Nat := (d.bufferTens v h (permFmt c) (permD c)).rows
       let placed (n : Nat) : Prop := ∀ tok ∈ range' (arcadePart c p).1 (arcadePart c p).2,
         ∀ e ∈ keptOf d.t0 (d.partObj x (permSel c)).2 (permT c) (permK c) tok, e.2.row < n
       if permDir c = 0 then d.actual x (permSrc c) (permFmt c) = permFmt c ∧ d.actual x (permDst c) (permFmt c) = permFmt c ∧ placed (rows (permDst c))
        else laneAccepts 0 (d.actual x (permSrc c) (permFmt c)) = true ∧ placed (rows (permSrc c))) →
      Completes (.permute q i p) s fun e => e.hasRun x) ∧
    (s.dev.due x opCOMBINE l → d.fed x (d.combOpnds v c) →
      laneAccepts 0 (d.tensOf x (combEout c) (d.bufferTens v (combEout c) (combFmt c) (combD c))).2.code = true →
      (combMode c ≠ 0 → laneAccepts 0 (d.tensOf x (combDy c) (tokenTens (combFmt c) (combT c) (combD c))).2.code = true) →
      (∀ tok ∈ range' (arcadePart c p).1 (arcadePart c p).2, ∀ e ∈ keptOf d.t0 (d.partObj x (combSel c)).2 (combT c) (combK c) tok,
        e.2.row < (d.bufferTens v (combEout c) (combFmt c) (combD c)).rows ∧
        (combMode c ≠ 0 → e.2.row < (d.bufferTens v (combY c) (combOutFmt c) (combD c)).rows)) →
      Completes (.combine q i p) s fun e => e.hasRun x) ∧
    (s.dev.due x opFFT l → d.fed x (fftOpnds c) → d.actual x (fftIn c) (fftCode c) = fftCode c → d.actual x (fftOut c) (fftCode c) = fftCode c →
      Completes (.fft q i p) s fun e => e.hasRun x) ∧
    (s.dev.due x opGATHER l → d.fed x (gatOpnds c) → [gatTable c, gatIdx c, gatOut c].any (fun h => (d.objOf v h).2.fmt != 0x1F) = false →
      let tb := (d.partObj x (gatTable c)).2
      let o := (d.partObj x (gatOut c)).2
      let row : Nat → Option Nat := fun r => indexOf (gatRowsM1 c + 1) (d.u32At (d.partObj x (gatIdx c)).2 (gatIdxOff c * 64 + 4 * r))
      let at_ : Nat → Nat → Nat := fun r j => o.addr0 (gatOutOff c * 64 + r * gatW c + j)
      (gatStrict c = 1 → ∀ r' ∈ range' (arcadePart c p).1 (arcadePart c p).2, row r' ≠ none) →
      (Completes (.gather q i p) s fun e => e.hasRun x) ∧
      ∀ r j k, r ∈ range' (arcadePart c p).1 (arcadePart c p).2 → j < gatW c → row r = some k →
        (∀ r' j', r' ∈ range' (arcadePart c p).1 (arcadePart c p).2 → j' < gatW c → (r', j') ≠ (r, j) → at_ r' j' ≠ at_ r j) →
        Completes (.gather q i p) s fun e => e.t0.read (at_ r j) = s.dev.t0.read (tb.addr0 (gatTableOff c * 64 + k * gatW c + j))) ∧
    (s.dev.due x opSCATTER_ADD l → d.fed x (scaOpnds c) → (d.tensOf x (scaDst c) (scaDstT c)).2.code = redCode (scaRed c) →
      (if scaRed c = 3 then laneAccepts 2 (d.tensOf x (scaSrc c) (scaSrcT c)).2.code = true
        else floatCode (d.tensOf x (scaSrc c) (scaSrcT c)).2.code = true) →
      (scaStrict c = 1 → ∀ r ∈ range' (arcadePart c p).1 (arcadePart c p).2,
        let ix := (d.partObj x (scaIdx c)).2
        if scaMode c = 1 then indexOf (scaXRowsM1 c + 1) (d.u32At ix (12 * r)) ≠ none ∧ indexOf (scaRowsM1 c + 1) (d.u32At ix (12 * r + 4)) ≠ none
        else indexOf (scaRowsM1 c + 1) (d.u32At ix (4 * r)) ≠ none) →
      Completes (.scatterAdd q i p) s fun e => e.hasRun x)) ∧
  (
  ∀ (s : State) (q i p : Nat), let x : PartId := ⟨q, i, p⟩; let c := s.dev.cmdBody q i
    (s.dev.partReady q i p opSF = true → s.dev.noUnit x c = true → Answers (.sf q i p) s (s.dev.failPart q i p St.noResource)) ∧
    (s.dev.partReady q i p opSF = true → s.dev.noUnit x c = false → s.dev.seat x = none → Answers (.sf q i p) s s.dev) ∧
    (s.dev.partReady q i p opSF = false → Answers (.sf q i p) s s.dev) ∧
    (∀ l, s.dev.due x opSF l → (s.dev.sit x l).operandFault ((s.dev.sit x l).partView x) (sfOpnds c) = some St.objectAbsent →
      Answers (.sf q i p) s ((s.dev.sit x l).failPart q i p St.objectAbsent)) ∧
    (∀ l, s.dev.due x opSF l → (s.dev.sit x l).operandFault ((s.dev.sit x l).partView x) (sfOpnds c) = none →
      (s.dev.sit x l).inPlace x (sfOpnds c) = false → Answers (.sf q i p) s (s.dev.sit x l)))

/-- Market requests (R92, R93, R96, R98): a granted read of a sound line without an error leaves the device as it is; a granted write
without one gives exactly the enabled bytes of its line the data's bytes, and no other byte of T0 or T1 changes; a refused request stores
nothing and ends as isolation says. -/
def Obligations.MarketRequests : Prop :=
  (∀ (s : State) (port part q i p line : Nat), s.dev.requestRefused port part line false = none → s.dev.mkt.poison.contains line = false →
    Answers (.marketRead port part q i p line 0) s s.dev) ∧
  (∀ (s : State) (port part q i p line : Nat), s.dev.requestRefused port part line false = none → s.dev.mkt.poison.contains line = true →
    Answers (.marketRead port part q i p line 0) s (s.dev.failPart q i p St.eccUncorrectable)) ∧
  (∀ (s : State) (port part q i p line err st : Nat), s.dev.requestRefused port part line false = some st →
    Answers (.marketRead port part q i p line err) s (s.dev.refuseLine ⟨q, i, p⟩ line st)) ∧
  (∀ (s : State) (port part q i p line mask : Nat) (data : List Byte), s.dev.requestRefused port part line true = none →
    Completes (.marketWrite port part q i p line mask data 0) s fun e =>
      (∀ a, e.t0.read a = if line * 64 ≤ a ∧ a < line * 64 + 64 ∧ bitOf mask (a - line * 64) = true then nthD data (a - line * 64) 0 else s.dev.t0.read a) ∧
      Dev.changesOnly [.t0, .mkt, .tir] s.dev e) ∧
  (∀ (s : State) (port part q i p line mask err st : Nat) (data : List Byte), s.dev.requestRefused port part line true = some st →
    Completes (.marketWrite port part q i p line mask data err) s fun e =>
      e = s.dev.refuseLine ⟨q, i, p⟩ line st ∧ e.t0 = s.dev.t0 ∧ e.t1 = s.dev.t1)

/-- Reduction writes (R94): each element of the line becomes its sum with the data's, FP32 rounded once to nearest even or INT32 modulo
2^32, and no byte outside the line changes. -/
def Obligations.ReductionWrites : Prop :=
  ∀ (s : State) (port part q i p line mode stream pass first : Nat) (data : List Byte), s.dev.requestRefused port part line true = none →
    Completes (.reductionWrite port part q i p line mode stream pass first data 0) s fun e =>
      (∀ a, (a < line * 64 ∨ line * 64 + 64 ≤ a) → e.t0.read a = s.dev.t0.read a) ∧ Dev.changesOnly [.t0, .tir] s.dev e ∧
      ∀ k, k < 16 →
        (mode = 3 → leAt (e.t0.readBytes (line * 64) 64) (4 * k) 4 =
          (leAt (s.dev.t0.readBytes (line * 64) 64) (4 * k) 4 + leAt data (4 * k) 4) % 2 ^ 32) ∧
        (mode = 0 → leAt (e.t0.readBytes (line * 64) 64) (4 * k) 4 =
          fp32.ieeeCode .near ((fp32.decode (leAt (s.dev.t0.readBytes (line * 64) 64) (4 * k) 4)).add (fp32.decode (leAt data (4 * k) 4))))

/-- Scrubbing, bank copies and limits (R97, R99, R100): a scrub of a sound line changes nothing, the last of a pass counts the pass; the
end of a bank's copy maps the bank to its reserve, which is one fewer; a limit takes the value written, or the most that the sum of the
nine allows. -/
def Obligations.MarketUpkeep : Prop :=
  (∀ (s : State) (line : Nat), line < 2 ^ 24 - 1 → Answers (.scrubRead line 0) s s.dev) ∧
  (∀ (s : State), Completes (.scrubRead (2 ^ 24 - 1) 0) s fun e =>
      e.rd F.mktScrubPass_passes = (s.dev.rd F.mktScrubPass_passes + 1) % 2 ^ 32 ∧ (∀ b ∈ e.mkt.banks, b.2.ce = 0) ∧ s.dev.keeps e [F.mktScrubPass_passes.addr]) ∧
  (∀ (s : State) (b : Nat), b < 1024 → (s.dev.bank b).state = bkCOPYING →
    Completes (.bankCopyEnd b []) s fun e =>
      (e.bank b).state = bkREPLACED ∧ (e.bank b).phys = (s.dev.bank b).target ∧ e.t0 = s.dev.t0 ∧ e.eventBit mktPage 2 = true) ∧
  (∀ (s : State) (n v : Nat), n < 9 → (s.dev.pageAt 0 (F.mktQuota_limit n).addr).isSome = true → s.dev.flag (hLock (pfPage .mkt 0 0)) = false →
    Completes (.quotaWrite false n v) s fun e =>
      e.rd (F.mktQuota_limit n) = clipLimit (16384 - s.dev.sysGranules) (sumBy (fun k => if k = n then 0 else s.dev.rd (F.mktQuota_limit k)) (List.range 9)) (v % 2 ^ 15) ∧
      (e.rd (F.mktQuota_limit n) < v % 2 ^ 15 → e.eventBit mktPage 7 = true)) ∧
  (∀ (s : State) (n v : Nat), n < 9 → (s.dev.pageAt 0 (F.tirT1Quota_limit n).addr).isSome = true → s.dev.flag (hLock (pfPage .tir 0 0)) = false →
    Completes (.quotaWrite true n v) s fun e =>
      e.rd (F.tirT1Quota_limit n) = clipLimit s.dev.t1Avail (sumBy (fun k => if k = n then 0 else s.dev.rd (F.tirT1Quota_limit k)) (List.range 9)) (v % 2 ^ 19))

/-- The object mailbox (R219): CREATE of a sound request within its limits makes the object under the index it found and answers OK;
DELETE raises the generation, so that the handle names nothing; QUERY answers the record and changes nothing else; a request whose handle
names nothing is answered OBJECT_ABSENT, and one while the mailbox is busy is recorded. Refilling and reloading (R219, R233): REFILL makes
every unit ARRIVING in T1; REFILL_DONE is answered BAD_FIELD unless every unit is being refilled, and OK otherwise; RELOAD makes the T2
copy RESIDENT and clean, and is answered BAD_FIELD where the object has none. -/
def Obligations.ObjectMailboxAndReload : Prop :=
  (
  (∀ (s : State) (f p i : Nat), let r := s.dev.mbxReq f; let owner := if r.attr = 1 then 8 else p
    s.dev.asks f 0 p → s.dev.createBad f r p = false → r.kind ≠ kCOMMITTED → r.t2Addr = 0 → s.dev.newIndex owner = some i →
    (s.dev.tir.objs.filter (fun e => e.2.live)).length < 4194304 →
    Completes (.create f) s fun e => e.answered f = St.ok ∧ ∃ o, e.obj? (owner * 2 ^ 20 + i) = some o ∧ o.live = true ∧ o.sizeL = r.sizeL ∧ o.kind = r.kind ∧
      o.attr = r.attr ∧ o.owner = owner ∧ o.job = r.job ∧ Dev.changesOnly [.regs, .tir] s.dev e) ∧
  (∀ (s : State) (f p : Nat), s.dev.asks f 0 p → s.dev.createBad f (s.dev.mbxReq f) p = true →
    Completes (.create f) s fun e => e.answered f = St.badField ∧ Dev.changesOnly [.regs] s.dev e) ∧
  (∀ (s : State) (f p k : Nat) (o : Obj), s.dev.asksOf f 1 p k o →
    Completes (.delete f) s fun e => e.answered f = St.ok ∧ ∃ o', e.obj? k = some o' ∧ o'.live = false ∧ o'.gen = nextGen o.gen) ∧
  (∀ (s : State) (f p k : Nat) (o : Obj), s.dev.asksOf f 2 p k o →
    Completes (.query f) s fun e => e.answered f = St.ok ∧ Dev.changesOnly [.regs] s.dev e ∧
      ∀ n, n < 8 → e.rd (mbx f (0xC0 + 4 * n) 0 32) = leAt (objRecord k o) (4 * n) 4) ∧
  (∀ (s : State) (f p : Nat), s.dev.asks f 2 p → s.dev.resolve (p + 8 * s.dev.bindNow p) (s.dev.mbxReq f).handle = none →
    Completes (.query f) s fun e => e.answered f = St.objectAbsent ∧ Dev.changesOnly [.regs] s.dev e) ∧
  (∀ (s : State) (f : Nat), (s.dev.mbxReq f).op = 2 → (s.dev.pageAt f ((⟨f, .tir, 0, 1⟩ : Page).offset)).isSome = true → s.dev.flag (mbx f 0xA4 16 1) = true →
    Completes (.query f) s fun e => s.dev.recorded e f ((⟨f, .tir, 0, 1⟩ : Page).offset + 0xA0) 3)) ∧
  (
  (∀ (s : State) (f p k : Nat) (o : Obj), s.dev.asksOf f 3 p k o →
    ((o.state (fun x => x.t1) false ≠ tsABSENT ∧ o.state (fun x => x.t1) false ≠ tsPOISONED) →
      Completes (.refill f) s fun e => e.answered f = St.badField ∧ Dev.changesOnly [.regs] s.dev e) ∧
    ((o.state (fun x => x.t1) false = tsABSENT ∨ o.state (fun x => x.t1) false = tsPOISONED) → s.dev.stepAllowed o = true → (s.dev.ensureT1 k).isSome = true →
      Completes (.refill f) s fun e => e.answered f = St.ok ∧ ∀ u, u < o.unitCount → (e.unitOf k u).t1 = tsARRIVING ∧ (e.unitOf k u).refill = true)) ∧
  (∀ (s : State) (f p k : Nat) (o : Obj), s.dev.asksOf f 4 p k o →
    ((List.range o.unitCount).all (fun u => (o.unit u).t1 == tsARRIVING && (o.unit u).refill) = false →
      Completes (.refillDone f) s fun e => e.answered f = St.badField ∧ Dev.changesOnly [.regs] s.dev e) ∧
    ((List.range o.unitCount).all (fun u => (o.unit u).t1 == tsARRIVING && (o.unit u).refill) = true →
      Completes (.refillDone f) s fun e => e.answered f = St.ok ∧ e.t0 = s.dev.t0 ∧ e.t1 = s.dev.t1)) ∧
  (∀ (s : State) (f p k : Nat) (o : Obj), s.dev.asksOf f 5 p k o →
    (o.t2Addr = 0 → Completes (.reload f) s fun e => e.answered f = St.badField ∧ Dev.changesOnly [.regs] s.dev e) ∧
    (o.t2Addr ≠ 0 → Completes (.reload f) s fun e =>
      e.answered f = St.ok ∧ ∀ u, u < o.unitCount → (e.unitOf k u).t2 = tsRESIDENT ∧ (e.unitOf k u).dirty1 = false)))

/-- References and moves (R226, R228, R232): a reference to a unit that is there is taken, one to a unit on its way waits, one that fails,
or that isolation refuses, fails its part; an upward move that is complete arrives; a write-back that ends is written down; a failed T2
read is tried again 1 ms later, RETRY times at most, and then poisons the unit. Assistance, scrubbing and row repair (R213, R226, R239): a
doorbell that names an open record closes it, one that names none is recorded; the patrol scrubber's read of a sound sector moves to the
next sector, and the last of a stack counts the pass; a row marked for repair whose entries are free takes a reserve row. -/
def Obligations.ReferencesMovesAndUpkeep : Prop :=
  (
  (∀ (s : State) (q i p h u k : Nat) (m : CmdEx) (o : Obj) (d : Dev), s.dev.cmdAt q i = some m → (m.parts[p]?).any (fun x => !x.ended && !x.ran) = true →
    s.dev.resolve (s.dev.viewAt q i) h = some (k, o) → u < o.unitCount → o.writeRefused (s.dev.viewAt q i) = false →
    (s.dev.bring0 k u true m.handle = (.here, d) → Answers (.objectReference q i p h u true 0 0) s ((d.takeRef q i p k u).lookAhead k u)) ∧
    (s.dev.bring0 k u true m.handle = (.coming, d) → Answers (.objectReference q i p h u true 0 0) s ((d.waitRef q i p k u).lookAhead k u)) ∧
    (∀ st, s.dev.bring0 k u true m.handle = (.fail st, d) → Answers (.objectReference q i p h u true 0 0) s (d.failPart q i p st))) ∧
  (∀ (s : State) (q i p h u err line : Nat) (w : Bool) (m : CmdEx), s.dev.cmdAt q i = some m → (m.parts[p]?).any (fun x => !x.ended && !x.ran) = true →
    (s.dev.resolve (s.dev.viewAt q i) h = none → Answers (.objectReference q i p h u w err line) s (s.dev.failPart q i p St.objectAbsent)) ∧
    (∀ k o, s.dev.resolve (s.dev.viewAt q i) h = some (k, o) → u < o.unitCount → o.writeRefused (s.dev.viewAt q i) = true →
      Answers (.objectReference q i p h u true err line) s (s.dev.isolate ⟨q, i, p⟩ St.protectedAccess))) ∧
  (∀ (s : State) (k u : Nat) (data : List Byte), (s.dev.unitOf k u).src ≠ 0 → (s.dev.unitOf k u).retryAt = 0 →
    Answers (.unitArrived k u data) s (s.dev.arrive k u data)) ∧
  (∀ (s : State) (k u t : Nat), s.dev.tir.writeBacks.contains (k, u, t) = true →
    Answers (.writeBackEnd k u t) s
      (((((s.dev.setTir { s.dev.tir with writeBacks := s.dev.tir.writeBacks.filter (· != (k, u, t)) }).writeDown k u t).moveDone k u St.ok).releaseLeft k u).serveWaits)) ∧
  (∀ (s : State) (k u : Nat), Answers (.leavingRelease k u) s ((s.dev.releaseLeft k u).serveWaits)) ∧
  (∀ (s : State) (k u : Nat) (o : Obj), s.dev.obj? k = some o → (o.unit u).src = 3 → (o.unit u).retryAt = 0 →
    ((o.unit u).tries < s.dev.rd F.tirCfg_retry →
      Completes (.t2ReadFail k u) s fun e => (e.unitOf k u).tries = (o.unit u).tries + 1 ∧ (e.unitOf k u).retryAt = s.dev.now + msQ + 1 ∧
        Dev.changesOnly [.tir] s.dev e) ∧
    (s.dev.rd F.tirCfg_retry ≤ (o.unit u).tries → Answers (.t2ReadFail k u) s (s.dev.poisonUnit k u 1))) ∧
  (∀ (s : State) (k u : Nat) (o : Obj), s.dev.obj? k = some o → (o.unit u).src = 3 → (o.unit u).retryAt ≠ 0 → (o.unit u).retryAt ≤ s.dev.now + 1 →
    Completes (.t2Retry k u) s fun e => (e.unitOf k u).retryAt = 0 ∧ e.eventBit tirPage 2 = true)) ∧
  (
  (∀ (s : State) (f h : Nat), s.dev.tir.recs.find? (fun r => r.handle == h) = none →
    Completes (.tirAssistDoorbell f h) s fun e => s.dev.recorded e f tirPage.offset 3) ∧
  (∀ (s : State) (f h : Nat) (r : TirRec), s.dev.tir.recs.find? (fun r => r.handle == h) = some r → (s.dev.unitOf r.obj r.unit).valid0 = true →
    let d := s.dev.setTir { s.dev.tir with recs := s.dev.tir.recs.filter (fun x => x.handle != h) }
    Answers (.tirAssistDoorbell f h) s
      (((d.sixRelease h St.ok).setUnit r.obj r.unit { d.unitOf r.obj r.unit with assist := 0 }).showTir.serveWaits)) ∧
  (∀ (s : State) (k : Nat), s.dev.liveStacks.contains k = true → s.dev.rd (F.hbmState_state k) = 0 → k < 6 →
    Completes (.hbmScrub k 0) s fun e =>
      mapGet 0 e.tir.scrubAt k = (mapGet 0 s.dev.tir.scrubAt k + 1) % 2 ^ 31 ∧
      e.rd (F.hbmScrubPass_passes k) =
        (if mapGet 0 s.dev.tir.scrubAt k + 1 = 2 ^ 31 then (s.dev.rd (F.hbmScrubPass_passes k) + 1) % 2 ^ 32 else s.dev.rd (F.hbmScrubPass_passes k)) ∧
      Dev.changesOnly [.tir, .regs] s.dev e) ∧
  (∀ (s : State) (row : Nat), row < 16384 → row ∈ s.dev.six.badRows → s.dev.six.repaired.length < 32 →
    (∀ n, n < 64 → (mapGet ({} : SixEntry) s.dev.six.entries (row * 64 + n)).state = 0) →
    Completes (.sixRowRepair row 0) s fun e => e.six.repaired = s.dev.six.repaired ++ [row] ∧ row ∉ e.six.badRows ∧ e.eventBit sixPage 2 = true) ∧
  (∀ (s : State) (row : Nat), row < 16384 → (∃ n, n < 64 ∧ (mapGet ({} : SixEntry) s.dev.six.entries (row * 64 + n)).state ≠ 0) →
    Answers (.sixRowRepair row 0) s s.dev))

/-- The tier commands (R229 to R231): each acts on the live object that it names, and fails with OBJECT_ABSENT where there is none; MOVE
is done when every unit stands at the tier, PREFETCH when the moves have been issued; EVICT of a pinned copy fails; PIN of a unit in T0
makes it PINNED; UNPIN makes no unit of the object PINNED. -/
def Obligations.TierCommands : Prop :=
  (∀ (s : State) (q i : Nat), s.dev.resolve (s.dev.viewAt q i) (tierObject (s.dev.cmdBody q i)) = none →
    (s.dev.partReady q i 0 opMOVE = true → Answers (.move q i) s (s.dev.failPart q i 0 St.objectAbsent)) ∧
    (s.dev.partReady q i 0 opPREFETCH = true → Answers (.prefetch q i) s (s.dev.failPart q i 0 St.objectAbsent)) ∧
    (s.dev.partReady q i 0 opEVICT = true → Answers (.evict q i) s (s.dev.failPart q i 0 St.objectAbsent)) ∧
    (s.dev.partReady q i 0 opPIN = true → Answers (.pin q i) s (s.dev.failPart q i 0 St.objectAbsent)) ∧
    (s.dev.partReady q i 0 opUNPIN = true → Answers (.unpin q i) s (s.dev.failPart q i 0 St.objectAbsent))) ∧
  (∀ (s : State) (q i k : Nat) (o : Obj), let c := s.dev.cmdBody q i
    s.dev.resolve (s.dev.viewAt q i) (tierObject c) = some (k, o) →
    (s.dev.partReady q i 0 opMOVE = true → ¬(o.prot = true ∧ tierTier c = 2) →
      (∀ d, s.dev.tierAskAll q i k (tierTier c) (tierUnits o c) = (true, none, d) →
        Answers (.move q i) s ((if tierDropSrc c = 1 then d.dropAbove k (tierTier c) (tierUnits o c) else d).tierDone q i 0)) ∧
      (∀ d, s.dev.tierAskAll q i k (tierTier c) (tierUnits o c) = (false, none, d) → Answers (.move q i) s d) ∧
      (∀ d b st, s.dev.tierAskAll q i k (tierTier c) (tierUnits o c) = (b, some st, d) → Answers (.move q i) s (d.failPart q i 0 st))) ∧
    (s.dev.partReady q i 0 opMOVE = true → o.prot = true → tierTier c = 2 →
      Answers (.move q i) s ((s.dev.failPart q i 0 St.protectedAccess).protRefused)) ∧
    (s.dev.partReady q i 0 opPREFETCH = true → (tierUnits o c).all (fun u => s.dev.issued k u (tierTier c)) = true →
      Completes (.prefetch q i) s fun e => e.hasRun ⟨q, i, 0⟩ ∧ Dev.changesOnly [.kqp] s.dev e) ∧
    (s.dev.partReady q i 0 opEVICT = true → tierTier c = 0 → (tierUnits o c).any (fun u => (o.unit u).t0 == tsPINNED) = true →
      Answers (.evict q i) s (s.dev.failPart q i 0 St.badField)) ∧
    (s.dev.partReady q i 0 opEVICT = true → tierTier c = 0 → (∀ u ∈ tierUnits o c, (o.unit u).t0 = tsABSENT ∨ (o.unit u).t0 = tsPOISONED) →
      Answers (.evict q i) s ((s.dev.tierDone q i 0).serveWaits)) ∧
    (∀ u, s.dev.partReady q i 0 opEVICT = true → tierTier c = 0 → tierUnits o c = [u] → (o.unit u).t0 = tsRESIDENT → (o.unit u).ref0 = 0 →
      (o.unit u).dirty0 = false → s.dev.tir.writeBacks.contains (k, u, 0) = false →
      Answers (.evict q i) s ((((s.dev.setUnit k u { o.unit u with t0 := tsLEAVING }).releaseLeft k u).tierDone q i 0).serveWaits)) ∧
    (s.dev.partReady q i 0 opPIN = true → (o.unit 0).valid0 = true →
      Completes (.pin q i) s fun e => (e.unitOf k 0).t0 = tsPINNED ∧ e.hasRun ⟨q, i, 0⟩ ∧ Dev.changesOnly [.tir, .mkt, .kqp] s.dev e) ∧
    (s.dev.partReady q i 0 opUNPIN = true →
      Completes (.unpin q i) s fun e => e.hasRun ⟨q, i, 0⟩ ∧ Dev.changesOnly [.tir, .mkt, .kqp] s.dev e ∧
        ∀ u, u < o.unitCount → (e.unitOf k u).t0 = if (o.unit u).t0 = tsPINNED then tsRESIDENT else (o.unit u).t0))

/-- Collective commands (R342 to R351): a due collective that has not begun begins and goes as far as it can, one that has begun goes on;
one whose opcode is another does nothing. Waits and layouts (R349, R353): a collective that has waited for a rank for the whole bound
fails with MEMBER_MISSING and sets COL PG_EVENT bit 6; a wait within its bound does not; RESHARD takes only the next layout epoch, only
without a live attempt and without collectives of the old epoch. -/
def Obligations.Collectives : Prop :=
  (
  ∀ (s : State) (q i : Nat) (k : Coll), s.dev.coll? q i = some k → let own := if k.begun then s.dev.collAdvance q i else (s.dev.collBegin q i).collAdvance q i
    (s.dev.partReady q i 0 opALLREDUCE = true → Answers (.allreduce q i) s own) ∧
    (s.dev.partReady q i 0 opREDUCE_SCATTER = true → Answers (.reduceScatter q i) s own) ∧
    (s.dev.partReady q i 0 opALLGATHER = true → Answers (.allgather q i) s own) ∧
    (s.dev.partReady q i 0 opALLTOALL = true → Answers (.alltoall q i) s own) ∧
    (s.dev.partReady q i 0 opBCAST_CHAIN = true → Answers (.bcastChain q i) s own) ∧
    (s.dev.partReady q i 0 opSEND = true → Answers (.send q i) s own) ∧
    (s.dev.partReady q i 0 opRECV = true → Answers (.recv q i) s own) ∧
    (s.dev.partReady q i 0 opBARRIER = true → Answers (.barrier q i) s own) ∧
    (s.dev.partReady q i 0 opALLREDUCE = false → Answers (.allreduce q i) s s.dev)) ∧
  (
  (∀ (s : State) (q i rank : Nat) (k : Coll) (p : Posted), s.dev.coll? q i = some k → k.status = 0 → p.handle = 0 →
    k.posted.find? (fun p => !p.done && p.rank == rank && decide (p.since + s.dev.waitBound p.len ≤ s.dev.now)) = some p →
    Completes (.collectiveWaitTimeout q i rank) s fun e =>
      e = (s.dev.failColl q i St.memberMissing rank).raise colPage 6 St.memberMissing { job := s.dev.qJob q } ∧ e.eventBit colPage 6 = true) ∧
  (∀ (s : State) (q i rank : Nat) (k : Coll), s.dev.coll? q i = some k → (∀ p ∈ k.posted, s.dev.now < p.since + s.dev.waitBound p.len) →
    Answers (.collectiveWaitTimeout q i rank) s s.dev) ∧
  (∀ (s : State) (q i : Nat), s.dev.partReady q i 0 opRESHARD = true → let j := s.dev.qJob q; let old := s.dev.rd (F.colLayout j); let new := reshNewEpoch (s.dev.cmdBody q i)
    (new ≠ (old + 1) % 2 ^ 16 → Answers (.reshard q i) s (s.dev.endPart q i 0 St.badField)) ∧
    (new = (old + 1) % 2 ^ 16 → s.dev.attemptLive j = true → Answers (.reshard q i) s (s.dev.stepFailure j St.staleEpoch 0xFFFF)) ∧
    (new = (old + 1) % 2 ^ 16 → s.dev.attemptLive j = false →
      s.dev.col.colls.any (fun k => s.dev.qJob k.q == j && k.seq != seqSEND && k.epoch == old) = false →
      Answers (.reshard q i) s ((s.dev.wr (F.colLayout j) new).endPart q i 0 St.ok))))

/-- Updates (R245 to R252, R260): a frozen group's command is skipped and counted; a due UPDATE or STATS whose unit is free runs on it; an
UPDATE that an image still needs the buffers of waits. Groups, windows and assisted updates (R241, R244, R260): GROUP_CFG leaves its entry
pending under the job and group, and runs OK; a window that a unit has held for HOLD is let go, and not taken for GAP; a doorbell that
does not name the unit's open record is recorded. -/
def Obligations.UpdatesGroupsAndWindows : Prop :=
  (
  ∀ (s : State) (q i : Nat), let c := s.dev.cmdBody q i; let v := s.dev.viewAt q i; let j := s.dev.qJob q; let k := s.dev.updStack v c; let e := s.dev.grpCurrent j (updGroup c)
    (grpFrozen e = 1 →
      (s.dev.partReady q i 0 opUPDATE = true → Answers (.update q i) s (s.dev.frozenSkip q i k c)) ∧
      (s.dev.partReady q i 0 opSTATS = true → Answers (.stats q i) s (s.dev.frozenSkip q i k c))) ∧
    (grpFrozen e ≠ 1 → s.dev.partReady q i 0 opUPDATE = true → s.dev.imageBlocks v j c = true → Answers (.update q i) s (s.dev.stallBegin q i)) ∧
    (∀ d norm, grpFrozen e ≠ 1 → s.dev.partReady q i 0 opUPDATE = true → s.dev.imageBlocks v j c = false → (s.dev.stallEnd q i).updStart v j k e c false = none →
      (s.dev.stallEnd q i).assist (acrPage k 0) = false → (s.dev.stallEnd q i).flag (F.acrState_busy k) = false → (s.dev.stallEnd q i).windowFree k = true →
      (s.dev.stallEnd q i).stageT1 (([updGrad c, updStatsWs c].filter (· != 0)).map (fun h => ((s.dev.stallEnd q i).objOf v h).1)) none = some d →
      d.normRecord v j = some norm →
      (gscaleBad norm = false → Answers (.update q i) s ((d.takeUnit k).runUpdate q i k e c norm)) ∧
      (gscaleBad norm = true → Answers (.update q i) s (d.failPart q i 0 St.badField))) ∧
    (∀ d norm, grpFrozen e ≠ 1 → s.dev.partReady q i 0 opSTATS = true → s.dev.updStart v j k e c true = none →
      s.dev.assist (acrPage k 0) = false → s.dev.flag (F.acrState_busy k) = false → s.dev.windowFree k = true →
      s.dev.stageT1 [(s.dev.objOf v (updGrad c)).1] (some (s.dev.objOf v (updStatsWs c)).1) = some d → d.normRecord v j = some norm → gscaleBad norm = false →
      Answers (.stats q i) s ((d.takeUnit k).runStats q i k e c norm)) ∧
    (∀ st, grpFrozen e ≠ 1 → s.dev.partReady q i 0 opSTATS = true → s.dev.updStart v j k e c true = some st → Answers (.stats q i) s (s.dev.failPart q i 0 st))) ∧
  (
  (∀ (s : State) (q i : Nat), s.dev.partReady q i 0 opGROUP_CFG = true →
    Completes (.groupCfg q i) s fun e =>
      mapGet 0 e.acr.pending (s.dev.qJob q * 4096 + grpGroup (s.dev.cmdBody q i)) = (s.dev.cmdBody q i).toNat / 2 ^ 128 ∧
      e.hasRun ⟨q, i, 0⟩ ∧ e.acr.current = s.dev.acr.current ∧ Dev.changesOnly [.acr, .kqp] s.dev e) ∧
  (∀ (s : State) (k t : Nat), mapLook s.dev.acr.window k = some t →
    (t + s.dev.rd (F.acrWindowCfg_hold k) * usQ ≤ s.dev.now →
      Completes (.acrWindowRelease k) s fun e =>
        mapLook e.acr.window k = none ∧ mapGet 0 e.acr.gap k = s.dev.now + s.dev.rd (F.acrWindowCfg_gap k) * 400 ∧ Dev.changesOnly [.acr] s.dev e) ∧
    (s.dev.now < t + s.dev.rd (F.acrWindowCfg_hold k) * usQ → Answers (.acrWindowRelease k) s s.dev)) ∧
  (∀ (s : State) (f k h : Nat), (∀ a, mapLook s.dev.acr.assist k = some a → a.handle ≠ h) →
    Completes (.acrAssistDoorbell f k h) s fun e => s.dev.recorded e f (acrPage k 0).offset 3) ∧
  (∀ (s : State) (f k h : Nat) (a : AcrAssist), mapLook s.dev.acr.assist k = some a → a.handle = h →
    Completes (.acrAssistDoorbell f k h) s fun e =>
      mapLook e.acr.assist k = none ∧ (∀ k', k' ≠ k → mapLook e.acr.assist k' = mapLook s.dev.acr.assist k') ∧
      (s.dev.partReady a.q a.i 0 opUPDATE = true → e.hasRun ⟨a.q, a.i, 0⟩)))

/-- Links and lanes (R292 to R295): a port that may link at a rate comes up there; an UP link that fails brings itself up anew; without
link for LINK_WAIT the next lower usable rate is tried; a failed lane is shown, and its port starts again or waits for the host's
approval; retraining, clearing lanes and disabling act on any port. -/
def Obligations.LinksAndLanes : Prop :=
  (∀ (s : State) (p r : Nat), s.dev.mayLink p r = true →
    let d := (s.dev.setPortSt p psUP r ((s.dev.lanesFor p r).getD 0)).setPort p { (s.dev.setPortSt p psUP r ((s.dev.lanesFor p r).getD 0)).port p with lastRate := r }
    Answers (.linkUp p r) s
      ((((d.raiseBits (fabPage p) (if (s.dev.port p).lastRate ≠ 0 ∧ (s.dev.port p).lastRate ≠ r then [0, 3] else [0]) St.ok).portHealth p).sendLldp p).pumpAll)) ∧
  (∀ (s : State) (p r : Nat), s.dev.mayLink p r = false → Answers (.linkUp p r) s s.dev) ∧
  (∀ (s : State) (p : Nat), s.dev.portUp p = true → Answers (.linkDown p) s (s.dev.startPort p)) ∧
  (∀ (s : State) (p r : Nat), s.dev.flag (F.fabPortCfg_medium p) = true → s.dev.portSt p = psNO_SIGNAL →
    (s.dev.port p).tryFrom + s.dev.rd (F.fabPortCfg_linkWait p) * 100 * msQ ≤ s.dev.now →
    ((s.dev.usableRates p).find? (fun r => decide (r < (s.dev.port p).trying)) = some r ∨
      ((s.dev.usableRates p).find? (fun r => decide (r < (s.dev.port p).trying)) = none ∧ (s.dev.usableRates p).head? = some r)) →
    Completes (.rateFallback p) s fun e => (e.port p).trying = r ∧ (e.port p).tryFrom = s.dev.now ∧ Dev.changesOnly [.fab] s.dev e) ∧
  (∀ (s : State) (p l : Nat), p < 24 → l < 4 → s.dev.laneGood p l = true → s.dev.portSt p ≠ psDISABLED →
    let d := s.dev.dropLink p psDOWN
    let d := ((((d.wr (F.fabPortState_failed p) (d.rd (F.fabPortState_failed p) ||| 2 ^ l)).raise (fabPage p) 2 St.ok).countLane p l).portHealth p)
    d.assist sprPage = false → Answers (.laneFail p l) s (d.startPort p)) ∧
  (∀ (s : State) (p : Nat), p < 24 →
    ((s.dev.port p).waiting = false → Answers (.portRetrain p) s (s.dev.startPort p)) ∧
    ((s.dev.port p).waiting = true → Answers (.portRetrain p) s s.dev) ∧
    Answers (.retrainClearLanes p) s
      ((s.dev.wr (F.fabPortState_failed p) (s.dev.rd (F.fabPortState_failed p) &&& s.dev.rd (F.fabPortState_retired p))).startPort p) ∧
    Completes (.portDisable p) s fun e => e.flag (F.fabPortCfg_enable p) = false)

/-- Received frames (R296 to R299, R305): a refused frame counts in the counter of its cause alone; a request for an own address is
answered; echo requests are answered, at most 100 a second; an LLDPDU becomes the port's neighbour, or with TTL 0 takes it away, and only
a change sets FAB PG_EVENT bit 5; a neighbour whose time is over is forgotten. Sending and pausing (R301 to R306): the next frame of a
port leaves; an LLDPDU that is due, or whose contents have changed, is sent; a PFC frame pauses its classes; a held class is paused once
over XOFF and resumed under XON; a pause ends at its time, or by the watchdog, which then holds pauses off; a stamp read leaves its FIFO. -/
def Obligations.FramesReceivedAndSent : Prop :=
  (
  (∀ (s : State) (p : Nat) (fr : RxFrame), s.dev.portUp p = true →
    (∀ c, s.dev.refusal p fr = some c → Completes (.frameRefused p fr) s fun e =>
      e.rd c = min (s.dev.rd c + 1) (2 ^ c.w - 1) ∧ s.dev.keeps e [c.addr] ∧ Dev.changesOnly [.regs] s.dev e) ∧
    (s.dev.refusal p fr = none → Answers (.frameRefused p fr) s s.dev)) ∧
  (∀ (s : State) (p fam : Nat) (target asker : List Byte), s.dev.portUp p = true →
    (s.dev.ownsAddr fam target = true → Completes (.arpReceive p fam target asker) s fun e =>
      e.rd (F.fabRxFrames p) = (s.dev.rd (F.fabRxFrames p) + 1) % 2 ^ 32 ∧ e.rd (F.fabTxFrames p) = (s.dev.rd (F.fabTxFrames p) + 1) % 2 ^ 32 ∧
      Dev.changesOnly [.regs, .out] s.dev e) ∧
    (s.dev.ownsAddr fam target = false → Answers (.arpReceive p fam target asker) s s.dev)) ∧
  (∀ (s : State) (p fam : Nat) (target asker body : List Byte), s.dev.portUp p = true → s.dev.ownsAddr fam target = true →
    (((s.dev.port p).echoes.filter (fun t => decide (s.dev.now < t + secQ))).length < 100 →
      Completes (.echoRequest p fam target asker body) s fun e => e.rd (F.fabTxFrames p) = (s.dev.rd (F.fabTxFrames p) + 1) % 2 ^ 32 ∧
        (e.port p).echoes = (s.dev.port p).echoes.filter (fun t => decide (s.dev.now < t + secQ)) ++ [s.dev.now]) ∧
    (100 ≤ ((s.dev.port p).echoes.filter (fun t => decide (s.dev.now < t + secQ))).length →
      Completes (.echoRequest p fam target asker body) s fun e => e.out = s.dev.out ∧ e.rd (F.fabTxFrames p) = s.dev.rd (F.fabTxFrames p))) ∧
  (∀ (s : State) (p ttl : Nat) (chassis port tlv : List Byte) (mgmt : List (Nat × Nat)), s.dev.portUp p = true → p < 24 →
    Completes (.lldpduReceive p ttl chassis port tlv mgmt) s fun e =>
      (e.port p).nbr = (if ttl = 0 then none else some { chassis := chassis, port := port, tlv := tlv, mgmt := mgmt, expires := s.dev.now + ttl * secQ }) ∧
      ((s.dev.port p).nbr.isSome ≠ decide (ttl ≠ 0) → e.eventBit (fabPage p) 5 = true)) ∧
  (∀ (s : State) (p : Nat) (x : Neighbour), p < 24 → (s.dev.port p).nbr = some x →
    (x.expires ≤ s.dev.now → Completes (.lldpNeighbourExpire p) s fun e => (e.port p).nbr = none ∧ e.eventBit (fabPage p) 5 = true) ∧
    (s.dev.now < x.expires → Answers (.lldpNeighbourExpire p) s s.dev))) ∧
  (
  (∀ (s : State) (p align : Nat), s.dev.portUp p = true → s.dev.nextQueue p = none → Answers (.frameTransmit p align) s s.dev) ∧
  (∀ (s : State) (p align q : Nat) (x : FabPort) (f : Frame) (rest : List Frame), s.dev.portUp p = true → s.dev.nextQueue p = some (q, x) →
    takeFrame q x.txq = some (f, rest) → q ≠ 0 → f.kind ≠ .ptp →
    Answers (.frameTransmit p align) s
      ((((s.dev.setPort p { x with txq := rest }).emit f.kind f.dest ([p, q, s.dev.portMac p] ++
        (if s.dev.flag (F.fabPortCfg_tagEn p) then [1, s.dev.rd (F.fabVlan_vid p), s.dev.pcp p q] else [0, 0, 0]) ++ f.data) f.bytes).inc (F.fabTxFrames p) 1).pumpAll)) ∧
  (∀ (s : State) (p : Nat), (s.dev.port p).lldpNext ≤ s.dev.now ∨ (s.dev.port p).lldpSent ≠ s.dev.lldpdu p (s.dev.lldpTtl p) →
    Answers (.lldpSend p) s (s.dev.sendLldp p)) ∧
  (∀ (s : State) (p : Nat) (quanta : List Nat), s.dev.portUp p = true → p < 24 →
    Completes (.pfcFrameReceive p 0 quanta) s fun e => e.rd (F.fabPfcRx p) = min (s.dev.rd (F.fabPfcRx p) + 1) (2 ^ 32 - 1) ∧ e.fab = s.dev.fab) ∧
  (∀ (s : State) (p c n : Nat) (quanta : List Nat), s.dev.portUp p = true → p < 24 → c < 8 → n ≠ 0 → nthD quanta c 0 = n → bitOf (s.dev.rd (F.fabPfc_en p)) c = true → c ≠ s.dev.pcp p 7 →
    mapLook (s.dev.port p).holdEnd c = none → s.dev.wdDue p c = false →
    Completes (.pfcFrameReceive p (2 ^ c) quanta) s fun e => mapLook (e.port p).pauseEnd c = some (s.dev.now + s.dev.quantaQ p n)) ∧
  (∀ (s : State) (p c held : Nat), s.dev.portUp p = true → c < 8 → bitOf (s.dev.rd (F.fabPfc_en p)) c = true → c ≠ s.dev.pcp p 6 → c ≠ s.dev.pcp p 7 →
    mapLook (s.dev.port p).xoff c = none →
    ((s.dev.rd (F.fabPfc_xoff p) + 1) * 65536 < held →
      Answers (.pfcXoffRepeat p c held) s ((s.dev.setPort p { s.dev.port p with xoff := mapPut (s.dev.port p).xoff c s.dev.now }).sendPfc p c 65535)) ∧
    (held ≤ (s.dev.rd (F.fabPfc_xoff p) + 1) * 65536 → Answers (.pfcXoffRepeat p c held) s s.dev)) ∧
  (∀ (s : State) (p c t : Nat), mapLook (s.dev.port p).pauseEnd c = some t →
    (t ≤ s.dev.now → Completes (.pauseExpiry p c) s fun e => mapLook (e.port p).pauseEnd c = none ∧ mapLook (e.port p).pauseFrom c = none ∧
      ∀ c', c' ≠ c → mapLook (e.port p).pauseEnd c' = mapLook (s.dev.port p).pauseEnd c') ∧
    (s.dev.now < t → Answers (.pauseExpiry p c) s s.dev)) ∧
  (∀ (s : State) (p c t : Nat), p < 24 → mapLook (s.dev.port p).pauseFrom c = some t → t + s.dev.wdQ p < s.dev.now →
    Completes (.pauseWatchdog p c) s fun e => mapLook (e.port p).pauseEnd c = none ∧ e.eventBit (fabPage p) 4 = true ∧
      mapLook (e.port p).holdEnd c = some (s.dev.now + s.dev.rd (F.fabPauseWd_holdoff p) * 10 * msQ)) ∧
  (∀ (s : State) (p c t : Nat), mapLook (s.dev.port p).holdEnd c = some t →
    (t ≤ s.dev.now → Completes (.pauseHoldoffEnd p c) s fun e => mapLook (e.port p).holdEnd c = none ∧ Dev.changesOnly [.regs, .fab] s.dev e) ∧
    (s.dev.now < t → Answers (.pauseHoldoffEnd p c) s s.dev)) ∧
  (∀ (s : State) (p : Nat), p < 24 → Completes (.tsFifoPop p) s fun e => (e.port p).tsFifo = (s.dev.port p).tsFifo.drop 1 ∧
    e.flag (F.fabTsFifo3_valid p) = !((s.dev.port p).tsFifo.drop 1).isEmpty ∧ e.flag (F.fabTsFifo3_overflow p) = false) ∧
  (∀ (s : State) (p : Nat), (s.dev.port p).wakeLock ≠ 0 → (s.dev.port p).wakeLock ≤ s.dev.now →
    Completes (.wakeLockoutEnd p) s fun e => (e.port p).wakeLock = 0 ∧ (e.port p).wakeRej = [] ∧ Dev.changesOnly [.fab] s.dev e))

/-- Packets that are not taken (R314, R317): one for no open connection, or of another version, is dropped and counted, whatever its type;
a duplicate and one outside the window are counted, and only a new one is taken: no memory changes. Data and control messages that are
taken (R316 to R318): data for a receive that is not posted is answered NOT_READY; data for one that is goes to its place, and its
collective goes on; a new control message is held by its stamp until CTRL_HOLD has passed, and then delivered; a packet whose CRC fails is
counted. -/
def Obligations.TransportPackets : Prop :=
  (
  (∀ (s : State) (c ver : Nat), (∀ x, s.dev.conn? c = some x → x.isOpen = false ∨ x.ver ≠ ver) →
    (∀ psn m off ep st g r l stamp ce bs, Answers (.dataReceive c ver psn m off ep st g r l stamp ce bs) s s.dev.rxBad) ∧
    (∀ psn m stamp ce body, Answers (.ctrlReceive c ver psn m stamp ce body) s s.dev.rxBad) ∧
    (∀ cum bm stamp stale, Answers (.ackReceive c ver cum bm stamp stale) s s.dev.rxBad) ∧
    (∀ psns u, Answers (.nackReceive c ver psns u) s s.dev.rxBad) ∧
    (∀ psn, Answers (.notReadyReceive c ver psn) s s.dev.rxBad) ∧
    Answers (.cnpReceive c ver) s s.dev.rxBad) ∧
  (∀ (s : State) (c psn : Nat) (x : Conn), s.dev.conn? c = some x → x.isOpen = true → x.place psn = 2 →
    ∀ m off ep st g r l stamp bs, Completes (.dataReceive c x.ver psn m off ep st g r l stamp false bs) s fun e =>
      e.rd F.tbnOutWin = min (s.dev.rd F.tbnOutWin + 1) (2 ^ 32 - 1) ∧ e.rd F.tbnRxPkts = (s.dev.rd F.tbnRxPkts + 1) % 2 ^ 32 ∧ Dev.changesOnly [.regs] s.dev e) ∧
  (∀ (s : State) (c psn : Nat) (x : Conn), s.dev.conn? c = some x → x.isOpen = true → x.place psn = 1 →
    ∀ m stamp body, Completes (.ctrlReceive c x.ver psn m stamp false body) s fun e =>
      e.rd F.tbnDup = min (s.dev.rd F.tbnDup + 1) (2 ^ 32 - 1) ∧ e.conn? c = some (x.toAck stamp s.dev.now) ∧ Dev.changesOnly [.regs, .tbn] s.dev e)) ∧
  (
  (∀ (s : State) (c psn m off ep st g r l stamp : Nat) (bs : List Byte) (x : Conn), s.dev.conn? c = some x → x.isOpen = true → x.place psn = 0 →
    let d := s.dev.inc F.tbnRxPkts 1
    s.dev.grpValid g = true → nthD (s.dev.grp g).members r 0 = x.peer → nthD (s.dev.grp g).parts r 0 = x.peerPart → r < (s.dev.grp g).size →
    m / 2 ^ 20 = g → m / 4096 % 256 = seqSEND →
    (s.dev.findPosted g r m = none → s.dev.chainLoad g r = none →
      Answers (.dataReceive c x.ver psn m off ep st g r l stamp false bs) s (d.notReady c psn)) ∧
    (∀ k p, s.dev.findPosted g r m = some (k, p) → p.handle ≠ 0 → l + 1 ≤ p.len → off + bs.length ≤ l + 1 →
      Answers (.dataReceive c x.ver psn m off ep st g r l stamp false bs) s
        (((d.setConn c (x.take psn stamp s.dev.now)).placeData k p off l bs).collAdvance k.q k.i))) ∧
  (∀ (s : State) (c psn m stamp : Nat) (body : List Byte) (x : Conn), s.dev.conn? c = some x → x.isOpen = true → x.place psn = 0 →
    let h : HeldCtrl := { stamp := stamp, device := x.peer, msgId := m, due := stamp + s.dev.rd F.tbnTimer_ctrlHold * usQ, body := body }
    (∀ l, s.dev.tbn.last = some l → ctrlLt h.key l = false) →
    Completes (.ctrlReceive c x.ver psn m stamp false body) s fun e =>
      e.tbn.held = holdCtrl h s.dev.tbn.held ∧ e.conn? c = some (x.take psn stamp s.dev.now) ∧ Dev.changesOnly [.regs, .tbn] s.dev e) ∧
  (∀ (s : State) (h : HeldCtrl) (rest : List HeldCtrl), s.dev.tbn.held = h :: rest →
    (h.due ≤ s.dev.now → Answers .ctrlDeliver s ((s.dev.setTbn { s.dev.tbn with held := rest, last := some h.key }).deliver h.device h.body)) ∧
    (s.dev.now < h.due → Answers .ctrlDeliver s s.dev)) ∧
  (∀ (s : State) (c psn g r m : Nat), s.dev.conn? c = none →
    Completes (.packetCrcFail c psn g r m) s fun e =>
      e.rd F.tbnCrcFail = min (s.dev.rd F.tbnCrcFail + 1) (2 ^ 32 - 1) ∧ s.dev.keeps e [F.tbnCrcFail.addr] ∧ Dev.changesOnly [.regs] s.dev e))

/-- Acknowledgement and loss (R316, R319 to R321): an ACK that covers nothing only counts as a packet; NOT_READY marks its packet; a NACK
that names nothing sends what can go; the timer's end makes the oldest packet LOST and doubles the timer up to RTO_MAX; ACKs and NACKs go
out when they are due, and not before. Rates (R326): a CNP lowers the rate by one part in 2^b, not below RMIN and at most once per
DEC_GAP, and starts the increase anew; a quiet INC_PERIOD raises it by A, not above the full rate, and A doubles after FAST_N such
periods. -/
def Obligations.AcksLossesAndRates : Prop :=
  (
  (∀ (s : State) (c cum bm stamp : Nat) (stale : Bool) (x : Conn), s.dev.conn? c = some x → x.isOpen = true → (∀ k ∈ x.pkts, ackCovers cum bm k.psn = false) →
    Answers (.ackReceive c x.ver cum bm stamp stale) s (s.dev.inc F.tbnRxPkts 1)) ∧
  (∀ (s : State) (c cum bm stamp : Nat) (x : Conn), s.dev.conn? c = some x → x.isOpen = true → (∃ k ∈ x.pkts, ackCovers cum bm k.psn = true) →
    let d := s.dev.inc F.tbnRxPkts 1
    let d := d.setConn c { x with pkts := x.pkts.filter (fun k => !ackCovers cum bm k.psn), rto := d.rd F.tbnTimer_rtoMin * usQ, rtoFrom := d.now, lastUse := d.now }
    let d := (x.pkts.filter (fun k => ackCovers cum bm k.psn)).foldl (fun d k =>
      let st := d.pathSt x.peer k.path
      if st.excluded then d else d.setPath x.peer k.path { st with losses := 0 }) d
    Answers (.ackReceive c x.ver cum bm stamp false) s (((d.sentOver c).pump c).collAll)) ∧
  (∀ (s : State) (c psn : Nat) (x : Conn), s.dev.conn? c = some x → x.isOpen = true →
    Completes (.notReadyReceive c x.ver psn) s fun e =>
      e.conn? c = some { x with pkts := x.pkts.map (fun (k : TxPkt) => if k.psn = psn then { k with noCount := true } else k) } ∧ Dev.changesOnly [.regs, .tbn] s.dev e) ∧
  (∀ (s : State) (c : Nat) (u : Bool) (x : Conn), s.dev.conn? c = some x → x.isOpen = true →
    Answers (.nackReceive c x.ver [] u) s ((s.dev.inc F.tbnRxPkts 1).pump c)) ∧
  (∀ (s : State) (c : Nat) (x : Conn) (k : TxPkt), s.dev.conn? c = some x → x.pkts.find? (fun k => !k.lost) = some k →
    (x.rtoFrom + x.rto ≤ s.dev.now → Answers (.retransmitTimeout c) s
      (((s.dev.setConn c { x with rto := min (2 * x.rto) (s.dev.rd F.tbnTimer_rtoMax * 100 * usQ), rtoFrom := s.dev.now }).losePkt c k.psn).pump c)) ∧
    (s.dev.now < x.rtoFrom + x.rto → Answers (.retransmitTimeout c) s s.dev)) ∧
  (∀ (s : State) (c : Nat) (x : Conn), s.dev.conn? c = some x →
    (16 ≤ x.unacked ∨ (x.ackFrom ≠ 0 ∧ x.ackFrom - 1 + 4 * usQ ≤ s.dev.now) → Answers (.ackSend c) s (s.dev.sendAck c false)) ∧
    (x.unacked < 16 → (x.ackFrom = 0 ∨ s.dev.now < x.ackFrom - 1 + 4 * usQ) → Answers (.ackSend c) s s.dev) ∧
    ((∀ h ∈ x.holes, s.dev.now < h.2 + s.dev.rd F.tbnTimer_nackHold * usQ) → Answers (.nackSend c) s s.dev) ∧
    (∀ due, due = ((x.holes.filter (fun h => decide (h.2 + s.dev.rd F.tbnTimer_nackHold * usQ ≤ s.dev.now))).map (fun h => h.1)).take 16 → due ≠ [] →
      Answers (.nackSend c) s ((s.dev.setConn c { x with holes := x.holes.map (fun h => if due.contains h.1 then (h.1, s.dev.now) else h) }).sendService c ptNACK 0 0 {}
        (leBytes 4 due.length ++ due.flatMap (leBytes 4)))))) ∧
  (
  (∀ (s : State) (c : Nat) (x : Conn), s.dev.conn? c = some x → x.isOpen = true → s.dev.flag F.tbnCc_en = true →
    Completes (.cnpReceive c x.ver) s fun e => ∃ y, e.conn? c = some y ∧ y.step = s.dev.rd F.tbnCc_aiStep * 1000000 ∧ y.quiet = 0 ∧ y.quietFrom = s.dev.now ∧
      e.rd F.tbnCnpRx = min (s.dev.rd F.tbnCnpRx + 1) (2 ^ 32 - 1) ∧
      y.rate = (if x.decAt = 0 ∨ x.decAt - 1 + s.dev.rd F.tbnCc_decGap * usQ ≤ s.dev.now
        then max (x.rate * (2 ^ s.dev.rd F.tbnCc_betaShift - 1) / 2 ^ s.dev.rd F.tbnCc_betaShift) (s.dev.rd F.tbnCcMin_rmin * 1000000) else x.rate)) ∧
  (∀ (s : State) (c : Nat) (x : Conn), s.dev.conn? c = some x → x.isOpen = true → s.dev.flag F.tbnCc_en = true →
    (x.quietFrom + s.dev.rd F.tbnCc_incPeriod * usQ ≤ s.dev.now →
      Completes (.rateIncrease c) s fun e => ∃ y, e.conn? c = some y ∧ y.quiet = x.quiet + 1 ∧
        y.step = (if s.dev.rd F.tbnCc_fastN ≤ x.quiet then 2 * x.step else x.step) ∧ y.rate = min (x.rate + y.step) (s.dev.fullRate x.peer) ∧
        Dev.changesOnly [.regs, .tbn] s.dev e) ∧
    (s.dev.now < x.quietFrom + s.dev.rd F.tbnCc_incPeriod * usQ → Answers (.rateIncrease c) s s.dev)))

/-- Connections and paths (R313, R314, R322 to R324): a HELLO whose versions do not agree is answered CLOSE; a HELLO_ACK opens its
connection at the agreed version; an idle connection closes; an excluded path is probed each millisecond, and its answer makes it ACTIVE;
a peer without a path for the bound is unreachable; the doorbell of no open record is recorded. -/
def Obligations.ConnectionsAndPaths : Prop :=
  (∀ (s : State) (port : Nat) (b : Cmd), let dev := cmdBits b 0 0 64; let p := s.dev.peer dev
    let d := s.dev.setPeer dev { p with epoch := cmdBits b 20 0 32, ports := if p.ports.contains port then p.ports else p.ports ++ [port] }
    (d.agreedVersion (cmdBits b 8 0 8) (cmdBits b 9 0 8) = none →
      Answers (.helloReceive port b) s ((d.sendByPort dev port ptCLOSE (cmdBits b 16 0 24) []).raise tbnPage 6 St.ok)) ∧
    (∀ v c, d.agreedVersion (cmdBits b 8 0 8) (cmdBits b 9 0 8) = some v →
      (d.tbn.conns.find? (fun e => e.2.peer == dev && e.2.peerPart == cmdBits b 10 0 8 && (!e.2.isOpen || e.2.remote == cmdBits b 16 0 24))).map (fun e => e.1) = some c →
      let d' := d.openWith c port (cmdBits b 16 0 24) v (payloadOf (cmdBits b 12 0 16) d.maxPayload)
      Answers (.helloReceive port b) s (d'.sendByPort dev port ptHELLO_ACK (cmdBits b 16 0 24) (d'.helloBody c (((d'.conn? c).map (fun x => x.part)).getD 0))))) ∧
  (∀ (s : State) (port c : Nat) (b : Cmd) (x : Conn), s.dev.conn? c = some x → x.peer = cmdBits b 0 0 64 →
    (s.dev.agreedVersion (cmdBits b 8 0 8) (cmdBits b 9 0 8) = none → Answers (.helloAckReceive port c b) s (s.dev.raise tbnPage 6 St.ok)) ∧
    (∀ v, s.dev.agreedVersion (cmdBits b 8 0 8) (cmdBits b 9 0 8) = some v →
      Answers (.helloAckReceive port c b) s (s.dev.openWith c port (cmdBits b 16 0 24) v (payloadOf (cmdBits b 12 0 16) s.dev.maxPayload)))) ∧
  (∀ (s : State) (c : Nat) (x : Conn), s.dev.conn? c = some x →
    (x.isOpen = false → x.helloAt + msQ ≤ s.dev.now → Answers (.helloResend c) s (s.dev.sendHello c)) ∧
    (x.isOpen = false → Completes (.closeReceive c) s fun e => e.conn? c = some { x with helloAt := s.dev.now } ∧ Dev.changesOnly [.regs, .tbn] s.dev e) ∧
    (x.isOpen = true → x.pkts = [] → x.msgs = [] →
      Answers (.closeReceive c) s ((s.dev.dropConn c).postWaiting) ∧
      (x.lastUse + s.dev.rd F.tbnConnIdle_idle * secQ ≤ s.dev.now → Answers (.connIdleClose c) s ((s.dev.closeConn c).postWaiting)) ∧
      (s.dev.now < x.lastUse + s.dev.rd F.tbnConnIdle_idle * secQ → Answers (.connIdleClose c) s s.dev))) ∧
  (∀ (s : State) (peer path : Nat), let x := s.dev.pathSt peer path
    (x.excluded = true → x.probeAt + msQ ≤ s.dev.now →
      Answers (.probeSend peer path) s ((s.dev.setPath peer path { x with probeAt := s.dev.now }).sendPacket peer path 5 ptPROBE
        (tbnHeader 1 ptPROBE 0 0 path 0 s.dev.now 0 { len := 1 }) [])) ∧
    (x.excluded = false → Answers (.probeSend peer path) s s.dev) ∧
    (x.excluded = true →
      let p := s.dev.peer peer
      let d := s.dev.setPeer peer { p with ports := if p.ports.contains (s.dev.pathPort path) then p.ports else p.ports ++ [s.dev.pathPort path] }
      let d := d.setPath peer path {}
      (d.pathSt peer path).excluded = false ∧
      Answers (.probeReceive peer path) s (((d.setPeer peer { d.peer peer with gone := 0 }).raise tbnPage 1 St.ok).pumpAll))) ∧
  (∀ (s : State) (peer : Nat), (s.dev.peer peer).gone ≠ 0 → (s.dev.peer peer).gone - 1 + s.dev.timeout tbnPage (50 * msQ) ≤ s.dev.now →
    Answers (.peerUnreachable peer) s ((((s.dev.losePeer peer St.peerUnreachable).raise tbnPage 2 St.peerUnreachable).reportUnreach peer).postWaiting)) ∧
  (∀ (s : State) (f h : Nat), s.dev.tbn.peers.find? (fun e => e.2.assist == h && h != 0) = none →
    Completes (.tbnAssistDoorbell f h) s fun e => s.dev.recorded e f tbnPage.offset 3) ∧
  (∀ (s : State) (f h peer : Nat) (x : Peer), s.dev.tbn.peers.find? (fun e => e.2.assist == h && h != 0) = some (peer, x) → s.dev.rd F.tbnAssistPaths ≠ 0 →
    let d := ((s.dev.setPeer peer { x with assist := 0 }).sixRelease h St.ok).showTbnAssist
    let y := d.peer peer
    Answers (.tbnAssistDoorbell f h) s
      ((d.setPeer peer { y with paths := y.paths.map (fun e => if bitOf (s.dev.rd F.tbnAssistPaths) (d.pathPort e.1) then (e.1, ({} : PathSt)) else e), gone := d.now + 1 }).pumpAll))

/-- A body shorter than its layout is dropped and counted, whatever its type (R328, R329). Joining (R333, R435): a device that is not
enrolled sends JOIN when it is due, and 100 ms after its first one becomes the keeper of a roster of its own; the keeper of its domain
admits a JOIN, or with REQUIRE asks for a quote, whose answer decides; a quote that does not come in 1 s is forgotten. Rosters (R332,
R333): a roster without records refuses a JOIN: the next one is sent after 10 s; a member applies a change that is the next epoch, and
asks for the whole roster where it has missed one. -/
def Obligations.JoiningAndRosters : Prop :=
  (
  ∀ (s : State) (b : List Byte),
    (b.length < 88 → Answers (.joinReceive b) s s.dev.rxBad) ∧ (b.length < 24 → Answers (.rosterReceive b) s s.dev.rxBad) ∧
    (b.length < 24 → Answers (.hbReceive b) s s.dev.rxBad) ∧ (b.length < 16 → Answers (.leaveReceive b) s s.dev.rxBad) ∧
    (b.length < 24 → Answers (.keeperReceive b) s s.dev.rxBad) ∧ (b.length < 24 → Answers (.unreachReceive b) s s.dev.rxBad) ∧
    (b.length < 24 → Answers (.wakeDoneReceive b) s s.dev.rxBad) ∧ (b.length < 48 → Answers (.quoteReqReceive b) s s.dev.rxBad) ∧
    (b.length < 48 → Answers (.quoteReceive b) s s.dev.rxBad) ∧
    s.dev.rxBad.rd F.tbnRxBad = min (s.dev.rd F.tbnRxBad + 1) (2 ^ 32 - 1)) ∧
  (
  (∀ (s : State), s.dev.flag F.colDomain_en = true → s.dev.enrolled = false → s.dev.col.leaving = false → s.dev.col.joinNext ≤ s.dev.now →
    Completes .joinSend s fun e => e.col.joinNext = s.dev.now + (if s.dev.col.refused then 10 * secQ else 10 * msQ) ∧
      e.col.joinFrom = (if s.dev.col.joinFrom = 0 then s.dev.now + 1 else s.dev.col.joinFrom) ∧ Dev.changesOnly [.col, .out] s.dev e) ∧
  (∀ (s : State), s.dev.flag F.colDomain_en = true → s.dev.enrolled = false → s.dev.col.refused = false → s.dev.col.joinFrom ≠ 0 →
    (s.dev.col.joinFrom - 1 + 100 * msQ ≤ s.dev.now → Answers .becomeKeeper s
      ((s.dev.setCol { s.dev.col with roster := [(s.dev.deviceId, s.dev.ownRecord 1)], joinFrom := 0 }).rosterChanged 1 s.dev.deviceId)) ∧
    (s.dev.now < s.dev.col.joinFrom - 1 + 100 * msQ → Answers .becomeKeeper s s.dev)) ∧
  (∀ (s : State) (b : List Byte), 88 ≤ b.length → s.dev.enrolled = true → leAt b 2 2 = s.dev.rd F.colDomain_id →
    (s.dev.isKeeper = false → Answers (.joinReceive b) s (s.dev.sendCtrl s.dev.keeper colQueue b)) ∧
    (s.dev.isKeeper = true → (s.dev.flag F.secPeer_require = false ∨ (s.dev.rec? (leAt b 8 8)).isSome = true) →
      Answers (.joinReceive b) s (s.dev.enrol b))) ∧
  (∀ (s : State) (b : List Byte), 88 ≤ b.length → s.dev.enrolled = false ∨ leAt b 2 2 ≠ s.dev.rd F.colDomain_id → Answers (.joinReceive b) s s.dev) ∧
  (∀ (s : State) (dev : Nat), Completes (.quoteTimeout dev) s fun e =>
    e.col.quotes = s.dev.col.quotes.filter (fun q => not (q.device == dev && decide (q.at_ + secQ ≤ s.dev.now))) ∧ Dev.changesOnly [.col] s.dev e) ∧
  (∀ (s : State) (b : List Byte), 48 + leAt b 6 2 ≤ b.length →
    s.dev.col.quotes.find? (fun q => q.device == leAt b 8 8 && q.nonce == (b.drop 16).take 32) = none → Answers (.quoteReceive b) s s.dev) ∧
  (∀ (s : State) (b : List Byte), 48 ≤ b.length →
    let data := s.dev.quoteData ((b.drop 16).take 32)
    Answers (.quoteReqReceive b) s ((List.range (ceilDiv data.length 1344)).foldl (fun d p =>
      d.sendCtrl (leAt b 8 8) colQueue ([0x29, 0] ++ leBytes 2 p ++ leBytes 2 (ceilDiv data.length 1344) ++ leBytes 2 ((data.drop (1344 * p)).take 1344).length
        ++ leBytes 8 d.deviceId ++ (b.drop 16).take 32 ++ (data.drop (1344 * p)).take 1344)) s.dev))) ∧
  (
  (∀ (s : State) (b : List Byte), 24 ≤ b.length → leAt b 2 2 = 0 → bitOf (leAt b 1 1) 0 = false →
    (s.dev.enrolled = false → Completes (.rosterReceive b) s fun e => e.col.refused = true ∧ e.col.joinNext = s.dev.now + 10 * secQ ∧ e.eventBit colPage 10 = true) ∧
    (s.dev.enrolled = true → Answers (.rosterReceive b) s s.dev)) ∧
  (∀ (s : State) (b : List Byte), 24 + 96 * leAt b 2 2 ≤ b.length → leAt b 2 2 ≠ 0 → bitOf (leAt b 1 1) 0 = false → s.dev.enrolled = true → s.dev.isKeeper = false →
    (leAt b 4 4 = (s.dev.rd F.colEpoch + 1) % 2 ^ 32 → Answers (.rosterReceive b) s
      ((((List.range (leAt b 2 2)).map (fun i => readEntry (b.drop (24 + 96 * i)))).foldl Dev.applyEntry s.dev).rosterChanged (leAt b 4 4) (leAt b 8 8))) ∧
    (leAt b 4 4 ≠ (s.dev.rd F.colEpoch + 1) % 2 ^ 32 → serialGt 32 (leAt b 4 4) (s.dev.rd F.colEpoch) = true →
      Answers (.rosterReceive b) s (s.dev.askRoster s.dev.keeper)) ∧
    (leAt b 4 4 ≠ (s.dev.rd F.colEpoch + 1) % 2 ^ 32 → serialGt 32 (leAt b 4 4) (s.dev.rd F.colEpoch) = false →
      Answers (.rosterReceive b) s s.dev)))

/-- Heartbeats (R334): a LIVE device sends one when its period is over, to the keeper, or as the keeper to every LIVE member; one that is
heard is noted; the keeper makes a member that it has not heard for SUSPECT periods SUSPECT, and one it hears again LIVE; after REMOVE
periods it wants it removed. Keepers, leaving and spares (R334 to R340): a keeper unheard for REMOVE periods is succeeded by the lowest
LIVE device that has not been passed over; LEAVE and UNREACH act at the keeper alone; a spare that is being woken gets wake frames each
100 ms, and after 10 s another is tried; the doorbell of no open record is recorded. -/
def Obligations.HeartbeatsKeepersAndSpares : Prop :=
  (
  (∀ (s : State), (s.dev.rec? s.dev.deviceId).map (fun r => r.state) = some rsLIVE → s.dev.col.hbNext ≤ s.dev.now →
    let body := [0x22, 0, 0, 0] ++ leBytes 4 (s.dev.rd F.colEpoch) ++ leBytes 8 s.dev.deviceId ++ leBytes 4 s.dev.col.hbSeq ++ leBytes 4 0
    let d := s.dev.setCol { s.dev.col with hbSeq := (s.dev.col.hbSeq + 1) % 2 ^ 32, hbNext := s.dev.now + s.dev.colHb }
    Answers .hbSend s (if d.isKeeper then d.sendLive body else d.sendCtrl d.keeper colQueue body)) ∧
  (∀ (s : State) (b : List Byte), 24 ≤ b.length → s.dev.isKeeper = false →
    Completes (.hbReceive b) s fun e => mapLook e.col.heard (leAt b 8 8) = some s.dev.now ∧ e.col.roster = s.dev.col.roster ∧ Dev.changesOnly [.col] s.dev e) ∧
  (∀ (s : State) (dev : Nat), s.dev.isKeeper = true → dev ≠ s.dev.deviceId → (s.dev.rec? dev).map (fun r => r.state) = some rsLIVE →
    (s.dev.heardAt dev + s.dev.rd F.colHb_suspect * s.dev.colHb ≤ s.dev.now →
      Answers (.memberSuspect dev) s (s.dev.changeRec dev (fun r => { r with state := rsSUSPECT }))) ∧
    (s.dev.now < s.dev.heardAt dev + s.dev.rd F.colHb_suspect * s.dev.colHb → Answers (.memberSuspect dev) s s.dev) ∧
    (s.dev.heardAt dev + s.dev.rd F.colHb_remove * s.dev.colHb ≤ s.dev.now → Answers (.memberRemove dev) s (s.dev.wantRemoved 0 dev)) ∧
    (s.dev.now < s.dev.heardAt dev + s.dev.rd F.colHb_remove * s.dev.colHb → Answers (.memberRemove dev) s s.dev)) ∧
  (∀ (s : State) (dev : Nat), s.dev.isKeeper = false → Answers (.memberSuspect dev) s s.dev ∧ Answers (.memberRemove dev) s s.dev)) ∧
  (
  (∀ (s : State) (c : Nat), s.dev.enrolled = true → s.dev.isKeeper = false → s.dev.heardAt s.dev.keeper + s.dev.rd F.colHb_remove * s.dev.colHb ≤ s.dev.now →
    (liveIds s.dev.col.roster).find? (fun x => x != s.dev.keeper && !s.dev.col.passed.contains x) = some c → c ≠ s.dev.deviceId →
    Completes .keeperLoss s fun e => e.col.passed = s.dev.col.passed ++ [c] ∧ mapLook e.col.heard s.dev.keeper = some s.dev.now ∧ e.col.roster = s.dev.col.roster ∧
      Dev.changesOnly [.col] s.dev e) ∧
  (∀ (s : State), s.dev.enrolled = false ∨ s.dev.isKeeper = true → Answers .keeperLoss s s.dev) ∧
  (∀ (s : State) (b : List Byte), 24 ≤ b.length → s.dev.enrolled = true → (s.dev.rec? (leAt b 8 8)).isSome = true → leAt b 16 8 = s.dev.keeper →
    serialGt 32 (leAt b 4 4) (s.dev.rd F.colEpoch) = true →
    Answers (.keeperReceive b) s ((s.dev.applyEntry (2, leAt b 16 8, (s.dev.rec? (leAt b 16 8)).getD {})).rosterChanged (leAt b 4 4) (leAt b 8 8))) ∧
  (∀ (s : State) (b : List Byte), 24 ≤ b.length →
    (s.dev.isKeeper = false → Answers (.leaveReceive b) s s.dev ∧ Answers (.unreachReceive b) s s.dev) ∧
    (∀ r, s.dev.isKeeper = true → s.dev.rec? (leAt b 8 8) = some r →
      (bitOf (leAt b 1 1) 0 = true → r.role = roSPARE → Answers (.leaveReceive b) s (s.dev.changeRec (leAt b 8 8) (fun r => { r with state := rsSLEEPING }))) ∧
      (r.role ≠ roSPARE → Answers (.leaveReceive b) s (s.dev.wantRemoved 2 (leAt b 8 8))) ∧
      (∀ r', r.state = rsLIVE → s.dev.rec? (leAt b 16 8) = some r' → r'.state = rsLIVE → Answers (.unreachReceive b) s (s.dev.wantRemoved 1 (leAt b 16 8)))) ∧
    Answers (.wakeDoneReceive b) s ((s.dev.setCol { s.dev.col with wakeDone := s.dev.col.wakeDone ++ [(leAt b 4 4, leAt b 8 8, leAt b 16 8)] }).dueWakeDone)) ∧
  (∀ (s : State) (w : Waking), s.dev.col.waking = some w → s.dev.isKeeper = true →
    (w.last + 100 * msQ ≤ s.dev.now →
      Answers .spareWakeSend s ((s.dev.setCol { s.dev.col with waking := some { w with last := s.dev.now } }).wakeFrames w.spare)) ∧
    (w.since + 10 * secQ ≤ s.dev.now →
      Answers .spareWakeTimeout s (((s.dev.setCol { s.dev.col with waking := none, substQ := w.gone :: s.dev.col.substQ }).removeDevice w.spare false).nextSubst)) ∧
    (s.dev.now < w.since + 10 * secQ → Answers .spareWakeTimeout s s.dev)) ∧
  (∀ (s : State) (f h : Nat), h = 0 ∨ s.dev.col.assist ≠ h → Completes (.colAssistDoorbell f h) s fun e => s.dev.recorded e f colPage.offset 3) ∧
  (∀ (s : State) (f h : Nat), h ≠ 0 → s.dev.col.assist = h → s.dev.rd F.colAssistDec = 0 → s.dev.col.assistQ = [] →
    Completes (.colAssistDoorbell f h) s fun e => e.col.assist = 0 ∧ e.col.roster = s.dev.col.roster ∧ e.flag (hAssistWait colPage) = false ∧
      mapLook e.col.heard (s.dev.rd64 (F.colAssistDev 0) (F.colAssistDev 1)) = some s.dev.now) ∧
  (∀ (s : State), s.dev.enrolled = true →
    (Completes .gracefulLeave s fun e => e.col = { s.dev.col with leaving := true } ∧ Dev.changesOnly [.col] s.dev e) ∧
    (s.dev.col.leaving = true → (List.range 8).all (fun j => !s.dev.attemptLive j && (s.dev.job j).drain.isNone) = true → s.dev.isKeeper = false →
      Answers .leaveSend s (s.dev.sendCtrl s.dev.keeper colQueue (s.dev.leaveBody (s.dev.pwr.mode == 2 && s.dev.flag F.colDomain_spare)))) ∧
    (s.dev.col.leaving = false → Answers .leaveSend s s.dev)) ∧
  (∀ (s : State) (dev : Nat) (r : RosterRec), s.dev.col.roster[s.dev.rd F.colRstSel_index]? = some (dev, r) →
    (s.dev.isKeeper = true → r.role = roSPARE → r.state = rsSLEEPING → Answers .forget s (s.dev.keeperChange [(2, dev, r)])) ∧
    (r.state ≠ rsSLEEPING → Answers .forget s s.dev)))

/-- The host link (R374 to R380, R446): a VF's Function Level Reset, and only a VF's, resets it; PERST_B resets the functions of link A
through D3, or in a low-power state is the first half of a wake; a hot reset and a lost link end the link's functions' use; a link comes
up at a rate and width it may have; before boot stage S3 a configuration access is answered with a retry. -/
def Obligations.HostLink : Prop :=
  (∀ (s : State) (f : Nat), (1 ≤ f → f ≤ 8 → Answers (.vfFlr f) s (s.dev.flr f)) ∧ (f = 0 ∨ 8 < f → Answers (.vfFlr f) s s.dev)) ∧
  (∀ (s : State), s.dev.pwr.mode = 3 ∨ s.dev.pwr.mode = 4 →
    Completes (.perstAssert 0) s fun e => e.pwr = { s.dev.pwr with perstA := true } ∧ Dev.changesOnly [.pwr] s.dev e) ∧
  (∀ (s : State), s.dev.pwr.mode ≠ 3 → s.dev.pwr.mode ≠ 4 → s.dev.pwr.rail = true → s.dev.pwr.good = true →
    let d := (s.dev.linkGone 0).setHif { s.dev.hif with perst := if s.dev.hif.perst.contains 0 then s.dev.hif.perst else s.dev.hif.perst ++ [0] }
    let d := (s.dev.linkFuncs 0).foldl Dev.resetConfig d
    Answers (.perstAssert 0) s ((d.setHif { d.hif with ready := false }).startD3)) ∧
  (∀ (s : State), s.dev.pwr.mode ≠ 3 → s.dev.pwr.mode ≠ 4 → s.dev.split = false → Answers (.perstAssert 1) s s.dev) ∧
  (∀ (s : State) (l : Nat),
    (s.dev.pwr.perstA = true → l = 0 → Answers (.perstRelease l) s ((s.dev.setPwr { s.dev.pwr with perstA := false }).wakeUp)) ∧
    (s.dev.pwr.perstA = false → Completes (.perstRelease l) s fun e => e.hif = { s.dev.hif with perst := s.dev.hif.perst.filter (· != l) } ∧ Dev.changesOnly [.hif] s.dev e) ∧
    (s.dev.linkFuncs l = [] → Answers (.hotReset l) s s.dev ∧ Answers (.hostLinkLost l) s s.dev) ∧
    (s.dev.linkFuncs l ≠ [] → Answers (.hostLinkLost l) s ((s.dev.linkFuncs l).foldl Dev.hostLost ((s.dev.linkGone l).raise hifPage l St.ok))) ∧
    (s.dev.linkFuncs l ≠ [] → Answers (.hotReset l) s
      (((s.dev.linkFuncs l).foldl (fun d f =>
        let d := d.resetConfig f
        let d := ((List.range 8).filter (fun p => d.flag (F.glbPart_enable p) && d.partFunc p == f)).foldl (fun d p =>
          (d.partQueues p).foldl (fun d q => d.disableQueue q false) d) d
        d.hostLost f) s.dev).linkGone l))) ∧
  (∀ (s : State) (rate width : Nat) (flit : Bool), s.dev.hif.perst.contains 0 = false → 1 ≤ rate → rate ≤ mapGet 3 s.dev.hif.maxRate 0 → rate ≤ 3 →
    width = 4 ∨ width = 8 ∨ (width = 16 ∧ s.dev.split = false) → flit = true ∨ rate < 3 → s.dev.pwr.good = true → s.dev.pwr.mode ≤ 1 →
    Completes (.pcieLinkUp 0 rate width flit) s fun e =>
      e.rd F.hifLinkA_rate = rate ∧ e.rd F.hifLinkA_width = width ∧ e.flag F.hifLinkA_flit = flit ∧ e.pwr.wake = false ∧ s.dev.keeps e [F.hifLinkA_rate.addr]) ∧
  (∀ (s : State) (f reg : Nat) (val : Option Word), (s.dev.linkFuncs (s.dev.linkOf f)).contains f = true → s.dev.hif.perst.contains (s.dev.linkOf f) = false →
    (s.dev.hif.ready = false → Answers (.pcieConfigAccess f reg val) s (s.dev.emit .pcieConfig f [reg, 1])) ∧
    (∀ v, s.dev.hif.ready = true → val = some v → Answers (.pcieConfigAccess f reg val) s ((s.dev.configWrite f reg v.toNat).emit .pcieConfig f [reg, 0])) ∧
    (∀ w, s.dev.hif.ready = true → val = none → 3 ≤ reg → mapLook s.dev.hif.config (f * 65536 + reg) = some w →
      Answers (.pcieConfigAccess f reg val) s (s.dev.emit .pcieConfig f [reg, 0, w.toNat])))

/-- The Signpost and MSI-X (R381, R385 to R390): enabling a source stores its word and samples its line; an edge of an enabled source
latches; the source that the Signpost presents, and only it, enters service, a fast one first; a host source in PENDING is sent as a
message; EOI ends a service in progress and samples the line again; unmasking a vector sends its pending message. -/
def Obligations.Interrupts : Prop :=
  (∀ (s : State) (n : Nat) (v : Word), n < 1024 → bitOf v.toNat 0 = true → (s.dev.pageAt 0 (srcOff 0 n)).isSome = true →
    Completes (.sourceEnable 0 n v) s fun e => e.flag (F.evtSrc_en n) = true ∧ e.rd (F.evtSrc_prio n) = bitsAt v.toNat 3 4 ∧ e.rd (F.evtSrc_vector n) = bitsAt v.toNat 8 11 ∧
      e.rd (F.evtSrc_route n) = (if bitsAt v.toNat 1 2 = 3 then 0 else bitsAt v.toNat 1 2) ∧
      e.flag (F.evtSrc_pending n) = (s.dev.flag (F.evtSrc_pending n) || s.dev.sourceLine n)) ∧
  (∀ (s : State) (n : Nat), n < 2048 →
    (n ∈ s.dev.evt.edges → s.dev.flag (F.evtSrc_en n) = true → Completes (.sourceLatch n) s fun e => e.flag (F.evtSrc_pending n) = true ∧ n ∉ e.evt.edges) ∧
    (n ∉ s.dev.evt.edges → Answers (.sourceLatch n) s s.dev)) ∧
  (∀ (s : State) (n : Nat), s.dev.nextSource = some n →
    n < 1024 ∧ s.dev.flag (F.evtSrc_pending n) = true ∧ n ∉ s.dev.evt.service ∧
    Completes (.sourcePresent n) s fun e => e.evt.service = n :: s.dev.evt.service ∧ e.flag (F.evtSrc_pending n) = false ∧ e.flag (F.evtSrc_inService n) = true) ∧
  (∀ (s : State) (n : Nat), s.dev.nextSource ≠ some n → Answers (.sourcePresent n) s s.dev) ∧
  (∀ (s : State) (m : Nat), s.dev.flag F.evtCfg_mode = false → s.dev.handlers 1 = [] → m ∈ s.dev.waitingSources → s.dev.route m = 1 →
    ∃ n, s.dev.nextSource = some n ∧ s.dev.route n = 1) ∧
  (∀ (s : State) (n : Nat), n < 2048 → s.dev.flag (F.evtSrc_pending n) = true → s.dev.route n = 2 → n ∉ s.dev.evt.service →
    Answers (.hostMessage n) s ((s.dev.serveSource n).sendMsix (sourceFunc n) ((s.dev.serveSource n).rd (F.evtSrc_vector n)))) ∧
  (∀ (s : State) (n : Nat), n < 2048 →
    (n ∈ s.dev.evt.service → Completes (.eoi (sourceFunc n) n) s fun e => n ∉ e.evt.service ∧ e.flag (F.evtSrc_inService n) = false ∧
      e.flag (F.evtSrc_pending n) = (s.dev.flag (F.evtSrc_pending n) || (s.dev.flag (F.evtSrc_en n) && s.dev.sourceLine n))) ∧
    (n ∉ s.dev.evt.service → Answers (.eoi (sourceFunc n) n) s s.dev)) ∧
  (∀ (s : State) (f n : Nat), f ≤ 8 → n < vectors f →
    (s.dev.msixPend.contains (f * 4096 + n) = false → Completes (.vectorUnmask f n) s fun e => mapLook e.msix (f * 65536 + n * 4 + 3) = some 0 ∧ Dev.changesOnly [.msix] s.dev e) ∧
    (s.dev.msixPend.contains (f * 4096 + n) = true → Answers (.vectorUnmask f n) s
      (((s.dev.setMsix (mapPut s.dev.msix (f * 65536 + n * 4 + 3) 0)).setMsixPend (s.dev.msixPend.filter (· != f * 4096 + n))).sendMsix f n)))

/-- The BAR2 window (R383, R384): an entry is stored, and valid only where it may be, else HIF event bit 5 is set; a read that no entry
maps delivers all ones and counts; a write that no entry maps counts and changes no memory; one through an entry that does not allow
writes is refused, with event bit 3. -/
def Obligations.Windows : Prop :=
  (∀ (s : State) (f : Nat) (v : Word), f ≤ 8 → (s.dev.pageAt f ((⟨f, .hif, 0, 2⟩ : Page).offset)).isSome = true → let k := s.dev.winSel f
    (bitOf v.toNat 0 = false → Completes (.windowConfig f v) s fun e => e.flag (wValid f k) = false ∧ e.flag (wWrite f k) = bitOf v.toNat 1 ∧
      e.rd (wBase f k) = bitsAt v.toNat 2 19 ∧ Dev.changesOnly [.regs] s.dev e)) ∧
  (∀ (s : State) (f off len : Nat), 0 < len → s.dev.winHit f off len = none →
    Answers (.bar2Read f off len) s ((s.dev.hifCount f 0x8C).emit .bar2 f [off, 0] (List.replicate len 0xFF#8))) ∧
  (∀ (s : State) (f off len e k x : Nat) (o : Obj), 0 < len → s.dev.winHit f off len = some (e, k, o, x) → o.prot = false → o.kind = kCOMMITTED →
    s.dev.sectorBad o.curExt x len = false → Answers (.bar2Read f off len) s (s.dev.emit .bar2 f [off, 0] (s.dev.read1 o.curExt x len))) ∧
  (∀ (s : State) (f off len e k x : Nat) (o : Obj), 0 < len → s.dev.winHit f off len = some (e, k, o, x) → o.prot = true →
    Answers (.bar2Read f off len) s (((s.dev.incSat F.wsetProtCnt 1).raise wsetPage 4 St.protectedAccess).emit .bar2 f [off, 0] (List.replicate len 0xFF#8))) ∧
  (∀ (s : State) (f off : Nat) (data : List Byte), data ≠ [] →
    (s.dev.winHit f off data.length = none → Completes (.bar2Write f off data) s fun e => Dev.changesOnly [.regs] s.dev e ∧
      e.rd (hdrFld { hifPage with func := f } 0x8C 0 32) = min (s.dev.rd (hdrFld { hifPage with func := f } 0x8C 0 32) + 1) (2 ^ 32 - 1)) ∧
    (∀ e k o x, s.dev.winHit f off data.length = some (e, k, o, x) → s.dev.flag (wWrite f e) = false →
      Completes (.bar2Write f off data) s fun e => e.t0 = s.dev.t0 ∧ e.t1 = s.dev.t1 ∧ e.eventBit hifPage 3 = true) ∧
    (∀ e k o x d, s.dev.winHit f off data.length = some (e, k, o, x) → s.dev.flag (wWrite f e) = true → s.dev.winWrite k o x data = some d →
      Answers (.bar2Write f off data) s d))

/-- The responder (R382, R426, R433, R434): while it is up, GET_VERSION starts a transcript anew; capabilities and algorithms are taken in
their order, an unexpected request is answered with an error; certificates and digests are given from then on; a signature is made only in
FULL; a discovery is answered by any function that is ready. -/
def Obligations.Attestation : Prop :=
  (∀ (s : State) (who : Nat) (req : List Byte), s.dev.spdmUp who = true → let x := s.dev.spdm who
    Completes (.getVersion who req) s (fun e => (e.spdm who).stage = 1 ∧ (e.spdm who).bytes = req ++ [0x10, 0x04, 0, 0, 0, 1, 0x00, 0x12] ∧ Dev.changesOnly [.sec, .out] s.dev e) ∧
    (x.stage = 1 → Completes (.getCapabilities who req) s fun e => (e.spdm who).stage = 2 ∧ Dev.changesOnly [.sec, .out] s.dev e) ∧
    (x.stage ≠ 1 → Answers (.getCapabilities who req) s (s.dev.spdmError who 4)) ∧
    (x.stage = 2 → Completes (.negotiateAlgorithms who req) s fun e => (e.spdm who).stage = 3 ∧ Dev.changesOnly [.sec, .out] s.dev e) ∧
    (x.stage ≠ 2 → Answers (.negotiateAlgorithms who req) s (s.dev.spdmError who 4)) ∧
    (x.stage < 3 → Answers (.getDigests who req) s (s.dev.spdmError who 4) ∧ Answers (.getCertificate who req) s (s.dev.spdmError who 4) ∧
      Answers (.challenge who req) s (s.dev.spdmError who 4) ∧ Answers (.getMeasurements who req) s (s.dev.spdmError who 4)) ∧
    (3 ≤ x.stage →
      (Completes (.getDigests who req) s fun e => (e.spdm who).stage = x.stage ∧ Dev.changesOnly [.sec, .out] s.dev e) ∧
      (leAt req 2 1 % 16 < 2 → leAt req 4 2 < (Config.made (leAt req 2 1 % 16)).length →
        Completes (.getCertificate who req) s fun e => (e.spdm who).stage = x.stage ∧ Dev.changesOnly [.sec, .out] s.dev e) ∧
      (s.dev.secSt ≠ ssFULL → Answers (.challenge who req) s (s.dev.spdmError who 5) ∧
        (leAt req 2 1 % 2 = 1 → Answers (.getMeasurements who req) s (s.dev.spdmError who 5))) ∧
      (s.dev.secSt = ssFULL → leAt req 2 1 < 2 → Completes (.challenge who req) s fun e => 4 ≤ (e.spdm who).stage) ∧
      (leAt req 2 1 % 2 = 0 → leAt req 3 1 ≤ 5 → Completes (.getMeasurements who req) s fun e => 4 ≤ (e.spdm who).stage))) ∧
  (∀ (s : State) (f ix : Nat), s.dev.hif.ready = true → f ≤ 8 →
    Answers (.doeDiscovery f ix) s (s.dev.emit .doe f (match ix with | 0 => [1, 0, 1] | 1 => [1, 1, 0] | _ => [0xFFFF, 0, 0])))

/-- Dumps (R406 to R410): a request starts a dump in a slot that is not held, is merged into one in progress, or with both slots held is
dropped and counted; collection ends with every section's standing, the slot valid and DUMP_DONE set; a copy to the host runs only when
none is collected; the doorbell of no open record is recorded. -/
def Obligations.Dumps : Prop :=
  (∀ (s : State), s.dev.hlt.cur = none →
    (s.dev.flag F.hltDumpCtrl_hold0 = true → s.dev.flag F.hltDumpCtrl_hold1 = true → Completes .dumpRequest s fun e =>
      e.rd F.hltDumpState_dropped = min (s.dev.rd F.hltDumpState_dropped + 1) (2 ^ F.hltDumpState_dropped.w - 1) ∧ e.eventBit hltPage 7 = true ∧ e.hlt = s.dev.hlt) ∧
    (s.dev.flag F.hltDumpCtrl_hold0 = false → s.dev.flag F.hltDumpCtrl_hold1 = true → s.dev.assist hltPage = false → Completes .dumpRequest s fun e =>
      ∃ c, e.hlt.cur = some c ∧ c.slot = 0 ∧ c.trigger = s.dev.now ∧ e.flag F.hltDumpState_busy = true ∧ e.flag F.hltDumpState_valid0 = false)) ∧
  (∀ (s : State) (c : Dump), s.dev.hlt.cur = some c →
    (Completes .dumpRequest s fun e =>
      e.rd F.hltDumpState_merged = min (s.dev.rd F.hltDumpState_merged + 1) (2 ^ F.hltDumpState_merged.w - 1) ∧ e.hlt.cur = some c) ∧
    (∀ id, c.sections.any (fun x => x.1 == id) = false → Completes (.dumpAgentTimeout id) s fun e =>
      e.hlt.cur = some { c with sections := c.sections ++ [(id, 1)], suspects := c.suspects ++ [id] } ∧ Dev.changesOnly [.hlt] s.dev e) ∧
    (∀ present skipped, c.assist = 0 → c.slot < 2 → Completes (.dumpComplete present skipped) s fun e =>
      e.hlt.cur = none ∧ (mapLook e.hlt.slots c.slot).isSome = true ∧ e.flag F.hltDumpState_busy = false ∧ e.rd F.hltDumpState_last = c.slot ∧ e.eventBit hltPage 6 = true ∧
      (c.slot = 0 → e.flag F.hltDumpState_valid0 = true) ∧ (c.slot = 1 → e.flag F.hltDumpState_valid1 = true)) ∧
    (∀ f, c.assist ≠ 0 → Answers (.hltAssistDoorbell f c.assist) s (((s.dev.setFlag (hAssistWait hltPage) false).sixRelease c.assist St.ok).dumpEnd c)) ∧
    (∀ f h, c.assist ≠ h → Completes (.hltAssistDoorbell f h) s fun e => s.dev.recorded e f hltPage.offset 3) ∧
    Answers .dumpToHost s s.dev) ∧
  (∀ (s : State), s.dev.hlt.cur = none → s.dev.hlt.copying = none → (mapLook s.dev.hlt.slots (s.dev.rd F.hltDumpCtrl_slot)).isSome = true →
    Completes .dumpToHost s fun e => e.hlt.copying = some (s.dev.rd F.hltDumpCtrl_slot) ∧ e.flag F.hltDumpState_busy = true ∧ Dev.changesOnly [.hlt, .regs] s.dev e) ∧
  (∀ (s : State) (sl : Nat), s.dev.hlt.copying = some sl → Completes .dumpCopyEnd s fun e =>
    e.hlt.copying = none ∧ e.flag F.hltDumpState_busy = s.dev.hlt.cur.isSome ∧ e.eventBit hltPage 6 = true) ∧
  (∀ (s : State) (v : Word) (b : Bool), Completes (.dumpChunkFetch v b) s fun e =>
    e.reg F.hltDumpSel_unit.addr = v ∧ e.hlt.chunk = some (e.rd F.hltDumpSel_unit, e.rd F.hltDumpSel_chunk, !b) ∧ Dev.changesOnly [.regs, .hlt] s.dev e)

/-- Starts (R413 to R420): a start that is owed begins when power is good; a stage that runs ends within its bound, or fails, which counts
and stops the start for 100 ms; the host chooses an alternative, or after its time the stage takes it. -/
def Obligations.DeviceStarts : Prop :=
  (∀ (s : State), s.dev.sec.due = true → s.dev.pwr.rail = true → s.dev.pwr.en = true → s.dev.pwr.latched = false →
    let d := s.dev.setPwr { s.dev.pwr with good := true, mode := 0 }
    let d := (d.setSec { d.sec with powerGood := d.now }).bootStart 0
    Answers .bootStart s (if d.mustRecover then d.romRecovery else d)) ∧
  (∀ (s : State), s.dev.sec.due = false ∨ s.dev.pwr.rail = false ∨ s.dev.pwr.en = false ∨ s.dev.pwr.latched = true → Answers .bootStart s s.dev) ∧
  (∀ (s : State) (bad : List Nat) (key : Bool), s.dev.sec.running = true → s.dev.sec.altFrom = 0 →
    (s.dev.now ≤ s.dev.sec.stageFrom + s.dev.stageBound s.dev.sec.stage → Answers (.stageComplete bad key) s (s.dev.stageDone bad key)) ∧
    (s.dev.sec.stageFrom + s.dev.stageBound s.dev.sec.stage < s.dev.now → Answers (.stageComplete bad key) s s.dev)) ∧
  (∀ (s : State) (unit status : Nat), s.dev.sec.running = true → s.dev.sec.altFrom = 0 → s.dev.sec.stage ≠ 10 → status ≠ St.boundExceeded →
    Completes (.stageFail unit status) s fun e => e.sec.running = false ∧ e.sec.restartAt = s.dev.now + 100 * msQ + 1) ∧
  (∀ (s : State) (unit status : Nat), s.dev.sec.running = false → Answers (.stageFail unit status) s s.dev) ∧
  (∀ (s : State), (s.dev.sec.restartAt ≠ 0 → s.dev.sec.restartAt ≤ s.dev.now + 1 → Answers .bootRestart s s.dev.bootRestart) ∧
    (s.dev.now + 1 < s.dev.sec.restartAt → Answers .bootRestart s s.dev)) ∧
  (∀ (s : State) (f h : Nat), s.dev.sec.altFrom ≠ 0 → s.dev.sec.altOp = h →
    (s.dev.rd F.sprBaltChoice_choice = 0 → Answers (.bootAltDoorbell f h) s (s.dev.altChosen 1)) ∧
    (s.dev.rd F.sprBaltChoice_choice = 1 → Answers (.bootAltDoorbell f h) s (s.dev.altChosen 0)) ∧
    (s.dev.rd F.sprBaltChoice_choice = 2 → Answers (.bootAltDoorbell f h) s (s.dev.altChosen 2))) ∧
  (∀ (s : State) (f h : Nat), s.dev.sec.altFrom = 0 ∨ s.dev.sec.altOp ≠ h → Completes (.bootAltDoorbell f h) s fun e => s.dev.recorded e f sprPage1.offset 3) ∧
  (∀ (s : State), s.dev.sec.altFrom ≠ 0 → s.dev.sec.altFrom - 1 + s.dev.timeout sprPage1 (60 * secQ) ≤ s.dev.now →
    Answers .bootAltTimeout s ((s.dev.altChosen 1).raise sprPage1 29 St.ok))

/-- Firmware and the configuration record (R423, R424, R430 to R432): an image that fails its checks leaves the slots as they are, with
its reason; one that passes is written to the slot that does not run; a write that reads back counts as written and may be preferred; a
commit raises the record's SVN, in FULL only; an operation while BUSY is recorded; a configuration request is recorded in LIMITED, and
held before the key is available. -/
def Obligations.Firmware : Prop :=
  (∀ (s : State) (img : List Byte), s.dev.flag F.secFwStatus_busy = false → s.dev.fwReason img ≠ 0 →
    (Completes (.fwWrite img) s fun e => e.rd F.secFwStatus_status = St.sigInvalid ∧ e.rd F.secFwStatus_reason = s.dev.fwReason img ∧ e.eventBit secPage 4 = true ∧ e.sec = s.dev.sec) ∧
    (s.dev.pwr.rail = true → Completes (.pldmFirmwareUpdate img) s fun e => e.rd F.secFwStatus_reason = s.dev.fwReason img ∧ e.sec = s.dev.sec)) ∧
  (∀ (s : State) (img : List Byte), s.dev.flag F.secFwStatus_busy = false → s.dev.fwReason img = 0 →
    Completes (.fwWrite img) s fun e => e.flag F.secFwStatus_busy = true ∧ e.sec.slot0 = s.dev.sec.slot0 ∧ e.sec.slot1 = s.dev.sec.slot1 ∧
      ∃ x, e.sec.writing = some (x, 1 - s.dev.rd F.secState_runSlot) ∧ x.svn = leAt img 8 4 ∧ x.version = leAt img 12 4 ∧ x.hash = (img.drop 64).take 64) ∧
  (∀ (s : State) (img : List Byte), s.dev.flag F.secFwStatus_busy = true → (Completes (.fwWrite img) s fun e => s.dev.recorded e 0 0x1108C 3) ∧
    (Completes .fwActivate s fun e => s.dev.recorded e 0 0x1108C 3) ∧ Completes .fwCommit s fun e => s.dev.recorded e 0 0x1108C 3) ∧
  (∀ (s : State) (x : FwSlot) (n : Nat), s.dev.sec.writing = some (x, n) →
    (Completes (.fwWriteComplete true) s fun e => e.sec.writing = none ∧ e.sec.written = some n ∧ e.flag F.secFwStatus_busy = false ∧ e.rd F.secFwStatus_status = St.ok ∧
      e.eventBit secPage 3 = true ∧ (n = 0 → e.sec.slot0 = { x with good := true }) ∧ (n = 1 → e.sec.slot1 = { x with good := true })) ∧
    (Completes (.fwWriteComplete false) s fun e => e.sec.writing = none ∧ e.sec.written = s.dev.sec.written ∧ e.flag F.secFwStatus_busy = false ∧
      e.rd F.secFwStatus_status = St.sigInvalid ∧ e.eventBit secPage 4 = true)) ∧
  (∀ (s : State) (n : Nat), s.dev.flag F.secFwStatus_busy = false → s.dev.sec.written = some n → n < 2 →
    Completes .fwActivate s fun e => e.rd F.secState_prefSlot = n ∧ Dev.changesOnly [.regs] s.dev e) ∧
  (∀ (s : State), s.dev.flag F.secFwStatus_busy = false →
    (s.dev.secSt = ssFULL → s.dev.sec.current.svn < s.dev.rd F.secRunSvn_runSvn →
      Answers .fwCommit s (s.dev.configCommit (fun r => { r with svn := s.dev.rd F.secRunSvn_runSvn }))) ∧
    (s.dev.secSt ≠ ssFULL → Answers .fwCommit s s.dev)) ∧
  (∀ (s : State) (hs am : Bool),
    (s.dev.secSt = ssLIMITED → Completes (.configRequest hs am) s fun e => s.dev.recorded e 0 0x12080 3) ∧
    (s.dev.secSt ≠ ssLIMITED → s.dev.secSt ≠ ssFULL → Completes (.configRequest hs am) s fun e =>
      e.sec.owed = s.dev.sec.owed + 1 ∧ e.flag F.secCfgReq_hostSplit = hs ∧ e.flag F.secCfgReq_altMode = am ∧
      ∃ r, e.sec.held = some r ∧ r.hostSplit = hs ∧ r.altMode = am))

/-- The time base (R436 to R439): a PTP message of the device's domain is taken on an UP port, and in no other case; a port that serves
time sends Sync each interval; the lock is reached after 4 s of good offsets, an offset alarm ends it; only the PF may step the time, and
only without an open step; the uncertainty is renewed each second. -/
def Obligations.TimeBase : Prop :=
  (∀ (s : State) (p : Nat) (m : PtpMsg),
    (s.dev.rd F.timCfg_role ≠ 0 → s.dev.timSt ≠ tmFREE → s.dev.portUp p = true → m.domain = s.dev.rd F.timCfg_domain → Answers (.ptpReceive p m) s (s.dev.takePtp p m)) ∧
    (s.dev.rd F.timCfg_role = 0 ∨ s.dev.timSt = tmFREE ∨ s.dev.portUp p = false ∨ m.domain ≠ s.dev.rd F.timCfg_domain → Answers (.ptpReceive p m) s s.dev)) ∧
  (∀ (s : State) (p : Nat), s.dev.timSt ≠ tmFREE → s.dev.portUp p = true → s.dev.serves p = true → (s.dev.ptp p).syncNext ≤ s.dev.now →
    Completes (.syncSend p) s fun e => (e.ptp p).syncNext = s.dev.now + s.dev.syncQ ∧ (e.ptp p).seqId = ((s.dev.ptp p).seqId + 1) % 65536 ∧
      Dev.changesOnly [.tim, .fab] s.dev e) ∧
  (∀ (s : State), s.dev.timSt = tmHOLDOVER → s.dev.tim.goodFrom ≠ 0 → s.dev.tim.goodFrom - 1 + 4 * secQ ≤ s.dev.now → s.dev.now ≤ s.dev.tim.syncAt + secQ →
    Completes .timeLock s fun e => e.timSt = tmLOCKED ∧ e.tim.locked = true ∧ e.now = s.dev.now ∧ e.eventBit timPage 1 = true) ∧
  (∀ (s : State), s.dev.timSt = tmLOCKED → Answers .timeLock s s.dev) ∧
  (∀ (s : State), s.dev.timSt = tmLOCKED → s.dev.tim.syncAt + secQ ≤ s.dev.now →
    Completes .offsetAlarm s fun e => e.timSt = tmHOLDOVER ∧ e.tim.holdFrom = s.dev.now ∧ e.tim.goodFrom = 0 ∧ e.eventBit timPage 0 = true) ∧
  (∀ (s : State), s.dev.timSt ≠ tmLOCKED → Answers .offsetAlarm s s.dev) ∧
  (∀ (s : State) (f : Nat), (f ≠ 0 ∨ (List.range 8).any s.dev.attemptLive = true → Completes (.timeStep f) s fun e => s.dev.recorded e f 0x4084 3) ∧
    (f = 0 → (List.range 8).any s.dev.attemptLive = false → Completes (.timeStep f) s fun e =>
      e.now = (Int.ofNat s.dev.now - s.dev.tim.offset).toNat ∧ e.tim.offset = 0 ∧ e.rd F.timOffset_offset = 0)) ∧
  (∀ (s : State), s.dev.tim.uncNext ≤ s.dev.now →
    Completes .uncertaintyUpdate s fun e => e.tim.uncNext = s.dev.now + secQ ∧
      (s.dev.timSt = tmLOCKED → 16 ≤ e.rd F.timUncertainty_uncertainty) ∧
      (s.dev.timSt ≠ tmLOCKED → s.dev.timSt ≠ tmHOLDOVER → e.rd F.timUncertainty_uncertainty = 2 ^ 32 - 1)) ∧
  (∀ (s : State), s.dev.now < s.dev.tim.uncNext → Answers .uncertaintyUpdate s s.dev)

/-- The cap, the governor and temperature (R441, R442): PWR_CAP takes 40 to 72 and any other value reads back as 72; above the cap the
duty falls by one step, or at zero duty the issue rate; well below it they rise again; at 110 °C the module shuts down and stays latched,
above 95 °C the thermal cap begins to fall, to 300 W at least. -/
def Obligations.PowerAndHeat : Prop :=
  (∀ (s : State) (v : Word), s.dev.fewPages = false →
    Completes (.capWrite 0 v) s fun e => 40 ≤ e.rd F.pwrCap_cap ∧ e.rd F.pwrCap_cap ≤ 72 ∧
      (40 ≤ bitsAt v.toNat 0 7 → bitsAt v.toNat 0 7 ≤ 72 → e.rd F.pwrCap_cap = bitsAt v.toNat 0 7) ∧ s.dev.keeps e [F.pwrCap_cap.addr] ∧ Dev.changesOnly [.regs] s.dev e) ∧
  (∀ (s : State) (f : Nat) (v : Word), f ≠ 0 → Completes (.capWrite f v) s fun e => s.dev.recorded e f 0x8080 0) ∧
  (∀ (s : State) (w : Nat), s.dev.effCap < w → s.dev.rd F.pwrState_duty ≤ 64 →
    Completes (.governorAdjust w) s fun e => e.rd F.pwrState_power = min w 1023 ∧ e.flag F.pwrState_limited = true ∧
      (s.dev.rd F.pwrState_duty ≠ 0 → e.rd F.pwrState_duty = s.dev.rd F.pwrState_duty - 1 ∧ e.rd F.pwrState_issue = s.dev.rd F.pwrState_issue) ∧
      (s.dev.rd F.pwrState_duty = 0 → e.rd F.pwrState_duty = 0 ∧
        e.rd F.pwrState_issue = if s.dev.rd F.pwrState_issue = 0 then 15 else max 1 (s.dev.rd F.pwrState_issue - 1))) ∧
  (∀ (s : State) (w : Nat), w + 10 < s.dev.effCap → s.dev.rd F.pwrState_issue = 0 →
    Completes (.governorAdjust w) s fun e => e.rd F.pwrState_duty = min 64 (s.dev.rd F.pwrState_duty + 1) ∧
      e.flag F.pwrState_limited = decide (min 64 (s.dev.rd F.pwrState_duty + 1) < 64)) ∧
  (∀ (s : State) (t : List Nat), s.dev.pwr.good = true → t.length = 32 → s.dev.pwr.sampledAt + 250 * usQ ≤ s.dev.now →
    (110 ≤ (hottest t).1 → Completes (.tempSample t) s fun e => e.pwr.latched = true ∧ e.pwr.good = false ∧ e.pwr.mode = 5) ∧
    ((hottest t).1 < 110 → 95 < (hottest t).1 → s.dev.pwr.hot = false →
      Completes (.tempSample t) s fun e => e.pwr.hot = true ∧ e.rd F.pwrTemp_max = (hottest t).1 ∧ e.eventBit pwrPage 1 = true) ∧
    (93 < (hottest t).1 → (hottest t).1 ≤ 95 → Completes (.tempSample t) s fun e => e.pwr = { s.dev.pwr with sampledAt := s.dev.now } ∧ e.rd F.pwrTemp_max = (hottest t).1)) ∧
  (∀ (s : State), s.dev.pwr.thermAt + 10 * msQ ≤ s.dev.now → Completes .thermalCapStep s fun e =>
    e.rd F.pwrTemp_thermalCap = (if s.dev.pwr.hot then max 30 (s.dev.rd F.pwrTemp_thermalCap - 1) else min 72 (s.dev.rd F.pwrTemp_thermalCap + 1)))

/-- Power states, wake and supplies (R444 to R449): a device that has been quiet for 100 µs is IDLE; STANDBY and DORMANT are requested
with the key; a wake frame with the token, and no zero token, wakes, any other counts; supplies come and go; the sideband reads its
sensors, sets the cap, wakes and resets; every endpoint id but the null and the broadcast one is taken. -/
def Obligations.PowerStates : Prop :=
  (∀ (s : State), s.dev.pwr.mode = 0 → s.dev.pwr.quietFrom ≠ 0 → s.dev.pwr.quietFrom - 1 + 100 * usQ ≤ s.dev.now →
    Completes .idleEntry s fun e => e.pwr = { s.dev.pwr with mode := 1 } ∧ e.rd F.pwrState_state = 1 ∧ Dev.changesOnly [.pwr, .regs] s.dev e) ∧
  (∀ (s : State), s.dev.fewPages = false → s.dev.rd F.hltState_state = 0 → s.dev.pwr.mode ≤ 1 → s.dev.pwr.wake = false →
    (Completes (.standbyRequest 0 0xA5) s fun e => e.pwr = { s.dev.pwr with mode := 2, target := 1, leftAt := 0 } ∧ e.rd F.pwrState_state = 2 ∧ e.eventBit pwrPage 2 = true) ∧
    (Completes (.dormantRequest 0 0xA5) s fun e => e.pwr = { s.dev.pwr with mode := 2, target := 2, leftAt := 0 } ∧ e.rd F.pwrState_state = 2 ∧ e.eventBit pwrPage 2 = true) ∧
    (∀ k, k ≠ 0xA5 → Answers (.standbyRequest 0 k) s s.dev ∧ Answers (.dormantRequest 0 k) s s.dev)) ∧
  (∀ (s : State) (p tags : Nat) (fr : RxFrame) (tok : List Byte), s.dev.pwr.mode = 3 ∨ s.dev.pwr.mode = 4 → p = s.dev.pwr.wakePort → p < 24 → fr.fcsOk = true → 64 ≤ fr.len →
    fr.dest = s.dev.baseMac → tags ≤ 1 → (s.dev.port p).wakeLock ≤ s.dev.now →
    (tok = s.dev.wakeToken → tok.all (fun b => b == 0) = false → Answers (.wakeFrame p fr tags 0x0842 tok) s s.dev.wakeUp) ∧
    (tok = s.dev.wakeToken → tok.all (fun b => b == 0) = true → Answers (.wakeFrame p fr tags 0x0842 tok) s s.dev) ∧
    (tok ≠ s.dev.wakeToken → Completes (.wakeFrame p fr tags 0x0842 tok) s fun e =>
      e.rd F.fabWakeRej = min (s.dev.rd F.fabWakeRej + 1) (2 ^ F.fabWakeRej.w - 1) ∧ e.pwr = s.dev.pwr ∧ e.eventBit (fabPage p) 7 = true)) ∧
  (∀ (s : State),
    (s.dev.pwr.rail = true → s.dev.pwr.en = false → Completes .pwrEnAssert s fun e => e.pwr = { s.dev.pwr with en := true } ∧ e.sec = { s.dev.sec with due := true }) ∧
    (s.dev.pwr.en = true → Completes .pwrEnDeassert s fun e => e.pwr.en = false ∧ e.pwr.latched = false ∧ e.pwr.good = false) ∧
    (s.dev.pwr.good = true → Completes .inputLow s fun e => e.pwr.good = false ∧ e.pwr.mode = 5 ∧ e.sec.due = false) ∧
    (s.dev.pwr.good = false → Answers .inputLow s s.dev) ∧
    (∀ i, s.dev.pwr.rail = false → Completes (.standbyRailRise i) s fun e => e.pwr = { s.dev.pwr with rail := true, slotId := i % 8 } ∧ Dev.changesOnly [.pwr] s.dev e) ∧
    (s.dev.pwr.rail = true → Completes .standbyRailLoss s fun e => e.pwr.rail = false ∧ e.pwr.eid = 0 ∧ e.pwr.latched = false ∧ e.now = 0 ∧ e.sec.aonSeq = 0 ∧
      e.rd (F.fabWakeToken 0) = 0 ∧ e.rd (F.fabWakeToken 1) = 0)) ∧
  (∀ (s : State), s.dev.pwr.rail = true →
    (∀ id v, s.dev.sensor id = some v → Answers (.pldmGetSensor id) s (s.dev.emit .pldm id (1 :: v))) ∧
    (∀ id, s.dev.sensor id = none → Answers (.pldmGetSensor id) s (s.dev.emit .pldm id [0])) ∧
    (∀ v, s.dev.poweredUp = true → Completes (.pldmPowerCap v) s fun e => e.rd F.pwrCap_cap = (if 40 ≤ v ∧ v ≤ 72 then v else 72) ∧ Dev.changesOnly [.regs] s.dev e) ∧
    Answers .pldmWake s s.dev.wakeUp ∧
    (s.dev.pwr.mode ≠ 5 → Answers .pldmResetD4 s ((s.dev.clearWarm.wr F.pwrLastOff_cause 3).startD4)) ∧
    (∀ eid, 0 < eid → eid < 255 → Completes (.mctpSetEndpointId eid) s fun e => e.pwr = { s.dev.pwr with eid := eid } ∧ Dev.changesOnly [.pwr] s.dev e) ∧
    (Answers (.mctpSetEndpointId 0) s s.dev ∧ Answers (.mctpSetEndpointId 255) s s.dev))

/-- Number formats (R145, R146, R151, R152): a code of a finite value, converted back under any rounding, to nearest or by a draw, is the
same code, in every floating-point format and in INT8, MXINT8 and INT32 but for the most negative code; and a finite value never becomes
infinite or NaN on conversion, whichever format it is converted to. -/
def Obligations.NumberFormats : Prop :=
  (∀ f ∈ [fp64, fp32, fp16, bf16, e4m3, e5m2, e3m2, e2m3, e2m1], ∀ (rnd : Rnd) (c : Nat), c < 2 ^ f.bits → (f.decode c).isFinite = true →
    (f.conv rnd (f.decode c)).1 = c) ∧
  (∀ f ∈ [fp64, fp32, fp16, bf16, e4m3, e5m2, e3m2, e2m3, e2m1], ∀ (rnd : Rnd) (x : FVal), x.isFinite = true →
    (f.conv rnd x).1 < 2 ^ f.bits ∧ (f.decode (f.conv rnd x).1).isFinite = true) ∧
  (∀ (rnd : Rnd) (c : Nat), (c < 2 ^ 8 → c ≠ 2 ^ 7 → (encodeElem 0x4 rnd (decodeElem 0x4 c)).1 = c ∧ (encodeElem 0xD rnd (decodeElem 0xD c)).1 = c) ∧
    (c < 2 ^ 32 → c ≠ 2 ^ 31 → (encodeElem 0xF rnd (decodeElem 0xF c)).1 = c))
end

