-- ==== Sys2Proof/Laws/Maps.lean ====
section
/-! SUPPORT. The laws of finite tables and byte memories: what a write leaves under each key, and that every write keeps the canonical form. -/

namespace Sys2Proof.Machine

variable {α : Type}

/-! ### Reads after writes -/

@[simp] theorem mapLook_mapPut_self (m : List (Nat × α)) (k : Nat) (x : α) : mapLook (mapPut m k x) k = some x := by
  induction m with
  | nil => simp [mapPut, mapLook]
  | cons e m ih =>
    obtain ⟨a, v⟩ := e
    simp only [mapPut]
    split
    · simp [mapLook]
    · split
      · simp [mapLook]
      · simp [mapLook, *]

theorem mapLook_mapPut_ne (m : List (Nat × α)) {k q : Nat} (x : α) (h : q ≠ k) : mapLook (mapPut m k x) q = mapLook m q := by
  induction m with
  | nil => simp [mapPut, mapLook, h]
  | cons e m ih =>
    obtain ⟨a, v⟩ := e
    simp only [mapPut]
    split
    · subst_vars; simp [mapLook, h]
    · split
      · simp [mapLook, h]
      · simp only [mapLook]; split
        · rfl
        · exact ih

@[simp] theorem mapLook_mapDel_self (m : List (Nat × α)) (k : Nat) : mapLook (mapDel m k) k = none := by
  induction m with
  | nil => rfl
  | cons e m ih =>
    obtain ⟨a, v⟩ := e
    by_cases h : a = k
    · subst h; simpa [mapDel] using ih
    · have h' : k ≠ a := fun e => h e.symm
      simpa [mapDel, List.filter_cons, h, mapLook, h'] using ih

theorem mapLook_mapDel_ne (m : List (Nat × α)) {k q : Nat} (h : q ≠ k) : mapLook (mapDel m k) q = mapLook m q := by
  induction m with
  | nil => rfl
  | cons e m ih =>
    obtain ⟨a, v⟩ := e
    by_cases ha : a = k
    · subst ha; simpa [mapDel, mapLook, h] using ih
    · by_cases hq : q = a
      · subst hq; simp [mapDel, ha, mapLook]
      · simpa [mapDel, List.filter_cons, ha, mapLook, hq] using ih

theorem mapGet_mapSet [DecidableEq α] (d : α) (m : List (Nat × α)) (k q : Nat) (x : α) :
    mapGet d (mapSet d m k x) q = if q = k then x else mapGet d m q := by
  unfold mapGet mapSet
  by_cases hq : q = k
  · subst hq
    by_cases hx : x = d
    · simp [hx]
    · simp [hx]
  · by_cases hx : x = d
    · simp [hx, hq, mapLook_mapDel_ne]
    · simp [hx, hq, mapLook_mapPut_ne]

/-! ### Canonical form -/

/-- Every key of a list is above `a`. -/
def above (a : Nat) (m : List (Nat × α)) : Prop := ∀ e ∈ m, a < e.1

theorem mapSorted_cons (a : Nat) (v : α) (m : List (Nat × α)) : mapSorted ((a, v) :: m) = true ↔ above a m ∧ mapSorted m = true := by
  induction m generalizing a v with
  | nil => simp [mapSorted, above]
  | cons e m ih =>
    obtain ⟨b, y⟩ := e
    rw [mapSorted, Bool.and_eq_true, decide_eq_true_eq]
    constructor
    · rintro ⟨hab, h⟩
      refine ⟨fun e he => ?_, h⟩
      rcases List.mem_cons.mp he with rfl | he
      · exact hab
      · exact Nat.lt_trans hab (((ih b y).mp h).1 e he)
    · rintro ⟨h, hs⟩
      exact ⟨h _ List.mem_cons_self, hs⟩

theorem above_mapPut {a k : Nat} {m : List (Nat × α)} {x : α} (h : above a m) (hk : a < k) : above a (mapPut m k x) := by
  induction m with
  | nil => intro e he; simp only [mapPut, List.mem_singleton] at he; subst he; exact hk
  | cons e m ih =>
    obtain ⟨b, y⟩ := e
    have hm : above a m := fun e he => h e (List.mem_cons_of_mem _ he)
    have hb : a < b := h _ List.mem_cons_self
    simp only [mapPut]
    split
    · intro e he
      rcases List.mem_cons.mp he with rfl | he
      · exact hk
      · exact hm e he
    · split
      · intro e he
        rcases List.mem_cons.mp he with rfl | he
        · exact hk
        · exact h e he
      · intro e he
        rcases List.mem_cons.mp he with rfl | he
        · exact hb
        · exact ih hm e he

theorem mapSorted_mapPut {m : List (Nat × α)} (h : mapSorted m = true) (k : Nat) (x : α) : mapSorted (mapPut m k x) = true := by
  induction m with
  | nil => rfl
  | cons e m ih =>
    obtain ⟨b, y⟩ := e
    obtain ⟨hb, hm⟩ := (mapSorted_cons b y m).mp h
    simp only [mapPut]
    split
    · subst_vars; exact (mapSorted_cons _ _ _).mpr ⟨hb, hm⟩
    · split
      · rename_i hlt
        refine (mapSorted_cons _ _ _).mpr ⟨fun e he => ?_, h⟩
        rcases List.mem_cons.mp he with rfl | he
        · exact hlt
        · exact Nat.lt_trans hlt (hb e he)
      · rename_i hne hnlt
        exact (mapSorted_cons _ _ _).mpr ⟨above_mapPut hb (by omega), ih hm⟩

theorem mapSorted_filter {m : List (Nat × α)} (h : mapSorted m = true) (p : Nat × α → Bool) : mapSorted (m.filter p) = true := by
  induction m with
  | nil => rfl
  | cons e m ih =>
    obtain ⟨b, y⟩ := e
    obtain ⟨hb, hm⟩ := (mapSorted_cons b y m).mp h
    rw [List.filter_cons]
    split
    · exact (mapSorted_cons _ _ _).mpr ⟨fun e he => hb e (List.mem_filter.mp he).1, ih hm⟩
    · exact ih hm

theorem mem_mapPut {m : List (Nat × α)} {k : Nat} {x : α} {e : Nat × α} (h : e ∈ mapPut m k x) : e = (k, x) ∨ e ∈ m := by
  induction m with
  | nil => exact .inl (List.mem_singleton.mp h)
  | cons f m ih =>
    obtain ⟨b, y⟩ := f
    simp only [mapPut] at h
    split at h
    · rcases List.mem_cons.mp h with rfl | h
      · exact .inl rfl
      · exact .inr (List.mem_cons_of_mem _ h)
    · split at h
      · rcases List.mem_cons.mp h with rfl | h
        · exact .inl rfl
        · exact .inr h
      · rcases List.mem_cons.mp h with rfl | h
        · exact .inr List.mem_cons_self
        · exact (ih h).imp id (List.mem_cons_of_mem _)

theorem mapWf_mapSet [DecidableEq α] {d : α} {m : List (Nat × α)} (h : mapWf d m = true) (k : Nat) (x : α) : mapWf d (mapSet d m k x) = true := by
  unfold mapWf at h ⊢
  rw [Bool.and_eq_true, List.all_eq_true] at h ⊢
  unfold mapSet
  split
  · exact ⟨mapSorted_filter h.1 _, fun e he => h.2 e (List.mem_filter.mp he).1⟩
  · rename_i hx
    refine ⟨mapSorted_mapPut h.1 k x, fun e he => ?_⟩
    rcases mem_mapPut he with rfl | he
    · simpa using hx
    · exact h.2 e he

theorem mapWf_filter [DecidableEq α] {d : α} {m : List (Nat × α)} (h : mapWf d m = true) (p : Nat × α → Bool) : mapWf d (m.filter p) = true := by
  unfold mapWf at h ⊢
  rw [Bool.and_eq_true, List.all_eq_true] at h ⊢
  exact ⟨mapSorted_filter h.1 p, fun e he => h.2 e (List.mem_filter.mp he).1⟩

/-! ### Byte memories -/

theorem Memory.read_write (m : Memory) (a q : Nat) (b : Byte) : (m.write a b).read q = if q = a then b else m.read q := mapGet_mapSet 0 m a q b

theorem Memory.write_wf {m : Memory} (h : m.wf = true) (a : Nat) (b : Byte) : (m.write a b).wf = true := mapWf_mapSet h a b

theorem Memory.writeBytes_wf {m : Memory} (h : m.wf = true) (a : Nat) (bs : List Byte) : (m.writeBytes a bs).wf = true := by
  induction bs generalizing m a with
  | nil => exact h
  | cons b bs ih => exact ih (Memory.write_wf h a b) (a + 1)

theorem Memory.read_writeBytes_lt (m : Memory) {a q : Nat} (bs : List Byte) (h : q < a) : (m.writeBytes a bs).read q = m.read q := by
  induction bs generalizing m a with
  | nil => rfl
  | cons b bs ih =>
    rw [Memory.writeBytes, ih (m.write a b) (by omega), Memory.read_write, if_neg (by omega)]

theorem Memory.read_writeBytes_ge (m : Memory) {a q : Nat} (bs : List Byte) (h : a + bs.length ≤ q) : (m.writeBytes a bs).read q = m.read q := by
  induction bs generalizing m a with
  | nil => rfl
  | cons b bs ih =>
    rw [List.length_cons] at h
    rw [Memory.writeBytes, ih (m.write a b) (by omega), Memory.read_write, if_neg (by omega)]

theorem Memory.read_writeBytes_in (m : Memory) (a i : Nat) (bs : List Byte) (h : i < bs.length) :
    (m.writeBytes a bs).read (a + i) = bs[i] := by
  induction bs generalizing m a i with
  | nil => cases h
  | cons b bs ih =>
    rw [Memory.writeBytes]
    cases i with
    | zero => rw [Memory.read_writeBytes_lt _ _ (by omega), Memory.read_write]; simp
    | succ i =>
      have := ih (m.write a b) (a + 1) i (by simpa using h)
      rw [show a + 1 + i = a + (i + 1) by omega] at this
      rw [this]; rfl

theorem Memory.length_readBytes (m : Memory) (a n : Nat) : (m.readBytes a n).length = n := by
  induction n generalizing a with
  | zero => rfl
  | succ n ih => simp [Memory.readBytes, ih]

end Sys2Proof.Machine
end

