-- ==== Sys2Proof/Laws/State.lean ====
section
/-! SUPPORT. Every table of the device after every update of one table, and every table after a write of a register. -/

namespace Sys2Proof.Machine

@[simp] theorem Dev.setNow_now (d : Dev) (x : Nat) : (d.setNow x).now = x := rfl
@[simp] theorem Dev.setNow_regs (d : Dev) (x : Nat) : (d.setNow x).regs = d.regs := rfl
@[simp] theorem Dev.setNow_stampHold (d : Dev) (x : Nat) : (d.setNow x).stampHold = d.stampHold := rfl
@[simp] theorem Dev.setNow_t0 (d : Dev) (x : Nat) : (d.setNow x).t0 = d.t0 := rfl
@[simp] theorem Dev.setNow_t1 (d : Dev) (x : Nat) : (d.setNow x).t1 = d.t1 := rfl
@[simp] theorem Dev.setNow_log (d : Dev) (x : Nat) : (d.setNow x).log = d.log := rfl
@[simp] theorem Dev.setNow_logSeq (d : Dev) (x : Nat) : (d.setNow x).logSeq = d.logSeq := rfl
@[simp] theorem Dev.setNow_msix (d : Dev) (x : Nat) : (d.setNow x).msix = d.msix := rfl
@[simp] theorem Dev.setNow_msixPend (d : Dev) (x : Nat) : (d.setNow x).msixPend = d.msixPend := rfl
@[simp] theorem Dev.setNow_spr (d : Dev) (x : Nat) : (d.setNow x).spr = d.spr := rfl
@[simp] theorem Dev.setNow_six (d : Dev) (x : Nat) : (d.setNow x).six = d.six := rfl
@[simp] theorem Dev.setNow_evt (d : Dev) (x : Nat) : (d.setNow x).evt = d.evt := rfl
@[simp] theorem Dev.setNow_kqp (d : Dev) (x : Nat) : (d.setNow x).kqp = d.kqp := rfl
@[simp] theorem Dev.setNow_deviceId (d : Dev) (x : Nat) : (d.setNow x).deviceId = d.deviceId := rfl
@[simp] theorem Dev.setNow_free (d : Dev) (x : Nat) : (d.setNow x).free = d.free := rfl
@[simp] theorem Dev.setNow_out (d : Dev) (x : Nat) : (d.setNow x).out = d.out := rfl
@[simp] theorem Dev.setNow_tir (d : Dev) (x : Nat) : (d.setNow x).tir = d.tir := rfl
@[simp] theorem Dev.setNow_mkt (d : Dev) (x : Nat) : (d.setNow x).mkt = d.mkt := rfl
@[simp] theorem Dev.setNow_ldg (d : Dev) (x : Nat) : (d.setNow x).ldg = d.ldg := rfl
@[simp] theorem Dev.setNow_hlt (d : Dev) (x : Nat) : (d.setNow x).hlt = d.hlt := rfl
@[simp] theorem Dev.setNow_wset (d : Dev) (x : Nat) : (d.setNow x).wset = d.wset := rfl
@[simp] theorem Dev.setNow_acr (d : Dev) (x : Nat) : (d.setNow x).acr = d.acr := rfl
@[simp] theorem Dev.setNow_col (d : Dev) (x : Nat) : (d.setNow x).col = d.col := rfl
@[simp] theorem Dev.setNow_fab (d : Dev) (x : Nat) : (d.setNow x).fab = d.fab := rfl
@[simp] theorem Dev.setNow_tbn (d : Dev) (x : Nat) : (d.setNow x).tbn = d.tbn := rfl
@[simp] theorem Dev.setNow_sec (d : Dev) (x : Nat) : (d.setNow x).sec = d.sec := rfl
@[simp] theorem Dev.setNow_tim (d : Dev) (x : Nat) : (d.setNow x).tim = d.tim := rfl
@[simp] theorem Dev.setNow_pwr (d : Dev) (x : Nat) : (d.setNow x).pwr = d.pwr := rfl
@[simp] theorem Dev.setNow_hif (d : Dev) (x : Nat) : (d.setNow x).hif = d.hif := rfl
@[simp] theorem Dev.setNow_ccr (d : Dev) (x : Nat) : (d.setNow x).ccr = d.ccr := rfl

@[simp] theorem Dev.setRegs_regs (d : Dev) (x : List (Nat × Word)) : (d.setRegs x).regs = x := rfl
@[simp] theorem Dev.setRegs_now (d : Dev) (x : List (Nat × Word)) : (d.setRegs x).now = d.now := rfl
@[simp] theorem Dev.setRegs_stampHold (d : Dev) (x : List (Nat × Word)) : (d.setRegs x).stampHold = d.stampHold := rfl
@[simp] theorem Dev.setRegs_t0 (d : Dev) (x : List (Nat × Word)) : (d.setRegs x).t0 = d.t0 := rfl
@[simp] theorem Dev.setRegs_t1 (d : Dev) (x : List (Nat × Word)) : (d.setRegs x).t1 = d.t1 := rfl
@[simp] theorem Dev.setRegs_log (d : Dev) (x : List (Nat × Word)) : (d.setRegs x).log = d.log := rfl
@[simp] theorem Dev.setRegs_logSeq (d : Dev) (x : List (Nat × Word)) : (d.setRegs x).logSeq = d.logSeq := rfl
@[simp] theorem Dev.setRegs_msix (d : Dev) (x : List (Nat × Word)) : (d.setRegs x).msix = d.msix := rfl
@[simp] theorem Dev.setRegs_msixPend (d : Dev) (x : List (Nat × Word)) : (d.setRegs x).msixPend = d.msixPend := rfl
@[simp] theorem Dev.setRegs_spr (d : Dev) (x : List (Nat × Word)) : (d.setRegs x).spr = d.spr := rfl
@[simp] theorem Dev.setRegs_six (d : Dev) (x : List (Nat × Word)) : (d.setRegs x).six = d.six := rfl
@[simp] theorem Dev.setRegs_evt (d : Dev) (x : List (Nat × Word)) : (d.setRegs x).evt = d.evt := rfl
@[simp] theorem Dev.setRegs_kqp (d : Dev) (x : List (Nat × Word)) : (d.setRegs x).kqp = d.kqp := rfl
@[simp] theorem Dev.setRegs_deviceId (d : Dev) (x : List (Nat × Word)) : (d.setRegs x).deviceId = d.deviceId := rfl
@[simp] theorem Dev.setRegs_free (d : Dev) (x : List (Nat × Word)) : (d.setRegs x).free = d.free := rfl
@[simp] theorem Dev.setRegs_out (d : Dev) (x : List (Nat × Word)) : (d.setRegs x).out = d.out := rfl
@[simp] theorem Dev.setRegs_tir (d : Dev) (x : List (Nat × Word)) : (d.setRegs x).tir = d.tir := rfl
@[simp] theorem Dev.setRegs_mkt (d : Dev) (x : List (Nat × Word)) : (d.setRegs x).mkt = d.mkt := rfl
@[simp] theorem Dev.setRegs_ldg (d : Dev) (x : List (Nat × Word)) : (d.setRegs x).ldg = d.ldg := rfl
@[simp] theorem Dev.setRegs_hlt (d : Dev) (x : List (Nat × Word)) : (d.setRegs x).hlt = d.hlt := rfl
@[simp] theorem Dev.setRegs_wset (d : Dev) (x : List (Nat × Word)) : (d.setRegs x).wset = d.wset := rfl
@[simp] theorem Dev.setRegs_acr (d : Dev) (x : List (Nat × Word)) : (d.setRegs x).acr = d.acr := rfl
@[simp] theorem Dev.setRegs_col (d : Dev) (x : List (Nat × Word)) : (d.setRegs x).col = d.col := rfl
@[simp] theorem Dev.setRegs_fab (d : Dev) (x : List (Nat × Word)) : (d.setRegs x).fab = d.fab := rfl
@[simp] theorem Dev.setRegs_tbn (d : Dev) (x : List (Nat × Word)) : (d.setRegs x).tbn = d.tbn := rfl
@[simp] theorem Dev.setRegs_sec (d : Dev) (x : List (Nat × Word)) : (d.setRegs x).sec = d.sec := rfl
@[simp] theorem Dev.setRegs_tim (d : Dev) (x : List (Nat × Word)) : (d.setRegs x).tim = d.tim := rfl
@[simp] theorem Dev.setRegs_pwr (d : Dev) (x : List (Nat × Word)) : (d.setRegs x).pwr = d.pwr := rfl
@[simp] theorem Dev.setRegs_hif (d : Dev) (x : List (Nat × Word)) : (d.setRegs x).hif = d.hif := rfl
@[simp] theorem Dev.setRegs_ccr (d : Dev) (x : List (Nat × Word)) : (d.setRegs x).ccr = d.ccr := rfl

@[simp] theorem Dev.setStampHold_stampHold (d : Dev) (x : List (Nat × Word)) : (d.setStampHold x).stampHold = x := rfl
@[simp] theorem Dev.setStampHold_now (d : Dev) (x : List (Nat × Word)) : (d.setStampHold x).now = d.now := rfl
@[simp] theorem Dev.setStampHold_regs (d : Dev) (x : List (Nat × Word)) : (d.setStampHold x).regs = d.regs := rfl
@[simp] theorem Dev.setStampHold_t0 (d : Dev) (x : List (Nat × Word)) : (d.setStampHold x).t0 = d.t0 := rfl
@[simp] theorem Dev.setStampHold_t1 (d : Dev) (x : List (Nat × Word)) : (d.setStampHold x).t1 = d.t1 := rfl
@[simp] theorem Dev.setStampHold_log (d : Dev) (x : List (Nat × Word)) : (d.setStampHold x).log = d.log := rfl
@[simp] theorem Dev.setStampHold_logSeq (d : Dev) (x : List (Nat × Word)) : (d.setStampHold x).logSeq = d.logSeq := rfl
@[simp] theorem Dev.setStampHold_msix (d : Dev) (x : List (Nat × Word)) : (d.setStampHold x).msix = d.msix := rfl
@[simp] theorem Dev.setStampHold_msixPend (d : Dev) (x : List (Nat × Word)) : (d.setStampHold x).msixPend = d.msixPend := rfl
@[simp] theorem Dev.setStampHold_spr (d : Dev) (x : List (Nat × Word)) : (d.setStampHold x).spr = d.spr := rfl
@[simp] theorem Dev.setStampHold_six (d : Dev) (x : List (Nat × Word)) : (d.setStampHold x).six = d.six := rfl
@[simp] theorem Dev.setStampHold_evt (d : Dev) (x : List (Nat × Word)) : (d.setStampHold x).evt = d.evt := rfl
@[simp] theorem Dev.setStampHold_kqp (d : Dev) (x : List (Nat × Word)) : (d.setStampHold x).kqp = d.kqp := rfl
@[simp] theorem Dev.setStampHold_deviceId (d : Dev) (x : List (Nat × Word)) : (d.setStampHold x).deviceId = d.deviceId := rfl
@[simp] theorem Dev.setStampHold_free (d : Dev) (x : List (Nat × Word)) : (d.setStampHold x).free = d.free := rfl
@[simp] theorem Dev.setStampHold_out (d : Dev) (x : List (Nat × Word)) : (d.setStampHold x).out = d.out := rfl
@[simp] theorem Dev.setStampHold_tir (d : Dev) (x : List (Nat × Word)) : (d.setStampHold x).tir = d.tir := rfl
@[simp] theorem Dev.setStampHold_mkt (d : Dev) (x : List (Nat × Word)) : (d.setStampHold x).mkt = d.mkt := rfl
@[simp] theorem Dev.setStampHold_ldg (d : Dev) (x : List (Nat × Word)) : (d.setStampHold x).ldg = d.ldg := rfl
@[simp] theorem Dev.setStampHold_hlt (d : Dev) (x : List (Nat × Word)) : (d.setStampHold x).hlt = d.hlt := rfl
@[simp] theorem Dev.setStampHold_wset (d : Dev) (x : List (Nat × Word)) : (d.setStampHold x).wset = d.wset := rfl
@[simp] theorem Dev.setStampHold_acr (d : Dev) (x : List (Nat × Word)) : (d.setStampHold x).acr = d.acr := rfl
@[simp] theorem Dev.setStampHold_col (d : Dev) (x : List (Nat × Word)) : (d.setStampHold x).col = d.col := rfl
@[simp] theorem Dev.setStampHold_fab (d : Dev) (x : List (Nat × Word)) : (d.setStampHold x).fab = d.fab := rfl
@[simp] theorem Dev.setStampHold_tbn (d : Dev) (x : List (Nat × Word)) : (d.setStampHold x).tbn = d.tbn := rfl
@[simp] theorem Dev.setStampHold_sec (d : Dev) (x : List (Nat × Word)) : (d.setStampHold x).sec = d.sec := rfl
@[simp] theorem Dev.setStampHold_tim (d : Dev) (x : List (Nat × Word)) : (d.setStampHold x).tim = d.tim := rfl
@[simp] theorem Dev.setStampHold_pwr (d : Dev) (x : List (Nat × Word)) : (d.setStampHold x).pwr = d.pwr := rfl
@[simp] theorem Dev.setStampHold_hif (d : Dev) (x : List (Nat × Word)) : (d.setStampHold x).hif = d.hif := rfl
@[simp] theorem Dev.setStampHold_ccr (d : Dev) (x : List (Nat × Word)) : (d.setStampHold x).ccr = d.ccr := rfl

@[simp] theorem Dev.setT0_t0 (d : Dev) (x : Memory) : (d.setT0 x).t0 = x := rfl
@[simp] theorem Dev.setT0_now (d : Dev) (x : Memory) : (d.setT0 x).now = d.now := rfl
@[simp] theorem Dev.setT0_regs (d : Dev) (x : Memory) : (d.setT0 x).regs = d.regs := rfl
@[simp] theorem Dev.setT0_stampHold (d : Dev) (x : Memory) : (d.setT0 x).stampHold = d.stampHold := rfl
@[simp] theorem Dev.setT0_t1 (d : Dev) (x : Memory) : (d.setT0 x).t1 = d.t1 := rfl
@[simp] theorem Dev.setT0_log (d : Dev) (x : Memory) : (d.setT0 x).log = d.log := rfl
@[simp] theorem Dev.setT0_logSeq (d : Dev) (x : Memory) : (d.setT0 x).logSeq = d.logSeq := rfl
@[simp] theorem Dev.setT0_msix (d : Dev) (x : Memory) : (d.setT0 x).msix = d.msix := rfl
@[simp] theorem Dev.setT0_msixPend (d : Dev) (x : Memory) : (d.setT0 x).msixPend = d.msixPend := rfl
@[simp] theorem Dev.setT0_spr (d : Dev) (x : Memory) : (d.setT0 x).spr = d.spr := rfl
@[simp] theorem Dev.setT0_six (d : Dev) (x : Memory) : (d.setT0 x).six = d.six := rfl
@[simp] theorem Dev.setT0_evt (d : Dev) (x : Memory) : (d.setT0 x).evt = d.evt := rfl
@[simp] theorem Dev.setT0_kqp (d : Dev) (x : Memory) : (d.setT0 x).kqp = d.kqp := rfl
@[simp] theorem Dev.setT0_deviceId (d : Dev) (x : Memory) : (d.setT0 x).deviceId = d.deviceId := rfl
@[simp] theorem Dev.setT0_free (d : Dev) (x : Memory) : (d.setT0 x).free = d.free := rfl
@[simp] theorem Dev.setT0_out (d : Dev) (x : Memory) : (d.setT0 x).out = d.out := rfl
@[simp] theorem Dev.setT0_tir (d : Dev) (x : Memory) : (d.setT0 x).tir = d.tir := rfl
@[simp] theorem Dev.setT0_mkt (d : Dev) (x : Memory) : (d.setT0 x).mkt = d.mkt := rfl
@[simp] theorem Dev.setT0_ldg (d : Dev) (x : Memory) : (d.setT0 x).ldg = d.ldg := rfl
@[simp] theorem Dev.setT0_hlt (d : Dev) (x : Memory) : (d.setT0 x).hlt = d.hlt := rfl
@[simp] theorem Dev.setT0_wset (d : Dev) (x : Memory) : (d.setT0 x).wset = d.wset := rfl
@[simp] theorem Dev.setT0_acr (d : Dev) (x : Memory) : (d.setT0 x).acr = d.acr := rfl
@[simp] theorem Dev.setT0_col (d : Dev) (x : Memory) : (d.setT0 x).col = d.col := rfl
@[simp] theorem Dev.setT0_fab (d : Dev) (x : Memory) : (d.setT0 x).fab = d.fab := rfl
@[simp] theorem Dev.setT0_tbn (d : Dev) (x : Memory) : (d.setT0 x).tbn = d.tbn := rfl
@[simp] theorem Dev.setT0_sec (d : Dev) (x : Memory) : (d.setT0 x).sec = d.sec := rfl
@[simp] theorem Dev.setT0_tim (d : Dev) (x : Memory) : (d.setT0 x).tim = d.tim := rfl
@[simp] theorem Dev.setT0_pwr (d : Dev) (x : Memory) : (d.setT0 x).pwr = d.pwr := rfl
@[simp] theorem Dev.setT0_hif (d : Dev) (x : Memory) : (d.setT0 x).hif = d.hif := rfl
@[simp] theorem Dev.setT0_ccr (d : Dev) (x : Memory) : (d.setT0 x).ccr = d.ccr := rfl

@[simp] theorem Dev.setT1_t1 (d : Dev) (x : Memory) : (d.setT1 x).t1 = x := rfl
@[simp] theorem Dev.setT1_now (d : Dev) (x : Memory) : (d.setT1 x).now = d.now := rfl
@[simp] theorem Dev.setT1_regs (d : Dev) (x : Memory) : (d.setT1 x).regs = d.regs := rfl
@[simp] theorem Dev.setT1_stampHold (d : Dev) (x : Memory) : (d.setT1 x).stampHold = d.stampHold := rfl
@[simp] theorem Dev.setT1_t0 (d : Dev) (x : Memory) : (d.setT1 x).t0 = d.t0 := rfl
@[simp] theorem Dev.setT1_log (d : Dev) (x : Memory) : (d.setT1 x).log = d.log := rfl
@[simp] theorem Dev.setT1_logSeq (d : Dev) (x : Memory) : (d.setT1 x).logSeq = d.logSeq := rfl
@[simp] theorem Dev.setT1_msix (d : Dev) (x : Memory) : (d.setT1 x).msix = d.msix := rfl
@[simp] theorem Dev.setT1_msixPend (d : Dev) (x : Memory) : (d.setT1 x).msixPend = d.msixPend := rfl
@[simp] theorem Dev.setT1_spr (d : Dev) (x : Memory) : (d.setT1 x).spr = d.spr := rfl
@[simp] theorem Dev.setT1_six (d : Dev) (x : Memory) : (d.setT1 x).six = d.six := rfl
@[simp] theorem Dev.setT1_evt (d : Dev) (x : Memory) : (d.setT1 x).evt = d.evt := rfl
@[simp] theorem Dev.setT1_kqp (d : Dev) (x : Memory) : (d.setT1 x).kqp = d.kqp := rfl
@[simp] theorem Dev.setT1_deviceId (d : Dev) (x : Memory) : (d.setT1 x).deviceId = d.deviceId := rfl
@[simp] theorem Dev.setT1_free (d : Dev) (x : Memory) : (d.setT1 x).free = d.free := rfl
@[simp] theorem Dev.setT1_out (d : Dev) (x : Memory) : (d.setT1 x).out = d.out := rfl
@[simp] theorem Dev.setT1_tir (d : Dev) (x : Memory) : (d.setT1 x).tir = d.tir := rfl
@[simp] theorem Dev.setT1_mkt (d : Dev) (x : Memory) : (d.setT1 x).mkt = d.mkt := rfl
@[simp] theorem Dev.setT1_ldg (d : Dev) (x : Memory) : (d.setT1 x).ldg = d.ldg := rfl
@[simp] theorem Dev.setT1_hlt (d : Dev) (x : Memory) : (d.setT1 x).hlt = d.hlt := rfl
@[simp] theorem Dev.setT1_wset (d : Dev) (x : Memory) : (d.setT1 x).wset = d.wset := rfl
@[simp] theorem Dev.setT1_acr (d : Dev) (x : Memory) : (d.setT1 x).acr = d.acr := rfl
@[simp] theorem Dev.setT1_col (d : Dev) (x : Memory) : (d.setT1 x).col = d.col := rfl
@[simp] theorem Dev.setT1_fab (d : Dev) (x : Memory) : (d.setT1 x).fab = d.fab := rfl
@[simp] theorem Dev.setT1_tbn (d : Dev) (x : Memory) : (d.setT1 x).tbn = d.tbn := rfl
@[simp] theorem Dev.setT1_sec (d : Dev) (x : Memory) : (d.setT1 x).sec = d.sec := rfl
@[simp] theorem Dev.setT1_tim (d : Dev) (x : Memory) : (d.setT1 x).tim = d.tim := rfl
@[simp] theorem Dev.setT1_pwr (d : Dev) (x : Memory) : (d.setT1 x).pwr = d.pwr := rfl
@[simp] theorem Dev.setT1_hif (d : Dev) (x : Memory) : (d.setT1 x).hif = d.hif := rfl
@[simp] theorem Dev.setT1_ccr (d : Dev) (x : Memory) : (d.setT1 x).ccr = d.ccr := rfl

@[simp] theorem Dev.setMsix_msix (d : Dev) (x : List (Nat × Word)) : (d.setMsix x).msix = x := rfl
@[simp] theorem Dev.setMsix_now (d : Dev) (x : List (Nat × Word)) : (d.setMsix x).now = d.now := rfl
@[simp] theorem Dev.setMsix_regs (d : Dev) (x : List (Nat × Word)) : (d.setMsix x).regs = d.regs := rfl
@[simp] theorem Dev.setMsix_stampHold (d : Dev) (x : List (Nat × Word)) : (d.setMsix x).stampHold = d.stampHold := rfl
@[simp] theorem Dev.setMsix_t0 (d : Dev) (x : List (Nat × Word)) : (d.setMsix x).t0 = d.t0 := rfl
@[simp] theorem Dev.setMsix_t1 (d : Dev) (x : List (Nat × Word)) : (d.setMsix x).t1 = d.t1 := rfl
@[simp] theorem Dev.setMsix_log (d : Dev) (x : List (Nat × Word)) : (d.setMsix x).log = d.log := rfl
@[simp] theorem Dev.setMsix_logSeq (d : Dev) (x : List (Nat × Word)) : (d.setMsix x).logSeq = d.logSeq := rfl
@[simp] theorem Dev.setMsix_msixPend (d : Dev) (x : List (Nat × Word)) : (d.setMsix x).msixPend = d.msixPend := rfl
@[simp] theorem Dev.setMsix_spr (d : Dev) (x : List (Nat × Word)) : (d.setMsix x).spr = d.spr := rfl
@[simp] theorem Dev.setMsix_six (d : Dev) (x : List (Nat × Word)) : (d.setMsix x).six = d.six := rfl
@[simp] theorem Dev.setMsix_evt (d : Dev) (x : List (Nat × Word)) : (d.setMsix x).evt = d.evt := rfl
@[simp] theorem Dev.setMsix_kqp (d : Dev) (x : List (Nat × Word)) : (d.setMsix x).kqp = d.kqp := rfl
@[simp] theorem Dev.setMsix_deviceId (d : Dev) (x : List (Nat × Word)) : (d.setMsix x).deviceId = d.deviceId := rfl
@[simp] theorem Dev.setMsix_free (d : Dev) (x : List (Nat × Word)) : (d.setMsix x).free = d.free := rfl
@[simp] theorem Dev.setMsix_out (d : Dev) (x : List (Nat × Word)) : (d.setMsix x).out = d.out := rfl
@[simp] theorem Dev.setMsix_tir (d : Dev) (x : List (Nat × Word)) : (d.setMsix x).tir = d.tir := rfl
@[simp] theorem Dev.setMsix_mkt (d : Dev) (x : List (Nat × Word)) : (d.setMsix x).mkt = d.mkt := rfl
@[simp] theorem Dev.setMsix_ldg (d : Dev) (x : List (Nat × Word)) : (d.setMsix x).ldg = d.ldg := rfl
@[simp] theorem Dev.setMsix_hlt (d : Dev) (x : List (Nat × Word)) : (d.setMsix x).hlt = d.hlt := rfl
@[simp] theorem Dev.setMsix_wset (d : Dev) (x : List (Nat × Word)) : (d.setMsix x).wset = d.wset := rfl
@[simp] theorem Dev.setMsix_acr (d : Dev) (x : List (Nat × Word)) : (d.setMsix x).acr = d.acr := rfl
@[simp] theorem Dev.setMsix_col (d : Dev) (x : List (Nat × Word)) : (d.setMsix x).col = d.col := rfl
@[simp] theorem Dev.setMsix_fab (d : Dev) (x : List (Nat × Word)) : (d.setMsix x).fab = d.fab := rfl
@[simp] theorem Dev.setMsix_tbn (d : Dev) (x : List (Nat × Word)) : (d.setMsix x).tbn = d.tbn := rfl
@[simp] theorem Dev.setMsix_sec (d : Dev) (x : List (Nat × Word)) : (d.setMsix x).sec = d.sec := rfl
@[simp] theorem Dev.setMsix_tim (d : Dev) (x : List (Nat × Word)) : (d.setMsix x).tim = d.tim := rfl
@[simp] theorem Dev.setMsix_pwr (d : Dev) (x : List (Nat × Word)) : (d.setMsix x).pwr = d.pwr := rfl
@[simp] theorem Dev.setMsix_hif (d : Dev) (x : List (Nat × Word)) : (d.setMsix x).hif = d.hif := rfl
@[simp] theorem Dev.setMsix_ccr (d : Dev) (x : List (Nat × Word)) : (d.setMsix x).ccr = d.ccr := rfl

@[simp] theorem Dev.setMsixPend_msixPend (d : Dev) (x : List Nat) : (d.setMsixPend x).msixPend = x := rfl
@[simp] theorem Dev.setMsixPend_now (d : Dev) (x : List Nat) : (d.setMsixPend x).now = d.now := rfl
@[simp] theorem Dev.setMsixPend_regs (d : Dev) (x : List Nat) : (d.setMsixPend x).regs = d.regs := rfl
@[simp] theorem Dev.setMsixPend_stampHold (d : Dev) (x : List Nat) : (d.setMsixPend x).stampHold = d.stampHold := rfl
@[simp] theorem Dev.setMsixPend_t0 (d : Dev) (x : List Nat) : (d.setMsixPend x).t0 = d.t0 := rfl
@[simp] theorem Dev.setMsixPend_t1 (d : Dev) (x : List Nat) : (d.setMsixPend x).t1 = d.t1 := rfl
@[simp] theorem Dev.setMsixPend_log (d : Dev) (x : List Nat) : (d.setMsixPend x).log = d.log := rfl
@[simp] theorem Dev.setMsixPend_logSeq (d : Dev) (x : List Nat) : (d.setMsixPend x).logSeq = d.logSeq := rfl
@[simp] theorem Dev.setMsixPend_msix (d : Dev) (x : List Nat) : (d.setMsixPend x).msix = d.msix := rfl
@[simp] theorem Dev.setMsixPend_spr (d : Dev) (x : List Nat) : (d.setMsixPend x).spr = d.spr := rfl
@[simp] theorem Dev.setMsixPend_six (d : Dev) (x : List Nat) : (d.setMsixPend x).six = d.six := rfl
@[simp] theorem Dev.setMsixPend_evt (d : Dev) (x : List Nat) : (d.setMsixPend x).evt = d.evt := rfl
@[simp] theorem Dev.setMsixPend_kqp (d : Dev) (x : List Nat) : (d.setMsixPend x).kqp = d.kqp := rfl
@[simp] theorem Dev.setMsixPend_deviceId (d : Dev) (x : List Nat) : (d.setMsixPend x).deviceId = d.deviceId := rfl
@[simp] theorem Dev.setMsixPend_free (d : Dev) (x : List Nat) : (d.setMsixPend x).free = d.free := rfl
@[simp] theorem Dev.setMsixPend_out (d : Dev) (x : List Nat) : (d.setMsixPend x).out = d.out := rfl
@[simp] theorem Dev.setMsixPend_tir (d : Dev) (x : List Nat) : (d.setMsixPend x).tir = d.tir := rfl
@[simp] theorem Dev.setMsixPend_mkt (d : Dev) (x : List Nat) : (d.setMsixPend x).mkt = d.mkt := rfl
@[simp] theorem Dev.setMsixPend_ldg (d : Dev) (x : List Nat) : (d.setMsixPend x).ldg = d.ldg := rfl
@[simp] theorem Dev.setMsixPend_hlt (d : Dev) (x : List Nat) : (d.setMsixPend x).hlt = d.hlt := rfl
@[simp] theorem Dev.setMsixPend_wset (d : Dev) (x : List Nat) : (d.setMsixPend x).wset = d.wset := rfl
@[simp] theorem Dev.setMsixPend_acr (d : Dev) (x : List Nat) : (d.setMsixPend x).acr = d.acr := rfl
@[simp] theorem Dev.setMsixPend_col (d : Dev) (x : List Nat) : (d.setMsixPend x).col = d.col := rfl
@[simp] theorem Dev.setMsixPend_fab (d : Dev) (x : List Nat) : (d.setMsixPend x).fab = d.fab := rfl
@[simp] theorem Dev.setMsixPend_tbn (d : Dev) (x : List Nat) : (d.setMsixPend x).tbn = d.tbn := rfl
@[simp] theorem Dev.setMsixPend_sec (d : Dev) (x : List Nat) : (d.setMsixPend x).sec = d.sec := rfl
@[simp] theorem Dev.setMsixPend_tim (d : Dev) (x : List Nat) : (d.setMsixPend x).tim = d.tim := rfl
@[simp] theorem Dev.setMsixPend_pwr (d : Dev) (x : List Nat) : (d.setMsixPend x).pwr = d.pwr := rfl
@[simp] theorem Dev.setMsixPend_hif (d : Dev) (x : List Nat) : (d.setMsixPend x).hif = d.hif := rfl
@[simp] theorem Dev.setMsixPend_ccr (d : Dev) (x : List Nat) : (d.setMsixPend x).ccr = d.ccr := rfl

@[simp] theorem Dev.setSpr_spr (d : Dev) (x : Spares) : (d.setSpr x).spr = x := rfl
@[simp] theorem Dev.setSpr_now (d : Dev) (x : Spares) : (d.setSpr x).now = d.now := rfl
@[simp] theorem Dev.setSpr_regs (d : Dev) (x : Spares) : (d.setSpr x).regs = d.regs := rfl
@[simp] theorem Dev.setSpr_stampHold (d : Dev) (x : Spares) : (d.setSpr x).stampHold = d.stampHold := rfl
@[simp] theorem Dev.setSpr_t0 (d : Dev) (x : Spares) : (d.setSpr x).t0 = d.t0 := rfl
@[simp] theorem Dev.setSpr_t1 (d : Dev) (x : Spares) : (d.setSpr x).t1 = d.t1 := rfl
@[simp] theorem Dev.setSpr_log (d : Dev) (x : Spares) : (d.setSpr x).log = d.log := rfl
@[simp] theorem Dev.setSpr_logSeq (d : Dev) (x : Spares) : (d.setSpr x).logSeq = d.logSeq := rfl
@[simp] theorem Dev.setSpr_msix (d : Dev) (x : Spares) : (d.setSpr x).msix = d.msix := rfl
@[simp] theorem Dev.setSpr_msixPend (d : Dev) (x : Spares) : (d.setSpr x).msixPend = d.msixPend := rfl
@[simp] theorem Dev.setSpr_six (d : Dev) (x : Spares) : (d.setSpr x).six = d.six := rfl
@[simp] theorem Dev.setSpr_evt (d : Dev) (x : Spares) : (d.setSpr x).evt = d.evt := rfl
@[simp] theorem Dev.setSpr_kqp (d : Dev) (x : Spares) : (d.setSpr x).kqp = d.kqp := rfl
@[simp] theorem Dev.setSpr_deviceId (d : Dev) (x : Spares) : (d.setSpr x).deviceId = d.deviceId := rfl
@[simp] theorem Dev.setSpr_free (d : Dev) (x : Spares) : (d.setSpr x).free = d.free := rfl
@[simp] theorem Dev.setSpr_out (d : Dev) (x : Spares) : (d.setSpr x).out = d.out := rfl
@[simp] theorem Dev.setSpr_tir (d : Dev) (x : Spares) : (d.setSpr x).tir = d.tir := rfl
@[simp] theorem Dev.setSpr_mkt (d : Dev) (x : Spares) : (d.setSpr x).mkt = d.mkt := rfl
@[simp] theorem Dev.setSpr_ldg (d : Dev) (x : Spares) : (d.setSpr x).ldg = d.ldg := rfl
@[simp] theorem Dev.setSpr_hlt (d : Dev) (x : Spares) : (d.setSpr x).hlt = d.hlt := rfl
@[simp] theorem Dev.setSpr_wset (d : Dev) (x : Spares) : (d.setSpr x).wset = d.wset := rfl
@[simp] theorem Dev.setSpr_acr (d : Dev) (x : Spares) : (d.setSpr x).acr = d.acr := rfl
@[simp] theorem Dev.setSpr_col (d : Dev) (x : Spares) : (d.setSpr x).col = d.col := rfl
@[simp] theorem Dev.setSpr_fab (d : Dev) (x : Spares) : (d.setSpr x).fab = d.fab := rfl
@[simp] theorem Dev.setSpr_tbn (d : Dev) (x : Spares) : (d.setSpr x).tbn = d.tbn := rfl
@[simp] theorem Dev.setSpr_sec (d : Dev) (x : Spares) : (d.setSpr x).sec = d.sec := rfl
@[simp] theorem Dev.setSpr_tim (d : Dev) (x : Spares) : (d.setSpr x).tim = d.tim := rfl
@[simp] theorem Dev.setSpr_pwr (d : Dev) (x : Spares) : (d.setSpr x).pwr = d.pwr := rfl
@[simp] theorem Dev.setSpr_hif (d : Dev) (x : Spares) : (d.setSpr x).hif = d.hif := rfl
@[simp] theorem Dev.setSpr_ccr (d : Dev) (x : Spares) : (d.setSpr x).ccr = d.ccr := rfl

@[simp] theorem Dev.setSix_six (d : Dev) (x : SixState) : (d.setSix x).six = x := rfl
@[simp] theorem Dev.setSix_now (d : Dev) (x : SixState) : (d.setSix x).now = d.now := rfl
@[simp] theorem Dev.setSix_regs (d : Dev) (x : SixState) : (d.setSix x).regs = d.regs := rfl
@[simp] theorem Dev.setSix_stampHold (d : Dev) (x : SixState) : (d.setSix x).stampHold = d.stampHold := rfl
@[simp] theorem Dev.setSix_t0 (d : Dev) (x : SixState) : (d.setSix x).t0 = d.t0 := rfl
@[simp] theorem Dev.setSix_t1 (d : Dev) (x : SixState) : (d.setSix x).t1 = d.t1 := rfl
@[simp] theorem Dev.setSix_log (d : Dev) (x : SixState) : (d.setSix x).log = d.log := rfl
@[simp] theorem Dev.setSix_logSeq (d : Dev) (x : SixState) : (d.setSix x).logSeq = d.logSeq := rfl
@[simp] theorem Dev.setSix_msix (d : Dev) (x : SixState) : (d.setSix x).msix = d.msix := rfl
@[simp] theorem Dev.setSix_msixPend (d : Dev) (x : SixState) : (d.setSix x).msixPend = d.msixPend := rfl
@[simp] theorem Dev.setSix_spr (d : Dev) (x : SixState) : (d.setSix x).spr = d.spr := rfl
@[simp] theorem Dev.setSix_evt (d : Dev) (x : SixState) : (d.setSix x).evt = d.evt := rfl
@[simp] theorem Dev.setSix_kqp (d : Dev) (x : SixState) : (d.setSix x).kqp = d.kqp := rfl
@[simp] theorem Dev.setSix_deviceId (d : Dev) (x : SixState) : (d.setSix x).deviceId = d.deviceId := rfl
@[simp] theorem Dev.setSix_free (d : Dev) (x : SixState) : (d.setSix x).free = d.free := rfl
@[simp] theorem Dev.setSix_out (d : Dev) (x : SixState) : (d.setSix x).out = d.out := rfl
@[simp] theorem Dev.setSix_tir (d : Dev) (x : SixState) : (d.setSix x).tir = d.tir := rfl
@[simp] theorem Dev.setSix_mkt (d : Dev) (x : SixState) : (d.setSix x).mkt = d.mkt := rfl
@[simp] theorem Dev.setSix_ldg (d : Dev) (x : SixState) : (d.setSix x).ldg = d.ldg := rfl
@[simp] theorem Dev.setSix_hlt (d : Dev) (x : SixState) : (d.setSix x).hlt = d.hlt := rfl
@[simp] theorem Dev.setSix_wset (d : Dev) (x : SixState) : (d.setSix x).wset = d.wset := rfl
@[simp] theorem Dev.setSix_acr (d : Dev) (x : SixState) : (d.setSix x).acr = d.acr := rfl
@[simp] theorem Dev.setSix_col (d : Dev) (x : SixState) : (d.setSix x).col = d.col := rfl
@[simp] theorem Dev.setSix_fab (d : Dev) (x : SixState) : (d.setSix x).fab = d.fab := rfl
@[simp] theorem Dev.setSix_tbn (d : Dev) (x : SixState) : (d.setSix x).tbn = d.tbn := rfl
@[simp] theorem Dev.setSix_sec (d : Dev) (x : SixState) : (d.setSix x).sec = d.sec := rfl
@[simp] theorem Dev.setSix_tim (d : Dev) (x : SixState) : (d.setSix x).tim = d.tim := rfl
@[simp] theorem Dev.setSix_pwr (d : Dev) (x : SixState) : (d.setSix x).pwr = d.pwr := rfl
@[simp] theorem Dev.setSix_hif (d : Dev) (x : SixState) : (d.setSix x).hif = d.hif := rfl
@[simp] theorem Dev.setSix_ccr (d : Dev) (x : SixState) : (d.setSix x).ccr = d.ccr := rfl

@[simp] theorem Dev.setEvt_evt (d : Dev) (x : EvtState) : (d.setEvt x).evt = x := rfl
@[simp] theorem Dev.setEvt_now (d : Dev) (x : EvtState) : (d.setEvt x).now = d.now := rfl
@[simp] theorem Dev.setEvt_regs (d : Dev) (x : EvtState) : (d.setEvt x).regs = d.regs := rfl
@[simp] theorem Dev.setEvt_stampHold (d : Dev) (x : EvtState) : (d.setEvt x).stampHold = d.stampHold := rfl
@[simp] theorem Dev.setEvt_t0 (d : Dev) (x : EvtState) : (d.setEvt x).t0 = d.t0 := rfl
@[simp] theorem Dev.setEvt_t1 (d : Dev) (x : EvtState) : (d.setEvt x).t1 = d.t1 := rfl
@[simp] theorem Dev.setEvt_log (d : Dev) (x : EvtState) : (d.setEvt x).log = d.log := rfl
@[simp] theorem Dev.setEvt_logSeq (d : Dev) (x : EvtState) : (d.setEvt x).logSeq = d.logSeq := rfl
@[simp] theorem Dev.setEvt_msix (d : Dev) (x : EvtState) : (d.setEvt x).msix = d.msix := rfl
@[simp] theorem Dev.setEvt_msixPend (d : Dev) (x : EvtState) : (d.setEvt x).msixPend = d.msixPend := rfl
@[simp] theorem Dev.setEvt_spr (d : Dev) (x : EvtState) : (d.setEvt x).spr = d.spr := rfl
@[simp] theorem Dev.setEvt_six (d : Dev) (x : EvtState) : (d.setEvt x).six = d.six := rfl
@[simp] theorem Dev.setEvt_kqp (d : Dev) (x : EvtState) : (d.setEvt x).kqp = d.kqp := rfl
@[simp] theorem Dev.setEvt_deviceId (d : Dev) (x : EvtState) : (d.setEvt x).deviceId = d.deviceId := rfl
@[simp] theorem Dev.setEvt_free (d : Dev) (x : EvtState) : (d.setEvt x).free = d.free := rfl
@[simp] theorem Dev.setEvt_out (d : Dev) (x : EvtState) : (d.setEvt x).out = d.out := rfl
@[simp] theorem Dev.setEvt_tir (d : Dev) (x : EvtState) : (d.setEvt x).tir = d.tir := rfl
@[simp] theorem Dev.setEvt_mkt (d : Dev) (x : EvtState) : (d.setEvt x).mkt = d.mkt := rfl
@[simp] theorem Dev.setEvt_ldg (d : Dev) (x : EvtState) : (d.setEvt x).ldg = d.ldg := rfl
@[simp] theorem Dev.setEvt_hlt (d : Dev) (x : EvtState) : (d.setEvt x).hlt = d.hlt := rfl
@[simp] theorem Dev.setEvt_wset (d : Dev) (x : EvtState) : (d.setEvt x).wset = d.wset := rfl
@[simp] theorem Dev.setEvt_acr (d : Dev) (x : EvtState) : (d.setEvt x).acr = d.acr := rfl
@[simp] theorem Dev.setEvt_col (d : Dev) (x : EvtState) : (d.setEvt x).col = d.col := rfl
@[simp] theorem Dev.setEvt_fab (d : Dev) (x : EvtState) : (d.setEvt x).fab = d.fab := rfl
@[simp] theorem Dev.setEvt_tbn (d : Dev) (x : EvtState) : (d.setEvt x).tbn = d.tbn := rfl
@[simp] theorem Dev.setEvt_sec (d : Dev) (x : EvtState) : (d.setEvt x).sec = d.sec := rfl
@[simp] theorem Dev.setEvt_tim (d : Dev) (x : EvtState) : (d.setEvt x).tim = d.tim := rfl
@[simp] theorem Dev.setEvt_pwr (d : Dev) (x : EvtState) : (d.setEvt x).pwr = d.pwr := rfl
@[simp] theorem Dev.setEvt_hif (d : Dev) (x : EvtState) : (d.setEvt x).hif = d.hif := rfl
@[simp] theorem Dev.setEvt_ccr (d : Dev) (x : EvtState) : (d.setEvt x).ccr = d.ccr := rfl

@[simp] theorem Dev.setKqp_kqp (d : Dev) (x : KqpState) : (d.setKqp x).kqp = x := rfl
@[simp] theorem Dev.setKqp_now (d : Dev) (x : KqpState) : (d.setKqp x).now = d.now := rfl
@[simp] theorem Dev.setKqp_regs (d : Dev) (x : KqpState) : (d.setKqp x).regs = d.regs := rfl
@[simp] theorem Dev.setKqp_stampHold (d : Dev) (x : KqpState) : (d.setKqp x).stampHold = d.stampHold := rfl
@[simp] theorem Dev.setKqp_t0 (d : Dev) (x : KqpState) : (d.setKqp x).t0 = d.t0 := rfl
@[simp] theorem Dev.setKqp_t1 (d : Dev) (x : KqpState) : (d.setKqp x).t1 = d.t1 := rfl
@[simp] theorem Dev.setKqp_log (d : Dev) (x : KqpState) : (d.setKqp x).log = d.log := rfl
@[simp] theorem Dev.setKqp_logSeq (d : Dev) (x : KqpState) : (d.setKqp x).logSeq = d.logSeq := rfl
@[simp] theorem Dev.setKqp_msix (d : Dev) (x : KqpState) : (d.setKqp x).msix = d.msix := rfl
@[simp] theorem Dev.setKqp_msixPend (d : Dev) (x : KqpState) : (d.setKqp x).msixPend = d.msixPend := rfl
@[simp] theorem Dev.setKqp_spr (d : Dev) (x : KqpState) : (d.setKqp x).spr = d.spr := rfl
@[simp] theorem Dev.setKqp_six (d : Dev) (x : KqpState) : (d.setKqp x).six = d.six := rfl
@[simp] theorem Dev.setKqp_evt (d : Dev) (x : KqpState) : (d.setKqp x).evt = d.evt := rfl
@[simp] theorem Dev.setKqp_deviceId (d : Dev) (x : KqpState) : (d.setKqp x).deviceId = d.deviceId := rfl
@[simp] theorem Dev.setKqp_free (d : Dev) (x : KqpState) : (d.setKqp x).free = d.free := rfl
@[simp] theorem Dev.setKqp_out (d : Dev) (x : KqpState) : (d.setKqp x).out = d.out := rfl
@[simp] theorem Dev.setKqp_tir (d : Dev) (x : KqpState) : (d.setKqp x).tir = d.tir := rfl
@[simp] theorem Dev.setKqp_mkt (d : Dev) (x : KqpState) : (d.setKqp x).mkt = d.mkt := rfl
@[simp] theorem Dev.setKqp_ldg (d : Dev) (x : KqpState) : (d.setKqp x).ldg = d.ldg := rfl
@[simp] theorem Dev.setKqp_hlt (d : Dev) (x : KqpState) : (d.setKqp x).hlt = d.hlt := rfl
@[simp] theorem Dev.setKqp_wset (d : Dev) (x : KqpState) : (d.setKqp x).wset = d.wset := rfl
@[simp] theorem Dev.setKqp_acr (d : Dev) (x : KqpState) : (d.setKqp x).acr = d.acr := rfl
@[simp] theorem Dev.setKqp_col (d : Dev) (x : KqpState) : (d.setKqp x).col = d.col := rfl
@[simp] theorem Dev.setKqp_fab (d : Dev) (x : KqpState) : (d.setKqp x).fab = d.fab := rfl
@[simp] theorem Dev.setKqp_tbn (d : Dev) (x : KqpState) : (d.setKqp x).tbn = d.tbn := rfl
@[simp] theorem Dev.setKqp_sec (d : Dev) (x : KqpState) : (d.setKqp x).sec = d.sec := rfl
@[simp] theorem Dev.setKqp_tim (d : Dev) (x : KqpState) : (d.setKqp x).tim = d.tim := rfl
@[simp] theorem Dev.setKqp_pwr (d : Dev) (x : KqpState) : (d.setKqp x).pwr = d.pwr := rfl
@[simp] theorem Dev.setKqp_hif (d : Dev) (x : KqpState) : (d.setKqp x).hif = d.hif := rfl
@[simp] theorem Dev.setKqp_ccr (d : Dev) (x : KqpState) : (d.setKqp x).ccr = d.ccr := rfl

@[simp] theorem Dev.setFree_free (d : Dev) (x : Nat) : (d.setFree x).free = x := rfl
@[simp] theorem Dev.setFree_now (d : Dev) (x : Nat) : (d.setFree x).now = d.now := rfl
@[simp] theorem Dev.setFree_regs (d : Dev) (x : Nat) : (d.setFree x).regs = d.regs := rfl
@[simp] theorem Dev.setFree_stampHold (d : Dev) (x : Nat) : (d.setFree x).stampHold = d.stampHold := rfl
@[simp] theorem Dev.setFree_t0 (d : Dev) (x : Nat) : (d.setFree x).t0 = d.t0 := rfl
@[simp] theorem Dev.setFree_t1 (d : Dev) (x : Nat) : (d.setFree x).t1 = d.t1 := rfl
@[simp] theorem Dev.setFree_log (d : Dev) (x : Nat) : (d.setFree x).log = d.log := rfl
@[simp] theorem Dev.setFree_logSeq (d : Dev) (x : Nat) : (d.setFree x).logSeq = d.logSeq := rfl
@[simp] theorem Dev.setFree_msix (d : Dev) (x : Nat) : (d.setFree x).msix = d.msix := rfl
@[simp] theorem Dev.setFree_msixPend (d : Dev) (x : Nat) : (d.setFree x).msixPend = d.msixPend := rfl
@[simp] theorem Dev.setFree_spr (d : Dev) (x : Nat) : (d.setFree x).spr = d.spr := rfl
@[simp] theorem Dev.setFree_six (d : Dev) (x : Nat) : (d.setFree x).six = d.six := rfl
@[simp] theorem Dev.setFree_evt (d : Dev) (x : Nat) : (d.setFree x).evt = d.evt := rfl
@[simp] theorem Dev.setFree_kqp (d : Dev) (x : Nat) : (d.setFree x).kqp = d.kqp := rfl
@[simp] theorem Dev.setFree_deviceId (d : Dev) (x : Nat) : (d.setFree x).deviceId = d.deviceId := rfl
@[simp] theorem Dev.setFree_out (d : Dev) (x : Nat) : (d.setFree x).out = d.out := rfl
@[simp] theorem Dev.setFree_tir (d : Dev) (x : Nat) : (d.setFree x).tir = d.tir := rfl
@[simp] theorem Dev.setFree_mkt (d : Dev) (x : Nat) : (d.setFree x).mkt = d.mkt := rfl
@[simp] theorem Dev.setFree_ldg (d : Dev) (x : Nat) : (d.setFree x).ldg = d.ldg := rfl
@[simp] theorem Dev.setFree_hlt (d : Dev) (x : Nat) : (d.setFree x).hlt = d.hlt := rfl
@[simp] theorem Dev.setFree_wset (d : Dev) (x : Nat) : (d.setFree x).wset = d.wset := rfl
@[simp] theorem Dev.setFree_acr (d : Dev) (x : Nat) : (d.setFree x).acr = d.acr := rfl
@[simp] theorem Dev.setFree_col (d : Dev) (x : Nat) : (d.setFree x).col = d.col := rfl
@[simp] theorem Dev.setFree_fab (d : Dev) (x : Nat) : (d.setFree x).fab = d.fab := rfl
@[simp] theorem Dev.setFree_tbn (d : Dev) (x : Nat) : (d.setFree x).tbn = d.tbn := rfl
@[simp] theorem Dev.setFree_sec (d : Dev) (x : Nat) : (d.setFree x).sec = d.sec := rfl
@[simp] theorem Dev.setFree_tim (d : Dev) (x : Nat) : (d.setFree x).tim = d.tim := rfl
@[simp] theorem Dev.setFree_pwr (d : Dev) (x : Nat) : (d.setFree x).pwr = d.pwr := rfl
@[simp] theorem Dev.setFree_hif (d : Dev) (x : Nat) : (d.setFree x).hif = d.hif := rfl
@[simp] theorem Dev.setFree_ccr (d : Dev) (x : Nat) : (d.setFree x).ccr = d.ccr := rfl

@[simp] theorem Dev.setOut_out (d : Dev) (x : List Output) : (d.setOut x).out = x := rfl
@[simp] theorem Dev.setOut_now (d : Dev) (x : List Output) : (d.setOut x).now = d.now := rfl
@[simp] theorem Dev.setOut_regs (d : Dev) (x : List Output) : (d.setOut x).regs = d.regs := rfl
@[simp] theorem Dev.setOut_stampHold (d : Dev) (x : List Output) : (d.setOut x).stampHold = d.stampHold := rfl
@[simp] theorem Dev.setOut_t0 (d : Dev) (x : List Output) : (d.setOut x).t0 = d.t0 := rfl
@[simp] theorem Dev.setOut_t1 (d : Dev) (x : List Output) : (d.setOut x).t1 = d.t1 := rfl
@[simp] theorem Dev.setOut_log (d : Dev) (x : List Output) : (d.setOut x).log = d.log := rfl
@[simp] theorem Dev.setOut_logSeq (d : Dev) (x : List Output) : (d.setOut x).logSeq = d.logSeq := rfl
@[simp] theorem Dev.setOut_msix (d : Dev) (x : List Output) : (d.setOut x).msix = d.msix := rfl
@[simp] theorem Dev.setOut_msixPend (d : Dev) (x : List Output) : (d.setOut x).msixPend = d.msixPend := rfl
@[simp] theorem Dev.setOut_spr (d : Dev) (x : List Output) : (d.setOut x).spr = d.spr := rfl
@[simp] theorem Dev.setOut_six (d : Dev) (x : List Output) : (d.setOut x).six = d.six := rfl
@[simp] theorem Dev.setOut_evt (d : Dev) (x : List Output) : (d.setOut x).evt = d.evt := rfl
@[simp] theorem Dev.setOut_kqp (d : Dev) (x : List Output) : (d.setOut x).kqp = d.kqp := rfl
@[simp] theorem Dev.setOut_deviceId (d : Dev) (x : List Output) : (d.setOut x).deviceId = d.deviceId := rfl
@[simp] theorem Dev.setOut_free (d : Dev) (x : List Output) : (d.setOut x).free = d.free := rfl
@[simp] theorem Dev.setOut_tir (d : Dev) (x : List Output) : (d.setOut x).tir = d.tir := rfl
@[simp] theorem Dev.setOut_mkt (d : Dev) (x : List Output) : (d.setOut x).mkt = d.mkt := rfl
@[simp] theorem Dev.setOut_ldg (d : Dev) (x : List Output) : (d.setOut x).ldg = d.ldg := rfl
@[simp] theorem Dev.setOut_hlt (d : Dev) (x : List Output) : (d.setOut x).hlt = d.hlt := rfl
@[simp] theorem Dev.setOut_wset (d : Dev) (x : List Output) : (d.setOut x).wset = d.wset := rfl
@[simp] theorem Dev.setOut_acr (d : Dev) (x : List Output) : (d.setOut x).acr = d.acr := rfl
@[simp] theorem Dev.setOut_col (d : Dev) (x : List Output) : (d.setOut x).col = d.col := rfl
@[simp] theorem Dev.setOut_fab (d : Dev) (x : List Output) : (d.setOut x).fab = d.fab := rfl
@[simp] theorem Dev.setOut_tbn (d : Dev) (x : List Output) : (d.setOut x).tbn = d.tbn := rfl
@[simp] theorem Dev.setOut_sec (d : Dev) (x : List Output) : (d.setOut x).sec = d.sec := rfl
@[simp] theorem Dev.setOut_tim (d : Dev) (x : List Output) : (d.setOut x).tim = d.tim := rfl
@[simp] theorem Dev.setOut_pwr (d : Dev) (x : List Output) : (d.setOut x).pwr = d.pwr := rfl
@[simp] theorem Dev.setOut_hif (d : Dev) (x : List Output) : (d.setOut x).hif = d.hif := rfl
@[simp] theorem Dev.setOut_ccr (d : Dev) (x : List Output) : (d.setOut x).ccr = d.ccr := rfl

@[simp] theorem Dev.setTir_tir (d : Dev) (x : TirState) : (d.setTir x).tir = x := rfl
@[simp] theorem Dev.setTir_now (d : Dev) (x : TirState) : (d.setTir x).now = d.now := rfl
@[simp] theorem Dev.setTir_regs (d : Dev) (x : TirState) : (d.setTir x).regs = d.regs := rfl
@[simp] theorem Dev.setTir_stampHold (d : Dev) (x : TirState) : (d.setTir x).stampHold = d.stampHold := rfl
@[simp] theorem Dev.setTir_t0 (d : Dev) (x : TirState) : (d.setTir x).t0 = d.t0 := rfl
@[simp] theorem Dev.setTir_t1 (d : Dev) (x : TirState) : (d.setTir x).t1 = d.t1 := rfl
@[simp] theorem Dev.setTir_log (d : Dev) (x : TirState) : (d.setTir x).log = d.log := rfl
@[simp] theorem Dev.setTir_logSeq (d : Dev) (x : TirState) : (d.setTir x).logSeq = d.logSeq := rfl
@[simp] theorem Dev.setTir_msix (d : Dev) (x : TirState) : (d.setTir x).msix = d.msix := rfl
@[simp] theorem Dev.setTir_msixPend (d : Dev) (x : TirState) : (d.setTir x).msixPend = d.msixPend := rfl
@[simp] theorem Dev.setTir_spr (d : Dev) (x : TirState) : (d.setTir x).spr = d.spr := rfl
@[simp] theorem Dev.setTir_six (d : Dev) (x : TirState) : (d.setTir x).six = d.six := rfl
@[simp] theorem Dev.setTir_evt (d : Dev) (x : TirState) : (d.setTir x).evt = d.evt := rfl
@[simp] theorem Dev.setTir_kqp (d : Dev) (x : TirState) : (d.setTir x).kqp = d.kqp := rfl
@[simp] theorem Dev.setTir_deviceId (d : Dev) (x : TirState) : (d.setTir x).deviceId = d.deviceId := rfl
@[simp] theorem Dev.setTir_free (d : Dev) (x : TirState) : (d.setTir x).free = d.free := rfl
@[simp] theorem Dev.setTir_out (d : Dev) (x : TirState) : (d.setTir x).out = d.out := rfl
@[simp] theorem Dev.setTir_mkt (d : Dev) (x : TirState) : (d.setTir x).mkt = d.mkt := rfl
@[simp] theorem Dev.setTir_ldg (d : Dev) (x : TirState) : (d.setTir x).ldg = d.ldg := rfl
@[simp] theorem Dev.setTir_hlt (d : Dev) (x : TirState) : (d.setTir x).hlt = d.hlt := rfl
@[simp] theorem Dev.setTir_wset (d : Dev) (x : TirState) : (d.setTir x).wset = d.wset := rfl
@[simp] theorem Dev.setTir_acr (d : Dev) (x : TirState) : (d.setTir x).acr = d.acr := rfl
@[simp] theorem Dev.setTir_col (d : Dev) (x : TirState) : (d.setTir x).col = d.col := rfl
@[simp] theorem Dev.setTir_fab (d : Dev) (x : TirState) : (d.setTir x).fab = d.fab := rfl
@[simp] theorem Dev.setTir_tbn (d : Dev) (x : TirState) : (d.setTir x).tbn = d.tbn := rfl
@[simp] theorem Dev.setTir_sec (d : Dev) (x : TirState) : (d.setTir x).sec = d.sec := rfl
@[simp] theorem Dev.setTir_tim (d : Dev) (x : TirState) : (d.setTir x).tim = d.tim := rfl
@[simp] theorem Dev.setTir_pwr (d : Dev) (x : TirState) : (d.setTir x).pwr = d.pwr := rfl
@[simp] theorem Dev.setTir_hif (d : Dev) (x : TirState) : (d.setTir x).hif = d.hif := rfl
@[simp] theorem Dev.setTir_ccr (d : Dev) (x : TirState) : (d.setTir x).ccr = d.ccr := rfl

@[simp] theorem Dev.setMkt_mkt (d : Dev) (x : MktState) : (d.setMkt x).mkt = x := rfl
@[simp] theorem Dev.setMkt_now (d : Dev) (x : MktState) : (d.setMkt x).now = d.now := rfl
@[simp] theorem Dev.setMkt_regs (d : Dev) (x : MktState) : (d.setMkt x).regs = d.regs := rfl
@[simp] theorem Dev.setMkt_stampHold (d : Dev) (x : MktState) : (d.setMkt x).stampHold = d.stampHold := rfl
@[simp] theorem Dev.setMkt_t0 (d : Dev) (x : MktState) : (d.setMkt x).t0 = d.t0 := rfl
@[simp] theorem Dev.setMkt_t1 (d : Dev) (x : MktState) : (d.setMkt x).t1 = d.t1 := rfl
@[simp] theorem Dev.setMkt_log (d : Dev) (x : MktState) : (d.setMkt x).log = d.log := rfl
@[simp] theorem Dev.setMkt_logSeq (d : Dev) (x : MktState) : (d.setMkt x).logSeq = d.logSeq := rfl
@[simp] theorem Dev.setMkt_msix (d : Dev) (x : MktState) : (d.setMkt x).msix = d.msix := rfl
@[simp] theorem Dev.setMkt_msixPend (d : Dev) (x : MktState) : (d.setMkt x).msixPend = d.msixPend := rfl
@[simp] theorem Dev.setMkt_spr (d : Dev) (x : MktState) : (d.setMkt x).spr = d.spr := rfl
@[simp] theorem Dev.setMkt_six (d : Dev) (x : MktState) : (d.setMkt x).six = d.six := rfl
@[simp] theorem Dev.setMkt_evt (d : Dev) (x : MktState) : (d.setMkt x).evt = d.evt := rfl
@[simp] theorem Dev.setMkt_kqp (d : Dev) (x : MktState) : (d.setMkt x).kqp = d.kqp := rfl
@[simp] theorem Dev.setMkt_deviceId (d : Dev) (x : MktState) : (d.setMkt x).deviceId = d.deviceId := rfl
@[simp] theorem Dev.setMkt_free (d : Dev) (x : MktState) : (d.setMkt x).free = d.free := rfl
@[simp] theorem Dev.setMkt_out (d : Dev) (x : MktState) : (d.setMkt x).out = d.out := rfl
@[simp] theorem Dev.setMkt_tir (d : Dev) (x : MktState) : (d.setMkt x).tir = d.tir := rfl
@[simp] theorem Dev.setMkt_ldg (d : Dev) (x : MktState) : (d.setMkt x).ldg = d.ldg := rfl
@[simp] theorem Dev.setMkt_hlt (d : Dev) (x : MktState) : (d.setMkt x).hlt = d.hlt := rfl
@[simp] theorem Dev.setMkt_wset (d : Dev) (x : MktState) : (d.setMkt x).wset = d.wset := rfl
@[simp] theorem Dev.setMkt_acr (d : Dev) (x : MktState) : (d.setMkt x).acr = d.acr := rfl
@[simp] theorem Dev.setMkt_col (d : Dev) (x : MktState) : (d.setMkt x).col = d.col := rfl
@[simp] theorem Dev.setMkt_fab (d : Dev) (x : MktState) : (d.setMkt x).fab = d.fab := rfl
@[simp] theorem Dev.setMkt_tbn (d : Dev) (x : MktState) : (d.setMkt x).tbn = d.tbn := rfl
@[simp] theorem Dev.setMkt_sec (d : Dev) (x : MktState) : (d.setMkt x).sec = d.sec := rfl
@[simp] theorem Dev.setMkt_tim (d : Dev) (x : MktState) : (d.setMkt x).tim = d.tim := rfl
@[simp] theorem Dev.setMkt_pwr (d : Dev) (x : MktState) : (d.setMkt x).pwr = d.pwr := rfl
@[simp] theorem Dev.setMkt_hif (d : Dev) (x : MktState) : (d.setMkt x).hif = d.hif := rfl
@[simp] theorem Dev.setMkt_ccr (d : Dev) (x : MktState) : (d.setMkt x).ccr = d.ccr := rfl

@[simp] theorem Dev.setLdg_ldg (d : Dev) (x : LdgState) : (d.setLdg x).ldg = x := rfl
@[simp] theorem Dev.setLdg_now (d : Dev) (x : LdgState) : (d.setLdg x).now = d.now := rfl
@[simp] theorem Dev.setLdg_regs (d : Dev) (x : LdgState) : (d.setLdg x).regs = d.regs := rfl
@[simp] theorem Dev.setLdg_stampHold (d : Dev) (x : LdgState) : (d.setLdg x).stampHold = d.stampHold := rfl
@[simp] theorem Dev.setLdg_t0 (d : Dev) (x : LdgState) : (d.setLdg x).t0 = d.t0 := rfl
@[simp] theorem Dev.setLdg_t1 (d : Dev) (x : LdgState) : (d.setLdg x).t1 = d.t1 := rfl
@[simp] theorem Dev.setLdg_log (d : Dev) (x : LdgState) : (d.setLdg x).log = d.log := rfl
@[simp] theorem Dev.setLdg_logSeq (d : Dev) (x : LdgState) : (d.setLdg x).logSeq = d.logSeq := rfl
@[simp] theorem Dev.setLdg_msix (d : Dev) (x : LdgState) : (d.setLdg x).msix = d.msix := rfl
@[simp] theorem Dev.setLdg_msixPend (d : Dev) (x : LdgState) : (d.setLdg x).msixPend = d.msixPend := rfl
@[simp] theorem Dev.setLdg_spr (d : Dev) (x : LdgState) : (d.setLdg x).spr = d.spr := rfl
@[simp] theorem Dev.setLdg_six (d : Dev) (x : LdgState) : (d.setLdg x).six = d.six := rfl
@[simp] theorem Dev.setLdg_evt (d : Dev) (x : LdgState) : (d.setLdg x).evt = d.evt := rfl
@[simp] theorem Dev.setLdg_kqp (d : Dev) (x : LdgState) : (d.setLdg x).kqp = d.kqp := rfl
@[simp] theorem Dev.setLdg_deviceId (d : Dev) (x : LdgState) : (d.setLdg x).deviceId = d.deviceId := rfl
@[simp] theorem Dev.setLdg_free (d : Dev) (x : LdgState) : (d.setLdg x).free = d.free := rfl
@[simp] theorem Dev.setLdg_out (d : Dev) (x : LdgState) : (d.setLdg x).out = d.out := rfl
@[simp] theorem Dev.setLdg_tir (d : Dev) (x : LdgState) : (d.setLdg x).tir = d.tir := rfl
@[simp] theorem Dev.setLdg_mkt (d : Dev) (x : LdgState) : (d.setLdg x).mkt = d.mkt := rfl
@[simp] theorem Dev.setLdg_hlt (d : Dev) (x : LdgState) : (d.setLdg x).hlt = d.hlt := rfl
@[simp] theorem Dev.setLdg_wset (d : Dev) (x : LdgState) : (d.setLdg x).wset = d.wset := rfl
@[simp] theorem Dev.setLdg_acr (d : Dev) (x : LdgState) : (d.setLdg x).acr = d.acr := rfl
@[simp] theorem Dev.setLdg_col (d : Dev) (x : LdgState) : (d.setLdg x).col = d.col := rfl
@[simp] theorem Dev.setLdg_fab (d : Dev) (x : LdgState) : (d.setLdg x).fab = d.fab := rfl
@[simp] theorem Dev.setLdg_tbn (d : Dev) (x : LdgState) : (d.setLdg x).tbn = d.tbn := rfl
@[simp] theorem Dev.setLdg_sec (d : Dev) (x : LdgState) : (d.setLdg x).sec = d.sec := rfl
@[simp] theorem Dev.setLdg_tim (d : Dev) (x : LdgState) : (d.setLdg x).tim = d.tim := rfl
@[simp] theorem Dev.setLdg_pwr (d : Dev) (x : LdgState) : (d.setLdg x).pwr = d.pwr := rfl
@[simp] theorem Dev.setLdg_hif (d : Dev) (x : LdgState) : (d.setLdg x).hif = d.hif := rfl
@[simp] theorem Dev.setLdg_ccr (d : Dev) (x : LdgState) : (d.setLdg x).ccr = d.ccr := rfl

@[simp] theorem Dev.setHlt_hlt (d : Dev) (x : HltState) : (d.setHlt x).hlt = x := rfl
@[simp] theorem Dev.setHlt_now (d : Dev) (x : HltState) : (d.setHlt x).now = d.now := rfl
@[simp] theorem Dev.setHlt_regs (d : Dev) (x : HltState) : (d.setHlt x).regs = d.regs := rfl
@[simp] theorem Dev.setHlt_stampHold (d : Dev) (x : HltState) : (d.setHlt x).stampHold = d.stampHold := rfl
@[simp] theorem Dev.setHlt_t0 (d : Dev) (x : HltState) : (d.setHlt x).t0 = d.t0 := rfl
@[simp] theorem Dev.setHlt_t1 (d : Dev) (x : HltState) : (d.setHlt x).t1 = d.t1 := rfl
@[simp] theorem Dev.setHlt_log (d : Dev) (x : HltState) : (d.setHlt x).log = d.log := rfl
@[simp] theorem Dev.setHlt_logSeq (d : Dev) (x : HltState) : (d.setHlt x).logSeq = d.logSeq := rfl
@[simp] theorem Dev.setHlt_msix (d : Dev) (x : HltState) : (d.setHlt x).msix = d.msix := rfl
@[simp] theorem Dev.setHlt_msixPend (d : Dev) (x : HltState) : (d.setHlt x).msixPend = d.msixPend := rfl
@[simp] theorem Dev.setHlt_spr (d : Dev) (x : HltState) : (d.setHlt x).spr = d.spr := rfl
@[simp] theorem Dev.setHlt_six (d : Dev) (x : HltState) : (d.setHlt x).six = d.six := rfl
@[simp] theorem Dev.setHlt_evt (d : Dev) (x : HltState) : (d.setHlt x).evt = d.evt := rfl
@[simp] theorem Dev.setHlt_kqp (d : Dev) (x : HltState) : (d.setHlt x).kqp = d.kqp := rfl
@[simp] theorem Dev.setHlt_deviceId (d : Dev) (x : HltState) : (d.setHlt x).deviceId = d.deviceId := rfl
@[simp] theorem Dev.setHlt_free (d : Dev) (x : HltState) : (d.setHlt x).free = d.free := rfl
@[simp] theorem Dev.setHlt_out (d : Dev) (x : HltState) : (d.setHlt x).out = d.out := rfl
@[simp] theorem Dev.setHlt_tir (d : Dev) (x : HltState) : (d.setHlt x).tir = d.tir := rfl
@[simp] theorem Dev.setHlt_mkt (d : Dev) (x : HltState) : (d.setHlt x).mkt = d.mkt := rfl
@[simp] theorem Dev.setHlt_ldg (d : Dev) (x : HltState) : (d.setHlt x).ldg = d.ldg := rfl
@[simp] theorem Dev.setHlt_wset (d : Dev) (x : HltState) : (d.setHlt x).wset = d.wset := rfl
@[simp] theorem Dev.setHlt_acr (d : Dev) (x : HltState) : (d.setHlt x).acr = d.acr := rfl
@[simp] theorem Dev.setHlt_col (d : Dev) (x : HltState) : (d.setHlt x).col = d.col := rfl
@[simp] theorem Dev.setHlt_fab (d : Dev) (x : HltState) : (d.setHlt x).fab = d.fab := rfl
@[simp] theorem Dev.setHlt_tbn (d : Dev) (x : HltState) : (d.setHlt x).tbn = d.tbn := rfl
@[simp] theorem Dev.setHlt_sec (d : Dev) (x : HltState) : (d.setHlt x).sec = d.sec := rfl
@[simp] theorem Dev.setHlt_tim (d : Dev) (x : HltState) : (d.setHlt x).tim = d.tim := rfl
@[simp] theorem Dev.setHlt_pwr (d : Dev) (x : HltState) : (d.setHlt x).pwr = d.pwr := rfl
@[simp] theorem Dev.setHlt_hif (d : Dev) (x : HltState) : (d.setHlt x).hif = d.hif := rfl
@[simp] theorem Dev.setHlt_ccr (d : Dev) (x : HltState) : (d.setHlt x).ccr = d.ccr := rfl

@[simp] theorem Dev.setWset_wset (d : Dev) (x : WsetState) : (d.setWset x).wset = x := rfl
@[simp] theorem Dev.setWset_now (d : Dev) (x : WsetState) : (d.setWset x).now = d.now := rfl
@[simp] theorem Dev.setWset_regs (d : Dev) (x : WsetState) : (d.setWset x).regs = d.regs := rfl
@[simp] theorem Dev.setWset_stampHold (d : Dev) (x : WsetState) : (d.setWset x).stampHold = d.stampHold := rfl
@[simp] theorem Dev.setWset_t0 (d : Dev) (x : WsetState) : (d.setWset x).t0 = d.t0 := rfl
@[simp] theorem Dev.setWset_t1 (d : Dev) (x : WsetState) : (d.setWset x).t1 = d.t1 := rfl
@[simp] theorem Dev.setWset_log (d : Dev) (x : WsetState) : (d.setWset x).log = d.log := rfl
@[simp] theorem Dev.setWset_logSeq (d : Dev) (x : WsetState) : (d.setWset x).logSeq = d.logSeq := rfl
@[simp] theorem Dev.setWset_msix (d : Dev) (x : WsetState) : (d.setWset x).msix = d.msix := rfl
@[simp] theorem Dev.setWset_msixPend (d : Dev) (x : WsetState) : (d.setWset x).msixPend = d.msixPend := rfl
@[simp] theorem Dev.setWset_spr (d : Dev) (x : WsetState) : (d.setWset x).spr = d.spr := rfl
@[simp] theorem Dev.setWset_six (d : Dev) (x : WsetState) : (d.setWset x).six = d.six := rfl
@[simp] theorem Dev.setWset_evt (d : Dev) (x : WsetState) : (d.setWset x).evt = d.evt := rfl
@[simp] theorem Dev.setWset_kqp (d : Dev) (x : WsetState) : (d.setWset x).kqp = d.kqp := rfl
@[simp] theorem Dev.setWset_deviceId (d : Dev) (x : WsetState) : (d.setWset x).deviceId = d.deviceId := rfl
@[simp] theorem Dev.setWset_free (d : Dev) (x : WsetState) : (d.setWset x).free = d.free := rfl
@[simp] theorem Dev.setWset_out (d : Dev) (x : WsetState) : (d.setWset x).out = d.out := rfl
@[simp] theorem Dev.setWset_tir (d : Dev) (x : WsetState) : (d.setWset x).tir = d.tir := rfl
@[simp] theorem Dev.setWset_mkt (d : Dev) (x : WsetState) : (d.setWset x).mkt = d.mkt := rfl
@[simp] theorem Dev.setWset_ldg (d : Dev) (x : WsetState) : (d.setWset x).ldg = d.ldg := rfl
@[simp] theorem Dev.setWset_hlt (d : Dev) (x : WsetState) : (d.setWset x).hlt = d.hlt := rfl
@[simp] theorem Dev.setWset_acr (d : Dev) (x : WsetState) : (d.setWset x).acr = d.acr := rfl
@[simp] theorem Dev.setWset_col (d : Dev) (x : WsetState) : (d.setWset x).col = d.col := rfl
@[simp] theorem Dev.setWset_fab (d : Dev) (x : WsetState) : (d.setWset x).fab = d.fab := rfl
@[simp] theorem Dev.setWset_tbn (d : Dev) (x : WsetState) : (d.setWset x).tbn = d.tbn := rfl
@[simp] theorem Dev.setWset_sec (d : Dev) (x : WsetState) : (d.setWset x).sec = d.sec := rfl
@[simp] theorem Dev.setWset_tim (d : Dev) (x : WsetState) : (d.setWset x).tim = d.tim := rfl
@[simp] theorem Dev.setWset_pwr (d : Dev) (x : WsetState) : (d.setWset x).pwr = d.pwr := rfl
@[simp] theorem Dev.setWset_hif (d : Dev) (x : WsetState) : (d.setWset x).hif = d.hif := rfl
@[simp] theorem Dev.setWset_ccr (d : Dev) (x : WsetState) : (d.setWset x).ccr = d.ccr := rfl

@[simp] theorem Dev.setAcr_acr (d : Dev) (x : AcrState) : (d.setAcr x).acr = x := rfl
@[simp] theorem Dev.setAcr_now (d : Dev) (x : AcrState) : (d.setAcr x).now = d.now := rfl
@[simp] theorem Dev.setAcr_regs (d : Dev) (x : AcrState) : (d.setAcr x).regs = d.regs := rfl
@[simp] theorem Dev.setAcr_stampHold (d : Dev) (x : AcrState) : (d.setAcr x).stampHold = d.stampHold := rfl
@[simp] theorem Dev.setAcr_t0 (d : Dev) (x : AcrState) : (d.setAcr x).t0 = d.t0 := rfl
@[simp] theorem Dev.setAcr_t1 (d : Dev) (x : AcrState) : (d.setAcr x).t1 = d.t1 := rfl
@[simp] theorem Dev.setAcr_log (d : Dev) (x : AcrState) : (d.setAcr x).log = d.log := rfl
@[simp] theorem Dev.setAcr_logSeq (d : Dev) (x : AcrState) : (d.setAcr x).logSeq = d.logSeq := rfl
@[simp] theorem Dev.setAcr_msix (d : Dev) (x : AcrState) : (d.setAcr x).msix = d.msix := rfl
@[simp] theorem Dev.setAcr_msixPend (d : Dev) (x : AcrState) : (d.setAcr x).msixPend = d.msixPend := rfl
@[simp] theorem Dev.setAcr_spr (d : Dev) (x : AcrState) : (d.setAcr x).spr = d.spr := rfl
@[simp] theorem Dev.setAcr_six (d : Dev) (x : AcrState) : (d.setAcr x).six = d.six := rfl
@[simp] theorem Dev.setAcr_evt (d : Dev) (x : AcrState) : (d.setAcr x).evt = d.evt := rfl
@[simp] theorem Dev.setAcr_kqp (d : Dev) (x : AcrState) : (d.setAcr x).kqp = d.kqp := rfl
@[simp] theorem Dev.setAcr_deviceId (d : Dev) (x : AcrState) : (d.setAcr x).deviceId = d.deviceId := rfl
@[simp] theorem Dev.setAcr_free (d : Dev) (x : AcrState) : (d.setAcr x).free = d.free := rfl
@[simp] theorem Dev.setAcr_out (d : Dev) (x : AcrState) : (d.setAcr x).out = d.out := rfl
@[simp] theorem Dev.setAcr_tir (d : Dev) (x : AcrState) : (d.setAcr x).tir = d.tir := rfl
@[simp] theorem Dev.setAcr_mkt (d : Dev) (x : AcrState) : (d.setAcr x).mkt = d.mkt := rfl
@[simp] theorem Dev.setAcr_ldg (d : Dev) (x : AcrState) : (d.setAcr x).ldg = d.ldg := rfl
@[simp] theorem Dev.setAcr_hlt (d : Dev) (x : AcrState) : (d.setAcr x).hlt = d.hlt := rfl
@[simp] theorem Dev.setAcr_wset (d : Dev) (x : AcrState) : (d.setAcr x).wset = d.wset := rfl
@[simp] theorem Dev.setAcr_col (d : Dev) (x : AcrState) : (d.setAcr x).col = d.col := rfl
@[simp] theorem Dev.setAcr_fab (d : Dev) (x : AcrState) : (d.setAcr x).fab = d.fab := rfl
@[simp] theorem Dev.setAcr_tbn (d : Dev) (x : AcrState) : (d.setAcr x).tbn = d.tbn := rfl
@[simp] theorem Dev.setAcr_sec (d : Dev) (x : AcrState) : (d.setAcr x).sec = d.sec := rfl
@[simp] theorem Dev.setAcr_tim (d : Dev) (x : AcrState) : (d.setAcr x).tim = d.tim := rfl
@[simp] theorem Dev.setAcr_pwr (d : Dev) (x : AcrState) : (d.setAcr x).pwr = d.pwr := rfl
@[simp] theorem Dev.setAcr_hif (d : Dev) (x : AcrState) : (d.setAcr x).hif = d.hif := rfl
@[simp] theorem Dev.setAcr_ccr (d : Dev) (x : AcrState) : (d.setAcr x).ccr = d.ccr := rfl

@[simp] theorem Dev.setCol_col (d : Dev) (x : ColState) : (d.setCol x).col = x := rfl
@[simp] theorem Dev.setCol_now (d : Dev) (x : ColState) : (d.setCol x).now = d.now := rfl
@[simp] theorem Dev.setCol_regs (d : Dev) (x : ColState) : (d.setCol x).regs = d.regs := rfl
@[simp] theorem Dev.setCol_stampHold (d : Dev) (x : ColState) : (d.setCol x).stampHold = d.stampHold := rfl
@[simp] theorem Dev.setCol_t0 (d : Dev) (x : ColState) : (d.setCol x).t0 = d.t0 := rfl
@[simp] theorem Dev.setCol_t1 (d : Dev) (x : ColState) : (d.setCol x).t1 = d.t1 := rfl
@[simp] theorem Dev.setCol_log (d : Dev) (x : ColState) : (d.setCol x).log = d.log := rfl
@[simp] theorem Dev.setCol_logSeq (d : Dev) (x : ColState) : (d.setCol x).logSeq = d.logSeq := rfl
@[simp] theorem Dev.setCol_msix (d : Dev) (x : ColState) : (d.setCol x).msix = d.msix := rfl
@[simp] theorem Dev.setCol_msixPend (d : Dev) (x : ColState) : (d.setCol x).msixPend = d.msixPend := rfl
@[simp] theorem Dev.setCol_spr (d : Dev) (x : ColState) : (d.setCol x).spr = d.spr := rfl
@[simp] theorem Dev.setCol_six (d : Dev) (x : ColState) : (d.setCol x).six = d.six := rfl
@[simp] theorem Dev.setCol_evt (d : Dev) (x : ColState) : (d.setCol x).evt = d.evt := rfl
@[simp] theorem Dev.setCol_kqp (d : Dev) (x : ColState) : (d.setCol x).kqp = d.kqp := rfl
@[simp] theorem Dev.setCol_deviceId (d : Dev) (x : ColState) : (d.setCol x).deviceId = d.deviceId := rfl
@[simp] theorem Dev.setCol_free (d : Dev) (x : ColState) : (d.setCol x).free = d.free := rfl
@[simp] theorem Dev.setCol_out (d : Dev) (x : ColState) : (d.setCol x).out = d.out := rfl
@[simp] theorem Dev.setCol_tir (d : Dev) (x : ColState) : (d.setCol x).tir = d.tir := rfl
@[simp] theorem Dev.setCol_mkt (d : Dev) (x : ColState) : (d.setCol x).mkt = d.mkt := rfl
@[simp] theorem Dev.setCol_ldg (d : Dev) (x : ColState) : (d.setCol x).ldg = d.ldg := rfl
@[simp] theorem Dev.setCol_hlt (d : Dev) (x : ColState) : (d.setCol x).hlt = d.hlt := rfl
@[simp] theorem Dev.setCol_wset (d : Dev) (x : ColState) : (d.setCol x).wset = d.wset := rfl
@[simp] theorem Dev.setCol_acr (d : Dev) (x : ColState) : (d.setCol x).acr = d.acr := rfl
@[simp] theorem Dev.setCol_fab (d : Dev) (x : ColState) : (d.setCol x).fab = d.fab := rfl
@[simp] theorem Dev.setCol_tbn (d : Dev) (x : ColState) : (d.setCol x).tbn = d.tbn := rfl
@[simp] theorem Dev.setCol_sec (d : Dev) (x : ColState) : (d.setCol x).sec = d.sec := rfl
@[simp] theorem Dev.setCol_tim (d : Dev) (x : ColState) : (d.setCol x).tim = d.tim := rfl
@[simp] theorem Dev.setCol_pwr (d : Dev) (x : ColState) : (d.setCol x).pwr = d.pwr := rfl
@[simp] theorem Dev.setCol_hif (d : Dev) (x : ColState) : (d.setCol x).hif = d.hif := rfl
@[simp] theorem Dev.setCol_ccr (d : Dev) (x : ColState) : (d.setCol x).ccr = d.ccr := rfl

@[simp] theorem Dev.setFab_fab (d : Dev) (x : FabState) : (d.setFab x).fab = x := rfl
@[simp] theorem Dev.setFab_now (d : Dev) (x : FabState) : (d.setFab x).now = d.now := rfl
@[simp] theorem Dev.setFab_regs (d : Dev) (x : FabState) : (d.setFab x).regs = d.regs := rfl
@[simp] theorem Dev.setFab_stampHold (d : Dev) (x : FabState) : (d.setFab x).stampHold = d.stampHold := rfl
@[simp] theorem Dev.setFab_t0 (d : Dev) (x : FabState) : (d.setFab x).t0 = d.t0 := rfl
@[simp] theorem Dev.setFab_t1 (d : Dev) (x : FabState) : (d.setFab x).t1 = d.t1 := rfl
@[simp] theorem Dev.setFab_log (d : Dev) (x : FabState) : (d.setFab x).log = d.log := rfl
@[simp] theorem Dev.setFab_logSeq (d : Dev) (x : FabState) : (d.setFab x).logSeq = d.logSeq := rfl
@[simp] theorem Dev.setFab_msix (d : Dev) (x : FabState) : (d.setFab x).msix = d.msix := rfl
@[simp] theorem Dev.setFab_msixPend (d : Dev) (x : FabState) : (d.setFab x).msixPend = d.msixPend := rfl
@[simp] theorem Dev.setFab_spr (d : Dev) (x : FabState) : (d.setFab x).spr = d.spr := rfl
@[simp] theorem Dev.setFab_six (d : Dev) (x : FabState) : (d.setFab x).six = d.six := rfl
@[simp] theorem Dev.setFab_evt (d : Dev) (x : FabState) : (d.setFab x).evt = d.evt := rfl
@[simp] theorem Dev.setFab_kqp (d : Dev) (x : FabState) : (d.setFab x).kqp = d.kqp := rfl
@[simp] theorem Dev.setFab_deviceId (d : Dev) (x : FabState) : (d.setFab x).deviceId = d.deviceId := rfl
@[simp] theorem Dev.setFab_free (d : Dev) (x : FabState) : (d.setFab x).free = d.free := rfl
@[simp] theorem Dev.setFab_out (d : Dev) (x : FabState) : (d.setFab x).out = d.out := rfl
@[simp] theorem Dev.setFab_tir (d : Dev) (x : FabState) : (d.setFab x).tir = d.tir := rfl
@[simp] theorem Dev.setFab_mkt (d : Dev) (x : FabState) : (d.setFab x).mkt = d.mkt := rfl
@[simp] theorem Dev.setFab_ldg (d : Dev) (x : FabState) : (d.setFab x).ldg = d.ldg := rfl
@[simp] theorem Dev.setFab_hlt (d : Dev) (x : FabState) : (d.setFab x).hlt = d.hlt := rfl
@[simp] theorem Dev.setFab_wset (d : Dev) (x : FabState) : (d.setFab x).wset = d.wset := rfl
@[simp] theorem Dev.setFab_acr (d : Dev) (x : FabState) : (d.setFab x).acr = d.acr := rfl
@[simp] theorem Dev.setFab_col (d : Dev) (x : FabState) : (d.setFab x).col = d.col := rfl
@[simp] theorem Dev.setFab_tbn (d : Dev) (x : FabState) : (d.setFab x).tbn = d.tbn := rfl
@[simp] theorem Dev.setFab_sec (d : Dev) (x : FabState) : (d.setFab x).sec = d.sec := rfl
@[simp] theorem Dev.setFab_tim (d : Dev) (x : FabState) : (d.setFab x).tim = d.tim := rfl
@[simp] theorem Dev.setFab_pwr (d : Dev) (x : FabState) : (d.setFab x).pwr = d.pwr := rfl
@[simp] theorem Dev.setFab_hif (d : Dev) (x : FabState) : (d.setFab x).hif = d.hif := rfl
@[simp] theorem Dev.setFab_ccr (d : Dev) (x : FabState) : (d.setFab x).ccr = d.ccr := rfl

@[simp] theorem Dev.setTbn_tbn (d : Dev) (x : TbnState) : (d.setTbn x).tbn = x := rfl
@[simp] theorem Dev.setTbn_now (d : Dev) (x : TbnState) : (d.setTbn x).now = d.now := rfl
@[simp] theorem Dev.setTbn_regs (d : Dev) (x : TbnState) : (d.setTbn x).regs = d.regs := rfl
@[simp] theorem Dev.setTbn_stampHold (d : Dev) (x : TbnState) : (d.setTbn x).stampHold = d.stampHold := rfl
@[simp] theorem Dev.setTbn_t0 (d : Dev) (x : TbnState) : (d.setTbn x).t0 = d.t0 := rfl
@[simp] theorem Dev.setTbn_t1 (d : Dev) (x : TbnState) : (d.setTbn x).t1 = d.t1 := rfl
@[simp] theorem Dev.setTbn_log (d : Dev) (x : TbnState) : (d.setTbn x).log = d.log := rfl
@[simp] theorem Dev.setTbn_logSeq (d : Dev) (x : TbnState) : (d.setTbn x).logSeq = d.logSeq := rfl
@[simp] theorem Dev.setTbn_msix (d : Dev) (x : TbnState) : (d.setTbn x).msix = d.msix := rfl
@[simp] theorem Dev.setTbn_msixPend (d : Dev) (x : TbnState) : (d.setTbn x).msixPend = d.msixPend := rfl
@[simp] theorem Dev.setTbn_spr (d : Dev) (x : TbnState) : (d.setTbn x).spr = d.spr := rfl
@[simp] theorem Dev.setTbn_six (d : Dev) (x : TbnState) : (d.setTbn x).six = d.six := rfl
@[simp] theorem Dev.setTbn_evt (d : Dev) (x : TbnState) : (d.setTbn x).evt = d.evt := rfl
@[simp] theorem Dev.setTbn_kqp (d : Dev) (x : TbnState) : (d.setTbn x).kqp = d.kqp := rfl
@[simp] theorem Dev.setTbn_deviceId (d : Dev) (x : TbnState) : (d.setTbn x).deviceId = d.deviceId := rfl
@[simp] theorem Dev.setTbn_free (d : Dev) (x : TbnState) : (d.setTbn x).free = d.free := rfl
@[simp] theorem Dev.setTbn_out (d : Dev) (x : TbnState) : (d.setTbn x).out = d.out := rfl
@[simp] theorem Dev.setTbn_tir (d : Dev) (x : TbnState) : (d.setTbn x).tir = d.tir := rfl
@[simp] theorem Dev.setTbn_mkt (d : Dev) (x : TbnState) : (d.setTbn x).mkt = d.mkt := rfl
@[simp] theorem Dev.setTbn_ldg (d : Dev) (x : TbnState) : (d.setTbn x).ldg = d.ldg := rfl
@[simp] theorem Dev.setTbn_hlt (d : Dev) (x : TbnState) : (d.setTbn x).hlt = d.hlt := rfl
@[simp] theorem Dev.setTbn_wset (d : Dev) (x : TbnState) : (d.setTbn x).wset = d.wset := rfl
@[simp] theorem Dev.setTbn_acr (d : Dev) (x : TbnState) : (d.setTbn x).acr = d.acr := rfl
@[simp] theorem Dev.setTbn_col (d : Dev) (x : TbnState) : (d.setTbn x).col = d.col := rfl
@[simp] theorem Dev.setTbn_fab (d : Dev) (x : TbnState) : (d.setTbn x).fab = d.fab := rfl
@[simp] theorem Dev.setTbn_sec (d : Dev) (x : TbnState) : (d.setTbn x).sec = d.sec := rfl
@[simp] theorem Dev.setTbn_tim (d : Dev) (x : TbnState) : (d.setTbn x).tim = d.tim := rfl
@[simp] theorem Dev.setTbn_pwr (d : Dev) (x : TbnState) : (d.setTbn x).pwr = d.pwr := rfl
@[simp] theorem Dev.setTbn_hif (d : Dev) (x : TbnState) : (d.setTbn x).hif = d.hif := rfl
@[simp] theorem Dev.setTbn_ccr (d : Dev) (x : TbnState) : (d.setTbn x).ccr = d.ccr := rfl

@[simp] theorem Dev.setSec_sec (d : Dev) (x : SecState) : (d.setSec x).sec = x := rfl
@[simp] theorem Dev.setSec_now (d : Dev) (x : SecState) : (d.setSec x).now = d.now := rfl
@[simp] theorem Dev.setSec_regs (d : Dev) (x : SecState) : (d.setSec x).regs = d.regs := rfl
@[simp] theorem Dev.setSec_stampHold (d : Dev) (x : SecState) : (d.setSec x).stampHold = d.stampHold := rfl
@[simp] theorem Dev.setSec_t0 (d : Dev) (x : SecState) : (d.setSec x).t0 = d.t0 := rfl
@[simp] theorem Dev.setSec_t1 (d : Dev) (x : SecState) : (d.setSec x).t1 = d.t1 := rfl
@[simp] theorem Dev.setSec_log (d : Dev) (x : SecState) : (d.setSec x).log = d.log := rfl
@[simp] theorem Dev.setSec_logSeq (d : Dev) (x : SecState) : (d.setSec x).logSeq = d.logSeq := rfl
@[simp] theorem Dev.setSec_msix (d : Dev) (x : SecState) : (d.setSec x).msix = d.msix := rfl
@[simp] theorem Dev.setSec_msixPend (d : Dev) (x : SecState) : (d.setSec x).msixPend = d.msixPend := rfl
@[simp] theorem Dev.setSec_spr (d : Dev) (x : SecState) : (d.setSec x).spr = d.spr := rfl
@[simp] theorem Dev.setSec_six (d : Dev) (x : SecState) : (d.setSec x).six = d.six := rfl
@[simp] theorem Dev.setSec_evt (d : Dev) (x : SecState) : (d.setSec x).evt = d.evt := rfl
@[simp] theorem Dev.setSec_kqp (d : Dev) (x : SecState) : (d.setSec x).kqp = d.kqp := rfl
@[simp] theorem Dev.setSec_deviceId (d : Dev) (x : SecState) : (d.setSec x).deviceId = d.deviceId := rfl
@[simp] theorem Dev.setSec_free (d : Dev) (x : SecState) : (d.setSec x).free = d.free := rfl
@[simp] theorem Dev.setSec_out (d : Dev) (x : SecState) : (d.setSec x).out = d.out := rfl
@[simp] theorem Dev.setSec_tir (d : Dev) (x : SecState) : (d.setSec x).tir = d.tir := rfl
@[simp] theorem Dev.setSec_mkt (d : Dev) (x : SecState) : (d.setSec x).mkt = d.mkt := rfl
@[simp] theorem Dev.setSec_ldg (d : Dev) (x : SecState) : (d.setSec x).ldg = d.ldg := rfl
@[simp] theorem Dev.setSec_hlt (d : Dev) (x : SecState) : (d.setSec x).hlt = d.hlt := rfl
@[simp] theorem Dev.setSec_wset (d : Dev) (x : SecState) : (d.setSec x).wset = d.wset := rfl
@[simp] theorem Dev.setSec_acr (d : Dev) (x : SecState) : (d.setSec x).acr = d.acr := rfl
@[simp] theorem Dev.setSec_col (d : Dev) (x : SecState) : (d.setSec x).col = d.col := rfl
@[simp] theorem Dev.setSec_fab (d : Dev) (x : SecState) : (d.setSec x).fab = d.fab := rfl
@[simp] theorem Dev.setSec_tbn (d : Dev) (x : SecState) : (d.setSec x).tbn = d.tbn := rfl
@[simp] theorem Dev.setSec_tim (d : Dev) (x : SecState) : (d.setSec x).tim = d.tim := rfl
@[simp] theorem Dev.setSec_pwr (d : Dev) (x : SecState) : (d.setSec x).pwr = d.pwr := rfl
@[simp] theorem Dev.setSec_hif (d : Dev) (x : SecState) : (d.setSec x).hif = d.hif := rfl
@[simp] theorem Dev.setSec_ccr (d : Dev) (x : SecState) : (d.setSec x).ccr = d.ccr := rfl

@[simp] theorem Dev.setTim_tim (d : Dev) (x : TimState) : (d.setTim x).tim = x := rfl
@[simp] theorem Dev.setTim_now (d : Dev) (x : TimState) : (d.setTim x).now = d.now := rfl
@[simp] theorem Dev.setTim_regs (d : Dev) (x : TimState) : (d.setTim x).regs = d.regs := rfl
@[simp] theorem Dev.setTim_stampHold (d : Dev) (x : TimState) : (d.setTim x).stampHold = d.stampHold := rfl
@[simp] theorem Dev.setTim_t0 (d : Dev) (x : TimState) : (d.setTim x).t0 = d.t0 := rfl
@[simp] theorem Dev.setTim_t1 (d : Dev) (x : TimState) : (d.setTim x).t1 = d.t1 := rfl
@[simp] theorem Dev.setTim_log (d : Dev) (x : TimState) : (d.setTim x).log = d.log := rfl
@[simp] theorem Dev.setTim_logSeq (d : Dev) (x : TimState) : (d.setTim x).logSeq = d.logSeq := rfl
@[simp] theorem Dev.setTim_msix (d : Dev) (x : TimState) : (d.setTim x).msix = d.msix := rfl
@[simp] theorem Dev.setTim_msixPend (d : Dev) (x : TimState) : (d.setTim x).msixPend = d.msixPend := rfl
@[simp] theorem Dev.setTim_spr (d : Dev) (x : TimState) : (d.setTim x).spr = d.spr := rfl
@[simp] theorem Dev.setTim_six (d : Dev) (x : TimState) : (d.setTim x).six = d.six := rfl
@[simp] theorem Dev.setTim_evt (d : Dev) (x : TimState) : (d.setTim x).evt = d.evt := rfl
@[simp] theorem Dev.setTim_kqp (d : Dev) (x : TimState) : (d.setTim x).kqp = d.kqp := rfl
@[simp] theorem Dev.setTim_deviceId (d : Dev) (x : TimState) : (d.setTim x).deviceId = d.deviceId := rfl
@[simp] theorem Dev.setTim_free (d : Dev) (x : TimState) : (d.setTim x).free = d.free := rfl
@[simp] theorem Dev.setTim_out (d : Dev) (x : TimState) : (d.setTim x).out = d.out := rfl
@[simp] theorem Dev.setTim_tir (d : Dev) (x : TimState) : (d.setTim x).tir = d.tir := rfl
@[simp] theorem Dev.setTim_mkt (d : Dev) (x : TimState) : (d.setTim x).mkt = d.mkt := rfl
@[simp] theorem Dev.setTim_ldg (d : Dev) (x : TimState) : (d.setTim x).ldg = d.ldg := rfl
@[simp] theorem Dev.setTim_hlt (d : Dev) (x : TimState) : (d.setTim x).hlt = d.hlt := rfl
@[simp] theorem Dev.setTim_wset (d : Dev) (x : TimState) : (d.setTim x).wset = d.wset := rfl
@[simp] theorem Dev.setTim_acr (d : Dev) (x : TimState) : (d.setTim x).acr = d.acr := rfl
@[simp] theorem Dev.setTim_col (d : Dev) (x : TimState) : (d.setTim x).col = d.col := rfl
@[simp] theorem Dev.setTim_fab (d : Dev) (x : TimState) : (d.setTim x).fab = d.fab := rfl
@[simp] theorem Dev.setTim_tbn (d : Dev) (x : TimState) : (d.setTim x).tbn = d.tbn := rfl
@[simp] theorem Dev.setTim_sec (d : Dev) (x : TimState) : (d.setTim x).sec = d.sec := rfl
@[simp] theorem Dev.setTim_pwr (d : Dev) (x : TimState) : (d.setTim x).pwr = d.pwr := rfl
@[simp] theorem Dev.setTim_hif (d : Dev) (x : TimState) : (d.setTim x).hif = d.hif := rfl
@[simp] theorem Dev.setTim_ccr (d : Dev) (x : TimState) : (d.setTim x).ccr = d.ccr := rfl

@[simp] theorem Dev.setPwr_pwr (d : Dev) (x : PwrState) : (d.setPwr x).pwr = x := rfl
@[simp] theorem Dev.setPwr_now (d : Dev) (x : PwrState) : (d.setPwr x).now = d.now := rfl
@[simp] theorem Dev.setPwr_regs (d : Dev) (x : PwrState) : (d.setPwr x).regs = d.regs := rfl
@[simp] theorem Dev.setPwr_stampHold (d : Dev) (x : PwrState) : (d.setPwr x).stampHold = d.stampHold := rfl
@[simp] theorem Dev.setPwr_t0 (d : Dev) (x : PwrState) : (d.setPwr x).t0 = d.t0 := rfl
@[simp] theorem Dev.setPwr_t1 (d : Dev) (x : PwrState) : (d.setPwr x).t1 = d.t1 := rfl
@[simp] theorem Dev.setPwr_log (d : Dev) (x : PwrState) : (d.setPwr x).log = d.log := rfl
@[simp] theorem Dev.setPwr_logSeq (d : Dev) (x : PwrState) : (d.setPwr x).logSeq = d.logSeq := rfl
@[simp] theorem Dev.setPwr_msix (d : Dev) (x : PwrState) : (d.setPwr x).msix = d.msix := rfl
@[simp] theorem Dev.setPwr_msixPend (d : Dev) (x : PwrState) : (d.setPwr x).msixPend = d.msixPend := rfl
@[simp] theorem Dev.setPwr_spr (d : Dev) (x : PwrState) : (d.setPwr x).spr = d.spr := rfl
@[simp] theorem Dev.setPwr_six (d : Dev) (x : PwrState) : (d.setPwr x).six = d.six := rfl
@[simp] theorem Dev.setPwr_evt (d : Dev) (x : PwrState) : (d.setPwr x).evt = d.evt := rfl
@[simp] theorem Dev.setPwr_kqp (d : Dev) (x : PwrState) : (d.setPwr x).kqp = d.kqp := rfl
@[simp] theorem Dev.setPwr_deviceId (d : Dev) (x : PwrState) : (d.setPwr x).deviceId = d.deviceId := rfl
@[simp] theorem Dev.setPwr_free (d : Dev) (x : PwrState) : (d.setPwr x).free = d.free := rfl
@[simp] theorem Dev.setPwr_out (d : Dev) (x : PwrState) : (d.setPwr x).out = d.out := rfl
@[simp] theorem Dev.setPwr_tir (d : Dev) (x : PwrState) : (d.setPwr x).tir = d.tir := rfl
@[simp] theorem Dev.setPwr_mkt (d : Dev) (x : PwrState) : (d.setPwr x).mkt = d.mkt := rfl
@[simp] theorem Dev.setPwr_ldg (d : Dev) (x : PwrState) : (d.setPwr x).ldg = d.ldg := rfl
@[simp] theorem Dev.setPwr_hlt (d : Dev) (x : PwrState) : (d.setPwr x).hlt = d.hlt := rfl
@[simp] theorem Dev.setPwr_wset (d : Dev) (x : PwrState) : (d.setPwr x).wset = d.wset := rfl
@[simp] theorem Dev.setPwr_acr (d : Dev) (x : PwrState) : (d.setPwr x).acr = d.acr := rfl
@[simp] theorem Dev.setPwr_col (d : Dev) (x : PwrState) : (d.setPwr x).col = d.col := rfl
@[simp] theorem Dev.setPwr_fab (d : Dev) (x : PwrState) : (d.setPwr x).fab = d.fab := rfl
@[simp] theorem Dev.setPwr_tbn (d : Dev) (x : PwrState) : (d.setPwr x).tbn = d.tbn := rfl
@[simp] theorem Dev.setPwr_sec (d : Dev) (x : PwrState) : (d.setPwr x).sec = d.sec := rfl
@[simp] theorem Dev.setPwr_tim (d : Dev) (x : PwrState) : (d.setPwr x).tim = d.tim := rfl
@[simp] theorem Dev.setPwr_hif (d : Dev) (x : PwrState) : (d.setPwr x).hif = d.hif := rfl
@[simp] theorem Dev.setPwr_ccr (d : Dev) (x : PwrState) : (d.setPwr x).ccr = d.ccr := rfl

@[simp] theorem Dev.setHif_hif (d : Dev) (x : HifState) : (d.setHif x).hif = x := rfl
@[simp] theorem Dev.setHif_now (d : Dev) (x : HifState) : (d.setHif x).now = d.now := rfl
@[simp] theorem Dev.setHif_regs (d : Dev) (x : HifState) : (d.setHif x).regs = d.regs := rfl
@[simp] theorem Dev.setHif_stampHold (d : Dev) (x : HifState) : (d.setHif x).stampHold = d.stampHold := rfl
@[simp] theorem Dev.setHif_t0 (d : Dev) (x : HifState) : (d.setHif x).t0 = d.t0 := rfl
@[simp] theorem Dev.setHif_t1 (d : Dev) (x : HifState) : (d.setHif x).t1 = d.t1 := rfl
@[simp] theorem Dev.setHif_log (d : Dev) (x : HifState) : (d.setHif x).log = d.log := rfl
@[simp] theorem Dev.setHif_logSeq (d : Dev) (x : HifState) : (d.setHif x).logSeq = d.logSeq := rfl
@[simp] theorem Dev.setHif_msix (d : Dev) (x : HifState) : (d.setHif x).msix = d.msix := rfl
@[simp] theorem Dev.setHif_msixPend (d : Dev) (x : HifState) : (d.setHif x).msixPend = d.msixPend := rfl
@[simp] theorem Dev.setHif_spr (d : Dev) (x : HifState) : (d.setHif x).spr = d.spr := rfl
@[simp] theorem Dev.setHif_six (d : Dev) (x : HifState) : (d.setHif x).six = d.six := rfl
@[simp] theorem Dev.setHif_evt (d : Dev) (x : HifState) : (d.setHif x).evt = d.evt := rfl
@[simp] theorem Dev.setHif_kqp (d : Dev) (x : HifState) : (d.setHif x).kqp = d.kqp := rfl
@[simp] theorem Dev.setHif_deviceId (d : Dev) (x : HifState) : (d.setHif x).deviceId = d.deviceId := rfl
@[simp] theorem Dev.setHif_free (d : Dev) (x : HifState) : (d.setHif x).free = d.free := rfl
@[simp] theorem Dev.setHif_out (d : Dev) (x : HifState) : (d.setHif x).out = d.out := rfl
@[simp] theorem Dev.setHif_tir (d : Dev) (x : HifState) : (d.setHif x).tir = d.tir := rfl
@[simp] theorem Dev.setHif_mkt (d : Dev) (x : HifState) : (d.setHif x).mkt = d.mkt := rfl
@[simp] theorem Dev.setHif_ldg (d : Dev) (x : HifState) : (d.setHif x).ldg = d.ldg := rfl
@[simp] theorem Dev.setHif_hlt (d : Dev) (x : HifState) : (d.setHif x).hlt = d.hlt := rfl
@[simp] theorem Dev.setHif_wset (d : Dev) (x : HifState) : (d.setHif x).wset = d.wset := rfl
@[simp] theorem Dev.setHif_acr (d : Dev) (x : HifState) : (d.setHif x).acr = d.acr := rfl
@[simp] theorem Dev.setHif_col (d : Dev) (x : HifState) : (d.setHif x).col = d.col := rfl
@[simp] theorem Dev.setHif_fab (d : Dev) (x : HifState) : (d.setHif x).fab = d.fab := rfl
@[simp] theorem Dev.setHif_tbn (d : Dev) (x : HifState) : (d.setHif x).tbn = d.tbn := rfl
@[simp] theorem Dev.setHif_sec (d : Dev) (x : HifState) : (d.setHif x).sec = d.sec := rfl
@[simp] theorem Dev.setHif_tim (d : Dev) (x : HifState) : (d.setHif x).tim = d.tim := rfl
@[simp] theorem Dev.setHif_pwr (d : Dev) (x : HifState) : (d.setHif x).pwr = d.pwr := rfl
@[simp] theorem Dev.setHif_ccr (d : Dev) (x : HifState) : (d.setHif x).ccr = d.ccr := rfl

@[simp] theorem Dev.setCcr_ccr (d : Dev) (x : CcrState) : (d.setCcr x).ccr = x := rfl
@[simp] theorem Dev.setCcr_now (d : Dev) (x : CcrState) : (d.setCcr x).now = d.now := rfl
@[simp] theorem Dev.setCcr_regs (d : Dev) (x : CcrState) : (d.setCcr x).regs = d.regs := rfl
@[simp] theorem Dev.setCcr_stampHold (d : Dev) (x : CcrState) : (d.setCcr x).stampHold = d.stampHold := rfl
@[simp] theorem Dev.setCcr_t0 (d : Dev) (x : CcrState) : (d.setCcr x).t0 = d.t0 := rfl
@[simp] theorem Dev.setCcr_t1 (d : Dev) (x : CcrState) : (d.setCcr x).t1 = d.t1 := rfl
@[simp] theorem Dev.setCcr_log (d : Dev) (x : CcrState) : (d.setCcr x).log = d.log := rfl
@[simp] theorem Dev.setCcr_logSeq (d : Dev) (x : CcrState) : (d.setCcr x).logSeq = d.logSeq := rfl
@[simp] theorem Dev.setCcr_msix (d : Dev) (x : CcrState) : (d.setCcr x).msix = d.msix := rfl
@[simp] theorem Dev.setCcr_msixPend (d : Dev) (x : CcrState) : (d.setCcr x).msixPend = d.msixPend := rfl
@[simp] theorem Dev.setCcr_spr (d : Dev) (x : CcrState) : (d.setCcr x).spr = d.spr := rfl
@[simp] theorem Dev.setCcr_six (d : Dev) (x : CcrState) : (d.setCcr x).six = d.six := rfl
@[simp] theorem Dev.setCcr_evt (d : Dev) (x : CcrState) : (d.setCcr x).evt = d.evt := rfl
@[simp] theorem Dev.setCcr_kqp (d : Dev) (x : CcrState) : (d.setCcr x).kqp = d.kqp := rfl
@[simp] theorem Dev.setCcr_deviceId (d : Dev) (x : CcrState) : (d.setCcr x).deviceId = d.deviceId := rfl
@[simp] theorem Dev.setCcr_free (d : Dev) (x : CcrState) : (d.setCcr x).free = d.free := rfl
@[simp] theorem Dev.setCcr_out (d : Dev) (x : CcrState) : (d.setCcr x).out = d.out := rfl
@[simp] theorem Dev.setCcr_tir (d : Dev) (x : CcrState) : (d.setCcr x).tir = d.tir := rfl
@[simp] theorem Dev.setCcr_mkt (d : Dev) (x : CcrState) : (d.setCcr x).mkt = d.mkt := rfl
@[simp] theorem Dev.setCcr_ldg (d : Dev) (x : CcrState) : (d.setCcr x).ldg = d.ldg := rfl
@[simp] theorem Dev.setCcr_hlt (d : Dev) (x : CcrState) : (d.setCcr x).hlt = d.hlt := rfl
@[simp] theorem Dev.setCcr_wset (d : Dev) (x : CcrState) : (d.setCcr x).wset = d.wset := rfl
@[simp] theorem Dev.setCcr_acr (d : Dev) (x : CcrState) : (d.setCcr x).acr = d.acr := rfl
@[simp] theorem Dev.setCcr_col (d : Dev) (x : CcrState) : (d.setCcr x).col = d.col := rfl
@[simp] theorem Dev.setCcr_fab (d : Dev) (x : CcrState) : (d.setCcr x).fab = d.fab := rfl
@[simp] theorem Dev.setCcr_tbn (d : Dev) (x : CcrState) : (d.setCcr x).tbn = d.tbn := rfl
@[simp] theorem Dev.setCcr_sec (d : Dev) (x : CcrState) : (d.setCcr x).sec = d.sec := rfl
@[simp] theorem Dev.setCcr_tim (d : Dev) (x : CcrState) : (d.setCcr x).tim = d.tim := rfl
@[simp] theorem Dev.setCcr_pwr (d : Dev) (x : CcrState) : (d.setCcr x).pwr = d.pwr := rfl
@[simp] theorem Dev.setCcr_hif (d : Dev) (x : CcrState) : (d.setCcr x).hif = d.hif := rfl

@[simp] theorem Dev.setReg_now (d : Dev) (k : Nat) (v : Word) : (d.setReg k v).now = d.now := rfl
@[simp] theorem Dev.setReg_stampHold (d : Dev) (k : Nat) (v : Word) : (d.setReg k v).stampHold = d.stampHold := rfl
@[simp] theorem Dev.setReg_t0 (d : Dev) (k : Nat) (v : Word) : (d.setReg k v).t0 = d.t0 := rfl
@[simp] theorem Dev.setReg_t1 (d : Dev) (k : Nat) (v : Word) : (d.setReg k v).t1 = d.t1 := rfl
@[simp] theorem Dev.setReg_log (d : Dev) (k : Nat) (v : Word) : (d.setReg k v).log = d.log := rfl
@[simp] theorem Dev.setReg_logSeq (d : Dev) (k : Nat) (v : Word) : (d.setReg k v).logSeq = d.logSeq := rfl
@[simp] theorem Dev.setReg_msix (d : Dev) (k : Nat) (v : Word) : (d.setReg k v).msix = d.msix := rfl
@[simp] theorem Dev.setReg_msixPend (d : Dev) (k : Nat) (v : Word) : (d.setReg k v).msixPend = d.msixPend := rfl
@[simp] theorem Dev.setReg_spr (d : Dev) (k : Nat) (v : Word) : (d.setReg k v).spr = d.spr := rfl
@[simp] theorem Dev.setReg_six (d : Dev) (k : Nat) (v : Word) : (d.setReg k v).six = d.six := rfl
@[simp] theorem Dev.setReg_evt (d : Dev) (k : Nat) (v : Word) : (d.setReg k v).evt = d.evt := rfl
@[simp] theorem Dev.setReg_kqp (d : Dev) (k : Nat) (v : Word) : (d.setReg k v).kqp = d.kqp := rfl
@[simp] theorem Dev.setReg_deviceId (d : Dev) (k : Nat) (v : Word) : (d.setReg k v).deviceId = d.deviceId := rfl
@[simp] theorem Dev.setReg_free (d : Dev) (k : Nat) (v : Word) : (d.setReg k v).free = d.free := rfl
@[simp] theorem Dev.setReg_out (d : Dev) (k : Nat) (v : Word) : (d.setReg k v).out = d.out := rfl
@[simp] theorem Dev.setReg_tir (d : Dev) (k : Nat) (v : Word) : (d.setReg k v).tir = d.tir := rfl
@[simp] theorem Dev.setReg_mkt (d : Dev) (k : Nat) (v : Word) : (d.setReg k v).mkt = d.mkt := rfl
@[simp] theorem Dev.setReg_ldg (d : Dev) (k : Nat) (v : Word) : (d.setReg k v).ldg = d.ldg := rfl
@[simp] theorem Dev.setReg_hlt (d : Dev) (k : Nat) (v : Word) : (d.setReg k v).hlt = d.hlt := rfl
@[simp] theorem Dev.setReg_wset (d : Dev) (k : Nat) (v : Word) : (d.setReg k v).wset = d.wset := rfl
@[simp] theorem Dev.setReg_acr (d : Dev) (k : Nat) (v : Word) : (d.setReg k v).acr = d.acr := rfl
@[simp] theorem Dev.setReg_col (d : Dev) (k : Nat) (v : Word) : (d.setReg k v).col = d.col := rfl
@[simp] theorem Dev.setReg_fab (d : Dev) (k : Nat) (v : Word) : (d.setReg k v).fab = d.fab := rfl
@[simp] theorem Dev.setReg_tbn (d : Dev) (k : Nat) (v : Word) : (d.setReg k v).tbn = d.tbn := rfl
@[simp] theorem Dev.setReg_sec (d : Dev) (k : Nat) (v : Word) : (d.setReg k v).sec = d.sec := rfl
@[simp] theorem Dev.setReg_tim (d : Dev) (k : Nat) (v : Word) : (d.setReg k v).tim = d.tim := rfl
@[simp] theorem Dev.setReg_pwr (d : Dev) (k : Nat) (v : Word) : (d.setReg k v).pwr = d.pwr := rfl
@[simp] theorem Dev.setReg_hif (d : Dev) (k : Nat) (v : Word) : (d.setReg k v).hif = d.hif := rfl
@[simp] theorem Dev.setReg_ccr (d : Dev) (k : Nat) (v : Word) : (d.setReg k v).ccr = d.ccr := rfl

@[simp] theorem Dev.wr_now (d : Dev) (f : Fld) (v : Nat) : (d.wr f v).now = d.now := rfl
@[simp] theorem Dev.wr_stampHold (d : Dev) (f : Fld) (v : Nat) : (d.wr f v).stampHold = d.stampHold := rfl
@[simp] theorem Dev.wr_t0 (d : Dev) (f : Fld) (v : Nat) : (d.wr f v).t0 = d.t0 := rfl
@[simp] theorem Dev.wr_t1 (d : Dev) (f : Fld) (v : Nat) : (d.wr f v).t1 = d.t1 := rfl
@[simp] theorem Dev.wr_log (d : Dev) (f : Fld) (v : Nat) : (d.wr f v).log = d.log := rfl
@[simp] theorem Dev.wr_logSeq (d : Dev) (f : Fld) (v : Nat) : (d.wr f v).logSeq = d.logSeq := rfl
@[simp] theorem Dev.wr_msix (d : Dev) (f : Fld) (v : Nat) : (d.wr f v).msix = d.msix := rfl
@[simp] theorem Dev.wr_msixPend (d : Dev) (f : Fld) (v : Nat) : (d.wr f v).msixPend = d.msixPend := rfl
@[simp] theorem Dev.wr_spr (d : Dev) (f : Fld) (v : Nat) : (d.wr f v).spr = d.spr := rfl
@[simp] theorem Dev.wr_six (d : Dev) (f : Fld) (v : Nat) : (d.wr f v).six = d.six := rfl
@[simp] theorem Dev.wr_evt (d : Dev) (f : Fld) (v : Nat) : (d.wr f v).evt = d.evt := rfl
@[simp] theorem Dev.wr_kqp (d : Dev) (f : Fld) (v : Nat) : (d.wr f v).kqp = d.kqp := rfl
@[simp] theorem Dev.wr_deviceId (d : Dev) (f : Fld) (v : Nat) : (d.wr f v).deviceId = d.deviceId := rfl
@[simp] theorem Dev.wr_free (d : Dev) (f : Fld) (v : Nat) : (d.wr f v).free = d.free := rfl
@[simp] theorem Dev.wr_out (d : Dev) (f : Fld) (v : Nat) : (d.wr f v).out = d.out := rfl
@[simp] theorem Dev.wr_tir (d : Dev) (f : Fld) (v : Nat) : (d.wr f v).tir = d.tir := rfl
@[simp] theorem Dev.wr_mkt (d : Dev) (f : Fld) (v : Nat) : (d.wr f v).mkt = d.mkt := rfl
@[simp] theorem Dev.wr_ldg (d : Dev) (f : Fld) (v : Nat) : (d.wr f v).ldg = d.ldg := rfl
@[simp] theorem Dev.wr_hlt (d : Dev) (f : Fld) (v : Nat) : (d.wr f v).hlt = d.hlt := rfl
@[simp] theorem Dev.wr_wset (d : Dev) (f : Fld) (v : Nat) : (d.wr f v).wset = d.wset := rfl
@[simp] theorem Dev.wr_acr (d : Dev) (f : Fld) (v : Nat) : (d.wr f v).acr = d.acr := rfl
@[simp] theorem Dev.wr_col (d : Dev) (f : Fld) (v : Nat) : (d.wr f v).col = d.col := rfl
@[simp] theorem Dev.wr_fab (d : Dev) (f : Fld) (v : Nat) : (d.wr f v).fab = d.fab := rfl
@[simp] theorem Dev.wr_tbn (d : Dev) (f : Fld) (v : Nat) : (d.wr f v).tbn = d.tbn := rfl
@[simp] theorem Dev.wr_sec (d : Dev) (f : Fld) (v : Nat) : (d.wr f v).sec = d.sec := rfl
@[simp] theorem Dev.wr_tim (d : Dev) (f : Fld) (v : Nat) : (d.wr f v).tim = d.tim := rfl
@[simp] theorem Dev.wr_pwr (d : Dev) (f : Fld) (v : Nat) : (d.wr f v).pwr = d.pwr := rfl
@[simp] theorem Dev.wr_hif (d : Dev) (f : Fld) (v : Nat) : (d.wr f v).hif = d.hif := rfl
@[simp] theorem Dev.wr_ccr (d : Dev) (f : Fld) (v : Nat) : (d.wr f v).ccr = d.ccr := rfl

@[simp] theorem Dev.setFlag_now (d : Dev) (f : Fld) (b : Bool) : (d.setFlag f b).now = d.now := rfl
@[simp] theorem Dev.setFlag_stampHold (d : Dev) (f : Fld) (b : Bool) : (d.setFlag f b).stampHold = d.stampHold := rfl
@[simp] theorem Dev.setFlag_t0 (d : Dev) (f : Fld) (b : Bool) : (d.setFlag f b).t0 = d.t0 := rfl
@[simp] theorem Dev.setFlag_t1 (d : Dev) (f : Fld) (b : Bool) : (d.setFlag f b).t1 = d.t1 := rfl
@[simp] theorem Dev.setFlag_log (d : Dev) (f : Fld) (b : Bool) : (d.setFlag f b).log = d.log := rfl
@[simp] theorem Dev.setFlag_logSeq (d : Dev) (f : Fld) (b : Bool) : (d.setFlag f b).logSeq = d.logSeq := rfl
@[simp] theorem Dev.setFlag_msix (d : Dev) (f : Fld) (b : Bool) : (d.setFlag f b).msix = d.msix := rfl
@[simp] theorem Dev.setFlag_msixPend (d : Dev) (f : Fld) (b : Bool) : (d.setFlag f b).msixPend = d.msixPend := rfl
@[simp] theorem Dev.setFlag_spr (d : Dev) (f : Fld) (b : Bool) : (d.setFlag f b).spr = d.spr := rfl
@[simp] theorem Dev.setFlag_six (d : Dev) (f : Fld) (b : Bool) : (d.setFlag f b).six = d.six := rfl
@[simp] theorem Dev.setFlag_evt (d : Dev) (f : Fld) (b : Bool) : (d.setFlag f b).evt = d.evt := rfl
@[simp] theorem Dev.setFlag_kqp (d : Dev) (f : Fld) (b : Bool) : (d.setFlag f b).kqp = d.kqp := rfl
@[simp] theorem Dev.setFlag_deviceId (d : Dev) (f : Fld) (b : Bool) : (d.setFlag f b).deviceId = d.deviceId := rfl
@[simp] theorem Dev.setFlag_free (d : Dev) (f : Fld) (b : Bool) : (d.setFlag f b).free = d.free := rfl
@[simp] theorem Dev.setFlag_out (d : Dev) (f : Fld) (b : Bool) : (d.setFlag f b).out = d.out := rfl
@[simp] theorem Dev.setFlag_tir (d : Dev) (f : Fld) (b : Bool) : (d.setFlag f b).tir = d.tir := rfl
@[simp] theorem Dev.setFlag_mkt (d : Dev) (f : Fld) (b : Bool) : (d.setFlag f b).mkt = d.mkt := rfl
@[simp] theorem Dev.setFlag_ldg (d : Dev) (f : Fld) (b : Bool) : (d.setFlag f b).ldg = d.ldg := rfl
@[simp] theorem Dev.setFlag_hlt (d : Dev) (f : Fld) (b : Bool) : (d.setFlag f b).hlt = d.hlt := rfl
@[simp] theorem Dev.setFlag_wset (d : Dev) (f : Fld) (b : Bool) : (d.setFlag f b).wset = d.wset := rfl
@[simp] theorem Dev.setFlag_acr (d : Dev) (f : Fld) (b : Bool) : (d.setFlag f b).acr = d.acr := rfl
@[simp] theorem Dev.setFlag_col (d : Dev) (f : Fld) (b : Bool) : (d.setFlag f b).col = d.col := rfl
@[simp] theorem Dev.setFlag_fab (d : Dev) (f : Fld) (b : Bool) : (d.setFlag f b).fab = d.fab := rfl
@[simp] theorem Dev.setFlag_tbn (d : Dev) (f : Fld) (b : Bool) : (d.setFlag f b).tbn = d.tbn := rfl
@[simp] theorem Dev.setFlag_sec (d : Dev) (f : Fld) (b : Bool) : (d.setFlag f b).sec = d.sec := rfl
@[simp] theorem Dev.setFlag_tim (d : Dev) (f : Fld) (b : Bool) : (d.setFlag f b).tim = d.tim := rfl
@[simp] theorem Dev.setFlag_pwr (d : Dev) (f : Fld) (b : Bool) : (d.setFlag f b).pwr = d.pwr := rfl
@[simp] theorem Dev.setFlag_hif (d : Dev) (f : Fld) (b : Bool) : (d.setFlag f b).hif = d.hif := rfl
@[simp] theorem Dev.setFlag_ccr (d : Dev) (f : Fld) (b : Bool) : (d.setFlag f b).ccr = d.ccr := rfl

@[simp] theorem Dev.inc_now (d : Dev) (f : Fld) (k : Nat) : (d.inc f k).now = d.now := rfl
@[simp] theorem Dev.inc_stampHold (d : Dev) (f : Fld) (k : Nat) : (d.inc f k).stampHold = d.stampHold := rfl
@[simp] theorem Dev.inc_t0 (d : Dev) (f : Fld) (k : Nat) : (d.inc f k).t0 = d.t0 := rfl
@[simp] theorem Dev.inc_t1 (d : Dev) (f : Fld) (k : Nat) : (d.inc f k).t1 = d.t1 := rfl
@[simp] theorem Dev.inc_log (d : Dev) (f : Fld) (k : Nat) : (d.inc f k).log = d.log := rfl
@[simp] theorem Dev.inc_logSeq (d : Dev) (f : Fld) (k : Nat) : (d.inc f k).logSeq = d.logSeq := rfl
@[simp] theorem Dev.inc_msix (d : Dev) (f : Fld) (k : Nat) : (d.inc f k).msix = d.msix := rfl
@[simp] theorem Dev.inc_msixPend (d : Dev) (f : Fld) (k : Nat) : (d.inc f k).msixPend = d.msixPend := rfl
@[simp] theorem Dev.inc_spr (d : Dev) (f : Fld) (k : Nat) : (d.inc f k).spr = d.spr := rfl
@[simp] theorem Dev.inc_six (d : Dev) (f : Fld) (k : Nat) : (d.inc f k).six = d.six := rfl
@[simp] theorem Dev.inc_evt (d : Dev) (f : Fld) (k : Nat) : (d.inc f k).evt = d.evt := rfl
@[simp] theorem Dev.inc_kqp (d : Dev) (f : Fld) (k : Nat) : (d.inc f k).kqp = d.kqp := rfl
@[simp] theorem Dev.inc_deviceId (d : Dev) (f : Fld) (k : Nat) : (d.inc f k).deviceId = d.deviceId := rfl
@[simp] theorem Dev.inc_free (d : Dev) (f : Fld) (k : Nat) : (d.inc f k).free = d.free := rfl
@[simp] theorem Dev.inc_out (d : Dev) (f : Fld) (k : Nat) : (d.inc f k).out = d.out := rfl
@[simp] theorem Dev.inc_tir (d : Dev) (f : Fld) (k : Nat) : (d.inc f k).tir = d.tir := rfl
@[simp] theorem Dev.inc_mkt (d : Dev) (f : Fld) (k : Nat) : (d.inc f k).mkt = d.mkt := rfl
@[simp] theorem Dev.inc_ldg (d : Dev) (f : Fld) (k : Nat) : (d.inc f k).ldg = d.ldg := rfl
@[simp] theorem Dev.inc_hlt (d : Dev) (f : Fld) (k : Nat) : (d.inc f k).hlt = d.hlt := rfl
@[simp] theorem Dev.inc_wset (d : Dev) (f : Fld) (k : Nat) : (d.inc f k).wset = d.wset := rfl
@[simp] theorem Dev.inc_acr (d : Dev) (f : Fld) (k : Nat) : (d.inc f k).acr = d.acr := rfl
@[simp] theorem Dev.inc_col (d : Dev) (f : Fld) (k : Nat) : (d.inc f k).col = d.col := rfl
@[simp] theorem Dev.inc_fab (d : Dev) (f : Fld) (k : Nat) : (d.inc f k).fab = d.fab := rfl
@[simp] theorem Dev.inc_tbn (d : Dev) (f : Fld) (k : Nat) : (d.inc f k).tbn = d.tbn := rfl
@[simp] theorem Dev.inc_sec (d : Dev) (f : Fld) (k : Nat) : (d.inc f k).sec = d.sec := rfl
@[simp] theorem Dev.inc_tim (d : Dev) (f : Fld) (k : Nat) : (d.inc f k).tim = d.tim := rfl
@[simp] theorem Dev.inc_pwr (d : Dev) (f : Fld) (k : Nat) : (d.inc f k).pwr = d.pwr := rfl
@[simp] theorem Dev.inc_hif (d : Dev) (f : Fld) (k : Nat) : (d.inc f k).hif = d.hif := rfl
@[simp] theorem Dev.inc_ccr (d : Dev) (f : Fld) (k : Nat) : (d.inc f k).ccr = d.ccr := rfl

@[simp] theorem Dev.incSat_now (d : Dev) (f : Fld) (k : Nat) : (d.incSat f k).now = d.now := rfl
@[simp] theorem Dev.incSat_stampHold (d : Dev) (f : Fld) (k : Nat) : (d.incSat f k).stampHold = d.stampHold := rfl
@[simp] theorem Dev.incSat_t0 (d : Dev) (f : Fld) (k : Nat) : (d.incSat f k).t0 = d.t0 := rfl
@[simp] theorem Dev.incSat_t1 (d : Dev) (f : Fld) (k : Nat) : (d.incSat f k).t1 = d.t1 := rfl
@[simp] theorem Dev.incSat_log (d : Dev) (f : Fld) (k : Nat) : (d.incSat f k).log = d.log := rfl
@[simp] theorem Dev.incSat_logSeq (d : Dev) (f : Fld) (k : Nat) : (d.incSat f k).logSeq = d.logSeq := rfl
@[simp] theorem Dev.incSat_msix (d : Dev) (f : Fld) (k : Nat) : (d.incSat f k).msix = d.msix := rfl
@[simp] theorem Dev.incSat_msixPend (d : Dev) (f : Fld) (k : Nat) : (d.incSat f k).msixPend = d.msixPend := rfl
@[simp] theorem Dev.incSat_spr (d : Dev) (f : Fld) (k : Nat) : (d.incSat f k).spr = d.spr := rfl
@[simp] theorem Dev.incSat_six (d : Dev) (f : Fld) (k : Nat) : (d.incSat f k).six = d.six := rfl
@[simp] theorem Dev.incSat_evt (d : Dev) (f : Fld) (k : Nat) : (d.incSat f k).evt = d.evt := rfl
@[simp] theorem Dev.incSat_kqp (d : Dev) (f : Fld) (k : Nat) : (d.incSat f k).kqp = d.kqp := rfl
@[simp] theorem Dev.incSat_deviceId (d : Dev) (f : Fld) (k : Nat) : (d.incSat f k).deviceId = d.deviceId := rfl
@[simp] theorem Dev.incSat_free (d : Dev) (f : Fld) (k : Nat) : (d.incSat f k).free = d.free := rfl
@[simp] theorem Dev.incSat_out (d : Dev) (f : Fld) (k : Nat) : (d.incSat f k).out = d.out := rfl
@[simp] theorem Dev.incSat_tir (d : Dev) (f : Fld) (k : Nat) : (d.incSat f k).tir = d.tir := rfl
@[simp] theorem Dev.incSat_mkt (d : Dev) (f : Fld) (k : Nat) : (d.incSat f k).mkt = d.mkt := rfl
@[simp] theorem Dev.incSat_ldg (d : Dev) (f : Fld) (k : Nat) : (d.incSat f k).ldg = d.ldg := rfl
@[simp] theorem Dev.incSat_hlt (d : Dev) (f : Fld) (k : Nat) : (d.incSat f k).hlt = d.hlt := rfl
@[simp] theorem Dev.incSat_wset (d : Dev) (f : Fld) (k : Nat) : (d.incSat f k).wset = d.wset := rfl
@[simp] theorem Dev.incSat_acr (d : Dev) (f : Fld) (k : Nat) : (d.incSat f k).acr = d.acr := rfl
@[simp] theorem Dev.incSat_col (d : Dev) (f : Fld) (k : Nat) : (d.incSat f k).col = d.col := rfl
@[simp] theorem Dev.incSat_fab (d : Dev) (f : Fld) (k : Nat) : (d.incSat f k).fab = d.fab := rfl
@[simp] theorem Dev.incSat_tbn (d : Dev) (f : Fld) (k : Nat) : (d.incSat f k).tbn = d.tbn := rfl
@[simp] theorem Dev.incSat_sec (d : Dev) (f : Fld) (k : Nat) : (d.incSat f k).sec = d.sec := rfl
@[simp] theorem Dev.incSat_tim (d : Dev) (f : Fld) (k : Nat) : (d.incSat f k).tim = d.tim := rfl
@[simp] theorem Dev.incSat_pwr (d : Dev) (f : Fld) (k : Nat) : (d.incSat f k).pwr = d.pwr := rfl
@[simp] theorem Dev.incSat_hif (d : Dev) (f : Fld) (k : Nat) : (d.incSat f k).hif = d.hif := rfl
@[simp] theorem Dev.incSat_ccr (d : Dev) (f : Fld) (k : Nat) : (d.incSat f k).ccr = d.ccr := rfl

@[simp] theorem Dev.wr64_now (d : Dev) (lo hi : Fld) (v : Nat) : (d.wr64 lo hi v).now = d.now := rfl
@[simp] theorem Dev.wr64_stampHold (d : Dev) (lo hi : Fld) (v : Nat) : (d.wr64 lo hi v).stampHold = d.stampHold := rfl
@[simp] theorem Dev.wr64_t0 (d : Dev) (lo hi : Fld) (v : Nat) : (d.wr64 lo hi v).t0 = d.t0 := rfl
@[simp] theorem Dev.wr64_t1 (d : Dev) (lo hi : Fld) (v : Nat) : (d.wr64 lo hi v).t1 = d.t1 := rfl
@[simp] theorem Dev.wr64_log (d : Dev) (lo hi : Fld) (v : Nat) : (d.wr64 lo hi v).log = d.log := rfl
@[simp] theorem Dev.wr64_logSeq (d : Dev) (lo hi : Fld) (v : Nat) : (d.wr64 lo hi v).logSeq = d.logSeq := rfl
@[simp] theorem Dev.wr64_msix (d : Dev) (lo hi : Fld) (v : Nat) : (d.wr64 lo hi v).msix = d.msix := rfl
@[simp] theorem Dev.wr64_msixPend (d : Dev) (lo hi : Fld) (v : Nat) : (d.wr64 lo hi v).msixPend = d.msixPend := rfl
@[simp] theorem Dev.wr64_spr (d : Dev) (lo hi : Fld) (v : Nat) : (d.wr64 lo hi v).spr = d.spr := rfl
@[simp] theorem Dev.wr64_six (d : Dev) (lo hi : Fld) (v : Nat) : (d.wr64 lo hi v).six = d.six := rfl
@[simp] theorem Dev.wr64_evt (d : Dev) (lo hi : Fld) (v : Nat) : (d.wr64 lo hi v).evt = d.evt := rfl
@[simp] theorem Dev.wr64_kqp (d : Dev) (lo hi : Fld) (v : Nat) : (d.wr64 lo hi v).kqp = d.kqp := rfl
@[simp] theorem Dev.wr64_deviceId (d : Dev) (lo hi : Fld) (v : Nat) : (d.wr64 lo hi v).deviceId = d.deviceId := rfl
@[simp] theorem Dev.wr64_free (d : Dev) (lo hi : Fld) (v : Nat) : (d.wr64 lo hi v).free = d.free := rfl
@[simp] theorem Dev.wr64_out (d : Dev) (lo hi : Fld) (v : Nat) : (d.wr64 lo hi v).out = d.out := rfl
@[simp] theorem Dev.wr64_tir (d : Dev) (lo hi : Fld) (v : Nat) : (d.wr64 lo hi v).tir = d.tir := rfl
@[simp] theorem Dev.wr64_mkt (d : Dev) (lo hi : Fld) (v : Nat) : (d.wr64 lo hi v).mkt = d.mkt := rfl
@[simp] theorem Dev.wr64_ldg (d : Dev) (lo hi : Fld) (v : Nat) : (d.wr64 lo hi v).ldg = d.ldg := rfl
@[simp] theorem Dev.wr64_hlt (d : Dev) (lo hi : Fld) (v : Nat) : (d.wr64 lo hi v).hlt = d.hlt := rfl
@[simp] theorem Dev.wr64_wset (d : Dev) (lo hi : Fld) (v : Nat) : (d.wr64 lo hi v).wset = d.wset := rfl
@[simp] theorem Dev.wr64_acr (d : Dev) (lo hi : Fld) (v : Nat) : (d.wr64 lo hi v).acr = d.acr := rfl
@[simp] theorem Dev.wr64_col (d : Dev) (lo hi : Fld) (v : Nat) : (d.wr64 lo hi v).col = d.col := rfl
@[simp] theorem Dev.wr64_fab (d : Dev) (lo hi : Fld) (v : Nat) : (d.wr64 lo hi v).fab = d.fab := rfl
@[simp] theorem Dev.wr64_tbn (d : Dev) (lo hi : Fld) (v : Nat) : (d.wr64 lo hi v).tbn = d.tbn := rfl
@[simp] theorem Dev.wr64_sec (d : Dev) (lo hi : Fld) (v : Nat) : (d.wr64 lo hi v).sec = d.sec := rfl
@[simp] theorem Dev.wr64_tim (d : Dev) (lo hi : Fld) (v : Nat) : (d.wr64 lo hi v).tim = d.tim := rfl
@[simp] theorem Dev.wr64_pwr (d : Dev) (lo hi : Fld) (v : Nat) : (d.wr64 lo hi v).pwr = d.pwr := rfl
@[simp] theorem Dev.wr64_hif (d : Dev) (lo hi : Fld) (v : Nat) : (d.wr64 lo hi v).hif = d.hif := rfl
@[simp] theorem Dev.wr64_ccr (d : Dev) (lo hi : Fld) (v : Nat) : (d.wr64 lo hi v).ccr = d.ccr := rfl

@[simp] theorem Dev.emit_now (d : Dev) (k : OutKind) (a : Nat) (l : List Nat) (b : List Byte) : (d.emit k a l b).now = d.now := rfl
@[simp] theorem Dev.emit_regs (d : Dev) (k : OutKind) (a : Nat) (l : List Nat) (b : List Byte) : (d.emit k a l b).regs = d.regs := rfl
@[simp] theorem Dev.emit_stampHold (d : Dev) (k : OutKind) (a : Nat) (l : List Nat) (b : List Byte) : (d.emit k a l b).stampHold = d.stampHold := rfl
@[simp] theorem Dev.emit_t0 (d : Dev) (k : OutKind) (a : Nat) (l : List Nat) (b : List Byte) : (d.emit k a l b).t0 = d.t0 := rfl
@[simp] theorem Dev.emit_t1 (d : Dev) (k : OutKind) (a : Nat) (l : List Nat) (b : List Byte) : (d.emit k a l b).t1 = d.t1 := rfl
@[simp] theorem Dev.emit_log (d : Dev) (k : OutKind) (a : Nat) (l : List Nat) (b : List Byte) : (d.emit k a l b).log = d.log := rfl
@[simp] theorem Dev.emit_logSeq (d : Dev) (k : OutKind) (a : Nat) (l : List Nat) (b : List Byte) : (d.emit k a l b).logSeq = d.logSeq := rfl
@[simp] theorem Dev.emit_msix (d : Dev) (k : OutKind) (a : Nat) (l : List Nat) (b : List Byte) : (d.emit k a l b).msix = d.msix := rfl
@[simp] theorem Dev.emit_msixPend (d : Dev) (k : OutKind) (a : Nat) (l : List Nat) (b : List Byte) : (d.emit k a l b).msixPend = d.msixPend := rfl
@[simp] theorem Dev.emit_spr (d : Dev) (k : OutKind) (a : Nat) (l : List Nat) (b : List Byte) : (d.emit k a l b).spr = d.spr := rfl
@[simp] theorem Dev.emit_six (d : Dev) (k : OutKind) (a : Nat) (l : List Nat) (b : List Byte) : (d.emit k a l b).six = d.six := rfl
@[simp] theorem Dev.emit_evt (d : Dev) (k : OutKind) (a : Nat) (l : List Nat) (b : List Byte) : (d.emit k a l b).evt = d.evt := rfl
@[simp] theorem Dev.emit_kqp (d : Dev) (k : OutKind) (a : Nat) (l : List Nat) (b : List Byte) : (d.emit k a l b).kqp = d.kqp := rfl
@[simp] theorem Dev.emit_deviceId (d : Dev) (k : OutKind) (a : Nat) (l : List Nat) (b : List Byte) : (d.emit k a l b).deviceId = d.deviceId := rfl
@[simp] theorem Dev.emit_free (d : Dev) (k : OutKind) (a : Nat) (l : List Nat) (b : List Byte) : (d.emit k a l b).free = d.free := rfl
@[simp] theorem Dev.emit_tir (d : Dev) (k : OutKind) (a : Nat) (l : List Nat) (b : List Byte) : (d.emit k a l b).tir = d.tir := rfl
@[simp] theorem Dev.emit_mkt (d : Dev) (k : OutKind) (a : Nat) (l : List Nat) (b : List Byte) : (d.emit k a l b).mkt = d.mkt := rfl
@[simp] theorem Dev.emit_ldg (d : Dev) (k : OutKind) (a : Nat) (l : List Nat) (b : List Byte) : (d.emit k a l b).ldg = d.ldg := rfl
@[simp] theorem Dev.emit_hlt (d : Dev) (k : OutKind) (a : Nat) (l : List Nat) (b : List Byte) : (d.emit k a l b).hlt = d.hlt := rfl
@[simp] theorem Dev.emit_wset (d : Dev) (k : OutKind) (a : Nat) (l : List Nat) (b : List Byte) : (d.emit k a l b).wset = d.wset := rfl
@[simp] theorem Dev.emit_acr (d : Dev) (k : OutKind) (a : Nat) (l : List Nat) (b : List Byte) : (d.emit k a l b).acr = d.acr := rfl
@[simp] theorem Dev.emit_col (d : Dev) (k : OutKind) (a : Nat) (l : List Nat) (b : List Byte) : (d.emit k a l b).col = d.col := rfl
@[simp] theorem Dev.emit_fab (d : Dev) (k : OutKind) (a : Nat) (l : List Nat) (b : List Byte) : (d.emit k a l b).fab = d.fab := rfl
@[simp] theorem Dev.emit_tbn (d : Dev) (k : OutKind) (a : Nat) (l : List Nat) (b : List Byte) : (d.emit k a l b).tbn = d.tbn := rfl
@[simp] theorem Dev.emit_sec (d : Dev) (k : OutKind) (a : Nat) (l : List Nat) (b : List Byte) : (d.emit k a l b).sec = d.sec := rfl
@[simp] theorem Dev.emit_tim (d : Dev) (k : OutKind) (a : Nat) (l : List Nat) (b : List Byte) : (d.emit k a l b).tim = d.tim := rfl
@[simp] theorem Dev.emit_pwr (d : Dev) (k : OutKind) (a : Nat) (l : List Nat) (b : List Byte) : (d.emit k a l b).pwr = d.pwr := rfl
@[simp] theorem Dev.emit_hif (d : Dev) (k : OutKind) (a : Nat) (l : List Nat) (b : List Byte) : (d.emit k a l b).hif = d.hif := rfl
@[simp] theorem Dev.emit_ccr (d : Dev) (k : OutKind) (a : Nat) (l : List Nat) (b : List Byte) : (d.emit k a l b).ccr = d.ccr := rfl

@[simp] theorem Dev.setNow_reg (d : Dev) (x : Nat) (k : Nat) : (d.setNow x).reg k = d.reg k := rfl
@[simp] theorem Dev.setNow_rd (d : Dev) (x : Nat) (f : Fld) : (d.setNow x).rd f = d.rd f := rfl
@[simp] theorem Dev.setNow_flag (d : Dev) (x : Nat) (f : Fld) : (d.setNow x).flag f = d.flag f := rfl
@[simp] theorem Dev.setStampHold_reg (d : Dev) (x : List (Nat × Word)) (k : Nat) : (d.setStampHold x).reg k = d.reg k := rfl
@[simp] theorem Dev.setStampHold_rd (d : Dev) (x : List (Nat × Word)) (f : Fld) : (d.setStampHold x).rd f = d.rd f := rfl
@[simp] theorem Dev.setStampHold_flag (d : Dev) (x : List (Nat × Word)) (f : Fld) : (d.setStampHold x).flag f = d.flag f := rfl
@[simp] theorem Dev.setT0_reg (d : Dev) (x : Memory) (k : Nat) : (d.setT0 x).reg k = d.reg k := rfl
@[simp] theorem Dev.setT0_rd (d : Dev) (x : Memory) (f : Fld) : (d.setT0 x).rd f = d.rd f := rfl
@[simp] theorem Dev.setT0_flag (d : Dev) (x : Memory) (f : Fld) : (d.setT0 x).flag f = d.flag f := rfl
@[simp] theorem Dev.setT1_reg (d : Dev) (x : Memory) (k : Nat) : (d.setT1 x).reg k = d.reg k := rfl
@[simp] theorem Dev.setT1_rd (d : Dev) (x : Memory) (f : Fld) : (d.setT1 x).rd f = d.rd f := rfl
@[simp] theorem Dev.setT1_flag (d : Dev) (x : Memory) (f : Fld) : (d.setT1 x).flag f = d.flag f := rfl
@[simp] theorem Dev.setMsix_reg (d : Dev) (x : List (Nat × Word)) (k : Nat) : (d.setMsix x).reg k = d.reg k := rfl
@[simp] theorem Dev.setMsix_rd (d : Dev) (x : List (Nat × Word)) (f : Fld) : (d.setMsix x).rd f = d.rd f := rfl
@[simp] theorem Dev.setMsix_flag (d : Dev) (x : List (Nat × Word)) (f : Fld) : (d.setMsix x).flag f = d.flag f := rfl
@[simp] theorem Dev.setMsixPend_reg (d : Dev) (x : List Nat) (k : Nat) : (d.setMsixPend x).reg k = d.reg k := rfl
@[simp] theorem Dev.setMsixPend_rd (d : Dev) (x : List Nat) (f : Fld) : (d.setMsixPend x).rd f = d.rd f := rfl
@[simp] theorem Dev.setMsixPend_flag (d : Dev) (x : List Nat) (f : Fld) : (d.setMsixPend x).flag f = d.flag f := rfl
@[simp] theorem Dev.setSpr_reg (d : Dev) (x : Spares) (k : Nat) : (d.setSpr x).reg k = d.reg k := rfl
@[simp] theorem Dev.setSpr_rd (d : Dev) (x : Spares) (f : Fld) : (d.setSpr x).rd f = d.rd f := rfl
@[simp] theorem Dev.setSpr_flag (d : Dev) (x : Spares) (f : Fld) : (d.setSpr x).flag f = d.flag f := rfl
@[simp] theorem Dev.setSix_reg (d : Dev) (x : SixState) (k : Nat) : (d.setSix x).reg k = d.reg k := rfl
@[simp] theorem Dev.setSix_rd (d : Dev) (x : SixState) (f : Fld) : (d.setSix x).rd f = d.rd f := rfl
@[simp] theorem Dev.setSix_flag (d : Dev) (x : SixState) (f : Fld) : (d.setSix x).flag f = d.flag f := rfl
@[simp] theorem Dev.setEvt_reg (d : Dev) (x : EvtState) (k : Nat) : (d.setEvt x).reg k = d.reg k := rfl
@[simp] theorem Dev.setEvt_rd (d : Dev) (x : EvtState) (f : Fld) : (d.setEvt x).rd f = d.rd f := rfl
@[simp] theorem Dev.setEvt_flag (d : Dev) (x : EvtState) (f : Fld) : (d.setEvt x).flag f = d.flag f := rfl
@[simp] theorem Dev.setKqp_reg (d : Dev) (x : KqpState) (k : Nat) : (d.setKqp x).reg k = d.reg k := rfl
@[simp] theorem Dev.setKqp_rd (d : Dev) (x : KqpState) (f : Fld) : (d.setKqp x).rd f = d.rd f := rfl
@[simp] theorem Dev.setKqp_flag (d : Dev) (x : KqpState) (f : Fld) : (d.setKqp x).flag f = d.flag f := rfl
@[simp] theorem Dev.setFree_reg (d : Dev) (x : Nat) (k : Nat) : (d.setFree x).reg k = d.reg k := rfl
@[simp] theorem Dev.setFree_rd (d : Dev) (x : Nat) (f : Fld) : (d.setFree x).rd f = d.rd f := rfl
@[simp] theorem Dev.setFree_flag (d : Dev) (x : Nat) (f : Fld) : (d.setFree x).flag f = d.flag f := rfl
@[simp] theorem Dev.setOut_reg (d : Dev) (x : List Output) (k : Nat) : (d.setOut x).reg k = d.reg k := rfl
@[simp] theorem Dev.setOut_rd (d : Dev) (x : List Output) (f : Fld) : (d.setOut x).rd f = d.rd f := rfl
@[simp] theorem Dev.setOut_flag (d : Dev) (x : List Output) (f : Fld) : (d.setOut x).flag f = d.flag f := rfl
@[simp] theorem Dev.setTir_reg (d : Dev) (x : TirState) (k : Nat) : (d.setTir x).reg k = d.reg k := rfl
@[simp] theorem Dev.setTir_rd (d : Dev) (x : TirState) (f : Fld) : (d.setTir x).rd f = d.rd f := rfl
@[simp] theorem Dev.setTir_flag (d : Dev) (x : TirState) (f : Fld) : (d.setTir x).flag f = d.flag f := rfl
@[simp] theorem Dev.setMkt_reg (d : Dev) (x : MktState) (k : Nat) : (d.setMkt x).reg k = d.reg k := rfl
@[simp] theorem Dev.setMkt_rd (d : Dev) (x : MktState) (f : Fld) : (d.setMkt x).rd f = d.rd f := rfl
@[simp] theorem Dev.setMkt_flag (d : Dev) (x : MktState) (f : Fld) : (d.setMkt x).flag f = d.flag f := rfl
@[simp] theorem Dev.setLdg_reg (d : Dev) (x : LdgState) (k : Nat) : (d.setLdg x).reg k = d.reg k := rfl
@[simp] theorem Dev.setLdg_rd (d : Dev) (x : LdgState) (f : Fld) : (d.setLdg x).rd f = d.rd f := rfl
@[simp] theorem Dev.setLdg_flag (d : Dev) (x : LdgState) (f : Fld) : (d.setLdg x).flag f = d.flag f := rfl
@[simp] theorem Dev.setHlt_reg (d : Dev) (x : HltState) (k : Nat) : (d.setHlt x).reg k = d.reg k := rfl
@[simp] theorem Dev.setHlt_rd (d : Dev) (x : HltState) (f : Fld) : (d.setHlt x).rd f = d.rd f := rfl
@[simp] theorem Dev.setHlt_flag (d : Dev) (x : HltState) (f : Fld) : (d.setHlt x).flag f = d.flag f := rfl
@[simp] theorem Dev.setWset_reg (d : Dev) (x : WsetState) (k : Nat) : (d.setWset x).reg k = d.reg k := rfl
@[simp] theorem Dev.setWset_rd (d : Dev) (x : WsetState) (f : Fld) : (d.setWset x).rd f = d.rd f := rfl
@[simp] theorem Dev.setWset_flag (d : Dev) (x : WsetState) (f : Fld) : (d.setWset x).flag f = d.flag f := rfl
@[simp] theorem Dev.setAcr_reg (d : Dev) (x : AcrState) (k : Nat) : (d.setAcr x).reg k = d.reg k := rfl
@[simp] theorem Dev.setAcr_rd (d : Dev) (x : AcrState) (f : Fld) : (d.setAcr x).rd f = d.rd f := rfl
@[simp] theorem Dev.setAcr_flag (d : Dev) (x : AcrState) (f : Fld) : (d.setAcr x).flag f = d.flag f := rfl
@[simp] theorem Dev.setCol_reg (d : Dev) (x : ColState) (k : Nat) : (d.setCol x).reg k = d.reg k := rfl
@[simp] theorem Dev.setCol_rd (d : Dev) (x : ColState) (f : Fld) : (d.setCol x).rd f = d.rd f := rfl
@[simp] theorem Dev.setCol_flag (d : Dev) (x : ColState) (f : Fld) : (d.setCol x).flag f = d.flag f := rfl
@[simp] theorem Dev.setFab_reg (d : Dev) (x : FabState) (k : Nat) : (d.setFab x).reg k = d.reg k := rfl
@[simp] theorem Dev.setFab_rd (d : Dev) (x : FabState) (f : Fld) : (d.setFab x).rd f = d.rd f := rfl
@[simp] theorem Dev.setFab_flag (d : Dev) (x : FabState) (f : Fld) : (d.setFab x).flag f = d.flag f := rfl
@[simp] theorem Dev.setTbn_reg (d : Dev) (x : TbnState) (k : Nat) : (d.setTbn x).reg k = d.reg k := rfl
@[simp] theorem Dev.setTbn_rd (d : Dev) (x : TbnState) (f : Fld) : (d.setTbn x).rd f = d.rd f := rfl
@[simp] theorem Dev.setTbn_flag (d : Dev) (x : TbnState) (f : Fld) : (d.setTbn x).flag f = d.flag f := rfl
@[simp] theorem Dev.setSec_reg (d : Dev) (x : SecState) (k : Nat) : (d.setSec x).reg k = d.reg k := rfl
@[simp] theorem Dev.setSec_rd (d : Dev) (x : SecState) (f : Fld) : (d.setSec x).rd f = d.rd f := rfl
@[simp] theorem Dev.setSec_flag (d : Dev) (x : SecState) (f : Fld) : (d.setSec x).flag f = d.flag f := rfl
@[simp] theorem Dev.setTim_reg (d : Dev) (x : TimState) (k : Nat) : (d.setTim x).reg k = d.reg k := rfl
@[simp] theorem Dev.setTim_rd (d : Dev) (x : TimState) (f : Fld) : (d.setTim x).rd f = d.rd f := rfl
@[simp] theorem Dev.setTim_flag (d : Dev) (x : TimState) (f : Fld) : (d.setTim x).flag f = d.flag f := rfl
@[simp] theorem Dev.setPwr_reg (d : Dev) (x : PwrState) (k : Nat) : (d.setPwr x).reg k = d.reg k := rfl
@[simp] theorem Dev.setPwr_rd (d : Dev) (x : PwrState) (f : Fld) : (d.setPwr x).rd f = d.rd f := rfl
@[simp] theorem Dev.setPwr_flag (d : Dev) (x : PwrState) (f : Fld) : (d.setPwr x).flag f = d.flag f := rfl
@[simp] theorem Dev.setHif_reg (d : Dev) (x : HifState) (k : Nat) : (d.setHif x).reg k = d.reg k := rfl
@[simp] theorem Dev.setHif_rd (d : Dev) (x : HifState) (f : Fld) : (d.setHif x).rd f = d.rd f := rfl
@[simp] theorem Dev.setHif_flag (d : Dev) (x : HifState) (f : Fld) : (d.setHif x).flag f = d.flag f := rfl
@[simp] theorem Dev.setCcr_reg (d : Dev) (x : CcrState) (k : Nat) : (d.setCcr x).reg k = d.reg k := rfl
@[simp] theorem Dev.setCcr_rd (d : Dev) (x : CcrState) (f : Fld) : (d.setCcr x).rd f = d.rd f := rfl
@[simp] theorem Dev.setCcr_flag (d : Dev) (x : CcrState) (f : Fld) : (d.setCcr x).flag f = d.flag f := rfl

@[simp] theorem Dev.emit_reg (d : Dev) (o : OutKind) (a : Nat) (l : List Nat) (b : List Byte) (k : Nat) : (d.emit o a l b).reg k = d.reg k := rfl
@[simp] theorem Dev.emit_rd (d : Dev) (o : OutKind) (a : Nat) (l : List Nat) (b : List Byte) (f : Fld) : (d.emit o a l b).rd f = d.rd f := rfl

end Sys2Proof.Machine
end

