-- ==== Sys2Proof/Laws/Regs.lean ====
section
/-! SUPPORT. The laws of the register file: a field reads back what was written, and every other register is left alone. -/

namespace Sys2Proof.Machine

theorem bitsAt_putBitsAt (n lo w v : Nat) : bitsAt (putBitsAt n lo w v) lo w = v % 2 ^ w := by
  unfold bitsAt putBitsAt bitsAt
  simp only [Nat.shiftLeft_eq, Nat.shiftRight_eq_div_pow]
  have h1 : n / 2 ^ lo % 2 ^ w * 2 ^ lo ≤ n :=
    Nat.le_trans (Nat.mul_le_mul_right _ (Nat.mod_le _ _)) (Nat.div_mul_le_self n _)
  have hn : n - n / 2 ^ lo % 2 ^ w * 2 ^ lo = n % 2 ^ lo + 2 ^ lo * (2 ^ w * (n / 2 ^ lo / 2 ^ w)) := by
    have h2 := Nat.div_add_mod n (2 ^ lo)
    have h3 := Nat.div_add_mod (n / 2 ^ lo) (2 ^ w)
    generalize n / 2 ^ lo / 2 ^ w = q at *
    generalize n / 2 ^ lo % 2 ^ w = r at *
    rw [← h3, Nat.mul_add] at h2
    rw [Nat.mul_comm r]
    omega
  have hp : 0 < 2 ^ lo := Nat.two_pow_pos lo
  rw [hn, Nat.mul_comm (v % 2 ^ w), Nat.add_assoc, ← Nat.mul_add, Nat.add_mul_div_left _ _ hp, Nat.div_eq_of_lt (Nat.mod_lt _ hp), Nat.zero_add,
    Nat.mul_add_mod, Nat.mod_mod]

/-- The three parts of a word with a field replaced: below the field, the field, above it. -/
theorem putBitsAt_eq (n lo w v : Nat) :
    putBitsAt n lo w v = n % 2 ^ lo + 2 ^ lo * (v % 2 ^ w + 2 ^ w * (n / 2 ^ lo / 2 ^ w)) := by
  unfold putBitsAt bitsAt
  simp only [Nat.shiftLeft_eq, Nat.shiftRight_eq_div_pow]
  have h2 := Nat.div_add_mod n (2 ^ lo)
  have h3 := Nat.div_add_mod (n / 2 ^ lo) (2 ^ w)
  generalize n / 2 ^ lo / 2 ^ w = q at *
  generalize n / 2 ^ lo % 2 ^ w = r at *
  generalize n % 2 ^ lo = s at *
  rw [← h3, Nat.mul_add] at h2
  rw [Nat.mul_add, Nat.mul_comm r, Nat.mul_comm (v % 2 ^ w)]
  omega

theorem bitsAt_putBitsAt_below (n v : Nat) {lo w a b : Nat} (h : a + b ≤ lo) : bitsAt (putBitsAt n lo w v) a b = bitsAt n a b := by
  obtain ⟨j, rfl⟩ := Nat.le.dest h
  rw [putBitsAt_eq]
  unfold bitsAt
  simp only [Nat.shiftRight_eq_div_pow]
  rw [← Nat.mod_mul_right_div_self, ← Nat.mod_mul_right_div_self n, ← Nat.pow_add, Nat.pow_add 2 (a + b) j, Nat.mul_assoc, Nat.add_mul_mod_self_left,
    Nat.mod_mod_of_dvd _ (Nat.dvd_mul_right _ _)]

theorem bitsAt_putBitsAt_above (n v : Nat) {lo w a b : Nat} (h : lo + w ≤ a) : bitsAt (putBitsAt n lo w v) a b = bitsAt n a b := by
  obtain ⟨j, rfl⟩ := Nat.le.dest h
  rw [putBitsAt_eq]
  unfold bitsAt
  simp only [Nat.shiftRight_eq_div_pow]
  rw [Nat.pow_add, Nat.pow_add, ← Nat.div_div_eq_div_mul, ← Nat.div_div_eq_div_mul, Nat.add_mul_div_left _ _ (Nat.two_pow_pos lo),
    Nat.div_eq_of_lt (Nat.mod_lt _ (Nat.two_pow_pos lo)), Nat.zero_add, Nat.add_mul_div_left _ _ (Nat.two_pow_pos w),
    Nat.div_eq_of_lt (Nat.mod_lt _ (Nat.two_pow_pos w)), Nat.zero_add, ← Nat.div_div_eq_div_mul, ← Nat.div_div_eq_div_mul]

theorem putBitsAt_lt {n lo w v k : Nat} (hn : n < 2 ^ k) (h : lo + w ≤ k) : putBitsAt n lo w v < 2 ^ k := by
  unfold putBitsAt bitsAt
  simp only [Nat.shiftLeft_eq, Nat.shiftRight_eq_div_pow]
  have hp : 0 < 2 ^ lo := Nat.two_pow_pos lo
  have hq : n / 2 ^ lo % 2 ^ w = n / 2 ^ lo - 2 ^ w * (n / 2 ^ lo / 2 ^ w) := by
    have := Nat.div_add_mod (n / 2 ^ lo) (2 ^ w); omega
  have hv : v % 2 ^ w < 2 ^ w := Nat.mod_lt _ (Nat.two_pow_pos w)
  have h2 := Nat.div_add_mod n (2 ^ lo)
  have h3 := Nat.div_add_mod (n / 2 ^ lo) (2 ^ w)
  have hr := Nat.mod_lt n hp
  obtain ⟨j, rfl⟩ := Nat.le.dest h
  have hq2 : n / 2 ^ lo / 2 ^ w < 2 ^ j := by
    rw [Nat.div_div_eq_div_mul, ← Nat.pow_add, Nat.div_lt_iff_lt_mul (Nat.two_pow_pos _), ← Nat.pow_add, Nat.add_comm j]; exact hn
  generalize n / 2 ^ lo / 2 ^ w = q at *
  generalize n / 2 ^ lo % 2 ^ w = r at *
  generalize n % 2 ^ lo = s at *
  rw [← h3, Nat.mul_add] at h2
  have h4 : n - r * 2 ^ lo + v % 2 ^ w * 2 ^ lo = s + 2 ^ lo * (v % 2 ^ w + 2 ^ w * q) := by
    rw [Nat.mul_add, Nat.mul_comm r, Nat.mul_comm (v % 2 ^ w)]; omega
  rw [h4]
  have h5 : v % 2 ^ w + 2 ^ w * q + 1 ≤ 2 ^ w * 2 ^ j := by
    have : 2 ^ w * (q + 1) ≤ 2 ^ w * 2 ^ j := Nat.mul_le_mul_left _ hq2
    rw [Nat.mul_add] at this; omega
  have h6 : 2 ^ lo * (v % 2 ^ w + 2 ^ w * q + 1) ≤ 2 ^ lo * (2 ^ w * 2 ^ j) := Nat.mul_le_mul_left _ h5
  rw [Nat.pow_add, Nat.pow_add, Nat.mul_assoc]
  rw [Nat.mul_add] at h6
  omega

theorem Dev.reg_setReg (d : Dev) (k q : Nat) (v : Word) : (d.setReg k v).reg q = if q = k then v else d.reg q := by
  unfold Dev.reg Dev.setReg
  rw [Dev.setRegs_regs]
  by_cases hq : q = k
  · subst hq
    by_cases hv : v = regReset q
    · simp [hv]
    · simp [hv]
  · by_cases hv : v = regReset k
    · simp [hv, hq, mapLook_mapDel_ne]
    · simp [hv, hq, mapLook_mapPut_ne]

@[simp] theorem Dev.reg_setReg_self (d : Dev) (k : Nat) (v : Word) : (d.setReg k v).reg k = v := by rw [Dev.reg_setReg, if_pos rfl]

theorem Dev.reg_wr_ne (d : Dev) (f : Fld) (v q : Nat) (h : q ≠ f.addr) : (d.wr f v).reg q = d.reg q := by
  unfold Dev.wr; rw [Dev.reg_setReg, if_neg h]

theorem Dev.rd_wr_ne (d : Dev) (f g : Fld) (v : Nat) (h : g.addr ≠ f.addr) : (d.wr f v).rd g = d.rd g := by
  unfold Dev.rd; rw [Dev.reg_wr_ne d f v _ h]

theorem Dev.rd_wr_self (d : Dev) (f : Fld) (v : Nat) (h : f.lo + f.w ≤ 32) : (d.wr f v).rd f = v % 2 ^ f.w := by
  unfold Dev.rd Dev.wr
  rw [Dev.reg_setReg_self]
  unfold setField
  rw [BitVec.toNat_ofNat, Nat.mod_eq_of_lt (putBitsAt_lt (BitVec.isLt _) h), bitsAt_putBitsAt]

/-- Another field of the same register keeps its value. -/
theorem Dev.rd_wr_apart (d : Dev) (f g : Fld) (v : Nat) (h : f.lo + f.w ≤ 32) (hg : g.lo + g.w ≤ f.lo ∨ f.lo + f.w ≤ g.lo) :
    (d.wr f v).rd g = d.rd g := by
  by_cases ha : g.addr = f.addr
  · unfold Dev.rd Dev.wr
    rw [ha, Dev.reg_setReg_self]
    unfold setField
    rw [BitVec.toNat_ofNat, Nat.mod_eq_of_lt (putBitsAt_lt (BitVec.isLt _) h)]
    rcases hg with hg | hg
    · exact bitsAt_putBitsAt_below _ _ hg
    · exact bitsAt_putBitsAt_above _ _ hg
  · exact Dev.rd_wr_ne d f g v ha

theorem Dev.flag_setFlag_self (d : Dev) (f : Fld) (b : Bool) (h : f.lo + f.w ≤ 32) (hw : 0 < f.w) : (d.setFlag f b).flag f = b := by
  unfold Dev.flag Dev.setFlag
  rw [Dev.rd_wr_self _ _ _ h]
  have h2 : 2 ≤ 2 ^ f.w := Nat.le_trans (by decide) (Nat.pow_le_pow_right (by decide) hw)
  cases b
  · simp [boolNat]
  · simp [boolNat, Nat.mod_eq_of_lt (Nat.lt_of_lt_of_le Nat.one_lt_two h2)]

theorem Dev.flag_setFlag_ne (d : Dev) (f g : Fld) (b : Bool) (h : g.addr ≠ f.addr) : (d.setFlag f b).flag g = d.flag g := by
  unfold Dev.flag Dev.setFlag; rw [Dev.rd_wr_ne _ _ _ _ h]

/-- The stored table lists no register at its reset value, in rising order. -/
def Dev.regsWf (d : Dev) : Prop := mapSorted d.regs = true ∧ ∀ e ∈ d.regs, e.2 ≠ regReset e.1

theorem Dev.regsWf_setReg {d : Dev} (h : d.regsWf) (k : Nat) (v : Word) : (d.setReg k v).regsWf := by
  unfold Dev.regsWf Dev.setReg
  rw [Dev.setRegs_regs]
  split
  · exact ⟨mapSorted_filter h.1 _, fun e he => h.2 e (List.mem_filter.mp he).1⟩
  · rename_i hv
    refine ⟨mapSorted_mapPut h.1 k v, fun e he => ?_⟩
    rcases mem_mapPut he with rfl | he
    · exact hv
    · exact h.2 e he

end Sys2Proof.Machine
end

