-- ==== Sys2Proof/Laws/Flags.lean ====
section
/-! SUPPORT. What a set of an event bit and a rejected access leave, said once (02_register_pages.md R35, R43). -/

namespace Sys2Proof.Machine

@[simp] theorem Dev.logEvent_reg (d : Dev) (p : Page) (b st : Nat) (c : Cause) (k : Nat) : (d.logEvent p b st c).reg k = d.reg k := rfl

@[simp] theorem Dev.noteEdge_reg (d : Dev) (p : Page) (b : Bool) (k : Nat) : (d.noteEdge p b).reg k = d.reg k := by
  unfold Dev.noteEdge
  split
  · rfl
  · split <;> rfl

theorem Dev.foldl_logEvent_reg (l : List Nat) (d : Dev) (p : Page) (st : Nat) (c : Cause) (k : Nat) :
    (l.foldl (fun d b => d.logEvent p b st c) d).reg k = d.reg k := by
  induction l generalizing d with
  | nil => rfl
  | cons b l ih => rw [List.foldl_cons, ih]; rfl

@[simp] theorem Dev.noteEdge_log (d : Dev) (p : Page) (b : Bool) : (d.noteEdge p b).log = d.log := by
  unfold Dev.noteEdge
  split
  · rfl
  · split <;> rfl

theorem Dev.rd_of_reg {d e : Dev} {f : Fld} (h : e.reg f.addr = d.reg f.addr) : e.rd f = d.rd f := by unfold Dev.rd; rw [h]

theorem Dev.rd_inc (d : Dev) (f : Fld) (k : Nat) (h : f.lo + f.w ≤ 32) : (d.inc f k).rd f = (d.rd f + k) % 2 ^ f.w := Dev.rd_wr_self _ _ _ h

theorem Dev.reg_inc_ne (d : Dev) (f : Fld) (k q : Nat) (h : q ≠ f.addr) : (d.inc f k).reg q = d.reg q := Dev.reg_wr_ne _ _ _ _ h

theorem Dev.rd_incSat (d : Dev) (f : Fld) (k : Nat) (h : f.lo + f.w ≤ 32) : (d.incSat f k).rd f = min (d.rd f + k) (2 ^ f.w - 1) := by
  unfold Dev.incSat
  rw [Dev.rd_wr_self _ _ _ h]
  have h1 : 0 < 2 ^ f.w := Nat.two_pow_pos _
  have h2 : satAdd f.w (d.rd f) k = min (d.rd f + k) (2 ^ f.w - 1) := rfl
  rw [h2]
  exact Nat.mod_eq_of_lt (by omega)

/-- A whole set of bits of an event page: the registers. -/
structure Dev.eventSet (d e : Dev) (p : Page) (mask : Word) (status : Nat) : Prop where
  event : e.reg (hEvent p).addr = d.reg (hEvent p).addr ||| mask
  status : e.rd (hLastStatus p) = status % 2 ^ 16
  seq : e.rd (hSeq p) = (d.rd (hSeq p) + 1) % 2 ^ 32
  stamp : e.pageStamp p = d.now % 2 ^ 64
  others : d.keeps e p.eventRegs

theorem Dev.raiseBits_spec (d : Dev) (p : Page) (bits : List Nat) (status : Nat) (c : Cause) (hp : (pageCaps p).event = true) (hb : bits ≠ []) :
    Dev.eventSet d (d.raiseBits p bits status c) p (bits.foldl (fun (m : Word) b => m ||| (1#32 <<< b)) 0) status := by
  unfold Dev.raiseBits
  rw [if_neg (by simp [hp, hb])]
  dsimp only
  generalize bits.foldl (fun (m : Word) b => m ||| (1#32 <<< b)) 0 = mask
  have h1 : (hEvent p).addr = p.key + 0x14 := rfl
  have h2 : (hLastStatus p).addr = p.key + 0x10 := rfl
  have h3 : (hSeq p).addr = p.key + 0x1C := rfl
  have h4 : (hStampLo p).addr = p.key + 0x20 := rfl
  have h5 : (hStampHi p).addr = p.key + 0x24 := rfl
  have w2 : (hLastStatus p).lo = 0 ∧ (hLastStatus p).w = 16 := ⟨rfl, rfl⟩
  have w3 : (hSeq p).lo = 0 ∧ (hSeq p).w = 32 := ⟨rfl, rfl⟩
  have w4 : (hStampLo p).lo = 0 ∧ (hStampLo p).w = 32 := ⟨rfl, rfl⟩
  have w5 : (hStampHi p).lo = 0 ∧ (hStampHi p).w = 32 := ⟨rfl, rfl⟩
  have hnow : (((d.setReg (hEvent p).addr (d.reg (hEvent p).addr ||| mask)).wr (hLastStatus p) status).inc (hSeq p) 1).now = d.now := by
    rw [Dev.inc_now, Dev.wr_now, Dev.setReg_now]
  have hreg : ∀ k, ((bits.foldl (fun d b => d.logEvent p b status c)
      ((((d.setReg (hEvent p).addr (d.reg (hEvent p).addr ||| mask)).wr (hLastStatus p) status).inc (hSeq p) 1).wr64 (hStampLo p) (hStampHi p)
        (((d.setReg (hEvent p).addr (d.reg (hEvent p).addr ||| mask)).wr (hLastStatus p) status).inc (hSeq p) 1).now)).noteEdge p (d.line p)).reg k =
      ((((d.setReg (hEvent p).addr (d.reg (hEvent p).addr ||| mask)).wr (hLastStatus p) status).inc (hSeq p) 1).wr64 (hStampLo p) (hStampHi p) d.now).reg k :=
    fun k => by rw [Dev.noteEdge_reg, Dev.foldl_logEvent_reg, hnow]
  refine ⟨?_, ?_, ?_, ?_, ?_⟩
  · rw [hreg]; unfold Dev.wr64
    rw [Dev.reg_wr_ne _ _ _ _ (by omega), Dev.reg_wr_ne _ _ _ _ (by omega), Dev.reg_inc_ne _ _ _ _ (by omega), Dev.reg_wr_ne _ _ _ _ (by omega),
      Dev.reg_setReg_self]
  · rw [Dev.rd_of_reg (hreg _)]; unfold Dev.wr64
    rw [Dev.rd_wr_ne _ _ _ _ (by omega), Dev.rd_wr_ne _ _ _ _ (by omega)]
    unfold Dev.inc
    rw [Dev.rd_wr_ne _ _ _ _ (by omega), Dev.rd_wr_self _ _ _ (by rw [w2.1, w2.2] <;> decide), w2.2]
  · rw [Dev.rd_of_reg (hreg _)]; unfold Dev.wr64
    rw [Dev.rd_wr_ne _ _ _ _ (by omega), Dev.rd_wr_ne _ _ _ _ (by omega), Dev.rd_inc _ _ _ (by rw [w3.1, w3.2] <;> decide), Dev.rd_wr_ne _ _ _ _ (by omega)]
    rw [Dev.rd_of_reg (d := d) (by rw [Dev.reg_setReg, if_neg (by omega)]), w3.2]
  · unfold Dev.pageStamp Dev.rd64
    rw [Dev.rd_of_reg (hreg _), Dev.rd_of_reg (hreg _)]; unfold Dev.wr64
    rw [Dev.rd_wr_ne _ _ (hStampLo p) _ (by omega), Dev.rd_wr_self _ _ _ (by rw [w4.1, w4.2] <;> decide),
      Dev.rd_wr_self _ _ _ (by rw [w5.1, w5.2] <;> decide), w4.2, w5.2]
    omega
  · intro k hk
    simp only [Page.eventRegs, List.mem_cons, List.not_mem_nil, or_false, not_or] at hk
    rw [hreg]; unfold Dev.wr64
    rw [Dev.reg_wr_ne _ _ _ _ (by omega), Dev.reg_wr_ne _ _ _ _ (by omega), Dev.reg_inc_ne _ _ _ _ (by omega), Dev.reg_wr_ne _ _ _ _ (by omega),
      Dev.reg_setReg, if_neg (by omega)]

theorem Dev.raise_spec (d : Dev) (p : Page) (bit status : Nat) (c : Cause) (hp : (pageCaps p).event = true) :
    Dev.eventSet d (d.raise p bit status c) p (1#32 <<< bit) status := by
  have h := Dev.raiseBits_spec d p [bit] status c hp (by simp)
  rw [List.foldl_cons, List.foldl_nil, show (0 : Word) ||| (1#32 <<< bit) = 1#32 <<< bit from BitVec.zero_or] at h
  exact h

theorem Dev.raise_none (d : Dev) (p : Page) (bit status : Nat) (c : Cause) (hp : (pageCaps p).event = false) : d.raise p bit status c = d := by
  unfold Dev.raise Dev.raiseBits; rw [if_pos (by simp [hp])]

/-- A raised bit stands, and no other is lost. -/
theorem Dev.eventBit_of_eventSet {d e : Dev} {p : Page} {bit status : Nat} (h : Dev.eventSet d e p (1#32 <<< bit) status) (hb : bit < 32) :
    e.eventBit p bit = true := by
  unfold Dev.eventBit; rw [h.event]; simp [hb]

theorem Dev.recorded_badAccess (d : Dev) (f off k : Nat) : d.recorded (d.badAccess f off k) f off k := by
  unfold Dev.badAccess
  dsimp only
  have hs := Dev.raise_spec ((((d.incSat F.glbBadAccessCnt_count 1).wr F.glbBadAccessAddr_offset off).wr F.glbBadAccessAddr_kind k).wr
    F.glbBadAccessAddr_func f) (pfPage .glb 0 0) 0 St.ok {} rfl
  have hk : ∀ q, q ∉ (pfPage .glb 0 0).eventRegs → _ := hs.others
  have e1 : F.glbBadAccessCnt_count.addr = 0x80 := rfl
  have e2 : F.glbBadAccessAddr_offset.addr = 0x84 := rfl
  have e3 : F.glbBadAccessAddr_kind.addr = 0x84 := rfl
  have e4 : F.glbBadAccessAddr_func.addr = 0x84 := rfl
  have ev : (pfPage .glb 0 0).eventRegs = [0x14, 0x10, 0x1C, 0x20, 0x24] := rfl
  refine ⟨?_, ?_, ?_, ?_, Dev.eventBit_of_eventSet hs (by decide), ?_⟩
  · rw [Dev.rd_of_reg (hk _ (by rw [e1, ev] <;> decide)), Dev.rd_wr_ne _ _ _ _ (by rw [e1, e4] <;> decide), Dev.rd_wr_ne _ _ _ _ (by rw [e1, e3] <;> decide),
      Dev.rd_wr_ne _ _ _ _ (by rw [e1, e2] <;> decide), Dev.rd_incSat _ _ _ (by decide)]
    rfl
  · rw [Dev.rd_of_reg (hk _ (by rw [e2, ev] <;> decide)), Dev.rd_wr_apart _ _ _ _ (by decide) (by decide), Dev.rd_wr_apart _ _ _ _ (by decide) (by decide),
      Dev.rd_wr_self _ _ _ (by decide)]
    rfl
  · rw [Dev.rd_of_reg (hk _ (by rw [e3, ev] <;> decide)), Dev.rd_wr_apart _ _ _ _ (by decide) (by decide), Dev.rd_wr_self _ _ _ (by decide)]
    rfl
  · rw [Dev.rd_of_reg (hk _ (by rw [e4, ev] <;> decide)), Dev.rd_wr_self _ _ _ (by decide)]
    rfl
  · intro q hq
    rw [e1, e2, List.mem_cons, List.mem_cons] at hq
    rw [hk q (fun h => hq (.inr (.inr h))), Dev.reg_wr_ne _ _ _ _ (by rw [e4]; omega), Dev.reg_wr_ne _ _ _ _ (by rw [e3]; omega),
      Dev.reg_wr_ne _ _ _ _ (by rw [e2]; omega)]
    unfold Dev.incSat
    rw [Dev.reg_wr_ne _ _ _ _ (by rw [e1]; omega)]

end Sys2Proof.Machine
end

