-- ==== Sys2Proof/Laws/Frame.lean ====
section
/-! SUPPORT. Frames compose: how `changesOnly` is shown of a meaning from the operations it is made of. -/

namespace Sys2Proof.Machine

/-- `a` lists the tables of `b`, in the same order, and perhaps more. -/
def tablesIn : List Table → List Table → Bool
  | [], _ => true
  | _ :: _, [] => false
  | t :: b, u :: a => if t = u then tablesIn b a else tablesIn (t :: b) a

theorem mem_of_tablesIn {b a : List Table} (h : tablesIn b a = true) {t : Table} (ht : t ∈ b) : t ∈ a := by
  induction a generalizing b with
  | nil => cases b with
    | nil => cases ht
    | cons => simp [tablesIn] at h
  | cons u a ih =>
    cases b with
    | nil => cases ht
    | cons v b =>
      simp only [tablesIn] at h
      split at h
      · subst_vars
        rcases List.mem_cons.mp ht with rfl | hb
        · exact List.mem_cons_self
        · exact List.mem_cons_of_mem _ (ih h hb)
      · exact List.mem_cons_of_mem _ (ih h ht)

theorem tablesIn_tail {w : Table} {c b : List Table} (h : tablesIn (w :: c) b = true) : tablesIn c b = true := by
  induction b generalizing w c with
  | nil => simp [tablesIn] at h
  | cons v b ih =>
    cases c with
    | nil => rfl
    | cons x c =>
      simp only [tablesIn] at h ⊢
      split at h
      · split
        · exact ih h
        · exact h
      · split
        · exact ih (ih h)
        · exact ih h

theorem tablesIn_trans {c b a : List Table} (h : tablesIn c b = true) (g : tablesIn b a = true) : tablesIn c a = true := by
  induction a generalizing b c with
  | nil =>
    cases b with
    | nil => exact h
    | cons => simp [tablesIn] at g
  | cons u a ih =>
    cases c with
    | nil => rfl
    | cons w c =>
      cases b with
      | nil => simp [tablesIn] at h
      | cons v b =>
        simp only [tablesIn] at g h ⊢
        split at g
        · subst_vars
          split at h
          · rw [if_pos (by assumption)]
            exact ih h g
          · rw [if_neg (by assumption)]
            exact ih h g
        · have hw : tablesIn (w :: c) (v :: b) = true := by simpa only [tablesIn] using h
          have := ih hw g
          split
          · subst_vars
            exact ih (c := c) (b := v :: b) (tablesIn_tail hw) g
          · exact this

theorem Dev.same_trans {d e f : Dev} {t : Table} (h : d.same e t) (g : e.same f t) : d.same f t := by
  cases t <;> exact Eq.trans g h

theorem chg_refl (a : List Table) (d : Dev) : Dev.changesOnly a d d := ⟨fun t _ => by cases t <;> rfl⟩

/-- A further change stays within the frame when its own tables do. -/
theorem chg_step {a b : List Table} {d x y : Dev} (h : Dev.changesOnly b x y) (hb : tablesIn b a = true)
    (hx : Dev.changesOnly a d x) : Dev.changesOnly a d y :=
  ⟨fun t ht => Dev.same_trans (hx.rest t ht) (h.rest t (fun hm => ht (mem_of_tablesIn hb hm)))⟩

theorem chg_ite {a : List Table} {c : Prop} [Decidable c] {d x y : Dev} (hx : Dev.changesOnly a d x)
    (hy : Dev.changesOnly a d y) : Dev.changesOnly a d (if c then x else y) := by
  split <;> assumption

theorem chg_when {a : List Table} {d x : Dev} {b : Bool} {f : Dev → Dev} (hf : Dev.changesOnly a d x → Dev.changesOnly a d (f x))
    (hx : Dev.changesOnly a d x) : Dev.changesOnly a d (x.when b f) := by
  unfold Dev.when
  split
  · exact hf hx
  · exact hx

theorem chg_foldl {a : List Table} {d : Dev} {α : Type} {f : Dev → α → Dev}
    (hf : ∀ x b, Dev.changesOnly a d x → Dev.changesOnly a d (f x b)) (l : List α) {x : Dev}
    (hx : Dev.changesOnly a d x) : Dev.changesOnly a d (l.foldl f x) := by
  induction l generalizing x with
  | nil => exact hx
  | cons b l ih => exact ih (hf x b hx)

/-- A fold that carries the device beside another value. -/
theorem chg_foldl_snd {a : List Table} {d : Dev} {α β : Type} {f : β × Dev → α → β × Dev}
    (hf : ∀ x b, Dev.changesOnly a d x.2 → Dev.changesOnly a d (f x b).2) (l : List α) {x : β × Dev}
    (hx : Dev.changesOnly a d x.2) : Dev.changesOnly a d (l.foldl f x).2 := by
  induction l generalizing x with
  | nil => exact hx
  | cons b l ih => exact ih (hf x b hx)

theorem chg_ite_snd {a : List Table} {β : Type} {c : Prop} [Decidable c] {d : Dev} {x y : β × Dev} (hx : Dev.changesOnly a d x.2)
    (hy : Dev.changesOnly a d y.2) : Dev.changesOnly a d (if c then x else y).2 := by
  split <;> assumption

theorem chg_getD {a : List Table} {d0 d : Dev} {o : Option Dev} (ho : ∀ e, o = some e → Dev.changesOnly a d0 e) (hd : Dev.changesOnly a d0 d) :
    Dev.changesOnly a d0 (o.getD d) := by
  cases o with
  | none => exact hd
  | some e => exact ho e rfl

theorem chg_foldl_option {a : List Table} {d e : Dev} {α : Type} {f : Option Dev → α → Option Dev}
    (hf : ∀ x b y, Dev.changesOnly a d x → f (some x) b = some y → Dev.changesOnly a d y) (l : List α) {x : Dev} (hx : Dev.changesOnly a d x) (h : l.foldl f (some x) = some e)
    (hn : ∀ b, f none b = none := by intro b; rfl) : Dev.changesOnly a d e := by
  induction l generalizing x with
  | nil => injection h with h; subst h; exact hx
  | cons b l ih =>
    rw [List.foldl_cons] at h
    cases hb : f (some x) b with
    | some y => rw [hb] at h; exact ih (hf x b y hx hb) h
    | none =>
      rw [hb] at h
      have : ∀ m : List α, m.foldl f none = none := fun m => by
        induction m with
        | nil => rfl
        | cons c m ihm => rw [List.foldl_cons, hn]; exact ihm
      rw [this] at h
      contradiction

theorem chg_foldl_option_snd {a : List Table} {d e : Dev} {α β : Type} {f : Option (β × Dev) → α → Option (β × Dev)}
    (hf : ∀ i x b j y, Dev.changesOnly a d x → f (some (i, x)) b = some (j, y) → Dev.changesOnly a d y) (hn : ∀ b, f none b = none)
    (l : List α) {i j : β} {x : Dev} (hx : Dev.changesOnly a d x) (h : l.foldl f (some (i, x)) = some (j, e)) : Dev.changesOnly a d e := by
  induction l generalizing i x with
  | nil => simp only [List.foldl_nil, Option.some.injEq, Prod.mk.injEq] at h; obtain ⟨_, rfl⟩ := h; exact hx
  | cons b l ih =>
    rw [List.foldl_cons] at h
    cases hb : f (some (i, x)) b with
    | some y => rw [hb] at h; exact ih (hf i x b y.1 y.2 hx hb) h
    | none =>
      rw [hb] at h
      have : ∀ m : List α, m.foldl f none = none := fun m => by
        induction m with
        | nil => rfl
        | cons c m ihm => rw [List.foldl_cons, hn]; exact ihm
      rw [this] at h
      contradiction

end Sys2Proof.Machine
end

