-- ==== Sys2Proof/Laws/FrameOps1.lean ====
section
/-! SUPPORT. Frames of the shared operations, part 1 of 6, callees before callers: `<op>_chg` names every table the operation may change, and
`<op>_keep` carries a frame through it (`_keep_eq` where it answers a value beside the device); a caller cites them and does not unfold. -/

namespace Sys2Proof.Machine

theorem chg_acr : ∀ (d : Dev) v0, Dev.changesOnly [.acr] d { d with acr := v0 } := by
  intro d v0; constructor; intro t ht
  cases t <;> first | rfl | exact absurd (by decide) ht

theorem chg_ccr : ∀ (d : Dev) v0, Dev.changesOnly [.ccr] d { d with ccr := v0 } := by
  intro d v0; constructor; intro t ht
  cases t <;> first | rfl | exact absurd (by decide) ht

theorem chg_col : ∀ (d : Dev) v0, Dev.changesOnly [.col] d { d with col := v0 } := by
  intro d v0; constructor; intro t ht
  cases t <;> first | rfl | exact absurd (by decide) ht

theorem chg_evt : ∀ (d : Dev) v0, Dev.changesOnly [.evt] d { d with evt := v0 } := by
  intro d v0; constructor; intro t ht
  cases t <;> first | rfl | exact absurd (by decide) ht

theorem chg_fab : ∀ (d : Dev) v0, Dev.changesOnly [.fab] d { d with fab := v0 } := by
  intro d v0; constructor; intro t ht
  cases t <;> first | rfl | exact absurd (by decide) ht

theorem chg_free : ∀ (d : Dev) v0, Dev.changesOnly [.free] d { d with free := v0 } := by
  intro d v0; constructor; intro t ht
  cases t <;> first | rfl | exact absurd (by decide) ht

theorem chg_hif : ∀ (d : Dev) v0, Dev.changesOnly [.hif] d { d with hif := v0 } := by
  intro d v0; constructor; intro t ht
  cases t <;> first | rfl | exact absurd (by decide) ht

theorem chg_hlt : ∀ (d : Dev) v0, Dev.changesOnly [.hlt] d { d with hlt := v0 } := by
  intro d v0; constructor; intro t ht
  cases t <;> first | rfl | exact absurd (by decide) ht

theorem chg_kqp : ∀ (d : Dev) v0, Dev.changesOnly [.kqp] d { d with kqp := v0 } := by
  intro d v0; constructor; intro t ht
  cases t <;> first | rfl | exact absurd (by decide) ht

theorem chg_ldg : ∀ (d : Dev) v0, Dev.changesOnly [.ldg] d { d with ldg := v0 } := by
  intro d v0; constructor; intro t ht
  cases t <;> first | rfl | exact absurd (by decide) ht

theorem chg_log_logSeq : ∀ (d : Dev) v0 v1, Dev.changesOnly [.log, .logSeq] d { d with log := v0, logSeq := v1 } := by
  intro d v0 v1; constructor; intro t ht
  cases t <;> first | rfl | exact absurd (by decide) ht

theorem chg_mkt : ∀ (d : Dev) v0, Dev.changesOnly [.mkt] d { d with mkt := v0 } := by
  intro d v0; constructor; intro t ht
  cases t <;> first | rfl | exact absurd (by decide) ht

theorem chg_msix : ∀ (d : Dev) v0, Dev.changesOnly [.msix] d { d with msix := v0 } := by
  intro d v0; constructor; intro t ht
  cases t <;> first | rfl | exact absurd (by decide) ht

theorem chg_msixPend : ∀ (d : Dev) v0, Dev.changesOnly [.msixPend] d { d with msixPend := v0 } := by
  intro d v0; constructor; intro t ht
  cases t <;> first | rfl | exact absurd (by decide) ht

theorem chg_now : ∀ (d : Dev) v0, Dev.changesOnly [.now] d { d with now := v0 } := by
  intro d v0; constructor; intro t ht
  cases t <;> first | rfl | exact absurd (by decide) ht

theorem chg_out : ∀ (d : Dev) v0, Dev.changesOnly [.out] d { d with out := v0 } := by
  intro d v0; constructor; intro t ht
  cases t <;> first | rfl | exact absurd (by decide) ht

theorem chg_pwr : ∀ (d : Dev) v0, Dev.changesOnly [.pwr] d { d with pwr := v0 } := by
  intro d v0; constructor; intro t ht
  cases t <;> first | rfl | exact absurd (by decide) ht

theorem chg_regs : ∀ (d : Dev) v0, Dev.changesOnly [.regs] d { d with regs := v0 } := by
  intro d v0; constructor; intro t ht
  cases t <;> first | rfl | exact absurd (by decide) ht

theorem chg_sec : ∀ (d : Dev) v0, Dev.changesOnly [.sec] d { d with sec := v0 } := by
  intro d v0; constructor; intro t ht
  cases t <;> first | rfl | exact absurd (by decide) ht

theorem chg_six : ∀ (d : Dev) v0, Dev.changesOnly [.six] d { d with six := v0 } := by
  intro d v0; constructor; intro t ht
  cases t <;> first | rfl | exact absurd (by decide) ht

theorem chg_spr : ∀ (d : Dev) v0, Dev.changesOnly [.spr] d { d with spr := v0 } := by
  intro d v0; constructor; intro t ht
  cases t <;> first | rfl | exact absurd (by decide) ht

theorem chg_stampHold : ∀ (d : Dev) v0, Dev.changesOnly [.stampHold] d { d with stampHold := v0 } := by
  intro d v0; constructor; intro t ht
  cases t <;> first | rfl | exact absurd (by decide) ht

theorem chg_t0 : ∀ (d : Dev) v0, Dev.changesOnly [.t0] d { d with t0 := v0 } := by
  intro d v0; constructor; intro t ht
  cases t <;> first | rfl | exact absurd (by decide) ht

theorem chg_t1 : ∀ (d : Dev) v0, Dev.changesOnly [.t1] d { d with t1 := v0 } := by
  intro d v0; constructor; intro t ht
  cases t <;> first | rfl | exact absurd (by decide) ht

theorem chg_tbn : ∀ (d : Dev) v0, Dev.changesOnly [.tbn] d { d with tbn := v0 } := by
  intro d v0; constructor; intro t ht
  cases t <;> first | rfl | exact absurd (by decide) ht

theorem chg_tim : ∀ (d : Dev) v0, Dev.changesOnly [.tim] d { d with tim := v0 } := by
  intro d v0; constructor; intro t ht
  cases t <;> first | rfl | exact absurd (by decide) ht

theorem chg_tir : ∀ (d : Dev) v0, Dev.changesOnly [.tir] d { d with tir := v0 } := by
  intro d v0; constructor; intro t ht
  cases t <;> first | rfl | exact absurd (by decide) ht

theorem chg_wset : ∀ (d : Dev) v0, Dev.changesOnly [.wset] d { d with wset := v0 } := by
  intro d v0; constructor; intro t ht
  cases t <;> first | rfl | exact absurd (by decide) ht

theorem Dev.setRegs_chg : ∀ d a1, Dev.changesOnly [.regs] d (Dev.setRegs d a1) := by
  intro d a1
  unfold Dev.setRegs
  repeat' first
    | (with_reducible assumption)
    | (with_reducible exact chg_refl _ _)
    | (with_reducible apply chg_ite)
    | (with_reducible apply chg_foldl)
    | (with_reducible apply chg_foldl_snd)
    | (with_reducible apply chg_ite_snd)
    | intro _ _ _
    | intro _
    | split
    | (dsimp -proj only)
    | (refine chg_step (chg_regs _ _) rfl ?_)

theorem Dev.setRegs_keep {t d0 d a1} (hs : tablesIn [.regs] t = true) (hx : Dev.changesOnly t d0 d) : Dev.changesOnly t d0 (Dev.setRegs d a1) :=
  chg_step (Dev.setRegs_chg _ _) hs hx

theorem Dev.setReg_chg : ∀ d a1 a2, Dev.changesOnly [.regs] d (Dev.setReg d a1 a2) := by
  intro d a1 a2
  unfold Dev.setReg
  repeat' first
    | (with_reducible assumption)
    | (with_reducible exact chg_refl _ _)
    | ((with_reducible apply Dev.setRegs_keep); exact rfl)
    | (with_reducible apply chg_ite)
    | (with_reducible apply chg_foldl)
    | (with_reducible apply chg_foldl_snd)
    | (with_reducible apply chg_ite_snd)
    | intro _ _ _
    | intro _
    | split
    | (dsimp -proj only)

theorem Dev.setReg_keep {t d0 d a1 a2} (hs : tablesIn [.regs] t = true) (hx : Dev.changesOnly t d0 d) : Dev.changesOnly t d0 (Dev.setReg d a1 a2) :=
  chg_step (Dev.setReg_chg _ _ _) hs hx

theorem Dev.wr_chg : ∀ d a1 a2, Dev.changesOnly [.regs] d (Dev.wr d a1 a2) := by
  intro d a1 a2
  unfold Dev.wr
  repeat' first
    | (with_reducible assumption)
    | (with_reducible exact chg_refl _ _)
    | ((with_reducible apply Dev.setReg_keep); exact rfl)
    | (with_reducible apply chg_ite)
    | (with_reducible apply chg_foldl)
    | (with_reducible apply chg_foldl_snd)
    | (with_reducible apply chg_ite_snd)
    | intro _ _ _
    | intro _
    | split
    | (dsimp -proj only)

theorem Dev.wr_keep {t d0 d a1 a2} (hs : tablesIn [.regs] t = true) (hx : Dev.changesOnly t d0 d) : Dev.changesOnly t d0 (Dev.wr d a1 a2) :=
  chg_step (Dev.wr_chg _ _ _) hs hx

theorem Dev.inc_chg : ∀ d a1 a2, Dev.changesOnly [.regs] d (Dev.inc d a1 a2) := by
  intro d a1 a2
  unfold Dev.inc
  repeat' first
    | (with_reducible assumption)
    | (with_reducible exact chg_refl _ _)
    | ((with_reducible apply Dev.wr_keep); exact rfl)
    | (with_reducible apply chg_ite)
    | (with_reducible apply chg_foldl)
    | (with_reducible apply chg_foldl_snd)
    | (with_reducible apply chg_ite_snd)
    | intro _ _ _
    | intro _
    | split
    | (dsimp -proj only)

theorem Dev.inc_keep {t d0 d a1 a2} (hs : tablesIn [.regs] t = true) (hx : Dev.changesOnly t d0 d) : Dev.changesOnly t d0 (Dev.inc d a1 a2) :=
  chg_step (Dev.inc_chg _ _ _) hs hx

theorem Dev.logEvent_chg : ∀ d a1 a2 a3 a4, Dev.changesOnly [.log, .logSeq] d (Dev.logEvent d a1 a2 a3 a4) := by
  intro d a1 a2 a3 a4
  unfold Dev.logEvent
  repeat' first
    | (with_reducible assumption)
    | (with_reducible exact chg_refl _ _)
    | (with_reducible apply chg_ite)
    | (with_reducible apply chg_foldl)
    | (with_reducible apply chg_foldl_snd)
    | (with_reducible apply chg_ite_snd)
    | intro _ _ _
    | intro _
    | split
    | (dsimp -proj only)
    | (refine chg_step (chg_log_logSeq _ _ _) rfl ?_)

theorem Dev.logEvent_keep {t d0 d a1 a2 a3 a4} (hs : tablesIn [.log, .logSeq] t = true) (hx : Dev.changesOnly t d0 d) : Dev.changesOnly t d0 (Dev.logEvent d a1 a2 a3 a4) :=
  chg_step (Dev.logEvent_chg _ _ _ _ _) hs hx

theorem Dev.setEvt_chg : ∀ d a1, Dev.changesOnly [.evt] d (Dev.setEvt d a1) := by
  intro d a1
  unfold Dev.setEvt
  repeat' first
    | (with_reducible assumption)
    | (with_reducible exact chg_refl _ _)
    | (with_reducible apply chg_ite)
    | (with_reducible apply chg_foldl)
    | (with_reducible apply chg_foldl_snd)
    | (with_reducible apply chg_ite_snd)
    | intro _ _ _
    | intro _
    | split
    | (dsimp -proj only)
    | (refine chg_step (chg_evt _ _) rfl ?_)

theorem Dev.setEvt_keep {t d0 d a1} (hs : tablesIn [.evt] t = true) (hx : Dev.changesOnly t d0 d) : Dev.changesOnly t d0 (Dev.setEvt d a1) :=
  chg_step (Dev.setEvt_chg _ _) hs hx

theorem Dev.noteEdge_chg : ∀ d a1 a2, Dev.changesOnly [.evt] d (Dev.noteEdge d a1 a2) := by
  intro d a1 a2
  unfold Dev.noteEdge
  repeat' first
    | (with_reducible assumption)
    | (with_reducible exact chg_refl _ _)
    | ((with_reducible apply Dev.setEvt_keep); exact rfl)
    | (with_reducible apply chg_ite)
    | (with_reducible apply chg_foldl)
    | (with_reducible apply chg_foldl_snd)
    | (with_reducible apply chg_ite_snd)
    | intro _ _ _
    | intro _
    | split
    | (dsimp -proj only)

theorem Dev.noteEdge_keep {t d0 d a1 a2} (hs : tablesIn [.evt] t = true) (hx : Dev.changesOnly t d0 d) : Dev.changesOnly t d0 (Dev.noteEdge d a1 a2) :=
  chg_step (Dev.noteEdge_chg _ _ _) hs hx

theorem Dev.wr64_chg : ∀ d a1 a2 a3, Dev.changesOnly [.regs] d (Dev.wr64 d a1 a2 a3) := by
  intro d a1 a2 a3
  unfold Dev.wr64
  repeat' first
    | (with_reducible assumption)
    | (with_reducible exact chg_refl _ _)
    | ((with_reducible apply Dev.wr_keep); exact rfl)
    | (with_reducible apply chg_ite)
    | (with_reducible apply chg_foldl)
    | (with_reducible apply chg_foldl_snd)
    | (with_reducible apply chg_ite_snd)
    | intro _ _ _
    | intro _
    | split
    | (dsimp -proj only)

theorem Dev.wr64_keep {t d0 d a1 a2 a3} (hs : tablesIn [.regs] t = true) (hx : Dev.changesOnly t d0 d) : Dev.changesOnly t d0 (Dev.wr64 d a1 a2 a3) :=
  chg_step (Dev.wr64_chg _ _ _ _) hs hx

theorem Dev.raiseBits_chg : ∀ d a1 a2 a3 a4, Dev.changesOnly [.regs, .log, .logSeq, .evt] d (Dev.raiseBits d a1 a2 a3 a4) := by
  intro d a1 a2 a3 a4
  unfold Dev.raiseBits
  repeat' first
    | (with_reducible assumption)
    | (with_reducible exact chg_refl _ _)
    | ((with_reducible apply Dev.inc_keep); exact rfl)
    | ((with_reducible apply Dev.logEvent_keep); exact rfl)
    | ((with_reducible apply Dev.noteEdge_keep); exact rfl)
    | ((with_reducible apply Dev.setReg_keep); exact rfl)
    | ((with_reducible apply Dev.wr_keep); exact rfl)
    | ((with_reducible apply Dev.wr64_keep); exact rfl)
    | (with_reducible apply chg_ite)
    | (with_reducible apply chg_foldl)
    | (with_reducible apply chg_foldl_snd)
    | (with_reducible apply chg_ite_snd)
    | intro _ _ _
    | intro _
    | split
    | (dsimp -proj only)

theorem Dev.raiseBits_keep {t d0 d a1 a2 a3 a4} (hs : tablesIn [.regs, .log, .logSeq, .evt] t = true) (hx : Dev.changesOnly t d0 d) : Dev.changesOnly t d0 (Dev.raiseBits d a1 a2 a3 a4) :=
  chg_step (Dev.raiseBits_chg _ _ _ _ _) hs hx

theorem Dev.raise_chg : ∀ d a1 a2 a3 a4, Dev.changesOnly [.regs, .log, .logSeq, .evt] d (Dev.raise d a1 a2 a3 a4) := by
  intro d a1 a2 a3 a4
  unfold Dev.raise
  repeat' first
    | (with_reducible assumption)
    | (with_reducible exact chg_refl _ _)
    | ((with_reducible apply Dev.raiseBits_keep); exact rfl)
    | (with_reducible apply chg_ite)
    | (with_reducible apply chg_foldl)
    | (with_reducible apply chg_foldl_snd)
    | (with_reducible apply chg_ite_snd)
    | intro _ _ _
    | intro _
    | split
    | (dsimp -proj only)

theorem Dev.raise_keep {t d0 d a1 a2 a3 a4} (hs : tablesIn [.regs, .log, .logSeq, .evt] t = true) (hx : Dev.changesOnly t d0 d) : Dev.changesOnly t d0 (Dev.raise d a1 a2 a3 a4) :=
  chg_step (Dev.raise_chg _ _ _ _ _) hs hx

theorem Dev.raiseLdg_chg : ∀ d a1 a2 a3, Dev.changesOnly [.regs, .log, .logSeq, .evt] d (Dev.raiseLdg d a1 a2 a3) := by
  intro d a1 a2 a3
  unfold Dev.raiseLdg
  repeat' first
    | (with_reducible assumption)
    | (with_reducible exact chg_refl _ _)
    | ((with_reducible apply Dev.raise_keep); exact rfl)
    | (with_reducible apply chg_ite)
    | (with_reducible apply chg_foldl)
    | (with_reducible apply chg_foldl_snd)
    | (with_reducible apply chg_ite_snd)
    | intro _ _ _
    | intro _
    | split
    | (dsimp -proj only)

theorem Dev.raiseLdg_keep {t d0 d a1 a2 a3} (hs : tablesIn [.regs, .log, .logSeq, .evt] t = true) (hx : Dev.changesOnly t d0 d) : Dev.changesOnly t d0 (Dev.raiseLdg d a1 a2 a3) :=
  chg_step (Dev.raiseLdg_chg _ _ _ _) hs hx

theorem Dev.setQSt_chg : ∀ d a1 a2, Dev.changesOnly [.regs] d (Dev.setQSt d a1 a2) := by
  intro d a1 a2
  unfold Dev.setQSt
  repeat' first
    | (with_reducible assumption)
    | (with_reducible exact chg_refl _ _)
    | ((with_reducible apply Dev.wr_keep); exact rfl)
    | (with_reducible apply chg_ite)
    | (with_reducible apply chg_foldl)
    | (with_reducible apply chg_foldl_snd)
    | (with_reducible apply chg_ite_snd)
    | intro _ _ _
    | intro _
    | split
    | (dsimp -proj only)

theorem Dev.setQSt_keep {t d0 d a1 a2} (hs : tablesIn [.regs] t = true) (hx : Dev.changesOnly t d0 d) : Dev.changesOnly t d0 (Dev.setQSt d a1 a2) :=
  chg_step (Dev.setQSt_chg _ _ _) hs hx

theorem Dev.setKqp_chg : ∀ d a1, Dev.changesOnly [.kqp] d (Dev.setKqp d a1) := by
  intro d a1
  unfold Dev.setKqp
  repeat' first
    | (with_reducible assumption)
    | (with_reducible exact chg_refl _ _)
    | (with_reducible apply chg_ite)
    | (with_reducible apply chg_foldl)
    | (with_reducible apply chg_foldl_snd)
    | (with_reducible apply chg_ite_snd)
    | intro _ _ _
    | intro _
    | split
    | (dsimp -proj only)
    | (refine chg_step (chg_kqp _ _) rfl ?_)

theorem Dev.setKqp_keep {t d0 d a1} (hs : tablesIn [.kqp] t = true) (hx : Dev.changesOnly t d0 d) : Dev.changesOnly t d0 (Dev.setKqp d a1) :=
  chg_step (Dev.setKqp_chg _ _) hs hx

theorem Dev.setQueue_chg : ∀ d a1 a2, Dev.changesOnly [.kqp] d (Dev.setQueue d a1 a2) := by
  intro d a1 a2
  unfold Dev.setQueue
  repeat' first
    | (with_reducible assumption)
    | (with_reducible exact chg_refl _ _)
    | ((with_reducible apply Dev.setKqp_keep); exact rfl)
    | (with_reducible apply chg_ite)
    | (with_reducible apply chg_foldl)
    | (with_reducible apply chg_foldl_snd)
    | (with_reducible apply chg_ite_snd)
    | intro _ _ _
    | intro _
    | split
    | (dsimp -proj only)

theorem Dev.setQueue_keep {t d0 d a1 a2} (hs : tablesIn [.kqp] t = true) (hx : Dev.changesOnly t d0 d) : Dev.changesOnly t d0 (Dev.setQueue d a1 a2) :=
  chg_step (Dev.setQueue_chg _ _ _) hs hx

theorem Dev.qSettle_chg : ∀ d a1, Dev.changesOnly [.regs, .kqp] d (Dev.qSettle d a1) := by
  intro d a1
  unfold Dev.qSettle
  repeat' first
    | (with_reducible assumption)
    | (with_reducible exact chg_refl _ _)
    | ((with_reducible apply Dev.setQSt_keep); exact rfl)
    | ((with_reducible apply Dev.setQueue_keep); exact rfl)
    | ((with_reducible apply Dev.wr_keep); exact rfl)
    | (with_reducible apply chg_ite)
    | (with_reducible apply chg_foldl)
    | (with_reducible apply chg_foldl_snd)
    | (with_reducible apply chg_ite_snd)
    | intro _ _ _
    | intro _
    | split
    | (dsimp -proj only)

theorem Dev.qSettle_keep {t d0 d a1} (hs : tablesIn [.regs, .kqp] t = true) (hx : Dev.changesOnly t d0 d) : Dev.changesOnly t d0 (Dev.qSettle d a1) :=
  chg_step (Dev.qSettle_chg _ _) hs hx

theorem Dev.leaveStopped_chg : ∀ d a1, Dev.changesOnly [.regs, .kqp] d (Dev.leaveStopped d a1) := by
  intro d a1
  unfold Dev.leaveStopped
  repeat' first
    | (with_reducible assumption)
    | (with_reducible exact chg_refl _ _)
    | ((with_reducible apply Dev.qSettle_keep); exact rfl)
    | ((with_reducible apply Dev.setQSt_keep); exact rfl)
    | ((with_reducible apply Dev.setQueue_keep); exact rfl)
    | (dsimp -proj only)

theorem Dev.leaveStopped_keep {t d0 d a1} (hs : tablesIn [.regs, .kqp] t = true) (hx : Dev.changesOnly t d0 d) : Dev.changesOnly t d0 (Dev.leaveStopped d a1) :=
  chg_step (Dev.leaveStopped_chg _ _) hs hx

theorem Dev.resumeStopped_chg : ∀ d a1 a2, Dev.changesOnly [.regs, .kqp] d (Dev.resumeStopped d a1 a2) := by
  intro d a1 a2
  unfold Dev.resumeStopped
  repeat' first
    | (with_reducible assumption)
    | ((with_reducible apply Dev.leaveStopped_keep); exact rfl)
    | (with_reducible exact chg_refl _ _)
    | ((with_reducible apply Dev.qSettle_keep); exact rfl)
    | ((with_reducible apply Dev.setQSt_keep); exact rfl)
    | ((with_reducible apply Dev.setQueue_keep); exact rfl)
    | (with_reducible apply chg_ite)
    | (with_reducible apply chg_foldl)
    | (with_reducible apply chg_foldl_snd)
    | (with_reducible apply chg_ite_snd)
    | intro _ _ _
    | intro _
    | split
    | (dsimp -proj only)

theorem Dev.resumeStopped_keep {t d0 d a1 a2} (hs : tablesIn [.regs, .kqp] t = true) (hx : Dev.changesOnly t d0 d) : Dev.changesOnly t d0 (Dev.resumeStopped d a1 a2) :=
  chg_step (Dev.resumeStopped_chg _ _ _) hs hx

theorem Dev.eachEntry_keep {t d0 d j f} (hs : tablesIn [] t = true) (ha : ∀ e n x, Dev.changesOnly t d0 e → Dev.changesOnly t d0 (f e n x)) (hx : Dev.changesOnly t d0 d) :
    Dev.changesOnly t d0 (Dev.eachEntry d j f) := by
  unfold Dev.eachEntry
  split
  · exact hx
  · refine chg_foldl (fun e n he => ?_) _ hx
    split
    · exact chg_ite (ha _ _ _ he) he
    · exact he

theorem Dev.setTir_chg : ∀ d a1, Dev.changesOnly [.tir] d (Dev.setTir d a1) := by
  intro d a1
  unfold Dev.setTir
  repeat' first
    | (with_reducible assumption)
    | (with_reducible exact chg_refl _ _)
    | (with_reducible apply chg_ite)
    | (with_reducible apply chg_foldl)
    | (with_reducible apply chg_foldl_snd)
    | (with_reducible apply chg_ite_snd)
    | intro _ _ _
    | intro _
    | split
    | (dsimp -proj only)
    | (refine chg_step (chg_tir _ _) rfl ?_)

theorem Dev.setTir_keep {t d0 d a1} (hs : tablesIn [.tir] t = true) (hx : Dev.changesOnly t d0 d) : Dev.changesOnly t d0 (Dev.setTir d a1) :=
  chg_step (Dev.setTir_chg _ _) hs hx

theorem Dev.setObj_chg : ∀ d a1 a2, Dev.changesOnly [.tir] d (Dev.setObj d a1 a2) := by
  intro d a1 a2
  unfold Dev.setObj
  repeat' first
    | (with_reducible assumption)
    | (with_reducible exact chg_refl _ _)
    | ((with_reducible apply Dev.setTir_keep); exact rfl)
    | (with_reducible apply chg_ite)
    | (with_reducible apply chg_foldl)
    | (with_reducible apply chg_foldl_snd)
    | (with_reducible apply chg_ite_snd)
    | intro _ _ _
    | intro _
    | split
    | (dsimp -proj only)

theorem Dev.setObj_keep {t d0 d a1 a2} (hs : tablesIn [.tir] t = true) (hx : Dev.changesOnly t d0 d) : Dev.changesOnly t d0 (Dev.setObj d a1 a2) :=
  chg_step (Dev.setObj_chg _ _ _) hs hx

theorem Dev.setUnit_chg : ∀ d a1 a2 a3, Dev.changesOnly [.tir] d (Dev.setUnit d a1 a2 a3) := by
  intro d a1 a2 a3
  unfold Dev.setUnit
  repeat' first
    | (with_reducible assumption)
    | (with_reducible exact chg_refl _ _)
    | ((with_reducible apply Dev.setObj_keep); exact rfl)
    | (with_reducible apply chg_ite)
    | (with_reducible apply chg_foldl)
    | (with_reducible apply chg_foldl_snd)
    | (with_reducible apply chg_ite_snd)
    | intro _ _ _
    | intro _
    | split
    | (dsimp -proj only)

theorem Dev.setUnit_keep {t d0 d a1 a2 a3} (hs : tablesIn [.tir] t = true) (hx : Dev.changesOnly t d0 d) : Dev.changesOnly t d0 (Dev.setUnit d a1 a2 a3) :=
  chg_step (Dev.setUnit_chg _ _ _ _) hs hx

theorem Dev.setT0_chg : ∀ d a1, Dev.changesOnly [.t0] d (Dev.setT0 d a1) := by
  intro d a1
  unfold Dev.setT0
  repeat' first
    | (with_reducible assumption)
    | (with_reducible exact chg_refl _ _)
    | (with_reducible apply chg_ite)
    | (with_reducible apply chg_foldl)
    | (with_reducible apply chg_foldl_snd)
    | (with_reducible apply chg_ite_snd)
    | intro _ _ _
    | intro _
    | split
    | (dsimp -proj only)
    | (refine chg_step (chg_t0 _ _) rfl ?_)

theorem Dev.setT0_keep {t d0 d a1} (hs : tablesIn [.t0] t = true) (hx : Dev.changesOnly t d0 d) : Dev.changesOnly t d0 (Dev.setT0 d a1) :=
  chg_step (Dev.setT0_chg _ _) hs hx

theorem Dev.write0_chg : ∀ d a1 a2 a3, Dev.changesOnly [.t0, .tir] d (Dev.write0 d a1 a2 a3) := by
  intro d a1 a2 a3
  unfold Dev.write0
  repeat' first
    | (with_reducible assumption)
    | (with_reducible exact chg_refl _ _)
    | ((with_reducible apply Dev.setObj_keep); exact rfl)
    | ((with_reducible apply Dev.setT0_keep); exact rfl)
    | (with_reducible apply chg_ite)
    | (with_reducible apply chg_foldl)
    | (with_reducible apply chg_foldl_snd)
    | (with_reducible apply chg_ite_snd)
    | intro _ _ _
    | intro _
    | split
    | (dsimp -proj only)

theorem Dev.write0_keep {t d0 d a1 a2 a3} (hs : tablesIn [.t0, .tir] t = true) (hx : Dev.changesOnly t d0 d) : Dev.changesOnly t d0 (Dev.write0 d a1 a2 a3) :=
  chg_step (Dev.write0_chg _ _ _ _) hs hx

theorem Dev.setT1_chg : ∀ d a1, Dev.changesOnly [.t1] d (Dev.setT1 d a1) := by
  intro d a1
  unfold Dev.setT1
  repeat' first
    | (with_reducible assumption)
    | (with_reducible exact chg_refl _ _)
    | (with_reducible apply chg_ite)
    | (with_reducible apply chg_foldl)
    | (with_reducible apply chg_foldl_snd)
    | (with_reducible apply chg_ite_snd)
    | intro _ _ _
    | intro _
    | split
    | (dsimp -proj only)
    | (refine chg_step (chg_t1 _ _) rfl ?_)

theorem Dev.setT1_keep {t d0 d a1} (hs : tablesIn [.t1] t = true) (hx : Dev.changesOnly t d0 d) : Dev.changesOnly t d0 (Dev.setT1 d a1) :=
  chg_step (Dev.setT1_chg _ _) hs hx

theorem Dev.write1_chg : ∀ d a1 a2 a3, Dev.changesOnly [.t1] d (Dev.write1 d a1 a2 a3) := by
  intro d a1 a2 a3
  unfold Dev.write1
  repeat' first
    | (with_reducible assumption)
    | (with_reducible exact chg_refl _ _)
    | ((with_reducible apply Dev.setT1_keep); exact rfl)
    | (with_reducible apply chg_ite)
    | (with_reducible apply chg_foldl)
    | (with_reducible apply chg_foldl_snd)
    | (with_reducible apply chg_ite_snd)
    | intro _ _ _
    | intro _
    | split
    | (dsimp -proj only)

theorem Dev.write1_keep {t d0 d a1 a2 a3} (hs : tablesIn [.t1] t = true) (hx : Dev.changesOnly t d0 d) : Dev.changesOnly t d0 (Dev.write1 d a1 a2 a3) :=
  chg_step (Dev.write1_chg _ _ _ _) hs hx

theorem Dev.writeAny_chg : ∀ d a1 a2 a3, Dev.changesOnly [.t0, .t1, .tir] d (Dev.writeAny d a1 a2 a3) := by
  intro d a1 a2 a3
  unfold Dev.writeAny
  repeat' first
    | (with_reducible assumption)
    | (with_reducible exact chg_refl _ _)
    | ((with_reducible apply Dev.setUnit_keep); exact rfl)
    | ((with_reducible apply Dev.write0_keep); exact rfl)
    | ((with_reducible apply Dev.write1_keep); exact rfl)
    | (with_reducible apply chg_ite)
    | (with_reducible apply chg_foldl)
    | (with_reducible apply chg_foldl_snd)
    | (with_reducible apply chg_ite_snd)
    | intro _ _ _
    | intro _
    | split
    | (dsimp -proj only)

theorem Dev.writeAny_keep {t d0 d a1 a2 a3} (hs : tablesIn [.t0, .t1, .tir] t = true) (hx : Dev.changesOnly t d0 d) : Dev.changesOnly t d0 (Dev.writeAny d a1 a2 a3) :=
  chg_step (Dev.writeAny_chg _ _ _ _) hs hx

theorem Dev.putEntry_chg : ∀ d a1 a2 a3 a4, Dev.changesOnly [.t0, .t1, .tir] d (Dev.putEntry d a1 a2 a3 a4) := by
  intro d a1 a2 a3 a4
  unfold Dev.putEntry
  repeat' first
    | (with_reducible assumption)
    | (with_reducible exact chg_refl _ _)
    | ((with_reducible apply Dev.writeAny_keep); exact rfl)
    | (with_reducible apply chg_ite)
    | (with_reducible apply chg_foldl)
    | (with_reducible apply chg_foldl_snd)
    | (with_reducible apply chg_ite_snd)
    | intro _ _ _
    | intro _
    | split
    | (dsimp -proj only)

theorem Dev.putEntry_keep {t d0 d a1 a2 a3 a4} (hs : tablesIn [.t0, .t1, .tir] t = true) (hx : Dev.changesOnly t d0 d) : Dev.changesOnly t d0 (Dev.putEntry d a1 a2 a3 a4) :=
  chg_step (Dev.putEntry_chg _ _ _ _ _) hs hx

theorem Dev.scaleAbort_chg : ∀ d a1, Dev.changesOnly [.t0, .t1, .tir] d (Dev.scaleAbort d a1) := by
  intro d a1
  unfold Dev.scaleAbort
  repeat' first
    | (with_reducible assumption)
    | (with_reducible exact chg_refl _ _)
    | ((with_reducible apply Dev.eachEntry_keep); exact rfl)
    | ((with_reducible apply Dev.putEntry_keep); exact rfl)
    | (with_reducible apply chg_ite)
    | (with_reducible apply chg_foldl)
    | (with_reducible apply chg_foldl_snd)
    | (with_reducible apply chg_ite_snd)
    | intro _ _ _
    | intro _
    | split
    | (dsimp -proj only)

theorem Dev.scaleAbort_keep {t d0 d a1} (hs : tablesIn [.t0, .t1, .tir] t = true) (hx : Dev.changesOnly t d0 d) : Dev.changesOnly t d0 (Dev.scaleAbort d a1) :=
  chg_step (Dev.scaleAbort_chg _ _) hs hx

theorem Dev.setAcr_chg : ∀ d a1, Dev.changesOnly [.acr] d (Dev.setAcr d a1) := by
  intro d a1
  unfold Dev.setAcr
  repeat' first
    | (with_reducible assumption)
    | (with_reducible exact chg_refl _ _)
    | (with_reducible apply chg_ite)
    | (with_reducible apply chg_foldl)
    | (with_reducible apply chg_foldl_snd)
    | (with_reducible apply chg_ite_snd)
    | intro _ _ _
    | intro _
    | split
    | (dsimp -proj only)
    | (refine chg_step (chg_acr _ _) rfl ?_)

theorem Dev.setAcr_keep {t d0 d a1} (hs : tablesIn [.acr] t = true) (hx : Dev.changesOnly t d0 d) : Dev.changesOnly t d0 (Dev.setAcr d a1) :=
  chg_step (Dev.setAcr_chg _ _) hs hx

theorem Dev.setLdg_chg : ∀ d a1, Dev.changesOnly [.ldg] d (Dev.setLdg d a1) := by
  intro d a1
  unfold Dev.setLdg
  repeat' first
    | (with_reducible assumption)
    | (with_reducible exact chg_refl _ _)
    | (with_reducible apply chg_ite)
    | (with_reducible apply chg_foldl)
    | (with_reducible apply chg_foldl_snd)
    | (with_reducible apply chg_ite_snd)
    | intro _ _ _
    | intro _
    | split
    | (dsimp -proj only)
    | (refine chg_step (chg_ldg _ _) rfl ?_)

theorem Dev.setLdg_keep {t d0 d a1} (hs : tablesIn [.ldg] t = true) (hx : Dev.changesOnly t d0 d) : Dev.changesOnly t d0 (Dev.setLdg d a1) :=
  chg_step (Dev.setLdg_chg _ _) hs hx

theorem Dev.setJob_chg : ∀ d a1 a2, Dev.changesOnly [.ldg] d (Dev.setJob d a1 a2) := by
  intro d a1 a2
  unfold Dev.setJob
  repeat' first
    | (with_reducible assumption)
    | (with_reducible exact chg_refl _ _)
    | ((with_reducible apply Dev.setLdg_keep); exact rfl)
    | (with_reducible apply chg_ite)
    | (with_reducible apply chg_foldl)
    | (with_reducible apply chg_foldl_snd)
    | (with_reducible apply chg_ite_snd)
    | intro _ _ _
    | intro _
    | split
    | (dsimp -proj only)

theorem Dev.setJob_keep {t d0 d a1 a2} (hs : tablesIn [.ldg] t = true) (hx : Dev.changesOnly t d0 d) : Dev.changesOnly t d0 (Dev.setJob d a1 a2) :=
  chg_step (Dev.setJob_chg _ _ _) hs hx

theorem Dev.updNewest_chg : ∀ d a1 a2, Dev.changesOnly [.ldg] d (Dev.updNewest d a1 a2) := by
  intro d a1 a2
  unfold Dev.updNewest
  repeat' first
    | (with_reducible assumption)
    | (with_reducible exact chg_refl _ _)
    | ((with_reducible apply Dev.setJob_keep); exact rfl)
    | (with_reducible apply chg_ite)
    | (with_reducible apply chg_foldl)
    | (with_reducible apply chg_foldl_snd)
    | (with_reducible apply chg_ite_snd)
    | intro _ _ _
    | intro _
    | split
    | (dsimp -proj only)

theorem Dev.updNewest_keep {t d0 d a1 a2} (hs : tablesIn [.ldg] t = true) (hx : Dev.changesOnly t d0 d) : Dev.changesOnly t d0 (Dev.updNewest d a1 a2) :=
  chg_step (Dev.updNewest_chg _ _ _) hs hx

theorem Dev.setStepState_chg : ∀ d a1 a2, Dev.changesOnly [.regs, .ldg] d (Dev.setStepState d a1 a2) := by
  intro d a1 a2
  unfold Dev.setStepState
  repeat' first
    | (with_reducible assumption)
    | (with_reducible exact chg_refl _ _)
    | ((with_reducible apply Dev.updNewest_keep); exact rfl)
    | ((with_reducible apply Dev.wr_keep); exact rfl)
    | (with_reducible apply chg_ite)
    | (with_reducible apply chg_foldl)
    | (with_reducible apply chg_foldl_snd)
    | (with_reducible apply chg_ite_snd)
    | intro _ _ _
    | intro _
    | split
    | (dsimp -proj only)

theorem Dev.setStepState_keep {t d0 d a1 a2} (hs : tablesIn [.regs, .ldg] t = true) (hx : Dev.changesOnly t d0 d) : Dev.changesOnly t d0 (Dev.setStepState d a1 a2) :=
  chg_step (Dev.setStepState_chg _ _ _) hs hx

theorem Dev.setJobSt_chg : ∀ d a1 a2, Dev.changesOnly [.regs] d (Dev.setJobSt d a1 a2) := by
  intro d a1 a2
  unfold Dev.setJobSt
  repeat' first
    | (with_reducible assumption)
    | (with_reducible exact chg_refl _ _)
    | ((with_reducible apply Dev.wr_keep); exact rfl)
    | (with_reducible apply chg_ite)
    | (with_reducible apply chg_foldl)
    | (with_reducible apply chg_foldl_snd)
    | (with_reducible apply chg_ite_snd)
    | intro _ _ _
    | intro _
    | split
    | (dsimp -proj only)

theorem Dev.setJobSt_keep {t d0 d a1 a2} (hs : tablesIn [.regs] t = true) (hx : Dev.changesOnly t d0 d) : Dev.changesOnly t d0 (Dev.setJobSt d a1 a2) :=
  chg_step (Dev.setJobSt_chg _ _ _) hs hx

theorem Dev.parkAtBoundary_chg : ∀ d a1, Dev.changesOnly [.regs, .log, .logSeq, .evt] d (Dev.parkAtBoundary d a1) := by
  intro d a1
  unfold Dev.parkAtBoundary
  repeat' first
    | (with_reducible assumption)
    | (with_reducible exact chg_refl _ _)
    | ((with_reducible apply Dev.raiseLdg_keep); exact rfl)
    | ((with_reducible apply Dev.setJobSt_keep); exact rfl)
    | (with_reducible apply chg_ite)
    | (with_reducible apply chg_foldl)
    | (with_reducible apply chg_foldl_snd)
    | (with_reducible apply chg_ite_snd)
    | intro _ _ _
    | intro _
    | split
    | (dsimp -proj only)

theorem Dev.parkAtBoundary_keep {t d0 d a1} (hs : tablesIn [.regs, .log, .logSeq, .evt] t = true) (hx : Dev.changesOnly t d0 d) : Dev.changesOnly t d0 (Dev.parkAtBoundary d a1) :=
  chg_step (Dev.parkAtBoundary_chg _ _) hs hx

theorem Dev.setMkt_chg : ∀ d a1, Dev.changesOnly [.mkt] d (Dev.setMkt d a1) := by
  intro d a1
  unfold Dev.setMkt
  repeat' first
    | (with_reducible assumption)
    | (with_reducible exact chg_refl _ _)
    | (with_reducible apply chg_ite)
    | (with_reducible apply chg_foldl)
    | (with_reducible apply chg_foldl_snd)
    | (with_reducible apply chg_ite_snd)
    | intro _ _ _
    | intro _
    | split
    | (dsimp -proj only)
    | (refine chg_step (chg_mkt _ _) rfl ?_)

theorem Dev.setMkt_keep {t d0 d a1} (hs : tablesIn [.mkt] t = true) (hx : Dev.changesOnly t d0 d) : Dev.changesOnly t d0 (Dev.setMkt d a1) :=
  chg_step (Dev.setMkt_chg _ _) hs hx

theorem Dev.freeRegion_chg : ∀ d a1, Dev.changesOnly [.regs, .t0, .mkt] d (Dev.freeRegion d a1) := by
  intro d a1
  unfold Dev.freeRegion
  repeat' first
    | (with_reducible assumption)
    | (with_reducible exact chg_refl _ _)
    | ((with_reducible apply Dev.setMkt_keep); exact rfl)
    | ((with_reducible apply Dev.setT0_keep); exact rfl)
    | ((with_reducible apply Dev.wr_keep); exact rfl)
    | (with_reducible apply chg_ite)
    | (with_reducible apply chg_foldl)
    | (with_reducible apply chg_foldl_snd)
    | (with_reducible apply chg_ite_snd)
    | intro _ _ _
    | intro _
    | split
    | (dsimp -proj only)

theorem Dev.freeRegion_keep {t d0 d a1} (hs : tablesIn [.regs, .t0, .mkt] t = true) (hx : Dev.changesOnly t d0 d) : Dev.changesOnly t d0 (Dev.freeRegion d a1) :=
  chg_step (Dev.freeRegion_chg _ _) hs hx

theorem Dev.release0_chg : ∀ d a1 a2, Dev.changesOnly [.regs, .t0, .tir, .mkt] d (Dev.release0 d a1 a2) := by
  intro d a1 a2
  unfold Dev.release0
  repeat' first
    | (with_reducible assumption)
    | (with_reducible exact chg_refl _ _)
    | ((with_reducible apply Dev.freeRegion_keep); exact rfl)
    | ((with_reducible apply Dev.setUnit_keep); exact rfl)
    | (with_reducible apply chg_ite)
    | (with_reducible apply chg_foldl)
    | (with_reducible apply chg_foldl_snd)
    | (with_reducible apply chg_ite_snd)
    | intro _ _ _
    | intro _
    | split
    | (dsimp -proj only)

theorem Dev.release0_keep {t d0 d a1 a2} (hs : tablesIn [.regs, .t0, .tir, .mkt] t = true) (hx : Dev.changesOnly t d0 d) : Dev.changesOnly t d0 (Dev.release0 d a1 a2) :=
  chg_step (Dev.release0_chg _ _ _) hs hx

theorem Dev.setAsideUnit_chg : ∀ d a1 a2, Dev.changesOnly [.tir] d (Dev.setAsideUnit d a1 a2) := by
  intro d a1 a2
  unfold Dev.setAsideUnit
  repeat' first
    | (with_reducible assumption)
    | (with_reducible exact chg_refl _ _)
    | ((with_reducible apply Dev.setObj_keep); exact rfl)
    | ((with_reducible apply Dev.setTir_keep); exact rfl)
    | (with_reducible apply chg_ite)
    | (with_reducible apply chg_foldl)
    | (with_reducible apply chg_foldl_snd)
    | (with_reducible apply chg_ite_snd)
    | intro _ _ _
    | intro _
    | split
    | (dsimp -proj only)

theorem Dev.setAsideUnit_keep {t d0 d a1 a2} (hs : tablesIn [.tir] t = true) (hx : Dev.changesOnly t d0 d) : Dev.changesOnly t d0 (Dev.setAsideUnit d a1 a2) :=
  chg_step (Dev.setAsideUnit_chg _ _ _) hs hx

theorem Dev.dropT0_chg : ∀ d a1 a2, Dev.changesOnly [.regs, .t0, .tir, .mkt] d (Dev.dropT0 d a1 a2) := by
  intro d a1 a2
  unfold Dev.dropT0
  repeat' first
    | (with_reducible assumption)
    | (with_reducible exact chg_refl _ _)
    | ((with_reducible apply Dev.release0_keep); exact rfl)
    | ((with_reducible apply Dev.setAsideUnit_keep); exact rfl)
    | (with_reducible apply chg_ite)
    | (with_reducible apply chg_foldl)
    | (with_reducible apply chg_foldl_snd)
    | (with_reducible apply chg_ite_snd)
    | intro _ _ _
    | intro _
    | split
    | (dsimp -proj only)

theorem Dev.dropT0_keep {t d0 d a1 a2} (hs : tablesIn [.regs, .t0, .tir, .mkt] t = true) (hx : Dev.changesOnly t d0 d) : Dev.changesOnly t d0 (Dev.dropT0 d a1 a2) :=
  chg_step (Dev.dropT0_chg _ _ _) hs hx

theorem Dev.discardUnit_chg : ∀ d a1 a2, Dev.changesOnly [.regs, .t0, .tir, .mkt] d (Dev.discardUnit d a1 a2) := by
  intro d a1 a2
  unfold Dev.discardUnit
  repeat' first
    | (with_reducible assumption)
    | (with_reducible exact chg_refl _ _)
    | ((with_reducible apply Dev.dropT0_keep); exact rfl)
    | ((with_reducible apply Dev.setUnit_keep); exact rfl)
    | (with_reducible apply chg_ite)
    | (with_reducible apply chg_foldl)
    | (with_reducible apply chg_foldl_snd)
    | (with_reducible apply chg_ite_snd)
    | intro _ _ _
    | intro _
    | split
    | (dsimp -proj only)

theorem Dev.discardUnit_keep {t d0 d a1 a2} (hs : tablesIn [.regs, .t0, .tir, .mkt] t = true) (hx : Dev.changesOnly t d0 d) : Dev.changesOnly t d0 (Dev.discardUnit d a1 a2) :=
  chg_step (Dev.discardUnit_chg _ _ _) hs hx

theorem Dev.setCol_chg : ∀ d a1, Dev.changesOnly [.col] d (Dev.setCol d a1) := by
  intro d a1
  unfold Dev.setCol
  repeat' first
    | (with_reducible assumption)
    | (with_reducible exact chg_refl _ _)
    | (with_reducible apply chg_ite)
    | (with_reducible apply chg_foldl)
    | (with_reducible apply chg_foldl_snd)
    | (with_reducible apply chg_ite_snd)
    | intro _ _ _
    | intro _
    | split
    | (dsimp -proj only)
    | (refine chg_step (chg_col _ _) rfl ?_)

theorem Dev.setCol_keep {t d0 d a1} (hs : tablesIn [.col] t = true) (hx : Dev.changesOnly t d0 d) : Dev.changesOnly t d0 (Dev.setCol d a1) :=
  chg_step (Dev.setCol_chg _ _) hs hx

theorem Dev.freeExtents_chg : ∀ d a1 a2, Dev.changesOnly [.regs, .t1, .tir] d (Dev.freeExtents d a1 a2) := by
  intro d a1 a2
  unfold Dev.freeExtents
  repeat' first
    | (with_reducible assumption)
    | (with_reducible exact chg_refl _ _)
    | ((with_reducible apply Dev.setT1_keep); exact rfl)
    | ((with_reducible apply Dev.setTir_keep); exact rfl)
    | ((with_reducible apply Dev.wr_keep); exact rfl)
    | (with_reducible apply chg_ite)
    | (with_reducible apply chg_foldl)
    | (with_reducible apply chg_foldl_snd)
    | (with_reducible apply chg_ite_snd)
    | intro _ _ _
    | intro _
    | split
    | (dsimp -proj only)

theorem Dev.freeExtents_keep {t d0 d a1 a2} (hs : tablesIn [.regs, .t1, .tir] t = true) (hx : Dev.changesOnly t d0 d) : Dev.changesOnly t d0 (Dev.freeExtents d a1 a2) :=
  chg_step (Dev.freeExtents_chg _ _ _) hs hx

theorem Dev.trimT1_chg : ∀ d a1, Dev.changesOnly [.regs, .t1, .tir] d (Dev.trimT1 d a1) := by
  intro d a1
  unfold Dev.trimT1
  repeat' first
    | (with_reducible assumption)
    | (with_reducible exact chg_refl _ _)
    | ((with_reducible apply Dev.freeExtents_keep); exact rfl)
    | ((with_reducible apply Dev.setObj_keep); exact rfl)
    | (with_reducible apply chg_ite)
    | (with_reducible apply chg_foldl)
    | (with_reducible apply chg_foldl_snd)
    | (with_reducible apply chg_ite_snd)
    | intro _ _ _
    | intro _
    | split
    | (dsimp -proj only)

theorem Dev.trimT1_keep {t d0 d a1} (hs : tablesIn [.regs, .t1, .tir] t = true) (hx : Dev.changesOnly t d0 d) : Dev.changesOnly t d0 (Dev.trimT1 d a1) :=
  chg_step (Dev.trimT1_chg _ _) hs hx

theorem Dev.releaseStep_chg : ∀ d a1, Dev.changesOnly [.regs, .t0, .t1, .tir, .mkt, .col] d (Dev.releaseStep d a1) := by
  intro d a1
  unfold Dev.releaseStep
  repeat' first
    | (with_reducible assumption)
    | (with_reducible exact chg_refl _ _)
    | ((with_reducible apply Dev.discardUnit_keep); exact rfl)
    | ((with_reducible apply Dev.setCol_keep); exact rfl)
    | ((with_reducible apply Dev.setObj_keep); exact rfl)
    | ((with_reducible apply Dev.setTir_keep); exact rfl)
    | ((with_reducible apply Dev.trimT1_keep); exact rfl)
    | (with_reducible apply chg_ite)
    | (with_reducible apply chg_foldl)
    | (with_reducible apply chg_foldl_snd)
    | (with_reducible apply chg_ite_snd)
    | intro _ _ _
    | intro _
    | split
    | (dsimp -proj only)

theorem Dev.releaseStep_keep {t d0 d a1} (hs : tablesIn [.regs, .t0, .t1, .tir, .mkt, .col] t = true) (hx : Dev.changesOnly t d0 d) : Dev.changesOnly t d0 (Dev.releaseStep d a1) :=
  chg_step (Dev.releaseStep_chg _ _) hs hx

theorem Dev.unbind_chg : ∀ d a1, Dev.changesOnly [.regs] d (Dev.unbind d a1) := by
  intro d a1
  unfold Dev.unbind
  repeat' first
    | (with_reducible assumption)
    | (with_reducible exact chg_refl _ _)
    | ((with_reducible apply Dev.wr_keep); exact rfl)
    | (with_reducible apply chg_ite)
    | (with_reducible apply chg_foldl)
    | (with_reducible apply chg_foldl_snd)
    | (with_reducible apply chg_ite_snd)
    | intro _ _ _
    | intro _
    | split
    | (dsimp -proj only)

theorem Dev.unbind_keep {t d0 d a1} (hs : tablesIn [.regs] t = true) (hx : Dev.changesOnly t d0 d) : Dev.changesOnly t d0 (Dev.unbind d a1) :=
  chg_step (Dev.unbind_chg _ _) hs hx

theorem Dev.stepOver_chg : ∀ d a1, Dev.changesOnly [.regs, .t0, .t1, .log, .logSeq, .evt, .tir, .mkt, .ldg, .col] d (Dev.stepOver d a1) := by
  intro d a1
  unfold Dev.stepOver
  repeat' first
    | (with_reducible assumption)
    | (with_reducible exact chg_refl _ _)
    | ((with_reducible apply Dev.parkAtBoundary_keep); exact rfl)
    | ((with_reducible apply Dev.releaseStep_keep); exact rfl)
    | ((with_reducible apply Dev.setJob_keep); exact rfl)
    | ((with_reducible apply Dev.unbind_keep); exact rfl)
    | (with_reducible apply chg_ite)
    | (with_reducible apply chg_foldl)
    | (with_reducible apply chg_foldl_snd)
    | (with_reducible apply chg_ite_snd)
    | intro _ _ _
    | intro _
    | split
    | (dsimp -proj only)

theorem Dev.stepOver_keep {t d0 d a1} (hs : tablesIn [.regs, .t0, .t1, .log, .logSeq, .evt, .tir, .mkt, .ldg, .col] t = true) (hx : Dev.changesOnly t d0 d) : Dev.changesOnly t d0 (Dev.stepOver d a1) :=
  chg_step (Dev.stepOver_chg _ _) hs hx

theorem Dev.abortAttempt_chg : ∀ d a1 a2 a3 a4, Dev.changesOnly [.regs, .t0, .t1, .log, .logSeq, .evt, .kqp, .tir, .mkt, .ldg, .acr, .col] d (Dev.abortAttempt d a1 a2 a3 a4) := by
  intro d a1 a2 a3 a4
  unfold Dev.abortAttempt
  repeat' first
    | (with_reducible assumption)
    | (with_reducible exact chg_refl _ _)
    | ((with_reducible apply Dev.raiseLdg_keep); exact rfl)
    | ((with_reducible apply Dev.resumeStopped_keep); exact rfl)
    | ((with_reducible apply Dev.scaleAbort_keep); exact rfl)
    | ((with_reducible apply Dev.setAcr_keep); exact rfl)
    | ((with_reducible apply Dev.setStepState_keep); exact rfl)
    | ((with_reducible apply Dev.stepOver_keep); exact rfl)
    | ((with_reducible apply Dev.updNewest_keep); exact rfl)
    | ((with_reducible apply Dev.wr_keep); exact rfl)
    | (with_reducible apply chg_ite)
    | (with_reducible apply chg_foldl)
    | (with_reducible apply chg_foldl_snd)
    | (with_reducible apply chg_ite_snd)
    | intro _ _ _
    | intro _
    | split
    | (dsimp -proj only)

theorem Dev.abortAttempt_keep {t d0 d a1 a2 a3 a4} (hs : tablesIn [.regs, .t0, .t1, .log, .logSeq, .evt, .kqp, .tir, .mkt, .ldg, .acr, .col] t = true) (hx : Dev.changesOnly t d0 d) : Dev.changesOnly t d0 (Dev.abortAttempt d a1 a2 a3 a4) :=
  chg_step (Dev.abortAttempt_chg _ _ _ _ _) hs hx

theorem Dev.useExtents_chg : ∀ d a1 a2 a3, Dev.changesOnly [.regs, .tir] d (Dev.useExtents d a1 a2 a3) := by
  intro d a1 a2 a3
  unfold Dev.useExtents
  repeat' first
    | (with_reducible assumption)
    | (with_reducible exact chg_refl _ _)
    | ((with_reducible apply Dev.inc_keep); exact rfl)
    | ((with_reducible apply Dev.setTir_keep); exact rfl)
    | (with_reducible apply chg_ite)
    | (with_reducible apply chg_foldl)
    | (with_reducible apply chg_foldl_snd)
    | (with_reducible apply chg_ite_snd)
    | intro _ _ _
    | intro _
    | split
    | (dsimp -proj only)

theorem Dev.useExtents_keep {t d0 d a1 a2 a3} (hs : tablesIn [.regs, .tir] t = true) (hx : Dev.changesOnly t d0 d) : Dev.changesOnly t d0 (Dev.useExtents d a1 a2 a3) :=
  chg_step (Dev.useExtents_chg _ _ _ _) hs hx

theorem Dev.ensureT1_chg : ∀ d a1 e, Dev.ensureT1 d a1 = some e → Dev.changesOnly [.regs, .tir] d e := by
  intro d a1 e h
  unfold Dev.ensureT1 at h
  repeat' first
    | contradiction
    | (injection h with h; subst h)
    | (injection h with h; injection h; subst_vars)
    | split at h
    | (dsimp -proj only at h)
    | (with_reducible assumption)
    | (with_reducible exact chg_refl _ _)
    | ((with_reducible apply Dev.setObj_keep); exact rfl)
    | ((with_reducible apply Dev.useExtents_keep); exact rfl)
    | (with_reducible apply chg_ite)
    | (with_reducible apply chg_foldl)
    | (with_reducible apply chg_foldl_snd)
    | (with_reducible apply chg_ite_snd)
    | intro _ _ _
    | intro _
    | split
    | (dsimp -proj only)

theorem Dev.ensureT1_keep {t d0 d a1 e} (h : Dev.ensureT1 d a1 = some e) (hs : tablesIn [.regs, .tir] t = true) (hx : Dev.changesOnly t d0 d) : Dev.changesOnly t d0 e :=
  chg_step (Dev.ensureT1_chg _ _ _ h) hs hx

theorem Dev.erase1_chg : ∀ d a1 a2 a3, Dev.changesOnly [.t1] d (Dev.erase1 d a1 a2 a3) := by
  intro d a1 a2 a3
  unfold Dev.erase1
  repeat' first
    | (with_reducible assumption)
    | (with_reducible exact chg_refl _ _)
    | ((with_reducible apply Dev.setT1_keep); exact rfl)
    | (with_reducible apply chg_ite)
    | (with_reducible apply chg_foldl)
    | (with_reducible apply chg_foldl_snd)
    | (with_reducible apply chg_ite_snd)
    | intro _ _ _
    | intro _
    | split
    | (dsimp -proj only)

theorem Dev.erase1_keep {t d0 d a1 a2 a3} (hs : tablesIn [.t1] t = true) (hx : Dev.changesOnly t d0 d) : Dev.changesOnly t d0 (Dev.erase1 d a1 a2 a3) :=
  chg_step (Dev.erase1_chg _ _ _ _) hs hx

theorem Dev.healSectors_chg : ∀ d a1 a2 a3, Dev.changesOnly [.tir] d (Dev.healSectors d a1 a2 a3) := by
  intro d a1 a2 a3
  unfold Dev.healSectors
  repeat' first
    | (with_reducible assumption)
    | (with_reducible exact chg_refl _ _)
    | ((with_reducible apply Dev.setTir_keep); exact rfl)
    | (with_reducible apply chg_ite)
    | (with_reducible apply chg_foldl)
    | (with_reducible apply chg_foldl_snd)
    | (with_reducible apply chg_ite_snd)
    | intro _ _ _
    | intro _
    | split
    | (dsimp -proj only)

theorem Dev.healSectors_keep {t d0 d a1 a2 a3} (hs : tablesIn [.tir] t = true) (hx : Dev.changesOnly t d0 d) : Dev.changesOnly t d0 (Dev.healSectors d a1 a2 a3) :=
  chg_step (Dev.healSectors_chg _ _ _ _) hs hx

theorem Dev.pour1_chg : ∀ d a1 a2 a3 a4, Dev.changesOnly [.t1, .tir] d (Dev.pour1 d a1 a2 a3 a4) := by
  intro d a1 a2 a3 a4
  unfold Dev.pour1
  repeat' first
    | (with_reducible assumption)
    | (with_reducible exact chg_refl _ _)
    | ((with_reducible apply Dev.erase1_keep); exact rfl)
    | ((with_reducible apply Dev.healSectors_keep); exact rfl)
    | ((with_reducible apply Dev.setT1_keep); exact rfl)
    | (with_reducible apply chg_ite)
    | (with_reducible apply chg_foldl)
    | (with_reducible apply chg_foldl_snd)
    | (with_reducible apply chg_ite_snd)
    | intro _ _ _
    | intro _
    | split
    | (dsimp -proj only)

theorem Dev.pour1_keep {t d0 d a1 a2 a3 a4} (hs : tablesIn [.t1, .tir] t = true) (hx : Dev.changesOnly t d0 d) : Dev.changesOnly t d0 (Dev.pour1 d a1 a2 a3 a4) :=
  chg_step (Dev.pour1_chg _ _ _ _ _) hs hx

theorem Dev.flush0_chg : ∀ d k e, Dev.flush0 d k = some e → Dev.changesOnly [.regs, .t1, .tir] d e := by
  intro d k e h
  unfold Dev.flush0 at h
  split at h
  · injection h with h; subst h; exact chg_refl _ _
  · refine chg_foldl_option (fun x u y hx hy => ?_) _ (chg_refl _ _) h
    dsimp -proj only at hy
    split at hy
    · split at hy
      · contradiction
      · rename_i he
        have h1 := Dev.ensureT1_keep he (by exact rfl) hx
        split at hy
        · injection hy with hy; subst hy; exact h1
        · injection hy with hy; subst hy
          exact Dev.setUnit_keep (by exact rfl) (Dev.pour1_keep (by exact rfl) h1)
    · injection hy with hy; subst hy; exact hx

theorem Dev.flush0_keep {t d0 d k e} (h : Dev.flush0 d k = some e) (hs : tablesIn [.regs, .t1, .tir] t = true) (hx : Dev.changesOnly t d0 d) :
    Dev.changesOnly t d0 e :=
  chg_step (Dev.flush0_chg _ _ _ h) hs hx

theorem Dev.acrDest_chg : ∀ d a1 e, Dev.acrDest d a1 = some e → Dev.changesOnly [.regs, .t0, .t1, .tir, .mkt] d e := by
  intro d a1 e h
  unfold Dev.acrDest at h
  repeat' first
    | contradiction
    | (injection h with h; subst h)
    | (injection h with h; injection h; subst_vars)
    | split at h
    | (dsimp -proj only at h)
    | (with_reducible assumption)
    | (with_reducible exact chg_refl _ _)
    | (refine Dev.ensureT1_keep (by with_reducible assumption) rfl ?_)
    | (refine Dev.flush0_keep (by with_reducible assumption) rfl ?_)
    | ((with_reducible apply Dev.release0_keep); exact rfl)
    | ((with_reducible apply Dev.setUnit_keep); exact rfl)
    | (with_reducible apply chg_ite)
    | (with_reducible apply chg_foldl)
    | (with_reducible apply chg_foldl_snd)
    | (with_reducible apply chg_ite_snd)
    | intro _ _ _
    | intro _
    | split
    | (dsimp -proj only)

theorem Dev.acrDest_keep {t d0 d a1 e} (h : Dev.acrDest d a1 = some e) (hs : tablesIn [.regs, .t0, .t1, .tir, .mkt] t = true) (hx : Dev.changesOnly t d0 d) : Dev.changesOnly t d0 e :=
  chg_step (Dev.acrDest_chg _ _ _ h) hs hx

theorem Dev.setCmd_chg : ∀ d a1 a2, Dev.changesOnly [.kqp] d (Dev.setCmd d a1 a2) := by
  intro d a1 a2
  unfold Dev.setCmd
  repeat' first
    | (with_reducible assumption)
    | (with_reducible exact chg_refl _ _)
    | ((with_reducible apply Dev.setQueue_keep); exact rfl)
    | (with_reducible apply chg_ite)
    | (with_reducible apply chg_foldl)
    | (with_reducible apply chg_foldl_snd)
    | (with_reducible apply chg_ite_snd)
    | intro _ _ _
    | intro _
    | split
    | (dsimp -proj only)

theorem Dev.setCmd_keep {t d0 d a1 a2} (hs : tablesIn [.kqp] t = true) (hx : Dev.changesOnly t d0 d) : Dev.changesOnly t d0 (Dev.setCmd d a1 a2) :=
  chg_step (Dev.setCmd_chg _ _ _) hs hx

theorem Dev.partRan_chg : ∀ d a1 a2 a3 a4 a5 a6, Dev.changesOnly [.kqp] d (Dev.partRan d a1 a2 a3 a4 a5 a6) := by
  intro d a1 a2 a3 a4 a5 a6
  unfold Dev.partRan
  repeat' first
    | (with_reducible assumption)
    | (with_reducible exact chg_refl _ _)
    | ((with_reducible apply Dev.setCmd_keep); exact rfl)
    | (with_reducible apply chg_ite)
    | (with_reducible apply chg_foldl)
    | (with_reducible apply chg_foldl_snd)
    | (with_reducible apply chg_ite_snd)
    | intro _ _ _
    | intro _
    | split
    | (dsimp -proj only)

theorem Dev.partRan_keep {t d0 d a1 a2 a3 a4 a5 a6} (hs : tablesIn [.kqp] t = true) (hx : Dev.changesOnly t d0 d) : Dev.changesOnly t d0 (Dev.partRan d a1 a2 a3 a4 a5 a6) :=
  chg_step (Dev.partRan_chg _ _ _ _ _ _ _) hs hx

theorem Dev.acrFail_chg : ∀ d a1 a2 a3 a4 a5, Dev.changesOnly [.regs, .log, .logSeq, .evt, .kqp] d (Dev.acrFail d a1 a2 a3 a4 a5) := by
  intro d a1 a2 a3 a4 a5
  unfold Dev.acrFail
  repeat' first
    | (with_reducible assumption)
    | (with_reducible exact chg_refl _ _)
    | ((with_reducible apply Dev.partRan_keep); exact rfl)
    | ((with_reducible apply Dev.raise_keep); exact rfl)
    | (with_reducible apply chg_ite)
    | (with_reducible apply chg_foldl)
    | (with_reducible apply chg_foldl_snd)
    | (with_reducible apply chg_ite_snd)
    | intro _ _ _
    | intro _
    | split
    | (dsimp -proj only)

theorem Dev.acrFail_keep {t d0 d a1 a2 a3 a4 a5} (hs : tablesIn [.regs, .log, .logSeq, .evt, .kqp] t = true) (hx : Dev.changesOnly t d0 d) : Dev.changesOnly t d0 (Dev.acrFail d a1 a2 a3 a4 a5) :=
  chg_step (Dev.acrFail_chg _ _ _ _ _ _) hs hx

theorem Dev.setOut_chg : ∀ d a1, Dev.changesOnly [.out] d (Dev.setOut d a1) := by
  intro d a1
  unfold Dev.setOut
  repeat' first
    | (with_reducible assumption)
    | (with_reducible exact chg_refl _ _)
    | (with_reducible apply chg_ite)
    | (with_reducible apply chg_foldl)
    | (with_reducible apply chg_foldl_snd)
    | (with_reducible apply chg_ite_snd)
    | intro _ _ _
    | intro _
    | split
    | (dsimp -proj only)
    | (refine chg_step (chg_out _ _) rfl ?_)

theorem Dev.setOut_keep {t d0 d a1} (hs : tablesIn [.out] t = true) (hx : Dev.changesOnly t d0 d) : Dev.changesOnly t d0 (Dev.setOut d a1) :=
  chg_step (Dev.setOut_chg _ _) hs hx

theorem Dev.emit_chg : ∀ d a1 a2 a3 a4, Dev.changesOnly [.out] d (Dev.emit d a1 a2 a3 a4) := by
  intro d a1 a2 a3 a4
  unfold Dev.emit
  repeat' first
    | (with_reducible assumption)
    | (with_reducible exact chg_refl _ _)
    | ((with_reducible apply Dev.setOut_keep); exact rfl)
    | (with_reducible apply chg_ite)
    | (with_reducible apply chg_foldl)
    | (with_reducible apply chg_foldl_snd)
    | (with_reducible apply chg_ite_snd)
    | intro _ _ _
    | intro _
    | split
    | (dsimp -proj only)

theorem Dev.emit_keep {t d0 d a1 a2 a3 a4} (hs : tablesIn [.out] t = true) (hx : Dev.changesOnly t d0 d) : Dev.changesOnly t d0 (Dev.emit d a1 a2 a3 a4) :=
  chg_step (Dev.emit_chg _ _ _ _ _) hs hx

theorem Dev.hostWrite_chg : ∀ d a1 a2, Dev.changesOnly [.out] d (Dev.hostWrite d a1 a2) := by
  intro d a1 a2
  unfold Dev.hostWrite
  repeat' first
    | (with_reducible assumption)
    | (with_reducible exact chg_refl _ _)
    | ((with_reducible apply Dev.emit_keep); exact rfl)
    | (with_reducible apply chg_ite)
    | (with_reducible apply chg_foldl)
    | (with_reducible apply chg_foldl_snd)
    | (with_reducible apply chg_ite_snd)
    | intro _ _ _
    | intro _
    | split
    | (dsimp -proj only)

theorem Dev.hostWrite_keep {t d0 d a1 a2} (hs : tablesIn [.out] t = true) (hx : Dev.changesOnly t d0 d) : Dev.changesOnly t d0 (Dev.hostWrite d a1 a2) :=
  chg_step (Dev.hostWrite_chg _ _ _) hs hx

theorem Dev.noteDone_chg : ∀ d a1 a2, Dev.changesOnly [.regs, .kqp] d (Dev.noteDone d a1 a2) := by
  intro d a1 a2
  unfold Dev.noteDone
  repeat' first
    | (with_reducible assumption)
    | (with_reducible exact chg_refl _ _)
    | ((with_reducible apply Dev.setQueue_keep); exact rfl)
    | ((with_reducible apply Dev.wr_keep); exact rfl)
    | (with_reducible apply chg_ite)
    | (with_reducible apply chg_foldl)
    | (with_reducible apply chg_foldl_snd)
    | (with_reducible apply chg_ite_snd)
    | intro _ _ _
    | intro _
    | split
    | (dsimp -proj only)

theorem Dev.noteDone_keep {t d0 d a1 a2} (hs : tablesIn [.regs, .kqp] t = true) (hx : Dev.changesOnly t d0 d) : Dev.changesOnly t d0 (Dev.noteDone d a1 a2) :=
  chg_step (Dev.noteDone_chg _ _ _) hs hx

theorem Dev.semSet_chg : ∀ d a1 a2 a3, Dev.changesOnly [.kqp] d (Dev.semSet d a1 a2 a3) := by
  intro d a1 a2 a3
  unfold Dev.semSet
  repeat' first
    | (with_reducible assumption)
    | (with_reducible exact chg_refl _ _)
    | ((with_reducible apply Dev.setKqp_keep); exact rfl)
    | (with_reducible apply chg_ite)
    | (with_reducible apply chg_foldl)
    | (with_reducible apply chg_foldl_snd)
    | (with_reducible apply chg_ite_snd)
    | intro _ _ _
    | intro _
    | split
    | (dsimp -proj only)

theorem Dev.semSet_keep {t d0 d a1 a2 a3} (hs : tablesIn [.kqp] t = true) (hx : Dev.changesOnly t d0 d) : Dev.changesOnly t d0 (Dev.semSet d a1 a2 a3) :=
  chg_step (Dev.semSet_chg _ _ _ _) hs hx

theorem Dev.semAdd_chg : ∀ d a1 a2 a3, Dev.changesOnly [.kqp] d (Dev.semAdd d a1 a2 a3) := by
  intro d a1 a2 a3
  unfold Dev.semAdd
  repeat' first
    | (with_reducible assumption)
    | (with_reducible exact chg_refl _ _)
    | ((with_reducible apply Dev.semSet_keep); exact rfl)
    | (with_reducible apply chg_ite)
    | (with_reducible apply chg_foldl)
    | (with_reducible apply chg_foldl_snd)
    | (with_reducible apply chg_ite_snd)
    | intro _ _ _
    | intro _
    | split
    | (dsimp -proj only)

theorem Dev.semAdd_keep {t d0 d a1 a2 a3} (hs : tablesIn [.kqp] t = true) (hx : Dev.changesOnly t d0 d) : Dev.changesOnly t d0 (Dev.semAdd d a1 a2 a3) :=
  chg_step (Dev.semAdd_chg _ _ _ _) hs hx

theorem Dev.setMsixPend_chg : ∀ d a1, Dev.changesOnly [.msixPend] d (Dev.setMsixPend d a1) := by
  intro d a1
  unfold Dev.setMsixPend
  repeat' first
    | (with_reducible assumption)
    | (with_reducible exact chg_refl _ _)
    | (with_reducible apply chg_ite)
    | (with_reducible apply chg_foldl)
    | (with_reducible apply chg_foldl_snd)
    | (with_reducible apply chg_ite_snd)
    | intro _ _ _
    | intro _
    | split
    | (dsimp -proj only)
    | (refine chg_step (chg_msixPend _ _) rfl ?_)

theorem Dev.setMsixPend_keep {t d0 d a1} (hs : tablesIn [.msixPend] t = true) (hx : Dev.changesOnly t d0 d) : Dev.changesOnly t d0 (Dev.setMsixPend d a1) :=
  chg_step (Dev.setMsixPend_chg _ _) hs hx

theorem Dev.sendMsix_chg : ∀ d a1 a2, Dev.changesOnly [.msixPend, .out] d (Dev.sendMsix d a1 a2) := by
  intro d a1 a2
  unfold Dev.sendMsix
  repeat' first
    | (with_reducible assumption)
    | (with_reducible exact chg_refl _ _)
    | ((with_reducible apply Dev.emit_keep); exact rfl)
    | ((with_reducible apply Dev.setMsixPend_keep); exact rfl)
    | (with_reducible apply chg_ite)
    | (with_reducible apply chg_foldl)
    | (with_reducible apply chg_foldl_snd)
    | (with_reducible apply chg_ite_snd)
    | intro _ _ _
    | intro _
    | split
    | (dsimp -proj only)

theorem Dev.sendMsix_keep {t d0 d a1 a2} (hs : tablesIn [.msixPend, .out] t = true) (hx : Dev.changesOnly t d0 d) : Dev.changesOnly t d0 (Dev.sendMsix d a1 a2) :=
  chg_step (Dev.sendMsix_chg _ _ _) hs hx

theorem Dev.setSix_chg : ∀ d a1, Dev.changesOnly [.six] d (Dev.setSix d a1) := by
  intro d a1
  unfold Dev.setSix
  repeat' first
    | (with_reducible assumption)
    | (with_reducible exact chg_refl _ _)
    | (with_reducible apply chg_ite)
    | (with_reducible apply chg_foldl)
    | (with_reducible apply chg_foldl_snd)
    | (with_reducible apply chg_ite_snd)
    | intro _ _ _
    | intro _
    | split
    | (dsimp -proj only)
    | (refine chg_step (chg_six _ _) rfl ?_)

theorem Dev.setSix_keep {t d0 d a1} (hs : tablesIn [.six] t = true) (hx : Dev.changesOnly t d0 d) : Dev.changesOnly t d0 (Dev.setSix d a1) :=
  chg_step (Dev.setSix_chg _ _) hs hx

theorem Dev.sixCount_chg : ∀ d, Dev.changesOnly [.regs, .six] d (Dev.sixCount d) := by
  intro d
  unfold Dev.sixCount
  repeat' first
    | (with_reducible assumption)
    | (with_reducible exact chg_refl _ _)
    | ((with_reducible apply Dev.setSix_keep); exact rfl)
    | ((with_reducible apply Dev.wr_keep); exact rfl)
    | (with_reducible apply chg_ite)
    | (with_reducible apply chg_foldl)
    | (with_reducible apply chg_foldl_snd)
    | (with_reducible apply chg_ite_snd)
    | intro _ _ _
    | intro _
    | split
    | (dsimp -proj only)

theorem Dev.sixCount_keep {t d0 d} (hs : tablesIn [.regs, .six] t = true) (hx : Dev.changesOnly t d0 d) : Dev.changesOnly t d0 (Dev.sixCount d) :=
  chg_step (Dev.sixCount_chg _) hs hx

theorem Dev.sixRelease_chg : ∀ d a1 a2, Dev.changesOnly [.regs, .six, .out] d (Dev.sixRelease d a1 a2) := by
  intro d a1 a2
  unfold Dev.sixRelease
  repeat' first
    | (with_reducible assumption)
    | (with_reducible exact chg_refl _ _)
    | ((with_reducible apply Dev.hostWrite_keep); exact rfl)
    | ((with_reducible apply Dev.setSix_keep); exact rfl)
    | ((with_reducible apply Dev.sixCount_keep); exact rfl)
    | ((with_reducible apply Dev.wr_keep); exact rfl)
    | (with_reducible apply chg_ite)
    | (with_reducible apply chg_foldl)
    | (with_reducible apply chg_foldl_snd)
    | (with_reducible apply chg_ite_snd)
    | intro _ _ _
    | intro _
    | split
    | (dsimp -proj only)

theorem Dev.sixRelease_keep {t d0 d a1 a2} (hs : tablesIn [.regs, .six, .out] t = true) (hx : Dev.changesOnly t d0 d) : Dev.changesOnly t d0 (Dev.sixRelease d a1 a2) :=
  chg_step (Dev.sixRelease_chg _ _ _) hs hx

theorem Dev.writeRecord_chg : ∀ d a1 a2, Dev.changesOnly [.regs, .msixPend, .six, .kqp, .out] d (Dev.writeRecord d a1 a2) := by
  intro d a1 a2
  unfold Dev.writeRecord
  repeat' first
    | (with_reducible assumption)
    | (with_reducible exact chg_refl _ _)
    | ((with_reducible apply Dev.emit_keep); exact rfl)
    | ((with_reducible apply Dev.hostWrite_keep); exact rfl)
    | ((with_reducible apply Dev.noteDone_keep); exact rfl)
    | ((with_reducible apply Dev.semAdd_keep); exact rfl)
    | ((with_reducible apply Dev.sendMsix_keep); exact rfl)
    | ((with_reducible apply Dev.sixRelease_keep); exact rfl)
    | ((with_reducible apply Dev.unbind_keep); exact rfl)
    | (with_reducible apply chg_ite)
    | (with_reducible apply chg_foldl)
    | (with_reducible apply chg_foldl_snd)
    | (with_reducible apply chg_ite_snd)
    | intro _ _ _
    | intro _
    | split
    | (dsimp -proj only)

theorem Dev.writeRecord_keep {t d0 d a1 a2} (hs : tablesIn [.regs, .msixPend, .six, .kqp, .out] t = true) (hx : Dev.changesOnly t d0 d) : Dev.changesOnly t d0 (Dev.writeRecord d a1 a2) :=
  chg_step (Dev.writeRecord_chg _ _ _) hs hx

theorem Dev.retire_chg : ∀ d a1 a2, Dev.changesOnly [.regs, .msixPend, .six, .kqp, .out, .col] d (Dev.retire d a1 a2) := by
  intro d a1 a2
  unfold Dev.retire
  repeat' first
    | (with_reducible assumption)
    | (with_reducible exact chg_refl _ _)
    | ((with_reducible apply Dev.qSettle_keep); exact rfl)
    | ((with_reducible apply Dev.setCol_keep); exact rfl)
    | ((with_reducible apply Dev.setQueue_keep); exact rfl)
    | ((with_reducible apply Dev.writeRecord_keep); exact rfl)
    | (with_reducible apply chg_ite)
    | (with_reducible apply chg_foldl)
    | (with_reducible apply chg_foldl_snd)
    | (with_reducible apply chg_ite_snd)
    | intro _ _ _
    | intro _
    | split
    | (dsimp -proj only)

theorem Dev.retire_keep {t d0 d a1 a2} (hs : tablesIn [.regs, .msixPend, .six, .kqp, .out, .col] t = true) (hx : Dev.changesOnly t d0 d) : Dev.changesOnly t d0 (Dev.retire d a1 a2) :=
  chg_step (Dev.retire_chg _ _ _) hs hx

theorem Dev.raiseQueue_chg : ∀ d a1 a2 a3 a4, Dev.changesOnly [.regs, .log, .logSeq, .evt] d (Dev.raiseQueue d a1 a2 a3 a4) := by
  intro d a1 a2 a3 a4
  unfold Dev.raiseQueue
  repeat' first
    | (with_reducible assumption)
    | (with_reducible exact chg_refl _ _)
    | ((with_reducible apply Dev.raise_keep); exact rfl)
    | (with_reducible apply chg_ite)
    | (with_reducible apply chg_foldl)
    | (with_reducible apply chg_foldl_snd)
    | (with_reducible apply chg_ite_snd)
    | intro _ _ _
    | intro _
    | split
    | (dsimp -proj only)

theorem Dev.raiseQueue_keep {t d0 d a1 a2 a3 a4} (hs : tablesIn [.regs, .log, .logSeq, .evt] t = true) (hx : Dev.changesOnly t d0 d) : Dev.changesOnly t d0 (Dev.raiseQueue d a1 a2 a3 a4) :=
  chg_step (Dev.raiseQueue_chg _ _ _ _ _) hs hx

theorem Dev.stepFailure_chg : ∀ d a1 a2 a3, Dev.changesOnly [.ldg] d (Dev.stepFailure d a1 a2 a3) := by
  intro d a1 a2 a3
  unfold Dev.stepFailure
  repeat' first
    | (with_reducible assumption)
    | (with_reducible exact chg_refl _ _)
    | ((with_reducible apply Dev.setJob_keep); exact rfl)
    | (with_reducible apply chg_ite)
    | (with_reducible apply chg_foldl)
    | (with_reducible apply chg_foldl_snd)
    | (with_reducible apply chg_ite_snd)
    | intro _ _ _
    | intro _
    | split
    | (dsimp -proj only)

theorem Dev.stepFailure_keep {t d0 d a1 a2 a3} (hs : tablesIn [.ldg] t = true) (hx : Dev.changesOnly t d0 d) : Dev.changesOnly t d0 (Dev.stepFailure d a1 a2 a3) :=
  chg_step (Dev.stepFailure_chg _ _ _ _) hs hx

theorem Dev.stopQueue_chg : ∀ d a1 a2, Dev.changesOnly [.regs, .log, .logSeq, .evt, .kqp, .ldg] d (Dev.stopQueue d a1 a2) := by
  intro d a1 a2
  unfold Dev.stopQueue
  repeat' first
    | (with_reducible assumption)
    | (with_reducible exact chg_refl _ _)
    | ((with_reducible apply Dev.leaveStopped_keep); exact rfl)
    | ((with_reducible apply Dev.raiseQueue_keep); exact rfl)
    | ((with_reducible apply Dev.setQSt_keep); exact rfl)
    | ((with_reducible apply Dev.setQueue_keep); exact rfl)
    | ((with_reducible apply Dev.stepFailure_keep); exact rfl)
    | ((with_reducible apply Dev.wr_keep); exact rfl)
    | (with_reducible apply chg_ite)
    | (with_reducible apply chg_foldl)
    | (with_reducible apply chg_foldl_snd)
    | (with_reducible apply chg_ite_snd)
    | intro _ _ _
    | intro _
    | split
    | (dsimp -proj only)

theorem Dev.stopQueue_keep {t d0 d a1 a2} (hs : tablesIn [.regs, .log, .logSeq, .evt, .kqp, .ldg] t = true) (hx : Dev.changesOnly t d0 d) : Dev.changesOnly t d0 (Dev.stopQueue d a1 a2) :=
  chg_step (Dev.stopQueue_chg _ _ _) hs hx

theorem Dev.cmdEnded_chg : ∀ d a1 a2, Dev.changesOnly [.regs, .log, .logSeq, .msixPend, .six, .evt, .kqp, .out, .ldg, .col] d (Dev.cmdEnded d a1 a2) := by
  intro d a1 a2
  unfold Dev.cmdEnded
  repeat' first
    | (with_reducible assumption)
    | (with_reducible exact chg_refl _ _)
    | ((with_reducible apply Dev.qSettle_keep); exact rfl)
    | ((with_reducible apply Dev.retire_keep); exact rfl)
    | ((with_reducible apply Dev.setJob_keep); exact rfl)
    | ((with_reducible apply Dev.setQueue_keep); exact rfl)
    | ((with_reducible apply Dev.stopQueue_keep); exact rfl)
    | (with_reducible apply chg_ite)
    | (with_reducible apply chg_foldl)
    | (with_reducible apply chg_foldl_snd)
    | (with_reducible apply chg_ite_snd)
    | intro _ _ _
    | intro _
    | split
    | (dsimp -proj only)

theorem Dev.cmdEnded_keep {t d0 d a1 a2} (hs : tablesIn [.regs, .log, .logSeq, .msixPend, .six, .evt, .kqp, .out, .ldg, .col] t = true) (hx : Dev.changesOnly t d0 d) : Dev.changesOnly t d0 (Dev.cmdEnded d a1 a2) :=
  chg_step (Dev.cmdEnded_chg _ _ _) hs hx

theorem Dev.endRef_chg : ∀ d a1, Dev.changesOnly [.tir] d (Dev.endRef d a1) := by
  intro d a1
  unfold Dev.endRef
  repeat' first
    | (with_reducible assumption)
    | (with_reducible exact chg_refl _ _)
    | ((with_reducible apply Dev.setObj_keep); exact rfl)
    | (with_reducible apply chg_ite)
    | (with_reducible apply chg_foldl)
    | (with_reducible apply chg_foldl_snd)
    | (with_reducible apply chg_ite_snd)
    | intro _ _ _
    | intro _
    | split
    | (dsimp -proj only)

theorem Dev.endRef_keep {t d0 d a1} (hs : tablesIn [.tir] t = true) (hx : Dev.changesOnly t d0 d) : Dev.changesOnly t d0 (Dev.endRef d a1) :=
  chg_step (Dev.endRef_chg _ _) hs hx

theorem Dev.dropRefs_chg : ∀ d a1 a2 a3, Dev.changesOnly [.tir] d (Dev.dropRefs d a1 a2 a3) := by
  intro d a1 a2 a3
  unfold Dev.dropRefs
  repeat' first
    | (with_reducible assumption)
    | (with_reducible exact chg_refl _ _)
    | ((with_reducible apply Dev.endRef_keep); exact rfl)
    | ((with_reducible apply Dev.setTir_keep); exact rfl)
    | (with_reducible apply chg_ite)
    | (with_reducible apply chg_foldl)
    | (with_reducible apply chg_foldl_snd)
    | (with_reducible apply chg_ite_snd)
    | intro _ _ _
    | intro _
    | split
    | (dsimp -proj only)

theorem Dev.dropRefs_keep {t d0 d a1 a2 a3} (hs : tablesIn [.tir] t = true) (hx : Dev.changesOnly t d0 d) : Dev.changesOnly t d0 (Dev.dropRefs d a1 a2 a3) :=
  chg_step (Dev.dropRefs_chg _ _ _ _) hs hx

theorem Dev.setCcr_chg : ∀ d a1, Dev.changesOnly [.ccr] d (Dev.setCcr d a1) := by
  intro d a1
  unfold Dev.setCcr
  repeat' first
    | (with_reducible assumption)
    | (with_reducible exact chg_refl _ _)
    | (with_reducible apply chg_ite)
    | (with_reducible apply chg_foldl)
    | (with_reducible apply chg_foldl_snd)
    | (with_reducible apply chg_ite_snd)
    | intro _ _ _
    | intro _
    | split
    | (dsimp -proj only)
    | (refine chg_step (chg_ccr _ _) rfl ?_)

theorem Dev.setCcr_keep {t d0 d a1} (hs : tablesIn [.ccr] t = true) (hx : Dev.changesOnly t d0 d) : Dev.changesOnly t d0 (Dev.setCcr d a1) :=
  chg_step (Dev.setCcr_chg _ _) hs hx

theorem Dev.setFlag_chg : ∀ d a1 a2, Dev.changesOnly [.regs] d (Dev.setFlag d a1 a2) := by
  intro d a1 a2
  unfold Dev.setFlag
  repeat' first
    | (with_reducible assumption)
    | (with_reducible exact chg_refl _ _)
    | ((with_reducible apply Dev.wr_keep); exact rfl)
    | (with_reducible apply chg_ite)
    | (with_reducible apply chg_foldl)
    | (with_reducible apply chg_foldl_snd)
    | (with_reducible apply chg_ite_snd)
    | intro _ _ _
    | intro _
    | split
    | (dsimp -proj only)

theorem Dev.setFlag_keep {t d0 d a1 a2} (hs : tablesIn [.regs] t = true) (hx : Dev.changesOnly t d0 d) : Dev.changesOnly t d0 (Dev.setFlag d a1 a2) :=
  chg_step (Dev.setFlag_chg _ _ _) hs hx

theorem Dev.endPart_chg : ∀ d a1 a2 a3 a4, Dev.changesOnly [.regs, .log, .logSeq, .msixPend, .six, .evt, .kqp, .out, .tir, .ldg, .col, .ccr] d (Dev.endPart d a1 a2 a3 a4) := by
  intro d a1 a2 a3 a4
  unfold Dev.endPart
  repeat' first
    | (with_reducible assumption)
    | (with_reducible exact chg_refl _ _)
    | ((with_reducible apply Dev.cmdEnded_keep); exact rfl)
    | ((with_reducible apply Dev.dropRefs_keep); exact rfl)
    | ((with_reducible apply Dev.setCcr_keep); exact rfl)
    | ((with_reducible apply Dev.setCmd_keep); exact rfl)
    | ((with_reducible apply Dev.setFlag_keep); exact rfl)
    | ((with_reducible apply Dev.sixRelease_keep); exact rfl)
    | (with_reducible apply chg_ite)
    | (with_reducible apply chg_foldl)
    | (with_reducible apply chg_foldl_snd)
    | (with_reducible apply chg_ite_snd)
    | intro _ _ _
    | intro _
    | split
    | (dsimp -proj only)

theorem Dev.endPart_keep {t d0 d a1 a2 a3 a4} (hs : tablesIn [.regs, .log, .logSeq, .msixPend, .six, .evt, .kqp, .out, .tir, .ldg, .col, .ccr] t = true) (hx : Dev.changesOnly t d0 d) : Dev.changesOnly t d0 (Dev.endPart d a1 a2 a3 a4) :=
  chg_step (Dev.endPart_chg _ _ _ _ _) hs hx

theorem Dev.endPartsOn_chg : ∀ d a1 a2, Dev.changesOnly [.regs, .log, .logSeq, .msixPend, .six, .evt, .kqp, .out, .tir, .ldg, .col, .ccr] d (Dev.endPartsOn d a1 a2) := by
  intro d a1 a2
  unfold Dev.endPartsOn
  repeat' first
    | (with_reducible assumption)
    | (with_reducible exact chg_refl _ _)
    | ((with_reducible apply Dev.endPart_keep); exact rfl)
    | (with_reducible apply chg_ite)
    | (with_reducible apply chg_foldl)
    | (with_reducible apply chg_foldl_snd)
    | (with_reducible apply chg_ite_snd)
    | intro _ _ _
    | intro _
    | split
    | (dsimp -proj only)

theorem Dev.endPartsOn_keep {t d0 d a1 a2} (hs : tablesIn [.regs, .log, .logSeq, .msixPend, .six, .evt, .kqp, .out, .tir, .ldg, .col, .ccr] t = true) (hx : Dev.changesOnly t d0 d) : Dev.changesOnly t d0 (Dev.endPartsOn d a1 a2) :=
  chg_step (Dev.endPartsOn_chg _ _ _) hs hx

theorem Dev.acrLost_chg : ∀ d a1, Dev.changesOnly [.regs, .log, .logSeq, .msixPend, .six, .evt, .kqp, .out, .tir, .ldg, .col, .ccr] d (Dev.acrLost d a1) := by
  intro d a1
  unfold Dev.acrLost
  repeat' first
    | (with_reducible assumption)
    | (with_reducible exact chg_refl _ _)
    | ((with_reducible apply Dev.endPartsOn_keep); exact rfl)
    | ((with_reducible apply Dev.raise_keep); exact rfl)
    | ((with_reducible apply Dev.setFlag_keep); exact rfl)
    | ((with_reducible apply Dev.wr_keep); exact rfl)
    | (with_reducible apply chg_ite)
    | (with_reducible apply chg_foldl)
    | (with_reducible apply chg_foldl_snd)
    | (with_reducible apply chg_ite_snd)
    | intro _ _ _
    | intro _
    | split
    | (dsimp -proj only)

theorem Dev.acrLost_keep {t d0 d a1} (hs : tablesIn [.regs, .log, .logSeq, .msixPend, .six, .evt, .kqp, .out, .tir, .ldg, .col, .ccr] t = true) (hx : Dev.changesOnly t d0 d) : Dev.changesOnly t d0 (Dev.acrLost d a1) :=
  chg_step (Dev.acrLost_chg _ _) hs hx

theorem Dev.setSpr_chg : ∀ d a1, Dev.changesOnly [.spr] d (Dev.setSpr d a1) := by
  intro d a1
  unfold Dev.setSpr
  repeat' first
    | (with_reducible assumption)
    | (with_reducible exact chg_refl _ _)
    | (with_reducible apply chg_ite)
    | (with_reducible apply chg_foldl)
    | (with_reducible apply chg_foldl_snd)
    | (with_reducible apply chg_ite_snd)
    | intro _ _ _
    | intro _
    | split
    | (dsimp -proj only)
    | (refine chg_step (chg_spr _ _) rfl ?_)

theorem Dev.setSpr_keep {t d0 d a1} (hs : tablesIn [.spr] t = true) (hx : Dev.changesOnly t d0 d) : Dev.changesOnly t d0 (Dev.setSpr d a1) :=
  chg_step (Dev.setSpr_chg _ _) hs hx

theorem Dev.setPhys_chg : ∀ d a1 a2 a3, Dev.changesOnly [.spr] d (Dev.setPhys d a1 a2 a3) := by
  intro d a1 a2 a3
  unfold Dev.setPhys
  repeat' first
    | (with_reducible assumption)
    | (with_reducible exact chg_refl _ _)
    | ((with_reducible apply Dev.setSpr_keep); exact rfl)
    | (with_reducible apply chg_ite)
    | (with_reducible apply chg_foldl)
    | (with_reducible apply chg_foldl_snd)
    | (with_reducible apply chg_ite_snd)
    | intro _ _ _
    | intro _
    | split
    | (dsimp -proj only)

theorem Dev.setPhys_keep {t d0 d a1 a2 a3} (hs : tablesIn [.spr] t = true) (hx : Dev.changesOnly t d0 d) : Dev.changesOnly t d0 (Dev.setPhys d a1 a2 a3) :=
  chg_step (Dev.setPhys_chg _ _ _ _) hs hx

theorem Dev.acrFault_chg : ∀ d a1, Dev.changesOnly [.regs, .log, .logSeq, .msixPend, .spr, .six, .evt, .kqp, .out, .tir, .ldg, .col, .ccr] d (Dev.acrFault d a1) := by
  intro d a1
  unfold Dev.acrFault
  repeat' first
    | (with_reducible assumption)
    | (with_reducible exact chg_refl _ _)
    | ((with_reducible apply Dev.acrLost_keep); exact rfl)
    | ((with_reducible apply Dev.setPhys_keep); exact rfl)
    | (with_reducible apply chg_ite)
    | (with_reducible apply chg_foldl)
    | (with_reducible apply chg_foldl_snd)
    | (with_reducible apply chg_ite_snd)
    | intro _ _ _
    | intro _
    | split
    | (dsimp -proj only)

theorem Dev.acrFault_keep {t d0 d a1} (hs : tablesIn [.regs, .log, .logSeq, .msixPend, .spr, .six, .evt, .kqp, .out, .tir, .ldg, .col, .ccr] t = true) (hx : Dev.changesOnly t d0 d) : Dev.changesOnly t d0 (Dev.acrFault d a1) :=
  chg_step (Dev.acrFault_chg _ _) hs hx

theorem Dev.setSlotRefs_chg : ∀ d a1 a2 a3, Dev.changesOnly [.regs] d (Dev.setSlotRefs d a1 a2 a3) := by
  intro d a1 a2 a3
  unfold Dev.setSlotRefs
  repeat' first
    | (with_reducible assumption)
    | (with_reducible exact chg_refl _ _)
    | ((with_reducible apply Dev.wr_keep); exact rfl)
    | (with_reducible apply chg_ite)
    | (with_reducible apply chg_foldl)
    | (with_reducible apply chg_foldl_snd)
    | (with_reducible apply chg_ite_snd)
    | intro _ _ _
    | intro _
    | split
    | (dsimp -proj only)

theorem Dev.setSlotRefs_keep {t d0 d a1 a2 a3} (hs : tablesIn [.regs] t = true) (hx : Dev.changesOnly t d0 d) : Dev.changesOnly t d0 (Dev.setSlotRefs d a1 a2 a3) :=
  chg_step (Dev.setSlotRefs_chg _ _ _ _) hs hx

theorem Dev.addBinds_chg : ∀ d a1, Dev.changesOnly [.regs] d (Dev.addBinds d a1) := by
  intro d a1
  unfold Dev.addBinds
  repeat' first
    | (with_reducible assumption)
    | (with_reducible exact chg_refl _ _)
    | ((with_reducible apply Dev.setSlotRefs_keep); exact rfl)
    | (with_reducible apply chg_ite)
    | (with_reducible apply chg_foldl)
    | (with_reducible apply chg_foldl_snd)
    | (with_reducible apply chg_ite_snd)
    | intro _ _ _
    | intro _
    | split
    | (dsimp -proj only)

theorem Dev.addBinds_keep {t d0 d a1} (hs : tablesIn [.regs] t = true) (hx : Dev.changesOnly t d0 d) : Dev.changesOnly t d0 (Dev.addBinds d a1) :=
  chg_step (Dev.addBinds_chg _ _) hs hx

theorem Dev.collWrite_chg : ∀ d a1 a2 a3 a4 a5, Dev.changesOnly [.t0, .t1, .tir] d (Dev.collWrite d a1 a2 a3 a4 a5) := by
  intro d a1 a2 a3 a4 a5
  unfold Dev.collWrite
  repeat' first
    | (with_reducible assumption)
    | (with_reducible exact chg_refl _ _)
    | ((with_reducible apply Dev.setUnit_keep); exact rfl)
    | ((with_reducible apply Dev.write0_keep); exact rfl)
    | ((with_reducible apply Dev.write1_keep); exact rfl)
    | (with_reducible apply chg_ite)
    | (with_reducible apply chg_foldl)
    | (with_reducible apply chg_foldl_snd)
    | (with_reducible apply chg_ite_snd)
    | intro _ _ _
    | intro _
    | split
    | (dsimp -proj only)

theorem Dev.collWrite_keep {t d0 d a1 a2 a3 a4 a5} (hs : tablesIn [.t0, .t1, .tir] t = true) (hx : Dev.changesOnly t d0 d) : Dev.changesOnly t d0 (Dev.collWrite d a1 a2 a3 a4 a5) :=
  chg_step (Dev.collWrite_chg _ _ _ _ _ _) hs hx

theorem Dev.updColl_chg : ∀ d a1 a2 a3, Dev.changesOnly [.col] d (Dev.updColl d a1 a2 a3) := by
  intro d a1 a2 a3
  unfold Dev.updColl
  repeat' first
    | (with_reducible assumption)
    | (with_reducible exact chg_refl _ _)
    | ((with_reducible apply Dev.setCol_keep); exact rfl)
    | (with_reducible apply chg_ite)
    | (with_reducible apply chg_foldl)
    | (with_reducible apply chg_foldl_snd)
    | (with_reducible apply chg_ite_snd)
    | intro _ _ _
    | intro _
    | split
    | (dsimp -proj only)

theorem Dev.updColl_keep {t d0 d a1 a2 a3} (hs : tablesIn [.col] t = true) (hx : Dev.changesOnly t d0 d) : Dev.changesOnly t d0 (Dev.updColl d a1 a2 a3) :=
  chg_step (Dev.updColl_chg _ _ _ _) hs hx

theorem Dev.bufWrite_chg : ∀ d a1 a2 a3 a4 a5, Dev.changesOnly [.t0, .t1, .tir, .col] d (Dev.bufWrite d a1 a2 a3 a4 a5) := by
  intro d a1 a2 a3 a4 a5
  unfold Dev.bufWrite
  repeat' first
    | (with_reducible assumption)
    | (with_reducible exact chg_refl _ _)
    | ((with_reducible apply Dev.collWrite_keep); exact rfl)
    | ((with_reducible apply Dev.updColl_keep); exact rfl)
    | (with_reducible apply chg_ite)
    | (with_reducible apply chg_foldl)
    | (with_reducible apply chg_foldl_snd)
    | (with_reducible apply chg_ite_snd)
    | intro _ _ _
    | intro _
    | split
    | (dsimp -proj only)

theorem Dev.bufWrite_keep {t d0 d a1 a2 a3 a4 a5} (hs : tablesIn [.t0, .t1, .tir, .col] t = true) (hx : Dev.changesOnly t d0 d) : Dev.changesOnly t d0 (Dev.bufWrite d a1 a2 a3 a4 a5) :=
  chg_step (Dev.bufWrite_chg _ _ _ _ _ _) hs hx

theorem Dev.addInto_chg : ∀ d a1 a2 a3 a4 a5 a6, Dev.changesOnly [.regs, .t0, .t1, .tir, .col] d (Dev.addInto d a1 a2 a3 a4 a5 a6) := by
  intro d a1 a2 a3 a4 a5 a6
  unfold Dev.addInto
  repeat' first
    | (with_reducible assumption)
    | (with_reducible exact chg_refl _ _)
    | ((with_reducible apply Dev.bufWrite_keep); exact rfl)
    | ((with_reducible apply Dev.inc_keep); exact rfl)
    | (with_reducible apply chg_ite)
    | (with_reducible apply chg_foldl)
    | (with_reducible apply chg_foldl_snd)
    | (with_reducible apply chg_ite_snd)
    | intro _ _ _
    | intro _
    | split
    | (dsimp -proj only)

theorem Dev.addInto_keep {t d0 d a1 a2 a3 a4 a5 a6} (hs : tablesIn [.regs, .t0, .t1, .tir, .col] t = true) (hx : Dev.changesOnly t d0 d) : Dev.changesOnly t d0 (Dev.addInto d a1 a2 a3 a4 a5 a6) :=
  chg_step (Dev.addInto_chg _ _ _ _ _ _ _) hs hx

theorem Dev.addWork_chg : ∀ d a1 a2 a3, Dev.changesOnly [.kqp] d (Dev.addWork d a1 a2 a3) := by
  intro d a1 a2 a3
  unfold Dev.addWork
  repeat' first
    | (with_reducible assumption)
    | (with_reducible exact chg_refl _ _)
    | ((with_reducible apply Dev.setCmd_keep); exact rfl)
    | (with_reducible apply chg_ite)
    | (with_reducible apply chg_foldl)
    | (with_reducible apply chg_foldl_snd)
    | (with_reducible apply chg_ite_snd)
    | intro _ _ _
    | intro _
    | split
    | (dsimp -proj only)

theorem Dev.addWork_keep {t d0 d a1 a2 a3} (hs : tablesIn [.kqp] t = true) (hx : Dev.changesOnly t d0 d) : Dev.changesOnly t d0 (Dev.addWork d a1 a2 a3) :=
  chg_step (Dev.addWork_chg _ _ _ _) hs hx

theorem Dev.setTbn_chg : ∀ d a1, Dev.changesOnly [.tbn] d (Dev.setTbn d a1) := by
  intro d a1
  unfold Dev.setTbn
  repeat' first
    | (with_reducible assumption)
    | (with_reducible exact chg_refl _ _)
    | (with_reducible apply chg_ite)
    | (with_reducible apply chg_foldl)
    | (with_reducible apply chg_foldl_snd)
    | (with_reducible apply chg_ite_snd)
    | intro _ _ _
    | intro _
    | split
    | (dsimp -proj only)
    | (refine chg_step (chg_tbn _ _) rfl ?_)

theorem Dev.setTbn_keep {t d0 d a1} (hs : tablesIn [.tbn] t = true) (hx : Dev.changesOnly t d0 d) : Dev.changesOnly t d0 (Dev.setTbn d a1) :=
  chg_step (Dev.setTbn_chg _ _) hs hx

theorem Dev.dropConn_chg : ∀ d a1, Dev.changesOnly [.regs, .tbn] d (Dev.dropConn d a1) := by
  intro d a1
  unfold Dev.dropConn
  repeat' first
    | (with_reducible assumption)
    | (with_reducible exact chg_refl _ _)
    | ((with_reducible apply Dev.setTbn_keep); exact rfl)
    | ((with_reducible apply Dev.wr_keep); exact rfl)
    | (with_reducible apply chg_ite)
    | (with_reducible apply chg_foldl)
    | (with_reducible apply chg_foldl_snd)
    | (with_reducible apply chg_ite_snd)
    | intro _ _ _
    | intro _
    | split
    | (dsimp -proj only)

theorem Dev.dropConn_keep {t d0 d a1} (hs : tablesIn [.regs, .tbn] t = true) (hx : Dev.changesOnly t d0 d) : Dev.changesOnly t d0 (Dev.dropConn d a1) :=
  chg_step (Dev.dropConn_chg _ _) hs hx

theorem Dev.failPart_chg : ∀ d a1 a2 a3 a4, Dev.changesOnly [.kqp] d (Dev.failPart d a1 a2 a3 a4) := by
  intro d a1 a2 a3 a4
  unfold Dev.failPart
  repeat' first
    | (with_reducible assumption)
    | (with_reducible exact chg_refl _ _)
    | ((with_reducible apply Dev.partRan_keep); exact rfl)
    | (with_reducible apply chg_ite)
    | (with_reducible apply chg_foldl)
    | (with_reducible apply chg_foldl_snd)
    | (with_reducible apply chg_ite_snd)
    | intro _ _ _
    | intro _
    | split
    | (dsimp -proj only)

theorem Dev.failPart_keep {t d0 d a1 a2 a3 a4} (hs : tablesIn [.kqp] t = true) (hx : Dev.changesOnly t d0 d) : Dev.changesOnly t d0 (Dev.failPart d a1 a2 a3 a4) :=
  chg_step (Dev.failPart_chg _ _ _ _ _) hs hx

theorem Dev.failColl_chg : ∀ d a1 a2 a3 a4, Dev.changesOnly [.kqp, .col] d (Dev.failColl d a1 a2 a3 a4) := by
  intro d a1 a2 a3 a4
  unfold Dev.failColl
  repeat' first
    | (with_reducible assumption)
    | (with_reducible exact chg_refl _ _)
    | ((with_reducible apply Dev.failPart_keep); exact rfl)
    | ((with_reducible apply Dev.setCol_keep); exact rfl)
    | (with_reducible apply chg_ite)
    | (with_reducible apply chg_foldl)
    | (with_reducible apply chg_foldl_snd)
    | (with_reducible apply chg_ite_snd)
    | intro _ _ _
    | intro _
    | split
    | (dsimp -proj only)

theorem Dev.failColl_keep {t d0 d a1 a2 a3 a4} (hs : tablesIn [.kqp, .col] t = true) (hx : Dev.changesOnly t d0 d) : Dev.changesOnly t d0 (Dev.failColl d a1 a2 a3 a4) :=
  chg_step (Dev.failColl_chg _ _ _ _ _) hs hx

theorem Dev.setWset_chg : ∀ d a1, Dev.changesOnly [.wset] d (Dev.setWset d a1) := by
  intro d a1
  unfold Dev.setWset
  repeat' first
    | (with_reducible assumption)
    | (with_reducible exact chg_refl _ _)
    | (with_reducible apply chg_ite)
    | (with_reducible apply chg_foldl)
    | (with_reducible apply chg_foldl_snd)
    | (with_reducible apply chg_ite_snd)
    | intro _ _ _
    | intro _
    | split
    | (dsimp -proj only)
    | (refine chg_step (chg_wset _ _) rfl ?_)

theorem Dev.setWset_keep {t d0 d a1} (hs : tablesIn [.wset] t = true) (hx : Dev.changesOnly t d0 d) : Dev.changesOnly t d0 (Dev.setWset d a1) :=
  chg_step (Dev.setWset_chg _ _) hs hx

theorem Dev.failTransfer_chg : ∀ d a1 a2 a3 a4, Dev.changesOnly [.regs, .log, .logSeq, .evt, .kqp, .col] d (Dev.failTransfer d a1 a2 a3 a4) := by
  intro d a1 a2 a3 a4
  unfold Dev.failTransfer
  repeat' first
    | (with_reducible assumption)
    | (with_reducible exact chg_refl _ _)
    | ((with_reducible apply Dev.failColl_keep); exact rfl)
    | ((with_reducible apply Dev.raise_keep); exact rfl)
    | (with_reducible apply chg_ite)
    | split
    | (dsimp -proj only)

theorem Dev.failTransfer_keep {t d0 d a1 a2 a3 a4} (hs : tablesIn [.regs, .log, .logSeq, .evt, .kqp, .col] t = true) (hx : Dev.changesOnly t d0 d) : Dev.changesOnly t d0 (Dev.failTransfer d a1 a2 a3 a4) :=
  chg_step (Dev.failTransfer_chg _ _ _ _ _) hs hx

theorem Dev.msgOver_chg : ∀ d a1 a2, Dev.changesOnly [.regs, .log, .logSeq, .six, .evt, .kqp, .out, .ldg, .wset, .col] d (Dev.msgOver d a1 a2) := by
  intro d a1 a2
  unfold Dev.msgOver
  repeat' first
    | (with_reducible assumption)
    | (with_reducible exact chg_refl _ _)
    | ((with_reducible apply Dev.failTransfer_keep); exact rfl)
    | ((with_reducible apply Dev.failColl_keep); exact rfl)
    | ((with_reducible apply Dev.raise_keep); exact rfl)
    | ((with_reducible apply Dev.setCol_keep); exact rfl)
    | ((with_reducible apply Dev.setJob_keep); exact rfl)
    | ((with_reducible apply Dev.setWset_keep); exact rfl)
    | ((with_reducible apply Dev.sixRelease_keep); exact rfl)
    | (with_reducible apply chg_ite)
    | (with_reducible apply chg_foldl)
    | (with_reducible apply chg_foldl_snd)
    | (with_reducible apply chg_ite_snd)
    | intro _ _ _
    | intro _
    | split
    | (dsimp -proj only)

theorem Dev.msgOver_keep {t d0 d a1 a2} (hs : tablesIn [.regs, .log, .logSeq, .six, .evt, .kqp, .out, .ldg, .wset, .col] t = true) (hx : Dev.changesOnly t d0 d) : Dev.changesOnly t d0 (Dev.msgOver d a1 a2) :=
  chg_step (Dev.msgOver_chg _ _ _) hs hx

theorem Dev.setConn_chg : ∀ d a1 a2, Dev.changesOnly [.regs, .tbn] d (Dev.setConn d a1 a2) := by
  intro d a1 a2
  unfold Dev.setConn
  repeat' first
    | (with_reducible assumption)
    | (with_reducible exact chg_refl _ _)
    | ((with_reducible apply Dev.setTbn_keep); exact rfl)
    | ((with_reducible apply Dev.wr_keep); exact rfl)
    | (with_reducible apply chg_ite)
    | (with_reducible apply chg_foldl)
    | (with_reducible apply chg_foldl_snd)
    | (with_reducible apply chg_ite_snd)
    | intro _ _ _
    | intro _
    | split
    | (dsimp -proj only)

theorem Dev.setConn_keep {t d0 d a1 a2} (hs : tablesIn [.regs, .tbn] t = true) (hx : Dev.changesOnly t d0 d) : Dev.changesOnly t d0 (Dev.setConn d a1 a2) :=
  chg_step (Dev.setConn_chg _ _ _) hs hx

theorem Dev.failMsg_chg : ∀ d a1 a2 a3, Dev.changesOnly [.regs, .log, .logSeq, .six, .evt, .kqp, .out, .ldg, .wset, .col, .tbn] d (Dev.failMsg d a1 a2 a3) := by
  intro d a1 a2 a3
  unfold Dev.failMsg
  repeat' first
    | (with_reducible assumption)
    | (with_reducible exact chg_refl _ _)
    | ((with_reducible apply Dev.msgOver_keep); exact rfl)
    | ((with_reducible apply Dev.setConn_keep); exact rfl)
    | (with_reducible apply chg_ite)
    | (with_reducible apply chg_foldl)
    | (with_reducible apply chg_foldl_snd)
    | (with_reducible apply chg_ite_snd)
    | intro _ _ _
    | intro _
    | split
    | (dsimp -proj only)

theorem Dev.failMsg_keep {t d0 d a1 a2 a3} (hs : tablesIn [.regs, .log, .logSeq, .six, .evt, .kqp, .out, .ldg, .wset, .col, .tbn] t = true) (hx : Dev.changesOnly t d0 d) : Dev.changesOnly t d0 (Dev.failMsg d a1 a2 a3) :=
  chg_step (Dev.failMsg_chg _ _ _ _) hs hx

theorem Dev.failPosted_chg : ∀ d a1 a2, Dev.changesOnly [.regs, .log, .logSeq, .evt, .kqp, .col] d (Dev.failPosted d a1 a2) := by
  intro d a1 a2
  unfold Dev.failPosted
  repeat' first
    | (with_reducible assumption)
    | (with_reducible exact chg_refl _ _)
    | ((with_reducible apply Dev.failTransfer_keep); exact rfl)
    | ((with_reducible apply Dev.failColl_keep); exact rfl)
    | (with_reducible apply chg_ite)
    | (with_reducible apply chg_foldl)
    | (with_reducible apply chg_foldl_snd)
    | (with_reducible apply chg_ite_snd)
    | intro _ _ _
    | intro _
    | split
    | (dsimp -proj only)

theorem Dev.failPosted_keep {t d0 d a1 a2} (hs : tablesIn [.regs, .log, .logSeq, .evt, .kqp, .col] t = true) (hx : Dev.changesOnly t d0 d) : Dev.changesOnly t d0 (Dev.failPosted d a1 a2) :=
  chg_step (Dev.failPosted_chg _ _ _) hs hx

theorem Dev.showTbnAssist_chg : ∀ d, Dev.changesOnly [.regs] d (Dev.showTbnAssist d) := by
  intro d
  unfold Dev.showTbnAssist
  repeat' first
    | (with_reducible assumption)
    | (with_reducible exact chg_refl _ _)
    | ((with_reducible apply Dev.setFlag_keep); exact rfl)
    | ((with_reducible apply Dev.wr_keep); exact rfl)
    | ((with_reducible apply Dev.wr64_keep); exact rfl)
    | (with_reducible apply chg_ite)
    | (with_reducible apply chg_foldl)
    | (with_reducible apply chg_foldl_snd)
    | (with_reducible apply chg_ite_snd)
    | intro _ _ _
    | intro _
    | split
    | (dsimp -proj only)

theorem Dev.showTbnAssist_keep {t d0 d} (hs : tablesIn [.regs] t = true) (hx : Dev.changesOnly t d0 d) : Dev.changesOnly t d0 (Dev.showTbnAssist d) :=
  chg_step (Dev.showTbnAssist_chg _) hs hx

theorem Dev.losePeer_chg : ∀ d a1 a2, Dev.changesOnly [.regs, .log, .logSeq, .six, .evt, .kqp, .out, .ldg, .wset, .col, .tbn] d (Dev.losePeer d a1 a2) := by
  intro d a1 a2
  unfold Dev.losePeer
  repeat' first
    | (with_reducible assumption)
    | (with_reducible exact chg_refl _ _)
    | ((with_reducible apply Dev.dropConn_keep); exact rfl)
    | ((with_reducible apply Dev.failMsg_keep); exact rfl)
    | ((with_reducible apply Dev.failPosted_keep); exact rfl)
    | ((with_reducible apply Dev.msgOver_keep); exact rfl)
    | ((with_reducible apply Dev.setTbn_keep); exact rfl)
    | ((with_reducible apply Dev.showTbnAssist_keep); exact rfl)
    | ((with_reducible apply Dev.sixRelease_keep); exact rfl)
    | (with_reducible apply chg_ite)
    | (with_reducible apply chg_foldl)
    | (with_reducible apply chg_foldl_snd)
    | (with_reducible apply chg_ite_snd)
    | intro _ _ _
    | intro _
    | split
    | (dsimp -proj only)

theorem Dev.losePeer_keep {t d0 d a1 a2} (hs : tablesIn [.regs, .log, .logSeq, .six, .evt, .kqp, .out, .ldg, .wset, .col, .tbn] t = true) (hx : Dev.changesOnly t d0 d) : Dev.changesOnly t d0 (Dev.losePeer d a1 a2) :=
  chg_step (Dev.losePeer_chg _ _ _) hs hx

theorem Dev.newMsg_chg : ∀ d, Dev.changesOnly [.tbn] d (Dev.newMsg d).2 := by
  intro d
  unfold Dev.newMsg
  repeat' first
    | (with_reducible assumption)
    | (with_reducible exact chg_refl _ _)
    | ((with_reducible apply Dev.setTbn_keep); exact rfl)
    | (with_reducible apply chg_ite)
    | (with_reducible apply chg_foldl)
    | (with_reducible apply chg_foldl_snd)
    | (with_reducible apply chg_ite_snd)
    | intro _ _ _
    | intro _
    | split
    | (dsimp -proj only)

theorem Dev.newMsg_chg_eq : ∀ d x0 e, Dev.newMsg d = (x0, e) → Dev.changesOnly [.tbn] d e := by
  intro d x0 e h
  have := Dev.newMsg_chg d
  rw [h] at this
  exact this

theorem Dev.newMsg_keep {t d0 d} (hs : tablesIn [.tbn] t = true) (hx : Dev.changesOnly t d0 d) : Dev.changesOnly t d0 ((Dev.newMsg d).2) :=
  chg_step (Dev.newMsg_chg _) hs hx

theorem Dev.newMsg_keep_eq {t d0 d x0 e} (h : Dev.newMsg d = (x0, e)) (hs : tablesIn [.tbn] t = true) (hx : Dev.changesOnly t d0 d) : Dev.changesOnly t d0 e :=
  chg_step (Dev.newMsg_chg_eq _ _ _ h) hs hx

theorem Dev.setFab_chg : ∀ d a1, Dev.changesOnly [.fab] d (Dev.setFab d a1) := by
  intro d a1
  unfold Dev.setFab
  repeat' first
    | (with_reducible assumption)
    | (with_reducible exact chg_refl _ _)
    | (with_reducible apply chg_ite)
    | (with_reducible apply chg_foldl)
    | (with_reducible apply chg_foldl_snd)
    | (with_reducible apply chg_ite_snd)
    | intro _ _ _
    | intro _
    | split
    | (dsimp -proj only)
    | (refine chg_step (chg_fab _ _) rfl ?_)

theorem Dev.setFab_keep {t d0 d a1} (hs : tablesIn [.fab] t = true) (hx : Dev.changesOnly t d0 d) : Dev.changesOnly t d0 (Dev.setFab d a1) :=
  chg_step (Dev.setFab_chg _ _) hs hx

theorem Dev.setPort_chg : ∀ d a1 a2, Dev.changesOnly [.fab] d (Dev.setPort d a1 a2) := by
  intro d a1 a2
  unfold Dev.setPort
  repeat' first
    | (with_reducible assumption)
    | (with_reducible exact chg_refl _ _)
    | ((with_reducible apply Dev.setFab_keep); exact rfl)
    | (with_reducible apply chg_ite)
    | (with_reducible apply chg_foldl)
    | (with_reducible apply chg_foldl_snd)
    | (with_reducible apply chg_ite_snd)
    | intro _ _ _
    | intro _
    | split
    | (dsimp -proj only)

theorem Dev.setPort_keep {t d0 d a1 a2} (hs : tablesIn [.fab] t = true) (hx : Dev.changesOnly t d0 d) : Dev.changesOnly t d0 (Dev.setPort d a1 a2) :=
  chg_step (Dev.setPort_chg _ _ _) hs hx

theorem Dev.enqueue_chg : ∀ d a1 a2, Dev.changesOnly [.fab] d (Dev.enqueue d a1 a2) := by
  intro d a1 a2
  unfold Dev.enqueue
  repeat' first
    | (with_reducible assumption)
    | (with_reducible exact chg_refl _ _)
    | ((with_reducible apply Dev.setPort_keep); exact rfl)
    | (with_reducible apply chg_ite)
    | (with_reducible apply chg_foldl)
    | (with_reducible apply chg_foldl_snd)
    | (with_reducible apply chg_ite_snd)
    | intro _ _ _
    | intro _
    | split
    | (dsimp -proj only)

theorem Dev.enqueue_keep {t d0 d a1 a2} (hs : tablesIn [.fab] t = true) (hx : Dev.changesOnly t d0 d) : Dev.changesOnly t d0 (Dev.enqueue d a1 a2) :=
  chg_step (Dev.enqueue_chg _ _ _) hs hx

theorem Dev.sendPacket_chg : ∀ d a1 a2 a3 a4 a5 a6, Dev.changesOnly [.regs, .fab] d (Dev.sendPacket d a1 a2 a3 a4 a5 a6) := by
  intro d a1 a2 a3 a4 a5 a6
  unfold Dev.sendPacket
  repeat' first
    | (with_reducible assumption)
    | (with_reducible exact chg_refl _ _)
    | ((with_reducible apply Dev.enqueue_keep); exact rfl)
    | ((with_reducible apply Dev.inc_keep); exact rfl)
    | (with_reducible apply chg_ite)
    | (with_reducible apply chg_foldl)
    | (with_reducible apply chg_foldl_snd)
    | (with_reducible apply chg_ite_snd)
    | intro _ _ _
    | intro _
    | split
    | (dsimp -proj only)

theorem Dev.sendPacket_keep {t d0 d a1 a2 a3 a4 a5 a6} (hs : tablesIn [.regs, .fab] t = true) (hx : Dev.changesOnly t d0 d) : Dev.changesOnly t d0 (Dev.sendPacket d a1 a2 a3 a4 a5 a6) :=
  chg_step (Dev.sendPacket_chg _ _ _ _ _ _ _) hs hx

theorem Dev.sendService_chg : ∀ d a1 a2 a3 a4 a5 a6, Dev.changesOnly [.regs, .fab] d (Dev.sendService d a1 a2 a3 a4 a5 a6) := by
  intro d a1 a2 a3 a4 a5 a6
  unfold Dev.sendService
  repeat' first
    | (with_reducible assumption)
    | (with_reducible exact chg_refl _ _)
    | ((with_reducible apply Dev.sendPacket_keep); exact rfl)
    | (with_reducible apply chg_ite)
    | (with_reducible apply chg_foldl)
    | (with_reducible apply chg_foldl_snd)
    | (with_reducible apply chg_ite_snd)
    | intro _ _ _
    | intro _
    | split
    | (dsimp -proj only)

theorem Dev.sendService_keep {t d0 d a1 a2 a3 a4 a5 a6} (hs : tablesIn [.regs, .fab] t = true) (hx : Dev.changesOnly t d0 d) : Dev.changesOnly t d0 (Dev.sendService d a1 a2 a3 a4 a5 a6) :=
  chg_step (Dev.sendService_chg _ _ _ _ _ _ _) hs hx

theorem Dev.closeConn_chg : ∀ d a1, Dev.changesOnly [.regs, .fab, .tbn] d (Dev.closeConn d a1) := by
  intro d a1
  unfold Dev.closeConn
  repeat' first
    | (with_reducible assumption)
    | (with_reducible exact chg_refl _ _)
    | ((with_reducible apply Dev.dropConn_keep); exact rfl)
    | ((with_reducible apply Dev.sendService_keep); exact rfl)
    | (with_reducible apply chg_ite)
    | (with_reducible apply chg_foldl)
    | (with_reducible apply chg_foldl_snd)
    | (with_reducible apply chg_ite_snd)
    | intro _ _ _
    | intro _
    | split
    | (dsimp -proj only)

theorem Dev.closeConn_keep {t d0 d a1} (hs : tablesIn [.regs, .fab, .tbn] t = true) (hx : Dev.changesOnly t d0 d) : Dev.changesOnly t d0 (Dev.closeConn d a1) :=
  chg_step (Dev.closeConn_chg _ _) hs hx

theorem Dev.connRoom_chg : ∀ d  e, Dev.connRoom d  = some e → Dev.changesOnly [.regs, .fab, .tbn] d e := by
  intro d  e h
  unfold Dev.connRoom at h
  split at h
  · injection h with h; subst h; exact chg_refl _ _
  · cases hi : d.idleConn with
    | none => rw [hi] at h; contradiction
    | some c => rw [hi] at h; injection h with h; subst h; exact Dev.closeConn_keep (by exact rfl) (chg_refl _ _)

theorem Dev.connRoom_keep {t d0 d  e} (h : Dev.connRoom d  = some e) (hs : tablesIn [.regs, .fab, .tbn] t = true) (hx : Dev.changesOnly t d0 d) :
    Dev.changesOnly t d0 e :=
  chg_step (Dev.connRoom_chg _ _ h) hs hx

theorem Dev.newConn_chg : ∀ d a1, Dev.changesOnly [.regs, .tbn] d (Dev.newConn d a1).2 := by
  intro d a1
  unfold Dev.newConn
  repeat' first
    | (with_reducible assumption)
    | (with_reducible exact chg_refl _ _)
    | ((with_reducible apply Dev.setConn_keep); exact rfl)
    | ((with_reducible apply Dev.setTbn_keep); exact rfl)
    | (with_reducible apply chg_ite)
    | (with_reducible apply chg_foldl)
    | (with_reducible apply chg_foldl_snd)
    | (with_reducible apply chg_ite_snd)
    | intro _ _ _
    | intro _
    | split
    | (dsimp -proj only)

theorem Dev.newConn_chg_eq : ∀ d a1 x0 e, Dev.newConn d a1 = (x0, e) → Dev.changesOnly [.regs, .tbn] d e := by
  intro d a1 x0 e h
  have := Dev.newConn_chg d a1
  rw [h] at this
  exact this

theorem Dev.newConn_keep {t d0 d a1} (hs : tablesIn [.regs, .tbn] t = true) (hx : Dev.changesOnly t d0 d) : Dev.changesOnly t d0 ((Dev.newConn d a1).2) :=
  chg_step (Dev.newConn_chg _ _) hs hx

theorem Dev.newConn_keep_eq {t d0 d a1 x0 e} (h : Dev.newConn d a1 = (x0, e)) (hs : tablesIn [.regs, .tbn] t = true) (hx : Dev.changesOnly t d0 d) : Dev.changesOnly t d0 e :=
  chg_step (Dev.newConn_chg_eq _ _ _ _ h) hs hx

theorem Dev.incSat_chg : ∀ d a1 a2, Dev.changesOnly [.regs] d (Dev.incSat d a1 a2) := by
  intro d a1 a2
  unfold Dev.incSat
  repeat' first
    | (with_reducible assumption)
    | (with_reducible exact chg_refl _ _)
    | ((with_reducible apply Dev.wr_keep); exact rfl)
    | (with_reducible apply chg_ite)
    | (with_reducible apply chg_foldl)
    | (with_reducible apply chg_foldl_snd)
    | (with_reducible apply chg_ite_snd)
    | intro _ _ _
    | intro _
    | split
    | (dsimp -proj only)

theorem Dev.incSat_keep {t d0 d a1 a2} (hs : tablesIn [.regs] t = true) (hx : Dev.changesOnly t d0 d) : Dev.changesOnly t d0 (Dev.incSat d a1 a2) :=
  chg_step (Dev.incSat_chg _ _ _) hs hx

theorem Dev.resend_chg : ∀ d a1 a2 a3 e, Dev.resend d a1 a2 a3 = some e → Dev.changesOnly [.regs, .fab, .tbn] d e := by
  intro d a1 a2 a3 e h
  unfold Dev.resend at h
  repeat' first
    | contradiction
    | (injection h with h; subst h)
    | (injection h with h; injection h; subst_vars)
    | split at h
    | (dsimp -proj only at h)
    | (with_reducible assumption)
    | (with_reducible exact chg_refl _ _)
    | ((with_reducible apply Dev.incSat_keep); exact rfl)
    | ((with_reducible apply Dev.sendPacket_keep); exact rfl)
    | ((with_reducible apply Dev.setConn_keep); exact rfl)
    | (with_reducible apply chg_ite)
    | (with_reducible apply chg_foldl)
    | (with_reducible apply chg_foldl_snd)
    | (with_reducible apply chg_ite_snd)
    | intro _ _ _
    | intro _
    | split
    | (dsimp -proj only)

theorem Dev.resend_keep {t d0 d a1 a2 a3 e} (h : Dev.resend d a1 a2 a3 = some e) (hs : tablesIn [.regs, .fab, .tbn] t = true) (hx : Dev.changesOnly t d0 d) : Dev.changesOnly t d0 e :=
  chg_step (Dev.resend_chg _ _ _ _ _ h) hs hx

theorem Dev.sendNext_chg : ∀ d a1 a2 a3 e, Dev.sendNext d a1 a2 a3 = some e → Dev.changesOnly [.regs, .fab, .tbn] d e := by
  intro d a1 a2 a3 e h
  unfold Dev.sendNext at h
  repeat' first
    | contradiction
    | (injection h with h; subst h)
    | (injection h with h; injection h; subst_vars)
    | split at h
    | (dsimp -proj only at h)
    | (with_reducible assumption)
    | (with_reducible exact chg_refl _ _)
    | ((with_reducible apply Dev.sendPacket_keep); exact rfl)
    | ((with_reducible apply Dev.setConn_keep); exact rfl)
    | (with_reducible apply chg_ite)
    | (with_reducible apply chg_foldl)
    | (with_reducible apply chg_foldl_snd)
    | (with_reducible apply chg_ite_snd)
    | intro _ _ _
    | intro _
    | split
    | (dsimp -proj only)

theorem Dev.sendNext_keep {t d0 d a1 a2 a3 e} (h : Dev.sendNext d a1 a2 a3 = some e) (hs : tablesIn [.regs, .fab, .tbn] t = true) (hx : Dev.changesOnly t d0 d) : Dev.changesOnly t d0 e :=
  chg_step (Dev.sendNext_chg _ _ _ _ _ h) hs hx

theorem Dev.pumpGo_chg : ∀ n d c, Dev.changesOnly [.regs, .fab, .tbn] d (Dev.pumpGo n d c)
  | 0, d, c => chg_refl _ _
  | n + 1, d, c => by
    have ih := Dev.pumpGo_chg n
    unfold Dev.pumpGo
    repeat' first
    | (refine chg_step (ih _ _) rfl ?_)
    | (with_reducible assumption)
    | (with_reducible exact chg_refl _ _)
    | (refine Dev.resend_keep (by with_reducible assumption) rfl ?_)
    | (refine Dev.sendNext_keep (by with_reducible assumption) rfl ?_)
    | (with_reducible apply chg_ite)
    | (with_reducible apply chg_foldl)
    | (with_reducible apply chg_foldl_snd)
    | (with_reducible apply chg_ite_snd)
    | intro _ _ _
    | intro _
    | split
    | (dsimp -proj only)

theorem Dev.pumpGo_keep {t d0 n d c} (hs : tablesIn [.regs, .fab, .tbn] t = true) (hx : Dev.changesOnly t d0 d) : Dev.changesOnly t d0 (Dev.pumpGo n d c) :=
  chg_step (Dev.pumpGo_chg n _ _) hs hx

theorem Dev.pump_chg : ∀ d a1, Dev.changesOnly [.regs, .fab, .tbn] d (Dev.pump d a1) := by
  intro d a1
  unfold Dev.pump
  repeat' first
    | (with_reducible assumption)
    | (with_reducible exact chg_refl _ _)
    | ((with_reducible apply Dev.pumpGo_keep); exact rfl)
    | (with_reducible apply chg_ite)
    | (with_reducible apply chg_foldl)
    | (with_reducible apply chg_foldl_snd)
    | (with_reducible apply chg_ite_snd)
    | intro _ _ _
    | intro _
    | split
    | (dsimp -proj only)

theorem Dev.pump_keep {t d0 d a1} (hs : tablesIn [.regs, .fab, .tbn] t = true) (hx : Dev.changesOnly t d0 d) : Dev.changesOnly t d0 (Dev.pump d a1) :=
  chg_step (Dev.pump_chg _ _) hs hx

theorem Dev.sendByPort_chg : ∀ d a1 a2 a3 a4 a5, Dev.changesOnly [.regs, .fab] d (Dev.sendByPort d a1 a2 a3 a4 a5) := by
  intro d a1 a2 a3 a4 a5
  unfold Dev.sendByPort
  repeat' first
    | (with_reducible assumption)
    | (with_reducible exact chg_refl _ _)
    | ((with_reducible apply Dev.sendPacket_keep); exact rfl)
    | (with_reducible apply chg_ite)
    | (with_reducible apply chg_foldl)
    | (with_reducible apply chg_foldl_snd)
    | (with_reducible apply chg_ite_snd)
    | intro _ _ _
    | intro _
    | split
    | (dsimp -proj only)

theorem Dev.sendByPort_keep {t d0 d a1 a2 a3 a4 a5} (hs : tablesIn [.regs, .fab] t = true) (hx : Dev.changesOnly t d0 d) : Dev.changesOnly t d0 (Dev.sendByPort d a1 a2 a3 a4 a5) :=
  chg_step (Dev.sendByPort_chg _ _ _ _ _ _) hs hx

theorem Dev.sendHello_chg : ∀ d a1, Dev.changesOnly [.regs, .fab, .tbn] d (Dev.sendHello d a1) := by
  intro d a1
  unfold Dev.sendHello
  repeat' first
    | (with_reducible assumption)
    | (with_reducible exact chg_refl _ _)
    | ((with_reducible apply Dev.sendByPort_keep); exact rfl)
    | ((with_reducible apply Dev.setConn_keep); exact rfl)
    | (with_reducible apply chg_ite)
    | (with_reducible apply chg_foldl)
    | (with_reducible apply chg_foldl_snd)
    | (with_reducible apply chg_ite_snd)
    | intro _ _ _
    | intro _
    | split
    | (dsimp -proj only)

theorem Dev.sendHello_keep {t d0 d a1} (hs : tablesIn [.regs, .fab, .tbn] t = true) (hx : Dev.changesOnly t d0 d) : Dev.changesOnly t d0 (Dev.sendHello d a1) :=
  chg_step (Dev.sendHello_chg _ _) hs hx

theorem Dev.post_chg : ∀ d a1 a2 a3 a4, Dev.changesOnly [.regs, .log, .logSeq, .evt, .fab, .tbn] d (Dev.post d a1 a2 a3 a4) := by
  intro d a1 a2 a3 a4
  unfold Dev.post
  repeat' first
    | (with_reducible assumption)
    | (with_reducible exact chg_refl _ _)
    | (refine Dev.connRoom_keep (by with_reducible assumption) rfl ?_)
    | ((with_reducible apply Dev.newConn_keep); exact rfl)
    | (refine Dev.newConn_keep_eq (by with_reducible assumption) rfl ?_)
    | ((with_reducible apply Dev.pump_keep); exact rfl)
    | ((with_reducible apply Dev.raise_keep); exact rfl)
    | ((with_reducible apply Dev.sendHello_keep); exact rfl)
    | ((with_reducible apply Dev.setConn_keep); exact rfl)
    | ((with_reducible apply Dev.setTbn_keep); exact rfl)
    | (with_reducible apply chg_ite)
    | (with_reducible apply chg_foldl)
    | (with_reducible apply chg_foldl_snd)
    | (with_reducible apply chg_ite_snd)
    | intro _ _ _
    | intro _
    | split
    | (dsimp -proj only)

theorem Dev.post_keep {t d0 d a1 a2 a3 a4} (hs : tablesIn [.regs, .log, .logSeq, .evt, .fab, .tbn] t = true) (hx : Dev.changesOnly t d0 d) : Dev.changesOnly t d0 (Dev.post d a1 a2 a3 a4) :=
  chg_step (Dev.post_chg _ _ _ _ _) hs hx

theorem Dev.sixAlloc_chg : ∀ d a1 a2 a3 a4 a5 a6 x0 e, Dev.sixAlloc d a1 a2 a3 a4 a5 a6 = some (x0, e) → Dev.changesOnly [.regs, .six, .out] d e := by
  intro d a1 a2 a3 a4 a5 a6 x0 e h
  unfold Dev.sixAlloc at h
  repeat' first
    | contradiction
    | (injection h with h; subst h)
    | (injection h with h; injection h; subst_vars)
    | split at h
    | (dsimp -proj only at h)
    | (with_reducible assumption)
    | (with_reducible exact chg_refl _ _)
    | ((with_reducible apply Dev.hostWrite_keep); exact rfl)
    | ((with_reducible apply Dev.setSix_keep); exact rfl)
    | ((with_reducible apply Dev.sixCount_keep); exact rfl)
    | ((with_reducible apply Dev.wr_keep); exact rfl)
    | (with_reducible apply chg_ite)
    | (with_reducible apply chg_foldl)
    | (with_reducible apply chg_foldl_snd)
    | (with_reducible apply chg_ite_snd)
    | intro _ _ _
    | intro _
    | split
    | (dsimp -proj only)

theorem Dev.sixAlloc_keep {t d0 d a1 a2 a3 a4 a5 a6 x0 e} (h : Dev.sixAlloc d a1 a2 a3 a4 a5 a6 = some (x0, e)) (hs : tablesIn [.regs, .six, .out] t = true) (hx : Dev.changesOnly t d0 d) : Dev.changesOnly t d0 e :=
  chg_step (Dev.sixAlloc_chg _ _ _ _ _ _ _ _ _ h) hs hx

theorem Dev.postCtrl_chg : ∀ d a1 a2 a3, Dev.changesOnly [.regs, .log, .logSeq, .six, .evt, .out, .fab, .tbn] d (Dev.postCtrl d a1 a2 a3) := by
  intro d a1 a2 a3
  unfold Dev.postCtrl
  repeat' first
    | (with_reducible assumption)
    | (with_reducible exact chg_refl _ _)
    | ((with_reducible apply Dev.newMsg_keep); exact rfl)
    | (refine Dev.newMsg_keep_eq (by with_reducible assumption) rfl ?_)
    | ((with_reducible apply Dev.post_keep); exact rfl)
    | (refine Dev.sixAlloc_keep (by with_reducible assumption) rfl ?_)
    | (with_reducible apply chg_ite)
    | (with_reducible apply chg_foldl)
    | (with_reducible apply chg_foldl_snd)
    | (with_reducible apply chg_ite_snd)
    | intro _ _ _
    | intro _
    | split
    | (dsimp -proj only)

theorem Dev.postCtrl_keep {t d0 d a1 a2 a3} (hs : tablesIn [.regs, .log, .logSeq, .six, .evt, .out, .fab, .tbn] t = true) (hx : Dev.changesOnly t d0 d) : Dev.changesOnly t d0 (Dev.postCtrl d a1 a2 a3) :=
  chg_step (Dev.postCtrl_chg _ _ _ _) hs hx

theorem Dev.sendCtrl_chg : ∀ d a1 a2 a3, Dev.changesOnly [.regs, .log, .logSeq, .six, .evt, .out, .fab, .tbn] d (Dev.sendCtrl d a1 a2 a3) := by
  intro d a1 a2 a3
  unfold Dev.sendCtrl
  repeat' first
    | (with_reducible assumption)
    | (with_reducible exact chg_refl _ _)
    | ((with_reducible apply Dev.postCtrl_keep); exact rfl)
    | (with_reducible apply chg_ite)
    | (with_reducible apply chg_foldl)
    | (with_reducible apply chg_foldl_snd)
    | (with_reducible apply chg_ite_snd)
    | intro _ _ _
    | intro _
    | split
    | (dsimp -proj only)

theorem Dev.sendCtrl_keep {t d0 d a1 a2 a3} (hs : tablesIn [.regs, .log, .logSeq, .six, .evt, .out, .fab, .tbn] t = true) (hx : Dev.changesOnly t d0 d) : Dev.changesOnly t d0 (Dev.sendCtrl d a1 a2 a3) :=
  chg_step (Dev.sendCtrl_chg _ _ _ _) hs hx

theorem Dev.sendLdg_chg : ∀ d a1 a2 a3, Dev.changesOnly [.regs, .log, .logSeq, .six, .evt, .out, .fab, .tbn] d (Dev.sendLdg d a1 a2 a3) := by
  intro d a1 a2 a3
  unfold Dev.sendLdg
  repeat' first
    | (with_reducible assumption)
    | (with_reducible exact chg_refl _ _)
    | ((with_reducible apply Dev.sendCtrl_keep); exact rfl)
    | (with_reducible apply chg_ite)
    | (with_reducible apply chg_foldl)
    | (with_reducible apply chg_foldl_snd)
    | (with_reducible apply chg_ite_snd)
    | intro _ _ _
    | intro _
    | split
    | (dsimp -proj only)

theorem Dev.sendLdg_keep {t d0 d a1 a2 a3} (hs : tablesIn [.regs, .log, .logSeq, .six, .evt, .out, .fab, .tbn] t = true) (hx : Dev.changesOnly t d0 d) : Dev.changesOnly t d0 (Dev.sendLdg d a1 a2 a3) :=
  chg_step (Dev.sendLdg_chg _ _ _ _) hs hx

theorem Dev.decide__chg : ∀ d a1 a2 a3 a4 a5, Dev.changesOnly [.regs, .t0, .t1, .log, .logSeq, .six, .evt, .kqp, .out, .tir, .mkt, .ldg, .acr, .col, .fab, .tbn] d (Dev.decide_ d a1 a2 a3 a4 a5) := by
  intro d a1 a2 a3 a4 a5
  unfold Dev.decide_
  repeat' first
    | (with_reducible assumption)
    | (with_reducible exact chg_refl _ _)
    | ((with_reducible apply Dev.abortAttempt_keep); exact rfl)
    | ((with_reducible apply Dev.sendLdg_keep); exact rfl)
    | ((with_reducible apply Dev.setJob_keep); exact rfl)
    | ((with_reducible apply Dev.updNewest_keep); exact rfl)
    | (with_reducible apply chg_ite)
    | (with_reducible apply chg_foldl)
    | (with_reducible apply chg_foldl_snd)
    | (with_reducible apply chg_ite_snd)
    | intro _ _ _
    | intro _
    | split
    | (dsimp -proj only)

theorem Dev.decide__keep {t d0 d a1 a2 a3 a4 a5} (hs : tablesIn [.regs, .t0, .t1, .log, .logSeq, .six, .evt, .kqp, .out, .tir, .mkt, .ldg, .acr, .col, .fab, .tbn] t = true) (hx : Dev.changesOnly t d0 d) : Dev.changesOnly t d0 (Dev.decide_ d a1 a2 a3 a4 a5) :=
  chg_step (Dev.decide__chg _ _ _ _ _ _) hs hx

theorem Dev.supersede_chg : ∀ d a1, Dev.changesOnly [.regs, .log, .logSeq, .evt] d (Dev.supersede d a1) := by
  intro d a1
  unfold Dev.supersede
  repeat' first
    | (with_reducible assumption)
    | (with_reducible exact chg_refl _ _)
    | ((with_reducible apply Dev.raiseLdg_keep); exact rfl)
    | ((with_reducible apply Dev.setJobSt_keep); exact rfl)
    | (with_reducible apply chg_ite)
    | (with_reducible apply chg_foldl)
    | (with_reducible apply chg_foldl_snd)
    | (with_reducible apply chg_ite_snd)
    | intro _ _ _
    | intro _
    | split
    | (dsimp -proj only)

theorem Dev.supersede_keep {t d0 d a1} (hs : tablesIn [.regs, .log, .logSeq, .evt] t = true) (hx : Dev.changesOnly t d0 d) : Dev.changesOnly t d0 (Dev.supersede d a1) :=
  chg_step (Dev.supersede_chg _ _) hs hx

theorem Dev.memberGone_chg : ∀ d a1, Dev.changesOnly [.regs, .t0, .t1, .log, .logSeq, .six, .evt, .kqp, .out, .tir, .mkt, .ldg, .acr, .col, .fab, .tbn] d (Dev.memberGone d a1) := by
  intro d a1
  unfold Dev.memberGone
  repeat' first
    | (with_reducible assumption)
    | (with_reducible exact chg_refl _ _)
    | ((with_reducible apply Dev.decide__keep); exact rfl)
    | ((with_reducible apply Dev.stepFailure_keep); exact rfl)
    | ((with_reducible apply Dev.supersede_keep); exact rfl)
    | (with_reducible apply chg_ite)
    | (with_reducible apply chg_foldl)
    | (with_reducible apply chg_foldl_snd)
    | (with_reducible apply chg_ite_snd)
    | intro _ _ _
    | intro _
    | split
    | (dsimp -proj only)

theorem Dev.memberGone_keep {t d0 d a1} (hs : tablesIn [.regs, .t0, .t1, .log, .logSeq, .six, .evt, .kqp, .out, .tir, .mkt, .ldg, .acr, .col, .fab, .tbn] t = true) (hx : Dev.changesOnly t d0 d) : Dev.changesOnly t d0 (Dev.memberGone d a1) :=
  chg_step (Dev.memberGone_chg _ _) hs hx

theorem Dev.applyEntry_chg : ∀ d a1, Dev.changesOnly [.regs, .t0, .t1, .log, .logSeq, .six, .evt, .kqp, .out, .tir, .mkt, .ldg, .wset, .acr, .col, .fab, .tbn] d (Dev.applyEntry d a1) := by
  intro d a1
  unfold Dev.applyEntry
  repeat' first
    | (with_reducible assumption)
    | (with_reducible exact chg_refl _ _)
    | ((with_reducible apply Dev.losePeer_keep); exact rfl)
    | ((with_reducible apply Dev.memberGone_keep); exact rfl)
    | ((with_reducible apply Dev.raise_keep); exact rfl)
    | ((with_reducible apply Dev.setCol_keep); exact rfl)
    | (with_reducible apply chg_ite)
    | (with_reducible apply chg_foldl)
    | (with_reducible apply chg_foldl_snd)
    | (with_reducible apply chg_ite_snd)
    | intro _ _ _
    | intro _
    | split
    | (dsimp -proj only)

theorem Dev.applyEntry_keep {t d0 d a1} (hs : tablesIn [.regs, .t0, .t1, .log, .logSeq, .six, .evt, .kqp, .out, .tir, .mkt, .ldg, .wset, .acr, .col, .fab, .tbn] t = true) (hx : Dev.changesOnly t d0 d) : Dev.changesOnly t d0 (Dev.applyEntry d a1) :=
  chg_step (Dev.applyEntry_chg _ _) hs hx

theorem Dev.chooseNeighbour_chg : ∀ d a1, Dev.changesOnly [.regs, .log, .logSeq, .evt] d (Dev.chooseNeighbour d a1) := by
  intro d a1
  unfold Dev.chooseNeighbour
  repeat' first
    | (with_reducible assumption)
    | (with_reducible exact chg_refl _ _)
    | ((with_reducible apply Dev.raiseLdg_keep); exact rfl)
    | ((with_reducible apply Dev.wr_keep); exact rfl)
    | (with_reducible apply chg_ite)
    | (with_reducible apply chg_foldl)
    | (with_reducible apply chg_foldl_snd)
    | (with_reducible apply chg_ite_snd)
    | intro _ _ _
    | intro _
    | split
    | (dsimp -proj only)

theorem Dev.chooseNeighbour_keep {t d0 d a1} (hs : tablesIn [.regs, .log, .logSeq, .evt] t = true) (hx : Dev.changesOnly t d0 d) : Dev.changesOnly t d0 (Dev.chooseNeighbour d a1) :=
  chg_step (Dev.chooseNeighbour_chg _ _) hs hx

theorem Dev.applyGroup_chg : ∀ d a1, Dev.changesOnly [.regs, .col] d (Dev.applyGroup d a1) := by
  intro d a1
  unfold Dev.applyGroup
  repeat' first
    | (with_reducible assumption)
    | (with_reducible exact chg_refl _ _)
    | ((with_reducible apply Dev.setCol_keep); exact rfl)
    | ((with_reducible apply Dev.setFlag_keep); exact rfl)
    | ((with_reducible apply Dev.wr_keep); exact rfl)
    | (with_reducible apply chg_ite)
    | (with_reducible apply chg_foldl)
    | (with_reducible apply chg_foldl_snd)
    | (with_reducible apply chg_ite_snd)
    | intro _ _ _
    | intro _
    | split
    | (dsimp -proj only)

theorem Dev.applyGroup_keep {t d0 d a1} (hs : tablesIn [.regs, .col] t = true) (hx : Dev.changesOnly t d0 d) : Dev.changesOnly t d0 (Dev.applyGroup d a1) :=
  chg_step (Dev.applyGroup_chg _ _) hs hx

theorem Dev.applyGroups_chg : ∀ d a1, Dev.changesOnly [.regs, .col] d (Dev.applyGroups d a1) := by
  intro d a1
  unfold Dev.applyGroups
  repeat' first
    | (with_reducible assumption)
    | (with_reducible exact chg_refl _ _)
    | ((with_reducible apply Dev.applyGroup_keep); exact rfl)
    | (with_reducible apply chg_ite)
    | (with_reducible apply chg_foldl)
    | (with_reducible apply chg_foldl_snd)
    | (with_reducible apply chg_ite_snd)
    | intro _ _ _
    | intro _
    | split
    | (dsimp -proj only)

theorem Dev.applyGroups_keep {t d0 d a1} (hs : tablesIn [.regs, .col] t = true) (hx : Dev.changesOnly t d0 d) : Dev.changesOnly t d0 (Dev.applyGroups d a1) :=
  chg_step (Dev.applyGroups_chg _ _) hs hx

theorem Dev.substGroups_chg : ∀ d a1 a2, Dev.changesOnly [.regs, .col] d (Dev.substGroups d a1 a2) := by
  intro d a1 a2
  unfold Dev.substGroups
  repeat' first
    | (with_reducible assumption)
    | (with_reducible exact chg_refl _ _)
    | ((with_reducible apply Dev.applyGroups_keep); exact rfl)
    | ((with_reducible apply Dev.setCol_keep); exact rfl)
    | ((with_reducible apply Dev.wr64_keep); exact rfl)
    | (with_reducible apply chg_ite)
    | (with_reducible apply chg_foldl)
    | (with_reducible apply chg_foldl_snd)
    | (with_reducible apply chg_ite_snd)
    | intro _ _ _
    | intro _
    | split
    | (dsimp -proj only)

theorem Dev.substGroups_keep {t d0 d a1 a2} (hs : tablesIn [.regs, .col] t = true) (hx : Dev.changesOnly t d0 d) : Dev.changesOnly t d0 (Dev.substGroups d a1 a2) :=
  chg_step (Dev.substGroups_chg _ _ _) hs hx

theorem Dev.dueWakeDone_chg : ∀ d, Dev.changesOnly [.regs, .col] d (Dev.dueWakeDone d) := by
  intro d
  unfold Dev.dueWakeDone
  repeat' first
    | (with_reducible assumption)
    | (with_reducible exact chg_refl _ _)
    | ((with_reducible apply Dev.setCol_keep); exact rfl)
    | ((with_reducible apply Dev.substGroups_keep); exact rfl)
    | (with_reducible apply chg_ite)
    | (with_reducible apply chg_foldl)
    | (with_reducible apply chg_foldl_snd)
    | (with_reducible apply chg_ite_snd)
    | intro _ _ _
    | intro _
    | split
    | (dsimp -proj only)

theorem Dev.dueWakeDone_keep {t d0 d} (hs : tablesIn [.regs, .col] t = true) (hx : Dev.changesOnly t d0 d) : Dev.changesOnly t d0 (Dev.dueWakeDone d) :=
  chg_step (Dev.dueWakeDone_chg _) hs hx

theorem Dev.showRoster_chg : ∀ d a1, Dev.changesOnly [.regs, .col] d (Dev.showRoster d a1) := by
  intro d a1
  unfold Dev.showRoster
  repeat' first
    | (with_reducible assumption)
    | (with_reducible exact chg_refl _ _)
    | ((with_reducible apply Dev.setCol_keep); exact rfl)
    | ((with_reducible apply Dev.wr_keep); exact rfl)
    | ((with_reducible apply Dev.wr64_keep); exact rfl)
    | (with_reducible apply chg_ite)
    | (with_reducible apply chg_foldl)
    | (with_reducible apply chg_foldl_snd)
    | (with_reducible apply chg_ite_snd)
    | intro _ _ _
    | intro _
    | split
    | (dsimp -proj only)

theorem Dev.showRoster_keep {t d0 d a1} (hs : tablesIn [.regs, .col] t = true) (hx : Dev.changesOnly t d0 d) : Dev.changesOnly t d0 (Dev.showRoster d a1) :=
  chg_step (Dev.showRoster_chg _ _) hs hx

theorem Dev.rosterChanged_chg : ∀ d a1 a2, Dev.changesOnly [.regs, .log, .logSeq, .evt, .col] d (Dev.rosterChanged d a1 a2) := by
  intro d a1 a2
  unfold Dev.rosterChanged
  repeat' first
    | (with_reducible assumption)
    | ((with_reducible apply Dev.setCol_keep); exact rfl)
    | (with_reducible exact chg_refl _ _)
    | ((with_reducible apply Dev.chooseNeighbour_keep); exact rfl)
    | ((with_reducible apply Dev.dueWakeDone_keep); exact rfl)
    | ((with_reducible apply Dev.raise_keep); exact rfl)
    | ((with_reducible apply Dev.showRoster_keep); exact rfl)
    | ((with_reducible apply Dev.wr_keep); exact rfl)
    | (with_reducible apply chg_ite)
    | (with_reducible apply chg_foldl)
    | (with_reducible apply chg_foldl_snd)
    | (with_reducible apply chg_ite_snd)
    | intro _ _ _
    | intro _
    | split
    | (dsimp -proj only)

theorem Dev.rosterChanged_keep {t d0 d a1 a2} (hs : tablesIn [.regs, .log, .logSeq, .evt, .col] t = true) (hx : Dev.changesOnly t d0 d) : Dev.changesOnly t d0 (Dev.rosterChanged d a1 a2) :=
  chg_step (Dev.rosterChanged_chg _ _ _) hs hx

theorem Dev.keeperChange_chg : ∀ d a1, Dev.changesOnly [.regs, .t0, .t1, .log, .logSeq, .six, .evt, .kqp, .out, .tir, .mkt, .ldg, .wset, .acr, .col, .fab, .tbn] d (Dev.keeperChange d a1) := by
  intro d a1
  unfold Dev.keeperChange
  repeat' first
    | (with_reducible assumption)
    | (with_reducible exact chg_refl _ _)
    | ((with_reducible apply Dev.applyEntry_keep); exact rfl)
    | ((with_reducible apply Dev.rosterChanged_keep); exact rfl)
    | ((with_reducible apply Dev.sendCtrl_keep); exact rfl)
    | (with_reducible apply chg_ite)
    | (with_reducible apply chg_foldl)
    | (with_reducible apply chg_foldl_snd)
    | (with_reducible apply chg_ite_snd)
    | intro _ _ _
    | intro _
    | split
    | (dsimp -proj only)

theorem Dev.keeperChange_keep {t d0 d a1} (hs : tablesIn [.regs, .t0, .t1, .log, .logSeq, .six, .evt, .kqp, .out, .tir, .mkt, .ldg, .wset, .acr, .col, .fab, .tbn] t = true) (hx : Dev.changesOnly t d0 d) : Dev.changesOnly t d0 (Dev.keeperChange d a1) :=
  chg_step (Dev.keeperChange_chg _ _) hs hx

theorem Dev.changeRec_chg : ∀ d a1 a2, Dev.changesOnly [.regs, .t0, .t1, .log, .logSeq, .six, .evt, .kqp, .out, .tir, .mkt, .ldg, .wset, .acr, .col, .fab, .tbn] d (Dev.changeRec d a1 a2) := by
  intro d a1 a2
  unfold Dev.changeRec
  repeat' first
    | (with_reducible assumption)
    | (with_reducible exact chg_refl _ _)
    | ((with_reducible apply Dev.keeperChange_keep); exact rfl)
    | (with_reducible apply chg_ite)
    | (with_reducible apply chg_foldl)
    | (with_reducible apply chg_foldl_snd)
    | (with_reducible apply chg_ite_snd)
    | intro _ _ _
    | intro _
    | split
    | (dsimp -proj only)

theorem Dev.changeRec_keep {t d0 d a1 a2} (hs : tablesIn [.regs, .t0, .t1, .log, .logSeq, .six, .evt, .kqp, .out, .tir, .mkt, .ldg, .wset, .acr, .col, .fab, .tbn] t = true) (hx : Dev.changesOnly t d0 d) : Dev.changesOnly t d0 (Dev.changeRec d a1 a2) :=
  chg_step (Dev.changeRec_chg _ _ _) hs hx

theorem Dev.wakeFrames_chg : ∀ d a1, Dev.changesOnly [.fab] d (Dev.wakeFrames d a1) := by
  intro d a1
  unfold Dev.wakeFrames
  repeat' first
    | (with_reducible assumption)
    | (with_reducible exact chg_refl _ _)
    | ((with_reducible apply Dev.enqueue_keep); exact rfl)
    | (with_reducible apply chg_ite)
    | (with_reducible apply chg_foldl)
    | (with_reducible apply chg_foldl_snd)
    | (with_reducible apply chg_ite_snd)
    | intro _ _ _
    | intro _
    | split
    | (dsimp -proj only)

theorem Dev.wakeFrames_keep {t d0 d a1} (hs : tablesIn [.fab] t = true) (hx : Dev.changesOnly t d0 d) : Dev.changesOnly t d0 (Dev.wakeFrames d a1) :=
  chg_step (Dev.wakeFrames_chg _ _) hs hx

theorem Dev.wakeSpare_chg : ∀ d a1 a2, Dev.changesOnly [.regs, .t0, .t1, .log, .logSeq, .six, .evt, .kqp, .out, .tir, .mkt, .ldg, .wset, .acr, .col, .fab, .tbn] d (Dev.wakeSpare d a1 a2) := by
  intro d a1 a2
  unfold Dev.wakeSpare
  repeat' first
    | (with_reducible assumption)
    | (with_reducible exact chg_refl _ _)
    | ((with_reducible apply Dev.changeRec_keep); exact rfl)
    | ((with_reducible apply Dev.raise_keep); exact rfl)
    | ((with_reducible apply Dev.setCol_keep); exact rfl)
    | ((with_reducible apply Dev.wakeFrames_keep); exact rfl)
    | (with_reducible apply chg_ite)
    | (with_reducible apply chg_foldl)
    | (with_reducible apply chg_foldl_snd)
    | (with_reducible apply chg_ite_snd)
    | intro _ _ _
    | intro _
    | split
    | (dsimp -proj only)

theorem Dev.wakeSpare_keep {t d0 d a1 a2} (hs : tablesIn [.regs, .t0, .t1, .log, .logSeq, .six, .evt, .kqp, .out, .tir, .mkt, .ldg, .wset, .acr, .col, .fab, .tbn] t = true) (hx : Dev.changesOnly t d0 d) : Dev.changesOnly t d0 (Dev.wakeSpare d a1 a2) :=
  chg_step (Dev.wakeSpare_chg _ _ _) hs hx

theorem Dev.nextSubst_chg : ∀ d, Dev.changesOnly [.regs, .t0, .t1, .log, .logSeq, .six, .evt, .kqp, .out, .tir, .mkt, .ldg, .wset, .acr, .col, .fab, .tbn] d (Dev.nextSubst d) := by
  intro d
  unfold Dev.nextSubst
  repeat' first
    | (with_reducible assumption)
    | (with_reducible exact chg_refl _ _)
    | ((with_reducible apply Dev.raise_keep); exact rfl)
    | ((with_reducible apply Dev.setCol_keep); exact rfl)
    | ((with_reducible apply Dev.wakeSpare_keep); exact rfl)
    | (with_reducible apply chg_ite)
    | (with_reducible apply chg_foldl)
    | (with_reducible apply chg_foldl_snd)
    | (with_reducible apply chg_ite_snd)
    | intro _ _ _
    | intro _
    | split
    | (dsimp -proj only)

theorem Dev.nextSubst_keep {t d0 d} (hs : tablesIn [.regs, .t0, .t1, .log, .logSeq, .six, .evt, .kqp, .out, .tir, .mkt, .ldg, .wset, .acr, .col, .fab, .tbn] t = true) (hx : Dev.changesOnly t d0 d) : Dev.changesOnly t d0 (Dev.nextSubst d) :=
  chg_step (Dev.nextSubst_chg _) hs hx

theorem Dev.sendFull_chg : ∀ d a1, Dev.changesOnly [.regs, .log, .logSeq, .six, .evt, .out, .fab, .tbn] d (Dev.sendFull d a1) := by
  intro d a1
  unfold Dev.sendFull
  repeat' first
    | (with_reducible assumption)
    | (with_reducible exact chg_refl _ _)
    | ((with_reducible apply Dev.sendCtrl_keep); exact rfl)
    | (with_reducible apply chg_ite)
    | (with_reducible apply chg_foldl)
    | (with_reducible apply chg_foldl_snd)
    | (with_reducible apply chg_ite_snd)
    | intro _ _ _
    | intro _
    | split
    | (dsimp -proj only)

theorem Dev.sendFull_keep {t d0 d a1} (hs : tablesIn [.regs, .log, .logSeq, .six, .evt, .out, .fab, .tbn] t = true) (hx : Dev.changesOnly t d0 d) : Dev.changesOnly t d0 (Dev.sendFull d a1) :=
  chg_step (Dev.sendFull_chg _ _) hs hx

theorem Dev.sendLive_chg : ∀ d a1, Dev.changesOnly [.regs, .log, .logSeq, .six, .evt, .out, .fab, .tbn] d (Dev.sendLive d a1) := by
  intro d a1
  unfold Dev.sendLive
  repeat' first
    | (with_reducible assumption)
    | (with_reducible exact chg_refl _ _)
    | ((with_reducible apply Dev.sendCtrl_keep); exact rfl)
    | (with_reducible apply chg_ite)
    | (with_reducible apply chg_foldl)
    | (with_reducible apply chg_foldl_snd)
    | (with_reducible apply chg_ite_snd)
    | intro _ _ _
    | intro _
    | split
    | (dsimp -proj only)

theorem Dev.sendLive_keep {t d0 d a1} (hs : tablesIn [.regs, .log, .logSeq, .six, .evt, .out, .fab, .tbn] t = true) (hx : Dev.changesOnly t d0 d) : Dev.changesOnly t d0 (Dev.sendLive d a1) :=
  chg_step (Dev.sendLive_chg _ _) hs hx

theorem Dev.enrol_chg : ∀ d a1, Dev.changesOnly [.regs, .t0, .t1, .log, .logSeq, .six, .evt, .kqp, .out, .tir, .mkt, .ldg, .wset, .acr, .col, .fab, .tbn] d (Dev.enrol d a1) := by
  intro d a1
  unfold Dev.enrol
  repeat' first
    | (with_reducible assumption)
    | (with_reducible exact chg_refl _ _)
    | ((with_reducible apply Dev.keeperChange_keep); exact rfl)
    | ((with_reducible apply Dev.nextSubst_keep); exact rfl)
    | ((with_reducible apply Dev.sendCtrl_keep); exact rfl)
    | ((with_reducible apply Dev.sendFull_keep); exact rfl)
    | ((with_reducible apply Dev.sendLive_keep); exact rfl)
    | ((with_reducible apply Dev.setCol_keep); exact rfl)
    | ((with_reducible apply Dev.wr_keep); exact rfl)
    | (with_reducible apply chg_ite)
    | (with_reducible apply chg_foldl)
    | (with_reducible apply chg_foldl_snd)
    | (with_reducible apply chg_ite_snd)
    | intro _ _ _
    | intro _
    | split
    | (dsimp -proj only)

theorem Dev.enrol_keep {t d0 d a1} (hs : tablesIn [.regs, .t0, .t1, .log, .logSeq, .six, .evt, .kqp, .out, .tir, .mkt, .ldg, .wset, .acr, .col, .fab, .tbn] t = true) (hx : Dev.changesOnly t d0 d) : Dev.changesOnly t d0 (Dev.enrol d a1) :=
  chg_step (Dev.enrol_chg _ _) hs hx

theorem Dev.newRegion_chg : ∀ d r i b e, Dev.newRegion d r = some (i, b, e) → Dev.changesOnly [.regs, .mkt] d e := by
  intro d r i b e h
  unfold Dev.newRegion at h
  split at h
  · split at h
    · simp only [Option.some.injEq, Prod.mk.injEq] at h
      obtain ⟨_, _, rfl⟩ := h
      exact Dev.inc_keep (by exact rfl) (Dev.setMkt_keep (by exact rfl) (chg_refl _ _))
    · contradiction
  · contradiction

theorem Dev.newRegion_keep {t d0 d r i b e} (h : Dev.newRegion d r = some (i, b, e)) (hs : tablesIn [.regs, .mkt] t = true) (hx : Dev.changesOnly t d0 d) :
    Dev.changesOnly t d0 e :=
  chg_step (Dev.newRegion_chg _ _ _ _ _ h) hs hx

end Sys2Proof.Machine
end

