-- ==== Sys2Proof/Laws/FrameOps2.lean ====
section
/-! SUPPORT. Frames of the shared operations, part 2 of 6, callees before callers: `<op>_chg` names every table the operation may change, and
`<op>_keep` carries a frame through it (`_keep_eq` where it answers a value beside the device); a caller cites them and does not unfold. -/

namespace Sys2Proof.Machine

theorem Dev.alloc0_chg : ∀ d a1 a2 a3 e, Dev.alloc0 d a1 a2 a3 = some e → Dev.changesOnly [.regs, .tir, .mkt] d e := by
  intro d a1 a2 a3 e h
  unfold Dev.alloc0 at h
  repeat' first
    | contradiction
    | (injection h with h; subst h)
    | (injection h with h; injection h; subst_vars)
    | split at h
    | (dsimp -proj only at h)
    | (with_reducible assumption)
    | (with_reducible exact chg_refl _ _)
    | (refine Dev.newRegion_keep (by with_reducible assumption) rfl ?_)
    | ((with_reducible apply Dev.setUnit_keep); exact rfl)
    | (with_reducible apply chg_ite)
    | (with_reducible apply chg_foldl)
    | (with_reducible apply chg_foldl_snd)
    | (with_reducible apply chg_ite_snd)
    | intro _ _ _
    | intro _
    | split
    | (dsimp -proj only)

theorem Dev.alloc0_keep {t d0 d a1 a2 a3 e} (h : Dev.alloc0 d a1 a2 a3 = some e) (hs : tablesIn [.regs, .tir, .mkt] t = true) (hx : Dev.changesOnly t d0 d) : Dev.changesOnly t d0 e :=
  chg_step (Dev.alloc0_chg _ _ _ _ _ h) hs hx

theorem Dev.setSec_chg : ∀ d a1, Dev.changesOnly [.sec] d (Dev.setSec d a1) := by
  intro d a1
  unfold Dev.setSec
  repeat' first
    | (with_reducible assumption)
    | (with_reducible exact chg_refl _ _)
    | (with_reducible apply chg_ite)
    | (with_reducible apply chg_foldl)
    | (with_reducible apply chg_foldl_snd)
    | (with_reducible apply chg_ite_snd)
    | intro _ _ _
    | intro _
    | split
    | (dsimp -proj only)
    | (refine chg_step (chg_sec _ _) rfl ?_)

theorem Dev.setSec_keep {t d0 d a1} (hs : tablesIn [.sec] t = true) (hx : Dev.changesOnly t d0 d) : Dev.changesOnly t d0 (Dev.setSec d a1) :=
  chg_step (Dev.setSec_chg _ _) hs hx

theorem Dev.failRefs_chg : ∀ d a1 a2 a3, Dev.changesOnly [.kqp] d (Dev.failRefs d a1 a2 a3) := by
  intro d a1 a2 a3
  unfold Dev.failRefs
  repeat' first
    | (with_reducible assumption)
    | (with_reducible exact chg_refl _ _)
    | ((with_reducible apply Dev.failPart_keep); exact rfl)
    | (with_reducible apply chg_ite)
    | (with_reducible apply chg_foldl)
    | (with_reducible apply chg_foldl_snd)
    | (with_reducible apply chg_ite_snd)
    | intro _ _ _
    | intro _
    | split
    | (dsimp -proj only)

theorem Dev.failRefs_keep {t d0 d a1 a2 a3} (hs : tablesIn [.kqp] t = true) (hx : Dev.changesOnly t d0 d) : Dev.changesOnly t d0 (Dev.failRefs d a1 a2 a3) :=
  chg_step (Dev.failRefs_chg _ _ _ _) hs hx

theorem Dev.committedPoisoned_chg : ∀ d a1, Dev.changesOnly [.ldg] d (Dev.committedPoisoned d a1) := by
  intro d a1
  unfold Dev.committedPoisoned
  repeat' first
    | (with_reducible assumption)
    | (with_reducible exact chg_refl _ _)
    | ((with_reducible apply Dev.stepFailure_keep); exact rfl)
    | (with_reducible apply chg_ite)
    | (with_reducible apply chg_foldl)
    | (with_reducible apply chg_foldl_snd)
    | (with_reducible apply chg_ite_snd)
    | intro _ _ _
    | intro _
    | split
    | (dsimp -proj only)

theorem Dev.committedPoisoned_keep {t d0 d a1} (hs : tablesIn [.ldg] t = true) (hx : Dev.changesOnly t d0 d) : Dev.changesOnly t d0 (Dev.committedPoisoned d a1) :=
  chg_step (Dev.committedPoisoned_chg _ _) hs hx

theorem Dev.failWaits_chg : ∀ d a1 a2 a3, Dev.changesOnly [.kqp, .tir] d (Dev.failWaits d a1 a2 a3) := by
  intro d a1 a2 a3
  unfold Dev.failWaits
  repeat' first
    | (with_reducible assumption)
    | (with_reducible exact chg_refl _ _)
    | ((with_reducible apply Dev.failPart_keep); exact rfl)
    | ((with_reducible apply Dev.setTir_keep); exact rfl)
    | (with_reducible apply chg_ite)
    | (with_reducible apply chg_foldl)
    | (with_reducible apply chg_foldl_snd)
    | (with_reducible apply chg_ite_snd)
    | intro _ _ _
    | intro _
    | split
    | (dsimp -proj only)

theorem Dev.failWaits_keep {t d0 d a1 a2 a3} (hs : tablesIn [.kqp, .tir] t = true) (hx : Dev.changesOnly t d0 d) : Dev.changesOnly t d0 (Dev.failWaits d a1 a2 a3) :=
  chg_step (Dev.failWaits_chg _ _ _ _) hs hx

theorem Dev.raiseFor_chg : ∀ d a1 a2 a3 a4 a5, Dev.changesOnly [.regs, .log, .logSeq, .evt] d (Dev.raiseFor d a1 a2 a3 a4 a5) := by
  intro d a1 a2 a3 a4 a5
  unfold Dev.raiseFor
  repeat' first
    | (with_reducible assumption)
    | (with_reducible exact chg_refl _ _)
    | ((with_reducible apply Dev.raise_keep); exact rfl)
    | (with_reducible apply chg_ite)
    | (with_reducible apply chg_foldl)
    | (with_reducible apply chg_foldl_snd)
    | (with_reducible apply chg_ite_snd)
    | intro _ _ _
    | intro _
    | split
    | (dsimp -proj only)

theorem Dev.raiseFor_keep {t d0 d a1 a2 a3 a4 a5} (hs : tablesIn [.regs, .log, .logSeq, .evt] t = true) (hx : Dev.changesOnly t d0 d) : Dev.changesOnly t d0 (Dev.raiseFor d a1 a2 a3 a4 a5) :=
  chg_step (Dev.raiseFor_chg _ _ _ _ _ _) hs hx

theorem Dev.poisonUnit_chg : ∀ d a1 a2 a3, Dev.changesOnly [.regs, .t0, .log, .logSeq, .six, .evt, .kqp, .out, .tir, .mkt, .ldg] d (Dev.poisonUnit d a1 a2 a3) := by
  intro d a1 a2 a3
  unfold Dev.poisonUnit
  repeat' first
    | (with_reducible assumption)
    | (with_reducible exact chg_refl _ _)
    | ((with_reducible apply Dev.committedPoisoned_keep); exact rfl)
    | ((with_reducible apply Dev.failWaits_keep); exact rfl)
    | ((with_reducible apply Dev.incSat_keep); exact rfl)
    | ((with_reducible apply Dev.raise_keep); exact rfl)
    | ((with_reducible apply Dev.raiseFor_keep); exact rfl)
    | ((with_reducible apply Dev.release0_keep); exact rfl)
    | ((with_reducible apply Dev.setUnit_keep); exact rfl)
    | ((with_reducible apply Dev.sixRelease_keep); exact rfl)
    | ((with_reducible apply Dev.wr_keep); exact rfl)
    | (with_reducible apply chg_ite)
    | (with_reducible apply chg_foldl)
    | (with_reducible apply chg_foldl_snd)
    | (with_reducible apply chg_ite_snd)
    | intro _ _ _
    | intro _
    | split
    | (dsimp -proj only)

theorem Dev.poisonUnit_keep {t d0 d a1 a2 a3} (hs : tablesIn [.regs, .t0, .log, .logSeq, .six, .evt, .kqp, .out, .tir, .mkt, .ldg] t = true) (hx : Dev.changesOnly t d0 d) : Dev.changesOnly t d0 (Dev.poisonUnit d a1 a2 a3) :=
  chg_step (Dev.poisonUnit_chg _ _ _ _) hs hx

theorem Dev.loseT0_chg : ∀ d a1 a2, Dev.changesOnly [.regs, .t0, .log, .logSeq, .six, .evt, .kqp, .out, .tir, .mkt, .ldg] d (Dev.loseT0 d a1 a2).2 := by
  intro d a1 a2
  unfold Dev.loseT0
  repeat' first
    | (with_reducible assumption)
    | (with_reducible exact chg_refl _ _)
    | ((with_reducible apply Dev.poisonUnit_keep); exact rfl)
    | ((with_reducible apply Dev.release0_keep); exact rfl)
    | ((with_reducible apply Dev.setTir_keep); exact rfl)
    | (with_reducible apply chg_ite)
    | (with_reducible apply chg_foldl)
    | (with_reducible apply chg_foldl_snd)
    | (with_reducible apply chg_ite_snd)
    | intro _ _ _
    | intro _
    | split
    | (dsimp -proj only)

theorem Dev.loseT0_chg_eq : ∀ d a1 a2 x0 e, Dev.loseT0 d a1 a2 = (x0, e) → Dev.changesOnly [.regs, .t0, .log, .logSeq, .six, .evt, .kqp, .out, .tir, .mkt, .ldg] d e := by
  intro d a1 a2 x0 e h
  have := Dev.loseT0_chg d a1 a2
  rw [h] at this
  exact this

theorem Dev.loseT0_keep {t d0 d a1 a2} (hs : tablesIn [.regs, .t0, .log, .logSeq, .six, .evt, .kqp, .out, .tir, .mkt, .ldg] t = true) (hx : Dev.changesOnly t d0 d) : Dev.changesOnly t d0 ((Dev.loseT0 d a1 a2).2) :=
  chg_step (Dev.loseT0_chg _ _ _) hs hx

theorem Dev.loseT0_keep_eq {t d0 d a1 a2 x0 e} (h : Dev.loseT0 d a1 a2 = (x0, e)) (hs : tablesIn [.regs, .t0, .log, .logSeq, .six, .evt, .kqp, .out, .tir, .mkt, .ldg] t = true) (hx : Dev.changesOnly t d0 d) : Dev.changesOnly t d0 e :=
  chg_step (Dev.loseT0_chg_eq _ _ _ _ _ h) hs hx

theorem Dev.configCommit_chg : ∀ d a1, Dev.changesOnly [.regs, .log, .logSeq, .evt, .sec] d (Dev.configCommit d a1) := by
  intro d a1
  unfold Dev.configCommit
  repeat' first
    | (with_reducible assumption)
    | (with_reducible exact chg_refl _ _)
    | ((with_reducible apply Dev.raise_keep); exact rfl)
    | ((with_reducible apply Dev.setSec_keep); exact rfl)
    | ((with_reducible apply Dev.wr_keep); exact rfl)
    | ((with_reducible apply Dev.wr64_keep); exact rfl)
    | (with_reducible apply chg_ite)
    | (with_reducible apply chg_foldl)
    | (with_reducible apply chg_foldl_snd)
    | (with_reducible apply chg_ite_snd)
    | intro _ _ _
    | intro _
    | split
    | (dsimp -proj only)

theorem Dev.configCommit_keep {t d0 d a1} (hs : tablesIn [.regs, .log, .logSeq, .evt, .sec] t = true) (hx : Dev.changesOnly t d0 d) : Dev.changesOnly t d0 (Dev.configCommit d a1) :=
  chg_step (Dev.configCommit_chg _ _) hs hx

theorem Dev.recordRetirement_chg : ∀ d, Dev.changesOnly [.regs, .log, .logSeq, .evt, .sec] d (Dev.recordRetirement d) := by
  intro d
  unfold Dev.recordRetirement
  repeat' first
    | (with_reducible assumption)
    | (with_reducible exact chg_refl _ _)
    | ((with_reducible apply Dev.configCommit_keep); exact rfl)
    | ((with_reducible apply Dev.setSec_keep); exact rfl)
    | (with_reducible apply chg_ite)
    | (with_reducible apply chg_foldl)
    | (with_reducible apply chg_foldl_snd)
    | (with_reducible apply chg_ite_snd)
    | intro _ _ _
    | intro _
    | split
    | (dsimp -proj only)

theorem Dev.recordRetirement_keep {t d0 d} (hs : tablesIn [.regs, .log, .logSeq, .evt, .sec] t = true) (hx : Dev.changesOnly t d0 d) : Dev.changesOnly t d0 (Dev.recordRetirement d) :=
  chg_step (Dev.recordRetirement_chg _) hs hx

theorem Dev.setBank_chg : ∀ d a1 a2, Dev.changesOnly [.regs, .mkt] d (Dev.setBank d a1 a2) := by
  intro d a1 a2
  unfold Dev.setBank
  repeat' first
    | (with_reducible assumption)
    | (with_reducible exact chg_refl _ _)
    | ((with_reducible apply Dev.setMkt_keep); exact rfl)
    | ((with_reducible apply Dev.wr_keep); exact rfl)
    | (with_reducible apply chg_ite)
    | (with_reducible apply chg_foldl)
    | (with_reducible apply chg_foldl_snd)
    | (with_reducible apply chg_ite_snd)
    | intro _ _ _
    | intro _
    | split
    | (dsimp -proj only)

theorem Dev.setBank_keep {t d0 d a1 a2} (hs : tablesIn [.regs, .mkt] t = true) (hx : Dev.changesOnly t d0 d) : Dev.changesOnly t d0 (Dev.setBank d a1 a2) :=
  chg_step (Dev.setBank_chg _ _ _) hs hx

theorem Dev.closeGroup_chg : ∀ d a1, Dev.changesOnly [.regs, .t0, .log, .logSeq, .six, .evt, .kqp, .out, .tir, .mkt, .ldg, .sec] d (Dev.closeGroup d a1) := by
  intro d a1
  unfold Dev.closeGroup
  repeat' first
    | (with_reducible assumption)
    | (with_reducible exact chg_refl _ _)
    | ((with_reducible apply Dev.failRefs_keep); exact rfl)
    | ((with_reducible apply Dev.loseT0_keep); exact rfl)
    | (refine Dev.loseT0_keep_eq (by with_reducible assumption) rfl ?_)
    | ((with_reducible apply Dev.raise_keep); exact rfl)
    | ((with_reducible apply Dev.recordRetirement_keep); exact rfl)
    | ((with_reducible apply Dev.setBank_keep); exact rfl)
    | ((with_reducible apply Dev.setMkt_keep); exact rfl)
    | ((with_reducible apply Dev.stepFailure_keep); exact rfl)
    | (with_reducible apply chg_ite)
    | (with_reducible apply chg_foldl)
    | (with_reducible apply chg_foldl_snd)
    | (with_reducible apply chg_ite_snd)
    | intro _ _ _
    | intro _
    | split
    | (dsimp -proj only)

theorem Dev.closeGroup_keep {t d0 d a1} (hs : tablesIn [.regs, .t0, .log, .logSeq, .six, .evt, .kqp, .out, .tir, .mkt, .ldg, .sec] t = true) (hx : Dev.changesOnly t d0 d) : Dev.changesOnly t d0 (Dev.closeGroup d a1) :=
  chg_step (Dev.closeGroup_chg _ _) hs hx

theorem Dev.setHealth_chg : ∀ d a1 a2 a3, Dev.changesOnly [.regs, .log, .logSeq, .evt] d (Dev.setHealth d a1 a2 a3) := by
  intro d a1 a2 a3
  unfold Dev.setHealth
  repeat' first
    | (with_reducible assumption)
    | (with_reducible exact chg_refl _ _)
    | ((with_reducible apply Dev.raise_keep); exact rfl)
    | ((with_reducible apply Dev.wr_keep); exact rfl)
    | (with_reducible apply chg_ite)
    | (with_reducible apply chg_foldl)
    | (with_reducible apply chg_foldl_snd)
    | (with_reducible apply chg_ite_snd)
    | intro _ _ _
    | intro _
    | split
    | (dsimp -proj only)

theorem Dev.setHealth_keep {t d0 d a1 a2 a3} (hs : tablesIn [.regs, .log, .logSeq, .evt] t = true) (hx : Dev.changesOnly t d0 d) : Dev.changesOnly t d0 (Dev.setHealth d a1 a2 a3) :=
  chg_step (Dev.setHealth_chg _ _ _ _) hs hx

theorem Dev.retireUnit_chg : ∀ d a1 a2, Dev.changesOnly [.regs, .log, .logSeq, .spr, .evt, .sec] d (Dev.retireUnit d a1 a2) := by
  intro d a1 a2
  unfold Dev.retireUnit
  repeat' first
    | (with_reducible assumption)
    | (with_reducible exact chg_refl _ _)
    | ((with_reducible apply Dev.raise_keep); exact rfl)
    | ((with_reducible apply Dev.recordRetirement_keep); exact rfl)
    | ((with_reducible apply Dev.setHealth_keep); exact rfl)
    | ((with_reducible apply Dev.setPhys_keep); exact rfl)
    | (with_reducible apply chg_ite)
    | (with_reducible apply chg_foldl)
    | (with_reducible apply chg_foldl_snd)
    | (with_reducible apply chg_ite_snd)
    | intro _ _ _
    | intro _
    | split
    | (dsimp -proj only)

theorem Dev.retireUnit_keep {t d0 d a1 a2} (hs : tablesIn [.regs, .log, .logSeq, .spr, .evt, .sec] t = true) (hx : Dev.changesOnly t d0 d) : Dev.changesOnly t d0 (Dev.retireUnit d a1 a2) :=
  chg_step (Dev.retireUnit_chg _ _ _) hs hx

theorem Dev.retireNamed_chg : ∀ d a1, Dev.changesOnly [.regs, .log, .logSeq, .spr, .evt, .sec] d (Dev.retireNamed d a1) := by
  intro d a1
  unfold Dev.retireNamed
  repeat' first
    | (with_reducible assumption)
    | (with_reducible exact chg_refl _ _)
    | ((with_reducible apply Dev.retireUnit_keep); exact rfl)
    | (with_reducible apply chg_ite)
    | (with_reducible apply chg_foldl)
    | (with_reducible apply chg_foldl_snd)
    | (with_reducible apply chg_ite_snd)
    | intro _ _ _
    | intro _
    | split
    | (dsimp -proj only)

theorem Dev.retireNamed_keep {t d0 d a1} (hs : tablesIn [.regs, .log, .logSeq, .spr, .evt, .sec] t = true) (hx : Dev.changesOnly t d0 d) : Dev.changesOnly t d0 (Dev.retireNamed d a1) :=
  chg_step (Dev.retireNamed_chg _ _) hs hx

theorem Dev.retireStack_chg : ∀ d a1, Dev.changesOnly [.regs, .t0, .log, .logSeq, .six, .evt, .kqp, .out, .tir, .mkt, .ldg, .sec] d (Dev.retireStack d a1) := by
  intro d a1
  unfold Dev.retireStack
  repeat' first
    | (with_reducible assumption)
    | (with_reducible exact chg_refl _ _)
    | ((with_reducible apply Dev.poisonUnit_keep); exact rfl)
    | ((with_reducible apply Dev.recordRetirement_keep); exact rfl)
    | ((with_reducible apply Dev.setHealth_keep); exact rfl)
    | ((with_reducible apply Dev.setTir_keep); exact rfl)
    | ((with_reducible apply Dev.wr_keep); exact rfl)
    | (with_reducible apply chg_ite)
    | (with_reducible apply chg_foldl)
    | (with_reducible apply chg_foldl_snd)
    | (with_reducible apply chg_ite_snd)
    | intro _ _ _
    | intro _
    | split
    | (dsimp -proj only)

theorem Dev.retireStack_keep {t d0 d a1} (hs : tablesIn [.regs, .t0, .log, .logSeq, .six, .evt, .kqp, .out, .tir, .mkt, .ldg, .sec] t = true) (hx : Dev.changesOnly t d0 d) : Dev.changesOnly t d0 (Dev.retireStack d a1) :=
  chg_step (Dev.retireStack_chg _ _) hs hx

theorem Dev.setHif_chg : ∀ d a1, Dev.changesOnly [.hif] d (Dev.setHif d a1) := by
  intro d a1
  unfold Dev.setHif
  repeat' first
    | (with_reducible assumption)
    | (with_reducible exact chg_refl _ _)
    | (with_reducible apply chg_ite)
    | (with_reducible apply chg_foldl)
    | (with_reducible apply chg_foldl_snd)
    | (with_reducible apply chg_ite_snd)
    | intro _ _ _
    | intro _
    | split
    | (dsimp -proj only)
    | (refine chg_step (chg_hif _ _) rfl ?_)

theorem Dev.setHif_keep {t d0 d a1} (hs : tablesIn [.hif] t = true) (hx : Dev.changesOnly t d0 d) : Dev.changesOnly t d0 (Dev.setHif d a1) :=
  chg_step (Dev.setHif_chg _ _) hs hx

theorem Dev.setPortSt_chg : ∀ d a1 a2 a3 a4, Dev.changesOnly [.regs] d (Dev.setPortSt d a1 a2 a3 a4) := by
  intro d a1 a2 a3 a4
  unfold Dev.setPortSt
  repeat' first
    | (with_reducible assumption)
    | (with_reducible exact chg_refl _ _)
    | ((with_reducible apply Dev.wr_keep); exact rfl)
    | (with_reducible apply chg_ite)
    | (with_reducible apply chg_foldl)
    | (with_reducible apply chg_foldl_snd)
    | (with_reducible apply chg_ite_snd)
    | intro _ _ _
    | intro _
    | split
    | (dsimp -proj only)

theorem Dev.setPortSt_keep {t d0 d a1 a2 a3 a4} (hs : tablesIn [.regs] t = true) (hx : Dev.changesOnly t d0 d) : Dev.changesOnly t d0 (Dev.setPortSt d a1 a2 a3 a4) :=
  chg_step (Dev.setPortSt_chg _ _ _ _ _) hs hx

theorem Dev.setMap_chg : ∀ d a1 a2 a3, Dev.changesOnly [.spr] d (Dev.setMap d a1 a2 a3) := by
  intro d a1 a2 a3
  unfold Dev.setMap
  repeat' first
    | (with_reducible assumption)
    | (with_reducible exact chg_refl _ _)
    | ((with_reducible apply Dev.setSpr_keep); exact rfl)
    | (with_reducible apply chg_ite)
    | (with_reducible apply chg_foldl)
    | (with_reducible apply chg_foldl_snd)
    | (with_reducible apply chg_ite_snd)
    | intro _ _ _
    | intro _
    | split
    | (dsimp -proj only)

theorem Dev.setMap_keep {t d0 d a1 a2 a3} (hs : tablesIn [.spr] t = true) (hx : Dev.changesOnly t d0 d) : Dev.changesOnly t d0 (Dev.setMap d a1 a2 a3) :=
  chg_step (Dev.setMap_chg _ _ _ _) hs hx

theorem Dev.sprShow_chg : ∀ d, Dev.changesOnly [.regs] d (Dev.sprShow d) := by
  intro d
  unfold Dev.sprShow
  repeat' first
    | (with_reducible assumption)
    | (with_reducible exact chg_refl _ _)
    | ((with_reducible apply Dev.setFlag_keep); exact rfl)
    | ((with_reducible apply Dev.wr_keep); exact rfl)
    | (with_reducible apply chg_ite)
    | (with_reducible apply chg_foldl)
    | (with_reducible apply chg_foldl_snd)
    | (with_reducible apply chg_ite_snd)
    | intro _ _ _
    | intro _
    | split
    | (dsimp -proj only)

theorem Dev.sprShow_keep {t d0 d} (hs : tablesIn [.regs] t = true) (hx : Dev.changesOnly t d0 d) : Dev.changesOnly t d0 (Dev.sprShow d) :=
  chg_step (Dev.sprShow_chg _) hs hx

theorem Dev.sprOpen_chg : ∀ d a1, Dev.changesOnly [.regs, .log, .logSeq, .spr, .six, .evt, .out] d (Dev.sprOpen d a1) := by
  intro d a1
  unfold Dev.sprOpen
  repeat' first
    | (with_reducible assumption)
    | (with_reducible exact chg_refl _ _)
    | ((with_reducible apply Dev.raiseBits_keep); exact rfl)
    | ((with_reducible apply Dev.setSpr_keep); exact rfl)
    | (refine Dev.sixAlloc_keep (by with_reducible assumption) rfl ?_)
    | ((with_reducible apply Dev.sprShow_keep); exact rfl)
    | (with_reducible apply chg_ite)
    | (with_reducible apply chg_foldl)
    | (with_reducible apply chg_foldl_snd)
    | (with_reducible apply chg_ite_snd)
    | intro _ _ _
    | intro _
    | split
    | (dsimp -proj only)

theorem Dev.sprOpen_keep {t d0 d a1} (hs : tablesIn [.regs, .log, .logSeq, .spr, .six, .evt, .out] t = true) (hx : Dev.changesOnly t d0 d) : Dev.changesOnly t d0 (Dev.sprOpen d a1) :=
  chg_step (Dev.sprOpen_chg _ _) hs hx

theorem Dev.sprFailure_chg : ∀ d a1 a2 a3 a4 a5, Dev.changesOnly [.regs, .log, .logSeq, .spr, .six, .evt, .out] d (Dev.sprFailure d a1 a2 a3 a4 a5) := by
  intro d a1 a2 a3 a4 a5
  unfold Dev.sprFailure
  repeat' first
    | (with_reducible assumption)
    | (with_reducible exact chg_refl _ _)
    | ((with_reducible apply Dev.raise_keep); exact rfl)
    | ((with_reducible apply Dev.sprOpen_keep); exact rfl)
    | (with_reducible apply chg_ite)
    | (with_reducible apply chg_foldl)
    | (with_reducible apply chg_foldl_snd)
    | (with_reducible apply chg_ite_snd)
    | intro _ _ _
    | intro _
    | split
    | (dsimp -proj only)

theorem Dev.sprFailure_keep {t d0 d a1 a2 a3 a4 a5} (hs : tablesIn [.regs, .log, .logSeq, .spr, .six, .evt, .out] t = true) (hx : Dev.changesOnly t d0 d) : Dev.changesOnly t d0 (Dev.sprFailure d a1 a2 a3 a4 a5) :=
  chg_step (Dev.sprFailure_chg _ _ _ _ _ _) hs hx

theorem Dev.closeUnit_chg : ∀ d a1 a2 a3, Dev.changesOnly [.regs, .log, .logSeq, .spr, .six, .evt, .out, .sec] d (Dev.closeUnit d a1 a2 a3) := by
  intro d a1 a2 a3
  unfold Dev.closeUnit
  repeat' first
    | (with_reducible assumption)
    | (with_reducible exact chg_refl _ _)
    | ((with_reducible apply Dev.incSat_keep); exact rfl)
    | ((with_reducible apply Dev.raise_keep); exact rfl)
    | ((with_reducible apply Dev.retireUnit_keep); exact rfl)
    | ((with_reducible apply Dev.setHealth_keep); exact rfl)
    | ((with_reducible apply Dev.setMap_keep); exact rfl)
    | ((with_reducible apply Dev.setPhys_keep); exact rfl)
    | ((with_reducible apply Dev.sprFailure_keep); exact rfl)
    | (with_reducible apply chg_ite)
    | (with_reducible apply chg_foldl)
    | (with_reducible apply chg_foldl_snd)
    | (with_reducible apply chg_ite_snd)
    | intro _ _ _
    | intro _
    | split
    | (dsimp -proj only)

theorem Dev.closeUnit_keep {t d0 d a1 a2 a3} (hs : tablesIn [.regs, .log, .logSeq, .spr, .six, .evt, .out, .sec] t = true) (hx : Dev.changesOnly t d0 d) : Dev.changesOnly t d0 (Dev.closeUnit d a1 a2 a3) :=
  chg_step (Dev.closeUnit_chg _ _ _ _) hs hx

theorem Dev.startClosed_chg : ∀ d a1, Dev.changesOnly [.regs, .log, .logSeq, .spr, .six, .evt, .out, .sec] d (Dev.startClosed d a1) := by
  intro d a1
  unfold Dev.startClosed
  repeat' first
    | (with_reducible assumption)
    | (with_reducible exact chg_refl _ _)
    | ((with_reducible apply Dev.closeUnit_keep); exact rfl)
    | (with_reducible apply chg_ite)
    | (with_reducible apply chg_foldl)
    | (with_reducible apply chg_foldl_snd)
    | (with_reducible apply chg_ite_snd)
    | intro _ _ _
    | intro _
    | split
    | (dsimp -proj only)

theorem Dev.startClosed_keep {t d0 d a1} (hs : tablesIn [.regs, .log, .logSeq, .spr, .six, .evt, .out, .sec] t = true) (hx : Dev.changesOnly t d0 d) : Dev.changesOnly t d0 (Dev.startClosed d a1) :=
  chg_step (Dev.startClosed_chg _ _) hs hx

theorem Dev.supersedeAll_chg : ∀ d, Dev.changesOnly [.regs, .log, .logSeq, .evt, .ldg] d (Dev.supersedeAll d) := by
  intro d
  unfold Dev.supersedeAll
  repeat' first
    | (with_reducible assumption)
    | (with_reducible exact chg_refl _ _)
    | ((with_reducible apply Dev.setJob_keep); exact rfl)
    | ((with_reducible apply Dev.supersede_keep); exact rfl)
    | (with_reducible apply chg_ite)
    | (with_reducible apply chg_foldl)
    | (with_reducible apply chg_foldl_snd)
    | (with_reducible apply chg_ite_snd)
    | intro _ _ _
    | intro _
    | split
    | (dsimp -proj only)

theorem Dev.supersedeAll_keep {t d0 d} (hs : tablesIn [.regs, .log, .logSeq, .evt, .ldg] t = true) (hx : Dev.changesOnly t d0 d) : Dev.changesOnly t d0 (Dev.supersedeAll d) :=
  chg_step (Dev.supersedeAll_chg _) hs hx

theorem Dev.takeAlt_chg : ∀ d a1 a2 a3, Dev.changesOnly [.regs, .t0, .log, .logSeq, .spr, .six, .evt, .kqp, .out, .tir, .mkt, .ldg, .fab, .sec, .hif] d (Dev.takeAlt d a1 a2 a3) := by
  intro d a1 a2 a3
  unfold Dev.takeAlt
  repeat' first
    | (with_reducible assumption)
    | (with_reducible exact chg_refl _ _)
    | ((with_reducible apply Dev.closeGroup_keep); exact rfl)
    | ((with_reducible apply Dev.recordRetirement_keep); exact rfl)
    | ((with_reducible apply Dev.retireNamed_keep); exact rfl)
    | ((with_reducible apply Dev.retireStack_keep); exact rfl)
    | ((with_reducible apply Dev.setHif_keep); exact rfl)
    | ((with_reducible apply Dev.setPort_keep); exact rfl)
    | ((with_reducible apply Dev.setPortSt_keep); exact rfl)
    | ((with_reducible apply Dev.startClosed_keep); exact rfl)
    | ((with_reducible apply Dev.supersedeAll_keep); exact rfl)
    | ((with_reducible apply Dev.wr_keep); exact rfl)
    | (with_reducible apply chg_ite)
    | (with_reducible apply chg_foldl)
    | (with_reducible apply chg_foldl_snd)
    | (with_reducible apply chg_ite_snd)
    | intro _ _ _
    | intro _
    | split
    | (dsimp -proj only)

theorem Dev.takeAlt_keep {t d0 d a1 a2 a3} (hs : tablesIn [.regs, .t0, .log, .logSeq, .spr, .six, .evt, .kqp, .out, .tir, .mkt, .ldg, .fab, .sec, .hif] t = true) (hx : Dev.changesOnly t d0 d) : Dev.changesOnly t d0 (Dev.takeAlt d a1 a2 a3) :=
  chg_step (Dev.takeAlt_chg _ _ _ _) hs hx

theorem Dev.showBrec_chg : ∀ d, Dev.changesOnly [.regs] d (Dev.showBrec d) := by
  intro d
  unfold Dev.showBrec
  repeat' first
    | (with_reducible assumption)
    | (with_reducible exact chg_refl _ _)
    | ((with_reducible apply Dev.wr_keep); exact rfl)
    | (with_reducible apply chg_ite)
    | (with_reducible apply chg_foldl)
    | (with_reducible apply chg_foldl_snd)
    | (with_reducible apply chg_ite_snd)
    | intro _ _ _
    | intro _
    | split
    | (dsimp -proj only)

theorem Dev.showBrec_keep {t d0 d} (hs : tablesIn [.regs] t = true) (hx : Dev.changesOnly t d0 d) : Dev.changesOnly t d0 (Dev.showBrec d) :=
  chg_step (Dev.showBrec_chg _) hs hx

theorem Dev.updEntry_chg : ∀ d a1, Dev.changesOnly [.regs, .sec] d (Dev.updEntry d a1) := by
  intro d a1
  unfold Dev.updEntry
  repeat' first
    | (with_reducible assumption)
    | (with_reducible exact chg_refl _ _)
    | ((with_reducible apply Dev.setSec_keep); exact rfl)
    | ((with_reducible apply Dev.showBrec_keep); exact rfl)
    | ((with_reducible apply Dev.wr_keep); exact rfl)
    | (with_reducible apply chg_ite)
    | (with_reducible apply chg_foldl)
    | (with_reducible apply chg_foldl_snd)
    | (with_reducible apply chg_ite_snd)
    | intro _ _ _
    | intro _
    | split
    | (dsimp -proj only)

theorem Dev.updEntry_keep {t d0 d a1} (hs : tablesIn [.regs, .sec] t = true) (hx : Dev.changesOnly t d0 d) : Dev.changesOnly t d0 (Dev.updEntry d a1) :=
  chg_step (Dev.updEntry_chg _ _) hs hx

theorem Dev.updStage_chg : ∀ d a1 a2, Dev.changesOnly [.regs, .sec] d (Dev.updStage d a1 a2) := by
  intro d a1 a2
  unfold Dev.updStage
  repeat' first
    | (with_reducible assumption)
    | (with_reducible exact chg_refl _ _)
    | ((with_reducible apply Dev.updEntry_keep); exact rfl)
    | (with_reducible apply chg_ite)
    | (with_reducible apply chg_foldl)
    | (with_reducible apply chg_foldl_snd)
    | (with_reducible apply chg_ite_snd)
    | intro _ _ _
    | intro _
    | split
    | (dsimp -proj only)

theorem Dev.updStage_keep {t d0 d a1 a2} (hs : tablesIn [.regs, .sec] t = true) (hx : Dev.changesOnly t d0 d) : Dev.changesOnly t d0 (Dev.updStage d a1 a2) :=
  chg_step (Dev.updStage_chg _ _ _) hs hx

theorem Dev.chooseAlt_chg : ∀ d a1 a2, Dev.changesOnly [.regs, .t0, .log, .logSeq, .spr, .six, .evt, .kqp, .out, .tir, .mkt, .ldg, .fab, .sec, .hif] d (Dev.chooseAlt d a1 a2) := by
  intro d a1 a2
  unfold Dev.chooseAlt
  repeat' first
    | (with_reducible assumption)
    | (with_reducible exact chg_refl _ _)
    | ((with_reducible apply Dev.setSec_keep); exact rfl)
    | ((with_reducible apply Dev.takeAlt_keep); exact rfl)
    | ((with_reducible apply Dev.updStage_keep); exact rfl)
    | (with_reducible apply chg_ite)
    | (with_reducible apply chg_foldl)
    | (with_reducible apply chg_foldl_snd)
    | (with_reducible apply chg_ite_snd)
    | intro _ _ _
    | intro _
    | split
    | (dsimp -proj only)

theorem Dev.chooseAlt_keep {t d0 d a1 a2} (hs : tablesIn [.regs, .t0, .log, .logSeq, .spr, .six, .evt, .kqp, .out, .tir, .mkt, .ldg, .fab, .sec, .hif] t = true) (hx : Dev.changesOnly t d0 d) : Dev.changesOnly t d0 (Dev.chooseAlt d a1 a2) :=
  chg_step (Dev.chooseAlt_chg _ _ _) hs hx

theorem Dev.altChosen_chg : ∀ d a1, Dev.changesOnly [.regs, .t0, .log, .logSeq, .spr, .six, .evt, .kqp, .out, .tir, .mkt, .ldg, .fab, .sec, .hif] d (Dev.altChosen d a1) := by
  intro d a1
  unfold Dev.altChosen
  repeat' first
    | (with_reducible assumption)
    | (with_reducible exact chg_refl _ _)
    | ((with_reducible apply Dev.chooseAlt_keep); exact rfl)
    | ((with_reducible apply Dev.setFlag_keep); exact rfl)
    | ((with_reducible apply Dev.sixRelease_keep); exact rfl)
    | (with_reducible apply chg_ite)
    | (with_reducible apply chg_foldl)
    | (with_reducible apply chg_foldl_snd)
    | (with_reducible apply chg_ite_snd)
    | intro _ _ _
    | intro _
    | split
    | (dsimp -proj only)

theorem Dev.altChosen_keep {t d0 d a1} (hs : tablesIn [.regs, .t0, .log, .logSeq, .spr, .six, .evt, .kqp, .out, .tir, .mkt, .ldg, .fab, .sec, .hif] t = true) (hx : Dev.changesOnly t d0 d) : Dev.changesOnly t d0 (Dev.altChosen d a1) :=
  chg_step (Dev.altChosen_chg _ _) hs hx

theorem Dev.setTim_chg : ∀ d a1, Dev.changesOnly [.tim] d (Dev.setTim d a1) := by
  intro d a1
  unfold Dev.setTim
  repeat' first
    | (with_reducible assumption)
    | (with_reducible exact chg_refl _ _)
    | (with_reducible apply chg_ite)
    | (with_reducible apply chg_foldl)
    | (with_reducible apply chg_foldl_snd)
    | (with_reducible apply chg_ite_snd)
    | intro _ _ _
    | intro _
    | split
    | (dsimp -proj only)
    | (refine chg_step (chg_tim _ _) rfl ?_)

theorem Dev.setTim_keep {t d0 d a1} (hs : tablesIn [.tim] t = true) (hx : Dev.changesOnly t d0 d) : Dev.changesOnly t d0 (Dev.setTim d a1) :=
  chg_step (Dev.setTim_chg _ _) hs hx

theorem Dev.announced_chg : ∀ d a1 a2, Dev.changesOnly [.regs, .tim] d (Dev.announced d a1 a2) := by
  intro d a1 a2
  unfold Dev.announced
  repeat' first
    | (with_reducible assumption)
    | (with_reducible exact chg_refl _ _)
    | ((with_reducible apply Dev.setTim_keep); exact rfl)
    | ((with_reducible apply Dev.wr_keep); exact rfl)
    | (with_reducible apply chg_ite)
    | (with_reducible apply chg_foldl)
    | (with_reducible apply chg_foldl_snd)
    | (with_reducible apply chg_ite_snd)
    | intro _ _ _
    | intro _
    | split
    | (dsimp -proj only)

theorem Dev.announced_keep {t d0 d a1 a2} (hs : tablesIn [.regs, .tim] t = true) (hx : Dev.changesOnly t d0 d) : Dev.changesOnly t d0 (Dev.announced d a1 a2) :=
  chg_step (Dev.announced_chg _ _ _) hs hx

theorem Dev.askDecisions_chg : ∀ d, Dev.changesOnly [.regs, .log, .logSeq, .six, .evt, .out, .fab, .tbn] d (Dev.askDecisions d) := by
  intro d
  unfold Dev.askDecisions
  repeat' first
    | (with_reducible assumption)
    | (with_reducible exact chg_refl _ _)
    | ((with_reducible apply Dev.sendLdg_keep); exact rfl)
    | (with_reducible apply chg_ite)
    | (with_reducible apply chg_foldl)
    | (with_reducible apply chg_foldl_snd)
    | (with_reducible apply chg_ite_snd)
    | intro _ _ _
    | intro _
    | split
    | (dsimp -proj only)

theorem Dev.askDecisions_keep {t d0 d} (hs : tablesIn [.regs, .log, .logSeq, .six, .evt, .out, .fab, .tbn] t = true) (hx : Dev.changesOnly t d0 d) : Dev.changesOnly t d0 (Dev.askDecisions d) :=
  chg_step (Dev.askDecisions_chg _) hs hx

theorem Dev.applyFull_chg : ∀ d a1 a2 a3, Dev.changesOnly [.regs, .t0, .t1, .log, .logSeq, .six, .evt, .kqp, .out, .tir, .mkt, .ldg, .wset, .acr, .col, .fab, .tbn] d (Dev.applyFull d a1 a2 a3) := by
  intro d a1 a2 a3
  unfold Dev.applyFull
  repeat' first
    | (with_reducible assumption)
    | (with_reducible exact chg_refl _ _)
    | ((with_reducible apply Dev.applyEntry_keep); exact rfl)
    | ((with_reducible apply Dev.askDecisions_keep); exact rfl)
    | ((with_reducible apply Dev.rosterChanged_keep); exact rfl)
    | ((with_reducible apply Dev.setCol_keep); exact rfl)
    | (with_reducible apply chg_ite)
    | (with_reducible apply chg_foldl)
    | (with_reducible apply chg_foldl_snd)
    | (with_reducible apply chg_ite_snd)
    | intro _ _ _
    | intro _
    | split
    | (dsimp -proj only)

theorem Dev.applyFull_keep {t d0 d a1 a2 a3} (hs : tablesIn [.regs, .t0, .t1, .log, .logSeq, .six, .evt, .kqp, .out, .tir, .mkt, .ldg, .wset, .acr, .col, .fab, .tbn] t = true) (hx : Dev.changesOnly t d0 d) : Dev.changesOnly t d0 (Dev.applyFull d a1 a2 a3) :=
  chg_step (Dev.applyFull_chg _ _ _ _) hs hx

theorem Dev.markRetired_chg : ∀ d a1, Dev.changesOnly [.regs, .log, .logSeq, .spr, .evt] d (Dev.markRetired d a1) := by
  intro d a1
  unfold Dev.markRetired
  repeat' first
    | (with_reducible assumption)
    | (with_reducible exact chg_refl _ _)
    | ((with_reducible apply Dev.setHealth_keep); exact rfl)
    | ((with_reducible apply Dev.setPhys_keep); exact rfl)
    | (with_reducible apply chg_ite)
    | (with_reducible apply chg_foldl)
    | (with_reducible apply chg_foldl_snd)
    | (with_reducible apply chg_ite_snd)
    | intro _ _ _
    | intro _
    | split
    | (dsimp -proj only)

theorem Dev.markRetired_keep {t d0 d a1} (hs : tablesIn [.regs, .log, .logSeq, .spr, .evt] t = true) (hx : Dev.changesOnly t d0 d) : Dev.changesOnly t d0 (Dev.markRetired d a1) :=
  chg_step (Dev.markRetired_chg _ _) hs hx

theorem Dev.applyRecord_chg : ∀ d a1, Dev.changesOnly [.regs, .log, .logSeq, .spr, .six, .evt, .tir, .mkt] d (Dev.applyRecord d a1) := by
  intro d a1
  unfold Dev.applyRecord
  repeat' first
    | (with_reducible assumption)
    | (with_reducible exact chg_refl _ _)
    | ((with_reducible apply Dev.markRetired_keep); exact rfl)
    | ((with_reducible apply Dev.setBank_keep); exact rfl)
    | ((with_reducible apply Dev.setHealth_keep); exact rfl)
    | ((with_reducible apply Dev.setMkt_keep); exact rfl)
    | ((with_reducible apply Dev.setReg_keep); exact rfl)
    | ((with_reducible apply Dev.setSix_keep); exact rfl)
    | ((with_reducible apply Dev.setTir_keep); exact rfl)
    | ((with_reducible apply Dev.wr_keep); exact rfl)
    | ((with_reducible apply Dev.wr64_keep); exact rfl)
    | (with_reducible apply chg_ite)
    | (with_reducible apply chg_foldl)
    | (with_reducible apply chg_foldl_snd)
    | (with_reducible apply chg_ite_snd)
    | intro _ _ _
    | intro _
    | split
    | (dsimp -proj only)

theorem Dev.applyRecord_keep {t d0 d a1} (hs : tablesIn [.regs, .log, .logSeq, .spr, .six, .evt, .tir, .mkt] t = true) (hx : Dev.changesOnly t d0 d) : Dev.changesOnly t d0 (Dev.applyRecord d a1) :=
  chg_step (Dev.applyRecord_chg _ _) hs hx

theorem Dev.applyScale_chg : ∀ d a1 a2 a3 a4, Dev.changesOnly [.regs, .t0, .t1, .log, .logSeq, .evt, .tir] d (Dev.applyScale d a1 a2 a3 a4) := by
  intro d a1 a2 a3 a4
  unfold Dev.applyScale
  repeat' first
    | (with_reducible assumption)
    | (with_reducible exact chg_refl _ _)
    | ((with_reducible apply Dev.putEntry_keep); exact rfl)
    | ((with_reducible apply Dev.raise_keep); exact rfl)
    | ((with_reducible apply Dev.writeAny_keep); exact rfl)
    | (with_reducible apply chg_ite)
    | (with_reducible apply chg_foldl)
    | (with_reducible apply chg_foldl_snd)
    | (with_reducible apply chg_ite_snd)
    | intro _ _ _
    | intro _
    | split
    | (dsimp -proj only)

theorem Dev.applyScale_keep {t d0 d a1 a2 a3 a4} (hs : tablesIn [.regs, .t0, .t1, .log, .logSeq, .evt, .tir] t = true) (hx : Dev.changesOnly t d0 d) : Dev.changesOnly t d0 (Dev.applyScale d a1 a2 a3 a4) :=
  chg_step (Dev.applyScale_chg _ _ _ _ _) hs hx

theorem Dev.coreCounts_chg : ∀ d a1 a2 a3, Dev.changesOnly [.regs] d (Dev.coreCounts d a1 a2 a3) := by
  intro d a1 a2 a3
  unfold Dev.coreCounts
  repeat' first
    | (with_reducible assumption)
    | (with_reducible exact chg_refl _ _)
    | ((with_reducible apply Dev.incSat_keep); exact rfl)
    | ((with_reducible apply Dev.wr_keep); exact rfl)
    | (with_reducible apply chg_ite)
    | (with_reducible apply chg_foldl)
    | (with_reducible apply chg_foldl_snd)
    | (with_reducible apply chg_ite_snd)
    | intro _ _ _
    | intro _
    | split
    | (dsimp -proj only)

theorem Dev.coreCounts_keep {t d0 d a1 a2 a3} (hs : tablesIn [.regs] t = true) (hx : Dev.changesOnly t d0 d) : Dev.changesOnly t d0 (Dev.coreCounts d a1 a2 a3) :=
  chg_step (Dev.coreCounts_chg _ _ _ _) hs hx

theorem Dev.coreOn_chg : ∀ d a1, Dev.changesOnly [.ccr] d (Dev.coreOn d a1) := by
  intro d a1
  unfold Dev.coreOn
  repeat' first
    | (with_reducible assumption)
    | (with_reducible exact chg_refl _ _)
    | ((with_reducible apply Dev.setCcr_keep); exact rfl)
    | (with_reducible apply chg_ite)
    | (with_reducible apply chg_foldl)
    | (with_reducible apply chg_foldl_snd)
    | (with_reducible apply chg_ite_snd)
    | intro _ _ _
    | intro _
    | split
    | (dsimp -proj only)

theorem Dev.coreOn_keep {t d0 d a1} (hs : tablesIn [.ccr] t = true) (hx : Dev.changesOnly t d0 d) : Dev.changesOnly t d0 (Dev.coreOn d a1) :=
  chg_step (Dev.coreOn_chg _ _) hs hx

theorem Dev.raiseAmax_chg : ∀ d a1 a2 a3, Dev.changesOnly [.t0, .t1, .tir] d (Dev.raiseAmax d a1 a2 a3) := by
  intro d a1 a2 a3
  unfold Dev.raiseAmax
  repeat' first
    | (with_reducible assumption)
    | (with_reducible exact chg_refl _ _)
    | ((with_reducible apply Dev.putEntry_keep); exact rfl)
    | (with_reducible apply chg_ite)
    | (with_reducible apply chg_foldl)
    | (with_reducible apply chg_foldl_snd)
    | (with_reducible apply chg_ite_snd)
    | intro _ _ _
    | intro _
    | split
    | (dsimp -proj only)

theorem Dev.raiseAmax_keep {t d0 d a1 a2 a3} (hs : tablesIn [.t0, .t1, .tir] t = true) (hx : Dev.changesOnly t d0 d) : Dev.changesOnly t d0 (Dev.raiseAmax d a1 a2 a3) :=
  chg_step (Dev.raiseAmax_chg _ _ _ _) hs hx

theorem Dev.soil_chg : ∀ d a1 a2, Dev.changesOnly [.tir] d (Dev.soil d a1 a2) := by
  intro d a1 a2
  unfold Dev.soil
  repeat' first
    | (with_reducible assumption)
    | (with_reducible exact chg_refl _ _)
    | ((with_reducible apply Dev.setObj_keep); exact rfl)
    | (with_reducible apply chg_ite)
    | (with_reducible apply chg_foldl)
    | (with_reducible apply chg_foldl_snd)
    | (with_reducible apply chg_ite_snd)
    | intro _ _ _
    | intro _
    | split
    | (dsimp -proj only)

theorem Dev.soil_keep {t d0 d a1 a2} (hs : tablesIn [.tir] t = true) (hx : Dev.changesOnly t d0 d) : Dev.changesOnly t d0 (Dev.soil d a1 a2) :=
  chg_step (Dev.soil_chg _ _ _) hs hx

theorem Dev.tagKeep_chg : ∀ d a1 a2, Dev.changesOnly [.tir] d (Dev.tagKeep d a1 a2) := by
  intro d a1 a2
  unfold Dev.tagKeep
  repeat' first
    | (with_reducible assumption)
    | (with_reducible exact chg_refl _ _)
    | ((with_reducible apply Dev.setObj_keep); exact rfl)
    | (with_reducible apply chg_ite)
    | (with_reducible apply chg_foldl)
    | (with_reducible apply chg_foldl_snd)
    | (with_reducible apply chg_ite_snd)
    | intro _ _ _
    | intro _
    | split
    | (dsimp -proj only)

theorem Dev.tagKeep_keep {t d0 d a1 a2} (hs : tablesIn [.tir] t = true) (hx : Dev.changesOnly t d0 d) : Dev.changesOnly t d0 (Dev.tagKeep d a1 a2) :=
  chg_step (Dev.tagKeep_chg _ _ _) hs hx

theorem Dev.drained_chg : ∀ d a1 a2 a3, Dev.changesOnly [.regs, .t0, .t1, .log, .logSeq, .evt, .tir] d (Dev.drained d a1 a2 a3) := by
  intro d a1 a2 a3
  unfold Dev.drained
  repeat' first
    | (with_reducible assumption)
    | (with_reducible exact chg_refl _ _)
    | ((with_reducible apply Dev.incSat_keep); exact rfl)
    | ((with_reducible apply Dev.raise_keep); exact rfl)
    | ((with_reducible apply Dev.raiseAmax_keep); exact rfl)
    | ((with_reducible apply Dev.setT0_keep); exact rfl)
    | ((with_reducible apply Dev.soil_keep); exact rfl)
    | ((with_reducible apply Dev.tagKeep_keep); exact rfl)
    | ((with_reducible apply Dev.wr_keep); exact rfl)
    | (with_reducible apply chg_ite)
    | (with_reducible apply chg_foldl)
    | (with_reducible apply chg_foldl_snd)
    | (with_reducible apply chg_ite_snd)
    | intro _ _ _
    | intro _
    | split
    | (dsimp -proj only)

theorem Dev.drained_keep {t d0 d a1 a2 a3} (hs : tablesIn [.regs, .t0, .t1, .log, .logSeq, .evt, .tir] t = true) (hx : Dev.changesOnly t d0 d) : Dev.changesOnly t d0 (Dev.drained d a1 a2 a3) :=
  chg_step (Dev.drained_chg _ _ _ _) hs hx

theorem Dev.countRepeat_chg : ∀ d a1 a2, Dev.changesOnly [.regs] d (Dev.countRepeat d a1 a2) := by
  intro d a1 a2
  unfold Dev.countRepeat
  repeat' first
    | (with_reducible assumption)
    | (with_reducible exact chg_refl _ _)
    | ((with_reducible apply Dev.incSat_keep); exact rfl)
    | (with_reducible apply chg_ite)
    | (with_reducible apply chg_foldl)
    | (with_reducible apply chg_foldl_snd)
    | (with_reducible apply chg_ite_snd)
    | intro _ _ _
    | intro _
    | split
    | (dsimp -proj only)

theorem Dev.countRepeat_keep {t d0 d a1 a2} (hs : tablesIn [.regs] t = true) (hx : Dev.changesOnly t d0 d) : Dev.changesOnly t d0 (Dev.countRepeat d a1 a2) :=
  chg_step (Dev.countRepeat_chg _ _ _) hs hx

theorem Dev.updRun_chg : ∀ d a1 a2 a3, Dev.changesOnly [.kqp] d (Dev.updRun d a1 a2 a3) := by
  intro d a1 a2 a3
  unfold Dev.updRun
  repeat' first
    | (with_reducible assumption)
    | (with_reducible exact chg_refl _ _)
    | ((with_reducible apply Dev.setQueue_keep); exact rfl)
    | (with_reducible apply chg_ite)
    | (with_reducible apply chg_foldl)
    | (with_reducible apply chg_foldl_snd)
    | (with_reducible apply chg_ite_snd)
    | intro _ _ _
    | intro _
    | split
    | (dsimp -proj only)

theorem Dev.updRun_keep {t d0 d a1 a2 a3} (hs : tablesIn [.kqp] t = true) (hx : Dev.changesOnly t d0 d) : Dev.changesOnly t d0 (Dev.updRun d a1 a2 a3) :=
  chg_step (Dev.updRun_chg _ _ _ _) hs hx

theorem Dev.finish_chg : ∀ d a1 a2 a3 a4 a5, Dev.changesOnly [.regs, .kqp] d (Dev.finish d a1 a2 a3 a4 a5) := by
  intro d a1 a2 a3 a4 a5
  unfold Dev.finish
  repeat' first
    | (with_reducible assumption)
    | (with_reducible exact chg_refl _ _)
    | ((with_reducible apply Dev.countRepeat_keep); exact rfl)
    | ((with_reducible apply Dev.partRan_keep); exact rfl)
    | ((with_reducible apply Dev.updRun_keep); exact rfl)
    | (with_reducible apply chg_ite)
    | (with_reducible apply chg_foldl)
    | (with_reducible apply chg_foldl_snd)
    | (with_reducible apply chg_ite_snd)
    | intro _ _ _
    | intro _
    | split
    | (dsimp -proj only)

theorem Dev.finish_keep {t d0 d a1 a2 a3 a4 a5} (hs : tablesIn [.regs, .kqp] t = true) (hx : Dev.changesOnly t d0 d) : Dev.changesOnly t d0 (Dev.finish d a1 a2 a3 a4 a5) :=
  chg_step (Dev.finish_chg _ _ _ _ _ _) hs hx

theorem Dev.arrayDone_chg : ∀ d a1 a2 a3 a4 a5, Dev.changesOnly [.regs, .t0, .t1, .log, .logSeq, .evt, .kqp, .tir, .ccr] d (Dev.arrayDone d a1 a2 a3 a4 a5) := by
  intro d a1 a2 a3 a4 a5
  unfold Dev.arrayDone
  repeat' first
    | (with_reducible assumption)
    | (with_reducible exact chg_refl _ _)
    | ((with_reducible apply Dev.coreCounts_keep); exact rfl)
    | ((with_reducible apply Dev.coreOn_keep); exact rfl)
    | ((with_reducible apply Dev.drained_keep); exact rfl)
    | ((with_reducible apply Dev.finish_keep); exact rfl)
    | (with_reducible apply chg_ite)
    | (with_reducible apply chg_foldl)
    | (with_reducible apply chg_foldl_snd)
    | (with_reducible apply chg_ite_snd)
    | intro _ _ _
    | intro _
    | split
    | (dsimp -proj only)

theorem Dev.arrayDone_keep {t d0 d a1 a2 a3 a4 a5} (hs : tablesIn [.regs, .t0, .t1, .log, .logSeq, .evt, .kqp, .tir, .ccr] t = true) (hx : Dev.changesOnly t d0 d) : Dev.changesOnly t d0 (Dev.arrayDone d a1 a2 a3 a4 a5) :=
  chg_step (Dev.arrayDone_chg _ _ _ _ _ _) hs hx

theorem Dev.startReset_chg : ∀ d a1 a2, Dev.changesOnly [.spr] d (Dev.startReset d a1 a2) := by
  intro d a1 a2
  unfold Dev.startReset
  repeat' first
    | (with_reducible assumption)
    | (with_reducible exact chg_refl _ _)
    | ((with_reducible apply Dev.setSpr_keep); exact rfl)
    | (with_reducible apply chg_ite)
    | (with_reducible apply chg_foldl)
    | (with_reducible apply chg_foldl_snd)
    | (with_reducible apply chg_ite_snd)
    | intro _ _ _
    | intro _
    | split
    | (dsimp -proj only)

theorem Dev.startReset_keep {t d0 d a1 a2} (hs : tablesIn [.spr] t = true) (hx : Dev.changesOnly t d0 d) : Dev.changesOnly t d0 (Dev.startReset d a1 a2) :=
  chg_step (Dev.startReset_chg _ _ _) hs hx

theorem Dev.beginReset_chg : ∀ d a1 a2, Dev.changesOnly [.regs, .spr] d (Dev.beginReset d a1 a2) := by
  intro d a1 a2
  unfold Dev.beginReset
  repeat' first
    | (with_reducible assumption)
    | (with_reducible exact chg_refl _ _)
    | ((with_reducible apply Dev.setFlag_keep); exact rfl)
    | ((with_reducible apply Dev.startReset_keep); exact rfl)
    | (with_reducible apply chg_ite)
    | (with_reducible apply chg_foldl)
    | (with_reducible apply chg_foldl_snd)
    | (with_reducible apply chg_ite_snd)
    | intro _ _ _
    | intro _
    | split
    | (dsimp -proj only)

theorem Dev.beginReset_keep {t d0 d a1 a2} (hs : tablesIn [.regs, .spr] t = true) (hx : Dev.changesOnly t d0 d) : Dev.changesOnly t d0 (Dev.beginReset d a1 a2) :=
  chg_step (Dev.beginReset_chg _ _ _) hs hx

theorem Dev.arrayMismatch_chg : ∀ d a1 a2 a3 a4, Dev.changesOnly [.regs, .t0, .t1, .log, .logSeq, .msixPend, .spr, .six, .evt, .kqp, .out, .tir, .ldg, .col, .ccr] d (Dev.arrayMismatch d a1 a2 a3 a4) := by
  intro d a1 a2 a3 a4
  unfold Dev.arrayMismatch
  repeat' first
    | (with_reducible assumption)
    | (with_reducible exact chg_refl _ _)
    | ((with_reducible apply Dev.beginReset_keep); exact rfl)
    | ((with_reducible apply Dev.coreCounts_keep); exact rfl)
    | ((with_reducible apply Dev.drained_keep); exact rfl)
    | ((with_reducible apply Dev.endPart_keep); exact rfl)
    | ((with_reducible apply Dev.incSat_keep); exact rfl)
    | ((with_reducible apply Dev.raise_keep); exact rfl)
    | ((with_reducible apply Dev.setCcr_keep); exact rfl)
    | ((with_reducible apply Dev.wr_keep); exact rfl)
    | (with_reducible apply chg_ite)
    | (with_reducible apply chg_foldl)
    | (with_reducible apply chg_foldl_snd)
    | (with_reducible apply chg_ite_snd)
    | intro _ _ _
    | intro _
    | split
    | (dsimp -proj only)

theorem Dev.arrayMismatch_keep {t d0 d a1 a2 a3 a4} (hs : tablesIn [.regs, .t0, .t1, .log, .logSeq, .msixPend, .spr, .six, .evt, .kqp, .out, .tir, .ldg, .col, .ccr] t = true) (hx : Dev.changesOnly t d0 d) : Dev.changesOnly t d0 (Dev.arrayMismatch d a1 a2 a3 a4) :=
  chg_step (Dev.arrayMismatch_chg _ _ _ _ _) hs hx

theorem Dev.takeRef_chg : ∀ d a1 a2 a3 a4 a5, Dev.changesOnly [.tir] d (Dev.takeRef d a1 a2 a3 a4 a5) := by
  intro d a1 a2 a3 a4 a5
  unfold Dev.takeRef
  repeat' first
    | (with_reducible assumption)
    | (with_reducible exact chg_refl _ _)
    | ((with_reducible apply Dev.setTir_keep); exact rfl)
    | ((with_reducible apply Dev.setUnit_keep); exact rfl)
    | (with_reducible apply chg_ite)
    | (with_reducible apply chg_foldl)
    | (with_reducible apply chg_foldl_snd)
    | (with_reducible apply chg_ite_snd)
    | intro _ _ _
    | intro _
    | split
    | (dsimp -proj only)

theorem Dev.takeRef_keep {t d0 d a1 a2 a3 a4 a5} (hs : tablesIn [.tir] t = true) (hx : Dev.changesOnly t d0 d) : Dev.changesOnly t d0 (Dev.takeRef d a1 a2 a3 a4 a5) :=
  chg_step (Dev.takeRef_chg _ _ _ _ _ _) hs hx

theorem Dev.grantWaits_chg : ∀ d a1 a2, Dev.changesOnly [.tir] d (Dev.grantWaits d a1 a2) := by
  intro d a1 a2
  unfold Dev.grantWaits
  repeat' first
    | (with_reducible assumption)
    | (with_reducible exact chg_refl _ _)
    | ((with_reducible apply Dev.takeRef_keep); exact rfl)
    | (with_reducible apply chg_ite)
    | (with_reducible apply chg_foldl)
    | (with_reducible apply chg_foldl_snd)
    | (with_reducible apply chg_ite_snd)
    | intro _ _ _
    | intro _
    | split
    | (dsimp -proj only)

theorem Dev.grantWaits_keep {t d0 d a1 a2} (hs : tablesIn [.tir] t = true) (hx : Dev.changesOnly t d0 d) : Dev.changesOnly t d0 (Dev.grantWaits d a1 a2) :=
  chg_step (Dev.grantWaits_chg _ _ _) hs hx

theorem Dev.moveDone_chg : ∀ d a1 a2 a3, Dev.changesOnly [.regs, .six, .out, .tir] d (Dev.moveDone d a1 a2 a3) := by
  intro d a1 a2 a3
  unfold Dev.moveDone
  repeat' first
    | (with_reducible assumption)
    | (with_reducible exact chg_refl _ _)
    | ((with_reducible apply Dev.setUnit_keep); exact rfl)
    | ((with_reducible apply Dev.sixRelease_keep); exact rfl)
    | (with_reducible apply chg_ite)
    | (with_reducible apply chg_foldl)
    | (with_reducible apply chg_foldl_snd)
    | (with_reducible apply chg_ite_snd)
    | intro _ _ _
    | intro _
    | split
    | (dsimp -proj only)

theorem Dev.moveDone_keep {t d0 d a1 a2 a3} (hs : tablesIn [.regs, .six, .out, .tir] t = true) (hx : Dev.changesOnly t d0 d) : Dev.changesOnly t d0 (Dev.moveDone d a1 a2 a3) :=
  chg_step (Dev.moveDone_chg _ _ _ _) hs hx

theorem Dev.pour0_chg : ∀ d a1 a2 a3, Dev.changesOnly [.t0] d (Dev.pour0 d a1 a2 a3) := by
  intro d a1 a2 a3
  unfold Dev.pour0
  repeat' first
    | (with_reducible assumption)
    | (with_reducible exact chg_refl _ _)
    | ((with_reducible apply Dev.setT0_keep); exact rfl)
    | (with_reducible apply chg_ite)
    | (with_reducible apply chg_foldl)
    | (with_reducible apply chg_foldl_snd)
    | (with_reducible apply chg_ite_snd)
    | intro _ _ _
    | intro _
    | split
    | (dsimp -proj only)

theorem Dev.pour0_keep {t d0 d a1 a2 a3} (hs : tablesIn [.t0] t = true) (hx : Dev.changesOnly t d0 d) : Dev.changesOnly t d0 (Dev.pour0 d a1 a2 a3) :=
  chg_step (Dev.pour0_chg _ _ _ _) hs hx

theorem Dev.leave0_chg : ∀ d a1 a2, Dev.changesOnly [.regs, .tir] d (Dev.leave0 d a1 a2) := by
  intro d a1 a2
  unfold Dev.leave0
  repeat' first
    | (with_reducible assumption)
    | (with_reducible exact chg_refl _ _)
    | (refine Dev.ensureT1_keep (by with_reducible assumption) rfl ?_)
    | ((with_reducible apply Dev.setTir_keep); exact rfl)
    | ((with_reducible apply Dev.setUnit_keep); exact rfl)
    | (with_reducible apply chg_ite)
    | (with_reducible apply chg_foldl)
    | (with_reducible apply chg_foldl_snd)
    | (with_reducible apply chg_ite_snd)
    | intro _ _ _
    | intro _
    | split
    | (dsimp -proj only)

theorem Dev.leave0_keep {t d0 d a1 a2} (hs : tablesIn [.regs, .tir] t = true) (hx : Dev.changesOnly t d0 d) : Dev.changesOnly t d0 (Dev.leave0 d a1 a2) :=
  chg_step (Dev.leave0_chg _ _ _) hs hx

theorem Dev.makeRoom0_chg : ∀ d a1 a2, Dev.changesOnly [.regs, .tir] d (Dev.makeRoom0 d a1 a2) := by
  intro d a1 a2
  unfold Dev.makeRoom0
  repeat' first
    | (with_reducible assumption)
    | (with_reducible exact chg_refl _ _)
    | ((with_reducible apply Dev.leave0_keep); exact rfl)
    | (with_reducible apply chg_ite)
    | (with_reducible apply chg_foldl)
    | (with_reducible apply chg_foldl_snd)
    | (with_reducible apply chg_ite_snd)
    | intro _ _ _
    | intro _
    | split
    | (dsimp -proj only)

theorem Dev.makeRoom0_keep {t d0 d a1 a2} (hs : tablesIn [.regs, .tir] t = true) (hx : Dev.changesOnly t d0 d) : Dev.changesOnly t d0 (Dev.makeRoom0 d a1 a2) :=
  chg_step (Dev.makeRoom0_chg _ _ _) hs hx

theorem Dev.moveEntry_chg : ∀ d a1 a2 a3 e, Dev.moveEntry d a1 a2 a3 = some e → Dev.changesOnly [.regs, .six, .out, .tir] d e := by
  intro d a1 a2 a3 e h
  unfold Dev.moveEntry at h
  repeat' first
    | contradiction
    | (injection h with h; subst h)
    | (injection h with h; injection h; subst_vars)
    | split at h
    | (dsimp -proj only at h)
    | (with_reducible assumption)
    | (with_reducible exact chg_refl _ _)
    | ((with_reducible apply Dev.setUnit_keep); exact rfl)
    | (refine Dev.sixAlloc_keep (by with_reducible assumption) rfl ?_)
    | (with_reducible apply chg_ite)
    | (with_reducible apply chg_foldl)
    | (with_reducible apply chg_foldl_snd)
    | (with_reducible apply chg_ite_snd)
    | intro _ _ _
    | intro _
    | split
    | (dsimp -proj only)

theorem Dev.moveEntry_keep {t d0 d a1 a2 a3 e} (h : Dev.moveEntry d a1 a2 a3 = some e) (hs : tablesIn [.regs, .six, .out, .tir] t = true) (hx : Dev.changesOnly t d0 d) : Dev.changesOnly t d0 e :=
  chg_step (Dev.moveEntry_chg _ _ _ _ _ h) hs hx

theorem Dev.writeBack_chg : ∀ d a1 a2 a3 a4, Dev.changesOnly [.regs, .six, .out, .tir] d (Dev.writeBack d a1 a2 a3 a4) := by
  intro d a1 a2 a3 a4
  unfold Dev.writeBack
  repeat' first
    | (with_reducible assumption)
    | (with_reducible exact chg_refl _ _)
    | (refine Dev.moveEntry_keep (by with_reducible assumption) rfl ?_)
    | ((with_reducible apply Dev.setTir_keep); exact rfl)
    | (with_reducible apply chg_ite)
    | (with_reducible apply chg_foldl)
    | (with_reducible apply chg_foldl_snd)
    | (with_reducible apply chg_ite_snd)
    | intro _ _ _
    | intro _
    | split
    | (dsimp -proj only)

theorem Dev.writeBack_keep {t d0 d a1 a2 a3 a4} (hs : tablesIn [.regs, .six, .out, .tir] t = true) (hx : Dev.changesOnly t d0 d) : Dev.changesOnly t d0 (Dev.writeBack d a1 a2 a3 a4) :=
  chg_step (Dev.writeBack_chg _ _ _ _ _) hs hx

theorem Dev.leave1_chg : ∀ d a1 a2 a3, Dev.changesOnly [.regs, .six, .out, .tir] d (Dev.leave1 d a1 a2 a3) := by
  intro d a1 a2 a3
  unfold Dev.leave1
  repeat' first
    | (with_reducible assumption)
    | (with_reducible exact chg_refl _ _)
    | ((with_reducible apply Dev.setUnit_keep); exact rfl)
    | ((with_reducible apply Dev.writeBack_keep); exact rfl)
    | (with_reducible apply chg_ite)
    | (with_reducible apply chg_foldl)
    | (with_reducible apply chg_foldl_snd)
    | (with_reducible apply chg_ite_snd)
    | intro _ _ _
    | intro _
    | split
    | (dsimp -proj only)

theorem Dev.leave1_keep {t d0 d a1 a2 a3} (hs : tablesIn [.regs, .six, .out, .tir] t = true) (hx : Dev.changesOnly t d0 d) : Dev.changesOnly t d0 (Dev.leave1 d a1 a2 a3) :=
  chg_step (Dev.leave1_chg _ _ _ _) hs hx

theorem Dev.makeRoom1_chg : ∀ d a1 a2, Dev.changesOnly [.regs, .six, .out, .tir] d (Dev.makeRoom1 d a1 a2) := by
  intro d a1 a2
  unfold Dev.makeRoom1
  repeat' first
    | (with_reducible assumption)
    | (with_reducible exact chg_refl _ _)
    | ((with_reducible apply Dev.leave1_keep); exact rfl)
    | (with_reducible apply chg_ite)
    | (with_reducible apply chg_foldl)
    | (with_reducible apply chg_foldl_snd)
    | (with_reducible apply chg_ite_snd)
    | intro _ _ _
    | intro _
    | split
    | (dsimp -proj only)

theorem Dev.makeRoom1_keep {t d0 d a1 a2} (hs : tablesIn [.regs, .six, .out, .tir] t = true) (hx : Dev.changesOnly t d0 d) : Dev.changesOnly t d0 (Dev.makeRoom1 d a1 a2) :=
  chg_step (Dev.makeRoom1_chg _ _ _) hs hx

theorem Dev.room_chg : ∀ d a1 a2 a3, Dev.changesOnly [.regs, .six, .out, .tir] d (Dev.room d a1 a2 a3) := by
  intro d a1 a2 a3
  unfold Dev.room
  repeat' first
    | (with_reducible assumption)
    | (with_reducible exact chg_refl _ _)
    | (refine Dev.ensureT1_keep (by with_reducible assumption) rfl ?_)
    | ((with_reducible apply Dev.makeRoom0_keep); exact rfl)
    | ((with_reducible apply Dev.makeRoom1_keep); exact rfl)
    | (with_reducible apply chg_ite)
    | (with_reducible apply chg_foldl)
    | (with_reducible apply chg_foldl_snd)
    | (with_reducible apply chg_ite_snd)
    | intro _ _ _
    | intro _
    | split
    | (dsimp -proj only)

theorem Dev.room_keep {t d0 d a1 a2 a3} (hs : tablesIn [.regs, .six, .out, .tir] t = true) (hx : Dev.changesOnly t d0 d) : Dev.changesOnly t d0 (Dev.room d a1 a2 a3) :=
  chg_step (Dev.room_chg _ _ _ _) hs hx

theorem Dev.freshUnit_chg : ∀ d a1 a2 a3, Dev.changesOnly [.regs, .six, .out, .tir, .mkt] d (Dev.freshUnit d a1 a2 a3).2 := by
  intro d a1 a2 a3
  unfold Dev.freshUnit
  repeat' first
    | (with_reducible assumption)
    | (with_reducible exact chg_refl _ _)
    | (refine Dev.alloc0_keep (by with_reducible assumption) rfl ?_)
    | ((with_reducible apply Dev.room_keep); exact rfl)
    | ((with_reducible apply Dev.setUnit_keep); exact rfl)
    | (with_reducible apply chg_ite)
    | (with_reducible apply chg_foldl)
    | (with_reducible apply chg_foldl_snd)
    | (with_reducible apply chg_ite_snd)
    | intro _ _ _
    | intro _
    | split
    | (dsimp -proj only)

theorem Dev.freshUnit_chg_eq : ∀ d a1 a2 a3 x0 e, Dev.freshUnit d a1 a2 a3 = (x0, e) → Dev.changesOnly [.regs, .six, .out, .tir, .mkt] d e := by
  intro d a1 a2 a3 x0 e h
  have := Dev.freshUnit_chg d a1 a2 a3
  rw [h] at this
  exact this

theorem Dev.freshUnit_keep {t d0 d a1 a2 a3} (hs : tablesIn [.regs, .six, .out, .tir, .mkt] t = true) (hx : Dev.changesOnly t d0 d) : Dev.changesOnly t d0 ((Dev.freshUnit d a1 a2 a3).2) :=
  chg_step (Dev.freshUnit_chg _ _ _ _) hs hx

theorem Dev.freshUnit_keep_eq {t d0 d a1 a2 a3 x0 e} (h : Dev.freshUnit d a1 a2 a3 = (x0, e)) (hs : tablesIn [.regs, .six, .out, .tir, .mkt] t = true) (hx : Dev.changesOnly t d0 d) : Dev.changesOnly t d0 e :=
  chg_step (Dev.freshUnit_chg_eq _ _ _ _ _ _ h) hs hx

theorem Dev.assistOpen_chg : ∀ d a1 a2, Dev.changesOnly [.regs, .log, .logSeq, .evt] d (Dev.assistOpen d a1 a2) := by
  intro d a1 a2
  unfold Dev.assistOpen
  repeat' first
    | (with_reducible assumption)
    | (with_reducible exact chg_refl _ _)
    | ((with_reducible apply Dev.raise_keep); exact rfl)
    | ((with_reducible apply Dev.setFlag_keep); exact rfl)
    | (with_reducible apply chg_ite)
    | (with_reducible apply chg_foldl)
    | (with_reducible apply chg_foldl_snd)
    | (with_reducible apply chg_ite_snd)
    | intro _ _ _
    | intro _
    | split
    | (dsimp -proj only)

theorem Dev.assistOpen_keep {t d0 d a1 a2} (hs : tablesIn [.regs, .log, .logSeq, .evt] t = true) (hx : Dev.changesOnly t d0 d) : Dev.changesOnly t d0 (Dev.assistOpen d a1 a2) :=
  chg_step (Dev.assistOpen_chg _ _ _) hs hx

theorem Dev.showTir_chg : ∀ d, Dev.changesOnly [.regs] d (Dev.showTir d) := by
  intro d
  unfold Dev.showTir
  repeat' first
    | (with_reducible assumption)
    | (with_reducible exact chg_refl _ _)
    | ((with_reducible apply Dev.setFlag_keep); exact rfl)
    | ((with_reducible apply Dev.wr_keep); exact rfl)
    | (with_reducible apply chg_ite)
    | (with_reducible apply chg_foldl)
    | (with_reducible apply chg_foldl_snd)
    | (with_reducible apply chg_ite_snd)
    | intro _ _ _
    | intro _
    | split
    | (dsimp -proj only)

theorem Dev.showTir_keep {t d0 d} (hs : tablesIn [.regs] t = true) (hx : Dev.changesOnly t d0 d) : Dev.changesOnly t d0 (Dev.showTir d) :=
  chg_step (Dev.showTir_chg _) hs hx

theorem Dev.openTirRec_chg : ∀ d a1 a2, Dev.changesOnly [.regs, .log, .logSeq, .six, .evt, .out, .tir] d (Dev.openTirRec d a1 a2) := by
  intro d a1 a2
  unfold Dev.openTirRec
  repeat' first
    | (with_reducible assumption)
    | (with_reducible exact chg_refl _ _)
    | ((with_reducible apply Dev.assistOpen_keep); exact rfl)
    | ((with_reducible apply Dev.setTir_keep); exact rfl)
    | ((with_reducible apply Dev.setUnit_keep); exact rfl)
    | ((with_reducible apply Dev.showTir_keep); exact rfl)
    | (refine Dev.sixAlloc_keep (by with_reducible assumption) rfl ?_)
    | (with_reducible apply chg_ite)
    | (with_reducible apply chg_foldl)
    | (with_reducible apply chg_foldl_snd)
    | (with_reducible apply chg_ite_snd)
    | intro _ _ _
    | intro _
    | split
    | (dsimp -proj only)

theorem Dev.openTirRec_keep {t d0 d a1 a2} (hs : tablesIn [.regs, .log, .logSeq, .six, .evt, .out, .tir] t = true) (hx : Dev.changesOnly t d0 d) : Dev.changesOnly t d0 (Dev.openTirRec d a1 a2) :=
  chg_step (Dev.openTirRec_chg _ _ _) hs hx

theorem Dev.startMove_chg : ∀ d k u tier src parent, Dev.changesOnly [.regs, .six, .out, .tir, .mkt] d (Dev.startMove d k u tier src parent) := by
  intro d k u tier src parent
  unfold Dev.startMove
  dsimp only
  have hr : Dev.changesOnly [.regs, .six, .out, .tir, .mkt] d (d.room k (tier == 0) (src == 3)) := Dev.room_keep (by exact rfl) (chg_refl _ _)
  split
  · exact hr
  · rename_i d1 h1
    have g1 : Dev.changesOnly [.regs, .six, .out, .tir, .mkt] d d1 := by
      split at h1
      · exact Dev.ensureT1_keep h1 (by exact rfl) (chg_refl _ _)
      · injection h1 with h1; subst h1; exact chg_refl _ _
    split
    · exact hr
    · rename_i d2 h2
      have g2 : Dev.changesOnly [.regs, .six, .out, .tir, .mkt] d d2 := by
        split at h2
        · exact Dev.alloc0_keep h2 (by exact rfl) g1
        · injection h2 with h2; subst h2; exact g1
      split
      · exact chg_refl _ _
      · rename_i h3
        exact Dev.setUnit_keep (by exact rfl) (Dev.moveEntry_keep h3 (by exact rfl) g2)

theorem Dev.startMove_keep {t d0 d k u tier src parent} (hs : tablesIn [.regs, .six, .out, .tir, .mkt] t = true) (hx : Dev.changesOnly t d0 d) : Dev.changesOnly t d0 (Dev.startMove d k u tier src parent) :=
  chg_step (Dev.startMove_chg _ _ _ _ _ _) hs hx

theorem Dev.bring0_chg : ∀ d a1 a2 a3 a4, Dev.changesOnly [.regs, .log, .logSeq, .six, .evt, .out, .tir, .mkt] d (Dev.bring0 d a1 a2 a3 a4).2 := by
  intro d a1 a2 a3 a4
  unfold Dev.bring0
  repeat' first
    | (with_reducible assumption)
    | (with_reducible exact chg_refl _ _)
    | ((with_reducible apply Dev.freshUnit_keep); exact rfl)
    | (refine Dev.freshUnit_keep_eq (by with_reducible assumption) rfl ?_)
    | ((with_reducible apply Dev.openTirRec_keep); exact rfl)
    | ((with_reducible apply Dev.raise_keep); exact rfl)
    | ((with_reducible apply Dev.setUnit_keep); exact rfl)
    | ((with_reducible apply Dev.startMove_keep); exact rfl)
    | (with_reducible apply chg_ite)
    | (with_reducible apply chg_foldl)
    | (with_reducible apply chg_foldl_snd)
    | (with_reducible apply chg_ite_snd)
    | intro _ _ _
    | intro _
    | split
    | (dsimp -proj only)

theorem Dev.bring0_chg_eq : ∀ d a1 a2 a3 a4 x0 e, Dev.bring0 d a1 a2 a3 a4 = (x0, e) → Dev.changesOnly [.regs, .log, .logSeq, .six, .evt, .out, .tir, .mkt] d e := by
  intro d a1 a2 a3 a4 x0 e h
  have := Dev.bring0_chg d a1 a2 a3 a4
  rw [h] at this
  exact this

theorem Dev.bring0_keep {t d0 d a1 a2 a3 a4} (hs : tablesIn [.regs, .log, .logSeq, .six, .evt, .out, .tir, .mkt] t = true) (hx : Dev.changesOnly t d0 d) : Dev.changesOnly t d0 ((Dev.bring0 d a1 a2 a3 a4).2) :=
  chg_step (Dev.bring0_chg _ _ _ _ _) hs hx

theorem Dev.bring0_keep_eq {t d0 d a1 a2 a3 a4 x0 e} (h : Dev.bring0 d a1 a2 a3 a4 = (x0, e)) (hs : tablesIn [.regs, .log, .logSeq, .six, .evt, .out, .tir, .mkt] t = true) (hx : Dev.changesOnly t d0 d) : Dev.changesOnly t d0 e :=
  chg_step (Dev.bring0_chg_eq _ _ _ _ _ _ _ h) hs hx

theorem Dev.serveWaits_chg : ∀ d, Dev.changesOnly [.regs, .log, .logSeq, .six, .evt, .kqp, .out, .tir, .mkt] d (Dev.serveWaits d) := by
  intro d
  unfold Dev.serveWaits
  repeat' first
    | (with_reducible assumption)
    | (with_reducible exact chg_refl _ _)
    | ((with_reducible apply Dev.bring0_keep); exact rfl)
    | (refine Dev.bring0_keep_eq (by with_reducible assumption) rfl ?_)
    | ((with_reducible apply Dev.failWaits_keep); exact rfl)
    | ((with_reducible apply Dev.takeRef_keep); exact rfl)
    | (with_reducible apply chg_ite)
    | (with_reducible apply chg_foldl)
    | (with_reducible apply chg_foldl_snd)
    | (with_reducible apply chg_ite_snd)
    | intro _ _ _
    | intro _
    | split
    | (dsimp -proj only)

theorem Dev.serveWaits_keep {t d0 d} (hs : tablesIn [.regs, .log, .logSeq, .six, .evt, .kqp, .out, .tir, .mkt] t = true) (hx : Dev.changesOnly t d0 d) : Dev.changesOnly t d0 (Dev.serveWaits d) :=
  chg_step (Dev.serveWaits_chg _) hs hx

theorem Dev.fillDone_chg : ∀ d a1, Dev.changesOnly [.mkt] d (Dev.fillDone d a1) := by
  intro d a1
  unfold Dev.fillDone
  repeat' first
    | (with_reducible assumption)
    | (with_reducible exact chg_refl _ _)
    | ((with_reducible apply Dev.setMkt_keep); exact rfl)
    | (with_reducible apply chg_ite)
    | (with_reducible apply chg_foldl)
    | (with_reducible apply chg_foldl_snd)
    | (with_reducible apply chg_ite_snd)
    | intro _ _ _
    | intro _
    | split
    | (dsimp -proj only)

theorem Dev.fillDone_keep {t d0 d a1} (hs : tablesIn [.mkt] t = true) (hx : Dev.changesOnly t d0 d) : Dev.changesOnly t d0 (Dev.fillDone d a1) :=
  chg_step (Dev.fillDone_chg _ _) hs hx

theorem Dev.settle0_chg : ∀ d a1 a2, Dev.changesOnly [.tir, .mkt] d (Dev.settle0 d a1 a2) := by
  intro d a1 a2
  unfold Dev.settle0
  repeat' first
    | (with_reducible assumption)
    | (with_reducible exact chg_refl _ _)
    | ((with_reducible apply Dev.fillDone_keep); exact rfl)
    | ((with_reducible apply Dev.setUnit_keep); exact rfl)
    | (with_reducible apply chg_ite)
    | (with_reducible apply chg_foldl)
    | (with_reducible apply chg_foldl_snd)
    | (with_reducible apply chg_ite_snd)
    | intro _ _ _
    | intro _
    | split
    | (dsimp -proj only)

theorem Dev.settle0_keep {t d0 d a1 a2} (hs : tablesIn [.tir, .mkt] t = true) (hx : Dev.changesOnly t d0 d) : Dev.changesOnly t d0 (Dev.settle0 d a1 a2) :=
  chg_step (Dev.settle0_chg _ _ _) hs hx

theorem Dev.arrive_chg : ∀ d a1 a2 a3, Dev.changesOnly [.regs, .t0, .t1, .log, .logSeq, .six, .evt, .kqp, .out, .tir, .mkt] d (Dev.arrive d a1 a2 a3) := by
  intro d a1 a2 a3
  unfold Dev.arrive
  repeat' first
    | (with_reducible assumption)
    | (with_reducible exact chg_refl _ _)
    | ((with_reducible apply Dev.grantWaits_keep); exact rfl)
    | ((with_reducible apply Dev.moveDone_keep); exact rfl)
    | ((with_reducible apply Dev.pour0_keep); exact rfl)
    | ((with_reducible apply Dev.pour1_keep); exact rfl)
    | ((with_reducible apply Dev.serveWaits_keep); exact rfl)
    | ((with_reducible apply Dev.setUnit_keep); exact rfl)
    | ((with_reducible apply Dev.settle0_keep); exact rfl)
    | (with_reducible apply chg_ite)
    | (with_reducible apply chg_foldl)
    | (with_reducible apply chg_foldl_snd)
    | (with_reducible apply chg_ite_snd)
    | intro _ _ _
    | intro _
    | split
    | (dsimp -proj only)

theorem Dev.arrive_keep {t d0 d a1 a2 a3} (hs : tablesIn [.regs, .t0, .t1, .log, .logSeq, .six, .evt, .kqp, .out, .tir, .mkt] t = true) (hx : Dev.changesOnly t d0 d) : Dev.changesOnly t d0 (Dev.arrive d a1 a2 a3) :=
  chg_step (Dev.arrive_chg _ _ _ _) hs hx

theorem Dev.askRoster_chg : ∀ d a1, Dev.changesOnly [.regs, .log, .logSeq, .six, .evt, .out, .fab, .tbn] d (Dev.askRoster d a1) := by
  intro d a1
  unfold Dev.askRoster
  repeat' first
    | (with_reducible assumption)
    | (with_reducible exact chg_refl _ _)
    | ((with_reducible apply Dev.sendCtrl_keep); exact rfl)
    | (with_reducible apply chg_ite)
    | (with_reducible apply chg_foldl)
    | (with_reducible apply chg_foldl_snd)
    | (with_reducible apply chg_ite_snd)
    | intro _ _ _
    | intro _
    | split
    | (dsimp -proj only)

theorem Dev.askRoster_keep {t d0 d a1} (hs : tablesIn [.regs, .log, .logSeq, .six, .evt, .out, .fab, .tbn] t = true) (hx : Dev.changesOnly t d0 d) : Dev.changesOnly t d0 (Dev.askRoster d a1) :=
  chg_step (Dev.askRoster_chg _ _) hs hx

theorem Dev.makeAlias_chg : ∀ d a1 a2 a3 x0 e, Dev.makeAlias d a1 a2 a3 = some (x0, e) → Dev.changesOnly [.tir] d e := by
  intro d a1 a2 a3 x0 e h
  unfold Dev.makeAlias at h
  repeat' first
    | contradiction
    | (injection h with h; subst h)
    | (injection h with h; injection h; subst_vars)
    | split at h
    | (dsimp -proj only at h)
    | (with_reducible assumption)
    | (with_reducible exact chg_refl _ _)
    | ((with_reducible apply Dev.setObj_keep); exact rfl)
    | (with_reducible apply chg_ite)
    | (with_reducible apply chg_foldl)
    | (with_reducible apply chg_foldl_snd)
    | (with_reducible apply chg_ite_snd)
    | intro _ _ _
    | intro _
    | split
    | (dsimp -proj only)

theorem Dev.makeAlias_keep {t d0 d a1 a2 a3 x0 e} (h : Dev.makeAlias d a1 a2 a3 = some (x0, e)) (hs : tablesIn [.tir] t = true) (hx : Dev.changesOnly t d0 d) : Dev.changesOnly t d0 e :=
  chg_step (Dev.makeAlias_chg _ _ _ _ _ _ h) hs hx

theorem Dev.makeAliases_chg : ∀ l d st p x e, Dev.makeAliases d st p l = some (x, e) → Dev.changesOnly [.regs, .tir] d e
  | [], d, st, p, x, e, h => by injection h with h; injection h with _ h; subst h; exact chg_refl _ _
  | (n, k) :: rest, d, st, p, x, e, h => by
    unfold Dev.makeAliases at h
    split at h
    · contradiction
    · split at h
      · contradiction
      · rename_i h1
        split at h
        · contradiction
        · rename_i h2
          dsimp -proj only at h
          split at h
          · contradiction
          · rename_i h3
            injection h with h; injection h with _ h; subst h
            exact chg_step (Dev.makeAliases_chg rest _ _ _ _ _ h3) rfl (Dev.wr_keep (by exact rfl) (Dev.wr_keep (by exact rfl)
              (Dev.makeAlias_keep h2 (by exact rfl) (Dev.makeAlias_keep h1 (by exact rfl) (chg_refl _ _)))))

theorem Dev.makeAliases_keep {t d0 d st p l x e} (h : Dev.makeAliases d st p l = some (x, e)) (hs : tablesIn [.regs, .tir] t = true)
    (hx : Dev.changesOnly t d0 d) : Dev.changesOnly t d0 e :=
  chg_step (Dev.makeAliases_chg _ _ _ _ _ _ h) hs hx

theorem Dev.assistUpdate_chg : ∀ d a1 a2 a3 a4, Dev.changesOnly [.regs, .log, .logSeq, .six, .evt, .kqp, .out, .tir, .acr] d (Dev.assistUpdate d a1 a2 a3 a4) := by
  intro d a1 a2 a3 a4
  unfold Dev.assistUpdate
  repeat' first
    | (with_reducible assumption)
    | (with_reducible exact chg_refl _ _)
    | ((with_reducible apply Dev.assistOpen_keep); exact rfl)
    | ((with_reducible apply Dev.failPart_keep); exact rfl)
    | (refine Dev.makeAliases_keep (by with_reducible assumption) rfl ?_)
    | ((with_reducible apply Dev.setAcr_keep); exact rfl)
    | (refine Dev.sixAlloc_keep (by with_reducible assumption) rfl ?_)
    | ((with_reducible apply Dev.wr_keep); exact rfl)
    | (with_reducible apply chg_ite)
    | (with_reducible apply chg_foldl)
    | (with_reducible apply chg_foldl_snd)
    | (with_reducible apply chg_ite_snd)
    | intro _ _ _
    | intro _
    | split
    | (dsimp -proj only)

theorem Dev.assistUpdate_keep {t d0 d a1 a2 a3 a4} (hs : tablesIn [.regs, .log, .logSeq, .six, .evt, .kqp, .out, .tir, .acr] t = true) (hx : Dev.changesOnly t d0 d) : Dev.changesOnly t d0 (Dev.assistUpdate d a1 a2 a3 a4) :=
  chg_step (Dev.assistUpdate_chg _ _ _ _ _) hs hx

theorem Dev.badAccess_chg : ∀ d a1 a2 a3, Dev.changesOnly [.regs, .log, .logSeq, .evt] d (Dev.badAccess d a1 a2 a3) := by
  intro d a1 a2 a3
  unfold Dev.badAccess
  repeat' first
    | (with_reducible assumption)
    | (with_reducible exact chg_refl _ _)
    | ((with_reducible apply Dev.incSat_keep); exact rfl)
    | ((with_reducible apply Dev.raise_keep); exact rfl)
    | ((with_reducible apply Dev.wr_keep); exact rfl)
    | (with_reducible apply chg_ite)
    | (with_reducible apply chg_foldl)
    | (with_reducible apply chg_foldl_snd)
    | (with_reducible apply chg_ite_snd)
    | intro _ _ _
    | intro _
    | split
    | (dsimp -proj only)

theorem Dev.badAccess_keep {t d0 d a1 a2 a3} (hs : tablesIn [.regs, .log, .logSeq, .evt] t = true) (hx : Dev.changesOnly t d0 d) : Dev.changesOnly t d0 (Dev.badAccess d a1 a2 a3) :=
  chg_step (Dev.badAccess_chg _ _ _ _) hs hx

theorem Dev.badDoorbell_chg : ∀ d a1 a2, Dev.changesOnly [.regs, .log, .logSeq, .evt] d (Dev.badDoorbell d a1 a2) := by
  intro d a1 a2
  unfold Dev.badDoorbell
  repeat' first
    | (with_reducible assumption)
    | (with_reducible exact chg_refl _ _)
    | ((with_reducible apply Dev.badAccess_keep); exact rfl)
    | (with_reducible apply chg_ite)
    | (with_reducible apply chg_foldl)
    | (with_reducible apply chg_foldl_snd)
    | (with_reducible apply chg_ite_snd)
    | intro _ _ _
    | intro _
    | split
    | (dsimp -proj only)

theorem Dev.badDoorbell_keep {t d0 d a1 a2} (hs : tablesIn [.regs, .log, .logSeq, .evt] t = true) (hx : Dev.changesOnly t d0 d) : Dev.changesOnly t d0 (Dev.badDoorbell d a1 a2) :=
  chg_step (Dev.badDoorbell_chg _ _ _) hs hx

theorem Dev.bankReplaced_chg : ∀ d a1, Dev.changesOnly [.regs, .log, .logSeq, .evt, .mkt, .sec] d (Dev.bankReplaced d a1) := by
  intro d a1
  unfold Dev.bankReplaced
  repeat' first
    | (with_reducible assumption)
    | (with_reducible exact chg_refl _ _)
    | ((with_reducible apply Dev.raise_keep); exact rfl)
    | ((with_reducible apply Dev.recordRetirement_keep); exact rfl)
    | ((with_reducible apply Dev.setBank_keep); exact rfl)
    | ((with_reducible apply Dev.wr_keep); exact rfl)
    | (with_reducible apply chg_ite)
    | (with_reducible apply chg_foldl)
    | (with_reducible apply chg_foldl_snd)
    | (with_reducible apply chg_ite_snd)
    | intro _ _ _
    | intro _
    | split
    | (dsimp -proj only)

theorem Dev.bankReplaced_keep {t d0 d a1} (hs : tablesIn [.regs, .log, .logSeq, .evt, .mkt, .sec] t = true) (hx : Dev.changesOnly t d0 d) : Dev.changesOnly t d0 (Dev.bankReplaced d a1) :=
  chg_step (Dev.bankReplaced_chg _ _) hs hx

theorem Dev.bankApproved_chg : ∀ d a1, Dev.changesOnly [.regs, .log, .logSeq, .evt, .mkt, .sec] d (Dev.bankApproved d a1) := by
  intro d a1
  unfold Dev.bankApproved
  repeat' first
    | (with_reducible assumption)
    | (with_reducible exact chg_refl _ _)
    | ((with_reducible apply Dev.bankReplaced_keep); exact rfl)
    | ((with_reducible apply Dev.raise_keep); exact rfl)
    | ((with_reducible apply Dev.setBank_keep); exact rfl)
    | ((with_reducible apply Dev.setMkt_keep); exact rfl)
    | (with_reducible apply chg_ite)
    | (with_reducible apply chg_foldl)
    | (with_reducible apply chg_foldl_snd)
    | (with_reducible apply chg_ite_snd)
    | intro _ _ _
    | intro _
    | split
    | (dsimp -proj only)

theorem Dev.bankApproved_keep {t d0 d a1} (hs : tablesIn [.regs, .log, .logSeq, .evt, .mkt, .sec] t = true) (hx : Dev.changesOnly t d0 d) : Dev.changesOnly t d0 (Dev.bankApproved d a1) :=
  chg_step (Dev.bankApproved_chg _ _) hs hx

theorem Dev.collStart_chg : ∀ d a1 a2 a3, Dev.changesOnly [.regs, .col] d (Dev.collStart d a1 a2 a3) := by
  intro d a1 a2 a3
  unfold Dev.collStart
  repeat' first
    | (with_reducible assumption)
    | (with_reducible exact chg_refl _ _)
    | ((with_reducible apply Dev.setCol_keep); exact rfl)
    | ((with_reducible apply Dev.wr_keep); exact rfl)
    | (with_reducible apply chg_ite)
    | (with_reducible apply chg_foldl)
    | (with_reducible apply chg_foldl_snd)
    | (with_reducible apply chg_ite_snd)
    | intro _ _ _
    | intro _
    | split
    | (dsimp -proj only)

theorem Dev.collStart_keep {t d0 d a1 a2 a3} (hs : tablesIn [.regs, .col] t = true) (hx : Dev.changesOnly t d0 d) : Dev.changesOnly t d0 (Dev.collStart d a1 a2 a3) :=
  chg_step (Dev.collStart_chg _ _ _ _) hs hx

theorem Dev.setWaits_chg : ∀ d a1 a2 a3 a4 a5, Dev.changesOnly [.regs] d (Dev.setWaits d a1 a2 a3 a4 a5) := by
  intro d a1 a2 a3 a4 a5
  unfold Dev.setWaits
  repeat' first
    | (with_reducible assumption)
    | (with_reducible exact chg_refl _ _)
    | ((with_reducible apply Dev.setFlag_keep); exact rfl)
    | (with_reducible apply chg_ite)
    | (with_reducible apply chg_foldl)
    | (with_reducible apply chg_foldl_snd)
    | (with_reducible apply chg_ite_snd)
    | intro _ _ _
    | intro _
    | split
    | (dsimp -proj only)

theorem Dev.setWaits_keep {t d0 d a1 a2 a3 a4 a5} (hs : tablesIn [.regs] t = true) (hx : Dev.changesOnly t d0 d) : Dev.changesOnly t d0 (Dev.setWaits d a1 a2 a3 a4 a5) :=
  chg_step (Dev.setWaits_chg _ _ _ _ _ _) hs hx

theorem Dev.dropHead_chg : ∀ d a1, Dev.changesOnly [.regs, .kqp] d (Dev.dropHead d a1) := by
  intro d a1
  unfold Dev.dropHead
  repeat' first
    | (with_reducible assumption)
    | (with_reducible exact chg_refl _ _)
    | ((with_reducible apply Dev.setQSt_keep); exact rfl)
    | ((with_reducible apply Dev.setQueue_keep); exact rfl)
    | ((with_reducible apply Dev.setWaits_keep); exact rfl)
    | (with_reducible apply chg_ite)
    | (with_reducible apply chg_foldl)
    | (with_reducible apply chg_foldl_snd)
    | (with_reducible apply chg_ite_snd)
    | intro _ _ _
    | intro _
    | split
    | (dsimp -proj only)

theorem Dev.dropHead_keep {t d0 d a1} (hs : tablesIn [.regs, .kqp] t = true) (hx : Dev.changesOnly t d0 d) : Dev.changesOnly t d0 (Dev.dropHead d a1) :=
  chg_step (Dev.dropHead_chg _ _) hs hx

theorem Dev.blockQueue_chg : ∀ d a1, Dev.changesOnly [.regs, .kqp] d (Dev.blockQueue d a1) := by
  intro d a1
  unfold Dev.blockQueue
  repeat' first
    | (with_reducible assumption)
    | (with_reducible exact chg_refl _ _)
    | ((with_reducible apply Dev.setQSt_keep); exact rfl)
    | ((with_reducible apply Dev.setQueue_keep); exact rfl)
    | (with_reducible apply chg_ite)
    | (with_reducible apply chg_foldl)
    | (with_reducible apply chg_foldl_snd)
    | (with_reducible apply chg_ite_snd)
    | intro _ _ _
    | intro _
    | split
    | (dsimp -proj only)

theorem Dev.blockQueue_keep {t d0 d a1} (hs : tablesIn [.regs, .kqp] t = true) (hx : Dev.changesOnly t d0 d) : Dev.changesOnly t d0 (Dev.blockQueue d a1) :=
  chg_step (Dev.blockQueue_chg _ _) hs hx

theorem Dev.indexHold_chg : ∀ d a1, Dev.changesOnly [.regs, .log, .logSeq, .six, .evt, .kqp] d (Dev.indexHold d a1) := by
  intro d a1
  unfold Dev.indexHold
  repeat' first
    | (with_reducible assumption)
    | (with_reducible exact chg_refl _ _)
    | ((with_reducible apply Dev.blockQueue_keep); exact rfl)
    | ((with_reducible apply Dev.raise_keep); exact rfl)
    | ((with_reducible apply Dev.setQueue_keep); exact rfl)
    | ((with_reducible apply Dev.setSix_keep); exact rfl)
    | ((with_reducible apply Dev.setWaits_keep); exact rfl)
    | (with_reducible apply chg_ite)
    | (with_reducible apply chg_foldl)
    | (with_reducible apply chg_foldl_snd)
    | (with_reducible apply chg_ite_snd)
    | intro _ _ _
    | intro _
    | split
    | (dsimp -proj only)

theorem Dev.indexHold_keep {t d0 d a1} (hs : tablesIn [.regs, .log, .logSeq, .six, .evt, .kqp] t = true) (hx : Dev.changesOnly t d0 d) : Dev.changesOnly t d0 (Dev.indexHold d a1) :=
  chg_step (Dev.indexHold_chg _ _) hs hx

theorem Dev.partHandles_chg : ∀ n d q r l x e, Dev.partHandles d q r n l = some (x, e) → Dev.changesOnly [.regs, .six, .out] d e
  | 0, d, q, r, l, x, e, h => by injection h with h; injection h with _ h; subst h; exact chg_refl _ _
  | n + 1, d, q, r, l, x, e, h => by
    unfold Dev.partHandles at h
    split at h
    · rename_i h1; exact chg_step (Dev.partHandles_chg n _ _ _ _ _ _ h) rfl (Dev.sixAlloc_chg _ _ _ _ _ _ _ _ _ h1)
    · contradiction

theorem Dev.partHandles_keep {t d0 d q r n l x e} (h : Dev.partHandles d q r n l = some (x, e)) (hs : tablesIn [.regs, .six, .out] t = true)
    (hx : Dev.changesOnly t d0 d) : Dev.changesOnly t d0 e :=
  chg_step (Dev.partHandles_chg _ _ _ _ _ _ _ h) hs hx

theorem Dev.takeEntries_chg : ∀ d q np kept x l e, Dev.takeEntries d q np kept = some (x, l, e) → Dev.changesOnly [.regs, .six, .out] d e := by
  intro d q np kept x l e h
  unfold Dev.takeEntries at h
  split at h
  · contradiction
  · rename_i y d1 h1
    have h2 : Dev.changesOnly [.regs, .six, .out] d d1 := by
      split at h1
      · simp only [Option.some.injEq, Prod.mk.injEq] at h1; obtain ⟨_, rfl⟩ := h1; exact chg_refl _ _
      · exact Dev.sixAlloc_keep h1 (by exact rfl) (chg_refl _ _)
    split at h
    · simp only [Option.some.injEq, Prod.mk.injEq] at h; obtain ⟨_, _, rfl⟩ := h; exact h2
    · split at h
      · rename_i h3
        simp only [Option.some.injEq, Prod.mk.injEq] at h; obtain ⟨_, _, rfl⟩ := h
        exact Dev.partHandles_keep h3 (by exact rfl) h2
      · contradiction

theorem Dev.takeEntries_keep {t d0 d q np kept x l e} (h : Dev.takeEntries d q np kept = some (x, l, e)) (hs : tablesIn [.regs, .six, .out] t = true) (hx : Dev.changesOnly t d0 d) :
    Dev.changesOnly t d0 e :=
  chg_step (Dev.takeEntries_chg _ _ _ _ _ _ _ h) hs hx

theorem Dev.begin_chg : ∀ d a1 a2 a3 a4, Dev.changesOnly [.regs, .log, .logSeq, .six, .evt, .kqp, .out, .col] d (Dev.begin d a1 a2 a3 a4) := by
  intro d a1 a2 a3 a4
  unfold Dev.begin
  repeat' first
    | (with_reducible assumption)
    | (with_reducible exact chg_refl _ _)
    | ((with_reducible apply Dev.addBinds_keep); exact rfl)
    | ((with_reducible apply Dev.collStart_keep); exact rfl)
    | ((with_reducible apply Dev.dropHead_keep); exact rfl)
    | ((with_reducible apply Dev.indexHold_keep); exact rfl)
    | ((with_reducible apply Dev.qSettle_keep); exact rfl)
    | ((with_reducible apply Dev.setQueue_keep); exact rfl)
    | (refine Dev.takeEntries_keep (by with_reducible assumption) rfl ?_)
    | (with_reducible apply chg_ite)
    | (with_reducible apply chg_foldl)
    | (with_reducible apply chg_foldl_snd)
    | (with_reducible apply chg_ite_snd)
    | intro _ _ _
    | intro _
    | split
    | (dsimp -proj only)

theorem Dev.begin_keep {t d0 d a1 a2 a3 a4} (hs : tablesIn [.regs, .log, .logSeq, .six, .evt, .kqp, .out, .col] t = true) (hx : Dev.changesOnly t d0 d) : Dev.changesOnly t d0 (Dev.begin d a1 a2 a3 a4) :=
  chg_step (Dev.begin_chg _ _ _ _ _) hs hx

theorem Dev.recoverJobs_chg : ∀ d, Dev.changesOnly [.regs, .t0, .t1, .log, .logSeq, .six, .evt, .kqp, .out, .tir, .mkt, .ldg, .acr, .col, .fab, .tbn] d (Dev.recoverJobs d) := by
  intro d
  unfold Dev.recoverJobs
  repeat' first
    | (with_reducible assumption)
    | (with_reducible exact chg_refl _ _)
    | ((with_reducible apply Dev.abortAttempt_keep); exact rfl)
    | ((with_reducible apply Dev.askDecisions_keep); exact rfl)
    | (with_reducible apply chg_ite)
    | (with_reducible apply chg_foldl)
    | (with_reducible apply chg_foldl_snd)
    | (with_reducible apply chg_ite_snd)
    | intro _ _ _
    | intro _
    | split
    | (dsimp -proj only)

theorem Dev.recoverJobs_keep {t d0 d} (hs : tablesIn [.regs, .t0, .t1, .log, .logSeq, .six, .evt, .kqp, .out, .tir, .mkt, .ldg, .acr, .col, .fab, .tbn] t = true) (hx : Dev.changesOnly t d0 d) : Dev.changesOnly t d0 (Dev.recoverJobs d) :=
  chg_step (Dev.recoverJobs_chg _) hs hx

theorem Dev.beginStage_chg : ∀ d k, Dev.changesOnly [.regs, .t0, .t1, .log, .logSeq, .spr, .six, .evt, .kqp, .out, .tir, .mkt, .ldg, .acr, .col, .fab, .tbn, .sec, .hif] d (Dev.beginStage d k) := by
  intro d k
  unfold Dev.beginStage
  dsimp only
  have h0 : Dev.changesOnly [.regs, .t0, .t1, .log, .logSeq, .spr, .six, .evt, .kqp, .out, .tir, .mkt, .ldg, .acr, .col, .fab, .tbn, .sec, .hif] d
      ((d.setSec { d.sec with stage := k, stageFrom := d.now, alt := 0, altOp := 0, altFrom := 0, running := true }).updEntry
        (fun e => { e with last := k })) := Dev.updEntry_keep (by exact rfl) (Dev.setSec_keep (by exact rfl) (chg_refl _ _))
  revert h0
  generalize ((d.setSec { d.sec with stage := k, stageFrom := d.now, alt := 0, altOp := 0, altFrom := 0, running := true }).updEntry
        (fun e => { e with last := k })) = d1
  intro h0
  have h1 : Dev.changesOnly [.regs, .t0, .t1, .log, .logSeq, .spr, .six, .evt, .kqp, .out, .tir, .mkt, .ldg, .acr, .col, .fab, .tbn, .sec, .hif] d (if k = 9 ∧ d1.rd F.timCfg_role ≠ 0 then d1.wr F.timState_state 1 else d1) :=
    chg_ite (Dev.wr_keep (by exact rfl) h0) h0
  revert h1
  generalize (if k = 9 ∧ d1.rd F.timCfg_role ≠ 0 then d1.wr F.timState_state 1 else d1) = d2
  intro h1
  have h2 : Dev.changesOnly [.regs, .t0, .t1, .log, .logSeq, .spr, .six, .evt, .kqp, .out, .tir, .mkt, .ldg, .acr, .col, .fab, .tbn, .sec, .hif] d (if k = 11 ∧ d2.warm then d2.recoverJobs else d2) := chg_ite (Dev.recoverJobs_keep (by exact rfl) h1) h1
  revert h2
  generalize (if k = 11 ∧ d2.warm then d2.recoverJobs else d2) = d3
  intro h2
  refine chg_ite h2 (chg_ite (Dev.chooseAlt_keep (by exact rfl) h2) (chg_ite ?_ (Dev.chooseAlt_keep (by exact rfl) h2)))
  refine Dev.raiseBits_keep (by exact rfl) (Dev.setFlag_keep (by exact rfl) (Dev.setSec_keep (by exact rfl) (Dev.wr_keep (by exact rfl) ?_)))
  have h3 : Dev.changesOnly [.regs, .t0, .t1, .log, .logSeq, .spr, .six, .evt, .kqp, .out, .tir, .mkt, .ldg, .acr, .col, .fab, .tbn, .sec, .hif] d ((d3.wr F.sprBaltStage_stage k).wr F.sprBaltUnit_unit (d3.stageEntry k).unit) :=
    Dev.wr_keep (by exact rfl) (Dev.wr_keep (by exact rfl) h2)
  revert h3
  generalize ((d3.wr F.sprBaltStage_stage k).wr F.sprBaltUnit_unit (d3.stageEntry k).unit) = d4
  intro h3
  cases h4 : d4.sixAlloc 7 ownDevice 0 0 0 0xFF with
  | none => exact h3
  | some r => exact Dev.sixAlloc_keep h4 (by exact rfl) h3

theorem Dev.beginStage_keep {t d0 d k} (hs : tablesIn [.regs, .t0, .t1, .log, .logSeq, .spr, .six, .evt, .kqp, .out, .tir, .mkt, .ldg, .acr, .col, .fab, .tbn, .sec, .hif] t = true) (hx : Dev.changesOnly t d0 d) : Dev.changesOnly t d0 (Dev.beginStage d k) :=
  chg_step (Dev.beginStage_chg _ _) hs hx

theorem Dev.qpTakeover_chg : ∀ d a1, Dev.changesOnly [.regs, .kqp] d (Dev.qpTakeover d a1) := by
  intro d a1
  unfold Dev.qpTakeover
  repeat' first
    | (with_reducible assumption)
    | (with_reducible exact chg_refl _ _)
    | ((with_reducible apply Dev.setQueue_keep); exact rfl)
    | ((with_reducible apply Dev.wr_keep); exact rfl)
    | (with_reducible apply chg_ite)
    | (with_reducible apply chg_foldl)
    | (with_reducible apply chg_foldl_snd)
    | (with_reducible apply chg_ite_snd)
    | intro _ _ _
    | intro _
    | split
    | (dsimp -proj only)

theorem Dev.qpTakeover_keep {t d0 d a1} (hs : tablesIn [.regs, .kqp] t = true) (hx : Dev.changesOnly t d0 d) : Dev.changesOnly t d0 (Dev.qpTakeover d a1) :=
  chg_step (Dev.qpTakeover_chg _ _) hs hx

theorem Dev.takeIdentity_chg : ∀ d a1 a2 a3, Dev.changesOnly [.regs, .log, .logSeq, .spr, .evt] d (Dev.takeIdentity d a1 a2 a3) := by
  intro d a1 a2 a3
  unfold Dev.takeIdentity
  repeat' first
    | (with_reducible assumption)
    | (with_reducible exact chg_refl _ _)
    | ((with_reducible apply Dev.raise_keep); exact rfl)
    | ((with_reducible apply Dev.setMap_keep); exact rfl)
    | ((with_reducible apply Dev.setPhys_keep); exact rfl)
    | ((with_reducible apply Dev.setSpr_keep); exact rfl)
    | (with_reducible apply chg_ite)
    | (with_reducible apply chg_foldl)
    | (with_reducible apply chg_foldl_snd)
    | (with_reducible apply chg_ite_snd)
    | intro _ _ _
    | intro _
    | split
    | (dsimp -proj only)

theorem Dev.takeIdentity_keep {t d0 d a1 a2 a3} (hs : tablesIn [.regs, .log, .logSeq, .spr, .evt] t = true) (hx : Dev.changesOnly t d0 d) : Dev.changesOnly t d0 (Dev.takeIdentity d a1 a2 a3) :=
  chg_step (Dev.takeIdentity_chg _ _ _ _) hs hx

theorem Dev.moveIdentity_chg : ∀ d a1 a2 a3, Dev.changesOnly [.regs, .log, .logSeq, .spr, .evt, .kqp] d (Dev.moveIdentity d a1 a2 a3) := by
  intro d a1 a2 a3
  unfold Dev.moveIdentity
  repeat' first
    | (with_reducible assumption)
    | (with_reducible exact chg_refl _ _)
    | ((with_reducible apply Dev.qpTakeover_keep); exact rfl)
    | ((with_reducible apply Dev.takeIdentity_keep); exact rfl)
    | (with_reducible apply chg_ite)
    | (with_reducible apply chg_foldl)
    | (with_reducible apply chg_foldl_snd)
    | (with_reducible apply chg_ite_snd)
    | intro _ _ _
    | intro _
    | split
    | (dsimp -proj only)

theorem Dev.moveIdentity_keep {t d0 d a1 a2 a3} (hs : tablesIn [.regs, .log, .logSeq, .spr, .evt, .kqp] t = true) (hx : Dev.changesOnly t d0 d) : Dev.changesOnly t d0 (Dev.moveIdentity d a1 a2 a3) :=
  chg_step (Dev.moveIdentity_chg _ _ _ _) hs hx

theorem Dev.setHlt_chg : ∀ d a1, Dev.changesOnly [.hlt] d (Dev.setHlt d a1) := by
  intro d a1
  unfold Dev.setHlt
  repeat' first
    | (with_reducible assumption)
    | (with_reducible exact chg_refl _ _)
    | (with_reducible apply chg_ite)
    | (with_reducible apply chg_foldl)
    | (with_reducible apply chg_foldl_snd)
    | (with_reducible apply chg_ite_snd)
    | intro _ _ _
    | intro _
    | split
    | (dsimp -proj only)
    | (refine chg_step (chg_hlt _ _) rfl ?_)

theorem Dev.setHlt_keep {t d0 d a1} (hs : tablesIn [.hlt] t = true) (hx : Dev.changesOnly t d0 d) : Dev.changesOnly t d0 (Dev.setHlt d a1) :=
  chg_step (Dev.setHlt_chg _ _) hs hx

theorem Dev.setTesting_chg : ∀ d a1, Dev.changesOnly [.hlt] d (Dev.setTesting d a1) := by
  intro d a1
  unfold Dev.setTesting
  repeat' first
    | (with_reducible assumption)
    | (with_reducible exact chg_refl _ _)
    | ((with_reducible apply Dev.setHlt_keep); exact rfl)
    | (with_reducible apply chg_ite)
    | (with_reducible apply chg_foldl)
    | (with_reducible apply chg_foldl_snd)
    | (with_reducible apply chg_ite_snd)
    | intro _ _ _
    | intro _
    | split
    | (dsimp -proj only)

theorem Dev.setTesting_keep {t d0 d a1} (hs : tablesIn [.hlt] t = true) (hx : Dev.changesOnly t d0 d) : Dev.changesOnly t d0 (Dev.setTesting d a1) :=
  chg_step (Dev.setTesting_chg _ _) hs hx

theorem Dev.putTesting_chg : ∀ d a1, Dev.changesOnly [.hlt] d (Dev.putTesting d a1) := by
  intro d a1
  unfold Dev.putTesting
  repeat' first
    | (with_reducible assumption)
    | (with_reducible exact chg_refl _ _)
    | ((with_reducible apply Dev.setTesting_keep); exact rfl)
    | (with_reducible apply chg_ite)
    | (with_reducible apply chg_foldl)
    | (with_reducible apply chg_foldl_snd)
    | (with_reducible apply chg_ite_snd)
    | intro _ _ _
    | intro _
    | split
    | (dsimp -proj only)

theorem Dev.putTesting_keep {t d0 d a1} (hs : tablesIn [.hlt] t = true) (hx : Dev.changesOnly t d0 d) : Dev.changesOnly t d0 (Dev.putTesting d a1) :=
  chg_step (Dev.putTesting_chg _ _) hs hx

theorem Dev.beginTest_chg : ∀ d a1, Dev.changesOnly [.regs, .log, .logSeq, .spr, .evt, .kqp, .hlt] d (Dev.beginTest d a1) := by
  intro d a1
  unfold Dev.beginTest
  repeat' first
    | (with_reducible assumption)
    | (with_reducible exact chg_refl _ _)
    | ((with_reducible apply Dev.moveIdentity_keep); exact rfl)
    | ((with_reducible apply Dev.putTesting_keep); exact rfl)
    | ((with_reducible apply Dev.setPhys_keep); exact rfl)
    | (with_reducible apply chg_ite)
    | (with_reducible apply chg_foldl)
    | (with_reducible apply chg_foldl_snd)
    | (with_reducible apply chg_ite_snd)
    | intro _ _ _
    | intro _
    | split
    | (dsimp -proj only)

theorem Dev.beginTest_keep {t d0 d a1} (hs : tablesIn [.regs, .log, .logSeq, .spr, .evt, .kqp, .hlt] t = true) (hx : Dev.changesOnly t d0 d) : Dev.changesOnly t d0 (Dev.beginTest d a1) :=
  chg_step (Dev.beginTest_chg _ _) hs hx

theorem Dev.bindsD3_chg : ∀ d, Dev.changesOnly [.regs] d (Dev.bindsD3 d) := by
  intro d
  unfold Dev.bindsD3
  repeat' first
    | (with_reducible assumption)
    | (with_reducible exact chg_refl _ _)
    | ((with_reducible apply Dev.wr_keep); exact rfl)
    | (with_reducible apply chg_ite)
    | (with_reducible apply chg_foldl)
    | (with_reducible apply chg_foldl_snd)
    | (with_reducible apply chg_ite_snd)
    | intro _ _ _
    | intro _
    | split
    | (dsimp -proj only)

theorem Dev.bindsD3_keep {t d0 d} (hs : tablesIn [.regs] t = true) (hx : Dev.changesOnly t d0 d) : Dev.changesOnly t d0 (Dev.bindsD3 d) :=
  chg_step (Dev.bindsD3_chg _) hs hx

theorem Dev.mapSpares_chg : ∀ d, Dev.changesOnly [.regs, .log, .logSeq, .spr, .evt] d (Dev.mapSpares d) := by
  intro d
  unfold Dev.mapSpares
  repeat' first
    | (with_reducible assumption)
    | (with_reducible exact chg_refl _ _)
    | ((with_reducible apply Dev.setMap_keep); exact rfl)
    | ((with_reducible apply Dev.setSpr_keep); exact rfl)
    | ((with_reducible apply Dev.takeIdentity_keep); exact rfl)
    | (with_reducible apply chg_ite)
    | (with_reducible apply chg_foldl)
    | (with_reducible apply chg_foldl_snd)
    | (with_reducible apply chg_ite_snd)
    | intro _ _ _
    | intro _
    | split
    | (dsimp -proj only)

theorem Dev.mapSpares_keep {t d0 d} (hs : tablesIn [.regs, .log, .logSeq, .spr, .evt] t = true) (hx : Dev.changesOnly t d0 d) : Dev.changesOnly t d0 (Dev.mapSpares d) :=
  chg_step (Dev.mapSpares_chg _) hs hx

theorem Dev.bootReady_chg : ∀ d, Dev.changesOnly [.regs, .log, .logSeq, .spr, .evt, .sec] d (Dev.bootReady d) := by
  intro d
  unfold Dev.bootReady
  repeat' first
    | (with_reducible assumption)
    | (with_reducible exact chg_refl _ _)
    | ((with_reducible apply Dev.mapSpares_keep); exact rfl)
    | ((with_reducible apply Dev.raise_keep); exact rfl)
    | ((with_reducible apply Dev.raiseBits_keep); exact rfl)
    | ((with_reducible apply Dev.setSec_keep); exact rfl)
    | ((with_reducible apply Dev.updEntry_keep); exact rfl)
    | ((with_reducible apply Dev.wr_keep); exact rfl)
    | (with_reducible apply chg_ite)
    | (with_reducible apply chg_foldl)
    | (with_reducible apply chg_foldl_snd)
    | (with_reducible apply chg_ite_snd)
    | intro _ _ _
    | intro _
    | split
    | (dsimp -proj only)

theorem Dev.bootReady_keep {t d0 d} (hs : tablesIn [.regs, .log, .logSeq, .spr, .evt, .sec] t = true) (hx : Dev.changesOnly t d0 d) : Dev.changesOnly t d0 (Dev.bootReady d) :=
  chg_step (Dev.bootReady_chg _) hs hx

theorem Dev.bootStart_chg : ∀ d a1, Dev.changesOnly [.regs, .t0, .t1, .log, .logSeq, .spr, .six, .evt, .kqp, .out, .tir, .mkt, .ldg, .acr, .col, .fab, .tbn, .sec, .hif] d (Dev.bootStart d a1) := by
  intro d a1
  unfold Dev.bootStart
  repeat' first
    | (with_reducible assumption)
    | (with_reducible exact chg_refl _ _)
    | ((with_reducible apply Dev.beginStage_keep); exact rfl)
    | ((with_reducible apply Dev.setHif_keep); exact rfl)
    | ((with_reducible apply Dev.setSec_keep); exact rfl)
    | ((with_reducible apply Dev.wr_keep); exact rfl)
    | (with_reducible apply chg_ite)
    | (with_reducible apply chg_foldl)
    | (with_reducible apply chg_foldl_snd)
    | (with_reducible apply chg_ite_snd)
    | intro _ _ _
    | intro _
    | split
    | (dsimp -proj only)

theorem Dev.bootStart_keep {t d0 d a1} (hs : tablesIn [.regs, .t0, .t1, .log, .logSeq, .spr, .six, .evt, .kqp, .out, .tir, .mkt, .ldg, .acr, .col, .fab, .tbn, .sec, .hif] t = true) (hx : Dev.changesOnly t d0 d) : Dev.changesOnly t d0 (Dev.bootStart d a1) :=
  chg_step (Dev.bootStart_chg _ _) hs hx

theorem Dev.linksDown_chg : ∀ d, Dev.changesOnly [.regs, .hif] d (Dev.linksDown d) := by
  intro d
  unfold Dev.linksDown
  repeat' first
    | (with_reducible assumption)
    | (with_reducible exact chg_refl _ _)
    | ((with_reducible apply Dev.setHif_keep); exact rfl)
    | ((with_reducible apply Dev.wr_keep); exact rfl)
    | (with_reducible apply chg_ite)
    | (with_reducible apply chg_foldl)
    | (with_reducible apply chg_foldl_snd)
    | (with_reducible apply chg_ite_snd)
    | intro _ _ _
    | intro _
    | split
    | (dsimp -proj only)

theorem Dev.linksDown_keep {t d0 d} (hs : tablesIn [.regs, .hif] t = true) (hx : Dev.changesOnly t d0 d) : Dev.changesOnly t d0 (Dev.linksDown d) :=
  chg_step (Dev.linksDown_chg _) hs hx

theorem Dev.romRecovery_chg : ∀ d, Dev.changesOnly [.regs, .sec, .hif] d (Dev.romRecovery d) := by
  intro d
  unfold Dev.romRecovery
  repeat' first
    | (with_reducible assumption)
    | (with_reducible exact chg_refl _ _)
    | ((with_reducible apply Dev.setHif_keep); exact rfl)
    | ((with_reducible apply Dev.setSec_keep); exact rfl)
    | ((with_reducible apply Dev.updEntry_keep); exact rfl)
    | ((with_reducible apply Dev.wr_keep); exact rfl)
    | (with_reducible apply chg_ite)
    | (with_reducible apply chg_foldl)
    | (with_reducible apply chg_foldl_snd)
    | (with_reducible apply chg_ite_snd)
    | intro _ _ _
    | intro _
    | split
    | (dsimp -proj only)

theorem Dev.romRecovery_keep {t d0 d} (hs : tablesIn [.regs, .sec, .hif] t = true) (hx : Dev.changesOnly t d0 d) : Dev.changesOnly t d0 (Dev.romRecovery d) :=
  chg_step (Dev.romRecovery_chg _) hs hx

theorem Dev.bootRestart_chg : ∀ d, Dev.changesOnly [.regs, .t0, .t1, .log, .logSeq, .spr, .six, .evt, .kqp, .out, .tir, .mkt, .ldg, .acr, .col, .fab, .tbn, .sec, .hif] d (Dev.bootRestart d) := by
  intro d
  unfold Dev.bootRestart
  repeat' first
    | (with_reducible assumption)
    | (with_reducible exact chg_refl _ _)
    | ((with_reducible apply Dev.bootStart_keep); exact rfl)
    | ((with_reducible apply Dev.linksDown_keep); exact rfl)
    | ((with_reducible apply Dev.romRecovery_keep); exact rfl)
    | (with_reducible apply chg_ite)
    | (with_reducible apply chg_foldl)
    | (with_reducible apply chg_foldl_snd)
    | (with_reducible apply chg_ite_snd)
    | intro _ _ _
    | intro _
    | split
    | (dsimp -proj only)

theorem Dev.bootRestart_keep {t d0 d} (hs : tablesIn [.regs, .t0, .t1, .log, .logSeq, .spr, .six, .evt, .kqp, .out, .tir, .mkt, .ldg, .acr, .col, .fab, .tbn, .sec, .hif] t = true) (hx : Dev.changesOnly t d0 d) : Dev.changesOnly t d0 (Dev.bootRestart d) :=
  chg_step (Dev.bootRestart_chg _) hs hx

theorem Dev.bring1_chg : ∀ d a1 a2 a3, Dev.changesOnly [.regs, .log, .logSeq, .six, .evt, .out, .tir, .mkt] d (Dev.bring1 d a1 a2 a3).2 := by
  intro d a1 a2 a3
  unfold Dev.bring1
  repeat' first
    | (with_reducible assumption)
    | (with_reducible exact chg_refl _ _)
    | (refine Dev.ensureT1_keep (by with_reducible assumption) rfl ?_)
    | ((with_reducible apply Dev.openTirRec_keep); exact rfl)
    | ((with_reducible apply Dev.room_keep); exact rfl)
    | ((with_reducible apply Dev.setUnit_keep); exact rfl)
    | ((with_reducible apply Dev.startMove_keep); exact rfl)
    | ((with_reducible apply Dev.writeBack_keep); exact rfl)
    | (with_reducible apply chg_ite)
    | (with_reducible apply chg_foldl)
    | (with_reducible apply chg_foldl_snd)
    | (with_reducible apply chg_ite_snd)
    | intro _ _ _
    | intro _
    | split
    | (dsimp -proj only)

theorem Dev.bring1_chg_eq : ∀ d a1 a2 a3 x0 e, Dev.bring1 d a1 a2 a3 = (x0, e) → Dev.changesOnly [.regs, .log, .logSeq, .six, .evt, .out, .tir, .mkt] d e := by
  intro d a1 a2 a3 x0 e h
  have := Dev.bring1_chg d a1 a2 a3
  rw [h] at this
  exact this

theorem Dev.bring1_keep {t d0 d a1 a2 a3} (hs : tablesIn [.regs, .log, .logSeq, .six, .evt, .out, .tir, .mkt] t = true) (hx : Dev.changesOnly t d0 d) : Dev.changesOnly t d0 ((Dev.bring1 d a1 a2 a3).2) :=
  chg_step (Dev.bring1_chg _ _ _ _) hs hx

theorem Dev.bring1_keep_eq {t d0 d a1 a2 a3 x0 e} (h : Dev.bring1 d a1 a2 a3 = (x0, e)) (hs : tablesIn [.regs, .log, .logSeq, .six, .evt, .out, .tir, .mkt] t = true) (hx : Dev.changesOnly t d0 d) : Dev.changesOnly t d0 e :=
  chg_step (Dev.bring1_chg_eq _ _ _ _ _ _ h) hs hx

theorem Dev.bring2_chg : ∀ d a1 a2 a3, Dev.changesOnly [.regs, .log, .logSeq, .six, .evt, .out, .tir, .mkt] d (Dev.bring2 d a1 a2 a3).2 := by
  intro d a1 a2 a3
  unfold Dev.bring2
  repeat' first
    | (with_reducible assumption)
    | (with_reducible exact chg_refl _ _)
    | ((with_reducible apply Dev.bring1_keep); exact rfl)
    | (refine Dev.bring1_keep_eq (by with_reducible assumption) rfl ?_)
    | ((with_reducible apply Dev.writeBack_keep); exact rfl)
    | (with_reducible apply chg_ite)
    | (with_reducible apply chg_foldl)
    | (with_reducible apply chg_foldl_snd)
    | (with_reducible apply chg_ite_snd)
    | intro _ _ _
    | intro _
    | split
    | (dsimp -proj only)

theorem Dev.bring2_chg_eq : ∀ d a1 a2 a3 x0 e, Dev.bring2 d a1 a2 a3 = (x0, e) → Dev.changesOnly [.regs, .log, .logSeq, .six, .evt, .out, .tir, .mkt] d e := by
  intro d a1 a2 a3 x0 e h
  have := Dev.bring2_chg d a1 a2 a3
  rw [h] at this
  exact this

theorem Dev.bring2_keep {t d0 d a1 a2 a3} (hs : tablesIn [.regs, .log, .logSeq, .six, .evt, .out, .tir, .mkt] t = true) (hx : Dev.changesOnly t d0 d) : Dev.changesOnly t d0 ((Dev.bring2 d a1 a2 a3).2) :=
  chg_step (Dev.bring2_chg _ _ _ _) hs hx

theorem Dev.bring2_keep_eq {t d0 d a1 a2 a3 x0 e} (h : Dev.bring2 d a1 a2 a3 = (x0, e)) (hs : tablesIn [.regs, .log, .logSeq, .six, .evt, .out, .tir, .mkt] t = true) (hx : Dev.changesOnly t d0 d) : Dev.changesOnly t d0 e :=
  chg_step (Dev.bring2_chg_eq _ _ _ _ _ _ h) hs hx

theorem Dev.coordDecide_chg : ∀ d a1, Dev.changesOnly [.regs, .t0, .t1, .log, .logSeq, .six, .evt, .kqp, .out, .tir, .mkt, .ldg, .acr, .col, .fab, .tbn] d (Dev.coordDecide d a1) := by
  intro d a1
  unfold Dev.coordDecide
  repeat' first
    | (with_reducible assumption)
    | (with_reducible exact chg_refl _ _)
    | ((with_reducible apply Dev.decide__keep); exact rfl)
    | (with_reducible apply chg_ite)
    | (with_reducible apply chg_foldl)
    | (with_reducible apply chg_foldl_snd)
    | (with_reducible apply chg_ite_snd)
    | intro _ _ _
    | intro _
    | split
    | (dsimp -proj only)

theorem Dev.coordDecide_keep {t d0 d a1} (hs : tablesIn [.regs, .t0, .t1, .log, .logSeq, .six, .evt, .kqp, .out, .tir, .mkt, .ldg, .acr, .col, .fab, .tbn] t = true) (hx : Dev.changesOnly t d0 d) : Dev.changesOnly t d0 (Dev.coordDecide d a1) :=
  chg_step (Dev.coordDecide_chg _ _) hs hx

theorem Dev.showLdgAssist_chg : ∀ d, Dev.changesOnly [.regs] d (Dev.showLdgAssist d) := by
  intro d
  unfold Dev.showLdgAssist
  repeat' first
    | (with_reducible assumption)
    | (with_reducible exact chg_refl _ _)
    | ((with_reducible apply Dev.setFlag_keep); exact rfl)
    | ((with_reducible apply Dev.wr_keep); exact rfl)
    | ((with_reducible apply Dev.wr64_keep); exact rfl)
    | (with_reducible apply chg_ite)
    | (with_reducible apply chg_foldl)
    | (with_reducible apply chg_foldl_snd)
    | (with_reducible apply chg_ite_snd)
    | intro _ _ _
    | intro _
    | split
    | (dsimp -proj only)

theorem Dev.showLdgAssist_keep {t d0 d} (hs : tablesIn [.regs] t = true) (hx : Dev.changesOnly t d0 d) : Dev.changesOnly t d0 (Dev.showLdgAssist d) :=
  chg_step (Dev.showLdgAssist_chg _) hs hx

theorem Dev.startBound_chg : ∀ d a1, Dev.changesOnly [.ldg] d (Dev.startBound d a1) := by
  intro d a1
  unfold Dev.startBound
  repeat' first
    | (with_reducible assumption)
    | (with_reducible exact chg_refl _ _)
    | ((with_reducible apply Dev.setJob_keep); exact rfl)
    | (with_reducible apply chg_ite)
    | (with_reducible apply chg_foldl)
    | (with_reducible apply chg_foldl_snd)
    | (with_reducible apply chg_ite_snd)
    | intro _ _ _
    | intro _
    | split
    | (dsimp -proj only)

theorem Dev.startBound_keep {t d0 d a1} (hs : tablesIn [.ldg] t = true) (hx : Dev.changesOnly t d0 d) : Dev.changesOnly t d0 (Dev.startBound d a1) :=
  chg_step (Dev.startBound_chg _ _) hs hx

theorem Dev.castVote_chg : ∀ d a1 a2, Dev.changesOnly [.regs, .t0, .t1, .log, .logSeq, .six, .evt, .kqp, .out, .tir, .mkt, .ldg, .acr, .col, .fab, .tbn] d (Dev.castVote d a1 a2) := by
  intro d a1 a2
  unfold Dev.castVote
  repeat' first
    | (with_reducible assumption)
    | (with_reducible exact chg_refl _ _)
    | ((with_reducible apply Dev.assistOpen_keep); exact rfl)
    | ((with_reducible apply Dev.coordDecide_keep); exact rfl)
    | ((with_reducible apply Dev.sendLdg_keep); exact rfl)
    | ((with_reducible apply Dev.setJob_keep); exact rfl)
    | ((with_reducible apply Dev.showLdgAssist_keep); exact rfl)
    | (refine Dev.sixAlloc_keep (by with_reducible assumption) rfl ?_)
    | ((with_reducible apply Dev.startBound_keep); exact rfl)
    | ((with_reducible apply Dev.updNewest_keep); exact rfl)
    | (with_reducible apply chg_ite)
    | (with_reducible apply chg_foldl)
    | (with_reducible apply chg_foldl_snd)
    | (with_reducible apply chg_ite_snd)
    | intro _ _ _
    | intro _
    | split
    | (dsimp -proj only)

theorem Dev.castVote_keep {t d0 d a1 a2} (hs : tablesIn [.regs, .t0, .t1, .log, .logSeq, .six, .evt, .kqp, .out, .tir, .mkt, .ldg, .acr, .col, .fab, .tbn] t = true) (hx : Dev.changesOnly t d0 d) : Dev.changesOnly t d0 (Dev.castVote d a1 a2) :=
  chg_step (Dev.castVote_chg _ _ _) hs hx

theorem Dev.updLoad_chg : ∀ d a1 a2 a3, Dev.changesOnly [.wset] d (Dev.updLoad d a1 a2 a3) := by
  intro d a1 a2 a3
  unfold Dev.updLoad
  repeat' first
    | (with_reducible assumption)
    | (with_reducible exact chg_refl _ _)
    | ((with_reducible apply Dev.setWset_keep); exact rfl)
    | (with_reducible apply chg_ite)
    | (with_reducible apply chg_foldl)
    | (with_reducible apply chg_foldl_snd)
    | (with_reducible apply chg_ite_snd)
    | intro _ _ _
    | intro _
    | split
    | (dsimp -proj only)

theorem Dev.updLoad_keep {t d0 d a1 a2 a3} (hs : tablesIn [.wset] t = true) (hx : Dev.changesOnly t d0 d) : Dev.changesOnly t d0 (Dev.updLoad d a1 a2 a3) :=
  chg_step (Dev.updLoad_chg _ _ _ _) hs hx

theorem Dev.chainAsk_chg : ∀ d , Dev.changesOnly [.regs, .log, .logSeq, .six, .evt, .out, .wset] d (Dev.chainAsk d ) := by
  intro d
  unfold Dev.chainAsk
  split
  · exact chg_refl _ _
  · refine chg_ite (chg_refl _ _) (chg_ite (chg_refl _ _) ?_)
    split
    · exact chg_refl _ _
    · rename_i d1 h1
      have g1 : Dev.changesOnly [.regs, .log, .logSeq, .six, .evt, .out, .wset] d d1 := by
        split at h1
        · exact Dev.sixAlloc_keep h1 (by exact rfl) (chg_refl _ _)
        · simp only [Option.some.injEq, Prod.mk.injEq] at h1; obtain ⟨_, rfl⟩ := h1; exact chg_refl _ _
      exact Dev.assistOpen_keep (by exact rfl) (Dev.wr_keep (by exact rfl) (Dev.wr_keep (by exact rfl) (Dev.wr_keep (by exact rfl)
        (Dev.wr_keep (by exact rfl) (Dev.updLoad_keep (by exact rfl) g1)))))

theorem Dev.chainAsk_keep {t d0 d } (hs : tablesIn [.regs, .log, .logSeq, .six, .evt, .out, .wset] t = true) (hx : Dev.changesOnly t d0 d) : Dev.changesOnly t d0 (Dev.chainAsk d ) :=
  chg_step (Dev.chainAsk_chg _) hs hx

theorem Dev.chainBroken_chg : ∀ d a1 a2, Dev.changesOnly [.regs, .log, .logSeq, .evt, .wset] d (Dev.chainBroken d a1 a2) := by
  intro d a1 a2
  unfold Dev.chainBroken
  repeat' first
    | (with_reducible assumption)
    | (with_reducible exact chg_refl _ _)
    | ((with_reducible apply Dev.raise_keep); exact rfl)
    | ((with_reducible apply Dev.updLoad_keep); exact rfl)
    | (with_reducible apply chg_ite)
    | (with_reducible apply chg_foldl)
    | (with_reducible apply chg_foldl_snd)
    | (with_reducible apply chg_ite_snd)
    | intro _ _ _
    | intro _
    | split
    | (dsimp -proj only)

theorem Dev.chainBroken_keep {t d0 d a1 a2} (hs : tablesIn [.regs, .log, .logSeq, .evt, .wset] t = true) (hx : Dev.changesOnly t d0 d) : Dev.changesOnly t d0 (Dev.chainBroken d a1 a2) :=
  chg_step (Dev.chainBroken_chg _ _ _) hs hx

theorem Dev.forward_chg : ∀ d a1 a2 a3, Dev.changesOnly [.regs, .log, .logSeq, .six, .evt, .out, .wset, .fab, .tbn] d (Dev.forward d a1 a2 a3) := by
  intro d a1 a2 a3
  unfold Dev.forward
  repeat' first
    | (with_reducible assumption)
    | (with_reducible exact chg_refl _ _)
    | ((with_reducible apply Dev.newMsg_keep); exact rfl)
    | (refine Dev.newMsg_keep_eq (by with_reducible assumption) rfl ?_)
    | ((with_reducible apply Dev.post_keep); exact rfl)
    | (refine Dev.sixAlloc_keep (by with_reducible assumption) rfl ?_)
    | ((with_reducible apply Dev.updLoad_keep); exact rfl)
    | (with_reducible apply chg_ite)
    | (with_reducible apply chg_foldl)
    | (with_reducible apply chg_foldl_snd)
    | (with_reducible apply chg_ite_snd)
    | intro _ _ _
    | intro _
    | split
    | (dsimp -proj only)

theorem Dev.forward_keep {t d0 d a1 a2 a3} (hs : tablesIn [.regs, .log, .logSeq, .six, .evt, .out, .wset, .fab, .tbn] t = true) (hx : Dev.changesOnly t d0 d) : Dev.changesOnly t d0 (Dev.forward d a1 a2 a3) :=
  chg_step (Dev.forward_chg _ _ _ _) hs hx

theorem Dev.takeChunk_chg : ∀ d a1 a2 a3, Dev.changesOnly [.regs, .log, .logSeq, .six, .evt, .out, .wset, .fab, .tbn] d (Dev.takeChunk d a1 a2 a3) := by
  intro d a1 a2 a3
  unfold Dev.takeChunk
  repeat' first
    | (with_reducible assumption)
    | (with_reducible exact chg_refl _ _)
    | ((with_reducible apply Dev.forward_keep); exact rfl)
    | ((with_reducible apply Dev.updLoad_keep); exact rfl)
    | (with_reducible apply chg_ite)
    | (with_reducible apply chg_foldl)
    | (with_reducible apply chg_foldl_snd)
    | (with_reducible apply chg_ite_snd)
    | intro _ _ _
    | intro _
    | split
    | (dsimp -proj only)

theorem Dev.takeChunk_keep {t d0 d a1 a2 a3} (hs : tablesIn [.regs, .log, .logSeq, .six, .evt, .out, .wset, .fab, .tbn] t = true) (hx : Dev.changesOnly t d0 d) : Dev.changesOnly t d0 (Dev.takeChunk d a1 a2 a3) :=
  chg_step (Dev.takeChunk_chg _ _ _ _) hs hx

theorem Dev.setSlotState_chg : ∀ d a1 a2 a3, Dev.changesOnly [.regs] d (Dev.setSlotState d a1 a2 a3) := by
  intro d a1 a2 a3
  unfold Dev.setSlotState
  repeat' first
    | (with_reducible assumption)
    | (with_reducible exact chg_refl _ _)
    | ((with_reducible apply Dev.wr_keep); exact rfl)
    | (with_reducible apply chg_ite)
    | (with_reducible apply chg_foldl)
    | (with_reducible apply chg_foldl_snd)
    | (with_reducible apply chg_ite_snd)
    | intro _ _ _
    | intro _
    | split
    | (dsimp -proj only)

theorem Dev.setSlotState_keep {t d0 d a1 a2 a3} (hs : tablesIn [.regs] t = true) (hx : Dev.changesOnly t d0 d) : Dev.changesOnly t d0 (Dev.setSlotState d a1 a2 a3) :=
  chg_step (Dev.setSlotState_chg _ _ _ _) hs hx

theorem Dev.loadDone_chg : ∀ d a1, Dev.changesOnly [.regs, .t0, .log, .logSeq, .evt, .tir, .mkt, .wset] d (Dev.loadDone d a1) := by
  intro d a1
  unfold Dev.loadDone
  repeat' first
    | (with_reducible assumption)
    | (with_reducible exact chg_refl _ _)
    | ((with_reducible apply Dev.freeRegion_keep); exact rfl)
    | ((with_reducible apply Dev.raise_keep); exact rfl)
    | ((with_reducible apply Dev.setObj_keep); exact rfl)
    | ((with_reducible apply Dev.setSlotState_keep); exact rfl)
    | ((with_reducible apply Dev.updLoad_keep); exact rfl)
    | (with_reducible apply chg_ite)
    | (with_reducible apply chg_foldl)
    | (with_reducible apply chg_foldl_snd)
    | (with_reducible apply chg_ite_snd)
    | intro _ _ _
    | intro _
    | split
    | (dsimp -proj only)

theorem Dev.loadDone_keep {t d0 d a1} (hs : tablesIn [.regs, .t0, .log, .logSeq, .evt, .tir, .mkt, .wset] t = true) (hx : Dev.changesOnly t d0 d) : Dev.changesOnly t d0 (Dev.loadDone d a1) :=
  chg_step (Dev.loadDone_chg _ _) hs hx

theorem Dev.dropCopy_chg : ∀ d a1, Dev.changesOnly [.regs, .t0, .t1, .tir, .mkt] d (Dev.dropCopy d a1) := by
  intro d a1
  unfold Dev.dropCopy
  repeat' first
    | (with_reducible assumption)
    | (with_reducible exact chg_refl _ _)
    | ((with_reducible apply Dev.freeExtents_keep); exact rfl)
    | ((with_reducible apply Dev.release0_keep); exact rfl)
    | ((with_reducible apply Dev.setTir_keep); exact rfl)
    | (with_reducible apply chg_ite)
    | (with_reducible apply chg_foldl)
    | (with_reducible apply chg_foldl_snd)
    | (with_reducible apply chg_ite_snd)
    | intro _ _ _
    | intro _
    | split
    | (dsimp -proj only)

theorem Dev.dropCopy_keep {t d0 d a1} (hs : tablesIn [.regs, .t0, .t1, .tir, .mkt] t = true) (hx : Dev.changesOnly t d0 d) : Dev.changesOnly t d0 (Dev.dropCopy d a1) :=
  chg_step (Dev.dropCopy_chg _ _) hs hx

theorem Dev.emptySlot_chg : ∀ d a1 a2, Dev.changesOnly [.regs, .t0, .t1, .tir, .mkt] d (Dev.emptySlot d a1 a2) := by
  intro d a1 a2
  unfold Dev.emptySlot
  repeat' first
    | (with_reducible assumption)
    | (with_reducible exact chg_refl _ _)
    | ((with_reducible apply Dev.dropCopy_keep); exact rfl)
    | ((with_reducible apply Dev.setSlotState_keep); exact rfl)
    | (with_reducible apply chg_ite)
    | (with_reducible apply chg_foldl)
    | (with_reducible apply chg_foldl_snd)
    | (with_reducible apply chg_ite_snd)
    | intro _ _ _
    | intro _
    | split
    | (dsimp -proj only)

theorem Dev.emptySlot_keep {t d0 d a1 a2} (hs : tablesIn [.regs, .t0, .t1, .tir, .mkt] t = true) (hx : Dev.changesOnly t d0 d) : Dev.changesOnly t d0 (Dev.emptySlot d a1 a2) :=
  chg_step (Dev.emptySlot_chg _ _ _) hs hx

theorem Dev.loadFail_chg : ∀ d a1 a2, Dev.changesOnly [.regs, .t0, .t1, .log, .logSeq, .evt, .tir, .mkt, .wset] d (Dev.loadFail d a1 a2) := by
  intro d a1 a2
  unfold Dev.loadFail
  repeat' first
    | (with_reducible assumption)
    | (with_reducible exact chg_refl _ _)
    | ((with_reducible apply Dev.emptySlot_keep); exact rfl)
    | ((with_reducible apply Dev.freeRegion_keep); exact rfl)
    | ((with_reducible apply Dev.raise_keep); exact rfl)
    | ((with_reducible apply Dev.updLoad_keep); exact rfl)
    | (with_reducible apply chg_ite)
    | (with_reducible apply chg_foldl)
    | (with_reducible apply chg_foldl_snd)
    | (with_reducible apply chg_ite_snd)
    | intro _ _ _
    | intro _
    | split
    | (dsimp -proj only)

theorem Dev.loadFail_keep {t d0 d a1 a2} (hs : tablesIn [.regs, .t0, .t1, .log, .logSeq, .evt, .tir, .mkt, .wset] t = true) (hx : Dev.changesOnly t d0 d) : Dev.changesOnly t d0 (Dev.loadFail d a1 a2) :=
  chg_step (Dev.loadFail_chg _ _ _) hs hx

theorem Dev.freeClean0_chg : ∀ d a1 a2, Dev.changesOnly [.regs, .t0, .tir, .mkt] d (Dev.freeClean0 d a1 a2) := by
  intro d a1 a2
  unfold Dev.freeClean0
  repeat' first
    | (with_reducible assumption)
    | (with_reducible exact chg_refl _ _)
    | ((with_reducible apply Dev.release0_keep); exact rfl)
    | (with_reducible apply chg_ite)
    | (with_reducible apply chg_foldl)
    | (with_reducible apply chg_foldl_snd)
    | (with_reducible apply chg_ite_snd)
    | intro _ _ _
    | intro _
    | split
    | (dsimp -proj only)

theorem Dev.freeClean0_keep {t d0 d a1 a2} (hs : tablesIn [.regs, .t0, .tir, .mkt] t = true) (hx : Dev.changesOnly t d0 d) : Dev.changesOnly t d0 (Dev.freeClean0 d a1 a2) :=
  chg_step (Dev.freeClean0_chg _ _ _) hs hx

theorem Dev.freeClean1_chg : ∀ d a1 a2, Dev.changesOnly [.regs, .t1, .tir] d (Dev.freeClean1 d a1 a2) := by
  intro d a1 a2
  unfold Dev.freeClean1
  repeat' first
    | (with_reducible assumption)
    | (with_reducible exact chg_refl _ _)
    | ((with_reducible apply Dev.setUnit_keep); exact rfl)
    | ((with_reducible apply Dev.trimT1_keep); exact rfl)
    | (with_reducible apply chg_ite)
    | (with_reducible apply chg_foldl)
    | (with_reducible apply chg_foldl_snd)
    | (with_reducible apply chg_ite_snd)
    | intro _ _ _
    | intro _
    | split
    | (dsimp -proj only)

theorem Dev.freeClean1_keep {t d0 d a1 a2} (hs : tablesIn [.regs, .t1, .tir] t = true) (hx : Dev.changesOnly t d0 d) : Dev.changesOnly t d0 (Dev.freeClean1 d a1 a2) :=
  chg_step (Dev.freeClean1_chg _ _ _) hs hx

theorem Dev.makeCopies_chg : ∀ d l os x y e, Dev.makeCopies d l os = some (x, y, e) → Dev.changesOnly [.regs, .t0, .t1, .tir, .mkt] d e := by
  intro d l os x y e h
  unfold Dev.makeCopies at h
  dsimp only at h
  split at h
  · contradiction
  · rename_i items d1 h1
    have h2 : Dev.changesOnly [.regs, .t0, .t1, .tir, .mkt] d d1 := by
      refine chg_foldl_option_snd (fun i x o j y hx hy => ?_) (fun _ => rfl) _ (chg_refl _ _) h1
      simp only [Option.map_eq_some_iff, Prod.mk.injEq] at hy
      obtain ⟨w, hw, _, rfl⟩ := hy
      exact Dev.ensureT1_keep hw (by exact rfl) (Dev.setObj_keep (by exact rfl) (chg_ite hx (Dev.freeClean1_keep (by exact rfl) hx)))
    simp only [Option.map_eq_some_iff, Prod.mk.injEq] at h
    obtain ⟨⟨i, b, w⟩, hw, _, _, rfl⟩ := h
    exact Dev.newRegion_keep hw (by exact rfl) (Dev.freeClean0_keep (by exact rfl) h2)

theorem Dev.makeCopies_keep {t d0 d l os x y e} (h : Dev.makeCopies d l os = some (x, y, e)) (hs : tablesIn [.regs, .t0, .t1, .tir, .mkt] t = true) (hx : Dev.changesOnly t d0 d) :
    Dev.changesOnly t d0 e :=
  chg_step (Dev.makeCopies_chg _ _ _ _ _ _ h) hs hx

theorem Dev.takeTables_chg : ∀ d a1 a2, Dev.changesOnly [.regs, .t0, .t1, .log, .logSeq, .six, .evt, .out, .tir, .mkt, .wset, .fab, .tbn] d (Dev.takeTables d a1 a2) := by
  intro d a1 a2
  unfold Dev.takeTables
  repeat' first
    | (with_reducible assumption)
    | (with_reducible exact chg_refl _ _)
    | ((with_reducible apply Dev.forward_keep); exact rfl)
    | ((with_reducible apply Dev.loadDone_keep); exact rfl)
    | ((with_reducible apply Dev.loadFail_keep); exact rfl)
    | (refine Dev.makeCopies_keep (by with_reducible assumption) rfl ?_)
    | ((with_reducible apply Dev.setWset_keep); exact rfl)
    | ((with_reducible apply Dev.updLoad_keep); exact rfl)
    | (with_reducible apply chg_ite)
    | (with_reducible apply chg_foldl)
    | (with_reducible apply chg_foldl_snd)
    | (with_reducible apply chg_ite_snd)
    | intro _ _ _
    | intro _
    | split
    | (dsimp -proj only)

theorem Dev.takeTables_keep {t d0 d a1 a2} (hs : tablesIn [.regs, .t0, .t1, .log, .logSeq, .six, .evt, .out, .tir, .mkt, .wset, .fab, .tbn] t = true) (hx : Dev.changesOnly t d0 d) : Dev.changesOnly t d0 (Dev.takeTables d a1 a2) :=
  chg_step (Dev.takeTables_chg _ _ _) hs hx

theorem Dev.chainPlace_chg : ∀ d a1 a2 a3 a4 a5, Dev.changesOnly [.regs, .t0, .t1, .log, .logSeq, .six, .evt, .out, .tir, .mkt, .wset, .fab, .tbn] d (Dev.chainPlace d a1 a2 a3 a4 a5) := by
  intro d a1 a2 a3 a4 a5
  unfold Dev.chainPlace
  repeat' first
    | (with_reducible assumption)
    | (with_reducible exact chg_refl _ _)
    | ((with_reducible apply Dev.takeChunk_keep); exact rfl)
    | ((with_reducible apply Dev.takeTables_keep); exact rfl)
    | ((with_reducible apply Dev.updLoad_keep); exact rfl)
    | (with_reducible apply chg_ite)
    | (with_reducible apply chg_foldl)
    | (with_reducible apply chg_foldl_snd)
    | (with_reducible apply chg_ite_snd)
    | intro _ _ _
    | intro _
    | split
    | (dsimp -proj only)

theorem Dev.chainPlace_keep {t d0 d a1 a2 a3 a4 a5} (hs : tablesIn [.regs, .t0, .t1, .log, .logSeq, .six, .evt, .out, .tir, .mkt, .wset, .fab, .tbn] t = true) (hx : Dev.changesOnly t d0 d) : Dev.changesOnly t d0 (Dev.chainPlace d a1 a2 a3 a4 a5) :=
  chg_step (Dev.chainPlace_chg _ _ _ _ _ _) hs hx

end Sys2Proof.Machine
end

