-- ==== Sys2Proof/Laws/FrameOps3.lean ====
section
/-! SUPPORT. Frames of the shared operations, part 3 of 6, callees before callers: `<op>_chg` names every table the operation may change, and
`<op>_keep` carries a frame through it (`_keep_eq` where it answers a value beside the device); a caller cites them and does not unfold. -/

namespace Sys2Proof.Machine

theorem Dev.engFlag_chg : ∀ d a1, Dev.changesOnly [.regs] d (Dev.engFlag d a1) := by
  intro d a1
  unfold Dev.engFlag
  repeat' first
    | (with_reducible assumption)
    | (with_reducible exact chg_refl _ _)
    | ((with_reducible apply Dev.wr_keep); exact rfl)
    | (with_reducible apply chg_ite)
    | (with_reducible apply chg_foldl)
    | (with_reducible apply chg_foldl_snd)
    | (with_reducible apply chg_ite_snd)
    | intro _ _ _
    | intro _
    | split
    | (dsimp -proj only)

theorem Dev.engFlag_keep {t d0 d a1} (hs : tablesIn [.regs] t = true) (hx : Dev.changesOnly t d0 d) : Dev.changesOnly t d0 (Dev.engFlag d a1) :=
  chg_step (Dev.engFlag_chg _ _) hs hx

theorem Dev.engRaise_chg : ∀ d a1 a2 a3, Dev.changesOnly [.regs, .log, .logSeq, .evt] d (Dev.engRaise d a1 a2 a3) := by
  intro d a1 a2 a3
  unfold Dev.engRaise
  repeat' first
    | (with_reducible assumption)
    | (with_reducible exact chg_refl _ _)
    | ((with_reducible apply Dev.engFlag_keep); exact rfl)
    | ((with_reducible apply Dev.raise_keep); exact rfl)
    | (with_reducible apply chg_ite)
    | (with_reducible apply chg_foldl)
    | (with_reducible apply chg_foldl_snd)
    | (with_reducible apply chg_ite_snd)
    | intro _ _ _
    | intro _
    | split
    | (dsimp -proj only)

theorem Dev.engRaise_keep {t d0 d a1 a2 a3} (hs : tablesIn [.regs, .log, .logSeq, .evt] t = true) (hx : Dev.changesOnly t d0 d) : Dev.changesOnly t d0 (Dev.engRaise d a1 a2 a3) :=
  chg_step (Dev.engRaise_chg _ _ _ _) hs hx

theorem Dev.chainRejected_chg : ∀ d a1, Dev.changesOnly [.regs, .log, .logSeq, .evt, .kqp] d (Dev.chainRejected d a1) := by
  intro d a1
  unfold Dev.chainRejected
  repeat' first
    | (with_reducible assumption)
    | (with_reducible exact chg_refl _ _)
    | ((with_reducible apply Dev.engRaise_keep); exact rfl)
    | ((with_reducible apply Dev.failPart_keep); exact rfl)
    | (with_reducible apply chg_ite)
    | (with_reducible apply chg_foldl)
    | (with_reducible apply chg_foldl_snd)
    | (with_reducible apply chg_ite_snd)
    | intro _ _ _
    | intro _
    | split
    | (dsimp -proj only)

theorem Dev.chainRejected_keep {t d0 d a1} (hs : tablesIn [.regs, .log, .logSeq, .evt, .kqp] t = true) (hx : Dev.changesOnly t d0 d) : Dev.changesOnly t d0 (Dev.chainRejected d a1) :=
  chg_step (Dev.chainRejected_chg _ _) hs hx

theorem Dev.clearEvents_chg : ∀ d a1 a2 a3 a4, Dev.changesOnly [.regs, .log, .logSeq, .evt] d (Dev.clearEvents d a1 a2 a3 a4) := by
  intro d a1 a2 a3 a4
  unfold Dev.clearEvents
  repeat' first
    | (with_reducible assumption)
    | (with_reducible exact chg_refl _ _)
    | ((with_reducible apply Dev.raiseBits_keep); exact rfl)
    | ((with_reducible apply Dev.setReg_keep); exact rfl)
    | (with_reducible apply chg_ite)
    | (with_reducible apply chg_foldl)
    | (with_reducible apply chg_foldl_snd)
    | (with_reducible apply chg_ite_snd)
    | intro _ _ _
    | intro _
    | split
    | (dsimp -proj only)

theorem Dev.clearEvents_keep {t d0 d a1 a2 a3 a4} (hs : tablesIn [.regs, .log, .logSeq, .evt] t = true) (hx : Dev.changesOnly t d0 d) : Dev.changesOnly t d0 (Dev.clearEvents d a1 a2 a3 a4) :=
  chg_step (Dev.clearEvents_chg _ _ _ _ _) hs hx

theorem Dev.clearWarm_chg : ∀ d, Dev.changesOnly [.regs, .hlt, .sec] d (Dev.clearWarm d) := by
  intro d
  unfold Dev.clearWarm
  repeat' first
    | (with_reducible assumption)
    | (with_reducible exact chg_refl _ _)
    | ((with_reducible apply Dev.setHlt_keep); exact rfl)
    | ((with_reducible apply Dev.updEntry_keep); exact rfl)
    | ((with_reducible apply Dev.wr_keep); exact rfl)
    | (with_reducible apply chg_ite)
    | (with_reducible apply chg_foldl)
    | (with_reducible apply chg_foldl_snd)
    | (with_reducible apply chg_ite_snd)
    | intro _ _ _
    | intro _
    | split
    | (dsimp -proj only)

theorem Dev.clearWarm_keep {t d0 d} (hs : tablesIn [.regs, .hlt, .sec] t = true) (hx : Dev.changesOnly t d0 d) : Dev.changesOnly t d0 (Dev.clearWarm d) :=
  chg_step (Dev.clearWarm_chg _) hs hx

theorem Dev.clearWindows_chg : ∀ d a1, Dev.changesOnly [.regs] d (Dev.clearWindows d a1) := by
  intro d a1
  unfold Dev.clearWindows
  repeat' first
    | (with_reducible assumption)
    | (with_reducible exact chg_refl _ _)
    | ((with_reducible apply Dev.wr_keep); exact rfl)
    | (with_reducible apply chg_ite)
    | (with_reducible apply chg_foldl)
    | (with_reducible apply chg_foldl_snd)
    | (with_reducible apply chg_ite_snd)
    | intro _ _ _
    | intro _
    | split
    | (dsimp -proj only)

theorem Dev.clearWindows_keep {t d0 d a1} (hs : tablesIn [.regs] t = true) (hx : Dev.changesOnly t d0 d) : Dev.changesOnly t d0 (Dev.clearWindows d a1) :=
  chg_step (Dev.clearWindows_chg _ _) hs hx

theorem Dev.closeCore_chg : ∀ d a1, Dev.changesOnly [.regs, .log, .logSeq, .spr, .six, .evt, .out, .sec] d (Dev.closeCore d a1) := by
  intro d a1
  unfold Dev.closeCore
  repeat' first
    | (with_reducible assumption)
    | (with_reducible exact chg_refl _ _)
    | ((with_reducible apply Dev.closeUnit_keep); exact rfl)
    | ((with_reducible apply Dev.raise_keep); exact rfl)
    | (with_reducible apply chg_ite)
    | (with_reducible apply chg_foldl)
    | (with_reducible apply chg_foldl_snd)
    | (with_reducible apply chg_ite_snd)
    | intro _ _ _
    | intro _
    | split
    | (dsimp -proj only)

theorem Dev.closeCore_keep {t d0 d a1} (hs : tablesIn [.regs, .log, .logSeq, .spr, .six, .evt, .out, .sec] t = true) (hx : Dev.changesOnly t d0 d) : Dev.changesOnly t d0 (Dev.closeCore d a1) :=
  chg_step (Dev.closeCore_chg _ _) hs hx

theorem Dev.closePair_chg : ∀ d a1, Dev.changesOnly [.regs, .log, .logSeq, .spr, .evt, .sec] d (Dev.closePair d a1) := by
  intro d a1
  unfold Dev.closePair
  repeat' first
    | (with_reducible assumption)
    | (with_reducible exact chg_refl _ _)
    | ((with_reducible apply Dev.retireUnit_keep); exact rfl)
    | ((with_reducible apply Dev.setPhys_keep); exact rfl)
    | (with_reducible apply chg_ite)
    | (with_reducible apply chg_foldl)
    | (with_reducible apply chg_foldl_snd)
    | (with_reducible apply chg_ite_snd)
    | intro _ _ _
    | intro _
    | split
    | (dsimp -proj only)

theorem Dev.closePair_keep {t d0 d a1} (hs : tablesIn [.regs, .log, .logSeq, .spr, .evt, .sec] t = true) (hx : Dev.changesOnly t d0 d) : Dev.changesOnly t d0 (Dev.closePair d a1) :=
  chg_step (Dev.closePair_chg _ _) hs hx

theorem Dev.colAssist_chg : ∀ d a1 a2, Dev.changesOnly [.regs, .log, .logSeq, .six, .evt, .out, .col] d (Dev.colAssist d a1 a2) := by
  intro d a1 a2
  unfold Dev.colAssist
  repeat' first
    | (with_reducible assumption)
    | (with_reducible exact chg_refl _ _)
    | ((with_reducible apply Dev.assistOpen_keep); exact rfl)
    | ((with_reducible apply Dev.setCol_keep); exact rfl)
    | (refine Dev.sixAlloc_keep (by with_reducible assumption) rfl ?_)
    | ((with_reducible apply Dev.wr_keep); exact rfl)
    | ((with_reducible apply Dev.wr64_keep); exact rfl)
    | (with_reducible apply chg_ite)
    | (with_reducible apply chg_foldl)
    | (with_reducible apply chg_foldl_snd)
    | (with_reducible apply chg_ite_snd)
    | intro _ _ _
    | intro _
    | split
    | (dsimp -proj only)

theorem Dev.colAssist_keep {t d0 d a1 a2} (hs : tablesIn [.regs, .log, .logSeq, .six, .evt, .out, .col] t = true) (hx : Dev.changesOnly t d0 d) : Dev.changesOnly t d0 (Dev.colAssist d a1 a2) :=
  chg_step (Dev.colAssist_chg _ _ _) hs hx

theorem Dev.repaired_chg : ∀ d a1 a2, Dev.changesOnly [.regs, .log, .logSeq, .evt] d (Dev.repaired d a1 a2) := by
  intro d a1 a2
  unfold Dev.repaired
  repeat' first
    | (with_reducible assumption)
    | (with_reducible exact chg_refl _ _)
    | ((with_reducible apply Dev.raise_keep); exact rfl)
    | ((with_reducible apply Dev.setHealth_keep); exact rfl)
    | (with_reducible apply chg_ite)
    | (with_reducible apply chg_foldl)
    | (with_reducible apply chg_foldl_snd)
    | (with_reducible apply chg_ite_snd)
    | intro _ _ _
    | intro _
    | split
    | (dsimp -proj only)

theorem Dev.repaired_keep {t d0 d a1 a2} (hs : tablesIn [.regs, .log, .logSeq, .evt] t = true) (hx : Dev.changesOnly t d0 d) : Dev.changesOnly t d0 (Dev.repaired d a1 a2) :=
  chg_step (Dev.repaired_chg _ _ _) hs hx

theorem Dev.colFailed_chg : ∀ d a1 a2, Dev.changesOnly [.regs, .log, .logSeq, .spr, .six, .evt, .out, .sec] d (Dev.colFailed d a1 a2) := by
  intro d a1 a2
  unfold Dev.colFailed
  repeat' first
    | (with_reducible assumption)
    | (with_reducible exact chg_refl _ _)
    | ((with_reducible apply Dev.closeCore_keep); exact rfl)
    | ((with_reducible apply Dev.repaired_keep); exact rfl)
    | ((with_reducible apply Dev.setFlag_keep); exact rfl)
    | ((with_reducible apply Dev.wr_keep); exact rfl)
    | (with_reducible apply chg_ite)
    | (with_reducible apply chg_foldl)
    | (with_reducible apply chg_foldl_snd)
    | (with_reducible apply chg_ite_snd)
    | intro _ _ _
    | intro _
    | split
    | (dsimp -proj only)

theorem Dev.colFailed_keep {t d0 d a1 a2} (hs : tablesIn [.regs, .log, .logSeq, .spr, .six, .evt, .out, .sec] t = true) (hx : Dev.changesOnly t d0 d) : Dev.changesOnly t d0 (Dev.colFailed d a1 a2) :=
  chg_step (Dev.colFailed_chg _ _ _) hs hx

theorem Dev.putTag_chg : ∀ d a1, Dev.changesOnly [.regs, .col] d (Dev.putTag d a1) := by
  intro d a1
  unfold Dev.putTag
  repeat' first
    | (with_reducible assumption)
    | (with_reducible exact chg_refl _ _)
    | ((with_reducible apply Dev.incSat_keep); exact rfl)
    | ((with_reducible apply Dev.setCol_keep); exact rfl)
    | (with_reducible apply chg_ite)
    | (with_reducible apply chg_foldl)
    | (with_reducible apply chg_foldl_snd)
    | (with_reducible apply chg_ite_snd)
    | intro _ _ _
    | intro _
    | split
    | (dsimp -proj only)

theorem Dev.putTag_keep {t d0 d a1} (hs : tablesIn [.regs, .col] t = true) (hx : Dev.changesOnly t d0 d) : Dev.changesOnly t d0 (Dev.putTag d a1) :=
  chg_step (Dev.putTag_chg _ _) hs hx

theorem Dev.collDone_chg : ∀ d a1 a2, Dev.changesOnly [.regs, .kqp, .col] d (Dev.collDone d a1 a2) := by
  intro d a1 a2
  unfold Dev.collDone
  repeat' first
    | (with_reducible assumption)
    | (with_reducible exact chg_refl _ _)
    | ((with_reducible apply Dev.partRan_keep); exact rfl)
    | ((with_reducible apply Dev.putTag_keep); exact rfl)
    | (with_reducible apply chg_ite)
    | (with_reducible apply chg_foldl)
    | (with_reducible apply chg_foldl_snd)
    | (with_reducible apply chg_ite_snd)
    | intro _ _ _
    | intro _
    | split
    | (dsimp -proj only)

theorem Dev.collDone_keep {t d0 d a1 a2} (hs : tablesIn [.regs, .kqp, .col] t = true) (hx : Dev.changesOnly t d0 d) : Dev.changesOnly t d0 (Dev.collDone d a1 a2) :=
  chg_step (Dev.collDone_chg _ _ _) hs hx

theorem Dev.collPushGo_chg : ∀ n d q i c, Dev.changesOnly [.regs, .log, .logSeq, .six, .evt, .out, .col, .fab, .tbn] d (Dev.collPushGo n d q i c)
  | 0, d, q, i, c => chg_refl _ _
  | n + 1, d, q, i, c => by
    have ih := Dev.collPushGo_chg n
    unfold Dev.collPushGo
    repeat' first
    | (refine chg_step (ih _ _ _ _) rfl ?_)
    | (with_reducible assumption)
    | (with_reducible exact chg_refl _ _)
    | ((with_reducible apply Dev.newMsg_keep); exact rfl)
    | (refine Dev.newMsg_keep_eq (by with_reducible assumption) rfl ?_)
    | ((with_reducible apply Dev.post_keep); exact rfl)
    | (refine Dev.sixAlloc_keep (by with_reducible assumption) rfl ?_)
    | ((with_reducible apply Dev.updColl_keep); exact rfl)
    | (with_reducible apply chg_ite)
    | (with_reducible apply chg_foldl)
    | (with_reducible apply chg_foldl_snd)
    | (with_reducible apply chg_ite_snd)
    | intro _ _ _
    | intro _
    | split
    | (dsimp -proj only)

theorem Dev.collPushGo_keep {t d0 n d q i c} (hs : tablesIn [.regs, .log, .logSeq, .six, .evt, .out, .col, .fab, .tbn] t = true) (hx : Dev.changesOnly t d0 d) : Dev.changesOnly t d0 (Dev.collPushGo n d q i c) :=
  chg_step (Dev.collPushGo_chg n _ _ _ _) hs hx

theorem Dev.collPush_chg : ∀ d a1 a2 a3, Dev.changesOnly [.regs, .log, .logSeq, .six, .evt, .out, .col, .fab, .tbn] d (Dev.collPush d a1 a2 a3) := by
  intro d a1 a2 a3
  unfold Dev.collPush
  repeat' first
    | (with_reducible assumption)
    | (with_reducible exact chg_refl _ _)
    | ((with_reducible apply Dev.collPushGo_keep); exact rfl)
    | (with_reducible apply chg_ite)
    | (with_reducible apply chg_foldl)
    | (with_reducible apply chg_foldl_snd)
    | (with_reducible apply chg_ite_snd)
    | intro _ _ _
    | intro _
    | split
    | (dsimp -proj only)

theorem Dev.collPush_keep {t d0 d a1 a2 a3} (hs : tablesIn [.regs, .log, .logSeq, .six, .evt, .out, .col, .fab, .tbn] t = true) (hx : Dev.changesOnly t d0 d) : Dev.changesOnly t d0 (Dev.collPush d a1 a2 a3) :=
  chg_step (Dev.collPush_chg _ _ _ _) hs hx

theorem Dev.startPhase_chg : ∀ d a1 a2 a3, Dev.changesOnly [.regs, .t0, .t1, .log, .logSeq, .evt, .kqp, .tir, .col] d (Dev.startPhase d a1 a2 a3) := by
  intro d a1 a2 a3
  unfold Dev.startPhase
  repeat' first
    | (with_reducible assumption)
    | (with_reducible exact chg_refl _ _)
    | ((with_reducible apply Dev.bufWrite_keep); exact rfl)
    | ((with_reducible apply Dev.failTransfer_keep); exact rfl)
    | ((with_reducible apply Dev.failColl_keep); exact rfl)
    | ((with_reducible apply Dev.updColl_keep); exact rfl)
    | (with_reducible apply chg_ite)
    | (with_reducible apply chg_foldl)
    | (with_reducible apply chg_foldl_snd)
    | (with_reducible apply chg_ite_snd)
    | intro _ _ _
    | intro _
    | split
    | (dsimp -proj only)

theorem Dev.startPhase_keep {t d0 d a1 a2 a3} (hs : tablesIn [.regs, .t0, .t1, .log, .logSeq, .evt, .kqp, .tir, .col] t = true) (hx : Dev.changesOnly t d0 d) : Dev.changesOnly t d0 (Dev.startPhase d a1 a2 a3) :=
  chg_step (Dev.startPhase_chg _ _ _ _) hs hx

theorem Dev.collGo_chg : ∀ n d q i, Dev.changesOnly [.regs, .t0, .t1, .log, .logSeq, .six, .evt, .kqp, .out, .tir, .col, .fab, .tbn] d (Dev.collGo n d q i)
  | 0, d, q, i => chg_refl _ _
  | n + 1, d, q, i => by
    have ih := Dev.collGo_chg n
    unfold Dev.collGo
    repeat' first
    | (refine chg_step (ih _ _ _) rfl ?_)
    | (with_reducible assumption)
    | (with_reducible exact chg_refl _ _)
    | ((with_reducible apply Dev.collDone_keep); exact rfl)
    | ((with_reducible apply Dev.collPush_keep); exact rfl)
    | ((with_reducible apply Dev.startPhase_keep); exact rfl)
    | ((with_reducible apply Dev.updColl_keep); exact rfl)
    | (with_reducible apply chg_ite)
    | (with_reducible apply chg_foldl)
    | (with_reducible apply chg_foldl_snd)
    | (with_reducible apply chg_ite_snd)
    | intro _ _ _
    | intro _
    | split
    | (dsimp -proj only)

theorem Dev.collGo_keep {t d0 n d q i} (hs : tablesIn [.regs, .t0, .t1, .log, .logSeq, .six, .evt, .kqp, .out, .tir, .col, .fab, .tbn] t = true) (hx : Dev.changesOnly t d0 d) : Dev.changesOnly t d0 (Dev.collGo n d q i) :=
  chg_step (Dev.collGo_chg n _ _ _) hs hx

theorem Dev.collAdvance_chg : ∀ d a1 a2, Dev.changesOnly [.regs, .t0, .t1, .log, .logSeq, .six, .evt, .kqp, .out, .tir, .col, .fab, .tbn] d (Dev.collAdvance d a1 a2) := by
  intro d a1 a2
  unfold Dev.collAdvance
  repeat' first
    | (with_reducible assumption)
    | (with_reducible exact chg_refl _ _)
    | ((with_reducible apply Dev.collGo_keep); exact rfl)
    | (with_reducible apply chg_ite)
    | (with_reducible apply chg_foldl)
    | (with_reducible apply chg_foldl_snd)
    | (with_reducible apply chg_ite_snd)
    | intro _ _ _
    | intro _
    | split
    | (dsimp -proj only)

theorem Dev.collAdvance_keep {t d0 d a1 a2} (hs : tablesIn [.regs, .t0, .t1, .log, .logSeq, .six, .evt, .kqp, .out, .tir, .col, .fab, .tbn] t = true) (hx : Dev.changesOnly t d0 d) : Dev.changesOnly t d0 (Dev.collAdvance d a1 a2) :=
  chg_step (Dev.collAdvance_chg _ _ _) hs hx

theorem Dev.collAll_chg : ∀ d, Dev.changesOnly [.regs, .t0, .t1, .log, .logSeq, .six, .evt, .kqp, .out, .tir, .col, .fab, .tbn] d (Dev.collAll d) := by
  intro d
  unfold Dev.collAll
  repeat' first
    | (with_reducible assumption)
    | (with_reducible exact chg_refl _ _)
    | ((with_reducible apply Dev.collAdvance_keep); exact rfl)
    | (with_reducible apply chg_ite)
    | (with_reducible apply chg_foldl)
    | (with_reducible apply chg_foldl_snd)
    | (with_reducible apply chg_ite_snd)
    | intro _ _ _
    | intro _
    | split
    | (dsimp -proj only)

theorem Dev.collAll_keep {t d0 d} (hs : tablesIn [.regs, .t0, .t1, .log, .logSeq, .six, .evt, .kqp, .out, .tir, .col, .fab, .tbn] t = true) (hx : Dev.changesOnly t d0 d) : Dev.changesOnly t d0 (Dev.collAll d) :=
  chg_step (Dev.collAll_chg _) hs hx

theorem Dev.contribute_chg : ∀ d a1 a2 a3, Dev.changesOnly [.regs, .t0, .t1, .tir, .col] d (Dev.contribute d a1 a2 a3) := by
  intro d a1 a2 a3
  unfold Dev.contribute
  repeat' first
    | (with_reducible assumption)
    | (with_reducible exact chg_refl _ _)
    | ((with_reducible apply Dev.addInto_keep); exact rfl)
    | ((with_reducible apply Dev.bufWrite_keep); exact rfl)
    | (with_reducible apply chg_ite)
    | (with_reducible apply chg_foldl)
    | (with_reducible apply chg_foldl_snd)
    | (with_reducible apply chg_ite_snd)
    | intro _ _ _
    | intro _
    | split
    | (dsimp -proj only)

theorem Dev.contribute_keep {t d0 d a1 a2 a3} (hs : tablesIn [.regs, .t0, .t1, .tir, .col] t = true) (hx : Dev.changesOnly t d0 d) : Dev.changesOnly t d0 (Dev.contribute d a1 a2 a3) :=
  chg_step (Dev.contribute_chg _ _ _ _) hs hx

theorem Dev.mktError_chg : ∀ d a1 a2, Dev.changesOnly [.regs] d (Dev.mktError d a1 a2) := by
  intro d a1 a2
  unfold Dev.mktError
  repeat' first
    | (with_reducible assumption)
    | (with_reducible exact chg_refl _ _)
    | ((with_reducible apply Dev.wr_keep); exact rfl)
    | (with_reducible apply chg_ite)
    | (with_reducible apply chg_foldl)
    | (with_reducible apply chg_foldl_snd)
    | (with_reducible apply chg_ite_snd)
    | intro _ _ _
    | intro _
    | split
    | (dsimp -proj only)

theorem Dev.mktError_keep {t d0 d a1 a2} (hs : tablesIn [.regs] t = true) (hx : Dev.changesOnly t d0 d) : Dev.changesOnly t d0 (Dev.mktError d a1 a2) :=
  chg_step (Dev.mktError_chg _ _ _) hs hx

theorem Dev.refused_chg : ∀ d a1 a2, Dev.changesOnly [.regs, .log, .logSeq, .evt] d (Dev.refused d a1 a2) := by
  intro d a1 a2
  unfold Dev.refused
  repeat' first
    | (with_reducible assumption)
    | (with_reducible exact chg_refl _ _)
    | ((with_reducible apply Dev.mktError_keep); exact rfl)
    | ((with_reducible apply Dev.raise_keep); exact rfl)
    | (with_reducible apply chg_ite)
    | (with_reducible apply chg_foldl)
    | (with_reducible apply chg_foldl_snd)
    | (with_reducible apply chg_ite_snd)
    | intro _ _ _
    | intro _
    | split
    | (dsimp -proj only)

theorem Dev.refused_keep {t d0 d a1 a2} (hs : tablesIn [.regs, .log, .logSeq, .evt] t = true) (hx : Dev.changesOnly t d0 d) : Dev.changesOnly t d0 (Dev.refused d a1 a2) :=
  chg_step (Dev.refused_chg _ _ _) hs hx

theorem Dev.collBegin_chg : ∀ d q i, Dev.changesOnly [.regs, .t0, .t1, .log, .logSeq, .evt, .kqp, .tir, .mkt, .col] d (Dev.collBegin d q i) := by
  intro d q i
  unfold Dev.collBegin
  split
  · refine chg_ite (Dev.partRan_keep (by exact rfl) (Dev.incSat_keep (by exact rfl) (chg_refl _ _))) ?_
    refine chg_ite (Dev.failColl_keep (by exact rfl) (Dev.raise_keep (by exact rfl) (chg_refl _ _))) ?_
    refine chg_ite (Dev.failColl_keep (by exact rfl) (chg_refl _ _)) ?_
    dsimp only
    split
    · exact chg_ite (Dev.refused_keep (by exact rfl) (Dev.failColl_keep (by exact rfl) (chg_refl _ _)))
        (Dev.failColl_keep (by exact rfl) (chg_refl _ _))
    · refine chg_ite (chg_refl _ _) ?_
      split
      · exact chg_refl _ _
      · rename_i d1 h1
        have h2 : Dev.changesOnly [.regs, .t0, .t1, .log, .logSeq, .evt, .kqp, .tir, .mkt, .col] d d1 := by
          split at h1
          · exact Dev.acrDest_keep h1 (by exact rfl) (chg_refl _ _)
          · injection h1 with h1; subst h1; exact chg_refl _ _
        have h3 : ∀ k c a, Dev.changesOnly [.regs, .t0, .t1, .log, .logSeq, .evt, .kqp, .tir, .mkt, .col] d (d1.contribute k c a) := fun k c a => Dev.contribute_keep (by exact rfl) h2
        exact chg_ite (Dev.updColl_keep (by exact rfl) (chg_ite (chg_foldl (fun _ _ hx => Dev.bufWrite_keep (by exact rfl) hx) _ (h3 _ _ _))
          (h3 _ _ _))) (Dev.updColl_keep (by exact rfl) (h3 _ _ _))
  · exact chg_refl _ _

theorem Dev.collBegin_keep {t d0 d q i} (hs : tablesIn [.regs, .t0, .t1, .log, .logSeq, .evt, .kqp, .tir, .mkt, .col] t = true) (hx : Dev.changesOnly t d0 d) : Dev.changesOnly t d0 (Dev.collBegin d q i) :=
  chg_step (Dev.collBegin_chg _ _ _) hs hx

theorem Dev.setGrpStats_chg : ∀ d a1 a2 a3, Dev.changesOnly [.acr] d (Dev.setGrpStats d a1 a2 a3) := by
  intro d a1 a2 a3
  unfold Dev.setGrpStats
  repeat' first
    | (with_reducible assumption)
    | (with_reducible exact chg_refl _ _)
    | ((with_reducible apply Dev.setAcr_keep); exact rfl)
    | (with_reducible apply chg_ite)
    | (with_reducible apply chg_foldl)
    | (with_reducible apply chg_foldl_snd)
    | (with_reducible apply chg_ite_snd)
    | intro _ _ _
    | intro _
    | split
    | (dsimp -proj only)

theorem Dev.setGrpStats_keep {t d0 d a1 a2 a3} (hs : tablesIn [.acr] t = true) (hx : Dev.changesOnly t d0 d) : Dev.changesOnly t d0 (Dev.setGrpStats d a1 a2 a3) :=
  chg_step (Dev.setGrpStats_chg _ _ _ _) hs hx

theorem Dev.commitGroups_chg : ∀ d a1, Dev.changesOnly [.regs, .log, .logSeq, .evt, .acr] d (Dev.commitGroups d a1) := by
  intro d a1
  unfold Dev.commitGroups
  repeat' first
    | (with_reducible assumption)
    | (with_reducible exact chg_refl _ _)
    | ((with_reducible apply Dev.raise_keep); exact rfl)
    | ((with_reducible apply Dev.setAcr_keep); exact rfl)
    | ((with_reducible apply Dev.setGrpStats_keep); exact rfl)
    | ((with_reducible apply Dev.wr_keep); exact rfl)
    | (with_reducible apply chg_ite)
    | (with_reducible apply chg_foldl)
    | (with_reducible apply chg_foldl_snd)
    | (with_reducible apply chg_ite_snd)
    | intro _ _ _
    | intro _
    | split
    | (dsimp -proj only)

theorem Dev.commitGroups_keep {t d0 d a1} (hs : tablesIn [.regs, .log, .logSeq, .evt, .acr] t = true) (hx : Dev.changesOnly t d0 d) : Dev.changesOnly t d0 (Dev.commitGroups d a1) :=
  chg_step (Dev.commitGroups_chg _ _) hs hx

theorem Dev.commitNoise_chg : ∀ d a1, Dev.changesOnly [.regs, .ldg, .acr] d (Dev.commitNoise d a1) := by
  intro d a1
  unfold Dev.commitNoise
  repeat' first
    | (with_reducible assumption)
    | (with_reducible exact chg_refl _ _)
    | ((with_reducible apply Dev.setAcr_keep); exact rfl)
    | ((with_reducible apply Dev.updNewest_keep); exact rfl)
    | ((with_reducible apply Dev.wr_keep); exact rfl)
    | (with_reducible apply chg_ite)
    | (with_reducible apply chg_foldl)
    | (with_reducible apply chg_foldl_snd)
    | (with_reducible apply chg_ite_snd)
    | intro _ _ _
    | intro _
    | split
    | (dsimp -proj only)

theorem Dev.commitNoise_keep {t d0 d a1} (hs : tablesIn [.regs, .ldg, .acr] t = true) (hx : Dev.changesOnly t d0 d) : Dev.changesOnly t d0 (Dev.commitNoise d a1) :=
  chg_step (Dev.commitNoise_chg _ _) hs hx

theorem Dev.setFree_chg : ∀ d a1, Dev.changesOnly [.free] d (Dev.setFree d a1) := by
  intro d a1
  unfold Dev.setFree
  repeat' first
    | (with_reducible assumption)
    | (with_reducible exact chg_refl _ _)
    | (with_reducible apply chg_ite)
    | (with_reducible apply chg_foldl)
    | (with_reducible apply chg_foldl_snd)
    | (with_reducible apply chg_ite_snd)
    | intro _ _ _
    | intro _
    | split
    | (dsimp -proj only)
    | (refine chg_step (chg_free _ _) rfl ?_)

theorem Dev.setFree_keep {t d0 d a1} (hs : tablesIn [.free] t = true) (hx : Dev.changesOnly t d0 d) : Dev.changesOnly t d0 (Dev.setFree d a1) :=
  chg_step (Dev.setFree_chg _ _) hs hx

theorem Dev.drawIndex_chg : ∀ d, Dev.changesOnly [.free] d (Dev.drawIndex d).2 := by
  intro d
  unfold Dev.drawIndex
  repeat' first
    | (with_reducible assumption)
    | (with_reducible exact chg_refl _ _)
    | ((with_reducible apply Dev.setFree_keep); exact rfl)
    | (with_reducible apply chg_ite)
    | (with_reducible apply chg_foldl)
    | (with_reducible apply chg_foldl_snd)
    | (with_reducible apply chg_ite_snd)
    | intro _ _ _
    | intro _
    | split
    | (dsimp -proj only)

theorem Dev.drawIndex_chg_eq : ∀ d x0 e, Dev.drawIndex d = (x0, e) → Dev.changesOnly [.free] d e := by
  intro d x0 e h
  have := Dev.drawIndex_chg d
  rw [h] at this
  exact this

theorem Dev.drawIndex_keep {t d0 d} (hs : tablesIn [.free] t = true) (hx : Dev.changesOnly t d0 d) : Dev.changesOnly t d0 ((Dev.drawIndex d).2) :=
  chg_step (Dev.drawIndex_chg _) hs hx

theorem Dev.drawIndex_keep_eq {t d0 d x0 e} (h : Dev.drawIndex d = (x0, e)) (hs : tablesIn [.free] t = true) (hx : Dev.changesOnly t d0 d) : Dev.changesOnly t d0 e :=
  chg_step (Dev.drawIndex_chg_eq _ _ _ h) hs hx

theorem Dev.configRead_chg : ∀ d a1 a2, Dev.changesOnly [.free] d (Dev.configRead d a1 a2).2 := by
  intro d a1 a2
  unfold Dev.configRead
  repeat' first
    | (with_reducible assumption)
    | (with_reducible exact chg_refl _ _)
    | ((with_reducible apply Dev.drawIndex_keep); exact rfl)
    | (refine Dev.drawIndex_keep_eq (by with_reducible assumption) rfl ?_)
    | (with_reducible apply chg_ite)
    | (with_reducible apply chg_foldl)
    | (with_reducible apply chg_foldl_snd)
    | (with_reducible apply chg_ite_snd)
    | intro _ _ _
    | intro _
    | split
    | (dsimp -proj only)

theorem Dev.configRead_chg_eq : ∀ d a1 a2 x0 e, Dev.configRead d a1 a2 = (x0, e) → Dev.changesOnly [.free] d e := by
  intro d a1 a2 x0 e h
  have := Dev.configRead_chg d a1 a2
  rw [h] at this
  exact this

theorem Dev.configRead_keep {t d0 d a1 a2} (hs : tablesIn [.free] t = true) (hx : Dev.changesOnly t d0 d) : Dev.changesOnly t d0 ((Dev.configRead d a1 a2).2) :=
  chg_step (Dev.configRead_chg _ _ _) hs hx

theorem Dev.configRead_keep_eq {t d0 d a1 a2 x0 e} (h : Dev.configRead d a1 a2 = (x0, e)) (hs : tablesIn [.free] t = true) (hx : Dev.changesOnly t d0 d) : Dev.changesOnly t d0 e :=
  chg_step (Dev.configRead_chg_eq _ _ _ _ _ h) hs hx

theorem Dev.configWrite_chg : ∀ d a1 a2 a3, Dev.changesOnly [.hif] d (Dev.configWrite d a1 a2 a3) := by
  intro d a1 a2 a3
  unfold Dev.configWrite
  repeat' first
    | (with_reducible assumption)
    | (with_reducible exact chg_refl _ _)
    | ((with_reducible apply Dev.setHif_keep); exact rfl)
    | (with_reducible apply chg_ite)
    | (with_reducible apply chg_foldl)
    | (with_reducible apply chg_foldl_snd)
    | (with_reducible apply chg_ite_snd)
    | intro _ _ _
    | intro _
    | split
    | (dsimp -proj only)

theorem Dev.configWrite_keep {t d0 d a1 a2 a3} (hs : tablesIn [.hif] t = true) (hx : Dev.changesOnly t d0 d) : Dev.changesOnly t d0 (Dev.configWrite d a1 a2 a3) :=
  chg_step (Dev.configWrite_chg _ _ _ _) hs hx

theorem Dev.countDegen_chg : ∀ d a1 a2 a3, Dev.changesOnly [.regs, .log, .logSeq, .evt, .ldg, .acr] d (Dev.countDegen d a1 a2 a3) := by
  intro d a1 a2 a3
  unfold Dev.countDegen
  repeat' first
    | (with_reducible assumption)
    | (with_reducible exact chg_refl _ _)
    | ((with_reducible apply Dev.incSat_keep); exact rfl)
    | ((with_reducible apply Dev.raise_keep); exact rfl)
    | ((with_reducible apply Dev.setGrpStats_keep); exact rfl)
    | ((with_reducible apply Dev.setJob_keep); exact rfl)
    | (with_reducible apply chg_ite)
    | (with_reducible apply chg_foldl)
    | (with_reducible apply chg_foldl_snd)
    | (with_reducible apply chg_ite_snd)
    | intro _ _ _
    | intro _
    | split
    | (dsimp -proj only)

theorem Dev.countDegen_keep {t d0 d a1 a2 a3} (hs : tablesIn [.regs, .log, .logSeq, .evt, .ldg, .acr] t = true) (hx : Dev.changesOnly t d0 d) : Dev.changesOnly t d0 (Dev.countDegen d a1 a2 a3) :=
  chg_step (Dev.countDegen_chg _ _ _ _) hs hx

theorem Dev.countLane_chg : ∀ d a1 a2, Dev.changesOnly [.regs, .log, .logSeq, .evt, .fab, .sec] d (Dev.countLane d a1 a2) := by
  intro d a1 a2
  unfold Dev.countLane
  repeat' first
    | (with_reducible assumption)
    | (with_reducible exact chg_refl _ _)
    | ((with_reducible apply Dev.recordRetirement_keep); exact rfl)
    | ((with_reducible apply Dev.setPort_keep); exact rfl)
    | ((with_reducible apply Dev.wr_keep); exact rfl)
    | (with_reducible apply chg_ite)
    | (with_reducible apply chg_foldl)
    | (with_reducible apply chg_foldl_snd)
    | (with_reducible apply chg_ite_snd)
    | intro _ _ _
    | intro _
    | split
    | (dsimp -proj only)

theorem Dev.countLane_keep {t d0 d a1 a2} (hs : tablesIn [.regs, .log, .logSeq, .evt, .fab, .sec] t = true) (hx : Dev.changesOnly t d0 d) : Dev.changesOnly t d0 (Dev.countLane d a1 a2) :=
  chg_step (Dev.countLane_chg _ _ _) hs hx

theorem Dev.setPeer_chg : ∀ d a1 a2, Dev.changesOnly [.tbn] d (Dev.setPeer d a1 a2) := by
  intro d a1 a2
  unfold Dev.setPeer
  repeat' first
    | (with_reducible assumption)
    | (with_reducible exact chg_refl _ _)
    | ((with_reducible apply Dev.setTbn_keep); exact rfl)
    | (with_reducible apply chg_ite)
    | (with_reducible apply chg_foldl)
    | (with_reducible apply chg_foldl_snd)
    | (with_reducible apply chg_ite_snd)
    | intro _ _ _
    | intro _
    | split
    | (dsimp -proj only)

theorem Dev.setPeer_keep {t d0 d a1 a2} (hs : tablesIn [.tbn] t = true) (hx : Dev.changesOnly t d0 d) : Dev.changesOnly t d0 (Dev.setPeer d a1 a2) :=
  chg_step (Dev.setPeer_chg _ _ _) hs hx

theorem Dev.lastPath_chg : ∀ d a1, Dev.changesOnly [.regs, .log, .logSeq, .six, .evt, .out, .tbn] d (Dev.lastPath d a1) := by
  intro d a1
  unfold Dev.lastPath
  repeat' first
    | (with_reducible assumption)
    | (with_reducible exact chg_refl _ _)
    | ((with_reducible apply Dev.assistOpen_keep); exact rfl)
    | ((with_reducible apply Dev.setPeer_keep); exact rfl)
    | ((with_reducible apply Dev.showTbnAssist_keep); exact rfl)
    | (refine Dev.sixAlloc_keep (by with_reducible assumption) rfl ?_)
    | (with_reducible apply chg_ite)
    | (with_reducible apply chg_foldl)
    | (with_reducible apply chg_foldl_snd)
    | (with_reducible apply chg_ite_snd)
    | intro _ _ _
    | intro _
    | split
    | (dsimp -proj only)

theorem Dev.lastPath_keep {t d0 d a1} (hs : tablesIn [.regs, .log, .logSeq, .six, .evt, .out, .tbn] t = true) (hx : Dev.changesOnly t d0 d) : Dev.changesOnly t d0 (Dev.lastPath d a1) :=
  chg_step (Dev.lastPath_chg _ _) hs hx

theorem Dev.losePath_chg : ∀ d a1 a2, Dev.changesOnly [.tbn] d (Dev.losePath d a1 a2) := by
  intro d a1 a2
  unfold Dev.losePath
  repeat' first
    | (with_reducible assumption)
    | (with_reducible exact chg_refl _ _)
    | ((with_reducible apply Dev.setTbn_keep); exact rfl)
    | (with_reducible apply chg_ite)
    | (with_reducible apply chg_foldl)
    | (with_reducible apply chg_foldl_snd)
    | (with_reducible apply chg_ite_snd)
    | intro _ _ _
    | intro _
    | split
    | (dsimp -proj only)

theorem Dev.losePath_keep {t d0 d a1 a2} (hs : tablesIn [.tbn] t = true) (hx : Dev.changesOnly t d0 d) : Dev.changesOnly t d0 (Dev.losePath d a1 a2) :=
  chg_step (Dev.losePath_chg _ _ _) hs hx

theorem Dev.setPath_chg : ∀ d a1 a2 a3, Dev.changesOnly [.tbn] d (Dev.setPath d a1 a2 a3) := by
  intro d a1 a2 a3
  unfold Dev.setPath
  repeat' first
    | (with_reducible assumption)
    | (with_reducible exact chg_refl _ _)
    | ((with_reducible apply Dev.setPeer_keep); exact rfl)
    | (with_reducible apply chg_ite)
    | (with_reducible apply chg_foldl)
    | (with_reducible apply chg_foldl_snd)
    | (with_reducible apply chg_ite_snd)
    | intro _ _ _
    | intro _
    | split
    | (dsimp -proj only)

theorem Dev.setPath_keep {t d0 d a1 a2 a3} (hs : tablesIn [.tbn] t = true) (hx : Dev.changesOnly t d0 d) : Dev.changesOnly t d0 (Dev.setPath d a1 a2 a3) :=
  chg_step (Dev.setPath_chg _ _ _ _) hs hx

theorem Dev.countLoss_chg : ∀ d a1 a2, Dev.changesOnly [.regs, .log, .logSeq, .six, .evt, .out, .tbn] d (Dev.countLoss d a1 a2) := by
  intro d a1 a2
  unfold Dev.countLoss
  repeat' first
    | (with_reducible assumption)
    | (with_reducible exact chg_refl _ _)
    | ((with_reducible apply Dev.lastPath_keep); exact rfl)
    | ((with_reducible apply Dev.losePath_keep); exact rfl)
    | ((with_reducible apply Dev.raise_keep); exact rfl)
    | ((with_reducible apply Dev.setPath_keep); exact rfl)
    | (with_reducible apply chg_ite)
    | (with_reducible apply chg_foldl)
    | (with_reducible apply chg_foldl_snd)
    | (with_reducible apply chg_ite_snd)
    | intro _ _ _
    | intro _
    | split
    | (dsimp -proj only)

theorem Dev.countLoss_keep {t d0 d a1 a2} (hs : tablesIn [.regs, .log, .logSeq, .six, .evt, .out, .tbn] t = true) (hx : Dev.changesOnly t d0 d) : Dev.changesOnly t d0 (Dev.countLoss d a1 a2) :=
  chg_step (Dev.countLoss_chg _ _ _) hs hx

theorem Dev.mbxDone_chg : ∀ d a1 a2 a3, Dev.changesOnly [.regs] d (Dev.mbxDone d a1 a2 a3) := by
  intro d a1 a2 a3
  unfold Dev.mbxDone
  repeat' first
    | (with_reducible assumption)
    | (with_reducible exact chg_refl _ _)
    | ((with_reducible apply Dev.wr_keep); exact rfl)
    | (with_reducible apply chg_ite)
    | (with_reducible apply chg_foldl)
    | (with_reducible apply chg_foldl_snd)
    | (with_reducible apply chg_ite_snd)
    | intro _ _ _
    | intro _
    | split
    | (dsimp -proj only)

theorem Dev.mbxDone_keep {t d0 d a1 a2 a3} (hs : tablesIn [.regs] t = true) (hx : Dev.changesOnly t d0 d) : Dev.changesOnly t d0 (Dev.mbxDone d a1 a2 a3) :=
  chg_step (Dev.mbxDone_chg _ _ _ _) hs hx

theorem Dev.createObj_chg : ∀ d f r p, Dev.changesOnly [.regs, .t1, .log, .logSeq, .evt, .tir] d (Dev.createObj d f r p) := by
  intro d f r p
  unfold Dev.createObj
  generalize Dev.newIndex = ni
  generalize Dev.committedExtents = ce
  generalize Dev.quota1 = q1
  have hq : ∀ e : Dev, Dev.changesOnly [.regs, .t1, .log, .logSeq, .evt, .tir] d e → Dev.changesOnly [.regs, .t1, .log, .logSeq, .evt, .tir] d ((e.raise tirPage 3 St.quotaExceeded).mbxDone f St.quotaExceeded none) :=
    fun e he => Dev.mbxDone_keep (by exact rfl) (Dev.raise_keep (by exact rfl) he)
  have hm : ∀ (e : Dev) s k, Dev.changesOnly [.regs, .t1, .log, .logSeq, .evt, .tir] d e → Dev.changesOnly [.regs, .t1, .log, .logSeq, .evt, .tir] d (e.mbxDone f s k) := fun e s k he => Dev.mbxDone_keep (by exact rfl) he
  refine chg_ite (hm _ _ _ (chg_refl _ _)) (chg_ite (hm _ _ _ (chg_refl _ _)) ?_)
  generalize (ceilDiv (r.sizeL * 64) extentBytes) = n
  generalize (if r.attr = 1 then 8 else p) = owner
  dsimp only
  have h1 : Dev.changesOnly [.regs, .t1, .log, .logSeq, .evt, .tir] d (if r.kind = kCOMMITTED ∧ (!q1 d owner (2 * n)) = true then d.freeClean1 owner (2 * n) else d) :=
    chg_ite (Dev.freeClean1_keep (by exact rfl) (chg_refl _ _)) (chg_refl _ _)
  revert h1
  generalize (if r.kind = kCOMMITTED ∧ (!q1 d owner (2 * n)) = true then d.freeClean1 owner (2 * n) else d) = d1
  intro h1
  refine chg_ite (hq _ h1) ?_
  split
  · exact hm _ _ _ h1
  · split
    · exact hm _ _ _ h1
    · refine chg_ite (hm _ _ _ h1) (hm _ _ _ (Dev.setObj_keep (by exact rfl) ?_))
      exact chg_ite (chg_ite (Dev.useExtents_keep (by exact rfl) h1) h1) (Dev.inc_keep (by exact rfl) (chg_ite (Dev.useExtents_keep (by exact rfl) h1) h1))

theorem Dev.createObj_keep {t d0 d f r p} (hs : tablesIn [.regs, .t1, .log, .logSeq, .evt, .tir] t = true) (hx : Dev.changesOnly t d0 d) : Dev.changesOnly t d0 (Dev.createObj d f r p) :=
  chg_step (Dev.createObj_chg _ _ _ _) hs hx

theorem Dev.dumpTrigger_chg : ∀ d a1 a2, Dev.changesOnly [.regs, .log, .logSeq, .six, .evt, .out, .hlt] d (Dev.dumpTrigger d a1 a2) := by
  intro d a1 a2
  unfold Dev.dumpTrigger
  repeat' first
    | (with_reducible assumption)
    | (with_reducible exact chg_refl _ _)
    | ((with_reducible apply Dev.assistOpen_keep); exact rfl)
    | ((with_reducible apply Dev.incSat_keep); exact rfl)
    | ((with_reducible apply Dev.raise_keep); exact rfl)
    | ((with_reducible apply Dev.setFlag_keep); exact rfl)
    | ((with_reducible apply Dev.setHlt_keep); exact rfl)
    | (refine Dev.sixAlloc_keep (by with_reducible assumption) rfl ?_)
    | (with_reducible apply chg_ite)
    | (with_reducible apply chg_foldl)
    | (with_reducible apply chg_foldl_snd)
    | (with_reducible apply chg_ite_snd)
    | intro _ _ _
    | intro _
    | split
    | (dsimp -proj only)

theorem Dev.dumpTrigger_keep {t d0 d a1 a2} (hs : tablesIn [.regs, .log, .logSeq, .six, .evt, .out, .hlt] t = true) (hx : Dev.changesOnly t d0 d) : Dev.changesOnly t d0 (Dev.dumpTrigger d a1 a2) :=
  chg_step (Dev.dumpTrigger_chg _ _ _) hs hx

theorem Dev.losePort_chg : ∀ d a1, Dev.changesOnly [.tbn] d (Dev.losePort d a1) := by
  intro d a1
  unfold Dev.losePort
  repeat' first
    | (with_reducible assumption)
    | (with_reducible exact chg_refl _ _)
    | ((with_reducible apply Dev.setTbn_keep); exact rfl)
    | (with_reducible apply chg_ite)
    | (with_reducible apply chg_foldl)
    | (with_reducible apply chg_foldl_snd)
    | (with_reducible apply chg_ite_snd)
    | intro _ _ _
    | intro _
    | split
    | (dsimp -proj only)

theorem Dev.losePort_keep {t d0 d a1} (hs : tablesIn [.tbn] t = true) (hx : Dev.changesOnly t d0 d) : Dev.changesOnly t d0 (Dev.losePort d a1) :=
  chg_step (Dev.losePort_chg _ _) hs hx

theorem Dev.portHealth_chg : ∀ d a1, Dev.changesOnly [.regs, .log, .logSeq, .evt] d (Dev.portHealth d a1) := by
  intro d a1
  unfold Dev.portHealth
  repeat' first
    | (with_reducible assumption)
    | (with_reducible exact chg_refl _ _)
    | ((with_reducible apply Dev.setHealth_keep); exact rfl)
    | (with_reducible apply chg_ite)
    | (with_reducible apply chg_foldl)
    | (with_reducible apply chg_foldl_snd)
    | (with_reducible apply chg_ite_snd)
    | intro _ _ _
    | intro _
    | split
    | (dsimp -proj only)

theorem Dev.portHealth_keep {t d0 d a1} (hs : tablesIn [.regs, .log, .logSeq, .evt] t = true) (hx : Dev.changesOnly t d0 d) : Dev.changesOnly t d0 (Dev.portHealth d a1) :=
  chg_step (Dev.portHealth_chg _ _) hs hx

theorem Dev.pumpAll_chg : ∀ d, Dev.changesOnly [.regs, .fab, .tbn] d (Dev.pumpAll d) := by
  intro d
  unfold Dev.pumpAll
  repeat' first
    | (with_reducible assumption)
    | (with_reducible exact chg_refl _ _)
    | ((with_reducible apply Dev.pump_keep); exact rfl)
    | (with_reducible apply chg_ite)
    | (with_reducible apply chg_foldl)
    | (with_reducible apply chg_foldl_snd)
    | (with_reducible apply chg_ite_snd)
    | intro _ _ _
    | intro _
    | split
    | (dsimp -proj only)

theorem Dev.pumpAll_keep {t d0 d} (hs : tablesIn [.regs, .fab, .tbn] t = true) (hx : Dev.changesOnly t d0 d) : Dev.changesOnly t d0 (Dev.pumpAll d) :=
  chg_step (Dev.pumpAll_chg _) hs hx

theorem Dev.dropLink_chg : ∀ d a1 a2, Dev.changesOnly [.regs, .log, .logSeq, .evt, .fab, .tbn] d (Dev.dropLink d a1 a2) := by
  intro d a1 a2
  unfold Dev.dropLink
  repeat' first
    | (with_reducible assumption)
    | (with_reducible exact chg_refl _ _)
    | ((with_reducible apply Dev.incSat_keep); exact rfl)
    | ((with_reducible apply Dev.losePort_keep); exact rfl)
    | ((with_reducible apply Dev.portHealth_keep); exact rfl)
    | ((with_reducible apply Dev.pumpAll_keep); exact rfl)
    | ((with_reducible apply Dev.raise_keep); exact rfl)
    | ((with_reducible apply Dev.setPort_keep); exact rfl)
    | ((with_reducible apply Dev.setPortSt_keep); exact rfl)
    | ((with_reducible apply Dev.wr_keep); exact rfl)
    | (with_reducible apply chg_ite)
    | (with_reducible apply chg_foldl)
    | (with_reducible apply chg_foldl_snd)
    | (with_reducible apply chg_ite_snd)
    | intro _ _ _
    | intro _
    | split
    | (dsimp -proj only)

theorem Dev.dropLink_keep {t d0 d a1 a2} (hs : tablesIn [.regs, .log, .logSeq, .evt, .fab, .tbn] t = true) (hx : Dev.changesOnly t d0 d) : Dev.changesOnly t d0 (Dev.dropLink d a1 a2) :=
  chg_step (Dev.dropLink_chg _ _ _) hs hx

theorem Dev.shutdownLldp_chg : ∀ d a1, Dev.changesOnly [.regs, .out] d (Dev.shutdownLldp d a1) := by
  intro d a1
  unfold Dev.shutdownLldp
  repeat' first
    | (with_reducible assumption)
    | (with_reducible exact chg_refl _ _)
    | ((with_reducible apply Dev.emit_keep); exact rfl)
    | ((with_reducible apply Dev.inc_keep); exact rfl)
    | (with_reducible apply chg_ite)
    | (with_reducible apply chg_foldl)
    | (with_reducible apply chg_foldl_snd)
    | (with_reducible apply chg_ite_snd)
    | intro _ _ _
    | intro _
    | split
    | (dsimp -proj only)

theorem Dev.shutdownLldp_keep {t d0 d a1} (hs : tablesIn [.regs, .out] t = true) (hx : Dev.changesOnly t d0 d) : Dev.changesOnly t d0 (Dev.shutdownLldp d a1) :=
  chg_step (Dev.shutdownLldp_chg _ _) hs hx

theorem Dev.stopPort_chg : ∀ d a1, Dev.changesOnly [.regs, .log, .logSeq, .evt, .out, .fab, .tbn] d (Dev.stopPort d a1) := by
  intro d a1
  unfold Dev.stopPort
  repeat' first
    | (with_reducible assumption)
    | (with_reducible exact chg_refl _ _)
    | ((with_reducible apply Dev.dropLink_keep); exact rfl)
    | ((with_reducible apply Dev.shutdownLldp_keep); exact rfl)
    | (with_reducible apply chg_ite)
    | (with_reducible apply chg_foldl)
    | (with_reducible apply chg_foldl_snd)
    | (with_reducible apply chg_ite_snd)
    | intro _ _ _
    | intro _
    | split
    | (dsimp -proj only)

theorem Dev.stopPort_keep {t d0 d a1} (hs : tablesIn [.regs, .log, .logSeq, .evt, .out, .fab, .tbn] t = true) (hx : Dev.changesOnly t d0 d) : Dev.changesOnly t d0 (Dev.stopPort d a1) :=
  chg_step (Dev.stopPort_chg _ _) hs hx

theorem Dev.outOfService_chg : ∀ d a1, Dev.changesOnly [.regs, .log, .logSeq, .six, .evt, .out, .hlt, .fab, .tbn] d (Dev.outOfService d a1) := by
  intro d a1
  unfold Dev.outOfService
  repeat' first
    | (with_reducible assumption)
    | (with_reducible exact chg_refl _ _)
    | ((with_reducible apply Dev.dumpTrigger_keep); exact rfl)
    | ((with_reducible apply Dev.emit_keep); exact rfl)
    | ((with_reducible apply Dev.raise_keep); exact rfl)
    | ((with_reducible apply Dev.sendCtrl_keep); exact rfl)
    | ((with_reducible apply Dev.setPortSt_keep); exact rfl)
    | ((with_reducible apply Dev.stopPort_keep); exact rfl)
    | ((with_reducible apply Dev.wr_keep); exact rfl)
    | (with_reducible apply chg_ite)
    | (with_reducible apply chg_foldl)
    | (with_reducible apply chg_foldl_snd)
    | (with_reducible apply chg_ite_snd)
    | intro _ _ _
    | intro _
    | split
    | (dsimp -proj only)

theorem Dev.outOfService_keep {t d0 d a1} (hs : tablesIn [.regs, .log, .logSeq, .six, .evt, .out, .hlt, .fab, .tbn] t = true) (hx : Dev.changesOnly t d0 d) : Dev.changesOnly t d0 (Dev.outOfService d a1) :=
  chg_step (Dev.outOfService_chg _ _) hs hx

theorem Dev.d3Complete_chg : ∀ d, Dev.changesOnly [.regs, .log, .logSeq, .spr, .six, .evt, .out, .hlt, .fab, .tbn, .sec] d (Dev.d3Complete d) := by
  intro d
  unfold Dev.d3Complete
  repeat' first
    | (with_reducible assumption)
    | (with_reducible exact chg_refl _ _)
    | ((with_reducible apply Dev.outOfService_keep); exact rfl)
    | ((with_reducible apply Dev.raise_keep); exact rfl)
    | ((with_reducible apply Dev.setHlt_keep); exact rfl)
    | ((with_reducible apply Dev.setSec_keep); exact rfl)
    | ((with_reducible apply Dev.setSpr_keep); exact rfl)
    | ((with_reducible apply Dev.wr_keep); exact rfl)
    | (with_reducible apply chg_ite)
    | (with_reducible apply chg_foldl)
    | (with_reducible apply chg_foldl_snd)
    | (with_reducible apply chg_ite_snd)
    | intro _ _ _
    | intro _
    | split
    | (dsimp -proj only)

theorem Dev.d3Complete_keep {t d0 d} (hs : tablesIn [.regs, .log, .logSeq, .spr, .six, .evt, .out, .hlt, .fab, .tbn, .sec] t = true) (hx : Dev.changesOnly t d0 d) : Dev.changesOnly t d0 (Dev.d3Complete d) :=
  chg_step (Dev.d3Complete_chg _) hs hx

theorem Dev.d3Regs_chg : ∀ d, Dev.changesOnly [.regs] d (Dev.d3Regs d) := by
  intro d
  unfold Dev.d3Regs
  repeat' first
    | (with_reducible assumption)
    | (with_reducible exact chg_refl _ _)
    | ((with_reducible apply Dev.setRegs_keep); exact rfl)
    | (with_reducible apply chg_ite)
    | (with_reducible apply chg_foldl)
    | (with_reducible apply chg_foldl_snd)
    | (with_reducible apply chg_ite_snd)
    | intro _ _ _
    | intro _
    | split
    | (dsimp -proj only)

theorem Dev.d3Regs_keep {t d0 d} (hs : tablesIn [.regs] t = true) (hx : Dev.changesOnly t d0 d) : Dev.changesOnly t d0 (Dev.d3Regs d) :=
  chg_step (Dev.d3Regs_chg _) hs hx

theorem Dev.deleteObj_chg : ∀ d a1 a2, Dev.changesOnly [.regs, .t0, .t1, .six, .kqp, .out, .tir, .mkt, .col] d (Dev.deleteObj d a1 a2) := by
  intro d a1 a2
  unfold Dev.deleteObj
  repeat' first
    | (with_reducible assumption)
    | (with_reducible exact chg_refl _ _)
    | ((with_reducible apply Dev.clearWindows_keep); exact rfl)
    | ((with_reducible apply Dev.dropT0_keep); exact rfl)
    | ((with_reducible apply Dev.failWaits_keep); exact rfl)
    | ((with_reducible apply Dev.freeExtents_keep); exact rfl)
    | ((with_reducible apply Dev.moveDone_keep); exact rfl)
    | ((with_reducible apply Dev.setCol_keep); exact rfl)
    | ((with_reducible apply Dev.setObj_keep); exact rfl)
    | ((with_reducible apply Dev.setTir_keep); exact rfl)
    | ((with_reducible apply Dev.showTir_keep); exact rfl)
    | ((with_reducible apply Dev.sixRelease_keep); exact rfl)
    | ((with_reducible apply Dev.wr_keep); exact rfl)
    | (with_reducible apply chg_ite)
    | (with_reducible apply chg_foldl)
    | (with_reducible apply chg_foldl_snd)
    | (with_reducible apply chg_ite_snd)
    | intro _ _ _
    | intro _
    | split
    | (dsimp -proj only)

theorem Dev.deleteObj_keep {t d0 d a1 a2} (hs : tablesIn [.regs, .t0, .t1, .six, .kqp, .out, .tir, .mkt, .col] t = true) (hx : Dev.changesOnly t d0 d) : Dev.changesOnly t d0 (Dev.deleteObj d a1 a2) :=
  chg_step (Dev.deleteObj_chg _ _ _) hs hx

theorem Dev.rxBad_chg : ∀ d, Dev.changesOnly [.regs] d (Dev.rxBad d) := by
  intro d
  unfold Dev.rxBad
  repeat' first
    | (with_reducible assumption)
    | (with_reducible exact chg_refl _ _)
    | ((with_reducible apply Dev.incSat_keep); exact rfl)
    | (with_reducible apply chg_ite)
    | (with_reducible apply chg_foldl)
    | (with_reducible apply chg_foldl_snd)
    | (with_reducible apply chg_ite_snd)
    | intro _ _ _
    | intro _
    | split
    | (dsimp -proj only)

theorem Dev.rxBad_keep {t d0 d} (hs : tablesIn [.regs] t = true) (hx : Dev.changesOnly t d0 d) : Dev.changesOnly t d0 (Dev.rxBad d) :=
  chg_step (Dev.rxBad_chg _) hs hx

theorem Dev.staleMsg_chg : ∀ d a1, Dev.changesOnly [.regs] d (Dev.staleMsg d a1) := by
  intro d a1
  unfold Dev.staleMsg
  repeat' first
    | (with_reducible assumption)
    | (with_reducible exact chg_refl _ _)
    | ((with_reducible apply Dev.incSat_keep); exact rfl)
    | (with_reducible apply chg_ite)
    | (with_reducible apply chg_foldl)
    | (with_reducible apply chg_foldl_snd)
    | (with_reducible apply chg_ite_snd)
    | intro _ _ _
    | intro _
    | split
    | (dsimp -proj only)

theorem Dev.staleMsg_keep {t d0 d a1} (hs : tablesIn [.regs] t = true) (hx : Dev.changesOnly t d0 d) : Dev.changesOnly t d0 (Dev.staleMsg d a1) :=
  chg_step (Dev.staleMsg_chg _ _) hs hx

theorem Dev.takeAbort_chg : ∀ d a1, Dev.changesOnly [.regs, .t0, .t1, .log, .logSeq, .evt, .kqp, .tir, .mkt, .ldg, .acr, .col] d (Dev.takeAbort d a1) := by
  intro d a1
  unfold Dev.takeAbort
  repeat' first
    | (with_reducible assumption)
    | (with_reducible exact chg_refl _ _)
    | ((with_reducible apply Dev.abortAttempt_keep); exact rfl)
    | ((with_reducible apply Dev.setJob_keep); exact rfl)
    | ((with_reducible apply Dev.staleMsg_keep); exact rfl)
    | ((with_reducible apply Dev.supersede_keep); exact rfl)
    | ((with_reducible apply Dev.updNewest_keep); exact rfl)
    | (with_reducible apply chg_ite)
    | (with_reducible apply chg_foldl)
    | (with_reducible apply chg_foldl_snd)
    | (with_reducible apply chg_ite_snd)
    | intro _ _ _
    | intro _
    | split
    | (dsimp -proj only)

theorem Dev.takeAbort_keep {t d0 d a1} (hs : tablesIn [.regs, .t0, .t1, .log, .logSeq, .evt, .kqp, .tir, .mkt, .ldg, .acr, .col] t = true) (hx : Dev.changesOnly t d0 d) : Dev.changesOnly t d0 (Dev.takeAbort d a1) :=
  chg_step (Dev.takeAbort_chg _ _) hs hx

theorem Dev.startDrain_chg : ∀ d a1 a2, Dev.changesOnly [.regs, .log, .logSeq, .six, .evt, .out, .ldg, .fab, .tbn] d (Dev.startDrain d a1 a2) := by
  intro d a1 a2
  unfold Dev.startDrain
  repeat' first
    | (with_reducible assumption)
    | (with_reducible exact chg_refl _ _)
    | ((with_reducible apply Dev.newMsg_keep); exact rfl)
    | (refine Dev.newMsg_keep_eq (by with_reducible assumption) rfl ?_)
    | ((with_reducible apply Dev.post_keep); exact rfl)
    | ((with_reducible apply Dev.raiseLdg_keep); exact rfl)
    | ((with_reducible apply Dev.setFlag_keep); exact rfl)
    | ((with_reducible apply Dev.setJob_keep); exact rfl)
    | (refine Dev.sixAlloc_keep (by with_reducible assumption) rfl ?_)
    | (with_reducible apply chg_ite)
    | (with_reducible apply chg_foldl)
    | (with_reducible apply chg_foldl_snd)
    | (with_reducible apply chg_ite_snd)
    | intro _ _ _
    | intro _
    | split
    | (dsimp -proj only)

theorem Dev.startDrain_keep {t d0 d a1 a2} (hs : tablesIn [.regs, .log, .logSeq, .six, .evt, .out, .ldg, .fab, .tbn] t = true) (hx : Dev.changesOnly t d0 d) : Dev.changesOnly t d0 (Dev.startDrain d a1 a2) :=
  chg_step (Dev.startDrain_chg _ _ _) hs hx

theorem Dev.dueImage_chg : ∀ d a1 a2, Dev.changesOnly [.regs, .log, .logSeq, .six, .evt, .out, .ldg, .fab, .tbn] d (Dev.dueImage d a1 a2) := by
  intro d a1 a2
  unfold Dev.dueImage
  repeat' first
    | (with_reducible assumption)
    | (with_reducible exact chg_refl _ _)
    | ((with_reducible apply Dev.setFlag_keep); exact rfl)
    | ((with_reducible apply Dev.setJob_keep); exact rfl)
    | ((with_reducible apply Dev.startDrain_keep); exact rfl)
    | (with_reducible apply chg_ite)
    | (with_reducible apply chg_foldl)
    | (with_reducible apply chg_foldl_snd)
    | (with_reducible apply chg_ite_snd)
    | intro _ _ _
    | intro _
    | split
    | (dsimp -proj only)

theorem Dev.dueImage_keep {t d0 d a1 a2} (hs : tablesIn [.regs, .log, .logSeq, .six, .evt, .out, .ldg, .fab, .tbn] t = true) (hx : Dev.changesOnly t d0 d) : Dev.changesOnly t d0 (Dev.dueImage d a1 a2) :=
  chg_step (Dev.dueImage_chg _ _ _) hs hx

theorem Dev.flipBuffers_chg : ∀ d a1, Dev.changesOnly [.tir] d (Dev.flipBuffers d a1) := by
  intro d a1
  unfold Dev.flipBuffers
  repeat' first
    | (with_reducible assumption)
    | (with_reducible exact chg_refl _ _)
    | ((with_reducible apply Dev.setTir_keep); exact rfl)
    | (with_reducible apply chg_ite)
    | (with_reducible apply chg_foldl)
    | (with_reducible apply chg_foldl_snd)
    | (with_reducible apply chg_ite_snd)
    | intro _ _ _
    | intro _
    | split
    | (dsimp -proj only)

theorem Dev.flipBuffers_keep {t d0 d a1} (hs : tablesIn [.tir] t = true) (hx : Dev.changesOnly t d0 d) : Dev.changesOnly t d0 (Dev.flipBuffers d a1) :=
  chg_step (Dev.flipBuffers_chg _ _) hs hx

theorem Dev.scaleCommit_chg : ∀ d a1, Dev.changesOnly [.t0, .t1, .tir] d (Dev.scaleCommit d a1) := by
  intro d a1
  unfold Dev.scaleCommit
  repeat' first
    | (with_reducible assumption)
    | (with_reducible exact chg_refl _ _)
    | ((with_reducible apply Dev.eachEntry_keep); exact rfl)
    | ((with_reducible apply Dev.putEntry_keep); exact rfl)
    | (with_reducible apply chg_ite)
    | (with_reducible apply chg_foldl)
    | (with_reducible apply chg_foldl_snd)
    | (with_reducible apply chg_ite_snd)
    | intro _ _ _
    | intro _
    | split
    | (dsimp -proj only)

theorem Dev.scaleCommit_keep {t d0 d a1} (hs : tablesIn [.t0, .t1, .tir] t = true) (hx : Dev.changesOnly t d0 d) : Dev.changesOnly t d0 (Dev.scaleCommit d a1) :=
  chg_step (Dev.scaleCommit_chg _ _) hs hx

theorem Dev.flip_chg : ∀ d a1 a2, Dev.changesOnly [.regs, .t0, .t1, .log, .logSeq, .six, .evt, .out, .tir, .mkt, .ldg, .acr, .col, .fab, .tbn] d (Dev.flip d a1 a2) := by
  intro d a1 a2
  unfold Dev.flip
  repeat' first
    | (with_reducible assumption)
    | (with_reducible exact chg_refl _ _)
    | ((with_reducible apply Dev.commitGroups_keep); exact rfl)
    | ((with_reducible apply Dev.commitNoise_keep); exact rfl)
    | ((with_reducible apply Dev.dueImage_keep); exact rfl)
    | ((with_reducible apply Dev.flipBuffers_keep); exact rfl)
    | ((with_reducible apply Dev.scaleCommit_keep); exact rfl)
    | ((with_reducible apply Dev.setStepState_keep); exact rfl)
    | ((with_reducible apply Dev.stepOver_keep); exact rfl)
    | ((with_reducible apply Dev.updNewest_keep); exact rfl)
    | ((with_reducible apply Dev.wr_keep); exact rfl)
    | ((with_reducible apply Dev.wr64_keep); exact rfl)
    | (with_reducible apply chg_ite)
    | (with_reducible apply chg_foldl)
    | (with_reducible apply chg_foldl_snd)
    | (with_reducible apply chg_ite_snd)
    | intro _ _ _
    | intro _
    | split
    | (dsimp -proj only)

theorem Dev.flip_keep {t d0 d a1 a2} (hs : tablesIn [.regs, .t0, .t1, .log, .logSeq, .six, .evt, .out, .tir, .mkt, .ldg, .acr, .col, .fab, .tbn] t = true) (hx : Dev.changesOnly t d0 d) : Dev.changesOnly t d0 (Dev.flip d a1 a2) :=
  chg_step (Dev.flip_chg _ _ _) hs hx

theorem Dev.queryDecide_chg : ∀ d a1, Dev.changesOnly [.regs, .t0, .t1, .log, .logSeq, .six, .evt, .kqp, .out, .tir, .mkt, .ldg, .acr, .col, .fab, .tbn] d (Dev.queryDecide d a1) := by
  intro d a1
  unfold Dev.queryDecide
  repeat' first
    | (with_reducible assumption)
    | (with_reducible exact chg_refl _ _)
    | ((with_reducible apply Dev.decide__keep); exact rfl)
    | (with_reducible apply chg_ite)
    | (with_reducible apply chg_foldl)
    | (with_reducible apply chg_foldl_snd)
    | (with_reducible apply chg_ite_snd)
    | intro _ _ _
    | intro _
    | split
    | (dsimp -proj only)

theorem Dev.queryDecide_keep {t d0 d a1} (hs : tablesIn [.regs, .t0, .t1, .log, .logSeq, .six, .evt, .kqp, .out, .tir, .mkt, .ldg, .acr, .col, .fab, .tbn] t = true) (hx : Dev.changesOnly t d0 d) : Dev.changesOnly t d0 (Dev.queryDecide d a1) :=
  chg_step (Dev.queryDecide_chg _ _) hs hx

theorem Dev.takeAnswer_chg : ∀ d a1, Dev.changesOnly [.regs, .t0, .t1, .log, .logSeq, .six, .evt, .kqp, .out, .tir, .mkt, .ldg, .acr, .col, .fab, .tbn] d (Dev.takeAnswer d a1) := by
  intro d a1
  unfold Dev.takeAnswer
  repeat' first
    | (with_reducible assumption)
    | (with_reducible exact chg_refl _ _)
    | ((with_reducible apply Dev.abortAttempt_keep); exact rfl)
    | ((with_reducible apply Dev.decide__keep); exact rfl)
    | ((with_reducible apply Dev.flip_keep); exact rfl)
    | ((with_reducible apply Dev.queryDecide_keep); exact rfl)
    | ((with_reducible apply Dev.setJob_keep); exact rfl)
    | ((with_reducible apply Dev.staleMsg_keep); exact rfl)
    | (with_reducible apply chg_ite)
    | (with_reducible apply chg_foldl)
    | (with_reducible apply chg_foldl_snd)
    | (with_reducible apply chg_ite_snd)
    | intro _ _ _
    | intro _
    | split
    | (dsimp -proj only)

theorem Dev.takeAnswer_keep {t d0 d a1} (hs : tablesIn [.regs, .t0, .t1, .log, .logSeq, .six, .evt, .kqp, .out, .tir, .mkt, .ldg, .acr, .col, .fab, .tbn] t = true) (hx : Dev.changesOnly t d0 d) : Dev.changesOnly t d0 (Dev.takeAnswer d a1) :=
  chg_step (Dev.takeAnswer_chg _ _) hs hx

theorem Dev.lateFlip_chg : ∀ d a1 a2, Dev.changesOnly [.regs, .t0, .t1, .log, .logSeq, .six, .evt, .out, .tir, .mkt, .ldg, .acr, .col, .fab, .tbn] d (Dev.lateFlip d a1 a2) := by
  intro d a1 a2
  unfold Dev.lateFlip
  repeat' first
    | (with_reducible assumption)
    | (with_reducible exact chg_refl _ _)
    | ((with_reducible apply Dev.flip_keep); exact rfl)
    | ((with_reducible apply Dev.incSat_keep); exact rfl)
    | ((with_reducible apply Dev.raiseLdg_keep); exact rfl)
    | (with_reducible apply chg_ite)
    | (with_reducible apply chg_foldl)
    | (with_reducible apply chg_foldl_snd)
    | (with_reducible apply chg_ite_snd)
    | intro _ _ _
    | intro _
    | split
    | (dsimp -proj only)

theorem Dev.lateFlip_keep {t d0 d a1 a2} (hs : tablesIn [.regs, .t0, .t1, .log, .logSeq, .six, .evt, .out, .tir, .mkt, .ldg, .acr, .col, .fab, .tbn] t = true) (hx : Dev.changesOnly t d0 d) : Dev.changesOnly t d0 (Dev.lateFlip d a1 a2) :=
  chg_step (Dev.lateFlip_chg _ _ _) hs hx

theorem Dev.takeCommit_chg : ∀ d a1, Dev.changesOnly [.regs, .t0, .t1, .log, .logSeq, .six, .evt, .out, .tir, .mkt, .ldg, .acr, .col, .fab, .tbn] d (Dev.takeCommit d a1) := by
  intro d a1
  unfold Dev.takeCommit
  repeat' first
    | (with_reducible assumption)
    | (with_reducible exact chg_refl _ _)
    | ((with_reducible apply Dev.lateFlip_keep); exact rfl)
    | ((with_reducible apply Dev.setJob_keep); exact rfl)
    | ((with_reducible apply Dev.staleMsg_keep); exact rfl)
    | ((with_reducible apply Dev.updNewest_keep); exact rfl)
    | (with_reducible apply chg_ite)
    | (with_reducible apply chg_foldl)
    | (with_reducible apply chg_foldl_snd)
    | (with_reducible apply chg_ite_snd)
    | intro _ _ _
    | intro _
    | split
    | (dsimp -proj only)

theorem Dev.takeCommit_keep {t d0 d a1} (hs : tablesIn [.regs, .t0, .t1, .log, .logSeq, .six, .evt, .out, .tir, .mkt, .ldg, .acr, .col, .fab, .tbn] t = true) (hx : Dev.changesOnly t d0 d) : Dev.changesOnly t d0 (Dev.takeCommit d a1) :=
  chg_step (Dev.takeCommit_chg _ _) hs hx

theorem Dev.takeHold_chg : ∀ d a1, Dev.changesOnly [.regs, .ldg] d (Dev.takeHold d a1) := by
  intro d a1
  unfold Dev.takeHold
  repeat' first
    | (with_reducible assumption)
    | (with_reducible exact chg_refl _ _)
    | ((with_reducible apply Dev.setJob_keep); exact rfl)
    | ((with_reducible apply Dev.staleMsg_keep); exact rfl)
    | (with_reducible apply chg_ite)
    | (with_reducible apply chg_foldl)
    | (with_reducible apply chg_foldl_snd)
    | (with_reducible apply chg_ite_snd)
    | intro _ _ _
    | intro _
    | split
    | (dsimp -proj only)

theorem Dev.takeHold_keep {t d0 d a1} (hs : tablesIn [.regs, .ldg] t = true) (hx : Dev.changesOnly t d0 d) : Dev.changesOnly t d0 (Dev.takeHold d a1) :=
  chg_step (Dev.takeHold_chg _ _) hs hx

theorem Dev.parkJob_chg : ∀ d a1 a2, Dev.changesOnly [.regs, .log, .logSeq, .evt, .ldg] d (Dev.parkJob d a1 a2) := by
  intro d a1 a2
  unfold Dev.parkJob
  repeat' first
    | (with_reducible assumption)
    | (with_reducible exact chg_refl _ _)
    | ((with_reducible apply Dev.parkAtBoundary_keep); exact rfl)
    | ((with_reducible apply Dev.setJob_keep); exact rfl)
    | ((with_reducible apply Dev.setJobSt_keep); exact rfl)
    | (with_reducible apply chg_ite)
    | (with_reducible apply chg_foldl)
    | (with_reducible apply chg_foldl_snd)
    | (with_reducible apply chg_ite_snd)
    | intro _ _ _
    | intro _
    | split
    | (dsimp -proj only)

theorem Dev.parkJob_keep {t d0 d a1 a2} (hs : tablesIn [.regs, .log, .logSeq, .evt, .ldg] t = true) (hx : Dev.changesOnly t d0 d) : Dev.changesOnly t d0 (Dev.parkJob d a1 a2) :=
  chg_step (Dev.parkJob_chg _ _ _) hs hx

theorem Dev.takePark_chg : ∀ d a1, Dev.changesOnly [.regs, .log, .logSeq, .evt, .ldg] d (Dev.takePark d a1) := by
  intro d a1
  unfold Dev.takePark
  repeat' first
    | (with_reducible assumption)
    | (with_reducible exact chg_refl _ _)
    | ((with_reducible apply Dev.parkJob_keep); exact rfl)
    | (with_reducible apply chg_ite)
    | (with_reducible apply chg_foldl)
    | (with_reducible apply chg_foldl_snd)
    | (with_reducible apply chg_ite_snd)
    | intro _ _ _
    | intro _
    | split
    | (dsimp -proj only)

theorem Dev.takePark_keep {t d0 d a1} (hs : tablesIn [.regs, .log, .logSeq, .evt, .ldg] t = true) (hx : Dev.changesOnly t d0 d) : Dev.changesOnly t d0 (Dev.takePark d a1) :=
  chg_step (Dev.takePark_chg _ _) hs hx

theorem Dev.showCoord_chg : ∀ d a1, Dev.changesOnly [.regs] d (Dev.showCoord d a1) := by
  intro d a1
  unfold Dev.showCoord
  repeat' first
    | (with_reducible assumption)
    | (with_reducible exact chg_refl _ _)
    | ((with_reducible apply Dev.setFlag_keep); exact rfl)
    | (with_reducible apply chg_ite)
    | (with_reducible apply chg_foldl)
    | (with_reducible apply chg_foldl_snd)
    | (with_reducible apply chg_ite_snd)
    | intro _ _ _
    | intro _
    | split
    | (dsimp -proj only)

theorem Dev.showCoord_keep {t d0 d a1} (hs : tablesIn [.regs] t = true) (hx : Dev.changesOnly t d0 d) : Dev.changesOnly t d0 (Dev.showCoord d a1) :=
  chg_step (Dev.showCoord_chg _ _) hs hx

theorem Dev.takeQuery_chg : ∀ d a1, Dev.changesOnly [.regs, .log, .logSeq, .six, .evt, .out, .ldg, .fab, .tbn] d (Dev.takeQuery d a1) := by
  intro d a1
  unfold Dev.takeQuery
  repeat' first
    | (with_reducible assumption)
    | (with_reducible exact chg_refl _ _)
    | ((with_reducible apply Dev.sendLdg_keep); exact rfl)
    | ((with_reducible apply Dev.setJob_keep); exact rfl)
    | ((with_reducible apply Dev.showCoord_keep); exact rfl)
    | ((with_reducible apply Dev.staleMsg_keep); exact rfl)
    | (with_reducible apply chg_ite)
    | (with_reducible apply chg_foldl)
    | (with_reducible apply chg_foldl_snd)
    | (with_reducible apply chg_ite_snd)
    | intro _ _ _
    | intro _
    | split
    | (dsimp -proj only)

theorem Dev.takeQuery_keep {t d0 d a1} (hs : tablesIn [.regs, .log, .logSeq, .six, .evt, .out, .ldg, .fab, .tbn] t = true) (hx : Dev.changesOnly t d0 d) : Dev.changesOnly t d0 (Dev.takeQuery d a1) :=
  chg_step (Dev.takeQuery_chg _ _) hs hx

theorem Dev.takeStall_chg : ∀ d a1, Dev.changesOnly [.regs, .ldg] d (Dev.takeStall d a1) := by
  intro d a1
  unfold Dev.takeStall
  repeat' first
    | (with_reducible assumption)
    | (with_reducible exact chg_refl _ _)
    | ((with_reducible apply Dev.setJob_keep); exact rfl)
    | ((with_reducible apply Dev.staleMsg_keep); exact rfl)
    | (with_reducible apply chg_ite)
    | (with_reducible apply chg_foldl)
    | (with_reducible apply chg_foldl_snd)
    | (with_reducible apply chg_ite_snd)
    | intro _ _ _
    | intro _
    | split
    | (dsimp -proj only)

theorem Dev.takeStall_keep {t d0 d a1} (hs : tablesIn [.regs, .ldg] t = true) (hx : Dev.changesOnly t d0 d) : Dev.changesOnly t d0 (Dev.takeStall d a1) :=
  chg_step (Dev.takeStall_chg _ _) hs hx

theorem Dev.unparkRank_chg : ∀ d a1 a2, Dev.changesOnly [.regs, .ldg] d (Dev.unparkRank d a1 a2) := by
  intro d a1 a2
  unfold Dev.unparkRank
  repeat' first
    | (with_reducible assumption)
    | (with_reducible exact chg_refl _ _)
    | ((with_reducible apply Dev.setJob_keep); exact rfl)
    | ((with_reducible apply Dev.setJobSt_keep); exact rfl)
    | (with_reducible apply chg_ite)
    | (with_reducible apply chg_foldl)
    | (with_reducible apply chg_foldl_snd)
    | (with_reducible apply chg_ite_snd)
    | intro _ _ _
    | intro _
    | split
    | (dsimp -proj only)

theorem Dev.unparkRank_keep {t d0 d a1 a2} (hs : tablesIn [.regs, .ldg] t = true) (hx : Dev.changesOnly t d0 d) : Dev.changesOnly t d0 (Dev.unparkRank d a1 a2) :=
  chg_step (Dev.unparkRank_chg _ _ _) hs hx

theorem Dev.takeUnpark_chg : ∀ d a1, Dev.changesOnly [.regs, .ldg] d (Dev.takeUnpark d a1) := by
  intro d a1
  unfold Dev.takeUnpark
  repeat' first
    | (with_reducible assumption)
    | (with_reducible exact chg_refl _ _)
    | ((with_reducible apply Dev.unparkRank_keep); exact rfl)
    | (with_reducible apply chg_ite)
    | (with_reducible apply chg_foldl)
    | (with_reducible apply chg_foldl_snd)
    | (with_reducible apply chg_ite_snd)
    | intro _ _ _
    | intro _
    | split
    | (dsimp -proj only)

theorem Dev.takeUnpark_keep {t d0 d a1} (hs : tablesIn [.regs, .ldg] t = true) (hx : Dev.changesOnly t d0 d) : Dev.changesOnly t d0 (Dev.takeUnpark d a1) :=
  chg_step (Dev.takeUnpark_chg _ _) hs hx

theorem Dev.takeVote_chg : ∀ d a1, Dev.changesOnly [.regs, .t0, .t1, .log, .logSeq, .six, .evt, .kqp, .out, .tir, .mkt, .ldg, .acr, .col, .fab, .tbn] d (Dev.takeVote d a1) := by
  intro d a1
  unfold Dev.takeVote
  repeat' first
    | (with_reducible assumption)
    | (with_reducible exact chg_refl _ _)
    | ((with_reducible apply Dev.coordDecide_keep); exact rfl)
    | ((with_reducible apply Dev.setJob_keep); exact rfl)
    | ((with_reducible apply Dev.staleMsg_keep); exact rfl)
    | ((with_reducible apply Dev.startBound_keep); exact rfl)
    | (with_reducible apply chg_ite)
    | (with_reducible apply chg_foldl)
    | (with_reducible apply chg_foldl_snd)
    | (with_reducible apply chg_ite_snd)
    | intro _ _ _
    | intro _
    | split
    | (dsimp -proj only)

theorem Dev.takeVote_keep {t d0 d a1} (hs : tablesIn [.regs, .t0, .t1, .log, .logSeq, .six, .evt, .kqp, .out, .tir, .mkt, .ldg, .acr, .col, .fab, .tbn] t = true) (hx : Dev.changesOnly t d0 d) : Dev.changesOnly t d0 (Dev.takeVote d a1) :=
  chg_step (Dev.takeVote_chg _ _) hs hx

theorem Dev.ledgerCtrl_chg : ∀ d a1, Dev.changesOnly [.regs, .t0, .t1, .log, .logSeq, .six, .evt, .kqp, .out, .tir, .mkt, .ldg, .acr, .col, .fab, .tbn] d (Dev.ledgerCtrl d a1) := by
  intro d a1
  unfold Dev.ledgerCtrl
  repeat' first
    | (with_reducible assumption)
    | (with_reducible exact chg_refl _ _)
    | ((with_reducible apply Dev.rxBad_keep); exact rfl)
    | ((with_reducible apply Dev.takeAbort_keep); exact rfl)
    | ((with_reducible apply Dev.takeAnswer_keep); exact rfl)
    | ((with_reducible apply Dev.takeCommit_keep); exact rfl)
    | ((with_reducible apply Dev.takeHold_keep); exact rfl)
    | ((with_reducible apply Dev.takePark_keep); exact rfl)
    | ((with_reducible apply Dev.takeQuery_keep); exact rfl)
    | ((with_reducible apply Dev.takeStall_keep); exact rfl)
    | ((with_reducible apply Dev.takeUnpark_keep); exact rfl)
    | ((with_reducible apply Dev.takeVote_keep); exact rfl)
    | (with_reducible apply chg_ite)
    | (with_reducible apply chg_foldl)
    | (with_reducible apply chg_foldl_snd)
    | (with_reducible apply chg_ite_snd)
    | intro _ _ _
    | intro _
    | split
    | (dsimp -proj only)

theorem Dev.ledgerCtrl_keep {t d0 d a1} (hs : tablesIn [.regs, .t0, .t1, .log, .logSeq, .six, .evt, .kqp, .out, .tir, .mkt, .ldg, .acr, .col, .fab, .tbn] t = true) (hx : Dev.changesOnly t d0 d) : Dev.changesOnly t d0 (Dev.ledgerCtrl d a1) :=
  chg_step (Dev.ledgerCtrl_chg _ _) hs hx

theorem Dev.takeBeacon_chg : ∀ d a1, Dev.changesOnly [.regs, .wset, .col] d (Dev.takeBeacon d a1) := by
  intro d a1
  unfold Dev.takeBeacon
  repeat' first
    | (with_reducible assumption)
    | (with_reducible exact chg_refl _ _)
    | ((with_reducible apply Dev.rxBad_keep); exact rfl)
    | ((with_reducible apply Dev.setCol_keep); exact rfl)
    | ((with_reducible apply Dev.setWset_keep); exact rfl)
    | (with_reducible apply chg_ite)
    | (with_reducible apply chg_foldl)
    | (with_reducible apply chg_foldl_snd)
    | (with_reducible apply chg_ite_snd)
    | intro _ _ _
    | intro _
    | split
    | (dsimp -proj only)

theorem Dev.takeBeacon_keep {t d0 d a1} (hs : tablesIn [.regs, .wset, .col] t = true) (hx : Dev.changesOnly t d0 d) : Dev.changesOnly t d0 (Dev.takeBeacon d a1) :=
  chg_step (Dev.takeBeacon_chg _ _) hs hx

theorem Dev.takeHb_chg : ∀ d a1, Dev.changesOnly [.regs, .t0, .t1, .log, .logSeq, .six, .evt, .kqp, .out, .tir, .mkt, .ldg, .wset, .acr, .col, .fab, .tbn] d (Dev.takeHb d a1) := by
  intro d a1
  unfold Dev.takeHb
  repeat' first
    | (with_reducible assumption)
    | (with_reducible exact chg_refl _ _)
    | ((with_reducible apply Dev.changeRec_keep); exact rfl)
    | ((with_reducible apply Dev.rxBad_keep); exact rfl)
    | ((with_reducible apply Dev.setCol_keep); exact rfl)
    | (with_reducible apply chg_ite)
    | (with_reducible apply chg_foldl)
    | (with_reducible apply chg_foldl_snd)
    | (with_reducible apply chg_ite_snd)
    | intro _ _ _
    | intro _
    | split
    | (dsimp -proj only)

theorem Dev.takeHb_keep {t d0 d a1} (hs : tablesIn [.regs, .t0, .t1, .log, .logSeq, .six, .evt, .kqp, .out, .tir, .mkt, .ldg, .wset, .acr, .col, .fab, .tbn] t = true) (hx : Dev.changesOnly t d0 d) : Dev.changesOnly t d0 (Dev.takeHb d a1) :=
  chg_step (Dev.takeHb_chg _ _) hs hx

theorem Dev.takeJoin_chg : ∀ d a1, Dev.changesOnly [.regs, .t0, .t1, .log, .logSeq, .six, .evt, .kqp, .free, .out, .tir, .mkt, .ldg, .wset, .acr, .col, .fab, .tbn] d (Dev.takeJoin d a1) := by
  intro d a1
  unfold Dev.takeJoin
  repeat' first
    | (with_reducible assumption)
    | (with_reducible exact chg_refl _ _)
    | ((with_reducible apply Dev.enrol_keep); exact rfl)
    | ((with_reducible apply Dev.drawIndex_keep); exact rfl)
    | (refine Dev.drawIndex_keep_eq (by with_reducible assumption) rfl ?_)
    | ((with_reducible apply Dev.rxBad_keep); exact rfl)
    | ((with_reducible apply Dev.sendCtrl_keep); exact rfl)
    | ((with_reducible apply Dev.setCol_keep); exact rfl)
    | (with_reducible apply chg_ite)
    | (with_reducible apply chg_foldl)
    | (with_reducible apply chg_foldl_snd)
    | (with_reducible apply chg_ite_snd)
    | intro _ _ _
    | intro _
    | split
    | (dsimp -proj only)

theorem Dev.takeJoin_keep {t d0 d a1} (hs : tablesIn [.regs, .t0, .t1, .log, .logSeq, .six, .evt, .kqp, .free, .out, .tir, .mkt, .ldg, .wset, .acr, .col, .fab, .tbn] t = true) (hx : Dev.changesOnly t d0 d) : Dev.changesOnly t d0 (Dev.takeJoin d a1) :=
  chg_step (Dev.takeJoin_chg _ _) hs hx

theorem Dev.takeKeeper_chg : ∀ d a1, Dev.changesOnly [.regs, .t0, .t1, .log, .logSeq, .six, .evt, .kqp, .out, .tir, .mkt, .ldg, .wset, .acr, .col, .fab, .tbn] d (Dev.takeKeeper d a1) := by
  intro d a1
  unfold Dev.takeKeeper
  repeat' first
    | (with_reducible assumption)
    | (with_reducible exact chg_refl _ _)
    | ((with_reducible apply Dev.applyEntry_keep); exact rfl)
    | ((with_reducible apply Dev.askRoster_keep); exact rfl)
    | ((with_reducible apply Dev.rosterChanged_keep); exact rfl)
    | ((with_reducible apply Dev.rxBad_keep); exact rfl)
    | (with_reducible apply chg_ite)
    | (with_reducible apply chg_foldl)
    | (with_reducible apply chg_foldl_snd)
    | (with_reducible apply chg_ite_snd)
    | intro _ _ _
    | intro _
    | split
    | (dsimp -proj only)

theorem Dev.takeKeeper_keep {t d0 d a1} (hs : tablesIn [.regs, .t0, .t1, .log, .logSeq, .six, .evt, .kqp, .out, .tir, .mkt, .ldg, .wset, .acr, .col, .fab, .tbn] t = true) (hx : Dev.changesOnly t d0 d) : Dev.changesOnly t d0 (Dev.takeKeeper d a1) :=
  chg_step (Dev.takeKeeper_chg _ _) hs hx

theorem Dev.removeDevice_chg : ∀ d a1 a2, Dev.changesOnly [.regs, .t0, .t1, .log, .logSeq, .six, .evt, .kqp, .out, .tir, .mkt, .ldg, .wset, .acr, .col, .fab, .tbn] d (Dev.removeDevice d a1 a2) := by
  intro d a1 a2
  unfold Dev.removeDevice
  repeat' first
    | (with_reducible assumption)
    | (with_reducible exact chg_refl _ _)
    | ((with_reducible apply Dev.keeperChange_keep); exact rfl)
    | ((with_reducible apply Dev.raise_keep); exact rfl)
    | ((with_reducible apply Dev.setCol_keep); exact rfl)
    | ((with_reducible apply Dev.wakeSpare_keep); exact rfl)
    | (with_reducible apply chg_ite)
    | (with_reducible apply chg_foldl)
    | (with_reducible apply chg_foldl_snd)
    | (with_reducible apply chg_ite_snd)
    | intro _ _ _
    | intro _
    | split
    | (dsimp -proj only)

theorem Dev.removeDevice_keep {t d0 d a1 a2} (hs : tablesIn [.regs, .t0, .t1, .log, .logSeq, .six, .evt, .kqp, .out, .tir, .mkt, .ldg, .wset, .acr, .col, .fab, .tbn] t = true) (hx : Dev.changesOnly t d0 d) : Dev.changesOnly t d0 (Dev.removeDevice d a1 a2) :=
  chg_step (Dev.removeDevice_chg _ _ _) hs hx

theorem Dev.wantRemoved_chg : ∀ d a1 a2, Dev.changesOnly [.regs, .t0, .t1, .log, .logSeq, .six, .evt, .kqp, .out, .tir, .mkt, .ldg, .wset, .acr, .col, .fab, .tbn] d (Dev.wantRemoved d a1 a2) := by
  intro d a1 a2
  unfold Dev.wantRemoved
  repeat' first
    | (with_reducible assumption)
    | (with_reducible exact chg_refl _ _)
    | ((with_reducible apply Dev.colAssist_keep); exact rfl)
    | ((with_reducible apply Dev.removeDevice_keep); exact rfl)
    | (with_reducible apply chg_ite)
    | (with_reducible apply chg_foldl)
    | (with_reducible apply chg_foldl_snd)
    | (with_reducible apply chg_ite_snd)
    | intro _ _ _
    | intro _
    | split
    | (dsimp -proj only)

theorem Dev.wantRemoved_keep {t d0 d a1 a2} (hs : tablesIn [.regs, .t0, .t1, .log, .logSeq, .six, .evt, .kqp, .out, .tir, .mkt, .ldg, .wset, .acr, .col, .fab, .tbn] t = true) (hx : Dev.changesOnly t d0 d) : Dev.changesOnly t d0 (Dev.wantRemoved d a1 a2) :=
  chg_step (Dev.wantRemoved_chg _ _ _) hs hx

theorem Dev.takeLeave_chg : ∀ d a1, Dev.changesOnly [.regs, .t0, .t1, .log, .logSeq, .six, .evt, .kqp, .out, .tir, .mkt, .ldg, .wset, .acr, .col, .fab, .tbn] d (Dev.takeLeave d a1) := by
  intro d a1
  unfold Dev.takeLeave
  repeat' first
    | (with_reducible assumption)
    | (with_reducible exact chg_refl _ _)
    | ((with_reducible apply Dev.changeRec_keep); exact rfl)
    | ((with_reducible apply Dev.rxBad_keep); exact rfl)
    | ((with_reducible apply Dev.wantRemoved_keep); exact rfl)
    | (with_reducible apply chg_ite)
    | (with_reducible apply chg_foldl)
    | (with_reducible apply chg_foldl_snd)
    | (with_reducible apply chg_ite_snd)
    | intro _ _ _
    | intro _
    | split
    | (dsimp -proj only)

theorem Dev.takeLeave_keep {t d0 d a1} (hs : tablesIn [.regs, .t0, .t1, .log, .logSeq, .six, .evt, .kqp, .out, .tir, .mkt, .ldg, .wset, .acr, .col, .fab, .tbn] t = true) (hx : Dev.changesOnly t d0 d) : Dev.changesOnly t d0 (Dev.takeLeave d a1) :=
  chg_step (Dev.takeLeave_chg _ _) hs hx

theorem Dev.takeQuote_chg : ∀ d a1, Dev.changesOnly [.regs, .t0, .t1, .log, .logSeq, .six, .evt, .kqp, .out, .tir, .mkt, .ldg, .wset, .acr, .col, .fab, .tbn] d (Dev.takeQuote d a1) := by
  intro d a1
  unfold Dev.takeQuote
  repeat' first
    | (with_reducible assumption)
    | (with_reducible exact chg_refl _ _)
    | ((with_reducible apply Dev.enrol_keep); exact rfl)
    | ((with_reducible apply Dev.raise_keep); exact rfl)
    | ((with_reducible apply Dev.rxBad_keep); exact rfl)
    | ((with_reducible apply Dev.sendCtrl_keep); exact rfl)
    | ((with_reducible apply Dev.setCol_keep); exact rfl)
    | (with_reducible apply chg_ite)
    | (with_reducible apply chg_foldl)
    | (with_reducible apply chg_foldl_snd)
    | (with_reducible apply chg_ite_snd)
    | intro _ _ _
    | intro _
    | split
    | (dsimp -proj only)

theorem Dev.takeQuote_keep {t d0 d a1} (hs : tablesIn [.regs, .t0, .t1, .log, .logSeq, .six, .evt, .kqp, .out, .tir, .mkt, .ldg, .wset, .acr, .col, .fab, .tbn] t = true) (hx : Dev.changesOnly t d0 d) : Dev.changesOnly t d0 (Dev.takeQuote d a1) :=
  chg_step (Dev.takeQuote_chg _ _) hs hx

theorem Dev.takeQuoteReq_chg : ∀ d a1, Dev.changesOnly [.regs, .log, .logSeq, .six, .evt, .out, .fab, .tbn] d (Dev.takeQuoteReq d a1) := by
  intro d a1
  unfold Dev.takeQuoteReq
  repeat' first
    | (with_reducible assumption)
    | (with_reducible exact chg_refl _ _)
    | ((with_reducible apply Dev.rxBad_keep); exact rfl)
    | ((with_reducible apply Dev.sendCtrl_keep); exact rfl)
    | (with_reducible apply chg_ite)
    | (with_reducible apply chg_foldl)
    | (with_reducible apply chg_foldl_snd)
    | (with_reducible apply chg_ite_snd)
    | intro _ _ _
    | intro _
    | split
    | (dsimp -proj only)

theorem Dev.takeQuoteReq_keep {t d0 d a1} (hs : tablesIn [.regs, .log, .logSeq, .six, .evt, .out, .fab, .tbn] t = true) (hx : Dev.changesOnly t d0 d) : Dev.changesOnly t d0 (Dev.takeQuoteReq d a1) :=
  chg_step (Dev.takeQuoteReq_chg _ _) hs hx

theorem Dev.takeRed_chg : ∀ d a1 a2, Dev.changesOnly [.regs, .t0, .t1, .log, .logSeq, .six, .evt, .kqp, .out, .tir, .mkt, .ldg, .acr, .col, .fab, .tbn] d (Dev.takeRed d a1 a2) := by
  intro d a1 a2
  unfold Dev.takeRed
  repeat' first
    | (with_reducible assumption)
    | (with_reducible exact chg_refl _ _)
    | ((with_reducible apply Dev.abortAttempt_keep); exact rfl)
    | ((with_reducible apply Dev.decide__keep); exact rfl)
    | ((with_reducible apply Dev.incSat_keep); exact rfl)
    | ((with_reducible apply Dev.raise_keep); exact rfl)
    | ((with_reducible apply Dev.sendCtrl_keep); exact rfl)
    | ((with_reducible apply Dev.setJob_keep); exact rfl)
    | (with_reducible apply chg_ite)
    | (with_reducible apply chg_foldl)
    | (with_reducible apply chg_foldl_snd)
    | (with_reducible apply chg_ite_snd)
    | intro _ _ _
    | intro _
    | split
    | (dsimp -proj only)

theorem Dev.takeRed_keep {t d0 d a1 a2} (hs : tablesIn [.regs, .t0, .t1, .log, .logSeq, .six, .evt, .kqp, .out, .tir, .mkt, .ldg, .acr, .col, .fab, .tbn] t = true) (hx : Dev.changesOnly t d0 d) : Dev.changesOnly t d0 (Dev.takeRed d a1 a2) :=
  chg_step (Dev.takeRed_chg _ _ _) hs hx

theorem Dev.takeRoster_chg : ∀ d a1, Dev.changesOnly [.regs, .t0, .t1, .log, .logSeq, .six, .evt, .kqp, .out, .tir, .mkt, .ldg, .wset, .acr, .col, .fab, .tbn] d (Dev.takeRoster d a1) := by
  intro d a1
  unfold Dev.takeRoster
  repeat' first
    | (with_reducible assumption)
    | (with_reducible exact chg_refl _ _)
    | ((with_reducible apply Dev.applyEntry_keep); exact rfl)
    | ((with_reducible apply Dev.applyFull_keep); exact rfl)
    | ((with_reducible apply Dev.askRoster_keep); exact rfl)
    | ((with_reducible apply Dev.raise_keep); exact rfl)
    | ((with_reducible apply Dev.rosterChanged_keep); exact rfl)
    | ((with_reducible apply Dev.rxBad_keep); exact rfl)
    | ((with_reducible apply Dev.sendLive_keep); exact rfl)
    | ((with_reducible apply Dev.setCol_keep); exact rfl)
    | (with_reducible apply chg_ite)
    | (with_reducible apply chg_foldl)
    | (with_reducible apply chg_foldl_snd)
    | (with_reducible apply chg_ite_snd)
    | intro _ _ _
    | intro _
    | split
    | (dsimp -proj only)

theorem Dev.takeRoster_keep {t d0 d a1} (hs : tablesIn [.regs, .t0, .t1, .log, .logSeq, .six, .evt, .kqp, .out, .tir, .mkt, .ldg, .wset, .acr, .col, .fab, .tbn] t = true) (hx : Dev.changesOnly t d0 d) : Dev.changesOnly t d0 (Dev.takeRoster d a1) :=
  chg_step (Dev.takeRoster_chg _ _) hs hx

theorem Dev.takeUnreach_chg : ∀ d a1, Dev.changesOnly [.regs, .t0, .t1, .log, .logSeq, .six, .evt, .kqp, .out, .tir, .mkt, .ldg, .wset, .acr, .col, .fab, .tbn] d (Dev.takeUnreach d a1) := by
  intro d a1
  unfold Dev.takeUnreach
  repeat' first
    | (with_reducible assumption)
    | (with_reducible exact chg_refl _ _)
    | ((with_reducible apply Dev.rxBad_keep); exact rfl)
    | ((with_reducible apply Dev.wantRemoved_keep); exact rfl)
    | (with_reducible apply chg_ite)
    | (with_reducible apply chg_foldl)
    | (with_reducible apply chg_foldl_snd)
    | (with_reducible apply chg_ite_snd)
    | intro _ _ _
    | intro _
    | split
    | (dsimp -proj only)

theorem Dev.takeUnreach_keep {t d0 d a1} (hs : tablesIn [.regs, .t0, .t1, .log, .logSeq, .six, .evt, .kqp, .out, .tir, .mkt, .ldg, .wset, .acr, .col, .fab, .tbn] t = true) (hx : Dev.changesOnly t d0 d) : Dev.changesOnly t d0 (Dev.takeUnreach d a1) :=
  chg_step (Dev.takeUnreach_chg _ _) hs hx

theorem Dev.takeWakeDone_chg : ∀ d a1, Dev.changesOnly [.regs, .col] d (Dev.takeWakeDone d a1) := by
  intro d a1
  unfold Dev.takeWakeDone
  repeat' first
    | (with_reducible assumption)
    | (with_reducible exact chg_refl _ _)
    | ((with_reducible apply Dev.dueWakeDone_keep); exact rfl)
    | ((with_reducible apply Dev.rxBad_keep); exact rfl)
    | ((with_reducible apply Dev.setCol_keep); exact rfl)
    | (with_reducible apply chg_ite)
    | (with_reducible apply chg_foldl)
    | (with_reducible apply chg_foldl_snd)
    | (with_reducible apply chg_ite_snd)
    | intro _ _ _
    | intro _
    | split
    | (dsimp -proj only)

theorem Dev.takeWakeDone_keep {t d0 d a1} (hs : tablesIn [.regs, .col] t = true) (hx : Dev.changesOnly t d0 d) : Dev.changesOnly t d0 (Dev.takeWakeDone d a1) :=
  chg_step (Dev.takeWakeDone_chg _ _) hs hx

theorem Dev.deliver_chg : ∀ d a1 a2, Dev.changesOnly [.regs, .t0, .t1, .log, .logSeq, .six, .evt, .kqp, .free, .out, .tir, .mkt, .ldg, .wset, .acr, .col, .fab, .tbn] d (Dev.deliver d a1 a2) := by
  intro d a1 a2
  unfold Dev.deliver
  repeat' first
    | (with_reducible assumption)
    | (with_reducible exact chg_refl _ _)
    | ((with_reducible apply Dev.ledgerCtrl_keep); exact rfl)
    | ((with_reducible apply Dev.rxBad_keep); exact rfl)
    | ((with_reducible apply Dev.takeBeacon_keep); exact rfl)
    | ((with_reducible apply Dev.takeHb_keep); exact rfl)
    | ((with_reducible apply Dev.takeJoin_keep); exact rfl)
    | ((with_reducible apply Dev.takeKeeper_keep); exact rfl)
    | ((with_reducible apply Dev.takeLeave_keep); exact rfl)
    | ((with_reducible apply Dev.takeQuote_keep); exact rfl)
    | ((with_reducible apply Dev.takeQuoteReq_keep); exact rfl)
    | ((with_reducible apply Dev.takeRed_keep); exact rfl)
    | ((with_reducible apply Dev.takeRoster_keep); exact rfl)
    | ((with_reducible apply Dev.takeUnreach_keep); exact rfl)
    | ((with_reducible apply Dev.takeWakeDone_keep); exact rfl)
    | (with_reducible apply chg_ite)
    | (with_reducible apply chg_foldl)
    | (with_reducible apply chg_foldl_snd)
    | (with_reducible apply chg_ite_snd)
    | intro _ _ _
    | intro _
    | split
    | (dsimp -proj only)

theorem Dev.deliver_keep {t d0 d a1 a2} (hs : tablesIn [.regs, .t0, .t1, .log, .logSeq, .six, .evt, .kqp, .free, .out, .tir, .mkt, .ldg, .wset, .acr, .col, .fab, .tbn] t = true) (hx : Dev.changesOnly t d0 d) : Dev.changesOnly t d0 (Dev.deliver d a1 a2) :=
  chg_step (Dev.deliver_chg _ _ _) hs hx

theorem Dev.descRejected_chg : ∀ d a1, Dev.changesOnly [.regs, .log, .logSeq, .evt, .kqp] d (Dev.descRejected d a1) := by
  intro d a1
  unfold Dev.descRejected
  repeat' first
    | (with_reducible assumption)
    | (with_reducible exact chg_refl _ _)
    | ((with_reducible apply Dev.failPart_keep); exact rfl)
    | ((with_reducible apply Dev.raise_keep); exact rfl)
    | ((with_reducible apply Dev.wr_keep); exact rfl)
    | (with_reducible apply chg_ite)
    | (with_reducible apply chg_foldl)
    | (with_reducible apply chg_foldl_snd)
    | (with_reducible apply chg_ite_snd)
    | intro _ _ _
    | intro _
    | split
    | (dsimp -proj only)

theorem Dev.descRejected_keep {t d0 d a1} (hs : tablesIn [.regs, .log, .logSeq, .evt, .kqp] t = true) (hx : Dev.changesOnly t d0 d) : Dev.changesOnly t d0 (Dev.descRejected d a1) :=
  chg_step (Dev.descRejected_chg _ _) hs hx

theorem Dev.dirtyLine_chg : ∀ d a1, Dev.changesOnly [.tir] d (Dev.dirtyLine d a1) := by
  intro d a1
  unfold Dev.dirtyLine
  repeat' first
    | (with_reducible assumption)
    | (with_reducible exact chg_refl _ _)
    | ((with_reducible apply Dev.setUnit_keep); exact rfl)
    | (with_reducible apply chg_ite)
    | (with_reducible apply chg_foldl)
    | (with_reducible apply chg_foldl_snd)
    | (with_reducible apply chg_ite_snd)
    | intro _ _ _
    | intro _
    | split
    | (dsimp -proj only)

theorem Dev.dirtyLine_keep {t d0 d a1} (hs : tablesIn [.tir] t = true) (hx : Dev.changesOnly t d0 d) : Dev.changesOnly t d0 (Dev.dirtyLine d a1) :=
  chg_step (Dev.dirtyLine_chg _ _) hs hx

theorem Dev.disableQueue_chg : ∀ d a1 a2, Dev.changesOnly [.regs, .kqp] d (Dev.disableQueue d a1 a2) := by
  intro d a1 a2
  unfold Dev.disableQueue
  repeat' first
    | (with_reducible assumption)
    | (with_reducible exact chg_refl _ _)
    | ((with_reducible apply Dev.qSettle_keep); exact rfl)
    | ((with_reducible apply Dev.setFlag_keep); exact rfl)
    | ((with_reducible apply Dev.setQueue_keep); exact rfl)
    | (with_reducible apply chg_ite)
    | (with_reducible apply chg_foldl)
    | (with_reducible apply chg_foldl_snd)
    | (with_reducible apply chg_ite_snd)
    | intro _ _ _
    | intro _
    | split
    | (dsimp -proj only)

theorem Dev.disableQueue_keep {t d0 d a1 a2} (hs : tablesIn [.regs, .kqp] t = true) (hx : Dev.changesOnly t d0 d) : Dev.changesOnly t d0 (Dev.disableQueue d a1 a2) :=
  chg_step (Dev.disableQueue_chg _ _ _) hs hx

theorem Dev.drainOver_chg : ∀ d a1 a2, Dev.changesOnly [.regs, .log, .logSeq, .six, .evt, .out, .ldg, .fab, .tbn] d (Dev.drainOver d a1 a2) := by
  intro d a1 a2
  unfold Dev.drainOver
  repeat' first
    | (with_reducible assumption)
    | (with_reducible exact chg_refl _ _)
    | ((with_reducible apply Dev.setFlag_keep); exact rfl)
    | ((with_reducible apply Dev.setJob_keep); exact rfl)
    | ((with_reducible apply Dev.sixRelease_keep); exact rfl)
    | ((with_reducible apply Dev.startDrain_keep); exact rfl)
    | (with_reducible apply chg_ite)
    | (with_reducible apply chg_foldl)
    | (with_reducible apply chg_foldl_snd)
    | (with_reducible apply chg_ite_snd)
    | intro _ _ _
    | intro _
    | split
    | (dsimp -proj only)

theorem Dev.drainOver_keep {t d0 d a1 a2} (hs : tablesIn [.regs, .log, .logSeq, .six, .evt, .out, .ldg, .fab, .tbn] t = true) (hx : Dev.changesOnly t d0 d) : Dev.changesOnly t d0 (Dev.drainOver d a1 a2) :=
  chg_step (Dev.drainOver_chg _ _ _) hs hx

theorem Dev.drainSlots_chg : ∀ d, Dev.changesOnly [.regs, .t0, .t1, .log, .logSeq, .evt, .tir, .mkt] d (Dev.drainSlots d) := by
  intro d
  unfold Dev.drainSlots
  repeat' first
    | (with_reducible assumption)
    | (with_reducible exact chg_refl _ _)
    | ((with_reducible apply Dev.emptySlot_keep); exact rfl)
    | ((with_reducible apply Dev.raise_keep); exact rfl)
    | (with_reducible apply chg_ite)
    | (with_reducible apply chg_foldl)
    | (with_reducible apply chg_foldl_snd)
    | (with_reducible apply chg_ite_snd)
    | intro _ _ _
    | intro _
    | split
    | (dsimp -proj only)

theorem Dev.drainSlots_keep {t d0 d} (hs : tablesIn [.regs, .t0, .t1, .log, .logSeq, .evt, .tir, .mkt] t = true) (hx : Dev.changesOnly t d0 d) : Dev.changesOnly t d0 (Dev.drainSlots d) :=
  chg_step (Dev.drainSlots_chg _) hs hx

theorem Dev.dropAbove_chg : ∀ d a1 a2 a3, Dev.changesOnly [.tir] d (Dev.dropAbove d a1 a2 a3) := by
  intro d a1 a2 a3
  unfold Dev.dropAbove
  repeat' first
    | (with_reducible assumption)
    | (with_reducible exact chg_refl _ _)
    | ((with_reducible apply Dev.setUnit_keep); exact rfl)
    | (with_reducible apply chg_ite)
    | (with_reducible apply chg_foldl)
    | (with_reducible apply chg_foldl_snd)
    | (with_reducible apply chg_ite_snd)
    | intro _ _ _
    | intro _
    | split
    | (dsimp -proj only)

theorem Dev.dropAbove_keep {t d0 d a1 a2 a3} (hs : tablesIn [.tir] t = true) (hx : Dev.changesOnly t d0 d) : Dev.changesOnly t d0 (Dev.dropAbove d a1 a2 a3) :=
  chg_step (Dev.dropAbove_chg _ _ _ _) hs hx

theorem Dev.dropAlias_chg : ∀ d a1, Dev.changesOnly [.regs, .t0, .tir, .mkt] d (Dev.dropAlias d a1) := by
  intro d a1
  unfold Dev.dropAlias
  repeat' first
    | (with_reducible assumption)
    | (with_reducible exact chg_refl _ _)
    | ((with_reducible apply Dev.release0_keep); exact rfl)
    | ((with_reducible apply Dev.setObj_keep); exact rfl)
    | (with_reducible apply chg_ite)
    | (with_reducible apply chg_foldl)
    | (with_reducible apply chg_foldl_snd)
    | (with_reducible apply chg_ite_snd)
    | intro _ _ _
    | intro _
    | split
    | (dsimp -proj only)

theorem Dev.dropAlias_keep {t d0 d a1} (hs : tablesIn [.regs, .t0, .tir, .mkt] t = true) (hx : Dev.changesOnly t d0 d) : Dev.changesOnly t d0 (Dev.dropAlias d a1) :=
  chg_step (Dev.dropAlias_chg _ _) hs hx

theorem Dev.dropLoad_chg : ∀ d a1, Dev.changesOnly [.regs, .log, .logSeq, .six, .evt, .out, .wset] d (Dev.dropLoad d a1) := by
  intro d a1
  unfold Dev.dropLoad
  repeat' first
    | (with_reducible assumption)
    | (with_reducible exact chg_refl _ _)
    | ((with_reducible apply Dev.chainAsk_keep); exact rfl)
    | ((with_reducible apply Dev.setFlag_keep); exact rfl)
    | ((with_reducible apply Dev.setWset_keep); exact rfl)
    | ((with_reducible apply Dev.sixRelease_keep); exact rfl)
    | (with_reducible apply chg_ite)
    | (with_reducible apply chg_foldl)
    | (with_reducible apply chg_foldl_snd)
    | (with_reducible apply chg_ite_snd)
    | intro _ _ _
    | intro _
    | split
    | (dsimp -proj only)

theorem Dev.dropLoad_keep {t d0 d a1} (hs : tablesIn [.regs, .log, .logSeq, .six, .evt, .out, .wset] t = true) (hx : Dev.changesOnly t d0 d) : Dev.changesOnly t d0 (Dev.dropLoad d a1) :=
  chg_step (Dev.dropLoad_chg _ _) hs hx

theorem Dev.dropTesting_chg : ∀ d a1 a2, Dev.changesOnly [.hlt] d (Dev.dropTesting d a1 a2) := by
  intro d a1 a2
  unfold Dev.dropTesting
  repeat' first
    | (with_reducible assumption)
    | (with_reducible exact chg_refl _ _)
    | ((with_reducible apply Dev.setTesting_keep); exact rfl)
    | (with_reducible apply chg_ite)
    | (with_reducible apply chg_foldl)
    | (with_reducible apply chg_foldl_snd)
    | (with_reducible apply chg_ite_snd)
    | intro _ _ _
    | intro _
    | split
    | (dsimp -proj only)

theorem Dev.dropTesting_keep {t d0 d a1 a2} (hs : tablesIn [.hlt] t = true) (hx : Dev.changesOnly t d0 d) : Dev.changesOnly t d0 (Dev.dropTesting d a1 a2) :=
  chg_step (Dev.dropTesting_chg _ _ _) hs hx

theorem Dev.dumpEnd_chg : ∀ d a1, Dev.changesOnly [.regs, .log, .logSeq, .evt, .hlt] d (Dev.dumpEnd d a1) := by
  intro d a1
  unfold Dev.dumpEnd
  repeat' first
    | (with_reducible assumption)
    | (with_reducible exact chg_refl _ _)
    | ((with_reducible apply Dev.raise_keep); exact rfl)
    | ((with_reducible apply Dev.setFlag_keep); exact rfl)
    | ((with_reducible apply Dev.setHlt_keep); exact rfl)
    | ((with_reducible apply Dev.wr_keep); exact rfl)
    | (with_reducible apply chg_ite)
    | (with_reducible apply chg_foldl)
    | (with_reducible apply chg_foldl_snd)
    | (with_reducible apply chg_ite_snd)
    | intro _ _ _
    | intro _
    | split
    | (dsimp -proj only)

theorem Dev.dumpEnd_keep {t d0 d a1} (hs : tablesIn [.regs, .log, .logSeq, .evt, .hlt] t = true) (hx : Dev.changesOnly t d0 d) : Dev.changesOnly t d0 (Dev.dumpEnd d a1) :=
  chg_step (Dev.dumpEnd_chg _ _) hs hx

theorem Dev.enableQueue_chg : ∀ d a1, Dev.changesOnly [.regs, .kqp] d (Dev.enableQueue d a1) := by
  intro d a1
  unfold Dev.enableQueue
  repeat' first
    | (with_reducible assumption)
    | (with_reducible exact chg_refl _ _)
    | ((with_reducible apply Dev.qSettle_keep); exact rfl)
    | ((with_reducible apply Dev.setFlag_keep); exact rfl)
    | ((with_reducible apply Dev.setQSt_keep); exact rfl)
    | ((with_reducible apply Dev.setQueue_keep); exact rfl)
    | ((with_reducible apply Dev.wr_keep); exact rfl)
    | (with_reducible apply chg_ite)
    | (with_reducible apply chg_foldl)
    | (with_reducible apply chg_foldl_snd)
    | (with_reducible apply chg_ite_snd)
    | intro _ _ _
    | intro _
    | split
    | (dsimp -proj only)

theorem Dev.enableQueue_keep {t d0 d a1} (hs : tablesIn [.regs, .kqp] t = true) (hx : Dev.changesOnly t d0 d) : Dev.changesOnly t d0 (Dev.enableQueue d a1) :=
  chg_step (Dev.enableQueue_chg _ _) hs hx

theorem Dev.endControl_chg : ∀ d a1 a2 a3 a4, Dev.changesOnly [.regs, .log, .logSeq, .msixPend, .six, .evt, .kqp, .out, .tir, .ldg, .col, .ccr] d (Dev.endControl d a1 a2 a3 a4) := by
  intro d a1 a2 a3 a4
  unfold Dev.endControl
  repeat' first
    | (with_reducible assumption)
    | (with_reducible exact chg_refl _ _)
    | ((with_reducible apply Dev.endPart_keep); exact rfl)
    | (with_reducible apply chg_when)
    | (with_reducible apply chg_ite)
    | (with_reducible apply chg_foldl)
    | (with_reducible apply chg_foldl_snd)
    | (with_reducible apply chg_ite_snd)
    | intro _ _ _
    | intro _
    | split
    | (dsimp -proj only)

theorem Dev.endControl_keep {t d0 d a1 a2 a3 a4} (hs : tablesIn [.regs, .log, .logSeq, .msixPend, .six, .evt, .kqp, .out, .tir, .ldg, .col, .ccr] t = true) (hx : Dev.changesOnly t d0 d) : Dev.changesOnly t d0 (Dev.endControl d a1 a2 a3 a4) :=
  chg_step (Dev.endControl_chg _ _ _ _ _) hs hx

theorem Dev.endReset_chg : ∀ d a1, Dev.changesOnly [.regs, .spr] d (Dev.endReset d a1) := by
  intro d a1
  unfold Dev.endReset
  repeat' first
    | (with_reducible assumption)
    | (with_reducible exact chg_refl _ _)
    | ((with_reducible apply Dev.setFlag_keep); exact rfl)
    | ((with_reducible apply Dev.setSpr_keep); exact rfl)
    | (with_reducible apply chg_ite)
    | (with_reducible apply chg_foldl)
    | (with_reducible apply chg_foldl_snd)
    | (with_reducible apply chg_ite_snd)
    | intro _ _ _
    | intro _
    | split
    | (dsimp -proj only)

theorem Dev.endReset_keep {t d0 d a1} (hs : tablesIn [.regs, .spr] t = true) (hx : Dev.changesOnly t d0 d) : Dev.changesOnly t d0 (Dev.endReset d a1) :=
  chg_step (Dev.endReset_chg _ _) hs hx

theorem Dev.sampleSource_chg : ∀ d a1, Dev.changesOnly [.regs, .evt] d (Dev.sampleSource d a1) := by
  intro d a1
  unfold Dev.sampleSource
  repeat' first
    | (with_reducible assumption)
    | (with_reducible exact chg_refl _ _)
    | ((with_reducible apply Dev.setEvt_keep); exact rfl)
    | ((with_reducible apply Dev.setFlag_keep); exact rfl)
    | (with_reducible apply chg_ite)
    | (with_reducible apply chg_foldl)
    | (with_reducible apply chg_foldl_snd)
    | (with_reducible apply chg_ite_snd)
    | intro _ _ _
    | intro _
    | split
    | (dsimp -proj only)

theorem Dev.sampleSource_keep {t d0 d a1} (hs : tablesIn [.regs, .evt] t = true) (hx : Dev.changesOnly t d0 d) : Dev.changesOnly t d0 (Dev.sampleSource d a1) :=
  chg_step (Dev.sampleSource_chg _ _) hs hx

theorem Dev.showLevel_chg : ∀ d, Dev.changesOnly [.regs] d (Dev.showLevel d) := by
  intro d
  unfold Dev.showLevel
  repeat' first
    | (with_reducible assumption)
    | (with_reducible exact chg_refl _ _)
    | ((with_reducible apply Dev.setFlag_keep); exact rfl)
    | ((with_reducible apply Dev.wr_keep); exact rfl)
    | (with_reducible apply chg_ite)
    | (with_reducible apply chg_foldl)
    | (with_reducible apply chg_foldl_snd)
    | (with_reducible apply chg_ite_snd)
    | intro _ _ _
    | intro _
    | split
    | (dsimp -proj only)

theorem Dev.showLevel_keep {t d0 d} (hs : tablesIn [.regs] t = true) (hx : Dev.changesOnly t d0 d) : Dev.changesOnly t d0 (Dev.showLevel d) :=
  chg_step (Dev.showLevel_chg _) hs hx

theorem Dev.endService_chg : ∀ d a1, Dev.changesOnly [.regs, .evt] d (Dev.endService d a1) := by
  intro d a1
  unfold Dev.endService
  repeat' first
    | (with_reducible assumption)
    | (with_reducible exact chg_refl _ _)
    | ((with_reducible apply Dev.sampleSource_keep); exact rfl)
    | ((with_reducible apply Dev.setEvt_keep); exact rfl)
    | ((with_reducible apply Dev.setFlag_keep); exact rfl)
    | ((with_reducible apply Dev.showLevel_keep); exact rfl)
    | (with_reducible apply chg_ite)
    | (with_reducible apply chg_foldl)
    | (with_reducible apply chg_foldl_snd)
    | (with_reducible apply chg_ite_snd)
    | intro _ _ _
    | intro _
    | split
    | (dsimp -proj only)

theorem Dev.endService_keep {t d0 d a1} (hs : tablesIn [.regs, .evt] t = true) (hx : Dev.changesOnly t d0 d) : Dev.changesOnly t d0 (Dev.endService d a1) :=
  chg_step (Dev.endService_chg _ _) hs hx

theorem Dev.endTest_chg : ∀ d a1, Dev.changesOnly [.regs, .log, .logSeq, .spr, .evt, .kqp, .hlt] d (Dev.endTest d a1) := by
  intro d a1
  unfold Dev.endTest
  repeat' first
    | (with_reducible assumption)
    | (with_reducible exact chg_refl _ _)
    | ((with_reducible apply Dev.dropTesting_keep); exact rfl)
    | ((with_reducible apply Dev.moveIdentity_keep); exact rfl)
    | ((with_reducible apply Dev.setPhys_keep); exact rfl)
    | (with_reducible apply chg_ite)
    | (with_reducible apply chg_foldl)
    | (with_reducible apply chg_foldl_snd)
    | (with_reducible apply chg_ite_snd)
    | intro _ _ _
    | intro _
    | split
    | (dsimp -proj only)

theorem Dev.endTest_keep {t d0 d a1} (hs : tablesIn [.regs, .log, .logSeq, .spr, .evt, .kqp, .hlt] t = true) (hx : Dev.changesOnly t d0 d) : Dev.changesOnly t d0 (Dev.endTest d a1) :=
  chg_step (Dev.endTest_chg _ _) hs hx

theorem Dev.engCounts_chg : ∀ d a1 a2 a3, Dev.changesOnly [.regs, .t0, .log, .logSeq, .evt, .tir] d (Dev.engCounts d a1 a2 a3) := by
  intro d a1 a2 a3
  unfold Dev.engCounts
  repeat' first
    | (with_reducible assumption)
    | (with_reducible exact chg_refl _ _)
    | ((with_reducible apply Dev.engRaise_keep); exact rfl)
    | ((with_reducible apply Dev.setT0_keep); exact rfl)
    | ((with_reducible apply Dev.soil_keep); exact rfl)
    | ((with_reducible apply Dev.wr_keep); exact rfl)
    | (with_reducible apply chg_ite)
    | (with_reducible apply chg_foldl)
    | (with_reducible apply chg_foldl_snd)
    | (with_reducible apply chg_ite_snd)
    | intro _ _ _
    | intro _
    | split
    | (dsimp -proj only)

theorem Dev.engCounts_keep {t d0 d a1 a2 a3} (hs : tablesIn [.regs, .t0, .log, .logSeq, .evt, .tir] t = true) (hx : Dev.changesOnly t d0 d) : Dev.changesOnly t d0 (Dev.engCounts d a1 a2 a3) :=
  chg_step (Dev.engCounts_chg _ _ _ _) hs hx

theorem Dev.engDone_chg : ∀ d a1 a2 a3 a4 a5, Dev.changesOnly [.regs, .t0, .log, .logSeq, .evt, .kqp, .tir] d (Dev.engDone d a1 a2 a3 a4 a5) := by
  intro d a1 a2 a3 a4 a5
  unfold Dev.engDone
  repeat' first
    | (with_reducible assumption)
    | (with_reducible exact chg_refl _ _)
    | ((with_reducible apply Dev.engCounts_keep); exact rfl)
    | ((with_reducible apply Dev.finish_keep); exact rfl)
    | (with_reducible apply chg_ite)
    | (with_reducible apply chg_foldl)
    | (with_reducible apply chg_foldl_snd)
    | (with_reducible apply chg_ite_snd)
    | intro _ _ _
    | intro _
    | split
    | (dsimp -proj only)

theorem Dev.engDone_keep {t d0 d a1 a2 a3 a4 a5} (hs : tablesIn [.regs, .t0, .log, .logSeq, .evt, .kqp, .tir] t = true) (hx : Dev.changesOnly t d0 d) : Dev.changesOnly t d0 (Dev.engDone d a1 a2 a3 a4 a5) :=
  chg_step (Dev.engDone_chg _ _ _ _ _ _) hs hx

theorem Dev.engFail_chg : ∀ d a1 a2 a3 a4, Dev.changesOnly [.regs, .t0, .log, .logSeq, .evt, .kqp, .tir] d (Dev.engFail d a1 a2 a3 a4) := by
  intro d a1 a2 a3 a4
  unfold Dev.engFail
  repeat' first
    | (with_reducible assumption)
    | (with_reducible exact chg_refl _ _)
    | ((with_reducible apply Dev.engCounts_keep); exact rfl)
    | ((with_reducible apply Dev.failPart_keep); exact rfl)
    | (with_reducible apply chg_ite)
    | (with_reducible apply chg_foldl)
    | (with_reducible apply chg_foldl_snd)
    | (with_reducible apply chg_ite_snd)
    | intro _ _ _
    | intro _
    | split
    | (dsimp -proj only)

theorem Dev.engFail_keep {t d0 d a1 a2 a3 a4} (hs : tablesIn [.regs, .t0, .log, .logSeq, .evt, .kqp, .tir] t = true) (hx : Dev.changesOnly t d0 d) : Dev.changesOnly t d0 (Dev.engFail d a1 a2 a3 a4) :=
  chg_step (Dev.engFail_chg _ _ _ _ _) hs hx

theorem Dev.engSpecial_chg : ∀ d a1 a2 a3, Dev.changesOnly [.regs, .log, .logSeq, .evt] d (Dev.engSpecial d a1 a2 a3) := by
  intro d a1 a2 a3
  unfold Dev.engSpecial
  repeat' first
    | (with_reducible assumption)
    | (with_reducible exact chg_refl _ _)
    | ((with_reducible apply Dev.engRaise_keep); exact rfl)
    | ((with_reducible apply Dev.incSat_keep); exact rfl)
    | (with_reducible apply chg_ite)
    | (with_reducible apply chg_foldl)
    | (with_reducible apply chg_foldl_snd)
    | (with_reducible apply chg_ite_snd)
    | intro _ _ _
    | intro _
    | split
    | (dsimp -proj only)

theorem Dev.engSpecial_keep {t d0 d a1 a2 a3} (hs : tablesIn [.regs, .log, .logSeq, .evt] t = true) (hx : Dev.changesOnly t d0 d) : Dev.changesOnly t d0 (Dev.engSpecial d a1 a2 a3) :=
  chg_step (Dev.engSpecial_chg _ _ _ _) hs hx

theorem Dev.lowerLimits_chg : ∀ d, Dev.changesOnly [.regs, .hlt] d (Dev.lowerLimits d) := by
  intro d
  unfold Dev.lowerLimits
  repeat' first
    | (with_reducible assumption)
    | (with_reducible exact chg_refl _ _)
    | ((with_reducible apply Dev.setHlt_keep); exact rfl)
    | ((with_reducible apply Dev.wr_keep); exact rfl)
    | (with_reducible apply chg_ite)
    | (with_reducible apply chg_foldl)
    | (with_reducible apply chg_foldl_snd)
    | (with_reducible apply chg_ite_snd)
    | intro _ _ _
    | intro _
    | split
    | (dsimp -proj only)

theorem Dev.lowerLimits_keep {t d0 d} (hs : tablesIn [.regs, .hlt] t = true) (hx : Dev.changesOnly t d0 d) : Dev.changesOnly t d0 (Dev.lowerLimits d) :=
  chg_step (Dev.lowerLimits_chg _) hs hx

theorem Dev.portD3_chg : ∀ d a1, Dev.changesOnly [.regs, .fab] d (Dev.portD3 d a1) := by
  intro d a1
  unfold Dev.portD3
  repeat' first
    | (with_reducible assumption)
    | (with_reducible exact chg_refl _ _)
    | ((with_reducible apply Dev.setPort_keep); exact rfl)
    | ((with_reducible apply Dev.setPortSt_keep); exact rfl)
    | ((with_reducible apply Dev.wr_keep); exact rfl)
    | (with_reducible apply chg_ite)
    | (with_reducible apply chg_foldl)
    | (with_reducible apply chg_foldl_snd)
    | (with_reducible apply chg_ite_snd)
    | intro _ _ _
    | intro _
    | split
    | (dsimp -proj only)

theorem Dev.portD3_keep {t d0 d a1} (hs : tablesIn [.regs, .fab] t = true) (hx : Dev.changesOnly t d0 d) : Dev.changesOnly t d0 (Dev.portD3 d a1) :=
  chg_step (Dev.portD3_chg _ _) hs hx

theorem Dev.queuesD3_chg : ∀ d, Dev.changesOnly [.regs, .kqp] d (Dev.queuesD3 d) := by
  intro d
  unfold Dev.queuesD3
  repeat' first
    | (with_reducible assumption)
    | (with_reducible exact chg_refl _ _)
    | ((with_reducible apply Dev.setFlag_keep); exact rfl)
    | ((with_reducible apply Dev.setKqp_keep); exact rfl)
    | ((with_reducible apply Dev.setReg_keep); exact rfl)
    | ((with_reducible apply Dev.wr_keep); exact rfl)
    | (with_reducible apply chg_ite)
    | (with_reducible apply chg_foldl)
    | (with_reducible apply chg_foldl_snd)
    | (with_reducible apply chg_ite_snd)
    | intro _ _ _
    | intro _
    | split
    | (dsimp -proj only)

theorem Dev.queuesD3_keep {t d0 d} (hs : tablesIn [.regs, .kqp] t = true) (hx : Dev.changesOnly t d0 d) : Dev.changesOnly t d0 (Dev.queuesD3 d) :=
  chg_step (Dev.queuesD3_chg _) hs hx

theorem Dev.setStampHold_chg : ∀ d a1, Dev.changesOnly [.stampHold] d (Dev.setStampHold d a1) := by
  intro d a1
  unfold Dev.setStampHold
  repeat' first
    | (with_reducible assumption)
    | (with_reducible exact chg_refl _ _)
    | (with_reducible apply chg_ite)
    | (with_reducible apply chg_foldl)
    | (with_reducible apply chg_foldl_snd)
    | (with_reducible apply chg_ite_snd)
    | intro _ _ _
    | intro _
    | split
    | (dsimp -proj only)
    | (refine chg_step (chg_stampHold _ _) rfl ?_)

theorem Dev.setStampHold_keep {t d0 d a1} (hs : tablesIn [.stampHold] t = true) (hx : Dev.changesOnly t d0 d) : Dev.changesOnly t d0 (Dev.setStampHold d a1) :=
  chg_step (Dev.setStampHold_chg _ _) hs hx

theorem Dev.loseD3_chg : ∀ d, Dev.changesOnly [.regs, .stampHold, .t0, .log, .logSeq, .spr, .six, .evt, .kqp, .tir, .mkt, .ldg, .hlt, .acr, .col, .fab, .tbn, .tim, .ccr] d (Dev.loseD3 d) := by
  intro d
  unfold Dev.loseD3
  repeat' first
    | (with_reducible assumption)
    | (with_reducible exact chg_refl _ _)
    | ((with_reducible apply Dev.bindsD3_keep); exact rfl)
    | ((with_reducible apply Dev.d3Regs_keep); exact rfl)
    | ((with_reducible apply Dev.endTest_keep); exact rfl)
    | ((with_reducible apply Dev.lowerLimits_keep); exact rfl)
    | ((with_reducible apply Dev.portD3_keep); exact rfl)
    | ((with_reducible apply Dev.queuesD3_keep); exact rfl)
    | ((with_reducible apply Dev.setAcr_keep); exact rfl)
    | ((with_reducible apply Dev.setCcr_keep); exact rfl)
    | ((with_reducible apply Dev.setCol_keep); exact rfl)
    | ((with_reducible apply Dev.setEvt_keep); exact rfl)
    | ((with_reducible apply Dev.setHlt_keep); exact rfl)
    | ((with_reducible apply Dev.setLdg_keep); exact rfl)
    | ((with_reducible apply Dev.setMkt_keep); exact rfl)
    | ((with_reducible apply Dev.setSix_keep); exact rfl)
    | ((with_reducible apply Dev.setSpr_keep); exact rfl)
    | ((with_reducible apply Dev.setStampHold_keep); exact rfl)
    | ((with_reducible apply Dev.setT0_keep); exact rfl)
    | ((with_reducible apply Dev.setTbn_keep); exact rfl)
    | ((with_reducible apply Dev.setTim_keep); exact rfl)
    | ((with_reducible apply Dev.setTir_keep); exact rfl)
    | ((with_reducible apply Dev.wr_keep); exact rfl)
    | (with_reducible apply chg_ite)
    | (with_reducible apply chg_foldl)
    | (with_reducible apply chg_foldl_snd)
    | (with_reducible apply chg_ite_snd)
    | intro _ _ _
    | intro _
    | split
    | (dsimp -proj only)

theorem Dev.loseD3_keep {t d0 d} (hs : tablesIn [.regs, .stampHold, .t0, .log, .logSeq, .spr, .six, .evt, .kqp, .tir, .mkt, .ldg, .hlt, .acr, .col, .fab, .tbn, .tim, .ccr] t = true) (hx : Dev.changesOnly t d0 d) : Dev.changesOnly t d0 (Dev.loseD3 d) :=
  chg_step (Dev.loseD3_chg _) hs hx

theorem Dev.setPwr_chg : ∀ d a1, Dev.changesOnly [.pwr] d (Dev.setPwr d a1) := by
  intro d a1
  unfold Dev.setPwr
  repeat' first
    | (with_reducible assumption)
    | (with_reducible exact chg_refl _ _)
    | (with_reducible apply chg_ite)
    | (with_reducible apply chg_foldl)
    | (with_reducible apply chg_foldl_snd)
    | (with_reducible apply chg_ite_snd)
    | intro _ _ _
    | intro _
    | split
    | (dsimp -proj only)
    | (refine chg_step (chg_pwr _ _) rfl ?_)

theorem Dev.setPwr_keep {t d0 d a1} (hs : tablesIn [.pwr] t = true) (hx : Dev.changesOnly t d0 d) : Dev.changesOnly t d0 (Dev.setPwr d a1) :=
  chg_step (Dev.setPwr_chg _ _) hs hx

theorem Dev.wipe_chg : ∀ d , Dev.changesOnly [.regs, .stampHold, .t0, .t1, .log, .logSeq, .msix, .msixPend, .spr, .six, .evt, .kqp, .tir, .mkt, .ldg, .hlt, .wset, .acr, .col, .fab, .tbn, .sec, .tim, .hif, .ccr] d (Dev.wipe d ) := by
  intro d
  unfold Dev.wipe
  refine Dev.wr_keep (by exact rfl) (Dev.wr_keep (by exact rfl) (Dev.wr_keep (by exact rfl) (Dev.wr_keep (by exact rfl) (Dev.wr_keep (by exact rfl) ?_))))
  constructor
  intro t ht
  cases t <;> first | rfl | exact absurd (by decide) ht

theorem Dev.wipe_keep {t d0 d } (hs : tablesIn [.regs, .stampHold, .t0, .t1, .log, .logSeq, .msix, .msixPend, .spr, .six, .evt, .kqp, .tir, .mkt, .ldg, .hlt, .wset, .acr, .col, .fab, .tbn, .sec, .tim, .hif, .ccr] t = true) (hx : Dev.changesOnly t d0 d) : Dev.changesOnly t d0 (Dev.wipe d ) :=
  chg_step (Dev.wipe_chg _) hs hx

theorem Dev.enterLow_chg : ∀ d, Dev.changesOnly [.regs, .stampHold, .t0, .t1, .log, .logSeq, .msix, .msixPend, .spr, .six, .evt, .kqp, .tir, .mkt, .ldg, .hlt, .wset, .acr, .col, .fab, .tbn, .sec, .tim, .pwr, .hif, .ccr] d (Dev.enterLow d) := by
  intro d
  unfold Dev.enterLow
  repeat' first
    | (with_reducible assumption)
    | (with_reducible exact chg_refl _ _)
    | ((with_reducible apply Dev.linksDown_keep); exact rfl)
    | ((with_reducible apply Dev.loseD3_keep); exact rfl)
    | ((with_reducible apply Dev.setPwr_keep); exact rfl)
    | ((with_reducible apply Dev.setSec_keep); exact rfl)
    | ((with_reducible apply Dev.wipe_keep); exact rfl)
    | ((with_reducible apply Dev.wr_keep); exact rfl)
    | (with_reducible apply chg_ite)
    | (with_reducible apply chg_foldl)
    | (with_reducible apply chg_foldl_snd)
    | (with_reducible apply chg_ite_snd)
    | intro _ _ _
    | intro _
    | split
    | (dsimp -proj only)

theorem Dev.enterLow_keep {t d0 d} (hs : tablesIn [.regs, .stampHold, .t0, .t1, .log, .logSeq, .msix, .msixPend, .spr, .six, .evt, .kqp, .tir, .mkt, .ldg, .hlt, .wset, .acr, .col, .fab, .tbn, .sec, .tim, .pwr, .hif, .ccr] t = true) (hx : Dev.changesOnly t d0 d) : Dev.changesOnly t d0 (Dev.enterLow d) :=
  chg_step (Dev.enterLow_chg _) hs hx

theorem Dev.releaseLeft_chg : ∀ d a1 a2, Dev.changesOnly [.regs, .t0, .t1, .tir, .mkt] d (Dev.releaseLeft d a1 a2) := by
  intro d a1 a2
  unfold Dev.releaseLeft
  repeat' first
    | (with_reducible assumption)
    | (with_reducible exact chg_refl _ _)
    | ((with_reducible apply Dev.freeRegion_keep); exact rfl)
    | ((with_reducible apply Dev.release0_keep); exact rfl)
    | ((with_reducible apply Dev.setObj_keep); exact rfl)
    | ((with_reducible apply Dev.setUnit_keep); exact rfl)
    | ((with_reducible apply Dev.trimT1_keep); exact rfl)
    | (with_reducible apply chg_ite)
    | (with_reducible apply chg_foldl)
    | (with_reducible apply chg_foldl_snd)
    | (with_reducible apply chg_ite_snd)
    | intro _ _ _
    | intro _
    | split
    | (dsimp -proj only)

theorem Dev.releaseLeft_keep {t d0 d a1 a2} (hs : tablesIn [.regs, .t0, .t1, .tir, .mkt] t = true) (hx : Dev.changesOnly t d0 d) : Dev.changesOnly t d0 (Dev.releaseLeft d a1 a2) :=
  chg_step (Dev.releaseLeft_chg _ _ _) hs hx

theorem Dev.evictUnit_chg : ∀ d a1 a2 a3 a4 a5, Dev.changesOnly [.regs, .t0, .t1, .six, .kqp, .out, .tir, .mkt] d (Dev.evictUnit d a1 a2 a3 a4 a5) := by
  intro d a1 a2 a3 a4 a5
  unfold Dev.evictUnit
  repeat' first
    | (with_reducible assumption)
    | (with_reducible exact chg_refl _ _)
    | ((with_reducible apply Dev.addWork_keep); exact rfl)
    | (refine Dev.ensureT1_keep (by with_reducible assumption) rfl ?_)
    | ((with_reducible apply Dev.leave1_keep); exact rfl)
    | ((with_reducible apply Dev.releaseLeft_keep); exact rfl)
    | ((with_reducible apply Dev.room_keep); exact rfl)
    | ((with_reducible apply Dev.setUnit_keep); exact rfl)
    | ((with_reducible apply Dev.writeBack_keep); exact rfl)
    | (with_reducible apply chg_ite)
    | (with_reducible apply chg_foldl)
    | (with_reducible apply chg_foldl_snd)
    | (with_reducible apply chg_ite_snd)
    | intro _ _ _
    | intro _
    | split
    | (dsimp -proj only)

theorem Dev.evictUnit_keep {t d0 d a1 a2 a3 a4 a5} (hs : tablesIn [.regs, .t0, .t1, .six, .kqp, .out, .tir, .mkt] t = true) (hx : Dev.changesOnly t d0 d) : Dev.changesOnly t d0 (Dev.evictUnit d a1 a2 a3 a4 a5) :=
  chg_step (Dev.evictUnit_chg _ _ _ _ _ _) hs hx

theorem Dev.evtTakeover_chg : ∀ d, Dev.changesOnly [.regs, .evt] d (Dev.evtTakeover d) := by
  intro d
  unfold Dev.evtTakeover
  repeat' first
    | (with_reducible assumption)
    | (with_reducible exact chg_refl _ _)
    | ((with_reducible apply Dev.sampleSource_keep); exact rfl)
    | ((with_reducible apply Dev.setEvt_keep); exact rfl)
    | ((with_reducible apply Dev.setFlag_keep); exact rfl)
    | ((with_reducible apply Dev.showLevel_keep); exact rfl)
    | (with_reducible apply chg_ite)
    | (with_reducible apply chg_foldl)
    | (with_reducible apply chg_foldl_snd)
    | (with_reducible apply chg_ite_snd)
    | intro _ _ _
    | intro _
    | split
    | (dsimp -proj only)

theorem Dev.evtTakeover_keep {t d0 d} (hs : tablesIn [.regs, .evt] t = true) (hx : Dev.changesOnly t d0 d) : Dev.changesOnly t d0 (Dev.evtTakeover d) :=
  chg_step (Dev.evtTakeover_chg _) hs hx

theorem Dev.failBank_chg : ∀ d a1 a2, Dev.changesOnly [.regs, .t0, .log, .logSeq, .spr, .six, .evt, .kqp, .out, .tir, .mkt, .ldg, .sec] d (Dev.failBank d a1 a2) := by
  intro d a1 a2
  unfold Dev.failBank
  repeat' first
    | (with_reducible assumption)
    | (with_reducible exact chg_refl _ _)
    | ((with_reducible apply Dev.closeGroup_keep); exact rfl)
    | ((with_reducible apply Dev.raise_keep); exact rfl)
    | ((with_reducible apply Dev.setBank_keep); exact rfl)
    | ((with_reducible apply Dev.setMkt_keep); exact rfl)
    | ((with_reducible apply Dev.sprOpen_keep); exact rfl)
    | (with_reducible apply chg_ite)
    | (with_reducible apply chg_foldl)
    | (with_reducible apply chg_foldl_snd)
    | (with_reducible apply chg_ite_snd)
    | intro _ _ _
    | intro _
    | split
    | (dsimp -proj only)

theorem Dev.failBank_keep {t d0 d a1 a2} (hs : tablesIn [.regs, .t0, .log, .logSeq, .spr, .six, .evt, .kqp, .out, .tir, .mkt, .ldg, .sec] t = true) (hx : Dev.changesOnly t d0 d) : Dev.changesOnly t d0 (Dev.failBank d a1 a2) :=
  chg_step (Dev.failBank_chg _ _ _) hs hx

theorem Dev.failEntry_chg : ∀ d a1, Dev.changesOnly [.regs, .t0, .log, .logSeq, .msixPend, .six, .evt, .kqp, .out, .tir, .mkt, .ldg, .col, .ccr] d (Dev.failEntry d a1) := by
  intro d a1
  unfold Dev.failEntry
  repeat' first
    | (with_reducible assumption)
    | (with_reducible exact chg_refl _ _)
    | ((with_reducible apply Dev.endPart_keep); exact rfl)
    | ((with_reducible apply Dev.failPart_keep); exact rfl)
    | ((with_reducible apply Dev.failWaits_keep); exact rfl)
    | ((with_reducible apply Dev.release0_keep); exact rfl)
    | ((with_reducible apply Dev.setUnit_keep); exact rfl)
    | ((with_reducible apply Dev.sixRelease_keep); exact rfl)
    | (with_reducible apply chg_ite)
    | (with_reducible apply chg_foldl)
    | (with_reducible apply chg_foldl_snd)
    | (with_reducible apply chg_ite_snd)
    | intro _ _ _
    | intro _
    | split
    | (dsimp -proj only)

theorem Dev.failEntry_keep {t d0 d a1} (hs : tablesIn [.regs, .t0, .log, .logSeq, .msixPend, .six, .evt, .kqp, .out, .tir, .mkt, .ldg, .col, .ccr] t = true) (hx : Dev.changesOnly t d0 d) : Dev.changesOnly t d0 (Dev.failEntry d a1) :=
  chg_step (Dev.failEntry_chg _ _) hs hx

theorem Dev.unitFault_chg : ∀ d a1 a2, Dev.changesOnly [.regs, .log, .logSeq, .spr, .six, .evt, .out, .sec] d (Dev.unitFault d a1 a2) := by
  intro d a1 a2
  unfold Dev.unitFault
  repeat' first
    | (with_reducible assumption)
    | (with_reducible exact chg_refl _ _)
    | ((with_reducible apply Dev.closeUnit_keep); exact rfl)
    | ((with_reducible apply Dev.setPhys_keep); exact rfl)
    | (with_reducible apply chg_ite)
    | (with_reducible apply chg_foldl)
    | (with_reducible apply chg_foldl_snd)
    | (with_reducible apply chg_ite_snd)
    | intro _ _ _
    | intro _
    | split
    | (dsimp -proj only)

theorem Dev.unitFault_keep {t d0 d a1 a2} (hs : tablesIn [.regs, .log, .logSeq, .spr, .six, .evt, .out, .sec] t = true) (hx : Dev.changesOnly t d0 d) : Dev.changesOnly t d0 (Dev.unitFault d a1 a2) :=
  chg_step (Dev.unitFault_chg _ _ _) hs hx

theorem Dev.faultPart_chg : ∀ d a1 a2 a3 a4, Dev.changesOnly [.regs, .log, .logSeq, .msixPend, .spr, .six, .evt, .kqp, .out, .tir, .ldg, .col, .sec, .ccr] d (Dev.faultPart d a1 a2 a3 a4) := by
  intro d a1 a2 a3 a4
  unfold Dev.faultPart
  repeat' first
    | (with_reducible assumption)
    | (with_reducible exact chg_refl _ _)
    | ((with_reducible apply Dev.acrFault_keep); exact rfl)
    | ((with_reducible apply Dev.beginReset_keep); exact rfl)
    | ((with_reducible apply Dev.endPart_keep); exact rfl)
    | ((with_reducible apply Dev.incSat_keep); exact rfl)
    | ((with_reducible apply Dev.raise_keep); exact rfl)
    | ((with_reducible apply Dev.unitFault_keep); exact rfl)
    | ((with_reducible apply Dev.wr_keep); exact rfl)
    | (with_reducible apply chg_ite)
    | (with_reducible apply chg_foldl)
    | (with_reducible apply chg_foldl_snd)
    | (with_reducible apply chg_ite_snd)
    | intro _ _ _
    | intro _
    | split
    | (dsimp -proj only)

theorem Dev.faultPart_keep {t d0 d a1 a2 a3 a4} (hs : tablesIn [.regs, .log, .logSeq, .msixPend, .spr, .six, .evt, .kqp, .out, .tir, .ldg, .col, .sec, .ccr] t = true) (hx : Dev.changesOnly t d0 d) : Dev.changesOnly t d0 (Dev.faultPart d a1 a2 a3 a4) :=
  chg_step (Dev.faultPart_chg _ _ _ _ _) hs hx

theorem Dev.flrPartition_chg : ∀ d a1, Dev.changesOnly [.regs, .kqp, .ldg] d (Dev.flrPartition d a1) := by
  intro d a1
  unfold Dev.flrPartition
  repeat' first
    | (with_reducible assumption)
    | (with_reducible exact chg_refl _ _)
    | ((with_reducible apply Dev.disableQueue_keep); exact rfl)
    | ((with_reducible apply Dev.setJob_keep); exact rfl)
    | ((with_reducible apply Dev.setKqp_keep); exact rfl)
    | ((with_reducible apply Dev.setQueue_keep); exact rfl)
    | ((with_reducible apply Dev.stepFailure_keep); exact rfl)
    | ((with_reducible apply Dev.unbind_keep); exact rfl)
    | (with_reducible apply chg_ite)
    | (with_reducible apply chg_foldl)
    | (with_reducible apply chg_foldl_snd)
    | (with_reducible apply chg_ite_snd)
    | intro _ _ _
    | intro _
    | split
    | (dsimp -proj only)

theorem Dev.flrPartition_keep {t d0 d a1} (hs : tablesIn [.regs, .kqp, .ldg] t = true) (hx : Dev.changesOnly t d0 d) : Dev.changesOnly t d0 (Dev.flrPartition d a1) :=
  chg_step (Dev.flrPartition_chg _ _) hs hx

theorem Dev.hifRaise_chg : ∀ d a1 a2, Dev.changesOnly [.regs, .log, .logSeq, .evt] d (Dev.hifRaise d a1 a2) := by
  intro d a1 a2
  unfold Dev.hifRaise
  repeat' first
    | (with_reducible assumption)
    | (with_reducible exact chg_refl _ _)
    | ((with_reducible apply Dev.raise_keep); exact rfl)
    | (with_reducible apply chg_ite)
    | (with_reducible apply chg_foldl)
    | (with_reducible apply chg_foldl_snd)
    | (with_reducible apply chg_ite_snd)
    | intro _ _ _
    | intro _
    | split
    | (dsimp -proj only)

theorem Dev.hifRaise_keep {t d0 d a1 a2} (hs : tablesIn [.regs, .log, .logSeq, .evt] t = true) (hx : Dev.changesOnly t d0 d) : Dev.changesOnly t d0 (Dev.hifRaise d a1 a2) :=
  chg_step (Dev.hifRaise_chg _ _ _) hs hx

theorem Dev.setMsix_chg : ∀ d a1, Dev.changesOnly [.msix] d (Dev.setMsix d a1) := by
  intro d a1
  unfold Dev.setMsix
  repeat' first
    | (with_reducible assumption)
    | (with_reducible exact chg_refl _ _)
    | (with_reducible apply chg_ite)
    | (with_reducible apply chg_foldl)
    | (with_reducible apply chg_foldl_snd)
    | (with_reducible apply chg_ite_snd)
    | intro _ _ _
    | intro _
    | split
    | (dsimp -proj only)
    | (refine chg_step (chg_msix _ _) rfl ?_)

theorem Dev.setMsix_keep {t d0 d a1} (hs : tablesIn [.msix] t = true) (hx : Dev.changesOnly t d0 d) : Dev.changesOnly t d0 (Dev.setMsix d a1) :=
  chg_step (Dev.setMsix_chg _ _) hs hx

theorem Dev.resetConfig_chg : ∀ d a1, Dev.changesOnly [.msix, .msixPend, .hif] d (Dev.resetConfig d a1) := by
  intro d a1
  unfold Dev.resetConfig
  repeat' first
    | (with_reducible assumption)
    | (with_reducible exact chg_refl _ _)
    | ((with_reducible apply Dev.setHif_keep); exact rfl)
    | ((with_reducible apply Dev.setMsix_keep); exact rfl)
    | ((with_reducible apply Dev.setMsixPend_keep); exact rfl)
    | (with_reducible apply chg_ite)
    | (with_reducible apply chg_foldl)
    | (with_reducible apply chg_foldl_snd)
    | (with_reducible apply chg_ite_snd)
    | intro _ _ _
    | intro _
    | split
    | (dsimp -proj only)

theorem Dev.resetConfig_keep {t d0 d a1} (hs : tablesIn [.msix, .msixPend, .hif] t = true) (hx : Dev.changesOnly t d0 d) : Dev.changesOnly t d0 (Dev.resetConfig d a1) :=
  chg_step (Dev.resetConfig_chg _ _) hs hx

end Sys2Proof.Machine
end

