-- ==== Sys2Proof/Laws/FrameOps4.lean ====
section
/-! SUPPORT. Frames of the shared operations, part 4 of 6, callees before callers: `<op>_chg` names every table the operation may change, and
`<op>_keep` carries a frame through it (`_keep_eq` where it answers a value beside the device); a caller cites them and does not unfold. -/

namespace Sys2Proof.Machine

theorem Dev.flr_chg : ∀ d a1, Dev.changesOnly [.regs, .stampHold, .log, .logSeq, .msix, .msixPend, .evt, .kqp, .ldg, .hif] d (Dev.flr d a1) := by
  intro d a1
  unfold Dev.flr
  repeat' first
    | (with_reducible assumption)
    | (with_reducible exact chg_refl _ _)
    | ((with_reducible apply Dev.flrPartition_keep); exact rfl)
    | ((with_reducible apply Dev.hifRaise_keep); exact rfl)
    | ((with_reducible apply Dev.resetConfig_keep); exact rfl)
    | ((with_reducible apply Dev.setStampHold_keep); exact rfl)
    | (with_reducible apply chg_ite)
    | (with_reducible apply chg_foldl)
    | (with_reducible apply chg_foldl_snd)
    | (with_reducible apply chg_ite_snd)
    | intro _ _ _
    | intro _
    | split
    | (dsimp -proj only)

theorem Dev.flr_keep {t d0 d a1} (hs : tablesIn [.regs, .stampHold, .log, .logSeq, .msix, .msixPend, .evt, .kqp, .ldg, .hif] t = true) (hx : Dev.changesOnly t d0 d) : Dev.changesOnly t d0 (Dev.flr d a1) :=
  chg_step (Dev.flr_chg _ _) hs hx

theorem Dev.flushAll_chg : ∀ l d e, Dev.flushAll d l = some e → Dev.changesOnly [.regs, .t1, .tir] d e
  | [], d, e, h => by injection h with h; subst h; exact chg_refl _ _
  | k :: ks, d, e, h => by
    unfold Dev.flushAll at h
    split at h
    · rename_i h1; exact chg_step (Dev.flushAll_chg ks _ _ h) rfl (Dev.flush0_chg _ _ _ h1)
    · contradiction

theorem Dev.flushAll_keep {t d0 d l e} (h : Dev.flushAll d l = some e) (hs : tablesIn [.regs, .t1, .tir] t = true) (hx : Dev.changesOnly t d0 d) :
    Dev.changesOnly t d0 e :=
  chg_step (Dev.flushAll_chg _ _ _ h) hs hx

theorem Dev.stageT1_keep {t d0 d l k e} (h : Dev.stageT1 d l k = some e) (hs : tablesIn [.regs, .t1, .tir] t = true) (hx : Dev.changesOnly t d0 d) :
    Dev.changesOnly t d0 e := by
  unfold Dev.stageT1 at h
  split at h
  · exact absurd h (by simp)
  · rename_i d1 h1
    split at h
    · exact absurd h (by simp)
    · injection h with h; subst h; exact Dev.flushAll_keep h1 hs hx

theorem Dev.flushRange_chg : ∀ d a1 a2 a3, Dev.changesOnly [.t1, .tir] d (Dev.flushRange d a1 a2 a3) := by
  intro d a1 a2 a3
  unfold Dev.flushRange
  repeat' first
    | (with_reducible assumption)
    | (with_reducible exact chg_refl _ _)
    | ((with_reducible apply Dev.pour1_keep); exact rfl)
    | ((with_reducible apply Dev.setUnit_keep); exact rfl)
    | (with_reducible apply chg_ite)
    | (with_reducible apply chg_foldl)
    | (with_reducible apply chg_foldl_snd)
    | (with_reducible apply chg_ite_snd)
    | intro _ _ _
    | intro _
    | split
    | (dsimp -proj only)

theorem Dev.flushRange_keep {t d0 d a1 a2 a3} (hs : tablesIn [.t1, .tir] t = true) (hx : Dev.changesOnly t d0 d) : Dev.changesOnly t d0 (Dev.flushRange d a1 a2 a3) :=
  chg_step (Dev.flushRange_chg _ _ _ _) hs hx

theorem Dev.freeTested_chg : ∀ d a1, Dev.changesOnly [.regs, .log, .logSeq, .spr, .evt, .kqp, .hlt] d (Dev.freeTested d a1) := by
  intro d a1
  unfold Dev.freeTested
  repeat' first
    | (with_reducible assumption)
    | (with_reducible exact chg_refl _ _)
    | ((with_reducible apply Dev.endTest_keep); exact rfl)
    | (with_reducible apply chg_ite)
    | (with_reducible apply chg_foldl)
    | (with_reducible apply chg_foldl_snd)
    | (with_reducible apply chg_ite_snd)
    | intro _ _ _
    | intro _
    | split
    | (dsimp -proj only)

theorem Dev.freeTested_keep {t d0 d a1} (hs : tablesIn [.regs, .log, .logSeq, .spr, .evt, .kqp, .hlt] t = true) (hx : Dev.changesOnly t d0 d) : Dev.changesOnly t d0 (Dev.freeTested d a1) :=
  chg_step (Dev.freeTested_chg _ _) hs hx

theorem Dev.freshLanes_chg : ∀ d, Dev.changesOnly [.regs] d (Dev.freshLanes d) := by
  intro d
  unfold Dev.freshLanes
  repeat' first
    | (with_reducible assumption)
    | (with_reducible exact chg_refl _ _)
    | ((with_reducible apply Dev.wr_keep); exact rfl)
    | (with_reducible apply chg_ite)
    | (with_reducible apply chg_foldl)
    | (with_reducible apply chg_foldl_snd)
    | (with_reducible apply chg_ite_snd)
    | intro _ _ _
    | intro _
    | split
    | (dsimp -proj only)

theorem Dev.freshLanes_keep {t d0 d} (hs : tablesIn [.regs] t = true) (hx : Dev.changesOnly t d0 d) : Dev.changesOnly t d0 (Dev.freshLanes d) :=
  chg_step (Dev.freshLanes_chg _) hs hx

theorem Dev.frozenSkip_chg : ∀ d a1 a2 a3 a4, Dev.changesOnly [.regs, .log, .logSeq, .evt, .kqp, .ldg, .acr] d (Dev.frozenSkip d a1 a2 a3 a4) := by
  intro d a1 a2 a3 a4
  unfold Dev.frozenSkip
  repeat' first
    | (with_reducible assumption)
    | (with_reducible exact chg_refl _ _)
    | ((with_reducible apply Dev.incSat_keep); exact rfl)
    | ((with_reducible apply Dev.partRan_keep); exact rfl)
    | ((with_reducible apply Dev.raise_keep); exact rfl)
    | ((with_reducible apply Dev.setGrpStats_keep); exact rfl)
    | ((with_reducible apply Dev.setJob_keep); exact rfl)
    | (with_reducible apply chg_ite)
    | (with_reducible apply chg_foldl)
    | (with_reducible apply chg_foldl_snd)
    | (with_reducible apply chg_ite_snd)
    | intro _ _ _
    | intro _
    | split
    | (dsimp -proj only)

theorem Dev.frozenSkip_keep {t d0 d a1 a2 a3 a4} (hs : tablesIn [.regs, .log, .logSeq, .evt, .kqp, .ldg, .acr] t = true) (hx : Dev.changesOnly t d0 d) : Dev.changesOnly t d0 (Dev.frozenSkip d a1 a2 a3 a4) :=
  chg_step (Dev.frozenSkip_chg _ _ _ _ _) hs hx

theorem Dev.fwOp_keep {t d0 d f} (hs : tablesIn [.regs, .log, .logSeq, .evt] t = true) (ha : ∀ e, Dev.changesOnly t d0 e → Dev.changesOnly t d0 (f e)) (hx : Dev.changesOnly t d0 d) :
    Dev.changesOnly t d0 (Dev.fwOp d f) := by
  unfold Dev.fwOp
  refine chg_ite (Dev.badAccess_keep (tablesIn_trans (by exact rfl) hs) hx) (ha _ hx)

theorem Dev.fwWrite_chg : ∀ d a1, Dev.changesOnly [.regs, .log, .logSeq, .evt, .sec] d (Dev.fwWrite d a1) := by
  intro d a1
  unfold Dev.fwWrite
  repeat' first
    | (with_reducible assumption)
    | (with_reducible exact chg_refl _ _)
    | ((with_reducible apply Dev.fwOp_keep); exact rfl)
    | ((with_reducible apply Dev.raise_keep); exact rfl)
    | ((with_reducible apply Dev.setFlag_keep); exact rfl)
    | ((with_reducible apply Dev.setSec_keep); exact rfl)
    | ((with_reducible apply Dev.wr_keep); exact rfl)
    | (with_reducible apply chg_ite)
    | (with_reducible apply chg_foldl)
    | (with_reducible apply chg_foldl_snd)
    | (with_reducible apply chg_ite_snd)
    | intro _ _ _
    | intro _
    | split
    | (dsimp -proj only)

theorem Dev.fwWrite_keep {t d0 d a1} (hs : tablesIn [.regs, .log, .logSeq, .evt, .sec] t = true) (hx : Dev.changesOnly t d0 d) : Dev.changesOnly t d0 (Dev.fwWrite d a1) :=
  chg_step (Dev.fwWrite_chg _ _) hs hx

theorem Dev.isolate_chg : ∀ d a1 a2, Dev.changesOnly [.regs, .log, .logSeq, .evt, .kqp] d (Dev.isolate d a1 a2) := by
  intro d a1 a2
  unfold Dev.isolate
  repeat' first
    | (with_reducible assumption)
    | (with_reducible exact chg_refl _ _)
    | ((with_reducible apply Dev.failPart_keep); exact rfl)
    | ((with_reducible apply Dev.refused_keep); exact rfl)
    | (with_reducible apply chg_ite)
    | (with_reducible apply chg_foldl)
    | (with_reducible apply chg_foldl_snd)
    | (with_reducible apply chg_ite_snd)
    | intro _ _ _
    | intro _
    | split
    | (dsimp -proj only)

theorem Dev.isolate_keep {t d0 d a1 a2} (hs : tablesIn [.regs, .log, .logSeq, .evt, .kqp] t = true) (hx : Dev.changesOnly t d0 d) : Dev.changesOnly t d0 (Dev.isolate d a1 a2) :=
  chg_step (Dev.isolate_chg _ _ _) hs hx

theorem Dev.gate_keep {t d0 d x l act} (hs : tablesIn [.regs, .log, .logSeq, .evt, .kqp] t = true) (ha : ∀ e, Dev.changesOnly t d0 e → Dev.changesOnly t d0 (act e)) (hx : Dev.changesOnly t d0 d) :
    Dev.changesOnly t d0 (Dev.gate d x l act) := by
  unfold Dev.gate
  split
  · exact chg_ite (Dev.isolate_keep (tablesIn_trans (by exact rfl) hs) hx) (Dev.failPart_keep (tablesIn_trans (by exact rfl) hs) hx)
  · exact chg_ite (ha _ hx) hx

theorem Dev.glbHealth_chg : ∀ d, Dev.changesOnly [.regs, .log, .logSeq, .evt] d (Dev.glbHealth d) := by
  intro d
  unfold Dev.glbHealth
  repeat' first
    | (with_reducible assumption)
    | (with_reducible exact chg_refl _ _)
    | ((with_reducible apply Dev.setHealth_keep); exact rfl)
    | (with_reducible apply chg_ite)
    | (with_reducible apply chg_foldl)
    | (with_reducible apply chg_foldl_snd)
    | (with_reducible apply chg_ite_snd)
    | intro _ _ _
    | intro _
    | split
    | (dsimp -proj only)

theorem Dev.glbHealth_keep {t d0 d} (hs : tablesIn [.regs, .log, .logSeq, .evt] t = true) (hx : Dev.changesOnly t d0 d) : Dev.changesOnly t d0 (Dev.glbHealth d) :=
  chg_step (Dev.glbHealth_chg _) hs hx

theorem Dev.groupTouched_chg : ∀ d a1, Dev.changesOnly [.regs, .col] d (Dev.groupTouched d a1) := by
  intro d a1
  unfold Dev.groupTouched
  repeat' first
    | (with_reducible assumption)
    | (with_reducible exact chg_refl _ _)
    | ((with_reducible apply Dev.applyGroups_keep); exact rfl)
    | ((with_reducible apply Dev.setCol_keep); exact rfl)
    | (with_reducible apply chg_ite)
    | (with_reducible apply chg_foldl)
    | (with_reducible apply chg_foldl_snd)
    | (with_reducible apply chg_ite_snd)
    | intro _ _ _
    | intro _
    | split
    | (dsimp -proj only)

theorem Dev.groupTouched_keep {t d0 d a1} (hs : tablesIn [.regs, .col] t = true) (hx : Dev.changesOnly t d0 d) : Dev.changesOnly t d0 (Dev.groupTouched d a1) :=
  chg_step (Dev.groupTouched_chg _ _) hs hx

theorem Dev.hbmError_chg : ∀ d a1 a2 a3, Dev.changesOnly [.regs, .log, .logSeq, .evt, .tir] d (Dev.hbmError d a1 a2 a3) := by
  intro d a1 a2 a3
  unfold Dev.hbmError
  repeat' first
    | (with_reducible assumption)
    | (with_reducible exact chg_refl _ _)
    | ((with_reducible apply Dev.incSat_keep); exact rfl)
    | ((with_reducible apply Dev.raise_keep); exact rfl)
    | ((with_reducible apply Dev.raiseBits_keep); exact rfl)
    | ((with_reducible apply Dev.setTir_keep); exact rfl)
    | ((with_reducible apply Dev.wr_keep); exact rfl)
    | (with_reducible apply chg_ite)
    | (with_reducible apply chg_foldl)
    | (with_reducible apply chg_foldl_snd)
    | (with_reducible apply chg_ite_snd)
    | intro _ _ _
    | intro _
    | split
    | (dsimp -proj only)

theorem Dev.hbmError_keep {t d0 d a1 a2 a3} (hs : tablesIn [.regs, .log, .logSeq, .evt, .tir] t = true) (hx : Dev.changesOnly t d0 d) : Dev.changesOnly t d0 (Dev.hbmError d a1 a2 a3) :=
  chg_step (Dev.hbmError_chg _ _ _ _) hs hx

theorem Dev.headerRwl_chg : ∀ d a1 a2 a3, Dev.changesOnly [.regs] d (Dev.headerRwl d a1 a2 a3).1 := by
  intro d a1 a2 a3
  unfold Dev.headerRwl
  repeat' first
    | (with_reducible assumption)
    | (with_reducible exact chg_refl _ _)
    | ((with_reducible apply Dev.wr_keep); exact rfl)
    | (with_reducible apply chg_ite)
    | (with_reducible apply chg_foldl)
    | (with_reducible apply chg_foldl_snd)
    | (with_reducible apply chg_ite_snd)
    | intro _ _ _
    | intro _
    | split
    | (dsimp -proj only)

theorem Dev.headerRwl_chg_eq : ∀ d a1 a2 a3 e x0, Dev.headerRwl d a1 a2 a3 = (e, x0) → Dev.changesOnly [.regs] d e := by
  intro d a1 a2 a3 e x0 h
  have := Dev.headerRwl_chg d a1 a2 a3
  rw [h] at this
  exact this

theorem Dev.headerRwl_keep {t d0 d a1 a2 a3} (hs : tablesIn [.regs] t = true) (hx : Dev.changesOnly t d0 d) : Dev.changesOnly t d0 ((Dev.headerRwl d a1 a2 a3).1) :=
  chg_step (Dev.headerRwl_chg _ _ _ _) hs hx

theorem Dev.headerRwl_keep_eq {t d0 d a1 a2 a3 e x0} (h : Dev.headerRwl d a1 a2 a3 = (e, x0)) (hs : tablesIn [.regs] t = true) (hx : Dev.changesOnly t d0 d) : Dev.changesOnly t d0 e :=
  chg_step (Dev.headerRwl_chg_eq _ _ _ _ _ _ h) hs hx

theorem Dev.hearRank_chg : ∀ d a1 a2, Dev.changesOnly [.col] d (Dev.hearRank d a1 a2) := by
  intro d a1 a2
  unfold Dev.hearRank
  repeat' first
    | (with_reducible assumption)
    | (with_reducible exact chg_refl _ _)
    | ((with_reducible apply Dev.setCol_keep); exact rfl)
    | (with_reducible apply chg_ite)
    | (with_reducible apply chg_foldl)
    | (with_reducible apply chg_foldl_snd)
    | (with_reducible apply chg_ite_snd)
    | intro _ _ _
    | intro _
    | split
    | (dsimp -proj only)

theorem Dev.hearRank_keep {t d0 d a1 a2} (hs : tablesIn [.col] t = true) (hx : Dev.changesOnly t d0 d) : Dev.changesOnly t d0 (Dev.hearRank d a1 a2) :=
  chg_step (Dev.hearRank_chg _ _ _) hs hx

theorem Dev.hifCount_chg : ∀ d a1 a2, Dev.changesOnly [.regs] d (Dev.hifCount d a1 a2) := by
  intro d a1 a2
  unfold Dev.hifCount
  repeat' first
    | (with_reducible assumption)
    | (with_reducible exact chg_refl _ _)
    | ((with_reducible apply Dev.incSat_keep); exact rfl)
    | (with_reducible apply chg_ite)
    | (with_reducible apply chg_foldl)
    | (with_reducible apply chg_foldl_snd)
    | (with_reducible apply chg_ite_snd)
    | intro _ _ _
    | intro _
    | split
    | (dsimp -proj only)

theorem Dev.hifCount_keep {t d0 d a1 a2} (hs : tablesIn [.regs] t = true) (hx : Dev.changesOnly t d0 d) : Dev.changesOnly t d0 (Dev.hifCount d a1 a2) :=
  chg_step (Dev.hifCount_chg _ _ _) hs hx

theorem Dev.holdForLayer_chg : ∀ d a1 a2 a3, Dev.changesOnly [.kqp] d (Dev.holdForLayer d a1 a2 a3) := by
  intro d a1 a2 a3
  unfold Dev.holdForLayer
  repeat' first
    | (with_reducible assumption)
    | (with_reducible exact chg_refl _ _)
    | ((with_reducible apply Dev.setQueue_keep); exact rfl)
    | (with_reducible apply chg_ite)
    | (with_reducible apply chg_foldl)
    | (with_reducible apply chg_foldl_snd)
    | (with_reducible apply chg_ite_snd)
    | intro _ _ _
    | intro _
    | split
    | (dsimp -proj only)

theorem Dev.holdForLayer_keep {t d0 d a1 a2 a3} (hs : tablesIn [.kqp] t = true) (hx : Dev.changesOnly t d0 d) : Dev.changesOnly t d0 (Dev.holdForLayer d a1 a2 a3) :=
  chg_step (Dev.holdForLayer_chg _ _ _ _) hs hx

theorem Dev.hostDecision_chg : ∀ d a1, Dev.changesOnly [.regs, .t0, .t1, .log, .logSeq, .six, .evt, .kqp, .out, .tir, .mkt, .ldg, .acr, .col, .fab, .tbn] d (Dev.hostDecision d a1) := by
  intro d a1
  unfold Dev.hostDecision
  repeat' first
    | (with_reducible assumption)
    | (with_reducible exact chg_refl _ _)
    | ((with_reducible apply Dev.abortAttempt_keep); exact rfl)
    | ((with_reducible apply Dev.lateFlip_keep); exact rfl)
    | ((with_reducible apply Dev.setJob_keep); exact rfl)
    | ((with_reducible apply Dev.updNewest_keep); exact rfl)
    | (with_reducible apply chg_ite)
    | (with_reducible apply chg_foldl)
    | (with_reducible apply chg_foldl_snd)
    | (with_reducible apply chg_ite_snd)
    | intro _ _ _
    | intro _
    | split
    | (dsimp -proj only)

theorem Dev.hostDecision_keep {t d0 d a1} (hs : tablesIn [.regs, .t0, .t1, .log, .logSeq, .six, .evt, .kqp, .out, .tir, .mkt, .ldg, .acr, .col, .fab, .tbn] t = true) (hx : Dev.changesOnly t d0 d) : Dev.changesOnly t d0 (Dev.hostDecision d a1) :=
  chg_step (Dev.hostDecision_chg _ _) hs hx

theorem Dev.hostLost_chg : ∀ d a1, Dev.changesOnly [.regs, .log, .logSeq, .six, .evt, .out, .ldg, .fab, .tbn] d (Dev.hostLost d a1) := by
  intro d a1
  unfold Dev.hostLost
  repeat' first
    | (with_reducible assumption)
    | (with_reducible exact chg_refl _ _)
    | ((with_reducible apply Dev.parkJob_keep); exact rfl)
    | ((with_reducible apply Dev.sendLdg_keep); exact rfl)
    | ((with_reducible apply Dev.stepFailure_keep); exact rfl)
    | (with_reducible apply chg_ite)
    | (with_reducible apply chg_foldl)
    | (with_reducible apply chg_foldl_snd)
    | (with_reducible apply chg_ite_snd)
    | intro _ _ _
    | intro _
    | split
    | (dsimp -proj only)

theorem Dev.hostLost_keep {t d0 d a1} (hs : tablesIn [.regs, .log, .logSeq, .six, .evt, .out, .ldg, .fab, .tbn] t = true) (hx : Dev.changesOnly t d0 d) : Dev.changesOnly t d0 (Dev.hostLost d a1) :=
  chg_step (Dev.hostLost_chg _ _) hs hx

theorem Dev.imageDone_chg : ∀ d a1 a2, Dev.changesOnly [.regs, .log, .logSeq, .six, .evt, .out, .ldg, .fab, .tbn] d (Dev.imageDone d a1 a2) := by
  intro d a1 a2
  unfold Dev.imageDone
  repeat' first
    | (with_reducible assumption)
    | (with_reducible exact chg_refl _ _)
    | ((with_reducible apply Dev.drainOver_keep); exact rfl)
    | ((with_reducible apply Dev.raiseLdg_keep); exact rfl)
    | ((with_reducible apply Dev.setJob_keep); exact rfl)
    | ((with_reducible apply Dev.wr64_keep); exact rfl)
    | (with_reducible apply chg_ite)
    | (with_reducible apply chg_foldl)
    | (with_reducible apply chg_foldl_snd)
    | (with_reducible apply chg_ite_snd)
    | intro _ _ _
    | intro _
    | split
    | (dsimp -proj only)

theorem Dev.imageDone_keep {t d0 d a1 a2} (hs : tablesIn [.regs, .log, .logSeq, .six, .evt, .out, .ldg, .fab, .tbn] t = true) (hx : Dev.changesOnly t d0 d) : Dev.changesOnly t d0 (Dev.imageDone d a1 a2) :=
  chg_step (Dev.imageDone_chg _ _ _) hs hx

theorem Dev.joinReserve_chg : ∀ d a1 a2 a3, Dev.changesOnly [.regs, .log, .logSeq, .spr, .evt] d (Dev.joinReserve d a1 a2 a3) := by
  intro d a1 a2 a3
  unfold Dev.joinReserve
  repeat' first
    | (with_reducible assumption)
    | (with_reducible exact chg_refl _ _)
    | ((with_reducible apply Dev.raise_keep); exact rfl)
    | ((with_reducible apply Dev.setHealth_keep); exact rfl)
    | ((with_reducible apply Dev.setPhys_keep); exact rfl)
    | (with_reducible apply chg_ite)
    | (with_reducible apply chg_foldl)
    | (with_reducible apply chg_foldl_snd)
    | (with_reducible apply chg_ite_snd)
    | intro _ _ _
    | intro _
    | split
    | (dsimp -proj only)

theorem Dev.joinReserve_keep {t d0 d a1 a2 a3} (hs : tablesIn [.regs, .log, .logSeq, .spr, .evt] t = true) (hx : Dev.changesOnly t d0 d) : Dev.changesOnly t d0 (Dev.joinReserve d a1 a2 a3) :=
  chg_step (Dev.joinReserve_chg _ _ _ _) hs hx

theorem Dev.joinWrites_chg : ∀ d a1 a2 a3 a4, Dev.changesOnly [.ldg] d (Dev.joinWrites d a1 a2 a3 a4) := by
  intro d a1 a2 a3 a4
  unfold Dev.joinWrites
  repeat' first
    | (with_reducible assumption)
    | (with_reducible exact chg_refl _ _)
    | ((with_reducible apply Dev.setJob_keep); exact rfl)
    | (with_reducible apply chg_ite)
    | (with_reducible apply chg_foldl)
    | (with_reducible apply chg_foldl_snd)
    | (with_reducible apply chg_ite_snd)
    | intro _ _ _
    | intro _
    | split
    | (dsimp -proj only)

theorem Dev.joinWrites_keep {t d0 d a1 a2 a3 a4} (hs : tablesIn [.ldg] t = true) (hx : Dev.changesOnly t d0 d) : Dev.changesOnly t d0 (Dev.joinWrites d a1 a2 a3 a4) :=
  chg_step (Dev.joinWrites_chg _ _ _ _ _) hs hx

theorem Dev.startPort_chg : ∀ d a1, Dev.changesOnly [.regs, .log, .logSeq, .evt, .fab, .tbn] d (Dev.startPort d a1) := by
  intro d a1
  unfold Dev.startPort
  repeat' first
    | (with_reducible assumption)
    | (with_reducible exact chg_refl _ _)
    | ((with_reducible apply Dev.dropLink_keep); exact rfl)
    | ((with_reducible apply Dev.setPort_keep); exact rfl)
    | (with_reducible apply chg_ite)
    | (with_reducible apply chg_foldl)
    | (with_reducible apply chg_foldl_snd)
    | (with_reducible apply chg_ite_snd)
    | intro _ _ _
    | intro _
    | split
    | (dsimp -proj only)

theorem Dev.startPort_keep {t d0 d a1} (hs : tablesIn [.regs, .log, .logSeq, .evt, .fab, .tbn] t = true) (hx : Dev.changesOnly t d0 d) : Dev.changesOnly t d0 (Dev.startPort d a1) :=
  chg_step (Dev.startPort_chg _ _) hs hx

theorem Dev.laneApproved_chg : ∀ d a1, Dev.changesOnly [.regs, .log, .logSeq, .evt, .fab, .tbn] d (Dev.laneApproved d a1) := by
  intro d a1
  unfold Dev.laneApproved
  repeat' first
    | (with_reducible assumption)
    | (with_reducible exact chg_refl _ _)
    | ((with_reducible apply Dev.raise_keep); exact rfl)
    | ((with_reducible apply Dev.startPort_keep); exact rfl)
    | (with_reducible apply chg_ite)
    | (with_reducible apply chg_foldl)
    | (with_reducible apply chg_foldl_snd)
    | (with_reducible apply chg_ite_snd)
    | intro _ _ _
    | intro _
    | split
    | (dsimp -proj only)

theorem Dev.laneApproved_keep {t d0 d a1} (hs : tablesIn [.regs, .log, .logSeq, .evt, .fab, .tbn] t = true) (hx : Dev.changesOnly t d0 d) : Dev.changesOnly t d0 (Dev.laneApproved d a1) :=
  chg_step (Dev.laneApproved_chg _ _) hs hx

theorem Dev.lineCe_chg : ∀ d a1, Dev.changesOnly [.regs, .t0, .log, .logSeq, .spr, .six, .evt, .kqp, .out, .tir, .mkt, .ldg, .sec] d (Dev.lineCe d a1) := by
  intro d a1
  unfold Dev.lineCe
  repeat' first
    | (with_reducible assumption)
    | (with_reducible exact chg_refl _ _)
    | ((with_reducible apply Dev.failBank_keep); exact rfl)
    | ((with_reducible apply Dev.incSat_keep); exact rfl)
    | ((with_reducible apply Dev.mktError_keep); exact rfl)
    | ((with_reducible apply Dev.setBank_keep); exact rfl)
    | (with_reducible apply chg_ite)
    | (with_reducible apply chg_foldl)
    | (with_reducible apply chg_foldl_snd)
    | (with_reducible apply chg_ite_snd)
    | intro _ _ _
    | intro _
    | split
    | (dsimp -proj only)

theorem Dev.lineCe_keep {t d0 d a1} (hs : tablesIn [.regs, .t0, .log, .logSeq, .spr, .six, .evt, .kqp, .out, .tir, .mkt, .ldg, .sec] t = true) (hx : Dev.changesOnly t d0 d) : Dev.changesOnly t d0 (Dev.lineCe d a1) :=
  chg_step (Dev.lineCe_chg _ _) hs hx

theorem Dev.poisonLine_chg : ∀ d a1, Dev.changesOnly [.regs, .t0, .log, .logSeq, .six, .evt, .kqp, .out, .tir, .mkt, .ldg] d (Dev.poisonLine d a1).2 := by
  intro d a1
  unfold Dev.poisonLine
  repeat' first
    | (with_reducible assumption)
    | (with_reducible exact chg_refl _ _)
    | ((with_reducible apply Dev.loseT0_keep); exact rfl)
    | (refine Dev.loseT0_keep_eq (by with_reducible assumption) rfl ?_)
    | ((with_reducible apply Dev.setMkt_keep); exact rfl)
    | (with_reducible apply chg_ite)
    | (with_reducible apply chg_foldl)
    | (with_reducible apply chg_foldl_snd)
    | (with_reducible apply chg_ite_snd)
    | intro _ _ _
    | intro _
    | split
    | (dsimp -proj only)

theorem Dev.poisonLine_chg_eq : ∀ d a1 x0 e, Dev.poisonLine d a1 = (x0, e) → Dev.changesOnly [.regs, .t0, .log, .logSeq, .six, .evt, .kqp, .out, .tir, .mkt, .ldg] d e := by
  intro d a1 x0 e h
  have := Dev.poisonLine_chg d a1
  rw [h] at this
  exact this

theorem Dev.poisonLine_keep {t d0 d a1} (hs : tablesIn [.regs, .t0, .log, .logSeq, .six, .evt, .kqp, .out, .tir, .mkt, .ldg] t = true) (hx : Dev.changesOnly t d0 d) : Dev.changesOnly t d0 ((Dev.poisonLine d a1).2) :=
  chg_step (Dev.poisonLine_chg _ _) hs hx

theorem Dev.poisonLine_keep_eq {t d0 d a1 x0 e} (h : Dev.poisonLine d a1 = (x0, e)) (hs : tablesIn [.regs, .t0, .log, .logSeq, .six, .evt, .kqp, .out, .tir, .mkt, .ldg] t = true) (hx : Dev.changesOnly t d0 d) : Dev.changesOnly t d0 e :=
  chg_step (Dev.poisonLine_chg_eq _ _ _ _ h) hs hx

theorem Dev.lineUe_chg : ∀ d a1, Dev.changesOnly [.regs, .t0, .log, .logSeq, .spr, .six, .evt, .kqp, .out, .tir, .mkt, .ldg, .sec] d (Dev.lineUe d a1).2 := by
  intro d a1
  unfold Dev.lineUe
  repeat' first
    | (with_reducible assumption)
    | (with_reducible exact chg_refl _ _)
    | ((with_reducible apply Dev.failBank_keep); exact rfl)
    | ((with_reducible apply Dev.incSat_keep); exact rfl)
    | ((with_reducible apply Dev.mktError_keep); exact rfl)
    | ((with_reducible apply Dev.poisonLine_keep); exact rfl)
    | (refine Dev.poisonLine_keep_eq (by with_reducible assumption) rfl ?_)
    | (with_reducible apply chg_ite)
    | (with_reducible apply chg_foldl)
    | (with_reducible apply chg_foldl_snd)
    | (with_reducible apply chg_ite_snd)
    | intro _ _ _
    | intro _
    | split
    | (dsimp -proj only)

theorem Dev.lineUe_chg_eq : ∀ d a1 x0 e, Dev.lineUe d a1 = (x0, e) → Dev.changesOnly [.regs, .t0, .log, .logSeq, .spr, .six, .evt, .kqp, .out, .tir, .mkt, .ldg, .sec] d e := by
  intro d a1 x0 e h
  have := Dev.lineUe_chg d a1
  rw [h] at this
  exact this

theorem Dev.lineUe_keep {t d0 d a1} (hs : tablesIn [.regs, .t0, .log, .logSeq, .spr, .six, .evt, .kqp, .out, .tir, .mkt, .ldg, .sec] t = true) (hx : Dev.changesOnly t d0 d) : Dev.changesOnly t d0 ((Dev.lineUe d a1).2) :=
  chg_step (Dev.lineUe_chg _ _) hs hx

theorem Dev.lineUe_keep_eq {t d0 d a1 x0 e} (h : Dev.lineUe d a1 = (x0, e)) (hs : tablesIn [.regs, .t0, .log, .logSeq, .spr, .six, .evt, .kqp, .out, .tir, .mkt, .ldg, .sec] t = true) (hx : Dev.changesOnly t d0 d) : Dev.changesOnly t d0 e :=
  chg_step (Dev.lineUe_chg_eq _ _ _ _ h) hs hx

theorem Dev.lineError_chg : ∀ d a1 a2 a3, Dev.changesOnly [.regs, .t0, .log, .logSeq, .spr, .six, .evt, .kqp, .out, .tir, .mkt, .ldg, .sec] d (Dev.lineError d a1 a2 a3) := by
  intro d a1 a2 a3
  unfold Dev.lineError
  repeat' first
    | (with_reducible assumption)
    | (with_reducible exact chg_refl _ _)
    | ((with_reducible apply Dev.failPart_keep); exact rfl)
    | ((with_reducible apply Dev.incSat_keep); exact rfl)
    | ((with_reducible apply Dev.lineCe_keep); exact rfl)
    | ((with_reducible apply Dev.lineUe_keep); exact rfl)
    | (refine Dev.lineUe_keep_eq (by with_reducible assumption) rfl ?_)
    | ((with_reducible apply Dev.mktError_keep); exact rfl)
    | ((with_reducible apply Dev.raise_keep); exact rfl)
    | (with_reducible apply chg_ite)
    | (with_reducible apply chg_foldl)
    | (with_reducible apply chg_foldl_snd)
    | (with_reducible apply chg_ite_snd)
    | intro _ _ _
    | intro _
    | split
    | (dsimp -proj only)

theorem Dev.lineError_keep {t d0 d a1 a2 a3} (hs : tablesIn [.regs, .t0, .log, .logSeq, .spr, .six, .evt, .kqp, .out, .tir, .mkt, .ldg, .sec] t = true) (hx : Dev.changesOnly t d0 d) : Dev.changesOnly t d0 (Dev.lineError d a1 a2 a3) :=
  chg_step (Dev.lineError_chg _ _ _ _) hs hx

theorem Dev.linkGone_chg : ∀ d a1, Dev.changesOnly [.regs] d (Dev.linkGone d a1) := by
  intro d a1
  unfold Dev.linkGone
  repeat' first
    | (with_reducible assumption)
    | (with_reducible exact chg_refl _ _)
    | ((with_reducible apply Dev.wr_keep); exact rfl)
    | (with_reducible apply chg_ite)
    | (with_reducible apply chg_foldl)
    | (with_reducible apply chg_foldl_snd)
    | (with_reducible apply chg_ite_snd)
    | intro _ _ _
    | intro _
    | split
    | (dsimp -proj only)

theorem Dev.linkGone_keep {t d0 d a1} (hs : tablesIn [.regs] t = true) (hx : Dev.changesOnly t d0 d) : Dev.changesOnly t d0 (Dev.linkGone d a1) :=
  chg_step (Dev.linkGone_chg _ _) hs hx

theorem Dev.loadPoison_chg : ∀ d a1, Dev.changesOnly [.regs, .t0, .t1, .log, .logSeq, .evt, .tir, .mkt, .wset] d (Dev.loadPoison d a1) := by
  intro d a1
  unfold Dev.loadPoison
  repeat' first
    | (with_reducible assumption)
    | (with_reducible exact chg_refl _ _)
    | ((with_reducible apply Dev.chainBroken_keep); exact rfl)
    | ((with_reducible apply Dev.loadFail_keep); exact rfl)
    | (with_reducible apply chg_ite)
    | (with_reducible apply chg_foldl)
    | (with_reducible apply chg_foldl_snd)
    | (with_reducible apply chg_ite_snd)
    | intro _ _ _
    | intro _
    | split
    | (dsimp -proj only)

theorem Dev.loadPoison_keep {t d0 d a1} (hs : tablesIn [.regs, .t0, .t1, .log, .logSeq, .evt, .tir, .mkt, .wset] t = true) (hx : Dev.changesOnly t d0 d) : Dev.changesOnly t d0 (Dev.loadPoison d a1) :=
  chg_step (Dev.loadPoison_chg _ _) hs hx

theorem Dev.underLock_keep {t d0 d lock f off key act} (hs : tablesIn [.regs, .log, .logSeq, .evt] t = true) (ha : ∀ e, Dev.changesOnly t d0 e → Dev.changesOnly t d0 (act e)) (hx : Dev.changesOnly t d0 d) :
    Dev.changesOnly t d0 (Dev.underLock d lock f off key act) := by
  unfold Dev.underLock
  refine chg_ite (chg_ite hx (Dev.badAccess_keep (tablesIn_trans (by exact rfl) hs) hx)) (ha _ hx)

theorem Dev.lockedWrite_keep {t d0 d f p off key act} (hs : tablesIn [.regs, .log, .logSeq, .evt] t = true) (ha : ∀ e, Dev.changesOnly t d0 e → Dev.changesOnly t d0 (act e)) (hx : Dev.changesOnly t d0 d) :
    Dev.changesOnly t d0 (Dev.lockedWrite d f p off key act) := by
  unfold Dev.lockedWrite
  refine chg_ite (Dev.badAccess_keep (tablesIn_trans (by exact rfl) hs) hx) (Dev.underLock_keep (tablesIn_trans (by exact rfl) hs) ha hx)

theorem Dev.lookAhead_chg : ∀ d a1 a2, Dev.changesOnly [.regs, .log, .logSeq, .six, .evt, .out, .tir, .mkt] d (Dev.lookAhead d a1 a2) := by
  intro d a1 a2
  unfold Dev.lookAhead
  repeat' first
    | (with_reducible assumption)
    | (with_reducible exact chg_refl _ _)
    | ((with_reducible apply Dev.bring0_keep); exact rfl)
    | (refine Dev.bring0_keep_eq (by with_reducible assumption) rfl ?_)
    | (with_reducible apply chg_ite)
    | (with_reducible apply chg_foldl)
    | (with_reducible apply chg_foldl_snd)
    | (with_reducible apply chg_ite_snd)
    | intro _ _ _
    | intro _
    | split
    | (dsimp -proj only)

theorem Dev.lookAhead_keep {t d0 d a1 a2} (hs : tablesIn [.regs, .log, .logSeq, .six, .evt, .out, .tir, .mkt] t = true) (hx : Dev.changesOnly t d0 d) : Dev.changesOnly t d0 (Dev.lookAhead d a1 a2) :=
  chg_step (Dev.lookAhead_chg _ _ _) hs hx

theorem Dev.losePkt_chg : ∀ d a1 a2, Dev.changesOnly [.regs, .log, .logSeq, .six, .evt, .out, .tbn] d (Dev.losePkt d a1 a2) := by
  intro d a1 a2
  unfold Dev.losePkt
  repeat' first
    | (with_reducible assumption)
    | (with_reducible exact chg_refl _ _)
    | ((with_reducible apply Dev.countLoss_keep); exact rfl)
    | ((with_reducible apply Dev.setConn_keep); exact rfl)
    | (with_reducible apply chg_ite)
    | (with_reducible apply chg_foldl)
    | (with_reducible apply chg_foldl_snd)
    | (with_reducible apply chg_ite_snd)
    | intro _ _ _
    | intro _
    | split
    | (dsimp -proj only)

theorem Dev.losePkt_keep {t d0 d a1 a2} (hs : tablesIn [.regs, .log, .logSeq, .six, .evt, .out, .tbn] t = true) (hx : Dev.changesOnly t d0 d) : Dev.changesOnly t d0 (Dev.losePkt d a1 a2) :=
  chg_step (Dev.losePkt_chg _ _ _) hs hx

theorem Dev.loseT1_chg : ∀ d a1 a2, Dev.changesOnly [.regs, .t0, .t1, .log, .logSeq, .six, .evt, .kqp, .out, .tir, .mkt, .ldg] d (Dev.loseT1 d a1 a2).2 := by
  intro d a1 a2
  unfold Dev.loseT1
  repeat' first
    | (with_reducible assumption)
    | (with_reducible exact chg_refl _ _)
    | ((with_reducible apply Dev.moveDone_keep); exact rfl)
    | ((with_reducible apply Dev.poisonUnit_keep); exact rfl)
    | ((with_reducible apply Dev.release0_keep); exact rfl)
    | ((with_reducible apply Dev.setUnit_keep); exact rfl)
    | ((with_reducible apply Dev.trimT1_keep); exact rfl)
    | (with_reducible apply chg_ite)
    | (with_reducible apply chg_foldl)
    | (with_reducible apply chg_foldl_snd)
    | (with_reducible apply chg_ite_snd)
    | intro _ _ _
    | intro _
    | split
    | (dsimp -proj only)

theorem Dev.loseT1_chg_eq : ∀ d a1 a2 x0 e, Dev.loseT1 d a1 a2 = (x0, e) → Dev.changesOnly [.regs, .t0, .t1, .log, .logSeq, .six, .evt, .kqp, .out, .tir, .mkt, .ldg] d e := by
  intro d a1 a2 x0 e h
  have := Dev.loseT1_chg d a1 a2
  rw [h] at this
  exact this

theorem Dev.loseT1_keep {t d0 d a1 a2} (hs : tablesIn [.regs, .t0, .t1, .log, .logSeq, .six, .evt, .kqp, .out, .tir, .mkt, .ldg] t = true) (hx : Dev.changesOnly t d0 d) : Dev.changesOnly t d0 ((Dev.loseT1 d a1 a2).2) :=
  chg_step (Dev.loseT1_chg _ _ _) hs hx

theorem Dev.loseT1_keep_eq {t d0 d a1 a2 x0 e} (h : Dev.loseT1 d a1 a2 = (x0, e)) (hs : tablesIn [.regs, .t0, .t1, .log, .logSeq, .six, .evt, .kqp, .out, .tir, .mkt, .ldg] t = true) (hx : Dev.changesOnly t d0 d) : Dev.changesOnly t d0 e :=
  chg_step (Dev.loseT1_chg_eq _ _ _ _ _ h) hs hx

theorem Dev.lowPower_chg : ∀ d, Dev.changesOnly [.regs, .stampHold, .t0, .t1, .log, .logSeq, .msix, .msixPend, .spr, .six, .evt, .kqp, .tir, .mkt, .ldg, .hlt, .wset, .acr, .col, .fab, .tbn, .sec, .tim, .pwr, .hif, .ccr] d (Dev.lowPower d) := by
  intro d
  unfold Dev.lowPower
  repeat' first
    | (with_reducible assumption)
    | (with_reducible exact chg_refl _ _)
    | ((with_reducible apply Dev.disableQueue_keep); exact rfl)
    | ((with_reducible apply Dev.enterLow_keep); exact rfl)
    | ((with_reducible apply Dev.setPwr_keep); exact rfl)
    | (with_reducible apply chg_ite)
    | (with_reducible apply chg_foldl)
    | (with_reducible apply chg_foldl_snd)
    | (with_reducible apply chg_ite_snd)
    | intro _ _ _
    | intro _
    | split
    | (dsimp -proj only)

theorem Dev.lowPower_keep {t d0 d} (hs : tablesIn [.regs, .stampHold, .t0, .t1, .log, .logSeq, .msix, .msixPend, .spr, .six, .evt, .kqp, .tir, .mkt, .ldg, .hlt, .wset, .acr, .col, .fab, .tbn, .sec, .tim, .pwr, .hif, .ccr] t = true) (hx : Dev.changesOnly t d0 d) : Dev.changesOnly t d0 (Dev.lowPower d) :=
  chg_step (Dev.lowPower_chg _) hs hx

theorem Dev.mailbox_keep {t d0 d f op act} (hs : tablesIn [.regs, .log, .logSeq, .evt] t = true) (ha : ∀ e r p k o, Dev.changesOnly t d0 e → Dev.changesOnly t d0 (act e r p k o)) (hx : Dev.changesOnly t d0 d) :
    Dev.changesOnly t d0 (Dev.mailbox d f op act) := by
  unfold Dev.mailbox
  refine chg_when (fun _ => chg_ite (Dev.badAccess_keep (tablesIn_trans (by exact rfl) hs) hx) ?_) hx
  split
  · exact Dev.mbxDone_keep (tablesIn_trans (by exact rfl) hs) hx
  · refine chg_ite (ha _ _ _ _ _ hx) ?_
    split
    · exact Dev.mbxDone_keep (tablesIn_trans (by exact rfl) hs) hx
    · exact ha _ _ _ _ _ hx

theorem Dev.monitorFault_keep {t d0 d key f} (hs : tablesIn [.regs, .log, .logSeq, .six, .evt, .out, .hlt, .fab, .tbn] t = true) (ha : ∀ e, Dev.changesOnly t d0 e → Dev.changesOnly t d0 (f e)) (hx : Dev.changesOnly t d0 d) :
    Dev.changesOnly t d0 (Dev.monitorFault d key f) := by
  unfold Dev.monitorFault
  exact Dev.raise_keep (tablesIn_trans (by exact rfl) hs) (chg_ite (Dev.outOfService_keep (tablesIn_trans (by exact rfl) hs) hx) (ha _ (Dev.setHlt_keep (tablesIn_trans (by exact rfl) hs) hx)))

theorem Dev.monitorStatus_chg : ∀ d, Dev.changesOnly [.free] d (Dev.monitorStatus d).2 := by
  intro d
  unfold Dev.monitorStatus
  repeat' first
    | (with_reducible assumption)
    | (with_reducible exact chg_refl _ _)
    | ((with_reducible apply Dev.drawIndex_keep); exact rfl)
    | (refine Dev.drawIndex_keep_eq (by with_reducible assumption) rfl ?_)
    | (with_reducible apply chg_ite)
    | (with_reducible apply chg_foldl)
    | (with_reducible apply chg_foldl_snd)
    | (with_reducible apply chg_ite_snd)
    | intro _ _ _
    | intro _
    | split
    | (dsimp -proj only)

theorem Dev.monitorStatus_chg_eq : ∀ d x0 e, Dev.monitorStatus d = (x0, e) → Dev.changesOnly [.free] d e := by
  intro d x0 e h
  have := Dev.monitorStatus_chg d
  rw [h] at this
  exact this

theorem Dev.monitorStatus_keep {t d0 d} (hs : tablesIn [.free] t = true) (hx : Dev.changesOnly t d0 d) : Dev.changesOnly t d0 ((Dev.monitorStatus d).2) :=
  chg_step (Dev.monitorStatus_chg _) hs hx

theorem Dev.monitorStatus_keep_eq {t d0 d x0 e} (h : Dev.monitorStatus d = (x0, e)) (hs : tablesIn [.free] t = true) (hx : Dev.changesOnly t d0 d) : Dev.changesOnly t d0 e :=
  chg_step (Dev.monitorStatus_chg_eq _ _ _ h) hs hx

theorem Dev.narrowWrite_chg : ∀ d a1 a2, Dev.changesOnly [.regs, .log, .logSeq, .evt] d (Dev.narrowWrite d a1 a2) := by
  intro d a1 a2
  unfold Dev.narrowWrite
  repeat' first
    | (with_reducible assumption)
    | (with_reducible exact chg_refl _ _)
    | ((with_reducible apply Dev.badAccess_keep); exact rfl)
    | (with_reducible apply chg_ite)
    | (with_reducible apply chg_foldl)
    | (with_reducible apply chg_foldl_snd)
    | (with_reducible apply chg_ite_snd)
    | intro _ _ _
    | intro _
    | split
    | (dsimp -proj only)

theorem Dev.narrowWrite_keep {t d0 d a1 a2} (hs : tablesIn [.regs, .log, .logSeq, .evt] t = true) (hx : Dev.changesOnly t d0 d) : Dev.changesOnly t d0 (Dev.narrowWrite d a1 a2) :=
  chg_step (Dev.narrowWrite_chg _ _ _) hs hx

theorem Dev.neverStarts_chg : ∀ d a1 a2 a3 a4 a5 a6, Dev.changesOnly [.regs, .log, .logSeq, .msixPend, .six, .evt, .kqp, .out, .ldg, .col] d (Dev.neverStarts d a1 a2 a3 a4 a5 a6) := by
  intro d a1 a2 a3 a4 a5 a6
  unfold Dev.neverStarts
  repeat' first
    | (with_reducible assumption)
    | (with_reducible exact chg_refl _ _)
    | ((with_reducible apply Dev.cmdEnded_keep); exact rfl)
    | ((with_reducible apply Dev.dropHead_keep); exact rfl)
    | ((with_reducible apply Dev.setQueue_keep); exact rfl)
    | (with_reducible apply chg_ite)
    | (with_reducible apply chg_foldl)
    | (with_reducible apply chg_foldl_snd)
    | (with_reducible apply chg_ite_snd)
    | intro _ _ _
    | intro _
    | split
    | (dsimp -proj only)

theorem Dev.neverStarts_keep {t d0 d a1 a2 a3 a4 a5 a6} (hs : tablesIn [.regs, .log, .logSeq, .msixPend, .six, .evt, .kqp, .out, .ldg, .col] t = true) (hx : Dev.changesOnly t d0 d) : Dev.changesOnly t d0 (Dev.neverStarts d a1 a2 a3 a4 a5 a6) :=
  chg_step (Dev.neverStarts_chg _ _ _ _ _ _ _) hs hx

theorem Dev.notReady_chg : ∀ d a1 a2, Dev.changesOnly [.regs, .fab] d (Dev.notReady d a1 a2) := by
  intro d a1 a2
  unfold Dev.notReady
  repeat' first
    | (with_reducible assumption)
    | (with_reducible exact chg_refl _ _)
    | ((with_reducible apply Dev.incSat_keep); exact rfl)
    | ((with_reducible apply Dev.sendService_keep); exact rfl)
    | (with_reducible apply chg_ite)
    | (with_reducible apply chg_foldl)
    | (with_reducible apply chg_foldl_snd)
    | (with_reducible apply chg_ite_snd)
    | intro _ _ _
    | intro _
    | split
    | (dsimp -proj only)

theorem Dev.notReady_keep {t d0 d a1 a2} (hs : tablesIn [.regs, .fab] t = true) (hx : Dev.changesOnly t d0 d) : Dev.changesOnly t d0 (Dev.notReady d a1 a2) :=
  chg_step (Dev.notReady_chg _ _ _) hs hx

theorem Dev.noteEscalation_chg : ∀ d a1, Dev.changesOnly [.regs, .log, .logSeq, .six, .evt, .out, .hlt] d (Dev.noteEscalation d a1) := by
  intro d a1
  unfold Dev.noteEscalation
  repeat' first
    | (with_reducible assumption)
    | (with_reducible exact chg_refl _ _)
    | ((with_reducible apply Dev.dumpTrigger_keep); exact rfl)
    | ((with_reducible apply Dev.raise_keep); exact rfl)
    | ((with_reducible apply Dev.setFlag_keep); exact rfl)
    | (with_reducible apply chg_ite)
    | (with_reducible apply chg_foldl)
    | (with_reducible apply chg_foldl_snd)
    | (with_reducible apply chg_ite_snd)
    | intro _ _ _
    | intro _
    | split
    | (dsimp -proj only)

theorem Dev.noteEscalation_keep {t d0 d a1} (hs : tablesIn [.regs, .log, .logSeq, .six, .evt, .out, .hlt] t = true) (hx : Dev.changesOnly t d0 d) : Dev.changesOnly t d0 (Dev.noteEscalation d a1) :=
  chg_step (Dev.noteEscalation_chg _ _) hs hx

theorem Dev.noteMonitors_chg : ∀ d, Dev.changesOnly [.hlt] d (Dev.noteMonitors d) := by
  intro d
  unfold Dev.noteMonitors
  repeat' first
    | (with_reducible assumption)
    | (with_reducible exact chg_refl _ _)
    | ((with_reducible apply Dev.setHlt_keep); exact rfl)
    | (with_reducible apply chg_ite)
    | (with_reducible apply chg_foldl)
    | (with_reducible apply chg_foldl_snd)
    | (with_reducible apply chg_ite_snd)
    | intro _ _ _
    | intro _
    | split
    | (dsimp -proj only)

theorem Dev.noteMonitors_keep {t d0 d} (hs : tablesIn [.hlt] t = true) (hx : Dev.changesOnly t d0 d) : Dev.changesOnly t d0 (Dev.noteMonitors d) :=
  chg_step (Dev.noteMonitors_chg _) hs hx

theorem Dev.noteOffset_chg : ∀ d a1, Dev.changesOnly [.regs, .log, .logSeq, .evt, .tim] d (Dev.noteOffset d a1) := by
  intro d a1
  unfold Dev.noteOffset
  repeat' first
    | (with_reducible assumption)
    | (with_reducible exact chg_refl _ _)
    | ((with_reducible apply Dev.raise_keep); exact rfl)
    | ((with_reducible apply Dev.setTim_keep); exact rfl)
    | ((with_reducible apply Dev.wr_keep); exact rfl)
    | (with_reducible apply chg_ite)
    | (with_reducible apply chg_foldl)
    | (with_reducible apply chg_foldl_snd)
    | (with_reducible apply chg_ite_snd)
    | intro _ _ _
    | intro _
    | split
    | (dsimp -proj only)

theorem Dev.noteOffset_keep {t d0 d a1} (hs : tablesIn [.regs, .log, .logSeq, .evt, .tim] t = true) (hx : Dev.changesOnly t d0 d) : Dev.changesOnly t d0 (Dev.noteOffset d a1) :=
  chg_step (Dev.noteOffset_chg _ _) hs hx

theorem Dev.onConn_keep {t d0 d c ver f} (hs : tablesIn [.regs] t = true) (ha : ∀ e x, Dev.changesOnly t d0 e → Dev.changesOnly t d0 (f e x)) (hx : Dev.changesOnly t d0 d) :
    Dev.changesOnly t d0 (Dev.onConn d c ver f) := by
  unfold Dev.onConn
  split
  · exact Dev.rxBad_keep (tablesIn_trans (by exact rfl) hs) hx
  · exact chg_ite (ha _ _ (Dev.inc_keep (tablesIn_trans (by exact rfl) hs) hx)) (Dev.rxBad_keep (tablesIn_trans (by exact rfl) hs) hx)

theorem Dev.onMark_chg : ∀ d a1 a2, Dev.changesOnly [.regs, .fab, .tbn] d (Dev.onMark d a1 a2) := by
  intro d a1 a2
  unfold Dev.onMark
  repeat' first
    | (with_reducible assumption)
    | (with_reducible exact chg_refl _ _)
    | ((with_reducible apply Dev.incSat_keep); exact rfl)
    | ((with_reducible apply Dev.sendService_keep); exact rfl)
    | ((with_reducible apply Dev.setConn_keep); exact rfl)
    | (with_reducible apply chg_ite)
    | (with_reducible apply chg_foldl)
    | (with_reducible apply chg_foldl_snd)
    | (with_reducible apply chg_ite_snd)
    | intro _ _ _
    | intro _
    | split
    | (dsimp -proj only)

theorem Dev.onMark_keep {t d0 d a1 a2} (hs : tablesIn [.regs, .fab, .tbn] t = true) (hx : Dev.changesOnly t d0 d) : Dev.changesOnly t d0 (Dev.onMark d a1 a2) :=
  chg_step (Dev.onMark_chg _ _ _) hs hx

theorem Dev.sit_chg : ∀ d a1 a2, Dev.changesOnly [.kqp] d (Dev.sit d a1 a2) := by
  intro d a1 a2
  unfold Dev.sit
  repeat' first
    | (with_reducible assumption)
    | (with_reducible exact chg_refl _ _)
    | ((with_reducible apply Dev.setCmd_keep); exact rfl)
    | (with_reducible apply chg_ite)
    | (with_reducible apply chg_foldl)
    | (with_reducible apply chg_foldl_snd)
    | (with_reducible apply chg_ite_snd)
    | intro _ _ _
    | intro _
    | split
    | (dsimp -proj only)

theorem Dev.sit_keep {t d0 d a1 a2} (hs : tablesIn [.kqp] t = true) (hx : Dev.changesOnly t d0 d) : Dev.changesOnly t d0 (Dev.sit d a1 a2) :=
  chg_step (Dev.sit_chg _ _ _) hs hx

theorem Dev.onUnit_keep {t d0 d x op act} (hs : tablesIn [.kqp] t = true) (ha : ∀ e c v, Dev.changesOnly t d0 e → Dev.changesOnly t d0 (act e c v)) (hx : Dev.changesOnly t d0 d) :
    Dev.changesOnly t d0 (Dev.onUnit d x op act) := by
  unfold Dev.onUnit
  refine chg_when (fun _ => chg_ite (Dev.failPart_keep (tablesIn_trans (by exact rfl) hs) hx) ?_) hx
  split
  · exact hx
  · exact ha _ _ _ (Dev.sit_keep (tablesIn_trans (by exact rfl) hs) hx)

theorem Dev.putPlain_chg : ∀ d a1 a2 a3, Dev.changesOnly [.t1] d (Dev.putPlain d a1 a2 a3) := by
  intro d a1 a2 a3
  unfold Dev.putPlain
  repeat' first
    | (with_reducible assumption)
    | (with_reducible exact chg_refl _ _)
    | ((with_reducible apply Dev.write1_keep); exact rfl)
    | (with_reducible apply chg_ite)
    | (with_reducible apply chg_foldl)
    | (with_reducible apply chg_foldl_snd)
    | (with_reducible apply chg_ite_snd)
    | intro _ _ _
    | intro _
    | split
    | (dsimp -proj only)

theorem Dev.putPlain_keep {t d0 d a1 a2 a3} (hs : tablesIn [.t1] t = true) (hx : Dev.changesOnly t d0 d) : Dev.changesOnly t d0 (Dev.putPlain d a1 a2 a3) :=
  chg_step (Dev.putPlain_chg _ _ _ _) hs hx

theorem Dev.openChunk_chg : ∀ d a1 a2 a3, Dev.changesOnly [.regs, .t0, .t1, .log, .logSeq, .six, .evt, .kqp, .out, .tir, .mkt, .ldg, .wset] d (Dev.openChunk d a1 a2 a3) := by
  intro d a1 a2 a3
  unfold Dev.openChunk
  repeat' first
    | (with_reducible assumption)
    | (with_reducible exact chg_refl _ _)
    | ((with_reducible apply Dev.incSat_keep); exact rfl)
    | ((with_reducible apply Dev.loadDone_keep); exact rfl)
    | ((with_reducible apply Dev.loadFail_keep); exact rfl)
    | ((with_reducible apply Dev.poisonUnit_keep); exact rfl)
    | ((with_reducible apply Dev.putPlain_keep); exact rfl)
    | ((with_reducible apply Dev.raise_keep); exact rfl)
    | ((with_reducible apply Dev.updLoad_keep); exact rfl)
    | (with_reducible apply chg_ite)
    | (with_reducible apply chg_foldl)
    | (with_reducible apply chg_foldl_snd)
    | (with_reducible apply chg_ite_snd)
    | intro _ _ _
    | intro _
    | split
    | (dsimp -proj only)

theorem Dev.openChunk_keep {t d0 d a1 a2 a3} (hs : tablesIn [.regs, .t0, .t1, .log, .logSeq, .six, .evt, .kqp, .out, .tir, .mkt, .ldg, .wset] t = true) (hx : Dev.changesOnly t d0 d) : Dev.changesOnly t d0 (Dev.openChunk d a1 a2 a3) :=
  chg_step (Dev.openChunk_chg _ _ _ _) hs hx

theorem Dev.pushRecord_chg : ∀ d a1 a2, Dev.changesOnly [.regs, .ldg] d (Dev.pushRecord d a1 a2) := by
  intro d a1 a2
  unfold Dev.pushRecord
  repeat' first
    | (with_reducible assumption)
    | (with_reducible exact chg_refl _ _)
    | ((with_reducible apply Dev.setJob_keep); exact rfl)
    | ((with_reducible apply Dev.wr_keep); exact rfl)
    | (with_reducible apply chg_ite)
    | (with_reducible apply chg_foldl)
    | (with_reducible apply chg_foldl_snd)
    | (with_reducible apply chg_ite_snd)
    | intro _ _ _
    | intro _
    | split
    | (dsimp -proj only)

theorem Dev.pushRecord_keep {t d0 d a1 a2} (hs : tablesIn [.regs, .ldg] t = true) (hx : Dev.changesOnly t d0 d) : Dev.changesOnly t d0 (Dev.pushRecord d a1 a2) :=
  chg_step (Dev.pushRecord_chg _ _ _) hs hx

theorem Dev.scaleOpen_chg : ∀ d j, Dev.changesOnly [.regs, .t0, .t1, .log, .logSeq, .evt, .tir] d (Dev.scaleOpen d j) := by
  intro d j
  unfold Dev.scaleOpen
  refine chg_ite (chg_refl _ _) (Dev.eachEntry_keep (by exact rfl) (fun e n x he => ?_) ?_)
  · exact chg_ite (Dev.applyScale_keep (by exact rfl) he) he
  · exact chg_ite (chg_refl _ _) (Dev.raise_keep (by exact rfl) (Dev.setFlag_keep (by exact rfl) (chg_refl _ _)))

theorem Dev.scaleOpen_keep {t d0 d j} (hs : tablesIn [.regs, .t0, .t1, .log, .logSeq, .evt, .tir] t = true) (hx : Dev.changesOnly t d0 d) : Dev.changesOnly t d0 (Dev.scaleOpen d j) :=
  chg_step (Dev.scaleOpen_chg _ _) hs hx

theorem Dev.openStep_chg : ∀ d a1 a2 a3 a4 a5, Dev.changesOnly [.regs, .t0, .t1, .log, .logSeq, .evt, .tir, .ldg, .acr, .col] d (Dev.openStep d a1 a2 a3 a4 a5) := by
  intro d a1 a2 a3 a4 a5
  unfold Dev.openStep
  repeat' first
    | (with_reducible assumption)
    | (with_reducible exact chg_refl _ _)
    | ((with_reducible apply Dev.addBinds_keep); exact rfl)
    | ((with_reducible apply Dev.applyGroups_keep); exact rfl)
    | ((with_reducible apply Dev.pushRecord_keep); exact rfl)
    | ((with_reducible apply Dev.scaleOpen_keep); exact rfl)
    | ((with_reducible apply Dev.setAcr_keep); exact rfl)
    | ((with_reducible apply Dev.setJob_keep); exact rfl)
    | ((with_reducible apply Dev.setJobSt_keep); exact rfl)
    | ((with_reducible apply Dev.setStepState_keep); exact rfl)
    | ((with_reducible apply Dev.showCoord_keep); exact rfl)
    | ((with_reducible apply Dev.stepFailure_keep); exact rfl)
    | ((with_reducible apply Dev.wr_keep); exact rfl)
    | ((with_reducible apply Dev.wr64_keep); exact rfl)
    | (with_reducible apply chg_ite)
    | (with_reducible apply chg_foldl)
    | (with_reducible apply chg_foldl_snd)
    | (with_reducible apply chg_ite_snd)
    | intro _ _ _
    | intro _
    | split
    | (dsimp -proj only)

theorem Dev.openStep_keep {t d0 d a1 a2 a3 a4 a5} (hs : tablesIn [.regs, .t0, .t1, .log, .logSeq, .evt, .tir, .ldg, .acr, .col] t = true) (hx : Dev.changesOnly t d0 d) : Dev.changesOnly t d0 (Dev.openStep d a1 a2 a3 a4 a5) :=
  chg_step (Dev.openStep_chg _ _ _ _ _ _) hs hx

theorem Dev.openWith_chg : ∀ d a1 a2 a3 a4 a5, Dev.changesOnly [.regs, .fab, .tbn] d (Dev.openWith d a1 a2 a3 a4 a5) := by
  intro d a1 a2 a3 a4 a5
  unfold Dev.openWith
  repeat' first
    | (with_reducible assumption)
    | (with_reducible exact chg_refl _ _)
    | ((with_reducible apply Dev.pump_keep); exact rfl)
    | ((with_reducible apply Dev.setConn_keep); exact rfl)
    | ((with_reducible apply Dev.setPeer_keep); exact rfl)
    | (with_reducible apply chg_ite)
    | (with_reducible apply chg_foldl)
    | (with_reducible apply chg_foldl_snd)
    | (with_reducible apply chg_ite_snd)
    | intro _ _ _
    | intro _
    | split
    | (dsimp -proj only)

theorem Dev.openWith_keep {t d0 d a1 a2 a3 a4 a5} (hs : tablesIn [.regs, .fab, .tbn] t = true) (hx : Dev.changesOnly t d0 d) : Dev.changesOnly t d0 (Dev.openWith d a1 a2 a3 a4 a5) :=
  chg_step (Dev.openWith_chg _ _ _ _ _ _) hs hx

theorem Dev.originateRed_chg : ∀ d a1 a2 a3, Dev.changesOnly [.regs, .log, .logSeq, .six, .evt, .out, .ldg, .fab, .tbn] d (Dev.originateRed d a1 a2 a3) := by
  intro d a1 a2 a3
  unfold Dev.originateRed
  repeat' first
    | (with_reducible assumption)
    | (with_reducible exact chg_refl _ _)
    | ((with_reducible apply Dev.incSat_keep); exact rfl)
    | ((with_reducible apply Dev.raise_keep); exact rfl)
    | ((with_reducible apply Dev.sendCtrl_keep); exact rfl)
    | ((with_reducible apply Dev.setJob_keep); exact rfl)
    | (with_reducible apply chg_ite)
    | (with_reducible apply chg_foldl)
    | (with_reducible apply chg_foldl_snd)
    | (with_reducible apply chg_ite_snd)
    | intro _ _ _
    | intro _
    | split
    | (dsimp -proj only)

theorem Dev.originateRed_keep {t d0 d a1 a2 a3} (hs : tablesIn [.regs, .log, .logSeq, .six, .evt, .out, .ldg, .fab, .tbn] t = true) (hx : Dev.changesOnly t d0 d) : Dev.changesOnly t d0 (Dev.originateRed d a1 a2 a3) :=
  chg_step (Dev.originateRed_chg _ _ _ _) hs hx

theorem Dev.showPause_chg : ∀ d a1, Dev.changesOnly [.regs] d (Dev.showPause d a1) := by
  intro d a1
  unfold Dev.showPause
  repeat' first
    | (with_reducible assumption)
    | (with_reducible exact chg_refl _ _)
    | ((with_reducible apply Dev.wr_keep); exact rfl)
    | (with_reducible apply chg_ite)
    | (with_reducible apply chg_foldl)
    | (with_reducible apply chg_foldl_snd)
    | (with_reducible apply chg_ite_snd)
    | intro _ _ _
    | intro _
    | split
    | (dsimp -proj only)

theorem Dev.showPause_keep {t d0 d a1} (hs : tablesIn [.regs] t = true) (hx : Dev.changesOnly t d0 d) : Dev.changesOnly t d0 (Dev.showPause d a1) :=
  chg_step (Dev.showPause_chg _ _) hs hx

theorem Dev.unpause_chg : ∀ d a1 a2, Dev.changesOnly [.regs, .fab] d (Dev.unpause d a1 a2) := by
  intro d a1 a2
  unfold Dev.unpause
  repeat' first
    | (with_reducible assumption)
    | (with_reducible exact chg_refl _ _)
    | ((with_reducible apply Dev.setPort_keep); exact rfl)
    | ((with_reducible apply Dev.showPause_keep); exact rfl)
    | (with_reducible apply chg_ite)
    | (with_reducible apply chg_foldl)
    | (with_reducible apply chg_foldl_snd)
    | (with_reducible apply chg_ite_snd)
    | intro _ _ _
    | intro _
    | split
    | (dsimp -proj only)

theorem Dev.unpause_keep {t d0 d a1 a2} (hs : tablesIn [.regs, .fab] t = true) (hx : Dev.changesOnly t d0 d) : Dev.changesOnly t d0 (Dev.unpause d a1 a2) :=
  chg_step (Dev.unpause_chg _ _ _) hs hx

theorem Dev.pauseClass_chg : ∀ d a1 a2 a3, Dev.changesOnly [.regs, .fab] d (Dev.pauseClass d a1 a2 a3) := by
  intro d a1 a2 a3
  unfold Dev.pauseClass
  repeat' first
    | (with_reducible assumption)
    | (with_reducible exact chg_refl _ _)
    | ((with_reducible apply Dev.setPort_keep); exact rfl)
    | ((with_reducible apply Dev.showPause_keep); exact rfl)
    | ((with_reducible apply Dev.unpause_keep); exact rfl)
    | (with_reducible apply chg_ite)
    | (with_reducible apply chg_foldl)
    | (with_reducible apply chg_foldl_snd)
    | (with_reducible apply chg_ite_snd)
    | intro _ _ _
    | intro _
    | split
    | (dsimp -proj only)

theorem Dev.pauseClass_keep {t d0 d a1 a2 a3} (hs : tablesIn [.regs, .fab] t = true) (hx : Dev.changesOnly t d0 d) : Dev.changesOnly t d0 (Dev.pauseClass d a1 a2 a3) :=
  chg_step (Dev.pauseClass_chg _ _ _ _) hs hx

theorem Dev.payOwed_chg : ∀ d, Dev.changesOnly [.regs, .log, .logSeq, .evt, .sec] d (Dev.payOwed d) := by
  intro d
  unfold Dev.payOwed
  repeat' first
    | (with_reducible assumption)
    | (with_reducible exact chg_refl _ _)
    | ((with_reducible apply Dev.configCommit_keep); exact rfl)
    | ((with_reducible apply Dev.setSec_keep); exact rfl)
    | (with_reducible apply chg_ite)
    | (with_reducible apply chg_foldl)
    | (with_reducible apply chg_foldl_snd)
    | (with_reducible apply chg_ite_snd)
    | intro _ _ _
    | intro _
    | split
    | (dsimp -proj only)

theorem Dev.payOwed_keep {t d0 d} (hs : tablesIn [.regs, .log, .logSeq, .evt, .sec] t = true) (hx : Dev.changesOnly t d0 d) : Dev.changesOnly t d0 (Dev.payOwed d) :=
  chg_step (Dev.payOwed_chg _) hs hx

theorem Dev.updPosted_chg : ∀ d a1 a2 a3 a4 a5, Dev.changesOnly [.col] d (Dev.updPosted d a1 a2 a3 a4 a5) := by
  intro d a1 a2 a3 a4 a5
  unfold Dev.updPosted
  repeat' first
    | (with_reducible assumption)
    | (with_reducible exact chg_refl _ _)
    | ((with_reducible apply Dev.updColl_keep); exact rfl)
    | (with_reducible apply chg_ite)
    | (with_reducible apply chg_foldl)
    | (with_reducible apply chg_foldl_snd)
    | (with_reducible apply chg_ite_snd)
    | intro _ _ _
    | intro _
    | split
    | (dsimp -proj only)

theorem Dev.updPosted_keep {t d0 d a1 a2 a3 a4 a5} (hs : tablesIn [.col] t = true) (hx : Dev.changesOnly t d0 d) : Dev.changesOnly t d0 (Dev.updPosted d a1 a2 a3 a4 a5) :=
  chg_step (Dev.updPosted_chg _ _ _ _ _ _) hs hx

theorem Dev.placeData_chg : ∀ d a1 a2 a3 a4 a5, Dev.changesOnly [.regs, .t0, .t1, .six, .out, .tir, .col] d (Dev.placeData d a1 a2 a3 a4 a5) := by
  intro d a1 a2 a3 a4 a5
  unfold Dev.placeData
  repeat' first
    | (with_reducible assumption)
    | (with_reducible exact chg_refl _ _)
    | ((with_reducible apply Dev.addInto_keep); exact rfl)
    | ((with_reducible apply Dev.bufWrite_keep); exact rfl)
    | ((with_reducible apply Dev.hearRank_keep); exact rfl)
    | ((with_reducible apply Dev.sixRelease_keep); exact rfl)
    | ((with_reducible apply Dev.updPosted_keep); exact rfl)
    | (with_reducible apply chg_ite)
    | (with_reducible apply chg_foldl)
    | (with_reducible apply chg_foldl_snd)
    | (with_reducible apply chg_ite_snd)
    | intro _ _ _
    | intro _
    | split
    | (dsimp -proj only)

theorem Dev.placeData_keep {t d0 d a1 a2 a3 a4 a5} (hs : tablesIn [.regs, .t0, .t1, .six, .out, .tir, .col] t = true) (hx : Dev.changesOnly t d0 d) : Dev.changesOnly t d0 (Dev.placeData d a1 a2 a3 a4 a5) :=
  chg_step (Dev.placeData_chg _ _ _ _ _ _) hs hx

theorem Dev.postWaiting_chg : ∀ d, Dev.changesOnly [.regs, .log, .logSeq, .evt, .fab, .tbn] d (Dev.postWaiting d) := by
  intro d
  unfold Dev.postWaiting
  repeat' first
    | (with_reducible assumption)
    | (with_reducible exact chg_refl _ _)
    | ((with_reducible apply Dev.post_keep); exact rfl)
    | ((with_reducible apply Dev.setTbn_keep); exact rfl)
    | (with_reducible apply chg_ite)
    | (with_reducible apply chg_foldl)
    | (with_reducible apply chg_foldl_snd)
    | (with_reducible apply chg_ite_snd)
    | intro _ _ _
    | intro _
    | split
    | (dsimp -proj only)

theorem Dev.postWaiting_keep {t d0 d} (hs : tablesIn [.regs, .log, .logSeq, .evt, .fab, .tbn] t = true) (hx : Dev.changesOnly t d0 d) : Dev.changesOnly t d0 (Dev.postWaiting d) :=
  chg_step (Dev.postWaiting_chg _) hs hx

theorem Dev.powerOff_chg : ∀ d a1, Dev.changesOnly [.regs, .stampHold, .t0, .t1, .log, .logSeq, .msix, .msixPend, .spr, .six, .evt, .kqp, .tir, .mkt, .ldg, .hlt, .wset, .acr, .col, .fab, .tbn, .sec, .tim, .pwr, .hif, .ccr] d (Dev.powerOff d a1) := by
  intro d a1
  unfold Dev.powerOff
  repeat' first
    | (with_reducible assumption)
    | (with_reducible exact chg_refl _ _)
    | ((with_reducible apply Dev.setPwr_keep); exact rfl)
    | ((with_reducible apply Dev.setSec_keep); exact rfl)
    | ((with_reducible apply Dev.wipe_keep); exact rfl)
    | ((with_reducible apply Dev.wr_keep); exact rfl)
    | (with_reducible apply chg_ite)
    | (with_reducible apply chg_foldl)
    | (with_reducible apply chg_foldl_snd)
    | (with_reducible apply chg_ite_snd)
    | intro _ _ _
    | intro _
    | split
    | (dsimp -proj only)

theorem Dev.powerOff_keep {t d0 d a1} (hs : tablesIn [.regs, .stampHold, .t0, .t1, .log, .logSeq, .msix, .msixPend, .spr, .six, .evt, .kqp, .tir, .mkt, .ldg, .hlt, .wset, .acr, .col, .fab, .tbn, .sec, .tim, .pwr, .hif, .ccr] t = true) (hx : Dev.changesOnly t d0 d) : Dev.changesOnly t d0 (Dev.powerOff d a1) :=
  chg_step (Dev.powerOff_chg _ _) hs hx

theorem Dev.protRefused_chg : ∀ d, Dev.changesOnly [.regs, .log, .logSeq, .evt] d (Dev.protRefused d) := by
  intro d
  unfold Dev.protRefused
  repeat' first
    | (with_reducible assumption)
    | (with_reducible exact chg_refl _ _)
    | ((with_reducible apply Dev.incSat_keep); exact rfl)
    | ((with_reducible apply Dev.raise_keep); exact rfl)
    | (with_reducible apply chg_ite)
    | (with_reducible apply chg_foldl)
    | (with_reducible apply chg_foldl_snd)
    | (with_reducible apply chg_ite_snd)
    | intro _ _ _
    | intro _
    | split
    | (dsimp -proj only)

theorem Dev.protRefused_keep {t d0 d} (hs : tablesIn [.regs, .log, .logSeq, .evt] t = true) (hx : Dev.changesOnly t d0 d) : Dev.changesOnly t d0 (Dev.protRefused d) :=
  chg_step (Dev.protRefused_chg _) hs hx

theorem Dev.showTs_chg : ∀ d a1, Dev.changesOnly [.regs] d (Dev.showTs d a1) := by
  intro d a1
  unfold Dev.showTs
  repeat' first
    | (with_reducible assumption)
    | (with_reducible exact chg_refl _ _)
    | ((with_reducible apply Dev.setFlag_keep); exact rfl)
    | ((with_reducible apply Dev.wr_keep); exact rfl)
    | (with_reducible apply chg_ite)
    | (with_reducible apply chg_foldl)
    | (with_reducible apply chg_foldl_snd)
    | (with_reducible apply chg_ite_snd)
    | intro _ _ _
    | intro _
    | split
    | (dsimp -proj only)

theorem Dev.showTs_keep {t d0 d a1} (hs : tablesIn [.regs] t = true) (hx : Dev.changesOnly t d0 d) : Dev.changesOnly t d0 (Dev.showTs d a1) :=
  chg_step (Dev.showTs_chg _ _) hs hx

theorem Dev.pushTs_chg : ∀ d a1 a2, Dev.changesOnly [.regs, .log, .logSeq, .evt, .fab] d (Dev.pushTs d a1 a2) := by
  intro d a1 a2
  unfold Dev.pushTs
  repeat' first
    | (with_reducible assumption)
    | (with_reducible exact chg_refl _ _)
    | ((with_reducible apply Dev.raise_keep); exact rfl)
    | ((with_reducible apply Dev.setPort_keep); exact rfl)
    | ((with_reducible apply Dev.showTs_keep); exact rfl)
    | (with_reducible apply chg_ite)
    | (with_reducible apply chg_foldl)
    | (with_reducible apply chg_foldl_snd)
    | (with_reducible apply chg_ite_snd)
    | intro _ _ _
    | intro _
    | split
    | (dsimp -proj only)

theorem Dev.pushTs_keep {t d0 d a1 a2} (hs : tablesIn [.regs, .log, .logSeq, .evt, .fab] t = true) (hx : Dev.changesOnly t d0 d) : Dev.changesOnly t d0 (Dev.pushTs d a1 a2) :=
  chg_step (Dev.pushTs_chg _ _ _) hs hx

theorem Dev.queuePtp_chg : ∀ d a1 a2 a3 a4 a5, Dev.changesOnly [.fab] d (Dev.queuePtp d a1 a2 a3 a4 a5) := by
  intro d a1 a2 a3 a4 a5
  unfold Dev.queuePtp
  repeat' first
    | (with_reducible assumption)
    | (with_reducible exact chg_refl _ _)
    | ((with_reducible apply Dev.enqueue_keep); exact rfl)
    | (with_reducible apply chg_ite)
    | (with_reducible apply chg_foldl)
    | (with_reducible apply chg_foldl_snd)
    | (with_reducible apply chg_ite_snd)
    | intro _ _ _
    | intro _
    | split
    | (dsimp -proj only)

theorem Dev.queuePtp_keep {t d0 d a1 a2 a3 a4 a5} (hs : tablesIn [.fab] t = true) (hx : Dev.changesOnly t d0 d) : Dev.changesOnly t d0 (Dev.queuePtp d a1 a2 a3 a4 a5) :=
  chg_step (Dev.queuePtp_chg _ _ _ _ _ _) hs hx

theorem Dev.ptpSent_chg : ∀ d a1 a2 a3 a4 a5, Dev.changesOnly [.regs, .log, .logSeq, .evt, .fab, .tim] d (Dev.ptpSent d a1 a2 a3 a4 a5) := by
  intro d a1 a2 a3 a4 a5
  unfold Dev.ptpSent
  repeat' first
    | (with_reducible assumption)
    | (with_reducible exact chg_refl _ _)
    | ((with_reducible apply Dev.pushTs_keep); exact rfl)
    | ((with_reducible apply Dev.queuePtp_keep); exact rfl)
    | ((with_reducible apply Dev.setTim_keep); exact rfl)
    | (with_reducible apply chg_ite)
    | (with_reducible apply chg_foldl)
    | (with_reducible apply chg_foldl_snd)
    | (with_reducible apply chg_ite_snd)
    | intro _ _ _
    | intro _
    | split
    | (dsimp -proj only)

theorem Dev.ptpSent_keep {t d0 d a1 a2 a3 a4 a5} (hs : tablesIn [.regs, .log, .logSeq, .evt, .fab, .tim] t = true) (hx : Dev.changesOnly t d0 d) : Dev.changesOnly t d0 (Dev.ptpSent d a1 a2 a3 a4 a5) :=
  chg_step (Dev.ptpSent_chg _ _ _ _ _ _) hs hx

theorem Dev.putTwins_chg : ∀ d a1 a2 a3, Dev.changesOnly [.t1] d (Dev.putTwins d a1 a2 a3).1 := by
  intro d a1 a2 a3
  unfold Dev.putTwins
  repeat' first
    | (with_reducible assumption)
    | (with_reducible exact chg_refl _ _)
    | ((with_reducible apply Dev.setT1_keep); exact rfl)
    | (with_reducible apply chg_ite)
    | (with_reducible apply chg_foldl)
    | (with_reducible apply chg_foldl_snd)
    | (with_reducible apply chg_ite_snd)
    | intro _ _ _
    | intro _
    | split
    | (dsimp -proj only)

theorem Dev.putTwins_chg_eq : ∀ d a1 a2 a3 e x0, Dev.putTwins d a1 a2 a3 = (e, x0) → Dev.changesOnly [.t1] d e := by
  intro d a1 a2 a3 e x0 h
  have := Dev.putTwins_chg d a1 a2 a3
  rw [h] at this
  exact this

theorem Dev.putTwins_keep {t d0 d a1 a2 a3} (hs : tablesIn [.t1] t = true) (hx : Dev.changesOnly t d0 d) : Dev.changesOnly t d0 ((Dev.putTwins d a1 a2 a3).1) :=
  chg_step (Dev.putTwins_chg _ _ _ _) hs hx

theorem Dev.putTwins_keep_eq {t d0 d a1 a2 a3 e x0} (h : Dev.putTwins d a1 a2 a3 = (e, x0)) (hs : tablesIn [.t1] t = true) (hx : Dev.changesOnly t d0 d) : Dev.changesOnly t d0 e :=
  chg_step (Dev.putTwins_chg_eq _ _ _ _ _ _ h) hs hx

theorem Dev.putVec1_chg : ∀ d a1 a2 a3 a4, Dev.changesOnly [.t1] d (Dev.putVec1 d a1 a2 a3 a4) := by
  intro d a1 a2 a3 a4
  unfold Dev.putVec1
  repeat' first
    | (with_reducible assumption)
    | (with_reducible exact chg_refl _ _)
    | ((with_reducible apply Dev.write1_keep); exact rfl)
    | (with_reducible apply chg_ite)
    | (with_reducible apply chg_foldl)
    | (with_reducible apply chg_foldl_snd)
    | (with_reducible apply chg_ite_snd)
    | intro _ _ _
    | intro _
    | split
    | (dsimp -proj only)

theorem Dev.putVec1_keep {t d0 d a1 a2 a3 a4} (hs : tablesIn [.t1] t = true) (hx : Dev.changesOnly t d0 d) : Dev.changesOnly t d0 (Dev.putVec1 d a1 a2 a3 a4) :=
  chg_step (Dev.putVec1_chg _ _ _ _ _) hs hx

theorem Dev.putWorkspace_chg : ∀ d a1 a2 e, Dev.putWorkspace d a1 a2 = some e → Dev.changesOnly [.regs, .t0, .t1, .tir, .mkt] d e := by
  intro d a1 a2 e h
  unfold Dev.putWorkspace at h
  repeat' first
    | contradiction
    | (injection h with h; subst h)
    | (injection h with h; injection h; subst_vars)
    | split at h
    | (dsimp -proj only at h)
    | (with_reducible assumption)
    | (with_reducible exact chg_refl _ _)
    | (refine Dev.ensureT1_keep (by with_reducible assumption) rfl ?_)
    | ((with_reducible apply Dev.release0_keep); exact rfl)
    | ((with_reducible apply Dev.setUnit_keep); exact rfl)
    | ((with_reducible apply Dev.write1_keep); exact rfl)
    | (with_reducible apply chg_ite)
    | (with_reducible apply chg_foldl)
    | (with_reducible apply chg_foldl_snd)
    | (with_reducible apply chg_ite_snd)
    | intro _ _ _
    | intro _
    | split
    | (dsimp -proj only)

theorem Dev.putWorkspace_keep {t d0 d a1 a2 e} (h : Dev.putWorkspace d a1 a2 = some e) (hs : tablesIn [.regs, .t0, .t1, .tir, .mkt] t = true) (hx : Dev.changesOnly t d0 d) : Dev.changesOnly t d0 e :=
  chg_step (Dev.putWorkspace_chg _ _ _ _ h) hs hx

theorem Dev.recordsDone_chg : ∀ d a1 a2 a3 a4 a5 a6, Dev.changesOnly [.regs, .t0, .log, .logSeq, .evt, .kqp, .tir] d (Dev.recordsDone d a1 a2 a3 a4 a5 a6) := by
  intro d a1 a2 a3 a4 a5 a6
  unfold Dev.recordsDone
  repeat' first
    | (with_reducible assumption)
    | (with_reducible exact chg_refl _ _)
    | ((with_reducible apply Dev.engDone_keep); exact rfl)
    | ((with_reducible apply Dev.engFail_keep); exact rfl)
    | ((with_reducible apply Dev.engSpecial_keep); exact rfl)
    | (with_reducible apply chg_ite)
    | (with_reducible apply chg_foldl)
    | (with_reducible apply chg_foldl_snd)
    | (with_reducible apply chg_ite_snd)
    | intro _ _ _
    | intro _
    | split
    | (dsimp -proj only)

theorem Dev.recordsDone_keep {t d0 d a1 a2 a3 a4 a5 a6} (hs : tablesIn [.regs, .t0, .log, .logSeq, .evt, .kqp, .tir] t = true) (hx : Dev.changesOnly t d0 d) : Dev.changesOnly t d0 (Dev.recordsDone d a1 a2 a3 a4 a5 a6) :=
  chg_step (Dev.recordsDone_chg _ _ _ _ _ _ _) hs hx

theorem Dev.refill_chg : ∀ d a1 a2, Dev.changesOnly [.kqp, .col] d (Dev.refill d a1 a2) := by
  intro d a1 a2
  unfold Dev.refill
  repeat' first
    | (with_reducible assumption)
    | (with_reducible exact chg_refl _ _)
    | ((with_reducible apply Dev.setCol_keep); exact rfl)
    | ((with_reducible apply Dev.setQueue_keep); exact rfl)
    | (with_reducible apply chg_ite)
    | (with_reducible apply chg_foldl)
    | (with_reducible apply chg_foldl_snd)
    | (with_reducible apply chg_ite_snd)
    | intro _ _ _
    | intro _
    | split
    | (dsimp -proj only)

theorem Dev.refill_keep {t d0 d a1 a2} (hs : tablesIn [.kqp, .col] t = true) (hx : Dev.changesOnly t d0 d) : Dev.changesOnly t d0 (Dev.refill d a1 a2) :=
  chg_step (Dev.refill_chg _ _ _) hs hx

theorem Dev.refuseLine_chg : ∀ d a1 a2 a3, Dev.changesOnly [.regs, .log, .logSeq, .evt, .kqp] d (Dev.refuseLine d a1 a2 a3) := by
  intro d a1 a2 a3
  unfold Dev.refuseLine
  repeat' first
    | (with_reducible assumption)
    | (with_reducible exact chg_refl _ _)
    | ((with_reducible apply Dev.failPart_keep); exact rfl)
    | ((with_reducible apply Dev.refused_keep); exact rfl)
    | (with_reducible apply chg_ite)
    | (with_reducible apply chg_foldl)
    | (with_reducible apply chg_foldl_snd)
    | (with_reducible apply chg_ite_snd)
    | intro _ _ _
    | intro _
    | split
    | (dsimp -proj only)

theorem Dev.refuseLine_keep {t d0 d a1 a2 a3} (hs : tablesIn [.regs, .log, .logSeq, .evt, .kqp] t = true) (hx : Dev.changesOnly t d0 d) : Dev.changesOnly t d0 (Dev.refuseLine d a1 a2 a3) :=
  chg_step (Dev.refuseLine_chg _ _ _ _) hs hx

theorem Dev.vectorControl_chg : ∀ d a1 a2 a3, Dev.changesOnly [.msix, .msixPend, .out] d (Dev.vectorControl d a1 a2 a3) := by
  intro d a1 a2 a3
  unfold Dev.vectorControl
  repeat' first
    | (with_reducible assumption)
    | (with_reducible exact chg_refl _ _)
    | ((with_reducible apply Dev.sendMsix_keep); exact rfl)
    | ((with_reducible apply Dev.setMsix_keep); exact rfl)
    | ((with_reducible apply Dev.setMsixPend_keep); exact rfl)
    | (with_reducible apply chg_ite)
    | (with_reducible apply chg_foldl)
    | (with_reducible apply chg_foldl_snd)
    | (with_reducible apply chg_ite_snd)
    | intro _ _ _
    | intro _
    | split
    | (dsimp -proj only)

theorem Dev.vectorControl_keep {t d0 d a1 a2 a3} (hs : tablesIn [.msix, .msixPend, .out] t = true) (hx : Dev.changesOnly t d0 d) : Dev.changesOnly t d0 (Dev.vectorControl d a1 a2 a3) :=
  chg_step (Dev.vectorControl_chg _ _ _ _) hs hx

theorem Dev.roleWritten_chg : ∀ d, Dev.changesOnly [.regs, .tim] d (Dev.roleWritten d) := by
  intro d
  unfold Dev.roleWritten
  repeat' first
    | (with_reducible assumption)
    | (with_reducible exact chg_refl _ _)
    | ((with_reducible apply Dev.setTim_keep); exact rfl)
    | ((with_reducible apply Dev.wr_keep); exact rfl)
    | (with_reducible apply chg_ite)
    | (with_reducible apply chg_foldl)
    | (with_reducible apply chg_foldl_snd)
    | (with_reducible apply chg_ite_snd)
    | intro _ _ _
    | intro _
    | split
    | (dsimp -proj only)

theorem Dev.roleWritten_keep {t d0 d} (hs : tablesIn [.regs, .tim] t = true) (hx : Dev.changesOnly t d0 d) : Dev.changesOnly t d0 (Dev.roleWritten d) :=
  chg_step (Dev.roleWritten_chg _) hs hx

theorem Dev.touched_chg : ∀ d a1 a2 a3, Dev.changesOnly [.regs, .log, .logSeq, .evt, .kqp, .out, .col, .fab, .tbn, .tim] d (Dev.touched d a1 a2 a3) := by
  intro d a1 a2 a3
  unfold Dev.touched
  repeat' first
    | (with_reducible assumption)
    | (with_reducible exact chg_refl _ _)
    | ((with_reducible apply Dev.chooseNeighbour_keep); exact rfl)
    | ((with_reducible apply Dev.disableQueue_keep); exact rfl)
    | ((with_reducible apply Dev.enableQueue_keep); exact rfl)
    | ((with_reducible apply Dev.groupTouched_keep); exact rfl)
    | ((with_reducible apply Dev.mbxDone_keep); exact rfl)
    | ((with_reducible apply Dev.raise_keep); exact rfl)
    | ((with_reducible apply Dev.roleWritten_keep); exact rfl)
    | ((with_reducible apply Dev.setFlag_keep); exact rfl)
    | ((with_reducible apply Dev.showBrec_keep); exact rfl)
    | ((with_reducible apply Dev.showLevel_keep); exact rfl)
    | ((with_reducible apply Dev.startPort_keep); exact rfl)
    | ((with_reducible apply Dev.stopPort_keep); exact rfl)
    | (with_reducible apply chg_ite)
    | (with_reducible apply chg_foldl)
    | (with_reducible apply chg_foldl_snd)
    | (with_reducible apply chg_ite_snd)
    | intro _ _ _
    | intro _
    | split
    | (dsimp -proj only)

theorem Dev.touched_keep {t d0 d a1 a2 a3} (hs : tablesIn [.regs, .log, .logSeq, .evt, .kqp, .out, .col, .fab, .tbn, .tim] t = true) (hx : Dev.changesOnly t d0 d) : Dev.changesOnly t d0 (Dev.touched d a1 a2 a3) :=
  chg_step (Dev.touched_chg _ _ _ _) hs hx

theorem Dev.writeBlockReg_chg : ∀ d a1 a2 a3, Dev.changesOnly [.regs, .log, .logSeq, .evt, .kqp, .out, .col, .fab, .tbn, .tim] d (Dev.writeBlockReg d a1 a2 a3).1 := by
  intro d a1 a2 a3
  unfold Dev.writeBlockReg
  repeat' first
    | (with_reducible assumption)
    | (with_reducible exact chg_refl _ _)
    | ((with_reducible apply Dev.setReg_keep); exact rfl)
    | ((with_reducible apply Dev.touched_keep); exact rfl)
    | (with_reducible apply chg_ite)
    | (with_reducible apply chg_foldl)
    | (with_reducible apply chg_foldl_snd)
    | (with_reducible apply chg_ite_snd)
    | intro _ _ _
    | intro _
    | split
    | (dsimp -proj only)

theorem Dev.writeBlockReg_chg_eq : ∀ d a1 a2 a3 e x0, Dev.writeBlockReg d a1 a2 a3 = (e, x0) → Dev.changesOnly [.regs, .log, .logSeq, .evt, .kqp, .out, .col, .fab, .tbn, .tim] d e := by
  intro d a1 a2 a3 e x0 h
  have := Dev.writeBlockReg_chg d a1 a2 a3
  rw [h] at this
  exact this

theorem Dev.writeBlockReg_keep {t d0 d a1 a2 a3} (hs : tablesIn [.regs, .log, .logSeq, .evt, .kqp, .out, .col, .fab, .tbn, .tim] t = true) (hx : Dev.changesOnly t d0 d) : Dev.changesOnly t d0 ((Dev.writeBlockReg d a1 a2 a3).1) :=
  chg_step (Dev.writeBlockReg_chg _ _ _ _) hs hx

theorem Dev.writeBlockReg_keep_eq {t d0 d a1 a2 a3 e x0} (h : Dev.writeBlockReg d a1 a2 a3 = (e, x0)) (hs : tablesIn [.regs, .log, .logSeq, .evt, .kqp, .out, .col, .fab, .tbn, .tim] t = true) (hx : Dev.changesOnly t d0 d) : Dev.changesOnly t d0 e :=
  chg_step (Dev.writeBlockReg_chg_eq _ _ _ _ _ _ h) hs hx

theorem Dev.writeMode_chg : ∀ d a1 a2, Dev.changesOnly [.regs] d (Dev.writeMode d a1 a2).1 := by
  intro d a1 a2
  unfold Dev.writeMode
  repeat' first
    | (with_reducible assumption)
    | (with_reducible exact chg_refl _ _)
    | ((with_reducible apply Dev.headerRwl_keep); exact rfl)
    | (refine Dev.headerRwl_keep_eq (by with_reducible assumption) rfl ?_)
    | ((with_reducible apply Dev.setFlag_keep); exact rfl)
    | (with_reducible apply chg_ite)
    | (with_reducible apply chg_foldl)
    | (with_reducible apply chg_foldl_snd)
    | (with_reducible apply chg_ite_snd)
    | intro _ _ _
    | intro _
    | split
    | (dsimp -proj only)

theorem Dev.writeMode_chg_eq : ∀ d a1 a2 e x0, Dev.writeMode d a1 a2 = (e, x0) → Dev.changesOnly [.regs] d e := by
  intro d a1 a2 e x0 h
  have := Dev.writeMode_chg d a1 a2
  rw [h] at this
  exact this

theorem Dev.writeMode_keep {t d0 d a1 a2} (hs : tablesIn [.regs] t = true) (hx : Dev.changesOnly t d0 d) : Dev.changesOnly t d0 ((Dev.writeMode d a1 a2).1) :=
  chg_step (Dev.writeMode_chg _ _ _) hs hx

theorem Dev.writeMode_keep_eq {t d0 d a1 a2 e x0} (h : Dev.writeMode d a1 a2 = (e, x0)) (hs : tablesIn [.regs] t = true) (hx : Dev.changesOnly t d0 d) : Dev.changesOnly t d0 e :=
  chg_step (Dev.writeMode_chg_eq _ _ _ _ _ h) hs hx

theorem Dev.writeHeader_chg : ∀ d a1 a2 a3, Dev.changesOnly [.regs, .evt] d (Dev.writeHeader d a1 a2 a3).1 := by
  intro d a1 a2 a3
  unfold Dev.writeHeader
  repeat' first
    | (with_reducible assumption)
    | (with_reducible exact chg_refl _ _)
    | ((with_reducible apply Dev.headerRwl_keep); exact rfl)
    | (refine Dev.headerRwl_keep_eq (by with_reducible assumption) rfl ?_)
    | ((with_reducible apply Dev.noteEdge_keep); exact rfl)
    | ((with_reducible apply Dev.setFlag_keep); exact rfl)
    | ((with_reducible apply Dev.setReg_keep); exact rfl)
    | ((with_reducible apply Dev.writeMode_keep); exact rfl)
    | (refine Dev.writeMode_keep_eq (by with_reducible assumption) rfl ?_)
    | (with_reducible apply chg_ite)
    | (with_reducible apply chg_foldl)
    | (with_reducible apply chg_foldl_snd)
    | (with_reducible apply chg_ite_snd)
    | intro _ _ _
    | intro _
    | split
    | (dsimp -proj only)

theorem Dev.writeHeader_chg_eq : ∀ d a1 a2 a3 e x0, Dev.writeHeader d a1 a2 a3 = (e, x0) → Dev.changesOnly [.regs, .evt] d e := by
  intro d a1 a2 a3 e x0 h
  have := Dev.writeHeader_chg d a1 a2 a3
  rw [h] at this
  exact this

theorem Dev.writeHeader_keep {t d0 d a1 a2 a3} (hs : tablesIn [.regs, .evt] t = true) (hx : Dev.changesOnly t d0 d) : Dev.changesOnly t d0 ((Dev.writeHeader d a1 a2 a3).1) :=
  chg_step (Dev.writeHeader_chg _ _ _ _) hs hx

theorem Dev.writeHeader_keep_eq {t d0 d a1 a2 a3 e x0} (h : Dev.writeHeader d a1 a2 a3 = (e, x0)) (hs : tablesIn [.regs, .evt] t = true) (hx : Dev.changesOnly t d0 d) : Dev.changesOnly t d0 e :=
  chg_step (Dev.writeHeader_chg_eq _ _ _ _ _ _ h) hs hx

theorem Dev.writeSource_chg : ∀ d a1 a2 a3 a4, Dev.changesOnly [.regs, .log, .logSeq, .evt] d (Dev.writeSource d a1 a2 a3 a4) := by
  intro d a1 a2 a3 a4
  unfold Dev.writeSource
  repeat' first
    | (with_reducible assumption)
    | (with_reducible exact chg_refl _ _)
    | ((with_reducible apply Dev.badAccess_keep); exact rfl)
    | ((with_reducible apply Dev.sampleSource_keep); exact rfl)
    | ((with_reducible apply Dev.setEvt_keep); exact rfl)
    | ((with_reducible apply Dev.setFlag_keep); exact rfl)
    | ((with_reducible apply Dev.showLevel_keep); exact rfl)
    | ((with_reducible apply Dev.wr_keep); exact rfl)
    | (with_reducible apply chg_ite)
    | (with_reducible apply chg_foldl)
    | (with_reducible apply chg_foldl_snd)
    | (with_reducible apply chg_ite_snd)
    | intro _ _ _
    | intro _
    | split
    | (dsimp -proj only)

theorem Dev.writeSource_keep {t d0 d a1 a2 a3 a4} (hs : tablesIn [.regs, .log, .logSeq, .evt] t = true) (hx : Dev.changesOnly t d0 d) : Dev.changesOnly t d0 (Dev.writeSource d a1 a2 a3 a4) :=
  chg_step (Dev.writeSource_chg _ _ _ _ _) hs hx

theorem Dev.writeCore_chg : ∀ d a1 a2 a3, Dev.changesOnly [.regs, .log, .logSeq, .msix, .msixPend, .evt, .kqp, .out, .col, .fab, .tbn, .tim] d (Dev.writeCore d a1 a2 a3).1 := by
  intro d a1 a2 a3
  unfold Dev.writeCore
  repeat' first
    | (with_reducible assumption)
    | (with_reducible exact chg_refl _ _)
    | ((with_reducible apply Dev.setMsix_keep); exact rfl)
    | ((with_reducible apply Dev.vectorControl_keep); exact rfl)
    | ((with_reducible apply Dev.writeBlockReg_keep); exact rfl)
    | (refine Dev.writeBlockReg_keep_eq (by with_reducible assumption) rfl ?_)
    | ((with_reducible apply Dev.writeHeader_keep); exact rfl)
    | (refine Dev.writeHeader_keep_eq (by with_reducible assumption) rfl ?_)
    | ((with_reducible apply Dev.writeSource_keep); exact rfl)
    | (with_reducible apply chg_ite)
    | (with_reducible apply chg_foldl)
    | (with_reducible apply chg_foldl_snd)
    | (with_reducible apply chg_ite_snd)
    | intro _ _ _
    | intro _
    | split
    | (dsimp -proj only)

theorem Dev.writeCore_chg_eq : ∀ d a1 a2 a3 e x0, Dev.writeCore d a1 a2 a3 = (e, x0) → Dev.changesOnly [.regs, .log, .logSeq, .msix, .msixPend, .evt, .kqp, .out, .col, .fab, .tbn, .tim] d e := by
  intro d a1 a2 a3 e x0 h
  have := Dev.writeCore_chg d a1 a2 a3
  rw [h] at this
  exact this

theorem Dev.writeCore_keep {t d0 d a1 a2 a3} (hs : tablesIn [.regs, .log, .logSeq, .msix, .msixPend, .evt, .kqp, .out, .col, .fab, .tbn, .tim] t = true) (hx : Dev.changesOnly t d0 d) : Dev.changesOnly t d0 ((Dev.writeCore d a1 a2 a3).1) :=
  chg_step (Dev.writeCore_chg _ _ _ _) hs hx

theorem Dev.writeCore_keep_eq {t d0 d a1 a2 a3 e x0} (h : Dev.writeCore d a1 a2 a3 = (e, x0)) (hs : tablesIn [.regs, .log, .logSeq, .msix, .msixPend, .evt, .kqp, .out, .col, .fab, .tbn, .tim] t = true) (hx : Dev.changesOnly t d0 d) : Dev.changesOnly t d0 e :=
  chg_step (Dev.writeCore_chg_eq _ _ _ _ _ _ h) hs hx

theorem Dev.writeWord_chg : ∀ d a1 a2 a3, Dev.changesOnly [.regs, .log, .logSeq, .msix, .msixPend, .evt, .kqp, .out, .col, .fab, .tbn, .tim] d (Dev.writeWord d a1 a2 a3) := by
  intro d a1 a2 a3
  unfold Dev.writeWord
  repeat' first
    | (with_reducible assumption)
    | (with_reducible exact chg_refl _ _)
    | ((with_reducible apply Dev.badAccess_keep); exact rfl)
    | ((with_reducible apply Dev.writeCore_keep); exact rfl)
    | (refine Dev.writeCore_keep_eq (by with_reducible assumption) rfl ?_)
    | (with_reducible apply chg_ite)
    | (with_reducible apply chg_foldl)
    | (with_reducible apply chg_foldl_snd)
    | (with_reducible apply chg_ite_snd)
    | intro _ _ _
    | intro _
    | split
    | (dsimp -proj only)

theorem Dev.writeWord_keep {t d0 d a1 a2 a3} (hs : tablesIn [.regs, .log, .logSeq, .msix, .msixPend, .evt, .kqp, .out, .col, .fab, .tbn, .tim] t = true) (hx : Dev.changesOnly t d0 d) : Dev.changesOnly t d0 (Dev.writeWord d a1 a2 a3) :=
  chg_step (Dev.writeWord_chg _ _ _ _) hs hx

theorem Dev.registerWrite_chg : ∀ d a1 a2 a3 a4, Dev.changesOnly [.regs, .log, .logSeq, .msix, .msixPend, .evt, .kqp, .out, .col, .fab, .tbn, .tim] d (Dev.registerWrite d a1 a2 a3 a4) := by
  intro d a1 a2 a3 a4
  unfold Dev.registerWrite
  repeat' first
    | (with_reducible assumption)
    | (with_reducible exact chg_refl _ _)
    | ((with_reducible apply Dev.badAccess_keep); exact rfl)
    | ((with_reducible apply Dev.narrowWrite_keep); exact rfl)
    | ((with_reducible apply Dev.writeWord_keep); exact rfl)
    | (with_reducible apply chg_ite)
    | (with_reducible apply chg_foldl)
    | (with_reducible apply chg_foldl_snd)
    | (with_reducible apply chg_ite_snd)
    | intro _ _ _
    | intro _
    | split
    | (dsimp -proj only)

theorem Dev.registerWrite_keep {t d0 d a1 a2 a3 a4} (hs : tablesIn [.regs, .log, .logSeq, .msix, .msixPend, .evt, .kqp, .out, .col, .fab, .tbn, .tim] t = true) (hx : Dev.changesOnly t d0 d) : Dev.changesOnly t d0 (Dev.registerWrite d a1 a2 a3 a4) :=
  chg_step (Dev.registerWrite_chg _ _ _ _ _) hs hx

theorem Dev.remake_chg : ∀ d k idx n fresh e, Dev.remake d k idx n fresh = some e → Dev.changesOnly [.regs, .tir] d e := by
  intro d k idx n fresh e h
  unfold Dev.remake at h
  split at h
  · injection h with h; subst h; exact chg_refl _ _
  · split at h
    · split at h
      · injection h with h; subst h; exact Dev.setObj_keep (by exact rfl) (Dev.useExtents_keep (by exact rfl) (chg_refl _ _))
      · contradiction
    · contradiction

theorem Dev.remake_keep {t d0 d k idx n fresh e} (h : Dev.remake d k idx n fresh = some e) (hs : tablesIn [.regs, .tir] t = true) (hx : Dev.changesOnly t d0 d) :
    Dev.changesOnly t d0 e :=
  chg_step (Dev.remake_chg _ _ _ _ _ _ h) hs hx

theorem Dev.repeatFails_chg : ∀ d a1 a2, Dev.changesOnly [.regs, .log, .logSeq, .evt, .kqp, .ldg] d (Dev.repeatFails d a1 a2) := by
  intro d a1 a2
  unfold Dev.repeatFails
  repeat' first
    | (with_reducible assumption)
    | (with_reducible exact chg_refl _ _)
    | ((with_reducible apply Dev.setCmd_keep); exact rfl)
    | ((with_reducible apply Dev.stopQueue_keep); exact rfl)
    | ((with_reducible apply Dev.raise_keep); exact rfl)
    | ((with_reducible apply Dev.updRun_keep); exact rfl)
    | (with_reducible apply chg_ite)
    | (with_reducible apply chg_foldl)
    | (with_reducible apply chg_foldl_snd)
    | (with_reducible apply chg_ite_snd)
    | intro _ _ _
    | intro _
    | split
    | (dsimp -proj only)

theorem Dev.repeatFails_keep {t d0 d a1 a2} (hs : tablesIn [.regs, .log, .logSeq, .evt, .kqp, .ldg] t = true) (hx : Dev.changesOnly t d0 d) : Dev.changesOnly t d0 (Dev.repeatFails d a1 a2) :=
  chg_step (Dev.repeatFails_chg _ _ _) hs hx

theorem Dev.reportUnreach_chg : ∀ d a1, Dev.changesOnly [.regs, .t0, .t1, .log, .logSeq, .six, .evt, .kqp, .out, .tir, .mkt, .ldg, .wset, .acr, .col, .fab, .tbn] d (Dev.reportUnreach d a1) := by
  intro d a1
  unfold Dev.reportUnreach
  repeat' first
    | (with_reducible assumption)
    | (with_reducible exact chg_refl _ _)
    | ((with_reducible apply Dev.sendCtrl_keep); exact rfl)
    | ((with_reducible apply Dev.takeUnreach_keep); exact rfl)
    | (with_reducible apply chg_ite)
    | (with_reducible apply chg_foldl)
    | (with_reducible apply chg_foldl_snd)
    | (with_reducible apply chg_ite_snd)
    | intro _ _ _
    | intro _
    | split
    | (dsimp -proj only)

theorem Dev.reportUnreach_keep {t d0 d a1} (hs : tablesIn [.regs, .t0, .t1, .log, .logSeq, .six, .evt, .kqp, .out, .tir, .mkt, .ldg, .wset, .acr, .col, .fab, .tbn] t = true) (hx : Dev.changesOnly t d0 d) : Dev.changesOnly t d0 (Dev.reportUnreach d a1) :=
  chg_step (Dev.reportUnreach_chg _ _) hs hx

theorem Dev.requestLow_chg : ∀ d a1 a2 a3, Dev.changesOnly [.regs, .log, .logSeq, .evt, .col, .pwr] d (Dev.requestLow d a1 a2 a3) := by
  intro d a1 a2 a3
  unfold Dev.requestLow
  repeat' first
    | (with_reducible assumption)
    | (with_reducible exact chg_refl _ _)
    | ((with_reducible apply Dev.badAccess_keep); exact rfl)
    | ((with_reducible apply Dev.raise_keep); exact rfl)
    | ((with_reducible apply Dev.setCol_keep); exact rfl)
    | ((with_reducible apply Dev.setPwr_keep); exact rfl)
    | (with_reducible apply chg_when)
    | ((with_reducible apply Dev.wr_keep); exact rfl)
    | (with_reducible apply chg_ite)
    | (with_reducible apply chg_foldl)
    | (with_reducible apply chg_foldl_snd)
    | (with_reducible apply chg_ite_snd)
    | intro _ _ _
    | intro _
    | split
    | (dsimp -proj only)

theorem Dev.requestLow_keep {t d0 d a1 a2 a3} (hs : tablesIn [.regs, .log, .logSeq, .evt, .col, .pwr] t = true) (hx : Dev.changesOnly t d0 d) : Dev.changesOnly t d0 (Dev.requestLow d a1 a2 a3) :=
  chg_step (Dev.requestLow_chg _ _ _ _) hs hx

theorem Dev.resetUnit_chg : ∀ d a1 a2 a3, Dev.changesOnly [.regs, .log, .logSeq, .msixPend, .spr, .six, .evt, .kqp, .out, .tir, .ldg, .acr, .col, .fab, .tbn, .ccr] d (Dev.resetUnit d a1 a2 a3) := by
  intro d a1 a2 a3
  unfold Dev.resetUnit
  repeat' first
    | (with_reducible assumption)
    | (with_reducible exact chg_refl _ _)
    | ((with_reducible apply Dev.beginReset_keep); exact rfl)
    | ((with_reducible apply Dev.dropLink_keep); exact rfl)
    | ((with_reducible apply Dev.endPartsOn_keep); exact rfl)
    | ((with_reducible apply Dev.setAcr_keep); exact rfl)
    | ((with_reducible apply Dev.setFlag_keep); exact rfl)
    | (with_reducible apply chg_ite)
    | (with_reducible apply chg_foldl)
    | (with_reducible apply chg_foldl_snd)
    | (with_reducible apply chg_ite_snd)
    | intro _ _ _
    | intro _
    | split
    | (dsimp -proj only)

theorem Dev.resetUnit_keep {t d0 d a1 a2 a3} (hs : tablesIn [.regs, .log, .logSeq, .msixPend, .spr, .six, .evt, .kqp, .out, .tir, .ldg, .acr, .col, .fab, .tbn, .ccr] t = true) (hx : Dev.changesOnly t d0 d) : Dev.changesOnly t d0 (Dev.resetUnit d a1 a2 a3) :=
  chg_step (Dev.resetUnit_chg _ _ _ _) hs hx

theorem Dev.requestReset_chg : ∀ d a1 a2 a3, Dev.changesOnly [.regs, .log, .logSeq, .msixPend, .spr, .six, .evt, .kqp, .out, .tir, .ldg, .acr, .col, .fab, .tbn, .ccr] d (Dev.requestReset d a1 a2 a3) := by
  intro d a1 a2 a3
  unfold Dev.requestReset
  repeat' first
    | (with_reducible assumption)
    | (with_reducible exact chg_refl _ _)
    | ((with_reducible apply Dev.badAccess_keep); exact rfl)
    | ((with_reducible apply Dev.resetUnit_keep); exact rfl)
    | (with_reducible apply chg_when)
    | (with_reducible apply chg_ite)
    | (with_reducible apply chg_foldl)
    | (with_reducible apply chg_foldl_snd)
    | (with_reducible apply chg_ite_snd)
    | intro _ _ _
    | intro _
    | split
    | (dsimp -proj only)

theorem Dev.requestReset_keep {t d0 d a1 a2 a3} (hs : tablesIn [.regs, .log, .logSeq, .msixPend, .spr, .six, .evt, .kqp, .out, .tir, .ldg, .acr, .col, .fab, .tbn, .ccr] t = true) (hx : Dev.changesOnly t d0 d) : Dev.changesOnly t d0 (Dev.requestReset d a1 a2 a3) :=
  chg_step (Dev.requestReset_chg _ _ _ _) hs hx

theorem Dev.resetDone_chg : ∀ d a1 a2 a3, Dev.changesOnly [.regs, .log, .logSeq, .msixPend, .spr, .six, .evt, .kqp, .out, .tir, .ldg, .hlt, .col, .fab, .tbn, .sec, .ccr] d (Dev.resetDone d a1 a2 a3) := by
  intro d a1 a2 a3
  unfold Dev.resetDone
  repeat' first
    | (with_reducible assumption)
    | (with_reducible exact chg_refl _ _)
    | ((with_reducible apply Dev.acrLost_keep); exact rfl)
    | ((with_reducible apply Dev.closeUnit_keep); exact rfl)
    | ((with_reducible apply Dev.endReset_keep); exact rfl)
    | ((with_reducible apply Dev.noteMonitors_keep); exact rfl)
    | ((with_reducible apply Dev.startPort_keep); exact rfl)
    | (with_reducible apply chg_ite)
    | (with_reducible apply chg_foldl)
    | (with_reducible apply chg_foldl_snd)
    | (with_reducible apply chg_ite_snd)
    | intro _ _ _
    | intro _
    | split
    | (dsimp -proj only)

theorem Dev.resetDone_keep {t d0 d a1 a2 a3} (hs : tablesIn [.regs, .log, .logSeq, .msixPend, .spr, .six, .evt, .kqp, .out, .tir, .ldg, .hlt, .col, .fab, .tbn, .sec, .ccr] t = true) (hx : Dev.changesOnly t d0 d) : Dev.changesOnly t d0 (Dev.resetDone d a1 a2 a3) :=
  chg_step (Dev.resetDone_chg _ _ _ _) hs hx

theorem Dev.resetKeyOk_chg : ∀ d a1 a2, Dev.changesOnly [.regs, .log, .logSeq, .evt] d (Dev.resetKeyOk d a1 a2).2 := by
  intro d a1 a2
  unfold Dev.resetKeyOk
  repeat' first
    | (with_reducible assumption)
    | (with_reducible exact chg_refl _ _)
    | ((with_reducible apply Dev.badAccess_keep); exact rfl)
    | (with_reducible apply chg_ite)
    | (with_reducible apply chg_foldl)
    | (with_reducible apply chg_foldl_snd)
    | (with_reducible apply chg_ite_snd)
    | intro _ _ _
    | intro _
    | split
    | (dsimp -proj only)

theorem Dev.resetKeyOk_chg_eq : ∀ d a1 a2 x0 e, Dev.resetKeyOk d a1 a2 = (x0, e) → Dev.changesOnly [.regs, .log, .logSeq, .evt] d e := by
  intro d a1 a2 x0 e h
  have := Dev.resetKeyOk_chg d a1 a2
  rw [h] at this
  exact this

theorem Dev.resetKeyOk_keep {t d0 d a1 a2} (hs : tablesIn [.regs, .log, .logSeq, .evt] t = true) (hx : Dev.changesOnly t d0 d) : Dev.changesOnly t d0 ((Dev.resetKeyOk d a1 a2).2) :=
  chg_step (Dev.resetKeyOk_chg _ _ _) hs hx

theorem Dev.resetKeyOk_keep_eq {t d0 d a1 a2 x0 e} (h : Dev.resetKeyOk d a1 a2 = (x0, e)) (hs : tablesIn [.regs, .log, .logSeq, .evt] t = true) (hx : Dev.changesOnly t d0 d) : Dev.changesOnly t d0 e :=
  chg_step (Dev.resetKeyOk_chg_eq _ _ _ _ _ h) hs hx

theorem Dev.scaleRestore_chg : ∀ d a1, Dev.changesOnly [.t0, .t1, .tir] d (Dev.scaleRestore d a1) := by
  intro d a1
  unfold Dev.scaleRestore
  repeat' first
    | (with_reducible assumption)
    | (with_reducible exact chg_refl _ _)
    | ((with_reducible apply Dev.eachEntry_keep); exact rfl)
    | ((with_reducible apply Dev.putEntry_keep); exact rfl)
    | (with_reducible apply chg_ite)
    | (with_reducible apply chg_foldl)
    | (with_reducible apply chg_foldl_snd)
    | (with_reducible apply chg_ite_snd)
    | intro _ _ _
    | intro _
    | split
    | (dsimp -proj only)

theorem Dev.scaleRestore_keep {t d0 d a1} (hs : tablesIn [.t0, .t1, .tir] t = true) (hx : Dev.changesOnly t d0 d) : Dev.changesOnly t d0 (Dev.scaleRestore d a1) :=
  chg_step (Dev.scaleRestore_chg _ _) hs hx

theorem Dev.restoreApply_chg : ∀ d a1 a2, Dev.changesOnly [.regs, .t0, .t1, .log, .logSeq, .evt, .tir, .ldg, .acr, .col] d (Dev.restoreApply d a1 a2) := by
  intro d a1 a2
  unfold Dev.restoreApply
  repeat' first
    | (with_reducible assumption)
    | (with_reducible exact chg_refl _ _)
    | ((with_reducible apply Dev.applyGroup_keep); exact rfl)
    | ((with_reducible apply Dev.chooseNeighbour_keep); exact rfl)
    | ((with_reducible apply Dev.pushRecord_keep); exact rfl)
    | ((with_reducible apply Dev.scaleRestore_keep); exact rfl)
    | ((with_reducible apply Dev.setAcr_keep); exact rfl)
    | ((with_reducible apply Dev.setJob_keep); exact rfl)
    | ((with_reducible apply Dev.setJobSt_keep); exact rfl)
    | ((with_reducible apply Dev.setReg_keep); exact rfl)
    | ((with_reducible apply Dev.setStepState_keep); exact rfl)
    | ((with_reducible apply Dev.wr_keep); exact rfl)
    | ((with_reducible apply Dev.wr64_keep); exact rfl)
    | (with_reducible apply chg_ite)
    | (with_reducible apply chg_foldl)
    | (with_reducible apply chg_foldl_snd)
    | (with_reducible apply chg_ite_snd)
    | intro _ _ _
    | intro _
    | split
    | (dsimp -proj only)

theorem Dev.restoreApply_keep {t d0 d a1 a2} (hs : tablesIn [.regs, .t0, .t1, .log, .logSeq, .evt, .tir, .ldg, .acr, .col] t = true) (hx : Dev.changesOnly t d0 d) : Dev.changesOnly t d0 (Dev.restoreApply d a1 a2) :=
  chg_step (Dev.restoreApply_chg _ _ _) hs hx

theorem Dev.restoreObj_chg : ∀ d p j io e, Dev.restoreObj d p j io = some e → Dev.changesOnly [.regs, .t1, .tir] d e := by
  intro d p j io e h
  unfold Dev.restoreObj at h
  rw [Option.map_eq_some_iff] at h
  obtain ⟨d1, h1, rfl⟩ := h
  have h2 := Dev.remake_chg _ _ _ _ _ _ h1
  cases ho : d1.obj? (p * 2 ^ 20 + io.handle % 2 ^ 20) with
  | none => exact chg_step h2 (by exact rfl) (chg_refl _ _)
  | some o => exact Dev.pour1_keep (by exact rfl) (Dev.setObj_keep (by exact rfl) (chg_step h2 (by exact rfl) (chg_refl _ _)))

theorem Dev.restoreObj_keep {t d0 d p j io e} (h : Dev.restoreObj d p j io = some e) (hs : tablesIn [.regs, .t1, .tir] t = true) (hx : Dev.changesOnly t d0 d) :
    Dev.changesOnly t d0 e :=
  chg_step (Dev.restoreObj_chg _ _ _ _ _ h) hs hx

theorem Dev.rowFailed_chg : ∀ d a1 a2, Dev.changesOnly [.regs, .log, .logSeq, .spr, .six, .evt, .out, .sec] d (Dev.rowFailed d a1 a2) := by
  intro d a1 a2
  unfold Dev.rowFailed
  repeat' first
    | (with_reducible assumption)
    | (with_reducible exact chg_refl _ _)
    | ((with_reducible apply Dev.closeCore_keep); exact rfl)
    | ((with_reducible apply Dev.repaired_keep); exact rfl)
    | ((with_reducible apply Dev.setFlag_keep); exact rfl)
    | ((with_reducible apply Dev.wr_keep); exact rfl)
    | (with_reducible apply chg_ite)
    | (with_reducible apply chg_foldl)
    | (with_reducible apply chg_foldl_snd)
    | (with_reducible apply chg_ite_snd)
    | intro _ _ _
    | intro _
    | split
    | (dsimp -proj only)

theorem Dev.rowFailed_keep {t d0 d a1 a2} (hs : tablesIn [.regs, .log, .logSeq, .spr, .six, .evt, .out, .sec] t = true) (hx : Dev.changesOnly t d0 d) : Dev.changesOnly t d0 (Dev.rowFailed d a1 a2) :=
  chg_step (Dev.rowFailed_chg _ _ _) hs hx

theorem Dev.unfit_chg : ∀ d a1, Dev.changesOnly [.kqp] d (Dev.unfit d a1) := by
  intro d a1
  unfold Dev.unfit
  repeat' first
    | (with_reducible assumption)
    | (with_reducible exact chg_refl _ _)
    | ((with_reducible apply Dev.failPart_keep); exact rfl)
    | (with_reducible apply chg_ite)
    | (with_reducible apply chg_foldl)
    | (with_reducible apply chg_foldl_snd)
    | (with_reducible apply chg_ite_snd)
    | intro _ _ _
    | intro _
    | split
    | (dsimp -proj only)

theorem Dev.unfit_keep {t d0 d a1} (hs : tablesIn [.kqp] t = true) (hx : Dev.changesOnly t d0 d) : Dev.changesOnly t d0 (Dev.unfit d a1) :=
  chg_step (Dev.unfit_chg _ _) hs hx

theorem Dev.withWord_keep {t d0 d x h n bad act} (hs : tablesIn [.kqp] t = true) (hb : ∀ e, Dev.changesOnly t d0 e → Dev.changesOnly t d0 (bad e)) (ha : ∀ e y, Dev.changesOnly t d0 e → Dev.changesOnly t d0 (act e y)) (hx : Dev.changesOnly t d0 d) :
    Dev.changesOnly t d0 (Dev.withWord d x h n bad act) := by
  unfold Dev.withWord
  refine chg_ite (Dev.failPart_keep (tablesIn_trans (by exact rfl) hs) hx) (chg_ite (hb _ hx) (chg_ite (ha _ _ hx) hx))

theorem Dev.withDesc_keep {t d0 d x h l bad act} (hs : tablesIn [.regs, .log, .logSeq, .evt, .kqp] t = true) (ha : ∀ e y, Dev.changesOnly t d0 e → Dev.changesOnly t d0 (act e y)) (hx : Dev.changesOnly t d0 d) :
    Dev.changesOnly t d0 (Dev.withDesc d x h l bad act) := by
  unfold Dev.withDesc
  exact chg_ite (Dev.failPart_keep (tablesIn_trans (by exact rfl) hs) hx) (chg_ite (ha _ _ hx) (Dev.withWord_keep (tablesIn_trans (by exact rfl) hs) (fun e he => Dev.descRejected_keep (tablesIn_trans (by exact rfl) hs) he)
    (fun e y he => chg_ite (Dev.descRejected_keep (tablesIn_trans (by exact rfl) hs) he) (ha _ _ he)) hx))

theorem Dev.runAttn_chg : ∀ d a1 a2, Dev.changesOnly [.regs, .t0, .t1, .log, .logSeq, .msixPend, .spr, .six, .evt, .kqp, .out, .tir, .ldg, .col, .ccr] d (Dev.runAttn d a1 a2) := by
  intro d a1 a2
  unfold Dev.runAttn
  repeat' first
    | (with_reducible assumption)
    | (with_reducible exact chg_refl _ _)
    | ((with_reducible apply Dev.arrayDone_keep); exact rfl)
    | ((with_reducible apply Dev.arrayMismatch_keep); exact rfl)
    | ((with_reducible apply Dev.gate_keep); exact rfl)
    | ((with_reducible apply Dev.onUnit_keep); exact rfl)
    | ((with_reducible apply Dev.unfit_keep); exact rfl)
    | ((with_reducible apply Dev.withDesc_keep); exact rfl)
    | (with_reducible apply chg_ite)
    | (with_reducible apply chg_foldl)
    | (with_reducible apply chg_foldl_snd)
    | (with_reducible apply chg_ite_snd)
    | intro _ _ _
    | intro _
    | split
    | (dsimp -proj only)

theorem Dev.runAttn_keep {t d0 d a1 a2} (hs : tablesIn [.regs, .t0, .t1, .log, .logSeq, .msixPend, .spr, .six, .evt, .kqp, .out, .tir, .ldg, .col, .ccr] t = true) (hx : Dev.changesOnly t d0 d) : Dev.changesOnly t d0 (Dev.runAttn d a1 a2) :=
  chg_step (Dev.runAttn_chg _ _ _) hs hx

theorem Dev.runColl_chg : ∀ d a1 a2 a3, Dev.changesOnly [.regs, .t0, .t1, .log, .logSeq, .six, .evt, .kqp, .out, .tir, .mkt, .col, .fab, .tbn] d (Dev.runColl d a1 a2 a3) := by
  intro d a1 a2 a3
  unfold Dev.runColl
  repeat' first
    | (with_reducible assumption)
    | (with_reducible exact chg_refl _ _)
    | ((with_reducible apply Dev.collAdvance_keep); exact rfl)
    | ((with_reducible apply Dev.collBegin_keep); exact rfl)
    | (with_reducible apply chg_when)
    | (with_reducible apply chg_ite)
    | (with_reducible apply chg_foldl)
    | (with_reducible apply chg_foldl_snd)
    | (with_reducible apply chg_ite_snd)
    | intro _ _ _
    | intro _
    | split
    | (dsimp -proj only)

theorem Dev.runColl_keep {t d0 d a1 a2 a3} (hs : tablesIn [.regs, .t0, .t1, .log, .logSeq, .six, .evt, .kqp, .out, .tir, .mkt, .col, .fab, .tbn] t = true) (hx : Dev.changesOnly t d0 d) : Dev.changesOnly t d0 (Dev.runColl d a1 a2 a3) :=
  chg_step (Dev.runColl_chg _ _ _ _) hs hx

theorem Dev.tokensDone_chg : ∀ d a1 a2 a3 a4 a5, Dev.changesOnly [.regs, .t0, .log, .logSeq, .evt, .kqp, .tir] d (Dev.tokensDone d a1 a2 a3 a4 a5) := by
  intro d a1 a2 a3 a4 a5
  unfold Dev.tokensDone
  repeat' first
    | (with_reducible assumption)
    | (with_reducible exact chg_refl _ _)
    | ((with_reducible apply Dev.engDone_keep); exact rfl)
    | ((with_reducible apply Dev.engFail_keep); exact rfl)
    | (with_reducible apply chg_ite)
    | (with_reducible apply chg_foldl)
    | (with_reducible apply chg_foldl_snd)
    | (with_reducible apply chg_ite_snd)
    | intro _ _ _
    | intro _
    | split
    | (dsimp -proj only)

theorem Dev.tokensDone_keep {t d0 d a1 a2 a3 a4 a5} (hs : tablesIn [.regs, .t0, .log, .logSeq, .evt, .kqp, .tir] t = true) (hx : Dev.changesOnly t d0 d) : Dev.changesOnly t d0 (Dev.tokensDone d a1 a2 a3 a4 a5) :=
  chg_step (Dev.tokensDone_chg _ _ _ _ _ _) hs hx

theorem Dev.runCombine_chg : ∀ d a1, Dev.changesOnly [.regs, .t0, .log, .logSeq, .evt, .kqp, .tir] d (Dev.runCombine d a1) := by
  intro d a1
  unfold Dev.runCombine
  repeat' first
    | (with_reducible assumption)
    | (with_reducible exact chg_refl _ _)
    | ((with_reducible apply Dev.gate_keep); exact rfl)
    | ((with_reducible apply Dev.onUnit_keep); exact rfl)
    | ((with_reducible apply Dev.tokensDone_keep); exact rfl)
    | ((with_reducible apply Dev.unfit_keep); exact rfl)
    | (with_reducible apply chg_ite)
    | (with_reducible apply chg_foldl)
    | (with_reducible apply chg_foldl_snd)
    | (with_reducible apply chg_ite_snd)
    | intro _ _ _
    | intro _
    | split
    | (dsimp -proj only)

theorem Dev.runCombine_keep {t d0 d a1} (hs : tablesIn [.regs, .t0, .log, .logSeq, .evt, .kqp, .tir] t = true) (hx : Dev.changesOnly t d0 d) : Dev.changesOnly t d0 (Dev.runCombine d a1) :=
  chg_step (Dev.runCombine_chg _ _) hs hx

theorem Dev.runProd_chg : ∀ d a1 a2 a3 a4 a5 a6, Dev.changesOnly [.regs, .t0, .t1, .log, .logSeq, .msixPend, .spr, .six, .evt, .kqp, .out, .tir, .ldg, .col, .ccr] d (Dev.runProd d a1 a2 a3 a4 a5 a6) := by
  intro d a1 a2 a3 a4 a5 a6
  unfold Dev.runProd
  repeat' first
    | (with_reducible assumption)
    | (with_reducible exact chg_refl _ _)
    | ((with_reducible apply Dev.arrayDone_keep); exact rfl)
    | ((with_reducible apply Dev.arrayMismatch_keep); exact rfl)
    | (with_reducible apply chg_ite)
    | (with_reducible apply chg_foldl)
    | (with_reducible apply chg_foldl_snd)
    | (with_reducible apply chg_ite_snd)
    | intro _ _ _
    | intro _
    | split
    | (dsimp -proj only)

theorem Dev.runProd_keep {t d0 d a1 a2 a3 a4 a5 a6} (hs : tablesIn [.regs, .t0, .t1, .log, .logSeq, .msixPend, .spr, .six, .evt, .kqp, .out, .tir, .ldg, .col, .ccr] t = true) (hx : Dev.changesOnly t d0 d) : Dev.changesOnly t d0 (Dev.runProd d a1 a2 a3 a4 a5 a6) :=
  chg_step (Dev.runProd_chg _ _ _ _ _ _ _) hs hx

theorem Dev.runConv_chg : ∀ d a1 a2, Dev.changesOnly [.regs, .t0, .t1, .log, .logSeq, .msixPend, .spr, .six, .evt, .kqp, .out, .tir, .ldg, .col, .ccr] d (Dev.runConv d a1 a2) := by
  intro d a1 a2
  unfold Dev.runConv
  repeat' first
    | (with_reducible assumption)
    | (with_reducible exact chg_refl _ _)
    | ((with_reducible apply Dev.gate_keep); exact rfl)
    | ((with_reducible apply Dev.onUnit_keep); exact rfl)
    | ((with_reducible apply Dev.runProd_keep); exact rfl)
    | ((with_reducible apply Dev.unfit_keep); exact rfl)
    | ((with_reducible apply Dev.withDesc_keep); exact rfl)
    | (with_reducible apply chg_ite)
    | (with_reducible apply chg_foldl)
    | (with_reducible apply chg_foldl_snd)
    | (with_reducible apply chg_ite_snd)
    | intro _ _ _
    | intro _
    | split
    | (dsimp -proj only)

theorem Dev.runConv_keep {t d0 d a1 a2} (hs : tablesIn [.regs, .t0, .t1, .log, .logSeq, .msixPend, .spr, .six, .evt, .kqp, .out, .tir, .ldg, .col, .ccr] t = true) (hx : Dev.changesOnly t d0 d) : Dev.changesOnly t d0 (Dev.runConv d a1 a2) :=
  chg_step (Dev.runConv_chg _ _ _) hs hx

theorem Dev.runFft_chg : ∀ d a1, Dev.changesOnly [.regs, .t0, .log, .logSeq, .evt, .kqp, .tir] d (Dev.runFft d a1) := by
  intro d a1
  unfold Dev.runFft
  repeat' first
    | (with_reducible assumption)
    | (with_reducible exact chg_refl _ _)
    | ((with_reducible apply Dev.engDone_keep); exact rfl)
    | ((with_reducible apply Dev.gate_keep); exact rfl)
    | ((with_reducible apply Dev.onUnit_keep); exact rfl)
    | ((with_reducible apply Dev.unfit_keep); exact rfl)
    | (with_reducible apply chg_ite)
    | (with_reducible apply chg_foldl)
    | (with_reducible apply chg_foldl_snd)
    | (with_reducible apply chg_ite_snd)
    | intro _ _ _
    | intro _
    | split
    | (dsimp -proj only)

theorem Dev.runFft_keep {t d0 d a1} (hs : tablesIn [.regs, .t0, .log, .logSeq, .evt, .kqp, .tir] t = true) (hx : Dev.changesOnly t d0 d) : Dev.changesOnly t d0 (Dev.runFft d a1) :=
  chg_step (Dev.runFft_chg _ _) hs hx

theorem Dev.runGather_chg : ∀ d a1, Dev.changesOnly [.regs, .t0, .log, .logSeq, .evt, .kqp, .tir] d (Dev.runGather d a1) := by
  intro d a1
  unfold Dev.runGather
  repeat' first
    | (with_reducible assumption)
    | (with_reducible exact chg_refl _ _)
    | ((with_reducible apply Dev.gate_keep); exact rfl)
    | ((with_reducible apply Dev.onUnit_keep); exact rfl)
    | ((with_reducible apply Dev.recordsDone_keep); exact rfl)
    | ((with_reducible apply Dev.unfit_keep); exact rfl)
    | (with_reducible apply chg_ite)
    | (with_reducible apply chg_foldl)
    | (with_reducible apply chg_foldl_snd)
    | (with_reducible apply chg_ite_snd)
    | intro _ _ _
    | intro _
    | split
    | (dsimp -proj only)

theorem Dev.runGather_keep {t d0 d a1} (hs : tablesIn [.regs, .t0, .log, .logSeq, .evt, .kqp, .tir] t = true) (hx : Dev.changesOnly t d0 d) : Dev.changesOnly t d0 (Dev.runGather d a1) :=
  chg_step (Dev.runGather_chg _ _) hs hx

theorem Dev.runMm_chg : ∀ d a1 a2 a3, Dev.changesOnly [.regs, .t0, .t1, .log, .logSeq, .msixPend, .spr, .six, .evt, .kqp, .out, .tir, .ldg, .col, .ccr] d (Dev.runMm d a1 a2 a3) := by
  intro d a1 a2 a3
  unfold Dev.runMm
  repeat' first
    | (with_reducible assumption)
    | (with_reducible exact chg_refl _ _)
    | ((with_reducible apply Dev.gate_keep); exact rfl)
    | ((with_reducible apply Dev.onUnit_keep); exact rfl)
    | ((with_reducible apply Dev.runProd_keep); exact rfl)
    | ((with_reducible apply Dev.unfit_keep); exact rfl)
    | ((with_reducible apply Dev.withDesc_keep); exact rfl)
    | (with_reducible apply chg_ite)
    | (with_reducible apply chg_foldl)
    | (with_reducible apply chg_foldl_snd)
    | (with_reducible apply chg_ite_snd)
    | intro _ _ _
    | intro _
    | split
    | (dsimp -proj only)

theorem Dev.runMm_keep {t d0 d a1 a2 a3} (hs : tablesIn [.regs, .t0, .t1, .log, .logSeq, .msixPend, .spr, .six, .evt, .kqp, .out, .tir, .ldg, .col, .ccr] t = true) (hx : Dev.changesOnly t d0 d) : Dev.changesOnly t d0 (Dev.runMm d a1 a2 a3) :=
  chg_step (Dev.runMm_chg _ _ _ _) hs hx

theorem Dev.runNorm_chg : ∀ d a1, Dev.changesOnly [.regs, .t0, .log, .logSeq, .evt, .kqp, .tir] d (Dev.runNorm d a1) := by
  intro d a1
  unfold Dev.runNorm
  repeat' first
    | (with_reducible assumption)
    | (with_reducible exact chg_refl _ _)
    | ((with_reducible apply Dev.engDone_keep); exact rfl)
    | ((with_reducible apply Dev.gate_keep); exact rfl)
    | ((with_reducible apply Dev.onUnit_keep); exact rfl)
    | ((with_reducible apply Dev.unfit_keep); exact rfl)
    | (with_reducible apply chg_ite)
    | (with_reducible apply chg_foldl)
    | (with_reducible apply chg_foldl_snd)
    | (with_reducible apply chg_ite_snd)
    | intro _ _ _
    | intro _
    | split
    | (dsimp -proj only)

theorem Dev.runNorm_keep {t d0 d a1} (hs : tablesIn [.regs, .t0, .log, .logSeq, .evt, .kqp, .tir] t = true) (hx : Dev.changesOnly t d0 d) : Dev.changesOnly t d0 (Dev.runNorm d a1) :=
  chg_step (Dev.runNorm_chg _ _) hs hx

theorem Dev.runPermute_chg : ∀ d a1, Dev.changesOnly [.regs, .t0, .log, .logSeq, .evt, .kqp, .tir] d (Dev.runPermute d a1) := by
  intro d a1
  unfold Dev.runPermute
  repeat' first
    | (with_reducible assumption)
    | (with_reducible exact chg_refl _ _)
    | ((with_reducible apply Dev.gate_keep); exact rfl)
    | ((with_reducible apply Dev.onUnit_keep); exact rfl)
    | ((with_reducible apply Dev.tokensDone_keep); exact rfl)
    | ((with_reducible apply Dev.unfit_keep); exact rfl)
    | (with_reducible apply chg_ite)
    | (with_reducible apply chg_foldl)
    | (with_reducible apply chg_foldl_snd)
    | (with_reducible apply chg_ite_snd)
    | intro _ _ _
    | intro _
    | split
    | (dsimp -proj only)

theorem Dev.runPermute_keep {t d0 d a1} (hs : tablesIn [.regs, .t0, .log, .logSeq, .evt, .kqp, .tir] t = true) (hx : Dev.changesOnly t d0 d) : Dev.changesOnly t d0 (Dev.runPermute d a1) :=
  chg_step (Dev.runPermute_chg _ _) hs hx

theorem Dev.runSlice64_chg : ∀ d a1 a2 a3 a4, Dev.changesOnly [.regs, .t0, .t1, .log, .logSeq, .msixPend, .spr, .six, .evt, .kqp, .out, .tir, .ldg, .col, .ccr] d (Dev.runSlice64 d a1 a2 a3 a4) := by
  intro d a1 a2 a3 a4
  unfold Dev.runSlice64
  repeat' first
    | (with_reducible assumption)
    | (with_reducible exact chg_refl _ _)
    | ((with_reducible apply Dev.arrayMismatch_keep); exact rfl)
    | ((with_reducible apply Dev.coreCounts_keep); exact rfl)
    | ((with_reducible apply Dev.coreOn_keep); exact rfl)
    | ((with_reducible apply Dev.drained_keep); exact rfl)
    | ((with_reducible apply Dev.partRan_keep); exact rfl)
    | (with_reducible apply chg_ite)
    | (with_reducible apply chg_foldl)
    | (with_reducible apply chg_foldl_snd)
    | (with_reducible apply chg_ite_snd)
    | intro _ _ _
    | intro _
    | split
    | (dsimp -proj only)

theorem Dev.runSlice64_keep {t d0 d a1 a2 a3 a4} (hs : tablesIn [.regs, .t0, .t1, .log, .logSeq, .msixPend, .spr, .six, .evt, .kqp, .out, .tir, .ldg, .col, .ccr] t = true) (hx : Dev.changesOnly t d0 d) : Dev.changesOnly t d0 (Dev.runSlice64 d a1 a2 a3 a4) :=
  chg_step (Dev.runSlice64_chg _ _ _ _ _) hs hx

theorem Dev.runProduct_chg : ∀ d a1 a2 a3, Dev.changesOnly [.regs, .t0, .t1, .log, .logSeq, .msixPend, .spr, .six, .evt, .kqp, .out, .tir, .ldg, .col, .ccr] d (Dev.runProduct d a1 a2 a3) := by
  intro d a1 a2 a3
  unfold Dev.runProduct
  repeat' first
    | (with_reducible assumption)
    | (with_reducible exact chg_refl _ _)
    | ((with_reducible apply Dev.failPart_keep); exact rfl)
    | ((with_reducible apply Dev.gate_keep); exact rfl)
    | ((with_reducible apply Dev.onUnit_keep); exact rfl)
    | ((with_reducible apply Dev.runProd_keep); exact rfl)
    | ((with_reducible apply Dev.runSlice64_keep); exact rfl)
    | (with_reducible apply chg_when)
    | (with_reducible apply chg_ite)
    | (with_reducible apply chg_foldl)
    | (with_reducible apply chg_foldl_snd)
    | (with_reducible apply chg_ite_snd)
    | intro _ _ _
    | intro _
    | split
    | (dsimp -proj only)

theorem Dev.runProduct_keep {t d0 d a1 a2 a3} (hs : tablesIn [.regs, .t0, .t1, .log, .logSeq, .msixPend, .spr, .six, .evt, .kqp, .out, .tir, .ldg, .col, .ccr] t = true) (hx : Dev.changesOnly t d0 d) : Dev.changesOnly t d0 (Dev.runProduct d a1 a2 a3) :=
  chg_step (Dev.runProduct_chg _ _ _ _) hs hx

theorem Dev.setHalf_chg : ∀ d a1, Dev.changesOnly [.kqp] d (Dev.setHalf d a1) := by
  intro d a1
  unfold Dev.setHalf
  repeat' first
    | (with_reducible assumption)
    | (with_reducible exact chg_refl _ _)
    | ((with_reducible apply Dev.setCmd_keep); exact rfl)
    | (with_reducible apply chg_ite)
    | (with_reducible apply chg_foldl)
    | (with_reducible apply chg_foldl_snd)
    | (with_reducible apply chg_ite_snd)
    | intro _ _ _
    | intro _
    | split
    | (dsimp -proj only)

theorem Dev.setHalf_keep {t d0 d a1} (hs : tablesIn [.kqp] t = true) (hx : Dev.changesOnly t d0 d) : Dev.changesOnly t d0 (Dev.setHalf d a1) :=
  chg_step (Dev.setHalf_chg _ _) hs hx

theorem Dev.runRoute_chg : ∀ d a1, Dev.changesOnly [.regs, .t0, .log, .logSeq, .evt, .kqp, .tir] d (Dev.runRoute d a1) := by
  intro d a1
  unfold Dev.runRoute
  repeat' first
    | (with_reducible assumption)
    | (with_reducible exact chg_refl _ _)
    | ((with_reducible apply Dev.gate_keep); exact rfl)
    | ((with_reducible apply Dev.onUnit_keep); exact rfl)
    | ((with_reducible apply Dev.setHalf_keep); exact rfl)
    | ((with_reducible apply Dev.setT0_keep); exact rfl)
    | ((with_reducible apply Dev.soil_keep); exact rfl)
    | ((with_reducible apply Dev.unfit_keep); exact rfl)
    | (with_reducible apply chg_ite)
    | (with_reducible apply chg_foldl)
    | (with_reducible apply chg_foldl_snd)
    | (with_reducible apply chg_ite_snd)
    | intro _ _ _
    | intro _
    | split
    | (dsimp -proj only)

theorem Dev.runRoute_keep {t d0 d a1} (hs : tablesIn [.regs, .t0, .log, .logSeq, .evt, .kqp, .tir] t = true) (hx : Dev.changesOnly t d0 d) : Dev.changesOnly t d0 (Dev.runRoute d a1) :=
  chg_step (Dev.runRoute_chg _ _) hs hx

theorem Dev.runRoute2_chg : ∀ d a1, Dev.changesOnly [.regs, .t0, .log, .logSeq, .evt, .kqp, .tir] d (Dev.runRoute2 d a1) := by
  intro d a1
  unfold Dev.runRoute2
  repeat' first
    | (with_reducible assumption)
    | (with_reducible exact chg_refl _ _)
    | ((with_reducible apply Dev.engDone_keep); exact rfl)
    | ((with_reducible apply Dev.engSpecial_keep); exact rfl)
    | ((with_reducible apply Dev.failPart_keep); exact rfl)
    | ((with_reducible apply Dev.gate_keep); exact rfl)
    | ((with_reducible apply Dev.onUnit_keep); exact rfl)
    | (with_reducible apply chg_when)
    | (with_reducible apply chg_ite)
    | (with_reducible apply chg_foldl)
    | (with_reducible apply chg_foldl_snd)
    | (with_reducible apply chg_ite_snd)
    | intro _ _ _
    | intro _
    | split
    | (dsimp -proj only)

theorem Dev.runRoute2_keep {t d0 d a1} (hs : tablesIn [.regs, .t0, .log, .logSeq, .evt, .kqp, .tir] t = true) (hx : Dev.changesOnly t d0 d) : Dev.changesOnly t d0 (Dev.runRoute2 d a1) :=
  chg_step (Dev.runRoute2_chg _ _) hs hx

theorem Dev.runScatter_chg : ∀ d a1, Dev.changesOnly [.regs, .t0, .log, .logSeq, .evt, .kqp, .tir] d (Dev.runScatter d a1) := by
  intro d a1
  unfold Dev.runScatter
  repeat' first
    | (with_reducible assumption)
    | (with_reducible exact chg_refl _ _)
    | ((with_reducible apply Dev.gate_keep); exact rfl)
    | ((with_reducible apply Dev.onUnit_keep); exact rfl)
    | ((with_reducible apply Dev.recordsDone_keep); exact rfl)
    | ((with_reducible apply Dev.unfit_keep); exact rfl)
    | (with_reducible apply chg_ite)
    | (with_reducible apply chg_foldl)
    | (with_reducible apply chg_foldl_snd)
    | (with_reducible apply chg_ite_snd)
    | intro _ _ _
    | intro _
    | split
    | (dsimp -proj only)

theorem Dev.runScatter_keep {t d0 d a1} (hs : tablesIn [.regs, .t0, .log, .logSeq, .evt, .kqp, .tir] t = true) (hx : Dev.changesOnly t d0 d) : Dev.changesOnly t d0 (Dev.runScatter d a1) :=
  chg_step (Dev.runScatter_chg _ _) hs hx

theorem Dev.runSf_chg : ∀ d a1, Dev.changesOnly [.regs, .t0, .log, .logSeq, .evt, .kqp, .tir] d (Dev.runSf d a1) := by
  intro d a1
  unfold Dev.runSf
  repeat' first
    | (with_reducible assumption)
    | (with_reducible exact chg_refl _ _)
    | ((with_reducible apply Dev.engDone_keep); exact rfl)
    | ((with_reducible apply Dev.gate_keep); exact rfl)
    | ((with_reducible apply Dev.onUnit_keep); exact rfl)
    | ((with_reducible apply Dev.unfit_keep); exact rfl)
    | (with_reducible apply chg_ite)
    | (with_reducible apply chg_foldl)
    | (with_reducible apply chg_foldl_snd)
    | (with_reducible apply chg_ite_snd)
    | intro _ _ _
    | intro _
    | split
    | (dsimp -proj only)

theorem Dev.runSf_keep {t d0 d a1} (hs : tablesIn [.regs, .t0, .log, .logSeq, .evt, .kqp, .tir] t = true) (hx : Dev.changesOnly t d0 d) : Dev.changesOnly t d0 (Dev.runSf d a1) :=
  chg_step (Dev.runSf_chg _ _) hs hx

theorem Dev.runSlice_chg : ∀ d a1 a2, Dev.changesOnly [.regs, .t0, .log, .logSeq, .evt, .kqp, .tir] d (Dev.runSlice d a1 a2) := by
  intro d a1 a2
  unfold Dev.runSlice
  repeat' first
    | (with_reducible assumption)
    | (with_reducible exact chg_refl _ _)
    | ((with_reducible apply Dev.failPart_keep); exact rfl)
    | ((with_reducible apply Dev.gate_keep); exact rfl)
    | ((with_reducible apply Dev.onUnit_keep); exact rfl)
    | ((with_reducible apply Dev.setHalf_keep); exact rfl)
    | ((with_reducible apply Dev.setT0_keep); exact rfl)
    | ((with_reducible apply Dev.soil_keep); exact rfl)
    | ((with_reducible apply Dev.unfit_keep); exact rfl)
    | (with_reducible apply chg_ite)
    | (with_reducible apply chg_foldl)
    | (with_reducible apply chg_foldl_snd)
    | (with_reducible apply chg_ite_snd)
    | intro _ _ _
    | intro _
    | split
    | (dsimp -proj only)

theorem Dev.runSlice_keep {t d0 d a1 a2} (hs : tablesIn [.regs, .t0, .log, .logSeq, .evt, .kqp, .tir] t = true) (hx : Dev.changesOnly t d0 d) : Dev.changesOnly t d0 (Dev.runSlice d a1 a2) :=
  chg_step (Dev.runSlice_chg _ _ _) hs hx

theorem Dev.runStats_chg : ∀ d a1 a2 a3 a4 a5 a6, Dev.changesOnly [.regs, .t0, .t1, .log, .logSeq, .evt, .kqp, .tir, .mkt] d (Dev.runStats d a1 a2 a3 a4 a5 a6) := by
  intro d a1 a2 a3 a4 a5 a6
  unfold Dev.runStats
  repeat' first
    | (with_reducible assumption)
    | (with_reducible exact chg_refl _ _)
    | ((with_reducible apply Dev.acrFail_keep); exact rfl)
    | ((with_reducible apply Dev.failPart_keep); exact rfl)
    | ((with_reducible apply Dev.partRan_keep); exact rfl)
    | (refine Dev.putWorkspace_keep (by with_reducible assumption) rfl ?_)
    | (with_reducible apply chg_ite)
    | (with_reducible apply chg_foldl)
    | (with_reducible apply chg_foldl_snd)
    | (with_reducible apply chg_ite_snd)
    | intro _ _ _
    | intro _
    | split
    | (dsimp -proj only)

theorem Dev.runStats_keep {t d0 d a1 a2 a3 a4 a5 a6} (hs : tablesIn [.regs, .t0, .t1, .log, .logSeq, .evt, .kqp, .tir, .mkt] t = true) (hx : Dev.changesOnly t d0 d) : Dev.changesOnly t d0 (Dev.runStats d a1 a2 a3 a4 a5 a6) :=
  chg_step (Dev.runStats_chg _ _ _ _ _ _ _) hs hx

theorem Dev.runTier_keep {t d0 d q i op act} (hs : tablesIn [.kqp] t = true) (ha : ∀ e c k o, Dev.changesOnly t d0 e → Dev.changesOnly t d0 (act e c k o)) (hx : Dev.changesOnly t d0 d) :
    Dev.changesOnly t d0 (Dev.runTier d q i op act) := by
  unfold Dev.runTier
  refine chg_when (fun _ => ?_) hx
  dsimp only
  split
  · exact Dev.failPart_keep (tablesIn_trans (by exact rfl) hs) hx
  · exact ha _ _ _ _ hx

theorem Dev.runUpdate_chg : ∀ d a1 a2 a3 a4 a5 a6, Dev.changesOnly [.regs, .t1, .log, .logSeq, .evt, .kqp, .ldg, .acr] d (Dev.runUpdate d a1 a2 a3 a4 a5 a6) := by
  intro d a1 a2 a3 a4 a5 a6
  unfold Dev.runUpdate
  repeat' first
    | (with_reducible assumption)
    | (with_reducible exact chg_refl _ _)
    | ((with_reducible apply Dev.acrFail_keep); exact rfl)
    | ((with_reducible apply Dev.countDegen_keep); exact rfl)
    | ((with_reducible apply Dev.failPart_keep); exact rfl)
    | ((with_reducible apply Dev.joinWrites_keep); exact rfl)
    | ((with_reducible apply Dev.partRan_keep); exact rfl)
    | ((with_reducible apply Dev.putTwins_keep); exact rfl)
    | (refine Dev.putTwins_keep_eq (by with_reducible assumption) rfl ?_)
    | ((with_reducible apply Dev.putVec1_keep); exact rfl)
    | ((with_reducible apply Dev.setAcr_keep); exact rfl)
    | (with_reducible apply chg_ite)
    | (with_reducible apply chg_foldl)
    | (with_reducible apply chg_foldl_snd)
    | (with_reducible apply chg_ite_snd)
    | intro _ _ _
    | intro _
    | split
    | (dsimp -proj only)

theorem Dev.runUpdate_keep {t d0 d a1 a2 a3 a4 a5 a6} (hs : tablesIn [.regs, .t1, .log, .logSeq, .evt, .kqp, .ldg, .acr] t = true) (hx : Dev.changesOnly t d0 d) : Dev.changesOnly t d0 (Dev.runUpdate d a1 a2 a3 a4 a5 a6) :=
  chg_step (Dev.runUpdate_chg _ _ _ _ _ _ _) hs hx

theorem Dev.runVx_chg : ∀ d a1, Dev.changesOnly [.regs, .t0, .t1, .log, .logSeq, .evt, .kqp, .tir] d (Dev.runVx d a1) := by
  intro d a1
  unfold Dev.runVx
  repeat' first
    | (with_reducible assumption)
    | (with_reducible exact chg_refl _ _)
    | ((with_reducible apply Dev.chainRejected_keep); exact rfl)
    | ((with_reducible apply Dev.engDone_keep); exact rfl)
    | ((with_reducible apply Dev.failPart_keep); exact rfl)
    | ((with_reducible apply Dev.gate_keep); exact rfl)
    | ((with_reducible apply Dev.onUnit_keep); exact rfl)
    | ((with_reducible apply Dev.raiseAmax_keep); exact rfl)
    | ((with_reducible apply Dev.unfit_keep); exact rfl)
    | ((with_reducible apply Dev.withWord_keep); exact rfl)
    | (with_reducible apply chg_ite)
    | (with_reducible apply chg_foldl)
    | (with_reducible apply chg_foldl_snd)
    | (with_reducible apply chg_ite_snd)
    | intro _ _ _
    | intro _
    | split
    | (dsimp -proj only)

theorem Dev.runVx_keep {t d0 d a1} (hs : tablesIn [.regs, .t0, .t1, .log, .logSeq, .evt, .kqp, .tir] t = true) (hx : Dev.changesOnly t d0 d) : Dev.changesOnly t d0 (Dev.runVx d a1) :=
  chg_step (Dev.runVx_chg _ _) hs hx

theorem Dev.sendAck_chg : ∀ d a1 a2, Dev.changesOnly [.regs, .fab, .tbn] d (Dev.sendAck d a1 a2) := by
  intro d a1 a2
  unfold Dev.sendAck
  repeat' first
    | (with_reducible assumption)
    | (with_reducible exact chg_refl _ _)
    | ((with_reducible apply Dev.sendService_keep); exact rfl)
    | ((with_reducible apply Dev.setConn_keep); exact rfl)
    | (with_reducible apply chg_ite)
    | (with_reducible apply chg_foldl)
    | (with_reducible apply chg_foldl_snd)
    | (with_reducible apply chg_ite_snd)
    | intro _ _ _
    | intro _
    | split
    | (dsimp -proj only)

theorem Dev.sendAck_keep {t d0 d a1 a2} (hs : tablesIn [.regs, .fab, .tbn] t = true) (hx : Dev.changesOnly t d0 d) : Dev.changesOnly t d0 (Dev.sendAck d a1 a2) :=
  chg_step (Dev.sendAck_chg _ _ _) hs hx

end Sys2Proof.Machine
end

