-- ==== Sys2Proof/Laws/FrameOps5.lean ====
section
/-! SUPPORT. Frames of the shared operations, part 5 of 6, callees before callers: `<op>_chg` names every table the operation may change, and
`<op>_keep` carries a frame through it (`_keep_eq` where it answers a value beside the device); a caller cites them and does not unfold. -/

namespace Sys2Proof.Machine

theorem Dev.sendLldp_chg : ∀ d a1, Dev.changesOnly [.fab] d (Dev.sendLldp d a1) := by
  intro d a1
  unfold Dev.sendLldp
  repeat' first
    | (with_reducible assumption)
    | (with_reducible exact chg_refl _ _)
    | ((with_reducible apply Dev.enqueue_keep); exact rfl)
    | ((with_reducible apply Dev.setPort_keep); exact rfl)
    | (with_reducible apply chg_ite)
    | (with_reducible apply chg_foldl)
    | (with_reducible apply chg_foldl_snd)
    | (with_reducible apply chg_ite_snd)
    | intro _ _ _
    | intro _
    | split
    | (dsimp -proj only)

theorem Dev.sendLldp_keep {t d0 d a1} (hs : tablesIn [.fab] t = true) (hx : Dev.changesOnly t d0 d) : Dev.changesOnly t d0 (Dev.sendLldp d a1) :=
  chg_step (Dev.sendLldp_chg _ _) hs hx

theorem Dev.sendPfc_chg : ∀ d a1 a2 a3, Dev.changesOnly [.regs, .out] d (Dev.sendPfc d a1 a2 a3) := by
  intro d a1 a2 a3
  unfold Dev.sendPfc
  repeat' first
    | (with_reducible assumption)
    | (with_reducible exact chg_refl _ _)
    | ((with_reducible apply Dev.emit_keep); exact rfl)
    | ((with_reducible apply Dev.inc_keep); exact rfl)
    | ((with_reducible apply Dev.incSat_keep); exact rfl)
    | (with_reducible apply chg_ite)
    | (with_reducible apply chg_foldl)
    | (with_reducible apply chg_foldl_snd)
    | (with_reducible apply chg_ite_snd)
    | intro _ _ _
    | intro _
    | split
    | (dsimp -proj only)

theorem Dev.sendPfc_keep {t d0 d a1 a2 a3} (hs : tablesIn [.regs, .out] t = true) (hx : Dev.changesOnly t d0 d) : Dev.changesOnly t d0 (Dev.sendPfc d a1 a2 a3) :=
  chg_step (Dev.sendPfc_chg _ _ _ _) hs hx

theorem Dev.sentOver_chg : ∀ d a1, Dev.changesOnly [.regs, .log, .logSeq, .six, .evt, .kqp, .out, .ldg, .wset, .col, .tbn] d (Dev.sentOver d a1) := by
  intro d a1
  unfold Dev.sentOver
  repeat' first
    | (with_reducible assumption)
    | (with_reducible exact chg_refl _ _)
    | ((with_reducible apply Dev.msgOver_keep); exact rfl)
    | ((with_reducible apply Dev.setConn_keep); exact rfl)
    | (with_reducible apply chg_ite)
    | (with_reducible apply chg_foldl)
    | (with_reducible apply chg_foldl_snd)
    | (with_reducible apply chg_ite_snd)
    | intro _ _ _
    | intro _
    | split
    | (dsimp -proj only)

theorem Dev.sentOver_keep {t d0 d a1} (hs : tablesIn [.regs, .log, .logSeq, .six, .evt, .kqp, .out, .ldg, .wset, .col, .tbn] t = true) (hx : Dev.changesOnly t d0 d) : Dev.changesOnly t d0 (Dev.sentOver d a1) :=
  chg_step (Dev.sentOver_chg _ _) hs hx

theorem Dev.serveSource_chg : ∀ d a1, Dev.changesOnly [.regs, .evt] d (Dev.serveSource d a1) := by
  intro d a1
  unfold Dev.serveSource
  repeat' first
    | (with_reducible assumption)
    | (with_reducible exact chg_refl _ _)
    | ((with_reducible apply Dev.setEvt_keep); exact rfl)
    | ((with_reducible apply Dev.setFlag_keep); exact rfl)
    | ((with_reducible apply Dev.showLevel_keep); exact rfl)
    | (with_reducible apply chg_ite)
    | (with_reducible apply chg_foldl)
    | (with_reducible apply chg_foldl_snd)
    | (with_reducible apply chg_ite_snd)
    | intro _ _ _
    | intro _
    | split
    | (dsimp -proj only)

theorem Dev.serveSource_keep {t d0 d a1} (hs : tablesIn [.regs, .evt] t = true) (hx : Dev.changesOnly t d0 d) : Dev.changesOnly t d0 (Dev.serveSource d a1) :=
  chg_step (Dev.serveSource_chg _ _) hs hx

theorem Dev.setCap_chg : ∀ d a1, Dev.changesOnly [.regs] d (Dev.setCap d a1) := by
  intro d a1
  unfold Dev.setCap
  repeat' first
    | (with_reducible assumption)
    | (with_reducible exact chg_refl _ _)
    | ((with_reducible apply Dev.wr_keep); exact rfl)
    | (with_reducible apply chg_ite)
    | (with_reducible apply chg_foldl)
    | (with_reducible apply chg_foldl_snd)
    | (with_reducible apply chg_ite_snd)
    | intro _ _ _
    | intro _
    | split
    | (dsimp -proj only)

theorem Dev.setCap_keep {t d0 d a1} (hs : tablesIn [.regs] t = true) (hx : Dev.changesOnly t d0 d) : Dev.changesOnly t d0 (Dev.setCap d a1) :=
  chg_step (Dev.setCap_chg _ _) hs hx

theorem Dev.setNow_chg : ∀ d a1, Dev.changesOnly [.now] d (Dev.setNow d a1) := by
  intro d a1
  unfold Dev.setNow
  repeat' first
    | (with_reducible assumption)
    | (with_reducible exact chg_refl _ _)
    | (with_reducible apply chg_ite)
    | (with_reducible apply chg_foldl)
    | (with_reducible apply chg_foldl_snd)
    | (with_reducible apply chg_ite_snd)
    | intro _ _ _
    | intro _
    | split
    | (dsimp -proj only)
    | (refine chg_step (chg_now _ _) rfl ?_)

theorem Dev.setNow_keep {t d0 d a1} (hs : tablesIn [.now] t = true) (hx : Dev.changesOnly t d0 d) : Dev.changesOnly t d0 (Dev.setNow d a1) :=
  chg_step (Dev.setNow_chg _ _) hs hx

theorem Dev.setPtp_chg : ∀ d a1 a2, Dev.changesOnly [.tim] d (Dev.setPtp d a1 a2) := by
  intro d a1 a2
  unfold Dev.setPtp
  repeat' first
    | (with_reducible assumption)
    | (with_reducible exact chg_refl _ _)
    | ((with_reducible apply Dev.setTim_keep); exact rfl)
    | (with_reducible apply chg_ite)
    | (with_reducible apply chg_foldl)
    | (with_reducible apply chg_foldl_snd)
    | (with_reducible apply chg_ite_snd)
    | intro _ _ _
    | intro _
    | split
    | (dsimp -proj only)

theorem Dev.setPtp_keep {t d0 d a1 a2} (hs : tablesIn [.tim] t = true) (hx : Dev.changesOnly t d0 d) : Dev.changesOnly t d0 (Dev.setPtp d a1 a2) :=
  chg_step (Dev.setPtp_chg _ _ _) hs hx

theorem Dev.setRegionAttr_chg : ∀ d a1 a2, Dev.changesOnly [.mkt] d (Dev.setRegionAttr d a1 a2) := by
  intro d a1 a2
  unfold Dev.setRegionAttr
  repeat' first
    | (with_reducible assumption)
    | (with_reducible exact chg_refl _ _)
    | ((with_reducible apply Dev.setMkt_keep); exact rfl)
    | (with_reducible apply chg_ite)
    | (with_reducible apply chg_foldl)
    | (with_reducible apply chg_foldl_snd)
    | (with_reducible apply chg_ite_snd)
    | intro _ _ _
    | intro _
    | split
    | (dsimp -proj only)

theorem Dev.setRegionAttr_keep {t d0 d a1 a2} (hs : tablesIn [.mkt] t = true) (hx : Dev.changesOnly t d0 d) : Dev.changesOnly t d0 (Dev.setRegionAttr d a1 a2) :=
  chg_step (Dev.setRegionAttr_chg _ _ _) hs hx

theorem Dev.setSpdm_chg : ∀ d a1, Dev.changesOnly [.sec] d (Dev.setSpdm d a1) := by
  intro d a1
  unfold Dev.setSpdm
  repeat' first
    | (with_reducible assumption)
    | (with_reducible exact chg_refl _ _)
    | ((with_reducible apply Dev.setSec_keep); exact rfl)
    | (with_reducible apply chg_ite)
    | (with_reducible apply chg_foldl)
    | (with_reducible apply chg_foldl_snd)
    | (with_reducible apply chg_ite_snd)
    | intro _ _ _
    | intro _
    | split
    | (dsimp -proj only)

theorem Dev.setSpdm_keep {t d0 d a1} (hs : tablesIn [.sec] t = true) (hx : Dev.changesOnly t d0 d) : Dev.changesOnly t d0 (Dev.setSpdm d a1) :=
  chg_step (Dev.setSpdm_chg _ _) hs hx

theorem Dev.settlePower_chg : ∀ d a1, Dev.changesOnly [.regs, .out, .pwr] d (Dev.settlePower d a1) := by
  intro d a1
  unfold Dev.settlePower
  repeat' first
    | (with_reducible assumption)
    | (with_reducible exact chg_refl _ _)
    | ((with_reducible apply Dev.emit_keep); exact rfl)
    | ((with_reducible apply Dev.setPwr_keep); exact rfl)
    | ((with_reducible apply Dev.wr_keep); exact rfl)
    | (with_reducible apply chg_ite)
    | (with_reducible apply chg_foldl)
    | (with_reducible apply chg_foldl_snd)
    | (with_reducible apply chg_ite_snd)
    | intro _ _ _
    | intro _
    | split
    | (dsimp -proj only)

theorem Dev.settlePower_keep {t d0 d a1} (hs : tablesIn [.regs, .out, .pwr] t = true) (hx : Dev.changesOnly t d0 d) : Dev.changesOnly t d0 (Dev.settlePower d a1) :=
  chg_step (Dev.settlePower_chg _ _) hs hx

theorem Dev.startTests_chg : ∀ d, Dev.changesOnly [.regs, .log, .logSeq, .spr, .evt, .kqp, .hlt] d (Dev.startTests d) := by
  intro d
  unfold Dev.startTests
  repeat' first
    | (with_reducible assumption)
    | (with_reducible exact chg_refl _ _)
    | ((with_reducible apply Dev.beginTest_keep); exact rfl)
    | ((with_reducible apply Dev.dropTesting_keep); exact rfl)
    | (with_reducible apply chg_ite)
    | (with_reducible apply chg_foldl)
    | (with_reducible apply chg_foldl_snd)
    | (with_reducible apply chg_ite_snd)
    | intro _ _ _
    | intro _
    | split
    | (dsimp -proj only)

theorem Dev.startTests_keep {t d0 d} (hs : tablesIn [.regs, .log, .logSeq, .spr, .evt, .kqp, .hlt] t = true) (hx : Dev.changesOnly t d0 d) : Dev.changesOnly t d0 (Dev.startTests d) :=
  chg_step (Dev.startTests_chg _) hs hx

theorem Dev.sweepLoads_chg : ∀ d, Dev.changesOnly [.regs, .t0, .t1, .log, .logSeq, .six, .evt, .kqp, .out, .tir, .mkt, .wset] d (Dev.sweepLoads d) := by
  intro d
  unfold Dev.sweepLoads
  repeat' first
    | (with_reducible assumption)
    | (with_reducible exact chg_refl _ _)
    | ((with_reducible apply Dev.dropLoad_keep); exact rfl)
    | ((with_reducible apply Dev.loadFail_keep); exact rfl)
    | ((with_reducible apply Dev.partRan_keep); exact rfl)
    | ((with_reducible apply Dev.raise_keep); exact rfl)
    | (with_reducible apply chg_ite)
    | (with_reducible apply chg_foldl)
    | (with_reducible apply chg_foldl_snd)
    | (with_reducible apply chg_ite_snd)
    | intro _ _ _
    | intro _
    | split
    | (dsimp -proj only)

theorem Dev.sweepLoads_keep {t d0 d} (hs : tablesIn [.regs, .t0, .t1, .log, .logSeq, .six, .evt, .kqp, .out, .tir, .mkt, .wset] t = true) (hx : Dev.changesOnly t d0 d) : Dev.changesOnly t d0 (Dev.sweepLoads d) :=
  chg_step (Dev.sweepLoads_chg _) hs hx

theorem Dev.settle_chg : ∀ d a1, Dev.changesOnly [.regs, .t0, .t1, .log, .logSeq, .spr, .six, .evt, .kqp, .out, .tir, .mkt, .hlt, .wset, .pwr] d (Dev.settle d a1) := by
  intro d a1
  unfold Dev.settle
  repeat' first
    | (with_reducible assumption)
    | (with_reducible exact chg_refl _ _)
    | ((with_reducible apply Dev.drainSlots_keep); exact rfl)
    | ((with_reducible apply Dev.glbHealth_keep); exact rfl)
    | ((with_reducible apply Dev.settlePower_keep); exact rfl)
    | ((with_reducible apply Dev.startTests_keep); exact rfl)
    | ((with_reducible apply Dev.sweepLoads_keep); exact rfl)
    | (with_reducible apply chg_ite)
    | (with_reducible apply chg_foldl)
    | (with_reducible apply chg_foldl_snd)
    | (with_reducible apply chg_ite_snd)
    | intro _ _ _
    | intro _
    | split
    | (dsimp -proj only)

theorem Dev.settle_keep {t d0 d a1} (hs : tablesIn [.regs, .t0, .t1, .log, .logSeq, .spr, .six, .evt, .kqp, .out, .tir, .mkt, .hlt, .wset, .pwr] t = true) (hx : Dev.changesOnly t d0 d) : Dev.changesOnly t d0 (Dev.settle d a1) :=
  chg_step (Dev.settle_chg _ _) hs hx

theorem Dev.showLimited_chg : ∀ d, Dev.changesOnly [.regs, .log, .logSeq, .evt] d (Dev.showLimited d) := by
  intro d
  unfold Dev.showLimited
  repeat' first
    | (with_reducible assumption)
    | (with_reducible exact chg_refl _ _)
    | ((with_reducible apply Dev.raise_keep); exact rfl)
    | ((with_reducible apply Dev.setFlag_keep); exact rfl)
    | (with_reducible apply chg_ite)
    | (with_reducible apply chg_foldl)
    | (with_reducible apply chg_foldl_snd)
    | (with_reducible apply chg_ite_snd)
    | intro _ _ _
    | intro _
    | split
    | (dsimp -proj only)

theorem Dev.showLimited_keep {t d0 d} (hs : tablesIn [.regs, .log, .logSeq, .evt] t = true) (hx : Dev.changesOnly t d0 d) : Dev.changesOnly t d0 (Dev.showLimited d) :=
  chg_step (Dev.showLimited_chg _) hs hx

theorem Dev.showNbr_chg : ∀ d a1, Dev.changesOnly [.regs] d (Dev.showNbr d a1) := by
  intro d a1
  unfold Dev.showNbr
  repeat' first
    | (with_reducible assumption)
    | (with_reducible exact chg_refl _ _)
    | ((with_reducible apply Dev.setFlag_keep); exact rfl)
    | ((with_reducible apply Dev.wr_keep); exact rfl)
    | (with_reducible apply chg_ite)
    | (with_reducible apply chg_foldl)
    | (with_reducible apply chg_foldl_snd)
    | (with_reducible apply chg_ite_snd)
    | intro _ _ _
    | intro _
    | split
    | (dsimp -proj only)

theorem Dev.showNbr_keep {t d0 d a1} (hs : tablesIn [.regs] t = true) (hx : Dev.changesOnly t d0 d) : Dev.changesOnly t d0 (Dev.showNbr d a1) :=
  chg_step (Dev.showNbr_chg _ _) hs hx

theorem Dev.showRepeat_chg : ∀ d a1 a2 a3, Dev.changesOnly [.regs] d (Dev.showRepeat d a1 a2 a3) := by
  intro d a1 a2 a3
  unfold Dev.showRepeat
  repeat' first
    | (with_reducible assumption)
    | (with_reducible exact chg_refl _ _)
    | ((with_reducible apply Dev.wr_keep); exact rfl)
    | (with_reducible apply chg_ite)
    | (with_reducible apply chg_foldl)
    | (with_reducible apply chg_foldl_snd)
    | (with_reducible apply chg_ite_snd)
    | intro _ _ _
    | intro _
    | split
    | (dsimp -proj only)

theorem Dev.showRepeat_keep {t d0 d a1 a2 a3} (hs : tablesIn [.regs] t = true) (hx : Dev.changesOnly t d0 d) : Dev.changesOnly t d0 (Dev.showRepeat d a1 a2 a3) :=
  chg_step (Dev.showRepeat_chg _ _ _ _) hs hx

theorem Dev.spdmAnswer_chg : ∀ d a1 a2, Dev.changesOnly [.out] d (Dev.spdmAnswer d a1 a2) := by
  intro d a1 a2
  unfold Dev.spdmAnswer
  repeat' first
    | (with_reducible assumption)
    | (with_reducible exact chg_refl _ _)
    | ((with_reducible apply Dev.emit_keep); exact rfl)
    | (with_reducible apply chg_ite)
    | (with_reducible apply chg_foldl)
    | (with_reducible apply chg_foldl_snd)
    | (with_reducible apply chg_ite_snd)
    | intro _ _ _
    | intro _
    | split
    | (dsimp -proj only)

theorem Dev.spdmAnswer_keep {t d0 d a1 a2} (hs : tablesIn [.out] t = true) (hx : Dev.changesOnly t d0 d) : Dev.changesOnly t d0 (Dev.spdmAnswer d a1 a2) :=
  chg_step (Dev.spdmAnswer_chg _ _ _) hs hx

theorem Dev.spdmError_chg : ∀ d a1 a2, Dev.changesOnly [.out] d (Dev.spdmError d a1 a2) := by
  intro d a1 a2
  unfold Dev.spdmError
  repeat' first
    | (with_reducible assumption)
    | (with_reducible exact chg_refl _ _)
    | ((with_reducible apply Dev.spdmAnswer_keep); exact rfl)
    | (with_reducible apply chg_ite)
    | (with_reducible apply chg_foldl)
    | (with_reducible apply chg_foldl_snd)
    | (with_reducible apply chg_ite_snd)
    | intro _ _ _
    | intro _
    | split
    | (dsimp -proj only)

theorem Dev.spdmError_keep {t d0 d a1 a2} (hs : tablesIn [.out] t = true) (hx : Dev.changesOnly t d0 d) : Dev.changesOnly t d0 (Dev.spdmError d a1 a2) :=
  chg_step (Dev.spdmError_chg _ _ _) hs hx

theorem Dev.spdmNonce_chg : ∀ d, Dev.changesOnly [.free] d (Dev.spdmNonce d).2 := by
  intro d
  unfold Dev.spdmNonce
  repeat' first
    | (with_reducible assumption)
    | (with_reducible exact chg_refl _ _)
    | ((with_reducible apply Dev.drawIndex_keep); exact rfl)
    | (refine Dev.drawIndex_keep_eq (by with_reducible assumption) rfl ?_)
    | (with_reducible apply chg_ite)
    | (with_reducible apply chg_foldl)
    | (with_reducible apply chg_foldl_snd)
    | (with_reducible apply chg_ite_snd)
    | intro _ _ _
    | intro _
    | split
    | (dsimp -proj only)

theorem Dev.spdmNonce_chg_eq : ∀ d x0 e, Dev.spdmNonce d = (x0, e) → Dev.changesOnly [.free] d e := by
  intro d x0 e h
  have := Dev.spdmNonce_chg d
  rw [h] at this
  exact this

theorem Dev.spdmNonce_keep {t d0 d} (hs : tablesIn [.free] t = true) (hx : Dev.changesOnly t d0 d) : Dev.changesOnly t d0 ((Dev.spdmNonce d).2) :=
  chg_step (Dev.spdmNonce_chg _) hs hx

theorem Dev.spdmNonce_keep_eq {t d0 d x0 e} (h : Dev.spdmNonce d = (x0, e)) (hs : tablesIn [.free] t = true) (hx : Dev.changesOnly t d0 d) : Dev.changesOnly t d0 e :=
  chg_step (Dev.spdmNonce_chg_eq _ _ _ h) hs hx

theorem Dev.spdmReply_chg : ∀ d a1 a2 a3 a4, Dev.changesOnly [.out, .sec] d (Dev.spdmReply d a1 a2 a3 a4) := by
  intro d a1 a2 a3 a4
  unfold Dev.spdmReply
  repeat' first
    | (with_reducible assumption)
    | (with_reducible exact chg_refl _ _)
    | ((with_reducible apply Dev.setSpdm_keep); exact rfl)
    | ((with_reducible apply Dev.spdmAnswer_keep); exact rfl)
    | (with_reducible apply chg_ite)
    | (with_reducible apply chg_foldl)
    | (with_reducible apply chg_foldl_snd)
    | (with_reducible apply chg_ite_snd)
    | intro _ _ _
    | intro _
    | split
    | (dsimp -proj only)

theorem Dev.spdmReply_keep {t d0 d a1 a2 a3 a4} (hs : tablesIn [.out, .sec] t = true) (hx : Dev.changesOnly t d0 d) : Dev.changesOnly t d0 (Dev.spdmReply d a1 a2 a3 a4) :=
  chg_step (Dev.spdmReply_chg _ _ _ _ _) hs hx

theorem Dev.sprNext_chg : ∀ d, Dev.changesOnly [.regs, .log, .logSeq, .spr, .six, .evt, .out] d (Dev.sprNext d) := by
  intro d
  unfold Dev.sprNext
  repeat' first
    | (with_reducible assumption)
    | (with_reducible exact chg_refl _ _)
    | ((with_reducible apply Dev.setSpr_keep); exact rfl)
    | ((with_reducible apply Dev.sprOpen_keep); exact rfl)
    | (with_reducible apply chg_ite)
    | (with_reducible apply chg_foldl)
    | (with_reducible apply chg_foldl_snd)
    | (with_reducible apply chg_ite_snd)
    | intro _ _ _
    | intro _
    | split
    | (dsimp -proj only)

theorem Dev.sprNext_keep {t d0 d} (hs : tablesIn [.regs, .log, .logSeq, .spr, .six, .evt, .out] t = true) (hx : Dev.changesOnly t d0 d) : Dev.changesOnly t d0 (Dev.sprNext d) :=
  chg_step (Dev.sprNext_chg _) hs hx

theorem Dev.stageFail_chg : ∀ d a1 a2, Dev.changesOnly [.regs, .sec] d (Dev.stageFail d a1 a2) := by
  intro d a1 a2
  unfold Dev.stageFail
  repeat' first
    | (with_reducible assumption)
    | (with_reducible exact chg_refl _ _)
    | ((with_reducible apply Dev.setSec_keep); exact rfl)
    | ((with_reducible apply Dev.updEntry_keep); exact rfl)
    | ((with_reducible apply Dev.updStage_keep); exact rfl)
    | ((with_reducible apply Dev.wr_keep); exact rfl)
    | (with_reducible apply chg_ite)
    | (with_reducible apply chg_foldl)
    | (with_reducible apply chg_foldl_snd)
    | (with_reducible apply chg_ite_snd)
    | intro _ _ _
    | intro _
    | split
    | (dsimp -proj only)

theorem Dev.stageFail_keep {t d0 d a1 a2} (hs : tablesIn [.regs, .sec] t = true) (hx : Dev.changesOnly t d0 d) : Dev.changesOnly t d0 (Dev.stageFail d a1 a2) :=
  chg_step (Dev.stageFail_chg _ _ _) hs hx

theorem Dev.stageWork_chg : ∀ d a1 a2, Dev.changesOnly [.regs, .t0, .log, .logSeq, .spr, .six, .evt, .kqp, .out, .tir, .mkt, .ldg, .hlt, .fab, .tbn, .sec, .hif] d (Dev.stageWork d a1 a2) := by
  intro d a1 a2
  unfold Dev.stageWork
  repeat' first
    | (with_reducible assumption)
    | (with_reducible exact chg_refl _ _)
    | ((with_reducible apply Dev.applyRecord_keep); exact rfl)
    | ((with_reducible apply Dev.closeUnit_keep); exact rfl)
    | ((with_reducible apply Dev.d3Complete_keep); exact rfl)
    | ((with_reducible apply Dev.failBank_keep); exact rfl)
    | ((with_reducible apply Dev.freshLanes_keep); exact rfl)
    | ((with_reducible apply Dev.payOwed_keep); exact rfl)
    | ((with_reducible apply Dev.raise_keep); exact rfl)
    | ((with_reducible apply Dev.setHif_keep); exact rfl)
    | ((with_reducible apply Dev.setJob_keep); exact rfl)
    | ((with_reducible apply Dev.setSec_keep); exact rfl)
    | ((with_reducible apply Dev.startPort_keep); exact rfl)
    | ((with_reducible apply Dev.supersede_keep); exact rfl)
    | ((with_reducible apply Dev.updEntry_keep); exact rfl)
    | ((with_reducible apply Dev.wr_keep); exact rfl)
    | (with_reducible apply chg_ite)
    | (with_reducible apply chg_foldl)
    | (with_reducible apply chg_foldl_snd)
    | (with_reducible apply chg_ite_snd)
    | intro _ _ _
    | intro _
    | split
    | (dsimp -proj only)

theorem Dev.stageWork_keep {t d0 d a1 a2} (hs : tablesIn [.regs, .t0, .log, .logSeq, .spr, .six, .evt, .kqp, .out, .tir, .mkt, .ldg, .hlt, .fab, .tbn, .sec, .hif] t = true) (hx : Dev.changesOnly t d0 d) : Dev.changesOnly t d0 (Dev.stageWork d a1 a2) :=
  chg_step (Dev.stageWork_chg _ _ _) hs hx

theorem Dev.stageDone_chg : ∀ d a1 a2, Dev.changesOnly [.regs, .t0, .t1, .log, .logSeq, .spr, .six, .evt, .kqp, .out, .tir, .mkt, .ldg, .hlt, .acr, .col, .fab, .tbn, .sec, .hif] d (Dev.stageDone d a1 a2) := by
  intro d a1 a2
  unfold Dev.stageDone
  repeat' first
    | (with_reducible assumption)
    | (with_reducible exact chg_refl _ _)
    | ((with_reducible apply Dev.beginStage_keep); exact rfl)
    | ((with_reducible apply Dev.bootReady_keep); exact rfl)
    | ((with_reducible apply Dev.setSec_keep); exact rfl)
    | ((with_reducible apply Dev.stageFail_keep); exact rfl)
    | ((with_reducible apply Dev.stageWork_keep); exact rfl)
    | ((with_reducible apply Dev.updStage_keep); exact rfl)
    | ((with_reducible apply Dev.wr_keep); exact rfl)
    | (with_reducible apply chg_ite)
    | (with_reducible apply chg_foldl)
    | (with_reducible apply chg_foldl_snd)
    | (with_reducible apply chg_ite_snd)
    | intro _ _ _
    | intro _
    | split
    | (dsimp -proj only)

theorem Dev.stageDone_keep {t d0 d a1 a2} (hs : tablesIn [.regs, .t0, .t1, .log, .logSeq, .spr, .six, .evt, .kqp, .out, .tir, .mkt, .ldg, .hlt, .acr, .col, .fab, .tbn, .sec, .hif] t = true) (hx : Dev.changesOnly t d0 d) : Dev.changesOnly t d0 (Dev.stageDone d a1 a2) :=
  chg_step (Dev.stageDone_chg _ _ _) hs hx

theorem Dev.staleT0_chg : ∀ d a1 a2, Dev.changesOnly [.regs, .t0, .tir, .mkt] d (Dev.staleT0 d a1 a2) := by
  intro d a1 a2
  unfold Dev.staleT0
  repeat' first
    | (with_reducible assumption)
    | (with_reducible exact chg_refl _ _)
    | ((with_reducible apply Dev.dropT0_keep); exact rfl)
    | (with_reducible apply chg_ite)
    | (with_reducible apply chg_foldl)
    | (with_reducible apply chg_foldl_snd)
    | (with_reducible apply chg_ite_snd)
    | intro _ _ _
    | intro _
    | split
    | (dsimp -proj only)

theorem Dev.staleT0_keep {t d0 d a1 a2} (hs : tablesIn [.regs, .t0, .tir, .mkt] t = true) (hx : Dev.changesOnly t d0 d) : Dev.changesOnly t d0 (Dev.staleT0 d a1 a2) :=
  chg_step (Dev.staleT0_chg _ _ _) hs hx

theorem Dev.stallBegin_chg : ∀ d a1 a2, Dev.changesOnly [.regs, .log, .logSeq, .evt, .kqp, .ldg] d (Dev.stallBegin d a1 a2) := by
  intro d a1 a2
  unfold Dev.stallBegin
  repeat' first
    | (with_reducible assumption)
    | (with_reducible exact chg_refl _ _)
    | ((with_reducible apply Dev.raiseFor_keep); exact rfl)
    | ((with_reducible apply Dev.setCmd_keep); exact rfl)
    | ((with_reducible apply Dev.setJob_keep); exact rfl)
    | (with_reducible apply chg_ite)
    | (with_reducible apply chg_foldl)
    | (with_reducible apply chg_foldl_snd)
    | (with_reducible apply chg_ite_snd)
    | intro _ _ _
    | intro _
    | split
    | (dsimp -proj only)

theorem Dev.stallBegin_keep {t d0 d a1 a2} (hs : tablesIn [.regs, .log, .logSeq, .evt, .kqp, .ldg] t = true) (hx : Dev.changesOnly t d0 d) : Dev.changesOnly t d0 (Dev.stallBegin d a1 a2) :=
  chg_step (Dev.stallBegin_chg _ _ _) hs hx

theorem Dev.stallEnd_chg : ∀ d a1 a2, Dev.changesOnly [.regs, .kqp, .ldg] d (Dev.stallEnd d a1 a2) := by
  intro d a1 a2
  unfold Dev.stallEnd
  repeat' first
    | (with_reducible assumption)
    | (with_reducible exact chg_refl _ _)
    | ((with_reducible apply Dev.incSat_keep); exact rfl)
    | ((with_reducible apply Dev.setCmd_keep); exact rfl)
    | ((with_reducible apply Dev.setJob_keep); exact rfl)
    | (with_reducible apply chg_ite)
    | (with_reducible apply chg_foldl)
    | (with_reducible apply chg_foldl_snd)
    | (with_reducible apply chg_ite_snd)
    | intro _ _ _
    | intro _
    | split
    | (dsimp -proj only)

theorem Dev.stallEnd_keep {t d0 d a1 a2} (hs : tablesIn [.regs, .kqp, .ldg] t = true) (hx : Dev.changesOnly t d0 d) : Dev.changesOnly t d0 (Dev.stallEnd d a1 a2) :=
  chg_step (Dev.stallEnd_chg _ _ _) hs hx

theorem Dev.startD3_chg : ∀ d, Dev.changesOnly [.regs, .stampHold, .t0, .t1, .log, .logSeq, .spr, .six, .evt, .kqp, .out, .tir, .mkt, .ldg, .hlt, .acr, .col, .fab, .tbn, .sec, .tim, .pwr, .hif, .ccr] d (Dev.startD3 d) := by
  intro d
  unfold Dev.startD3
  repeat' first
    | (with_reducible assumption)
    | (with_reducible exact chg_refl _ _)
    | ((with_reducible apply Dev.bootStart_keep); exact rfl)
    | ((with_reducible apply Dev.loseD3_keep); exact rfl)
    | ((with_reducible apply Dev.romRecovery_keep); exact rfl)
    | ((with_reducible apply Dev.setHlt_keep); exact rfl)
    | ((with_reducible apply Dev.setPwr_keep); exact rfl)
    | ((with_reducible apply Dev.setSec_keep); exact rfl)
    | ((with_reducible apply Dev.setSpr_keep); exact rfl)
    | (with_reducible apply chg_ite)
    | (with_reducible apply chg_foldl)
    | (with_reducible apply chg_foldl_snd)
    | (with_reducible apply chg_ite_snd)
    | intro _ _ _
    | intro _
    | split
    | (dsimp -proj only)

theorem Dev.startD3_keep {t d0 d} (hs : tablesIn [.regs, .stampHold, .t0, .t1, .log, .logSeq, .spr, .six, .evt, .kqp, .out, .tir, .mkt, .ldg, .hlt, .acr, .col, .fab, .tbn, .sec, .tim, .pwr, .hif, .ccr] t = true) (hx : Dev.changesOnly t d0 d) : Dev.changesOnly t d0 (Dev.startD3 d) :=
  chg_step (Dev.startD3_chg _) hs hx

theorem Dev.startD4_chg : ∀ d, Dev.changesOnly [.regs, .stampHold, .t0, .t1, .log, .logSeq, .msix, .msixPend, .spr, .six, .evt, .kqp, .out, .tir, .mkt, .ldg, .hlt, .wset, .acr, .col, .fab, .tbn, .sec, .tim, .pwr, .hif, .ccr] d (Dev.startD4 d) := by
  intro d
  unfold Dev.startD4
  repeat' first
    | (with_reducible assumption)
    | (with_reducible exact chg_refl _ _)
    | ((with_reducible apply Dev.bootStart_keep); exact rfl)
    | ((with_reducible apply Dev.romRecovery_keep); exact rfl)
    | ((with_reducible apply Dev.setPwr_keep); exact rfl)
    | ((with_reducible apply Dev.wipe_keep); exact rfl)
    | (with_reducible apply chg_ite)
    | (with_reducible apply chg_foldl)
    | (with_reducible apply chg_foldl_snd)
    | (with_reducible apply chg_ite_snd)
    | intro _ _ _
    | intro _
    | split
    | (dsimp -proj only)

theorem Dev.startD4_keep {t d0 d} (hs : tablesIn [.regs, .stampHold, .t0, .t1, .log, .logSeq, .msix, .msixPend, .spr, .six, .evt, .kqp, .out, .tir, .mkt, .ldg, .hlt, .wset, .acr, .col, .fab, .tbn, .sec, .tim, .pwr, .hif, .ccr] t = true) (hx : Dev.changesOnly t d0 d) : Dev.changesOnly t d0 (Dev.startD4 d) :=
  chg_step (Dev.startD4_chg _) hs hx

theorem Dev.stepTime_chg : ∀ d, Dev.changesOnly [.now, .regs, .tim] d (Dev.stepTime d) := by
  intro d
  unfold Dev.stepTime
  repeat' first
    | (with_reducible assumption)
    | (with_reducible exact chg_refl _ _)
    | ((with_reducible apply Dev.setNow_keep); exact rfl)
    | ((with_reducible apply Dev.setTim_keep); exact rfl)
    | ((with_reducible apply Dev.wr_keep); exact rfl)
    | (with_reducible apply chg_ite)
    | (with_reducible apply chg_foldl)
    | (with_reducible apply chg_foldl_snd)
    | (with_reducible apply chg_ite_snd)
    | intro _ _ _
    | intro _
    | split
    | (dsimp -proj only)

theorem Dev.stepTime_keep {t d0 d} (hs : tablesIn [.now, .regs, .tim] t = true) (hx : Dev.changesOnly t d0 d) : Dev.changesOnly t d0 (Dev.stepTime d) :=
  chg_step (Dev.stepTime_chg _) hs hx

theorem Dev.takePtp_chg : ∀ d a1 a2, Dev.changesOnly [.regs, .log, .logSeq, .evt, .fab, .tim] d (Dev.takePtp d a1 a2) := by
  intro d a1 a2
  unfold Dev.takePtp
  repeat' first
    | (with_reducible assumption)
    | (with_reducible exact chg_refl _ _)
    | ((with_reducible apply Dev.announced_keep); exact rfl)
    | ((with_reducible apply Dev.noteOffset_keep); exact rfl)
    | ((with_reducible apply Dev.queuePtp_keep); exact rfl)
    | ((with_reducible apply Dev.setPtp_keep); exact rfl)
    | (with_reducible apply chg_when)
    | (with_reducible apply chg_ite)
    | (with_reducible apply chg_foldl)
    | (with_reducible apply chg_foldl_snd)
    | (with_reducible apply chg_ite_snd)
    | intro _ _ _
    | intro _
    | split
    | (dsimp -proj only)

theorem Dev.takePtp_keep {t d0 d a1 a2} (hs : tablesIn [.regs, .log, .logSeq, .evt, .fab, .tim] t = true) (hx : Dev.changesOnly t d0 d) : Dev.changesOnly t d0 (Dev.takePtp d a1 a2) :=
  chg_step (Dev.takePtp_chg _ _ _) hs hx

theorem Dev.takeUnit_chg : ∀ d a1, Dev.changesOnly [.regs, .acr] d (Dev.takeUnit d a1) := by
  intro d a1
  unfold Dev.takeUnit
  repeat' first
    | (with_reducible assumption)
    | (with_reducible exact chg_refl _ _)
    | ((with_reducible apply Dev.inc_keep); exact rfl)
    | ((with_reducible apply Dev.setAcr_keep); exact rfl)
    | ((with_reducible apply Dev.setFlag_keep); exact rfl)
    | (with_reducible apply chg_ite)
    | (with_reducible apply chg_foldl)
    | (with_reducible apply chg_foldl_snd)
    | (with_reducible apply chg_ite_snd)
    | intro _ _ _
    | intro _
    | split
    | (dsimp -proj only)

theorem Dev.takeUnit_keep {t d0 d a1} (hs : tablesIn [.regs, .acr] t = true) (hx : Dev.changesOnly t d0 d) : Dev.changesOnly t d0 (Dev.takeUnit d a1) :=
  chg_step (Dev.takeUnit_chg _ _) hs hx

theorem Dev.tick_chg : ∀ d, Dev.changesOnly [.now, .regs, .stampHold, .t0, .t1, .log, .logSeq, .msix, .msixPend, .spr, .six, .evt, .kqp, .tir, .mkt, .ldg, .hlt, .wset, .acr, .col, .fab, .tbn, .sec, .tim, .pwr, .hif, .ccr] d (Dev.tick d) := by
  intro d
  unfold Dev.tick
  repeat' first
    | (with_reducible assumption)
    | (with_reducible exact chg_refl _ _)
    | ((with_reducible apply Dev.lowPower_keep); exact rfl)
    | ((with_reducible apply Dev.setNow_keep); exact rfl)
    | (with_reducible apply chg_ite)
    | (with_reducible apply chg_foldl)
    | (with_reducible apply chg_foldl_snd)
    | (with_reducible apply chg_ite_snd)
    | intro _ _ _
    | intro _
    | split
    | (dsimp -proj only)

theorem Dev.tick_keep {t d0 d} (hs : tablesIn [.now, .regs, .stampHold, .t0, .t1, .log, .logSeq, .msix, .msixPend, .spr, .six, .evt, .kqp, .tir, .mkt, .ldg, .hlt, .wset, .acr, .col, .fab, .tbn, .sec, .tim, .pwr, .hif, .ccr] t = true) (hx : Dev.changesOnly t d0 d) : Dev.changesOnly t d0 (Dev.tick d) :=
  chg_step (Dev.tick_chg _) hs hx

theorem Dev.tierAsk_chg : ∀ d a1 a2 a3 a4 a5, Dev.changesOnly [.regs, .log, .logSeq, .six, .evt, .kqp, .out, .tir, .mkt] d (Dev.tierAsk d a1 a2 a3 a4 a5).2 := by
  intro d a1 a2 a3 a4 a5
  unfold Dev.tierAsk
  repeat' first
    | (with_reducible assumption)
    | (with_reducible exact chg_refl _ _)
    | ((with_reducible apply Dev.addWork_keep); exact rfl)
    | ((with_reducible apply Dev.bring0_keep); exact rfl)
    | (refine Dev.bring0_keep_eq (by with_reducible assumption) rfl ?_)
    | ((with_reducible apply Dev.bring1_keep); exact rfl)
    | (refine Dev.bring1_keep_eq (by with_reducible assumption) rfl ?_)
    | ((with_reducible apply Dev.bring2_keep); exact rfl)
    | (refine Dev.bring2_keep_eq (by with_reducible assumption) rfl ?_)
    | (with_reducible apply chg_ite)
    | (with_reducible apply chg_foldl)
    | (with_reducible apply chg_foldl_snd)
    | (with_reducible apply chg_ite_snd)
    | intro _ _ _
    | intro _
    | split
    | (dsimp -proj only)

theorem Dev.tierAsk_chg_eq : ∀ d a1 a2 a3 a4 a5 x0 e, Dev.tierAsk d a1 a2 a3 a4 a5 = (x0, e) → Dev.changesOnly [.regs, .log, .logSeq, .six, .evt, .kqp, .out, .tir, .mkt] d e := by
  intro d a1 a2 a3 a4 a5 x0 e h
  have := Dev.tierAsk_chg d a1 a2 a3 a4 a5
  rw [h] at this
  exact this

theorem Dev.tierAsk_keep {t d0 d a1 a2 a3 a4 a5} (hs : tablesIn [.regs, .log, .logSeq, .six, .evt, .kqp, .out, .tir, .mkt] t = true) (hx : Dev.changesOnly t d0 d) : Dev.changesOnly t d0 ((Dev.tierAsk d a1 a2 a3 a4 a5).2) :=
  chg_step (Dev.tierAsk_chg _ _ _ _ _ _) hs hx

theorem Dev.tierAsk_keep_eq {t d0 d a1 a2 a3 a4 a5 x0 e} (h : Dev.tierAsk d a1 a2 a3 a4 a5 = (x0, e)) (hs : tablesIn [.regs, .log, .logSeq, .six, .evt, .kqp, .out, .tir, .mkt] t = true) (hx : Dev.changesOnly t d0 d) : Dev.changesOnly t d0 e :=
  chg_step (Dev.tierAsk_chg_eq _ _ _ _ _ _ _ _ h) hs hx

theorem Dev.tierAskAll_chg : ∀ l d q i k t, Dev.changesOnly [.regs, .log, .logSeq, .six, .evt, .kqp, .out, .tir, .mkt] d (Dev.tierAskAll d q i k t l).2.2
  | [], d, q, i, k, t => chg_refl _ _
  | u :: us, d, q, i, k, t => by
    unfold Dev.tierAskAll
    have h0 := Dev.tierAsk_chg d q i k u t
    split
    · rename_i h; rw [h] at h0; exact h0
    · rename_i h; rw [h] at h0; exact chg_step (Dev.tierAskAll_chg us _ q i k t) rfl h0
    · rename_i h; rw [h] at h0; exact chg_step (Dev.tierAskAll_chg us _ q i k t) rfl h0

theorem Dev.tierAskAll_keep {t d0 d q i k u l} (hs : tablesIn [.regs, .log, .logSeq, .six, .evt, .kqp, .out, .tir, .mkt] t = true) (hx : Dev.changesOnly t d0 d) :
    Dev.changesOnly t d0 (Dev.tierAskAll d q i k u l).2.2 :=
  chg_step (Dev.tierAskAll_chg _ _ _ _ _ _) hs hx

theorem Dev.tierAskAll_keep_eq {t d0 d q i k u l x y e} (h : Dev.tierAskAll d q i k u l = (x, y, e)) (hs : tablesIn [.regs, .log, .logSeq, .six, .evt, .kqp, .out, .tir, .mkt] t = true)
    (hx : Dev.changesOnly t d0 d) : Dev.changesOnly t d0 e := by
  have := Dev.tierAskAll_keep (q := q) (i := i) (k := k) (u := u) (l := l) hs hx
  rw [h] at this
  exact this

theorem Dev.tierDone_chg : ∀ d a1 a2 a3, Dev.changesOnly [.kqp] d (Dev.tierDone d a1 a2 a3) := by
  intro d a1 a2 a3
  unfold Dev.tierDone
  repeat' first
    | (with_reducible assumption)
    | (with_reducible exact chg_refl _ _)
    | ((with_reducible apply Dev.partRan_keep); exact rfl)
    | (with_reducible apply chg_ite)
    | (with_reducible apply chg_foldl)
    | (with_reducible apply chg_foldl_snd)
    | (with_reducible apply chg_ite_snd)
    | intro _ _ _
    | intro _
    | split
    | (dsimp -proj only)

theorem Dev.tierDone_keep {t d0 d a1 a2 a3} (hs : tablesIn [.kqp] t = true) (hx : Dev.changesOnly t d0 d) : Dev.changesOnly t d0 (Dev.tierDone d a1 a2 a3) :=
  chg_step (Dev.tierDone_chg _ _ _ _) hs hx

theorem Dev.undoUpdate_chg : ∀ d a1 a2, Dev.changesOnly [.ldg, .acr] d (Dev.undoUpdate d a1 a2) := by
  intro d a1 a2
  unfold Dev.undoUpdate
  repeat' first
    | (with_reducible assumption)
    | (with_reducible exact chg_refl _ _)
    | ((with_reducible apply Dev.setAcr_keep); exact rfl)
    | ((with_reducible apply Dev.setJob_keep); exact rfl)
    | (with_reducible apply chg_ite)
    | (with_reducible apply chg_foldl)
    | (with_reducible apply chg_foldl_snd)
    | (with_reducible apply chg_ite_snd)
    | intro _ _ _
    | intro _
    | split
    | (dsimp -proj only)

theorem Dev.undoUpdate_keep {t d0 d a1 a2} (hs : tablesIn [.ldg, .acr] t = true) (hx : Dev.changesOnly t d0 d) : Dev.changesOnly t d0 (Dev.undoUpdate d a1 a2) :=
  chg_step (Dev.undoUpdate_chg _ _ _) hs hx

theorem Dev.unstop_chg : ∀ d a1, Dev.changesOnly [.regs, .kqp] d (Dev.unstop d a1) := by
  intro d a1
  unfold Dev.unstop
  repeat' first
    | (with_reducible assumption)
    | (with_reducible exact chg_refl _ _)
    | ((with_reducible apply Dev.qSettle_keep); exact rfl)
    | ((with_reducible apply Dev.setQSt_keep); exact rfl)
    | ((with_reducible apply Dev.setQueue_keep); exact rfl)
    | (with_reducible apply chg_ite)
    | (with_reducible apply chg_foldl)
    | (with_reducible apply chg_foldl_snd)
    | (with_reducible apply chg_ite_snd)
    | intro _ _ _
    | intro _
    | split
    | (dsimp -proj only)

theorem Dev.unstop_keep {t d0 d a1} (hs : tablesIn [.regs, .kqp] t = true) (hx : Dev.changesOnly t d0 d) : Dev.changesOnly t d0 (Dev.unstop d a1) :=
  chg_step (Dev.unstop_chg _ _) hs hx

theorem Dev.waitRef_chg : ∀ d a1 a2 a3 a4 a5, Dev.changesOnly [.tir] d (Dev.waitRef d a1 a2 a3 a4 a5) := by
  intro d a1 a2 a3 a4 a5
  unfold Dev.waitRef
  repeat' first
    | (with_reducible assumption)
    | (with_reducible exact chg_refl _ _)
    | ((with_reducible apply Dev.setTir_keep); exact rfl)
    | (with_reducible apply chg_ite)
    | (with_reducible apply chg_foldl)
    | (with_reducible apply chg_foldl_snd)
    | (with_reducible apply chg_ite_snd)
    | intro _ _ _
    | intro _
    | split
    | (dsimp -proj only)

theorem Dev.waitRef_keep {t d0 d a1 a2 a3 a4 a5} (hs : tablesIn [.tir] t = true) (hx : Dev.changesOnly t d0 d) : Dev.changesOnly t d0 (Dev.waitRef d a1 a2 a3 a4 a5) :=
  chg_step (Dev.waitRef_chg _ _ _ _ _ _) hs hx

theorem Dev.wakeUp_chg : ∀ d, Dev.changesOnly [.regs, .t0, .t1, .log, .logSeq, .spr, .six, .evt, .kqp, .out, .tir, .mkt, .ldg, .acr, .col, .fab, .tbn, .sec, .pwr, .hif] d (Dev.wakeUp d) := by
  intro d
  unfold Dev.wakeUp
  repeat' first
    | (with_reducible assumption)
    | (with_reducible exact chg_refl _ _)
    | ((with_reducible apply Dev.bootStart_keep); exact rfl)
    | ((with_reducible apply Dev.emit_keep); exact rfl)
    | ((with_reducible apply Dev.romRecovery_keep); exact rfl)
    | ((with_reducible apply Dev.setPwr_keep); exact rfl)
    | (with_reducible apply chg_ite)
    | (with_reducible apply chg_foldl)
    | (with_reducible apply chg_foldl_snd)
    | (with_reducible apply chg_ite_snd)
    | intro _ _ _
    | intro _
    | split
    | (dsimp -proj only)

theorem Dev.wakeUp_keep {t d0 d} (hs : tablesIn [.regs, .t0, .t1, .log, .logSeq, .spr, .six, .evt, .kqp, .out, .tir, .mkt, .ldg, .acr, .col, .fab, .tbn, .sec, .pwr, .hif] t = true) (hx : Dev.changesOnly t d0 d) : Dev.changesOnly t d0 (Dev.wakeUp d) :=
  chg_step (Dev.wakeUp_chg _) hs hx

theorem Dev.widen_chg : ∀ d k code e, Dev.widen d k code = some e → Dev.changesOnly [.regs, .t0, .t1, .tir, .mkt] d e := by
  intro d k code e h
  unfold Dev.widen at h
  split at h
  · injection h with h; subst h; exact chg_refl _ _
  · dsimp only at h
    have h0 : ∀ o : Obj, Dev.changesOnly [.regs, .t0, .t1, .tir, .mkt] d
        ((((List.range o.unitCount).foldl (fun d u => d.dropT0 k u) d).freeExtents o.owner o.extA).setTir
          { (((List.range o.unitCount).foldl (fun d u => d.dropT0 k u) d).freeExtents o.owner o.extA).tir with
            writeBacks := (((List.range o.unitCount).foldl (fun d u => d.dropT0 k u) d).freeExtents o.owner o.extA).tir.writeBacks.filter
              (fun w => w.1 != k) }) := fun o =>
      Dev.setTir_keep (by exact rfl) (Dev.freeExtents_keep (by exact rfl)
        (chg_foldl (fun _ _ hx => Dev.dropT0_keep (by exact rfl) hx) _ (chg_refl _ _)))
    split at h
    · injection h with h; subst h; exact h0 _
    · refine chg_foldl_option (fun x u y hx hy => ?_) _ (Dev.setObj_keep (by exact rfl) (h0 _)) h
      simp only [Option.bind_some, Option.map_eq_some_iff] at hy
      obtain ⟨w, hw, rfl⟩ := hy
      exact Dev.setUnit_keep (by exact rfl) (Dev.alloc0_keep hw (by exact rfl) hx)

theorem Dev.widen_keep {t d0 d k code e} (h : Dev.widen d k code = some e) (hs : tablesIn [.regs, .t0, .t1, .tir, .mkt] t = true) (hx : Dev.changesOnly t d0 d) :
    Dev.changesOnly t d0 e :=
  chg_step (Dev.widen_chg _ _ _ _ h) hs hx

theorem Dev.widenAll_chg : ∀ l d e, Dev.widenAll d l = some e → Dev.changesOnly [.regs, .t0, .t1, .tir, .mkt] d e
  | [], d, e, h => by injection h with h; subst h; exact chg_refl _ _
  | (k, f) :: l, d, e, h => by
    unfold Dev.widenAll at h
    split at h
    · rename_i h1; exact chg_step (Dev.widenAll_chg l _ _ h) rfl (Dev.widen_chg _ _ _ _ h1)
    · contradiction

theorem Dev.widenAll_keep {t d0 d l e} (h : Dev.widenAll d l = some e) (hs : tablesIn [.regs, .t0, .t1, .tir, .mkt] t = true) (hx : Dev.changesOnly t d0 d) :
    Dev.changesOnly t d0 e :=
  chg_step (Dev.widenAll_chg _ _ _ h) hs hx

theorem Dev.winRead_chg : ∀ d a1 a2 a3 a4, Dev.changesOnly [.regs, .t1, .log, .logSeq, .evt, .tir] d (Dev.winRead d a1 a2 a3 a4).2.2 := by
  intro d a1 a2 a3 a4
  unfold Dev.winRead
  repeat' first
    | (with_reducible assumption)
    | (with_reducible exact chg_refl _ _)
    | ((with_reducible apply Dev.flushRange_keep); exact rfl)
    | ((with_reducible apply Dev.incSat_keep); exact rfl)
    | ((with_reducible apply Dev.raise_keep); exact rfl)
    | (with_reducible apply chg_ite)
    | (with_reducible apply chg_foldl)
    | (with_reducible apply chg_foldl_snd)
    | (with_reducible apply chg_ite_snd)
    | intro _ _ _
    | intro _
    | split
    | (dsimp -proj only)

theorem Dev.winRead_chg_eq : ∀ d a1 a2 a3 a4 x0 x1 e, Dev.winRead d a1 a2 a3 a4 = (x0, x1, e) → Dev.changesOnly [.regs, .t1, .log, .logSeq, .evt, .tir] d e := by
  intro d a1 a2 a3 a4 x0 x1 e h
  have := Dev.winRead_chg d a1 a2 a3 a4
  rw [h] at this
  exact this

theorem Dev.winRead_keep {t d0 d a1 a2 a3 a4} (hs : tablesIn [.regs, .t1, .log, .logSeq, .evt, .tir] t = true) (hx : Dev.changesOnly t d0 d) : Dev.changesOnly t d0 ((Dev.winRead d a1 a2 a3 a4).2.2) :=
  chg_step (Dev.winRead_chg _ _ _ _ _) hs hx

theorem Dev.winRead_keep_eq {t d0 d a1 a2 a3 a4 x0 x1 e} (h : Dev.winRead d a1 a2 a3 a4 = (x0, x1, e)) (hs : tablesIn [.regs, .t1, .log, .logSeq, .evt, .tir] t = true) (hx : Dev.changesOnly t d0 d) : Dev.changesOnly t d0 e :=
  chg_step (Dev.winRead_chg_eq _ _ _ _ _ _ _ _ h) hs hx

theorem Dev.winWrite_chg : ∀ d a1 a2 a3 a4 e, Dev.winWrite d a1 a2 a3 a4 = some e → Dev.changesOnly [.regs, .t0, .t1, .tir, .mkt] d e := by
  intro d a1 a2 a3 a4 e h
  unfold Dev.winWrite at h
  repeat' first
    | contradiction
    | (injection h with h; subst h)
    | (injection h with h; injection h; subst_vars)
    | split at h
    | (dsimp -proj only at h)
    | (with_reducible assumption)
    | (with_reducible exact chg_refl _ _)
    | ((with_reducible apply Dev.flushRange_keep); exact rfl)
    | ((with_reducible apply Dev.healSectors_keep); exact rfl)
    | ((with_reducible apply Dev.setUnit_keep); exact rfl)
    | ((with_reducible apply Dev.staleT0_keep); exact rfl)
    | ((with_reducible apply Dev.write1_keep); exact rfl)
    | (with_reducible apply chg_ite)
    | (with_reducible apply chg_foldl)
    | (with_reducible apply chg_foldl_snd)
    | (with_reducible apply chg_ite_snd)
    | intro _ _ _
    | intro _
    | split
    | (dsimp -proj only)

theorem Dev.winWrite_keep {t d0 d a1 a2 a3 a4 e} (h : Dev.winWrite d a1 a2 a3 a4 = some e) (hs : tablesIn [.regs, .t0, .t1, .tir, .mkt] t = true) (hx : Dev.changesOnly t d0 d) : Dev.changesOnly t d0 e :=
  chg_step (Dev.winWrite_chg _ _ _ _ _ _ h) hs hx

theorem Dev.writeDown_chg : ∀ d a1 a2 a3, Dev.changesOnly [.t1, .out, .tir] d (Dev.writeDown d a1 a2 a3) := by
  intro d a1 a2 a3
  unfold Dev.writeDown
  repeat' first
    | (with_reducible assumption)
    | (with_reducible exact chg_refl _ _)
    | ((with_reducible apply Dev.hostWrite_keep); exact rfl)
    | ((with_reducible apply Dev.pour1_keep); exact rfl)
    | ((with_reducible apply Dev.setUnit_keep); exact rfl)
    | (with_reducible apply chg_ite)
    | (with_reducible apply chg_foldl)
    | (with_reducible apply chg_foldl_snd)
    | (with_reducible apply chg_ite_snd)
    | intro _ _ _
    | intro _
    | split
    | (dsimp -proj only)

theorem Dev.writeDown_keep {t d0 d a1 a2 a3} (hs : tablesIn [.t1, .out, .tir] t = true) (hx : Dev.changesOnly t d0 d) : Dev.changesOnly t d0 (Dev.writeDown d a1 a2 a3) :=
  chg_step (Dev.writeDown_chg _ _ _ _) hs hx

theorem Dev.writeLimit_chg : ∀ d a1 a2 a3 a4 a5 a6, Dev.changesOnly [.regs, .log, .logSeq, .evt] d (Dev.writeLimit d a1 a2 a3 a4 a5 a6) := by
  intro d a1 a2 a3 a4 a5 a6
  unfold Dev.writeLimit
  repeat' first
    | (with_reducible assumption)
    | (with_reducible exact chg_refl _ _)
    | ((with_reducible apply Dev.raise_keep); exact rfl)
    | ((with_reducible apply Dev.wr_keep); exact rfl)
    | (with_reducible apply chg_ite)
    | (with_reducible apply chg_foldl)
    | (with_reducible apply chg_foldl_snd)
    | (with_reducible apply chg_ite_snd)
    | intro _ _ _
    | intro _
    | split
    | (dsimp -proj only)

theorem Dev.writeLimit_keep {t d0 d a1 a2 a3 a4 a5 a6} (hs : tablesIn [.regs, .log, .logSeq, .evt] t = true) (hx : Dev.changesOnly t d0 d) : Dev.changesOnly t d0 (Dev.writeLimit d a1 a2 a3 a4 a5 a6) :=
  chg_step (Dev.writeLimit_chg _ _ _ _ _ _ _) hs hx

theorem Dev.writeWindow_chg : ∀ d a1 a2, Dev.changesOnly [.regs, .log, .logSeq, .evt] d (Dev.writeWindow d a1 a2) := by
  intro d a1 a2
  unfold Dev.writeWindow
  repeat' first
    | (with_reducible assumption)
    | (with_reducible exact chg_refl _ _)
    | ((with_reducible apply Dev.hifRaise_keep); exact rfl)
    | ((with_reducible apply Dev.wr_keep); exact rfl)
    | (with_reducible apply chg_ite)
    | (with_reducible apply chg_foldl)
    | (with_reducible apply chg_foldl_snd)
    | (with_reducible apply chg_ite_snd)
    | intro _ _ _
    | intro _
    | split
    | (dsimp -proj only)

theorem Dev.writeWindow_keep {t d0 d a1 a2} (hs : tablesIn [.regs, .log, .logSeq, .evt] t = true) (hx : Dev.changesOnly t d0 d) : Dev.changesOnly t d0 (Dev.writeWindow d a1 a2) :=
  chg_step (Dev.writeWindow_chg _ _ _) hs hx

theorem effectAbortReceive_chg : ∀ a0 d, Dev.changesOnly [.regs, .t0, .t1, .log, .logSeq, .evt, .kqp, .tir, .mkt, .ldg, .acr, .col] d (effectAbortReceive a0 d) := by
  intro a0 d
  unfold effectAbortReceive
  repeat' first
    | (with_reducible assumption)
    | (with_reducible exact chg_refl _ _)
    | ((with_reducible apply Dev.takeAbort_keep); exact rfl)
    | (with_reducible apply chg_ite)
    | (with_reducible apply chg_foldl)
    | (with_reducible apply chg_foldl_snd)
    | (with_reducible apply chg_ite_snd)
    | intro _ _ _
    | intro _
    | split
    | (dsimp -proj only)

theorem effectAckReceive_chg : ∀ a0 a1 a2 a3 a4 a5 d, Dev.changesOnly [.regs, .t0, .t1, .log, .logSeq, .six, .evt, .kqp, .out, .tir, .ldg, .wset, .col, .fab, .tbn] d (effectAckReceive a0 a1 a2 a3 a4 a5 d) := by
  intro a0 a1 a2 a3 a4 a5 d
  unfold effectAckReceive
  repeat' first
    | (with_reducible assumption)
    | (with_reducible exact chg_refl _ _)
    | ((with_reducible apply Dev.collAll_keep); exact rfl)
    | ((with_reducible apply Dev.failMsg_keep); exact rfl)
    | ((with_reducible apply Dev.onConn_keep); exact rfl)
    | ((with_reducible apply Dev.pump_keep); exact rfl)
    | ((with_reducible apply Dev.sentOver_keep); exact rfl)
    | ((with_reducible apply Dev.setConn_keep); exact rfl)
    | ((with_reducible apply Dev.setPath_keep); exact rfl)
    | (with_reducible apply chg_when)
    | (with_reducible apply chg_ite)
    | (with_reducible apply chg_foldl)
    | (with_reducible apply chg_foldl_snd)
    | (with_reducible apply chg_ite_snd)
    | intro _ _ _
    | intro _
    | split
    | (dsimp -proj only)

theorem effectAckSend_chg : ∀ a0 d, Dev.changesOnly [.regs, .fab, .tbn] d (effectAckSend a0 d) := by
  intro a0 d
  unfold effectAckSend
  repeat' first
    | (with_reducible assumption)
    | (with_reducible exact chg_refl _ _)
    | ((with_reducible apply Dev.sendAck_keep); exact rfl)
    | (with_reducible apply chg_when)
    | (with_reducible apply chg_ite)
    | (with_reducible apply chg_foldl)
    | (with_reducible apply chg_foldl_snd)
    | (with_reducible apply chg_ite_snd)
    | intro _ _ _
    | intro _
    | split
    | (dsimp -proj only)

theorem effectAcrAssistDoorbell_chg : ∀ a0 a1 a2 d, Dev.changesOnly [.regs, .t0, .t1, .log, .logSeq, .six, .evt, .kqp, .out, .tir, .mkt, .ldg, .acr] d (effectAcrAssistDoorbell a0 a1 a2 d) := by
  intro a0 a1 a2 d
  unfold effectAcrAssistDoorbell
  repeat' first
    | (with_reducible assumption)
    | (with_reducible exact chg_refl _ _)
    | ((with_reducible apply Dev.badDoorbell_keep); exact rfl)
    | ((with_reducible apply Dev.dropAlias_keep); exact rfl)
    | (refine Dev.flushAll_keep (by with_reducible assumption) rfl ?_)
    | ((with_reducible apply Dev.joinWrites_keep); exact rfl)
    | ((with_reducible apply Dev.partRan_keep); exact rfl)
    | ((with_reducible apply Dev.setAcr_keep); exact rfl)
    | ((with_reducible apply Dev.setFlag_keep); exact rfl)
    | ((with_reducible apply Dev.sixRelease_keep); exact rfl)
    | (with_reducible apply chg_when)
    | (with_reducible apply chg_ite)
    | (with_reducible apply chg_foldl)
    | (with_reducible apply chg_foldl_snd)
    | (with_reducible apply chg_ite_snd)
    | intro _ _ _
    | intro _
    | split
    | (dsimp -proj only)
  all_goals exact chg_getD (fun e he => Dev.flushAll_keep he (by exact rfl) (chg_refl _ _)) (chg_refl _ _)

theorem effectAcrWindowRelease_chg : ∀ a0 d, Dev.changesOnly [.acr] d (effectAcrWindowRelease a0 d) := by
  intro a0 d
  unfold effectAcrWindowRelease
  repeat' first
    | (with_reducible assumption)
    | (with_reducible exact chg_refl _ _)
    | ((with_reducible apply Dev.setAcr_keep); exact rfl)
    | (with_reducible apply chg_when)
    | (with_reducible apply chg_ite)
    | (with_reducible apply chg_foldl)
    | (with_reducible apply chg_foldl_snd)
    | (with_reducible apply chg_ite_snd)
    | intro _ _ _
    | intro _
    | split
    | (dsimp -proj only)

theorem effectAllgather_chg : ∀ a0 a1 d, Dev.changesOnly [.regs, .t0, .t1, .log, .logSeq, .six, .evt, .kqp, .out, .tir, .mkt, .col, .fab, .tbn] d (effectAllgather a0 a1 d) := by
  intro a0 a1 d
  unfold effectAllgather
  repeat' first
    | (with_reducible assumption)
    | (with_reducible exact chg_refl _ _)
    | ((with_reducible apply Dev.runColl_keep); exact rfl)
    | (with_reducible apply chg_ite)
    | (with_reducible apply chg_foldl)
    | (with_reducible apply chg_foldl_snd)
    | (with_reducible apply chg_ite_snd)
    | intro _ _ _
    | intro _
    | split
    | (dsimp -proj only)

theorem effectAllreduce_chg : ∀ a0 a1 d, Dev.changesOnly [.regs, .t0, .t1, .log, .logSeq, .six, .evt, .kqp, .out, .tir, .mkt, .col, .fab, .tbn] d (effectAllreduce a0 a1 d) := by
  intro a0 a1 d
  unfold effectAllreduce
  repeat' first
    | (with_reducible assumption)
    | (with_reducible exact chg_refl _ _)
    | ((with_reducible apply Dev.runColl_keep); exact rfl)
    | (with_reducible apply chg_ite)
    | (with_reducible apply chg_foldl)
    | (with_reducible apply chg_foldl_snd)
    | (with_reducible apply chg_ite_snd)
    | intro _ _ _
    | intro _
    | split
    | (dsimp -proj only)

theorem effectAlltoall_chg : ∀ a0 a1 d, Dev.changesOnly [.regs, .t0, .t1, .log, .logSeq, .six, .evt, .kqp, .out, .tir, .mkt, .col, .fab, .tbn] d (effectAlltoall a0 a1 d) := by
  intro a0 a1 d
  unfold effectAlltoall
  repeat' first
    | (with_reducible assumption)
    | (with_reducible exact chg_refl _ _)
    | ((with_reducible apply Dev.runColl_keep); exact rfl)
    | (with_reducible apply chg_ite)
    | (with_reducible apply chg_foldl)
    | (with_reducible apply chg_foldl_snd)
    | (with_reducible apply chg_ite_snd)
    | intro _ _ _
    | intro _
    | split
    | (dsimp -proj only)

theorem effectAnswerReceive_chg : ∀ a0 d, Dev.changesOnly [.regs, .t0, .t1, .log, .logSeq, .six, .evt, .kqp, .out, .tir, .mkt, .ldg, .acr, .col, .fab, .tbn] d (effectAnswerReceive a0 d) := by
  intro a0 d
  unfold effectAnswerReceive
  repeat' first
    | (with_reducible assumption)
    | (with_reducible exact chg_refl _ _)
    | ((with_reducible apply Dev.takeAnswer_keep); exact rfl)
    | (with_reducible apply chg_ite)
    | (with_reducible apply chg_foldl)
    | (with_reducible apply chg_foldl_snd)
    | (with_reducible apply chg_ite_snd)
    | intro _ _ _
    | intro _
    | split
    | (dsimp -proj only)

theorem effectArpReceive_chg : ∀ a0 a1 a2 a3 d, Dev.changesOnly [.regs, .out] d (effectArpReceive a0 a1 a2 a3 d) := by
  intro a0 a1 a2 a3 d
  unfold effectArpReceive
  repeat' first
    | (with_reducible assumption)
    | (with_reducible exact chg_refl _ _)
    | ((with_reducible apply Dev.emit_keep); exact rfl)
    | ((with_reducible apply Dev.inc_keep); exact rfl)
    | (with_reducible apply chg_when)
    | (with_reducible apply chg_ite)
    | (with_reducible apply chg_foldl)
    | (with_reducible apply chg_foldl_snd)
    | (with_reducible apply chg_ite_snd)
    | intro _ _ _
    | intro _
    | split
    | (dsimp -proj only)

theorem effectArrayRampDown_chg : ∀ a0 d, Dev.changesOnly [.ccr] d (effectArrayRampDown a0 d) := by
  intro a0 d
  unfold effectArrayRampDown
  repeat' first
    | (with_reducible assumption)
    | (with_reducible exact chg_refl _ _)
    | ((with_reducible apply Dev.setCcr_keep); exact rfl)
    | (with_reducible apply chg_when)
    | (with_reducible apply chg_ite)
    | (with_reducible apply chg_foldl)
    | (with_reducible apply chg_foldl_snd)
    | (with_reducible apply chg_ite_snd)
    | intro _ _ _
    | intro _
    | split
    | (dsimp -proj only)

theorem effectAttn_chg : ∀ a0 a1 a2 a3 d, Dev.changesOnly [.regs, .t0, .t1, .log, .logSeq, .msixPend, .spr, .six, .evt, .kqp, .out, .tir, .ldg, .col, .ccr] d (effectAttn a0 a1 a2 a3 d) := by
  intro a0 a1 a2 a3 d
  unfold effectAttn
  repeat' first
    | (with_reducible assumption)
    | (with_reducible exact chg_refl _ _)
    | ((with_reducible apply Dev.runAttn_keep); exact rfl)
    | (with_reducible apply chg_ite)
    | (with_reducible apply chg_foldl)
    | (with_reducible apply chg_foldl_snd)
    | (with_reducible apply chg_ite_snd)
    | intro _ _ _
    | intro _
    | split
    | (dsimp -proj only)

theorem effectBankCopyEnd_chg : ∀ a0 a1 d, Dev.changesOnly [.regs, .t0, .log, .logSeq, .six, .evt, .kqp, .out, .tir, .mkt, .ldg, .sec] d (effectBankCopyEnd a0 a1 d) := by
  intro a0 a1 d
  unfold effectBankCopyEnd
  repeat' first
    | (with_reducible assumption)
    | (with_reducible exact chg_refl _ _)
    | ((with_reducible apply Dev.bankReplaced_keep); exact rfl)
    | ((with_reducible apply Dev.poisonLine_keep); exact rfl)
    | (refine Dev.poisonLine_keep_eq (by with_reducible assumption) rfl ?_)
    | (with_reducible apply chg_when)
    | (with_reducible apply chg_ite)
    | (with_reducible apply chg_foldl)
    | (with_reducible apply chg_foldl_snd)
    | (with_reducible apply chg_ite_snd)
    | intro _ _ _
    | intro _
    | split
    | (dsimp -proj only)

theorem effectBar2Read_chg : ∀ a0 a1 a2 d, Dev.changesOnly [.regs, .t1, .log, .logSeq, .evt, .out, .tir] d (effectBar2Read a0 a1 a2 d) := by
  intro a0 a1 a2 d
  unfold effectBar2Read
  repeat' first
    | (with_reducible assumption)
    | (with_reducible exact chg_refl _ _)
    | ((with_reducible apply Dev.emit_keep); exact rfl)
    | ((with_reducible apply Dev.hifCount_keep); exact rfl)
    | (with_reducible apply chg_when)
    | ((with_reducible apply Dev.winRead_keep); exact rfl)
    | (refine Dev.winRead_keep_eq (by with_reducible assumption) rfl ?_)
    | (with_reducible apply chg_ite)
    | (with_reducible apply chg_foldl)
    | (with_reducible apply chg_foldl_snd)
    | (with_reducible apply chg_ite_snd)
    | intro _ _ _
    | intro _
    | split
    | (dsimp -proj only)

theorem effectBar2Write_chg : ∀ a0 a1 a2 d, Dev.changesOnly [.regs, .t0, .t1, .log, .logSeq, .evt, .tir, .mkt] d (effectBar2Write a0 a1 a2 d) := by
  intro a0 a1 a2 d
  unfold effectBar2Write
  repeat' first
    | (with_reducible assumption)
    | (with_reducible exact chg_refl _ _)
    | ((with_reducible apply Dev.hifCount_keep); exact rfl)
    | ((with_reducible apply Dev.hifRaise_keep); exact rfl)
    | ((with_reducible apply Dev.incSat_keep); exact rfl)
    | ((with_reducible apply Dev.raise_keep); exact rfl)
    | (with_reducible apply chg_when)
    | (refine Dev.winWrite_keep (by with_reducible assumption) rfl ?_)
    | (with_reducible apply chg_ite)
    | (with_reducible apply chg_foldl)
    | (with_reducible apply chg_foldl_snd)
    | (with_reducible apply chg_ite_snd)
    | intro _ _ _
    | intro _
    | split
    | (dsimp -proj only)

theorem effectBarrier_chg : ∀ a0 a1 d, Dev.changesOnly [.regs, .t0, .t1, .log, .logSeq, .six, .evt, .kqp, .out, .tir, .mkt, .col, .fab, .tbn] d (effectBarrier a0 a1 d) := by
  intro a0 a1 d
  unfold effectBarrier
  repeat' first
    | (with_reducible assumption)
    | (with_reducible exact chg_refl _ _)
    | ((with_reducible apply Dev.runColl_keep); exact rfl)
    | (with_reducible apply chg_ite)
    | (with_reducible apply chg_foldl)
    | (with_reducible apply chg_foldl_snd)
    | (with_reducible apply chg_ite_snd)
    | intro _ _ _
    | intro _
    | split
    | (dsimp -proj only)

theorem effectBcastChain_chg : ∀ a0 a1 d, Dev.changesOnly [.regs, .t0, .t1, .log, .logSeq, .six, .evt, .kqp, .out, .tir, .mkt, .col, .fab, .tbn] d (effectBcastChain a0 a1 d) := by
  intro a0 a1 d
  unfold effectBcastChain
  repeat' first
    | (with_reducible assumption)
    | (with_reducible exact chg_refl _ _)
    | ((with_reducible apply Dev.runColl_keep); exact rfl)
    | (with_reducible apply chg_ite)
    | (with_reducible apply chg_foldl)
    | (with_reducible apply chg_foldl_snd)
    | (with_reducible apply chg_ite_snd)
    | intro _ _ _
    | intro _
    | split
    | (dsimp -proj only)

theorem effectBeaconReceive_chg : ∀ a0 d, Dev.changesOnly [.regs, .wset, .col] d (effectBeaconReceive a0 d) := by
  intro a0 d
  unfold effectBeaconReceive
  repeat' first
    | (with_reducible assumption)
    | (with_reducible exact chg_refl _ _)
    | ((with_reducible apply Dev.takeBeacon_keep); exact rfl)
    | (with_reducible apply chg_ite)
    | (with_reducible apply chg_foldl)
    | (with_reducible apply chg_foldl_snd)
    | (with_reducible apply chg_ite_snd)
    | intro _ _ _
    | intro _
    | split
    | (dsimp -proj only)

theorem effectBeaconSend_chg : ∀ a0 a1 d, Dev.changesOnly [.regs, .log, .logSeq, .six, .evt, .kqp, .out, .fab, .tbn] d (effectBeaconSend a0 a1 d) := by
  intro a0 a1 d
  unfold effectBeaconSend
  repeat' first
    | (with_reducible assumption)
    | (with_reducible exact chg_refl _ _)
    | ((with_reducible apply Dev.sendCtrl_keep); exact rfl)
    | ((with_reducible apply Dev.setCmd_keep); exact rfl)
    | (with_reducible apply chg_when)
    | (with_reducible apply chg_ite)
    | (with_reducible apply chg_foldl)
    | (with_reducible apply chg_foldl_snd)
    | (with_reducible apply chg_ite_snd)
    | intro _ _ _
    | intro _
    | split
    | (dsimp -proj only)

theorem effectBecomeKeeper_chg : ∀ d, Dev.changesOnly [.regs, .log, .logSeq, .evt, .col] d (effectBecomeKeeper d) := by
  intro d
  unfold effectBecomeKeeper
  repeat' first
    | (with_reducible assumption)
    | (with_reducible exact chg_refl _ _)
    | ((with_reducible apply Dev.rosterChanged_keep); exact rfl)
    | ((with_reducible apply Dev.setCol_keep); exact rfl)
    | (with_reducible apply chg_when)
    | (with_reducible apply chg_ite)
    | (with_reducible apply chg_foldl)
    | (with_reducible apply chg_foldl_snd)
    | (with_reducible apply chg_ite_snd)
    | intro _ _ _
    | intro _
    | split
    | (dsimp -proj only)

theorem effectBootAltDoorbell_chg : ∀ a0 a1 d, Dev.changesOnly [.regs, .t0, .log, .logSeq, .spr, .six, .evt, .kqp, .out, .tir, .mkt, .ldg, .fab, .sec, .hif] d (effectBootAltDoorbell a0 a1 d) := by
  intro a0 a1 d
  unfold effectBootAltDoorbell
  repeat' first
    | (with_reducible assumption)
    | (with_reducible exact chg_refl _ _)
    | ((with_reducible apply Dev.altChosen_keep); exact rfl)
    | ((with_reducible apply Dev.badDoorbell_keep); exact rfl)
    | (with_reducible apply chg_ite)
    | (with_reducible apply chg_foldl)
    | (with_reducible apply chg_foldl_snd)
    | (with_reducible apply chg_ite_snd)
    | intro _ _ _
    | intro _
    | split
    | (dsimp -proj only)

theorem effectBootAltTimeout_chg : ∀ d, Dev.changesOnly [.regs, .t0, .log, .logSeq, .spr, .six, .evt, .kqp, .out, .tir, .mkt, .ldg, .fab, .sec, .hif] d (effectBootAltTimeout d) := by
  intro d
  unfold effectBootAltTimeout
  repeat' first
    | (with_reducible assumption)
    | (with_reducible exact chg_refl _ _)
    | ((with_reducible apply Dev.altChosen_keep); exact rfl)
    | ((with_reducible apply Dev.raise_keep); exact rfl)
    | (with_reducible apply chg_when)
    | (with_reducible apply chg_ite)
    | (with_reducible apply chg_foldl)
    | (with_reducible apply chg_foldl_snd)
    | (with_reducible apply chg_ite_snd)
    | intro _ _ _
    | intro _
    | split
    | (dsimp -proj only)

theorem effectBootRestart_chg : ∀ d, Dev.changesOnly [.regs, .t0, .t1, .log, .logSeq, .spr, .six, .evt, .kqp, .out, .tir, .mkt, .ldg, .acr, .col, .fab, .tbn, .sec, .hif] d (effectBootRestart d) := by
  intro d
  unfold effectBootRestart
  repeat' first
    | (with_reducible assumption)
    | (with_reducible exact chg_refl _ _)
    | ((with_reducible apply Dev.bootRestart_keep); exact rfl)
    | (with_reducible apply chg_when)
    | (with_reducible apply chg_ite)
    | (with_reducible apply chg_foldl)
    | (with_reducible apply chg_foldl_snd)
    | (with_reducible apply chg_ite_snd)
    | intro _ _ _
    | intro _
    | split
    | (dsimp -proj only)

theorem effectBootStart_chg : ∀ d, Dev.changesOnly [.regs, .t0, .t1, .log, .logSeq, .spr, .six, .evt, .kqp, .out, .tir, .mkt, .ldg, .acr, .col, .fab, .tbn, .sec, .pwr, .hif] d (effectBootStart d) := by
  intro d
  unfold effectBootStart
  repeat' first
    | (with_reducible assumption)
    | (with_reducible exact chg_refl _ _)
    | ((with_reducible apply Dev.bootStart_keep); exact rfl)
    | ((with_reducible apply Dev.romRecovery_keep); exact rfl)
    | ((with_reducible apply Dev.setPwr_keep); exact rfl)
    | ((with_reducible apply Dev.setSec_keep); exact rfl)
    | (with_reducible apply chg_when)
    | (with_reducible apply chg_ite)
    | (with_reducible apply chg_foldl)
    | (with_reducible apply chg_foldl_snd)
    | (with_reducible apply chg_ite_snd)
    | intro _ _ _
    | intro _
    | split
    | (dsimp -proj only)

theorem effectBoundExpiry_chg : ∀ a0 a1 a2 d, Dev.changesOnly [.regs, .log, .logSeq, .msixPend, .spr, .six, .evt, .kqp, .out, .tir, .ldg, .hlt, .col, .sec, .ccr] d (effectBoundExpiry a0 a1 a2 d) := by
  intro a0 a1 a2 d
  unfold effectBoundExpiry
  repeat' first
    | (with_reducible assumption)
    | (with_reducible exact chg_refl _ _)
    | ((with_reducible apply Dev.cmdEnded_keep); exact rfl)
    | ((with_reducible apply Dev.dumpTrigger_keep); exact rfl)
    | ((with_reducible apply Dev.endPart_keep); exact rfl)
    | ((with_reducible apply Dev.faultPart_keep); exact rfl)
    | ((with_reducible apply Dev.raise_keep); exact rfl)
    | ((with_reducible apply Dev.setQueue_keep); exact rfl)
    | (with_reducible apply chg_when)
    | (with_reducible apply chg_ite)
    | (with_reducible apply chg_foldl)
    | (with_reducible apply chg_foldl_snd)
    | (with_reducible apply chg_ite_snd)
    | intro _ _ _
    | intro _
    | split
    | (dsimp -proj only)

theorem effectCapWrite_chg : ∀ a0 a1 d, Dev.changesOnly [.regs, .log, .logSeq, .evt] d (effectCapWrite a0 a1 d) := by
  intro a0 a1 d
  unfold effectCapWrite
  repeat' first
    | (with_reducible assumption)
    | (with_reducible exact chg_refl _ _)
    | ((with_reducible apply Dev.badAccess_keep); exact rfl)
    | ((with_reducible apply Dev.setCap_keep); exact rfl)
    | (with_reducible apply chg_ite)
    | (with_reducible apply chg_foldl)
    | (with_reducible apply chg_foldl_snd)
    | (with_reducible apply chg_ite_snd)
    | intro _ _ _
    | intro _
    | split
    | (dsimp -proj only)

theorem effectChainAssistDoorbell_chg : ∀ a0 a1 d, Dev.changesOnly [.regs, .log, .logSeq, .six, .evt, .out, .wset] d (effectChainAssistDoorbell a0 a1 d) := by
  intro a0 a1 d
  unfold effectChainAssistDoorbell
  repeat' first
    | (with_reducible assumption)
    | (with_reducible exact chg_refl _ _)
    | ((with_reducible apply Dev.badDoorbell_keep); exact rfl)
    | ((with_reducible apply Dev.chainAsk_keep); exact rfl)
    | ((with_reducible apply Dev.setFlag_keep); exact rfl)
    | ((with_reducible apply Dev.updLoad_keep); exact rfl)
    | (with_reducible apply chg_ite)
    | (with_reducible apply chg_foldl)
    | (with_reducible apply chg_foldl_snd)
    | (with_reducible apply chg_ite_snd)
    | intro _ _ _
    | intro _
    | split
    | (dsimp -proj only)

theorem effectChallenge_chg : ∀ a0 a1 d, Dev.changesOnly [.free, .out, .sec] d (effectChallenge a0 a1 d) := by
  intro a0 a1 d
  unfold effectChallenge
  repeat' first
    | (with_reducible assumption)
    | (with_reducible exact chg_refl _ _)
    | ((with_reducible apply Dev.spdmError_keep); exact rfl)
    | ((with_reducible apply Dev.spdmNonce_keep); exact rfl)
    | (refine Dev.spdmNonce_keep_eq (by with_reducible assumption) rfl ?_)
    | ((with_reducible apply Dev.spdmReply_keep); exact rfl)
    | (with_reducible apply chg_when)
    | (with_reducible apply chg_ite)
    | (with_reducible apply chg_foldl)
    | (with_reducible apply chg_foldl_snd)
    | (with_reducible apply chg_ite_snd)
    | intro _ _ _
    | intro _
    | split
    | (dsimp -proj only)

theorem effectCkpt_chg : ∀ a0 a1 d, Dev.changesOnly [.regs, .log, .logSeq, .msixPend, .six, .evt, .kqp, .out, .tir, .ldg, .col, .ccr] d (effectCkpt a0 a1 d) := by
  intro a0 a1 d
  unfold effectCkpt
  repeat' first
    | (with_reducible assumption)
    | (with_reducible exact chg_refl _ _)
    | ((with_reducible apply Dev.endPart_keep); exact rfl)
    | ((with_reducible apply Dev.updNewest_keep); exact rfl)
    | (with_reducible apply chg_when)
    | (with_reducible apply chg_ite)
    | (with_reducible apply chg_foldl)
    | (with_reducible apply chg_foldl_snd)
    | (with_reducible apply chg_ite_snd)
    | intro _ _ _
    | intro _
    | split
    | (dsimp -proj only)

theorem effectCkptComplete_chg : ∀ a0 d, Dev.changesOnly [.regs, .log, .logSeq, .six, .evt, .out, .ldg, .fab, .tbn] d (effectCkptComplete a0 d) := by
  intro a0 d
  unfold effectCkptComplete
  repeat' first
    | (with_reducible assumption)
    | (with_reducible exact chg_refl _ _)
    | ((with_reducible apply Dev.assistOpen_keep); exact rfl)
    | ((with_reducible apply Dev.hostWrite_keep); exact rfl)
    | ((with_reducible apply Dev.imageDone_keep); exact rfl)
    | ((with_reducible apply Dev.setJob_keep); exact rfl)
    | (refine Dev.sixAlloc_keep (by with_reducible assumption) rfl ?_)
    | (with_reducible apply chg_when)
    | ((with_reducible apply Dev.wr_keep); exact rfl)
    | (with_reducible apply chg_ite)
    | (with_reducible apply chg_foldl)
    | (with_reducible apply chg_foldl_snd)
    | (with_reducible apply chg_ite_snd)
    | intro _ _ _
    | intro _
    | split
    | (dsimp -proj only)

theorem effectCkptFailed_chg : ∀ a0 a1 d, Dev.changesOnly [.regs, .log, .logSeq, .six, .evt, .out, .ldg, .fab, .tbn] d (effectCkptFailed a0 a1 d) := by
  intro a0 a1 d
  unfold effectCkptFailed
  repeat' first
    | (with_reducible assumption)
    | (with_reducible exact chg_refl _ _)
    | ((with_reducible apply Dev.drainOver_keep); exact rfl)
    | ((with_reducible apply Dev.raiseLdg_keep); exact rfl)
    | (with_reducible apply chg_when)
    | (with_reducible apply chg_ite)
    | (with_reducible apply chg_foldl)
    | (with_reducible apply chg_foldl_snd)
    | (with_reducible apply chg_ite_snd)
    | intro _ _ _
    | intro _
    | split
    | (dsimp -proj only)

theorem effectClockFault_chg : ∀ a0 a1 d, Dev.changesOnly [.regs, .stampHold, .t0, .t1, .log, .logSeq, .msixPend, .spr, .six, .evt, .kqp, .free, .out, .tir, .mkt, .ldg, .hlt, .acr, .col, .fab, .tbn, .sec, .tim, .pwr, .hif, .ccr] d (effectClockFault a0 a1 d) := by
  intro a0 a1 d
  unfold effectClockFault
  repeat' first
    | (with_reducible assumption)
    | (with_reducible exact chg_refl _ _)
    | ((with_reducible apply Dev.monitorFault_keep); exact rfl)
    | ((with_reducible apply Dev.monitorStatus_keep); exact rfl)
    | (refine Dev.monitorStatus_keep_eq (by with_reducible assumption) rfl ?_)
    | ((with_reducible apply Dev.resetUnit_keep); exact rfl)
    | ((with_reducible apply Dev.startD3_keep); exact rfl)
    | (with_reducible apply chg_ite)
    | (with_reducible apply chg_foldl)
    | (with_reducible apply chg_foldl_snd)
    | (with_reducible apply chg_ite_snd)
    | intro _ _ _
    | intro _
    | split
    | (dsimp -proj only)

theorem effectCloseReceive_chg : ∀ a0 d, Dev.changesOnly [.regs, .log, .logSeq, .evt, .fab, .tbn] d (effectCloseReceive a0 d) := by
  intro a0 d
  unfold effectCloseReceive
  repeat' first
    | (with_reducible assumption)
    | (with_reducible exact chg_refl _ _)
    | ((with_reducible apply Dev.dropConn_keep); exact rfl)
    | ((with_reducible apply Dev.postWaiting_keep); exact rfl)
    | ((with_reducible apply Dev.setConn_keep); exact rfl)
    | (with_reducible apply chg_ite)
    | (with_reducible apply chg_foldl)
    | (with_reducible apply chg_foldl_snd)
    | (with_reducible apply chg_ite_snd)
    | intro _ _ _
    | intro _
    | split
    | (dsimp -proj only)

theorem effectClosedUnitRetest_chg : ∀ a0 a1 d, Dev.changesOnly [.regs, .spr] d (effectClosedUnitRetest a0 a1 d) := by
  intro a0 a1 d
  unfold effectClosedUnitRetest
  repeat' first
    | (with_reducible assumption)
    | (with_reducible exact chg_refl _ _)
    | ((with_reducible apply Dev.beginReset_keep); exact rfl)
    | ((with_reducible apply Dev.setPhys_keep); exact rfl)
    | (with_reducible apply chg_when)
    | (with_reducible apply chg_ite)
    | (with_reducible apply chg_foldl)
    | (with_reducible apply chg_foldl_snd)
    | (with_reducible apply chg_ite_snd)
    | intro _ _ _
    | intro _
    | split
    | (dsimp -proj only)

theorem effectCnpReceive_chg : ∀ a0 a1 d, Dev.changesOnly [.regs, .tbn] d (effectCnpReceive a0 a1 d) := by
  intro a0 a1 d
  unfold effectCnpReceive
  repeat' first
    | (with_reducible assumption)
    | (with_reducible exact chg_refl _ _)
    | ((with_reducible apply Dev.incSat_keep); exact rfl)
    | ((with_reducible apply Dev.onConn_keep); exact rfl)
    | ((with_reducible apply Dev.setConn_keep); exact rfl)
    | (with_reducible apply chg_when)
    | (with_reducible apply chg_ite)
    | (with_reducible apply chg_foldl)
    | (with_reducible apply chg_foldl_snd)
    | (with_reducible apply chg_ite_snd)
    | intro _ _ _
    | intro _
    | split
    | (dsimp -proj only)

theorem effectColAssistDoorbell_chg : ∀ a0 a1 d, Dev.changesOnly [.regs, .t0, .t1, .log, .logSeq, .six, .evt, .kqp, .out, .tir, .mkt, .ldg, .wset, .acr, .col, .fab, .tbn] d (effectColAssistDoorbell a0 a1 d) := by
  intro a0 a1 d
  unfold effectColAssistDoorbell
  repeat' first
    | (with_reducible assumption)
    | (with_reducible exact chg_refl _ _)
    | ((with_reducible apply Dev.badDoorbell_keep); exact rfl)
    | ((with_reducible apply Dev.colAssist_keep); exact rfl)
    | ((with_reducible apply Dev.removeDevice_keep); exact rfl)
    | ((with_reducible apply Dev.setCol_keep); exact rfl)
    | ((with_reducible apply Dev.setFlag_keep); exact rfl)
    | ((with_reducible apply Dev.sixRelease_keep); exact rfl)
    | ((with_reducible apply Dev.wakeSpare_keep); exact rfl)
    | ((with_reducible apply Dev.wr_keep); exact rfl)
    | (with_reducible apply chg_ite)
    | (with_reducible apply chg_foldl)
    | (with_reducible apply chg_foldl_snd)
    | (with_reducible apply chg_ite_snd)
    | intro _ _ _
    | intro _
    | split
    | (dsimp -proj only)

theorem effectCollectiveWaitTimeout_chg : ∀ a0 a1 a2 d, Dev.changesOnly [.regs, .t0, .t1, .log, .logSeq, .six, .evt, .kqp, .out, .tir, .mkt, .wset, .col] d (effectCollectiveWaitTimeout a0 a1 a2 d) := by
  intro a0 a1 a2 d
  unfold effectCollectiveWaitTimeout
  repeat' first
    | (with_reducible assumption)
    | (with_reducible exact chg_refl _ _)
    | ((with_reducible apply Dev.chainBroken_keep); exact rfl)
    | ((with_reducible apply Dev.failColl_keep); exact rfl)
    | ((with_reducible apply Dev.loadFail_keep); exact rfl)
    | ((with_reducible apply Dev.raise_keep); exact rfl)
    | ((with_reducible apply Dev.sixRelease_keep); exact rfl)
    | (with_reducible apply chg_when)
    | (with_reducible apply chg_ite)
    | (with_reducible apply chg_foldl)
    | (with_reducible apply chg_foldl_snd)
    | (with_reducible apply chg_ite_snd)
    | intro _ _ _
    | intro _
    | split
    | (dsimp -proj only)

theorem effectCombine_chg : ∀ a0 a1 a2 d, Dev.changesOnly [.regs, .t0, .log, .logSeq, .evt, .kqp, .tir] d (effectCombine a0 a1 a2 d) := by
  intro a0 a1 a2 d
  unfold effectCombine
  repeat' first
    | (with_reducible assumption)
    | (with_reducible exact chg_refl _ _)
    | ((with_reducible apply Dev.runCombine_keep); exact rfl)
    | (with_reducible apply chg_ite)
    | (with_reducible apply chg_foldl)
    | (with_reducible apply chg_foldl_snd)
    | (with_reducible apply chg_ite_snd)
    | intro _ _ _
    | intro _
    | split
    | (dsimp -proj only)

theorem effectCommandFetch_chg : ∀ a0 a1 d, Dev.changesOnly [.regs, .kqp] d (effectCommandFetch a0 a1 d) := by
  intro a0 a1 d
  unfold effectCommandFetch
  repeat' first
    | (with_reducible assumption)
    | (with_reducible exact chg_refl _ _)
    | ((with_reducible apply Dev.qSettle_keep); exact rfl)
    | ((with_reducible apply Dev.setQueue_keep); exact rfl)
    | (with_reducible apply chg_when)
    | ((with_reducible apply Dev.wr_keep); exact rfl)
    | (with_reducible apply chg_ite)
    | (with_reducible apply chg_foldl)
    | (with_reducible apply chg_foldl_snd)
    | (with_reducible apply chg_ite_snd)
    | intro _ _ _
    | intro _
    | split
    | (dsimp -proj only)

theorem effectCommandStart_chg : ∀ a0 d, Dev.changesOnly [.regs, .log, .logSeq, .msixPend, .six, .evt, .kqp, .out, .ldg, .col] d (effectCommandStart a0 d) := by
  intro a0 d
  unfold effectCommandStart
  repeat' first
    | (with_reducible assumption)
    | (with_reducible exact chg_refl _ _)
    | ((with_reducible apply Dev.begin_keep); exact rfl)
    | ((with_reducible apply Dev.blockQueue_keep); exact rfl)
    | ((with_reducible apply Dev.neverStarts_keep); exact rfl)
    | ((with_reducible apply Dev.setQueue_keep); exact rfl)
    | ((with_reducible apply Dev.setWaits_keep); exact rfl)
    | (with_reducible apply chg_ite)
    | (with_reducible apply chg_foldl)
    | (with_reducible apply chg_foldl_snd)
    | (with_reducible apply chg_ite_snd)
    | intro _ _ _
    | intro _
    | split
    | (dsimp -proj only)

theorem effectCommitApply_chg : ∀ a0 d, Dev.changesOnly [.regs, .t0, .t1, .log, .logSeq, .six, .evt, .out, .tir, .mkt, .ldg, .acr, .col, .fab, .tbn] d (effectCommitApply a0 d) := by
  intro a0 d
  unfold effectCommitApply
  repeat' first
    | (with_reducible assumption)
    | (with_reducible exact chg_refl _ _)
    | ((with_reducible apply Dev.flip_keep); exact rfl)
    | (with_reducible apply chg_when)
    | (with_reducible apply chg_ite)
    | (with_reducible apply chg_foldl)
    | (with_reducible apply chg_foldl_snd)
    | (with_reducible apply chg_ite_snd)
    | intro _ _ _
    | intro _
    | split
    | (dsimp -proj only)

theorem effectCommitReceive_chg : ∀ a0 d, Dev.changesOnly [.regs, .t0, .t1, .log, .logSeq, .six, .evt, .out, .tir, .mkt, .ldg, .acr, .col, .fab, .tbn] d (effectCommitReceive a0 d) := by
  intro a0 d
  unfold effectCommitReceive
  repeat' first
    | (with_reducible assumption)
    | (with_reducible exact chg_refl _ _)
    | ((with_reducible apply Dev.takeCommit_keep); exact rfl)
    | (with_reducible apply chg_ite)
    | (with_reducible apply chg_foldl)
    | (with_reducible apply chg_foldl_snd)
    | (with_reducible apply chg_ite_snd)
    | intro _ _ _
    | intro _
    | split
    | (dsimp -proj only)

theorem effectConfigRequest_chg : ∀ a0 a1 d, Dev.changesOnly [.regs, .log, .logSeq, .evt, .sec] d (effectConfigRequest a0 a1 d) := by
  intro a0 a1 d
  unfold effectConfigRequest
  repeat' first
    | (with_reducible assumption)
    | (with_reducible exact chg_refl _ _)
    | ((with_reducible apply Dev.badAccess_keep); exact rfl)
    | ((with_reducible apply Dev.configCommit_keep); exact rfl)
    | ((with_reducible apply Dev.setFlag_keep); exact rfl)
    | ((with_reducible apply Dev.setSec_keep); exact rfl)
    | (with_reducible apply chg_ite)
    | (with_reducible apply chg_foldl)
    | (with_reducible apply chg_foldl_snd)
    | (with_reducible apply chg_ite_snd)
    | intro _ _ _
    | intro _
    | split
    | (dsimp -proj only)

theorem effectConnIdleClose_chg : ∀ a0 d, Dev.changesOnly [.regs, .log, .logSeq, .evt, .fab, .tbn] d (effectConnIdleClose a0 d) := by
  intro a0 d
  unfold effectConnIdleClose
  repeat' first
    | (with_reducible assumption)
    | (with_reducible exact chg_refl _ _)
    | ((with_reducible apply Dev.closeConn_keep); exact rfl)
    | ((with_reducible apply Dev.postWaiting_keep); exact rfl)
    | (with_reducible apply chg_when)
    | (with_reducible apply chg_ite)
    | (with_reducible apply chg_foldl)
    | (with_reducible apply chg_foldl_snd)
    | (with_reducible apply chg_ite_snd)
    | intro _ _ _
    | intro _
    | split
    | (dsimp -proj only)

theorem effectConv_chg : ∀ a0 a1 a2 a3 d, Dev.changesOnly [.regs, .t0, .t1, .log, .logSeq, .msixPend, .spr, .six, .evt, .kqp, .out, .tir, .ldg, .col, .ccr] d (effectConv a0 a1 a2 a3 d) := by
  intro a0 a1 a2 a3 d
  unfold effectConv
  repeat' first
    | (with_reducible assumption)
    | (with_reducible exact chg_refl _ _)
    | ((with_reducible apply Dev.runConv_keep); exact rfl)
    | (with_reducible apply chg_ite)
    | (with_reducible apply chg_foldl)
    | (with_reducible apply chg_foldl_snd)
    | (with_reducible apply chg_ite_snd)
    | intro _ _ _
    | intro _
    | split
    | (dsimp -proj only)

theorem effectCoordinatorTakeover_chg : ∀ a0 d, Dev.changesOnly [.regs, .t0, .t1, .log, .logSeq, .six, .evt, .kqp, .out, .tir, .mkt, .ldg, .acr, .col, .fab, .tbn] d (effectCoordinatorTakeover a0 d) := by
  intro a0 d
  unfold effectCoordinatorTakeover
  repeat' first
    | (with_reducible assumption)
    | (with_reducible exact chg_refl _ _)
    | ((with_reducible apply Dev.queryDecide_keep); exact rfl)
    | ((with_reducible apply Dev.raiseLdg_keep); exact rfl)
    | ((with_reducible apply Dev.sendLdg_keep); exact rfl)
    | ((with_reducible apply Dev.setJob_keep); exact rfl)
    | ((with_reducible apply Dev.showCoord_keep); exact rfl)
    | (with_reducible apply chg_when)
    | (with_reducible apply chg_ite)
    | (with_reducible apply chg_foldl)
    | (with_reducible apply chg_foldl_snd)
    | (with_reducible apply chg_ite_snd)
    | intro _ _ _
    | intro _
    | split
    | (dsimp -proj only)

theorem effectCreate_chg : ∀ a0 d, Dev.changesOnly [.regs, .t1, .log, .logSeq, .evt, .tir] d (effectCreate a0 d) := by
  intro a0 d
  unfold effectCreate
  repeat' first
    | (with_reducible assumption)
    | (with_reducible exact chg_refl _ _)
    | ((with_reducible apply Dev.createObj_keep); exact rfl)
    | ((with_reducible apply Dev.mailbox_keep); exact rfl)
    | (with_reducible apply chg_ite)
    | (with_reducible apply chg_foldl)
    | (with_reducible apply chg_foldl_snd)
    | (with_reducible apply chg_ite_snd)
    | intro _ _ _
    | intro _
    | split
    | (dsimp -proj only)

theorem effectCtrlDeliver_chg : ∀ d, Dev.changesOnly [.regs, .t0, .t1, .log, .logSeq, .six, .evt, .kqp, .free, .out, .tir, .mkt, .ldg, .wset, .acr, .col, .fab, .tbn] d (effectCtrlDeliver d) := by
  intro d
  unfold effectCtrlDeliver
  repeat' first
    | (with_reducible assumption)
    | (with_reducible exact chg_refl _ _)
    | ((with_reducible apply Dev.deliver_keep); exact rfl)
    | ((with_reducible apply Dev.setTbn_keep); exact rfl)
    | (with_reducible apply chg_when)
    | (with_reducible apply chg_ite)
    | (with_reducible apply chg_foldl)
    | (with_reducible apply chg_foldl_snd)
    | (with_reducible apply chg_ite_snd)
    | intro _ _ _
    | intro _
    | split
    | (dsimp -proj only)

theorem effectCtrlReceive_chg : ∀ a0 a1 a2 a3 a4 a5 a6 d, Dev.changesOnly [.regs, .t0, .t1, .log, .logSeq, .six, .evt, .kqp, .free, .out, .tir, .mkt, .ldg, .wset, .acr, .col, .fab, .tbn] d (effectCtrlReceive a0 a1 a2 a3 a4 a5 a6 d) := by
  intro a0 a1 a2 a3 a4 a5 a6 d
  unfold effectCtrlReceive
  repeat' first
    | (with_reducible assumption)
    | (with_reducible exact chg_refl _ _)
    | ((with_reducible apply Dev.deliver_keep); exact rfl)
    | ((with_reducible apply Dev.incSat_keep); exact rfl)
    | ((with_reducible apply Dev.onConn_keep); exact rfl)
    | ((with_reducible apply Dev.onMark_keep); exact rfl)
    | ((with_reducible apply Dev.raise_keep); exact rfl)
    | ((with_reducible apply Dev.setConn_keep); exact rfl)
    | ((with_reducible apply Dev.setTbn_keep); exact rfl)
    | (with_reducible apply chg_ite)
    | (with_reducible apply chg_foldl)
    | (with_reducible apply chg_foldl_snd)
    | (with_reducible apply chg_ite_snd)
    | intro _ _ _
    | intro _
    | split
    | (dsimp -proj only)

theorem effectD0Request_chg : ∀ a0 a1 d, Dev.changesOnly [.regs, .log, .logSeq, .msixPend, .spr, .six, .evt, .kqp, .out, .tir, .ldg, .acr, .col, .fab, .tbn, .ccr] d (effectD0Request a0 a1 d) := by
  intro a0 a1 d
  unfold effectD0Request
  repeat' first
    | (with_reducible assumption)
    | (with_reducible exact chg_refl _ _)
    | ((with_reducible apply Dev.requestReset_keep); exact rfl)
    | (with_reducible apply chg_ite)
    | (with_reducible apply chg_foldl)
    | (with_reducible apply chg_foldl_snd)
    | (with_reducible apply chg_ite_snd)
    | intro _ _ _
    | intro _
    | split
    | (dsimp -proj only)

theorem effectD1Request_chg : ∀ a0 a1 d, Dev.changesOnly [.regs, .log, .logSeq, .msixPend, .spr, .six, .evt, .kqp, .out, .tir, .ldg, .acr, .col, .fab, .tbn, .ccr] d (effectD1Request a0 a1 d) := by
  intro a0 a1 d
  unfold effectD1Request
  repeat' first
    | (with_reducible assumption)
    | (with_reducible exact chg_refl _ _)
    | ((with_reducible apply Dev.requestReset_keep); exact rfl)
    | (with_reducible apply chg_ite)
    | (with_reducible apply chg_foldl)
    | (with_reducible apply chg_foldl_snd)
    | (with_reducible apply chg_ite_snd)
    | intro _ _ _
    | intro _
    | split
    | (dsimp -proj only)

theorem effectD2Request_chg : ∀ a0 a1 d, Dev.changesOnly [.regs, .log, .logSeq, .msixPend, .spr, .six, .evt, .kqp, .out, .tir, .ldg, .acr, .col, .fab, .tbn, .ccr] d (effectD2Request a0 a1 d) := by
  intro a0 a1 d
  unfold effectD2Request
  repeat' first
    | (with_reducible assumption)
    | (with_reducible exact chg_refl _ _)
    | ((with_reducible apply Dev.requestReset_keep); exact rfl)
    | (with_reducible apply chg_ite)
    | (with_reducible apply chg_foldl)
    | (with_reducible apply chg_foldl_snd)
    | (with_reducible apply chg_ite_snd)
    | intro _ _ _
    | intro _
    | split
    | (dsimp -proj only)

theorem effectD3Request_chg : ∀ a0 a1 d, Dev.changesOnly [.regs, .stampHold, .t0, .t1, .log, .logSeq, .spr, .six, .evt, .kqp, .out, .tir, .mkt, .ldg, .hlt, .acr, .col, .fab, .tbn, .sec, .tim, .pwr, .hif, .ccr] d (effectD3Request a0 a1 d) := by
  intro a0 a1 d
  unfold effectD3Request
  repeat' first
    | (with_reducible assumption)
    | (with_reducible exact chg_refl _ _)
    | ((with_reducible apply Dev.resetKeyOk_keep); exact rfl)
    | (refine Dev.resetKeyOk_keep_eq (by with_reducible assumption) rfl ?_)
    | ((with_reducible apply Dev.startD3_keep); exact rfl)
    | (with_reducible apply chg_when)
    | (with_reducible apply chg_ite)
    | (with_reducible apply chg_foldl)
    | (with_reducible apply chg_foldl_snd)
    | (with_reducible apply chg_ite_snd)
    | intro _ _ _
    | intro _
    | split
    | (dsimp -proj only)

theorem effectD4Request_chg : ∀ a0 a1 d, Dev.changesOnly [.regs, .stampHold, .t0, .t1, .log, .logSeq, .msix, .msixPend, .spr, .six, .evt, .kqp, .out, .tir, .mkt, .ldg, .hlt, .wset, .acr, .col, .fab, .tbn, .sec, .tim, .pwr, .hif, .ccr] d (effectD4Request a0 a1 d) := by
  intro a0 a1 d
  unfold effectD4Request
  repeat' first
    | (with_reducible assumption)
    | (with_reducible exact chg_refl _ _)
    | ((with_reducible apply Dev.clearWarm_keep); exact rfl)
    | ((with_reducible apply Dev.resetKeyOk_keep); exact rfl)
    | (refine Dev.resetKeyOk_keep_eq (by with_reducible assumption) rfl ?_)
    | ((with_reducible apply Dev.startD4_keep); exact rfl)
    | (with_reducible apply chg_when)
    | ((with_reducible apply Dev.wr_keep); exact rfl)
    | (with_reducible apply chg_ite)
    | (with_reducible apply chg_foldl)
    | (with_reducible apply chg_foldl_snd)
    | (with_reducible apply chg_ite_snd)
    | intro _ _ _
    | intro _
    | split
    | (dsimp -proj only)

theorem effectDataReceive_chg : ∀ a0 a1 a2 a3 a4 a5 a6 a7 a8 a9 a10 a11 a12 d, Dev.changesOnly [.regs, .t0, .t1, .log, .logSeq, .six, .evt, .kqp, .out, .tir, .mkt, .wset, .col, .fab, .tbn] d (effectDataReceive a0 a1 a2 a3 a4 a5 a6 a7 a8 a9 a10 a11 a12 d) := by
  intro a0 a1 a2 a3 a4 a5 a6 a7 a8 a9 a10 a11 a12 d
  unfold effectDataReceive
  repeat' first
    | (with_reducible assumption)
    | (with_reducible exact chg_refl _ _)
    | ((with_reducible apply Dev.chainPlace_keep); exact rfl)
    | ((with_reducible apply Dev.collAdvance_keep); exact rfl)
    | ((with_reducible apply Dev.failColl_keep); exact rfl)
    | ((with_reducible apply Dev.incSat_keep); exact rfl)
    | ((with_reducible apply Dev.notReady_keep); exact rfl)
    | ((with_reducible apply Dev.onConn_keep); exact rfl)
    | ((with_reducible apply Dev.onMark_keep); exact rfl)
    | ((with_reducible apply Dev.placeData_keep); exact rfl)
    | ((with_reducible apply Dev.raise_keep); exact rfl)
    | ((with_reducible apply Dev.sendAck_keep); exact rfl)
    | ((with_reducible apply Dev.setConn_keep); exact rfl)
    | (refine Dev.sixAlloc_keep (by with_reducible assumption) rfl ?_)
    | ((with_reducible apply Dev.updPosted_keep); exact rfl)
    | (with_reducible apply chg_ite)
    | (with_reducible apply chg_foldl)
    | (with_reducible apply chg_foldl_snd)
    | (with_reducible apply chg_ite_snd)
    | intro _ _ _
    | intro _
    | split
    | (dsimp -proj only)

theorem effectDelete_chg : ∀ a0 d, Dev.changesOnly [.regs, .t0, .t1, .log, .logSeq, .six, .evt, .kqp, .out, .tir, .mkt, .col] d (effectDelete a0 d) := by
  intro a0 d
  unfold effectDelete
  repeat' first
    | (with_reducible assumption)
    | (with_reducible exact chg_refl _ _)
    | ((with_reducible apply Dev.deleteObj_keep); exact rfl)
    | ((with_reducible apply Dev.mailbox_keep); exact rfl)
    | ((with_reducible apply Dev.mbxDone_keep); exact rfl)
    | (with_reducible apply chg_ite)
    | (with_reducible apply chg_foldl)
    | (with_reducible apply chg_foldl_snd)
    | (with_reducible apply chg_ite_snd)
    | intro _ _ _
    | intro _
    | split
    | (dsimp -proj only)

theorem effectDeviceVote_chg : ∀ a0 d, Dev.changesOnly [.regs, .t0, .t1, .log, .logSeq, .six, .evt, .kqp, .out, .tir, .mkt, .ldg, .acr, .col, .fab, .tbn] d (effectDeviceVote a0 d) := by
  intro a0 d
  unfold effectDeviceVote
  repeat' first
    | (with_reducible assumption)
    | (with_reducible exact chg_refl _ _)
    | ((with_reducible apply Dev.abortAttempt_keep); exact rfl)
    | ((with_reducible apply Dev.castVote_keep); exact rfl)
    | ((with_reducible apply Dev.originateRed_keep); exact rfl)
    | ((with_reducible apply Dev.setStepState_keep); exact rfl)
    | (with_reducible apply chg_when)
    | (with_reducible apply chg_ite)
    | (with_reducible apply chg_foldl)
    | (with_reducible apply chg_foldl_snd)
    | (with_reducible apply chg_ite_snd)
    | intro _ _ _
    | intro _
    | split
    | (dsimp -proj only)

theorem effectDoeDiscovery_chg : ∀ a0 a1 d, Dev.changesOnly [.out] d (effectDoeDiscovery a0 a1 d) := by
  intro a0 a1 d
  unfold effectDoeDiscovery
  repeat' first
    | (with_reducible assumption)
    | (with_reducible exact chg_refl _ _)
    | ((with_reducible apply Dev.emit_keep); exact rfl)
    | (with_reducible apply chg_when)
    | (with_reducible apply chg_ite)
    | (with_reducible apply chg_foldl)
    | (with_reducible apply chg_foldl_snd)
    | (with_reducible apply chg_ite_snd)
    | intro _ _ _
    | intro _
    | split
    | (dsimp -proj only)

theorem effectDoorbellWrite_chg : ∀ a0 a1 a2 d, Dev.changesOnly [.regs, .log, .logSeq, .evt] d (effectDoorbellWrite a0 a1 a2 d) := by
  intro a0 a1 a2 d
  unfold effectDoorbellWrite
  repeat' first
    | (with_reducible assumption)
    | (with_reducible exact chg_refl _ _)
    | ((with_reducible apply Dev.raiseQueue_keep); exact rfl)
    | ((with_reducible apply Dev.setQSt_keep); exact rfl)
    | ((with_reducible apply Dev.wr_keep); exact rfl)
    | (with_reducible apply chg_ite)
    | (with_reducible apply chg_foldl)
    | (with_reducible apply chg_foldl_snd)
    | (with_reducible apply chg_ite_snd)
    | intro _ _ _
    | intro _
    | split
    | (dsimp -proj only)

theorem effectDormantRequest_chg : ∀ a0 a1 d, Dev.changesOnly [.regs, .log, .logSeq, .evt, .col, .pwr] d (effectDormantRequest a0 a1 d) := by
  intro a0 a1 d
  unfold effectDormantRequest
  repeat' first
    | (with_reducible assumption)
    | (with_reducible exact chg_refl _ _)
    | ((with_reducible apply Dev.requestLow_keep); exact rfl)
    | (with_reducible apply chg_ite)
    | (with_reducible apply chg_foldl)
    | (with_reducible apply chg_foldl_snd)
    | (with_reducible apply chg_ite_snd)
    | intro _ _ _
    | intro _
    | split
    | (dsimp -proj only)

theorem effectDumpAgentTimeout_chg : ∀ a0 d, Dev.changesOnly [.hlt] d (effectDumpAgentTimeout a0 d) := by
  intro a0 d
  unfold effectDumpAgentTimeout
  repeat' first
    | (with_reducible assumption)
    | (with_reducible exact chg_refl _ _)
    | ((with_reducible apply Dev.setHlt_keep); exact rfl)
    | (with_reducible apply chg_when)
    | (with_reducible apply chg_ite)
    | (with_reducible apply chg_foldl)
    | (with_reducible apply chg_foldl_snd)
    | (with_reducible apply chg_ite_snd)
    | intro _ _ _
    | intro _
    | split
    | (dsimp -proj only)

theorem effectDumpChunkFetch_chg : ∀ a0 a1 d, Dev.changesOnly [.regs, .hlt] d (effectDumpChunkFetch a0 a1 d) := by
  intro a0 a1 d
  unfold effectDumpChunkFetch
  repeat' first
    | (with_reducible assumption)
    | (with_reducible exact chg_refl _ _)
    | ((with_reducible apply Dev.setHlt_keep); exact rfl)
    | ((with_reducible apply Dev.setReg_keep); exact rfl)
    | (with_reducible apply chg_ite)
    | (with_reducible apply chg_foldl)
    | (with_reducible apply chg_foldl_snd)
    | (with_reducible apply chg_ite_snd)
    | intro _ _ _
    | intro _
    | split
    | (dsimp -proj only)

theorem effectDumpComplete_chg : ∀ a0 a1 d, Dev.changesOnly [.regs, .log, .logSeq, .evt, .hlt] d (effectDumpComplete a0 a1 d) := by
  intro a0 a1 d
  unfold effectDumpComplete
  repeat' first
    | (with_reducible assumption)
    | (with_reducible exact chg_refl _ _)
    | ((with_reducible apply Dev.dumpEnd_keep); exact rfl)
    | (with_reducible apply chg_when)
    | (with_reducible apply chg_ite)
    | (with_reducible apply chg_foldl)
    | (with_reducible apply chg_foldl_snd)
    | (with_reducible apply chg_ite_snd)
    | intro _ _ _
    | intro _
    | split
    | (dsimp -proj only)

theorem effectDumpCopyEnd_chg : ∀ d, Dev.changesOnly [.regs, .log, .logSeq, .evt, .out, .hlt] d (effectDumpCopyEnd d) := by
  intro d
  unfold effectDumpCopyEnd
  repeat' first
    | (with_reducible assumption)
    | (with_reducible exact chg_refl _ _)
    | ((with_reducible apply Dev.hostWrite_keep); exact rfl)
    | ((with_reducible apply Dev.raise_keep); exact rfl)
    | ((with_reducible apply Dev.setFlag_keep); exact rfl)
    | ((with_reducible apply Dev.setHlt_keep); exact rfl)
    | (with_reducible apply chg_ite)
    | (with_reducible apply chg_foldl)
    | (with_reducible apply chg_foldl_snd)
    | (with_reducible apply chg_ite_snd)
    | intro _ _ _
    | intro _
    | split
    | (dsimp -proj only)

theorem effectDumpRequest_chg : ∀ d, Dev.changesOnly [.regs, .log, .logSeq, .six, .evt, .out, .hlt] d (effectDumpRequest d) := by
  intro d
  unfold effectDumpRequest
  repeat' first
    | (with_reducible assumption)
    | (with_reducible exact chg_refl _ _)
    | ((with_reducible apply Dev.dumpTrigger_keep); exact rfl)
    | (with_reducible apply chg_ite)
    | (with_reducible apply chg_foldl)
    | (with_reducible apply chg_foldl_snd)
    | (with_reducible apply chg_ite_snd)
    | intro _ _ _
    | intro _
    | split
    | (dsimp -proj only)

theorem effectDumpToHost_chg : ∀ d, Dev.changesOnly [.regs, .hlt] d (effectDumpToHost d) := by
  intro d
  unfold effectDumpToHost
  repeat' first
    | (with_reducible assumption)
    | (with_reducible exact chg_refl _ _)
    | ((with_reducible apply Dev.setFlag_keep); exact rfl)
    | ((with_reducible apply Dev.setHlt_keep); exact rfl)
    | (with_reducible apply chg_when)
    | (with_reducible apply chg_ite)
    | (with_reducible apply chg_foldl)
    | (with_reducible apply chg_foldl_snd)
    | (with_reducible apply chg_ite_snd)
    | intro _ _ _
    | intro _
    | split
    | (dsimp -proj only)

theorem effectEchoRequest_chg : ∀ a0 a1 a2 a3 a4 d, Dev.changesOnly [.regs, .out, .fab] d (effectEchoRequest a0 a1 a2 a3 a4 d) := by
  intro a0 a1 a2 a3 a4 d
  unfold effectEchoRequest
  repeat' first
    | (with_reducible assumption)
    | (with_reducible exact chg_refl _ _)
    | ((with_reducible apply Dev.emit_keep); exact rfl)
    | ((with_reducible apply Dev.inc_keep); exact rfl)
    | ((with_reducible apply Dev.setPort_keep); exact rfl)
    | (with_reducible apply chg_when)
    | (with_reducible apply chg_ite)
    | (with_reducible apply chg_foldl)
    | (with_reducible apply chg_foldl_snd)
    | (with_reducible apply chg_ite_snd)
    | intro _ _ _
    | intro _
    | split
    | (dsimp -proj only)

theorem effectEoi_chg : ∀ a0 a1 d, Dev.changesOnly [.regs, .evt] d (effectEoi a0 a1 d) := by
  intro a0 a1 d
  unfold effectEoi
  repeat' first
    | (with_reducible assumption)
    | (with_reducible exact chg_refl _ _)
    | ((with_reducible apply Dev.endService_keep); exact rfl)
    | (with_reducible apply chg_when)
    | (with_reducible apply chg_ite)
    | (with_reducible apply chg_foldl)
    | (with_reducible apply chg_foldl_snd)
    | (with_reducible apply chg_ite_snd)
    | intro _ _ _
    | intro _
    | split
    | (dsimp -proj only)

theorem effectEvict_chg : ∀ a0 a1 d, Dev.changesOnly [.regs, .t0, .t1, .log, .logSeq, .six, .evt, .kqp, .out, .tir, .mkt] d (effectEvict a0 a1 d) := by
  intro a0 a1 d
  unfold effectEvict
  repeat' first
    | (with_reducible assumption)
    | (with_reducible exact chg_refl _ _)
    | ((with_reducible apply Dev.evictUnit_keep); exact rfl)
    | ((with_reducible apply Dev.failPart_keep); exact rfl)
    | ((with_reducible apply Dev.runTier_keep); exact rfl)
    | ((with_reducible apply Dev.serveWaits_keep); exact rfl)
    | ((with_reducible apply Dev.tierDone_keep); exact rfl)
    | (with_reducible apply chg_ite)
    | (with_reducible apply chg_foldl)
    | (with_reducible apply chg_foldl_snd)
    | (with_reducible apply chg_ite_snd)
    | intro _ _ _
    | intro _
    | split
    | (dsimp -proj only)

theorem effectFence_chg : ∀ a0 a1 d, Dev.changesOnly [.regs, .log, .logSeq, .msixPend, .six, .evt, .kqp, .out, .tir, .ldg, .col, .ccr] d (effectFence a0 a1 d) := by
  intro a0 a1 d
  unfold effectFence
  repeat' first
    | (with_reducible assumption)
    | (with_reducible exact chg_refl _ _)
    | ((with_reducible apply Dev.endControl_keep); exact rfl)
    | (with_reducible apply chg_ite)
    | (with_reducible apply chg_foldl)
    | (with_reducible apply chg_foldl_snd)
    | (with_reducible apply chg_ite_snd)
    | intro _ _ _
    | intro _
    | split
    | (dsimp -proj only)

theorem effectFft_chg : ∀ a0 a1 a2 d, Dev.changesOnly [.regs, .t0, .log, .logSeq, .evt, .kqp, .tir] d (effectFft a0 a1 a2 d) := by
  intro a0 a1 a2 d
  unfold effectFft
  repeat' first
    | (with_reducible assumption)
    | (with_reducible exact chg_refl _ _)
    | ((with_reducible apply Dev.runFft_keep); exact rfl)
    | (with_reducible apply chg_ite)
    | (with_reducible apply chg_foldl)
    | (with_reducible apply chg_foldl_snd)
    | (with_reducible apply chg_ite_snd)
    | intro _ _ _
    | intro _
    | split
    | (dsimp -proj only)

theorem effectFlush_chg : ∀ a0 a1 d, Dev.changesOnly [.regs, .kqp] d (effectFlush a0 a1 d) := by
  intro a0 a1 d
  unfold effectFlush
  repeat' first
    | (with_reducible assumption)
    | (with_reducible exact chg_refl _ _)
    | ((with_reducible apply Dev.setQueue_keep); exact rfl)
    | ((with_reducible apply Dev.unstop_keep); exact rfl)
    | (with_reducible apply chg_when)
    | ((with_reducible apply Dev.wr_keep); exact rfl)
    | (with_reducible apply chg_ite)
    | (with_reducible apply chg_foldl)
    | (with_reducible apply chg_foldl_snd)
    | (with_reducible apply chg_ite_snd)
    | intro _ _ _
    | intro _
    | split
    | (dsimp -proj only)

theorem effectForget_chg : ∀ d, Dev.changesOnly [.regs, .t0, .t1, .log, .logSeq, .six, .evt, .kqp, .out, .tir, .mkt, .ldg, .wset, .acr, .col, .fab, .tbn] d (effectForget d) := by
  intro d
  unfold effectForget
  repeat' first
    | (with_reducible assumption)
    | (with_reducible exact chg_refl _ _)
    | ((with_reducible apply Dev.keeperChange_keep); exact rfl)
    | (with_reducible apply chg_when)
    | (with_reducible apply chg_ite)
    | (with_reducible apply chg_foldl)
    | (with_reducible apply chg_foldl_snd)
    | (with_reducible apply chg_ite_snd)
    | intro _ _ _
    | intro _
    | split
    | (dsimp -proj only)

theorem effectFrameRefused_chg : ∀ a0 a1 d, Dev.changesOnly [.regs] d (effectFrameRefused a0 a1 d) := by
  intro a0 a1 d
  unfold effectFrameRefused
  repeat' first
    | (with_reducible assumption)
    | (with_reducible exact chg_refl _ _)
    | ((with_reducible apply Dev.incSat_keep); exact rfl)
    | (with_reducible apply chg_when)
    | (with_reducible apply chg_ite)
    | (with_reducible apply chg_foldl)
    | (with_reducible apply chg_foldl_snd)
    | (with_reducible apply chg_ite_snd)
    | intro _ _ _
    | intro _
    | split
    | (dsimp -proj only)

theorem effectFrameTransmit_chg : ∀ a0 a1 d, Dev.changesOnly [.regs, .log, .logSeq, .evt, .out, .fab, .tbn, .tim] d (effectFrameTransmit a0 a1 d) := by
  intro a0 a1 d
  unfold effectFrameTransmit
  repeat' first
    | (with_reducible assumption)
    | (with_reducible exact chg_refl _ _)
    | ((with_reducible apply Dev.emit_keep); exact rfl)
    | ((with_reducible apply Dev.inc_keep); exact rfl)
    | ((with_reducible apply Dev.ptpSent_keep); exact rfl)
    | ((with_reducible apply Dev.pumpAll_keep); exact rfl)
    | ((with_reducible apply Dev.setPort_keep); exact rfl)
    | (with_reducible apply chg_when)
    | (with_reducible apply chg_ite)
    | (with_reducible apply chg_foldl)
    | (with_reducible apply chg_foldl_snd)
    | (with_reducible apply chg_ite_snd)
    | intro _ _ _
    | intro _
    | split
    | (dsimp -proj only)

theorem effectFullSelfTestEnd_chg : ∀ a0 a1 a2 d, Dev.changesOnly [.regs, .log, .logSeq, .spr, .evt, .sec] d (effectFullSelfTestEnd a0 a1 a2 d) := by
  intro a0 a1 a2 d
  unfold effectFullSelfTestEnd
  repeat' first
    | (with_reducible assumption)
    | (with_reducible exact chg_refl _ _)
    | ((with_reducible apply Dev.endReset_keep); exact rfl)
    | ((with_reducible apply Dev.joinReserve_keep); exact rfl)
    | ((with_reducible apply Dev.retireUnit_keep); exact rfl)
    | ((with_reducible apply Dev.setPhys_keep); exact rfl)
    | (with_reducible apply chg_when)
    | (with_reducible apply chg_ite)
    | (with_reducible apply chg_foldl)
    | (with_reducible apply chg_foldl_snd)
    | (with_reducible apply chg_ite_snd)
    | intro _ _ _
    | intro _
    | split
    | (dsimp -proj only)

theorem effectFwActivate_chg : ∀ d, Dev.changesOnly [.regs, .log, .logSeq, .evt] d (effectFwActivate d) := by
  intro d
  unfold effectFwActivate
  repeat' first
    | (with_reducible assumption)
    | (with_reducible exact chg_refl _ _)
    | ((with_reducible apply Dev.fwOp_keep); exact rfl)
    | ((with_reducible apply Dev.wr_keep); exact rfl)
    | (with_reducible apply chg_ite)
    | (with_reducible apply chg_foldl)
    | (with_reducible apply chg_foldl_snd)
    | (with_reducible apply chg_ite_snd)
    | intro _ _ _
    | intro _
    | split
    | (dsimp -proj only)

theorem effectFwCommit_chg : ∀ d, Dev.changesOnly [.regs, .log, .logSeq, .evt, .sec] d (effectFwCommit d) := by
  intro d
  unfold effectFwCommit
  repeat' first
    | (with_reducible assumption)
    | (with_reducible exact chg_refl _ _)
    | ((with_reducible apply Dev.configCommit_keep); exact rfl)
    | ((with_reducible apply Dev.fwOp_keep); exact rfl)
    | (with_reducible apply chg_when)
    | (with_reducible apply chg_ite)
    | (with_reducible apply chg_foldl)
    | (with_reducible apply chg_foldl_snd)
    | (with_reducible apply chg_ite_snd)
    | intro _ _ _
    | intro _
    | split
    | (dsimp -proj only)

theorem effectFwWrite_chg : ∀ a0 d, Dev.changesOnly [.regs, .log, .logSeq, .evt, .sec] d (effectFwWrite a0 d) := by
  intro a0 d
  unfold effectFwWrite
  repeat' first
    | (with_reducible assumption)
    | (with_reducible exact chg_refl _ _)
    | ((with_reducible apply Dev.fwWrite_keep); exact rfl)
    | (with_reducible apply chg_ite)
    | (with_reducible apply chg_foldl)
    | (with_reducible apply chg_foldl_snd)
    | (with_reducible apply chg_ite_snd)
    | intro _ _ _
    | intro _
    | split
    | (dsimp -proj only)

theorem effectFwWriteComplete_chg : ∀ a0 d, Dev.changesOnly [.regs, .log, .logSeq, .evt, .sec] d (effectFwWriteComplete a0 d) := by
  intro a0 d
  unfold effectFwWriteComplete
  repeat' first
    | (with_reducible assumption)
    | (with_reducible exact chg_refl _ _)
    | ((with_reducible apply Dev.raise_keep); exact rfl)
    | ((with_reducible apply Dev.setFlag_keep); exact rfl)
    | ((with_reducible apply Dev.setSec_keep); exact rfl)
    | ((with_reducible apply Dev.wr_keep); exact rfl)
    | (with_reducible apply chg_ite)
    | (with_reducible apply chg_foldl)
    | (with_reducible apply chg_foldl_snd)
    | (with_reducible apply chg_ite_snd)
    | intro _ _ _
    | intro _
    | split
    | (dsimp -proj only)

theorem effectGather_chg : ∀ a0 a1 a2 d, Dev.changesOnly [.regs, .t0, .log, .logSeq, .evt, .kqp, .tir] d (effectGather a0 a1 a2 d) := by
  intro a0 a1 a2 d
  unfold effectGather
  repeat' first
    | (with_reducible assumption)
    | (with_reducible exact chg_refl _ _)
    | ((with_reducible apply Dev.runGather_keep); exact rfl)
    | (with_reducible apply chg_ite)
    | (with_reducible apply chg_foldl)
    | (with_reducible apply chg_foldl_snd)
    | (with_reducible apply chg_ite_snd)
    | intro _ _ _
    | intro _
    | split
    | (dsimp -proj only)

theorem effectGetCapabilities_chg : ∀ a0 a1 d, Dev.changesOnly [.out, .sec] d (effectGetCapabilities a0 a1 d) := by
  intro a0 a1 d
  unfold effectGetCapabilities
  repeat' first
    | (with_reducible assumption)
    | (with_reducible exact chg_refl _ _)
    | ((with_reducible apply Dev.spdmError_keep); exact rfl)
    | ((with_reducible apply Dev.spdmReply_keep); exact rfl)
    | (with_reducible apply chg_when)
    | (with_reducible apply chg_ite)
    | (with_reducible apply chg_foldl)
    | (with_reducible apply chg_foldl_snd)
    | (with_reducible apply chg_ite_snd)
    | intro _ _ _
    | intro _
    | split
    | (dsimp -proj only)

theorem effectGetCertificate_chg : ∀ a0 a1 d, Dev.changesOnly [.out, .sec] d (effectGetCertificate a0 a1 d) := by
  intro a0 a1 d
  unfold effectGetCertificate
  repeat' first
    | (with_reducible assumption)
    | (with_reducible exact chg_refl _ _)
    | ((with_reducible apply Dev.spdmError_keep); exact rfl)
    | ((with_reducible apply Dev.spdmReply_keep); exact rfl)
    | (with_reducible apply chg_when)
    | (with_reducible apply chg_ite)
    | (with_reducible apply chg_foldl)
    | (with_reducible apply chg_foldl_snd)
    | (with_reducible apply chg_ite_snd)
    | intro _ _ _
    | intro _
    | split
    | (dsimp -proj only)

theorem effectGetDigests_chg : ∀ a0 a1 d, Dev.changesOnly [.out, .sec] d (effectGetDigests a0 a1 d) := by
  intro a0 a1 d
  unfold effectGetDigests
  repeat' first
    | (with_reducible assumption)
    | (with_reducible exact chg_refl _ _)
    | ((with_reducible apply Dev.spdmError_keep); exact rfl)
    | ((with_reducible apply Dev.spdmReply_keep); exact rfl)
    | (with_reducible apply chg_when)
    | (with_reducible apply chg_ite)
    | (with_reducible apply chg_foldl)
    | (with_reducible apply chg_foldl_snd)
    | (with_reducible apply chg_ite_snd)
    | intro _ _ _
    | intro _
    | split
    | (dsimp -proj only)

theorem effectGetMeasurements_chg : ∀ a0 a1 d, Dev.changesOnly [.free, .out, .sec] d (effectGetMeasurements a0 a1 d) := by
  intro a0 a1 d
  unfold effectGetMeasurements
  repeat' first
    | (with_reducible assumption)
    | (with_reducible exact chg_refl _ _)
    | ((with_reducible apply Dev.spdmError_keep); exact rfl)
    | ((with_reducible apply Dev.spdmNonce_keep); exact rfl)
    | (refine Dev.spdmNonce_keep_eq (by with_reducible assumption) rfl ?_)
    | ((with_reducible apply Dev.spdmReply_keep); exact rfl)
    | (with_reducible apply chg_when)
    | (with_reducible apply chg_ite)
    | (with_reducible apply chg_foldl)
    | (with_reducible apply chg_foldl_snd)
    | (with_reducible apply chg_ite_snd)
    | intro _ _ _
    | intro _
    | split
    | (dsimp -proj only)

theorem effectGetVersion_chg : ∀ a0 a1 d, Dev.changesOnly [.out, .sec] d (effectGetVersion a0 a1 d) := by
  intro a0 a1 d
  unfold effectGetVersion
  repeat' first
    | (with_reducible assumption)
    | (with_reducible exact chg_refl _ _)
    | ((with_reducible apply Dev.spdmReply_keep); exact rfl)
    | (with_reducible apply chg_when)
    | (with_reducible apply chg_ite)
    | (with_reducible apply chg_foldl)
    | (with_reducible apply chg_foldl_snd)
    | (with_reducible apply chg_ite_snd)
    | intro _ _ _
    | intro _
    | split
    | (dsimp -proj only)

theorem effectGovernorAdjust_chg : ∀ a0 d, Dev.changesOnly [.regs, .log, .logSeq, .evt] d (effectGovernorAdjust a0 d) := by
  intro a0 d
  unfold effectGovernorAdjust
  repeat' first
    | (with_reducible assumption)
    | (with_reducible exact chg_refl _ _)
    | ((with_reducible apply Dev.showLimited_keep); exact rfl)
    | ((with_reducible apply Dev.wr_keep); exact rfl)
    | (with_reducible apply chg_ite)
    | (with_reducible apply chg_foldl)
    | (with_reducible apply chg_foldl_snd)
    | (with_reducible apply chg_ite_snd)
    | intro _ _ _
    | intro _
    | split
    | (dsimp -proj only)

theorem effectGracefulLeave_chg : ∀ d, Dev.changesOnly [.col] d (effectGracefulLeave d) := by
  intro d
  unfold effectGracefulLeave
  repeat' first
    | (with_reducible assumption)
    | (with_reducible exact chg_refl _ _)
    | ((with_reducible apply Dev.setCol_keep); exact rfl)
    | (with_reducible apply chg_when)
    | (with_reducible apply chg_ite)
    | (with_reducible apply chg_foldl)
    | (with_reducible apply chg_foldl_snd)
    | (with_reducible apply chg_ite_snd)
    | intro _ _ _
    | intro _
    | split
    | (dsimp -proj only)

theorem effectGroupCfg_chg : ∀ a0 a1 d, Dev.changesOnly [.kqp, .acr] d (effectGroupCfg a0 a1 d) := by
  intro a0 a1 d
  unfold effectGroupCfg
  repeat' first
    | (with_reducible assumption)
    | (with_reducible exact chg_refl _ _)
    | ((with_reducible apply Dev.partRan_keep); exact rfl)
    | ((with_reducible apply Dev.setAcr_keep); exact rfl)
    | (with_reducible apply chg_when)
    | (with_reducible apply chg_ite)
    | (with_reducible apply chg_foldl)
    | (with_reducible apply chg_foldl_snd)
    | (with_reducible apply chg_ite_snd)
    | intro _ _ _
    | intro _
    | split
    | (dsimp -proj only)

theorem effectHbReceive_chg : ∀ a0 d, Dev.changesOnly [.regs, .t0, .t1, .log, .logSeq, .six, .evt, .kqp, .out, .tir, .mkt, .ldg, .wset, .acr, .col, .fab, .tbn] d (effectHbReceive a0 d) := by
  intro a0 d
  unfold effectHbReceive
  repeat' first
    | (with_reducible assumption)
    | (with_reducible exact chg_refl _ _)
    | ((with_reducible apply Dev.takeHb_keep); exact rfl)
    | (with_reducible apply chg_ite)
    | (with_reducible apply chg_foldl)
    | (with_reducible apply chg_foldl_snd)
    | (with_reducible apply chg_ite_snd)
    | intro _ _ _
    | intro _
    | split
    | (dsimp -proj only)

theorem effectHbSend_chg : ∀ d, Dev.changesOnly [.regs, .log, .logSeq, .six, .evt, .out, .col, .fab, .tbn] d (effectHbSend d) := by
  intro d
  unfold effectHbSend
  repeat' first
    | (with_reducible assumption)
    | (with_reducible exact chg_refl _ _)
    | ((with_reducible apply Dev.sendCtrl_keep); exact rfl)
    | ((with_reducible apply Dev.sendLive_keep); exact rfl)
    | ((with_reducible apply Dev.setCol_keep); exact rfl)
    | (with_reducible apply chg_when)
    | (with_reducible apply chg_ite)
    | (with_reducible apply chg_foldl)
    | (with_reducible apply chg_foldl_snd)
    | (with_reducible apply chg_ite_snd)
    | intro _ _ _
    | intro _
    | split
    | (dsimp -proj only)

theorem effectHbmScrub_chg : ∀ a0 a1 d, Dev.changesOnly [.regs, .t0, .t1, .log, .logSeq, .six, .evt, .kqp, .out, .tir, .mkt, .ldg] d (effectHbmScrub a0 a1 d) := by
  intro a0 a1 d
  unfold effectHbmScrub
  repeat' first
    | (with_reducible assumption)
    | (with_reducible exact chg_refl _ _)
    | ((with_reducible apply Dev.hbmError_keep); exact rfl)
    | ((with_reducible apply Dev.inc_keep); exact rfl)
    | ((with_reducible apply Dev.loseT1_keep); exact rfl)
    | (refine Dev.loseT1_keep_eq (by with_reducible assumption) rfl ?_)
    | ((with_reducible apply Dev.setTir_keep); exact rfl)
    | (with_reducible apply chg_when)
    | (with_reducible apply chg_ite)
    | (with_reducible apply chg_foldl)
    | (with_reducible apply chg_foldl_snd)
    | (with_reducible apply chg_ite_snd)
    | intro _ _ _
    | intro _
    | split
    | (dsimp -proj only)

theorem effectHelloAckReceive_chg : ∀ a0 a1 a2 d, Dev.changesOnly [.regs, .log, .logSeq, .evt, .fab, .tbn] d (effectHelloAckReceive a0 a1 a2 d) := by
  intro a0 a1 a2 d
  unfold effectHelloAckReceive
  repeat' first
    | (with_reducible assumption)
    | (with_reducible exact chg_refl _ _)
    | ((with_reducible apply Dev.openWith_keep); exact rfl)
    | ((with_reducible apply Dev.raise_keep); exact rfl)
    | ((with_reducible apply Dev.rxBad_keep); exact rfl)
    | (with_reducible apply chg_ite)
    | (with_reducible apply chg_foldl)
    | (with_reducible apply chg_foldl_snd)
    | (with_reducible apply chg_ite_snd)
    | intro _ _ _
    | intro _
    | split
    | (dsimp -proj only)

theorem effectHelloReceive_chg : ∀ a0 a1 d, Dev.changesOnly [.regs, .log, .logSeq, .evt, .fab, .tbn] d (effectHelloReceive a0 a1 d) := by
  intro a0 a1 d
  unfold effectHelloReceive
  repeat' first
    | (with_reducible assumption)
    | (with_reducible exact chg_refl _ _)
    | (refine Dev.connRoom_keep (by with_reducible assumption) rfl ?_)
    | ((with_reducible apply Dev.newConn_keep); exact rfl)
    | (refine Dev.newConn_keep_eq (by with_reducible assumption) rfl ?_)
    | ((with_reducible apply Dev.openWith_keep); exact rfl)
    | ((with_reducible apply Dev.raise_keep); exact rfl)
    | ((with_reducible apply Dev.sendByPort_keep); exact rfl)
    | ((with_reducible apply Dev.setPeer_keep); exact rfl)
    | (with_reducible apply chg_ite)
    | (with_reducible apply chg_foldl)
    | (with_reducible apply chg_foldl_snd)
    | (with_reducible apply chg_ite_snd)
    | intro _ _ _
    | intro _
    | split
    | (dsimp -proj only)

theorem effectHelloResend_chg : ∀ a0 d, Dev.changesOnly [.regs, .fab, .tbn] d (effectHelloResend a0 d) := by
  intro a0 d
  unfold effectHelloResend
  repeat' first
    | (with_reducible assumption)
    | (with_reducible exact chg_refl _ _)
    | ((with_reducible apply Dev.sendHello_keep); exact rfl)
    | (with_reducible apply chg_when)
    | (with_reducible apply chg_ite)
    | (with_reducible apply chg_foldl)
    | (with_reducible apply chg_foldl_snd)
    | (with_reducible apply chg_ite_snd)
    | intro _ _ _
    | intro _
    | split
    | (dsimp -proj only)

theorem effectHltAssistDoorbell_chg : ∀ a0 a1 d, Dev.changesOnly [.regs, .log, .logSeq, .six, .evt, .out, .hlt] d (effectHltAssistDoorbell a0 a1 d) := by
  intro a0 a1 d
  unfold effectHltAssistDoorbell
  repeat' first
    | (with_reducible assumption)
    | (with_reducible exact chg_refl _ _)
    | ((with_reducible apply Dev.badDoorbell_keep); exact rfl)
    | ((with_reducible apply Dev.dumpEnd_keep); exact rfl)
    | ((with_reducible apply Dev.setFlag_keep); exact rfl)
    | ((with_reducible apply Dev.sixRelease_keep); exact rfl)
    | (with_reducible apply chg_ite)
    | (with_reducible apply chg_foldl)
    | (with_reducible apply chg_foldl_snd)
    | (with_reducible apply chg_ite_snd)
    | intro _ _ _
    | intro _
    | split
    | (dsimp -proj only)

theorem effectHoldReceive_chg : ∀ a0 d, Dev.changesOnly [.regs, .ldg] d (effectHoldReceive a0 d) := by
  intro a0 d
  unfold effectHoldReceive
  repeat' first
    | (with_reducible assumption)
    | (with_reducible exact chg_refl _ _)
    | ((with_reducible apply Dev.takeHold_keep); exact rfl)
    | (with_reducible apply chg_ite)
    | (with_reducible apply chg_foldl)
    | (with_reducible apply chg_foldl_snd)
    | (with_reducible apply chg_ite_snd)
    | intro _ _ _
    | intro _
    | split
    | (dsimp -proj only)

theorem effectHoldSend_chg : ∀ a0 d, Dev.changesOnly [.regs, .log, .logSeq, .six, .evt, .out, .ldg, .fab, .tbn] d (effectHoldSend a0 d) := by
  intro a0 d
  unfold effectHoldSend
  repeat' first
    | (with_reducible assumption)
    | (with_reducible exact chg_refl _ _)
    | ((with_reducible apply Dev.sendLdg_keep); exact rfl)
    | ((with_reducible apply Dev.setJob_keep); exact rfl)
    | (with_reducible apply chg_when)
    | (with_reducible apply chg_ite)
    | (with_reducible apply chg_foldl)
    | (with_reducible apply chg_foldl_snd)
    | (with_reducible apply chg_ite_snd)
    | intro _ _ _
    | intro _
    | split
    | (dsimp -proj only)

theorem effectHostLinkLost_chg : ∀ a0 d, Dev.changesOnly [.regs, .log, .logSeq, .six, .evt, .out, .ldg, .fab, .tbn] d (effectHostLinkLost a0 d) := by
  intro a0 d
  unfold effectHostLinkLost
  repeat' first
    | (with_reducible assumption)
    | (with_reducible exact chg_refl _ _)
    | ((with_reducible apply Dev.hostLost_keep); exact rfl)
    | ((with_reducible apply Dev.linkGone_keep); exact rfl)
    | ((with_reducible apply Dev.raise_keep); exact rfl)
    | (with_reducible apply chg_when)
    | (with_reducible apply chg_ite)
    | (with_reducible apply chg_foldl)
    | (with_reducible apply chg_foldl_snd)
    | (with_reducible apply chg_ite_snd)
    | intro _ _ _
    | intro _
    | split
    | (dsimp -proj only)

theorem effectHostMessage_chg : ∀ a0 d, Dev.changesOnly [.regs, .msixPend, .evt, .out] d (effectHostMessage a0 d) := by
  intro a0 d
  unfold effectHostMessage
  repeat' first
    | (with_reducible assumption)
    | (with_reducible exact chg_refl _ _)
    | ((with_reducible apply Dev.sendMsix_keep); exact rfl)
    | ((with_reducible apply Dev.serveSource_keep); exact rfl)
    | (with_reducible apply chg_when)
    | (with_reducible apply chg_ite)
    | (with_reducible apply chg_foldl)
    | (with_reducible apply chg_foldl_snd)
    | (with_reducible apply chg_ite_snd)
    | intro _ _ _
    | intro _
    | split
    | (dsimp -proj only)

theorem effectHotReset_chg : ∀ a0 d, Dev.changesOnly [.regs, .log, .logSeq, .msix, .msixPend, .six, .evt, .kqp, .out, .ldg, .fab, .tbn, .hif] d (effectHotReset a0 d) := by
  intro a0 d
  unfold effectHotReset
  repeat' first
    | (with_reducible assumption)
    | (with_reducible exact chg_refl _ _)
    | ((with_reducible apply Dev.disableQueue_keep); exact rfl)
    | ((with_reducible apply Dev.hostLost_keep); exact rfl)
    | ((with_reducible apply Dev.linkGone_keep); exact rfl)
    | ((with_reducible apply Dev.resetConfig_keep); exact rfl)
    | (with_reducible apply chg_when)
    | (with_reducible apply chg_ite)
    | (with_reducible apply chg_foldl)
    | (with_reducible apply chg_foldl_snd)
    | (with_reducible apply chg_ite_snd)
    | intro _ _ _
    | intro _
    | split
    | (dsimp -proj only)

theorem effectIdleEntry_chg : ∀ d, Dev.changesOnly [.regs, .pwr] d (effectIdleEntry d) := by
  intro d
  unfold effectIdleEntry
  repeat' first
    | (with_reducible assumption)
    | (with_reducible exact chg_refl _ _)
    | ((with_reducible apply Dev.setPwr_keep); exact rfl)
    | (with_reducible apply chg_when)
    | ((with_reducible apply Dev.wr_keep); exact rfl)
    | (with_reducible apply chg_ite)
    | (with_reducible apply chg_foldl)
    | (with_reducible apply chg_foldl_snd)
    | (with_reducible apply chg_ite_snd)
    | intro _ _ _
    | intro _
    | split
    | (dsimp -proj only)

theorem effectInputLow_chg : ∀ d, Dev.changesOnly [.regs, .stampHold, .t0, .t1, .log, .logSeq, .msix, .msixPend, .spr, .six, .evt, .kqp, .tir, .mkt, .ldg, .hlt, .wset, .acr, .col, .fab, .tbn, .sec, .tim, .pwr, .hif, .ccr] d (effectInputLow d) := by
  intro d
  unfold effectInputLow
  repeat' first
    | (with_reducible assumption)
    | (with_reducible exact chg_refl _ _)
    | ((with_reducible apply Dev.powerOff_keep); exact rfl)
    | (with_reducible apply chg_when)
    | (with_reducible apply chg_ite)
    | (with_reducible apply chg_foldl)
    | (with_reducible apply chg_foldl_snd)
    | (with_reducible apply chg_ite_snd)
    | intro _ _ _
    | intro _
    | split
    | (dsimp -proj only)

end Sys2Proof.Machine
end

