-- ==== Sys2Proof/Laws/FrameOps6.lean ====
section
/-! SUPPORT. Frames of the shared operations, part 6 of 6, callees before callers: `<op>_chg` names every table the operation may change, and
`<op>_keep` carries a frame through it (`_keep_eq` where it answers a value beside the device); a caller cites them and does not unfold. -/

namespace Sys2Proof.Machine

theorem effectJoinReceive_chg : ∀ a0 d, Dev.changesOnly [.regs, .t0, .t1, .log, .logSeq, .six, .evt, .kqp, .free, .out, .tir, .mkt, .ldg, .wset, .acr, .col, .fab, .tbn] d (effectJoinReceive a0 d) := by
  intro a0 d
  unfold effectJoinReceive
  repeat' first
    | (with_reducible assumption)
    | (with_reducible exact chg_refl _ _)
    | ((with_reducible apply Dev.takeJoin_keep); exact rfl)
    | (with_reducible apply chg_ite)
    | (with_reducible apply chg_foldl)
    | (with_reducible apply chg_foldl_snd)
    | (with_reducible apply chg_ite_snd)
    | intro _ _ _
    | intro _
    | split
    | (dsimp -proj only)

theorem effectJoinSend_chg : ∀ d, Dev.changesOnly [.out, .col] d (effectJoinSend d) := by
  intro d
  unfold effectJoinSend
  repeat' first
    | (with_reducible assumption)
    | (with_reducible exact chg_refl _ _)
    | ((with_reducible apply Dev.emit_keep); exact rfl)
    | ((with_reducible apply Dev.setCol_keep); exact rfl)
    | (with_reducible apply chg_when)
    | (with_reducible apply chg_ite)
    | (with_reducible apply chg_foldl)
    | (with_reducible apply chg_foldl_snd)
    | (with_reducible apply chg_ite_snd)
    | intro _ _ _
    | intro _
    | split
    | (dsimp -proj only)

theorem effectKeeperLoss_chg : ∀ d, Dev.changesOnly [.regs, .t0, .t1, .log, .logSeq, .six, .evt, .kqp, .out, .tir, .mkt, .ldg, .wset, .acr, .col, .fab, .tbn] d (effectKeeperLoss d) := by
  intro d
  unfold effectKeeperLoss
  repeat' first
    | (with_reducible assumption)
    | (with_reducible exact chg_refl _ _)
    | ((with_reducible apply Dev.applyEntry_keep); exact rfl)
    | ((with_reducible apply Dev.rosterChanged_keep); exact rfl)
    | ((with_reducible apply Dev.sendCtrl_keep); exact rfl)
    | ((with_reducible apply Dev.setCol_keep); exact rfl)
    | (with_reducible apply chg_when)
    | (with_reducible apply chg_ite)
    | (with_reducible apply chg_foldl)
    | (with_reducible apply chg_foldl_snd)
    | (with_reducible apply chg_ite_snd)
    | intro _ _ _
    | intro _
    | split
    | (dsimp -proj only)

theorem effectKeeperReceive_chg : ∀ a0 d, Dev.changesOnly [.regs, .t0, .t1, .log, .logSeq, .six, .evt, .kqp, .out, .tir, .mkt, .ldg, .wset, .acr, .col, .fab, .tbn] d (effectKeeperReceive a0 d) := by
  intro a0 d
  unfold effectKeeperReceive
  repeat' first
    | (with_reducible assumption)
    | (with_reducible exact chg_refl _ _)
    | ((with_reducible apply Dev.takeKeeper_keep); exact rfl)
    | (with_reducible apply chg_ite)
    | (with_reducible apply chg_foldl)
    | (with_reducible apply chg_foldl_snd)
    | (with_reducible apply chg_ite_snd)
    | intro _ _ _
    | intro _
    | split
    | (dsimp -proj only)

theorem effectLaneFail_chg : ∀ a0 a1 d, Dev.changesOnly [.regs, .log, .logSeq, .spr, .six, .evt, .out, .fab, .tbn, .sec] d (effectLaneFail a0 a1 d) := by
  intro a0 a1 d
  unfold effectLaneFail
  repeat' first
    | (with_reducible assumption)
    | (with_reducible exact chg_refl _ _)
    | ((with_reducible apply Dev.countLane_keep); exact rfl)
    | ((with_reducible apply Dev.dropLink_keep); exact rfl)
    | ((with_reducible apply Dev.portHealth_keep); exact rfl)
    | ((with_reducible apply Dev.raise_keep); exact rfl)
    | ((with_reducible apply Dev.setPort_keep); exact rfl)
    | ((with_reducible apply Dev.sprOpen_keep); exact rfl)
    | ((with_reducible apply Dev.startPort_keep); exact rfl)
    | (with_reducible apply chg_when)
    | ((with_reducible apply Dev.wr_keep); exact rfl)
    | (with_reducible apply chg_ite)
    | (with_reducible apply chg_foldl)
    | (with_reducible apply chg_foldl_snd)
    | (with_reducible apply chg_ite_snd)
    | intro _ _ _
    | intro _
    | split
    | (dsimp -proj only)

theorem effectLayerDrain_chg : ∀ a0 a1 d, Dev.changesOnly [.regs, .msixPend, .six, .kqp, .out, .col] d (effectLayerDrain a0 a1 d) := by
  intro a0 a1 d
  unfold effectLayerDrain
  repeat' first
    | (with_reducible assumption)
    | (with_reducible exact chg_refl _ _)
    | ((with_reducible apply Dev.qSettle_keep); exact rfl)
    | ((with_reducible apply Dev.setCol_keep); exact rfl)
    | ((with_reducible apply Dev.setQueue_keep); exact rfl)
    | (with_reducible apply chg_when)
    | ((with_reducible apply Dev.writeRecord_keep); exact rfl)
    | (with_reducible apply chg_ite)
    | (with_reducible apply chg_foldl)
    | (with_reducible apply chg_foldl_snd)
    | (with_reducible apply chg_ite_snd)
    | intro _ _ _
    | intro _
    | split
    | (dsimp -proj only)

theorem effectLayerRepeat_chg : ∀ a0 a1 d, Dev.changesOnly [.regs, .t0, .t1, .log, .logSeq, .evt, .kqp, .tir, .mkt, .ldg, .acr, .col] d (effectLayerRepeat a0 a1 d) := by
  intro a0 a1 d
  unfold effectLayerRepeat
  repeat' first
    | (with_reducible assumption)
    | (with_reducible exact chg_refl _ _)
    | ((with_reducible apply Dev.countRepeat_keep); exact rfl)
    | ((with_reducible apply Dev.qSettle_keep); exact rfl)
    | ((with_reducible apply Dev.raiseQueue_keep); exact rfl)
    | ((with_reducible apply Dev.refill_keep); exact rfl)
    | ((with_reducible apply Dev.repeatFails_keep); exact rfl)
    | ((with_reducible apply Dev.setJob_keep); exact rfl)
    | ((with_reducible apply Dev.showRepeat_keep); exact rfl)
    | ((with_reducible apply Dev.undoUpdate_keep); exact rfl)
    | ((with_reducible apply Dev.updRun_keep); exact rfl)
    | (with_reducible apply chg_when)
    | (refine Dev.widenAll_keep (by with_reducible assumption) rfl ?_)
    | (with_reducible apply chg_ite)
    | (with_reducible apply chg_foldl)
    | (with_reducible apply chg_foldl_snd)
    | (with_reducible apply chg_ite_snd)
    | intro _ _ _
    | intro _
    | split
    | (dsimp -proj only)

theorem effectLdgAssistDoorbell_chg : ∀ a0 a1 d, Dev.changesOnly [.regs, .t0, .t1, .log, .logSeq, .six, .evt, .kqp, .out, .tir, .mkt, .ldg, .acr, .col, .fab, .tbn] d (effectLdgAssistDoorbell a0 a1 d) := by
  intro a0 a1 d
  unfold effectLdgAssistDoorbell
  repeat' first
    | (with_reducible assumption)
    | (with_reducible exact chg_refl _ _)
    | ((with_reducible apply Dev.badDoorbell_keep); exact rfl)
    | ((with_reducible apply Dev.hostDecision_keep); exact rfl)
    | ((with_reducible apply Dev.imageDone_keep); exact rfl)
    | ((with_reducible apply Dev.setJob_keep); exact rfl)
    | ((with_reducible apply Dev.showLdgAssist_keep); exact rfl)
    | ((with_reducible apply Dev.sixRelease_keep); exact rfl)
    | (with_reducible apply chg_ite)
    | (with_reducible apply chg_foldl)
    | (with_reducible apply chg_foldl_snd)
    | (with_reducible apply chg_ite_snd)
    | intro _ _ _
    | intro _
    | split
    | (dsimp -proj only)

theorem effectLeaveReceive_chg : ∀ a0 d, Dev.changesOnly [.regs, .t0, .t1, .log, .logSeq, .six, .evt, .kqp, .out, .tir, .mkt, .ldg, .wset, .acr, .col, .fab, .tbn] d (effectLeaveReceive a0 d) := by
  intro a0 d
  unfold effectLeaveReceive
  repeat' first
    | (with_reducible assumption)
    | (with_reducible exact chg_refl _ _)
    | ((with_reducible apply Dev.takeLeave_keep); exact rfl)
    | (with_reducible apply chg_ite)
    | (with_reducible apply chg_foldl)
    | (with_reducible apply chg_foldl_snd)
    | (with_reducible apply chg_ite_snd)
    | intro _ _ _
    | intro _
    | split
    | (dsimp -proj only)

theorem effectLeaveSend_chg : ∀ d, Dev.changesOnly [.regs, .t0, .t1, .log, .logSeq, .six, .evt, .kqp, .out, .tir, .mkt, .ldg, .wset, .acr, .col, .fab, .tbn] d (effectLeaveSend d) := by
  intro d
  unfold effectLeaveSend
  repeat' first
    | (with_reducible assumption)
    | (with_reducible exact chg_refl _ _)
    | ((with_reducible apply Dev.keeperChange_keep); exact rfl)
    | ((with_reducible apply Dev.sendCtrl_keep); exact rfl)
    | (with_reducible apply chg_when)
    | (with_reducible apply chg_ite)
    | (with_reducible apply chg_foldl)
    | (with_reducible apply chg_foldl_snd)
    | (with_reducible apply chg_ite_snd)
    | intro _ _ _
    | intro _
    | split
    | (dsimp -proj only)

theorem effectLeavingRelease_chg : ∀ a0 a1 d, Dev.changesOnly [.regs, .t0, .t1, .log, .logSeq, .six, .evt, .kqp, .out, .tir, .mkt] d (effectLeavingRelease a0 a1 d) := by
  intro a0 a1 d
  unfold effectLeavingRelease
  repeat' first
    | (with_reducible assumption)
    | (with_reducible exact chg_refl _ _)
    | ((with_reducible apply Dev.releaseLeft_keep); exact rfl)
    | ((with_reducible apply Dev.serveWaits_keep); exact rfl)
    | (with_reducible apply chg_ite)
    | (with_reducible apply chg_foldl)
    | (with_reducible apply chg_foldl_snd)
    | (with_reducible apply chg_ite_snd)
    | intro _ _ _
    | intro _
    | split
    | (dsimp -proj only)

theorem effectLinkDown_chg : ∀ a0 d, Dev.changesOnly [.regs, .log, .logSeq, .evt, .fab, .tbn] d (effectLinkDown a0 d) := by
  intro a0 d
  unfold effectLinkDown
  repeat' first
    | (with_reducible assumption)
    | (with_reducible exact chg_refl _ _)
    | ((with_reducible apply Dev.startPort_keep); exact rfl)
    | (with_reducible apply chg_when)
    | (with_reducible apply chg_ite)
    | (with_reducible apply chg_foldl)
    | (with_reducible apply chg_foldl_snd)
    | (with_reducible apply chg_ite_snd)
    | intro _ _ _
    | intro _
    | split
    | (dsimp -proj only)

theorem effectLinkUp_chg : ∀ a0 a1 d, Dev.changesOnly [.regs, .log, .logSeq, .evt, .fab, .tbn] d (effectLinkUp a0 a1 d) := by
  intro a0 a1 d
  unfold effectLinkUp
  repeat' first
    | (with_reducible assumption)
    | (with_reducible exact chg_refl _ _)
    | ((with_reducible apply Dev.portHealth_keep); exact rfl)
    | ((with_reducible apply Dev.pumpAll_keep); exact rfl)
    | ((with_reducible apply Dev.raiseBits_keep); exact rfl)
    | ((with_reducible apply Dev.sendLldp_keep); exact rfl)
    | ((with_reducible apply Dev.setPort_keep); exact rfl)
    | ((with_reducible apply Dev.setPortSt_keep); exact rfl)
    | (with_reducible apply chg_when)
    | (with_reducible apply chg_ite)
    | (with_reducible apply chg_foldl)
    | (with_reducible apply chg_foldl_snd)
    | (with_reducible apply chg_ite_snd)
    | intro _ _ _
    | intro _
    | split
    | (dsimp -proj only)

theorem effectLldpNeighbourExpire_chg : ∀ a0 d, Dev.changesOnly [.regs, .log, .logSeq, .evt, .fab] d (effectLldpNeighbourExpire a0 d) := by
  intro a0 d
  unfold effectLldpNeighbourExpire
  repeat' first
    | (with_reducible assumption)
    | (with_reducible exact chg_refl _ _)
    | ((with_reducible apply Dev.raise_keep); exact rfl)
    | ((with_reducible apply Dev.setPort_keep); exact rfl)
    | ((with_reducible apply Dev.showNbr_keep); exact rfl)
    | (with_reducible apply chg_when)
    | (with_reducible apply chg_ite)
    | (with_reducible apply chg_foldl)
    | (with_reducible apply chg_foldl_snd)
    | (with_reducible apply chg_ite_snd)
    | intro _ _ _
    | intro _
    | split
    | (dsimp -proj only)

theorem effectLldpSend_chg : ∀ a0 d, Dev.changesOnly [.fab] d (effectLldpSend a0 d) := by
  intro a0 d
  unfold effectLldpSend
  repeat' first
    | (with_reducible assumption)
    | (with_reducible exact chg_refl _ _)
    | ((with_reducible apply Dev.sendLldp_keep); exact rfl)
    | (with_reducible apply chg_when)
    | (with_reducible apply chg_ite)
    | (with_reducible apply chg_foldl)
    | (with_reducible apply chg_foldl_snd)
    | (with_reducible apply chg_ite_snd)
    | intro _ _ _
    | intro _
    | split
    | (dsimp -proj only)

theorem effectLldpduReceive_chg : ∀ a0 a1 a2 a3 a4 a5 d, Dev.changesOnly [.regs, .log, .logSeq, .evt, .fab] d (effectLldpduReceive a0 a1 a2 a3 a4 a5 d) := by
  intro a0 a1 a2 a3 a4 a5 d
  unfold effectLldpduReceive
  repeat' first
    | (with_reducible assumption)
    | (with_reducible exact chg_refl _ _)
    | ((with_reducible apply Dev.inc_keep); exact rfl)
    | ((with_reducible apply Dev.raise_keep); exact rfl)
    | ((with_reducible apply Dev.setPort_keep); exact rfl)
    | ((with_reducible apply Dev.showNbr_keep); exact rfl)
    | (with_reducible apply chg_when)
    | (with_reducible apply chg_ite)
    | (with_reducible apply chg_foldl)
    | (with_reducible apply chg_foldl_snd)
    | (with_reducible apply chg_ite_snd)
    | intro _ _ _
    | intro _
    | split
    | (dsimp -proj only)

theorem effectLoadWpk_chg : ∀ a0 a1 a2 a3 d, Dev.changesOnly [.regs, .t0, .t1, .log, .logSeq, .six, .evt, .kqp, .out, .tir, .mkt, .wset, .fab, .tbn] d (effectLoadWpk a0 a1 a2 a3 d) := by
  intro a0 a1 a2 a3 d
  unfold effectLoadWpk
  repeat' first
    | (with_reducible assumption)
    | (with_reducible exact chg_refl _ _)
    | ((with_reducible apply Dev.chainAsk_keep); exact rfl)
    | ((with_reducible apply Dev.failPart_keep); exact rfl)
    | ((with_reducible apply Dev.loadPoison_keep); exact rfl)
    | ((with_reducible apply Dev.setSlotState_keep); exact rfl)
    | ((with_reducible apply Dev.setWset_keep); exact rfl)
    | ((with_reducible apply Dev.takeTables_keep); exact rfl)
    | (with_reducible apply chg_when)
    | (with_reducible apply chg_ite)
    | (with_reducible apply chg_foldl)
    | (with_reducible apply chg_foldl_snd)
    | (with_reducible apply chg_ite_snd)
    | intro _ _ _
    | intro _
    | split
    | (dsimp -proj only)

theorem effectLocalisationEnd_chg : ∀ a0 a1 a2 d, Dev.changesOnly [.regs, .log, .logSeq, .spr, .six, .evt, .out, .sec, .ccr] d (effectLocalisationEnd a0 a1 a2 d) := by
  intro a0 a1 a2 d
  unfold effectLocalisationEnd
  repeat' first
    | (with_reducible assumption)
    | (with_reducible exact chg_refl _ _)
    | ((with_reducible apply Dev.closeCore_keep); exact rfl)
    | ((with_reducible apply Dev.colFailed_keep); exact rfl)
    | ((with_reducible apply Dev.rowFailed_keep); exact rfl)
    | ((with_reducible apply Dev.setCcr_keep); exact rfl)
    | (with_reducible apply chg_when)
    | ((with_reducible apply Dev.wr_keep); exact rfl)
    | (with_reducible apply chg_ite)
    | (with_reducible apply chg_foldl)
    | (with_reducible apply chg_foldl_snd)
    | (with_reducible apply chg_ite_snd)
    | intro _ _ _
    | intro _
    | split
    | (dsimp -proj only)

theorem effectLockstep_chg : ∀ d, Dev.changesOnly [.regs, .log, .logSeq, .spr, .six, .evt, .out, .hlt, .fab, .tbn, .sec] d (effectLockstep d) := by
  intro d
  unfold effectLockstep
  repeat' first
    | (with_reducible assumption)
    | (with_reducible exact chg_refl _ _)
    | ((with_reducible apply Dev.closePair_keep); exact rfl)
    | ((with_reducible apply Dev.dumpTrigger_keep); exact rfl)
    | ((with_reducible apply Dev.evtTakeover_keep); exact rfl)
    | ((with_reducible apply Dev.outOfService_keep); exact rfl)
    | ((with_reducible apply Dev.raise_keep); exact rfl)
    | ((with_reducible apply Dev.takeIdentity_keep); exact rfl)
    | (with_reducible apply chg_ite)
    | (with_reducible apply chg_foldl)
    | (with_reducible apply chg_foldl_snd)
    | (with_reducible apply chg_ite_snd)
    | intro _ _ _
    | intro _
    | split
    | (dsimp -proj only)

theorem effectMarketRead_chg : ∀ a0 a1 a2 a3 a4 a5 a6 d, Dev.changesOnly [.regs, .t0, .log, .logSeq, .spr, .six, .evt, .kqp, .out, .tir, .mkt, .ldg, .sec] d (effectMarketRead a0 a1 a2 a3 a4 a5 a6 d) := by
  intro a0 a1 a2 a3 a4 a5 a6 d
  unfold effectMarketRead
  repeat' first
    | (with_reducible assumption)
    | (with_reducible exact chg_refl _ _)
    | ((with_reducible apply Dev.failPart_keep); exact rfl)
    | ((with_reducible apply Dev.lineError_keep); exact rfl)
    | ((with_reducible apply Dev.refuseLine_keep); exact rfl)
    | (with_reducible apply chg_ite)
    | (with_reducible apply chg_foldl)
    | (with_reducible apply chg_foldl_snd)
    | (with_reducible apply chg_ite_snd)
    | intro _ _ _
    | intro _
    | split
    | (dsimp -proj only)

theorem effectMarketWrite_chg : ∀ a0 a1 a2 a3 a4 a5 a6 a7 a8 d, Dev.changesOnly [.regs, .t0, .log, .logSeq, .spr, .six, .evt, .kqp, .out, .tir, .mkt, .ldg, .sec] d (effectMarketWrite a0 a1 a2 a3 a4 a5 a6 a7 a8 d) := by
  intro a0 a1 a2 a3 a4 a5 a6 a7 a8 d
  unfold effectMarketWrite
  repeat' first
    | (with_reducible assumption)
    | (with_reducible exact chg_refl _ _)
    | ((with_reducible apply Dev.dirtyLine_keep); exact rfl)
    | ((with_reducible apply Dev.lineError_keep); exact rfl)
    | ((with_reducible apply Dev.refuseLine_keep); exact rfl)
    | ((with_reducible apply Dev.setMkt_keep); exact rfl)
    | ((with_reducible apply Dev.setT0_keep); exact rfl)
    | (with_reducible apply chg_ite)
    | (with_reducible apply chg_foldl)
    | (with_reducible apply chg_foldl_snd)
    | (with_reducible apply chg_ite_snd)
    | intro _ _ _
    | intro _
    | split
    | (dsimp -proj only)

theorem effectMctpSetEndpointId_chg : ∀ a0 d, Dev.changesOnly [.pwr] d (effectMctpSetEndpointId a0 d) := by
  intro a0 d
  unfold effectMctpSetEndpointId
  repeat' first
    | (with_reducible assumption)
    | (with_reducible exact chg_refl _ _)
    | ((with_reducible apply Dev.setPwr_keep); exact rfl)
    | (with_reducible apply chg_when)
    | (with_reducible apply chg_ite)
    | (with_reducible apply chg_foldl)
    | (with_reducible apply chg_foldl_snd)
    | (with_reducible apply chg_ite_snd)
    | intro _ _ _
    | intro _
    | split
    | (dsimp -proj only)

theorem effectMemberRemove_chg : ∀ a0 d, Dev.changesOnly [.regs, .t0, .t1, .log, .logSeq, .six, .evt, .kqp, .out, .tir, .mkt, .ldg, .wset, .acr, .col, .fab, .tbn] d (effectMemberRemove a0 d) := by
  intro a0 d
  unfold effectMemberRemove
  repeat' first
    | (with_reducible assumption)
    | (with_reducible exact chg_refl _ _)
    | ((with_reducible apply Dev.wantRemoved_keep); exact rfl)
    | (with_reducible apply chg_when)
    | (with_reducible apply chg_ite)
    | (with_reducible apply chg_foldl)
    | (with_reducible apply chg_foldl_snd)
    | (with_reducible apply chg_ite_snd)
    | intro _ _ _
    | intro _
    | split
    | (dsimp -proj only)

theorem effectMemberSuspect_chg : ∀ a0 d, Dev.changesOnly [.regs, .t0, .t1, .log, .logSeq, .six, .evt, .kqp, .out, .tir, .mkt, .ldg, .wset, .acr, .col, .fab, .tbn] d (effectMemberSuspect a0 d) := by
  intro a0 d
  unfold effectMemberSuspect
  repeat' first
    | (with_reducible assumption)
    | (with_reducible exact chg_refl _ _)
    | ((with_reducible apply Dev.changeRec_keep); exact rfl)
    | (with_reducible apply chg_when)
    | (with_reducible apply chg_ite)
    | (with_reducible apply chg_foldl)
    | (with_reducible apply chg_foldl_snd)
    | (with_reducible apply chg_ite_snd)
    | intro _ _ _
    | intro _
    | split
    | (dsimp -proj only)

theorem effectMm_chg : ∀ a0 a1 a2 a3 d, Dev.changesOnly [.regs, .t0, .t1, .log, .logSeq, .msixPend, .spr, .six, .evt, .kqp, .out, .tir, .ldg, .col, .ccr] d (effectMm a0 a1 a2 a3 d) := by
  intro a0 a1 a2 a3 d
  unfold effectMm
  repeat' first
    | (with_reducible assumption)
    | (with_reducible exact chg_refl _ _)
    | ((with_reducible apply Dev.runMm_keep); exact rfl)
    | (with_reducible apply chg_ite)
    | (with_reducible apply chg_foldl)
    | (with_reducible apply chg_foldl_snd)
    | (with_reducible apply chg_ite_snd)
    | intro _ _ _
    | intro _
    | split
    | (dsimp -proj only)

theorem effectMmT_chg : ∀ a0 a1 a2 a3 d, Dev.changesOnly [.regs, .t0, .t1, .log, .logSeq, .msixPend, .spr, .six, .evt, .kqp, .out, .tir, .ldg, .col, .ccr] d (effectMmT a0 a1 a2 a3 d) := by
  intro a0 a1 a2 a3 d
  unfold effectMmT
  repeat' first
    | (with_reducible assumption)
    | (with_reducible exact chg_refl _ _)
    | ((with_reducible apply Dev.runMm_keep); exact rfl)
    | (with_reducible apply chg_ite)
    | (with_reducible apply chg_foldl)
    | (with_reducible apply chg_foldl_snd)
    | (with_reducible apply chg_ite_snd)
    | intro _ _ _
    | intro _
    | split
    | (dsimp -proj only)

theorem effectMove_chg : ∀ a0 a1 d, Dev.changesOnly [.regs, .log, .logSeq, .six, .evt, .kqp, .out, .tir, .mkt] d (effectMove a0 a1 d) := by
  intro a0 a1 d
  unfold effectMove
  repeat' first
    | (with_reducible assumption)
    | (with_reducible exact chg_refl _ _)
    | ((with_reducible apply Dev.dropAbove_keep); exact rfl)
    | ((with_reducible apply Dev.failPart_keep); exact rfl)
    | ((with_reducible apply Dev.protRefused_keep); exact rfl)
    | ((with_reducible apply Dev.runTier_keep); exact rfl)
    | ((with_reducible apply Dev.tierAskAll_keep); exact rfl)
    | (refine Dev.tierAskAll_keep_eq (by with_reducible assumption) rfl ?_)
    | ((with_reducible apply Dev.tierDone_keep); exact rfl)
    | (with_reducible apply chg_ite)
    | (with_reducible apply chg_foldl)
    | (with_reducible apply chg_foldl_snd)
    | (with_reducible apply chg_ite_snd)
    | intro _ _ _
    | intro _
    | split
    | (dsimp -proj only)

theorem effectNackReceive_chg : ∀ a0 a1 a2 a3 d, Dev.changesOnly [.regs, .log, .logSeq, .six, .evt, .kqp, .out, .ldg, .wset, .col, .fab, .tbn] d (effectNackReceive a0 a1 a2 a3 d) := by
  intro a0 a1 a2 a3 d
  unfold effectNackReceive
  repeat' first
    | (with_reducible assumption)
    | (with_reducible exact chg_refl _ _)
    | ((with_reducible apply Dev.failMsg_keep); exact rfl)
    | ((with_reducible apply Dev.losePkt_keep); exact rfl)
    | ((with_reducible apply Dev.onConn_keep); exact rfl)
    | ((with_reducible apply Dev.pump_keep); exact rfl)
    | ((with_reducible apply Dev.raise_keep); exact rfl)
    | ((with_reducible apply Dev.setConn_keep); exact rfl)
    | (with_reducible apply chg_ite)
    | (with_reducible apply chg_foldl)
    | (with_reducible apply chg_foldl_snd)
    | (with_reducible apply chg_ite_snd)
    | intro _ _ _
    | intro _
    | split
    | (dsimp -proj only)

theorem effectNackSend_chg : ∀ a0 d, Dev.changesOnly [.regs, .fab, .tbn] d (effectNackSend a0 d) := by
  intro a0 d
  unfold effectNackSend
  repeat' first
    | (with_reducible assumption)
    | (with_reducible exact chg_refl _ _)
    | ((with_reducible apply Dev.sendService_keep); exact rfl)
    | ((with_reducible apply Dev.setConn_keep); exact rfl)
    | (with_reducible apply chg_when)
    | (with_reducible apply chg_ite)
    | (with_reducible apply chg_foldl)
    | (with_reducible apply chg_foldl_snd)
    | (with_reducible apply chg_ite_snd)
    | intro _ _ _
    | intro _
    | split
    | (dsimp -proj only)

theorem effectNegotiateAlgorithms_chg : ∀ a0 a1 d, Dev.changesOnly [.out, .sec] d (effectNegotiateAlgorithms a0 a1 d) := by
  intro a0 a1 d
  unfold effectNegotiateAlgorithms
  repeat' first
    | (with_reducible assumption)
    | (with_reducible exact chg_refl _ _)
    | ((with_reducible apply Dev.spdmError_keep); exact rfl)
    | ((with_reducible apply Dev.spdmReply_keep); exact rfl)
    | (with_reducible apply chg_when)
    | (with_reducible apply chg_ite)
    | (with_reducible apply chg_foldl)
    | (with_reducible apply chg_foldl_snd)
    | (with_reducible apply chg_ite_snd)
    | intro _ _ _
    | intro _
    | split
    | (dsimp -proj only)

theorem effectNop_chg : ∀ a0 a1 d, Dev.changesOnly [.regs, .log, .logSeq, .msixPend, .six, .evt, .kqp, .out, .tir, .ldg, .col, .ccr] d (effectNop a0 a1 d) := by
  intro a0 a1 d
  unfold effectNop
  repeat' first
    | (with_reducible assumption)
    | (with_reducible exact chg_refl _ _)
    | ((with_reducible apply Dev.endControl_keep); exact rfl)
    | (with_reducible apply chg_ite)
    | (with_reducible apply chg_foldl)
    | (with_reducible apply chg_foldl_snd)
    | (with_reducible apply chg_ite_snd)
    | intro _ _ _
    | intro _
    | split
    | (dsimp -proj only)

theorem effectNorm_chg : ∀ a0 a1 a2 d, Dev.changesOnly [.regs, .t0, .log, .logSeq, .evt, .kqp, .tir] d (effectNorm a0 a1 a2 d) := by
  intro a0 a1 a2 d
  unfold effectNorm
  repeat' first
    | (with_reducible assumption)
    | (with_reducible exact chg_refl _ _)
    | ((with_reducible apply Dev.runNorm_keep); exact rfl)
    | (with_reducible apply chg_ite)
    | (with_reducible apply chg_foldl)
    | (with_reducible apply chg_foldl_snd)
    | (with_reducible apply chg_ite_snd)
    | intro _ _ _
    | intro _
    | split
    | (dsimp -proj only)

theorem effectNotReadyReceive_chg : ∀ a0 a1 a2 d, Dev.changesOnly [.regs, .tbn] d (effectNotReadyReceive a0 a1 a2 d) := by
  intro a0 a1 a2 d
  unfold effectNotReadyReceive
  repeat' first
    | (with_reducible assumption)
    | (with_reducible exact chg_refl _ _)
    | ((with_reducible apply Dev.onConn_keep); exact rfl)
    | ((with_reducible apply Dev.setConn_keep); exact rfl)
    | (with_reducible apply chg_ite)
    | (with_reducible apply chg_foldl)
    | (with_reducible apply chg_foldl_snd)
    | (with_reducible apply chg_ite_snd)
    | intro _ _ _
    | intro _
    | split
    | (dsimp -proj only)

theorem effectObjectReference_chg : ∀ a0 a1 a2 a3 a4 a5 a6 a7 d, Dev.changesOnly [.regs, .t0, .t1, .log, .logSeq, .six, .evt, .kqp, .out, .tir, .mkt, .ldg] d (effectObjectReference a0 a1 a2 a3 a4 a5 a6 a7 d) := by
  intro a0 a1 a2 a3 a4 a5 a6 a7 d
  unfold effectObjectReference
  repeat' first
    | (with_reducible assumption)
    | (with_reducible exact chg_refl _ _)
    | ((with_reducible apply Dev.bring0_keep); exact rfl)
    | (refine Dev.bring0_keep_eq (by with_reducible assumption) rfl ?_)
    | ((with_reducible apply Dev.failPart_keep); exact rfl)
    | ((with_reducible apply Dev.hbmError_keep); exact rfl)
    | ((with_reducible apply Dev.holdForLayer_keep); exact rfl)
    | ((with_reducible apply Dev.isolate_keep); exact rfl)
    | ((with_reducible apply Dev.lookAhead_keep); exact rfl)
    | ((with_reducible apply Dev.loseT1_keep); exact rfl)
    | (refine Dev.loseT1_keep_eq (by with_reducible assumption) rfl ?_)
    | ((with_reducible apply Dev.takeRef_keep); exact rfl)
    | ((with_reducible apply Dev.waitRef_keep); exact rfl)
    | (with_reducible apply chg_when)
    | (with_reducible apply chg_ite)
    | (with_reducible apply chg_foldl)
    | (with_reducible apply chg_foldl_snd)
    | (with_reducible apply chg_ite_snd)
    | intro _ _ _
    | intro _
    | split
    | (dsimp -proj only)

theorem effectOffsetAlarm_chg : ∀ d, Dev.changesOnly [.regs, .log, .logSeq, .evt, .tim] d (effectOffsetAlarm d) := by
  intro d
  unfold effectOffsetAlarm
  repeat' first
    | (with_reducible assumption)
    | (with_reducible exact chg_refl _ _)
    | ((with_reducible apply Dev.raiseBits_keep); exact rfl)
    | ((with_reducible apply Dev.setTim_keep); exact rfl)
    | (with_reducible apply chg_when)
    | ((with_reducible apply Dev.wr_keep); exact rfl)
    | (with_reducible apply chg_ite)
    | (with_reducible apply chg_foldl)
    | (with_reducible apply chg_foldl_snd)
    | (with_reducible apply chg_ite_snd)
    | intro _ _ _
    | intro _
    | split
    | (dsimp -proj only)

theorem effectPacketCrcFail_chg : ∀ a0 a1 a2 a3 a4 d, Dev.changesOnly [.regs, .log, .logSeq, .evt, .kqp, .col, .fab, .tbn] d (effectPacketCrcFail a0 a1 a2 a3 a4 d) := by
  intro a0 a1 a2 a3 a4 d
  unfold effectPacketCrcFail
  repeat' first
    | (with_reducible assumption)
    | (with_reducible exact chg_refl _ _)
    | ((with_reducible apply Dev.failColl_keep); exact rfl)
    | ((with_reducible apply Dev.incSat_keep); exact rfl)
    | ((with_reducible apply Dev.raise_keep); exact rfl)
    | ((with_reducible apply Dev.sendService_keep); exact rfl)
    | ((with_reducible apply Dev.setConn_keep); exact rfl)
    | (with_reducible apply chg_when)
    | (with_reducible apply chg_ite)
    | (with_reducible apply chg_foldl)
    | (with_reducible apply chg_foldl_snd)
    | (with_reducible apply chg_ite_snd)
    | intro _ _ _
    | intro _
    | split
    | (dsimp -proj only)

theorem effectParkLimitExpiry_chg : ∀ a0 d, Dev.changesOnly [.regs, .log, .logSeq, .evt, .kqp] d (effectParkLimitExpiry a0 d) := by
  intro a0 d
  unfold effectParkLimitExpiry
  repeat' first
    | (with_reducible assumption)
    | (with_reducible exact chg_refl _ _)
    | ((with_reducible apply Dev.disableQueue_keep); exact rfl)
    | ((with_reducible apply Dev.raiseLdg_keep); exact rfl)
    | ((with_reducible apply Dev.setJobSt_keep); exact rfl)
    | (with_reducible apply chg_when)
    | (with_reducible apply chg_ite)
    | (with_reducible apply chg_foldl)
    | (with_reducible apply chg_foldl_snd)
    | (with_reducible apply chg_ite_snd)
    | intro _ _ _
    | intro _
    | split
    | (dsimp -proj only)

theorem effectParkReceive_chg : ∀ a0 d, Dev.changesOnly [.regs, .log, .logSeq, .evt, .ldg] d (effectParkReceive a0 d) := by
  intro a0 d
  unfold effectParkReceive
  repeat' first
    | (with_reducible assumption)
    | (with_reducible exact chg_refl _ _)
    | ((with_reducible apply Dev.takePark_keep); exact rfl)
    | (with_reducible apply chg_ite)
    | (with_reducible apply chg_foldl)
    | (with_reducible apply chg_foldl_snd)
    | (with_reducible apply chg_ite_snd)
    | intro _ _ _
    | intro _
    | split
    | (dsimp -proj only)

theorem effectPartEnd_chg : ∀ a0 a1 a2 a3 d, Dev.changesOnly [.regs, .log, .logSeq, .msixPend, .spr, .six, .evt, .kqp, .out, .tir, .ldg, .col, .sec, .ccr] d (effectPartEnd a0 a1 a2 a3 d) := by
  intro a0 a1 a2 a3 d
  unfold effectPartEnd
  repeat' first
    | (with_reducible assumption)
    | (with_reducible exact chg_refl _ _)
    | ((with_reducible apply Dev.endPart_keep); exact rfl)
    | ((with_reducible apply Dev.faultPart_keep); exact rfl)
    | (with_reducible apply chg_ite)
    | (with_reducible apply chg_foldl)
    | (with_reducible apply chg_foldl_snd)
    | (with_reducible apply chg_ite_snd)
    | intro _ _ _
    | intro _
    | split
    | (dsimp -proj only)

theorem effectPartitionWrite_chg : ∀ a0 a1 a2 a3 d, Dev.changesOnly [.regs, .log, .logSeq, .evt] d (effectPartitionWrite a0 a1 a2 a3 d) := by
  intro a0 a1 a2 a3 d
  unfold effectPartitionWrite
  repeat' first
    | (with_reducible assumption)
    | (with_reducible exact chg_refl _ _)
    | ((with_reducible apply Dev.lockedWrite_keep); exact rfl)
    | ((with_reducible apply Dev.raise_keep); exact rfl)
    | (with_reducible apply chg_when)
    | ((with_reducible apply Dev.wr_keep); exact rfl)
    | (with_reducible apply chg_ite)
    | (with_reducible apply chg_foldl)
    | (with_reducible apply chg_foldl_snd)
    | (with_reducible apply chg_ite_snd)
    | intro _ _ _
    | intro _
    | split
    | (dsimp -proj only)

theorem effectPauseExpiry_chg : ∀ a0 a1 d, Dev.changesOnly [.regs, .fab] d (effectPauseExpiry a0 a1 d) := by
  intro a0 a1 d
  unfold effectPauseExpiry
  repeat' first
    | (with_reducible assumption)
    | (with_reducible exact chg_refl _ _)
    | ((with_reducible apply Dev.unpause_keep); exact rfl)
    | (with_reducible apply chg_when)
    | (with_reducible apply chg_ite)
    | (with_reducible apply chg_foldl)
    | (with_reducible apply chg_foldl_snd)
    | (with_reducible apply chg_ite_snd)
    | intro _ _ _
    | intro _
    | split
    | (dsimp -proj only)

theorem effectPauseHoldoffEnd_chg : ∀ a0 a1 d, Dev.changesOnly [.regs, .fab] d (effectPauseHoldoffEnd a0 a1 d) := by
  intro a0 a1 d
  unfold effectPauseHoldoffEnd
  repeat' first
    | (with_reducible assumption)
    | (with_reducible exact chg_refl _ _)
    | ((with_reducible apply Dev.setPort_keep); exact rfl)
    | ((with_reducible apply Dev.showPause_keep); exact rfl)
    | (with_reducible apply chg_when)
    | (with_reducible apply chg_ite)
    | (with_reducible apply chg_foldl)
    | (with_reducible apply chg_foldl_snd)
    | (with_reducible apply chg_ite_snd)
    | intro _ _ _
    | intro _
    | split
    | (dsimp -proj only)

theorem effectPauseWatchdog_chg : ∀ a0 a1 d, Dev.changesOnly [.regs, .log, .logSeq, .evt, .fab] d (effectPauseWatchdog a0 a1 d) := by
  intro a0 a1 d
  unfold effectPauseWatchdog
  repeat' first
    | (with_reducible assumption)
    | (with_reducible exact chg_refl _ _)
    | ((with_reducible apply Dev.incSat_keep); exact rfl)
    | ((with_reducible apply Dev.raise_keep); exact rfl)
    | ((with_reducible apply Dev.setPort_keep); exact rfl)
    | ((with_reducible apply Dev.showPause_keep); exact rfl)
    | ((with_reducible apply Dev.unpause_keep); exact rfl)
    | (with_reducible apply chg_when)
    | (with_reducible apply chg_ite)
    | (with_reducible apply chg_foldl)
    | (with_reducible apply chg_foldl_snd)
    | (with_reducible apply chg_ite_snd)
    | intro _ _ _
    | intro _
    | split
    | (dsimp -proj only)

theorem effectPcieConfigAccess_chg : ∀ a0 a1 a2 d, Dev.changesOnly [.free, .out, .hif] d (effectPcieConfigAccess a0 a1 a2 d) := by
  intro a0 a1 a2 d
  unfold effectPcieConfigAccess
  repeat' first
    | (with_reducible assumption)
    | (with_reducible exact chg_refl _ _)
    | ((with_reducible apply Dev.configRead_keep); exact rfl)
    | (refine Dev.configRead_keep_eq (by with_reducible assumption) rfl ?_)
    | ((with_reducible apply Dev.configWrite_keep); exact rfl)
    | ((with_reducible apply Dev.emit_keep); exact rfl)
    | (with_reducible apply chg_when)
    | (with_reducible apply chg_ite)
    | (with_reducible apply chg_foldl)
    | (with_reducible apply chg_foldl_snd)
    | (with_reducible apply chg_ite_snd)
    | intro _ _ _
    | intro _
    | split
    | (dsimp -proj only)

theorem effectPcieLinkUp_chg : ∀ a0 a1 a2 a3 d, Dev.changesOnly [.regs, .out, .pwr] d (effectPcieLinkUp a0 a1 a2 a3 d) := by
  intro a0 a1 a2 a3 d
  unfold effectPcieLinkUp
  repeat' first
    | (with_reducible assumption)
    | (with_reducible exact chg_refl _ _)
    | ((with_reducible apply Dev.emit_keep); exact rfl)
    | ((with_reducible apply Dev.setFlag_keep); exact rfl)
    | ((with_reducible apply Dev.setPwr_keep); exact rfl)
    | (with_reducible apply chg_when)
    | ((with_reducible apply Dev.wr_keep); exact rfl)
    | (with_reducible apply chg_ite)
    | (with_reducible apply chg_foldl)
    | (with_reducible apply chg_foldl_snd)
    | (with_reducible apply chg_ite_snd)
    | intro _ _ _
    | intro _
    | split
    | (dsimp -proj only)

theorem effectPeerUnreachable_chg : ∀ a0 d, Dev.changesOnly [.regs, .t0, .t1, .log, .logSeq, .six, .evt, .kqp, .out, .tir, .mkt, .ldg, .wset, .acr, .col, .fab, .tbn] d (effectPeerUnreachable a0 d) := by
  intro a0 d
  unfold effectPeerUnreachable
  repeat' first
    | (with_reducible assumption)
    | (with_reducible exact chg_refl _ _)
    | ((with_reducible apply Dev.losePeer_keep); exact rfl)
    | ((with_reducible apply Dev.postWaiting_keep); exact rfl)
    | ((with_reducible apply Dev.raise_keep); exact rfl)
    | ((with_reducible apply Dev.reportUnreach_keep); exact rfl)
    | (with_reducible apply chg_when)
    | (with_reducible apply chg_ite)
    | (with_reducible apply chg_foldl)
    | (with_reducible apply chg_foldl_snd)
    | (with_reducible apply chg_ite_snd)
    | intro _ _ _
    | intro _
    | split
    | (dsimp -proj only)

theorem effectPermute_chg : ∀ a0 a1 a2 d, Dev.changesOnly [.regs, .t0, .log, .logSeq, .evt, .kqp, .tir] d (effectPermute a0 a1 a2 d) := by
  intro a0 a1 a2 d
  unfold effectPermute
  repeat' first
    | (with_reducible assumption)
    | (with_reducible exact chg_refl _ _)
    | ((with_reducible apply Dev.runPermute_keep); exact rfl)
    | (with_reducible apply chg_ite)
    | (with_reducible apply chg_foldl)
    | (with_reducible apply chg_foldl_snd)
    | (with_reducible apply chg_ite_snd)
    | intro _ _ _
    | intro _
    | split
    | (dsimp -proj only)

theorem effectPerstAssert_chg : ∀ a0 d, Dev.changesOnly [.regs, .stampHold, .t0, .t1, .log, .logSeq, .msix, .msixPend, .spr, .six, .evt, .kqp, .out, .tir, .mkt, .ldg, .hlt, .acr, .col, .fab, .tbn, .sec, .tim, .pwr, .hif, .ccr] d (effectPerstAssert a0 d) := by
  intro a0 d
  unfold effectPerstAssert
  repeat' first
    | (with_reducible assumption)
    | (with_reducible exact chg_refl _ _)
    | ((with_reducible apply Dev.flr_keep); exact rfl)
    | ((with_reducible apply Dev.linkGone_keep); exact rfl)
    | ((with_reducible apply Dev.resetConfig_keep); exact rfl)
    | ((with_reducible apply Dev.setHif_keep); exact rfl)
    | ((with_reducible apply Dev.setPwr_keep); exact rfl)
    | ((with_reducible apply Dev.startD3_keep); exact rfl)
    | (with_reducible apply chg_when)
    | (with_reducible apply chg_ite)
    | (with_reducible apply chg_foldl)
    | (with_reducible apply chg_foldl_snd)
    | (with_reducible apply chg_ite_snd)
    | intro _ _ _
    | intro _
    | split
    | (dsimp -proj only)

theorem effectPerstRelease_chg : ∀ a0 d, Dev.changesOnly [.regs, .t0, .t1, .log, .logSeq, .spr, .six, .evt, .kqp, .out, .tir, .mkt, .ldg, .acr, .col, .fab, .tbn, .sec, .pwr, .hif] d (effectPerstRelease a0 d) := by
  intro a0 d
  unfold effectPerstRelease
  repeat' first
    | (with_reducible assumption)
    | (with_reducible exact chg_refl _ _)
    | ((with_reducible apply Dev.setHif_keep); exact rfl)
    | ((with_reducible apply Dev.setPwr_keep); exact rfl)
    | ((with_reducible apply Dev.wakeUp_keep); exact rfl)
    | (with_reducible apply chg_ite)
    | (with_reducible apply chg_foldl)
    | (with_reducible apply chg_foldl_snd)
    | (with_reducible apply chg_ite_snd)
    | intro _ _ _
    | intro _
    | split
    | (dsimp -proj only)

theorem effectPfcFrameReceive_chg : ∀ a0 a1 a2 d, Dev.changesOnly [.regs, .fab] d (effectPfcFrameReceive a0 a1 a2 d) := by
  intro a0 a1 a2 d
  unfold effectPfcFrameReceive
  repeat' first
    | (with_reducible assumption)
    | (with_reducible exact chg_refl _ _)
    | ((with_reducible apply Dev.inc_keep); exact rfl)
    | ((with_reducible apply Dev.incSat_keep); exact rfl)
    | ((with_reducible apply Dev.pauseClass_keep); exact rfl)
    | (with_reducible apply chg_when)
    | (with_reducible apply chg_ite)
    | (with_reducible apply chg_foldl)
    | (with_reducible apply chg_foldl_snd)
    | (with_reducible apply chg_ite_snd)
    | intro _ _ _
    | intro _
    | split
    | (dsimp -proj only)

theorem effectPfcXoffRepeat_chg : ∀ a0 a1 a2 d, Dev.changesOnly [.regs, .out, .fab] d (effectPfcXoffRepeat a0 a1 a2 d) := by
  intro a0 a1 a2 d
  unfold effectPfcXoffRepeat
  repeat' first
    | (with_reducible assumption)
    | (with_reducible exact chg_refl _ _)
    | ((with_reducible apply Dev.sendPfc_keep); exact rfl)
    | ((with_reducible apply Dev.setPort_keep); exact rfl)
    | (with_reducible apply chg_when)
    | (with_reducible apply chg_ite)
    | (with_reducible apply chg_foldl)
    | (with_reducible apply chg_foldl_snd)
    | (with_reducible apply chg_ite_snd)
    | intro _ _ _
    | intro _
    | split
    | (dsimp -proj only)

theorem effectPgEventClear_chg : ∀ a0 a1 a2 a3 a4 d, Dev.changesOnly [.regs, .log, .logSeq, .evt] d (effectPgEventClear a0 a1 a2 a3 a4 d) := by
  intro a0 a1 a2 a3 a4 d
  unfold effectPgEventClear
  repeat' first
    | (with_reducible assumption)
    | (with_reducible exact chg_refl _ _)
    | ((with_reducible apply Dev.badAccess_keep); exact rfl)
    | ((with_reducible apply Dev.clearEvents_keep); exact rfl)
    | (with_reducible apply chg_when)
    | (with_reducible apply chg_ite)
    | (with_reducible apply chg_foldl)
    | (with_reducible apply chg_foldl_snd)
    | (with_reducible apply chg_ite_snd)
    | intro _ _ _
    | intro _
    | split
    | (dsimp -proj only)

theorem effectPgModeWrite_chg : ∀ a0 a1 a2 d, Dev.changesOnly [.regs, .log, .logSeq, .msix, .msixPend, .evt, .kqp, .out, .col, .fab, .tbn, .tim] d (effectPgModeWrite a0 a1 a2 d) := by
  intro a0 a1 a2 d
  unfold effectPgModeWrite
  repeat' first
    | (with_reducible assumption)
    | (with_reducible exact chg_refl _ _)
    | (with_reducible apply chg_when)
    | ((with_reducible apply Dev.writeWord_keep); exact rfl)
    | (with_reducible apply chg_ite)
    | (with_reducible apply chg_foldl)
    | (with_reducible apply chg_foldl_snd)
    | (with_reducible apply chg_ite_snd)
    | intro _ _ _
    | intro _
    | split
    | (dsimp -proj only)

theorem effectPgStampLoRead_chg : ∀ a0 a1 d, Dev.changesOnly [.regs, .stampHold, .log, .logSeq, .evt] d (effectPgStampLoRead a0 a1 d) := by
  intro a0 a1 d
  unfold effectPgStampLoRead
  repeat' first
    | (with_reducible assumption)
    | (with_reducible exact chg_refl _ _)
    | ((with_reducible apply Dev.badAccess_keep); exact rfl)
    | ((with_reducible apply Dev.setStampHold_keep); exact rfl)
    | (with_reducible apply chg_when)
    | (with_reducible apply chg_ite)
    | (with_reducible apply chg_foldl)
    | (with_reducible apply chg_foldl_snd)
    | (with_reducible apply chg_ite_snd)
    | intro _ _ _
    | intro _
    | split
    | (dsimp -proj only)

theorem effectPin_chg : ∀ a0 a1 d, Dev.changesOnly [.regs, .log, .logSeq, .six, .evt, .kqp, .out, .tir, .mkt] d (effectPin a0 a1 d) := by
  intro a0 a1 d
  unfold effectPin
  repeat' first
    | (with_reducible assumption)
    | (with_reducible exact chg_refl _ _)
    | ((with_reducible apply Dev.failPart_keep); exact rfl)
    | ((with_reducible apply Dev.makeRoom0_keep); exact rfl)
    | ((with_reducible apply Dev.raise_keep); exact rfl)
    | ((with_reducible apply Dev.runTier_keep); exact rfl)
    | ((with_reducible apply Dev.setObj_keep); exact rfl)
    | ((with_reducible apply Dev.setRegionAttr_keep); exact rfl)
    | ((with_reducible apply Dev.setUnit_keep); exact rfl)
    | ((with_reducible apply Dev.tierAsk_keep); exact rfl)
    | (refine Dev.tierAsk_keep_eq (by with_reducible assumption) rfl ?_)
    | ((with_reducible apply Dev.tierDone_keep); exact rfl)
    | (with_reducible apply chg_ite)
    | (with_reducible apply chg_foldl)
    | (with_reducible apply chg_foldl_snd)
    | (with_reducible apply chg_ite_snd)
    | intro _ _ _
    | intro _
    | split
    | (dsimp -proj only)

theorem effectPldmFirmwareUpdate_chg : ∀ a0 d, Dev.changesOnly [.regs, .log, .logSeq, .evt, .sec] d (effectPldmFirmwareUpdate a0 d) := by
  intro a0 d
  unfold effectPldmFirmwareUpdate
  repeat' first
    | (with_reducible assumption)
    | (with_reducible exact chg_refl _ _)
    | ((with_reducible apply Dev.fwWrite_keep); exact rfl)
    | (with_reducible apply chg_when)
    | (with_reducible apply chg_ite)
    | (with_reducible apply chg_foldl)
    | (with_reducible apply chg_foldl_snd)
    | (with_reducible apply chg_ite_snd)
    | intro _ _ _
    | intro _
    | split
    | (dsimp -proj only)

theorem effectPldmGetSensor_chg : ∀ a0 d, Dev.changesOnly [.out] d (effectPldmGetSensor a0 d) := by
  intro a0 d
  unfold effectPldmGetSensor
  repeat' first
    | (with_reducible assumption)
    | (with_reducible exact chg_refl _ _)
    | ((with_reducible apply Dev.emit_keep); exact rfl)
    | (with_reducible apply chg_when)
    | (with_reducible apply chg_ite)
    | (with_reducible apply chg_foldl)
    | (with_reducible apply chg_foldl_snd)
    | (with_reducible apply chg_ite_snd)
    | intro _ _ _
    | intro _
    | split
    | (dsimp -proj only)

theorem effectPldmPowerCap_chg : ∀ a0 d, Dev.changesOnly [.regs] d (effectPldmPowerCap a0 d) := by
  intro a0 d
  unfold effectPldmPowerCap
  repeat' first
    | (with_reducible assumption)
    | (with_reducible exact chg_refl _ _)
    | ((with_reducible apply Dev.setCap_keep); exact rfl)
    | (with_reducible apply chg_when)
    | (with_reducible apply chg_ite)
    | (with_reducible apply chg_foldl)
    | (with_reducible apply chg_foldl_snd)
    | (with_reducible apply chg_ite_snd)
    | intro _ _ _
    | intro _
    | split
    | (dsimp -proj only)

theorem effectPldmResetD4_chg : ∀ d, Dev.changesOnly [.regs, .stampHold, .t0, .t1, .log, .logSeq, .msix, .msixPend, .spr, .six, .evt, .kqp, .out, .tir, .mkt, .ldg, .hlt, .wset, .acr, .col, .fab, .tbn, .sec, .tim, .pwr, .hif, .ccr] d (effectPldmResetD4 d) := by
  intro d
  unfold effectPldmResetD4
  repeat' first
    | (with_reducible assumption)
    | (with_reducible exact chg_refl _ _)
    | ((with_reducible apply Dev.clearWarm_keep); exact rfl)
    | ((with_reducible apply Dev.startD4_keep); exact rfl)
    | (with_reducible apply chg_when)
    | ((with_reducible apply Dev.wr_keep); exact rfl)
    | (with_reducible apply chg_ite)
    | (with_reducible apply chg_foldl)
    | (with_reducible apply chg_foldl_snd)
    | (with_reducible apply chg_ite_snd)
    | intro _ _ _
    | intro _
    | split
    | (dsimp -proj only)

theorem effectPldmWake_chg : ∀ d, Dev.changesOnly [.regs, .t0, .t1, .log, .logSeq, .spr, .six, .evt, .kqp, .out, .tir, .mkt, .ldg, .acr, .col, .fab, .tbn, .sec, .pwr, .hif] d (effectPldmWake d) := by
  intro d
  unfold effectPldmWake
  repeat' first
    | (with_reducible assumption)
    | (with_reducible exact chg_refl _ _)
    | ((with_reducible apply Dev.wakeUp_keep); exact rfl)
    | (with_reducible apply chg_when)
    | (with_reducible apply chg_ite)
    | (with_reducible apply chg_foldl)
    | (with_reducible apply chg_foldl_snd)
    | (with_reducible apply chg_ite_snd)
    | intro _ _ _
    | intro _
    | split
    | (dsimp -proj only)

theorem effectPortDisable_chg : ∀ a0 d, Dev.changesOnly [.regs, .log, .logSeq, .evt, .out, .fab, .tbn] d (effectPortDisable a0 d) := by
  intro a0 d
  unfold effectPortDisable
  repeat' first
    | (with_reducible assumption)
    | (with_reducible exact chg_refl _ _)
    | ((with_reducible apply Dev.setFlag_keep); exact rfl)
    | ((with_reducible apply Dev.stopPort_keep); exact rfl)
    | (with_reducible apply chg_when)
    | (with_reducible apply chg_ite)
    | (with_reducible apply chg_foldl)
    | (with_reducible apply chg_foldl_snd)
    | (with_reducible apply chg_ite_snd)
    | intro _ _ _
    | intro _
    | split
    | (dsimp -proj only)

theorem effectPortRetrain_chg : ∀ a0 d, Dev.changesOnly [.regs, .log, .logSeq, .evt, .fab, .tbn] d (effectPortRetrain a0 d) := by
  intro a0 d
  unfold effectPortRetrain
  repeat' first
    | (with_reducible assumption)
    | (with_reducible exact chg_refl _ _)
    | ((with_reducible apply Dev.startPort_keep); exact rfl)
    | (with_reducible apply chg_when)
    | (with_reducible apply chg_ite)
    | (with_reducible apply chg_foldl)
    | (with_reducible apply chg_foldl_snd)
    | (with_reducible apply chg_ite_snd)
    | intro _ _ _
    | intro _
    | split
    | (dsimp -proj only)

theorem effectPrefetch_chg : ∀ a0 a1 d, Dev.changesOnly [.regs, .log, .logSeq, .six, .evt, .kqp, .out, .tir, .mkt] d (effectPrefetch a0 a1 d) := by
  intro a0 a1 d
  unfold effectPrefetch
  repeat' first
    | (with_reducible assumption)
    | (with_reducible exact chg_refl _ _)
    | ((with_reducible apply Dev.failPart_keep); exact rfl)
    | ((with_reducible apply Dev.runTier_keep); exact rfl)
    | ((with_reducible apply Dev.tierAskAll_keep); exact rfl)
    | (refine Dev.tierAskAll_keep_eq (by with_reducible assumption) rfl ?_)
    | ((with_reducible apply Dev.tierDone_keep); exact rfl)
    | (with_reducible apply chg_ite)
    | (with_reducible apply chg_foldl)
    | (with_reducible apply chg_foldl_snd)
    | (with_reducible apply chg_ite_snd)
    | intro _ _ _
    | intro _
    | split
    | (dsimp -proj only)

theorem effectProbeReceive_chg : ∀ a0 a1 d, Dev.changesOnly [.regs, .log, .logSeq, .evt, .fab, .tbn] d (effectProbeReceive a0 a1 d) := by
  intro a0 a1 d
  unfold effectProbeReceive
  repeat' first
    | (with_reducible assumption)
    | (with_reducible exact chg_refl _ _)
    | ((with_reducible apply Dev.pumpAll_keep); exact rfl)
    | ((with_reducible apply Dev.raise_keep); exact rfl)
    | ((with_reducible apply Dev.sendPacket_keep); exact rfl)
    | ((with_reducible apply Dev.setPath_keep); exact rfl)
    | ((with_reducible apply Dev.setPeer_keep); exact rfl)
    | (with_reducible apply chg_ite)
    | (with_reducible apply chg_foldl)
    | (with_reducible apply chg_foldl_snd)
    | (with_reducible apply chg_ite_snd)
    | intro _ _ _
    | intro _
    | split
    | (dsimp -proj only)

theorem effectProbeSend_chg : ∀ a0 a1 d, Dev.changesOnly [.regs, .fab, .tbn] d (effectProbeSend a0 a1 d) := by
  intro a0 a1 d
  unfold effectProbeSend
  repeat' first
    | (with_reducible assumption)
    | (with_reducible exact chg_refl _ _)
    | ((with_reducible apply Dev.sendPacket_keep); exact rfl)
    | ((with_reducible apply Dev.setPath_keep); exact rfl)
    | (with_reducible apply chg_when)
    | (with_reducible apply chg_ite)
    | (with_reducible apply chg_foldl)
    | (with_reducible apply chg_foldl_snd)
    | (with_reducible apply chg_ite_snd)
    | intro _ _ _
    | intro _
    | split
    | (dsimp -proj only)

theorem effectPtpReceive_chg : ∀ a0 a1 d, Dev.changesOnly [.regs, .log, .logSeq, .evt, .fab, .tim] d (effectPtpReceive a0 a1 d) := by
  intro a0 a1 d
  unfold effectPtpReceive
  repeat' first
    | (with_reducible assumption)
    | (with_reducible exact chg_refl _ _)
    | ((with_reducible apply Dev.takePtp_keep); exact rfl)
    | (with_reducible apply chg_when)
    | (with_reducible apply chg_ite)
    | (with_reducible apply chg_foldl)
    | (with_reducible apply chg_foldl_snd)
    | (with_reducible apply chg_ite_snd)
    | intro _ _ _
    | intro _
    | split
    | (dsimp -proj only)

theorem effectPwrEnAssert_chg : ∀ d, Dev.changesOnly [.sec, .pwr] d (effectPwrEnAssert d) := by
  intro d
  unfold effectPwrEnAssert
  repeat' first
    | (with_reducible assumption)
    | (with_reducible exact chg_refl _ _)
    | ((with_reducible apply Dev.setPwr_keep); exact rfl)
    | ((with_reducible apply Dev.setSec_keep); exact rfl)
    | (with_reducible apply chg_when)
    | (with_reducible apply chg_ite)
    | (with_reducible apply chg_foldl)
    | (with_reducible apply chg_foldl_snd)
    | (with_reducible apply chg_ite_snd)
    | intro _ _ _
    | intro _
    | split
    | (dsimp -proj only)

theorem effectPwrEnDeassert_chg : ∀ d, Dev.changesOnly [.regs, .stampHold, .t0, .t1, .log, .logSeq, .msix, .msixPend, .spr, .six, .evt, .kqp, .tir, .mkt, .ldg, .hlt, .wset, .acr, .col, .fab, .tbn, .sec, .tim, .pwr, .hif, .ccr] d (effectPwrEnDeassert d) := by
  intro d
  unfold effectPwrEnDeassert
  repeat' first
    | (with_reducible assumption)
    | (with_reducible exact chg_refl _ _)
    | ((with_reducible apply Dev.powerOff_keep); exact rfl)
    | ((with_reducible apply Dev.setPwr_keep); exact rfl)
    | ((with_reducible apply Dev.setSec_keep); exact rfl)
    | (with_reducible apply chg_when)
    | (with_reducible apply chg_ite)
    | (with_reducible apply chg_foldl)
    | (with_reducible apply chg_foldl_snd)
    | (with_reducible apply chg_ite_snd)
    | intro _ _ _
    | intro _
    | split
    | (dsimp -proj only)

theorem effectQuery_chg : ∀ a0 d, Dev.changesOnly [.regs, .log, .logSeq, .evt] d (effectQuery a0 d) := by
  intro a0 d
  unfold effectQuery
  repeat' first
    | (with_reducible assumption)
    | (with_reducible exact chg_refl _ _)
    | ((with_reducible apply Dev.mailbox_keep); exact rfl)
    | ((with_reducible apply Dev.mbxDone_keep); exact rfl)
    | (with_reducible apply chg_ite)
    | (with_reducible apply chg_foldl)
    | (with_reducible apply chg_foldl_snd)
    | (with_reducible apply chg_ite_snd)
    | intro _ _ _
    | intro _
    | split
    | (dsimp -proj only)

theorem effectQueryReceive_chg : ∀ a0 d, Dev.changesOnly [.regs, .log, .logSeq, .six, .evt, .out, .ldg, .fab, .tbn] d (effectQueryReceive a0 d) := by
  intro a0 d
  unfold effectQueryReceive
  repeat' first
    | (with_reducible assumption)
    | (with_reducible exact chg_refl _ _)
    | ((with_reducible apply Dev.takeQuery_keep); exact rfl)
    | (with_reducible apply chg_ite)
    | (with_reducible apply chg_foldl)
    | (with_reducible apply chg_foldl_snd)
    | (with_reducible apply chg_ite_snd)
    | intro _ _ _
    | intro _
    | split
    | (dsimp -proj only)

theorem effectQueueBlockedAlarm_chg : ∀ a0 d, Dev.changesOnly [.regs, .log, .logSeq, .evt, .kqp] d (effectQueueBlockedAlarm a0 d) := by
  intro a0 d
  unfold effectQueueBlockedAlarm
  repeat' first
    | (with_reducible assumption)
    | (with_reducible exact chg_refl _ _)
    | ((with_reducible apply Dev.raise_keep); exact rfl)
    | ((with_reducible apply Dev.setQueue_keep); exact rfl)
    | ((with_reducible apply Dev.setReg_keep); exact rfl)
    | (with_reducible apply chg_when)
    | (with_reducible apply chg_ite)
    | (with_reducible apply chg_foldl)
    | (with_reducible apply chg_foldl_snd)
    | (with_reducible apply chg_ite_snd)
    | intro _ _ _
    | intro _
    | split
    | (dsimp -proj only)

theorem effectQueueDisable_chg : ∀ a0 a1 d, Dev.changesOnly [.regs, .kqp] d (effectQueueDisable a0 a1 d) := by
  intro a0 a1 d
  unfold effectQueueDisable
  repeat' first
    | (with_reducible assumption)
    | (with_reducible exact chg_refl _ _)
    | ((with_reducible apply Dev.disableQueue_keep); exact rfl)
    | (with_reducible apply chg_ite)
    | (with_reducible apply chg_foldl)
    | (with_reducible apply chg_foldl_snd)
    | (with_reducible apply chg_ite_snd)
    | intro _ _ _
    | intro _
    | split
    | (dsimp -proj only)

theorem effectQueueEnable_chg : ∀ a0 a1 d, Dev.changesOnly [.regs, .kqp] d (effectQueueEnable a0 a1 d) := by
  intro a0 a1 d
  unfold effectQueueEnable
  repeat' first
    | (with_reducible assumption)
    | (with_reducible exact chg_refl _ _)
    | ((with_reducible apply Dev.enableQueue_keep); exact rfl)
    | (with_reducible apply chg_ite)
    | (with_reducible apply chg_foldl)
    | (with_reducible apply chg_foldl_snd)
    | (with_reducible apply chg_ite_snd)
    | intro _ _ _
    | intro _
    | split
    | (dsimp -proj only)

theorem effectQuotaWrite_chg : ∀ a0 a1 a2 d, Dev.changesOnly [.regs, .log, .logSeq, .evt] d (effectQuotaWrite a0 a1 a2 d) := by
  intro a0 a1 a2 d
  unfold effectQuotaWrite
  repeat' first
    | (with_reducible assumption)
    | (with_reducible exact chg_refl _ _)
    | ((with_reducible apply Dev.badAccess_keep); exact rfl)
    | ((with_reducible apply Dev.underLock_keep); exact rfl)
    | (with_reducible apply chg_when)
    | ((with_reducible apply Dev.writeLimit_keep); exact rfl)
    | (with_reducible apply chg_ite)
    | (with_reducible apply chg_foldl)
    | (with_reducible apply chg_foldl_snd)
    | (with_reducible apply chg_ite_snd)
    | intro _ _ _
    | intro _
    | split
    | (dsimp -proj only)

theorem effectQuoteReceive_chg : ∀ a0 d, Dev.changesOnly [.regs, .t0, .t1, .log, .logSeq, .six, .evt, .kqp, .out, .tir, .mkt, .ldg, .wset, .acr, .col, .fab, .tbn] d (effectQuoteReceive a0 d) := by
  intro a0 d
  unfold effectQuoteReceive
  repeat' first
    | (with_reducible assumption)
    | (with_reducible exact chg_refl _ _)
    | ((with_reducible apply Dev.takeQuote_keep); exact rfl)
    | (with_reducible apply chg_ite)
    | (with_reducible apply chg_foldl)
    | (with_reducible apply chg_foldl_snd)
    | (with_reducible apply chg_ite_snd)
    | intro _ _ _
    | intro _
    | split
    | (dsimp -proj only)

theorem effectQuoteReqReceive_chg : ∀ a0 d, Dev.changesOnly [.regs, .log, .logSeq, .six, .evt, .out, .fab, .tbn] d (effectQuoteReqReceive a0 d) := by
  intro a0 d
  unfold effectQuoteReqReceive
  repeat' first
    | (with_reducible assumption)
    | (with_reducible exact chg_refl _ _)
    | ((with_reducible apply Dev.takeQuoteReq_keep); exact rfl)
    | (with_reducible apply chg_ite)
    | (with_reducible apply chg_foldl)
    | (with_reducible apply chg_foldl_snd)
    | (with_reducible apply chg_ite_snd)
    | intro _ _ _
    | intro _
    | split
    | (dsimp -proj only)

theorem effectQuoteTimeout_chg : ∀ a0 d, Dev.changesOnly [.col] d (effectQuoteTimeout a0 d) := by
  intro a0 d
  unfold effectQuoteTimeout
  repeat' first
    | (with_reducible assumption)
    | (with_reducible exact chg_refl _ _)
    | ((with_reducible apply Dev.setCol_keep); exact rfl)
    | (with_reducible apply chg_ite)
    | (with_reducible apply chg_foldl)
    | (with_reducible apply chg_foldl_snd)
    | (with_reducible apply chg_ite_snd)
    | intro _ _ _
    | intro _
    | split
    | (dsimp -proj only)

theorem effectRateFallback_chg : ∀ a0 d, Dev.changesOnly [.fab] d (effectRateFallback a0 d) := by
  intro a0 d
  unfold effectRateFallback
  repeat' first
    | (with_reducible assumption)
    | (with_reducible exact chg_refl _ _)
    | ((with_reducible apply Dev.setPort_keep); exact rfl)
    | (with_reducible apply chg_when)
    | (with_reducible apply chg_ite)
    | (with_reducible apply chg_foldl)
    | (with_reducible apply chg_foldl_snd)
    | (with_reducible apply chg_ite_snd)
    | intro _ _ _
    | intro _
    | split
    | (dsimp -proj only)

theorem effectRateIncrease_chg : ∀ a0 d, Dev.changesOnly [.regs, .tbn] d (effectRateIncrease a0 d) := by
  intro a0 d
  unfold effectRateIncrease
  repeat' first
    | (with_reducible assumption)
    | (with_reducible exact chg_refl _ _)
    | ((with_reducible apply Dev.setConn_keep); exact rfl)
    | (with_reducible apply chg_when)
    | (with_reducible apply chg_ite)
    | (with_reducible apply chg_foldl)
    | (with_reducible apply chg_foldl_snd)
    | (with_reducible apply chg_ite_snd)
    | intro _ _ _
    | intro _
    | split
    | (dsimp -proj only)

theorem effectRecv_chg : ∀ a0 a1 d, Dev.changesOnly [.regs, .t0, .t1, .log, .logSeq, .six, .evt, .kqp, .out, .tir, .mkt, .col, .fab, .tbn] d (effectRecv a0 a1 d) := by
  intro a0 a1 d
  unfold effectRecv
  repeat' first
    | (with_reducible assumption)
    | (with_reducible exact chg_refl _ _)
    | ((with_reducible apply Dev.runColl_keep); exact rfl)
    | (with_reducible apply chg_ite)
    | (with_reducible apply chg_foldl)
    | (with_reducible apply chg_foldl_snd)
    | (with_reducible apply chg_ite_snd)
    | intro _ _ _
    | intro _
    | split
    | (dsimp -proj only)

theorem effectRedReceive_chg : ∀ a0 a1 d, Dev.changesOnly [.regs, .t0, .t1, .log, .logSeq, .six, .evt, .kqp, .out, .tir, .mkt, .ldg, .acr, .col, .fab, .tbn] d (effectRedReceive a0 a1 d) := by
  intro a0 a1 d
  unfold effectRedReceive
  repeat' first
    | (with_reducible assumption)
    | (with_reducible exact chg_refl _ _)
    | ((with_reducible apply Dev.takeRed_keep); exact rfl)
    | (with_reducible apply chg_ite)
    | (with_reducible apply chg_foldl)
    | (with_reducible apply chg_foldl_snd)
    | (with_reducible apply chg_ite_snd)
    | intro _ _ _
    | intro _
    | split
    | (dsimp -proj only)

theorem effectReduceScatter_chg : ∀ a0 a1 d, Dev.changesOnly [.regs, .t0, .t1, .log, .logSeq, .six, .evt, .kqp, .out, .tir, .mkt, .col, .fab, .tbn] d (effectReduceScatter a0 a1 d) := by
  intro a0 a1 d
  unfold effectReduceScatter
  repeat' first
    | (with_reducible assumption)
    | (with_reducible exact chg_refl _ _)
    | ((with_reducible apply Dev.runColl_keep); exact rfl)
    | (with_reducible apply chg_ite)
    | (with_reducible apply chg_foldl)
    | (with_reducible apply chg_foldl_snd)
    | (with_reducible apply chg_ite_snd)
    | intro _ _ _
    | intro _
    | split
    | (dsimp -proj only)

theorem effectReductionWrite_chg : ∀ a0 a1 a2 a3 a4 a5 a6 a7 a8 a9 a10 a11 d, Dev.changesOnly [.regs, .t0, .log, .logSeq, .spr, .six, .evt, .kqp, .out, .tir, .mkt, .ldg, .sec] d (effectReductionWrite a0 a1 a2 a3 a4 a5 a6 a7 a8 a9 a10 a11 d) := by
  intro a0 a1 a2 a3 a4 a5 a6 a7 a8 a9 a10 a11 d
  unfold effectReductionWrite
  repeat' first
    | (with_reducible assumption)
    | (with_reducible exact chg_refl _ _)
    | ((with_reducible apply Dev.dirtyLine_keep); exact rfl)
    | ((with_reducible apply Dev.lineError_keep); exact rfl)
    | ((with_reducible apply Dev.refuseLine_keep); exact rfl)
    | ((with_reducible apply Dev.setT0_keep); exact rfl)
    | (with_reducible apply chg_ite)
    | (with_reducible apply chg_foldl)
    | (with_reducible apply chg_foldl_snd)
    | (with_reducible apply chg_ite_snd)
    | intro _ _ _
    | intro _
    | split
    | (dsimp -proj only)

theorem effectRefill_chg : ∀ a0 d, Dev.changesOnly [.regs, .log, .logSeq, .evt, .tir] d (effectRefill a0 d) := by
  intro a0 d
  unfold effectRefill
  repeat' first
    | (with_reducible assumption)
    | (with_reducible exact chg_refl _ _)
    | (refine Dev.ensureT1_keep (by with_reducible assumption) rfl ?_)
    | ((with_reducible apply Dev.mailbox_keep); exact rfl)
    | ((with_reducible apply Dev.mbxDone_keep); exact rfl)
    | ((with_reducible apply Dev.raise_keep); exact rfl)
    | ((with_reducible apply Dev.setUnit_keep); exact rfl)
    | (with_reducible apply chg_ite)
    | (with_reducible apply chg_foldl)
    | (with_reducible apply chg_foldl_snd)
    | (with_reducible apply chg_ite_snd)
    | intro _ _ _
    | intro _
    | split
    | (dsimp -proj only)

theorem effectRefillDone_chg : ∀ a0 d, Dev.changesOnly [.regs, .t0, .log, .logSeq, .six, .evt, .kqp, .out, .tir, .mkt] d (effectRefillDone a0 d) := by
  intro a0 d
  unfold effectRefillDone
  repeat' first
    | (with_reducible assumption)
    | (with_reducible exact chg_refl _ _)
    | ((with_reducible apply Dev.mailbox_keep); exact rfl)
    | ((with_reducible apply Dev.mbxDone_keep); exact rfl)
    | ((with_reducible apply Dev.release0_keep); exact rfl)
    | ((with_reducible apply Dev.serveWaits_keep); exact rfl)
    | ((with_reducible apply Dev.setUnit_keep); exact rfl)
    | (with_reducible apply chg_ite)
    | (with_reducible apply chg_foldl)
    | (with_reducible apply chg_foldl_snd)
    | (with_reducible apply chg_ite_snd)
    | intro _ _ _
    | intro _
    | split
    | (dsimp -proj only)

theorem effectRegisterWrite_chg : ∀ a0 a1 a2 a3 d, Dev.changesOnly [.regs, .log, .logSeq, .msix, .msixPend, .evt, .kqp, .out, .col, .fab, .tbn, .tim] d (effectRegisterWrite a0 a1 a2 a3 d) := by
  intro a0 a1 a2 a3 d
  unfold effectRegisterWrite
  repeat' first
    | (with_reducible assumption)
    | (with_reducible exact chg_refl _ _)
    | ((with_reducible apply Dev.registerWrite_keep); exact rfl)
    | (with_reducible apply chg_when)
    | (with_reducible apply chg_ite)
    | (with_reducible apply chg_foldl)
    | (with_reducible apply chg_foldl_snd)
    | (with_reducible apply chg_ite_snd)
    | intro _ _ _
    | intro _
    | split
    | (dsimp -proj only)

theorem effectReload_chg : ∀ a0 d, Dev.changesOnly [.regs, .t0, .t1, .log, .logSeq, .evt, .tir, .mkt] d (effectReload a0 d) := by
  intro a0 d
  unfold effectReload
  repeat' first
    | (with_reducible assumption)
    | (with_reducible exact chg_refl _ _)
    | ((with_reducible apply Dev.mailbox_keep); exact rfl)
    | ((with_reducible apply Dev.mbxDone_keep); exact rfl)
    | ((with_reducible apply Dev.release0_keep); exact rfl)
    | ((with_reducible apply Dev.setUnit_keep); exact rfl)
    | ((with_reducible apply Dev.trimT1_keep); exact rfl)
    | (with_reducible apply chg_ite)
    | (with_reducible apply chg_foldl)
    | (with_reducible apply chg_foldl_snd)
    | (with_reducible apply chg_ite_snd)
    | intro _ _ _
    | intro _
    | split
    | (dsimp -proj only)

theorem effectResetComplete_chg : ∀ a0 a1 a2 d, Dev.changesOnly [.regs, .log, .logSeq, .msixPend, .spr, .six, .evt, .kqp, .out, .tir, .ldg, .hlt, .col, .fab, .tbn, .sec, .ccr] d (effectResetComplete a0 a1 a2 d) := by
  intro a0 a1 a2 d
  unfold effectResetComplete
  repeat' first
    | (with_reducible assumption)
    | (with_reducible exact chg_refl _ _)
    | ((with_reducible apply Dev.resetDone_keep); exact rfl)
    | (with_reducible apply chg_when)
    | (with_reducible apply chg_ite)
    | (with_reducible apply chg_foldl)
    | (with_reducible apply chg_foldl_snd)
    | (with_reducible apply chg_ite_snd)
    | intro _ _ _
    | intro _
    | split
    | (dsimp -proj only)

theorem effectResetEscalation_chg : ∀ a0 a1 d, Dev.changesOnly [.regs, .stampHold, .t0, .t1, .log, .logSeq, .msixPend, .spr, .six, .evt, .kqp, .out, .tir, .mkt, .ldg, .hlt, .acr, .col, .fab, .tbn, .sec, .tim, .pwr, .hif, .ccr] d (effectResetEscalation a0 a1 d) := by
  intro a0 a1 d
  unfold effectResetEscalation
  repeat' first
    | (with_reducible assumption)
    | (with_reducible exact chg_refl _ _)
    | ((with_reducible apply Dev.beginReset_keep); exact rfl)
    | ((with_reducible apply Dev.closeUnit_keep); exact rfl)
    | ((with_reducible apply Dev.endReset_keep); exact rfl)
    | ((with_reducible apply Dev.noteEscalation_keep); exact rfl)
    | ((with_reducible apply Dev.outOfService_keep); exact rfl)
    | ((with_reducible apply Dev.resetUnit_keep); exact rfl)
    | ((with_reducible apply Dev.startD3_keep); exact rfl)
    | ((with_reducible apply Dev.startReset_keep); exact rfl)
    | (with_reducible apply chg_when)
    | (with_reducible apply chg_ite)
    | (with_reducible apply chg_foldl)
    | (with_reducible apply chg_foldl_snd)
    | (with_reducible apply chg_ite_snd)
    | intro _ _ _
    | intro _
    | split
    | (dsimp -proj only)

theorem effectReshard_chg : ∀ a0 a1 d, Dev.changesOnly [.regs, .log, .logSeq, .msixPend, .six, .evt, .kqp, .out, .tir, .ldg, .col, .ccr] d (effectReshard a0 a1 d) := by
  intro a0 a1 d
  unfold effectReshard
  repeat' first
    | (with_reducible assumption)
    | (with_reducible exact chg_refl _ _)
    | ((with_reducible apply Dev.endPart_keep); exact rfl)
    | ((with_reducible apply Dev.stepFailure_keep); exact rfl)
    | (with_reducible apply chg_when)
    | ((with_reducible apply Dev.wr_keep); exact rfl)
    | (with_reducible apply chg_ite)
    | (with_reducible apply chg_foldl)
    | (with_reducible apply chg_foldl_snd)
    | (with_reducible apply chg_ite_snd)
    | intro _ _ _
    | intro _
    | split
    | (dsimp -proj only)

theorem effectRestore_chg : ∀ a0 a1 a2 d, Dev.changesOnly [.regs, .t0, .t1, .log, .logSeq, .evt, .kqp, .tir, .ldg, .acr, .col] d (effectRestore a0 a1 a2 d) := by
  intro a0 a1 a2 d
  unfold effectRestore
  repeat' first
    | (with_reducible assumption)
    | (with_reducible exact chg_refl _ _)
    | ((with_reducible apply Dev.partRan_keep); exact rfl)
    | ((with_reducible apply Dev.raiseLdg_keep); exact rfl)
    | ((with_reducible apply Dev.restoreApply_keep); exact rfl)
    | (refine Dev.restoreObj_keep (by with_reducible assumption) rfl ?_)
    | ((with_reducible apply Dev.supersede_keep); exact rfl)
    | (with_reducible apply chg_when)
    | (with_reducible apply chg_ite)
    | (with_reducible apply chg_foldl)
    | (with_reducible apply chg_foldl_snd)
    | (with_reducible apply chg_ite_snd)
    | intro _ _ _
    | intro _
    | split
    | (dsimp -proj only)
  all_goals
    rename_i hf
    exact chg_foldl_option (fun x u y hx hy => Dev.restoreObj_keep hy (by exact rfl) hx) _ (by with_reducible assumption) hf

theorem effectResume_chg : ∀ a0 a1 d, Dev.changesOnly [.regs, .kqp] d (effectResume a0 a1 d) := by
  intro a0 a1 d
  unfold effectResume
  repeat' first
    | (with_reducible assumption)
    | (with_reducible exact chg_refl _ _)
    | ((with_reducible apply Dev.unstop_keep); exact rfl)
    | (with_reducible apply chg_when)
    | (with_reducible apply chg_ite)
    | (with_reducible apply chg_foldl)
    | (with_reducible apply chg_foldl_snd)
    | (with_reducible apply chg_ite_snd)
    | intro _ _ _
    | intro _
    | split
    | (dsimp -proj only)

theorem effectRetrainClearLanes_chg : ∀ a0 d, Dev.changesOnly [.regs, .log, .logSeq, .evt, .fab, .tbn] d (effectRetrainClearLanes a0 d) := by
  intro a0 d
  unfold effectRetrainClearLanes
  repeat' first
    | (with_reducible assumption)
    | (with_reducible exact chg_refl _ _)
    | ((with_reducible apply Dev.startPort_keep); exact rfl)
    | (with_reducible apply chg_when)
    | ((with_reducible apply Dev.wr_keep); exact rfl)
    | (with_reducible apply chg_ite)
    | (with_reducible apply chg_foldl)
    | (with_reducible apply chg_foldl_snd)
    | (with_reducible apply chg_ite_snd)
    | intro _ _ _
    | intro _
    | split
    | (dsimp -proj only)

theorem effectRetransmitTimeout_chg : ∀ a0 d, Dev.changesOnly [.regs, .log, .logSeq, .six, .evt, .out, .fab, .tbn] d (effectRetransmitTimeout a0 d) := by
  intro a0 d
  unfold effectRetransmitTimeout
  repeat' first
    | (with_reducible assumption)
    | (with_reducible exact chg_refl _ _)
    | ((with_reducible apply Dev.losePkt_keep); exact rfl)
    | ((with_reducible apply Dev.pump_keep); exact rfl)
    | ((with_reducible apply Dev.setConn_keep); exact rfl)
    | (with_reducible apply chg_when)
    | (with_reducible apply chg_ite)
    | (with_reducible apply chg_foldl)
    | (with_reducible apply chg_foldl_snd)
    | (with_reducible apply chg_ite_snd)
    | intro _ _ _
    | intro _
    | split
    | (dsimp -proj only)

theorem effectRosterReceive_chg : ∀ a0 d, Dev.changesOnly [.regs, .t0, .t1, .log, .logSeq, .six, .evt, .kqp, .out, .tir, .mkt, .ldg, .wset, .acr, .col, .fab, .tbn] d (effectRosterReceive a0 d) := by
  intro a0 d
  unfold effectRosterReceive
  repeat' first
    | (with_reducible assumption)
    | (with_reducible exact chg_refl _ _)
    | ((with_reducible apply Dev.takeRoster_keep); exact rfl)
    | (with_reducible apply chg_ite)
    | (with_reducible apply chg_foldl)
    | (with_reducible apply chg_foldl_snd)
    | (with_reducible apply chg_ite_snd)
    | intro _ _ _
    | intro _
    | split
    | (dsimp -proj only)

theorem effectRoute_chg : ∀ a0 a1 a2 d, Dev.changesOnly [.regs, .t0, .log, .logSeq, .evt, .kqp, .tir] d (effectRoute a0 a1 a2 d) := by
  intro a0 a1 a2 d
  unfold effectRoute
  repeat' first
    | (with_reducible assumption)
    | (with_reducible exact chg_refl _ _)
    | ((with_reducible apply Dev.runRoute_keep); exact rfl)
    | (with_reducible apply chg_ite)
    | (with_reducible apply chg_foldl)
    | (with_reducible apply chg_foldl_snd)
    | (with_reducible apply chg_ite_snd)
    | intro _ _ _
    | intro _
    | split
    | (dsimp -proj only)

theorem effectRoutePhase2_chg : ∀ a0 a1 a2 d, Dev.changesOnly [.regs, .t0, .log, .logSeq, .evt, .kqp, .tir] d (effectRoutePhase2 a0 a1 a2 d) := by
  intro a0 a1 a2 d
  unfold effectRoutePhase2
  repeat' first
    | (with_reducible assumption)
    | (with_reducible exact chg_refl _ _)
    | ((with_reducible apply Dev.runRoute2_keep); exact rfl)
    | (with_reducible apply chg_ite)
    | (with_reducible apply chg_foldl)
    | (with_reducible apply chg_foldl_snd)
    | (with_reducible apply chg_ite_snd)
    | intro _ _ _
    | intro _
    | split
    | (dsimp -proj only)

theorem effectScaleBaseWrite_chg : ∀ a0 a1 a2 d, Dev.changesOnly [.regs, .log, .logSeq, .evt] d (effectScaleBaseWrite a0 a1 a2 d) := by
  intro a0 a1 a2 d
  unfold effectScaleBaseWrite
  repeat' first
    | (with_reducible assumption)
    | (with_reducible exact chg_refl _ _)
    | ((with_reducible apply Dev.badAccess_keep); exact rfl)
    | ((with_reducible apply Dev.underLock_keep); exact rfl)
    | (with_reducible apply chg_when)
    | ((with_reducible apply Dev.wr_keep); exact rfl)
    | (with_reducible apply chg_ite)
    | (with_reducible apply chg_foldl)
    | (with_reducible apply chg_foldl_snd)
    | (with_reducible apply chg_ite_snd)
    | intro _ _ _
    | intro _
    | split
    | (dsimp -proj only)

theorem effectScatterAdd_chg : ∀ a0 a1 a2 d, Dev.changesOnly [.regs, .t0, .log, .logSeq, .evt, .kqp, .tir] d (effectScatterAdd a0 a1 a2 d) := by
  intro a0 a1 a2 d
  unfold effectScatterAdd
  repeat' first
    | (with_reducible assumption)
    | (with_reducible exact chg_refl _ _)
    | ((with_reducible apply Dev.runScatter_keep); exact rfl)
    | (with_reducible apply chg_ite)
    | (with_reducible apply chg_foldl)
    | (with_reducible apply chg_foldl_snd)
    | (with_reducible apply chg_ite_snd)
    | intro _ _ _
    | intro _
    | split
    | (dsimp -proj only)

theorem effectScrubRead_chg : ∀ a0 a1 d, Dev.changesOnly [.regs, .t0, .log, .logSeq, .spr, .six, .evt, .kqp, .out, .tir, .mkt, .ldg, .sec] d (effectScrubRead a0 a1 d) := by
  intro a0 a1 d
  unfold effectScrubRead
  repeat' first
    | (with_reducible assumption)
    | (with_reducible exact chg_refl _ _)
    | ((with_reducible apply Dev.inc_keep); exact rfl)
    | ((with_reducible apply Dev.lineCe_keep); exact rfl)
    | ((with_reducible apply Dev.lineUe_keep); exact rfl)
    | (refine Dev.lineUe_keep_eq (by with_reducible assumption) rfl ?_)
    | ((with_reducible apply Dev.setMkt_keep); exact rfl)
    | (with_reducible apply chg_when)
    | (with_reducible apply chg_ite)
    | (with_reducible apply chg_foldl)
    | (with_reducible apply chg_foldl_snd)
    | (with_reducible apply chg_ite_snd)
    | intro _ _ _
    | intro _
    | split
    | (dsimp -proj only)

theorem effectSeedWrite_chg : ∀ a0 a1 a2 d, Dev.changesOnly [.regs, .log, .logSeq, .evt, .ldg] d (effectSeedWrite a0 a1 a2 d) := by
  intro a0 a1 a2 d
  unfold effectSeedWrite
  repeat' first
    | (with_reducible assumption)
    | (with_reducible exact chg_refl _ _)
    | ((with_reducible apply Dev.badAccess_keep); exact rfl)
    | ((with_reducible apply Dev.inc_keep); exact rfl)
    | ((with_reducible apply Dev.setJob_keep); exact rfl)
    | (with_reducible apply chg_when)
    | ((with_reducible apply Dev.wr_keep); exact rfl)
    | (with_reducible apply chg_ite)
    | (with_reducible apply chg_foldl)
    | (with_reducible apply chg_foldl_snd)
    | (with_reducible apply chg_ite_snd)
    | intro _ _ _
    | intro _
    | split
    | (dsimp -proj only)

theorem effectSelfTestEnd_chg : ∀ a0 a1 a2 d, Dev.changesOnly [.regs, .log, .logSeq, .spr, .six, .evt, .kqp, .out, .hlt, .sec] d (effectSelfTestEnd a0 a1 a2 d) := by
  intro a0 a1 a2 d
  unfold effectSelfTestEnd
  repeat' first
    | (with_reducible assumption)
    | (with_reducible exact chg_refl _ _)
    | ((with_reducible apply Dev.closeUnit_keep); exact rfl)
    | ((with_reducible apply Dev.endTest_keep); exact rfl)
    | ((with_reducible apply Dev.incSat_keep); exact rfl)
    | ((with_reducible apply Dev.raise_keep); exact rfl)
    | (with_reducible apply chg_when)
    | (with_reducible apply chg_ite)
    | (with_reducible apply chg_foldl)
    | (with_reducible apply chg_foldl_snd)
    | (with_reducible apply chg_ite_snd)
    | intro _ _ _
    | intro _
    | split
    | (dsimp -proj only)

theorem effectSelfTestRound_chg : ∀ d, Dev.changesOnly [.regs, .hlt] d (effectSelfTestRound d) := by
  intro d
  unfold effectSelfTestRound
  repeat' first
    | (with_reducible assumption)
    | (with_reducible exact chg_refl _ _)
    | ((with_reducible apply Dev.inc_keep); exact rfl)
    | ((with_reducible apply Dev.setHlt_keep); exact rfl)
    | (with_reducible apply chg_when)
    | ((with_reducible apply Dev.wr_keep); exact rfl)
    | ((with_reducible apply Dev.wr64_keep); exact rfl)
    | (with_reducible apply chg_ite)
    | (with_reducible apply chg_foldl)
    | (with_reducible apply chg_foldl_snd)
    | (with_reducible apply chg_ite_snd)
    | intro _ _ _
    | intro _
    | split
    | (dsimp -proj only)

theorem effectSelfTestSlice_chg : ∀ a0 a1 d, Dev.changesOnly [.hlt] d (effectSelfTestSlice a0 a1 d) := by
  intro a0 a1 d
  unfold effectSelfTestSlice
  repeat' first
    | (with_reducible assumption)
    | (with_reducible exact chg_refl _ _)
    | ((with_reducible apply Dev.putTesting_keep); exact rfl)
    | (with_reducible apply chg_when)
    | (with_reducible apply chg_ite)
    | (with_reducible apply chg_foldl)
    | (with_reducible apply chg_foldl_snd)
    | (with_reducible apply chg_ite_snd)
    | intro _ _ _
    | intro _
    | split
    | (dsimp -proj only)

theorem effectSemaphoreAdd_chg : ∀ a0 a1 d, Dev.changesOnly [.kqp] d (effectSemaphoreAdd a0 a1 d) := by
  intro a0 a1 d
  unfold effectSemaphoreAdd
  repeat' first
    | (with_reducible assumption)
    | (with_reducible exact chg_refl _ _)
    | ((with_reducible apply Dev.semAdd_keep); exact rfl)
    | (with_reducible apply chg_ite)
    | (with_reducible apply chg_foldl)
    | (with_reducible apply chg_foldl_snd)
    | (with_reducible apply chg_ite_snd)
    | intro _ _ _
    | intro _
    | split
    | (dsimp -proj only)

theorem effectSemaphoreSet_chg : ∀ a0 a1 d, Dev.changesOnly [.kqp] d (effectSemaphoreSet a0 a1 d) := by
  intro a0 a1 d
  unfold effectSemaphoreSet
  repeat' first
    | (with_reducible assumption)
    | (with_reducible exact chg_refl _ _)
    | ((with_reducible apply Dev.semSet_keep); exact rfl)
    | (with_reducible apply chg_ite)
    | (with_reducible apply chg_foldl)
    | (with_reducible apply chg_foldl_snd)
    | (with_reducible apply chg_ite_snd)
    | intro _ _ _
    | intro _
    | split
    | (dsimp -proj only)

theorem effectSend_chg : ∀ a0 a1 d, Dev.changesOnly [.regs, .t0, .t1, .log, .logSeq, .six, .evt, .kqp, .out, .tir, .mkt, .col, .fab, .tbn] d (effectSend a0 a1 d) := by
  intro a0 a1 d
  unfold effectSend
  repeat' first
    | (with_reducible assumption)
    | (with_reducible exact chg_refl _ _)
    | ((with_reducible apply Dev.runColl_keep); exact rfl)
    | (with_reducible apply chg_ite)
    | (with_reducible apply chg_foldl)
    | (with_reducible apply chg_foldl_snd)
    | (with_reducible apply chg_ite_snd)
    | intro _ _ _
    | intro _
    | split
    | (dsimp -proj only)

theorem effectSf_chg : ∀ a0 a1 a2 d, Dev.changesOnly [.regs, .t0, .log, .logSeq, .evt, .kqp, .tir] d (effectSf a0 a1 a2 d) := by
  intro a0 a1 a2 d
  unfold effectSf
  repeat' first
    | (with_reducible assumption)
    | (with_reducible exact chg_refl _ _)
    | ((with_reducible apply Dev.runSf_keep); exact rfl)
    | (with_reducible apply chg_ite)
    | (with_reducible apply chg_foldl)
    | (with_reducible apply chg_foldl_snd)
    | (with_reducible apply chg_ite_snd)
    | intro _ _ _
    | intro _
    | split
    | (dsimp -proj only)

theorem effectSignal_chg : ∀ a0 a1 d, Dev.changesOnly [.regs, .log, .logSeq, .msixPend, .six, .evt, .kqp, .out, .tir, .ldg, .col, .ccr] d (effectSignal a0 a1 d) := by
  intro a0 a1 d
  unfold effectSignal
  repeat' first
    | (with_reducible assumption)
    | (with_reducible exact chg_refl _ _)
    | ((with_reducible apply Dev.endControl_keep); exact rfl)
    | (with_reducible apply chg_ite)
    | (with_reducible apply chg_foldl)
    | (with_reducible apply chg_foldl_snd)
    | (with_reducible apply chg_ite_snd)
    | intro _ _ _
    | intro _
    | split
    | (dsimp -proj only)

theorem effectSixRowRepair_chg : ∀ a0 a1 d, Dev.changesOnly [.regs, .t0, .log, .logSeq, .msixPend, .six, .evt, .kqp, .out, .tir, .mkt, .ldg, .col, .sec, .ccr] d (effectSixRowRepair a0 a1 d) := by
  intro a0 a1 d
  unfold effectSixRowRepair
  repeat' first
    | (with_reducible assumption)
    | (with_reducible exact chg_refl _ _)
    | ((with_reducible apply Dev.failEntry_keep); exact rfl)
    | ((with_reducible apply Dev.raise_keep); exact rfl)
    | ((with_reducible apply Dev.recordRetirement_keep); exact rfl)
    | ((with_reducible apply Dev.setSix_keep); exact rfl)
    | (with_reducible apply chg_when)
    | (with_reducible apply chg_ite)
    | (with_reducible apply chg_foldl)
    | (with_reducible apply chg_foldl_snd)
    | (with_reducible apply chg_ite_snd)
    | intro _ _ _
    | intro _
    | split
    | (dsimp -proj only)

theorem effectSlice32_chg : ∀ a0 a1 a2 d, Dev.changesOnly [.regs, .t0, .log, .logSeq, .evt, .kqp, .tir] d (effectSlice32 a0 a1 a2 d) := by
  intro a0 a1 a2 d
  unfold effectSlice32
  repeat' first
    | (with_reducible assumption)
    | (with_reducible exact chg_refl _ _)
    | ((with_reducible apply Dev.runSlice_keep); exact rfl)
    | (with_reducible apply chg_ite)
    | (with_reducible apply chg_foldl)
    | (with_reducible apply chg_foldl_snd)
    | (with_reducible apply chg_ite_snd)
    | intro _ _ _
    | intro _
    | split
    | (dsimp -proj only)

theorem effectSlice64_chg : ∀ a0 a1 a2 d, Dev.changesOnly [.regs, .t0, .log, .logSeq, .evt, .kqp, .tir] d (effectSlice64 a0 a1 a2 d) := by
  intro a0 a1 a2 d
  unfold effectSlice64
  repeat' first
    | (with_reducible assumption)
    | (with_reducible exact chg_refl _ _)
    | ((with_reducible apply Dev.runSlice_keep); exact rfl)
    | (with_reducible apply chg_ite)
    | (with_reducible apply chg_foldl)
    | (with_reducible apply chg_foldl_snd)
    | (with_reducible apply chg_ite_snd)
    | intro _ _ _
    | intro _
    | split
    | (dsimp -proj only)

theorem effectSliceProductPhase_chg : ∀ a0 a1 a2 a3 d, Dev.changesOnly [.regs, .t0, .t1, .log, .logSeq, .msixPend, .spr, .six, .evt, .kqp, .out, .tir, .ldg, .col, .ccr] d (effectSliceProductPhase a0 a1 a2 a3 d) := by
  intro a0 a1 a2 a3 d
  unfold effectSliceProductPhase
  repeat' first
    | (with_reducible assumption)
    | (with_reducible exact chg_refl _ _)
    | ((with_reducible apply Dev.runProduct_keep); exact rfl)
    | (with_reducible apply chg_ite)
    | (with_reducible apply chg_foldl)
    | (with_reducible apply chg_foldl_snd)
    | (with_reducible apply chg_ite_snd)
    | intro _ _ _
    | intro _
    | split
    | (dsimp -proj only)

theorem effectSourceEnable_chg : ∀ a0 a1 a2 d, Dev.changesOnly [.regs, .log, .logSeq, .evt] d (effectSourceEnable a0 a1 a2 d) := by
  intro a0 a1 a2 d
  unfold effectSourceEnable
  repeat' first
    | (with_reducible assumption)
    | (with_reducible exact chg_refl _ _)
    | ((with_reducible apply Dev.badAccess_keep); exact rfl)
    | (with_reducible apply chg_when)
    | ((with_reducible apply Dev.writeSource_keep); exact rfl)
    | (with_reducible apply chg_ite)
    | (with_reducible apply chg_foldl)
    | (with_reducible apply chg_foldl_snd)
    | (with_reducible apply chg_ite_snd)
    | intro _ _ _
    | intro _
    | split
    | (dsimp -proj only)

theorem effectSourceLatch_chg : ∀ a0 d, Dev.changesOnly [.regs, .evt] d (effectSourceLatch a0 d) := by
  intro a0 d
  unfold effectSourceLatch
  repeat' first
    | (with_reducible assumption)
    | (with_reducible exact chg_refl _ _)
    | ((with_reducible apply Dev.setEvt_keep); exact rfl)
    | ((with_reducible apply Dev.setFlag_keep); exact rfl)
    | (with_reducible apply chg_when)
    | (with_reducible apply chg_ite)
    | (with_reducible apply chg_foldl)
    | (with_reducible apply chg_foldl_snd)
    | (with_reducible apply chg_ite_snd)
    | intro _ _ _
    | intro _
    | split
    | (dsimp -proj only)

theorem effectSourcePresent_chg : ∀ a0 d, Dev.changesOnly [.regs, .evt] d (effectSourcePresent a0 d) := by
  intro a0 d
  unfold effectSourcePresent
  repeat' first
    | (with_reducible assumption)
    | (with_reducible exact chg_refl _ _)
    | ((with_reducible apply Dev.serveSource_keep); exact rfl)
    | (with_reducible apply chg_when)
    | (with_reducible apply chg_ite)
    | (with_reducible apply chg_foldl)
    | (with_reducible apply chg_foldl_snd)
    | (with_reducible apply chg_ite_snd)
    | intro _ _ _
    | intro _
    | split
    | (dsimp -proj only)

theorem effectSpareSubstitution_chg : ∀ a0 a1 d, Dev.changesOnly [.regs, .log, .logSeq, .spr, .evt, .kqp, .hlt] d (effectSpareSubstitution a0 a1 d) := by
  intro a0 a1 d
  unfold effectSpareSubstitution
  repeat' first
    | (with_reducible assumption)
    | (with_reducible exact chg_refl _ _)
    | ((with_reducible apply Dev.freeTested_keep); exact rfl)
    | ((with_reducible apply Dev.qpTakeover_keep); exact rfl)
    | ((with_reducible apply Dev.takeIdentity_keep); exact rfl)
    | (with_reducible apply chg_when)
    | (with_reducible apply chg_ite)
    | (with_reducible apply chg_foldl)
    | (with_reducible apply chg_foldl_snd)
    | (with_reducible apply chg_ite_snd)
    | intro _ _ _
    | intro _
    | split
    | (dsimp -proj only)

theorem effectSpareWakeSend_chg : ∀ d, Dev.changesOnly [.col, .fab] d (effectSpareWakeSend d) := by
  intro d
  unfold effectSpareWakeSend
  repeat' first
    | (with_reducible assumption)
    | (with_reducible exact chg_refl _ _)
    | ((with_reducible apply Dev.setCol_keep); exact rfl)
    | ((with_reducible apply Dev.wakeFrames_keep); exact rfl)
    | (with_reducible apply chg_when)
    | (with_reducible apply chg_ite)
    | (with_reducible apply chg_foldl)
    | (with_reducible apply chg_foldl_snd)
    | (with_reducible apply chg_ite_snd)
    | intro _ _ _
    | intro _
    | split
    | (dsimp -proj only)

theorem effectSpareWakeTimeout_chg : ∀ d, Dev.changesOnly [.regs, .t0, .t1, .log, .logSeq, .six, .evt, .kqp, .out, .tir, .mkt, .ldg, .wset, .acr, .col, .fab, .tbn] d (effectSpareWakeTimeout d) := by
  intro d
  unfold effectSpareWakeTimeout
  repeat' first
    | (with_reducible assumption)
    | (with_reducible exact chg_refl _ _)
    | ((with_reducible apply Dev.nextSubst_keep); exact rfl)
    | ((with_reducible apply Dev.removeDevice_keep); exact rfl)
    | ((with_reducible apply Dev.setCol_keep); exact rfl)
    | (with_reducible apply chg_when)
    | (with_reducible apply chg_ite)
    | (with_reducible apply chg_foldl)
    | (with_reducible apply chg_foldl_snd)
    | (with_reducible apply chg_ite_snd)
    | intro _ _ _
    | intro _
    | split
    | (dsimp -proj only)

theorem effectSprAssistDoorbell_chg : ∀ a0 a1 d, Dev.changesOnly [.regs, .log, .logSeq, .spr, .six, .evt, .out, .mkt, .fab, .tbn, .sec] d (effectSprAssistDoorbell a0 a1 d) := by
  intro a0 a1 d
  unfold effectSprAssistDoorbell
  repeat' first
    | (with_reducible assumption)
    | (with_reducible exact chg_refl _ _)
    | ((with_reducible apply Dev.badDoorbell_keep); exact rfl)
    | ((with_reducible apply Dev.bankApproved_keep); exact rfl)
    | ((with_reducible apply Dev.laneApproved_keep); exact rfl)
    | ((with_reducible apply Dev.setSpr_keep); exact rfl)
    | ((with_reducible apply Dev.sixRelease_keep); exact rfl)
    | ((with_reducible apply Dev.sprNext_keep); exact rfl)
    | ((with_reducible apply Dev.sprShow_keep); exact rfl)
    | (with_reducible apply chg_ite)
    | (with_reducible apply chg_foldl)
    | (with_reducible apply chg_foldl_snd)
    | (with_reducible apply chg_ite_snd)
    | intro _ _ _
    | intro _
    | split
    | (dsimp -proj only)

theorem effectStageComplete_chg : ∀ a0 a1 d, Dev.changesOnly [.regs, .t0, .t1, .log, .logSeq, .spr, .six, .evt, .kqp, .out, .tir, .mkt, .ldg, .hlt, .acr, .col, .fab, .tbn, .sec, .hif] d (effectStageComplete a0 a1 d) := by
  intro a0 a1 d
  unfold effectStageComplete
  repeat' first
    | (with_reducible assumption)
    | (with_reducible exact chg_refl _ _)
    | ((with_reducible apply Dev.stageDone_keep); exact rfl)
    | (with_reducible apply chg_when)
    | (with_reducible apply chg_ite)
    | (with_reducible apply chg_foldl)
    | (with_reducible apply chg_foldl_snd)
    | (with_reducible apply chg_ite_snd)
    | intro _ _ _
    | intro _
    | split
    | (dsimp -proj only)

theorem effectStageFail_chg : ∀ a0 a1 d, Dev.changesOnly [.regs, .sec] d (effectStageFail a0 a1 d) := by
  intro a0 a1 d
  unfold effectStageFail
  repeat' first
    | (with_reducible assumption)
    | (with_reducible exact chg_refl _ _)
    | ((with_reducible apply Dev.stageFail_keep); exact rfl)
    | (with_reducible apply chg_when)
    | (with_reducible apply chg_ite)
    | (with_reducible apply chg_foldl)
    | (with_reducible apply chg_foldl_snd)
    | (with_reducible apply chg_ite_snd)
    | intro _ _ _
    | intro _
    | split
    | (dsimp -proj only)

theorem effectStallReceive_chg : ∀ a0 d, Dev.changesOnly [.regs, .ldg] d (effectStallReceive a0 d) := by
  intro a0 d
  unfold effectStallReceive
  repeat' first
    | (with_reducible assumption)
    | (with_reducible exact chg_refl _ _)
    | ((with_reducible apply Dev.takeStall_keep); exact rfl)
    | (with_reducible apply chg_ite)
    | (with_reducible apply chg_foldl)
    | (with_reducible apply chg_foldl_snd)
    | (with_reducible apply chg_ite_snd)
    | intro _ _ _
    | intro _
    | split
    | (dsimp -proj only)

theorem effectStallSend_chg : ∀ a0 d, Dev.changesOnly [.regs, .log, .logSeq, .six, .evt, .out, .ldg, .fab, .tbn] d (effectStallSend a0 d) := by
  intro a0 d
  unfold effectStallSend
  repeat' first
    | (with_reducible assumption)
    | (with_reducible exact chg_refl _ _)
    | ((with_reducible apply Dev.sendLdg_keep); exact rfl)
    | ((with_reducible apply Dev.setJob_keep); exact rfl)
    | (with_reducible apply chg_when)
    | (with_reducible apply chg_ite)
    | (with_reducible apply chg_foldl)
    | (with_reducible apply chg_foldl_snd)
    | (with_reducible apply chg_ite_snd)
    | intro _ _ _
    | intro _
    | split
    | (dsimp -proj only)

theorem effectStamp_chg : ∀ a0 a1 d, Dev.changesOnly [.regs, .log, .logSeq, .msixPend, .six, .evt, .kqp, .out, .tir, .ldg, .col, .ccr] d (effectStamp a0 a1 d) := by
  intro a0 a1 d
  unfold effectStamp
  repeat' first
    | (with_reducible assumption)
    | (with_reducible exact chg_refl _ _)
    | ((with_reducible apply Dev.endControl_keep); exact rfl)
    | (with_reducible apply chg_ite)
    | (with_reducible apply chg_foldl)
    | (with_reducible apply chg_foldl_snd)
    | (with_reducible apply chg_ite_snd)
    | intro _ _ _
    | intro _
    | split
    | (dsimp -proj only)

theorem effectStandbyRailLoss_chg : ∀ d, Dev.changesOnly [.now, .regs, .stampHold, .t0, .t1, .log, .logSeq, .msix, .msixPend, .spr, .six, .evt, .kqp, .tir, .mkt, .ldg, .hlt, .wset, .acr, .col, .fab, .tbn, .sec, .tim, .pwr, .hif, .ccr] d (effectStandbyRailLoss d) := by
  intro d
  unfold effectStandbyRailLoss
  repeat' first
    | (with_reducible assumption)
    | (with_reducible exact chg_refl _ _)
    | ((with_reducible apply Dev.powerOff_keep); exact rfl)
    | ((with_reducible apply Dev.setHlt_keep); exact rfl)
    | ((with_reducible apply Dev.setNow_keep); exact rfl)
    | ((with_reducible apply Dev.setPwr_keep); exact rfl)
    | ((with_reducible apply Dev.setSec_keep); exact rfl)
    | (with_reducible apply chg_when)
    | ((with_reducible apply Dev.wr_keep); exact rfl)
    | (with_reducible apply chg_ite)
    | (with_reducible apply chg_foldl)
    | (with_reducible apply chg_foldl_snd)
    | (with_reducible apply chg_ite_snd)
    | intro _ _ _
    | intro _
    | split
    | (dsimp -proj only)

theorem effectStandbyRailRise_chg : ∀ a0 d, Dev.changesOnly [.pwr] d (effectStandbyRailRise a0 d) := by
  intro a0 d
  unfold effectStandbyRailRise
  repeat' first
    | (with_reducible assumption)
    | (with_reducible exact chg_refl _ _)
    | ((with_reducible apply Dev.setPwr_keep); exact rfl)
    | (with_reducible apply chg_when)
    | (with_reducible apply chg_ite)
    | (with_reducible apply chg_foldl)
    | (with_reducible apply chg_foldl_snd)
    | (with_reducible apply chg_ite_snd)
    | intro _ _ _
    | intro _
    | split
    | (dsimp -proj only)

theorem effectStandbyRequest_chg : ∀ a0 a1 d, Dev.changesOnly [.regs, .log, .logSeq, .evt, .col, .pwr] d (effectStandbyRequest a0 a1 d) := by
  intro a0 a1 d
  unfold effectStandbyRequest
  repeat' first
    | (with_reducible assumption)
    | (with_reducible exact chg_refl _ _)
    | ((with_reducible apply Dev.requestLow_keep); exact rfl)
    | (with_reducible apply chg_ite)
    | (with_reducible apply chg_foldl)
    | (with_reducible apply chg_foldl_snd)
    | (with_reducible apply chg_ite_snd)
    | intro _ _ _
    | intro _
    | split
    | (dsimp -proj only)

theorem effectStats_chg : ∀ a0 a1 d, Dev.changesOnly [.regs, .t0, .t1, .log, .logSeq, .evt, .kqp, .tir, .mkt, .ldg, .acr] d (effectStats a0 a1 d) := by
  intro a0 a1 d
  unfold effectStats
  repeat' first
    | (with_reducible assumption)
    | (with_reducible exact chg_refl _ _)
    | ((with_reducible apply Dev.failPart_keep); exact rfl)
    | (refine Dev.stageT1_keep (by with_reducible assumption) rfl ?_)
    | ((with_reducible apply Dev.frozenSkip_keep); exact rfl)
    | ((with_reducible apply Dev.partRan_keep); exact rfl)
    | ((with_reducible apply Dev.runStats_keep); exact rfl)
    | ((with_reducible apply Dev.takeUnit_keep); exact rfl)
    | (with_reducible apply chg_when)
    | (with_reducible apply chg_ite)
    | (with_reducible apply chg_foldl)
    | (with_reducible apply chg_foldl_snd)
    | (with_reducible apply chg_ite_snd)
    | intro _ _ _
    | intro _
    | split
    | (dsimp -proj only)

theorem effectStepOpen_chg : ∀ a0 a1 d, Dev.changesOnly [.regs, .t0, .t1, .log, .logSeq, .msixPend, .six, .evt, .kqp, .out, .tir, .ldg, .acr, .col, .ccr] d (effectStepOpen a0 a1 d) := by
  intro a0 a1 d
  unfold effectStepOpen
  repeat' first
    | (with_reducible assumption)
    | (with_reducible exact chg_refl _ _)
    | ((with_reducible apply Dev.endPart_keep); exact rfl)
    | ((with_reducible apply Dev.openStep_keep); exact rfl)
    | (with_reducible apply chg_when)
    | (with_reducible apply chg_ite)
    | (with_reducible apply chg_foldl)
    | (with_reducible apply chg_foldl_snd)
    | (with_reducible apply chg_ite_snd)
    | intro _ _ _
    | intro _
    | split
    | (dsimp -proj only)

theorem effectStepSeal_chg : ∀ a0 a1 d, Dev.changesOnly [.regs, .log, .logSeq, .msixPend, .six, .evt, .kqp, .out, .tir, .ldg, .col, .ccr] d (effectStepSeal a0 a1 d) := by
  intro a0 a1 d
  unfold effectStepSeal
  repeat' first
    | (with_reducible assumption)
    | (with_reducible exact chg_refl _ _)
    | ((with_reducible apply Dev.endPart_keep); exact rfl)
    | ((with_reducible apply Dev.setJob_keep); exact rfl)
    | ((with_reducible apply Dev.setStepState_keep); exact rfl)
    | ((with_reducible apply Dev.startBound_keep); exact rfl)
    | ((with_reducible apply Dev.updNewest_keep); exact rfl)
    | (with_reducible apply chg_when)
    | (with_reducible apply chg_ite)
    | (with_reducible apply chg_foldl)
    | (with_reducible apply chg_foldl_snd)
    | (with_reducible apply chg_ite_snd)
    | intro _ _ _
    | intro _
    | split
    | (dsimp -proj only)

theorem effectSupplyFault_chg : ∀ d, Dev.changesOnly [.regs, .stampHold, .t0, .t1, .log, .logSeq, .spr, .six, .evt, .kqp, .out, .tir, .mkt, .ldg, .hlt, .acr, .col, .fab, .tbn, .sec, .tim, .pwr, .hif, .ccr] d (effectSupplyFault d) := by
  intro d
  unfold effectSupplyFault
  repeat' first
    | (with_reducible assumption)
    | (with_reducible exact chg_refl _ _)
    | ((with_reducible apply Dev.monitorFault_keep); exact rfl)
    | ((with_reducible apply Dev.startD3_keep); exact rfl)
    | (with_reducible apply chg_ite)
    | (with_reducible apply chg_foldl)
    | (with_reducible apply chg_foldl_snd)
    | (with_reducible apply chg_ite_snd)
    | intro _ _ _
    | intro _
    | split
    | (dsimp -proj only)

theorem effectSyncSend_chg : ∀ a0 d, Dev.changesOnly [.fab, .tim] d (effectSyncSend a0 d) := by
  intro a0 d
  unfold effectSyncSend
  repeat' first
    | (with_reducible assumption)
    | (with_reducible exact chg_refl _ _)
    | ((with_reducible apply Dev.queuePtp_keep); exact rfl)
    | ((with_reducible apply Dev.setPtp_keep); exact rfl)
    | (with_reducible apply chg_when)
    | (with_reducible apply chg_ite)
    | (with_reducible apply chg_foldl)
    | (with_reducible apply chg_foldl_snd)
    | (with_reducible apply chg_ite_snd)
    | intro _ _ _
    | intro _
    | split
    | (dsimp -proj only)

theorem effectT2ReadFail_chg : ∀ a0 a1 d, Dev.changesOnly [.regs, .t0, .log, .logSeq, .six, .evt, .kqp, .out, .tir, .mkt, .ldg] d (effectT2ReadFail a0 a1 d) := by
  intro a0 a1 d
  unfold effectT2ReadFail
  repeat' first
    | (with_reducible assumption)
    | (with_reducible exact chg_refl _ _)
    | ((with_reducible apply Dev.poisonUnit_keep); exact rfl)
    | ((with_reducible apply Dev.setUnit_keep); exact rfl)
    | (with_reducible apply chg_when)
    | (with_reducible apply chg_ite)
    | (with_reducible apply chg_foldl)
    | (with_reducible apply chg_foldl_snd)
    | (with_reducible apply chg_ite_snd)
    | intro _ _ _
    | intro _
    | split
    | (dsimp -proj only)

theorem effectT2Retry_chg : ∀ a0 a1 d, Dev.changesOnly [.regs, .log, .logSeq, .evt, .tir] d (effectT2Retry a0 a1 d) := by
  intro a0 a1 d
  unfold effectT2Retry
  repeat' first
    | (with_reducible assumption)
    | (with_reducible exact chg_refl _ _)
    | ((with_reducible apply Dev.raise_keep); exact rfl)
    | ((with_reducible apply Dev.setUnit_keep); exact rfl)
    | (with_reducible apply chg_when)
    | (with_reducible apply chg_ite)
    | (with_reducible apply chg_foldl)
    | (with_reducible apply chg_foldl_snd)
    | (with_reducible apply chg_ite_snd)
    | intro _ _ _
    | intro _
    | split
    | (dsimp -proj only)

theorem effectTbnAssistDoorbell_chg : ∀ a0 a1 d, Dev.changesOnly [.regs, .log, .logSeq, .six, .evt, .kqp, .out, .ldg, .wset, .col, .fab, .tbn] d (effectTbnAssistDoorbell a0 a1 d) := by
  intro a0 a1 d
  unfold effectTbnAssistDoorbell
  repeat' first
    | (with_reducible assumption)
    | (with_reducible exact chg_refl _ _)
    | ((with_reducible apply Dev.badDoorbell_keep); exact rfl)
    | ((with_reducible apply Dev.failMsg_keep); exact rfl)
    | ((with_reducible apply Dev.pumpAll_keep); exact rfl)
    | ((with_reducible apply Dev.setPeer_keep); exact rfl)
    | ((with_reducible apply Dev.showTbnAssist_keep); exact rfl)
    | ((with_reducible apply Dev.sixRelease_keep); exact rfl)
    | (with_reducible apply chg_ite)
    | (with_reducible apply chg_foldl)
    | (with_reducible apply chg_foldl_snd)
    | (with_reducible apply chg_ite_snd)
    | intro _ _ _
    | intro _
    | split
    | (dsimp -proj only)

theorem effectTempSample_chg : ∀ a0 d, Dev.changesOnly [.regs, .stampHold, .t0, .t1, .log, .logSeq, .msix, .msixPend, .spr, .six, .evt, .kqp, .tir, .mkt, .ldg, .hlt, .wset, .acr, .col, .fab, .tbn, .sec, .tim, .pwr, .hif, .ccr] d (effectTempSample a0 d) := by
  intro a0 d
  unfold effectTempSample
  repeat' first
    | (with_reducible assumption)
    | (with_reducible exact chg_refl _ _)
    | ((with_reducible apply Dev.powerOff_keep); exact rfl)
    | ((with_reducible apply Dev.raise_keep); exact rfl)
    | ((with_reducible apply Dev.setPwr_keep); exact rfl)
    | (with_reducible apply chg_when)
    | ((with_reducible apply Dev.wr_keep); exact rfl)
    | (with_reducible apply chg_ite)
    | (with_reducible apply chg_foldl)
    | (with_reducible apply chg_foldl_snd)
    | (with_reducible apply chg_ite_snd)
    | intro _ _ _
    | intro _
    | split
    | (dsimp -proj only)

theorem effectThermalCapStep_chg : ∀ d, Dev.changesOnly [.regs, .pwr] d (effectThermalCapStep d) := by
  intro d
  unfold effectThermalCapStep
  repeat' first
    | (with_reducible assumption)
    | (with_reducible exact chg_refl _ _)
    | ((with_reducible apply Dev.setPwr_keep); exact rfl)
    | (with_reducible apply chg_when)
    | ((with_reducible apply Dev.wr_keep); exact rfl)
    | (with_reducible apply chg_ite)
    | (with_reducible apply chg_foldl)
    | (with_reducible apply chg_foldl_snd)
    | (with_reducible apply chg_ite_snd)
    | intro _ _ _
    | intro _
    | split
    | (dsimp -proj only)

theorem effectTimeLock_chg : ∀ d, Dev.changesOnly [.now, .regs, .log, .logSeq, .evt, .tim] d (effectTimeLock d) := by
  intro d
  unfold effectTimeLock
  repeat' first
    | (with_reducible assumption)
    | (with_reducible exact chg_refl _ _)
    | ((with_reducible apply Dev.raise_keep); exact rfl)
    | ((with_reducible apply Dev.setTim_keep); exact rfl)
    | ((with_reducible apply Dev.stepTime_keep); exact rfl)
    | (with_reducible apply chg_when)
    | ((with_reducible apply Dev.wr_keep); exact rfl)
    | (with_reducible apply chg_ite)
    | (with_reducible apply chg_foldl)
    | (with_reducible apply chg_foldl_snd)
    | (with_reducible apply chg_ite_snd)
    | intro _ _ _
    | intro _
    | split
    | (dsimp -proj only)

theorem effectTimeStep_chg : ∀ a0 d, Dev.changesOnly [.now, .regs, .log, .logSeq, .evt, .tim] d (effectTimeStep a0 d) := by
  intro a0 d
  unfold effectTimeStep
  repeat' first
    | (with_reducible assumption)
    | (with_reducible exact chg_refl _ _)
    | ((with_reducible apply Dev.badAccess_keep); exact rfl)
    | ((with_reducible apply Dev.stepTime_keep); exact rfl)
    | (with_reducible apply chg_ite)
    | (with_reducible apply chg_foldl)
    | (with_reducible apply chg_foldl_snd)
    | (with_reducible apply chg_ite_snd)
    | intro _ _ _
    | intro _
    | split
    | (dsimp -proj only)

theorem effectTirAssistDoorbell_chg : ∀ a0 a1 d, Dev.changesOnly [.regs, .log, .logSeq, .six, .evt, .kqp, .out, .tir, .mkt] d (effectTirAssistDoorbell a0 a1 d) := by
  intro a0 a1 d
  unfold effectTirAssistDoorbell
  repeat' first
    | (with_reducible assumption)
    | (with_reducible exact chg_refl _ _)
    | ((with_reducible apply Dev.badDoorbell_keep); exact rfl)
    | ((with_reducible apply Dev.failWaits_keep); exact rfl)
    | ((with_reducible apply Dev.serveWaits_keep); exact rfl)
    | ((with_reducible apply Dev.setTir_keep); exact rfl)
    | ((with_reducible apply Dev.setUnit_keep); exact rfl)
    | ((with_reducible apply Dev.showTir_keep); exact rfl)
    | ((with_reducible apply Dev.sixRelease_keep); exact rfl)
    | (with_reducible apply chg_ite)
    | (with_reducible apply chg_foldl)
    | (with_reducible apply chg_foldl_snd)
    | (with_reducible apply chg_ite_snd)
    | intro _ _ _
    | intro _
    | split
    | (dsimp -proj only)

theorem effectTsFifoPop_chg : ∀ a0 d, Dev.changesOnly [.regs, .fab] d (effectTsFifoPop a0 d) := by
  intro a0 d
  unfold effectTsFifoPop
  repeat' first
    | (with_reducible assumption)
    | (with_reducible exact chg_refl _ _)
    | ((with_reducible apply Dev.setPort_keep); exact rfl)
    | ((with_reducible apply Dev.showTs_keep); exact rfl)
    | (with_reducible apply chg_when)
    | (with_reducible apply chg_ite)
    | (with_reducible apply chg_foldl)
    | (with_reducible apply chg_foldl_snd)
    | (with_reducible apply chg_ite_snd)
    | intro _ _ _
    | intro _
    | split
    | (dsimp -proj only)

theorem effectUncertaintyUpdate_chg : ∀ d, Dev.changesOnly [.regs, .tim] d (effectUncertaintyUpdate d) := by
  intro d
  unfold effectUncertaintyUpdate
  repeat' first
    | (with_reducible assumption)
    | (with_reducible exact chg_refl _ _)
    | ((with_reducible apply Dev.setTim_keep); exact rfl)
    | (with_reducible apply chg_when)
    | ((with_reducible apply Dev.wr_keep); exact rfl)
    | (with_reducible apply chg_ite)
    | (with_reducible apply chg_foldl)
    | (with_reducible apply chg_foldl_snd)
    | (with_reducible apply chg_ite_snd)
    | intro _ _ _
    | intro _
    | split
    | (dsimp -proj only)

theorem effectUnitArrived_chg : ∀ a0 a1 a2 d, Dev.changesOnly [.regs, .t0, .t1, .log, .logSeq, .six, .evt, .kqp, .out, .tir, .mkt] d (effectUnitArrived a0 a1 a2 d) := by
  intro a0 a1 a2 d
  unfold effectUnitArrived
  repeat' first
    | (with_reducible assumption)
    | (with_reducible exact chg_refl _ _)
    | ((with_reducible apply Dev.arrive_keep); exact rfl)
    | (with_reducible apply chg_when)
    | (with_reducible apply chg_ite)
    | (with_reducible apply chg_foldl)
    | (with_reducible apply chg_foldl_snd)
    | (with_reducible apply chg_ite_snd)
    | intro _ _ _
    | intro _
    | split
    | (dsimp -proj only)

theorem effectUnmappedAccess_chg : ∀ a0 a1 a2 a3 a4 d, Dev.changesOnly [.regs, .log, .logSeq, .msix, .msixPend, .evt, .kqp, .out, .col, .fab, .tbn, .tim] d (effectUnmappedAccess a0 a1 a2 a3 a4 d) := by
  intro a0 a1 a2 a3 a4 d
  unfold effectUnmappedAccess
  repeat' first
    | (with_reducible assumption)
    | (with_reducible exact chg_refl _ _)
    | ((with_reducible apply Dev.badAccess_keep); exact rfl)
    | ((with_reducible apply Dev.registerWrite_keep); exact rfl)
    | (with_reducible apply chg_when)
    | ((with_reducible apply Dev.writeCore_keep); exact rfl)
    | (refine Dev.writeCore_keep_eq (by with_reducible assumption) rfl ?_)
    | (with_reducible apply chg_ite)
    | (with_reducible apply chg_foldl)
    | (with_reducible apply chg_foldl_snd)
    | (with_reducible apply chg_ite_snd)
    | intro _ _ _
    | intro _
    | split
    | (dsimp -proj only)

theorem effectUnpark_chg : ∀ a0 d, Dev.changesOnly [.regs, .log, .logSeq, .six, .evt, .out, .ldg, .fab, .tbn] d (effectUnpark a0 d) := by
  intro a0 d
  unfold effectUnpark
  repeat' first
    | (with_reducible assumption)
    | (with_reducible exact chg_refl _ _)
    | ((with_reducible apply Dev.sendLdg_keep); exact rfl)
    | ((with_reducible apply Dev.unparkRank_keep); exact rfl)
    | (with_reducible apply chg_when)
    | (with_reducible apply chg_ite)
    | (with_reducible apply chg_foldl)
    | (with_reducible apply chg_foldl_snd)
    | (with_reducible apply chg_ite_snd)
    | intro _ _ _
    | intro _
    | split
    | (dsimp -proj only)

theorem effectUnparkReceive_chg : ∀ a0 d, Dev.changesOnly [.regs, .ldg] d (effectUnparkReceive a0 d) := by
  intro a0 d
  unfold effectUnparkReceive
  repeat' first
    | (with_reducible assumption)
    | (with_reducible exact chg_refl _ _)
    | ((with_reducible apply Dev.takeUnpark_keep); exact rfl)
    | (with_reducible apply chg_ite)
    | (with_reducible apply chg_foldl)
    | (with_reducible apply chg_foldl_snd)
    | (with_reducible apply chg_ite_snd)
    | intro _ _ _
    | intro _
    | split
    | (dsimp -proj only)

theorem effectUnpin_chg : ∀ a0 a1 d, Dev.changesOnly [.kqp, .tir, .mkt] d (effectUnpin a0 a1 d) := by
  intro a0 a1 d
  unfold effectUnpin
  repeat' first
    | (with_reducible assumption)
    | (with_reducible exact chg_refl _ _)
    | ((with_reducible apply Dev.runTier_keep); exact rfl)
    | ((with_reducible apply Dev.setObj_keep); exact rfl)
    | ((with_reducible apply Dev.setRegionAttr_keep); exact rfl)
    | ((with_reducible apply Dev.setUnit_keep); exact rfl)
    | ((with_reducible apply Dev.tierDone_keep); exact rfl)
    | (with_reducible apply chg_ite)
    | (with_reducible apply chg_foldl)
    | (with_reducible apply chg_foldl_snd)
    | (with_reducible apply chg_ite_snd)
    | intro _ _ _
    | intro _
    | split
    | (dsimp -proj only)

theorem effectUnreachReceive_chg : ∀ a0 d, Dev.changesOnly [.regs, .t0, .t1, .log, .logSeq, .six, .evt, .kqp, .out, .tir, .mkt, .ldg, .wset, .acr, .col, .fab, .tbn] d (effectUnreachReceive a0 d) := by
  intro a0 d
  unfold effectUnreachReceive
  repeat' first
    | (with_reducible assumption)
    | (with_reducible exact chg_refl _ _)
    | ((with_reducible apply Dev.takeUnreach_keep); exact rfl)
    | (with_reducible apply chg_ite)
    | (with_reducible apply chg_foldl)
    | (with_reducible apply chg_foldl_snd)
    | (with_reducible apply chg_ite_snd)
    | intro _ _ _
    | intro _
    | split
    | (dsimp -proj only)

theorem effectUpdate_chg : ∀ a0 a1 d, Dev.changesOnly [.regs, .t1, .log, .logSeq, .six, .evt, .kqp, .out, .tir, .ldg, .acr] d (effectUpdate a0 a1 d) := by
  intro a0 a1 d
  unfold effectUpdate
  repeat' first
    | (with_reducible assumption)
    | (with_reducible exact chg_refl _ _)
    | ((with_reducible apply Dev.assistUpdate_keep); exact rfl)
    | ((with_reducible apply Dev.failPart_keep); exact rfl)
    | (refine Dev.stageT1_keep (by with_reducible assumption) rfl ?_)
    | ((with_reducible apply Dev.frozenSkip_keep); exact rfl)
    | ((with_reducible apply Dev.runUpdate_keep); exact rfl)
    | ((with_reducible apply Dev.stallBegin_keep); exact rfl)
    | ((with_reducible apply Dev.stallEnd_keep); exact rfl)
    | ((with_reducible apply Dev.takeUnit_keep); exact rfl)
    | (with_reducible apply chg_when)
    | (with_reducible apply chg_ite)
    | (with_reducible apply chg_foldl)
    | (with_reducible apply chg_foldl_snd)
    | (with_reducible apply chg_ite_snd)
    | intro _ _ _
    | intro _
    | split
    | (dsimp -proj only)

theorem effectVectorUnmask_chg : ∀ a0 a1 d, Dev.changesOnly [.msix, .msixPend, .out] d (effectVectorUnmask a0 a1 d) := by
  intro a0 a1 d
  unfold effectVectorUnmask
  repeat' first
    | (with_reducible assumption)
    | (with_reducible exact chg_refl _ _)
    | ((with_reducible apply Dev.vectorControl_keep); exact rfl)
    | (with_reducible apply chg_when)
    | (with_reducible apply chg_ite)
    | (with_reducible apply chg_foldl)
    | (with_reducible apply chg_foldl_snd)
    | (with_reducible apply chg_ite_snd)
    | intro _ _ _
    | intro _
    | split
    | (dsimp -proj only)

theorem effectVfFlr_chg : ∀ a0 d, Dev.changesOnly [.regs, .stampHold, .log, .logSeq, .msix, .msixPend, .evt, .kqp, .ldg, .hif] d (effectVfFlr a0 d) := by
  intro a0 d
  unfold effectVfFlr
  repeat' first
    | (with_reducible assumption)
    | (with_reducible exact chg_refl _ _)
    | ((with_reducible apply Dev.flr_keep); exact rfl)
    | (with_reducible apply chg_when)
    | (with_reducible apply chg_ite)
    | (with_reducible apply chg_foldl)
    | (with_reducible apply chg_foldl_snd)
    | (with_reducible apply chg_ite_snd)
    | intro _ _ _
    | intro _
    | split
    | (dsimp -proj only)

theorem effectVoteReceive_chg : ∀ a0 d, Dev.changesOnly [.regs, .t0, .t1, .log, .logSeq, .six, .evt, .kqp, .out, .tir, .mkt, .ldg, .acr, .col, .fab, .tbn] d (effectVoteReceive a0 d) := by
  intro a0 d
  unfold effectVoteReceive
  repeat' first
    | (with_reducible assumption)
    | (with_reducible exact chg_refl _ _)
    | ((with_reducible apply Dev.takeVote_keep); exact rfl)
    | (with_reducible apply chg_ite)
    | (with_reducible apply chg_foldl)
    | (with_reducible apply chg_foldl_snd)
    | (with_reducible apply chg_ite_snd)
    | intro _ _ _
    | intro _
    | split
    | (dsimp -proj only)

theorem effectVoteTimeout_chg : ∀ a0 d, Dev.changesOnly [.regs, .t0, .t1, .log, .logSeq, .six, .evt, .kqp, .out, .tir, .mkt, .ldg, .acr, .col, .fab, .tbn] d (effectVoteTimeout a0 d) := by
  intro a0 d
  unfold effectVoteTimeout
  repeat' first
    | (with_reducible assumption)
    | (with_reducible exact chg_refl _ _)
    | ((with_reducible apply Dev.decide__keep); exact rfl)
    | ((with_reducible apply Dev.raiseLdg_keep); exact rfl)
    | ((with_reducible apply Dev.setJob_keep); exact rfl)
    | (with_reducible apply chg_when)
    | (with_reducible apply chg_ite)
    | (with_reducible apply chg_foldl)
    | (with_reducible apply chg_foldl_snd)
    | (with_reducible apply chg_ite_snd)
    | intro _ _ _
    | intro _
    | split
    | (dsimp -proj only)

theorem effectVx_chg : ∀ a0 a1 a2 d, Dev.changesOnly [.regs, .t0, .t1, .log, .logSeq, .evt, .kqp, .tir] d (effectVx a0 a1 a2 d) := by
  intro a0 a1 a2 d
  unfold effectVx
  repeat' first
    | (with_reducible assumption)
    | (with_reducible exact chg_refl _ _)
    | ((with_reducible apply Dev.runVx_keep); exact rfl)
    | (with_reducible apply chg_ite)
    | (with_reducible apply chg_foldl)
    | (with_reducible apply chg_foldl_snd)
    | (with_reducible apply chg_ite_snd)
    | intro _ _ _
    | intro _
    | split
    | (dsimp -proj only)

theorem effectWait_chg : ∀ a0 a1 d, Dev.changesOnly [.regs, .log, .logSeq, .msixPend, .six, .evt, .kqp, .out, .tir, .ldg, .col, .ccr] d (effectWait a0 a1 d) := by
  intro a0 a1 d
  unfold effectWait
  repeat' first
    | (with_reducible assumption)
    | (with_reducible exact chg_refl _ _)
    | ((with_reducible apply Dev.endControl_keep); exact rfl)
    | ((with_reducible apply Dev.setCmd_keep); exact rfl)
    | (with_reducible apply chg_ite)
    | (with_reducible apply chg_foldl)
    | (with_reducible apply chg_foldl_snd)
    | (with_reducible apply chg_ite_snd)
    | intro _ _ _
    | intro _
    | split
    | (dsimp -proj only)

theorem effectWakeDoneReceive_chg : ∀ a0 d, Dev.changesOnly [.regs, .col] d (effectWakeDoneReceive a0 d) := by
  intro a0 d
  unfold effectWakeDoneReceive
  repeat' first
    | (with_reducible assumption)
    | (with_reducible exact chg_refl _ _)
    | ((with_reducible apply Dev.takeWakeDone_keep); exact rfl)
    | (with_reducible apply chg_ite)
    | (with_reducible apply chg_foldl)
    | (with_reducible apply chg_foldl_snd)
    | (with_reducible apply chg_ite_snd)
    | intro _ _ _
    | intro _
    | split
    | (dsimp -proj only)

theorem effectWakeFrame_chg : ∀ a0 a1 a2 a3 a4 d, Dev.changesOnly [.regs, .t0, .t1, .log, .logSeq, .spr, .six, .evt, .kqp, .out, .tir, .mkt, .ldg, .acr, .col, .fab, .tbn, .sec, .pwr, .hif] d (effectWakeFrame a0 a1 a2 a3 a4 d) := by
  intro a0 a1 a2 a3 a4 d
  unfold effectWakeFrame
  repeat' first
    | (with_reducible assumption)
    | (with_reducible exact chg_refl _ _)
    | ((with_reducible apply Dev.incSat_keep); exact rfl)
    | ((with_reducible apply Dev.raise_keep); exact rfl)
    | ((with_reducible apply Dev.setPort_keep); exact rfl)
    | ((with_reducible apply Dev.wakeUp_keep); exact rfl)
    | (with_reducible apply chg_when)
    | (with_reducible apply chg_ite)
    | (with_reducible apply chg_foldl)
    | (with_reducible apply chg_foldl_snd)
    | (with_reducible apply chg_ite_snd)
    | intro _ _ _
    | intro _
    | split
    | (dsimp -proj only)

theorem effectWakeLockoutEnd_chg : ∀ a0 d, Dev.changesOnly [.fab] d (effectWakeLockoutEnd a0 d) := by
  intro a0 d
  unfold effectWakeLockoutEnd
  repeat' first
    | (with_reducible assumption)
    | (with_reducible exact chg_refl _ _)
    | ((with_reducible apply Dev.setPort_keep); exact rfl)
    | (with_reducible apply chg_when)
    | (with_reducible apply chg_ite)
    | (with_reducible apply chg_foldl)
    | (with_reducible apply chg_foldl_snd)
    | (with_reducible apply chg_ite_snd)
    | intro _ _ _
    | intro _
    | split
    | (dsimp -proj only)

theorem effectWindowConfig_chg : ∀ a0 a1 d, Dev.changesOnly [.regs, .log, .logSeq, .evt] d (effectWindowConfig a0 a1 d) := by
  intro a0 a1 d
  unfold effectWindowConfig
  repeat' first
    | (with_reducible assumption)
    | (with_reducible exact chg_refl _ _)
    | (with_reducible apply chg_when)
    | ((with_reducible apply Dev.writeWindow_keep); exact rfl)
    | (with_reducible apply chg_ite)
    | (with_reducible apply chg_foldl)
    | (with_reducible apply chg_foldl_snd)
    | (with_reducible apply chg_ite_snd)
    | intro _ _ _
    | intro _
    | split
    | (dsimp -proj only)

theorem effectWpkChunk_chg : ∀ a0 a1 a2 a3 a4 d, Dev.changesOnly [.regs, .t0, .t1, .log, .logSeq, .six, .evt, .kqp, .out, .tir, .mkt, .ldg, .wset, .fab, .tbn] d (effectWpkChunk a0 a1 a2 a3 a4 d) := by
  intro a0 a1 a2 a3 a4 d
  unfold effectWpkChunk
  repeat' first
    | (with_reducible assumption)
    | (with_reducible exact chg_refl _ _)
    | ((with_reducible apply Dev.chainAsk_keep); exact rfl)
    | ((with_reducible apply Dev.loadPoison_keep); exact rfl)
    | ((with_reducible apply Dev.openChunk_keep); exact rfl)
    | ((with_reducible apply Dev.takeChunk_keep); exact rfl)
    | (with_reducible apply chg_when)
    | (with_reducible apply chg_ite)
    | (with_reducible apply chg_foldl)
    | (with_reducible apply chg_foldl_snd)
    | (with_reducible apply chg_ite_snd)
    | intro _ _ _
    | intro _
    | split
    | (dsimp -proj only)

theorem effectWriteBackEnd_chg : ∀ a0 a1 a2 d, Dev.changesOnly [.regs, .t0, .t1, .log, .logSeq, .six, .evt, .kqp, .out, .tir, .mkt] d (effectWriteBackEnd a0 a1 a2 d) := by
  intro a0 a1 a2 d
  unfold effectWriteBackEnd
  repeat' first
    | (with_reducible assumption)
    | (with_reducible exact chg_refl _ _)
    | ((with_reducible apply Dev.moveDone_keep); exact rfl)
    | ((with_reducible apply Dev.releaseLeft_keep); exact rfl)
    | ((with_reducible apply Dev.serveWaits_keep); exact rfl)
    | ((with_reducible apply Dev.setTir_keep); exact rfl)
    | (with_reducible apply chg_when)
    | ((with_reducible apply Dev.writeDown_keep); exact rfl)
    | (with_reducible apply chg_ite)
    | (with_reducible apply chg_foldl)
    | (with_reducible apply chg_foldl_snd)
    | (with_reducible apply chg_ite_snd)
    | intro _ _ _
    | intro _
    | split
    | (dsimp -proj only)

theorem effectWsetDefWrite_chg : ∀ a0 a1 d, Dev.changesOnly [.regs, .log, .logSeq, .evt, .wset] d (effectWsetDefWrite a0 a1 d) := by
  intro a0 a1 d
  unfold effectWsetDefWrite
  repeat' first
    | (with_reducible assumption)
    | (with_reducible exact chg_refl _ _)
    | ((with_reducible apply Dev.badAccess_keep); exact rfl)
    | ((with_reducible apply Dev.lockedWrite_keep); exact rfl)
    | ((with_reducible apply Dev.setWset_keep); exact rfl)
    | ((with_reducible apply Dev.wr_keep); exact rfl)
    | (with_reducible apply chg_ite)
    | (with_reducible apply chg_foldl)
    | (with_reducible apply chg_foldl_snd)
    | (with_reducible apply chg_ite_snd)
    | intro _ _ _
    | intro _
    | split
    | (dsimp -proj only)

theorem effectWsetSwap_chg : ∀ a0 a1 d, Dev.changesOnly [.regs, .log, .logSeq, .evt, .kqp, .wset] d (effectWsetSwap a0 a1 d) := by
  intro a0 a1 d
  unfold effectWsetSwap
  repeat' first
    | (with_reducible assumption)
    | (with_reducible exact chg_refl _ _)
    | ((with_reducible apply Dev.failPart_keep); exact rfl)
    | ((with_reducible apply Dev.inc_keep); exact rfl)
    | ((with_reducible apply Dev.partRan_keep); exact rfl)
    | ((with_reducible apply Dev.raise_keep); exact rfl)
    | ((with_reducible apply Dev.setSlotState_keep); exact rfl)
    | ((with_reducible apply Dev.setWset_keep); exact rfl)
    | (with_reducible apply chg_when)
    | ((with_reducible apply Dev.wr_keep); exact rfl)
    | (with_reducible apply chg_ite)
    | (with_reducible apply chg_foldl)
    | (with_reducible apply chg_foldl_snd)
    | (with_reducible apply chg_ite_snd)
    | intro _ _ _
    | intro _
    | split
    | (dsimp -proj only)

end Sys2Proof.Machine
end

