-- ==== Sys2Proof/WellFormed.lean ====
section
/-! DEFINITION. Which commands are well formed: every operand lies in the range the spec gives it. A command's meaning is total: an operand outside
its range makes an event that the device ignores, so nothing rests on this check. -/

namespace Sys2Proof

/-! ### Numbers by width -/

def ok16 (n : Nat) : Bool := decide (n < 2 ^ 16)
def ok24 (n : Nat) : Bool := decide (n < 2 ^ 24)
def ok32 (n : Nat) : Bool := decide (n < 2 ^ 32)
def ok64 (n : Nat) : Bool := decide (n < 2 ^ 64)

/-! ### What operands name -/

/-- A function: 0 the PF, 1 to 8 the VFs (17_host_link_and_signpost.md R380). -/
def okFunc (f : Nat) : Bool := decide (f ≤ 8)

/-- A PCIe link, A or B (17_host_link_and_signpost.md R375). -/
def okLink (l : Nat) : Bool := decide (l < 2)

/-- A BAR0 offset: four-byte aligned, within the PF's 64 MiB (02_register_pages.md R33, R36). -/
def okOff (off : Nat) : Bool := decide (off < 2 ^ 26) && off % 4 == 0

/-- The size of an access in bytes (02_register_pages.md R35, R36). -/
def okSize (n : Nat) : Bool := [1, 2, 4, 8].contains n

/-- A queue of the device (03_klotchaex_command_stream.md R52). -/
def okQueue (q : Nat) : Bool := decide (q < 256)

/-- A part of a command: at most one for each of the 64 cores (03_klotchaex_command_stream.md R81). -/
def okPartIx (p : Nat) : Bool := decide (p < 64)

/-- A partition (16_weights_and_partitions.md R372). -/
def okPart (p : Nat) : Bool := decide (p < 8)

/-- A job (12_step_ledger.md R261). -/
def okJob (j : Nat) : Bool := decide (j < 8)

/-- A collective's group and a rank of one, 0xFFFF none (15_groups_and_collectives.md R335; 12_step_ledger.md R266). -/
def okGroup (g : Nat) : Bool := decide (g < 4096)
def okRank (r : Nat) : Bool := decide (r < 256 ∨ r = 0xFFFF)

/-- A unit type of the spare map, and how many units of it the device has, reserves included (01_one_step_through_the_device.md R25). -/
def okUnitType (t : Nat) : Bool := decide (t ≤ 10)

def unitCount : Nat → Nat
  | 0 => 72 | 1 => 18 | 2 => 9 | 3 => 9 | 4 => 5 | 5 => 5 | 6 => 5 | 7 => 3 | 8 => 18 | 9 => 18 | 10 => 2 | _ => 0

/-- A physical unit of a type: engines go by their slots (02_register_pages.md R33). -/
def okPhys (t n : Nat) : Bool :=
  let base := match t with
    | 2 => 18 | 3 => 27 | 4 => 36 | 5 => 41 | 6 => 46 | 7 => 51 | _ => 0
  decide (base ≤ n ∧ n < base + unitCount t)

/-- An Acrek unit, one for each stack (11_acrek_update.md R241). -/
def okAcr (k : Nat) : Bool := decide (k < 6)

/-- A reset domain D0 to D3 (18_faults_resets_dumps.md R399). -/
def okDomain (n : Nat) : Bool := decide (n ≤ 3)

/-- A fabric port and its rate code (13_fabric_ports.md R292). -/
def okPort (p : Nat) : Bool := decide (p < 24)
def okPortRate (r : Nat) : Bool := decide (1 ≤ r ∧ r ≤ 3)

/-- A priority class of PFC (13_fabric_ports.md R302). -/
def okClass (c : Nat) : Bool := decide (c < 8)

/-- A connection by its 24-bit id, its version and a path (14_tabnus_transport.md R310, R313). -/
def okConn (c : Nat) : Bool := ok24 c
def okVer (v : Nat) : Bool := decide (v < 16)
def okPath (p : Nat) : Bool := decide (p < 192)

/-- A Ring Road port and a line of the Market (04_market.md R86, R88). -/
def okBankPort (p : Nat) : Bool := decide (p < 156)
def okLine (l : Nat) : Bool := decide (l < 2 ^ 24)

/-- What a read shows: 0 sound, 1 corrected, 2 uncorrectable (04_market.md R98). -/
def okErr (e : Nat) : Bool := decide (e ≤ 2)

/-- An object of the directory and a residency unit of one (10_tiers_and_street_index.md R217, R223). -/
def okObj (k : Nat) : Bool := decide (k < 2 ^ 22)
def okUnit (u : Nat) : Bool := decide (u < 2 ^ 20)

/-- Who asks an SPDM question: a function's mailbox, or the sideband (9) (17_host_link_and_signpost.md R382; 20_time_power_module.md R449). -/
def okAsker (w : Nat) : Bool := decide (w ≤ 9)

/-! ### What operands hold -/

/-- Commands that a fetch brings: at most 64 (03_klotchaex_command_stream.md R57). -/
def okFetch (l : List Cmd) : Bool := decide (l.length ≤ 64)

/-- A DATA packet's payload and the body of a control message (14_tabnus_transport.md R312, R318). -/
def okPayload (b : List Byte) : Bool := decide (b.length ≤ 8192)
def okBody (b : List Byte) : Bool := decide (b.length ≤ 8192)

/-- An SPDM request (19_boot_and_trust.md R433). -/
def okReq (b : List Byte) : Bool := decide (2 ≤ b.length ∧ b.length ≤ 65536)

/-- An address family, 4 or 6 bytes long forms included, and an address of it (14_tabnus_transport.md R309). -/
def okFamily (f : Nat) : Bool := decide (f < 2)
def okAddr (f : Nat) (a : List Byte) : Bool := a.length == (if f = 0 then 4 else 16)

/-- An LLDP value (13_fabric_ports.md R305, R306; IEEE 802.1AB). -/
def okTlv (b : List Byte) : Bool := decide (b.length ≤ 511)

/-- A checksum fault of an array part: a streamed row of a chunk of at most 4,096 (05_matrix_array.md R106, R124). -/
def okFault : Option CsFault → Bool
  | none => true
  | some f => decide (f.row < 4096) && decide (f.rows ≤ 4096)

/-- A received frame's fields by their widths (13_fabric_ports.md R296 to R300). -/
def okFrame (f : RxFrame) : Bool := decide (f.vid < 4096) && decide (f.pcp < 8) && decide (f.dscp < 64) && decide (f.carries ≤ 7)

/-- A PTP message's fields by their widths (20_time_power_module.md R436). -/
def okPtp (m : PtpMsg) : Bool := decide (m.kind < 16) && decide (m.domain < 256) && ok16 m.seq && ok64 m.clock

/-- A checkpoint image's fields by their widths (12_step_ledger.md R279). -/
def okImage : Option Image → Bool
  | none => true
  | some g => decide (g.job < 8) && ok16 g.rank && ok64 g.step && ok64 g.cursor && decide (g.seed < 2 ^ 128)

/-! ### The check -/

/-- Every operand of a command lies in its range. -/
def Instr.wf : Instr → Bool
  | .registerWrite f off size _ => okFunc f && okOff off && okSize size
  | .unmappedAccess f off size _ _ => okFunc f && okOff off && okSize size
  | .pgModeWrite f off _ => okFunc f && okOff off
  | .pgEventClear f off _ hwSet status => okFunc f && okOff off && ok32 hwSet && ok16 status
  | .pgStampLoRead f off => okFunc f && okOff off
  | .d0Request f off => okFunc f && okOff off
  | .d1Request f off => okFunc f && okOff off
  | .d2Request f off => okFunc f && okOff off
  | .resetComplete dom _ _ => okDomain dom
  | .resetEscalation dom _ => okDomain dom
  | .doorbellWrite f n _ => okFunc f && okQueue n
  | .commandFetch q cmds => okQueue q && okFetch cmds
  | .commandStart q => okQueue q
  | .partEnd q i p fault => okQueue q && ok32 i && okPartIx p && ok16 fault
  | .layerDrain q _ => okQueue q
  | .layerRepeat q _ => okQueue q
  | .boundExpiry q i p => okQueue q && ok32 i && okPartIx p
  | .queueBlockedAlarm q => okQueue q
  | .queueEnable f n => okFunc f && okQueue n
  | .queueDisable f n => okFunc f && okQueue n
  | .resume f n => okFunc f && okQueue n
  | .flush f n => okFunc f && okQueue n
  | .semaphoreSet f _ => okFunc f
  | .semaphoreAdd f _ => okFunc f
  | .beaconSend q i => okQueue q && ok32 i
  | .beaconReceive body => okBody body
  | .spareSubstitution utype logical => okUnitType utype && decide (logical < unitCount utype)
  | .sprAssistDoorbell f h => okFunc f && ok32 h
  | .nop q i => okQueue q && ok32 i
  | .fence q i => okQueue q && ok32 i
  | .wait q i => okQueue q && ok32 i
  | .signal q i => okQueue q && ok32 i
  | .stamp q i => okQueue q && ok32 i
  | .stepOpen q i => okQueue q && ok32 i
  | .stepSeal q i => okQueue q && ok32 i
  | .ckpt q i => okQueue q && ok32 i
  | .restore q i img => okQueue q && ok32 i && okImage img
  | .reshard q i => okQueue q && ok32 i
  | .wsetSwap q i => okQueue q && ok32 i
  | .mm q i p bad => okQueue q && ok32 i && okPartIx p && okFault bad
  | .mmT q i p bad => okQueue q && ok32 i && okPartIx p && okFault bad
  | .conv q i p bad => okQueue q && ok32 i && okPartIx p && okFault bad
  | .attn q i p bad => okQueue q && ok32 i && okPartIx p && okFault bad
  | .slice64 q i p => okQueue q && ok32 i && okPartIx p
  | .slice32 q i p => okQueue q && ok32 i && okPartIx p
  | .sliceProductPhase q i p bad => okQueue q && ok32 i && okPartIx p && okFault bad
  | .localisationEnd p cols rows => okPhys 0 p && cols.all (fun c => decide (c < 130)) && rows.all (fun r => decide (r < 130))
  | .arrayRampDown p => okPhys 0 p
  | .vx q i p => okQueue q && ok32 i && okPartIx p
  | .sf q i p => okQueue q && ok32 i && okPartIx p
  | .norm q i p => okQueue q && ok32 i && okPartIx p
  | .route q i p => okQueue q && ok32 i && okPartIx p
  | .routePhase2 q i p => okQueue q && ok32 i && okPartIx p
  | .permute q i p => okQueue q && ok32 i && okPartIx p
  | .combine q i p => okQueue q && ok32 i && okPartIx p
  | .fft q i p => okQueue q && ok32 i && okPartIx p
  | .gather q i p => okQueue q && ok32 i && okPartIx p
  | .scatterAdd q i p => okQueue q && ok32 i && okPartIx p
  | .move q i => okQueue q && ok32 i
  | .prefetch q i => okQueue q && ok32 i
  | .evict q i => okQueue q && ok32 i
  | .pin q i => okQueue q && ok32 i
  | .unpin q i => okQueue q && ok32 i
  | .allreduce q i => okQueue q && ok32 i
  | .reduceScatter q i => okQueue q && ok32 i
  | .allgather q i => okQueue q && ok32 i
  | .alltoall q i => okQueue q && ok32 i
  | .bcastChain q i => okQueue q && ok32 i
  | .send q i => okQueue q && ok32 i
  | .recv q i => okQueue q && ok32 i
  | .barrier q i => okQueue q && ok32 i
  | .collectiveWaitTimeout q i rank => okQueue q && ok32 i && okRank rank
  | .update q i => okQueue q && ok32 i
  | .groupCfg q i => okQueue q && ok32 i
  | .stats q i => okQueue q && ok32 i
  | .acrWindowRelease k => okAcr k
  | .acrAssistDoorbell f k h => okFunc f && okAcr k && ok32 h
  | .loadWpk q i _ _ => okQueue q && ok32 i
  | .wpkChunk q i n bytes _ => okQueue q && ok32 i && ok32 n && decide (bytes.length ≤ 65536)
  | .chainAssistDoorbell f h => okFunc f && ok32 h
  | .wsetDefWrite f _ => okFunc f
  | .marketRead port part q i p line err => okBankPort port && okPart part && okQueue q && ok32 i && okPartIx p && okLine line && okErr err
  | .marketWrite port part q i p line mask data err => okBankPort port && okPart part && okQueue q && ok32 i && okPartIx p && okLine line && ok64 mask && decide (data.length ≤ 64) && okErr err
  | .reductionWrite port part q i p line mode stream pass _ data err => okBankPort port && okPart part && okQueue q && ok32 i && okPartIx p && okLine line && decide (mode < 4) && ok16 stream && ok16 pass && decide (data.length ≤ 64) && okErr err
  | .scrubRead line err => okLine line && okErr err
  | .bankCopyEnd b bad => decide (b < 256) && bad.all okLine
  | .quotaWrite _ n v => decide (n < 9) && ok32 v
  | .create f => okFunc f
  | .delete f => okFunc f
  | .query f => okFunc f
  | .refill f => okFunc f
  | .refillDone f => okFunc f
  | .reload f => okFunc f
  | .objectReference q i p h u _ err line => okQueue q && ok32 i && okPartIx p && ok32 h && okUnit u && okErr err && okLine line
  | .unitArrived k u data => okObj k && okUnit u && decide (data.length ≤ 2 ^ 30)
  | .writeBackEnd k u t => okObj k && okUnit u && decide (t ≤ 2)
  | .leavingRelease k u => okObj k && okUnit u
  | .tirAssistDoorbell f h => okFunc f && ok32 h
  | .t2ReadFail k u => okObj k && okUnit u
  | .t2Retry k u => okObj k && okUnit u
  | .sixRowRepair row fault => decide (row < 16384) && decide (fault < 66)
  | .hbmScrub k err => okObj k && okErr err
  | .deviceVote j => okJob j
  | .voteReceive _ => true
  | .holdSend j => okJob j
  | .holdReceive _ => true
  | .voteTimeout j => okJob j
  | .stallSend j => okJob j
  | .stallReceive _ => true
  | .coordinatorTakeover j => okJob j
  | .queryReceive _ => true
  | .answerReceive _ => true
  | .commitReceive _ => true
  | .commitApply j => okJob j
  | .abortReceive _ => true
  | .ldgAssistDoorbell f h => okFunc f && ok32 h
  | .ckptComplete j => okJob j
  | .ckptFailed j status => okJob j && ok16 status
  | .seedWrite f j _ => okFunc f && okJob j
  | .scaleBaseWrite f j _ => okFunc f && okJob j
  | .hostLinkLost link => okLink link
  | .parkReceive _ => true
  | .unpark j => okJob j
  | .unparkReceive _ => true
  | .parkLimitExpiry j => okJob j
  | .linkUp p rate => okPort p && okPortRate rate
  | .linkDown p => okPort p
  | .rateFallback p => okPort p
  | .laneFail p lane => okPort p && decide (lane < 4)
  | .portRetrain p => okPort p
  | .retrainClearLanes p => okPort p
  | .portDisable p => okPort p
  | .frameRefused p fr => okPort p && okFrame fr
  | .arpReceive p family target asker => okPort p && okFamily family && okAddr family target && okAddr family asker
  | .echoRequest p family target asker body => okPort p && okFamily family && okAddr family target && okAddr family asker && decide (body.length ≤ 9000)
  | .lldpduReceive p ttl chassis port tlv _ => okPort p && ok16 ttl && okTlv chassis && okTlv port && okTlv tlv
  | .lldpNeighbourExpire p => okPort p
  | .lldpSend p => okPort p
  | .pfcFrameReceive p vec quanta => okPort p && decide (vec < 256) && decide (quanta.length = 8) && quanta.all ok16
  | .pfcXoffRepeat p cls _ => okPort p && okClass cls
  | .pauseWatchdog p cls => okPort p && okClass cls
  | .pauseHoldoffEnd p cls => okPort p && okClass cls
  | .frameTransmit p _ => okPort p
  | .tsFifoPop p => okPort p
  | .ptpReceive p m => okPort p && okPtp m
  | .syncSend p => okPort p
  | .wakeFrame p fr _ etype token => okPort p && okFrame fr && ok16 etype && decide (token.length = 8)
  | .wakeLockoutEnd p => okPort p
  | .dataReceive conn ver psn msgId off epoch step group rank lenM1 stampN _ bytes => okConn conn && okVer ver && ok32 psn && ok32 msgId && ok32 off && ok16 epoch && ok32 step && okGroup group && okRank rank && ok32 lenM1 && ok64 stampN && okPayload bytes
  | .ctrlReceive conn ver psn msgId stampN _ body => okConn conn && okVer ver && ok32 psn && ok32 msgId && ok64 stampN && okBody body
  | .ctrlDeliver => true
  | .ackReceive conn ver cum bitmap stampN _ => okConn conn && okVer ver && ok32 cum && ok64 bitmap && ok64 stampN
  | .nackReceive conn ver psns _ => okConn conn && okVer ver && decide (psns.length ≤ 16) && psns.all ok32
  | .notReadyReceive conn ver psn => okConn conn && okVer ver && ok32 psn
  | .cnpReceive conn ver => okConn conn && okVer ver
  | .rateIncrease conn => okConn conn
  | .helloReceive port _ => okPort port
  | .helloAckReceive port conn _ => okPort port && okConn conn
  | .helloResend conn => okConn conn
  | .closeReceive conn => okConn conn
  | .packetCrcFail conn psn group rank msgId => okConn conn && ok32 psn && okGroup group && okRank rank && ok32 msgId
  | .ackSend conn => okConn conn
  | .nackSend conn => okConn conn
  | .retransmitTimeout conn => okConn conn
  | .probeSend peer path => ok64 peer && okPath path
  | .probeReceive peer path => ok64 peer && okPath path
  | .peerUnreachable peer => ok64 peer
  | .tbnAssistDoorbell f h => okFunc f && ok32 h
  | .connIdleClose conn => okConn conn
  | .joinSend => true
  | .becomeKeeper => true
  | .joinReceive body => okBody body
  | .rosterReceive body => okBody body
  | .hbSend => true
  | .hbReceive body => okBody body
  | .memberSuspect dev => ok64 dev
  | .memberRemove dev => ok64 dev
  | .keeperLoss => true
  | .keeperReceive body => okBody body
  | .leaveReceive body => okBody body
  | .unreachReceive body => okBody body
  | .spareWakeSend => true
  | .spareWakeTimeout => true
  | .wakeDoneReceive body => okBody body
  | .colAssistDoorbell f h => okFunc f && ok32 h
  | .redReceive src _ => ok64 src
  | .quoteReqReceive body => okBody body
  | .quoteReceive body => okBody body
  | .quoteTimeout dev => ok64 dev
  | .gracefulLeave => true
  | .leaveSend => true
  | .forget => true
  | .partitionWrite f p r _ => okFunc f && okPart p && decide (r < 3)
  | .vfFlr f => okFunc f
  | .perstAssert link => okLink link
  | .perstRelease link => okLink link
  | .hotReset link => okLink link
  | .bar2Read f _ len => okFunc f && decide (1 ≤ len ∧ len ≤ 4096)
  | .bar2Write f _ data => okFunc f && decide (1 ≤ data.length ∧ data.length ≤ 4096)
  | .windowConfig f _ => okFunc f
  | .vectorUnmask f n => okFunc f && decide (n < if f = 0 then 2048 else 256)
  | .sourceEnable f n _ => okFunc f && decide (n < 2048)
  | .sourceLatch n => decide (n < 2048)
  | .sourcePresent n => decide (n < 2048)
  | .hostMessage n => decide (n < 2048)
  | .eoi f n => okFunc f && decide (n < 2048)
  | .getVersion who req => okAsker who && okReq req
  | .getCapabilities who req => okAsker who && okReq req
  | .negotiateAlgorithms who req => okAsker who && okReq req
  | .getDigests who req => okAsker who && okReq req
  | .getCertificate who req => okAsker who && okReq req
  | .challenge who req => okAsker who && okReq req
  | .getMeasurements who req => okAsker who && okReq req
  | .clockFault island n => decide (island < 6) && ok16 n
  | .supplyFault => true
  | .selfTestRound => true
  | .selfTestEnd t p _ => okUnitType t && okPhys t p
  | .selfTestSlice t p => okUnitType t && okPhys t p
  | .closedUnitRetest t p => okUnitType t && okPhys t p
  | .fullSelfTestEnd t p _ => okUnitType t && okPhys t p
  | .d3Request f key => okFunc f && ok32 key
  | .d4Request f key => okFunc f && ok32 key
  | .lockstep => true
  | .dumpRequest => true
  | .dumpAgentTimeout ident => ok32 ident
  | .dumpComplete present skipped => present.all ok32 && skipped.all ok32
  | .dumpChunkFetch _ _ => true
  | .hltAssistDoorbell f h => okFunc f && ok32 h
  | .dumpToHost => true
  | .dumpCopyEnd => true
  | .bootStart => true
  | .stageComplete bad _ => bad.all ok32
  | .stageFail unit status => ok32 unit && ok16 status
  | .bootRestart => true
  | .bootAltDoorbell f h => okFunc f && ok32 h
  | .bootAltTimeout => true
  | .fwWrite img => ok32 img.length
  | .fwActivate => true
  | .fwCommit => true
  | .configRequest _ _ => true
  | .timeLock => true
  | .offsetAlarm => true
  | .timeStep f => okFunc f
  | .uncertaintyUpdate => true
  | .capWrite f _ => okFunc f
  | .governorAdjust _ => true
  | .tempSample temps => decide (temps.length = 32) && temps.all ok16
  | .thermalCapStep => true
  | .idleEntry => true
  | .standbyRequest f key => okFunc f && ok32 key
  | .dormantRequest f key => okFunc f && ok32 key
  | .pwrEnAssert => true
  | .pwrEnDeassert => true
  | .inputLow => true
  | .pldmGetSensor id => ok16 id
  | .pldmPowerCap v => ok32 v
  | .pldmWake => true
  | .pldmResetD4 => true
  | .pldmFirmwareUpdate img => ok32 img.length
  | .standbyRailRise slotId => decide (slotId < 8)
  | .standbyRailLoss => true
  | .pcieLinkUp link rate width _ => okLink link && decide (1 ≤ rate ∧ rate ≤ 6) && decide (1 ≤ width ∧ width ≤ 16)
  | .pcieConfigAccess f reg _ => decide (f ≤ 9) && decide (reg < 1024)
  | .doeDiscovery f index => okFunc f && decide (index < 256)
  | .mctpSetEndpointId eid => decide (eid < 256)
  | .pauseExpiry p cls => okPort p && okClass cls
  | .fwWriteComplete _ => true

end Sys2Proof
end

