-- ==== Sys2Proof/Tests/Slice0.lean ====
section
/-! SUPPORT. The model's own tests: for the statements of Sys2Proof/Certificates/Slice0/Obligations.lean, states and operands that meet the hypotheses of each
clause; well-formed and ill-formed operands; values that the spec states. -/

open Sys2Proof Sys2Proof.Machine

namespace Sys2Proof.Tests

set_option Elab.async false

/-! ### Small states -/

/-- The machine with a device and nothing waiting. -/
def st (d : Dev) : State := { dev := d, pending := [] }

/-- The device after reset with some fields written. -/
def regsOf (l : List (Fld × Nat)) : Dev := l.foldl (fun d e => d.wr e.1 e.2) Dev.reset

/-- ENABLE and the state of queue 0, and the queue. -/
def q0 (state : Nat) (q : Queue) (l : List (Fld × Nat)) : Dev :=
  (regsOf ([(F.qCfg_enable 0 0, 1), (F.qState_state 0 0, state)] ++ l)).setQueue 0 q

/-- A command of an opcode with the version this generation accepts, and the header fields given as (lowest bit, value). -/
def cmdOf (op : Nat) (l : List (Nat × Nat)) : Cmd := BitVec.ofNat 512 ((l.foldl (fun a e => a + e.2 * 2 ^ e.1) 0) + op + 2 ^ 12)

/-- Queue 0 holds `fetched` and runs `exec`. -/
def busy (fetched : List Cmd) (exec : List CmdEx) : Dev :=
  q0 qsACTIVE { fetched := fetched.zipIdx.map (fun e => (e.2, e.1, 0)), exec := exec } []

/-- A running command of queue 0 with index 0 and one part. -/
def run1 (c : Cmd) (x : Part) : CmdEx := { count := 0, cmd := c, start := 0, handle := 0, parts := [x] }

/-- Queue 0 runs one command. -/
def running (c : Cmd) : Dev := busy [] [run1 c {}]

/-- A job 0 whose newest attempt is `r`. -/
def attempt (d : Dev) (j : JobState) (r : LedgerRec) : Dev := d.setJob 0 { j with ring := [(0, r)], opened := true }

/-- An attempt of step 0 of job 0 in a state. -/
def att (state : Nat) : LedgerRec := { step := 0, attempt := 0, state := state, job := 0 }

/-! ### Register pages: witnesses of the premises -/

theorem test_register_write_premises : ∃ (p : Page) (o : Nat) (r : RegAt),
    Dev.reset.msixAt 0 0x30088 = none ∧ Dev.reset.pageAt 0 0x30088 = some (p, o) ∧ 0x80 ≤ o ∧ Dev.reset.regAt p o = some r ∧
    ¬(r.blk = .evt ∧ 1 ≤ r.page ∧ r.page ≤ 4) ∧ r.ownRow = false ∧ Dev.reset.flag (hLock r.pf) = false ∧
    r.jobField (r.next (Dev.reset.reg r.key) (r.taken 0x5#32) false) = none :=
  ⟨_, _, _, by decide +kernel, rfl, by decide +kernel, rfl, by decide +kernel, by decide +kernel, by decide +kernel, by decide +kernel⟩

/-- The job field of a Q_CFG write names a job of the queue's partition. -/
theorem test_register_write_job_premise : ∃ (p : Page) (o : Nat) (r : RegAt),
    Dev.reset.pageAt 0 (F.qCfg_enable 0 1).addr = some (p, o) ∧ Dev.reset.regAt p o = some r ∧
    (∀ x, r.jobField (r.next (Dev.reset.reg r.key) (r.taken 0#32) false) = some x →
      Dev.reset.rd (F.ldgJobCfg_part (bitsAt (r.taken 0#32).toNat x.1 3)) = x.2) :=
  ⟨_, _, _, rfl, rfl, fun x h => by
    have : (Dev.reset.rd (F.ldgJobCfg_part (bitsAt (0#32).toNat 8 3))) = 0 := by decide +kernel
    revert h; revert x; decide +kernel⟩

theorem test_access_premises : Dev.reset.mapped 0 0x30088 = true ∧ 0x30088 % 8 = 0 ∧ Dev.reset.mapped 0 0x3FFFFF8 = false ∧
    wellFormedAccess 0x3FFFFF8 4 = true ∧ Dev.reset.mapped 0 0x30089 = true := by decide +kernel

theorem test_locked_write_premises : ∃ (p : Page) (o : Nat) (r : RegAt),
    Dev.reset.pageAt 0 0x30088 = some (p, o) ∧ Dev.reset.regAt p o = some r ∧
    (regsOf [(hLock (pfPage .hlt 0 0), 1)]).flag (hLock r.pf) = true ∧ r.blk ≠ .col ∧ (∀ y ∈ r.fields, y.access = .rwl) ∧
    r.wouldChange ((regsOf [(hLock (pfPage .hlt 0 0), 1)]).reg r.key).toNat (r.taken 0x5#32).toNat = true :=
  ⟨_, _, _, rfl, rfl, by decide +kernel, by decide +kernel, by decide +kernel, by decide +kernel⟩

theorem test_pg_mode_premises : Dev.reset.msixAt 0 0xC = none ∧ Dev.reset.pageAt 0 0xC = some (pfPage .glb 0 0, 0xC) ∧
    Dev.reset.pageAt 0 ((pfPage .ldg 0 0).offset + 0xC) = some (pfPage .ldg 0 0, 0xC) ∧
    (regsOf [(F.glbPart_enable 0, 1), (F.glbPart_func 0, 1)]).pageAt 1 0x1000C = some (⟨1, .kqp, 0, 0⟩, 0xC) ∧
    (regsOf [(F.glbPart_enable 0, 1), (F.glbPart_func 0, 1)]).msixAt 1 0x1000C = none := by decide +kernel

theorem test_event_premises : Dev.reset.pageAt 0 0x14 = some (pfPage .glb 0 0, 0x14) ∧ (pageCaps (pfPage .glb 0 0)).event = true ∧
    (0x80000000#32).getLsbD 31 = true ∧ Dev.reset.pageAt 0 0x30020 = some (pfPage .hlt 0 0, 0x20) ∧
    (pageCaps (pfPage .hlt 0 0)).event = true := by decide +kernel

/-! ### Resets -/

/-- The first core's page, with a D1 of that core running. -/
def resetting (dom start now : Nat) : Dev := { Dev.reset with now := now, spr := { resets := [⟨dom, 0, start⟩] } }

theorem test_reset_request_premises : Dev.reset.pageAt 0 ((pfPage .ccr 0 0).offset + 0x2C) = some (pfPage .ccr 0 0, 0x2C) ∧
    bitOf (pageCaps (pfPage .ccr 0 0)).reset 1 = true ∧ bitOf (pageCaps (pfPage .ccr 0 0)).reset 2 = false ∧
    (regsOf [(F.glbPart_enable 0, 1), (F.glbPart_func 0, 1)]).pageAt 1 0x1002C = some (⟨1, .kqp, 0, 0⟩, 0x2C) := by decide +kernel

theorem test_reset_ending_premises : (∃ r ∈ (resetting 1 0 0).spr.resets, r.dom = 1 ∧ r.unit = 0) ∧
    (resetting 0 0 (20 * usQ)).spr.resets.find? (fun r => r.dom == 0 && r.unit == 0) = some ⟨0, 0, 0⟩ ∧
    (resetting 1 0 (200 * usQ)).spr.resets.find? (fun r => r.dom == 1 && r.unit == 0) = some ⟨1, 0, 0⟩ ∧
    (resetting 0 1 (20 * usQ)).now < 1 + resetBound 0 := by decide +kernel

theorem test_device_reset_premise : ¬((1 : Nat) = 0 ∧ 0xA5 = 0xA5) ∧ ¬((0 : Nat) = 0 ∧ 0xA4 = 0xA5) := by decide

theorem test_monitor_premises : (∀ m ∈ Dev.reset.hlt.monitors, m.1 = 6 * 256 → m.2 = 0) ∧
    (6 * 256, 2) ∈ ({ Dev.reset with hlt := { monitors := [(6 * 256, 2)] } } : Dev).hlt.monitors ∧ 0 < 2 - 1 + secQ := by decide +kernel

/-- A test of core 0 in place: its logical unit is the core itself. -/
def testingNow (now slices : Nat) : Dev :=
  { Dev.reset with now := now, hlt := { testing := [{ utype := 0, phys := 0, start := 1, inPlace := true, slices := slices }] } }

theorem test_self_test_premises : (testingNow (60 * secQ) 0).flag F.hltStCfg_en = true ∧
    (testingNow (60 * secQ) 0).hlt.roundAt + (testingNow (60 * secQ) 0).rd F.hltStCfg_round * secQ ≤ (testingNow (60 * secQ) 0).now ∧
    (testingNow (60 * secQ) 0).hlt.nextRound < 27 ∧
    (∃ x, (testingNow 0 (2 ^ 40)).hlt.testing.find? (fun x => x.is 0 0) = some x ∧ x.inPlace = true ∧ x.ran 0 = true ∧ x.logical = 0 ∧
      (testingNow 0 (2 ^ 40)).unitIdle 0 0 = true) ∧
    (∃ x, (testingNow 0 0).hlt.testing.find? (fun x => x.is 0 0) = some x ∧ x.inPlace = true ∧ x.ran 0 = false) :=
  ⟨by decide +kernel, by decide +kernel, by decide +kernel, ⟨_, rfl, rfl, by decide +kernel, rfl, by decide +kernel⟩, ⟨_, rfl, rfl, by decide +kernel⟩⟩

/-- Core 71 stands closed, with its full self-test owed or begun. -/
def closedCore (full : Nat) : Dev :=
  { Dev.reset with now := 2 ^ 60, spr := { units := [(unitKey 0 71, { role := 3, full := full })] } }

theorem test_closed_unit_premises : ((closedCore 0).physUnit 0 71).role = 3 ∧ ((closedCore 0).physUnit 0 71).full = 0 ∧
    ((closedCore 0).physUnit 0 71).testFrom + secQ ≤ (closedCore 0).now ∧ ((closedCore 1).physUnit 0 71).full - 1 + testQns 0 ≤ (closedCore 1).now ∧
    Dev.reset.reserves 10 = [1] ∧ Dev.reset.physOf 10 0 = some 0 ∧
    ({ Dev.reset with spr := { units := [(unitKey 10 1, { role := 3 })] } } : Dev).reserves 10 = [] := by decide +kernel

/-! ### The command stream -/

theorem test_doorbell_premises : Dev.reset.queueOf 0 255 = some 255 ∧ (q0 qsIDLE {} [(F.qCfg_log2Size 0 0, 6)]).doorbellBad 0 64 = false ∧
    (q0 qsIDLE {} [(F.qCfg_log2Size 0 0, 6)]).doorbellBad 0 65 = true ∧ Dev.reset.queueOf 0 256 = none ∧ Dev.reset.queueOf 1 0 = none := by
  decide +kernel

theorem test_fetch_premises : (q0 qsACTIVE {} [(F.qTail_count 0 0, 64)]).works 8 0 = true ∧
    (q0 qsACTIVE {} [(F.qTail_count 0 0, 64)]).qEnabled 0 = true ∧ ((q0 qsACTIVE {} [(F.qTail_count 0 0, 64)]).queue 0).disabling = false ∧
    (q0 qsACTIVE {} [(F.qTail_count 0 0, 64)]).qSt 0 ≠ qsDISABLED ∧
    64 ≤ ((q0 qsACTIVE {} [(F.qTail_count 0 0, 64)]).qTail 0 + 2 ^ 32 - (q0 qsACTIVE {} [(F.qTail_count 0 0, 64)]).qHead 0) % 2 ^ 32 ∧
    ((q0 qsACTIVE {} [(F.qTail_count 0 0, 64)]).queue 0).held + 64 ≤ 64 ∧ Dev.reset.qEnabled 0 = false := by decide +kernel

theorem test_start_premises : (busy [cmdOf opNOP []] []).startWay 0 = some .go ∧ (busy [cmdOf opNOP []] []).waitMet 0 0 0 (cmdOf opNOP []) = true ∧
    (busy [cmdOf opNOP []] []).outranked 0 = false ∧ cmdWaitEn (cmdOf opNOP [(16, 1)]) = true ∧
    (busy [cmdOf opNOP [(16, 1)]] []).startWay 0 = some .go ∧ (busy [cmdOf opNOP [(16, 1)]] []).waitMet 0 0 0 (cmdOf opNOP [(16, 1)]) = true ∧
    (busy [cmdOf 0xFFF []] []).startWay 0 = some (.reject St.badOpcode) ∧
    (busy [cmdOf opNOP [(16, 1), (80, 5)]] []).startWay 0 = some (.hold 0) ∧ (busy [cmdOf opNOP [(21, 1)]] []).startWay 0 = some (.hold 1) ∧
    (busy [] []).startWay 0 = none := by decide +kernel

/-- Queue 0 holds one layer with id 1 and one command that has ended. -/
def layer (r : LayerRun) (x : Part) : Dev :=
  q0 qsACTIVE { exec := [{ count := 0, cmd := cmdOf opNOP [], start := 0, handle := 0, parts := [x], run := 1, fin := true }], runs := [r] } []

theorem test_discard_premise :
    (attempt (busy [cmdOf opNOP [(21, 1)]] []) {} (att stABORTED)).startWay 0 = some .discard := by decide +kernel

theorem test_part_and_layer_premises :
    (∃ e, (busy [] [run1 (cmdOf opNOP []) { ran := true }]).cmdAt 0 0 = some e ∧ e.parts[0]? = some { ran := true }) ∧
    (∃ r, ((layer { id := 1, layer := 0, size := 1, ended := true } { ended := true }).queue 0).runs.find? (fun r => r.id == 1) = some r ∧
      ((layer { id := 1, layer := 0, size := 1, ended := true } { ended := true }).queue 0).drained r = true ∧ r.flagged = false ∧
      ((layer { id := 1, layer := 0, size := 1, ended := true } { ended := true }).queue 0).exec.all (fun e => e.run == 1) = true) ∧
    (∃ r, ((layer { id := 1, layer := 0, size := 1, flagged := true } { ended := true, status := St.badField }).queue 0).runs.find?
        (fun r => r.id == 1) = some r ∧ r.flagged = true ∧
      (((layer { id := 1, layer := 0, size := 1, flagged := true } { ended := true, status := St.badField }).queue 0).runCmds 1).all (fun e => e.fin) = true ∧
      (((layer { id := 1, layer := 0, size := 1, flagged := true } { ended := true, status := St.badField }).queue 0).runCmds 1).any
        (fun e => e.failed) = true) ∧
    (∃ r, ((layer { id := 1, layer := 0, size := 1, flagged := true } { ended := true }).queue 0).runs.find? (fun r => r.id == 1) = some r ∧
      r.flagged = true ∧ (((layer { id := 1, layer := 0, size := 1, flagged := true } { ended := true }).queue 0).runCmds 1).any (fun e => e.failed) = false ∧
      ((layer { id := 1, layer := 0, size := 1, flagged := true } { ended := true }).widenAll
        ((layer { id := 1, layer := 0, size := 1, flagged := true } { ended := true }).widened 0 r)).isSome = true) :=
  ⟨⟨_, rfl, rfl⟩, ⟨_, rfl, by decide +kernel, rfl, by decide +kernel⟩, ⟨_, rfl, rfl, by decide +kernel, by decide +kernel⟩,
   ⟨_, rfl, rfl, by decide +kernel, rfl⟩⟩

theorem test_bound_premises : (run1 (cmdOf opNOP []) { bound := 5 }).parts[0]? = some { bound := 5 } ∧ ({ bound := 5 } : Part).expired 5 = true ∧
    ({ bound := 5 } : Part).expired 4 = false ∧ (busy [] [run1 (cmdOf opNOP []) { bound := 5 }]).allocLack 0 0 0 = none ∧
    ((({ busy [] [run1 (cmdOf opNOP []) { bound := 5 }] with now := 5 } : Dev).faultPart 0 0 0 St.boundExceeded).raise hltPage 0 St.boundExceeded
      (({ busy [] [run1 (cmdOf opNOP []) { bound := 5 }] with now := 5 } : Dev).causeOf 0 (cmdOf opNOP []))).flag F.hltDumpCtrl_onBound = false ∧
    (q0 qsBLOCKED {} []).qSt 0 = qsBLOCKED ∧
    ((q0 qsBLOCKED {} []).queue 0).blockedAt + (q0 qsBLOCKED {} []).timeout (pfPage .kqp 0 1) (10 * secQ) < 10 * secQ + 1 := by decide +kernel

theorem test_queue_control_premises : (q0 qsDISABLED {} []).queueOf 0 0 = some 0 ∧ (q0 qsDISABLED {} []).qSt 0 = qsDISABLED ∧
    (q0 qsIDLE {} []).qSt 0 ≠ qsDISABLED ∧ ((q0 qsIDLE {} []).queue 0).exec = [] ∧ (q0 qsSTOPPED {} []).qSt 0 = qsSTOPPED ∧
    ((q0 qsSTOPPED {} []).queue 0).disabling = false ∧ (q0 qsIDLE {} []).qSt 0 ≠ qsSTOPPED := by decide +kernel

theorem test_semaphore_premises : (regsOf [(F.kqpSemSel_partition, 7), (F.kqpSemSel_index, 65535)]).semSel 0 = some (7, 65535) := by decide +kernel

/-- The worked example of R71: a semaphore at 0x0001_0003 has reached 0xFFFE. -/
theorem test_semaphore_reached : semReached 0x00010003 0xFFFE = true ∧ semReached 0x00018002 0x0003 = true ∧ semReached 0x00018003 0x0003 = false := by decide +kernel

theorem test_wait_premises :
    mapLook ((busy [] [run1 (cmdOf opWAIT [(128, 1)]) {}]).setQueue 0 { waited := true, exec := [run1 (cmdOf opWAIT [(128, 1)]) {}] }).kqp.queues 0 =
      some { waited := true, exec := [run1 (cmdOf opWAIT [(128, 1)]) {}] } ∧ cmdOpcode (cmdOf opWAIT [(128, 1)]) = opWAIT := by decide +kernel

theorem test_control_premises : (running (cmdOf opNOP [])).partReady 0 0 0 opNOP = true ∧ (running (cmdOf opFENCE [])).partReady 0 0 0 opFENCE = true ∧
    (running (cmdOf opSIGNAL [(128, 1)])).partReady 0 0 0 opSIGNAL = true ∧ (running (cmdOf opSTAMP [])).partReady 0 0 0 opSTAMP = true ∧
    (running (cmdOf opWAIT [(128, 1)])).partReady 0 0 0 opWAIT = true ∧
    (running (cmdOf opWAIT [(128, 1)])).waitMask 0 (cmdOf opWAIT [(128, 1)]) = 2 ^ cmdCount (cmdOf opWAIT [(128, 1)]) - 1 ∧
    (running (cmdOf opWAIT [(128, 1), (176, 1)])).waitMask 0 (cmdOf opWAIT [(128, 1), (176, 1)]) ≠ 2 ^ 1 - 1 := by decide +kernel

theorem test_beacon_premises : cmdBeacon (cmdOf opNOP [(24, 1)]) = true ∧ (running (cmdOf opNOP [(24, 1)])).flag (F.qBeacon_all 0 0) = false ∧
    0 + (0 + 1) * ((running (cmdOf opNOP [(24, 1)])).rd (F.kqpBeaconCfg_period 0) * msQ) ≤ 2 ^ 60 ∧ cmdBeacon (cmdOf opNOP []) = false := by decide +kernel

/-- Core 0's identity is without a unit. -/
def lost0 : Dev := { Dev.reset with spr := { map := [(unitKey 0 0, 0)], units := [(unitKey 0 0, { role := 3 })] } }

theorem test_spare_premises : lost0.reserves 0 = 64 :: range' 65 7 ∧ (lost0.unmapped 0).filter (lost0.mayMap 0) = [0] ∧
    (lost0.unmapped 0).any (lost0.mayMap 0) = true ∧ lost0.freeTested 0 = lost0 ∧
    ({ lost0 with spr := { lost0.spr with recs := [⟨1, 0, 0, 0, 0, 0⟩] } } : Dev).spr.recs.find? (fun r => r.handle == 1) = some ⟨1, 0, 0, 0, 0, 0⟩ ∧
    lost0.spr.recs.find? (fun r => r.handle == 1) = none := by decide +kernel

/-! ### The Step Ledger, weight sets and partitions -/

/-- Queue 0 runs one command and job 0 stands as given. -/
def ledger (c : Cmd) (j : JobState) (r : LedgerRec) (l : List (Fld × Nat)) : Dev :=
  attempt (l.foldl (fun d e => d.wr e.1 e.2) (running c)) j r

/-- Job 0 is known and its newest attempt is of step 0. -/
def job0 (j : JobState) (state : Nat) : Dev := ledger (cmdOf opNOP []) j (att state) [(F.ldgJobCfg_group 0, 0), (F.ldgJobState_job 0, 1)]

theorem test_step_command_premises : (running (cmdOf opSTEP_OPEN [])).partReady 0 0 0 opSTEP_OPEN = true ∧
    (running (cmdOf opSTEP_OPEN [])).openWaits 0 = false ∧ (running (cmdOf opSTEP_OPEN [])).openAttempt 0 0 = some 0 ∧
    (ledger (cmdOf opSTEP_OPEN []) {} (att 5) []).openAttempt 0 0 = some 1 ∧ (ledger (cmdOf opSTEP_OPEN []) {} (att 5) []).openAttempt 0 7 = none ∧
    (ledger (cmdOf opSTEP_SEAL []) {} (att stOPEN) []).partReady 0 0 0 opSTEP_SEAL = true ∧
    (ledger (cmdOf opSTEP_SEAL []) {} (att stOPEN) []).newest 0 = some (att stOPEN) ∧
    (ledger (cmdOf opSTEP_SEAL []) { coordRank := 1 } (att stOPEN) []).coordinates 0 = false ∧
    (ledger (cmdOf opSTEP_SEAL []) {} (att stOPEN) []).assist ldgPage = false ∧
    (ledger (cmdOf opCKPT []) {} (att stOPEN) []).partReady 0 0 0 opCKPT = true ∧ (ledger (cmdOf opCKPT []) {} (att stOPEN) []).attemptLive 0 = true ∧
    ((ledger (cmdOf opCKPT []) { voted := true } (att stSEALED) []).job 0).voted = true := by decide +kernel

/-- A complete image of step 0 with no objects. -/
def image0 : Image :=
  { job := 0, rank := 0, step := 0, complete := true, recStep := 0, recState := stCOMMITTED, recChk := 0, cursor := 0, seed := 0, seedChk := 0,
    rngStep := 0, objs := [], groups := [], routing := [] }

theorem test_restore_premises : (running (cmdOf opRESTORE [])).partReady 0 0 0 opRESTORE = true ∧ rstSource (cmdOf opRESTORE []) ≠ 1 ∧
    (running (cmdOf opRESTORE [])).restoreCheck 0 0 (cmdOf opRESTORE []) (some image0) = none := by decide +kernel

theorem test_own_vote_premises : (job0 {} stSEALED).newest 0 = some (att stSEALED) ∧ ((job0 {} stSEALED).job 0).voted = false ∧
    ((job0 {} stSEALED).job 0).sealUpdates ≤ ((job0 {} stSEALED).job 0).updatesDone ∧ (job0 {} stSEALED).ckptRunning 0 = false ∧
    ((job0 { failWith := some (3, 0) } stOPEN).job 0).failWith = some (3, 0) ∧ Dev.reset.newest 0 = none := by decide +kernel

/-- A control message of group 0, step 0 and attempt 0, with more fields. -/
def msg (l : List (Nat × Nat)) : Cmd := BitVec.ofNat 512 (l.foldl (fun a e => a + e.2 * 2 ^ e.1) 0)

theorem test_message_premises : (job0 {} stOPEN).msgJob (readLdgMsg (msg [])) = some (0, true) ∧
    (job0 {} stOPEN).msgJob (readLdgMsg (msg [(64, 1)])) = some (0, false) ∧ (job0 {} stOPEN).msgJob (readLdgMsg (msg [(32, 9)])) = none ∧
    ((job0 { boundFrom := 1 } stOPEN).job 0).decision = none ∧ (job0 { boundFrom := 1 } stOPEN).attemptLive 0 = true ∧
    ((job0 { boundFrom := 1 } stOPEN).job 0).boundFrom ≠ 0 ∧ ((job0 {} stOPEN).job 0).term ≤ (readLdgMsg (msg [])).term ∧
    (job0 {} stOPEN).assist ldgPage = false := by decide +kernel

theorem test_coordinator_premises : (job0 {} stOPEN).coordinates 0 = true ∧ ((job0 {} stOPEN).job 0).holdNext ≤ (job0 {} stOPEN).now ∧
    ((job0 { boundFrom := 1 } stOPEN).job 0).boundFrom - 1 + (job0 { boundFrom := 1 } stOPEN).voteBound 0 ≤ 2 ^ 60 ∧
    ((job0 {} stOPEN).wr (hMode ldgPage) 1).assist ldgPage = true ∧ ((job0 { stallFrom := 1, coordRank := 1 } stOPEN).job 0).stallFrom ≠ 0 ∧
    (job0 { stallFrom := 1, coordRank := 1 } stOPEN).coordinates 0 = false := by decide +kernel

theorem test_takeover_premises : ((job0 { voted := true, coordRank := 1 } stSEALED).job 0).voted = true ∧
    ((job0 { voted := true, coordRank := 1 } stSEALED).job 0).coordRank ≠ (job0 { voted := true, coordRank := 1 } stSEALED).grpRank 0 ∧
    ((job0 { voted := true, coordRank := 1 } stSEALED).job 0).heard + (job0 { voted := true } stSEALED).rd F.ldgCfg_takeover * msQ ≤ 2 ^ 60 ∧
    bitOf (readLdgMsg (msg [(10, 1)])).flags 2 = true ∧ ((job0 { querying := true } stSEALED).job 0).querying = true ∧
    ((job0 { querying := true } stSEALED).job 0).recovering = false := by decide +kernel

theorem test_decision_premises : (job0 {} stREADY).newest 0 = some (att stREADY) ∧ (job0 {} stREADY).now ≤ (readLdgMsg (msg [(192, 5)])).t ∧
    ((job0 { decision := some ⟨true, 5, 1, 0, 0, 0, 0⟩ } stREADY).job 0).decision = some ⟨true, 5, 1, 0, 0, 0, 0⟩ ∧
    (job0 {} stOPEN).jobOfGroup (cmdBits (msg []) 2 0 12) = some 0 ∧ (att stOPEN).step = cmdBits (msg []) 16 0 64 ∧
    (att stOPEN).attempt = cmdBits (msg []) 24 0 16 ∧ ((job0 { redSeen := true } stOPEN).job 0).redSeen = true ∧
    cmdBits (msg []) 32 0 64 < ({ att stOPEN with tOpen := 1 } : LedgerRec).tOpen ∧ (att stOPEN).tOpen ≤ cmdBits (msg []) 32 0 64 ∧
    (List.range 8).find? (fun j => ((job0 { assist := 3 } stSEALED).job j).assist == 3 && (3 : Nat) != 0) = some 0 ∧
    ((job0 { assist := 3 } stSEALED).job 0).drain = none ∧
    (List.range 8).find? (fun j => ((job0 {} stSEALED).job j).assist == 3 && (3 : Nat) != 0) = none := by decide +kernel

theorem test_image_and_parking_premises : ((job0 { drain := some { image := image0, left := 0 } } 5).job 0).drain = some { image := image0, left := 0 } ∧
    (job0 {} 5).jobOfGroup (readLdgMsg (msg [])).group = some 0 ∧
    (job0 { parked := [0] } 5).grpRank ((job0 { parked := [0] } 5).commitGroup 0) ∈ ((job0 { parked := [0] } 5).job 0).parked ∧
    ((job0 { parked := [0] } 5).job 0).parkedAt + (job0 { parked := [0] } 5).rd F.ldgCfg_parkLimit * secQ ≤ 2 ^ 60 := by decide +kernel

theorem test_seed_and_scale_premises : (Dev.reset.pageAt 0 ((⟨0, .rng, 0, 0⟩ : Page).offset + 0x8C + 0x20 * 7)).isSome = true ∧
    Dev.reset.attemptLive 0 = false ∧ ((job0 {} stOPEN).pageAt 0 ((⟨0, .rng, 0, 0⟩ : Page).offset + 0x8C)).isSome = true ∧
    (job0 {} stOPEN).attemptLive 0 = true ∧ (Dev.reset.pageAt 0 (F.ldgScaleBase_handle 7).addr).isSome = true ∧
    Dev.reset.flag (hLock (pfPage .ldg 0 4)) = false := by decide +kernel

/-- Set 1 is defined, with its slots in two states; WSET_SEL selects it. -/
def wsets (c : Cmd) (s0 s1 : Nat) : Dev :=
  let d := ((running c).wr (F.wsetState_slot0.bank 1) s0).wr (F.wsetState_slot1.bank 1) s1
  (d.wr F.wsetSel_set 1).setWset { d.wset with defined := [1] }

theorem test_weight_set_premises : (wsets (cmdOf opNOP []) 0 0).rd F.wsetSel_set ≠ 0 ∧ (Dev.reset.pageAt 0 F.wsetDef_base.addr).isSome = true ∧
    (wsets (cmdOf opNOP []) 0 0).flag (hLock wsetPage) = false ∧ (wsets (cmdOf opNOP []) 0 0).slotState 1 0 = 0 ∧
    (wsets (cmdOf opNOP []) 2 0).slotState 1 0 ≠ 0 ∧ bitsAt (0xFFFF0000#32).toNat 0 16 + bitsAt (0xFFFF0000#32).toNat 16 16 + 1 ≤ 65536 ∧
    (wsets (cmdOf opWSET_SWAP [(128, 1)]) 3 2).partReady 0 0 0 opWSET_SWAP = true ∧
    swapSet ((wsets (cmdOf opWSET_SWAP [(128, 1)]) 3 2).cmdBody 0 0) ∈ (wsets (cmdOf opWSET_SWAP [(128, 1)]) 3 2).wset.defined ∧
    (wsets (cmdOf opWSET_SWAP [(128, 1)]) 3 2).swapTo 1 = some 1 ∧ 2 ∉ (wsets (cmdOf opWSET_SWAP [(128, 2)]) 3 2).wset.defined := by decide +kernel

/-- Header, key and length fields of a package of 8 chunks, as far as a load reads them: CHUNK_COUNT at byte 32. -/
def tables0 : List Byte := List.replicate 32 0 ++ leBytes 4 8 ++ List.replicate 60 0

/-- The command of queue 0 has an open load. -/
def loading (l : Load) : Dev :=
  (running (cmdOf opLOAD_WPK [(128, 1)])).setWset { (running (cmdOf opLOAD_WPK [(128, 1)])).wset with defined := [1], loads := [l] }

/-- Its load as root. -/
def load0 (tables : List Byte) : Load := { q := 0, i := 0, set_ := 1, slot := 0, group := 0, tables := tables, have_ := [1] }

theorem test_package_load_premises : (running (cmdOf opLOAD_WPK [(128, 1)])).partReady 0 0 0 opLOAD_WPK = true ∧
    (running (cmdOf opLOAD_WPK [(128, 1)])).load? 0 0 = none ∧
    (running (cmdOf opLOAD_WPK [(128, 1)])).loadBad (cmdOf opLOAD_WPK [(128, 1)]) = true ∧ (loading (load0 [])).load? 0 0 = some (load0 []) ∧
    (load0 []).pred = none ∧ (load0 []).tables = [] ∧ (load0 tables0).reads 0 = true ∧ (loading (load0 tables0)).load? 0 0 = some (load0 tables0) ∧
    (∃ l', ((loading { load0 tables0 with key := [1] }).takeChunk { load0 tables0 with key := [1] } 0 [1]).load? 0 0 = some l' ∧
      l'.records.find? (fun r => r.1 == 0) = some (0, [1]) ∧ l'.key ≠ [] ∧ l'.assisted = false) :=
  ⟨by decide +kernel, by decide +kernel, by decide +kernel, by decide +kernel, rfl, rfl, by decide +kernel, by decide +kernel, ⟨_, rfl, by decide +kernel, by decide +kernel, by decide +kernel⟩⟩

theorem test_chain_premises : (loading { load0 tables0 with handle := 4 }).wset.loads.find? (fun l => l.handle != 0 && l.handle == 4) =
      some { load0 tables0 with handle := 4 } ∧ 0 < ((loading (load0 tables0)).wr F.tbnChainAvail 3).rd F.tbnChainAvail ∧
    (loading (load0 tables0)).wset.loads.find? (fun l => l.handle != 0 && l.handle == 4) = none := by decide +kernel

theorem test_partition_premises : (Dev.reset.pageAt 0 (F.glbPart_enable 7).addr).isSome = true ∧ Dev.reset.flag (hLock (pfPage .glb 0 1)) = false ∧
    Dev.reset.partRefused 7 0 0 0 = false ∧ Dev.reset.partRefused 7 0 63 1 = true ∧
    (Dev.reset.pageAt 0 (F.glbPartSem_semLimit 7).addr).isSome = true ∧ (Dev.reset.pageAt 0 (F.glbPartBulk_bulkQ 7).addr).isSome = true := by decide +kernel

/-! ### Parts of the array and the Arcade -/

/-- Queue 0 runs a command of an opcode with body fields given as (byte, value), over eight scratch objects of 64 KiB that are in T0 and on which part 0 holds references. -/
def fedBy (op : Nat) (l : List (Nat × Nat)) (x : Part) : Dev :=
  let d := busy [] [run1 (cmdOf op (l.map (fun e => (8 * e.1, e.2)))) x]
  let d := d.setTir { d.tir with refs := (range' 1 8).map (fun i => ⟨0, 0, 0, i, 0, false⟩) }
  (range' 1 8).foldl (fun d i =>
    d.setObj i { gen := 0, sizeL := 1024, kind := kSCRATCH, attr := 0, owner := 0, units := [(0, { t0 := tsRESIDENT, base0 := i * 65536 })] }) d

/-- The part of every witness. -/
def part0 : PartId := ⟨0, 0, 0⟩

/-- 1 × 1 × 1 in BF16 into FP32, on core 0, without a drain descriptor. -/
def mmBody : List (Nat × Nat) := [(17, 0xE), (28, 1), (32, 2), (36, 3), (52, 1), (54, 1), (56, 1), (59, 1)]

theorem test_mm_premises : (fedBy opMM mmBody {}).due part0 opMM 0 ∧ (fedBy opMM_T mmBody {}).due part0 opMM_T 0 ∧
    (let d := (fedBy opMM mmBody {}).sit part0 0; let c := d.cmdBody 0 0
     ((mmOpnds descNone c).take 3).any (fun a => d.absent (d.partView part0) a.handle) = false ∧ d.drains part0 (mmDrain c) descNone false ∧
     d.fed part0 (mmOpnds descNone c) ∧ d.savedUnfit part0 descNone = false) :=
  ⟨⟨by decide +kernel, by decide +kernel, by decide +kernel⟩, ⟨by decide +kernel, by decide +kernel, by decide +kernel⟩,
   by decide +kernel, .inl ⟨by decide +kernel, rfl⟩, ⟨by decide +kernel, by decide +kernel⟩, by decide +kernel⟩

/-- The premises that most parts share, for one opcode: the part is due on unit `l` and its operands are in T0. -/
theorem fed_of {d : Dev} {l : List Opnd} (h : (d.operandFault (d.partView part0) l == none && d.inPlace part0 l) = true) : d.fed part0 l := by
  simpa [Dev.fed] using h

theorem due_of {d : Dev} {op l : Nat} (h : (d.partReady 0 0 0 op && !d.noUnit part0 (d.cmdBody 0 0) && d.seat part0 == some l) = true) : d.due part0 op l := by
  simpa [Dev.due, part0, and_assoc] using h

/-- A convolution of one element, forward. -/
def convBody : List (Nat × Nat) := [(17, 0xE), (34, 0x421), (36, 0x111), (38, 0x111), (46, 1), (48, 1), (52, 2), (56, 3)]

theorem test_conv_premises : (fedBy opCONV convBody {}).due part0 opCONV 0 ∧
    (let d := (fedBy opCONV convBody {}).sit part0 0; let c := d.cmdBody 0 0
     ((convOpnds descNone c).take 3).any (fun a => d.absent (d.partView part0) a.handle) = false ∧ convDrain c = 0 ∧
     d.fed part0 (convOpnds descNone c) ∧ d.savedUnfit part0 descNone = false) :=
  ⟨due_of (by decide +kernel), by decide +kernel, by decide +kernel, fed_of (by decide +kernel), by decide +kernel⟩

/-- One head, one query and one key of one element. -/
def attnBody : List (Nat × Nat) := [(17, 0xE0), (28, 1), (32, 2), (36, 3), (40, 4), (55, 1)]

theorem test_attn_premises : (fedBy opATTN attnBody {}).due part0 opATTN 0 ∧
    (let d := (fedBy opATTN attnBody {}).sit part0 0; let c := d.cmdBody 0 0
     ((attnOpnds descNone c).take 4 ++ attnSaved c).any (fun a => d.absent (d.partView part0) a.handle) = false ∧ attnDrain c = 0 ∧
     d.fed part0 (attnOpnds descNone c) ∧ d.actual part0 (attnQHandle c) (attnQFmt c) ≤ 3 ∧ d.actual part0 (attnKHandle c) (attnKFmt c) ≤ 3 ∧
     d.actual part0 (attnVHandle c) (attnVFmt c) ≤ 3) :=
  ⟨due_of (by decide +kernel), by decide +kernel, by decide +kernel, fed_of (by decide +kernel), by decide +kernel, by decide +kernel, by decide +kernel⟩

/-- A product whose operand A is no object, and one whose descriptor of zeros does not fit. -/
theorem test_array_failure_premises : (fedBy opMM ((28, 8) :: mmBody) {}).due part0 opMM 0 ∧
    (let d := (fedBy opMM ((28, 8) :: mmBody) {}).sit part0 0; let c := d.cmdBody 0 0
     ((mmOpnds descNone c).take 3).any (fun a => d.absent (d.partView part0) a.handle) = true) ∧
    (let d := (fedBy opMM ((60, 5) :: mmBody) {}).sit part0 0; let c := d.cmdBody 0 0
     mmDrain c ≠ 0 ∧ d.reads part0 (mmDrain c) 128 0 ∧ d.mmRejects (d.partView part0) c 0 = true) :=
  ⟨due_of (by decide +kernel), by decide +kernel, by decide +kernel, ⟨by decide +kernel, by decide +kernel, by decide +kernel, by decide +kernel⟩,
   by decide +kernel⟩

/-- A sliced product of one element: one plane. -/
def sliceBody : List (Nat × Nat) := [(16, 0x11), (28, 1), (32, 2), (36, 3), (52, 1), (54, 1), (56, 1), (59, 1), (60, 4)]

theorem test_slice_premises : (fedBy opSLICE64 sliceBody {}).due part0 opSLICE64 0 ∧ (fedBy opSLICE32 sliceBody {}).due part0 opSLICE32 0 ∧
    (fedBy opSLICE64 sliceBody {}).isHalf part0 = false ∧
    (let d := (fedBy opSLICE64 sliceBody {}).sit part0 0; let c := d.cmdBody 0 0
     d.fed part0 (slOpnds c) ∧ d.slUnfit part0 c = false ∧ (d.slRows part0 c ++ d.slCols part0 c).any (fun r => r.2.any (fun y => !y.isFinite)) = false) ∧
    (let d := ((fedBy opSLICE64 sliceBody {}).setT0 [(65542, 0xF0), (65543, 0x7F)]).sit part0 0; let c := d.cmdBody 0 0
     (d.slRows part0 c ++ d.slCols part0 c).any (fun r => r.2.any (fun y => !y.isFinite)) = true) ∧
    ((fedBy opSLICE64 sliceBody { half := true }).cmdAt 0 0).any (fun m => (sliceFailed m.parts).isNone && m.parts.all (fun y => y.half)) = true ∧
    ((fedBy opSLICE64 sliceBody {}).cmdAt 0 0).any (fun m => (sliceFailed m.parts).isNone && !m.parts.all (fun y => y.half)) = true :=
  ⟨due_of (by decide +kernel), due_of (by decide +kernel), by decide +kernel, ⟨fed_of (by decide +kernel), by decide +kernel, by decide +kernel⟩,
   by decide +kernel, by decide +kernel, by decide +kernel⟩

/-- Core 0's localisation runs, and its array stands on without parts. -/
def locating : Dev := { Dev.reset with now := 427, ccr := { loc := [(0, 0)], on := [(0, 1)] } }

theorem test_localisation_premises : mapLook locating.ccr.loc 0 = some 0 ∧ locating.spr.resets.any (fun z => z.unit == unitKey 0 0) = false ∧
    mapLook locating.ccr.quiet 0 = none ∧ locating.colUsed 0 127 = true ∧ locating.rowUsed 0 127 = true ∧ mapLook locating.ccr.on 0 = some 1 ∧
    locating.runningParts.any (fun r => locating.partUnit r.2.2.2 == some (unitKey 0 0)) = false ∧ 1 - 1 + 427 ≤ locating.now := by decide +kernel

/-- The second fact of `fed_of`, for a part that sits on its first unit. -/
def seatedFed (op : Nat) (b : List (Nat × Nat)) (l : Dev → Cmd → Nat → List Opnd) : Bool :=
  let d := (fedBy op b {}).sit part0 0
  let o := l d (d.cmdBody 0 0) (d.partView part0)
  (fedBy op b {}).partReady 0 0 0 op && !(fedBy op b {}).noUnit part0 (d.cmdBody 0 0) && (fedBy op b {}).seat part0 == some 0
    && d.operandFault (d.partView part0) o == none && d.inPlace part0 o

/-- Two elements through a chain of zeros; one function; one normalised row; two tokens for two experts; one transform; one row gathered and added. -/
def vxBody : List (Nat × Nat) := [(20, 5), (24, 1), (40, 3), (49, 1)]
def sfBody : List (Nat × Nat) := [(21, 0xE), (22, 0xE), (36, 1), (44, 3), (57, 1)]
def normBody : List (Nat × Nat) := [(17, 0xE), (18, 0xE), (28, 1), (32, 3), (61, 1)]
def routeBody : List (Nat × Nat) := [(16, 0x401), (19, 0xE), (28, 1), (36, 2), (40, 4), (45, 1)]
def permBody : List (Nat × Nat) := [(17, 0xE), (18, 0xE), (19, 1), (28, 1), (32, 2), (36, 3), (49, 1)]
def combBody : List (Nat × Nat) := [(17, 0xE), (18, 0xE), (19, 1), (28, 1), (32, 2), (36, 3), (40, 4), (44, 5), (49, 1)]
def fftBody : List (Nat × Nat) := [(16, 1), (32, 1), (36, 2), (41, 1)]
def gatBody : List (Nat × Nat) := [(28, 1), (32, 2), (36, 3), (53, 1)]
def scaBody : List (Nat × Nat) := [(17, 0xE), (28, 1), (32, 2), (36, 3), (49, 1)]

/-- The chain OUT0 = MOV IN0 in FP32, in object 5. -/
def chain0 : Memory := [(327680, 1), (327683, 1), (327700, 0xE), (327732, 0xE), (327744, 0x13), (327745, 0x88)]

/-- A device of `fedBy` with T0's bytes, whose part 0 has been seated. -/
def seated0 (op : Nat) (b : List (Nat × Nat)) (m : Memory) : Dev := ((fedBy op b {}).setT0 m).sit part0 0

theorem test_vx_premises : ((fedBy opVX vxBody {}).setT0 chain0).due part0 opVX 0 ∧
    (let d := seated0 opVX vxBody chain0; let c := d.cmdBody 0 0; let v := d.partView part0; let y := ofLeBytes (chain0.readBytes 327680 256)
     d.reads part0 (vxChain c) 256 y ∧ d.chainBad v y c = false ∧ d.chainExtentBad v y c = false ∧ d.fed part0 (vxOpnds y c) ∧
     (chInputs y).any (fun k => !laneAccepts (chLane y) (d.actual part0 (vxIn c k) (chFmt y k))) = false) :=
  ⟨due_of (by decide +kernel), ⟨by decide +kernel, by decide +kernel, by decide +kernel, by decide +kernel⟩, by decide +kernel, by decide +kernel,
   fed_of (by decide +kernel), by decide +kernel⟩

theorem test_arcade_premises : seatedFed opSF sfBody (fun _ c _ => sfOpnds c) = true ∧ seatedFed opNORM normBody (fun _ c _ => normOpnds c) = true ∧
    seatedFed opROUTE routeBody (fun _ c _ => routeOpnds c) = true ∧ seatedFed opPERMUTE permBody (fun d c v => d.permOpnds v c) = true ∧
    seatedFed opCOMBINE combBody (fun d c v => d.combOpnds v c) = true ∧ seatedFed opFFT fftBody (fun _ c _ => fftOpnds c) = true ∧
    seatedFed opGATHER gatBody (fun _ c _ => gatOpnds c) = true ∧ seatedFed opSCATTER_ADD scaBody (fun _ c _ => scaOpnds c) = true := by decide +kernel

/-- The formats that each accepts, and rows within their buffers. -/
theorem test_arcade_format_premises :
    (let d := seated0 opSF sfBody []; let c := d.cmdBody 0 0; laneAccepts (sfLane c) (d.actual part0 (sfIn c) (sfInFmt c)) = true) ∧
    (let d := seated0 opNORM normBody []; let c := d.cmdBody 0 0
     laneAccepts (normLane c) (d.actual part0 (normX c) (normXFmt c)) = true ∧ normOp c ≠ 2 ∧ normOp c ≠ 3) ∧
    (let d := seated0 opROUTE routeBody []; let c := d.cmdBody 0 0; d.isHalf part0 = false ∧ d.routeUnfit part0 c = false) ∧
    ((fedBy opROUTE routeBody { half := true }).cmdAt 0 0).any (fun m => (sliceFailed m.parts).isNone && m.parts.all (fun y => y.half)) = true ∧
    (let d := seated0 opFFT fftBody []; let c := d.cmdBody 0 0
     d.actual part0 (fftIn c) (fftCode c) = fftCode c ∧ d.actual part0 (fftOut c) (fftCode c) = fftCode c) ∧
    (let d := seated0 opGATHER gatBody []; let c := d.cmdBody 0 0; let v := d.partView part0
     [gatTable c, gatIdx c, gatOut c].any (fun h => (d.objOf v h).2.fmt != 0x1F) = false ∧ gatStrict c ≠ 1 ∧
     range' (arcadePart c 0).1 (arcadePart c 0).2 = [0] ∧ gatW c = 64 ∧
     indexOf (gatRowsM1 c + 1) (d.u32At (d.partObj part0 (gatIdx c)).2 (gatIdxOff c * 64)) = some 0 ∧
     (List.range 64).map (d.partObj part0 (gatOut c)).2.addr0 = range' 196608 64) ∧
    (let d := seated0 opSCATTER_ADD scaBody []; let c := d.cmdBody 0 0
     (d.tensOf part0 (scaDst c) (scaDstT c)).2.code = redCode (scaRed c) ∧ scaRed c ≠ 3 ∧
     floatCode (d.tensOf part0 (scaSrc c) (scaSrcT c)).2.code = true ∧ scaStrict c ≠ 1) := by decide +kernel

theorem test_permute_premises :
    (let d := seated0 opPERMUTE permBody []; let c := d.cmdBody 0 0; let v := d.partView part0
     permDir c = 0 ∧ d.actual part0 (permSrc c) (permFmt c) = permFmt c ∧ d.actual part0 (permDst c) (permFmt c) = permFmt c ∧
     ∀ tok ∈ range' (arcadePart c 0).1 (arcadePart c 0).2, ∀ e ∈ keptOf d.t0 (d.partObj part0 (permSel c)).2 (permT c) (permK c) tok,
       e.2.row < (d.bufferTens v (permDst c) (permFmt c) (permD c)).rows) ∧
    (let d := seated0 opCOMBINE combBody []; let c := d.cmdBody 0 0; let v := d.partView part0
     combMode c = 0 ∧ laneAccepts 0 (d.tensOf part0 (combEout c) (d.bufferTens v (combEout c) (combFmt c) (combD c))).2.code = true ∧
     ∀ tok ∈ range' (arcadePart c 0).1 (arcadePart c 0).2, ∀ e ∈ keptOf d.t0 (d.partObj part0 (combSel c)).2 (combT c) (combK c) tok,
       e.2.row < (d.bufferTens v (combEout c) (combFmt c) (combD c)).rows) := by decide +kernel

/-- SF without its engines, with the engine taken, and with its input missing or not in T0. -/
theorem test_waiting_part_premises : (fedBy opSF sfBody {}).partReady 0 0 0 opSF = true ∧
    ({ fedBy opSF sfBody {} with spr := { map := (List.range 8).map (fun l => (unitKey 2 l, 0)) } } : Dev).noUnit part0 ((fedBy opSF sfBody {}).cmdBody 0 0) = true ∧
    ({ fedBy opSF sfBody {} with spr := { resets := [⟨1, unitKey 2 18, 0⟩] } } : Dev).seat part0 = none ∧
    (fedBy opNOP [] {}).partReady 0 0 0 opSF = false ∧ (fedBy opSF ((36, 8) :: sfBody) {}).due part0 opSF 0 ∧
    (let d := seated0 opSF ((36, 8) :: sfBody) []; d.operandFault (d.partView part0) (sfOpnds (d.cmdBody 0 0)) = some St.objectAbsent) ∧
    (let d := (seated0 opSF sfBody []).setTir { (seated0 opSF sfBody []).tir with refs := [] }; d.operandFault (d.partView part0) (sfOpnds (d.cmdBody 0 0)) = none ∧
      d.inPlace part0 (sfOpnds (d.cmdBody 0 0)) = false) :=
  ⟨by decide +kernel, by decide +kernel, by decide +kernel, by decide +kernel, due_of (by decide +kernel), by decide +kernel, by decide +kernel⟩

/-! ### The Market and the tiers -/

/-- One region of partition 0 at granule 16, with a poisoned line. -/
def market : Dev := { Dev.reset with mkt := { regions := [(1, { base := 16, count := 1, attr := 0, owner := 0 })], poison := [16385] } }

theorem test_market_premises : market.requestRefused 0 0 16384 false = none ∧ market.requestRefused 0 0 16384 true = none ∧
    market.mkt.poison.contains 16384 = false ∧ market.requestRefused 0 0 16385 false = none ∧ market.mkt.poison.contains 16385 = true ∧
    market.requestRefused 0 1 16384 false = some St.protectedAccess ∧ market.requestRefused 0 0 0 true = some St.objectAbsent := by decide +kernel

theorem test_market_upkeep_premises :
    (({ Dev.reset with mkt := { banks := [(1023, { phys := 1023, state := bkCOPYING, target := 1024 })] } } : Dev).bank 1023).state = bkCOPYING ∧
    (Dev.reset.pageAt 0 (F.mktQuota_limit 8).addr).isSome = true ∧ Dev.reset.flag (hLock (pfPage .mkt 0 0)) = false ∧
    (Dev.reset.pageAt 0 (F.tirT1Quota_limit 8).addr).isSome = true ∧ Dev.reset.flag (hLock (pfPage .tir 0 0)) = false := by decide +kernel

/-- The PF's mailbox asks `op` for a scratch object of one line, by a handle; object 1 of partition 0 stands as given. -/
def mailbox (op h : Nat) (l : List (Fld × Nat)) (o : Obj) : Dev :=
  (regsOf ([(mbx 0 0x80 0 4, op), (mbx 0 0x84 0 32, h), (mbx 0 0x88 0 32, 1)] ++ l)).setObj 1 o

/-- A scratch object of one line. -/
def obj1 : Obj := { gen := 0, sizeL := 1, kind := kSCRATCH, attr := 0, owner := 0 }

theorem test_mailbox_premises : ((mailbox 0 0 [] obj1).mbxReq 0).op = 0 ∧ ((mailbox 0 0 [] obj1).pageAt 0 ((⟨0, .tir, 0, 1⟩ : Page).offset)).isSome = true ∧
    (mailbox 0 0 [] obj1).flag (mbx 0 0xA4 16 1) = false ∧ (mailbox 0 0 [] obj1).mbxPart 0 ((mailbox 0 0 [] obj1).mbxReq 0).part = some 0 ∧
    (mailbox 0 0 [] obj1).createBad 0 ((mailbox 0 0 [] obj1).mbxReq 0) 0 = false ∧ ((mailbox 0 0 [] obj1).mbxReq 0).t2Addr = 0 ∧
    (mailbox 0 0 [] obj1).newIndex 0 = some 0 ∧ (mailbox 0 0 [] obj1).newIndex 8 = some 0xF0000 ∧
    (mailbox 0 0 [(mbx 0 0x88 0 32, 0)] obj1).createBad 0 ((mailbox 0 0 [(mbx 0 0x88 0 32, 0)] obj1).mbxReq 0) 0 = true ∧
    (mailbox 2 1 [] obj1).resolve 0 1 = some (1, obj1) ∧ (mailbox 2 9 [] obj1).resolve 0 9 = none ∧ (mailbox 2 1 [] obj1).bindNow 0 = 0 ∧
    (mailbox 2 1 [(mbx 0 0xA4 16 1, 1)] obj1).flag (mbx 0 0xA4 16 1) = true := by decide +kernel

theorem test_refill_premises : { obj1 with units := [(0, { t1 := tsRESIDENT })] }.state (fun x => x.t1) false = tsRESIDENT ∧
    obj1.state (fun x => x.t1) false = tsABSENT ∧ (mailbox 3 1 [] obj1).stepAllowed obj1 = true ∧ ((mailbox 3 1 [(F.tirT1Quota_limit 0, 1)] obj1).ensureT1 1).isSome = true ∧
    (List.range obj1.unitCount).all (fun u => (obj1.unit u).t1 == tsARRIVING && (obj1.unit u).refill) = false ∧
    (List.range obj1.unitCount).all (fun u => ({ obj1 with units := [(0, { t1 := tsARRIVING, refill := true })] }.unit u).t1 == tsARRIVING &&
      ({ obj1 with units := [(0, { t1 := tsARRIVING, refill := true })] }.unit u).refill) = true ∧
    { obj1 with t2Addr := 64 }.t2Addr ≠ 0 := by decide +kernel

/-- Queue 0 runs a command, and object 1 stands as given. -/
def using1 (o : Obj) : Dev := (running (cmdOf opNOP [])).setObj 1 o

theorem test_reference_premises : ((running (cmdOf opNOP [])).cmdAt 0 0).any (fun m => (m.parts[0]?).any (fun x => !x.ended && !x.ran)) = true ∧
    (using1 obj1).resolve 0 1 = some (1, obj1) ∧ obj1.writeRefused 0 = false ∧
    ((using1 { obj1 with units := [(0, { t0 := tsRESIDENT })] }).bring0 1 0 true 0).1 = .here ∧
    ((using1 { obj1 with units := [(0, { t0 := tsARRIVING })] }).bring0 1 0 true 0).1 = .coming ∧
    ((using1 { obj1 with units := [(0, { t0 := tsPOISONED })] }).bring0 1 0 true 0).1 = .fail St.tierPoison ∧ (using1 obj1).resolve 0 2 = none ∧
    { obj1 with kind := kCOMMITTED }.writeRefused 0 = true := by decide +kernel

theorem test_move_premises : ((using1 { obj1 with units := [(0, { t0 := tsARRIVING, src := 2 })] }).unitOf 1 0).src ≠ 0 ∧
    ({ Dev.reset with tir := { writeBacks := [(1, 0, 0)] } } : Dev).tir.writeBacks.contains (1, 0, 0) = true ∧
    ({ obj1 with units := [(0, { t0 := tsARRIVING, src := 3 })] }.unit 0).tries < Dev.reset.rd F.tirCfg_retry ∧
    Dev.reset.rd F.tirCfg_retry ≤ ({ obj1 with units := [(0, { t0 := tsARRIVING, src := 3, tries := 8 })] }.unit 0).tries ∧
    ({ obj1 with units := [(0, { t0 := tsARRIVING, src := 3, retryAt := 1 })] }.unit 0).retryAt ≤ 0 + 1 := by decide +kernel

theorem test_tier_upkeep_premises : Dev.reset.tir.recs.find? (fun r => r.handle == 7) = none ∧
    ({ using1 { obj1 with units := [(0, { t0 := tsRESIDENT })] } with tir := { (using1 { obj1 with units := [(0, { t0 := tsRESIDENT })] }).tir with
      recs := [⟨7, 1, 0⟩] } } : Dev).tir.recs.find? (fun r => r.handle == 7) = some ⟨7, 1, 0⟩ ∧
    ((using1 { obj1 with units := [(0, { t0 := tsRESIDENT })] }).unitOf 1 0).valid0 = true ∧ Dev.reset.liveStacks.contains 5 = true ∧
    Dev.reset.rd (F.hbmState_state 5) = 0 ∧ 16383 ∈ ({ Dev.reset with six := { badRows := [16383] } } : Dev).six.badRows ∧
    (∀ n, n < 64 → (mapGet ({} : SixEntry) Dev.reset.six.entries (16383 * 64 + n)).state = 0) ∧
    (∃ n, n < 64 ∧ (mapGet ({} : SixEntry) [(63, { state := 1 })] (0 * 64 + n)).state ≠ 0) :=
  ⟨by decide +kernel, by decide +kernel, by decide +kernel, by decide +kernel, by decide +kernel, by decide +kernel, by decide +kernel, 63, by decide +kernel⟩

/-! ### Tier commands, collectives and Acrek -/

/-- A tier command on object 1, which stands as given. -/
def tiering (op tier : Nat) (o : Obj) : Dev := (running (cmdOf op [(128, 1), (160, tier)])).setObj 1 o

theorem test_tier_command_premises : (tiering opMOVE 0 obj1).partReady 0 0 0 opMOVE = true ∧ (tiering opPREFETCH 0 obj1).partReady 0 0 0 opPREFETCH = true ∧
    (tiering opEVICT 0 obj1).partReady 0 0 0 opEVICT = true ∧ (tiering opPIN 0 obj1).partReady 0 0 0 opPIN = true ∧
    (tiering opUNPIN 0 obj1).partReady 0 0 0 opUNPIN = true ∧ (tiering opMOVE 0 obj1).resolve 0 (tierObject ((tiering opMOVE 0 obj1).cmdBody 0 0)) = some (1, obj1) ∧
    (running (cmdOf opMOVE [(128, 1)])).resolve 0 1 = none ∧ tierUnits obj1 (cmdOf opMOVE [(128, 1)]) = [0] := by decide +kernel

/-- Object 1 with its T0 copy in a state. -/
def copy0 (s : Nat) : Obj := { obj1 with units := [(0, { t0 := s })] }

theorem test_tier_state_premises :
    ((tiering opMOVE 0 (copy0 tsRESIDENT)).tierAskAll 0 0 1 0 [0]).1 = true ∧ ((tiering opMOVE 0 (copy0 tsRESIDENT)).tierAskAll 0 0 1 0 [0]).2.1 = none ∧
    ((tiering opMOVE 0 (copy0 tsARRIVING)).tierAskAll 0 0 1 0 [0]).1 = false ∧ ((tiering opMOVE 0 (copy0 tsARRIVING)).tierAskAll 0 0 1 0 [0]).2.1 = none ∧
    ((tiering opMOVE 0 (copy0 tsPOISONED)).tierAskAll 0 0 1 0 [0]).2.1 = some St.tierPoison ∧ { obj1 with prot := true }.prot = true ∧
    (tiering opPREFETCH 0 (copy0 tsRESIDENT)).issued 1 0 0 = true ∧ ((copy0 tsPINNED).unit 0).t0 = tsPINNED ∧ ((copy0 tsABSENT).unit 0).t0 = tsABSENT ∧
    ((copy0 tsRESIDENT).unit 0).ref0 = 0 ∧ ((copy0 tsRESIDENT).unit 0).dirty0 = false ∧
    (tiering opEVICT 0 (copy0 tsRESIDENT)).tir.writeBacks.contains (1, 0, 0) = false ∧ ((copy0 tsRESIDENT).unit 0).valid0 = true := by decide +kernel

/-- A collective of the running command. -/
def coll0 (p : List Posted) : Coll := { q := 0, i := 0, group := 0, seq := 0, epoch := 0, posted := p }

/-- Queue 0 runs a collective. -/
def collecting (op : Nat) (k : Coll) : Dev := (running (cmdOf op [])).setCol { (running (cmdOf op [])).col with colls := [k] }

theorem test_collective_premises : (collecting opALLREDUCE (coll0 [])).coll? 0 0 = some (coll0 []) ∧
    (collecting opALLREDUCE (coll0 [])).partReady 0 0 0 opALLREDUCE = true ∧ (collecting opREDUCE_SCATTER (coll0 [])).partReady 0 0 0 opREDUCE_SCATTER = true ∧
    (collecting opALLGATHER (coll0 [])).partReady 0 0 0 opALLGATHER = true ∧ (collecting opALLTOALL (coll0 [])).partReady 0 0 0 opALLTOALL = true ∧
    (collecting opBCAST_CHAIN (coll0 [])).partReady 0 0 0 opBCAST_CHAIN = true ∧ (collecting opSEND (coll0 [])).partReady 0 0 0 opSEND = true ∧
    (collecting opRECV (coll0 [])).partReady 0 0 0 opRECV = true ∧ (collecting opBARRIER (coll0 [])).partReady 0 0 0 opBARRIER = true ∧
    (collecting opBARRIER (coll0 [])).partReady 0 0 0 opALLREDUCE = false := by decide +kernel

/-- A receive of 25 bytes from rank 1, posted at stamp 0. -/
def post1 : Posted := { rank := 1, seg := 0, buf := 0, off := 0, len := 25, since := 0 }

theorem test_wait_and_layout_premises : (coll0 [post1]).status = 0 ∧ post1.handle = 0 ∧
    (coll0 [post1]).posted.find? (fun p => !p.done && p.rank == 1 && decide (p.since + Dev.reset.waitBound p.len ≤ 50 * msQ + 8)) = some post1 ∧
    (∀ p ∈ (coll0 [post1]).posted, 50 * msQ + 7 < p.since + Dev.reset.waitBound p.len) ∧
    (running (cmdOf opRESHARD [])).partReady 0 0 0 opRESHARD = true ∧ reshNewEpoch (cmdOf opRESHARD []) ≠ (0 + 1) % 2 ^ 16 ∧
    reshNewEpoch (cmdOf opRESHARD [(128, 1)]) = ((running (cmdOf opRESHARD [(128, 1)])).rd (F.colLayout 0) + 1) % 2 ^ 16 ∧
    (running (cmdOf opRESHARD [(128, 1)])).attemptLive 0 = false ∧ (attempt (running (cmdOf opRESHARD [(128, 1)])) {} (att stOPEN)).attemptLive 0 = true := by
  decide +kernel

/-- MASTER 1, MOM1 4, GRAD 2 and the group's norm record 3, committed and scratch objects of job 0 in T1 of stack 0. -/
def updating (op : Nat) (e : Nat) : Dev :=
  let d := (running (cmdOf op [(8 * 32, 1), (8 * 36, 4), (8 * 44, 2)])).wr (F.acrNorm_handle 0) 3
  let d := d.setAcr { d.acr with current := if e = 0 then [] else [(0, e)] }
  let o (i : Nat) : Obj := { obj1 with sizeL := 1024, kind := if i % 3 = 1 then kCOMMITTED else kSCRATCH, stack := 0, extA := [512 + i], extB := [600 + i] }
  [1, 2, 3, 4].foldl (fun d i => d.setObj i { o i with units := [(0, { t1 := tsRESIDENT })] }) (d.setT1 [(2 ^ 21 * 515 + 18, 0x80), (2 ^ 21 * 515 + 19, 0x3F)])

theorem test_update_premises : (updating opUPDATE 0).partReady 0 0 0 opUPDATE = true ∧ grpFrozen ((updating opUPDATE 0).grpCurrent 0 0) ≠ 1 ∧
    grpFrozen ((updating opUPDATE (4 * 2 ^ 16)).grpCurrent 0 0) = 1 ∧ (updating opUPDATE 0).imageBlocks 0 0 ((updating opUPDATE 0).cmdBody 0 0) = false ∧
    (let d := updating opUPDATE 0; let c := d.cmdBody 0 0
     (d.stallEnd 0 0).updStart 0 0 (d.updStack 0 c) (d.grpCurrent 0 0) c false = none ∧ (d.stallEnd 0 0).assist (acrPage 0 0) = false ∧
     (d.stallEnd 0 0).flag (F.acrState_busy 0) = false ∧ (d.stallEnd 0 0).windowFree 0 = true ∧
     ((d.stallEnd 0 0).stageT1 [((d.stallEnd 0 0).objOf 0 (updGrad c)).1] none).isSome = true ∧
     (d.normRecord 0 0).any (fun n => !gscaleBad n) = true) := by decide +kernel

/-- The same objects for STATS: MOM2 is object 4, and STATS_WS a STEP object 5 in T1. -/
def statsOf (e : Nat) : Dev :=
  let d := updating opUPDATE e
  let c := cmdOf opSTATS [(8 * 28, 5), (8 * 32, 1), (8 * 40, 4), (8 * 44, 2)]
  ({ d with kqp := (running c).kqp }).setObj 5 { obj1 with sizeL := 1024, kind := kSTEP, stack := 0, extA := [517] }

theorem test_stats_premises : (statsOf (2 ^ 16)).partReady 0 0 0 opSTATS = true ∧ grpFrozen ((statsOf (2 ^ 16)).grpCurrent 0 0) ≠ 1 ∧
    grpFrozen ((statsOf (4 * 2 ^ 16)).grpCurrent 0 0) = 1 ∧ (statsOf (4 * 2 ^ 16)).partReady 0 0 0 opSTATS = true ∧
    (let d := statsOf (2 ^ 16); let c := d.cmdBody 0 0
     d.updStart 0 0 (d.updStack 0 c) (d.grpCurrent 0 0) c true = none ∧ d.assist (acrPage 0 0) = false ∧
     d.flag (F.acrState_busy 0) = false ∧ d.windowFree 0 = true ∧
     (d.stageT1 [(d.objOf 0 (updGrad c)).1] (some (d.objOf 0 (updStatsWs c)).1)).any (fun d => (d.normRecord 0 0).any (fun n => !gscaleBad n)) = true) ∧
    (let d := statsOf 0; let c := d.cmdBody 0 0
     d.updStart 0 0 (d.updStack 0 c) (d.grpCurrent 0 0) c true = some St.badField) := by decide +kernel

/-- Acrek 0 holds its stack's window since stamp 0, or waits for an answer to handle 5. -/
def windowed (t : Nat) : Dev := Dev.reset.setAcr { Dev.reset.acr with window := [(0, t)] }

theorem test_group_and_window_premises : (running (cmdOf opGROUP_CFG [])).partReady 0 0 0 opGROUP_CFG = true ∧
    (let d := (regsOf [(F.acrWindowCfg_hold 0, 0)]).setAcr (windowed 0).acr; mapLook d.acr.window 0 = some 0 ∧ 0 + d.rd (F.acrWindowCfg_hold 0) * usQ ≤ d.now) ∧
    (windowed 5).now < 5 + (windowed 5).rd (F.acrWindowCfg_hold 0) * usQ ∧ mapLook Dev.reset.acr.assist 0 = none ∧
    (let a : AcrAssist := { q := 0, i := 0, handle := 5, aliases := [] }; let d := (updating opUPDATE 0).setAcr { (updating opUPDATE 0).acr with assist := [(0, a)] }
     mapLook d.acr.assist 0 = some a ∧ d.partReady a.q a.i 0 opUPDATE = true) := by decide +kernel

/-! ### The fabric ports -/

/-- Port 0 enabled in a state, with rate 1 and four good lanes. -/
def port0 (state : Nat) (l : List (Fld × Nat)) (x : FabPort) : Dev :=
  (regsOf ([(F.fabPortCfg_enable 0, 1), (F.fabPortState_state 0, state)] ++ l)).setPort 0 x

theorem test_link_premises : (port0 psNEGOTIATING [] { trying := 3 }).mayLink 0 3 = true ∧ (port0 psUP [] {}).mayLink 0 3 = false ∧ (port0 psUP [] {}).portUp 0 = true ∧
    (let d := port0 psNO_SIGNAL [(F.fabPortCfg_medium 0, 1), (F.fabPortCfg_linkWait 0, 0)] { trying := 3 }
     d.flag (F.fabPortCfg_medium 0) = true ∧ d.portSt 0 = psNO_SIGNAL ∧ (d.port 0).tryFrom + d.rd (F.fabPortCfg_linkWait 0) * 100 * msQ ≤ d.now ∧
     (d.usableRates 0).find? (fun r => decide (r < (d.port 0).trying)) = some 2) ∧
    (let d := port0 psNO_SIGNAL [(F.fabPortCfg_medium 0, 1), (F.fabPortCfg_linkWait 0, 0)] { trying := 1 }
     (d.usableRates 0).find? (fun r => decide (r < (d.port 0).trying)) = none ∧ (d.usableRates 0).head? = some 3) := by decide +kernel

theorem test_lane_premises : (port0 psUP [] {}).laneGood 0 1 = true ∧ (port0 psUP [] {}).portSt 0 ≠ psDISABLED ∧
    (let d := (port0 psUP [] {}).dropLink 0 psDOWN
     ((((d.wr (F.fabPortState_failed 0) (d.rd (F.fabPortState_failed 0) ||| 2 ^ 1)).raise (fabPage 0) 2 St.ok).countLane 0 1).portHealth 0).assist sprPage = false) ∧
    ((port0 psUP [] { waiting := true }).port 0).waiting = true ∧ ((port0 psUP [] {}).port 0).waiting = false := by decide +kernel

/-- A frame of 64 bytes to the device that carries Tabnus. -/
def frame0 (d : Dev) : RxFrame := { fcsOk := true, len := 64, tagged := false, vid := 0, pcp := 0, dscp := 0, dest := d.portMac 0, carries := 0, room := true }

theorem test_frame_premises : (let d := port0 psUP [] {}; d.refusal 0 (frame0 d) = none ∧
    d.refusal 0 { frame0 d with fcsOk := false } = some (F.fabRxFcs 0) ∧ d.refusal 0 { frame0 d with len := 63 } = some (F.fabRxLen 0) ∧
    d.refusal 0 { frame0 d with carries := 7 } = some (F.fabRxFilter 0) ∧ d.refusal 0 { frame0 d with room := false } = some (F.fabRxNobuf 0)) := by decide +kernel

theorem test_reply_premises : (let d := port0 psUP [(F.tbnAddrCfg_valid.bank 0, 1)] {}
     d.ownsAddr (d.rd (F.tbnAddrCfg_family.bank 0)) (d.addrBytes 0) = true ∧ d.ownsAddr 0 [] = false) ∧
    (((port0 psUP [] {}).port 0).echoes.filter (fun t => decide ((0 : Nat) < t + secQ))).length < 100 ∧
    (let d := port0 psUP [] { echoes := List.replicate 100 (50 * msQ) }
     100 ≤ ((d.port 0).echoes.filter (fun t => decide (d.now < t + secQ))).length) ∧
    (let x : Neighbour := { chassis := [], port := [], expires := 5 }
     let d := port0 psUP [] { nbr := some x }; (d.port 0).nbr = some x ∧ (d.port 0).nbr.isSome ≠ decide ((0 : Nat) ≠ 0) ∧ x.expires ≤ 5 ∧ 0 < x.expires) := by decide +kernel

/-- A frame of queue `q` waits on port 0. -/
def waiting0 (q : Nat) : Dev := port0 psUP [] { txq := [{ queue := q, len := 64, dest := 0, kind := .arp }] }

theorem test_transmit_premises : (port0 psUP [] {}).nextQueue 0 = none ∧
    ((waiting0 7).nextQueue 0).map (fun e => e.1) = some 7 ∧
    ((waiting0 7).nextQueue 0).bind (fun e => (takeFrame 7 e.2.txq).map (fun r => r.2.length)) = some 0 ∧
    ((waiting0 7).nextQueue 0).bind (fun e => (takeFrame 7 e.2.txq).map (fun r => decide (r.1.kind = .ptp))) = some false ∧
    ((port0 psUP [] {}).port 0).lldpNext ≤ (port0 psUP [] {}).now := by decide +kernel

theorem test_pause_premises : (let d := port0 psUP [(F.fabPfc_en 0, 0xFF), (F.fabPfc_xoff 0, 0), (F.fabQmap_pcp 0 6, 6), (F.fabQmap_pcp 0 7, 7)] {}
     bitOf (d.rd (F.fabPfc_en 0)) 1 = true ∧ 1 ≠ d.pcp 0 7 ∧ 1 ≠ d.pcp 0 6 ∧ mapLook (d.port 0).holdEnd 1 = none ∧ d.wdDue 0 1 = false ∧
     mapLook (d.port 0).xoff 1 = none ∧ (d.rd (F.fabPfc_xoff 0) + 1) * 65536 < 65537 ∧ 65536 ≤ (d.rd (F.fabPfc_xoff 0) + 1) * 65536) ∧
    (let d := port0 psUP [(F.fabPauseWd_wd 0, 0)] { pauseEnd := [(1, 5)], pauseFrom := [(1, 5)], holdEnd := [(1, 5)], wakeLock := 5 }
     let d := d.setNow (d.wdQ 0 + 6)
     mapLook (d.port 0).pauseEnd 1 = some 5 ∧ 5 ≤ d.now ∧ 5 + d.wdQ 0 < d.now ∧ mapLook (d.port 0).holdEnd 1 = some 5 ∧
     (d.port 0).wakeLock ≠ 0 ∧ (d.port 0).wakeLock ≤ d.now ∧ (d.setNow 4).now < 5) := by decide +kernel

/-! ### The Tabnus transport -/

/-- Connection 3 to device 7, with registers as given. -/
def conn3 (l : List (Fld × Nat)) (x : Conn) : Dev := (regsOf l).setConn 3 x

/-- An open connection to device 7. -/
def open7 : Conn := { peer := 7, part := 0, peerPart := 0, isOpen := true }

theorem test_packet_premises : (conn3 [] open7).conn? 3 = some open7 ∧ Dev.reset.conn? 3 = none ∧ open7.isOpen = true ∧ open7.ver ≠ 2 ∧
    open7.place 0 = 0 ∧ open7.place 4095 = 0 ∧ open7.place 4096 = 2 ∧ open7.place (2 ^ 32 - 1) = 1 ∧ { open7 with marks := [5] }.place 5 = 1 := by decide +kernel

/-- Device 7 is rank 1 of group 2; a SEND of its segment 0 is awaited, or none. -/
def grouped (posted : List Posted) : Dev :=
  let d := conn3 [(F.colGrpCfg_valid.bank 2, 1)] open7
  d.setCol { d.col with grps := [(2, { size := 2, members := [0, 7], parts := [0, 0] })],
                        colls := [{ q := 0, i := 0, group := 2, seq := seqSEND, epoch := 0, begun := true, posted := posted }] }

theorem test_data_premises : (let d := grouped []; let m := 2 * 2 ^ 20 + seqSEND * 4096
     d.grpValid 2 = true ∧ nthD (d.grp 2).members 1 0 = open7.peer ∧ nthD (d.grp 2).parts 1 0 = open7.peerPart ∧ 1 < (d.grp 2).size ∧
     m / 2 ^ 20 = 2 ∧ m / 4096 % 256 = seqSEND ∧ d.findPosted 2 1 m = none ∧ d.chainLoad 2 1 = none) ∧
    (let p : Posted := { rank := 1, seg := 0, buf := 0, off := 0, len := 25, since := 0, handle := 9 }
     ((grouped [p]).findPosted 2 1 (2 * 2 ^ 20 + seqSEND * 4096)).map (fun e => e.2) = some p ∧ p.handle ≠ 0 ∧ 24 + 1 ≤ p.len ∧ 0 + 25 ≤ 24 + 1) := by decide +kernel

theorem test_ctrl_premises : (∀ l, Dev.reset.tbn.last = some l → ctrlLt (0, 7, 0) l = false) ∧
    (let h : HeldCtrl := { stamp := 0, device := 7, msgId := 0, due := 5, body := [] }
     let d := Dev.reset.setTbn { Dev.reset.tbn with held := [h] }
     d.tbn.held = [h] ∧ h.due ≤ 5 ∧ (d.setNow 4).now < h.due) := by decide +kernel

/-- Packet 4 of a connection waits for its acknowledgement. -/
def pkt4 : TxPkt := { psn := 4, path := 0, msg := 0, head := {}, off := 0, bytes := [], stamp := 0 }

theorem test_ack_premises : (∃ k ∈ [pkt4], ackCovers 5 0 k.psn = true) ∧ (∀ k ∈ [pkt4], ackCovers 4 0 k.psn = false) ∧
    [pkt4].find? (fun k => !k.lost) = some pkt4 ∧ (conn3 [] { open7 with pkts := [pkt4] }).conn? 3 = some { open7 with pkts := [pkt4] } ∧
    { open7 with pkts := [pkt4] }.rtoFrom + open7.rto ≤ Dev.reset.now ∧ Dev.reset.now < 0 + 1 + Dev.reset.now ∧
    16 ≤ { open7 with unacked := 16 }.unacked ∧ open7.unacked < 16 ∧ open7.ackFrom = 0 ∧
    (∀ h ∈ ([] : List (Nat × Nat)), Dev.reset.now < h.2 + Dev.reset.rd F.tbnTimer_nackHold * usQ) ∧
    (let d := (regsOf [(F.tbnTimer_nackHold, 0)]); (([(3, 0)].filter (fun h => decide (h.2 + d.rd F.tbnTimer_nackHold * usQ ≤ d.now))).map (fun h => h.1)).take 16 = [3]) := by decide +kernel

theorem test_rate_premises : (let d := conn3 [(F.tbnCc_en, 1), (F.tbnCc_incPeriod, 0)] open7
     d.flag F.tbnCc_en = true ∧ open7.quietFrom + d.rd F.tbnCc_incPeriod * usQ ≤ d.now ∧ open7.decAt = 0) ∧
    (let d := conn3 [(F.tbnCc_en, 1), (F.tbnCc_incPeriod, 5)] open7; d.now < 1 + d.now ∧ d.now < 5 * usQ + d.now) := by decide +kernel

theorem test_connection_premises : (regsOf [(F.tbnCfg_versionMax, 2)]).agreedVersion 3 3 = none ∧ (regsOf [(F.tbnCfg_versionMax, 2)]).agreedVersion 1 2 = some 2 ∧
    (let x : Conn := { peer := 7, part := 0, peerPart := 0 }
     let b : Cmd := BitVec.ofNat 512 7; let d := conn3 [] x; let p := d.peer 7
     let d := d.setPeer 7 { p with epoch := cmdBits b 20 0 32, ports := p.ports ++ [0] }
     (d.tbn.conns.find? (fun e => e.2.peer == 7 && e.2.peerPart == cmdBits b 10 0 8 && (!e.2.isOpen || e.2.remote == cmdBits b 16 0 24))).map (fun e => e.1) = some 3 ∧
     x.peer = cmdBits b 0 0 64 ∧ x.helloAt + msQ ≤ (d.setNow msQ).now) ∧
    open7.pkts = [] ∧ open7.msgs = [] ∧ open7.lastUse + (regsOf [(F.tbnConnIdle_idle, 0)]).rd F.tbnConnIdle_idle * secQ ≤ 0 ∧
    0 < open7.lastUse + (regsOf [(F.tbnConnIdle_idle, 1)]).rd F.tbnConnIdle_idle * secQ := by decide +kernel

theorem test_path_premises : ((Dev.reset.setPath 7 2 { excluded := true }).pathSt 7 2).excluded = true ∧ (Dev.reset.pathSt 7 2).excluded = false ∧
    ((Dev.reset.setPath 7 2 { excluded := true }).pathSt 7 2).probeAt + msQ ≤ (Dev.reset.setNow msQ).now ∧
    (let d := Dev.reset.setPeer 7 { gone := 1, assist := 5 }
     (d.peer 7).gone ≠ 0 ∧ (d.peer 7).gone - 1 + d.timeout tbnPage (50 * msQ) ≤ 2 ^ 60 ∧
     d.tbn.peers.find? (fun e => e.2.assist == 5 && 5 != 0) = some (7, { gone := 1, assist := 5 }) ∧ d.tbn.peers.find? (fun e => e.2.assist == 6 && 6 != 0) = none) ∧
    (regsOf [(F.tbnAssistPaths, 1)]).rd F.tbnAssistPaths ≠ 0 := by decide +kernel

/-! ### The roster -/

/-- Devices of the roster with their records, this one (identity 0) among them where it is listed, and the keeper. -/
def rostered (keeper : Nat) (r : List (Nat × RosterRec)) (l : List (Fld × Nat)) : Dev :=
  let d := regsOf ([(F.colKeeper 0, keeper), (F.colDomain_en, 1)] ++ l)
  d.setCol { d.col with roster := r }

/-- A LIVE member. -/
def live : RosterRec := { state := rsLIVE }

theorem test_join_premises : (rostered 0 [] []).flag F.colDomain_en = true ∧ (rostered 0 [] []).enrolled = false ∧ (rostered 0 [] []).col.leaving = false ∧
    (rostered 0 [] []).col.joinNext ≤ (rostered 0 [] []).now ∧ (rostered 0 [] []).col.refused = false ∧
    (let d := (rostered 0 [] []).setCol { (rostered 0 [] []).col with joinFrom := 1 }
     d.col.joinFrom ≠ 0 ∧ d.now < d.col.joinFrom - 1 + 100 * msQ ∧ d.col.joinFrom - 1 + 100 * msQ ≤ (d.setNow (100 * msQ)).now) := by decide +kernel

theorem test_member_premises : (rostered 0 [(0, live)] []).enrolled = true ∧ (rostered 0 [(0, live)] []).isKeeper = true ∧ (rostered 7 [(0, live), (7, live)] []).isKeeper = false ∧
    leAt (List.replicate 88 0x00#8) 2 2 = (rostered 0 [(0, live)] []).rd F.colDomain_id ∧ (rostered 0 [(0, live)] []).flag F.secPeer_require = false ∧
    ((rostered 0 [(0, live)] []).rec? (leAt (List.replicate 88 0x00#8) 8 8)).isSome = true ∧ 48 + leAt (List.replicate 88 0x00#8) 6 2 ≤ (List.replicate 88 0x00#8).length ∧
    (rostered 0 [] []).col.quotes.find? (fun q => q.device == 0 && q.nonce == []) = none := by decide +kernel

/-- A ROSTER body of one record for epoch `e`. -/
def rosterBody (n e : Nat) : List Byte := [0x21, 0x00] ++ leBytes 2 n ++ leBytes 4 e ++ List.replicate 112 0x00#8

theorem test_roster_premises : 24 ≤ (rosterBody 0 0).length ∧ leAt (rosterBody 0 0) 2 2 = 0 ∧ bitOf (leAt (rosterBody 0 0) 1 1) 0 = false ∧
    24 + 96 * leAt (rosterBody 1 1) 2 2 ≤ (rosterBody 1 1).length ∧ leAt (rosterBody 1 1) 2 2 ≠ 0 ∧
    (let d := rostered 7 [(0, live), (7, live)] []
     d.enrolled = true ∧ d.isKeeper = false ∧ leAt (rosterBody 1 1) 4 4 = (d.rd F.colEpoch + 1) % 2 ^ 32 ∧
     leAt (rosterBody 1 2) 4 4 ≠ (d.rd F.colEpoch + 1) % 2 ^ 32 ∧ serialGt 32 (leAt (rosterBody 1 2) 4 4) (d.rd F.colEpoch) = true ∧
     leAt (rosterBody 1 0) 4 4 ≠ (d.rd F.colEpoch + 1) % 2 ^ 32 ∧ serialGt 32 (leAt (rosterBody 1 0) 4 4) (d.rd F.colEpoch) = false) := by decide +kernel

theorem test_heartbeat_premises : (let d := rostered 0 [(0, live), (7, live)] [(F.colHb_suspect, 0), (F.colHb_remove, 0)]
     (d.rec? d.deviceId).map (fun r => r.state) = some rsLIVE ∧ d.col.hbNext ≤ d.now ∧ 7 ≠ d.deviceId ∧ (d.rec? 7).map (fun r => r.state) = some rsLIVE ∧
     d.heardAt 7 + d.rd F.colHb_suspect * d.colHb ≤ d.now ∧ d.heardAt 7 + d.rd F.colHb_remove * d.colHb ≤ d.now) ∧
    (let d := rostered 0 [(0, live), (7, live)] [(F.colHb_suspect, 3), (F.colHb_remove, 3), (F.colHb_period, 1)]
     d.now < d.heardAt 7 + d.rd F.colHb_suspect * d.colHb ∧ d.now < d.heardAt 7 + d.rd F.colHb_remove * d.colHb) := by decide +kernel

theorem test_keeper_premises : (let d := rostered 7 [(0, live), (5, live), (7, live)] [(F.colHb_remove, 0)]
     d.isKeeper = false ∧ d.heardAt d.keeper + d.rd F.colHb_remove * d.colHb ≤ d.now ∧
     (liveIds d.col.roster).find? (fun x => x != d.keeper && !d.col.passed.contains x) = some 0) ∧
    (let d := (rostered 7 [(0, live), (5, live), (7, live)] [(F.colHb_remove, 0)]); let d := d.setCol { d.col with passed := [0] }
     (liveIds d.col.roster).find? (fun x => x != d.keeper && !d.col.passed.contains x) = some 5 ∧ 5 ≠ d.deviceId) ∧
    (let b : List Byte := [0x24, 0, 0, 0] ++ leBytes 4 1 ++ leBytes 8 5 ++ leBytes 8 7
     let d := rostered 7 [(0, live), (5, live), (7, live)] []
     24 ≤ b.length ∧ (d.rec? (leAt b 8 8)).isSome = true ∧ leAt b 16 8 = d.keeper ∧ serialGt 32 (leAt b 4 4) (d.rd F.colEpoch) = true) := by decide +kernel

/-- A sleeping spare. -/
def asleep : RosterRec := { role := roSPARE, state := rsSLEEPING }

theorem test_leave_premises : (let d := rostered 0 [(0, live), (5, live), (7, { live with role := roSPARE })] []
     let b (k f : Nat) : List Byte := [0x23, BitVec.ofNat 8 f, 0, 0, 0, 0, 0, 0] ++ leBytes 8 k ++ leBytes 8 0
     d.isKeeper = true ∧ d.rec? (leAt (b 7 1) 8 8) = some { live with role := roSPARE } ∧ bitOf (leAt (b 7 1) 1 1) 0 = true ∧
     d.rec? (leAt (b 5 0) 8 8) = some live ∧ live.role ≠ roSPARE ∧ live.state = rsLIVE ∧ d.rec? (leAt (b 5 0) 16 8) = some live) := by decide +kernel

theorem test_waking_premises : (let w : Waking := { spare := 7, gone := 5, since := 0, last := 0 }
     let d := rostered 0 [(0, live), (7, asleep)] []; let d := d.setCol { d.col with waking := some w, assist := 4 }
     d.col.waking = some w ∧ d.isKeeper = true ∧ w.last + 100 * msQ ≤ (d.setNow (10 * secQ)).now ∧ w.since + 10 * secQ ≤ (d.setNow (10 * secQ)).now ∧
     d.now < w.since + 10 * secQ ∧ d.col.assist = 4 ∧ d.col.assist ≠ 3 ∧ d.rd F.colAssistDec = 0 ∧ d.col.assistQ = [] ∧
     (List.range 8).all (fun j => !d.attemptLive j && (d.job j).drain.isNone) = true ∧ d.col.leaving = false) ∧
    (let d := rostered 0 [(7, asleep)] [(F.colRstSel_index, 0)]; d.col.roster[d.rd F.colRstSel_index]? = some (7, asleep)) ∧
    (let d := rostered 0 [(7, live)] [(F.colRstSel_index, 0)]; d.col.roster[d.rd F.colRstSel_index]? = some (7, live)) ∧ live.state ≠ rsSLEEPING ∧
    (let d := rostered 0 [(0, live), (7, asleep)] [(F.colRstSel_index, 1)]; d.col.roster[d.rd F.colRstSel_index]? = some (7, asleep) ∧ d.isKeeper = true) := by decide +kernel

/-! ### The host link and the Signpost -/

/-- The device in a power mode, or after a change of its power state. -/
def powered (f : PwrState → PwrState) : Dev := Dev.reset.setPwr (f Dev.reset.pwr)

/-- The device with a change of its host link state. -/
def linked (f : HifState → HifState) : Dev := Dev.reset.setHif (f Dev.reset.hif)

theorem test_link_reset_premises : (powered fun p => { p with mode := 3 }).pwr.mode = 3 ∧ Dev.reset.pwr.mode ≠ 3 ∧ Dev.reset.pwr.mode ≠ 4 ∧
    (powered fun p => { p with rail := true, good := true }).pwr.good = true ∧ Dev.reset.split = false ∧ (powered fun p => { p with perstA := true }).pwr.perstA = true ∧
    Dev.reset.pwr.perstA = false ∧ Dev.reset.linkFuncs 1 = [] ∧ Dev.reset.linkFuncs 0 ≠ [] ∧ 1 ≤ 3 ∧ 3 ≤ mapGet 3 Dev.reset.hif.maxRate 0 ∧
    Dev.reset.hif.perst.contains 0 = false ∧ (Dev.reset.linkFuncs (Dev.reset.linkOf 8)).contains 8 = true ∧ (linked fun h => { h with ready := false }).hif.ready = false ∧
    (let d := linked fun h => { h with ready := true, config := [(65536 + 4, 0x6#32)] }; d.hif.ready = true ∧ mapLook d.hif.config (1 * 65536 + 4) = some 0x6#32) := by
  decide +kernel

/-- Source `n` pends, enabled, at a priority, on a route. -/
def pending (n prio route : Nat) (l : List (Fld × Nat)) : Dev :=
  regsOf ([(F.evtSrc_en n, 1), (F.evtSrc_pending n, 1), (F.evtSrc_prio n, prio), (F.evtSrc_route n, route)] ++ l)

theorem test_source_premises : (Dev.reset.pageAt 0 (srcOff 0 0)).isSome = true ∧ (Dev.reset.pageAt 0 (srcOff 0 1023)).isSome = true ∧
    (let d := (pending 512 3 0 []).setEvt { Dev.reset.evt with edges := [512], service := [512] }
     512 ∈ d.evt.edges ∧ d.flag (F.evtSrc_en 512) = true ∧ 512 ∈ d.evt.service ∧ 511 ∉ d.evt.edges) ∧
    (pending 512 3 0 []).flag F.evtCfg_mode = false ∧ (pending 512 3 0 []).route 512 = 0 ∧
    (pending 512 3 2 []).route 512 = 2 ∧ (pending 1024 0 0 []).route 1024 = 2 ∧ (pending 512 3 2 []).flag (F.evtSrc_pending 512) = true ∧
    (Dev.reset.setMsixPend [4096]).msixPend.contains (1 * 4096 + 0) = true ∧ 0 < vectors 1 := by decide +kernel

/-- Source 0, on the fast route, is presented, and no other. -/
theorem test_present_premises : (pending 0 3 1 []).nextSource = some 0 ∧ (pending 0 3 1 []).flag F.evtCfg_mode = false ∧ (pending 0 3 1 []).handlers 1 = [] ∧
    0 ∈ (pending 0 3 1 []).waitingSources ∧ (pending 0 3 1 []).route 0 = 1 := by decide +kernel

/-- Entry 0 of the PF's window maps object 1, which stands as given, with its first extent 600. -/
def mapped (write : Nat) (o : Obj) : Dev := (regsOf [(wValid 0 0, 1), (wWrite 0 0, write), (wHandle 0 0, 1)]).setObj 1 { o with extA := [600], extB := [601], sizeL := 64 }

theorem test_window_premises : (Dev.reset.pageAt 0 (⟨0, .hif, 0, 2⟩ : Page).offset).isSome = true ∧ Dev.reset.winHit 0 0 4 = none ∧
    ((mapped 1 { obj1 with kind := kCOMMITTED }).winHit 0 0 4).map (fun e => (e.1, e.2.1, e.2.2.2)) = some (0, 1, 0) ∧
    ((mapped 1 { obj1 with kind := kCOMMITTED }).winHit 0 4096 4) = none ∧
    ((mapped 1 { obj1 with kind := kCOMMITTED }).winHit 0 0 4).map (fun e => (e.2.2.1.prot, e.2.2.1.kind)) = some (false, kCOMMITTED) ∧
    (mapped 1 { obj1 with kind := kCOMMITTED }).sectorBad [600] 0 4 = false ∧ ((mapped 1 { obj1 with prot := true }).winHit 0 0 4).map (fun e => e.2.2.1.prot) = some true ∧
    (mapped 0 obj1).flag (wWrite 0 0) = false ∧ (mapped 1 obj1).flag (wWrite 0 0) = true ∧
    ((mapped 1 { obj1 with kind := kCOMMITTED }).winWrite 1 { obj1 with kind := kCOMMITTED, extA := [600], extB := [601], sizeL := 64 } 0 [1#8]).isSome = true := by decide +kernel

/-! ### Attestation, dumps and starts -/

/-- The device with a change of its SEC state and some fields written. -/
def secured (l : List (Fld × Nat)) (f : SecState → SecState) : Dev := let d := regsOf l; (d.setSec (f d.sec)).setHif { d.hif with ready := true }

/-- The transcript of function 0 stands at a stage. -/
def talk (stage : Nat) : Dev := secured [(F.secState_state, ssFULL)] fun x => { x with spdm := [{ who := 0, stage := stage }] }

theorem test_attestation_premises : (talk 0).spdmUp 0 = true ∧ (talk 0).spdmUp 9 = true ∧ ((talk 1).spdm 0).stage = 1 ∧ ((talk 2).spdm 0).stage = 2 ∧ ((talk 3).spdm 0).stage = 3 ∧
    (talk 3).secSt = ssFULL ∧ (secured [(F.secState_state, ssLIMITED)] id).secSt ≠ ssFULL ∧ leAt [0x12#8, 0x84, 1, 0] 2 1 < 2 ∧ leAt [0x12#8, 0x82, 0, 0] 2 1 % 16 < 2 ∧
    leAt [0x12#8, 0xE0, 1, 5] 2 1 % 2 = 1 ∧ leAt [0x12#8, 0xE0, 0, 5] 2 1 % 2 = 0 ∧ leAt [0x12#8, 0xE0, 0, 5] 3 1 ≤ 5 := by decide +kernel

/-- A dump of slot 0 is being collected. -/
def dump0 (assist : Nat) : Dump := { slot := 0, trigger := 0, status := 0, ident := 0, sections := [(5, 0)], assist := assist }

/-- The device with a change of its HLT state. -/
def halted (l : List (Fld × Nat)) (f : HltState → HltState) : Dev := let d := regsOf l; d.setHlt (f d.hlt)

theorem test_dump_premises : Dev.reset.hlt.cur = none ∧
    (regsOf [(F.hltDumpCtrl_hold0, 1), (F.hltDumpCtrl_hold1, 1)]).flag F.hltDumpCtrl_hold1 = true ∧
    (regsOf [(F.hltDumpCtrl_hold0, 1), (F.hltDumpCtrl_hold1, 1)]).flag F.hltDumpCtrl_hold0 = true ∧
    (regsOf [(F.hltDumpCtrl_hold1, 1)]).flag F.hltDumpCtrl_hold0 = false ∧ (regsOf [(F.hltDumpCtrl_hold1, 1)]).assist hltPage = false ∧
    (halted [] fun x => { x with cur := some (dump0 3) }).hlt.cur = some (dump0 3) ∧ (dump0 0).sections.any (fun x => x.1 == 6) = false ∧ (dump0 0).assist = 0 ∧ (dump0 0).slot < 2 ∧
    (dump0 3).assist ≠ 0 ∧ (dump0 3).assist ≠ 4 ∧
    (let d := halted [(F.hltDumpCtrl_slot, 0)] fun x => { x with slots := [(0, dump0 0)] }
     d.hlt.copying = none ∧ (mapLook d.hlt.slots (d.rd F.hltDumpCtrl_slot)).isSome = true) ∧
    (halted [] fun x => { x with copying := some 0 }).hlt.copying = some 0 := by decide +kernel

theorem test_boot_premises : Dev.reset.sec.due = true ∧ Dev.reset.pwr.rail = true ∧ Dev.reset.pwr.en = true ∧ Dev.reset.pwr.latched = false ∧
    (secured [] fun x => { x with due := false }).sec.due = false ∧
    (let d := secured [] fun x => { x with running := true, stage := 3, stageFrom := 0 }
     d.sec.running = true ∧ d.sec.altFrom = 0 ∧ d.now ≤ d.sec.stageFrom + d.stageBound d.sec.stage ∧ d.sec.stageFrom + d.stageBound d.sec.stage < 2 ^ 40 ∧ d.sec.stage ≠ 10) ∧
    Dev.reset.sec.running = false ∧ (secured [] fun x => { x with restartAt := 1 }).sec.restartAt ≤ Dev.reset.now + 1 ∧ Dev.reset.now + 1 < Dev.reset.now + 5 ∧
    (∀ c ∈ [0, 1, 2], let d := secured [(F.sprBaltChoice_choice, c)] fun x => { x with altFrom := 1, altOp := 4 }
     d.sec.altFrom ≠ 0 ∧ d.sec.altOp = 4 ∧ d.rd F.sprBaltChoice_choice = c ∧ d.sec.altFrom - 1 + d.timeout sprPage1 (60 * secQ) ≤ 2 ^ 60) ∧
    Dev.reset.sec.altFrom = 0 := by decide +kernel

theorem test_firmware_premises : Dev.reset.flag F.secFwStatus_busy = false ∧ Dev.reset.fwReason [] = 4 ∧ (regsOf [(F.secFwStatus_busy, 1)]).flag F.secFwStatus_busy = true ∧
    (secured [] fun x => { x with writing := some ({}, 1), written := some 1 }).sec.writing = some ({}, 1) ∧
    (secured [] fun x => { x with writing := some ({}, 1), written := some 1 }).sec.written = some 1 ∧
    (let d := secured [(F.secState_state, ssFULL), (F.secRunSvn_runSvn, 3)] id; d.secSt = ssFULL ∧ d.sec.current.svn < d.rd F.secRunSvn_runSvn) ∧
    (secured [(F.secState_state, ssLIMITED)] id).secSt = ssLIMITED ∧ Dev.reset.secSt ≠ ssLIMITED ∧ Dev.reset.secSt ≠ ssFULL := by decide +kernel

/-! ### Time, power and the sideband -/

/-- Port 0 is UP; the time base is in a role and a state. -/
def timed (role state : Nat) (f : TimState → TimState) : Dev :=
  let d := port0 psUP [(F.timCfg_role, role), (F.timState_state, state)] {}
  d.setTim (f d.tim)

theorem test_time_premises : (let d := timed 2 tmHOLDOVER id
     d.rd F.timCfg_role ≠ 0 ∧ d.timSt ≠ tmFREE ∧ d.portUp 0 = true ∧ d.serves 0 = true ∧ (d.ptp 0).syncNext ≤ d.now ∧ d.tim.uncNext ≤ d.now) ∧
    (timed 0 tmFREE id).rd F.timCfg_role = 0 ∧
    (let d := (timed 2 tmHOLDOVER fun t => { t with goodFrom := 1, syncAt := 4 * secQ }).setNow (4 * secQ)
     d.timSt = tmHOLDOVER ∧ d.tim.goodFrom ≠ 0 ∧ d.tim.goodFrom - 1 + 4 * secQ ≤ d.now ∧ d.now ≤ d.tim.syncAt + secQ) ∧
    (let d := (timed 2 tmLOCKED id).setNow secQ; d.timSt = tmLOCKED ∧ d.tim.syncAt + secQ ≤ d.now) ∧
    (List.range 8).any Dev.reset.attemptLive = false ∧ (List.range 8).any (attempt Dev.reset {} (att stOPEN)).attemptLive = true ∧
    (timed 2 tmLOCKED fun t => { t with uncNext := 5 }).now < 5 + (timed 2 tmLOCKED id).now := by decide +kernel

theorem test_power_premises : (regsOf [(F.hltState_state, 0)]).fewPages = false ∧
    (let d := regsOf [(F.pwrCap_cap, 40), (F.pwrTemp_thermalCap, 72), (F.pwrState_duty, 64)]
     d.effCap = 400 ∧ d.rd F.pwrState_duty ≤ 64 ∧ d.rd F.pwrState_duty ≠ 0 ∧ d.rd F.pwrState_issue = 0 ∧ 389 + 10 < d.effCap) ∧
    (regsOf [(F.pwrState_duty, 0)]).rd F.pwrState_duty = 0 ∧
    (let d := (powered fun p => { p with good := true, hot := false }).setNow secQ
     d.pwr.good = true ∧ d.pwr.sampledAt + 250 * usQ ≤ d.now ∧ d.pwr.hot = false ∧ d.pwr.thermAt + 10 * msQ ≤ d.now) ∧
    (hottest (List.replicate 32 110)).1 = 110 ∧ (hottest (List.replicate 32 96)).1 = 96 ∧ (hottest (List.replicate 32 94)).1 = 94 ∧
    (List.replicate 32 110).length = 32 := by decide +kernel

theorem test_power_state_premises : (let d := (powered fun p => { p with mode := 0, quietFrom := 1 }).setNow (100 * usQ)
     d.pwr.mode = 0 ∧ d.pwr.quietFrom ≠ 0 ∧ d.pwr.quietFrom - 1 + 100 * usQ ≤ d.now) ∧
    (let d := (regsOf [(F.hltState_state, 0)]).setPwr { Dev.reset.pwr with mode := 1 }
     d.fewPages = false ∧ d.rd F.hltState_state = 0 ∧ d.pwr.mode ≤ 1 ∧ d.pwr.wake = false) ∧
    (let f : RxFrame := { fcsOk := true, len := 64, tagged := false, vid := 0, pcp := 0, dscp := 0, dest := Dev.reset.baseMac, carries := 7, room := true }
     let d := (regsOf [(F.fabWakeToken 0, 9)]).setPwr { Dev.reset.pwr with mode := 3 }
     d.pwr.mode = 3 ∧ 0 = d.pwr.wakePort ∧ f.dest = d.baseMac ∧ (d.port 0).wakeLock ≤ d.now ∧ d.wakeToken.all (fun b => b == 0) = false ∧
     Dev.reset.wakeToken.all (fun b => b == 0) = true ∧ List.replicate 8 0x01#8 ≠ d.wakeToken) ∧
    (powered fun p => { p with en := false }).pwr.en = false ∧ (powered fun p => { p with good := false }).pwr.good = false ∧
    (powered fun p => { p with rail := false }).pwr.rail = false ∧ (powered fun p => { p with good := true }).pwr.good = true ∧
    Dev.reset.sensor 2 = some [Dev.reset.rd F.pwrState_state] ∧ Dev.reset.sensor 4 = none ∧ (powered fun p => { p with good := true, mode := 1 }).poweredUp = true ∧
    Dev.reset.pwr.mode ≠ 5 := by decide +kernel

/-! ### The machine, reset and number formats -/

theorem test_step_premises : State.reset.pending = [] ∧ (match step { State.reset with pending := [.semaphoreSet 0 0] } with | .next t => t.pending.isEmpty | _ => false) = true ∧
    sourcePage 0 = some (pfPage .glb 0 0) ∧ Dev.reset.canonical = true ∧
    (fp32.decode 0x3F800000).isFinite = true ∧ (FVal.fin true 1 3).isFinite = true := by decide +kernel

/-- Largest finite values, as the table of R145 states them, and codes that are not finite. -/
theorem test_format_maxima : (fp16.decode 0x7BFF).eqv (.ofNat 65504) = true ∧ (e4m3.decode 0x7E).eqv (.ofNat 448) = true ∧ (e5m2.decode 0x7B).eqv (.ofNat 57344) = true ∧
    (e3m2.decode 0x1F).eqv (.ofNat 28) = true ∧ (e2m3.decode 0x1F).eqv (.fin false 15 (-1)) = true ∧ (e2m1.decode 0x7).eqv (.ofNat 6) = true ∧
    e4m3.decode 0x7F = .nan ∧ e4m3.decode 0xFF = .nan ∧ (fp32.decode 1).eqv (.pow2 (-149)) = true ∧ (bf16.decode 1).eqv (.pow2 (-133)) = true := by decide +kernel

/-! ### Ill-formed operands are refused -/

/-- A PTP message of a kind, and a checkpoint image of a job. -/
def ptpOf (kind : Nat) : PtpMsg := { kind := kind, domain := 0, seq := 0, clock := 0, stamp := 0, corr := 0, align := 0, rank := [] }
def imageOf (job : Nat) : Image :=
  { job := job, rank := 0, step := 0, complete := true, recStep := 0, recState := 0, recChk := 0, cursor := 0, seed := 0, seedChk := 0, rngStep := 0, objs := [], groups := [], routing := [] }

/-- A frame whose fields all fit, and one whose VLAN id does not. -/
def frameOf (vid : Nat) : RxFrame := { fcsOk := true, len := 64, tagged := false, vid := vid, pcp := 0, dscp := 0, dest := 0, carries := 0, room := true }

theorem test_wf_numbers : ok16 (2 ^ 16) = false ∧ ok24 (2 ^ 24) = false ∧ ok32 (2 ^ 32) = false ∧ ok64 (2 ^ 64) = false ∧
    ok16 (2 ^ 16 - 1) = true ∧ ok24 (2 ^ 24 - 1) = true ∧ ok32 (2 ^ 32 - 1) = true ∧ ok64 (2 ^ 64 - 1) = true := by decide +kernel

theorem test_wf_names : okFunc 9 = false ∧ okLink 2 = false ∧ okOff 2 = false ∧ okOff (2 ^ 26) = false ∧ okSize 3 = false ∧ okQueue 256 = false ∧ okPartIx 64 = false ∧
    okPart 8 = false ∧ okJob 8 = false ∧ okGroup 4096 = false ∧ okRank 256 = false ∧ okRank 0xFFFF = true ∧ okUnitType 11 = false ∧ okPhys 2 17 = false ∧ okPhys 2 27 = false ∧ okPhys 2 18 = true ∧
    okAcr 6 = false ∧ okDomain 4 = false ∧ okPort 24 = false ∧ okPortRate 0 = false ∧ okClass 8 = false ∧ okConn (2 ^ 24) = false ∧ okVer 16 = false ∧ okPath 192 = false ∧
    okBankPort 156 = false ∧ okLine (2 ^ 24) = false ∧ okErr 3 = false ∧ okObj (2 ^ 22) = false ∧ okUnit (2 ^ 20) = false ∧ okAsker 10 = false := by decide +kernel

theorem test_wf_contents : okFetch (List.replicate 65 0) = false ∧ okPayload (List.replicate 8193 0) = false ∧ okBody (List.replicate 8193 0) = false ∧ okReq [0x10] = false ∧
    okFamily 2 = false ∧ okAddr 0 [0] = false ∧ okAddr 1 [0, 0, 0, 0] = false ∧ okTlv (List.replicate 512 0) = false ∧
    okFrame (frameOf 4096) = false ∧ okFrame (frameOf 4095) = true ∧ okPtp (ptpOf 16) = false ∧ okPtp (ptpOf 15) = true ∧
    okImage (some (imageOf 8)) = false ∧ okImage (some (imageOf 7)) = true ∧ okFault (some ⟨0, 4096, 0⟩) = false ∧ okFault (some ⟨0, 4095, 4096⟩) = true := by decide +kernel

theorem test_wf_commands : (Instr.registerWrite 9 0 4 0).wf = false ∧ (Instr.registerWrite 0 2 4 0).wf = false ∧ (Instr.registerWrite 0 0 3 0).wf = false ∧ (Instr.registerWrite 0 0x80 4 0).wf = true ∧
    (Instr.nop 256 0).wf = false ∧ (Instr.spareSubstitution 0 72).wf = false ∧ (Instr.spareSubstitution 0 71).wf = true ∧ (Instr.linkUp 24 1).wf = false ∧ (Instr.linkUp 0 4).wf = false ∧
    (Instr.sixRowRepair 16384 0).wf = false ∧ (Instr.tempSample [0]).wf = false ∧ (Instr.mctpSetEndpointId 256).wf = false ∧ (Instr.vectorUnmask 1 256).wf = false := by decide +kernel

end Sys2Proof.Tests
end

section
/-! Event bits: what a set by hardware leaves in the log and in the page's other bits, and what a write of PG_EVENT clears
(02_register_pages.md R43). -/

namespace Sys2Proof.Machine

/-! ### A set of one bit -/

@[simp] theorem Dev.noteEdge_logSeq (d : Dev) (p : Page) (before : Bool) : (d.noteEdge p before).logSeq = d.logSeq := by
  unfold Dev.noteEdge
  split
  · rfl
  · split <;> rfl

theorem Dev.logEvent_log_length (d : Dev) (p : Page) (bit status : Nat) (c : Cause) : (d.logEvent p bit status c).log.length = d.log.length + 1 := rfl

theorem Dev.logEvent_logSeq (d : Dev) (p : Page) (bit status : Nat) (c : Cause) : (d.logEvent p bit status c).logSeq = (d.logSeq + 1) % 2 ^ 32 := rfl

/-- A set of one bit of an event page enters one record into the event log. -/
theorem Dev.raise_logs_once (d : Dev) (p : Page) (bit status : Nat) (c : Cause) (hp : (pageCaps p).event = true) :
    (d.raise p bit status c).log.length = d.log.length + 1 ∧ (d.raise p bit status c).logSeq = (d.logSeq + 1) % 2 ^ 32 := by
  unfold Dev.raise Dev.raiseBits
  rw [if_neg (by simp [hp])]
  dsimp only
  rw [List.foldl_cons, List.foldl_nil, Dev.noteEdge_log, Dev.noteEdge_logSeq, Dev.logEvent_log_length, Dev.logEvent_logSeq,
    Dev.wr64_log, Dev.wr64_logSeq, Dev.inc_log, Dev.inc_logSeq, Dev.wr_log, Dev.wr_logSeq, Dev.setReg_log, Dev.setReg_logSeq]
  exact ⟨rfl, rfl⟩

theorem Dev.eventBit_of_eventSet_ne {d e : Dev} {p : Page} {bit status b : Nat} (h : Dev.eventSet d e p (1#32 <<< bit) status) (hb : b ≠ bit) :
    e.eventBit p b = d.eventBit p b := by
  have hmask : (1#32 <<< bit).getLsbD b = false := by
    rw [← BitVec.twoPow_eq, BitVec.getLsbD_twoPow, decide_eq_false hb.symm, Bool.and_false]
  unfold Dev.eventBit
  rw [h.event, BitVec.getLsbD_or, hmask, Bool.or_false]

/-! ### A write of PG_EVENT -/

theorem bitOf_eq_testBit (n i : Nat) : bitOf n i = n.testBit i := by
  rw [Nat.testBit_eq_decide_div_mod_eq]
  unfold bitOf bitsAt
  rw [Nat.shiftRight_eq_div_pow]
  rfl

theorem filter_bitOf_zero (n : Nat) : (List.range n).filter (bitOf 0) = [] := by
  simp [bitOf_eq_testBit]

theorem filter_bitOf_two_pow {n b : Nat} (hb : b < n) : (List.range n).filter (bitOf (2 ^ b)) = [b] := by
  have hbit : bitOf (2 ^ b) = fun i => decide (i = b) := funext fun i => by
    rw [bitOf_eq_testBit, Nat.testBit_two_pow, decide_eq_decide]
    exact eq_comm
  rw [hbit, List.filter_eq, List.count_range, if_pos hb, List.replicate_one]

/-- With no set in the same cycle, the bits written 1 clear. -/
theorem Dev.clearEvents_no_set (d : Dev) (p : Page) (v : Word) (status : Nat) :
    d.clearEvents p v 0 status = d.setReg (hEvent p).addr (d.reg (hEvent p).addr &&& ~~~v) := by
  unfold Dev.clearEvents Dev.raiseBits
  rw [filter_bitOf_zero]
  simp only [true_or, if_true, BitVec.ofNat_eq_ofNat, BitVec.not_zero, BitVec.and_allOnes]

/-- A set of one bit in the same cycle comes first, and its bit is spared by the clear. -/
theorem Dev.clearEvents_one_set (d : Dev) (p : Page) (v : Word) {b : Nat} (status : Nat) (hb : b < 32) :
    d.clearEvents p v (2 ^ b) status = (d.raise p b status).setReg (hEvent p).addr
      ((d.raise p b status).reg (hEvent p).addr &&& ~~~(v &&& ~~~BitVec.ofNat 32 (2 ^ b))) := by
  unfold Dev.clearEvents Dev.raise
  rw [filter_bitOf_two_pow hb]

@[simp] theorem Dev.eventBit_setReg_event (d : Dev) (p : Page) (w : Word) (b : Nat) :
    (d.setReg (hEvent p).addr w).eventBit p b = w.getLsbD b := by
  unfold Dev.eventBit
  rw [Dev.reg_setReg_self]

theorem Dev.keeps_setReg (d : Dev) (k : Nat) (w : Word) : d.keeps (d.setReg k w) [k] := fun q hq => by
  rw [Dev.reg_setReg, if_neg (by simpa using hq)]

theorem Dev.clearEvents_no_set_clears (d : Dev) (p : Page) (v : Word) (status b : Nat) :
    (d.clearEvents p v 0 status).eventBit p b = (d.eventBit p b && !v.getLsbD b) := by
  rw [Dev.clearEvents_no_set, Dev.eventBit_setReg_event]
  unfold Dev.eventBit
  by_cases hb : b < 32
  · simp [hb]
  · simp [BitVec.getLsbD_of_ge, Nat.le_of_not_lt hb]

theorem Dev.clearEvents_no_set_keeps (d : Dev) (p : Page) (v : Word) (status : Nat) :
    d.keeps (d.clearEvents p v 0 status) [(hEvent p).addr] := by
  rw [Dev.clearEvents_no_set]
  exact Dev.keeps_setReg _ _ _

/-- The set wins over the clear: the bit stands, and every header field that the set wrote is as the set left it. -/
theorem Dev.clearEvents_set_wins (d : Dev) (p : Page) (v : Word) {b : Nat} (status : Nat) (hp : (pageCaps p).event = true) (hb : b < 32) :
    let e := d.clearEvents p v (2 ^ b) status
    e.eventBit p b = true ∧ e.rd (hSeq p) = (d.rd (hSeq p) + 1) % 2 ^ 32 ∧ e.rd (hLastStatus p) = status % 2 ^ 16 ∧
      e.pageStamp p = d.now % 2 ^ 64 := by
  have hset := Dev.raise_spec d p b status {} hp
  have hspared : (BitVec.ofNat 32 (2 ^ b)).getLsbD b = true := by
    rw [BitVec.getLsbD_ofNat, Nat.testBit_two_pow_self, decide_eq_true hb, Bool.and_self]
  have hbit := Dev.eventBit_of_eventSet hset hb
  have hrest : ∀ f : Fld, f.addr ≠ (hEvent p).addr → (d.clearEvents p v (2 ^ b) status).rd f = (d.raise p b status).rd f := fun f hf => by
    rw [Dev.clearEvents_one_set d p v status hb]
    exact Dev.rd_of_reg (by rw [Dev.reg_setReg, if_neg hf])
  have hne : ∀ m n, m ≠ n → p.key + m ≠ p.key + n := fun m n h => by omega
  refine ⟨?_, ?_, ?_, ?_⟩
  · rw [Dev.clearEvents_one_set d p v status hb, Dev.eventBit_setReg_event]
    unfold Dev.eventBit at hbit
    rw [BitVec.getLsbD_and, BitVec.getLsbD_not, BitVec.getLsbD_and, BitVec.getLsbD_not, hbit, hspared]
    simp [hb]
  · rw [hrest _ (hne 0x1C 0x14 (by decide)), hset.seq]
  · rw [hrest _ (hne 0x10 0x14 (by decide)), hset.status]
  · rw [← hset.stamp]
    unfold Dev.pageStamp Dev.rd64
    rw [hrest _ (hne 0x20 0x14 (by decide)), hrest _ (hne 0x24 0x14 (by decide))]

theorem effect_pgEventClear_mapped {d : Dev} {f off o : Nat} {p : Page} (v : Word) (hwSet status : Nat) (hoff : off % 0x1000 = 0x14)
    (hat : d.pageAt f off = some (p, o)) (hp : (pageCaps p).event = true) :
    effect (.pgEventClear f off v hwSet status) d = d.clearEvents p v hwSet status := by
  change effectPgEventClear f off v hwSet status d = _
  unfold effectPgEventClear Dev.when
  simp [hoff, hat, hp]

/-- PG_EVENT_CLEAR at the PG_EVENT of an event page does what the clear of that page does. -/
theorem completes_pgEventClear {s : State} {f off o : Nat} {p : Page} {v : Word} {hwSet status : Nat} {post : Dev → Prop}
    (hoff : off % 0x1000 = 0x14) (hat : s.dev.pageAt f off = some (p, o)) (hp : (pageCaps p).event = true)
    (h : post (s.dev.clearEvents p v hwSet status)) : Completes (.pgEventClear f off v hwSet status) s post :=
  ⟨rfl, (effect_pgEventClear_mapped v hwSet status hoff hat hp).symm ▸ h⟩

/-- Settles O10: a clear with no set in its cycle, a clear with one, and a set alone. -/
theorem eventsSetAndClear : Obligations.EventsSetAndClear := by
  unfold Obligations.EventsSetAndClear
  refine ⟨⟨?_, ?_⟩, ?_⟩
  · intro s f off o st v p hoff hat hp
    exact completes_pgEventClear hoff hat hp ⟨Dev.clearEvents_no_set_clears s.dev p v st, Dev.clearEvents_no_set_keeps s.dev p v st⟩
  · intro s f off o st b v p hoff hat hp hb _
    exact completes_pgEventClear hoff hat hp (Dev.clearEvents_set_wins s.dev p v st hp hb)
  · intro d p bit st c hp hbit
    have hset := Dev.raise_spec d p bit st c hp
    have hothers : ∀ b, b ≠ bit → (d.raise p bit st c).eventBit p b = d.eventBit p b := fun _ hb => Dev.eventBit_of_eventSet_ne hset hb
    exact ⟨Dev.eventBit_of_eventSet hset hbit, hothers, hset.status, hset.seq, hset.stamp, hset.others, Dev.raise_logs_once d p bit st c hp⟩

end Sys2Proof.Machine
end

section
/-! Device resets: the request in HLT_RESET_CTRL, what a start leaves standing, and the warm-reset count over a D4 reset
(18_faults_resets_dumps.md R400, R402; 19_boot_and_trust.md R413). -/

namespace Sys2Proof.Machine

/-! ### Register frames compose -/

theorem Dev.keeps_refl (d : Dev) (ks : List Nat) : d.keeps d ks := fun _ _ => rfl

theorem Dev.keeps_trans {d e f : Dev} {ks : List Nat} (h : d.keeps e ks) (g : e.keeps f ks) : d.keeps f ks :=
  fun k hk => (g k hk).trans (h k hk)

/-- A field write stays within a frame that names its register. -/
theorem Dev.keeps_wr {d e : Dev} {ks : List Nat} {f : Fld} (v : Nat) (hf : f.addr ∈ ks) (h : d.keeps e ks) : d.keeps (e.wr f v) ks :=
  Dev.keeps_trans h fun k hk => Dev.reg_wr_ne e f v k fun heq => hk (heq ▸ hf)

theorem Dev.keeps_foldl {α : Type} {f : Dev → α → Dev} {ks : List Nat} (l : List α) (d : Dev)
    (hf : ∀ x : Dev, ∀ a ∈ l, x.keeps (f x a) ks) : d.keeps (l.foldl f d) ks := by
  induction l generalizing d with
  | nil => exact Dev.keeps_refl d ks
  | cons a l ih =>
    exact Dev.keeps_trans (hf d a List.mem_cons_self) (ih (f d a) fun x b hb => hf x b (List.mem_cons_of_mem a hb))

theorem Dev.rd_of_keeps {d e : Dev} {ks : List Nat} {f : Fld} (h : d.keeps e ks) (hf : f.addr ∉ ks) : e.rd f = d.rd f :=
  Dev.rd_of_reg (h f.addr hf)

theorem Dev.keeps_setSec {d e : Dev} {ks : List Nat} (x : SecState) (h : d.keeps e ks) : d.keeps (e.setSec x) ks :=
  Dev.keeps_trans h fun k _ => Dev.setSec_reg e x k

theorem Dev.keeps_setHif {d e : Dev} {ks : List Nat} (x : HifState) (h : d.keeps e ks) : d.keeps (e.setHif x) ks :=
  Dev.keeps_trans h fun k _ => Dev.setHif_reg e x k

/-! ### A start stands at S0 -/

/-- The registers that a start writes: SEC_STATE, SEC_BOOT and the window on the boot record. -/
def bootRegs : List Nat := F.secState_state.addr :: F.secBoot_stage.addr :: (List.range 8).map fun j => (F.secBrec j).addr

theorem warmCnt_not_mem_bootRegs : F.hltWarmCnt_count.addr ∉ bootRegs := by decide

theorem Dev.showBrec_keeps (d : Dev) : d.keeps d.showBrec bootRegs := by
  unfold Dev.showBrec
  split
  · exact Dev.keeps_refl d bootRegs
  · refine Dev.keeps_foldl _ d fun x j hj => Dev.keeps_wr _ ?_ (Dev.keeps_refl x bootRegs)
    exact List.mem_cons_of_mem _ (List.mem_cons_of_mem _ (List.mem_map_of_mem hj))

theorem Dev.updEntry_keeps (d : Dev) (f : BootEntry → BootEntry) : d.keeps (d.updEntry f) bootRegs := by
  have hboot : F.secBoot_stage.addr ∈ bootRegs := by decide
  unfold Dev.updEntry
  split
  · exact Dev.keeps_refl d bootRegs
  · refine Dev.keeps_trans ?_ (Dev.showBrec_keeps _)
    exact Dev.keeps_wr _ hboot (Dev.keeps_wr _ hboot (Dev.keeps_wr _ hboot (Dev.keeps_setSec _ (Dev.keeps_refl d bootRegs))))

@[simp] theorem Dev.showBrec_sec (d : Dev) : d.showBrec.sec = d.sec := (Dev.showBrec_chg d).rest .sec (by decide)

@[simp] theorem Dev.updEntry_stage (d : Dev) (f : BootEntry → BootEntry) : (d.updEntry f).sec.stage = d.sec.stage := by
  unfold Dev.updEntry
  split
  · rfl
  · simp only [Dev.showBrec_sec, Dev.wr_sec, Dev.setSec_sec]

@[simp] theorem Dev.updEntry_stageFrom (d : Dev) (f : BootEntry → BootEntry) : (d.updEntry f).sec.stageFrom = d.sec.stageFrom := by
  unfold Dev.updEntry
  split
  · rfl
  · simp only [Dev.showBrec_sec, Dev.wr_sec, Dev.setSec_sec]

/-- Boot stands at S0, entered at `d`'s time, with HLT's state and every register but the boot registers as in `d`. -/
structure Dev.startedAtS0 (d e : Dev) : Prop where
  stage : e.sec.stage = 0
  stageFrom : e.sec.stageFrom = d.now
  hlt : e.hlt = d.hlt
  regs : d.keeps e bootRegs

theorem Dev.beginStage_zero (d : Dev) : d.beginStage 0 =
    (d.setSec { d.sec with stage := 0, stageFrom := d.now, alt := 0, altOp := 0, altFrom := 0, running := true }).updEntry
      (fun e => { e with last := 0 }) := by
  simp [Dev.beginStage]

theorem Dev.beginStage_zero_startedAtS0 (d : Dev) : d.startedAtS0 (d.beginStage 0) where
  stage := by rw [Dev.beginStage_zero, Dev.updEntry_stage, Dev.setSec_sec]
  stageFrom := by rw [Dev.beginStage_zero, Dev.updEntry_stageFrom, Dev.setSec_sec]
  hlt := (Dev.beginStage_chg d 0).rest .hlt (by decide)
  regs := by
    rw [Dev.beginStage_zero]
    exact Dev.keeps_trans (Dev.keeps_setSec _ (Dev.keeps_refl d bootRegs)) (Dev.updEntry_keeps _ _)

/-- A start only prepares the boot record, SEC_STATE and the link rates before S0 begins. -/
theorem Dev.bootStart_eq (d : Dev) (kind : Nat) : ∃ x y, d.bootStart kind = (((d.setSec x).wr F.secState_state ssBOOTING).setHif y).beginStage 0 :=
  ⟨_, _, rfl⟩

theorem Dev.bootStart_startedAtS0 (d : Dev) (kind : Nat) : d.startedAtS0 (d.bootStart kind) := by
  obtain ⟨x, y, heq⟩ := Dev.bootStart_eq d kind
  have hstart := Dev.beginStage_zero_startedAtS0 (((d.setSec x).wr F.secState_state ssBOOTING).setHif y)
  rw [heq]
  refine ⟨hstart.stage, hstart.stageFrom, hstart.hlt, Dev.keeps_trans ?_ hstart.regs⟩
  exact Dev.keeps_setHif y (Dev.keeps_wr ssBOOTING (by decide) (Dev.keeps_setSec x (Dev.keeps_refl d bootRegs)))

/-- ROM recovery leaves the stage and its time as the start set them. -/
theorem Dev.startedAtS0.romRecovery {d e : Dev} (h : d.startedAtS0 e) : d.startedAtS0 e.romRecovery where
  stage := by
    unfold Dev.romRecovery
    rw [Dev.setHif_sec, Dev.wr_sec, Dev.updEntry_stage, Dev.setSec_sec, h.stage]
  stageFrom := by
    unfold Dev.romRecovery
    rw [Dev.setHif_sec, Dev.wr_sec, Dev.updEntry_stageFrom, Dev.setSec_sec, h.stageFrom]
  hlt := ((Dev.romRecovery_chg e).rest .hlt (by decide)).trans h.hlt
  regs := by
    refine Dev.keeps_trans h.regs (Dev.keeps_setHif _ (Dev.keeps_wr ssRECOVERY (by decide) ?_))
    exact Dev.keeps_trans (Dev.keeps_setSec _ (Dev.keeps_refl e bootRegs)) (Dev.updEntry_keeps _ _)

/-! ### The D4 reset -/

/-- The power state has no part in where a start stands. -/
theorem Dev.startedAtS0.of_setPwr {d e : Dev} {x : PwrState} (h : (d.setPwr x).startedAtS0 e) : d.startedAtS0 e :=
  ⟨h.stage, h.stageFrom, h.hlt, h.regs⟩

/-- A D4 reset starts the wiped device at S0, whether or not the ROM then goes into recovery. -/
theorem Dev.startD4_startedAtS0 (d : Dev) : d.wipe.startedAtS0 d.startD4 := by
  unfold Dev.startD4
  dsimp only
  split
  · exact (Dev.bootStart_startedAtS0 _ 0).of_setPwr.romRecovery
  · exact (Dev.bootStart_startedAtS0 _ 0).of_setPwr

@[simp] theorem Dev.wipe_now (d : Dev) : d.wipe.now = d.now := rfl

/-- The starts of D3 resets are in the always-on domain (R402). -/
@[simp] theorem Dev.wipe_d3Starts (d : Dev) : d.wipe.hlt.d3Starts = d.hlt.d3Starts := rfl

theorem Dev.wipe_warmCnt (d : Dev) : d.wipe.rd F.hltWarmCnt_count = d.rd F.hltWarmCnt_count % 2 ^ 4 := by
  unfold Dev.wipe
  dsimp only
  rw [Dev.rd_wr_ne _ _ _ _ (by decide), Dev.rd_wr_self _ _ _ (by decide)]
  rfl

@[simp] theorem Dev.clearWarm_now (d : Dev) : d.clearWarm.now = d.now := (Dev.clearWarm_chg d).rest .now (by decide)

theorem Dev.clearWarm_d3Starts (d : Dev) : d.clearWarm.hlt.d3Starts = [] := by
  unfold Dev.clearWarm
  dsimp only
  split
  · rw [(Dev.updEntry_chg _ _).rest .hlt (by decide)]
    rfl
  · rfl

theorem Dev.clearWarm_warmCnt (d : Dev) : d.clearWarm.rd F.hltWarmCnt_count = 0 := by
  have hclear : ((d.setHlt { d.hlt with d3Starts := [] }).wr F.hltWarmCnt_count 0).rd F.hltWarmCnt_count = 0 :=
    Dev.rd_wr_self _ F.hltWarmCnt_count 0 (by decide)
  unfold Dev.clearWarm
  dsimp only
  split
  · rw [Dev.rd_of_keeps (Dev.updEntry_keeps _ _) warmCnt_not_mem_bootRegs, hclear]
  · exact hclear

/-! ### The request -/

theorem Dev.when_true (d : Dev) (f : Dev → Dev) : d.when true f = f d := rfl

theorem Dev.when_false (d : Dev) (f : Dev → Dev) : d.when false f = d := rfl

theorem Dev.resetKeyOk_of_pf_key (d : Dev) : d.resetKeyOk 0 0xA5 = (true, d) := by
  unfold Dev.resetKeyOk
  rw [if_pos ⟨rfl, rfl⟩]

theorem Dev.resetKeyOk_of_not {f key : Nat} (d : Dev) (h : ¬(f = 0 ∧ key = 0xA5)) : d.resetKeyOk f key = (false, d.badAccess f 0x30080 3) := by
  unfold Dev.resetKeyOk
  rw [if_neg h]

theorem effect_d3Request_of_pf_key (d : Dev) : effect (.d3Request 0 0xA5) d = d.startD3 := by
  change effectD3Request 0 0xA5 d = _
  unfold effectD3Request
  rw [Dev.resetKeyOk_of_pf_key, Dev.when_true]

theorem effect_d4Request_of_pf_key (d : Dev) : effect (.d4Request 0 0xA5) d = (d.clearWarm.wr F.pwrLastOff_cause 3).startD4 := by
  change effectD4Request 0 0xA5 d = _
  unfold effectD4Request
  rw [Dev.resetKeyOk_of_pf_key, Dev.when_true]

theorem effect_d3Request_refused {f key : Nat} (d : Dev) (h : ¬(f = 0 ∧ key = 0xA5)) :
    effect (.d3Request f key) d = d.badAccess f 0x30080 3 := by
  change effectD3Request f key d = _
  unfold effectD3Request
  rw [Dev.resetKeyOk_of_not d h, Dev.when_false]

theorem effect_d4Request_refused {f key : Nat} (d : Dev) (h : ¬(f = 0 ∧ key = 0xA5)) :
    effect (.d4Request f key) d = d.badAccess f 0x30080 3 := by
  change effectD4Request f key d = _
  unfold effectD4Request
  rw [Dev.resetKeyOk_of_not d h, Dev.when_false]

/-- Settles O13: the request with its key, for D3 and for D4, and any other write. -/
theorem deviceResets : Obligations.DeviceResets := by
  unfold Obligations.DeviceResets
  refine ⟨fun s => ?_, fun s => ⟨rfl, ?_⟩, fun s f key h => ⟨⟨rfl, ?_⟩, ⟨rfl, ?_⟩⟩⟩
  · unfold Answers
    rw [← effect_d3Request_of_pf_key]
    rfl
  · rw [effect_d4Request_of_pf_key]
    obtain ⟨hstage, hfrom, hhlt, hregs⟩ := Dev.startD4_startedAtS0 (s.dev.clearWarm.wr F.pwrLastOff_cause 3)
    refine ⟨?_, ?_, hstage, ?_, rfl⟩
    · rw [hhlt, Dev.wipe_d3Starts, Dev.wr_hlt, Dev.clearWarm_d3Starts]
    · rw [Dev.rd_of_keeps hregs warmCnt_not_mem_bootRegs, Dev.wipe_warmCnt, Dev.rd_wr_ne _ _ _ _ (by decide), Dev.clearWarm_warmCnt, Nat.zero_mod]
    · rw [hfrom, Dev.wipe_now, Dev.wr_now, Dev.clearWarm_now]
  · rw [effect_d3Request_refused s.dev h]
    exact Dev.recorded_badAccess s.dev f 0x30080 3
  · rw [effect_d4Request_refused s.dev h]
    exact Dev.recorded_badAccess s.dev f 0x30080 3

end Sys2Proof.Machine
end

section
/-! Every command answers a next state: its own effect and what follows at once, within the command's frame (00_scope.md;
95_what_each_step_holds.md). -/

namespace Sys2Proof.Machine

/-- Settles O1: the front command is the one that `step` takes. -/
theorem stepRunsTheFront : Obligations.StepRunsTheFront := by
  intro c rest s
  rfl

/-! ### Every command answers -/

/-- Each arm of `exec` is the command's own effect with what follows at once. -/
theorem exec_eq (c : Instr) (s : State) : exec c s = .next { s with dev := (effect c s.dev).settle s.dev } := by
  cases c <;> rfl

/-- Settles O2: one equation for every arm of `exec`. -/
theorem everyCommandAnswers : Obligations.EveryCommandAnswers := exec_eq

theorem answers_of_effect {c : Instr} {s : State} {own : Dev} (h : effect c s.dev = own) : Answers c s own := h ▸ exec_eq c s

theorem completes_of_effect {c : Instr} {s : State} {post : Dev → Prop} (h : post (effect c s.dev)) : Completes c s post :=
  ⟨exec_eq c s, h⟩

/-! ### Steps -/

theorem step_empty {s : State} (h : s.pending = []) : step s = .next s.idle := by
  unfold step
  rw [h]

theorem step_front {s : State} {c : Instr} {rest : List Instr} (h : s.pending = c :: rest) :
    step s = .next { dev := (effect c s.dev).settle s.dev, pending := rest } := by
  unfold step
  rw [h]
  exact exec_eq c _

/-- What a step can do: an idle tick, or the front command's own effect with what follows at once. -/
theorem step_cases {s t : State} (h : step s = .next t) :
    (s.pending = [] ∧ t = s.idle) ∨
      ∃ c rest, s.pending = c :: rest ∧ t = { dev := (effect c s.dev).settle s.dev, pending := rest } := by
  cases hp : s.pending with
  | nil =>
    rw [step_empty hp] at h
    exact .inl ⟨rfl, (Host.Outcome.next.inj h).symm⟩
  | cons c rest =>
    rw [step_front hp] at h
    exact .inr ⟨c, rest, rfl, (Host.Outcome.next.inj h).symm⟩

/-- Every step ends with what follows every command at once. -/
theorem step_settles {s t : State} (h : step s = .next t) : ∃ d, t.dev = Dev.settle d s.dev := by
  obtain ⟨-, rfl⟩ | ⟨c, rest, -, rfl⟩ := step_cases h
  · exact ⟨s.dev.tick, rfl⟩
  · exact ⟨effect c s.dev, rfl⟩

/-! ### Waiting commands -/

theorem run_succ_of_next {M : Host.Core} {s t : M.State} (n : Nat) (h : M.step s = .next t) : M.run (n + 1) s = M.run n t := by
  simp only [Host.Core.run, h]

/-- As many steps as commands wait leave none. -/
theorem run_pending (s : State) : ∃ t, Host.Core.run core s.pending.length s = .next t ∧ t.pending = [] := by
  obtain ⟨d, l⟩ := s
  induction l generalizing d with
  | nil => exact ⟨_, rfl, rfl⟩
  | cons c l ih =>
    obtain ⟨t, hrun, hempty⟩ := ih ((effect c d).settle d)
    refine ⟨t, ?_, hempty⟩
    have hstep : core.step ⟨d, c :: l⟩ = .next ⟨(effect c d).settle d, l⟩ := exec_eq c ⟨d, l⟩
    exact (run_succ_of_next l.length hstep).trans hrun

/-- Settles O4: by induction on the waiting commands. -/
theorem queueDrains : Obligations.QueueDrains := run_pending

/-! ### Frames of commands -/

/-- The frame of each command is the frame lemma of its own effect. -/
theorem effect_chg (c : Instr) (d : Dev) : Dev.changesOnly (touches c) d (effect c d) := by
  cases c with
  | registerWrite f off size v => exact effectRegisterWrite_chg f off size v d
  | unmappedAccess f off size isWrite v => exact effectUnmappedAccess_chg f off size isWrite v d
  | pgModeWrite f off v => exact effectPgModeWrite_chg f off v d
  | pgEventClear f off v hwSet status => exact effectPgEventClear_chg f off v hwSet status d
  | pgStampLoRead f off => exact effectPgStampLoRead_chg f off d
  | d0Request f off => exact effectD0Request_chg f off d
  | d1Request f off => exact effectD1Request_chg f off d
  | d2Request f off => exact effectD2Request_chg f off d
  | resetComplete dom unit pass => exact effectResetComplete_chg dom unit pass d
  | resetEscalation dom unit => exact effectResetEscalation_chg dom unit d
  | doorbellWrite f n t => exact effectDoorbellWrite_chg f n t d
  | commandFetch q cmds => exact effectCommandFetch_chg q cmds d
  | commandStart q => exact effectCommandStart_chg q d
  | partEnd q ix p fault => exact effectPartEnd_chg q ix p fault d
  | layerDrain q run => exact effectLayerDrain_chg q run d
  | layerRepeat q run => exact effectLayerRepeat_chg q run d
  | boundExpiry q ix p => exact effectBoundExpiry_chg q ix p d
  | queueBlockedAlarm q => exact effectQueueBlockedAlarm_chg q d
  | queueEnable f n => exact effectQueueEnable_chg f n d
  | queueDisable f n => exact effectQueueDisable_chg f n d
  | resume f n => exact effectResume_chg f n d
  | flush f n => exact effectFlush_chg f n d
  | semaphoreSet f v => exact effectSemaphoreSet_chg f v d
  | semaphoreAdd f v => exact effectSemaphoreAdd_chg f v d
  | beaconSend q ix => exact effectBeaconSend_chg q ix d
  | beaconReceive body => exact effectBeaconReceive_chg body d
  | spareSubstitution utype logical => exact effectSpareSubstitution_chg utype logical d
  | sprAssistDoorbell f h => exact effectSprAssistDoorbell_chg f h d
  | nop q ix => exact effectNop_chg q ix d
  | fence q ix => exact effectFence_chg q ix d
  | wait q ix => exact effectWait_chg q ix d
  | signal q ix => exact effectSignal_chg q ix d
  | stamp q ix => exact effectStamp_chg q ix d
  | stepOpen q ix => exact effectStepOpen_chg q ix d
  | stepSeal q ix => exact effectStepSeal_chg q ix d
  | ckpt q ix => exact effectCkpt_chg q ix d
  | restore q ix img => exact effectRestore_chg q ix img d
  | reshard q ix => exact effectReshard_chg q ix d
  | wsetSwap q ix => exact effectWsetSwap_chg q ix d
  | mm q ix p bad => exact effectMm_chg q ix p bad d
  | mmT q ix p bad => exact effectMmT_chg q ix p bad d
  | conv q ix p bad => exact effectConv_chg q ix p bad d
  | attn q ix p bad => exact effectAttn_chg q ix p bad d
  | slice64 q ix p => exact effectSlice64_chg q ix p d
  | slice32 q ix p => exact effectSlice32_chg q ix p d
  | sliceProductPhase q ix p bad => exact effectSliceProductPhase_chg q ix p bad d
  | localisationEnd p cols rows => exact effectLocalisationEnd_chg p cols rows d
  | arrayRampDown p => exact effectArrayRampDown_chg p d
  | vx q ix p => exact effectVx_chg q ix p d
  | sf q ix p => exact effectSf_chg q ix p d
  | norm q ix p => exact effectNorm_chg q ix p d
  | route q ix p => exact effectRoute_chg q ix p d
  | routePhase2 q ix p => exact effectRoutePhase2_chg q ix p d
  | permute q ix p => exact effectPermute_chg q ix p d
  | combine q ix p => exact effectCombine_chg q ix p d
  | fft q ix p => exact effectFft_chg q ix p d
  | gather q ix p => exact effectGather_chg q ix p d
  | scatterAdd q ix p => exact effectScatterAdd_chg q ix p d
  | move q ix => exact effectMove_chg q ix d
  | prefetch q ix => exact effectPrefetch_chg q ix d
  | evict q ix => exact effectEvict_chg q ix d
  | pin q ix => exact effectPin_chg q ix d
  | unpin q ix => exact effectUnpin_chg q ix d
  | allreduce q ix => exact effectAllreduce_chg q ix d
  | reduceScatter q ix => exact effectReduceScatter_chg q ix d
  | allgather q ix => exact effectAllgather_chg q ix d
  | alltoall q ix => exact effectAlltoall_chg q ix d
  | bcastChain q ix => exact effectBcastChain_chg q ix d
  | send q ix => exact effectSend_chg q ix d
  | recv q ix => exact effectRecv_chg q ix d
  | barrier q ix => exact effectBarrier_chg q ix d
  | collectiveWaitTimeout q ix rank => exact effectCollectiveWaitTimeout_chg q ix rank d
  | update q ix => exact effectUpdate_chg q ix d
  | groupCfg q ix => exact effectGroupCfg_chg q ix d
  | stats q ix => exact effectStats_chg q ix d
  | acrWindowRelease k => exact effectAcrWindowRelease_chg k d
  | acrAssistDoorbell f k h => exact effectAcrAssistDoorbell_chg f k h d
  | loadWpk q ix tables fail => exact effectLoadWpk_chg q ix tables fail d
  | wpkChunk q ix n bytes fail => exact effectWpkChunk_chg q ix n bytes fail d
  | chainAssistDoorbell f h => exact effectChainAssistDoorbell_chg f h d
  | wsetDefWrite f v => exact effectWsetDefWrite_chg f v d
  | marketRead port part q ix p line err => exact effectMarketRead_chg port part q ix p line err d
  | marketWrite port part q ix p line mask data err => exact effectMarketWrite_chg port part q ix p line mask data err d
  | reductionWrite port part q ix p line mode stream pass first data err => exact effectReductionWrite_chg port part q ix p line mode stream pass first data err d
  | scrubRead line err => exact effectScrubRead_chg line err d
  | bankCopyEnd b bad => exact effectBankCopyEnd_chg b bad d
  | quotaWrite t1 n v => exact effectQuotaWrite_chg t1 n v d
  | create f => exact effectCreate_chg f d
  | delete f => exact effectDelete_chg f d
  | query f => exact effectQuery_chg f d
  | refill f => exact effectRefill_chg f d
  | refillDone f => exact effectRefillDone_chg f d
  | reload f => exact effectReload_chg f d
  | objectReference q ix p h u write err line => exact effectObjectReference_chg q ix p h u write err line d
  | unitArrived k u data => exact effectUnitArrived_chg k u data d
  | writeBackEnd k u t => exact effectWriteBackEnd_chg k u t d
  | leavingRelease k u => exact effectLeavingRelease_chg k u d
  | tirAssistDoorbell f h => exact effectTirAssistDoorbell_chg f h d
  | t2ReadFail k u => exact effectT2ReadFail_chg k u d
  | t2Retry k u => exact effectT2Retry_chg k u d
  | sixRowRepair row fault => exact effectSixRowRepair_chg row fault d
  | hbmScrub k err => exact effectHbmScrub_chg k err d
  | deviceVote j => exact effectDeviceVote_chg j d
  | voteReceive body => exact effectVoteReceive_chg body d
  | holdSend j => exact effectHoldSend_chg j d
  | holdReceive body => exact effectHoldReceive_chg body d
  | voteTimeout j => exact effectVoteTimeout_chg j d
  | stallSend j => exact effectStallSend_chg j d
  | stallReceive body => exact effectStallReceive_chg body d
  | coordinatorTakeover j => exact effectCoordinatorTakeover_chg j d
  | queryReceive body => exact effectQueryReceive_chg body d
  | answerReceive body => exact effectAnswerReceive_chg body d
  | commitReceive body => exact effectCommitReceive_chg body d
  | commitApply j => exact effectCommitApply_chg j d
  | abortReceive body => exact effectAbortReceive_chg body d
  | ldgAssistDoorbell f h => exact effectLdgAssistDoorbell_chg f h d
  | ckptComplete j => exact effectCkptComplete_chg j d
  | ckptFailed j status => exact effectCkptFailed_chg j status d
  | seedWrite f j v => exact effectSeedWrite_chg f j v d
  | scaleBaseWrite f j v => exact effectScaleBaseWrite_chg f j v d
  | hostLinkLost link => exact effectHostLinkLost_chg link d
  | parkReceive body => exact effectParkReceive_chg body d
  | unpark j => exact effectUnpark_chg j d
  | unparkReceive body => exact effectUnparkReceive_chg body d
  | parkLimitExpiry j => exact effectParkLimitExpiry_chg j d
  | linkUp p rate => exact effectLinkUp_chg p rate d
  | linkDown p => exact effectLinkDown_chg p d
  | rateFallback p => exact effectRateFallback_chg p d
  | laneFail p lane => exact effectLaneFail_chg p lane d
  | portRetrain p => exact effectPortRetrain_chg p d
  | retrainClearLanes p => exact effectRetrainClearLanes_chg p d
  | portDisable p => exact effectPortDisable_chg p d
  | frameRefused p fr => exact effectFrameRefused_chg p fr d
  | arpReceive p family target asker => exact effectArpReceive_chg p family target asker d
  | echoRequest p family target asker body => exact effectEchoRequest_chg p family target asker body d
  | lldpduReceive p ttl chassis port tlv mgmt => exact effectLldpduReceive_chg p ttl chassis port tlv mgmt d
  | lldpNeighbourExpire p => exact effectLldpNeighbourExpire_chg p d
  | lldpSend p => exact effectLldpSend_chg p d
  | pfcFrameReceive p vec quanta => exact effectPfcFrameReceive_chg p vec quanta d
  | pfcXoffRepeat p cls held => exact effectPfcXoffRepeat_chg p cls held d
  | pauseWatchdog p cls => exact effectPauseWatchdog_chg p cls d
  | pauseHoldoffEnd p cls => exact effectPauseHoldoffEnd_chg p cls d
  | frameTransmit p align => exact effectFrameTransmit_chg p align d
  | tsFifoPop p => exact effectTsFifoPop_chg p d
  | ptpReceive p m => exact effectPtpReceive_chg p m d
  | syncSend p => exact effectSyncSend_chg p d
  | wakeFrame p fr tags etype token => exact effectWakeFrame_chg p fr tags etype token d
  | wakeLockoutEnd p => exact effectWakeLockoutEnd_chg p d
  | dataReceive conn ver psn msgId off epoch step group rank lenM1 stamp ce bytes => exact effectDataReceive_chg conn ver psn msgId off epoch step group rank lenM1 stamp ce bytes d
  | ctrlReceive conn ver psn msgId stamp ce body => exact effectCtrlReceive_chg conn ver psn msgId stamp ce body d
  | ctrlDeliver => exact effectCtrlDeliver_chg d
  | ackReceive conn ver cum bitmap stamp stale => exact effectAckReceive_chg conn ver cum bitmap stamp stale d
  | nackReceive conn ver psns unverified => exact effectNackReceive_chg conn ver psns unverified d
  | notReadyReceive conn ver psn => exact effectNotReadyReceive_chg conn ver psn d
  | cnpReceive conn ver => exact effectCnpReceive_chg conn ver d
  | rateIncrease conn => exact effectRateIncrease_chg conn d
  | helloReceive port body => exact effectHelloReceive_chg port body d
  | helloAckReceive port conn body => exact effectHelloAckReceive_chg port conn body d
  | helloResend conn => exact effectHelloResend_chg conn d
  | closeReceive conn => exact effectCloseReceive_chg conn d
  | packetCrcFail conn psn group rank msgId => exact effectPacketCrcFail_chg conn psn group rank msgId d
  | ackSend conn => exact effectAckSend_chg conn d
  | nackSend conn => exact effectNackSend_chg conn d
  | retransmitTimeout conn => exact effectRetransmitTimeout_chg conn d
  | probeSend peer path => exact effectProbeSend_chg peer path d
  | probeReceive peer path => exact effectProbeReceive_chg peer path d
  | peerUnreachable peer => exact effectPeerUnreachable_chg peer d
  | tbnAssistDoorbell f h => exact effectTbnAssistDoorbell_chg f h d
  | connIdleClose conn => exact effectConnIdleClose_chg conn d
  | joinSend => exact effectJoinSend_chg d
  | becomeKeeper => exact effectBecomeKeeper_chg d
  | joinReceive body => exact effectJoinReceive_chg body d
  | rosterReceive body => exact effectRosterReceive_chg body d
  | hbSend => exact effectHbSend_chg d
  | hbReceive body => exact effectHbReceive_chg body d
  | memberSuspect dev => exact effectMemberSuspect_chg dev d
  | memberRemove dev => exact effectMemberRemove_chg dev d
  | keeperLoss => exact effectKeeperLoss_chg d
  | keeperReceive body => exact effectKeeperReceive_chg body d
  | leaveReceive body => exact effectLeaveReceive_chg body d
  | unreachReceive body => exact effectUnreachReceive_chg body d
  | spareWakeSend => exact effectSpareWakeSend_chg d
  | spareWakeTimeout => exact effectSpareWakeTimeout_chg d
  | wakeDoneReceive body => exact effectWakeDoneReceive_chg body d
  | colAssistDoorbell f h => exact effectColAssistDoorbell_chg f h d
  | redReceive src body => exact effectRedReceive_chg src body d
  | quoteReqReceive body => exact effectQuoteReqReceive_chg body d
  | quoteReceive body => exact effectQuoteReceive_chg body d
  | quoteTimeout dev => exact effectQuoteTimeout_chg dev d
  | gracefulLeave => exact effectGracefulLeave_chg d
  | leaveSend => exact effectLeaveSend_chg d
  | forget => exact effectForget_chg d
  | partitionWrite f p r v => exact effectPartitionWrite_chg f p r v d
  | vfFlr f => exact effectVfFlr_chg f d
  | perstAssert link => exact effectPerstAssert_chg link d
  | perstRelease link => exact effectPerstRelease_chg link d
  | hotReset link => exact effectHotReset_chg link d
  | bar2Read f off len => exact effectBar2Read_chg f off len d
  | bar2Write f off data => exact effectBar2Write_chg f off data d
  | windowConfig f v => exact effectWindowConfig_chg f v d
  | vectorUnmask f n => exact effectVectorUnmask_chg f n d
  | sourceEnable f n v => exact effectSourceEnable_chg f n v d
  | sourceLatch n => exact effectSourceLatch_chg n d
  | sourcePresent n => exact effectSourcePresent_chg n d
  | hostMessage n => exact effectHostMessage_chg n d
  | eoi f n => exact effectEoi_chg f n d
  | getVersion who req => exact effectGetVersion_chg who req d
  | getCapabilities who req => exact effectGetCapabilities_chg who req d
  | negotiateAlgorithms who req => exact effectNegotiateAlgorithms_chg who req d
  | getDigests who req => exact effectGetDigests_chg who req d
  | getCertificate who req => exact effectGetCertificate_chg who req d
  | challenge who req => exact effectChallenge_chg who req d
  | getMeasurements who req => exact effectGetMeasurements_chg who req d
  | clockFault island n => exact effectClockFault_chg island n d
  | supplyFault => exact effectSupplyFault_chg d
  | selfTestRound => exact effectSelfTestRound_chg d
  | selfTestEnd t p pass => exact effectSelfTestEnd_chg t p pass d
  | selfTestSlice t p => exact effectSelfTestSlice_chg t p d
  | closedUnitRetest t p => exact effectClosedUnitRetest_chg t p d
  | fullSelfTestEnd t p pass => exact effectFullSelfTestEnd_chg t p pass d
  | d3Request f key => exact effectD3Request_chg f key d
  | d4Request f key => exact effectD4Request_chg f key d
  | lockstep => exact effectLockstep_chg d
  | dumpRequest => exact effectDumpRequest_chg d
  | dumpAgentTimeout ident => exact effectDumpAgentTimeout_chg ident d
  | dumpComplete present skipped => exact effectDumpComplete_chg present skipped d
  | dumpChunkFetch v present => exact effectDumpChunkFetch_chg v present d
  | hltAssistDoorbell f h => exact effectHltAssistDoorbell_chg f h d
  | dumpToHost => exact effectDumpToHost_chg d
  | dumpCopyEnd => exact effectDumpCopyEnd_chg d
  | bootStart => exact effectBootStart_chg d
  | stageComplete bad key => exact effectStageComplete_chg bad key d
  | stageFail unit status => exact effectStageFail_chg unit status d
  | bootRestart => exact effectBootRestart_chg d
  | bootAltDoorbell f h => exact effectBootAltDoorbell_chg f h d
  | bootAltTimeout => exact effectBootAltTimeout_chg d
  | fwWrite img => exact effectFwWrite_chg img d
  | fwActivate => exact effectFwActivate_chg d
  | fwCommit => exact effectFwCommit_chg d
  | configRequest hostSplit altMode => exact effectConfigRequest_chg hostSplit altMode d
  | timeLock => exact effectTimeLock_chg d
  | offsetAlarm => exact effectOffsetAlarm_chg d
  | timeStep f => exact effectTimeStep_chg f d
  | uncertaintyUpdate => exact effectUncertaintyUpdate_chg d
  | capWrite f v => exact effectCapWrite_chg f v d
  | governorAdjust power => exact effectGovernorAdjust_chg power d
  | tempSample temps => exact effectTempSample_chg temps d
  | thermalCapStep => exact effectThermalCapStep_chg d
  | idleEntry => exact effectIdleEntry_chg d
  | standbyRequest f key => exact effectStandbyRequest_chg f key d
  | dormantRequest f key => exact effectDormantRequest_chg f key d
  | pwrEnAssert => exact effectPwrEnAssert_chg d
  | pwrEnDeassert => exact effectPwrEnDeassert_chg d
  | inputLow => exact effectInputLow_chg d
  | pldmGetSensor id => exact effectPldmGetSensor_chg id d
  | pldmPowerCap v => exact effectPldmPowerCap_chg v d
  | pldmWake => exact effectPldmWake_chg d
  | pldmResetD4 => exact effectPldmResetD4_chg d
  | pldmFirmwareUpdate img => exact effectPldmFirmwareUpdate_chg img d
  | standbyRailRise slotId => exact effectStandbyRailRise_chg slotId d
  | standbyRailLoss => exact effectStandbyRailLoss_chg d
  | pcieLinkUp link rate width flit => exact effectPcieLinkUp_chg link rate width flit d
  | pcieConfigAccess f reg val => exact effectPcieConfigAccess_chg f reg val d
  | doeDiscovery f index => exact effectDoeDiscovery_chg f index d
  | mctpSetEndpointId eid => exact effectMctpSetEndpointId_chg eid d
  | pauseExpiry p cls => exact effectPauseExpiry_chg p cls d
  | fwWriteComplete same => exact effectFwWriteComplete_chg same d

theorem deviceId_not_mem_touches (c : Instr) : Table.deviceId ∉ touches c :=
  of_decide_eq_false (by cases c <;> rfl)

theorem now_not_mem_touches {c : Instr} (hlock : c ≠ .timeLock) (hstep : ∀ b, c ≠ .timeStep b) (hloss : c ≠ .standbyRailLoss) :
    Table.now ∉ touches c := by
  refine of_decide_eq_false ?_
  cases c
  case timeLock => exact absurd rfl hlock
  case timeStep b => exact absurd rfl (hstep b)
  case standbyRailLoss => exact absurd rfl hloss
  all_goals rfl

theorem Dev.settle_now (d before : Dev) : (d.settle before).now = d.now := (Dev.settle_chg d before).rest .now (by decide)

theorem Dev.settle_deviceId (d before : Dev) : (d.settle before).deviceId = d.deviceId := (Dev.settle_chg d before).rest .deviceId (by decide)

theorem step_deviceId {s t : State} (h : step s = .next t) : t.dev.deviceId = s.dev.deviceId := by
  obtain ⟨-, rfl⟩ | ⟨c, rest, -, rfl⟩ := step_cases h
  · exact (Dev.settle_deviceId _ _).trans ((Dev.tick_chg s.dev).rest .deviceId (by decide))
  · exact (Dev.settle_deviceId _ _).trans ((effect_chg c s.dev).rest .deviceId (deviceId_not_mem_touches c))

/-- Settles O5: the frame lemmas of the effects and of what follows them. -/
theorem everyCommandFrame : Obligations.EveryCommandFrame := by
  refine ⟨effect_chg, Dev.settle_chg, fun c s t hlock hstep hloss h => ?_, fun _ _ => step_deviceId⟩
  rw [exec_eq] at h
  obtain rfl := Host.Outcome.next.inj h
  exact (Dev.settle_now _ _).trans ((effect_chg c s.dev).rest .now (now_not_mem_touches hlock hstep hloss))

/-! ### Idling -/

theorem Dev.lowPower_now (d : Dev) : d.lowPower.now = d.now := (Dev.lowPower_chg d).rest .now (by decide)

/-- Settles O3: the tick, and what follows it. -/
theorem emptyQueueTicks : Obligations.EmptyQueueTicks := by
  intro s h
  refine ⟨s.idle, step_empty h, h, ?_, step_deviceId (step_empty h)⟩
  exact (Dev.settle_now _ _).trans (Dev.lowPower_now _)

end Sys2Proof.Machine
end

section
/-! GLB PG_HEALTH after every step (02_register_pages.md R41). -/

namespace Sys2Proof.Machine

/-- A set of an event bit keeps every field outside the page's event registers, whether or not the page has events. -/
theorem Dev.keeps_raise (d : Dev) (p : Page) (bit status : Nat) (c : Cause) : d.keeps (d.raise p bit status c) p.eventRegs := by
  by_cases hp : (pageCaps p).event = true
  · exact (Dev.raise_spec d p bit status c hp).others
  · rw [Dev.raise_none d p bit status c (by simpa using hp)]
    exact Dev.keeps_refl d _

/-- The registers that a change of a block's health may write. -/
def healthRegs (b : Block) (i : Nat) : List Nat := (hHealth (pfPage b i 0)).addr :: (eventPages b i).flatMap Page.eventRegs

theorem Dev.keeps_mono {d e : Dev} {ks ls : List Nat} (h : d.keeps e ks) (hs : ∀ k ∈ ks, k ∈ ls) : d.keeps e ls :=
  fun k hk => h k fun hm => hk (hs k hm)

theorem Dev.keeps_setHealth (d : Dev) (b : Block) (i st : Nat) : d.keeps (d.setHealth b i st) (healthRegs b i) := by
  unfold Dev.setHealth
  split
  · exact Dev.keeps_refl d _
  · refine Dev.keeps_trans (Dev.keeps_wr st List.mem_cons_self (Dev.keeps_refl d _)) (Dev.keeps_foldl _ _ fun x p hp => ?_)
    exact Dev.keeps_mono (Dev.keeps_raise x p 31 St.ok {}) fun k hk => List.mem_cons_of_mem _ (List.mem_flatMap.mpr ⟨p, hp, hk⟩)

/-- The event pages' registers are not the one that holds the health. -/
theorem Dev.rd_setHealth_glb (d : Dev) (st : Nat) (hst : st < 4) :
    (d.setHealth .glb 0 st).rd (hHealth (pfPage .glb 0 0)) = st := by
  unfold Dev.setHealth
  split
  · assumption
  · have hkeep := Dev.keeps_foldl (f := fun d p => d.raise p 31 St.ok) (eventPages .glb 0) (d.wr (hHealth (pfPage .glb 0 0)) st)
      (ks := (eventPages .glb 0).flatMap Page.eventRegs) fun x p hp =>
        Dev.keeps_mono (Dev.keeps_raise x p 31 St.ok {}) fun k hk => List.mem_flatMap.mpr ⟨p, hp, hk⟩
    rw [Dev.rd_of_keeps hkeep (by decide), Dev.rd_wr_self _ _ _ (by decide)]
    exact Nat.mod_eq_of_lt hst

/-! ### The map's condition rests on the spare map, the stacks, the banks and the ports' health -/

theorem Dev.allMapped_congr {d e : Dev} (hspr : e.spr = d.spr) (htir : e.tir = d.tir) (hmkt : e.mkt = d.mkt)
    (hport : ∀ p ∈ List.range 24, e.rd (hHealth (pfPage .fab p 0)) = d.rd (hHealth (pfPage .fab p 0))) : e.allMapped = d.allMapped := by
  have hworks : ∀ t l, e.works t l = d.works t l := fun t l => by
    unfold Dev.works Dev.physOf
    rw [hspr]
  have hports : (List.range 24).all (fun p => e.rd (hHealth (pfPage .fab p 0)) == 0) =
      (List.range 24).all (fun p => d.rd (hHealth (pfPage .fab p 0)) == 0) := by
    rw [Bool.eq_iff_iff, List.all_eq_true, List.all_eq_true]
    exact forall₂_congr fun p hp => by rw [hport p hp]
  unfold Dev.allMapped
  rw [htir, hmkt, hports]
  simp only [hworks]

theorem fabHealth_not_mem_glb : ∀ p ∈ List.range 24, (hHealth (pfPage .fab p 0)).addr ∉ healthRegs .glb 0 := by decide

@[simp] theorem Dev.glbHealth_allMapped (d : Dev) : d.glbHealth.allMapped = d.allMapped :=
  Dev.allMapped_congr ((Dev.setHealth_chg ..).rest .spr (by decide)) ((Dev.setHealth_chg ..).rest .tir (by decide))
    ((Dev.setHealth_chg ..).rest .mkt (by decide))
    fun p hp => Dev.rd_of_keeps (Dev.keeps_setHealth d .glb 0 _) (fabHealth_not_mem_glb p hp)

theorem Dev.glbHealth_health (d : Dev) : d.glbHealth.rd (hHealth (pfPage .glb 0 0)) = if d.glbHealth.allMapped then 0 else 1 := by
  rw [Dev.glbHealth_allMapped]
  exact Dev.rd_setHealth_glb d _ (by split <;> decide)

/-! ### The power state after a command leaves health alone -/

theorem Dev.keeps_settlePower (d before : Dev) : d.keeps (d.settlePower before) [F.pwrState_state.addr] := by
  intro k hk
  have hne : k ≠ F.pwrState_state.addr := by simpa using hk
  unfold Dev.settlePower
  simp only [Dev.setPwr_reg, apply_ite (Dev.reg · k), Dev.emit_reg, Dev.reg_wr_ne _ _ _ _ hne, ite_self]

@[simp] theorem Dev.settlePower_allMapped (d before : Dev) : (d.settlePower before).allMapped = d.allMapped :=
  Dev.allMapped_congr ((Dev.settlePower_chg ..).rest .spr (by decide)) ((Dev.settlePower_chg ..).rest .tir (by decide))
    ((Dev.settlePower_chg ..).rest .mkt (by decide))
    fun p hp => Dev.rd_of_keeps (Dev.keeps_settlePower d before) (by revert p; decide)

/-- What follows every command leaves GLB PG_HEALTH as the map has it. -/
theorem Dev.settle_glbHealth (d before : Dev) :
    (d.settle before).rd (hHealth (pfPage .glb 0 0)) = if (d.settle before).allMapped then 0 else 1 := by
  unfold Dev.settle
  rw [Dev.settlePower_allMapped, Dev.rd_of_keeps (Dev.keeps_settlePower _ before) (by decide), Dev.glbHealth_health]

/-- Settles O6: every step ends with what follows every command. -/
theorem glbHealthAfterEveryStep : Obligations.GlbHealthAfterEveryStep := by
  intro s t h
  obtain ⟨d, hd⟩ := step_settles h
  rw [hd]
  exact Dev.settle_glbHealth d s.dev

end Sys2Proof.Machine
end

section
/-! What reset leaves (02_register_pages.md R48; 03_klotchaex_command_stream.md R70; 18_faults_resets_dumps.md R402). -/

namespace Sys2Proof.Machine

/-! ### Header registers reset to 0 on every page -/

theorem Dev.reset_reg (k : Nat) : Dev.reset.reg k = regReset k := rfl

theorem Block.base_mod (b : Block) : b.base % 0x1000 = 0 := by cases b <;> rfl

theorem Block.stride_mod (b : Block) : b.stride % 0x1000 = 0 := by cases b <;> rfl

theorem vfViews_base_mod : ∀ v ∈ vfViews, v.2.1 % 0x1000 = 0 := by decide

theorem mul_stride_mod (b : Block) (i : Nat) : i * b.stride % 0x1000 = 0 :=
  Nat.mod_eq_zero_of_dvd (Nat.dvd_mul_left_of_dvd (Nat.dvd_of_mod_eq_zero b.stride_mod) i)

theorem Page.offset_mod (p : Page) : p.offset % 0x1000 = 0 := by
  unfold Page.offset
  split
  · have hbase := p.blk.base_mod
    have hinst := mul_stride_mod p.blk p.inst
    omega
  · split
    · next v hv =>
      have hbase := vfViews_base_mod v (List.mem_of_find?_eq_some hv)
      split <;> omega
    · rfl

theorem Page.key_mod (p : Page) : p.key % 0x1000 = 0 := by
  have hoff := p.offset_mod
  unfold Page.key
  omega

theorem Block.regs_off (b : Block) : b.regs.all (fun r => decide (0x80 ≤ r.off)) = true := by cases b <;> rfl

/-- No block defines a register below offset 0x80 of a page. -/
theorem findReg_header (b : Block) (page : Nat) {o : Nat} (ho : o < 0x80) : findReg b page o = none := by
  unfold findReg
  rw [Option.map_eq_none_iff, List.find?_eq_none]
  intro r hr hhit
  have hoff := of_decide_eq_true (List.all_eq_true.mp b.regs_off r hr)
  simp only [Bool.and_eq_true, decide_eq_true_eq] at hhit
  omega

theorem pageReset_header (b : Block) (page : Nat) {o : Nat} (ho : o < 0x80) : pageReset b page o = 0 := by
  have hreg : pageReg b page o = none := by
    unfold pageReg
    split
    · unfold evtSrcReg
      rw [if_neg (by omega)]
    · exact findReg_header b page ho
  unfold pageReset
  rw [hreg]

theorem regReset_header {k : Nat} (hk : k % 0x1000 < 0x80) : regReset k = 0 := by
  unfold regReset
  dsimp only
  split
  · split
    · exact pageReset_header _ _ (by omega)
    · rfl
  · split
    · rfl
    · next b i _ =>
      have hbase := b.base_mod
      have hinst := mul_stride_mod b i
      exact pageReset_header _ _ (by omega)

theorem Dev.reset_rd_header (p : Page) {o : Nat} (lo w : Nat) (ho : o < 0x80) : Dev.reset.rd (hdrFld p o lo w) = 0 := by
  have hkey := p.key_mod
  have hreset : regReset (p.key + o) = 0 := regReset_header (by omega)
  unfold Dev.rd
  rw [Dev.reset_reg, show (hdrFld p o lo w).addr = p.key + o from rfl, hreset]
  simp [bitsAt]

theorem Dev.reset_eventBit (p : Page) (b : Nat) : Dev.reset.eventBit p b = false := by
  have hkey := p.key_mod
  have hreset : regReset (p.key + 0x14) = 0 := regReset_header (by omega)
  unfold Dev.eventBit
  rw [Dev.reset_reg, show (hEvent p).addr = p.key + 0x14 from rfl, hreset]
  exact BitVec.getLsbD_zero

/-- Settles O8: empty tables, and the reset values of the register tables. -/
theorem resetValues : Obligations.ResetValues := by
  refine ⟨rfl, rfl, fun _ _ => rfl, fun n p _ _ => ⟨?_, Dev.reset_rd_header p 0 1 (by decide), Dev.reset_eventBit p⟩, ?_⟩
  · unfold Dev.flag
    rw [show hLock p = hdrFld p 0x0C 16 1 from rfl, Dev.reset_rd_header p 16 1 (by decide)]
    rfl
  · exact ⟨by decide, by decide, by decide, by decide⟩

end Sys2Proof.Machine
end

section
/-! The holding registers of PG_STAMP_LO (02_register_pages.md R44). -/

namespace Sys2Proof.Machine

theorem effect_pgStampLoRead_mapped {d : Dev} {f off o : Nat} {p : Page} (hoff : off % 0x1000 = 0x20) (hat : d.pageAt f off = some (p, o))
    (hp : (pageCaps p).event = true) :
    effect (.pgStampLoRead f off) d = d.setStampHold (mapPut d.stampHold (f * 2 ^ 32 + p.key) (d.reg (hStampHi p).addr)) := by
  change effectPgStampLoRead f off d = _
  unfold effectPgStampLoRead Dev.when
  simp [hoff, hat, hp]

/-- Settles O11: one entry of the holding table is put. -/
theorem stampHolds : Obligations.StampHolds := by
  intro s f off o p hoff hat hp
  refine completes_of_effect ?_
  rw [effect_pgStampLoRead_mapped hoff hat hp]
  refine ⟨?_, Dev.setStampHold_chg _ _, fun k hk => ?_⟩
  · rw [Dev.setStampHold_stampHold, mapLook_mapPut_self]
  · rw [Dev.setStampHold_stampHold, mapLook_mapPut_ne _ _ hk]

end Sys2Proof.Machine
end

section
/-! Semaphores and waits (03_klotchaex_command_stream.md R70, R71, R73). -/

namespace Sys2Proof.Machine

/-- A set leaves in the semaphore table the value modulo 2^32, and every other entry. -/
theorem Dev.sem_semSet (d : Dev) (p i v p' i' : Nat) :
    (d.semSet p i v).sem p' i' = if p' * 65536 + i' = p * 65536 + i then v % 2 ^ 32 else d.sem p' i' :=
  mapGet_mapSet ..

theorem Dev.sem_semSet_self (d : Dev) (p i v : Nat) : (d.semSet p i v).sem p i = v % 2 ^ 32 := by
  rw [Dev.sem_semSet, if_pos rfl]

theorem Dev.sem_semSet_ne (d : Dev) {p i p' i' : Nat} (v : Nat) (hi : i < 65536) (hi' : i' < 65536) (h : (p', i') ≠ (p, i)) :
    (d.semSet p i v).sem p' i' = d.sem p' i' := by
  rw [Dev.sem_semSet, if_neg fun heq => h (Prod.ext (by omega) (by omega))]

theorem effect_semaphoreSet_selected {d : Dev} {f p i : Nat} (v : Word) (h : d.semSel f = some (p, i)) :
    effect (.semaphoreSet f v) d = d.semSet p i v.toNat := by
  change effectSemaphoreSet f v d = _
  unfold effectSemaphoreSet
  rw [h]

theorem effect_semaphoreAdd_selected {d : Dev} {f p i : Nat} (v : Word) (h : d.semSel f = some (p, i)) :
    effect (.semaphoreAdd f v) d = d.semSet p i (d.sem p i + v.toNat) := by
  change effectSemaphoreAdd f v d = _
  unfold effectSemaphoreAdd
  rw [h]
  rfl

/-- Settles O20: both are a set of the selected semaphore. -/
theorem semaphores : Obligations.Semaphores := by
  intro s f p i v hsel hi
  refine ⟨completes_of_effect ?_, completes_of_effect ?_⟩
  · rw [effect_semaphoreSet_selected v hsel]
    refine ⟨?_, Dev.semSet_chg .., fun p' i' hi' hne => Dev.sem_semSet_ne _ _ hi hi' hne⟩
    rw [Dev.sem_semSet_self, Nat.mod_eq_of_lt v.isLt]
  · rw [effect_semaphoreAdd_selected v hsel]
    exact ⟨Dev.sem_semSet_self .., Dev.semSet_chg .., fun p' i' hi' hne => Dev.sem_semSet_ne _ _ hi hi' hne⟩

/-! ### Waits -/

theorem semReached_iff {s v : Nat} (hv : v < 65536) : semReached s v = true ↔ ∃ k, k < 32768 ∧ s % 65536 = (v + k) % 65536 := by
  unfold semReached
  rw [decide_eq_true_eq]
  constructor
  · exact fun h => ⟨_, h, by omega⟩
  · rintro ⟨k, hk, heq⟩
    omega

/-- A table whose entries are mapped under their own keys answers the mapped entry. -/
theorem mapLook_map_key {α : Type} {f : Nat × α → Nat × α} (hf : ∀ e, (f e).1 = e.1) (m : List (Nat × α)) (k : Nat) :
    mapLook (m.map f) k = (mapLook m k).map fun x => (f (k, x)).2 := by
  induction m with
  | nil => rfl
  | cons e m ih =>
    obtain ⟨a, x⟩ := e
    have hkey : f (a, x) = (a, (f (a, x)).2) := Prod.ext (hf (a, x)) rfl
    rw [List.map_cons, hkey, mapLook, mapLook]
    split
    · subst_vars
      rfl
    · exact ih

theorem Dev.queueWaits_fst (d : Dev) (x : Nat × Queue) : (d.queueWaits x).1 = x.1 := rfl

/-- A set evaluates the waits of every queue again. -/
theorem Dev.queue_semSet {d : Dev} {q : Nat} {x : Queue} (p i v : Nat) (h : mapLook d.kqp.queues q = some x) :
    ∃ e : Dev, (d.semSet p i v).queue q = (e.queueWaits (q, x)).2 := by
  let e := d.setKqp { d.kqp with sems := mapSet 0 d.kqp.sems (p * 65536 + i) (v % 2 ^ 32) }
  have hlook : mapLook (d.semSet p i v).kqp.queues q = some (e.queueWaits (q, x)).2 := by
    change mapLook (d.kqp.queues.map e.queueWaits) q = _
    rw [mapLook_map_key e.queueWaits_fst, h, Option.map_some]
  refine ⟨e, ?_⟩
  unfold Dev.queue mapGet
  rw [hlook, Option.getD_some]

/-- A head command's wait that is satisfied stays so. -/
theorem Dev.queueWaits_waited (d : Dev) {q : Nat} {x : Queue} (h : x.waited = true) : (d.queueWaits (q, x)).2.waited = true := by
  unfold Dev.queueWaits
  dsimp only
  split
  · rw [h, Bool.true_or]
  · exact h

/-- The slots of a WAIT that are satisfied stay so. -/
theorem Dev.queueWaits_exec (d : Dev) {q : Nat} {x : Queue} {e : CmdEx} (he : e ∈ x.exec) (hop : cmdOpcode e.cmd = opWAIT) :
    ∃ y ∈ (d.queueWaits (q, x)).2.exec, y.count = e.count ∧ y.cmd = e.cmd ∧ y.waits &&& e.waits = e.waits := by
  refine ⟨_, List.mem_map_of_mem he, ?_⟩
  rw [if_pos hop]
  refine ⟨rfl, rfl, ?_⟩
  apply Nat.eq_of_testBit_eq
  intro i
  rw [Nat.testBit_and, Nat.testBit_or]
  cases e.waits.testBit i <;> simp

/-- Settles O21: the serial comparison, and what a set leaves of satisfied waits. -/
theorem waitsAreSerial : Obligations.WaitsAreSerial := by
  refine ⟨fun s v hv => semReached_iff hv, fun d q p i v x hx hw => ?_, fun d q p i v x e hx he hop => ?_⟩
  · obtain ⟨e, he⟩ := Dev.queue_semSet p i v hx
    rw [he]
    exact e.queueWaits_waited hw
  · obtain ⟨e', he'⟩ := Dev.queue_semSet p i v hx
    rw [he']
    exact e'.queueWaits_exec he hop

end Sys2Proof.Machine
end

section
/-! Number formats: a code of a finite value converts back to itself, and a finite value stays finite (07_formats_and_scaling.md R145,
R146, R151, R152). -/

namespace Sys2Proof.Machine

/-! ### Exact roundings -/

/-- A value without a rest is not rounded up, whatever the rounding. -/
theorem Rnd.goesUp_exact (rnd : Rnd) (n k : Nat) : rnd.goesUp n 0 k = false := by
  have hpos : 0 < 2 ^ k := Nat.two_pow_pos k
  cases rnd with
  | near =>
    simp only [Rnd.goesUp, Nat.mul_zero, Bool.or_eq_false_iff, decide_eq_false_iff_not, Bool.and_eq_false_iff]
    omega
  | draw r => simp [Rnd.goesUp]
  | down => rfl
  | up => rfl

/-- A value in units of its own exponent is whole. -/
theorem inUnits_self (m : Nat) (e : Int) : inUnits m e e = (m, 0, 0) := by
  simp [inUnits]

/-- The magnitude code of a nonzero value at the exponent `x` of its leading bit, or of the least normal value. -/
theorem FFmt.roundMag_exact (f : FFmt) (rnd : Rnd) {m : Nat} {e x : Int} (hm : m ≠ 0) (hx : max (ilog2 m e) (1 - Int.ofNat f.bias) = x)
    (he : x - Int.ofNat f.mb = e) : f.roundMag rnd m e = ((x - (1 - Int.ofNat f.bias)).toNat * 2 ^ f.mb + m, true) := by
  unfold FFmt.roundMag
  rw [if_neg hm]
  dsimp only
  rw [hx, he, inUnits_self]
  dsimp only
  rw [Rnd.goesUp_exact]
  rfl

@[simp] theorem FFmt.roundMag_zero (f : FFmt) (rnd : Rnd) (e : Int) : f.roundMag rnd 0 e = (0, true) := rfl

/-- A rounding adds at most one to the magnitude toward zero, and nothing to an exact one. -/
theorem FFmt.roundMag_le_down (f : FFmt) (rnd : Rnd) (m : Nat) (e : Int) :
    (f.roundMag rnd m e).1 ≤ (f.roundMag .down m e).1 + 1 ∧
      ((f.roundMag .down m e).2 = true → (f.roundMag rnd m e).1 = (f.roundMag .down m e).1) := by
  unfold FFmt.roundMag
  split
  · exact ⟨Nat.zero_le _, fun _ => rfl⟩
  · dsimp only
    rw [show ∀ n rem k, Rnd.down.goesUp n rem k = false from fun _ _ _ => rfl, if_neg Bool.false_ne_true]
    refine ⟨by split <;> omega, fun hexact => ?_⟩
    rw [beq_iff_eq.mp hexact, Rnd.goesUp_exact]
    rfl

/-! ### Finite codes -/

/-- The least magnitude code of a format that is no finite value's. -/
def FFmt.limit (f : FFmt) : Nat :=
  if f.ieee then (2 ^ f.eb - 1) * 2 ^ f.mb else f.nan.getD (2 ^ (f.eb + f.mb))

/-- A format's largest finite code stands just below its limit, and a NaN without infinities is the last code. -/
def FFmt.regular (f : FFmt) : Bool :=
  decide (f.top + 1 = f.limit) && (f.ieee || f.nan.all (fun n => n + 1 == 2 ^ (f.eb + f.mb)))

theorem formats_regular : ∀ f ∈ [fp64, fp32, fp16, bf16, e4m3, e5m2, e3m2, e2m3, e2m1], f.regular = true := by decide

/-- The three kinds of format: with infinities, with a NaN as its last code, and of finite values alone. -/
theorem FFmt.regular_cases {f : FFmt} (h : f.regular = true) :
    (f.ieee = true ∧ f.top + 1 = (2 ^ f.eb - 1) * 2 ^ f.mb) ∨
      (f.ieee = false ∧ f.nan = some (f.top + 1) ∧ f.top + 2 = 2 ^ (f.eb + f.mb)) ∨
        (f.ieee = false ∧ f.nan = none ∧ f.top + 1 = 2 ^ (f.eb + f.mb)) := by
  unfold FFmt.regular at h
  obtain ⟨htop, hnan⟩ := Bool.and_eq_true_iff.mp h
  replace htop : f.top + 1 = f.limit := of_decide_eq_true htop
  unfold FFmt.limit at htop
  cases hi : f.ieee with
  | true => exact .inl ⟨rfl, by rwa [if_pos hi] at htop⟩
  | false =>
    rw [if_neg (by simp [hi])] at htop
    cases hn : f.nan with
    | none => exact .inr (.inr ⟨rfl, rfl, by rwa [hn] at htop⟩)
    | some n =>
      rw [hn, Option.getD_some] at htop
      have hlast : n + 1 = 2 ^ (f.eb + f.mb) := by simpa [hi, hn] using hnan
      exact .inr (.inl ⟨rfl, by rw [htop], by omega⟩)

theorem FFmt.top_lt {f : FFmt} (h : f.regular = true) : f.top < 2 ^ (f.eb + f.mb) := by
  obtain ⟨-, htop⟩ | ⟨-, -, htop⟩ | ⟨-, -, htop⟩ := FFmt.regular_cases h
  · have hle : (2 ^ f.eb - 1) * 2 ^ f.mb ≤ 2 ^ (f.eb + f.mb) := by
      rw [Nat.pow_add]
      exact Nat.mul_le_mul_right _ (Nat.sub_le _ _)
    omega
  · omega
  · omega

/-- What a code spells where its magnitude is at most the top. -/
theorem FFmt.decode_of_le_top {f : FFmt} (h : f.regular = true) {c : Nat} (hc : c % 2 ^ (f.eb + f.mb) ≤ f.top) :
    f.decode c =
      let mag := c % 2 ^ (f.eb + f.mb)
      if mag / 2 ^ f.mb = 0 then .fin (bitOf c (f.eb + f.mb)) (mag % 2 ^ f.mb) (1 - Int.ofNat f.bias - Int.ofNat f.mb)
      else .fin (bitOf c (f.eb + f.mb)) (2 ^ f.mb + mag % 2 ^ f.mb) (Int.ofNat (mag / 2 ^ f.mb) - Int.ofNat f.bias - Int.ofNat f.mb) := by
  have hexp : ¬(f.ieee = true ∧ c % 2 ^ (f.eb + f.mb) / 2 ^ f.mb = 2 ^ f.eb - 1) := by
    rintro ⟨hieee, he⟩
    obtain ⟨-, htop⟩ | ⟨hno, -⟩ | ⟨hno, -⟩ := FFmt.regular_cases h
    · have hle := Nat.div_mul_le_self (c % 2 ^ (f.eb + f.mb)) (2 ^ f.mb)
      rw [he, ← htop] at hle
      omega
    · simp [hieee] at hno
    · simp [hieee] at hno
  have hcode : ¬((!f.ieee) = true ∧ f.nan = some (c % 2 ^ (f.eb + f.mb))) := by
    rintro ⟨hieee, hn⟩
    obtain ⟨hyes, -⟩ | ⟨-, hnan, -⟩ | ⟨-, hnan, -⟩ := FFmt.regular_cases h
    · simp [hyes] at hieee
    · rw [hnan, Option.some_inj] at hn
      omega
    · simp [hnan] at hn
  unfold FFmt.decode
  dsimp only
  rw [if_neg hexp, if_neg hcode]

theorem FFmt.isFinite_of_le_top {f : FFmt} (h : f.regular = true) {c : Nat} (hc : c % 2 ^ (f.eb + f.mb) ≤ f.top) :
    (f.decode c).isFinite = true := by
  rw [FFmt.decode_of_le_top h hc]
  dsimp only
  split <;> rfl

theorem FFmt.le_top_of_isFinite {f : FFmt} (h : f.regular = true) {c : Nat} (hc : (f.decode c).isFinite = true) :
    c % 2 ^ (f.eb + f.mb) ≤ f.top := by
  have hlt : c % 2 ^ (f.eb + f.mb) < 2 ^ (f.eb + f.mb) := Nat.mod_lt _ (Nat.two_pow_pos _)
  unfold FFmt.decode at hc
  dsimp only at hc
  split at hc
  · split at hc <;> exact absurd hc Bool.false_ne_true
  · next hexp =>
    split at hc
    · exact absurd hc Bool.false_ne_true
    · next hcode =>
      obtain ⟨hieee, htop⟩ | ⟨hieee, hnan, htop⟩ | ⟨-, -, htop⟩ := FFmt.regular_cases h
      · have hle : c % 2 ^ (f.eb + f.mb) / 2 ^ f.mb < 2 ^ f.eb := by
          rw [Nat.div_lt_iff_lt_mul (Nat.two_pow_pos _), ← Nat.pow_add]
          exact hlt
        have hne : c % 2 ^ (f.eb + f.mb) / 2 ^ f.mb ≠ 2 ^ f.eb - 1 := fun he => hexp ⟨hieee, he⟩
        have hdiv : c % 2 ^ (f.eb + f.mb) / 2 ^ f.mb < 2 ^ f.eb - 1 := by omega
        rw [Nat.div_lt_iff_lt_mul (Nat.two_pow_pos _), ← htop] at hdiv
        omega
      · have hne : f.top + 1 ≠ c % 2 ^ (f.eb + f.mb) := fun he => hcode ⟨by simp [hieee], by rw [hnan, he]⟩
        omega
      · omega

/-! ### Signs -/

theorem FFmt.sign_lt (f : FFmt) (s : Bool) {v : Nat} (hv : v < 2 ^ (f.eb + f.mb)) : f.sign s v < 2 ^ f.bits := by
  have hpow : 2 ^ f.bits = 2 * 2 ^ (f.eb + f.mb) := by
    unfold FFmt.bits
    rw [Nat.add_assoc, Nat.pow_add]
  unfold FFmt.sign
  cases s <;> simp only [boolNat, if_true, Bool.false_eq_true, if_false] <;> omega

theorem FFmt.sign_mod (f : FFmt) (s : Bool) {v : Nat} (hv : v < 2 ^ (f.eb + f.mb)) : f.sign s v % 2 ^ (f.eb + f.mb) = v := by
  unfold FFmt.sign
  rw [Nat.add_mul_mod_self_right, Nat.mod_eq_of_lt hv]

/-- A code is its sign bit over its magnitude. -/
theorem FFmt.sign_bitOf (f : FFmt) {c : Nat} (hc : c < 2 ^ f.bits) :
    f.sign (bitOf c (f.eb + f.mb)) (c % 2 ^ (f.eb + f.mb)) = c := by
  have hpow : 2 ^ f.bits = 2 ^ (f.eb + f.mb) * 2 := by
    unfold FFmt.bits
    rw [Nat.add_assoc, Nat.add_comm, Nat.pow_add]
  have hdiv : c / 2 ^ (f.eb + f.mb) < 2 := by
    rw [Nat.div_lt_iff_lt_mul (Nat.two_pow_pos _), Nat.mul_comm, ← hpow]
    exact hc
  have hbit : boolNat (bitOf c (f.eb + f.mb)) = c / 2 ^ (f.eb + f.mb) := by
    unfold bitOf bitsAt boolNat
    rw [Nat.shiftRight_eq_div_pow]
    rcases Nat.le_one_iff_eq_zero_or_eq_one.mp (Nat.le_of_lt_succ hdiv) with h | h <;> simp [h]
  unfold FFmt.sign
  rw [hbit, Nat.mul_comm]
  exact Nat.mod_add_div _ _

/-! ### Conversion -/

/-- Whether a conversion saturates: past the top after rounding, or by a draw past the top before it. -/
def FFmt.saturates (f : FFmt) (rnd : Rnd) (m : Nat) (e : Int) : Bool :=
  match rnd with
  | .draw _ => decide (f.top < (f.roundMag .down m e).1) || ((f.roundMag .down m e).1 == f.top && !(f.roundMag .down m e).2)
  | _ => decide (f.top < (f.roundMag rnd m e).1)

theorem FFmt.conv_fin (f : FFmt) (rnd : Rnd) (s : Bool) (m : Nat) (e : Int) :
    (f.conv rnd (.fin s m e)).1 = f.sign s (if f.saturates rnd m e then f.top else (f.roundMag rnd m e).1) := by
  change (if f.saturates rnd m e then _ else _ : Nat × Cls).1 = _
  by_cases hsat : f.saturates rnd m e = true
  · rw [if_pos hsat, if_pos hsat]
  · rw [if_neg hsat, if_neg hsat]
    by_cases hm : m = 0
    · subst hm
      simp
    · rw [if_neg hm]
      split
      · next hzero => rw [hzero]
      · split <;> rfl

theorem FFmt.le_top_of_not_saturates {f : FFmt} {rnd : Rnd} {m : Nat} {e : Int} (h : f.saturates rnd m e = false) :
    (f.roundMag rnd m e).1 ≤ f.top := by
  cases rnd with
  | draw r =>
    obtain ⟨hle, hexact⟩ := f.roundMag_le_down (.draw r) m e
    simp only [FFmt.saturates, Bool.or_eq_false_iff, decide_eq_false_iff_not, Bool.and_eq_false_iff, beq_eq_false_iff_ne,
      Bool.not_eq_false'] at h
    obtain ⟨hdown, hne | hwhole⟩ := h
    · omega
    · rw [hexact hwhole]
      omega
  | near | down | up => simpa [FFmt.saturates] using h

theorem FFmt.not_saturates_of_exact {f : FFmt} {m v : Nat} {e : Int} (h : ∀ rnd, f.roundMag rnd m e = (v, true)) (hv : v ≤ f.top) (rnd : Rnd) :
    f.saturates rnd m e = false := by
  unfold FFmt.saturates
  cases rnd <;> simp [h, hv]

/-- A finite value converts to a code within the format, of a finite value. -/
theorem FFmt.conv_isFinite {f : FFmt} (h : f.regular = true) (rnd : Rnd) {x : FVal} (hx : x.isFinite = true) :
    (f.conv rnd x).1 < 2 ^ f.bits ∧ (f.decode (f.conv rnd x).1).isFinite = true := by
  cases x with
  | nan => exact absurd hx Bool.false_ne_true
  | inf s => exact absurd hx Bool.false_ne_true
  | fin s m e =>
    have hv : (if f.saturates rnd m e then f.top else (f.roundMag rnd m e).1) ≤ f.top := by
      split
      · exact Nat.le_refl _
      · next hsat => exact FFmt.le_top_of_not_saturates (by simpa using hsat)
    have hlt := Nat.lt_of_le_of_lt hv (FFmt.top_lt h)
    rw [FFmt.conv_fin]
    exact ⟨f.sign_lt s hlt, FFmt.isFinite_of_le_top h (by rwa [f.sign_mod s hlt])⟩

/-- An exact magnitude code at most the top is what a conversion writes. -/
theorem FFmt.conv_of_exact {f : FFmt} {m v : Nat} {e : Int} (s : Bool) (h : ∀ rnd, f.roundMag rnd m e = (v, true)) (hv : v ≤ f.top) (rnd : Rnd) :
    (f.conv rnd (.fin s m e)).1 = f.sign s v := by
  rw [FFmt.conv_fin, FFmt.not_saturates_of_exact h hv, h]
  rfl

/-- The value of a magnitude code below the least normal one rounds to that code. -/
theorem FFmt.roundMag_subnormal (f : FFmt) {m : Nat} (hm : m < 2 ^ f.mb) (rnd : Rnd) :
    f.roundMag rnd m (1 - Int.ofNat f.bias - Int.ofNat f.mb) = (m, true) := by
  by_cases hzero : m = 0
  · rw [hzero, FFmt.roundMag_zero]
  · have hlog : m.log2 < f.mb := (Nat.log2_lt hzero).mpr hm
    rw [f.roundMag_exact rnd hzero (x := 1 - Int.ofNat f.bias) (by simp only [ilog2, Int.ofNat_eq_natCast]; omega) rfl]
    simp

/-- The value of a normal magnitude code rounds to that code. -/
theorem FFmt.roundMag_normal (f : FFmt) {m e : Nat} (hm : m < 2 ^ f.mb) (he : e ≠ 0) (rnd : Rnd) :
    f.roundMag rnd (2 ^ f.mb + m) (Int.ofNat e - Int.ofNat f.bias - Int.ofNat f.mb) = (e * 2 ^ f.mb + m, true) := by
  have hpos : 2 ^ f.mb + m ≠ 0 := by have := Nat.two_pow_pos f.mb; omega
  have hlog : (2 ^ f.mb + m).log2 = f.mb := (Nat.log2_eq_iff hpos).mpr ⟨Nat.le_add_right _ _, by rw [Nat.pow_succ]; omega⟩
  rw [f.roundMag_exact rnd hpos (x := Int.ofNat e - Int.ofNat f.bias) (by simp only [ilog2, hlog, Int.ofNat_eq_natCast]; omega) rfl]
  have hsub : (Int.ofNat e - Int.ofNat f.bias - (1 - Int.ofNat f.bias)).toNat = e - 1 := by
    simp only [Int.ofNat_eq_natCast]
    omega
  rw [hsub, ← Nat.add_assoc, Nat.sub_one_mul, Nat.sub_add_cancel (Nat.le_mul_of_pos_left _ (Nat.pos_of_ne_zero he))]

/-- A code of a finite value converts back to itself under any rounding. -/
theorem FFmt.conv_decode {f : FFmt} (h : f.regular = true) (rnd : Rnd) {c : Nat} (hc : c < 2 ^ f.bits) (hfin : (f.decode c).isFinite = true) :
    (f.conv rnd (f.decode c)).1 = c := by
  have hle := FFmt.le_top_of_isFinite h hfin
  have hm : c % 2 ^ (f.eb + f.mb) % 2 ^ f.mb < 2 ^ f.mb := Nat.mod_lt _ (Nat.two_pow_pos _)
  have hmag := Nat.div_add_mod' (c % 2 ^ (f.eb + f.mb)) (2 ^ f.mb)
  rw [FFmt.decode_of_le_top h hle]
  dsimp only
  split
  · next he =>
    rw [he, Nat.zero_mul, Nat.zero_add] at hmag
    rw [FFmt.conv_of_exact _ (f.roundMag_subnormal hm) (by omega), hmag, f.sign_bitOf hc]
  · next he =>
    rw [FFmt.conv_of_exact _ (f.roundMag_normal hm he) (by omega), hmag, f.sign_bitOf hc]

/-! ### Integers -/

/-- An integer of magnitude at most `top` converts to itself. -/
theorem intConv_ofInt {top : Nat} (rnd : Rnd) {i : Int} (hi : i.natAbs ≤ top) : (intConv top rnd (FVal.ofInt i)).1 = i := by
  have hcode : intConv top rnd (FVal.ofInt i) = intConv top .down (FVal.ofInt i) := by
    unfold FVal.ofInt intConv
    dsimp only
    rw [inUnits_self]
    dsimp only
    rw [Rnd.goesUp_exact, Rnd.goesUp_exact]
    cases rnd <;> simp
  rw [hcode]
  unfold FVal.ofInt intConv
  dsimp only
  rw [inUnits_self]
  dsimp only
  rw [Rnd.goesUp_exact, if_neg Bool.false_ne_true, decide_eq_false (Nat.not_lt.mpr hi), if_neg Bool.false_ne_true]
  simp only [decide_eq_true_eq, Int.ofNat_eq_natCast]
  split <;> omega

theorem unsignedOf_signedOf {w n : Nat} (hn : n < 2 ^ w) : unsignedOf w (signedOf w n) = n := by
  unfold unsignedOf signedOf
  dsimp only
  rw [Nat.mod_eq_of_lt hn]
  simp only [Int.ofNat_eq_natCast]
  split
  · rw [← Int.natCast_emod, Int.toNat_natCast, Nat.mod_eq_of_lt hn]
  · rw [Int.sub_emod_right, ← Int.natCast_emod, Int.toNat_natCast, Nat.mod_eq_of_lt hn]

theorem signedOf_natAbs_le {w n : Nat} (hn : n < 2 ^ (w + 1)) (hne : n ≠ 2 ^ w) : (signedOf (w + 1) n).natAbs ≤ 2 ^ w - 1 := by
  have hpow : 2 ^ (w + 1) = 2 * 2 ^ w := Nat.pow_succ'
  unfold signedOf
  dsimp only
  rw [Nat.mod_eq_of_lt hn, Nat.add_sub_cancel]
  simp only [Int.ofNat_eq_natCast, hpow]
  split <;> omega

/-- A code of an integer format but for the most negative one converts back to itself. -/
theorem unsignedOf_intConv_signedOf {w n : Nat} (rnd : Rnd) (hn : n < 2 ^ (w + 1)) (hne : n ≠ 2 ^ w) :
    unsignedOf (w + 1) (intConv (2 ^ w - 1) rnd (FVal.ofInt (signedOf (w + 1) n))).1 = n := by
  rw [intConv_ofInt rnd (signedOf_natAbs_le hn hne), unsignedOf_signedOf hn]

/-- Settles O60: the float formats, finite values, and the three integer formats. -/
theorem numberFormats : Obligations.NumberFormats := by
  refine ⟨fun f hf rnd c hc hfin => FFmt.conv_decode (formats_regular f hf) rnd hc hfin,
    fun f hf rnd x hx => FFmt.conv_isFinite (formats_regular f hf) rnd hx, fun rnd c => ⟨fun hc hne => ⟨?_, ?_⟩, fun hc hne => ?_⟩⟩
  · exact unsignedOf_intConv_signedOf (w := 7) rnd hc hne
  · exact unsignedOf_intConv_signedOf (w := 7) rnd hc hne
  · exact unsignedOf_intConv_signedOf (w := 31) rnd hc hne

end Sys2Proof.Machine
end

section
/-! A queue's registers and its record: what is read after each write of them, and what settling a queue leaves. -/

namespace Sys2Proof.Machine

theorem Dev.when_pos {d : Dev} {b : Bool} {f : Dev → Dev} (h : b = true) : d.when b f = f d := by rw [h, Dev.when_true]

theorem Dev.when_neg {d : Dev} {b : Bool} {f : Dev → Dev} (h : b = false) : d.when b f = d := by rw [h, Dev.when_false]

/-! ### Registers of one queue -/

theorem qTail_ne_qState (i j : Nat) : (F.qTail_count i j).addr ≠ (F.qState_state i j).addr := by
  simp [F.qTail_count, F.qState_state]

theorem qHead_ne_qState (i j : Nat) : (F.qHead_count i j).addr ≠ (F.qState_state i j).addr := by
  simp [F.qHead_count, F.qState_state]

theorem qDone_ne_qState (i j : Nat) : (F.qDone_count i j).addr ≠ (F.qState_state i j).addr := by
  simp [F.qDone_count, F.qState_state]

theorem qCfg_ne_qState (i j : Nat) : (F.qCfg_enable i j).addr ≠ (F.qState_state i j).addr := by
  simp [F.qCfg_enable, F.qState_state]

theorem qTail_ne_qHead (i j : Nat) : (F.qTail_count i j).addr ≠ (F.qHead_count i j).addr := by
  simp [F.qTail_count, F.qHead_count]

theorem qDone_ne_qHead (i j : Nat) : (F.qDone_count i j).addr ≠ (F.qHead_count i j).addr := by
  simp [F.qDone_count, F.qHead_count]

theorem qCfg_ne_qHead (i j : Nat) : (F.qCfg_enable i j).addr ≠ (F.qHead_count i j).addr := by
  simp [F.qCfg_enable, F.qHead_count]

theorem Dev.rd_lt (d : Dev) (f : Fld) : d.rd f < 2 ^ f.w := Nat.mod_lt _ (Nat.two_pow_pos _)

theorem Dev.qTail_lt (d : Dev) (q : Nat) : d.qTail q < 2 ^ 32 := d.rd_lt (F.qTail_count (q / 16) (q % 16))

theorem Dev.qDone_lt (d : Dev) (q : Nat) : d.qDone q < 2 ^ 32 := d.rd_lt (F.qDone_count (q / 16) (q % 16))

theorem Dev.qSt_setQSt (d : Dev) (q : Nat) {st : Nat} (h : st < 8) : (d.setQSt q st).qSt q = st :=
  (Dev.rd_wr_self _ _ _ (by simp [F.qState_state])).trans (Nat.mod_eq_of_lt h)

theorem Dev.qHead_wr (d : Dev) (q : Nat) {n : Nat} (h : n < 2 ^ 32) :
    (d.wr (F.qHead_count (q / 16) (q % 16)) n).qHead q = n :=
  (Dev.rd_wr_self _ _ _ (by simp [F.qHead_count])).trans (Nat.mod_eq_of_lt h)

theorem Dev.qTail_wr (d : Dev) (q : Nat) {n : Nat} (h : n < 2 ^ 32) :
    (d.wr (F.qTail_count (q / 16) (q % 16)) n).qTail q = n :=
  (Dev.rd_wr_self _ _ _ (by simp [F.qTail_count])).trans (Nat.mod_eq_of_lt h)

theorem Dev.qDone_wr (d : Dev) (q : Nat) {n : Nat} (h : n < 2 ^ 32) :
    (d.wr (F.qDone_count (q / 16) (q % 16)) n).qDone q = n :=
  (Dev.rd_wr_self _ _ _ (by simp [F.qDone_count])).trans (Nat.mod_eq_of_lt h)

/-! ### The record -/

@[simp] theorem Dev.queue_setQueue (d : Dev) (q : Nat) (x : Queue) : (d.setQueue q x).queue q = x := by
  simp [Dev.queue, Dev.setQueue, mapGet]

@[simp] theorem Dev.queue_wr (d : Dev) (f : Fld) (v q : Nat) : (d.wr f v).queue q = d.queue q := rfl

@[simp] theorem Dev.queue_setFlag (d : Dev) (f : Fld) (b : Bool) (q : Nat) : (d.setFlag f b).queue q = d.queue q := rfl

@[simp] theorem Dev.queue_setQSt (d : Dev) (q st y : Nat) : (d.setQSt q st).queue y = d.queue y := rfl

@[simp] theorem Dev.rd_setQueue (d : Dev) (q : Nat) (x : Queue) (f : Fld) : (d.setQueue q x).rd f = d.rd f := rfl

@[simp] theorem Dev.reg_setQueue (d : Dev) (q : Nat) (x : Queue) (k : Nat) : (d.setQueue q x).reg k = d.reg k := rfl

@[simp] theorem Dev.qSt_setQueue (d : Dev) (q : Nat) (x : Queue) (y : Nat) : (d.setQueue q x).qSt y = d.qSt y := rfl

@[simp] theorem Dev.qHead_setQueue (d : Dev) (q : Nat) (x : Queue) (y : Nat) : (d.setQueue q x).qHead y = d.qHead y := rfl

@[simp] theorem Dev.qTail_setQueue (d : Dev) (q : Nat) (x : Queue) (y : Nat) : (d.setQueue q x).qTail y = d.qTail y := rfl

@[simp] theorem Dev.qDone_setQueue (d : Dev) (q : Nat) (x : Queue) (y : Nat) : (d.setQueue q x).qDone y = d.qDone y := rfl

/-! ### A write of one register of the queue and a read of another -/

@[simp] theorem Dev.qHead_setQSt (d : Dev) (q st : Nat) : (d.setQSt q st).qHead q = d.qHead q :=
  Dev.rd_wr_ne _ _ _ _ (qHead_ne_qState _ _)

@[simp] theorem Dev.qTail_setQSt (d : Dev) (q st : Nat) : (d.setQSt q st).qTail q = d.qTail q :=
  Dev.rd_wr_ne _ _ _ _ (qTail_ne_qState _ _)

@[simp] theorem Dev.qDone_setQSt (d : Dev) (q st : Nat) : (d.setQSt q st).qDone q = d.qDone q :=
  Dev.rd_wr_ne _ _ _ _ (qDone_ne_qState _ _)

@[simp] theorem Dev.qEnabled_setQSt (d : Dev) (q st : Nat) : (d.setQSt q st).qEnabled q = d.qEnabled q :=
  congrArg (· == 1) (Dev.rd_wr_ne _ _ _ _ (qCfg_ne_qState _ _))

@[simp] theorem Dev.qTail_wrHead (d : Dev) (q n : Nat) : (d.wr (F.qHead_count (q / 16) (q % 16)) n).qTail q = d.qTail q :=
  Dev.rd_wr_ne _ _ _ _ (qTail_ne_qHead _ _)

@[simp] theorem Dev.qEnabled_wrHead (d : Dev) (q n : Nat) :
    (d.wr (F.qHead_count (q / 16) (q % 16)) n).qEnabled q = d.qEnabled q :=
  congrArg (· == 1) (Dev.rd_wr_ne _ _ _ _ (qCfg_ne_qHead _ _))

@[simp] theorem Dev.qSt_setEnable (d : Dev) (q : Nat) (b : Bool) :
    (d.setFlag (F.qCfg_enable (q / 16) (q % 16)) b).qSt q = d.qSt q :=
  Dev.rd_wr_ne _ _ _ _ (qCfg_ne_qState _ _).symm

@[simp] theorem Dev.qTail_setEnable (d : Dev) (q : Nat) (b : Bool) :
    (d.setFlag (F.qCfg_enable (q / 16) (q % 16)) b).qTail q = d.qTail q :=
  Dev.rd_wr_ne _ _ _ _ (by simp [F.qTail_count, F.qCfg_enable])

@[simp] theorem Dev.qDone_setEnable (d : Dev) (q : Nat) (b : Bool) :
    (d.setFlag (F.qCfg_enable (q / 16) (q % 16)) b).qDone q = d.qDone q :=
  Dev.rd_wr_ne _ _ _ _ (by simp [F.qDone_count, F.qCfg_enable])

@[simp] theorem Dev.qEnabled_setEnable (d : Dev) (q : Nat) (b : Bool) :
    (d.setFlag (F.qCfg_enable (q / 16) (q % 16)) b).qEnabled q = b :=
  Dev.flag_setFlag_self _ _ _ (by simp [F.qCfg_enable]) (by simp [F.qCfg_enable])

@[simp] theorem Dev.qEnabled_setQueue (d : Dev) (q : Nat) (x : Queue) (y : Nat) :
    (d.setQueue q x).qEnabled y = d.qEnabled y := rfl

/-! ### Settling a queue -/

/-- The registers that settling a queue may write. -/
def qSettleRegs (q : Nat) : List Nat := [(F.qState_state (q / 16) (q % 16)).addr, (F.qHead_count (q / 16) (q % 16)).addr]

theorem Dev.qSt_wr_inExec (d : Dev) (q n : Nat) : (d.wr (F.qState_inExec (q / 16) (q % 16)) n).qSt q = d.qSt q :=
  Dev.rd_wr_apart _ _ _ _ (by simp [F.qState_inExec]) (by simp [F.qState_inExec, F.qState_state])

theorem Dev.keeps_setQSt {d e : Dev} {ks : List Nat} {q : Nat} (st : Nat) (hq : (F.qState_state (q / 16) (q % 16)).addr ∈ ks)
    (h : d.keeps e ks) : d.keeps (e.setQSt q st) ks :=
  Dev.keeps_wr st hq h

theorem Dev.keeps_setQueue {d e : Dev} {ks : List Nat} {q : Nat} (x : Queue) (h : d.keeps e ks) : d.keeps (e.setQueue q x) ks :=
  h

theorem Dev.keeps_wr_inExec (d : Dev) (q n : Nat) {ks : List Nat} (hq : (F.qState_state (q / 16) (q % 16)).addr ∈ ks) :
    d.keeps (d.wr (F.qState_inExec (q / 16) (q % 16)) n) ks :=
  Dev.keeps_wr (f := F.qState_inExec (q / 16) (q % 16)) n hq (Dev.keeps_refl d ks)

/-- A queue that is not being disabled keeps its record and its counts; its state alone may move. -/
theorem Dev.qSettle_serving (d : Dev) {q : Nat} (h : (d.queue q).disabling = false) :
    d.keeps (d.qSettle q) [(F.qState_state (q / 16) (q % 16)).addr] ∧ (d.qSettle q).queue q = d.queue q ∧
      (d.qSt q ≠ qsSTOPPED → d.qSt q ≠ qsDISABLED → d.qSt q ≠ qsBLOCKED →
        (d.qSettle q).qSt q = qsIDLE ∨ (d.qSettle q).qSt q = qsACTIVE) := by
  have hw := d.keeps_wr_inExec q (((d.queue q).exec.filter fun e => !e.fin).length)
    (List.mem_singleton_self (F.qState_state (q / 16) (q % 16)).addr)
  simp only [Dev.qSettle, h, Bool.false_eq_true, if_false, Dev.qSt_wr_inExec]
  split
  · next hs => exact ⟨hw, Dev.queue_wr .., fun h1 h2 => absurd hs (by simp [h1, h2])⟩
  · split
    · exact ⟨Dev.keeps_setQSt _ (by simp) hw, by simp, fun _ _ _ => .inl (Dev.qSt_setQSt _ _ (by decide))⟩
    · split
      · next hb => exact ⟨hw, Dev.queue_wr .., fun _ _ h3 => absurd hb h3⟩
      · exact ⟨Dev.keeps_setQSt _ (by simp) hw, by simp, fun _ _ _ => .inr (Dev.qSt_setQSt _ _ (by decide))⟩

theorem Dev.qSettle_keeps (d : Dev) (q : Nat) : d.keeps (d.qSettle q) (qSettleRegs q) := by
  by_cases h : (d.queue q).disabling = true
  · have hw := d.keeps_wr_inExec q (((d.queue q).exec.filter fun e => !e.fin).length)
      (ks := qSettleRegs q) (List.mem_cons_self ..)
    simp only [Dev.qSettle, h, if_true]
    split
    · exact Dev.keeps_wr _ (by simp [qSettleRegs]) (Dev.keeps_setQSt _ (by simp [qSettleRegs]) (Dev.keeps_setQueue _ hw))
    · exact hw
  · exact Dev.keeps_mono (d.qSettle_serving (by simpa using h)).1 (by simp [qSettleRegs])

theorem Dev.qTail_qSettle (d : Dev) (q : Nat) : (d.qSettle q).qTail q = d.qTail q :=
  Dev.rd_of_keeps (d.qSettle_keeps q) (by simp [qSettleRegs, F.qTail_count, F.qState_state, F.qHead_count])

theorem Dev.flag_of_keeps {d e : Dev} {ks : List Nat} {f : Fld} (h : d.keeps e ks) (hf : f.addr ∉ ks) : e.flag f = d.flag f :=
  congrArg (· == 1) (Dev.rd_of_keeps h hf)

theorem Dev.qEnabled_qSettle (d : Dev) (q : Nat) : (d.qSettle q).qEnabled q = d.qEnabled q :=
  Dev.flag_of_keeps (d.qSettle_keeps q) (by simp [qSettleRegs, F.qCfg_enable, F.qState_state, F.qHead_count])

/-- A queue that is being disabled and has nothing left in execution is DISABLED, its head at its done count. -/
theorem Dev.qSettle_disabled (d : Dev) {q : Nat} (h : (d.queue q).disabling = true) (he : (d.queue q).exec = []) :
    ((d.qSettle q).queue q).fetched = [] ∧ (d.qSettle q).qSt q = qsDISABLED ∧ (d.qSettle q).qHead q = d.qDone q := by
  simp only [Dev.qSettle, h, he, if_true]
  refine ⟨by simp, ?_, ?_⟩
  · exact (Dev.rd_wr_ne _ _ _ _ (qHead_ne_qState _ _).symm).trans (Dev.qSt_setQSt _ _ (by decide))
  · refine (Dev.qHead_wr _ _ (Dev.qDone_lt _ _)).trans ?_
    exact Dev.rd_wr_ne _ _ _ _ (qDone_ne_qState _ _)

theorem Dev.qSettle_disabling (d : Dev) {q : Nat} (h : (d.queue q).disabling = true) (he : (d.queue q).exec ≠ []) :
    (d.qSettle q).queue q = d.queue q := by
  simp [Dev.qSettle, h, he]

end Sys2Proof.Machine
end

section
/-! Doorbells (03_klotchaex_command_stream.md R52, R54). -/

namespace Sys2Proof.Machine

/-! ### An event bit once set stays set over a raise -/

theorem Page.eventRegs_mod {p : Page} {k : Nat} (h : k ∈ p.eventRegs) : k % 0x1000 < 0x80 := by
  have := p.key_mod
  simp only [Page.eventRegs, hEvent, hLastStatus, hSeq, hStampLo, hStampHi, hdrFld, List.mem_cons, List.not_mem_nil, or_false] at h
  omega

theorem hEvent_mem_eventRegs {p p' : Page} (h : (hEvent p).addr ∈ p'.eventRegs) : (hEvent p).addr = (hEvent p').addr := by
  have := p.key_mod
  have := p'.key_mod
  simp only [Page.eventRegs, hEvent, hLastStatus, hSeq, hStampLo, hStampHi, hdrFld, List.mem_cons, List.not_mem_nil, or_false] at h ⊢
  omega

theorem Dev.eventBit_raise_of {d : Dev} {p : Page} {b : Nat} (p' : Page) (bit status : Nat) (c : Cause) (h : d.eventBit p b = true) :
    (d.raise p' bit status c).eventBit p b = true := by
  by_cases hp : (pageCaps p').event = true
  · have hs := Dev.raise_spec d p' bit status c hp
    by_cases hm : (hEvent p).addr ∈ p'.eventRegs
    · have ha := hEvent_mem_eventRegs hm
      simp only [Dev.eventBit] at h ⊢
      rw [ha, hs.event, ← ha, BitVec.getLsbD_or, h, Bool.true_or]
    · rw [Dev.eventBit, hs.others _ hm]
      exact h
  · rw [Dev.raise_none d p' bit status c (by simpa using hp)]
    exact h

/-- A raise sets the bit of a page that has events. -/
theorem Dev.eventBit_raise (d : Dev) {p : Page} {b : Nat} (status : Nat) (c : Cause) (hp : (pageCaps p).event = true) (hb : b < 32) :
    (d.raise p b status c).eventBit p b = true :=
  Dev.eventBit_of_eventSet (Dev.raise_spec d p b status c hp) hb

/-! ### The queue's event in both views -/

theorem Dev.raiseQueue_keeps (d : Dev) (q : Nat) (bit : Nat → Nat) (status : Nat) (c : Cause) {k : Nat} (hk : 0x80 ≤ k % 0x1000) :
    (d.raiseQueue q bit status c).reg k = d.reg k := by
  have hp (x : Dev) (p : Page) (b : Nat) : (x.raise p b status c).reg k = x.reg k :=
    Dev.keeps_raise x p b status c k fun hm => absurd (Page.eventRegs_mod hm) (by omega)
  unfold Dev.raiseQueue
  split
  · rw [hp, hp]
  · exact hp _ _ _

theorem Dev.raiseQueue_event (d : Dev) (q : Nat) (bit : Nat → Nat) (status : Nat) (c : Cause) (hb : bit (q % 16) < 32) :
    (d.raiseQueue q bit status c).eventBit (pfPage .kqp (q / 16) 1) (bit (q % 16)) = true := by
  have h1 := d.eventBit_raise (p := pfPage .kqp (q / 16) 1) status c rfl hb
  unfold Dev.raiseQueue
  split
  · exact Dev.eventBit_raise_of _ _ _ _ h1
  · exact h1

/-! ### The write -/

theorem effect_doorbellWrite_good {d : Dev} {f n q : Nat} {t : Word} (hq : d.queueOf f n = some q) (hb : d.doorbellBad q t.toNat = false) :
    effect (.doorbellWrite f n t) d =
      let e := d.wr (F.qTail_count (q / 16) (q % 16)) t.toNat
      if d.qSt q = qsIDLE ∧ d.qHead q ≠ t.toNat then e.setQSt q qsACTIVE else e := by
  have hs : (d.wr (F.qTail_count (q / 16) (q % 16)) t.toNat).qSt q = d.qSt q := Dev.rd_wr_ne _ _ _ _ (qTail_ne_qState _ _).symm
  have hh : (d.wr (F.qTail_count (q / 16) (q % 16)) t.toNat).qHead q = d.qHead q := Dev.rd_wr_ne _ _ _ _ (qTail_ne_qHead _ _).symm
  change effectDoorbellWrite f n t d = _
  simp only [effectDoorbellWrite, hq, hb, Bool.false_eq_true, if_false, hs, hh]

theorem effect_doorbellWrite_bad {d : Dev} {f n q : Nat} {t : Word} (hq : d.queueOf f n = some q) (hb : d.doorbellBad q t.toNat = true) :
    effect (.doorbellWrite f n t) d = d.raiseQueue q (fun _ => 16) St.ok := by
  change effectDoorbellWrite f n t d = _
  simp only [effectDoorbellWrite, hq, hb, if_true]

theorem effect_doorbellWrite_none {d : Dev} {f n : Nat} {t : Word} (hq : d.queueOf f n = none) :
    effect (.doorbellWrite f n t) d = d := by
  change effectDoorbellWrite f n t d = _
  simp only [effectDoorbellWrite, hq]

/-- Settles O15: a good value is the new tail and may make an IDLE queue ACTIVE; a bad one only raises the queue's event. -/
theorem doorbells : Obligations.Doorbells := by
  unfold Obligations.Doorbells
  refine ⟨fun s f n q t hq hb => completes_of_effect ?_, fun s f n q t hq hb => completes_of_effect ?_,
    fun s f n t hq => answers_of_effect (effect_doorbellWrite_none hq)⟩
  · rw [effect_doorbellWrite_good hq hb]
    have htail := Dev.qTail_wr s.dev q t.isLt
    have hchg := Dev.wr_chg s.dev (F.qTail_count (q / 16) (q % 16)) t.toNat
    have hkeep := Dev.keeps_wr (ks := [(F.qTail_count (q / 16) (q % 16)).addr, (F.qState_state (q / 16) (q % 16)).addr])
      (f := F.qTail_count (q / 16) (q % 16)) t.toNat (by simp) (Dev.keeps_refl s.dev _)
    dsimp only
    split
    · exact ⟨(Dev.rd_wr_ne _ _ _ _ (qTail_ne_qState _ _)).trans htail, Dev.qSt_setQSt _ _ (by decide),
        Dev.setQSt_keep (by decide) hchg, Dev.keeps_setQSt _ (by simp) hkeep⟩
    · exact ⟨htail, Dev.rd_wr_ne _ _ _ _ (qTail_ne_qState _ _).symm, hchg, hkeep⟩
  · rw [effect_doorbellWrite_bad hq hb]
    exact ⟨rfl, Dev.rd_of_reg (Dev.raiseQueue_keeps _ _ _ _ _ (by simp only [F.qTail_count]; omega)),
      Dev.raiseQueue_event _ _ (fun _ => 16) _ _ (by decide)⟩

end Sys2Proof.Machine
end

section
/-! Queue control (03_klotchaex_command_stream.md R60 and table Queue register set). -/

namespace Sys2Proof.Machine

theorem Dev.qHead_qSettle_serving {d : Dev} {q : Nat} (h : (d.queue q).disabling = false) : (d.qSettle q).qHead q = d.qHead q :=
  Dev.rd_of_keeps (d.qSettle_serving h).1 (by simpa using qHead_ne_qState _ _)

theorem Dev.qDone_qSettle_serving {d : Dev} {q : Nat} (h : (d.queue q).disabling = false) : (d.qSettle q).qDone q = d.qDone q :=
  Dev.rd_of_keeps (d.qSettle_serving h).1 (by simpa using qDone_ne_qState _ _)

theorem Dev.qSt_qSettle_serving {d : Dev} {q st : Nat} (h : (d.queue q).disabling = false) (hst : d.qSt q = st)
    (hs : st = qsIDLE ∨ st = qsACTIVE) : (d.qSettle q).qSt q = qsIDLE ∨ (d.qSettle q).qSt q = qsACTIVE := by
  refine (d.qSettle_serving h).2.2 ?_ ?_ ?_ <;> rw [hst] <;> obtain rfl | rfl := hs <;> decide

theorem Dev.enableQueue_spec {d : Dev} {q : Nat} (h : d.qSt q = qsDISABLED) :
    (d.enableQueue q).qEnabled q = true ∧ (d.enableQueue q).qHead q = d.qDone q ∧ (d.enableQueue q).qTail q = d.qTail q ∧
      ((d.enableQueue q).queue q).fetched = [] ∧
      ((d.enableQueue q).qSt q = qsIDLE ∨ (d.enableQueue q).qSt q = qsACTIVE) := by
  simp only [Dev.enableQueue, h, if_true, Dev.qDone_setEnable]
  generalize he : Dev.setQSt _ q qsIDLE = e
  have hserve : (e.queue q).disabling = false := by simp [← he]
  have hidle : e.qSt q = qsIDLE := by rw [← he]; exact Dev.qSt_setQSt _ _ (by decide)
  refine ⟨?_, ?_, ?_, ?_, Dev.qSt_qSettle_serving hserve hidle (.inl rfl)⟩
  · rw [Dev.qEnabled_qSettle, ← he]
    simp
  · rw [Dev.qHead_qSettle_serving hserve, ← he]
    simp [Dev.qHead_wr _ _ (Dev.qDone_lt _ _)]
  · rw [Dev.qTail_qSettle, ← he]
    simp
  · rw [(e.qSettle_serving hserve).2.1, ← he]
    simp

theorem Dev.disableQueue_spec {d : Dev} {q : Nat} (h : d.qSt q ≠ qsDISABLED) :
    (d.disableQueue q false).qEnabled q = false ∧ ((d.disableQueue q false).queue q).fetched = [] ∧
      (d.disableQueue q false).qTail q = d.qTail q ∧
      ((d.queue q).exec = [] → (d.disableQueue q false).qSt q = qsDISABLED ∧ (d.disableQueue q false).qHead q = d.qDone q) := by
  simp only [Dev.disableQueue, Dev.qSt_setEnable, h, if_false]
  generalize he : Dev.setQueue _ q _ = e
  have hdis : (e.queue q).disabling = true := by simp [← he]
  have hexec : (e.queue q).exec = (d.queue q).exec := by simp [← he, Queue.endRun]
  refine ⟨?_, ?_, ?_, fun hx => ?_⟩
  · rw [Dev.qEnabled_qSettle, ← he]
    simp
  · by_cases hx : (d.queue q).exec = []
    · exact (e.qSettle_disabled hdis (hexec.trans hx)).1
    · rw [e.qSettle_disabling hdis (by rwa [hexec]), ← he]
      simp
  · rw [Dev.qTail_qSettle, ← he]
    simp
  · obtain ⟨-, hst, hhead⟩ := e.qSettle_disabled hdis (hexec.trans hx)
    exact ⟨hst, by rw [hhead, ← he]; simp⟩

/-- A queue that leaves STOPPED keeps its counts and what it has fetched. -/
theorem Dev.unstop_spec {d : Dev} {q : Nat} (h : (d.queue q).disabling = false) :
    ((d.unstop q).qSt q = qsIDLE ∨ (d.unstop q).qSt q = qsACTIVE) ∧ ((d.unstop q).queue q).fetched = (d.queue q).fetched ∧
      (d.unstop q).qHead q = d.qHead q ∧ (d.unstop q).qDone q = d.qDone q := by
  unfold Dev.unstop
  generalize he : Dev.setQSt _ q qsACTIVE = e
  have hserve : (e.queue q).disabling = false := by simp [← he, h]
  have hact : e.qSt q = qsACTIVE := by rw [← he]; exact Dev.qSt_setQSt _ _ (by decide)
  refine ⟨Dev.qSt_qSettle_serving hserve hact (.inr rfl), ?_, ?_, ?_⟩
  · rw [(e.qSettle_serving hserve).2.1, ← he]
    simp
  · rw [Dev.qHead_qSettle_serving hserve, ← he]
    simp
  · rw [Dev.qDone_qSettle_serving hserve, ← he]
    simp

theorem effect_queueEnable_named {d : Dev} {f n q : Nat} (hq : d.queueOf f n = some q) : effect (.queueEnable f n) d = d.enableQueue q := by
  change effectQueueEnable f n d = _
  simp only [effectQueueEnable, hq]

theorem effect_queueDisable_named {d : Dev} {f n q : Nat} (hq : d.queueOf f n = some q) :
    effect (.queueDisable f n) d = d.disableQueue q false := by
  change effectQueueDisable f n d = _
  simp only [effectQueueDisable, hq]

theorem effect_resume_named {d : Dev} {f n q : Nat} (hq : d.queueOf f n = some q) :
    effect (.resume f n) d = d.when (d.qSt q == qsSTOPPED) fun d => d.unstop q := by
  change effectResume f n d = _
  simp only [effectResume, hq]

/-- What FLUSH leaves of a STOPPED queue before it goes on: nothing fetched, head and done at the tail. -/
def Dev.flushed (d : Dev) (q : Nat) : Dev :=
  ((d.setQueue q { (d.queue q).endRun with fetched := [], done := [], waited := false, indexWait := 0 }).wr
    (F.qHead_count (q / 16) (q % 16)) (d.qTail q)).wr (F.qDone_count (q / 16) (q % 16)) (d.qTail q)

theorem effect_flush_named {d : Dev} {f n q : Nat} (hq : d.queueOf f n = some q) :
    effect (.flush f n) d = d.when (d.qSt q == qsSTOPPED) fun d => (d.flushed q).unstop q := by
  change effectFlush f n d = _
  simp only [effectFlush, hq, Dev.flushed]

theorem Dev.qHead_flushed (d : Dev) (q : Nat) : (d.flushed q).qHead q = d.qTail q :=
  (Dev.rd_wr_ne _ _ _ _ (qDone_ne_qHead _ _).symm).trans (Dev.qHead_wr _ _ (d.qTail_lt q))

theorem Dev.qDone_flushed (d : Dev) (q : Nat) : (d.flushed q).qDone q = d.qTail q := Dev.qDone_wr _ _ (d.qTail_lt q)

/-- Settles O19, command by command. -/
theorem queueControl : Obligations.QueueControl := by
  unfold Obligations.QueueControl
  refine ⟨fun s f n q hq hst => completes_of_effect ?_, fun s f n q hq hst => completes_of_effect ?_,
    fun s f n q hq hst hdis => ⟨completes_of_effect ?_, completes_of_effect ?_⟩,
    fun s f n q hq hst => ⟨answers_of_effect ?_, answers_of_effect ?_⟩⟩
  · rw [effect_queueEnable_named hq]
    exact Dev.enableQueue_spec hst
  · rw [effect_queueDisable_named hq]
    exact Dev.disableQueue_spec hst
  · rw [effect_resume_named hq, hst]
    obtain ⟨hrun, hfetched, hhead, -⟩ := Dev.unstop_spec hdis
    exact ⟨hrun, hfetched, hhead⟩
  · rw [effect_flush_named hq, hst]
    have hserve : ((s.dev.flushed q).queue q).disabling = false := by simp [Dev.flushed, Queue.endRun, hdis]
    obtain ⟨hrun, hfetched, hhead, hdone⟩ := Dev.unstop_spec hserve
    exact ⟨hrun, hfetched.trans (by simp [Dev.flushed]), hhead.trans (Dev.qHead_flushed _ _), hdone.trans (Dev.qDone_flushed _ _)⟩
  · rw [effect_resume_named hq, beq_false_of_ne hst]
    rfl
  · rw [effect_flush_named hq, beq_false_of_ne hst]
    rfl

end Sys2Proof.Machine
end

section
/-! Fetch and start (03_klotchaex_command_stream.md R57, R58, R66, R75). -/

namespace Sys2Proof.Machine

/-! ### Fetched commands stand behind those held -/

theorem Queue.take_spec (x : Queue) (n : Nat) (c : Cmd) :
    (x.take n c).fetched.map (fun y => (y.1, y.2.1)) = x.fetched.map (fun y => (y.1, y.2.1)) ++ [(n, c)] ∧
      (x.take n c).exec = x.exec ∧ (x.take n c).disabling = x.disabling := by
  unfold Queue.take
  dsimp only
  split <;> split <;> try split
  all_goals simp [Queue.endRun]

theorem Queue.takeAll_spec (cmds : List Cmd) : ∀ (x : Queue) (n k : Nat),
    (x.takeAll (n + k) cmds).fetched.map (fun y => (y.1, y.2.1)) =
        x.fetched.map (fun y => (y.1, y.2.1)) ++ (cmds.zipIdx k).map (fun y => ((n + y.2) % 2 ^ 32, y.1)) ∧
      (x.takeAll (n + k) cmds).exec = x.exec ∧ (x.takeAll (n + k) cmds).disabling = x.disabling := by
  induction cmds with
  | nil => intro x n k; simp [Queue.takeAll]
  | cons c cs ih =>
    intro x n k
    obtain ⟨hf, he, hd⟩ := x.take_spec ((n + k) % 2 ^ 32) c
    obtain ⟨hf', he', hd'⟩ := ih (x.take ((n + k) % 2 ^ 32) c) n (k + 1)
    rw [← Nat.add_assoc] at hf' he' hd'
    refine ⟨?_, he'.trans he, hd'.trans hd⟩
    rw [Queue.takeAll, hf', hf]
    simp

theorem Queue.endRun_spec (x : Queue) : x.endRun.fetched = x.fetched ∧ x.endRun.exec = x.exec ∧ x.endRun.disabling = x.disabling :=
  ⟨rfl, rfl, rfl⟩

theorem Dev.fetch_spec {d : Dev} {q h : Nat} {x : Queue} (hx : x.disabling = false) (hh : h < 2 ^ 32) :
    let e := ((d.wr (F.qHead_count (q / 16) (q % 16)) h).setQueue q x).qSettle q
    e.qHead q = h ∧ e.queue q = x := by
  generalize he : Dev.setQueue _ q x = e
  have hq : e.queue q = x := by simp [← he]
  have hserve : (e.queue q).disabling = false := by rw [hq]; exact hx
  refine ⟨?_, (e.qSettle_serving hserve).2.1.trans hq⟩
  rw [Dev.qHead_qSettle_serving hserve, ← he]
  simp [Dev.qHead_wr _ _ hh]

theorem effect_commandFetch_taken {d : Dev} {q : Nat} {cmds : List Cmd} (hq : q < 256) (hw : d.works 8 (q / 16) = true)
    (hen : d.qEnabled q = true) (hdis : (d.queue q).disabling = false) (hst : d.qSt q ≠ qsDISABLED) (hne : cmds ≠ [])
    (hknown : cmds.length ≤ (d.qTail q + 2 ^ 32 - d.qHead q) % 2 ^ 32) (hroom : (d.queue q).held + cmds.length ≤ 64) :
    ∃ x, effect (.commandFetch q cmds) d =
        ((d.wr (F.qHead_count (q / 16) (q % 16)) ((d.qHead q + cmds.length) % 2 ^ 32)).setQueue q x).qSettle q ∧
      (x = (d.queue q).takeAll (d.qHead q) cmds ∨ x = ((d.queue q).takeAll (d.qHead q) cmds).endRun) := by
  change ∃ x, effectCommandFetch q cmds d = _ ∧ _
  dsimp only [effectCommandFetch]
  rw [Dev.when_pos (by simpa [hq, hw, hen, hdis, hst, hne, hroom] using hknown)]
  split
  · exact ⟨_, rfl, .inr rfl⟩
  · exact ⟨_, rfl, .inl rfl⟩

theorem effect_commandFetch_nothing {d : Dev} {q : Nat} {cmds : List Cmd}
    (h : 256 ≤ q ∨ (d.qTail q + 2 ^ 32 - d.qHead q) % 2 ^ 32 < cmds.length ∨ 64 < (d.queue q).held + cmds.length ∨
      d.qEnabled q = false ∨ d.works 8 (q / 16) = false) : effect (.commandFetch q cmds) d = d := by
  change effectCommandFetch q cmds d = d
  dsimp only [effectCommandFetch]
  refine Dev.when_neg ?_
  obtain h | h | h | h | h := h <;> simp [h] <;> omega

/-! ### The head command starts, ends unstarted, or waits -/

theorem effect_commandStart_front {d : Dev} {q n run : Nat} {c : Cmd} {rest : List (Nat × Cmd × Nat)} {way : StartWay}
    (hf : (d.queue q).fetched = (n, c, run) :: rest) (hw : d.startWay q = some way) :
    effect (.commandStart q) d =
      let e := if d.waitMet q n run c ∧ cmdWaitEn c ∧ (way = .go ∨ way = .hold 2 ∨ way = .hold 3) then
        d.setQueue q { d.queue q with waited := true } else d
      match way with
      | .go => if e.outranked q then e else e.begin q n run c
      | .reject st => e.neverStarts q n run c st false
      | .discard => e.neverStarts q n run c St.stepAborted true
      | .hold why => (e.setWaits q (why == 0) (why == 1) (why == 2) false).blockQueue q := by
  change effectCommandStart q d = _
  simp only [effectCommandStart, hf, hw]
  cases way <;> rfl

theorem effect_commandStart_none {d : Dev} {q : Nat} (hw : d.startWay q = none) : effect (.commandStart q) d = d := by
  change effectCommandStart q d = d
  simp only [effectCommandStart, hw]
  split <;> simp_all

/-- A queue that is held shows BLOCKED, and its flags say on what. -/
theorem Dev.hold_spec (d : Dev) (q : Nat) (sem step fence index : Bool) :
    let e := (d.setWaits q sem step fence index).blockQueue q
    e.qSt q = qsBLOCKED ∧ e.flag (F.qState_waitSem (q / 16) (q % 16)) = sem ∧
      e.flag (F.qState_waitStep (q / 16) (q % 16)) = step := by
  have hsem : (d.setWaits q sem step fence index).flag (F.qState_waitSem (q / 16) (q % 16)) = sem := by
    simp [Dev.setWaits, Dev.flag, Dev.setFlag, Dev.rd_wr_apart, Dev.rd_wr_self, F.qState_waitSem, F.qState_waitStep, F.qState_waitFence,
      F.qState_waitIndex, boolNat]
    cases sem <;> rfl
  have hstep : (d.setWaits q sem step fence index).flag (F.qState_waitStep (q / 16) (q % 16)) = step := by
    simp [Dev.setWaits, Dev.flag, Dev.setFlag, Dev.rd_wr_apart, Dev.rd_wr_self, F.qState_waitSem, F.qState_waitStep, F.qState_waitFence,
      F.qState_waitIndex, boolNat]
    cases step <;> rfl
  unfold Dev.blockQueue
  dsimp only
  split
  · next h => exact ⟨h, hsem, hstep⟩
  · refine ⟨Dev.qSt_setQSt _ _ (by decide), (congrArg (· == 1) ?_).trans hsem, (congrArg (· == 1) ?_).trans hstep⟩
    · exact Dev.rd_wr_apart _ _ _ _ (by simp [F.qState_state]) (by simp [F.qState_state, F.qState_waitSem])
    · exact Dev.rd_wr_apart _ _ _ _ (by simp [F.qState_state]) (by simp [F.qState_state, F.qState_waitStep])

/-- Settles O16: what a fetch takes, and what becomes of the head command by its way. -/
theorem fetchAndStart : Obligations.FetchAndStart := by
  unfold Obligations.FetchAndStart
  refine ⟨⟨?_, fun s q cmds h => answers_of_effect (effect_commandFetch_nothing h)⟩, ?_, ?_, ?_, ?_,
    fun s q hw => answers_of_effect (effect_commandStart_none hw)⟩
  · intro s q cmds hq hw hen hdis hst hne hknown hroom
    refine completes_of_effect ?_
    obtain ⟨x, he, hx⟩ := effect_commandFetch_taken hq hw hen hdis hst hne hknown hroom
    obtain ⟨hfetched, hexec, hserve⟩ := (s.dev.queue q).takeAll_spec cmds (s.dev.qHead q) 0
    have hspec : x.fetched = ((s.dev.queue q).takeAll (s.dev.qHead q) cmds).fetched ∧
        x.exec = ((s.dev.queue q).takeAll (s.dev.qHead q) cmds).exec ∧
        x.disabling = ((s.dev.queue q).takeAll (s.dev.qHead q) cmds).disabling := by
      obtain rfl | rfl := hx
      · exact ⟨rfl, rfl, rfl⟩
      · exact Queue.endRun_spec _
    obtain ⟨hxf, hxe, hxd⟩ := hspec
    obtain ⟨hhead, hqueue⟩ := s.dev.fetch_spec (q := q) (hxd.trans (hserve.trans hdis)) (Nat.mod_lt _ (Nat.two_pow_pos 32))
    rw [he]
    exact ⟨hhead, by rw [hqueue, hxf]; exact hfetched, by rw [hqueue, hxe]; exact hexec⟩
  · intro s q n run c rest hf hw hmet
    refine ⟨fun hen ho => answers_of_effect ?_, fun hen ho => answers_of_effect ?_⟩
    · rw [effect_commandStart_front hf hw]
      simp [hen, ho]
    · rw [effect_commandStart_front hf hw]
      simp [hen, hmet, ho]
  · intro s q n run st c rest hf hw
    refine answers_of_effect ?_
    rw [effect_commandStart_front hf hw]
    simp
  · intro s q n run c rest hf hw
    refine answers_of_effect ?_
    rw [effect_commandStart_front hf hw]
    simp
  · intro s q n run why c rest hf hw hwhy
    refine completes_of_effect ?_
    have hno : ¬(why = 2 ∨ why = 3) := by omega
    rw [effect_commandStart_front hf hw]
    simp only [StartWay.hold.injEq, reduceCtorEq, false_or, hno, and_false, if_false]
    exact Dev.hold_spec ..

end Sys2Proof.Machine
end

section
/-! Seeds and scale tables (12_step_ledger.md R277; 07_formats_and_scaling.md R157). -/

namespace Sys2Proof.Machine

/-! ### The jobs of the ledger -/

@[simp] theorem Dev.job_setJob_self (d : Dev) (j : Nat) (x : JobState) : (d.setJob j x).job j = x := by
  simp [Dev.job, Dev.setJob, mapGet]

theorem Dev.job_setJob_ne (d : Dev) {j k : Nat} (x : JobState) (h : k ≠ j) : (d.setJob j x).job k = d.job k := by
  simp [Dev.job, Dev.setJob, mapGet, mapLook_mapPut_ne _ _ h]

theorem Dev.job_of_ldg {d e : Dev} (h : e.ldg = d.ldg) (k : Nat) : e.job k = d.job k := by rw [Dev.job, Dev.job, h]

theorem Dev.badAccess_ldg (d : Dev) (f off kind : Nat) : (d.badAccess f off kind).ldg = d.ldg :=
  (Dev.badAccess_chg d f off kind).rest .ldg (by decide)

@[simp] theorem Dev.job_wr (d : Dev) (f : Fld) (v j : Nat) : (d.wr f v).job j = d.job j := rfl

@[simp] theorem Dev.job_inc (d : Dev) (f : Fld) (k j : Nat) : (d.inc f k).job j = d.job j := rfl

/-! ### A write under a page's lock -/

theorem not_isNone_of_isSome {α : Type} {o : Option α} (h : o.isSome = true) : ¬o.isNone = true := by
  rw [Option.isNone_eq_false_iff.mpr h]
  exact Bool.false_ne_true

theorem Dev.underLock_open {d : Dev} {lock : Page} (f off key : Nat) (act : Dev → Dev) (h : d.flag (hLock lock) = false) :
    d.underLock lock f off key act = act d := by
  simp [Dev.underLock, h]

theorem Dev.lockedWrite_pf {d : Dev} {p : Page} {off : Nat} (key : Nat) (act : Dev → Dev) (hat : (d.pageAt 0 off).isSome = true)
    (h : d.flag (hLock p) = false) : d.lockedWrite 0 p off key act = act d := by
  rw [Dev.lockedWrite, if_neg (by simpa using Option.isSome_iff_ne_none.mp hat), Dev.underLock_open _ _ _ _ h]

theorem Dev.lockedWrite_vf (d : Dev) {f : Nat} (p : Page) (off key : Nat) (act : Dev → Dev) (h : f ≠ 0) :
    d.lockedWrite f p off key act = d.badAccess f off 0 := by
  simp [Dev.lockedWrite, h]

/-! ### The write of RNG_SEED3 -/

/-- The 128-bit seed that the four words give when the last is `v`. -/
def Dev.seedWith (d : Dev) (j : Nat) (v : Word) : Nat :=
  d.rd (F.rngSeed0 j) + d.rd (F.rngSeed1 j) * 2 ^ 32 + d.rd (F.rngSeed2 j) * 2 ^ 64 + v.toNat * 2 ^ 96

theorem effect_seedWrite_idle {d : Dev} {j : Nat} (v : Word) (hj : j < 8)
    (hat : (d.pageAt 0 ((⟨0, .rng, 0, 0⟩ : Page).offset + 0x8C + 0x20 * j)).isSome = true) (hlive : d.attemptLive j = false) :
    effect (.seedWrite 0 j v) d =
      ((d.setJob j { d.job j with seed := d.seedWith j v }).inc (F.rngSeedGen j) 1).wr (F.rngSeedChk j)
        (crc32c (leBytes 16 (d.seedWith j v))) := by
  change effectSeedWrite 0 j v d = _
  dsimp only [effectSeedWrite]
  rw [Dev.when_pos (by simpa using hj), if_neg (not_isNone_of_isSome hat), if_neg (by simp [Dev.ownsJob]), if_neg (by simp [hlive])]
  rfl

theorem effect_seedWrite_live {d : Dev} {j : Nat} (v : Word) (hj : j < 8)
    (hat : (d.pageAt 0 ((⟨0, .rng, 0, 0⟩ : Page).offset + 0x8C + 0x20 * j)).isSome = true) (hlive : d.attemptLive j = true) :
    effect (.seedWrite 0 j v) d = d.badAccess 0 ((⟨0, .rng, 0, 0⟩ : Page).offset + 0x8C + 0x20 * j) 3 := by
  change effectSeedWrite 0 j v d = _
  dsimp only [effectSeedWrite]
  rw [Dev.when_pos (by simpa using hj), if_neg (not_isNone_of_isSome hat), if_neg (by simp [Dev.ownsJob]), if_pos hlive]

/-! ### The write of LDG_SCALE_BASE -/

theorem effect_scaleBaseWrite_pf {d : Dev} {j : Nat} (v : Word) (hj : j < 8)
    (hat : (d.pageAt 0 (F.ldgScaleBase_handle j).addr).isSome = true) (hlock : d.flag (hLock (pfPage .ldg 0 4)) = false) :
    effect (.scaleBaseWrite 0 j v) d =
      (d.wr (F.ldgScaleBase_handle j) v.toNat).wr (F.ldgScaleState_remain j)
        (d.rd (F.ldgScaleCfg_warmup j)) := by
  change effectScaleBaseWrite 0 j v d = _
  dsimp only [effectScaleBaseWrite]
  rw [Dev.when_pos (by simpa using hj), if_neg (not_or.mpr ⟨not_not_intro rfl, not_isNone_of_isSome hat⟩), Dev.underLock_open _ _ _ _ hlock]

theorem effect_scaleBaseWrite_vf {d : Dev} {f j : Nat} (v : Word) (hf : f ≠ 0) (hj : j < 8) :
    effect (.scaleBaseWrite f j v) d = d.badAccess f (F.ldgScaleBase_handle j).addr 0 := by
  change effectScaleBaseWrite f j v d = _
  dsimp only [effectScaleBaseWrite]
  rw [Dev.when_pos (by simpa using hj), if_pos (.inl hf)]

/-- Settles O29, write by write. -/
theorem seedsAndScales : Obligations.SeedsAndScales := by
  unfold Obligations.SeedsAndScales
  refine ⟨fun s j v hj hat hlive => completes_of_effect ?_, fun s j v hj hat hlive => completes_of_effect ?_,
    fun s j v hj hat hlock => completes_of_effect ?_, fun s f j v hf hj => completes_of_effect ?_⟩
  · rw [effect_seedWrite_idle v hj hat hlive]
    generalize he : Dev.inc _ (F.rngSeedGen j) 1 = e
    have hseed : (e.job j).seed = s.dev.seedWith j v := by rw [← he, Dev.job_inc, Dev.job_setJob_self]
    refine ⟨by rw [Dev.job_wr, hseed, Dev.seedWith], ?_, ?_, fun k hk => ?_⟩
    · refine (Dev.rd_wr_self _ _ _ (by simp [F.rngSeedChk])).trans ?_
      rw [Dev.job_wr, hseed]
    · rw [Dev.rd_wr_ne _ _ _ _ (by simp [F.rngSeedGen, F.rngSeedChk]), ← he]
      exact Dev.rd_inc _ _ _ (by simp [F.rngSeedGen])
    · rw [Dev.job_wr, ← he, Dev.job_inc, Dev.job_setJob_ne _ _ hk]
  · rw [effect_seedWrite_live v hj hat hlive]
    exact ⟨Dev.recorded_badAccess _ _ _ _, Dev.job_of_ldg (Dev.badAccess_ldg _ _ _ _)⟩
  · rw [effect_scaleBaseWrite_pf v hj hat hlock]
    refine ⟨?_, ?_⟩
    · rw [Dev.rd_wr_ne _ _ _ _ (by simp [F.ldgScaleBase_handle, F.ldgScaleState_remain]),
        Dev.rd_wr_self _ _ _ (by simp [F.ldgScaleBase_handle])]
      exact Nat.mod_eq_of_lt v.isLt
    · rw [Dev.rd_wr_self _ _ _ (by simp [F.ldgScaleState_remain])]
  · rw [effect_scaleBaseWrite_vf v hf hj]
    exact Dev.recorded_badAccess _ _ _ _

end Sys2Proof.Machine
end

section
/-! Partition control by the PF (16_weights_and_partitions.md R372 to R374). -/

namespace Sys2Proof.Machine

/-- The write of GLB_PART that takes all four fields of `x`. -/
def Dev.partWritten (d : Dev) (p x : Nat) : Dev :=
  (((d.wr (F.glbPart_enable p) (bitsAt x 0 1)).wr (F.glbPart_func p) (bitsAt x 1 4)).wr (F.glbPart_coreFirst p) (bitsAt x 5 6)).wr
    (F.glbPart_coreCount p) (bitsAt x 11 7)

theorem effect_partitionWrite_pf {d : Dev} {p r : Nat} (v : Word) (hp : p < 8) (hr : r < 3)
    (hat : (d.pageAt 0 ((F.glbPart_enable p).addr + 4 * r)).isSome = true) (hlock : d.flag (hLock (pfPage .glb 0 1)) = false) :
    effect (.partitionWrite 0 p r v) d =
      if r = 0 then
        if bitOf v.toNat 0 ∧ d.partRefused p (bitsAt v.toNat 1 4) (bitsAt v.toNat 5 6) (bitsAt v.toNat 11 7) then
          d.raise (pfPage .glb 0 0) 1 St.ok
        else d.partWritten p v.toNat
      else if r = 1 then d.wr (F.glbPartSem_semLimit p) (if 1 ≤ bitsAt v.toNat 0 17 ∧ bitsAt v.toNat 0 17 ≤ 65536 then bitsAt v.toNat 0 17 else 65536)
      else d.wr (F.glbPartBulk_bulkQ p) (if 1 ≤ bitsAt v.toNat 0 3 ∧ bitsAt v.toNat 0 3 ≤ 4 then bitsAt v.toNat 0 3 else 1) := by
  change effectPartitionWrite 0 p r v d = _
  dsimp only [effectPartitionWrite]
  rw [Dev.when_pos (by simp [hp, hr]), Dev.lockedWrite_pf _ _ hat hlock]
  rfl

theorem effect_partitionWrite_vf {d : Dev} {f p r : Nat} (v : Word) (hf : f ≠ 0) (hp : p < 8) (hr : r < 3) :
    effect (.partitionWrite f p r v) d = d.badAccess f ((F.glbPart_enable p).addr + 4 * r) 0 := by
  change effectPartitionWrite f p r v d = _
  dsimp only [effectPartitionWrite]
  rw [Dev.when_pos (by simp [hp, hr]), Dev.lockedWrite_vf _ _ _ _ _ hf]

theorem bitsAt_lt (n lo w : Nat) : bitsAt n lo w < 2 ^ w := Nat.mod_lt _ (Nat.two_pow_pos _)

theorem bitsAt_one_eq_bitOf (n i : Nat) : (bitsAt n i 1 == 1) = bitOf n i := rfl

theorem Dev.partWritten_spec (d : Dev) (p x : Nat) :
    (d.partWritten p x).flag (F.glbPart_enable p) = bitOf x 0 ∧ (d.partWritten p x).rd (F.glbPart_func p) = bitsAt x 1 4 ∧
      (d.partWritten p x).rd (F.glbPart_coreFirst p) = bitsAt x 5 6 ∧ (d.partWritten p x).rd (F.glbPart_coreCount p) = bitsAt x 11 7 := by
  have h (lo w : Nat) : bitsAt x lo w % 2 ^ w = bitsAt x lo w := Nat.mod_eq_of_lt (bitsAt_lt x lo w)
  refine ⟨?_, ?_, ?_, ?_⟩
  · rw [← bitsAt_one_eq_bitOf, ← h 0 1]
    simp [Dev.flag, Dev.partWritten, Dev.rd_wr_apart, Dev.rd_wr_self, F.glbPart_enable, F.glbPart_func, F.glbPart_coreFirst, F.glbPart_coreCount]
  · rw [← h 1 4]
    simp [Dev.partWritten, Dev.rd_wr_apart, Dev.rd_wr_self, F.glbPart_enable, F.glbPart_func, F.glbPart_coreFirst, F.glbPart_coreCount]
  · rw [← h 5 6]
    simp [Dev.partWritten, Dev.rd_wr_apart, Dev.rd_wr_self, F.glbPart_enable, F.glbPart_func, F.glbPart_coreFirst, F.glbPart_coreCount]
  · rw [← h 11 7]
    simp [Dev.partWritten, Dev.rd_wr_self, F.glbPart_enable, F.glbPart_func, F.glbPart_coreFirst, F.glbPart_coreCount]

theorem Dev.partWritten_frame (d : Dev) (p x : Nat) :
    d.keeps (d.partWritten p x) [(F.glbPart_enable p).addr] ∧ Dev.changesOnly [.regs] d (d.partWritten p x) := by
  have hmem (k : Nat) (h : k = (F.glbPart_enable p).addr) : k ∈ [(F.glbPart_enable p).addr] := by simp [h]
  exact ⟨Dev.keeps_wr _ (hmem _ rfl) (Dev.keeps_wr _ (hmem _ rfl) (Dev.keeps_wr _ (hmem _ rfl)
    (Dev.keeps_wr _ (hmem _ rfl) (Dev.keeps_refl d _)))),
    Dev.wr_keep (by decide) (Dev.wr_keep (by decide) (Dev.wr_keep (by decide) (Dev.wr_chg _ _ _)))⟩

/-- Settles O31: GLB_PART, the semaphore limit, the bulk queue, and a VF's write. -/
theorem partitions : Obligations.Partitions := by
  unfold Obligations.Partitions
  refine ⟨fun s p v hp hat hlock hok => completes_of_effect ?_, fun s p v hp hat hlock hen href => completes_of_effect ?_,
    fun s p v hp hat hlock => completes_of_effect ?_, fun s p v hp hat hlock => completes_of_effect ?_,
    fun s f p r v hf hp hr => completes_of_effect ?_⟩
  · rw [effect_partitionWrite_pf v hp (by decide) hat hlock, if_pos rfl, if_neg fun h => absurd (hok h.1) (by simp [h.2])]
    obtain ⟨hen, hfunc, hfirst, hcount⟩ := s.dev.partWritten_spec p v.toNat
    obtain ⟨hkeep, hchg⟩ := s.dev.partWritten_frame p v.toNat
    exact ⟨hen, hfunc, hfirst, hcount, hkeep, hchg⟩
  · rw [effect_partitionWrite_pf v hp (by decide) hat hlock, if_pos rfl, if_pos ⟨hen, href⟩]
    refine ⟨Dev.eventBit_raise _ _ _ rfl (by decide), Dev.keeps_raise _ _ _ _ _ _ fun hm => absurd (Page.eventRegs_mod hm) ?_⟩
    simp only [F.glbPart_enable]
    omega
  · rw [effect_partitionWrite_pf v hp (by decide) (by rwa [F.glbPart_enable, Nat.add_right_comm]) hlock, if_neg (by decide), if_pos rfl]
    rw [Dev.rd_wr_self _ _ _ (by simp [F.glbPartSem_semLimit])]
    simp only [F.glbPartSem_semLimit]
    split <;> omega
  · rw [effect_partitionWrite_pf v hp (by decide) (by rwa [F.glbPart_enable, Nat.add_right_comm]) hlock, if_neg (by decide), if_neg (by decide)]
    rw [Dev.rd_wr_self _ _ _ (by simp [F.glbPartBulk_bulkQ])]
    simp only [F.glbPartBulk_bulkQ]
    split <;> omega
  · rw [effect_partitionWrite_vf v hf hp hr]
    exact Dev.recorded_badAccess _ _ _ _

end Sys2Proof.Machine
end

section
/-! Unit resets: the request, its end and its escalation (02_register_pages.md R40; 18_faults_resets_dumps.md R399, R401). -/

namespace Sys2Proof.Machine

/-! ### The list of resets -/

theorem Dev.startReset_mem (d : Dev) (dom unit : Nat) : ⟨dom, unit, d.now⟩ ∈ (d.startReset dom unit).spr.resets := by
  simp [Dev.startReset]

theorem Dev.beginReset_spr (d : Dev) (dom unit : Nat) : (d.beginReset dom unit).spr = (d.startReset dom unit).spr := by
  unfold Dev.beginReset
  dsimp only
  split <;> simp

theorem Dev.beginReset_mem {d : Dev} (dom unit : Nat) {t : Nat} (ht : d.now = t) : ⟨dom, unit, t⟩ ∈ (d.beginReset dom unit).spr.resets := by
  rw [Dev.beginReset_spr, ← ht]
  exact d.startReset_mem dom unit

theorem Dev.endReset_resets (d : Dev) (unit : Nat) : (d.endReset unit).spr.resets = d.spr.resets.filter (fun r => r.unit != unit) := by
  unfold Dev.endReset
  dsimp only
  split <;> simp

theorem Dev.endReset_now (d : Dev) (unit : Nat) : (d.endReset unit).now = d.now := (Dev.endReset_chg d unit).rest .now (by decide)

theorem Dev.noteEscalation_now (d : Dev) (unit : Nat) : (d.noteEscalation unit).now = d.now :=
  (Dev.noteEscalation_chg d unit).rest .now (by decide)

/-! ### The request -/

theorem Dev.resetUnit_mem (d : Dev) (dom unit status : Nat) : ⟨dom, unit, d.now⟩ ∈ (d.resetUnit dom unit status).spr.resets := by
  refine Dev.beginReset_mem dom unit ?_
  split
  · exact (Dev.endPartsOn_chg ..).rest .now (by decide)
  · split
    · exact (Dev.dropLink_chg ..).rest .now (by decide)
    · exact (Dev.endPartsOn_chg ..).rest .now (by decide)

theorem Dev.requestReset_pf {d : Dev} {off : Nat} {pg : Page} (dom : Nat) (hat : d.pageAt 0 off = some (pg, 0x2C)) :
    d.requestReset 0 off dom = d.when (bitOf (pageCaps pg).reset dom) fun d => d.resetUnit dom (pageUnit pg) St.unitReset := by
  simp only [Dev.requestReset, hat]
  rfl

theorem Dev.requestReset_vf {d : Dev} {f off : Nat} {pg : Page} (dom : Nat) (hf : f ≠ 0) (hat : d.pageAt f off = some (pg, 0x2C)) :
    d.requestReset f off dom = d.badAccess f off 3 := by
  simp only [Dev.requestReset, hat]
  rw [Dev.when_pos (by decide), if_pos hf]

theorem effect_dRequest {c : Instr} {f off dom : Nat}
    (h : (c, dom) ∈ [(Instr.d0Request f off, 0), (Instr.d1Request f off, 1), (Instr.d2Request f off, 2)]) (d : Dev) :
    effect c d = d.requestReset f off dom := by
  simp only [List.mem_cons, Prod.mk.injEq, List.not_mem_nil, or_false] at h
  obtain ⟨rfl, rfl⟩ | ⟨rfl, rfl⟩ | ⟨rfl, rfl⟩ := h <;> rfl

/-! ### The end and the escalation -/

theorem effect_resetComplete_pass {d : Dev} {dom unit : Nat} (hdom : dom ≤ 2) (hunit : unit / 256 ≤ 9)
    (hr : ∃ r ∈ d.spr.resets, r.dom = dom ∧ r.unit = unit) :
    effect (.resetComplete dom unit true) d = (d.endReset unit).noteMonitors := by
  obtain ⟨r, hmem, hd, hu⟩ := hr
  change effectResetComplete dom unit true d = _
  unfold effectResetComplete
  rw [Dev.when_pos]
  · dsimp only [Dev.resetDone]
    rw [if_neg (by omega), if_neg (by omega), if_pos rfl]
  · simp only [Bool.and_eq_true, bne_iff_ne, List.any_eq_true, beq_iff_eq]
    exact ⟨by omega, r, hmem, hd, hu⟩

theorem effect_resetEscalation_d0 {d : Dev} {unit : Nat} {r : ResetRun} (hunit : unit / 256 ≠ 14)
    (hr : d.spr.resets.find? (fun r => r.dom == 0 && r.unit == unit) = some r) (hdue : r.start + resetBound 0 ≤ d.now) :
    effect (.resetEscalation 0 unit) d = (d.noteEscalation unit).beginReset 1 unit := by
  change effectResetEscalation 0 unit d = _
  simp only [effectResetEscalation, hr]
  rw [Dev.when_pos (decide_eq_true hdue), if_neg hunit]

theorem effect_resetEscalation_d1 {d : Dev} {unit : Nat} {r : ResetRun}
    (hr : d.spr.resets.find? (fun r => r.dom == 1 && r.unit == unit) = some r) (hdue : r.start + resetBound 1 ≤ d.now) :
    effect (.resetEscalation 1 unit) d =
      (((d.noteEscalation unit).closeUnit (unit / 256) (unit % 256) St.resetEscalated).endReset unit).startReset 4 unit := by
  change effectResetEscalation 1 unit d = _
  simp only [effectResetEscalation, hr]
  rw [Dev.when_pos (decide_eq_true hdue)]

theorem effect_resetEscalation_early {d : Dev} {dom unit : Nat} {r : ResetRun}
    (hr : d.spr.resets.find? (fun r => r.dom == dom && r.unit == unit) = some r) (h : d.now < r.start + resetBound dom) :
    effect (.resetEscalation dom unit) d = d := by
  change effectResetEscalation dom unit d = _
  simp only [effectResetEscalation, hr]
  exact Dev.when_neg (decide_eq_false (by omega))

/-- Settles O12: the request starts the reset, its passed end clears the list, and a missed bound escalates. -/
theorem unitResets : Obligations.UnitResets := by
  unfold Obligations.UnitResets
  refine ⟨fun s off pg hat => ⟨fun c dom hc => ⟨fun hcap => completes_of_effect ?_, fun hcap => answers_of_effect ?_⟩,
    fun f off' pg' hf hat' c hc => completes_of_effect ?_⟩, fun s dom unit hdom hunit hr => completes_of_effect ?_,
    fun s unit r hunit hr hdue => completes_of_effect ?_, fun s unit r hr hdue => completes_of_effect ?_,
    fun s dom unit r hr hearly => answers_of_effect (effect_resetEscalation_early hr hearly)⟩
  · rw [effect_dRequest hc, Dev.requestReset_pf dom hat, Dev.when_pos hcap]
    exact ⟨Dev.resetUnit_mem .., rfl⟩
  · rw [effect_dRequest hc, Dev.requestReset_pf dom hat, Dev.when_neg hcap]
  · obtain ⟨dom, hdom⟩ : ∃ dom, (c, dom) ∈ [(Instr.d0Request f off', 0), (Instr.d1Request f off', 1), (Instr.d2Request f off', 2)] := by
      simp only [List.mem_cons, List.not_mem_nil, or_false] at hc
      obtain rfl | rfl | rfl := hc
      · exact ⟨0, by simp⟩
      · exact ⟨1, by simp⟩
      · exact ⟨2, by simp⟩
    rw [effect_dRequest hdom, Dev.requestReset_vf dom hf hat']
    exact Dev.recorded_badAccess ..
  · intro r
    rw [effect_resetComplete_pass hdom hunit hr, (Dev.noteMonitors_chg _).rest .spr (by decide), Dev.endReset_resets]
    simp
  · rw [effect_resetEscalation_d0 hunit hr hdue]
    exact ⟨Dev.beginReset_mem _ _ (Dev.noteEscalation_now ..), rfl⟩
  · rw [effect_resetEscalation_d1 hr hdue]
    refine ⟨?_, rfl⟩
    have hnow : (((s.dev.noteEscalation unit).closeUnit (unit / 256) (unit % 256) St.resetEscalated).endReset unit).now = s.dev.now := by
      rw [Dev.endReset_now, (Dev.closeUnit_chg ..).rest .now (by decide), Dev.noteEscalation_now]
    have hmem := Dev.startReset_mem (((s.dev.noteEscalation unit).closeUnit (unit / 256) (unit % 256) St.resetEscalated).endReset unit) 4 unit
    rwa [hnow] at hmem

end Sys2Proof.Machine
end

section
/-! Spares: substitution and the doorbell of a closure record (01_one_step_through_the_device.md R25 to R28, R31). -/

namespace Sys2Proof.Machine

/-! ### The identity's new unit -/

theorem Dev.takeIdentity_spr (d : Dev) (t l p : Nat) :
    (d.takeIdentity t l p).spr.map = mapPut d.spr.map (unitKey t l) (p + 1) ∧
      (d.takeIdentity t l p).spr.units = mapPut d.spr.units (unitKey t p) { d.physUnit t p with role := 0 } := by
  unfold Dev.takeIdentity
  dsimp only
  rw [(Dev.raise_chg ..).rest .spr (by decide)]
  exact ⟨rfl, rfl⟩

theorem Dev.takeIdentity_spec (d : Dev) (t l p : Nat) :
    (d.takeIdentity t l p).physOf t l = some p ∧ ((d.takeIdentity t l p).physUnit t p).role = 0 ∧
      (d.takeIdentity t l p).eventBit sprPage 0 = true ∧
      ∀ t' l', unitKey t' l' ≠ unitKey t l → (d.takeIdentity t l p).physOf t' l' = d.physOf t' l' := by
  obtain ⟨hmap, hunits⟩ := d.takeIdentity_spr t l p
  refine ⟨?_, ?_, Dev.eventBit_raise _ _ _ rfl (by decide), fun t' l' hne => ?_⟩
  · simp [Dev.physOf, hmap]
  · simp [Dev.physUnit, hunits]
  · simp only [Dev.physOf, hmap, mapLook_mapPut_ne _ _ hne]

theorem effect_spareSubstitution_free {d : Dev} {t l p : Nat} {ps ls : List Nat} (ht : t ≠ 8) (hp : d.reserves t = p :: ps)
    (hl : (d.unmapped t).filter (d.mayMap t) = l :: ls) (hfree : d.freeTested t = d) :
    effect (.spareSubstitution t l) d = d.takeIdentity t l p := by
  change effectSpareSubstitution t l d = _
  simp only [effectSpareSubstitution, hfree, ite_self, hp, hl]
  rw [Dev.when_pos (beq_self_eq_true l), if_neg ht]

/-! ### The doorbell -/

theorem effect_sprAssistDoorbell_none {d : Dev} {f h : Nat} (hr : d.spr.recs.find? (fun r => r.handle == h) = none) :
    effect (.sprAssistDoorbell f h) d = d.badDoorbell f sprPage := by
  change effectSprAssistDoorbell f h d = _
  simp only [effectSprAssistDoorbell, hr]

/-- The table of the spare map after the doorbell of a unit's closure record. -/
def Dev.sprAnswered (d : Dev) (h : Nat) (r : SprRec) : Spares :=
  if d.rd F.sprAssistDec_dec = 0 then
    { d.spr with recs := d.spr.recs.filter (fun x => x.handle != h), approved := d.spr.approved ++ [unitKey r.utype r.logical],
                 declined := d.spr.declined.filter (· != unitKey r.utype r.logical) }
  else { d.spr with recs := d.spr.recs.filter (fun x => x.handle != h), declined := d.spr.declined ++ [unitKey r.utype r.logical] }

theorem effect_sprAssistDoorbell_unit {d : Dev} {f h : Nat} {r : SprRec} (hr : d.spr.recs.find? (fun r => r.handle == h) = some r)
    (hk : r.kind = 0) (hwait : d.spr.waiting = []) : (effect (.sprAssistDoorbell f h) d).spr = d.sprAnswered h r := by
  change (effectSprAssistDoorbell f h d).spr = _
  have hspr : (((d.setSpr (d.sprAnswered h r)).sixRelease h St.ok).sprShow).spr = d.sprAnswered h r := by
    rw [(Dev.sprShow_chg _).rest .spr (by decide), (Dev.sixRelease_chg ..).rest .spr (by decide), Dev.setSpr_spr]
  have hnone : (d.sprAnswered h r).waiting = [] := by
    unfold Dev.sprAnswered
    split <;> exact hwait
  simp only [effectSprAssistDoorbell, hr, hk, ne_eq, not_true_eq_false, if_false, false_and]
  rw [← Dev.sprAnswered, Dev.sprNext, hspr, hnone]
  exact hspr

/-- Settles O23: the substitution, the approval or refusal by the doorbell, and a doorbell without a record. -/
theorem spares : Obligations.Spares := by
  unfold Obligations.Spares
  refine ⟨fun s t l p ps ls ht hp hl _ hfree => completes_of_effect ?_, fun s f h r hr hk hwait => completes_of_effect ?_,
    fun s f h hr => completes_of_effect ?_⟩
  · rw [effect_spareSubstitution_free ht hp hl hfree]
    exact Dev.takeIdentity_spec ..
  · rw [effect_sprAssistDoorbell_unit hr hk hwait]
    unfold Dev.sprAnswered
    split
    · next hdec => exact ⟨rfl, fun _ => by simp, fun hne => absurd hdec hne⟩
    · next hdec => exact ⟨rfl, fun h0 => absurd h0 hdec, fun _ => by simp⟩
  · rw [effect_sprAssistDoorbell_none hr]
    exact Dev.recorded_badAccess ..

end Sys2Proof.Machine
end

section
/-! Market reads and writes of one line (04_market.md R92, R93, R96, R98). -/

namespace Sys2Proof.Machine

theorem Dev.lineError_none (d : Dev) (x : PartId) (line : Nat) : d.lineError x line 0 = d := rfl

theorem Dev.dirtyLine_t0 (d : Dev) (line : Nat) : (d.dirtyLine line).t0 = d.t0 := (Dev.dirtyLine_chg d line).rest .t0 (by decide)

/-- A masked write of the first `n` bytes of a line. -/
def writeLineUpTo (m : Memory) (line mask : Nat) (data : List Byte) (n : Nat) : Memory :=
  (List.range n).foldl (fun m b => if bitOf mask b then m.write (line * 64 + b) (nthD data b 0) else m) m

theorem writeLineUpTo_succ (m : Memory) (line mask : Nat) (data : List Byte) (n : Nat) :
    writeLineUpTo m line mask data (n + 1) =
      if bitOf mask n then (writeLineUpTo m line mask data n).write (line * 64 + n) (nthD data n 0)
      else writeLineUpTo m line mask data n := by
  simp only [writeLineUpTo, List.range_succ, List.foldl_append, List.foldl_cons, List.foldl_nil]

theorem read_writeLineUpTo (m : Memory) (line mask : Nat) (data : List Byte) (n a : Nat) :
    (writeLineUpTo m line mask data n).read a =
      if line * 64 ≤ a ∧ a < line * 64 + n ∧ bitOf mask (a - line * 64) = true then nthD data (a - line * 64) 0 else m.read a := by
  induction n with
  | zero => exact (if_neg (by omega)).symm
  | succ n ih =>
    rw [writeLineUpTo_succ, apply_ite (fun m => Memory.read m a), Memory.read_write, ih]
    by_cases ha : a = line * 64 + n
    · simp [ha]
    · simp [ha, show a < line * 64 + (n + 1) ↔ a < line * 64 + n by omega]

theorem read_writeLine (m : Memory) (line mask : Nat) (data : List Byte) (a : Nat) :
    (writeLine m line mask data).read a =
      if line * 64 ≤ a ∧ a < line * 64 + 64 ∧ bitOf mask (a - line * 64) = true then nthD data (a - line * 64) 0 else m.read a :=
  read_writeLineUpTo m line mask data 64 a

/-! ### The three requests -/

theorem effect_marketRead_granted {d : Dev} {port part q i p line : Nat} (h : d.requestRefused port part line false = none) :
    effect (.marketRead port part q i p line 0) d =
      if d.mkt.poison.contains line = true then d.failPart q i p St.eccUncorrectable else d := by
  change effectMarketRead port part q i p line 0 d = _
  simp only [effectMarketRead, h, Dev.lineError_none, and_true]

theorem effect_marketRead_refused {d : Dev} {port part q i p line err st : Nat} (h : d.requestRefused port part line false = some st) :
    effect (.marketRead port part q i p line err) d = d.refuseLine ⟨q, i, p⟩ line st := by
  change effectMarketRead port part q i p line err d = _
  simp only [effectMarketRead, h]

theorem effect_marketWrite_refused {d : Dev} {port part q i p line mask err st : Nat} {data : List Byte}
    (h : d.requestRefused port part line true = some st) :
    effect (.marketWrite port part q i p line mask data err) d = d.refuseLine ⟨q, i, p⟩ line st := by
  change effectMarketWrite port part q i p line mask data err d = _
  simp only [effectMarketWrite, h]

theorem effect_marketWrite_granted {d : Dev} {port part q i p line mask : Nat} {data : List Byte}
    (h : d.requestRefused port part line true = none) :
    effect (.marketWrite port part q i p line mask data 0) d =
      let e := d.setT0 (writeLine d.t0 line mask data)
      (if mask = 2 ^ 64 - 1 then e.setMkt { e.mkt with poison := e.mkt.poison.filter (· != line) } else e).dirtyLine line := by
  change effectMarketWrite port part q i p line mask data 0 d = _
  simp only [effectMarketWrite, h, Dev.lineError_none]
  rfl

/-- Settles O35: reads and writes that are granted, and those that are refused. -/
theorem marketRequests : Obligations.MarketRequests := by
  unfold Obligations.MarketRequests
  refine ⟨fun s port part q i p line h hp => answers_of_effect ?_, fun s port part q i p line h hp => answers_of_effect ?_,
    fun s port part q i p line err st h => answers_of_effect (effect_marketRead_refused h),
    fun s port part q i p line mask data h => completes_of_effect ?_,
    fun s port part q i p line mask err st data h => completes_of_effect ?_⟩
  · rw [effect_marketRead_granted h, if_neg (by simpa using hp)]
  · rw [effect_marketRead_granted h, if_pos hp]
  · rw [effect_marketWrite_granted h]
    dsimp only
    refine ⟨fun a => ?_, ?_⟩
    · rw [Dev.dirtyLine_t0, apply_ite Dev.t0, Dev.setMkt_t0, ite_self, Dev.setT0_t0, read_writeLine]
    · have hw := Dev.setT0_chg s.dev (writeLine s.dev.t0 line mask data)
      exact Dev.dirtyLine_keep (by decide)
        (chg_ite (Dev.setMkt_keep (by decide) (chg_step hw (by decide) (chg_refl _ _))) (chg_step hw (by decide) (chg_refl _ _)))
  · rw [effect_marketWrite_refused h]
    have hchg := Dev.refuseLine_chg s.dev ⟨q, i, p⟩ line st
    exact ⟨rfl, hchg.rest .t0 (by decide), hchg.rest .t1 (by decide)⟩

end Sys2Proof.Machine
end

section
/-! Reduction writes (04_market.md R94). -/

namespace Sys2Proof.Machine

/-! ### Elements of a line -/

theorem leBytes_length (k n : Nat) : (leBytes k n).length = k := by
  induction k generalizing n with
  | zero => rfl
  | succ k ih => simp [leBytes, ih]

theorem ofLeBytes_leBytes (k n : Nat) : ofLeBytes (leBytes k n) = n % 256 ^ k := by
  induction k generalizing n with
  | zero => simp [leBytes, ofLeBytes, Nat.mod_one]
  | succ k ih =>
    have h : n % 256 ^ (k + 1) = n % 256 + 256 * (n / 256 % 256 ^ k) := by rw [Nat.pow_succ', Nat.mod_mul]
    rw [leBytes, ofLeBytes, ih, BitVec.toNat_ofNat, h]

theorem flatMap_fixed_length {α : Type} {f : α → List Byte} {w : Nat} (hf : ∀ x, (f x).length = w) (l : List α) :
    (l.flatMap f).length = l.length * w := by
  induction l with
  | nil => exact (Nat.zero_mul w).symm
  | cons x xs ih => rw [List.flatMap_cons, List.length_append, hf, ih, List.length_cons, Nat.succ_mul, Nat.add_comm]

/-- Element `k` of a row of equally wide elements. -/
theorem leAt_flatMap {f : Nat → List Byte} {w : Nat} (hf : ∀ x, (f x).length = w) {n k : Nat} (hk : k < n) :
    leAt ((List.range n).flatMap f) (w * k) w = ofLeBytes (f k) := by
  have hsplit : List.range n = List.range k ++ k :: (List.range' (k + 1) (n - k - 1)) := by
    rw [List.range_eq_range', List.range_eq_range', ← List.range'_succ, show n - k - 1 + 1 = n - k by omega]
    have h := (List.range'_append (s := 0) (m := k) (n := n - k) (step := 1)).symm
    simpa [show k + (n - k) = n by omega] using h
  rw [leAt, hsplit, List.flatMap_append, List.drop_append_of_le_length (by simp [flatMap_fixed_length hf, Nat.mul_comm]),
    List.drop_eq_nil_of_le (by simp [flatMap_fixed_length hf, Nat.mul_comm]), List.nil_append, List.flatMap_cons, List.take_append_of_le_length (by simp [hf]),
    List.take_of_length_le (by simp [hf])]

theorem Memory.readBytes_writeBytes_self (m : Memory) (a : Nat) {n : Nat} {bs : List Byte} (h : bs.length = n) :
    (m.writeBytes a bs).readBytes a n = bs := by
  subst h
  induction bs generalizing m a with
  | nil => rfl
  | cons b bs ih =>
    rw [List.length_cons, Memory.readBytes, Memory.writeBytes, ih, Memory.read_writeBytes_lt _ _ (by omega), Memory.read_write, if_pos rfl]

theorem fp32_ieeeCode_lt (rnd : Rnd) (x : FVal) : fp32.ieeeCode rnd x < 2 ^ 32 := by
  have hsign (s : Bool) {v : Nat} (hv : v ≤ fp32.top + 1) : fp32.sign s v < 2 ^ 32 :=
    fp32.sign_lt s (Nat.lt_of_le_of_lt hv (by decide))
  cases x with
  | nan => exact (show 0x7FC00000 < 2 ^ 32 by decide)
  | inf s => exact hsign s (Nat.le_refl _)
  | fin s m e => exact hsign s (Nat.min_le_right _ _)

/-! ### The write -/

/-- The line that a reduction write leaves: each element of the old line with the data's added. -/
def Dev.reduced (d : Dev) (q line mode stream pass first : Nat) (data : List Byte) : List Byte :=
  let w := modeBytes mode
  let step := ((d.newest (d.qJob q)).map (fun r => r.step)).getD 0
  (List.range (64 / w)).flatMap fun e =>
    leBytes w (addElem mode (.draw (draw16 (d.job (d.qJob q)).seed step stream 2 pass (first + e)))
      (leAt (d.t0.readBytes (line * 64) 64) (e * w) w) (leAt data (e * w) w))

theorem effect_reductionWrite_granted {d : Dev} {port part q i p line mode stream pass first : Nat} {data : List Byte}
    (h : d.requestRefused port part line true = none) :
    effect (.reductionWrite port part q i p line mode stream pass first data 0) d =
      (d.setT0 (d.t0.writeBytes (line * 64) (d.reduced q line mode stream pass first data))).dirtyLine line := by
  change effectReductionWrite port part q i p line mode stream pass first data 0 d = _
  simp only [effectReductionWrite, h, Dev.lineError_none]
  rfl

theorem Dev.reduced_length (d : Dev) (q line mode stream pass first : Nat) (data : List Byte) :
    (d.reduced q line mode stream pass first data).length = 64 := by
  have hw : 64 / modeBytes mode * modeBytes mode = 64 := by
    unfold modeBytes
    split <;> rfl
  rw [Dev.reduced, flatMap_fixed_length (fun _ => leBytes_length _ _), List.length_range, hw]

theorem Dev.leAt_reduced (d : Dev) (q line mode stream pass first : Nat) (data : List Byte) {k : Nat} (hw : modeBytes mode = 4) (hk : k < 16) :
    ∃ rnd, leAt (d.reduced q line mode stream pass first data) (4 * k) 4 =
      addElem mode rnd (leAt (d.t0.readBytes (line * 64) 64) (4 * k) 4) (leAt data (4 * k) 4) % 2 ^ 32 := by
  dsimp only [Dev.reduced]
  rw [hw, leAt_flatMap (fun _ => leBytes_length _ _) (by omega), ofLeBytes_leBytes, Nat.mul_comm k 4]
  exact ⟨_, rfl⟩

/-- Settles O36: the line is rewritten element by element, and nothing outside it. -/
theorem reductionWrites : Obligations.ReductionWrites := by
  unfold Obligations.ReductionWrites
  intro s port part q i p line mode stream pass first data h
  refine completes_of_effect ?_
  rw [effect_reductionWrite_granted h, Dev.dirtyLine_t0, Dev.setT0_t0]
  have hlen := s.dev.reduced_length q line mode stream pass first data
  refine ⟨fun a ha => ?_, Dev.dirtyLine_keep (by decide) (chg_step (Dev.setT0_chg _ _) (by decide) (chg_refl _ _)), fun k hk => ?_⟩
  · obtain ha | ha := ha
    · exact Memory.read_writeBytes_lt _ _ ha
    · exact Memory.read_writeBytes_ge _ _ (by rwa [hlen])
  · rw [Memory.readBytes_writeBytes_self _ _ hlen]
    refine ⟨fun hm => ?_, fun hm => ?_⟩ <;> subst hm
    · obtain ⟨rnd, hsum⟩ := s.dev.leAt_reduced q line 3 stream pass first data rfl hk
      rw [hsum]
      exact Nat.mod_mod _ _
    · obtain ⟨rnd, hsum⟩ := s.dev.leAt_reduced q line 0 stream pass first data rfl hk
      rw [hsum]
      exact Nat.mod_eq_of_lt (fp32_ieeeCode_lt _ _)

end Sys2Proof.Machine
end

section
/-! Parts in execution: what a command's record reads after a part has run. -/

namespace Sys2Proof.Machine

theorem Dev.queue_of_kqp {d e : Dev} (h : e.kqp = d.kqp) (q : Nat) : e.queue q = d.queue q := by rw [Dev.queue, Dev.queue, h]

theorem Dev.cmdAt_of_kqp {d e : Dev} (h : e.kqp = d.kqp) (q i : Nat) : e.cmdAt q i = d.cmdAt q i := by
  rw [Dev.cmdAt, Dev.cmdAt, Dev.queue_of_kqp h]

theorem Dev.partReady_of_kqp {d e : Dev} (h : e.kqp = d.kqp) (q i p op : Nat) : e.partReady q i p op = d.partReady q i p op := by
  rw [Dev.partReady, Dev.partReady, Dev.cmdAt_of_kqp h]

theorem getElem?_setNth_self {α : Type} {l : List α} {i : Nat} {x : α} (y : α) (h : l[i]? = some x) : (setNth l i y)[i]? = some y := by
  induction l generalizing i with
  | nil => simp at h
  | cons a l ih =>
    cases i with
    | zero => rfl
    | succ i => simpa [setNth] using ih (by simpa using h)

theorem find?_map_replace {l : List CmdEx} {e e' : CmdEx} {i : Nat} (h : l.find? (fun y => y.count == i && !y.fin) = some e)
    (hc : e'.count = e.count) (hf : e'.fin = e.fin) :
    (l.map fun y => if y.count = e'.count then e' else y).find? (fun y => y.count == i && !y.fin) = some e' := by
  have hp := List.find?_some h
  simp only [Bool.and_eq_true, beq_iff_eq, Bool.not_eq_true'] at hp
  have hi : e'.count = i := hc.trans hp.1
  have hfin : e'.fin = false := hf.trans hp.2
  induction l with
  | nil => simp at h
  | cons y l ih =>
    by_cases hy : y.count = i
    · simp [hi, hy, hfin]
    · rw [List.find?_cons_of_neg (by simp [hy])] at h
      simpa [hi, hy] using ih h

theorem Dev.cmdAt_setCmd {d : Dev} {q i : Nat} {e e' : CmdEx} (h : d.cmdAt q i = some e) (hc : e'.count = e.count) (hf : e'.fin = e.fin) :
    (d.setCmd q e').cmdAt q i = some e' := by
  rw [Dev.cmdAt, Dev.setCmd, Dev.queue_setQueue]
  exact find?_map_replace h hc hf

/-- A part that may run has a record, not ended and not run. -/
theorem Dev.part_of_partReady {d : Dev} {q i p op : Nat} (h : d.partReady q i p op = true) :
    ∃ m x, d.cmdAt q i = some m ∧ m.parts[p]? = some x ∧ x.ended = false ∧ x.ran = false := by
  unfold Dev.partReady at h
  split at h
  · exact absurd h (by decide)
  · next m hm =>
    split at h
    · simp at h
    · next x hx =>
      simp only [Bool.and_eq_true, Bool.not_eq_true'] at h
      exact ⟨m, x, hm, hx, h.2.1, h.2.2⟩

/-- A part's record once it has run. -/
def Part.afterRun (x : Part) (status info work : Nat) : Part := { x with ran := true, status := status, info := info, work := work }

theorem Dev.cmdAt_partRan {d : Dev} {q i p : Nat} {m : CmdEx} {x : Part} (hm : d.cmdAt q i = some m) (hx : m.parts[p]? = some x)
    (status info work : Nat) :
    (d.partRan q i p status info work).cmdAt q i = some { m with parts := setNth m.parts p (x.afterRun status info work) } := by
  unfold Dev.partRan
  simp only [hm, hx]
  exact Dev.cmdAt_setCmd hm rfl rfl

theorem Dev.hasRun_partRan_of {d : Dev} {q i p : Nat} {m : CmdEx} {x : Part} (hm : d.cmdAt q i = some m) (hx : m.parts[p]? = some x)
    {status : Nat} (info work : Nat) (hst : status = St.ok ∨ status = reportStatus .saturate ∨ status = reportStatus .nonfinite) :
    (d.partRan q i p status info work).hasRun ⟨q, i, p⟩ := by
  refine ⟨x.afterRun status info work, ?_, rfl, hst⟩
  dsimp only
  rw [Dev.cmdAt_partRan hm hx]
  exact getElem?_setNth_self _ hx

/-- A part that was due and has run is one that has run. -/
theorem Dev.hasRun_partRan {d : Dev} {q i p op status : Nat} (h : d.partReady q i p op = true) (info work : Nat)
    (hst : status = St.ok ∨ status = reportStatus .saturate ∨ status = reportStatus .nonfinite) :
    (d.partRan q i p status info work).hasRun ⟨q, i, p⟩ := by
  obtain ⟨m, x, hm, hx, -, -⟩ := Dev.part_of_partReady h
  exact Dev.hasRun_partRan_of hm hx info work hst

end Sys2Proof.Machine
end

section
/-! Collective commands, waits for ranks, and layouts (15_groups_and_collectives.md R342 to R353). -/

namespace Sys2Proof.Machine

theorem Dev.runColl_ready {d : Dev} {q i op : Nat} {k : Coll} (hk : d.coll? q i = some k) (h : d.partReady q i 0 op = true) :
    d.runColl q i op = if k.begun then d.collAdvance q i else (d.collBegin q i).collAdvance q i := by
  unfold Dev.runColl
  rw [Dev.when_pos h, hk]
  cases hb : k.begun <;> simp [hb]

theorem Dev.runColl_other {d : Dev} {q i op : Nat} (h : d.partReady q i 0 op = false) : d.runColl q i op = d := Dev.when_neg h

theorem effect_collectiveWaitTimeout_over {d : Dev} {q i rank : Nat} {k : Coll} {p : Posted} (hk : d.coll? q i = some k) (hst : k.status = 0)
    (hp : p.handle = 0)
    (hf : k.posted.find? (fun p => !p.done && p.rank == rank && decide (p.since + d.waitBound p.len ≤ d.now)) = some p) :
    effect (.collectiveWaitTimeout q i rank) d =
      (d.failColl q i St.memberMissing rank).raise colPage 6 St.memberMissing { job := d.qJob q } := by
  change effectCollectiveWaitTimeout q i rank d = _
  simp only [effectCollectiveWaitTimeout, hk, hf]
  rw [Dev.when_pos (beq_iff_eq.mpr hst), if_pos hp]

theorem effect_collectiveWaitTimeout_within {d : Dev} {q i rank : Nat} {k : Coll} (hk : d.coll? q i = some k)
    (hp : ∀ p ∈ k.posted, d.now < p.since + d.waitBound p.len) : effect (.collectiveWaitTimeout q i rank) d = d := by
  have hf : k.posted.find? (fun p => !p.done && p.rank == rank && decide (p.since + d.waitBound p.len ≤ d.now)) = none :=
    List.find?_eq_none.mpr fun p hmem => by simp [Nat.not_le.mpr (hp p hmem)]
  change effectCollectiveWaitTimeout q i rank d = _
  simp only [effectCollectiveWaitTimeout, hk, hf]

/-- What RESHARD does to a due part, in the order of its checks. -/
theorem effect_reshard_ready {d : Dev} {q i : Nat} (h : d.partReady q i 0 opRESHARD = true) :
    effect (.reshard q i) d =
      if reshNewEpoch (d.cmdBody q i) ≠ (d.rd (F.colLayout (d.qJob q)) + 1) % 2 ^ 16 then d.endPart q i 0 St.badField
      else if d.attemptLive (d.qJob q) then d.stepFailure (d.qJob q) St.staleEpoch 0xFFFF
      else if d.col.colls.any (fun k => d.qJob k.q == d.qJob q && k.seq != seqSEND && k.epoch == d.rd (F.colLayout (d.qJob q))) then d
      else (d.wr (F.colLayout (d.qJob q)) (reshNewEpoch (d.cmdBody q i))).endPart q i 0 St.ok := by
  change effectReshard q i d = _
  unfold effectReshard
  rw [Dev.when_pos h]

/-- Settles O41: the eight collective commands by `runColl`, the bound of a wait, and the checks of RESHARD. -/
theorem collectives : Obligations.Collectives := by
  unfold Obligations.Collectives
  refine ⟨fun s q i k hk => ?_, fun s q i rank k p hk hst hp hf => completes_of_effect ?_,
    fun s q i rank k hk hp => answers_of_effect (effect_collectiveWaitTimeout_within hk hp),
    fun s q i h => ⟨fun hne => answers_of_effect ?_, fun heq hl => answers_of_effect ?_, fun heq hl hc => answers_of_effect ?_⟩⟩
  · have hrun {op : Nat} (h : s.dev.partReady q i 0 op = true) := Dev.runColl_ready hk h
    exact ⟨fun h => answers_of_effect (hrun h), fun h => answers_of_effect (hrun h), fun h => answers_of_effect (hrun h),
      fun h => answers_of_effect (hrun h), fun h => answers_of_effect (hrun h), fun h => answers_of_effect (hrun h),
      fun h => answers_of_effect (hrun h), fun h => answers_of_effect (hrun h), fun h => answers_of_effect (Dev.runColl_other h)⟩
  · rw [effect_collectiveWaitTimeout_over hk hst hp hf]
    exact ⟨rfl, Dev.eventBit_raise _ _ _ rfl (by decide)⟩
  · rw [effect_reshard_ready h, if_pos hne]
  · rw [effect_reshard_ready h, if_neg (not_not_intro heq), if_pos hl]
  · rw [effect_reshard_ready h, if_neg (not_not_intro heq), if_neg (by simp [hl]), if_neg (by simp [hc])]

end Sys2Proof.Machine
end

section
/-! UPDATE, STATS, parameter groups, near-memory windows and assisted updates (11_acrek_update.md R241 to R260). -/

namespace Sys2Proof.Machine

/-! ### UPDATE and STATS that are due -/

theorem effect_update_frozen {d : Dev} {q i : Nat} (h : d.partReady q i 0 opUPDATE = true)
    (hf : grpFrozen (d.grpCurrent (d.qJob q) (updGroup (d.cmdBody q i))) = 1) :
    effect (.update q i) d = d.frozenSkip q i (d.updStack (d.viewAt q i) (d.cmdBody q i)) (d.cmdBody q i) := by
  change effectUpdate q i d = _
  unfold effectUpdate
  rw [Dev.when_pos h]
  exact if_pos hf

theorem effect_stats_frozen {d : Dev} {q i : Nat} (h : d.partReady q i 0 opSTATS = true)
    (hf : grpFrozen (d.grpCurrent (d.qJob q) (updGroup (d.cmdBody q i))) = 1) :
    effect (.stats q i) d = d.frozenSkip q i (d.updStack (d.viewAt q i) (d.cmdBody q i)) (d.cmdBody q i) := by
  change effectStats q i d = _
  unfold effectStats
  rw [Dev.when_pos h]
  exact if_pos hf

theorem effect_update_stall {d : Dev} {q i : Nat} (h : d.partReady q i 0 opUPDATE = true)
    (hf : grpFrozen (d.grpCurrent (d.qJob q) (updGroup (d.cmdBody q i))) ≠ 1)
    (hb : d.imageBlocks (d.viewAt q i) (d.qJob q) (d.cmdBody q i) = true) : effect (.update q i) d = d.stallBegin q i := by
  change effectUpdate q i d = _
  unfold effectUpdate
  rw [Dev.when_pos h]
  dsimp only
  rw [if_neg hf, if_pos hb]

/-- An UPDATE that nothing holds runs on its unit with the norm it finds, or is rejected with it. -/
theorem effect_update_runs {d d' : Dev} {q i : Nat} {norm : List Byte} (h : d.partReady q i 0 opUPDATE = true) :
    let c := d.cmdBody q i; let v := d.viewAt q i; let j := d.qJob q; let k := d.updStack v c; let e := d.grpCurrent j (updGroup c)
    let x := d.stallEnd q i
    grpFrozen e ≠ 1 → d.imageBlocks v j c = false → x.updStart v j k e c false = none → x.assist (acrPage k 0) = false →
    x.flag (F.acrState_busy k) = false → x.windowFree k = true →
    x.stageT1 (([updGrad c, updStatsWs c].filter (· != 0)).map (fun h => (x.objOf v h).1)) none = some d' →
    d'.normRecord v j = some norm →
    effect (.update q i) d =
      if gscaleBad norm then d'.failPart q i 0 St.badField else (d'.takeUnit k).runUpdate q i k e c norm := by
  intro c v j k e x hf hb hs ha hbusy hw hstage hnorm
  change effectUpdate q i d = _
  unfold effectUpdate
  rw [Dev.when_pos h]
  simp only [c, v, j, k, e, x] at *
  simp only [hf, if_false, hb, Bool.false_eq_true, hs, ha, hbusy, hw, Bool.not_false, Bool.true_and, Dev.when_true, hstage, hnorm]

theorem effect_stats_runs {d d' : Dev} {q i : Nat} {norm : List Byte} (h : d.partReady q i 0 opSTATS = true) :
    let c := d.cmdBody q i; let v := d.viewAt q i; let j := d.qJob q; let k := d.updStack v c; let e := d.grpCurrent j (updGroup c)
    grpFrozen e ≠ 1 → d.updStart v j k e c true = none → d.assist (acrPage k 0) = false → d.flag (F.acrState_busy k) = false →
    d.windowFree k = true → d.stageT1 [(d.objOf v (updGrad c)).1] (some (d.objOf v (updStatsWs c)).1) = some d' →
    d'.normRecord v j = some norm → gscaleBad norm = false → effect (.stats q i) d = (d'.takeUnit k).runStats q i k e c norm := by
  intro c v j k e hf hs ha hbusy hw hstage hnorm hg
  change effectStats q i d = _
  unfold effectStats
  rw [Dev.when_pos h]
  simp only [c, v, j, k, e] at *
  simp only [hf, if_false, hs, ha, hbusy, hw, Bool.not_false, Bool.true_and, Dev.when_true, hstage, hnorm, hg, Bool.false_eq_true]

theorem effect_stats_rejected {d : Dev} {q i st : Nat} (h : d.partReady q i 0 opSTATS = true) :
    let c := d.cmdBody q i; let v := d.viewAt q i; let j := d.qJob q; let k := d.updStack v c; let e := d.grpCurrent j (updGroup c)
    grpFrozen e ≠ 1 → d.updStart v j k e c true = some st → effect (.stats q i) d = d.failPart q i 0 st := by
  intro c v j k e hf hs
  change effectStats q i d = _
  unfold effectStats
  rw [Dev.when_pos h]
  simp only [c, v, j, k, e] at *
  simp only [hf, if_false, hs]

/-! ### Groups and windows -/

theorem effect_groupCfg_ready {d : Dev} {q i : Nat} (h : d.partReady q i 0 opGROUP_CFG = true) :
    effect (.groupCfg q i) d =
      (d.setAcr { d.acr with
        pending := mapSet 0 d.acr.pending (d.qJob q * 4096 + grpGroup (d.cmdBody q i)) ((d.cmdBody q i).toNat / 2 ^ 128) }).partRan q i 0 0 0 0 := by
  change effectGroupCfg q i d = _
  unfold effectGroupCfg
  rw [Dev.when_pos h]

theorem Dev.partRan_acr (d : Dev) (q i p status info work : Nat) : (d.partRan q i p status info work).acr = d.acr :=
  (Dev.partRan_chg ..).rest .acr (by decide)

theorem effect_acrWindowRelease_held {d : Dev} {k t : Nat} (h : mapLook d.acr.window k = some t) :
    effect (.acrWindowRelease k) d =
      d.when (decide (t + d.rd (F.acrWindowCfg_hold k) * usQ ≤ d.now)) fun d =>
        d.setAcr { d.acr with window := mapDel d.acr.window k, gap := mapPut d.acr.gap k (d.now + d.rd (F.acrWindowCfg_gap k) * 400) } := by
  change effectAcrWindowRelease k d = _
  simp only [effectAcrWindowRelease, h]

/-! ### The doorbell of an assisted update -/

/-- The unit's open record is closed: the aliases' lines are written back and dropped, and the record's number is free. -/
def Dev.acrAssistClosed (d : Dev) (k h : Nat) (a : AcrAssist) : Dev :=
  let e := a.aliases.foldl (fun d x => (d.dropAlias x.1).dropAlias x.2.1) ((d.flushAll (a.aliases.map (fun x => x.2.1))).getD d)
  ((e.setAcr { e.acr with assist := mapDel e.acr.assist k }).setFlag (hAssistWait (acrPage k 0)) false).sixRelease h St.ok

theorem Dev.acrAssistClosed_spec (d : Dev) (k h : Nat) (a : AcrAssist) :
    (d.acrAssistClosed k h a).acr = { d.acr with assist := mapDel d.acr.assist k } ∧ (d.acrAssistClosed k h a).kqp = d.kqp := by
  unfold Dev.acrAssistClosed
  dsimp only
  generalize he : List.foldl _ _ a.aliases = e
  have hchg : Dev.changesOnly [.regs, .t0, .t1, .tir, .mkt] d e := by
    rw [← he]
    refine chg_foldl (fun x y hx => Dev.dropAlias_keep (by decide) (Dev.dropAlias_keep (by decide) hx)) _ (chg_getD (fun f hf => ?_) (chg_refl _ d))
    exact Dev.flushAll_keep hf (by decide) (chg_refl _ d)
  have hacr : e.acr = d.acr := hchg.rest .acr (by decide)
  have hkqp : e.kqp = d.kqp := hchg.rest .kqp (by decide)
  constructor
  · rw [(Dev.sixRelease_chg ..).rest .acr (by decide), Dev.setFlag_acr, Dev.setAcr_acr, hacr]
  · rw [(Dev.sixRelease_chg ..).rest .kqp (by decide), Dev.setFlag_kqp, Dev.setAcr_kqp, hkqp]

theorem effect_acrAssistDoorbell_none {d : Dev} {f k h : Nat} (hn : ∀ a, mapLook d.acr.assist k = some a → a.handle ≠ h) :
    effect (.acrAssistDoorbell f k h) d = d.badDoorbell f (acrPage k 0) := by
  change effectAcrAssistDoorbell f k h d = _
  unfold effectAcrAssistDoorbell
  split
  · rfl
  · next a ha => exact if_pos (hn a ha)

/-- The doorbell closes the record; the host's norms are then taken, and a part that is still due has run. -/
theorem effect_acrAssistDoorbell_open {d : Dev} {f k : Nat} {a : AcrAssist} (ha : mapLook d.acr.assist k = some a) :
    ∃ (x y : Dev) (z : AcrState) (w : Nat), (x = d.acrAssistClosed k a.handle a) ∧ (y.kqp = x.kqp ∧ y.acr = x.acr) ∧ z.assist = y.acr.assist ∧
      effect (.acrAssistDoorbell f k a.handle) d =
        if x.partReady a.q a.i 0 opUPDATE = true then (y.setAcr z).partRan a.q a.i 0 0 0 w else x := by
  change ∃ x y z w, _ ∧ _ ∧ _ ∧ effectAcrAssistDoorbell f k a.handle d = _
  unfold effectAcrAssistDoorbell
  simp only [ha, ne_eq, not_true_eq_false, if_false]
  refine ⟨_, _, _, _, rfl, ⟨(Dev.joinWrites_chg ..).rest .kqp (by decide), (Dev.joinWrites_chg ..).rest .acr (by decide)⟩, ?_, rfl⟩
  rfl

/-- Settles O42: UPDATE and STATS by what they find, groups, windows, and the doorbell of an assisted update. -/
theorem updatesGroupsAndWindows : Obligations.UpdatesGroupsAndWindows := by
  unfold Obligations.UpdatesGroupsAndWindows
  refine ⟨fun s q i => ⟨fun hf => ⟨fun h => answers_of_effect (effect_update_frozen h hf), fun h => answers_of_effect (effect_stats_frozen h hf)⟩,
    fun hf h hb => answers_of_effect (effect_update_stall h hf hb), fun d norm hf h hb hs ha hbusy hw hstage hnorm => ?_,
    fun d norm hf h hs ha hbusy hw hstage hnorm hg => answers_of_effect (effect_stats_runs h hf hs ha hbusy hw hstage hnorm hg),
    fun st hf h hs => answers_of_effect (effect_stats_rejected h hf hs)⟩,
    fun s q i h => completes_of_effect ?_, fun s k t ht => ⟨fun hover => completes_of_effect ?_, fun hearly => answers_of_effect ?_⟩,
    fun s f k h hn => completes_of_effect ?_, fun s f k h a ha hh => completes_of_effect ?_⟩
  · have hrun := effect_update_runs h hf hb hs ha hbusy hw hstage hnorm
    exact ⟨fun hg => answers_of_effect (hrun.trans (if_neg (by simp [hg]))), fun hg => answers_of_effect (hrun.trans (if_pos hg))⟩
  · rw [effect_groupCfg_ready h]
    refine ⟨?_, Dev.hasRun_partRan (by rw [Dev.partReady_of_kqp (Dev.setAcr_kqp ..)]; exact h) _ _ (.inl rfl), ?_,
      Dev.partRan_keep (by decide) (Dev.setAcr_keep (by decide) (chg_refl _ _))⟩
    · rw [Dev.partRan_acr, Dev.setAcr_acr]
      simp [mapGet_mapSet]
    · rw [Dev.partRan_acr, Dev.setAcr_acr]
  · rw [effect_acrWindowRelease_held ht, Dev.when_pos (decide_eq_true hover)]
    exact ⟨by simp, by simp [mapGet], Dev.setAcr_keep (by decide) (chg_refl _ _)⟩
  · rw [effect_acrWindowRelease_held ht, Dev.when_neg (decide_eq_false (by omega))]
  · rw [effect_acrAssistDoorbell_none hn]
    exact Dev.recorded_badAccess ..
  · subst hh
    obtain ⟨x, y, z, w, hx, ⟨hkqp, hacr⟩, hz, he⟩ := effect_acrAssistDoorbell_open (f := f) ha
    obtain ⟨hxa, hxk⟩ := s.dev.acrAssistClosed_spec k a.handle a
    rw [← hx] at hxa hxk
    have hassist : (effect (.acrAssistDoorbell f k a.handle) s.dev).acr.assist = mapDel s.dev.acr.assist k := by
      rw [he]
      split
      · rw [Dev.partRan_acr, Dev.setAcr_acr, hz, hacr, hxa]
      · rw [hxa]
    rw [hassist]
    refine ⟨by simp, fun k' hk' => mapLook_mapDel_ne _ hk', fun h => ?_⟩
    have hready : x.partReady a.q a.i 0 opUPDATE = true := by rwa [Dev.partReady_of_kqp hxk]
    rw [he, if_pos hready]
    exact Dev.hasRun_partRan (op := opUPDATE) (by rwa [Dev.partReady_of_kqp (Dev.setAcr_kqp ..), Dev.partReady_of_kqp hkqp]) _ _ (.inl rfl)

end Sys2Proof.Machine
end

section
/-! Objects and their units: what is read after a unit, or the object's record, is written. -/

namespace Sys2Proof.Machine

@[simp] theorem Dev.obj?_setObj_self (d : Dev) (k : Nat) (o : Obj) : (d.setObj k o).obj? k = some o := by
  simp [Dev.obj?, Dev.setObj]

theorem Dev.obj?_of_tir {d e : Dev} (h : e.tir = d.tir) (k : Nat) : e.obj? k = d.obj? k := by rw [Dev.obj?, Dev.obj?, h]

theorem Dev.unitOf_of_tir {d e : Dev} (h : e.tir = d.tir) (k u : Nat) : e.unitOf k u = d.unitOf k u := by
  rw [Dev.unitOf, Dev.unitOf, Dev.obj?_of_tir h]

theorem Dev.unitOf_of_obj {d : Dev} {k : Nat} {o : Obj} (h : d.obj? k = some o) (u : Nat) : d.unitOf k u = o.unit u := by
  rw [Dev.unitOf, h]
  rfl

@[simp] theorem Dev.unitOf_setObj_self (d : Dev) (k u : Nat) (o : Obj) : (d.setObj k o).unitOf k u = o.unit u :=
  Dev.unitOf_of_obj (d.obj?_setObj_self k o) u

theorem Obj.unit_setUnit (o : Obj) (u v : Nat) (x : TUnit) : (o.setUnit u x).unit v = if v = u then x else o.unit v :=
  mapGet_mapSet o.fresh o.units u v x

theorem Dev.setUnit_of_obj {d : Dev} {k : Nat} {o : Obj} (h : d.obj? k = some o) (u : Nat) (x : TUnit) :
    d.setUnit k u x = d.setObj k (o.setUnit u x) := by
  simp only [Dev.setUnit, h]

theorem Dev.obj?_setUnit {d : Dev} {k : Nat} {o : Obj} (h : d.obj? k = some o) (u : Nat) (x : TUnit) :
    (d.setUnit k u x).obj? k = some (o.setUnit u x) := by
  rw [Dev.setUnit_of_obj h, Dev.obj?_setObj_self]

theorem Dev.unitOf_setUnit {d : Dev} {k : Nat} {o : Obj} (h : d.obj? k = some o) (u v : Nat) (x : TUnit) :
    (d.setUnit k u x).unitOf k v = if v = u then x else o.unit v := by
  rw [Dev.setUnit_of_obj h, Dev.unitOf_setObj_self, Obj.unit_setUnit]

theorem Dev.resolve_obj {d : Dev} {v h k : Nat} {o : Obj} (hr : d.resolve v h = some (k, o)) : d.obj? k = some o := by
  unfold Dev.resolve at hr
  split at hr
  · cases hr
  · next k' _ =>
    split at hr
    · next o' ho =>
      split at hr
      · simp only [Option.some.injEq, Prod.mk.injEq] at hr
        rw [← hr.1, ← hr.2]
        exact ho
      · cases hr
    · cases hr

end Sys2Proof.Machine
end

section
/-! MOVE, PREFETCH, EVICT, PIN and UNPIN (10_tiers_and_street_index.md R229 to R231). -/

namespace Sys2Proof.Machine

theorem Dev.runTier_absent {d : Dev} {q i op : Nat} (act : Dev → Cmd → Nat → Obj → Dev) (h : d.partReady q i 0 op = true)
    (hr : d.resolve (d.viewAt q i) (tierObject (d.cmdBody q i)) = none) : d.runTier q i op act = d.failPart q i 0 St.objectAbsent := by
  unfold Dev.runTier
  rw [Dev.when_pos h]
  simp only [hr]

theorem Dev.runTier_found {d : Dev} {q i op k : Nat} {o : Obj} (act : Dev → Cmd → Nat → Obj → Dev) (h : d.partReady q i 0 op = true)
    (hr : d.resolve (d.viewAt q i) (tierObject (d.cmdBody q i)) = some (k, o)) : d.runTier q i op act = act d (d.cmdBody q i) k o := by
  unfold Dev.runTier
  rw [Dev.when_pos h]
  simp only [hr]

theorem Dev.hasRun_tierDone {d : Dev} {q i op : Nat} (h : d.partReady q i 0 op = true) : (d.tierDone q i 0).hasRun ⟨q, i, 0⟩ :=
  Dev.hasRun_partRan h _ _ (.inl rfl)

theorem Dev.tierDone_tir (d : Dev) (q i status : Nat) : (d.tierDone q i status).tir = d.tir :=
  (Dev.tierDone_chg ..).rest .tir (by decide)

/-! ### PREFETCH -/

theorem effect_prefetch_issued {d : Dev} {q i k : Nat} {o : Obj} (h : d.partReady q i 0 opPREFETCH = true)
    (hr : d.resolve (d.viewAt q i) (tierObject (d.cmdBody q i)) = some (k, o))
    (hall : (tierUnits o (d.cmdBody q i)).all (fun u => d.issued k u (tierTier (d.cmdBody q i))) = true) :
    effect (.prefetch q i) d = d.tierDone q i 0 := by
  have hnone : (tierUnits o (d.cmdBody q i)).filter (fun u => !d.issued k u (tierTier (d.cmdBody q i))) = [] := by
    simpa [List.filter_eq_nil_iff] using hall
  change effectPrefetch q i d = _
  unfold effectPrefetch
  rw [Dev.runTier_found _ h hr]
  simp only [hnone, Dev.tierAskAll, List.all_nil, if_true]

/-! ### EVICT -/

theorem Dev.evictUnit_absent {d : Dev} {k u : Nat} (q i : Nat) (h : (d.unitOf k u).t0 ≠ tsRESIDENT) : d.evictUnit q i k u 0 = d := by
  simp [Dev.evictUnit, h]

theorem Dev.unitOf_trimT1 (d : Dev) (k u : Nat) : (d.trimT1 k).unitOf k u = d.unitOf k u := by
  unfold Dev.trimT1
  split
  · rfl
  · next o ho =>
    split
    · rw [Dev.unitOf_setObj_self, Dev.unitOf_of_obj ho]
      rfl
    · rfl

theorem Dev.obj?_freeRegion (d : Dev) (r k : Nat) : (d.freeRegion r).obj? k = d.obj? k :=
  Dev.obj?_of_tir ((Dev.freeRegion_chg d r).rest .tir (by decide)) k

theorem Dev.obj?_freeRegions (d : Dev) (l : List OldCopy) (k : Nat) :
    (l.foldl (fun d c => d.freeRegion c.rgn0) d).obj? k = d.obj? k :=
  Dev.obj?_of_tir ((chg_foldl (fun _ c hx => Dev.freeRegion_keep (by decide) hx) l (chg_refl [.regs, .t0, .mkt] d)).rest .tir (by decide)) k

/-- The T0 copy that is given up, its references ended and its bytes clean. -/
theorem Dev.release0_unit {d : Dev} {k u : Nat} {o : Obj} (h : d.obj? k = some o) :
    ∃ o', (d.release0 k u).obj? k = some o' ∧ (o'.unit u).t0 = tsABSENT ∧ (o'.unit u).move = (o.unit u).move := by
  refine ⟨o.setUnit u { o.unit u with t0 := tsABSENT, base0 := 0, rgn0 := 0, dirty0 := false, ref0 := 0 }, ?_, ?_, ?_⟩
  · unfold Dev.release0
    rw [Dev.unitOf_of_obj h]
    dsimp only
    split
    · exact Dev.obj?_setUnit h _ _
    · exact Dev.obj?_setUnit ((Dev.obj?_freeRegion ..).trans h) _ _
  · simp [Obj.unit_setUnit]
  · simp [Obj.unit_setUnit]

/-- The T1 copy that is given up, in `releaseLeft`. -/
def Dev.releaseT1 (d : Dev) (k u : Nat) (busy : Bool) : Dev :=
  if (d.unitOf k u).t1 = tsLEAVING ∧ !busy then (d.setUnit k u { d.unitOf k u with t1 := tsABSENT }).trimT1 k else d

/-- The older copies that nothing refers to, in `releaseLeft`. -/
def Dev.releaseOld (d : Dev) (k u : Nat) : Dev :=
  match d.obj? k with
  | none => d
  | some o =>
    let gone := o.old.filter (fun c => c.unit == u && c.refs == 0)
    let d := gone.foldl (fun d c => d.freeRegion c.rgn0) d
    if gone = [] then d
    else d.setObj k { ((d.obj? k).getD o) with old := o.old.filter (fun c => !(c.unit == u && c.refs == 0)) }

theorem Dev.releaseLeft_eq (d : Dev) (k u : Nat) :
    d.releaseLeft k u =
      ((if (d.unitOf k u).t0 = tsLEAVING ∧ !(d.unitOf k u).dirty0 ∧ (d.unitOf k u).ref0 = 0 ∧ !d.tir.writeBacks.contains (k, u, 0) then
        d.release0 k u else d).releaseT1 k u (d.tir.writeBacks.contains (k, u, 1))).releaseOld k u := rfl

theorem Dev.unitOf_releaseOld (d : Dev) (k u : Nat) : (d.releaseOld k u).unitOf k u = d.unitOf k u := by
  unfold Dev.releaseOld
  split
  · rfl
  · next o ho =>
    have hobj := (d.obj?_freeRegions (o.old.filter fun c => c.unit == u && c.refs == 0) k).trans ho
    dsimp only
    split
    · rw [Dev.unitOf_of_obj hobj, Dev.unitOf_of_obj ho]
    · rw [Dev.unitOf_setObj_self, hobj, Dev.unitOf_of_obj ho]
      rfl

theorem Dev.releaseT1_unit (d : Dev) {k u : Nat} (busy : Bool) {o : Obj} (h : d.obj? k = some o) :
    ((d.releaseT1 k u busy).unitOf k u).t0 = (o.unit u).t0 ∧ ((d.releaseT1 k u busy).unitOf k u).move = (o.unit u).move := by
  unfold Dev.releaseT1
  split
  · rw [Dev.unitOf_trimT1, Dev.unitOf_setUnit h, if_pos rfl, Dev.unitOf_of_obj h]
    exact ⟨rfl, rfl⟩
  · rw [Dev.unitOf_of_obj h]
    exact ⟨rfl, rfl⟩

theorem Dev.releaseLeft_unit {d : Dev} {k u : Nat} {o : Obj} (h : d.obj? k = some o) (ht : (o.unit u).t0 = tsLEAVING)
    (hd : (o.unit u).dirty0 = false) (hr : (o.unit u).ref0 = 0) (hb : d.tir.writeBacks.contains (k, u, 0) = false) :
    ((d.releaseLeft k u).unitOf k u).t0 = tsABSENT ∧ ((d.releaseLeft k u).unitOf k u).move = (o.unit u).move := by
  obtain ⟨o1, ho1, ht1, hm1⟩ := Dev.release0_unit (u := u) h
  rw [Dev.releaseLeft_eq, Dev.unitOf_releaseOld, Dev.unitOf_of_obj h,
    if_pos ⟨ht, by rw [hd]; rfl, hr, by rw [hb]; rfl⟩]
  obtain ⟨ht2, hm2⟩ := Dev.releaseT1_unit (d.release0 k u) (d.tir.writeBacks.contains (k, u, 1)) ho1
  exact ⟨ht2.trans ht1, hm2.trans hm1⟩

/-- A clean, unreferenced unit in T0 leaves it at once. -/
theorem Dev.evictUnit_clean {d : Dev} {k u : Nat} {o : Obj} (q i : Nat) (h : d.obj? k = some o) (ht : (o.unit u).t0 = tsRESIDENT)
    (hr : (o.unit u).ref0 = 0) (hd : (o.unit u).dirty0 = false) (hb : d.tir.writeBacks.contains (k, u, 0) = false) :
    d.evictUnit q i k u 0 = (d.setUnit k u { o.unit u with t0 := tsLEAVING }).releaseLeft k u ∧
      ((d.evictUnit q i k u 0).unitOf k u).t0 = tsABSENT := by
  have hobj := Dev.obj?_setUnit h u { o.unit u with t0 := tsLEAVING }
  have hunit : (o.setUnit u { o.unit u with t0 := tsLEAVING }).unit u = { o.unit u with t0 := tsLEAVING } := by simp [Obj.unit_setUnit]
  have hwb : (d.setUnit k u { o.unit u with t0 := tsLEAVING }).tir.writeBacks.contains (k, u, 0) = false := by
    rw [Dev.setUnit_of_obj h]
    exact hb
  obtain ⟨habs, hmove⟩ := Dev.releaseLeft_unit hobj (by rw [hunit]) (by rw [hunit]; exact hd) (by rw [hunit]; exact hr) hwb
  rw [hunit] at hmove
  have he : d.evictUnit q i k u 0 = (d.setUnit k u { o.unit u with t0 := tsLEAVING }).releaseLeft k u := by
    unfold Dev.evictUnit
    rw [Dev.unitOf_of_obj h]
    dsimp only
    rw [if_pos rfl, if_pos (And.intro ht hr), if_neg (show ¬(o.unit u).dirty0 = true by simp [hd])]
    exact if_neg fun hc => hc.2 (hmove.trans hc.1)
  exact ⟨he, he ▸ habs⟩

theorem effect_evict_found {d : Dev} {q i k : Nat} {o : Obj} (h : d.partReady q i 0 opEVICT = true)
    (hr : d.resolve (d.viewAt q i) (tierObject (d.cmdBody q i)) = some (k, o)) (ht : tierTier (d.cmdBody q i) = 0) :
    let us := tierUnits o (d.cmdBody q i); let e := us.foldl (fun d u => d.evictUnit q i k u 0) d
    effect (.evict q i) d =
      if us.any (fun u => (o.unit u).t0 == tsPINNED) = true then d.failPart q i 0 St.badField
      else (if us.all (fun u => (e.unitOf k u).t0 == tsABSENT || (e.unitOf k u).t0 == tsPOISONED) = true then e.tierDone q i 0
        else e).serveWaits := by
  change effectEvict q i d = _
  unfold effectEvict
  rw [Dev.runTier_found _ h hr]
  simp only [ht, true_and, if_true]

/-! ### PIN and UNPIN -/

/-- The object of a PIN: its unit is PINNED, and ATTR too unless it says SHARED_RO. -/
def Obj.pinned (o : Obj) : Obj :=
  { o.setUnit 0 { o.unit 0 with t0 := tsPINNED } with attr := if o.attr = 1 then 1 else 2 }

theorem Obj.unit_pinned (o : Obj) : (o.pinned.unit 0).t0 = tsPINNED :=
  congrArg TUnit.t0 ((Obj.unit_setUnit o 0 0 { o.unit 0 with t0 := tsPINNED }).trans (if_pos rfl))

theorem effect_pin_there {d : Dev} {q i k : Nat} {o : Obj} (h : d.partReady q i 0 opPIN = true)
    (hr : d.resolve (d.viewAt q i) (tierObject (d.cmdBody q i)) = some (k, o)) (hv : (o.unit 0).valid0 = true) :
    effect (.pin q i) d =
      (((d.setUnit k 0 { o.unit 0 with t0 := tsPINNED }).setRegionAttr (o.unit 0).rgn0 2).setObj k o.pinned).tierDone q i 0 := by
  have hobj : ((d.setUnit k 0 { o.unit 0 with t0 := tsPINNED }).setRegionAttr (o.unit 0).rgn0 2).obj? k =
      some (o.setUnit 0 { o.unit 0 with t0 := tsPINNED }) :=
    (Dev.obj?_of_tir ((Dev.setRegionAttr_chg ..).rest .tir (by decide)) k).trans (Dev.obj?_setUnit (Dev.resolve_obj hr) _ _)
  change effectPin q i d = _
  unfold effectPin
  rw [Dev.runTier_found _ h hr]
  simp only [hv, if_true, hobj]
  rfl

/-- One unit of an UNPIN: a PINNED copy is RESIDENT, and its region takes an ATTR that is not PINNED. -/
def Dev.unpinUnit (d : Dev) (k attr u : Nat) : Dev :=
  if (d.unitOf k u).t0 = tsPINNED then
    (d.setUnit k u { d.unitOf k u with t0 := tsRESIDENT }).setRegionAttr (d.unitOf k u).rgn0 attr
  else d

theorem Dev.unpinUnit_unit {d : Dev} {k u : Nat} {o : Obj} (attr : Nat) (h : d.obj? k = some o) :
    ∃ o', (d.unpinUnit k attr u).obj? k = some o' ∧
      ∀ v, (o'.unit v).t0 = if v = u ∧ (o.unit v).t0 = tsPINNED then tsRESIDENT else (o.unit v).t0 := by
  unfold Dev.unpinUnit
  rw [Dev.unitOf_of_obj h]
  split
  · next hp =>
    refine ⟨_, (Dev.obj?_of_tir ((Dev.setRegionAttr_chg ..).rest .tir (by decide)) k).trans (Dev.obj?_setUnit h _ _), fun v => ?_⟩
    rw [Obj.unit_setUnit]
    by_cases hv : v = u
    · simp [hv, hp]
    · simp [hv]
  · next hp =>
    refine ⟨o, h, fun v => ?_⟩
    by_cases hv : v = u
    · simp [hv, hp]
    · simp [hv]

theorem Dev.unpinUnits_unit {d : Dev} {k : Nat} {o : Obj} (attr n : Nat) (h : d.obj? k = some o) :
    ∃ o', ((List.range n).foldl (fun d u => d.unpinUnit k attr u) d).obj? k = some o' ∧
      ∀ v, (o'.unit v).t0 = if v < n ∧ (o.unit v).t0 = tsPINNED then tsRESIDENT else (o.unit v).t0 := by
  induction n with
  | zero => exact ⟨o, h, fun v => by simp⟩
  | succ n ih =>
    obtain ⟨o1, h1, hu1⟩ := ih
    obtain ⟨o2, h2, hu2⟩ := Dev.unpinUnit_unit (u := n) attr h1
    rw [List.range_succ, List.foldl_append]
    refine ⟨o2, h2, fun v => ?_⟩
    rw [hu2, hu1]
    by_cases hp : (o.unit v).t0 = tsPINNED
    · by_cases hv : v < n
      · simp [hv, hp, Nat.lt_succ_of_lt hv, tsPINNED, tsRESIDENT]
      · by_cases hvn : v = n
        · simp [hvn]
        · simp [hv, hvn, hp, show ¬v < n + 1 by omega]
    · simp [hp]

theorem Dev.unpinUnits_chg (d : Dev) (k attr n : Nat) :
    Dev.changesOnly [.tir, .mkt] d ((List.range n).foldl (fun d u => d.unpinUnit k attr u) d) := by
  refine chg_foldl (fun x u hx => ?_) _ (chg_refl _ d)
  unfold Dev.unpinUnit
  exact chg_ite (Dev.setRegionAttr_keep (by decide) (Dev.setUnit_keep (by decide) hx)) hx

theorem effect_unpin_found {d : Dev} {q i k : Nat} {o : Obj} (h : d.partReady q i 0 opUNPIN = true)
    (hr : d.resolve (d.viewAt q i) (tierObject (d.cmdBody q i)) = some (k, o)) :
    ∃ o', (∀ u, u < o.unitCount → (o'.unit u).t0 = if (o.unit u).t0 = tsPINNED then tsRESIDENT else (o.unit u).t0) ∧
      effect (.unpin q i) d =
        (((List.range o.unitCount).foldl (fun d u => d.unpinUnit k (if o.attr = 2 then 0 else o.rgnAttr) u) d).setObj k o').tierDone q i 0 := by
  obtain ⟨o1, h1, hu1⟩ := Dev.unpinUnits_unit (if o.attr = 2 then 0 else o.rgnAttr) o.unitCount (Dev.resolve_obj hr)
  simp only [Dev.unpinUnit] at h1 ⊢
  refine ⟨{ o1 with attr := if o1.attr = 2 then 0 else o1.attr }, fun u hu => (hu1 u).trans (by simp [hu]), ?_⟩
  change effectUnpin q i d = _
  unfold effectUnpin
  rw [Dev.runTier_found _ h hr]
  simp only [h1]

/-! ### MOVE -/

theorem effect_move_found {d : Dev} {q i k : Nat} {o : Obj} (h : d.partReady q i 0 opMOVE = true)
    (hr : d.resolve (d.viewAt q i) (tierObject (d.cmdBody q i)) = some (k, o)) :
    effect (.move q i) d =
      if o.prot ∧ tierTier (d.cmdBody q i) = 2 then (d.failPart q i 0 St.protectedAccess).protRefused
      else
        match d.tierAskAll q i k (tierTier (d.cmdBody q i)) (tierUnits o (d.cmdBody q i)) with
        | (_, some st, d) => d.failPart q i 0 st
        | (false, none, d) => d
        | (true, none, e) =>
          (if tierDropSrc (d.cmdBody q i) = 1 then e.dropAbove k (tierTier (d.cmdBody q i)) (tierUnits o (d.cmdBody q i)) else e).tierDone q i 0 := by
  change effectMove q i d = _
  unfold effectMove
  rw [Dev.runTier_found _ h hr] <;> rfl

theorem foldl_evict_absent {d : Dev} {q i k : Nat} (us : List Nat) (h : ∀ u ∈ us, (d.unitOf k u).t0 ≠ tsRESIDENT) :
    us.foldl (fun d u => d.evictUnit q i k u 0) d = d := by
  induction us with
  | nil => rfl
  | cons u us ih =>
    rw [List.foldl_cons, Dev.evictUnit_absent q i (h u List.mem_cons_self)]
    exact ih fun v hv => h v (List.mem_cons_of_mem _ hv)

theorem answers_tier_absent {s : State} {c : Instr} {q i op : Nat} {act : Dev → Cmd → Nat → Obj → Dev}
    (he : effect c s.dev = s.dev.runTier q i op act) (h : s.dev.partReady q i 0 op = true)
    (hr : s.dev.resolve (s.dev.viewAt q i) (tierObject (s.dev.cmdBody q i)) = none) :
    Answers c s (s.dev.failPart q i 0 St.objectAbsent) :=
  answers_of_effect (he.trans (Dev.runTier_absent act h hr))

/-- Settles O40, command by command. -/
theorem tierCommands : Obligations.TierCommands := by
  unfold Obligations.TierCommands
  refine ⟨fun s q i hr => ⟨fun h => answers_tier_absent (Eq.refl (effectMove q i s.dev)) h hr,
    fun h => answers_tier_absent (Eq.refl (effectPrefetch q i s.dev)) h hr, fun h => answers_tier_absent (Eq.refl (effectEvict q i s.dev)) h hr,
    fun h => answers_tier_absent (Eq.refl (effectPin q i s.dev)) h hr, fun h => answers_tier_absent (Eq.refl (effectUnpin q i s.dev)) h hr⟩,
    fun s q i k o hr => ?_⟩
  have hobj := Dev.resolve_obj hr
  refine ⟨fun h hp => ⟨fun d hd => answers_of_effect ?_, fun d hd => answers_of_effect ?_, fun d b st hd => answers_of_effect ?_⟩,
    fun h hp ht => answers_of_effect ?_, fun h hall => completes_of_effect ?_, fun h ht hpin => answers_of_effect ?_,
    fun h ht hgone => answers_of_effect ?_, fun u h ht hu hres href hdirty hwb => answers_of_effect ?_,
    fun h hv => completes_of_effect ?_, fun h => completes_of_effect ?_⟩
  · rw [effect_move_found h hr, if_neg hp]
    simp only [hd]
  · rw [effect_move_found h hr, if_neg hp]
    simp only [hd]
  · rw [effect_move_found h hr, if_neg hp]
    simp only [hd]
  · rw [effect_move_found h hr, if_pos ⟨hp, ht⟩]
  · rw [effect_prefetch_issued h hr hall]
    exact ⟨Dev.hasRun_tierDone h, Dev.tierDone_chg ..⟩
  · rw [effect_evict_found h hr ht, if_pos hpin]
  · have hstay (u : Nat) (hu : u ∈ tierUnits o (s.dev.cmdBody q i)) : (o.unit u).t0 ≠ tsRESIDENT ∧ (o.unit u).t0 ≠ tsPINNED := by
      obtain h0 | h0 := hgone u hu <;> rw [h0] <;> decide
    rw [effect_evict_found h hr ht, if_neg (by simpa using fun u hu => (hstay u hu).2),
      foldl_evict_absent _ fun u hu => by rw [Dev.unitOf_of_obj hobj]; exact (hstay u hu).1, if_pos]
    simpa [Dev.unitOf_of_obj hobj] using hgone
  · obtain ⟨he, habs⟩ := Dev.evictUnit_clean q i hobj hres href hdirty hwb
    rw [effect_evict_found h hr ht]
    simp only [hu, List.any_cons, List.any_nil, Bool.or_false, List.foldl_cons, List.foldl_nil, List.all_cons, List.all_nil, habs, hres]
    rw [if_neg (by decide), if_pos (by decide), he]
  · rw [effect_pin_there h hr hv]
    refine ⟨?_, Dev.hasRun_tierDone (op := opPIN) ?_, ?_⟩
    · rw [Dev.unitOf_of_tir (Dev.tierDone_tir ..), Dev.unitOf_setObj_self]
      exact o.unit_pinned
    · rw [← h]
      refine Dev.partReady_of_kqp (Dev.changesOnly.rest (tables := [.tir, .mkt]) ?_ .kqp (by decide)) _ _ _ _
      exact Dev.setObj_keep (by decide) (Dev.setRegionAttr_keep (by decide) (Dev.setUnit_keep (by decide) (chg_refl _ _)))
    · exact Dev.tierDone_keep (by decide) (Dev.setObj_keep (by decide) (Dev.setRegionAttr_keep (by decide)
        (Dev.setUnit_keep (by decide) (chg_refl _ _))))
  · obtain ⟨o', hunits, he⟩ := effect_unpin_found h hr
    have hchg := s.dev.unpinUnits_chg k (if o.attr = 2 then 0 else o.rgnAttr) o.unitCount
    rw [he]
    refine ⟨Dev.hasRun_tierDone (op := opUNPIN) ?_, ?_, fun u hu => ?_⟩
    · rw [← h]
      exact Dev.partReady_of_kqp ((Dev.setObj_keep (by decide) hchg).rest .kqp (by decide)) _ _ _ _
    · exact Dev.tierDone_keep (by decide) (Dev.setObj_keep (by decide) (chg_step hchg (by decide) (chg_refl _ _)))
    · rw [Dev.unitOf_of_tir (Dev.tierDone_tir ..), Dev.unitOf_setObj_self]
      exact hunits u hu

end Sys2Proof.Machine
end

section
/-! REFILL_DONE frees a poisoned T0 copy's region, whose bytes are then erased (10_tiers_and_street_index.md R219, R233). -/

namespace Sys2Proof.Machine

/-- A scratch object of one line that is being refilled; its T0 copy is POISONED and still holds region 1. -/
def refilledObj : Obj :=
  { gen := 0, sizeL := 1, kind := kSCRATCH, attr := 0, owner := 0,
    units := [(0, { t0 := tsPOISONED, t1 := tsARRIVING, refill := true, base0 := 1048576, rgn0 := 1 })] }

/-- The PF asks REFILL_DONE of that object, which is object 1 of partition 0; one byte of its region is 1. -/
def refilledDev : Dev :=
  { ((Dev.reset.wr (mbx 0 0x80 0 4) 4).wr (mbx 0 0x84 0 32) 1).setObj 1 refilledObj with
    mkt := { regions := [(1, { base := 16, count := 1, attr := 0, owner := 0 })] }, t0 := [(1048576, 1)] }

theorem refilledDev_asks : refilledDev.asksOf 0 4 0 1 refilledObj := by
  unfold Dev.asksOf Dev.asks
  decide +kernel

theorem refilledObj_refilling :
    (List.range refilledObj.unitCount).all (fun u => (refilledObj.unit u).t1 == tsARRIVING && (refilledObj.unit u).refill) = true := by
  decide +kernel

theorem effect_refillDone_refilledDev : (effect (.refillDone 0) refilledDev).t0 = [] := by decide +kernel

/-- Refutes O38: REFILL_DONE of an object whose T0 copy is POISONED frees the copy's region, so T0 does not stay as it was. -/
theorem not_objectMailboxAndReload : ¬Obligations.ObjectMailboxAndReload := by
  unfold Obligations.ObjectMailboxAndReload
  rintro ⟨-, -, hdone, -⟩
  obtain ⟨-, -, ht0, -⟩ := (hdone { dev := refilledDev, pending := [] } 0 0 1 refilledObj refilledDev_asks).2 refilledObj_refilling
  rw [effect_refillDone_refilledDev] at ht0
  exact absurd ht0 (by decide)

end Sys2Proof.Machine
end

section
/-! References, moves between tiers, assistance, scrubbing and row repair (10_tiers_and_street_index.md R213, R226 to R239). -/

namespace Sys2Proof.Machine

/-! ### References -/

theorem effect_objectReference_part {d : Dev} {q i p h u err line : Nat} {w : Bool} {m : CmdEx} (hm : d.cmdAt q i = some m)
    (hp : (m.parts[p]?).any (fun x => !x.ended && !x.ran) = true) (hr : d.resolve (d.viewAt q i) h = none) :
    effect (.objectReference q i p h u w err line) d = d.failPart q i p St.objectAbsent := by
  change effectObjectReference q i p h u w err line d = _
  simp only [effectObjectReference, hm]
  rw [Dev.when_pos hp]
  simp only [hr]

theorem effect_objectReference_refused {d : Dev} {q i p h u k err line : Nat} {m : CmdEx} {o : Obj} (hm : d.cmdAt q i = some m)
    (hp : (m.parts[p]?).any (fun x => !x.ended && !x.ran) = true) (hr : d.resolve (d.viewAt q i) h = some (k, o)) (hu : u < o.unitCount)
    (hw : o.writeRefused (d.viewAt q i) = true) :
    effect (.objectReference q i p h u true err line) d = d.isolate ⟨q, i, p⟩ St.protectedAccess := by
  change effectObjectReference q i p h u true err line d = _
  simp only [effectObjectReference, hm]
  rw [Dev.when_pos hp]
  simp only [hr]
  rw [Dev.when_pos (decide_eq_true hu), if_pos ⟨trivial, hw⟩]

/-- A write that isolation allows goes on with what bringing the unit into T0 finds. -/
theorem effect_objectReference_write {d : Dev} {q i p h u k : Nat} {m : CmdEx} {o : Obj} (hm : d.cmdAt q i = some m)
    (hp : (m.parts[p]?).any (fun x => !x.ended && !x.ran) = true) (hr : d.resolve (d.viewAt q i) h = some (k, o)) (hu : u < o.unitCount)
    (hw : o.writeRefused (d.viewAt q i) = false) :
    effect (.objectReference q i p h u true 0 0) d =
      match d.bring0 k u true m.handle with
      | (.here, d) => (d.takeRef q i p k u).lookAhead k u
      | (.coming, d) => (d.waitRef q i p k u).lookAhead k u
      | (.fail st, d) => d.failPart q i p st := by
  change effectObjectReference q i p h u true 0 0 d = _
  simp only [effectObjectReference, hm]
  rw [Dev.when_pos hp]
  simp only [hr]
  rw [Dev.when_pos (decide_eq_true hu), if_neg (by simp [hw])]
  simp only [ne_eq, not_true_eq_false, false_and, if_false, Bool.not_true, Bool.false_eq_true, if_true,
    Dev.servedByT1, Bool.false_and] <;> rfl

/-! ### Moves -/

theorem effect_unitArrived_due {d : Dev} {k u : Nat} {data : List Byte} (hs : (d.unitOf k u).src ≠ 0) (hr : (d.unitOf k u).retryAt = 0) :
    effect (.unitArrived k u data) d = d.arrive k u data := by
  change effectUnitArrived k u data d = _
  unfold effectUnitArrived
  exact Dev.when_pos (decide_eq_true ⟨hs, hr⟩)

theorem effect_writeBackEnd_open {d : Dev} {k u t : Nat} (h : d.tir.writeBacks.contains (k, u, t) = true) :
    effect (.writeBackEnd k u t) d =
      (((((d.setTir { d.tir with writeBacks := d.tir.writeBacks.filter (· != (k, u, t)) }).writeDown k u t).moveDone k u St.ok).releaseLeft k u).serveWaits) := by
  change effectWriteBackEnd k u t d = _
  unfold effectWriteBackEnd
  exact Dev.when_pos h

theorem effect_t2ReadFail_moving {d : Dev} {k u : Nat} (hs : (d.unitOf k u).src = 3) (hr : (d.unitOf k u).retryAt = 0) :
    effect (.t2ReadFail k u) d =
      if (d.unitOf k u).tries < d.rd F.tirCfg_retry then
        d.setUnit k u { d.unitOf k u with tries := (d.unitOf k u).tries + 1, retryAt := d.now + msQ + 1 }
      else d.poisonUnit k u 1 := by
  change effectT2ReadFail k u d = _
  unfold effectT2ReadFail
  exact Dev.when_pos (by simp [hs, hr])

theorem effect_t2Retry_due {d : Dev} {k u : Nat} (hs : (d.unitOf k u).src = 3) (hr : (d.unitOf k u).retryAt ≠ 0)
    (hn : (d.unitOf k u).retryAt ≤ d.now + 1) :
    effect (.t2Retry k u) d = (d.setUnit k u { d.unitOf k u with retryAt := 0 }).raise tirPage 2 St.ok := by
  change effectT2Retry k u d = _
  unfold effectT2Retry
  exact Dev.when_pos (by simp [hs, hr, hn])

/-! ### Assistance -/

theorem effect_tirAssistDoorbell_none {d : Dev} {f h : Nat} (hr : d.tir.recs.find? (fun r => r.handle == h) = none) :
    effect (.tirAssistDoorbell f h) d = d.badDoorbell f tirPage := by
  change effectTirAssistDoorbell f h d = _
  simp only [effectTirAssistDoorbell, hr]

/-- A unit that has a valid T0 copy belongs to an object. -/
theorem Dev.obj_of_valid0 {d : Dev} {k u : Nat} (h : (d.unitOf k u).valid0 = true) : ∃ o, d.obj? k = some o := by
  cases ho : d.obj? k with
  | some o => exact ⟨o, rfl⟩
  | none =>
    rw [Dev.unitOf, ho] at h
    exact absurd h (show ¬({} : TUnit).valid0 = true by decide)

theorem effect_tirAssistDoorbell_valid {d : Dev} {f h : Nat} {r : TirRec} (hr : d.tir.recs.find? (fun r => r.handle == h) = some r)
    (hv : (d.unitOf r.obj r.unit).valid0 = true) :
    let e := d.setTir { d.tir with recs := d.tir.recs.filter (fun x => x.handle != h) }
    effect (.tirAssistDoorbell f h) d =
      ((e.sixRelease h St.ok).setUnit r.obj r.unit { e.unitOf r.obj r.unit with assist := 0 }).showTir.serveWaits := by
  intro e
  obtain ⟨o, ho⟩ := Dev.obj_of_valid0 hv
  have heo : e.obj? r.obj = some o := ho
  have hobj : (e.sixRelease h St.ok).obj? r.obj = some o :=
    (Dev.obj?_of_tir ((Dev.sixRelease_chg ..).rest .tir (by decide)) _).trans heo
  have hvalid : (((e.sixRelease h St.ok).setUnit r.obj r.unit { e.unitOf r.obj r.unit with assist := 0 }).showTir.unitOf r.obj r.unit).valid0 = true := by
    rw [Dev.unitOf_of_tir ((Dev.showTir_chg _).rest .tir (by decide)), Dev.unitOf_setUnit hobj, if_pos rfl, Dev.unitOf_of_obj heo]
    rw [Dev.unitOf_of_obj ho] at hv
    exact hv
  change effectTirAssistDoorbell f h d = _
  simp only [effectTirAssistDoorbell, hr]
  rw [if_pos (Or.inr (Or.inr hvalid))]

/-! ### Scrubbing and row repair -/

theorem effect_hbmScrub_sound {d : Dev} {k : Nat} (hl : d.liveStacks.contains k = true) (hst : d.rd (F.hbmState_state k) = 0) :
    effect (.hbmScrub k 0) d =
      let e := d.setTir { d.tir with scrubAt := mapSet 0 d.tir.scrubAt k ((mapGet 0 d.tir.scrubAt k + 1) % 2 ^ 31) }
      if mapGet 0 d.tir.scrubAt k + 1 = 2 ^ 31 then e.inc (F.hbmScrubPass_passes k) 1 else e := by
  change effectHbmScrub k 0 d = _
  unfold effectHbmScrub
  exact Dev.when_pos (by simpa [hst] using hl)

theorem all_free_iff (d : Dev) (row : Nat) :
    (List.range 64).all (fun n => (mapGet ({} : SixEntry) d.six.entries (row * 64 + n)).state == 0) = true ↔
      ∀ n, n < 64 → (mapGet ({} : SixEntry) d.six.entries (row * 64 + n)).state = 0 := by
  simp

theorem effect_sixRowRepair_quiet {d : Dev} {row : Nat} (h : row < 16384) :
    effect (.sixRowRepair row 0) d =
      if d.six.badRows.contains row ∧ (List.range 64).all (fun n => (mapGet ({} : SixEntry) d.six.entries (row * 64 + n)).state == 0)
          ∧ d.six.repaired.length < 32 then
        ((d.setSix { d.six with badRows := d.six.badRows.filter (· != row), repaired := d.six.repaired ++ [row] }).raise sixPage 2 St.ok).recordRetirement
      else d := by
  change effectSixRowRepair row 0 d = _
  unfold effectSixRowRepair
  exact Dev.when_pos (decide_eq_true h)

theorem Dev.eventBit_recordRetirement {d : Dev} {b : Nat} (h : d.eventBit sixPage b = true) : d.recordRetirement.eventBit sixPage b = true := by
  unfold Dev.recordRetirement
  split
  · refine Dev.eventBit_raise_of _ _ _ _ ?_
    have hreg (x : Dev) (f : Fld) (v : Nat) (hf : (hEvent sixPage).addr ≠ f.addr) (hx : x.eventBit sixPage b = true) :
        (x.wr f v).eventBit sixPage b = true := by
      rw [Dev.eventBit, Dev.reg_wr_ne _ _ _ _ hf]
      exact hx
    exact hreg _ _ _ (by decide) (hreg _ _ _ (by decide) (hreg _ _ _ (by decide) h))
  · exact h

/-- Settles O39, command by command. -/
theorem referencesMovesAndUpkeep : Obligations.ReferencesMovesAndUpkeep := by
  unfold Obligations.ReferencesMovesAndUpkeep
  refine ⟨⟨fun s q i p h u k m o d hm hp hr hu hw => ⟨fun hb => answers_of_effect ?_, fun hb => answers_of_effect ?_,
      fun st hb => answers_of_effect ?_⟩,
    fun s q i p h u err line w m hm hp => ⟨fun hr => answers_of_effect (effect_objectReference_part hm hp hr),
      fun k o hr hu hw => answers_of_effect (effect_objectReference_refused hm hp hr hu hw)⟩,
    fun s k u data hs hr => answers_of_effect (effect_unitArrived_due hs hr),
    fun s k u t h => answers_of_effect (effect_writeBackEnd_open h), fun s k u => answers_of_effect rfl,
    fun s k u o ho hs hr => ⟨fun ht => completes_of_effect ?_, fun ht => answers_of_effect ?_⟩,
    fun s k u o ho hs hr hn => completes_of_effect ?_⟩,
    fun s f h hr => completes_of_effect ?_, fun s f h r hr hv => answers_of_effect (effect_tirAssistDoorbell_valid hr hv),
    fun s k hl hst hk => completes_of_effect ?_, fun s row hrow hbad hlen hfree => completes_of_effect ?_,
    fun s row hrow hused => answers_of_effect ?_⟩
  · rw [effect_objectReference_write hm hp hr hu hw, hb]
  · rw [effect_objectReference_write hm hp hr hu hw, hb]
  · rw [effect_objectReference_write hm hp hr hu hw, hb]
  · rw [← Dev.unitOf_of_obj ho] at hs hr ht
    rw [effect_t2ReadFail_moving hs hr, if_pos ht, Dev.unitOf_setUnit ho, if_pos rfl, Dev.unitOf_of_obj ho]
    exact ⟨rfl, rfl, Dev.setUnit_chg ..⟩
  · rw [← Dev.unitOf_of_obj ho] at hs hr ht
    rw [effect_t2ReadFail_moving hs hr, if_neg (by omega)]
  · rw [← Dev.unitOf_of_obj ho] at hs hr hn
    rw [effect_t2Retry_due hs hr hn, Dev.unitOf_of_tir ((Dev.raise_chg ..).rest .tir (by decide)), Dev.unitOf_setUnit ho, if_pos rfl]
    exact ⟨rfl, Dev.eventBit_raise _ _ _ rfl (by decide)⟩
  · rw [effect_tirAssistDoorbell_none hr]
    exact Dev.recorded_badAccess ..
  · rw [effect_hbmScrub_sound hl hst]
    dsimp only
    split
    · exact ⟨by simp [mapGet_mapSet], Dev.rd_inc _ _ _ (by simp [F.hbmScrubPass_passes]),
        Dev.inc_keep (by decide) (Dev.setTir_keep (by decide) (chg_refl [.tir, .regs] _))⟩
    · exact ⟨by simp [mapGet_mapSet], rfl, Dev.setTir_keep (by decide) (chg_refl [.tir, .regs] _)⟩
  · rw [effect_sixRowRepair_quiet hrow, if_pos ⟨by simpa using hbad, (all_free_iff s.dev row).mpr hfree, hlen⟩]
    have hsix : ∀ d : Dev, d.recordRetirement.six = d.six := fun d => (Dev.recordRetirement_chg d).rest .six (by decide)
    rw [hsix, (Dev.raise_chg ..).rest .six (by decide), Dev.setSix_six]
    exact ⟨rfl, by simp, Dev.eventBit_recordRetirement (Dev.eventBit_raise _ _ _ rfl (by decide))⟩
  · obtain ⟨n, hn, hne⟩ := hused
    rw [effect_sixRowRepair_quiet hrow, if_neg fun hc => hne ((all_free_iff s.dev row).mp hc.2.1 n hn)]

end Sys2Proof.Machine
end

section
/-! A part on its unit: where it sits, what its operands and descriptor must be, and that its end is a run. -/

namespace Sys2Proof.Machine

/-- A part of a command in execution. -/
def Dev.stands (d : Dev) (x : PartId) : Prop := ∃ m y, d.cmdAt x.q x.i = some m ∧ m.parts[x.p]? = some y

theorem Dev.stands_of_kqp {d e : Dev} {x : PartId} (h : d.stands x) (hk : e.kqp = d.kqp) : e.stands x := by
  obtain ⟨m, y, hm, hy⟩ := h
  exact ⟨m, y, (Dev.cmdAt_of_kqp hk ..).trans hm, hy⟩

theorem Dev.stands_of_partReady {d : Dev} {x : PartId} {op : Nat} (h : d.partReady x.q x.i x.p op = true) : d.stands x := by
  obtain ⟨m, y, hm, hy, -⟩ := Dev.part_of_partReady h
  exact ⟨m, y, hm, hy⟩

theorem Dev.cmdAt_sit {d : Dev} {x : PartId} {m : CmdEx} {y : Part} (hm : d.cmdAt x.q x.i = some m) (hy : m.parts[x.p]? = some y) (l : Nat) :
    (d.sit x l).cmdAt x.q x.i = some { m with parts := setNth m.parts x.p { y with unit := l } } := by
  simp only [Dev.sit, hm, hy]
  exact Dev.cmdAt_setCmd hm rfl rfl

theorem Dev.stands_sit {d : Dev} {x : PartId} (h : d.stands x) (l : Nat) : (d.sit x l).stands x := by
  obtain ⟨m, y, hm, hy⟩ := h
  exact ⟨_, _, Dev.cmdAt_sit hm hy l, getElem?_setNth_self _ hy⟩

theorem Dev.hasRun_of_stands {d : Dev} {x : PartId} (h : d.stands x) {status : Nat} (info work : Nat)
    (hst : status = St.ok ∨ status = reportStatus .saturate ∨ status = reportStatus .nonfinite) :
    (d.partRan x.q x.i x.p status info work).hasRun x := by
  obtain ⟨m, y, hm, hy⟩ := h
  exact Dev.hasRun_partRan_of hm hy info work hst

/-! ### The gates before the work -/

/-- A due part is given its unit, its command's words and its view. -/
theorem Dev.onUnit_due {d : Dev} {x : PartId} {op l : Nat} (h : d.due x op l) (act : Dev → Cmd → Nat → Dev) :
    d.onUnit x op act = act (d.sit x l) (d.cmdBody x.q x.i) (d.partView x) := by
  obtain ⟨hready, hunit, hseat⟩ := h
  unfold Dev.onUnit
  rw [Dev.when_pos hready]
  simp only [hunit, Bool.false_eq_true, if_false, hseat]

theorem Dev.gate_fed {d : Dev} {x : PartId} {l : List Opnd} (h : d.fed x l) (act : Dev → Dev) : d.gate x l act = act d := by
  obtain ⟨hfault, hplace⟩ := h
  simp only [Dev.gate, hfault, hplace, if_true]

theorem Dev.withWord_reads {d : Dev} {x : PartId} {h n y : Nat} (hr : d.reads x h n y) (bad : Dev → Dev) (act : Dev → Nat → Dev) :
    d.withWord x h n bad act = act d y := by
  obtain ⟨habs, hbeyond, hplace, hy⟩ := hr
  simp only [Dev.withWord, habs, hbeyond, hplace, hy, Bool.false_eq_true, if_false, if_true]

theorem Dev.withDesc_drains {d : Dev} {x : PartId} {h y : Nat} {l : List Opnd} {bad : Dev → Nat → Bool}
    (hl : l.any (fun a => d.absent (d.partView x) a.handle) = false) (hd : d.drains x h y (bad d y)) (act : Dev → Nat → Dev) :
    d.withDesc x h l bad act = act d y := by
  unfold Dev.withDesc
  rw [if_neg (by simp [hl])]
  obtain ⟨h0, rfl⟩ | ⟨h0, hr, hbad⟩ := hd
  · rw [if_pos h0]
  · rw [if_neg h0, Dev.withWord_reads hr, if_neg (by simp [hbad])]

theorem Dev.withDesc_absent {d : Dev} {x : PartId} {h : Nat} {l : List Opnd} (bad : Dev → Nat → Bool)
    (hl : l.any (fun a => d.absent (d.partView x) a.handle) = true) (act : Dev → Nat → Dev) :
    d.withDesc x h l bad act = d.failPart x.q x.i x.p St.objectAbsent := by
  unfold Dev.withDesc
  rw [if_pos hl]

theorem Dev.withDesc_rejected {d : Dev} {x : PartId} {h y : Nat} {l : List Opnd} {bad : Dev → Nat → Bool}
    (hl : l.any (fun a => d.absent (d.partView x) a.handle) = false) (h0 : h ≠ 0) (hr : d.reads x h 128 y) (hbad : bad d y = true)
    (act : Dev → Nat → Dev) : d.withDesc x h l bad act = d.descRejected x := by
  unfold Dev.withDesc
  rw [if_neg (by simp [hl]), if_neg h0, Dev.withWord_reads hr, if_pos hbad]

/-! ### The end of the work -/

theorem Dev.cmdAt_updRun (d : Dev) (q run : Nat) (f : LayerRun → LayerRun) (i : Nat) : (d.updRun q run f).cmdAt q i = d.cmdAt q i := by
  simp [Dev.cmdAt, Dev.updRun]

theorem Dev.stands_updRun {d : Dev} {x : PartId} (h : d.stands x) (run : Nat) (f : LayerRun → LayerRun) : (d.updRun x.q run f).stands x := by
  obtain ⟨m, y, hm, hy⟩ := h
  exact ⟨m, y, (Dev.cmdAt_updRun ..).trans hm, hy⟩

/-- Whatever class a part's outputs are reported with, its work is done. -/
theorem Dev.hasRun_finish {d : Dev} {x : PartId} (h : d.stands x) (c : Cls) (fmt info work : Nat) : (d.finish x c fmt info work).hasRun x := by
  unfold Dev.finish
  split
  · exact Dev.hasRun_of_stands h _ _ (.inl rfl)
  · next hc =>
    have hst : reportStatus c = St.ok ∨ reportStatus c = reportStatus .saturate ∨ reportStatus c = reportStatus .nonfinite := by
      cases c <;> simp_all
    obtain ⟨m, y, hm, hy⟩ := h
    have hs : d.stands x := ⟨m, y, hm, hy⟩
    simp only [hm]
    split
    · exact Dev.hasRun_of_stands hs _ _ hst
    · split
      · exact Dev.hasRun_of_stands hs _ _ (.inl rfl)
      · split
        · exact Dev.hasRun_of_stands (Dev.stands_updRun hs _ _) _ _ (.inl rfl)
        · refine Dev.hasRun_of_stands (Dev.stands_updRun ?_ _ _) _ _ hst
          split
          · exact hs
          · exact Dev.stands_of_kqp hs ((Dev.countRepeat_chg ..).rest .kqp (by decide))

theorem Dev.hasRun_arrayDone {d : Dev} {g : DrainIn} (h : d.stands g.x) (r : ArrayRun) (l : List Opnd) (fmt work : Nat) :
    (d.arrayDone g r l fmt work).hasRun g.x := by
  unfold Dev.arrayDone
  refine Dev.hasRun_finish (Dev.stands_of_kqp h ?_) _ _ _ _
  rw [(Dev.coreOn_chg ..).rest .kqp (by decide), (Dev.coreCounts_chg ..).rest .kqp (by decide), (Dev.drained_chg ..).rest .kqp (by decide)]

theorem Dev.hasRun_runProd {d : Dev} {z : Product} (h : d.stands z.g.x) (ts : List TileAt) (l : List Opnd) (fmt work : Nat) :
    (d.runProd z ts none l fmt work).hasRun z.g.x :=
  Dev.hasRun_arrayDone h _ _ _ _

end Sys2Proof.Machine
end

section
/-! MM, MM_T, CONV and ATTN (05_matrix_array.md R112 to R126; 06_drain_and_backward_pass.md R136 to R138). -/

namespace Sys2Proof.Machine

theorem Dev.due_stands {d : Dev} {x : PartId} {op l : Nat} (h : d.due x op l) : (d.sit x l).stands x :=
  Dev.stands_sit (Dev.stands_of_partReady h.1) l

theorem Dev.hasRun_runMm {d : Dev} {x : PartId} {op l y : Nat} (h : d.due x op l) :
    let e := d.sit x l; let c := d.cmdBody x.q x.i; let v := d.partView x
    ((mmOpnds descNone c).take 3).any (fun a => e.absent (e.partView x) a.handle) = false → e.drains x (mmDrain c) y (e.mmRejects v c y) →
    e.fed x (mmOpnds y c) → e.savedUnfit x y = false → (d.runMm x op none).hasRun x := by
  intro e c v hobj hdrain hfed hsaved
  unfold Dev.runMm
  rw [Dev.onUnit_due h]
  dsimp only
  rw [Dev.withDesc_drains (bad := fun d y => d.mmRejects v c y) hobj hdrain, Dev.gate_fed hfed, if_neg (by simp [hsaved])]
  exact Dev.hasRun_runProd (Dev.due_stands h) _ _ _ _

theorem Dev.hasRun_runConv {d : Dev} {x : PartId} {l y : Nat} (h : d.due x opCONV l) :
    let e := d.sit x l; let c := d.cmdBody x.q x.i; let v := d.partView x
    ((convOpnds descNone c).take 3).any (fun a => e.absent (e.partView x) a.handle) = false → e.drains x (convDrain c) y (e.convRejects v c y) →
    e.fed x (convOpnds y c) → e.savedUnfit x y = false → (d.runConv x none).hasRun x := by
  intro e c v hobj hdrain hfed hsaved
  unfold Dev.runConv
  rw [Dev.onUnit_due h]
  dsimp only
  rw [Dev.withDesc_drains (bad := fun d y => d.convRejects v c y) hobj hdrain, Dev.gate_fed hfed, if_neg (by simp [hsaved])]
  exact Dev.hasRun_runProd (Dev.due_stands h) _ _ _ _

theorem Dev.hasRun_runAttn {d : Dev} {x : PartId} {l y : Nat} (h : d.due x opATTN l) :
    let e := d.sit x l; let c := d.cmdBody x.q x.i; let v := d.partView x
    ((attnOpnds descNone c).take 4 ++ attnSaved c).any (fun a => e.absent (e.partView x) a.handle) = false →
    e.drains x (attnDrain c) y (e.attnRejects v c y) → e.fed x (attnOpnds y c) → e.actual x (attnQHandle c) (attnQFmt c) ≤ 3 →
    e.actual x (attnKHandle c) (attnKFmt c) ≤ 3 → e.actual x (attnVHandle c) (attnVFmt c) ≤ 3 → (d.runAttn x none).hasRun x := by
  intro e c v hobj hdrain hfed hq hk hv
  unfold Dev.runAttn
  rw [Dev.onUnit_due h]
  dsimp only
  rw [Dev.withDesc_drains (bad := fun d y => d.attnRejects v c y) hobj hdrain, Dev.gate_fed hfed,
    if_neg (not_or.mpr ⟨Nat.not_lt.mpr hq, not_or.mpr ⟨Nat.not_lt.mpr hk, Nat.not_lt.mpr hv⟩⟩)]
  exact Dev.hasRun_arrayDone (Dev.due_stands h) _ _ _ _

/-- Settles O32: the four commands run on their core; an absent operand and a descriptor that does not fit end the part. -/
theorem arrayPartsRun : Obligations.ArrayPartsRun := by
  unfold Obligations.ArrayPartsRun
  refine ⟨fun s q i p l y hobj hdrain hfed hsaved => ⟨fun h => completes_of_effect ?_, fun h => completes_of_effect ?_⟩,
    fun s q i p l y h hobj hdrain hfed hsaved => completes_of_effect ?_,
    fun s q i p l y h hobj hdrain hfed hq hk hv => completes_of_effect ?_,
    fun s q i p l bad h hobj => answers_of_effect ?_, fun s q i p l y bad h hobj h0 hr hbad => answers_of_effect ?_⟩
  · exact Dev.hasRun_runMm h hobj hdrain hfed hsaved
  · exact Dev.hasRun_runMm h hobj hdrain hfed hsaved
  · exact Dev.hasRun_runConv h hobj hdrain hfed hsaved
  · exact Dev.hasRun_runAttn h hobj hdrain hfed hq hk hv
  · change s.dev.runMm ⟨q, i, p⟩ opMM bad = _
    unfold Dev.runMm
    rw [Dev.onUnit_due h]
    exact Dev.withDesc_absent _ hobj _
  · change s.dev.runMm ⟨q, i, p⟩ opMM bad = _
    unfold Dev.runMm
    rw [Dev.onUnit_due h]
    exact Dev.withDesc_rejected hobj h0 hr hbad _

end Sys2Proof.Machine
end

section
/-! SLICE's two phases (08_slice_precision.md R166 to R173). -/

namespace Sys2Proof.Machine

/-! ### The first phase -/

theorem Dev.isHalf_setHalf {d : Dev} {x : PartId} (h : d.stands x) : (d.setHalf x).isHalf x = true := by
  obtain ⟨m, y, hm, hy⟩ := h
  have hcmd : (d.setHalf x).cmdAt x.q x.i = some { m with parts := setNth m.parts x.p { y with half := true } } := by
    simp only [Dev.setHalf, hm, hy]
    exact Dev.cmdAt_setCmd hm rfl rfl
  simp [Dev.isHalf, hcmd, getElem?_setNth_self _ hy]

theorem Dev.stands_soil {d : Dev} {x : PartId} (h : d.stands x) (m : Memory) (a : Opnd) : ((d.setT0 m).soil x a).stands x :=
  Dev.stands_of_kqp h (by rw [(Dev.soil_chg ..).rest .kqp (by decide), Dev.setT0_kqp])

theorem Dev.runSlice_finite {d : Dev} {x : PartId} {op l : Nat} (h : d.due x op l) (hh : d.isHalf x = false) :
    let e := d.sit x l; let c := d.cmdBody x.q x.i
    e.fed x (slOpnds c) → e.slUnfit x c = false → (e.slRows x c ++ e.slCols x c).any (fun r => r.2.any (fun y => !y.isFinite)) = false →
    (d.runSlice x op).isHalf x = true := by
  intro e c hfed hfit hfin
  unfold Dev.runSlice
  rw [if_neg (by simp [hh]), Dev.onUnit_due h, Dev.gate_fed hfed]
  dsimp only
  rw [if_neg (Bool.eq_false_iff.mp hfit), if_neg (Bool.eq_false_iff.mp hfin)]
  exact Dev.isHalf_setHalf (Dev.stands_soil (Dev.due_stands h) _ _)

theorem Dev.runSlice_nonfinite {d : Dev} {x : PartId} {op l : Nat} (h : d.due x op l) (hh : d.isHalf x = false) :
    let e := d.sit x l; let c := d.cmdBody x.q x.i
    e.fed x (slOpnds c) → e.slUnfit x c = false → (e.slRows x c ++ e.slCols x c).any (fun r => r.2.any (fun y => !y.isFinite)) = true →
    d.runSlice x op = e.failPart x.q x.i x.p St.nonfinite := by
  intro e c hfed hfit hinf
  unfold Dev.runSlice
  rw [if_neg (by simp [hh]), Dev.onUnit_due h, Dev.gate_fed hfed]
  dsimp only
  rw [if_neg (Bool.eq_false_iff.mp hfit), if_pos hinf]

/-! ### The product phase -/

theorem Dev.hasRun_runSlice64 {d : Dev} {z : Slice} (h : d.stands z.g.x) (ts : List TileAt) (work : Nat) :
    (d.runSlice64 z ts none work).hasRun z.g.x := by
  unfold Dev.runSlice64
  dsimp only
  refine Dev.hasRun_of_stands (Dev.stands_of_kqp h ?_) _ _ ?_
  · rw [(Dev.coreOn_chg ..).rest .kqp (by decide), (Dev.coreCounts_chg ..).rest .kqp (by decide), (Dev.drained_chg ..).rest .kqp (by decide)]
  · generalize DrainSt.first _ = r
    cases r with
    | none => exact .inl rfl
    | some c => cases c <;> simp [reportStatus]

theorem Dev.runProduct_halves {d : Dev} {x : PartId} {op l : Nat} {m : CmdEx} (h : d.due x op l) (hm : d.cmdAt x.q x.i = some m)
    (hs : sliceFailed m.parts = none) (hh : m.parts.all (fun y => y.half) = true) :
    let e := d.sit x l; let c := d.cmdBody x.q x.i
    e.fed x (slOpnds c) → (d.runProduct x op none).hasRun x := by
  intro e c hfed
  unfold Dev.runProduct
  simp only [hm, hs, hh, Bool.not_true, Bool.false_eq_true, if_false]
  rw [Dev.onUnit_due h, Dev.gate_fed hfed]
  split
  · exact Dev.hasRun_runSlice64 (Dev.due_stands h) _ _
  · exact Dev.hasRun_runProd (Dev.due_stands h) _ _ _ _

theorem effect_sliceProductPhase_early {d : Dev} {q i p : Nat} {m : CmdEx} (hm : d.cmdAt q i = some m) (hs : sliceFailed m.parts = none)
    (hh : m.parts.all (fun y => y.half) = false) : effect (.sliceProductPhase q i p none) d = d := by
  change d.runProduct ⟨q, i, p⟩ _ none = d
  simp only [Dev.runProduct, hm, hs, hh, Bool.not_false, if_true]

theorem Dev.cmdOpcode_of_partReady {d : Dev} {q i p op : Nat} (h : d.partReady q i p op = true) : cmdOpcode (d.cmdBody q i) = op := by
  unfold Dev.partReady at h
  unfold Dev.cmdBody
  split at h
  · exact absurd h (by decide)
  · next m hm =>
    simp only [Bool.and_eq_true, beq_iff_eq] at h
    rw [hm]
    exact h.1

end Sys2Proof.Machine
end

section
/-! Localisation of failed cells and the ramp of an array (05_matrix_array.md R119, R124). -/

namespace Sys2Proof.Machine

theorem filter_eraseDups_singleton {p : Nat → Bool} {a : Nat} (h : p a = true) : ([a].eraseDups).filter p = [a] := by
  simp [List.eraseDups_cons, h]

/-- A localisation's end, when the core is not being reset. -/
theorem effect_localisationEnd_open {d : Dev} {p t : Nat} (ht : mapLook d.ccr.loc p = some t)
    (hr : d.spr.resets.any (fun z => z.unit == unitKey 0 p) = false) :
    let e := d.setCcr { d.ccr with loc := mapDel d.ccr.loc p }
    (mapLook d.ccr.quiet p = none →
      effect (.localisationEnd p [] []) d = e.setCcr { e.ccr with quiet := mapPut e.ccr.quiet p (t + 1) }) ∧
    (∀ c, d.colUsed p c = true → effect (.localisationEnd p [c] []) d = (e.wr (F.ccrCsLast_locCol p) c).colFailed p c) ∧
    (∀ r, d.rowUsed p r = true → effect (.localisationEnd p [] [r]) d = (e.wr (F.ccrCsLast_locRow p) r).rowFailed p r) := by
  intro e
  have hopen : (!d.spr.resets.any fun z => z.unit == unitKey 0 p) = true := by rw [hr]; rfl
  refine ⟨fun hq => ?_, fun c hc => ?_, fun r hr => ?_⟩
  · change effectLocalisationEnd p [] [] d = _
    simp only [effectLocalisationEnd, ht]
    rw [Dev.when_pos hopen]
    have hq' : mapLook e.ccr.quiet p = none := hq
    simp only [List.eraseDups_nil, List.filter_nil]
    rw [if_neg (by rw [hq']; exact Bool.false_ne_true)]
  · change effectLocalisationEnd p [c] [] d = _
    simp only [effectLocalisationEnd, ht]
    rw [Dev.when_pos hopen]
    simp only [List.eraseDups_nil, List.filter_nil, filter_eraseDups_singleton hc]
    rfl
  · change effectLocalisationEnd p [] [r] d = _
    simp only [effectLocalisationEnd, ht]
    rw [Dev.when_pos hopen]
    simp only [List.eraseDups_nil, List.filter_nil, filter_eraseDups_singleton hr]
    rfl

theorem effect_arrayRampDown_idle {d : Dev} {p t : Nat} (ht : mapLook d.ccr.on p = some t)
    (hr : d.runningParts.any (fun r => d.partUnit r.2.2.2 == some (unitKey 0 p)) = false) (hn : t - 1 + 427 ≤ d.now) :
    effect (.arrayRampDown p) d = d.setCcr { d.ccr with on := mapDel d.ccr.on p } := by
  change effectArrayRampDown p d = _
  simp only [effectArrayRampDown, ht]
  exact Dev.when_pos (by rw [hr, decide_eq_true hn]; rfl)

/-- Settles O33: both phases of SLICE, the ends of a localisation, and the ramp. -/
theorem slicingLocalisationAndRamp : Obligations.SlicingLocalisationAndRamp := by
  unfold Obligations.SlicingLocalisationAndRamp
  refine ⟨⟨fun s q i p l hh hfed hfit => ⟨fun hfin => ⟨fun h => completes_of_effect ?_, fun h => completes_of_effect ?_⟩,
      fun hinf => ⟨fun h => answers_of_effect ?_, fun h => answers_of_effect ?_⟩⟩,
    fun s q i p l m hm hs hhalf hdue hfed => completes_of_effect ?_,
    fun s q i p m hm hs hhalf => answers_of_effect (effect_sliceProductPhase_early hm hs hhalf)⟩,
    fun s p t ht hr hq => completes_of_effect ?_, fun s p t c ht hr hc => answers_of_effect ((effect_localisationEnd_open ht hr).2.1 c hc),
    fun s p t r ht hr hrow => answers_of_effect ((effect_localisationEnd_open ht hr).2.2 r hrow),
    fun s p t ht hr hn => completes_of_effect ?_⟩
  · exact Dev.runSlice_finite h hh hfed hfit hfin
  · exact Dev.runSlice_finite h hh hfed hfit hfin
  · exact Dev.runSlice_nonfinite h hh hfed hfit hinf
  · exact Dev.runSlice_nonfinite h hh hfed hfit hinf
  · change (s.dev.runProduct ⟨q, i, p⟩ (if cmdOpcode (s.dev.cmdBody q i) = opSLICE64 then opSLICE64 else opSLICE32) none).hasRun ⟨q, i, p⟩
    obtain h | h := hdue
    · rw [if_pos (Dev.cmdOpcode_of_partReady h.1)]
      exact Dev.runProduct_halves h hm hs hhalf hfed
    · rw [if_neg (by rw [Dev.cmdOpcode_of_partReady h.1]; decide)]
      exact Dev.runProduct_halves h hm hs hhalf hfed
  · rw [(effect_localisationEnd_open ht hr).1 hq]
    exact ⟨by simp, by simp, Dev.setCcr_keep (by decide) (Dev.setCcr_keep (by decide) (chg_refl _ _))⟩
  · rw [effect_arrayRampDown_idle ht hr hn]
    exact ⟨by simp, Dev.setCcr_keep (by decide) (chg_refl _ _)⟩

end Sys2Proof.Machine
end

section
/-! GATHER from a table whose T0 copy is ABSENT and which T1 serves while a collective adds into it: the row's bytes are T1's (04_market.md R96, 11_acrek_update.md). -/

namespace Sys2Proof.Machine

/-- A scratch object of 64 KiB, and the copies that its one unit has. -/
def scratch64K (x : TUnit) : Obj :=
  { gen := 0, sizeL := 1024, kind := kSCRATCH, attr := 0, owner := 0, extA := [0], units := [(0, x)] }

/-- A GATHER of row 0 of the table of handle 1, by the index of handle 2, into handle 3: one row of 64 bytes. -/
def gatherCmd : Cmd := BitVec.ofNat 512 (opGATHER + 2 ^ 12 + 2 ^ (8 * 28) + 2 * 2 ^ (8 * 32) + 3 * 2 ^ (8 * 36) + 2 ^ (8 * 53))

/-- An ALLREDUCE into handle 1. -/
def allreduceCmd : Cmd := BitVec.ofNat 512 (opALLREDUCE + 2 ^ 12 + 2 ^ (8 * 32))

/-- Queue 0 runs the GATHER, and behind it the ALLREDUCE, which has begun to add into the table. -/
def gatherQueues : Dev :=
  { ((Dev.reset.wr (F.qCfg_enable 0 0) 1).wr (F.qState_state 0 0) qsACTIVE).setQueue 0
      { exec := [{ count := 0, cmd := gatherCmd, start := 0, handle := 0, parts := [{}] },
                 { count := 1, cmd := allreduceCmd, start := 0, handle := 0, parts := [{}] }] } with
    col := { colls := [{ q := 0, i := 1, group := 0, seq := 0, epoch := 0, acr := true, begun := true }] } }

/-- The table is RESIDENT in T1 alone, whose first byte is 1; the index and the output stand in T0, which holds zeros. -/
def gatherFromT1 : Dev :=
  { (((gatherQueues.setTir { refs := [⟨0, 0, 0, 2, 0, false⟩, ⟨0, 0, 0, 3, 0, false⟩] }).setObj 1 (scratch64K { t0 := tsABSENT, t1 := tsRESIDENT })).setObj 2
      (scratch64K { t0 := tsRESIDENT, base0 := 131072 })).setObj 3 (scratch64K { t0 := tsRESIDENT, base0 := 196608 }) with
    t1 := [(0, 1)] }

theorem gatherFromT1_due : gatherFromT1.due ⟨0, 0, 0⟩ opGATHER 0 := by
  unfold Dev.due
  decide +kernel

theorem gatherFromT1_fed : (gatherFromT1.sit ⟨0, 0, 0⟩ 0).fed ⟨0, 0, 0⟩ (gatOpnds (gatherFromT1.cmdBody 0 0)) := by
  unfold Dev.fed
  decide +kernel

theorem gatherFromT1_raw : [gatTable (gatherFromT1.cmdBody 0 0), gatIdx (gatherFromT1.cmdBody 0 0), gatOut (gatherFromT1.cmdBody 0 0)].any
    (fun h => ((gatherFromT1.sit ⟨0, 0, 0⟩ 0).objOf ((gatherFromT1.sit ⟨0, 0, 0⟩ 0).partView ⟨0, 0, 0⟩) h).2.fmt != 0x1F) = false := by
  decide +kernel

/-- One row of 64 bytes, whose index is 0, and which lies at 196608 on. -/
theorem gatherFromT1_shape : gatStrict (gatherFromT1.cmdBody 0 0) = 0 ∧ arcadePart (gatherFromT1.cmdBody 0 0) 0 = (0, 1) ∧
    gatW (gatherFromT1.cmdBody 0 0) = 64 := by
  decide +kernel

/-- The address that the statement gives byte `j` of row 0 of the output. -/
theorem gatherFromT1_out : ∀ j < 64, ((gatherFromT1.sit ⟨0, 0, 0⟩ 0).partObj ⟨0, 0, 0⟩ (gatOut (gatherFromT1.cmdBody 0 0))).2.addr0
    (gatOutOff (gatherFromT1.cmdBody 0 0) * 64 + 0 * gatW (gatherFromT1.cmdBody 0 0) + j) = 196608 + j := by
  decide +kernel

/-- Index 0 names row 0 of the table. -/
theorem gatherFromT1_row : indexOf (gatRowsM1 (gatherFromT1.cmdBody 0 0) + 1) ((gatherFromT1.sit ⟨0, 0, 0⟩ 0).u32At
    ((gatherFromT1.sit ⟨0, 0, 0⟩ 0).partObj ⟨0, 0, 0⟩ (gatIdx (gatherFromT1.cmdBody 0 0))).2 (gatIdxOff (gatherFromT1.cmdBody 0 0) * 64 + 4 * 0)) = some 0 := by
  decide +kernel

/-- The output's first byte is T1's 1; T0 holds 0 at the address that the statement gives the table's first byte. -/
theorem gatherFromT1_bytes : (effect (.gather 0 0 0) gatherFromT1).t0.read
      (((gatherFromT1.sit ⟨0, 0, 0⟩ 0).partObj ⟨0, 0, 0⟩ (gatOut (gatherFromT1.cmdBody 0 0))).2.addr0
        (gatOutOff (gatherFromT1.cmdBody 0 0) * 64 + 0 * gatW (gatherFromT1.cmdBody 0 0) + 0)) ≠
    gatherFromT1.t0.read (((gatherFromT1.sit ⟨0, 0, 0⟩ 0).partObj ⟨0, 0, 0⟩ (gatTable (gatherFromT1.cmdBody 0 0))).2.addr0
      (gatTableOff (gatherFromT1.cmdBody 0 0) * 64 + 0 * gatW (gatherFromT1.cmdBody 0 0) + 0)) := by
  decide +kernel

/-- Refutes O34: the GATHER of a table that T1 serves copies T1's byte, not the byte of T0 at the table's address. -/
theorem not_arcadePartsRun : ¬Obligations.ArcadePartsRun := by
  unfold Obligations.ArcadePartsRun
  rintro ⟨hall, -⟩
  obtain ⟨-, -, -, -, -, -, -, -, hgather, -⟩ := hall { dev := gatherFromT1, pending := [] } 0 0 0 0
  obtain ⟨hstrict, hrows, hwidth⟩ := gatherFromT1_shape
  obtain ⟨-, hbyte⟩ := hgather gatherFromT1_due gatherFromT1_fed gatherFromT1_raw fun h => absurd (hstrict.symm.trans h) (by decide)
  have hrange : ∀ r, r ∈ range' (arcadePart (gatherFromT1.cmdBody 0 0) 0).1 (arcadePart (gatherFromT1.cmdBody 0 0) 0).2 ↔ r = 0 := by
    simp [hrows, range']
  dsimp only at hbyte
  refine absurd (hbyte 0 0 0 ((hrange 0).mpr rfl) (by rw [hwidth]; decide) gatherFromT1_row fun r' j' hr hj hne hsame => ?_).2 gatherFromT1_bytes
  obtain rfl := (hrange r').mp hr
  have hoff := ((gatherFromT1_out j' (hwidth ▸ hj)).symm.trans hsame).trans (gatherFromT1_out 0 (by decide))
  exact hne (by rw [Nat.add_left_cancel hoff])

end Sys2Proof.Machine
end

section
/-! Transport packets: which are dropped and counted, and what those that are taken do (14_tabnus_transport.md R314 to R318). -/

namespace Sys2Proof.Machine

/-! ### Connections -/

theorem Dev.conn?_of_tbn {d e : Dev} (h : e.tbn = d.tbn) (c : Nat) : e.conn? c = d.conn? c := by
  unfold Dev.conn?
  rw [h]

theorem Dev.setConn_conns (d : Dev) (c : Nat) (x : Conn) : (d.setConn c x).tbn = { d.tbn with conns := mapPut d.tbn.conns c x } := by
  simp [Dev.setConn]

@[simp] theorem Dev.conn?_setConn_self (d : Dev) (c : Nat) (x : Conn) : (d.setConn c x).conn? c = some x := by
  simp [Dev.conn?, Dev.setConn_conns]

theorem Dev.reg_setConn_ne (d : Dev) (c : Nat) (x : Conn) {k : Nat} (h : k ≠ F.tbnConns.addr) : (d.setConn c x).reg k = d.reg k := by
  unfold Dev.setConn
  rw [Dev.reg_wr_ne _ _ _ _ h, Dev.setTbn_reg]

theorem Dev.rd_setConn_ne (d : Dev) (c : Nat) (x : Conn) {f : Fld} (h : f.addr ≠ F.tbnConns.addr) : (d.setConn c x).rd f = d.rd f :=
  Dev.rd_of_reg (Dev.reg_setConn_ne d c x h)

/-- A packet for no open connection, or of another version, is dropped (R314). -/
theorem Dev.onConn_other {d : Dev} {c ver : Nat} (h : ∀ x, d.conn? c = some x → x.isOpen = false ∨ x.ver ≠ ver) (f : Dev → Conn → Dev) :
    d.onConn c ver f = d.rxBad := by
  unfold Dev.onConn
  cases hc : d.conn? c with
  | none => rfl
  | some x =>
    refine if_neg fun ⟨ho, hv⟩ => ?_
    rcases h x hc with h | h
    · exact absurd (ho.symm.trans h) (by decide)
    · exact h hv

theorem Dev.onConn_open {d : Dev} {c : Nat} {x : Conn} (hx : d.conn? c = some x) (ho : x.isOpen = true) (f : Dev → Conn → Dev) :
    d.onConn c x.ver f = f (d.inc F.tbnRxPkts 1) x := by
  unfold Dev.onConn
  rw [hx]
  exact if_pos ⟨ho, rfl⟩

theorem Dev.onMark_false (d : Dev) (c : Nat) : d.onMark c false = d := by
  unfold Dev.onMark
  cases d.conn? c <;> simp

/-- The packet that a connection takes is counted, and the connection stands as it did. -/
theorem Dev.conn?_inc {d : Dev} (f : Fld) (c k : Nat) : (d.inc f k).conn? c = d.conn? c := Dev.conn?_of_tbn rfl c

/-! ### Packets that are not taken -/

theorem effect_dataReceive_outside {d : Dev} {c psn : Nat} {x : Conn} (hx : d.conn? c = some x) (ho : x.isOpen = true) (hp : x.place psn = 2)
    (m off ep st g r l stamp : Nat) (bs : List Byte) :
    effect (.dataReceive c x.ver psn m off ep st g r l stamp false bs) d = (d.inc F.tbnRxPkts 1).incSat F.tbnOutWin 1 := by
  change effectDataReceive c x.ver psn m off ep st g r l stamp false bs d = _
  unfold effectDataReceive
  simp only [Dev.onConn_open hx ho, Dev.onMark_false, hp]

theorem effect_ctrlReceive_duplicate {d : Dev} {c psn : Nat} {x : Conn} (hx : d.conn? c = some x) (ho : x.isOpen = true) (hp : x.place psn = 1)
    (m stamp : Nat) (body : List Byte) :
    effect (.ctrlReceive c x.ver psn m stamp false body) d =
      ((d.inc F.tbnRxPkts 1).setConn c (x.toAck stamp d.now)).incSat F.tbnDup 1 := by
  change effectCtrlReceive c x.ver psn m stamp false body d = _
  unfold effectCtrlReceive
  simp only [Dev.onConn_open hx ho, Dev.onMark_false, hp, Dev.conn?_inc, hx, Option.getD_some, Dev.inc_now]

/-! ### Packets that are taken -/

/-- A new packet of a SEND from the rank that its group names. -/
structure Dev.takesSend (d : Dev) (c psn g r m : Nat) (x : Conn) : Prop where
  conn : d.conn? c = some x
  isOpen : x.isOpen = true
  place : x.place psn = 0
  valid : d.grpValid g = true
  member : nthD (d.grp g).members r 0 = x.peer
  part : nthD (d.grp g).parts r 0 = x.peerPart
  rank : r < (d.grp g).size
  group : m / 2 ^ 20 = g
  send : m / 4096 % 256 = seqSEND

theorem Dev.findPosted_of_col {d e : Dev} (h : e.col = d.col) (g r m : Nat) : e.findPosted g r m = d.findPosted g r m := by
  unfold Dev.findPosted
  rw [h]

theorem Dev.chainLoad_of_wset {d e : Dev} (h : e.wset = d.wset) (g r : Nat) : e.chainLoad g r = d.chainLoad g r := by
  unfold Dev.chainLoad
  rw [h]

theorem Dev.grpValid_inc (d : Dev) (g : Nat) : (d.inc F.tbnRxPkts 1).grpValid g = d.grpValid g := by
  unfold Dev.grpValid Dev.flag
  exact congrArg (· == 1) (Dev.rd_wr_ne _ _ _ _ (by simp only [F.colGrpCfg_valid, F.tbnRxPkts, Fld.bank]; omega))

/-- A packet of a SEND from its rank passes the checks of the group. -/
theorem Dev.takesSend.known {d : Dev} {c psn g r m : Nat} {x : Conn} (h : d.takesSend c psn g r m x) :
    ¬((!(d.inc F.tbnRxPkts 1).grpValid g) = true ∨ nthD ((d.inc F.tbnRxPkts 1).grp g).members r 0 ≠ x.peer ∨
      nthD ((d.inc F.tbnRxPkts 1).grp g).parts r 0 ≠ x.peerPart ∨ ((d.inc F.tbnRxPkts 1).grp g).size ≤ r) := by
  have hgrp : (d.inc F.tbnRxPkts 1).grp g = d.grp g := rfl
  simp [Dev.grpValid_inc, hgrp, h.valid, h.member, h.part, h.rank]

theorem effect_dataReceive_unposted {d : Dev} {c psn g r m : Nat} {x : Conn} (h : d.takesSend c psn g r m x) (hp : d.findPosted g r m = none)
    (hl : d.chainLoad g r = none) (off ep st l stamp : Nat) (bs : List Byte) :
    effect (.dataReceive c x.ver psn m off ep st g r l stamp false bs) d = (d.inc F.tbnRxPkts 1).notReady c psn := by
  change effectDataReceive c x.ver psn m off ep st g r l stamp false bs d = _
  unfold effectDataReceive
  simp only [Dev.onConn_open h.conn h.isOpen, Dev.onMark_false, h.place, if_neg h.known, Dev.findPosted_of_col (Dev.inc_col d _ _),
    Dev.chainLoad_of_wset (Dev.inc_wset d _ _), hp, hl, h.send, ite_self, bne_self_eq_false, Bool.false_eq_true, false_and, if_false]

theorem effect_dataReceive_posted {d : Dev} {c psn g r m : Nat} {x : Conn} {k : Coll} {p : Posted} (h : d.takesSend c psn g r m x)
    (hp : d.findPosted g r m = some (k, p)) (hh : p.handle ≠ 0) {off l : Nat} {bs : List Byte} (hlen : l + 1 ≤ p.len)
    (hoff : off + bs.length ≤ l + 1) (ep st stamp : Nat) :
    effect (.dataReceive c x.ver psn m off ep st g r l stamp false bs) d =
      (((d.inc F.tbnRxPkts 1).setConn c (x.take psn stamp d.now)).placeData k p off l bs).collAdvance k.q k.i := by
  change effectDataReceive c x.ver psn m off ep st g r l stamp false bs d = _
  unfold effectDataReceive
  simp only [Dev.onConn_open h.conn h.isOpen, Dev.onMark_false, h.place, if_neg h.known, Dev.findPosted_of_col (Dev.inc_col d _ _),
    hp, h.send, Option.isSome_some, true_or, if_true, bne_self_eq_false, Bool.false_eq_true, false_and, if_false,
    if_neg (show ¬(p.len < l + 1 ∨ l + 1 < off + bs.length) by omega), if_pos hh, Dev.conn?_inc, h.conn, Option.getD_some, Dev.inc_now]

/-- A new control message is held by its stamp, unless one later in the order has been delivered (R318). -/
theorem effect_ctrlReceive_new {d : Dev} {c psn m stamp : Nat} {x : Conn} (hx : d.conn? c = some x) (ho : x.isOpen = true)
    (hp : x.place psn = 0) {body : List Byte} {h : HeldCtrl}
    (hh : h = { stamp := stamp, device := x.peer, msgId := m, due := stamp + d.rd F.tbnTimer_ctrlHold * usQ, body := body })
    (hl : ∀ l, d.tbn.last = some l → ctrlLt h.key l = false) :
    effect (.ctrlReceive c x.ver psn m stamp false body) d =
      let e := (d.inc F.tbnRxPkts 1).setConn c (x.take psn stamp d.now)
      e.setTbn { e.tbn with held := holdCtrl h d.tbn.held } := by
  change effectCtrlReceive c x.ver psn m stamp false body d = _
  have hd : ((d.inc F.tbnRxPkts 1).setConn c (x.take psn stamp d.now)).rd F.tbnTimer_ctrlHold = d.rd F.tbnTimer_ctrlHold :=
    (Dev.rd_setConn_ne _ _ _ (by decide)).trans (Dev.rd_wr_ne _ _ _ _ (by decide))
  unfold effectCtrlReceive
  simp only [Dev.onConn_open hx ho, Dev.onMark_false, hp, Dev.conn?_inc, hx, Option.getD_some, Dev.inc_now, hd, Dev.setConn_conns, Dev.inc_tbn, ← hh]
  cases hlast : d.tbn.last with
  | none => rfl
  | some l => exact if_neg (by simp [hl l hlast])

theorem effect_ctrlDeliver_due {d : Dev} {h : HeldCtrl} {rest : List HeldCtrl} (hh : d.tbn.held = h :: rest) (hd : h.due ≤ d.now) :
    effect .ctrlDeliver d = (d.setTbn { d.tbn with held := rest, last := some h.key }).deliver h.device h.body := by
  change effectCtrlDeliver d = _
  simp only [effectCtrlDeliver, hh]
  exact Dev.when_pos (decide_eq_true hd)

theorem effect_ctrlDeliver_early {d : Dev} {h : HeldCtrl} {rest : List HeldCtrl} (hh : d.tbn.held = h :: rest) (hd : d.now < h.due) :
    effect .ctrlDeliver d = d := by
  change effectCtrlDeliver d = _
  simp only [effectCtrlDeliver, hh]
  exact Dev.when_neg (decide_eq_false (by omega))

theorem effect_packetCrcFail_unknown {d : Dev} {c : Nat} (hc : d.conn? c = none) (psn g r m : Nat) :
    effect (.packetCrcFail c psn g r m) d = d.incSat F.tbnCrcFail 1 := by
  change effectPacketCrcFail c psn g r m d = _
  simp only [effectPacketCrcFail, Dev.conn?_of_tbn (Dev.incSat_tbn d _ _), hc]

/-! ### The statement's parts -/

theorem dropped_packets (s : State) (c ver : Nat) (h : ∀ x, s.dev.conn? c = some x → x.isOpen = false ∨ x.ver ≠ ver) :
    (∀ psn m off ep st g r l stamp ce bs, Answers (.dataReceive c ver psn m off ep st g r l stamp ce bs) s s.dev.rxBad) ∧
    (∀ psn m stamp ce body, Answers (.ctrlReceive c ver psn m stamp ce body) s s.dev.rxBad) ∧
    (∀ cum bm stamp stale, Answers (.ackReceive c ver cum bm stamp stale) s s.dev.rxBad) ∧
    (∀ psns u, Answers (.nackReceive c ver psns u) s s.dev.rxBad) ∧
    (∀ psn, Answers (.notReadyReceive c ver psn) s s.dev.rxBad) ∧
    Answers (.cnpReceive c ver) s s.dev.rxBad := by
  refine ⟨fun psn m off ep st g r l stamp ce bs => answers_of_effect ?_, fun psn m stamp ce body => answers_of_effect ?_,
    fun cum bm stamp stale => answers_of_effect ?_, fun psns u => answers_of_effect ?_, fun psn => answers_of_effect ?_, answers_of_effect ?_⟩
  · change effectDataReceive c ver psn m off ep st g r l stamp ce bs s.dev = _
    exact Dev.onConn_other h _
  · change effectCtrlReceive c ver psn m stamp ce body s.dev = _
    exact Dev.onConn_other h _
  · change effectAckReceive c ver cum bm stamp stale s.dev = _
    exact Dev.onConn_other h _
  · change effectNackReceive c ver psns u s.dev = _
    exact Dev.onConn_other h _
  · change effectNotReadyReceive c ver psn s.dev = _
    exact Dev.onConn_other h _
  · change effectCnpReceive c ver s.dev = _
    exact Dev.onConn_other h _

/-- Settles O45: a packet that is not taken is only counted, a new one of a SEND goes to its place or is answered NOT_READY, and a new
control message is held. -/
theorem transportPackets : Obligations.TransportPackets := by
  unfold Obligations.TransportPackets
  refine ⟨⟨dropped_packets, ?_, ?_⟩, ?_, ?_, ?_, ?_⟩
  · intro s c psn x hx ho hp m off ep st g r l stamp bs
    apply completes_of_effect
    rw [effect_dataReceive_outside hx ho hp]
    refine ⟨?_, ?_, Dev.incSat_keep (by decide) (Dev.inc_chg ..)⟩
    · rw [Dev.rd_incSat _ _ _ (by decide), Dev.inc, Dev.rd_wr_ne _ _ _ _ (by decide)]
      rfl
    · exact (Dev.rd_wr_ne _ _ _ _ (by decide)).trans (Dev.rd_inc _ _ _ (by decide))
  · intro s c psn x hx ho hp m stamp body
    apply completes_of_effect
    rw [effect_ctrlReceive_duplicate hx ho hp]
    refine ⟨?_, (Dev.conn?_of_tbn (Dev.incSat_tbn _ _ _) c).trans (Dev.conn?_setConn_self ..),
      Dev.incSat_keep (by decide) (Dev.setConn_keep (by decide) (Dev.inc_keep (by decide) (chg_refl [.regs, .tbn] _)))⟩
    rw [Dev.rd_incSat _ _ _ (by decide), Dev.rd_setConn_ne _ _ _ (by decide), Dev.inc, Dev.rd_wr_ne _ _ _ _ (by decide)]
    rfl
  · intro s c psn m off ep st g r l stamp bs x hx ho hp
    refine fun hv hm hpart hr hg hs => ?_
    have hsend : s.dev.takesSend c psn g r m x := ⟨hx, ho, hp, hv, hm, hpart, hr, hg, hs⟩
    exact ⟨fun hpost hl => answers_of_effect (effect_dataReceive_unposted hsend hpost hl ..),
      fun k p hpost hh hlen hoff => answers_of_effect (effect_dataReceive_posted hsend hpost hh hlen hoff ..)⟩
  · intro s c psn m stamp body x hx ho hp
    refine fun hl => completes_of_effect ?_
    rw [effect_ctrlReceive_new hx ho hp rfl hl]
    exact ⟨rfl, (Dev.conn?_of_tbn (d := ((s.dev.inc F.tbnRxPkts 1).setConn c (x.take psn stamp s.dev.now))) rfl c).trans (Dev.conn?_setConn_self ..),
      Dev.setTbn_keep (by decide) (Dev.setConn_keep (by decide) (Dev.inc_keep (by decide) (chg_refl [.regs, .tbn] _)))⟩
  · intro s h rest hh
    exact ⟨fun hd => answers_of_effect (effect_ctrlDeliver_due hh hd), fun hd => answers_of_effect (effect_ctrlDeliver_early hh hd)⟩
  · intro s c psn g r m hc
    apply completes_of_effect
    rw [effect_packetCrcFail_unknown hc]
    exact ⟨Dev.rd_incSat _ _ _ (by decide), Dev.keeps_wr _ (by simp) (Dev.keeps_refl _ _), Dev.incSat_chg ..⟩

end Sys2Proof.Machine
end

section
/-! Acknowledgement, loss and rate of a connection (14_tabnus_transport.md R316, R319 to R321, R326). -/

namespace Sys2Proof.Machine

/-! ### What a packet of an open connection does -/

theorem effect_ackReceive_nothing {d : Dev} {c cum bm : Nat} {x : Conn} (hx : d.conn? c = some x) (ho : x.isOpen = true)
    (hn : ∀ k ∈ x.pkts, ackCovers cum bm k.psn = false) (stamp : Nat) (stale : Bool) :
    effect (.ackReceive c x.ver cum bm stamp stale) d = d.inc F.tbnRxPkts 1 := by
  have hnil : x.pkts.filter (fun k => ackCovers cum bm k.psn) = [] := List.filter_eq_nil_iff.mpr fun k hk => by simp [hn k hk]
  change effectAckReceive c x.ver cum bm stamp stale d = _
  unfold effectAckReceive
  simp only [Dev.onConn_open hx ho, hnil, List.isEmpty_nil]
  exact Dev.when_neg rfl

theorem effect_ackReceive_covers {d : Dev} {c cum bm : Nat} {x : Conn} (hx : d.conn? c = some x) (ho : x.isOpen = true)
    (hk : ∃ k ∈ x.pkts, ackCovers cum bm k.psn = true) (stamp : Nat) :
    effect (.ackReceive c x.ver cum bm stamp false) d =
      ((((x.pkts.filter (fun k => ackCovers cum bm k.psn)).foldl (fun d k =>
        if (d.pathSt x.peer k.path).excluded then d else d.setPath x.peer k.path { d.pathSt x.peer k.path with losses := 0 })
        ((d.inc F.tbnRxPkts 1).setConn c { x with
          pkts := x.pkts.filter (fun k => !ackCovers cum bm k.psn)
          rto := (d.inc F.tbnRxPkts 1).rd F.tbnTimer_rtoMin * usQ
          rtoFrom := d.now
          lastUse := d.now })).sentOver c).pump c).collAll := by
  obtain ⟨k, hk, hc⟩ := hk
  have hne : (x.pkts.filter (fun k => ackCovers cum bm k.psn)).isEmpty = false :=
    List.isEmpty_eq_false_iff.mpr (List.ne_nil_of_mem (List.mem_filter.mpr ⟨hk, hc⟩))
  change effectAckReceive c x.ver cum bm stamp false d = _
  unfold effectAckReceive
  simp only [Dev.onConn_open hx ho]
  rw [Dev.when_pos (by simp [hne])]
  rfl

theorem effect_notReadyReceive_open {d : Dev} {c : Nat} {x : Conn} (hx : d.conn? c = some x) (ho : x.isOpen = true) (psn : Nat) :
    effect (.notReadyReceive c x.ver psn) d = (d.inc F.tbnRxPkts 1).setConn c
      { x with pkts := x.pkts.map (fun (k : TxPkt) => if k.psn = psn then { k with noCount := true } else k) } := by
  change effectNotReadyReceive c x.ver psn d = _
  exact Dev.onConn_open hx ho _

theorem effect_nackReceive_nil {d : Dev} {c : Nat} {x : Conn} (hx : d.conn? c = some x) (ho : x.isOpen = true) (u : Bool) :
    effect (.nackReceive c x.ver [] u) d = (d.inc F.tbnRxPkts 1).pump c := by
  change effectNackReceive c x.ver [] u d = _
  exact Dev.onConn_open hx ho _

/-! ### Timers -/

theorem effect_retransmitTimeout_due {d : Dev} {c : Nat} {x : Conn} {k : TxPkt} (hx : d.conn? c = some x)
    (hk : x.pkts.find? (fun k => !k.lost) = some k) (hd : x.rtoFrom + x.rto ≤ d.now) :
    effect (.retransmitTimeout c) d =
      ((d.setConn c { x with rto := min (2 * x.rto) (d.rd F.tbnTimer_rtoMax * 100 * usQ), rtoFrom := d.now }).losePkt c k.psn).pump c := by
  change effectRetransmitTimeout c d = _
  simp only [effectRetransmitTimeout, hx, hk]
  exact Dev.when_pos (decide_eq_true hd)

theorem effect_retransmitTimeout_early {d : Dev} {c : Nat} {x : Conn} (hx : d.conn? c = some x) (hd : d.now < x.rtoFrom + x.rto) :
    effect (.retransmitTimeout c) d = d := by
  change effectRetransmitTimeout c d = _
  simp only [effectRetransmitTimeout, hx]
  cases x.pkts.find? (fun k => !k.lost) with
  | none => rfl
  | some k => exact Dev.when_neg (decide_eq_false (by omega))

theorem effect_ackSend_due {d : Dev} {c : Nat} {x : Conn} (hx : d.conn? c = some x)
    (hd : 16 ≤ x.unacked ∨ (x.ackFrom ≠ 0 ∧ x.ackFrom - 1 + 4 * usQ ≤ d.now)) : effect (.ackSend c) d = d.sendAck c false := by
  change effectAckSend c d = _
  simp only [effectAckSend, hx]
  exact Dev.when_pos (by simpa using hd)

theorem effect_ackSend_early {d : Dev} {c : Nat} {x : Conn} (hx : d.conn? c = some x) (hu : x.unacked < 16)
    (hf : x.ackFrom = 0 ∨ d.now < x.ackFrom - 1 + 4 * usQ) : effect (.ackSend c) d = d := by
  change effectAckSend c d = _
  simp only [effectAckSend, hx]
  refine Dev.when_neg (Bool.eq_false_iff.mpr fun h => ?_)
  simp only [Bool.or_eq_true, Bool.and_eq_true, decide_eq_true_eq] at h
  omega

/-- The missing PSNs that a NACK is due for (R319). -/
def Dev.nackDue (d : Dev) (x : Conn) : List Nat :=
  ((x.holes.filter (fun h => decide (h.2 + d.rd F.tbnTimer_nackHold * usQ ≤ d.now))).map (fun h => h.1)).take 16

theorem effect_nackSend {d : Dev} {c : Nat} {x : Conn} (hx : d.conn? c = some x) :
    effect (.nackSend c) d = d.when (!(d.nackDue x).isEmpty) fun d =>
      (d.setConn c { x with holes := x.holes.map (fun h => if (d.nackDue x).contains h.1 then (h.1, d.now) else h) }).sendService c ptNACK 0 0 {}
        (leBytes 4 (d.nackDue x).length ++ (d.nackDue x).flatMap (leBytes 4)) := by
  change effectNackSend c d = _
  simp only [effectNackSend, hx]
  unfold Dev.when
  rfl

theorem effect_nackSend_due {d : Dev} {c : Nat} {x : Conn} (hx : d.conn? c = some x) (hne : d.nackDue x ≠ []) :
    effect (.nackSend c) d = (d.setConn c { x with holes := x.holes.map (fun h => if (d.nackDue x).contains h.1 then (h.1, d.now) else h) }).sendService c ptNACK 0 0 {}
      (leBytes 4 (d.nackDue x).length ++ (d.nackDue x).flatMap (leBytes 4)) :=
  (effect_nackSend hx).trans (Dev.when_pos (by simp [hne]))

theorem effect_nackSend_early {d : Dev} {c : Nat} {x : Conn} (hx : d.conn? c = some x)
    (hd : ∀ h ∈ x.holes, d.now < h.2 + d.rd F.tbnTimer_nackHold * usQ) : effect (.nackSend c) d = d := by
  have hnil : d.nackDue x = [] := by
    unfold Dev.nackDue
    rw [List.filter_eq_nil_iff.mpr fun h hh => by simpa using hd h hh]
    rfl
  exact (effect_nackSend hx).trans (Dev.when_neg (by simp [hnil]))

/-! ### Rates -/

/-- The rate after a CNP: lower by one part in 2^b, not below RMIN, and once per DEC_GAP (R326). -/
def Dev.slowed (d : Dev) (x : Conn) : Conn :=
  if x.decAt = 0 ∨ x.decAt - 1 + d.rd F.tbnCc_decGap * usQ ≤ d.now then
    { x with rate := max (x.rate * (2 ^ d.rd F.tbnCc_betaShift - 1) / 2 ^ d.rd F.tbnCc_betaShift) (d.rd F.tbnCcMin_rmin * 1000000), decAt := d.now + 1 }
  else x

theorem Dev.slowed_rate (d : Dev) (x : Conn) : (d.slowed x).rate =
    if x.decAt = 0 ∨ x.decAt - 1 + d.rd F.tbnCc_decGap * usQ ≤ d.now
      then max (x.rate * (2 ^ d.rd F.tbnCc_betaShift - 1) / 2 ^ d.rd F.tbnCc_betaShift) (d.rd F.tbnCcMin_rmin * 1000000) else x.rate := by
  unfold Dev.slowed
  split <;> rfl

/-- Counting a packet and its CNP moves no register of the rate control. -/
theorem Dev.rd_counted (d : Dev) {f : Fld} (h1 : f.addr ≠ F.tbnRxPkts.addr) (h2 : f.addr ≠ F.tbnCnpRx.addr) :
    ((d.inc F.tbnRxPkts 1).incSat F.tbnCnpRx 1).rd f = d.rd f :=
  (Dev.rd_wr_ne _ _ _ _ h2).trans (Dev.rd_wr_ne _ _ _ _ h1)

theorem effect_cnpReceive_open {d : Dev} {c : Nat} {x : Conn} (hx : d.conn? c = some x) (ho : x.isOpen = true) (he : d.flag F.tbnCc_en = true) :
    effect (.cnpReceive c x.ver) d = ((d.inc F.tbnRxPkts 1).incSat F.tbnCnpRx 1).setConn c
      { d.slowed x with step := d.rd F.tbnCc_aiStep * 1000000, quiet := 0, quietFrom := d.now } := by
  have hflag : ((d.inc F.tbnRxPkts 1).incSat F.tbnCnpRx 1).flag F.tbnCc_en = true :=
    (congrArg (· == 1) (Dev.rd_counted d (by decide) (by decide))).trans he
  change effectCnpReceive c x.ver d = _
  unfold effectCnpReceive
  rw [Dev.onConn_open hx ho]
  dsimp only
  rw [Dev.when_pos hflag]
  simp only [Dev.rd_counted d (f := F.tbnCc_betaShift) (by decide) (by decide), Dev.rd_counted d (f := F.tbnCc_decGap) (by decide) (by decide),
    Dev.rd_counted d (f := F.tbnCcMin_rmin) (by decide) (by decide), Dev.rd_counted d (f := F.tbnCc_aiStep) (by decide) (by decide),
    Dev.incSat_now, Dev.inc_now]
  rfl

theorem effect_rateIncrease_due {d : Dev} {c : Nat} {x : Conn} (hx : d.conn? c = some x) (ho : x.isOpen = true) (he : d.flag F.tbnCc_en = true)
    (hd : x.quietFrom + d.rd F.tbnCc_incPeriod * usQ ≤ d.now) :
    effect (.rateIncrease c) d = d.setConn c { x with
      rate := min (x.rate + if d.rd F.tbnCc_fastN ≤ x.quiet then 2 * x.step else x.step) (d.fullRate x.peer)
      step := if d.rd F.tbnCc_fastN ≤ x.quiet then 2 * x.step else x.step
      quiet := x.quiet + 1
      quietFrom := d.now } := by
  change effectRateIncrease c d = _
  simp only [effectRateIncrease, hx]
  exact Dev.when_pos (by simp [ho, he, hd])

theorem effect_rateIncrease_early {d : Dev} {c : Nat} {x : Conn} (hx : d.conn? c = some x)
    (hd : d.now < x.quietFrom + d.rd F.tbnCc_incPeriod * usQ) : effect (.rateIncrease c) d = d := by
  change effectRateIncrease c d = _
  simp only [effectRateIncrease, hx]
  exact Dev.when_neg (by simp [hd])

/-- Settles O46: what each acknowledgement, timer and rate step of a connection does, when it is due and before. -/
theorem acksLossesAndRates : Obligations.AcksLossesAndRates := by
  unfold Obligations.AcksLossesAndRates
  refine ⟨⟨?_, ?_, ?_, ?_, ?_, ?_⟩, ?_, ?_⟩
  · exact fun s c cum bm stamp stale x hx ho hn => answers_of_effect (effect_ackReceive_nothing hx ho hn stamp stale)
  · exact fun s c cum bm stamp x hx ho hk => answers_of_effect (effect_ackReceive_covers hx ho hk stamp)
  · intro s c psn x hx ho
    apply completes_of_effect
    rw [effect_notReadyReceive_open hx ho]
    exact ⟨Dev.conn?_setConn_self .., Dev.setConn_keep (by decide) (Dev.inc_keep (by decide) (chg_refl [.regs, .tbn] _))⟩
  · exact fun s c u x hx ho => answers_of_effect (effect_nackReceive_nil hx ho u)
  · exact fun s c x k hx hk =>
      ⟨fun hd => answers_of_effect (effect_retransmitTimeout_due hx hk hd), fun hd => answers_of_effect (effect_retransmitTimeout_early hx hd)⟩
  · intro s c x hx
    refine ⟨fun hd => answers_of_effect (effect_ackSend_due hx hd), fun hu hf => answers_of_effect (effect_ackSend_early hx hu hf),
      fun hd => answers_of_effect (effect_nackSend_early hx hd), ?_⟩
    rintro due rfl hne
    exact answers_of_effect (effect_nackSend_due hx hne)
  · intro s c x hx ho he
    apply completes_of_effect
    rw [effect_cnpReceive_open hx ho he]
    refine ⟨_, Dev.conn?_setConn_self .., rfl, rfl, rfl, ?_, s.dev.slowed_rate x⟩
    rw [Dev.rd_setConn_ne _ _ _ (by decide), Dev.rd_incSat _ _ _ (by decide), Dev.inc, Dev.rd_wr_ne _ _ _ _ (by decide)]
    rfl
  · intro s c x hx ho he
    refine ⟨fun hd => completes_of_effect ?_, fun hd => answers_of_effect (effect_rateIncrease_early hx hd)⟩
    rw [effect_rateIncrease_due hx ho he hd]
    exact ⟨_, Dev.conn?_setConn_self .., rfl, rfl, rfl, Dev.setConn_chg ..⟩

end Sys2Proof.Machine
end

section
/-! Connections open and close, paths are excluded and probed (14_tabnus_transport.md R313, R314, R322 to R324). -/

namespace Sys2Proof.Machine

/-! ### Sending changes no connection's part and only counts in registers -/

theorem Dev.keeps_sendPacket (d : Dev) (peer path queue type : Nat) (header payload : List Byte) {ks : List Nat} (h : F.tbnTxPkts.addr ∈ ks) :
    d.keeps (d.sendPacket peer path queue type header payload) ks :=
  Dev.keeps_wr (f := F.tbnTxPkts) _ h fun _ _ => Dev.setFab_reg ..

theorem Dev.sendPacket_tbn (d : Dev) (peer path queue type : Nat) (header payload : List Byte) :
    (d.sendPacket peer path queue type header payload).tbn = d.tbn :=
  (Dev.sendPacket_chg ..).rest .tbn (by decide)

/-- What a step of sending leaves as it was: every register but the count of connections and the two of packets sent, and the part of the
connection that sends. -/
structure Dev.sendsOn (d e : Dev) (c : Nat) : Prop where
  keeps : d.keeps e [F.tbnConns.addr, F.tbnTxPkts.addr, F.tbnRetx.addr]
  part : (e.conn? c).map (·.part) = (d.conn? c).map (·.part)

theorem Dev.sendsOn.refl (d : Dev) (c : Nat) : d.sendsOn d c := ⟨Dev.keeps_refl _ _, rfl⟩

theorem Dev.sendsOn.trans {d e f : Dev} {c : Nat} (h : d.sendsOn e c) (g : e.sendsOn f c) : d.sendsOn f c :=
  ⟨Dev.keeps_trans h.keeps g.keeps, g.part.trans h.part⟩

theorem Dev.sendsOn_setConn {d : Dev} {c : Nat} {x y : Conn} (hx : d.conn? c = some x) (hp : y.part = x.part) : d.sendsOn (d.setConn c y) c :=
  ⟨fun k hk => Dev.reg_setConn_ne d c y fun h => hk (h ▸ List.mem_cons_self), by rw [Dev.conn?_setConn_self, hx, Option.map_some, Option.map_some, hp]⟩

theorem Dev.sendsOn_sendPacket (d : Dev) (c peer path queue type : Nat) (header payload : List Byte) :
    d.sendsOn (d.sendPacket peer path queue type header payload) c :=
  ⟨Dev.keeps_sendPacket d peer path queue type header payload (by simp), congrArg _ (Dev.conn?_of_tbn (Dev.sendPacket_tbn ..) c)⟩

theorem Dev.sendsOn_resend {d e : Dev} {c : Nat} {x : Conn} {k : TxPkt} (hx : d.conn? c = some x) (h : d.resend c x k = some e) : d.sendsOn e c := by
  unfold Dev.resend at h
  dsimp only at h
  split at h
  · exact absurd h (by simp)
  · split at h
    · obtain rfl := Option.some.inj h
      exact ((Dev.sendsOn_setConn hx (by rfl)).trans (Dev.sendsOn_sendPacket ..)).trans
        ⟨Dev.keeps_wr (f := F.tbnRetx) _ (by simp) (Dev.keeps_refl _ _), congrArg _ (Dev.conn?_of_tbn (Dev.incSat_tbn ..) c)⟩
    · exact absurd h (by simp)

theorem Dev.sendsOn_sendNext {d e : Dev} {c : Nat} {x : Conn} {m : TxMsg} (hx : d.conn? c = some x) (h : d.sendNext c x m = some e) :
    d.sendsOn e c := by
  unfold Dev.sendNext at h
  dsimp only at h
  split at h
  · exact absurd h (by simp)
  · split at h
    · obtain rfl := Option.some.inj h
      exact (Dev.sendsOn_setConn hx (by rfl)).trans (Dev.sendsOn_sendPacket ..)
    · exact absurd h (by simp)

theorem Dev.sendsOn_pumpGo (fuel c : Nat) (d : Dev) : d.sendsOn (d.pumpGo fuel c) c := by
  induction fuel generalizing d with
  | zero => exact Dev.sendsOn.refl d c
  | succ fuel ih =>
    unfold Dev.pumpGo
    split
    · exact Dev.sendsOn.refl d c
    next x hx =>
      split
      · exact Dev.sendsOn.refl d c
      · split
        next k _ =>
          split
          next e he => exact (Dev.sendsOn_resend hx he).trans (ih e)
          next => exact Dev.sendsOn.refl d c
        next =>
          split
          · exact Dev.sendsOn.refl d c
          · split
            · exact Dev.sendsOn.refl d c
            next m _ =>
              split
              next e he => exact (Dev.sendsOn_sendNext hx he).trans (ih e)
              next => exact Dev.sendsOn.refl d c

/-- Opening a connection changes neither its part nor what a HELLO body says. -/
theorem Dev.sendsOn_openWith (d : Dev) (c port remote ver payload : Nat) : d.sendsOn (d.openWith c port remote ver payload) c := by
  unfold Dev.openWith
  split
  · exact Dev.sendsOn.refl d c
  next x hx =>
    have hpeer : ∀ p y, d.sendsOn (d.setPeer p y) c := fun p y => ⟨fun k _ => Dev.setTbn_reg .., rfl⟩
    refine ((hpeer _ _).trans (Dev.sendsOn_setConn (x := x) hx ?_)).trans (Dev.sendsOn_pumpGo 8192 c _)
    split <;> rfl

theorem Dev.maxPayload_of_keeps {d e : Dev} {ks : List Nat} (h : d.keeps e ks)
    (hk : ∀ p < 24, (F.fabPortCfg_enable p).addr ∉ ks ∧ (F.fabPortCfg_maxFrame p).addr ∉ ks) : e.maxPayload = d.maxPayload := by
  unfold Dev.maxPayload Dev.flag
  have hframes : ((List.range 24).filter fun p => e.rd (F.fabPortCfg_enable p) == 1).map (fun p => e.rd (F.fabPortCfg_maxFrame p)) =
      ((List.range 24).filter fun p => d.rd (F.fabPortCfg_enable p) == 1).map (fun p => d.rd (F.fabPortCfg_maxFrame p)) := by
    rw [List.filter_congr fun p hp => congrArg (· == 1) (Dev.rd_of_keeps h (hk p (List.mem_range.mp hp)).1)]
    exact List.map_congr_left fun p hp => Dev.rd_of_keeps h (hk p (List.mem_range.mp ((List.mem_filter.mp hp).1))).2
  rw [hframes]

theorem Dev.helloBody_openWith (d : Dev) (c port remote ver payload part : Nat) :
    (d.openWith c port remote ver payload).helloBody c part = d.helloBody c part := by
  have hkeep := (d.sendsOn_openWith c port remote ver payload).keeps
  have hid : (d.openWith c port remote ver payload).deviceId = d.deviceId := (Dev.openWith_chg ..).rest .deviceId (by decide)
  unfold Dev.helloBody
  rw [hid, Dev.rd_of_keeps hkeep (by decide), Dev.rd_of_keeps hkeep (by decide), Dev.maxPayload_of_keeps hkeep (by decide)]

theorem Dev.partOf_openWith (d : Dev) (c port remote ver payload : Nat) :
    (((d.openWith c port remote ver payload).conn? c).map (·.part)).getD 0 = ((d.conn? c).map (·.part)).getD 0 :=
  congrArg (Option.getD · 0) (d.sendsOn_openWith c port remote ver payload).part

/-! ### HELLO and its answers -/

/-- A HELLO's sender, with its epoch and the port that it came by. -/
def Dev.heardHello (d : Dev) (port : Nat) (b : Cmd) : Dev :=
  d.setPeer (cmdBits b 0 0 64) { d.peer (cmdBits b 0 0 64) with
    epoch := cmdBits b 20 0 32
    ports := if (d.peer (cmdBits b 0 0 64)).ports.contains port then (d.peer (cmdBits b 0 0 64)).ports
      else (d.peer (cmdBits b 0 0 64)).ports ++ [port] }

theorem effect_helloReceive_disagrees {d : Dev} {port : Nat} {b : Cmd}
    (hv : (d.heardHello port b).agreedVersion (cmdBits b 8 0 8) (cmdBits b 9 0 8) = none) :
    effect (.helloReceive port b) d = ((d.heardHello port b).sendByPort (cmdBits b 0 0 64) port ptCLOSE (cmdBits b 16 0 24) []).raise tbnPage 6 St.ok := by
  change effectHelloReceive port b d = _
  unfold Dev.heardHello at hv ⊢
  simp only [effectHelloReceive, hv]

theorem effect_helloReceive_known {d : Dev} {port v c : Nat} {b : Cmd}
    (hv : (d.heardHello port b).agreedVersion (cmdBits b 8 0 8) (cmdBits b 9 0 8) = some v)
    (hc : ((d.heardHello port b).tbn.conns.find? (fun e => e.2.peer == cmdBits b 0 0 64 && e.2.peerPart == cmdBits b 10 0 8 &&
      (!e.2.isOpen || e.2.remote == cmdBits b 16 0 24))).map (fun e => e.1) = some c) :
    effect (.helloReceive port b) d =
      ((d.heardHello port b).openWith c port (cmdBits b 16 0 24) v (payloadOf (cmdBits b 12 0 16) (d.heardHello port b).maxPayload)).sendByPort
        (cmdBits b 0 0 64) port ptHELLO_ACK (cmdBits b 16 0 24)
        ((d.heardHello port b).helloBody c ((((d.heardHello port b).conn? c).map (fun x => x.part)).getD 0)) := by
  change effectHelloReceive port b d = _
  unfold Dev.heardHello at hv hc ⊢
  simp only [effectHelloReceive, hv, hc]

theorem effect_helloAckReceive_known {d : Dev} {c : Nat} {b : Cmd} {x : Conn} (hx : d.conn? c = some x) (hp : x.peer = cmdBits b 0 0 64)
    (port : Nat) :
    effect (.helloAckReceive port c b) d =
      match d.agreedVersion (cmdBits b 8 0 8) (cmdBits b 9 0 8) with
      | none => d.raise tbnPage 6 St.ok
      | some v => d.openWith c port (cmdBits b 16 0 24) v (payloadOf (cmdBits b 12 0 16) d.maxPayload) := by
  change effectHelloAckReceive port c b d = _
  simp only [effectHelloAckReceive, hx]
  exact if_neg (not_not_intro hp)

/-! ### Connections end -/

theorem effect_helloResend_due {d : Dev} {c : Nat} {x : Conn} (hx : d.conn? c = some x) (ho : x.isOpen = false) (hd : x.helloAt + msQ ≤ d.now) :
    effect (.helloResend c) d = d.sendHello c := by
  change effectHelloResend c d = _
  simp only [effectHelloResend, hx]
  exact Dev.when_pos (by simp [ho, hd])

theorem effect_closeReceive_opening {d : Dev} {c : Nat} {x : Conn} (hx : d.conn? c = some x) (ho : x.isOpen = false) :
    effect (.closeReceive c) d = d.setConn c { x with helloAt := d.now } := by
  change effectCloseReceive c d = _
  simp only [effectCloseReceive, hx]
  exact if_pos (by simp [ho])

theorem effect_closeReceive_idle {d : Dev} {c : Nat} {x : Conn} (hx : d.conn? c = some x) (ho : x.isOpen = true) (hk : x.pkts = [])
    (hm : x.msgs = []) : effect (.closeReceive c) d = (d.dropConn c).postWaiting := by
  change effectCloseReceive c d = _
  simp only [effectCloseReceive, hx]
  rw [if_neg (by simp [ho]), if_pos (by simp [hk, hm])]

theorem effect_connIdleClose_due {d : Dev} {c : Nat} {x : Conn} (hx : d.conn? c = some x) (ho : x.isOpen = true) (hk : x.pkts = [])
    (hm : x.msgs = []) (hd : x.lastUse + d.rd F.tbnConnIdle_idle * secQ ≤ d.now) :
    effect (.connIdleClose c) d = (d.closeConn c).postWaiting := by
  change effectConnIdleClose c d = _
  simp only [effectConnIdleClose, hx]
  exact Dev.when_pos (by simp [ho, hk, hm, hd])

theorem effect_connIdleClose_early {d : Dev} {c : Nat} {x : Conn} (hx : d.conn? c = some x)
    (hd : d.now < x.lastUse + d.rd F.tbnConnIdle_idle * secQ) : effect (.connIdleClose c) d = d := by
  change effectConnIdleClose c d = _
  simp only [effectConnIdleClose, hx]
  exact Dev.when_neg (by simp [hd])

/-! ### Paths and peers -/

theorem effect_probeSend_due {d : Dev} {peer path : Nat} (hx : (d.pathSt peer path).excluded = true) (hd : (d.pathSt peer path).probeAt + msQ ≤ d.now) :
    effect (.probeSend peer path) d =
      (d.setPath peer path { d.pathSt peer path with probeAt := d.now }).sendPacket peer path 5 ptPROBE
        (tbnHeader 1 ptPROBE 0 0 path 0 d.now 0 { len := 1 }) [] := by
  change effectProbeSend peer path d = _
  unfold effectProbeSend
  exact Dev.when_pos (by simp [hx, hd])

theorem effect_probeSend_active {d : Dev} {peer path : Nat} (hx : (d.pathSt peer path).excluded = false) : effect (.probeSend peer path) d = d := by
  change effectProbeSend peer path d = _
  unfold effectProbeSend
  exact Dev.when_neg (by simp [hx])

theorem Dev.peer_setPeer_self (d : Dev) (p : Nat) (x : Peer) : (d.setPeer p x).peer p = x := by
  simp [Dev.peer, Dev.setPeer, mapGet]

theorem Dev.pathSt_setPath_self (d : Dev) (peer path : Nat) (x : PathSt) : (d.setPath peer path x).pathSt peer path = x := by
  simp [Dev.pathSt, Dev.setPath, Dev.peer_setPeer_self, mapGet]

/-- The peer has been heard by the port of a path. -/
def Dev.heardPath (d : Dev) (peer path : Nat) : Dev :=
  d.setPeer peer { d.peer peer with
    ports := if (d.peer peer).ports.contains (d.pathPort path) then (d.peer peer).ports else (d.peer peer).ports ++ [d.pathPort path] }

theorem Dev.pathSt_heardPath (d : Dev) (peer path : Nat) : (d.heardPath peer path).pathSt peer path = d.pathSt peer path := by
  unfold Dev.pathSt Dev.heardPath
  rw [Dev.peer_setPeer_self]

theorem effect_probeReceive_excluded {d : Dev} {peer path : Nat} (hx : (d.pathSt peer path).excluded = true) :
    effect (.probeReceive peer path) d =
      ((((d.heardPath peer path).setPath peer path {}).setPeer peer { ((d.heardPath peer path).setPath peer path {}).peer peer with gone := 0 }).raise
        tbnPage 1 St.ok).pumpAll := by
  change effectProbeReceive peer path d = _
  unfold effectProbeReceive
  exact if_pos ((congrArg (·.excluded) (d.pathSt_heardPath peer path)).trans hx)

theorem effect_peerUnreachable_due {d : Dev} {peer : Nat} (hg : (d.peer peer).gone ≠ 0)
    (hd : (d.peer peer).gone - 1 + d.timeout tbnPage (50 * msQ) ≤ d.now) :
    effect (.peerUnreachable peer) d = (((d.losePeer peer St.peerUnreachable).raise tbnPage 2 St.peerUnreachable).reportUnreach peer).postWaiting := by
  change effectPeerUnreachable peer d = _
  unfold effectPeerUnreachable
  exact Dev.when_pos (by simp [hg, hd])

theorem effect_tbnAssistDoorbell_none {d : Dev} {h : Nat} (hr : d.tbn.peers.find? (fun e => e.2.assist == h && h != 0) = none) (f : Nat) :
    effect (.tbnAssistDoorbell f h) d = d.badDoorbell f tbnPage := by
  change effectTbnAssistDoorbell f h d = _
  simp only [effectTbnAssistDoorbell, hr]

theorem effect_tbnAssistDoorbell_retry {d : Dev} {h peer : Nat} {x : Peer}
    (hr : d.tbn.peers.find? (fun e => e.2.assist == h && h != 0) = some (peer, x)) (hm : d.rd F.tbnAssistPaths ≠ 0) (f : Nat) {e : Dev}
    (he : e = ((d.setPeer peer { x with assist := 0 }).sixRelease h St.ok).showTbnAssist) :
    effect (.tbnAssistDoorbell f h) d =
      (e.setPeer peer { e.peer peer with
        paths := (e.peer peer).paths.map (fun y => if bitOf (d.rd F.tbnAssistPaths) (e.pathPort y.1) then (y.1, ({} : PathSt)) else y)
        gone := e.now + 1 }).pumpAll := by
  change effectTbnAssistDoorbell f h d = _
  simp only [effectTbnAssistDoorbell, hr]
  rw [if_neg hm, he]

/-- Settles O47: a connection opens by its HELLO at a version of both, and closes; a path is probed until it answers; a peer without a path
is given up after the bound. -/
theorem connectionsAndPaths : Obligations.ConnectionsAndPaths := by
  unfold Obligations.ConnectionsAndPaths
  refine ⟨?_, ?_, ?_, ?_, ?_, ?_, ?_⟩
  · intro s port b
    refine ⟨fun hv => answers_of_effect (effect_helloReceive_disagrees hv), fun v c hv hc => ?_⟩
    refine answers_of_effect ((effect_helloReceive_known hv hc).trans ?_)
    rw [Dev.helloBody_openWith, Dev.partOf_openWith]
    rfl
  · intro s port c b x hx hp
    exact ⟨fun hv => answers_of_effect ((effect_helloAckReceive_known hx hp port).trans (by rw [hv])),
      fun v hv => answers_of_effect ((effect_helloAckReceive_known hx hp port).trans (by rw [hv]))⟩
  · intro s c x hx
    refine ⟨fun ho hd => answers_of_effect (effect_helloResend_due hx ho hd), fun ho => completes_of_effect ?_, fun ho hk hm => ?_⟩
    · rw [effect_closeReceive_opening hx ho]
      exact ⟨Dev.conn?_setConn_self .., Dev.setConn_chg ..⟩
    · exact ⟨answers_of_effect (effect_closeReceive_idle hx ho hk hm), fun hd => answers_of_effect (effect_connIdleClose_due hx ho hk hm hd),
        fun hd => answers_of_effect (effect_connIdleClose_early hx hd)⟩
  · intro s peer path
    refine ⟨fun hx hd => answers_of_effect (effect_probeSend_due hx hd), fun hx => answers_of_effect (effect_probeSend_active hx), fun hx => ?_⟩
    exact ⟨congrArg (·.excluded) (Dev.pathSt_setPath_self ..), answers_of_effect (effect_probeReceive_excluded hx)⟩
  · exact fun s peer hg hd => answers_of_effect (effect_peerUnreachable_due hg hd)
  · intro s f h hr
    apply completes_of_effect
    rw [effect_tbnAssistDoorbell_none hr]
    exact Dev.recorded_badAccess ..
  · exact fun s f h peer x hr hm => answers_of_effect (effect_tbnAssistDoorbell_retry hr hm f rfl)

end Sys2Proof.Machine
end

section
/-! The host link: Function Level Reset, PERST_B, link events and configuration accesses (17_host_link_and_signpost.md R374 to R380, 20_time_power_module.md R446). -/

namespace Sys2Proof.Machine

/-! ### Resets by the link -/

theorem effect_vfFlr_vf {d : Dev} {f : Nat} (h1 : 1 ≤ f) (h8 : f ≤ 8) : effect (.vfFlr f) d = d.flr f := by
  change effectVfFlr f d = _
  exact Dev.when_pos (decide_eq_true ⟨h1, h8⟩)

theorem effect_vfFlr_other {d : Dev} {f : Nat} (h : f = 0 ∨ 8 < f) : effect (.vfFlr f) d = d := by
  change effectVfFlr f d = _
  exact Dev.when_neg (decide_eq_false (by omega))

theorem effect_perstAssert_low {d : Dev} (h : d.pwr.mode = 3 ∨ d.pwr.mode = 4) :
    effect (.perstAssert 0) d = d.setPwr { d.pwr with perstA := true } := by
  change effectPerstAssert 0 d = _
  unfold effectPerstAssert
  rw [if_pos h]
  exact Dev.when_pos rfl

theorem effect_perstAssert_running {d : Dev} (h3 : d.pwr.mode ≠ 3) (h4 : d.pwr.mode ≠ 4) (hr : d.pwr.rail = true) (hg : d.pwr.good = true)
    {e : Dev} (he : e = (d.linkFuncs 0).foldl Dev.resetConfig
      ((d.linkGone 0).setHif { d.hif with perst := if d.hif.perst.contains 0 then d.hif.perst else d.hif.perst ++ [0] })) :
    effect (.perstAssert 0) d = (e.setHif { e.hif with ready := false }).startD3 := by
  subst he
  change effectPerstAssert 0 d = _
  unfold effectPerstAssert
  rw [if_neg (by simp [h3, h4]), Dev.when_pos (by simp [hr, hg])]
  simp only [↓reduceIte]

theorem effect_perstAssert_unsplit {d : Dev} (h3 : d.pwr.mode ≠ 3) (h4 : d.pwr.mode ≠ 4) (hs : d.split = false) : effect (.perstAssert 1) d = d := by
  change effectPerstAssert 1 d = _
  unfold effectPerstAssert
  rw [if_neg (by simp [h3, h4])]
  exact Dev.when_neg (by simp [hs])

theorem effect_perstRelease_wakes {d : Dev} (h : d.pwr.perstA = true) :
    effect (.perstRelease 0) d = (d.setPwr { d.pwr with perstA := false }).wakeUp := by
  change effectPerstRelease 0 d = _
  exact if_pos ⟨h, rfl⟩

theorem effect_perstRelease_running {d : Dev} (h : d.pwr.perstA = false) (l : Nat) :
    effect (.perstRelease l) d = d.setHif { d.hif with perst := d.hif.perst.filter (· != l) } := by
  change effectPerstRelease l d = _
  exact if_neg (by simp [h])

/-! ### Link events -/

theorem effect_hotReset_unused {d : Dev} {l : Nat} (h : d.linkFuncs l = []) : effect (.hotReset l) d = d := by
  change effectHotReset l d = _
  exact Dev.when_neg (by simp [h])

theorem effect_hotReset_used {d : Dev} {l : Nat} (h : d.linkFuncs l ≠ []) :
    effect (.hotReset l) d = ((d.linkFuncs l).foldl (fun d f =>
      let d := d.resetConfig f
      let d := ((List.range 8).filter (fun p => d.flag (F.glbPart_enable p) && d.partFunc p == f)).foldl (fun d p =>
        (d.partQueues p).foldl (fun d q => d.disableQueue q false) d) d
      d.hostLost f) d).linkGone l := by
  change effectHotReset l d = _
  exact Dev.when_pos (by simp [h])

theorem effect_hostLinkLost_unused {d : Dev} {l : Nat} (h : d.linkFuncs l = []) : effect (.hostLinkLost l) d = d := by
  change effectHostLinkLost l d = _
  exact Dev.when_neg (by simp [h])

theorem Dev.linkFuncs_of_split {d e : Dev} (h : e.split = d.split) (l : Nat) : e.linkFuncs l = d.linkFuncs l := by
  unfold Dev.linkFuncs
  rw [h]

theorem Dev.keeps_linkGone (d : Dev) (l : Nat) : d.keeps (d.linkGone l) [F.hifLinkA_rate.addr, F.hifLinkB_rate.addr] := by
  unfold Dev.linkGone
  split
  · exact Dev.keeps_wr (f := F.hifLinkA_flit) _ (by decide) (Dev.keeps_wr (f := F.hifLinkA_width) _ (by decide)
      (Dev.keeps_wr (f := F.hifLinkA_rate) _ (by decide) (Dev.keeps_refl _ _)))
  · exact Dev.keeps_wr (f := F.hifLinkB_flit) _ (by decide) (Dev.keeps_wr (f := F.hifLinkB_width) _ (by decide)
      (Dev.keeps_wr (f := F.hifLinkB_rate) _ (by decide) (Dev.keeps_refl _ _)))

/-- A lost link leaves the functions' place on the links as it was. -/
theorem Dev.split_linkGone_raise (d : Dev) (l : Nat) : ((d.linkGone l).raise hifPage l St.ok).split = d.split :=
  congrArg (· == 1) ((Dev.rd_of_keeps (Dev.keeps_raise _ hifPage l St.ok {}) (by decide)).trans (Dev.rd_of_keeps (d.keeps_linkGone l) (by decide)))

theorem effect_hostLinkLost_used {d : Dev} {l : Nat} (h : d.linkFuncs l ≠ []) :
    effect (.hostLinkLost l) d = (d.linkFuncs l).foldl Dev.hostLost ((d.linkGone l).raise hifPage l St.ok) := by
  change effectHostLinkLost l d = _
  unfold effectHostLinkLost
  rw [Dev.when_pos (by simp [h])]
  dsimp only
  rw [Dev.linkFuncs_of_split (Dev.split_linkGone_raise ..)]

/-- Link A shows the rate, the width and the flit mode that it came up with. -/
def Dev.showLinkA (d : Dev) (rate width : Nat) (flit : Bool) : Dev :=
  ((d.wr F.hifLinkA_rate rate).wr F.hifLinkA_width width).setFlag F.hifLinkA_flit flit

theorem Dev.rate_showLinkA (d : Dev) {rate : Nat} (width : Nat) (flit : Bool) (h : rate ≤ 3) : (d.showLinkA rate width flit).rd F.hifLinkA_rate = rate := by
  unfold Dev.showLinkA Dev.setFlag
  rw [Dev.rd_wr_apart _ _ _ _ (by decide) (by decide), Dev.rd_wr_apart _ _ _ _ (by decide) (by decide), Dev.rd_wr_self _ _ _ (by decide)]
  exact Nat.mod_eq_of_lt (show rate < 4 by omega)

theorem Dev.width_showLinkA (d : Dev) (rate : Nat) {width : Nat} (flit : Bool) (h : width ≤ 16) : (d.showLinkA rate width flit).rd F.hifLinkA_width = width := by
  unfold Dev.showLinkA Dev.setFlag
  rw [Dev.rd_wr_apart _ _ _ _ (by decide) (by decide), Dev.rd_wr_self _ _ _ (by decide)]
  exact Nat.mod_eq_of_lt (show width < 32 by omega)

theorem Dev.flit_showLinkA (d : Dev) (rate width : Nat) (flit : Bool) : (d.showLinkA rate width flit).flag F.hifLinkA_flit = flit :=
  Dev.flag_setFlag_self _ _ _ (by decide) (by decide)

theorem Dev.keeps_showLinkA (d : Dev) (rate width : Nat) (flit : Bool) : d.keeps (d.showLinkA rate width flit) [F.hifLinkA_rate.addr] :=
  Dev.keeps_wr (f := F.hifLinkA_flit) _ (by decide) (Dev.keeps_wr (f := F.hifLinkA_width) _ (by decide)
    (Dev.keeps_wr (f := F.hifLinkA_rate) _ (by decide) (Dev.keeps_refl _ _)))

/-- What the registers say of link A once it is up. -/
theorem Dev.linkA_up {d e : Dev} {rate width : Nat} {flit : Bool} (he : ∀ k, e.reg k = (d.showLinkA rate width flit).reg k) (hr : rate ≤ 3)
    (hw : width ≤ 16) (hwake : e.pwr.wake = false) :
    e.rd F.hifLinkA_rate = rate ∧ e.rd F.hifLinkA_width = width ∧ e.flag F.hifLinkA_flit = flit ∧ e.pwr.wake = false ∧
      d.keeps e [F.hifLinkA_rate.addr] :=
  ⟨(Dev.rd_of_reg (he _)).trans (d.rate_showLinkA width flit hr), (Dev.rd_of_reg (he _)).trans (d.width_showLinkA rate flit hw),
    (congrArg (· == 1) (Dev.rd_of_reg (he _))).trans (d.flit_showLinkA rate width flit), hwake,
    Dev.keeps_trans (d.keeps_showLinkA rate width flit) fun k _ => he k⟩

theorem Dev.linkFuncs_zero_ne_nil (d : Dev) : d.linkFuncs 0 ≠ [] := by
  unfold Dev.linkFuncs
  split <;> simp

theorem effect_pcieLinkUp_a {d : Dev} {rate width : Nat} {flit : Bool} (hp : d.hif.perst.contains 0 = false) (h1 : 1 ≤ rate)
    (hm : rate ≤ mapGet 3 d.hif.maxRate 0) (hw : width = 4 ∨ width = 8 ∨ (width = 16 ∧ d.split = false)) (hf : flit = true ∨ rate < 3)
    (hg : d.pwr.good = true) (hmode : d.pwr.mode ≤ 1) :
    effect (.pcieLinkUp 0 rate width flit) d =
      if d.pwr.wake then ((d.showLinkA rate width flit).setPwr { d.pwr with wake := false }).emit .wake 0 [0] else d.showLinkA rate width flit := by
  have hwidth : (width == 4 || width == 8 || (width == 16 && !d.split)) = true := by
    rcases hw with h | h | ⟨h, hs⟩ <;> simp [h]
    exact hs
  change effectPcieLinkUp 0 rate width flit d = _
  unfold effectPcieLinkUp
  rw [Dev.when_pos (by rw [hwidth]; simp only [List.contains_eq_mem, decide_eq_false_iff_not] at hp; simpa [hp, h1, hm, hg, hmode, d.linkFuncs_zero_ne_nil] using hf), if_pos rfl]
  rfl

/-! ### Configuration accesses -/

section
variable {d : Dev} {f : Nat} (reg : Nat) (hf : (d.linkFuncs (d.linkOf f)).contains f = true) (hp : d.hif.perst.contains (d.linkOf f) = false)
include hf hp

theorem effect_pcieConfigAccess_retry (hr : d.hif.ready = false) (val : Option Word) :
    effect (.pcieConfigAccess f reg val) d = d.emit .pcieConfig f [reg, 1] := by
  change effectPcieConfigAccess f reg val d = _
  unfold effectPcieConfigAccess
  rw [Dev.when_pos (by rw [hf, hp]; rfl)]
  exact if_pos (by simp [hr])

theorem effect_pcieConfigAccess_write (hr : d.hif.ready = true) (v : Word) :
    effect (.pcieConfigAccess f reg (some v)) d = (d.configWrite f reg v.toNat).emit .pcieConfig f [reg, 0] := by
  change effectPcieConfigAccess f reg (some v) d = _
  unfold effectPcieConfigAccess
  rw [Dev.when_pos (by rw [hf, hp]; rfl)]
  exact if_neg (by simp [hr])

theorem effect_pcieConfigAccess_read (hr : d.hif.ready = true) {w : Word} (hreg : 3 ≤ reg) (hw : mapLook d.hif.config (f * 65536 + reg) = some w) :
    effect (.pcieConfigAccess f reg none) d = d.emit .pcieConfig f [reg, 0, w.toNat] := by
  have hread : d.configRead f reg = (w.toNat, d) := by
    obtain ⟨n, rfl⟩ : ∃ n, reg = n + 3 := ⟨reg - 3, by omega⟩
    simp only [Dev.configRead, hw]
  change effectPcieConfigAccess f reg none d = _
  unfold effectPcieConfigAccess
  rw [Dev.when_pos (by rw [hf, hp]; rfl), if_neg (by simp [hr])]
  simp only [hread]

end

/-- Settles O50: each event of the host link, the rate and width that it comes up with, and the answer to a configuration access. -/
theorem hostLink : Obligations.HostLink := by
  unfold Obligations.HostLink
  refine ⟨?_, ?_, ?_, ?_, ?_, ?_, ?_⟩
  · exact fun s f => ⟨fun h1 h8 => answers_of_effect (effect_vfFlr_vf h1 h8), fun h => answers_of_effect (effect_vfFlr_other h)⟩
  · intro s h
    apply completes_of_effect
    rw [effect_perstAssert_low h]
    exact ⟨rfl, Dev.setPwr_chg ..⟩
  · exact fun s h3 h4 hr hg => answers_of_effect (effect_perstAssert_running h3 h4 hr hg rfl)
  · exact fun s h3 h4 hs => answers_of_effect (effect_perstAssert_unsplit h3 h4 hs)
  · intro s l
    refine ⟨?_, fun h => completes_of_effect ?_, fun h => ⟨answers_of_effect (effect_hotReset_unused h), answers_of_effect (effect_hostLinkLost_unused h)⟩,
      fun h => answers_of_effect (effect_hostLinkLost_used h), fun h => answers_of_effect (effect_hotReset_used h)⟩
    · rintro h rfl
      exact answers_of_effect (effect_perstRelease_wakes h)
    · rw [effect_perstRelease_running h]
      exact ⟨rfl, Dev.setHif_chg ..⟩
  · intro s rate width flit hp h1 hm h3 hw hf hg hmode
    have h16 : width ≤ 16 := by omega
    apply completes_of_effect
    rw [effect_pcieLinkUp_a hp h1 hm hw hf hg hmode]
    split
    next => exact Dev.linkA_up (fun k => by simp) h3 h16 (by simp)
    next hwake => exact Dev.linkA_up (fun _ => rfl) h3 h16 (Bool.eq_false_iff.mpr hwake)
  · intro s f reg val hf hp
    refine ⟨fun hr => answers_of_effect (effect_pcieConfigAccess_retry reg hf hp hr val), ?_, ?_⟩
    · rintro v hr rfl
      exact answers_of_effect (effect_pcieConfigAccess_write reg hf hp hr v)
    · rintro w hr rfl hreg hw
      exact answers_of_effect (effect_pcieConfigAccess_read reg hf hp hr hreg hw)

end Sys2Proof.Machine
end

section
/-! The Signpost's sources and the MSI-X vectors (17_host_link_and_signpost.md R381, R385 to R390). -/

namespace Sys2Proof.Machine

/-! ### A source's word, its line and the level shown -/

theorem Dev.keeps_showLevel (d : Dev) : d.keeps d.showLevel [F.evtLevel_level.addr] :=
  Dev.keeps_wr (f := F.evtLevel_fastBusy) _ (by decide) (Dev.keeps_wr (f := F.evtLevel_normalBusy) _ (by decide)
    (Dev.keeps_wr (f := F.evtLevel_level) _ (by decide) (Dev.keeps_refl _ _)))

theorem Dev.showLevel_evt (d : Dev) : d.showLevel.evt = d.evt := rfl

/-- The address of a source's word. -/
theorem evtSrc_addr (n : Nat) : (F.evtSrc_en n).addr = 0x21080 + 0x1000 * (n / 512) + 4 * (n % 512) := rfl

theorem evtSrc_ne_evtLevel (n : Nat) : (F.evtSrc_en n).addr ≠ F.evtLevel_level.addr := by
  simp only [evtSrc_addr, F.evtLevel_level]
  omega

theorem evtSrc_mod (n : Nat) : 0x80 ≤ (F.evtSrc_en n).addr % 0x1000 := by
  rw [evtSrc_addr]
  omega

/-- The level shown is no field of a source's word. -/
theorem Dev.rd_showLevel (d : Dev) {n : Nat} {f : Fld} (hf : f.addr = (F.evtSrc_en n).addr) : d.showLevel.rd f = d.rd f :=
  Dev.rd_of_keeps d.keeps_showLevel (by simpa [hf] using evtSrc_ne_evtLevel n)

theorem Dev.flag_showLevel (d : Dev) {n : Nat} {f : Fld} (hf : f.addr = (F.evtSrc_en n).addr) : d.showLevel.flag f = d.flag f :=
  congrArg (· == 1) (d.rd_showLevel hf)

theorem Dev.line_of_headers {d e : Dev} (h : ∀ k, k % 0x1000 < 0x80 → e.reg k = d.reg k) (p : Page) : e.line p = d.line p := by
  have hk := p.key_mod
  have hev : (hEvent p).addr % 0x1000 < 0x80 := by
    simp only [hEvent, hdrFld]
    omega
  have hen : (hEventEn p).addr % 0x1000 < 0x80 := by
    simp only [hEventEn, hdrFld]
    omega
  unfold Dev.line
  rw [h _ hev, h _ hen]

/-- A source's line stands while only the words of sources change. -/
theorem Dev.sourceLine_of_headers {d e : Dev} (h : ∀ k, k % 0x1000 < 0x80 → e.reg k = d.reg k) (n : Nat) : e.sourceLine n = d.sourceLine n := by
  unfold Dev.sourceLine
  cases sourcePage n with
  | none => rfl
  | some p => exact Dev.line_of_headers h p

theorem Dev.sourceLine_of_keeps {d e : Dev} {n : Nat} (h : d.keeps e [(F.evtSrc_en n).addr]) (m : Nat) : e.sourceLine m = d.sourceLine m :=
  Dev.sourceLine_of_headers (fun k hk => h k fun hmem => absurd (evtSrc_mod n) (by rw [← List.mem_singleton.mp hmem]; omega)) m

/-! ### Sampling -/

theorem Dev.flag_pending_sampleSource (d : Dev) (n : Nat) :
    (d.sampleSource n).flag (F.evtSrc_pending n) = (d.flag (F.evtSrc_pending n) || (d.flag (F.evtSrc_en n) && d.sourceLine n)) := by
  unfold Dev.sampleSource
  dsimp only
  split
  next h =>
    obtain ⟨hen, hline⟩ : d.flag (F.evtSrc_en n) = true ∧ d.sourceLine n = true := h
    rw [Dev.flag_setFlag_self _ _ _ (by simp [F.evtSrc_pending]) (by simp [F.evtSrc_pending]), hen, hline]
    simp
  next h =>
    have hoff : (d.flag (F.evtSrc_en n) && d.sourceLine n) = false := by
      rw [Bool.and_eq_false_iff]
      exact (Classical.not_and_iff_not_or_not.mp h).imp (Bool.eq_false_iff.mpr ·) (Bool.eq_false_iff.mpr ·)
    rw [hoff, Bool.or_false]
    rfl

/-- Sampling leaves the other fields of the source's word. -/
theorem Dev.rd_sampleSource (d : Dev) (n : Nat) {f : Fld} (hf : f.lo + f.w ≤ 29 ∨ 30 ≤ f.lo) : (d.sampleSource n).rd f = d.rd f := by
  unfold Dev.sampleSource
  dsimp only
  split
  · exact (Dev.rd_wr_apart _ _ _ _ (by simp [F.evtSrc_pending]) (by simpa [F.evtSrc_pending] using hf))
  · rfl

theorem Dev.sampleSource_service (d : Dev) (n : Nat) : (d.sampleSource n).evt.service = d.evt.service := by
  unfold Dev.sampleSource
  dsimp only
  split
  · rw [Dev.setFlag_evt, Dev.setEvt_evt]
  · rw [Dev.setEvt_evt]

/-! ### Enabling, latching, serving and ending -/

theorem Dev.flag_wr_apart (d : Dev) (f g : Fld) (v : Nat) (h : f.lo + f.w ≤ 32) (hg : g.lo + g.w ≤ f.lo ∨ f.lo + f.w ≤ g.lo) :
    (d.wr f v).flag g = d.flag g :=
  congrArg (· == 1) (Dev.rd_wr_apart _ _ _ _ h hg)

/-- The word that a write of an enabling value leaves in a PF source's register. -/
def Dev.sourceWord (d : Dev) (n : Nat) (v : Word) : Dev :=
  ((((d.setFlag (F.evtSrc_en n) (bitOf v.toNat 0)).wr (F.evtSrc_prio n) (bitsAt v.toNat 3 4)).wr (F.evtSrc_vector n) (bitsAt v.toNat 8 11)).wr
    (F.evtSrc_route n) (if bitsAt v.toNat 1 2 = 3 then 0 else bitsAt v.toNat 1 2))

theorem effect_sourceEnable_pf {d : Dev} {n : Nat} {v : Word} (hn : n < 1024) (hv : bitOf v.toNat 0 = true) (hp : (d.pageAt 0 (srcOff 0 n)).isSome = true) :
    effect (.sourceEnable 0 n v) d = ((d.sourceWord n v).sampleSource n).showLevel := by
  change effectSourceEnable 0 n v d = _
  unfold effectSourceEnable
  rw [Dev.when_pos (by simp [hv, show n < 2048 by omega]), if_neg (not_isNone_of_isSome hp)]
  unfold Dev.writeSource
  dsimp only
  rw [if_pos hn, if_pos hn, if_pos hv]
  rfl

theorem Dev.keeps_sourceWord (d : Dev) (n : Nat) (v : Word) : d.keeps (d.sourceWord n v) [(F.evtSrc_en n).addr] :=
  Dev.keeps_wr (f := F.evtSrc_route n) _ (by simp [F.evtSrc_route, F.evtSrc_en]) (Dev.keeps_wr (f := F.evtSrc_vector n) _ (by simp [F.evtSrc_vector, F.evtSrc_en])
    (Dev.keeps_wr (f := F.evtSrc_prio n) _ (by simp [F.evtSrc_prio, F.evtSrc_en]) (Dev.keeps_wr (f := F.evtSrc_en n) _ (by simp) (Dev.keeps_refl _ _))))

/-- The four fields of a stored word, and its PENDING bit, which stays. -/
theorem Dev.sourceWord_fields (d : Dev) (n : Nat) (v : Word) :
    (d.sourceWord n v).flag (F.evtSrc_en n) = bitOf v.toNat 0 ∧ (d.sourceWord n v).rd (F.evtSrc_prio n) = bitsAt v.toNat 3 4 ∧
    (d.sourceWord n v).rd (F.evtSrc_vector n) = bitsAt v.toNat 8 11 ∧
    (d.sourceWord n v).rd (F.evtSrc_route n) = (if bitsAt v.toNat 1 2 = 3 then 0 else bitsAt v.toNat 1 2) ∧
    (d.sourceWord n v).flag (F.evtSrc_pending n) = d.flag (F.evtSrc_pending n) := by
  have hroute : (if bitsAt v.toNat 1 2 = 3 then 0 else bitsAt v.toNat 1 2) < 2 ^ 2 := by
    have := bitsAt_lt v.toNat 1 2
    split <;> omega
  unfold Dev.sourceWord
  refine ⟨?_, ?_, ?_, ?_, ?_⟩
  · rw [Dev.flag_wr_apart, Dev.flag_wr_apart, Dev.flag_wr_apart, Dev.flag_setFlag_self] <;> simp [F.evtSrc_en, F.evtSrc_prio, F.evtSrc_vector, F.evtSrc_route]
  · rw [Dev.rd_wr_apart, Dev.rd_wr_apart, Dev.rd_wr_self]
    · exact Nat.mod_eq_of_lt (bitsAt_lt ..)
    all_goals simp [F.evtSrc_prio, F.evtSrc_vector, F.evtSrc_route]
  · rw [Dev.rd_wr_apart, Dev.rd_wr_self]
    · exact Nat.mod_eq_of_lt (bitsAt_lt ..)
    all_goals simp [F.evtSrc_vector, F.evtSrc_route]
  · rw [Dev.rd_wr_self]
    · exact Nat.mod_eq_of_lt hroute
    · simp [F.evtSrc_route]
  · rw [Dev.flag_wr_apart, Dev.flag_wr_apart, Dev.flag_wr_apart, Dev.setFlag, Dev.flag_wr_apart] <;>
      simp [F.evtSrc_pending, F.evtSrc_en, F.evtSrc_prio, F.evtSrc_vector, F.evtSrc_route]

/-- The latched edges of a source are taken, and an enabled source becomes PENDING. -/
theorem effect_sourceLatch_edge {d : Dev} {n : Nat} (h : n ∈ d.evt.edges) (hen : d.flag (F.evtSrc_en n) = true) :
    effect (.sourceLatch n) d = (d.setEvt { d.evt with edges := d.evt.edges.filter (· != n) }).setFlag (F.evtSrc_pending n) true := by
  change effectSourceLatch n d = _
  unfold effectSourceLatch
  rw [Dev.when_pos (List.contains_iff_mem.mpr h)]
  exact if_pos hen

theorem effect_sourceLatch_none {d : Dev} {n : Nat} (h : n ∉ d.evt.edges) : effect (.sourceLatch n) d = d := by
  change effectSourceLatch n d = _
  exact Dev.when_neg (by simpa using h)

theorem effect_sourcePresent_next {d : Dev} {n : Nat} (h : d.nextSource = some n) : effect (.sourcePresent n) d = d.serveSource n := by
  change effectSourcePresent n d = _
  exact Dev.when_pos (by simp [h])

theorem effect_sourcePresent_other {d : Dev} {n : Nat} (h : d.nextSource ≠ some n) : effect (.sourcePresent n) d = d := by
  change effectSourcePresent n d = _
  exact Dev.when_neg (by simpa using h)

/-- What the Signpost presents waits. -/
theorem Dev.nextSource_mem {d : Dev} {n : Nat} (h : d.nextSource = some n) : n ∈ d.waitingSources := by
  unfold Dev.nextSource at h
  dsimp only at h
  split at h
  · exact (List.mem_filter.mp (List.mem_of_find?_eq_some h)).1
  · split at h
    · exact absurd h (by simp)
    · split at h
      next m hm => exact Option.some.inj h ▸ List.mem_of_find?_eq_some hm
      next =>
        split at h
        · exact List.mem_of_find?_eq_some h
        · exact absurd h (by simp)

theorem Dev.mem_waitingSources {d : Dev} {n : Nat} :
    n ∈ d.waitingSources ↔ n < 1024 ∧ d.flag (F.evtSrc_pending n) = true ∧ n ∉ d.evt.service ∧ d.route n < 2 := by
  simp [Dev.waitingSources, and_assoc]

/-- A fast source waits, and no fast handler runs: a fast source is next (R387). -/
theorem Dev.nextSource_fast {d : Dev} {m : Nat} (hc : d.flag F.evtCfg_mode = false) (hh : d.handlers 1 = []) (hm : m ∈ d.waitingSources)
    (hr : d.route m = 1) : ∃ n, d.nextSource = some n ∧ d.route n = 1 := by
  unfold Dev.nextSource
  dsimp only
  rw [if_neg (by simp [hc]), if_neg (by simp [hh])]
  cases hf : d.waitingSources.find? (fun n => d.route n == 1) with
  | none => exact absurd (List.find?_eq_none.mp hf m hm) (by simp [hr])
  | some n => exact ⟨n, rfl, by simpa using List.find?_some hf⟩

theorem Dev.serveSource_service (d : Dev) (n : Nat) : (d.serveSource n).evt.service = n :: d.evt.service := by
  unfold Dev.serveSource
  rw [Dev.showLevel_evt, Dev.setEvt_evt, Dev.setFlag_evt, Dev.setFlag_evt]

theorem Dev.serveSource_flags (d : Dev) (n : Nat) :
    (d.serveSource n).flag (F.evtSrc_pending n) = false ∧ (d.serveSource n).flag (F.evtSrc_inService n) = true ∧
    (d.serveSource n).rd (F.evtSrc_vector n) = d.rd (F.evtSrc_vector n) := by
  have hevt (x : EvtState) (e : Dev) (f : Fld) : (e.setEvt x).rd f = e.rd f := Dev.rd_of_reg (Dev.setEvt_reg ..)
  unfold Dev.serveSource
  dsimp only
  rw [Dev.flag_showLevel _ (n := n) (by simp [F.evtSrc_pending, F.evtSrc_en]), Dev.flag_showLevel _ (n := n) (by simp [F.evtSrc_inService, F.evtSrc_en]),
    Dev.rd_showLevel _ (n := n) (by simp [F.evtSrc_vector, F.evtSrc_en])]
  refine ⟨?_, ?_, ?_⟩
  · rw [Dev.flag, hevt, Dev.setFlag, Dev.rd_wr_apart]
    · exact Dev.flag_setFlag_self _ _ _ (by simp [F.evtSrc_pending]) (by simp [F.evtSrc_pending])
    all_goals simp [F.evtSrc_pending, F.evtSrc_inService]
  · rw [Dev.flag, hevt]
    exact Dev.flag_setFlag_self _ _ _ (by simp [F.evtSrc_inService]) (by simp [F.evtSrc_inService])
  · rw [hevt, Dev.setFlag, Dev.rd_wr_apart, Dev.setFlag, Dev.rd_wr_apart]
    all_goals simp [F.evtSrc_pending, F.evtSrc_inService, F.evtSrc_vector]

/-- A service that ends is no longer under way, and the source's line is sampled again. -/
theorem Dev.endService_spec (d : Dev) (n : Nat) :
    n ∉ (d.endService n).evt.service ∧ (d.endService n).flag (F.evtSrc_inService n) = false ∧
    (d.endService n).flag (F.evtSrc_pending n) = (d.flag (F.evtSrc_pending n) || (d.flag (F.evtSrc_en n) && d.sourceLine n)) := by
  have hkeep : d.keeps (d.setFlag (F.evtSrc_inService n) false) [(F.evtSrc_en n).addr] :=
    Dev.keeps_wr (f := F.evtSrc_inService n) _ (by simp [F.evtSrc_inService, F.evtSrc_en]) (Dev.keeps_refl _ _)
  have hevt (x : EvtState) (e : Dev) (f : Fld) : (e.setEvt x).rd f = e.rd f := Dev.rd_of_reg (Dev.setEvt_reg ..)
  unfold Dev.endService
  dsimp only
  refine ⟨?_, ?_, ?_⟩
  · rw [Dev.showLevel_evt, Dev.sampleSource_service, Dev.setEvt_evt]
    simp
  · rw [Dev.flag_showLevel _ (n := n) (by simp [F.evtSrc_inService, F.evtSrc_en]), Dev.flag, Dev.rd_sampleSource _ _ (by simp [F.evtSrc_inService]), hevt]
    exact Dev.flag_setFlag_self _ _ _ (by simp [F.evtSrc_inService]) (by simp [F.evtSrc_inService])
  · rw [Dev.flag_showLevel _ (n := n) (by simp [F.evtSrc_pending, F.evtSrc_en]), Dev.flag_pending_sampleSource,
      Dev.sourceLine_of_headers (d := d.setFlag (F.evtSrc_inService n) false) (fun k _ => Dev.setEvt_reg ..), Dev.sourceLine_of_keeps hkeep,
      Dev.flag, Dev.flag, hevt, hevt, Dev.setFlag, Dev.rd_wr_apart, Dev.rd_wr_apart]
    · rfl
    all_goals simp [F.evtSrc_pending, F.evtSrc_inService, F.evtSrc_en]

theorem effect_hostMessage_due {d : Dev} {n : Nat} (hn : n < 2048) (hp : d.flag (F.evtSrc_pending n) = true) (hr : d.route n = 2)
    (hs : n ∉ d.evt.service) : effect (.hostMessage n) d = (d.serveSource n).sendMsix (sourceFunc n) (d.rd (F.evtSrc_vector n)) := by
  change effectHostMessage n d = _
  exact Dev.when_pos (by simp [hn, hp, hr, hs])

theorem effect_eoi_serving {d : Dev} {n : Nat} (h : n ∈ d.evt.service) : effect (.eoi (sourceFunc n) n) d = d.endService n := by
  change effectEoi (sourceFunc n) n d = _
  exact Dev.when_pos (by simp [h])

theorem effect_eoi_other {d : Dev} {n : Nat} (h : n ∉ d.evt.service) : effect (.eoi (sourceFunc n) n) d = d := by
  change effectEoi (sourceFunc n) n d = _
  exact Dev.when_neg (by simp [h])

/-! ### MSI-X vectors -/

/-- An unmasked vector's control word is 0, and its pending message is sent (R381). -/
theorem effect_vectorUnmask_own {d : Dev} {f n : Nat} (hf : f ≤ 8) (hn : n < vectors f) {e : Dev}
    (he : e = d.setMsix (mapPut d.msix (f * 65536 + n * 4 + 3) 0)) :
    effect (.vectorUnmask f n) d =
      if d.msixPend.contains (f * 4096 + n) = true then (e.setMsixPend (d.msixPend.filter (· != f * 4096 + n))).sendMsix f n else e := by
  subst he
  change effectVectorUnmask f n d = _
  unfold effectVectorUnmask
  rw [Dev.when_pos (decide_eq_true ⟨hf, hn⟩)]
  unfold Dev.vectorControl
  simp only [show (0 : Word) &&& 1#32 = 0 from rfl, show (0 : Word).toNat % 2 = 0 from rfl, Dev.setMsix_msixPend, true_and]

/-- Settles O51: a source is enabled, latched, served and ended, and a vector unmasked. -/
theorem interrupts : Obligations.Interrupts := by
  unfold Obligations.Interrupts
  refine ⟨?_, ?_, ?_, ?_, ?_, ?_, ?_, ?_⟩
  · intro s n v hn hv hp
    apply completes_of_effect
    rw [effect_sourceEnable_pf hn hv hp]
    obtain ⟨hen, hprio, hvec, hroute, hpend⟩ := s.dev.sourceWord_fields n v
    refine ⟨?_, ?_, ?_, ?_, ?_⟩
    · rw [Dev.flag_showLevel _ rfl, Dev.flag, Dev.rd_sampleSource _ _ (by simp [F.evtSrc_en])]
      exact hen.trans hv
    · rw [Dev.rd_showLevel _ (n := n) (by simp [F.evtSrc_prio, F.evtSrc_en]), Dev.rd_sampleSource _ _ (by simp [F.evtSrc_prio]), hprio]
    · rw [Dev.rd_showLevel _ (n := n) (by simp [F.evtSrc_vector, F.evtSrc_en]), Dev.rd_sampleSource _ _ (by simp [F.evtSrc_vector]), hvec]
    · rw [Dev.rd_showLevel _ (n := n) (by simp [F.evtSrc_route, F.evtSrc_en]), Dev.rd_sampleSource _ _ (by simp [F.evtSrc_route]), hroute]
    · rw [Dev.flag_showLevel _ (n := n) (by simp [F.evtSrc_pending, F.evtSrc_en]), Dev.flag_pending_sampleSource, hpend, hen, hv, Bool.true_and,
        Dev.sourceLine_of_keeps (s.dev.keeps_sourceWord n v)]
  · intro s n _
    refine ⟨fun h hen => completes_of_effect ?_, fun h => answers_of_effect (effect_sourceLatch_none h)⟩
    rw [effect_sourceLatch_edge h hen]
    refine ⟨Dev.flag_setFlag_self _ _ _ (by simp [F.evtSrc_pending]) (by simp [F.evtSrc_pending]), ?_⟩
    rw [Dev.setFlag_evt, Dev.setEvt_evt]
    simp
  · intro s n h
    obtain ⟨hn, hp, hs, -⟩ := Dev.mem_waitingSources.mp (Dev.nextSource_mem h)
    obtain ⟨hpend, hserv, -⟩ := s.dev.serveSource_flags n
    refine ⟨hn, hp, hs, completes_of_effect ?_⟩
    rw [effect_sourcePresent_next h]
    exact ⟨s.dev.serveSource_service n, hpend, hserv⟩
  · exact fun s n h => answers_of_effect (effect_sourcePresent_other h)
  · exact fun s m hc hh hm hr => Dev.nextSource_fast hc hh hm hr
  · intro s n hn hp hr hs
    obtain ⟨-, -, hvec⟩ := s.dev.serveSource_flags n
    exact answers_of_effect ((effect_hostMessage_due hn hp hr hs).trans (by rw [hvec]))
  · intro s n _
    refine ⟨fun h => completes_of_effect ?_, fun h => answers_of_effect (effect_eoi_other h)⟩
    rw [effect_eoi_serving h]
    exact s.dev.endService_spec n
  · intro s f n hf hn
    refine ⟨fun hp => completes_of_effect ?_, fun hp => answers_of_effect ?_⟩
    · rw [effect_vectorUnmask_own hf hn rfl, if_neg (Bool.eq_false_iff.mp hp)]
      exact ⟨by simp, Dev.setMsix_chg ..⟩
    · rw [effect_vectorUnmask_own hf hn rfl, if_pos hp]

end Sys2Proof.Machine
end

section
/-! The SPDM responder: its transcript, its order and its answers (17_host_link_and_signpost.md R382, 19_boot_and_trust.md R426, R433, R434). -/

namespace Sys2Proof.Machine

/-! ### A requester's transcript -/

theorem Dev.who_spdm (d : Dev) (who : Nat) : (d.spdm who).who = who := by
  unfold Dev.spdm
  cases h : d.sec.spdm.find? (fun x => x.who == who) with
  | none => rfl
  | some x => exact beq_iff_eq.mp (List.find?_some (p := fun (x : Spdm) => x.who == who) h)

theorem Dev.spdm_setSpdm_self (d : Dev) (x : Spdm) : (d.setSpdm x).spdm x.who = x := by
  have hold : (d.sec.spdm.filter (fun y => y.who != x.who)).find? (fun y => y.who == x.who) = none :=
    List.find?_eq_none.mpr fun y hy => by simpa using (List.mem_filter.mp hy).2
  simp [Dev.spdm, Dev.setSpdm, List.find?_append, hold]

/-- An answer adds the request and the response to the transcript, whose stage does not go back. -/
theorem Dev.spdm_spdmReply (d : Dev) {x : Spdm} {who : Nat} (hx : x.who = who) (req rsp : List Byte) (stage : Nat) :
    (d.spdmReply x req rsp stage).spdm who = { x with bytes := x.bytes ++ req ++ rsp, stage := max stage x.stage } := by
  subst hx
  exact Dev.spdm_setSpdm_self d { x with bytes := x.bytes ++ req ++ rsp, stage := max stage x.stage }

theorem Dev.stage_spdmReply (d : Dev) (who : Nat) (y : Dev) (req rsp : List Byte) (stage : Nat) :
    ((d.spdmReply (y.spdm who) req rsp stage).spdm who).stage = max stage (y.spdm who).stage :=
  congrArg (·.stage) (d.spdm_spdmReply (y.who_spdm who) req rsp stage)

theorem Dev.changesOnly_spdmReply (d : Dev) (x : Spdm) (req rsp : List Byte) (stage : Nat) :
    Dev.changesOnly [.sec, .out] d (d.spdmReply x req rsp stage) :=
  ⟨fun t ht => (Dev.spdmReply_chg ..).rest t (by simpa [and_comm] using ht)⟩

/-! ### Requests while the responder is up -/

section
variable {d : Dev} {who : Nat} (req : List Byte) (hup : d.spdmUp who = true)
include hup

theorem effect_getVersion_up : effect (.getVersion who req) d = d.spdmReply { who := who } req [0x10, 0x04, 0, 0, 0, 1, 0x00, 0x12] 1 := by
  change effectGetVersion who req d = _
  exact Dev.when_pos hup

theorem effect_getCapabilities_due (h : (d.spdm who).stage = 1) :
    ∃ rsp, effect (.getCapabilities who req) d = d.spdmReply (d.spdm who) req rsp 2 := by
  rw [show effect _ d = effectGetCapabilities who req d from rfl]
  unfold effectGetCapabilities
  rw [Dev.when_pos hup]
  exact ⟨_, if_neg (not_not_intro h)⟩

theorem effect_getCapabilities_unexpected (h : (d.spdm who).stage ≠ 1) : effect (.getCapabilities who req) d = d.spdmError who 4 := by
  change effectGetCapabilities who req d = _
  unfold effectGetCapabilities
  rw [Dev.when_pos hup]
  exact if_pos h

theorem effect_negotiateAlgorithms_due (h : (d.spdm who).stage = 2) :
    ∃ rsp, effect (.negotiateAlgorithms who req) d = d.spdmReply (d.spdm who) req rsp 3 := by
  rw [show effect _ d = effectNegotiateAlgorithms who req d from rfl]
  unfold effectNegotiateAlgorithms
  rw [Dev.when_pos hup]
  exact ⟨_, if_neg (not_not_intro h)⟩

theorem effect_negotiateAlgorithms_unexpected (h : (d.spdm who).stage ≠ 2) : effect (.negotiateAlgorithms who req) d = d.spdmError who 4 := by
  change effectNegotiateAlgorithms who req d = _
  unfold effectNegotiateAlgorithms
  rw [Dev.when_pos hup]
  exact if_pos h

/-- Before the algorithms are agreed, requests for proof are unexpected. -/
theorem effect_proof_unexpected (h : (d.spdm who).stage < 3) :
    effect (.getDigests who req) d = d.spdmError who 4 ∧ effect (.getCertificate who req) d = d.spdmError who 4 ∧
    effect (.challenge who req) d = d.spdmError who 4 ∧ effect (.getMeasurements who req) d = d.spdmError who 4 := by
  refine ⟨?_, ?_, ?_, ?_⟩
  · change effectGetDigests who req d = _
    unfold effectGetDigests
    rw [Dev.when_pos hup]
    exact if_pos h
  · change effectGetCertificate who req d = _
    unfold effectGetCertificate
    rw [Dev.when_pos hup]
    exact if_pos h
  · change effectChallenge who req d = _
    unfold effectChallenge
    rw [Dev.when_pos hup]
    exact if_pos h
  · change effectGetMeasurements who req d = _
    unfold effectGetMeasurements
    rw [Dev.when_pos hup]
    exact if_pos h

variable (h : ¬(d.spdm who).stage < 3)
include h

theorem effect_getDigests_agreed : ∃ rsp, effect (.getDigests who req) d = d.spdmReply (d.spdm who) req rsp 3 := by
  rw [show effect _ d = effectGetDigests who req d from rfl]
  unfold effectGetDigests
  rw [Dev.when_pos hup]
  exact ⟨_, if_neg h⟩

theorem effect_getCertificate_agreed (hs : leAt req 2 1 % 16 < 2) (ho : leAt req 4 2 < (Config.made (leAt req 2 1 % 16)).length) :
    ∃ rsp, effect (.getCertificate who req) d = d.spdmReply (d.spdm who) req rsp 3 := by
  rw [show effect _ d = effectGetCertificate who req d from rfl]
  unfold effectGetCertificate
  rw [Dev.when_pos hup]
  dsimp only
  rw [if_neg h, if_neg (by omega)]
  exact ⟨_, rfl⟩

theorem effect_challenge_locked (hf : d.secSt ≠ ssFULL) : effect (.challenge who req) d = d.spdmError who 5 := by
  change effectChallenge who req d = _
  unfold effectChallenge
  rw [Dev.when_pos hup]
  dsimp only
  rw [if_neg h, if_pos hf]

theorem effect_challenge_signed (hf : d.secSt = ssFULL) (hs : leAt req 2 1 < 2) :
    ∃ rsp, effect (.challenge who req) d = d.spdmNonce.2.spdmReply (d.spdm who) req rsp 4 := by
  rw [show effect _ d = effectChallenge who req d from rfl]
  unfold effectChallenge
  rw [Dev.when_pos hup]
  dsimp only
  rw [if_neg h, if_neg (not_not_intro hf), if_neg (by omega)]
  exact ⟨_, rfl⟩

theorem effect_getMeasurements_locked (hf : d.secSt ≠ ssFULL) (hs : leAt req 2 1 % 2 = 1) :
    effect (.getMeasurements who req) d = d.spdmError who 5 := by
  change effectGetMeasurements who req d = _
  unfold effectGetMeasurements
  rw [Dev.when_pos hup]
  dsimp only
  rw [if_neg h, if_pos ⟨hs, hf⟩]

theorem effect_getMeasurements_plain (hs : leAt req 2 1 % 2 = 0) (ho : leAt req 3 1 ≤ 5) :
    ∃ rsp, effect (.getMeasurements who req) d = d.spdmNonce.2.spdmReply (d.spdm who) req rsp 4 := by
  rw [show effect _ d = effectGetMeasurements who req d from rfl]
  unfold effectGetMeasurements
  rw [Dev.when_pos hup]
  dsimp only
  rw [if_neg h, if_neg (by omega), if_neg (by omega)]
  exact ⟨_, rfl⟩

end

theorem effect_doeDiscovery_ready {d : Dev} {f : Nat} (hr : d.hif.ready = true) (hf : f ≤ 8) (ix : Nat) :
    effect (.doeDiscovery f ix) d = d.emit .doe f (match ix with | 0 => [1, 0, 1] | 1 => [1, 1, 0] | _ => [0xFFFF, 0, 0]) := by
  change effectDoeDiscovery f ix d = _
  exact Dev.when_pos (by simp [hr, hf])

/-! ### The order of the requests -/

theorem completes_stage {s : State} {c : Instr} {who stage n : Nat} {req : List Byte}
    (h : ∃ rsp, effect c s.dev = s.dev.spdmReply (s.dev.spdm who) req rsp stage) (hn : max stage (s.dev.spdm who).stage = n) :
    Completes c s fun e => (e.spdm who).stage = n ∧ Dev.changesOnly [.sec, .out] s.dev e := by
  obtain ⟨rsp, h⟩ := h
  apply completes_of_effect
  rw [h, Dev.stage_spdmReply]
  exact ⟨hn, Dev.changesOnly_spdmReply ..⟩

theorem completes_signed {s : State} {c : Instr} {who : Nat} {req : List Byte}
    (h : ∃ rsp, effect c s.dev = s.dev.spdmNonce.2.spdmReply (s.dev.spdm who) req rsp 4) : Completes c s fun e => 4 ≤ (e.spdm who).stage := by
  obtain ⟨rsp, h⟩ := h
  apply completes_of_effect
  rw [h, Dev.stage_spdmReply]
  exact Nat.le_max_left ..

/-- Settles O53: each request of the responder in its order and out of it. -/
theorem attestation : Obligations.Attestation := by
  unfold Obligations.Attestation
  refine ⟨?_, fun s f ix hr hf => answers_of_effect (effect_doeDiscovery_ready hr hf ix)⟩
  intro s who req hup
  refine ⟨?_, fun h => completes_stage (effect_getCapabilities_due req hup h) (by rw [h]; rfl),
    fun h => answers_of_effect (effect_getCapabilities_unexpected req hup h),
    fun h => completes_stage (effect_negotiateAlgorithms_due req hup h) (by rw [h]; rfl),
    fun h => answers_of_effect (effect_negotiateAlgorithms_unexpected req hup h), ?_, ?_⟩
  · apply completes_of_effect
    rw [effect_getVersion_up req hup, Dev.spdm_spdmReply _ rfl]
    exact ⟨rfl, rfl, Dev.changesOnly_spdmReply ..⟩
  · intro h
    obtain ⟨hdig, hcert, hchal, hmeas⟩ := effect_proof_unexpected req hup h
    exact ⟨answers_of_effect hdig, answers_of_effect hcert, answers_of_effect hchal, answers_of_effect hmeas⟩
  · intro h3
    have h : ¬(s.dev.spdm who).stage < 3 := Nat.not_lt.mpr h3
    exact ⟨completes_stage (effect_getDigests_agreed req hup h) (Nat.max_eq_right h3),
      fun hs ho => completes_stage (effect_getCertificate_agreed req hup h hs ho) (Nat.max_eq_right h3),
      fun hf => ⟨answers_of_effect (effect_challenge_locked req hup h hf),
        fun hs => answers_of_effect (effect_getMeasurements_locked req hup h hf hs)⟩,
      fun hf hs => completes_signed (effect_challenge_signed req hup h hf hs),
      fun hs ho => completes_signed (effect_getMeasurements_plain req hup h hs ho)⟩

end Sys2Proof.Machine
end

section
/-! Firmware images, the configuration record and their commit (19_boot_and_trust.md R423, R424, R430 to R432). -/

namespace Sys2Proof.Machine

/-! ### Operations on the firmware -/

/-- An operation while BUSY is recorded (R432). -/
theorem Dev.fwOp_busy {d : Dev} (h : d.flag F.secFwStatus_busy = true) (f : Dev → Dev) : d.fwOp f = d.badAccess 0 0x1108C 3 := if_pos h

theorem Dev.fwOp_idle {d : Dev} (h : d.flag F.secFwStatus_busy = false) (f : Dev → Dev) : d.fwOp f = f d := if_neg (Bool.eq_false_iff.mp h)

/-- FW_STATUS after an operation that ends: STATUS and REASON, and the event of the end. -/
def Dev.fwEnd (d : Dev) (status reason bit : Nat) : Dev :=
  ((d.wr F.secFwStatus_status status).wr F.secFwStatus_reason reason).raise secPage bit status

theorem Dev.rd_fwEnd {d : Dev} {status reason bit : Nat} (hs : status < 2 ^ 16) (hr : reason < 2 ^ 3) :
    (d.fwEnd status reason bit).rd F.secFwStatus_status = status ∧ (d.fwEnd status reason bit).rd F.secFwStatus_reason = reason := by
  have hkeep := Dev.keeps_raise ((d.wr F.secFwStatus_status status).wr F.secFwStatus_reason reason) secPage bit status {}
  unfold Dev.fwEnd
  refine ⟨?_, ?_⟩
  · rw [Dev.rd_of_keeps hkeep (by decide), Dev.rd_wr_apart _ _ _ _ (by decide) (by decide), Dev.rd_wr_self _ _ _ (by decide)]
    exact Nat.mod_eq_of_lt hs
  · rw [Dev.rd_of_keeps hkeep (by decide), Dev.rd_wr_self _ _ _ (by decide)]
    exact Nat.mod_eq_of_lt hr

theorem Dev.busy_fwEnd (d : Dev) (status reason bit : Nat) : (d.fwEnd status reason bit).flag F.secFwStatus_busy = d.flag F.secFwStatus_busy := by
  have hkeep := Dev.keeps_raise ((d.wr F.secFwStatus_status status).wr F.secFwStatus_reason reason) secPage bit status {}
  refine congrArg (· == 1) ?_
  unfold Dev.fwEnd
  rw [Dev.rd_of_keeps hkeep (by decide), Dev.rd_wr_apart _ _ _ _ (by decide) (by decide), Dev.rd_wr_apart _ _ _ _ (by decide) (by decide)]

theorem Dev.fwEnd_sec (d : Dev) (status reason bit : Nat) : (d.fwEnd status reason bit).sec = d.sec := by
  have hraise : Dev.changesOnly _ _ (d.fwEnd status reason bit) := Dev.raise_chg ..
  exact (hraise.rest .sec (by decide)).trans (by rw [Dev.wr_sec, Dev.wr_sec])

theorem Dev.eventBit_fwEnd (d : Dev) (status reason : Nat) {bit : Nat} (h : bit < 32) : (d.fwEnd status reason bit).eventBit secPage bit = true :=
  Dev.eventBit_raise (p := secPage) _ status {} (by decide) h

theorem Dev.fwReason_lt (d : Dev) (img : List Byte) : d.fwReason img < 2 ^ 3 := by
  unfold Dev.fwReason
  dsimp only
  repeat' split
  all_goals decide

theorem Dev.fwWrite_refused {d : Dev} {img : List Byte} (hb : d.flag F.secFwStatus_busy = false) (hr : d.fwReason img ≠ 0) :
    d.fwWrite img = d.fwEnd St.sigInvalid (d.fwReason img) 4 := by
  unfold Dev.fwWrite
  rw [Dev.fwOp_idle hb]
  exact if_neg hr

/-- The slot's contents that an image gives. -/
def slotOf (img : List Byte) : FwSlot := { svn := leAt img 8 4, version := leAt img 12 4, hash := (img.drop 64).take 64 }

theorem Dev.fwWrite_taken {d : Dev} {img : List Byte} (hb : d.flag F.secFwStatus_busy = false) (hr : d.fwReason img = 0) :
    d.fwWrite img = (d.setSec { d.sec with writing := some (slotOf img, 1 - d.rd F.secState_runSlot), writeFrom := d.now }).setFlag F.secFwStatus_busy true := by
  unfold Dev.fwWrite
  rw [Dev.fwOp_idle hb]
  exact if_pos hr

theorem effect_pldmFirmwareUpdate_on {d : Dev} (h : d.pwr.rail = true) (img : List Byte) : effect (.pldmFirmwareUpdate img) d = d.fwWrite img := by
  change effectPldmFirmwareUpdate img d = _
  exact Dev.when_pos h

/-! ### The end of a write, activation and commit -/

/-- The slots after a write of slot `n`. -/
def Dev.wroteSlot (d : Dev) (x : FwSlot) (n : Nat) (same : Bool) : Dev :=
  let sec := if n = 0 then { d.sec with slot0 := { x with good := same } } else { d.sec with slot1 := { x with good := same } }
  (d.setSec { sec with writing := none, written := if same then some n else sec.written }).setFlag F.secFwStatus_busy false

theorem effect_fwWriteComplete_writing {d : Dev} {x : FwSlot} {n : Nat} (h : d.sec.writing = some (x, n)) (same : Bool) :
    effect (.fwWriteComplete same) d =
      if same then (d.wroteSlot x n same).fwEnd St.ok 0 3 else (d.wroteSlot x n same).fwEnd St.sigInvalid 5 4 := by
  change effectFwWriteComplete same d = _
  unfold effectFwWriteComplete
  rw [h]
  cases same <;> rfl

theorem Dev.busy_wroteSlot (d : Dev) (x : FwSlot) (n : Nat) (same : Bool) : (d.wroteSlot x n same).flag F.secFwStatus_busy = false :=
  Dev.flag_setFlag_self _ _ _ (by decide) (by decide)

theorem Dev.wroteSlot_sec (d : Dev) (x : FwSlot) (n : Nat) (same : Bool) :
    (d.wroteSlot x n same).sec.writing = none ∧ (d.wroteSlot x n same).sec.written = (if same then some n else d.sec.written) ∧
    (n = 0 → (d.wroteSlot x n same).sec.slot0 = { x with good := same }) ∧ (n = 1 → (d.wroteSlot x n same).sec.slot1 = { x with good := same }) := by
  unfold Dev.wroteSlot
  rw [Dev.setFlag_sec, Dev.setSec_sec]
  refine ⟨rfl, ?_, fun h => by simp [h], fun h => by simp [h]⟩
  by_cases hn : n = 0 <;> simp [hn]

theorem effect_fwActivate_written {d : Dev} {n : Nat} (hb : d.flag F.secFwStatus_busy = false) (hw : d.sec.written = some n) :
    effect .fwActivate d = d.wr F.secState_prefSlot n := by
  change effectFwActivate d = _
  unfold effectFwActivate
  rw [Dev.fwOp_idle hb]
  simp only [hw]

theorem effect_fwCommit_full {d : Dev} (hb : d.flag F.secFwStatus_busy = false) (hf : d.secSt = ssFULL)
    (hs : d.sec.current.svn < d.rd F.secRunSvn_runSvn) : effect .fwCommit d = d.configCommit (fun r => { r with svn := d.rd F.secRunSvn_runSvn }) := by
  change effectFwCommit d = _
  unfold effectFwCommit
  rw [Dev.fwOp_idle hb]
  exact Dev.when_pos (by simp [hf, hs])

theorem effect_fwCommit_other {d : Dev} (hb : d.flag F.secFwStatus_busy = false) (hf : d.secSt ≠ ssFULL) : effect .fwCommit d = d := by
  change effectFwCommit d = _
  unfold effectFwCommit
  rw [Dev.fwOp_idle hb]
  exact Dev.when_neg (by simp [hf])

/-! ### Configuration requests -/

/-- The request's two choices as CFG_REQ reads them. -/
def Dev.cfgAsked (d : Dev) (hs am : Bool) : Dev := (d.setFlag F.secCfgReq_hostSplit hs).setFlag F.secCfgReq_altMode am

theorem Dev.secSt_cfgAsked (d : Dev) (hs am : Bool) : (d.cfgAsked hs am).secSt = d.secSt :=
  (Dev.rd_wr_ne _ _ _ _ (by decide)).trans (Dev.rd_wr_ne _ _ _ _ (by decide))

theorem Dev.flags_cfgAsked (d : Dev) (hs am : Bool) :
    (d.cfgAsked hs am).flag F.secCfgReq_hostSplit = hs ∧ (d.cfgAsked hs am).flag F.secCfgReq_altMode = am := by
  refine ⟨?_, Dev.flag_setFlag_self _ _ _ (by decide) (by decide)⟩
  unfold Dev.cfgAsked
  rw [Dev.setFlag, Dev.flag_wr_apart _ _ _ _ (by decide) (by decide)]
  exact Dev.flag_setFlag_self _ _ _ (by decide) (by decide)

theorem effect_configRequest_limited {d : Dev} (h : d.secSt = ssLIMITED) (hs am : Bool) : effect (.configRequest hs am) d = d.badAccess 0 0x12080 3 := by
  change effectConfigRequest hs am d = _
  exact if_pos h

theorem effect_configRequest_early {d : Dev} (hl : d.secSt ≠ ssLIMITED) (hf : d.secSt ≠ ssFULL) (hs am : Bool) :
    effect (.configRequest hs am) d = (d.cfgAsked hs am).setSec { (d.cfgAsked hs am).sec with
      owed := (d.cfgAsked hs am).sec.owed + 1
      held := some { (d.cfgAsked hs am).recordNow with hostSplit := hs, altMode := am } } := by
  change effectConfigRequest hs am d = _
  unfold effectConfigRequest
  rw [if_neg hl]
  exact if_neg (by rw [← Dev.cfgAsked, Dev.secSt_cfgAsked]; exact hf)

/-- Settles O56: an image is taken, refused or recorded, its write ends, and what activation, commit and a configuration request do. -/
theorem firmware : Obligations.Firmware := by
  unfold Obligations.Firmware
  refine ⟨?_, ?_, ?_, ?_, ?_, ?_, ?_⟩
  · intro s img hb hr
    obtain ⟨hstatus, hreason⟩ := Dev.rd_fwEnd (d := s.dev) (bit := 4) (show St.sigInvalid < 2 ^ 16 by decide) (s.dev.fwReason_lt img)
    refine ⟨completes_of_effect ?_, fun hrail => completes_of_effect ?_⟩
    · rw [show effect (.fwWrite img) s.dev = s.dev.fwWrite img from rfl, Dev.fwWrite_refused hb hr]
      exact ⟨hstatus, hreason, Dev.eventBit_fwEnd _ _ _ (by decide), Dev.fwEnd_sec ..⟩
    · rw [effect_pldmFirmwareUpdate_on hrail, Dev.fwWrite_refused hb hr]
      exact ⟨hreason, Dev.fwEnd_sec ..⟩
  · intro s img hb hr
    apply completes_of_effect
    rw [show effect (.fwWrite img) s.dev = s.dev.fwWrite img from rfl, Dev.fwWrite_taken hb hr]
    refine ⟨Dev.flag_setFlag_self _ _ _ (by decide) (by decide), ?_⟩
    rw [Dev.setFlag_sec, Dev.setSec_sec]
    exact ⟨rfl, rfl, slotOf img, rfl, rfl, rfl, rfl⟩
  · intro s img hb
    refine ⟨completes_of_effect ?_, completes_of_effect ?_, completes_of_effect ?_⟩
    · rw [show effect (.fwWrite img) s.dev = s.dev.fwWrite img from rfl, Dev.fwWrite, Dev.fwOp_busy hb]
      exact Dev.recorded_badAccess ..
    · rw [show effect .fwActivate s.dev = effectFwActivate s.dev from rfl, effectFwActivate, Dev.fwOp_busy hb]
      exact Dev.recorded_badAccess ..
    · rw [show effect .fwCommit s.dev = effectFwCommit s.dev from rfl, effectFwCommit, Dev.fwOp_busy hb]
      exact Dev.recorded_badAccess ..
  · intro s x n hw
    refine ⟨completes_of_effect ?_, completes_of_effect ?_⟩
    · obtain ⟨hwriting, hwritten, hslot0, hslot1⟩ := s.dev.wroteSlot_sec x n true
      obtain ⟨hstatus, -⟩ := Dev.rd_fwEnd (d := s.dev.wroteSlot x n true) (reason := 0) (bit := 3) (show St.ok < 2 ^ 16 by decide) (by decide)
      rw [effect_fwWriteComplete_writing hw, if_pos rfl, Dev.fwEnd_sec]
      exact ⟨hwriting, hwritten, (Dev.busy_fwEnd ..).trans (Dev.busy_wroteSlot ..), hstatus, Dev.eventBit_fwEnd _ _ _ (by decide), hslot0, hslot1⟩
    · obtain ⟨hwriting, hwritten, -, -⟩ := s.dev.wroteSlot_sec x n false
      obtain ⟨hstatus, -⟩ := Dev.rd_fwEnd (d := s.dev.wroteSlot x n false) (reason := 5) (bit := 4) (show St.sigInvalid < 2 ^ 16 by decide) (by decide)
      rw [effect_fwWriteComplete_writing hw, if_neg Bool.false_ne_true, Dev.fwEnd_sec]
      exact ⟨hwriting, hwritten, (Dev.busy_fwEnd ..).trans (Dev.busy_wroteSlot ..), hstatus, Dev.eventBit_fwEnd _ _ _ (by decide)⟩
  · intro s n hb hw hn
    apply completes_of_effect
    rw [effect_fwActivate_written hb hw]
    exact ⟨(Dev.rd_wr_self _ _ _ (by decide)).trans (Nat.mod_eq_of_lt hn), Dev.wr_chg ..⟩
  · exact fun s hb => ⟨fun hf hs => answers_of_effect (effect_fwCommit_full hb hf hs), fun hf => answers_of_effect (effect_fwCommit_other hb hf)⟩
  · intro s hs am
    refine ⟨fun h => completes_of_effect ?_, fun hl hf => completes_of_effect ?_⟩
    · rw [effect_configRequest_limited h]
      exact Dev.recorded_badAccess ..
    · obtain ⟨hsplit, halt⟩ := s.dev.flags_cfgAsked hs am
      have hflag (f : Fld) (x : SecState) : ((s.dev.cfgAsked hs am).setSec x).flag f = (s.dev.cfgAsked hs am).flag f :=
        congrArg (· == 1) (Dev.rd_of_reg (Dev.setSec_reg ..))
      rw [effect_configRequest_early hl hf, hflag, hflag, Dev.setSec_sec]
      exact ⟨rfl, hsplit, halt, _, rfl, rfl, rfl⟩

end Sys2Proof.Machine
end

section
/-! Power states, wake, supplies and the sideband (20_time_power_module.md R444 to R449). -/

namespace Sys2Proof.Machine

/-! ### Low-power states -/

theorem effect_idleEntry_quiet {d : Dev} (hm : d.pwr.mode = 0) (hq : d.pwr.quietFrom ≠ 0) (hd : d.pwr.quietFrom - 1 + 100 * usQ ≤ d.now) :
    effect .idleEntry d = (d.setPwr { d.pwr with mode := 1 }).wr F.pwrState_state 1 := by
  change effectIdleEntry d = _
  exact Dev.when_pos (by simp [hm, hq, hd])

/-- A request that is taken: LEAVING for the target, with PWR event bit 2; an enrolled device leaves its domain first. -/
theorem Dev.requestLow_taken {d : Dev} (hf : d.fewPages = false) (hs : d.rd F.hltState_state = 0) (hm : d.pwr.mode ≤ 1) (hw : d.pwr.wake = false)
    (target : Nat) :
    let e := ((d.setPwr { d.pwr with mode := 2, target := target, leftAt := 0 }).wr F.pwrState_state 2).raise pwrPage 2 St.ok
    d.requestLow 0 0xA5 target = if e.enrolled then e.setCol { e.col with leaving := true } else e := by
  unfold Dev.requestLow
  rw [if_neg (by simp [hf])]
  exact Dev.when_pos (by simp [hs, hm, hw])

theorem Dev.requestLow_wrongKey {d : Dev} {k : Nat} (hf : d.fewPages = false) (hk : k ≠ 0xA5) (target : Nat) : d.requestLow 0 k target = d := by
  unfold Dev.requestLow
  rw [if_neg (by simp [hf])]
  exact Dev.when_neg (by simp [hk])

theorem Dev.requestLow_spec {d : Dev} (hf : d.fewPages = false) (hs : d.rd F.hltState_state = 0) (hm : d.pwr.mode ≤ 1) (hw : d.pwr.wake = false)
    (target : Nat) :
    (d.requestLow 0 0xA5 target).pwr = { d.pwr with mode := 2, target := target, leftAt := 0 } ∧
    (d.requestLow 0 0xA5 target).rd F.pwrState_state = 2 ∧ (d.requestLow 0 0xA5 target).eventBit pwrPage 2 = true := by
  rw [Dev.requestLow_taken hf hs hm hw target]
  have hraise : Dev.changesOnly _ _ ((((d.setPwr { d.pwr with mode := 2, target := target, leftAt := 0 }).wr F.pwrState_state 2)).raise pwrPage 2 St.ok) :=
    Dev.raise_chg ..
  have hkeep := Dev.keeps_raise ((d.setPwr { d.pwr with mode := 2, target := target, leftAt := 0 }).wr F.pwrState_state 2) pwrPage 2 St.ok {}
  have hpwr := (hraise.rest .pwr (by decide)).trans (by rw [Dev.wr_pwr, Dev.setPwr_pwr])
  have hstate := (Dev.rd_of_keeps (f := F.pwrState_state) hkeep (by decide)).trans (Dev.rd_wr_self _ _ _ (by decide))
  have hevent := Dev.eventBit_raise ((d.setPwr { d.pwr with mode := 2, target := target, leftAt := 0 }).wr F.pwrState_state 2) (p := pwrPage) (b := 2)
    St.ok {} (by decide) (by decide)
  split
  · exact ⟨hpwr, (Dev.rd_of_reg (Dev.setCol_reg ..)).trans hstate, hevent⟩
  · exact ⟨hpwr, hstate, hevent⟩

/-! ### Wake frames -/

section
variable {d : Dev} {p tags : Nat} {fr : RxFrame} (hl : d.pwr.mode = 3 ∨ d.pwr.mode = 4) (hp : p = d.pwr.wakePort) (hfcs : fr.fcsOk = true)
  (hlen : 64 ≤ fr.len) (hdest : fr.dest = d.baseMac) (htags : tags ≤ 1) (hlock : (d.port p).wakeLock ≤ d.now)
include hl hp hfcs hlen hdest htags hlock

theorem effect_wakeFrame_heard (tok : List Byte) :
    effect (.wakeFrame p fr tags 0x0842 tok) d =
      if tok = d.wakeToken then (if d.wakeToken.all (fun b => b == 0) then d else d.wakeUp)
      else
        let rej := (d.port p).wakeRej.filter (fun t => decide (d.now < t + secQ)) ++ [d.now]
        ((d.setPort p { d.port p with
          wakeRej := rej
          wakeLock := if 16 ≤ rej.length then d.now + 10 * secQ else (d.port p).wakeLock }).incSat F.fabWakeRej 1).raise (fabPage p) 7 St.ok := by
  have hlow : (d.pwr.mode == 3 || d.pwr.mode == 4) = true := by simpa using hl
  change effectWakeFrame p fr tags 0x0842 tok d = _
  unfold effectWakeFrame
  exact Dev.when_pos (by rw [hlow, ← hp]; simp [hfcs, hlen, hdest, htags, hlock])

end

theorem fabPage_event {p : Nat} (h : p < 24) : (pageCaps (fabPage p)).event = true := by
  revert p
  decide

/-- What a rejected wake frame leaves: it is counted, with the port's event bit 7. -/
theorem Dev.wakeRejected (d : Dev) {p : Nat} (x : FabPort) (hp : p < 24) :
    (((d.setPort p x).incSat F.fabWakeRej 1).raise (fabPage p) 7 St.ok).rd F.fabWakeRej = min (d.rd F.fabWakeRej + 1) (2 ^ F.fabWakeRej.w - 1) ∧
    (((d.setPort p x).incSat F.fabWakeRej 1).raise (fabPage p) 7 St.ok).pwr = d.pwr ∧
    (((d.setPort p x).incSat F.fabWakeRej 1).raise (fabPage p) 7 St.ok).eventBit (fabPage p) 7 = true := by
  have hraise : Dev.changesOnly _ _ (((d.setPort p x).incSat F.fabWakeRej 1).raise (fabPage p) 7 St.ok) := Dev.raise_chg ..
  refine ⟨?_, (hraise.rest .pwr (by decide)).trans rfl, Dev.eventBit_raise _ _ _ (fabPage_event hp) (by decide)⟩
  rw [Dev.rd_of_keeps (Dev.keeps_raise ((d.setPort p x).incSat F.fabWakeRej 1) (fabPage p) 7 St.ok {}) fun h => absurd (Page.eventRegs_mod h) (by decide),
    Dev.rd_incSat _ _ _ (by decide)]
  rfl

/-! ### Supplies -/

theorem effect_pwrEnAssert_rail {d : Dev} (hr : d.pwr.rail = true) (he : d.pwr.en = false) :
    effect .pwrEnAssert d = (d.setPwr { d.pwr with en := true }).setSec { d.sec with due := true } := by
  change effectPwrEnAssert d = _
  exact Dev.when_pos (by simp [hr, he])

theorem Dev.powerOff_pwr (d : Dev) (cause : Nat) :
    (d.powerOff cause).pwr.good = false ∧ (d.powerOff cause).pwr.mode = 5 ∧ (d.powerOff cause).sec.due = false := ⟨rfl, rfl, rfl⟩

/-- The device once its main supply is off. -/
def Dev.unpowered (d : Dev) : Dev := if d.pwr.good then d.powerOff 0 else d

theorem Dev.unpowered_good (d : Dev) : d.unpowered.pwr.good = false := by
  unfold Dev.unpowered
  split
  next => exact (d.powerOff_pwr 0).1
  next hg => exact Bool.eq_false_iff.mpr hg

theorem effect_pwrEnDeassert_enabled {d : Dev} (he : d.pwr.en = true) :
    effect .pwrEnDeassert d = (d.unpowered.setPwr { d.unpowered.pwr with en := false, latched := false }).setSec { d.unpowered.sec with due := false } := by
  change effectPwrEnDeassert d = _
  exact Dev.when_pos he

theorem effect_inputLow_good {d : Dev} (hg : d.pwr.good = true) : effect .inputLow d = d.powerOff 2 := by
  change effectInputLow d = _
  exact Dev.when_pos hg

theorem effect_inputLow_off {d : Dev} (hg : d.pwr.good = false) : effect .inputLow d = d := by
  change effectInputLow d = _
  exact Dev.when_neg hg

theorem effect_standbyRailRise_off {d : Dev} (hr : d.pwr.rail = false) (i : Nat) :
    effect (.standbyRailRise i) d = d.setPwr { d.pwr with rail := true, slotId := i % 8 } := by
  change effectStandbyRailRise i d = _
  exact Dev.when_pos (by simp [hr])

/-- The registers of the standby domain that its rail's loss clears. -/
def Dev.standbyCleared (d : Dev) : Dev :=
  (((d.wr (F.fabWakeToken 0) 0).wr (F.fabWakeToken 1) 0).wr F.pwrLastOff_cause 0).wr F.hltWarmCnt_count 0

theorem Dev.wakeToken_standbyCleared (d : Dev) : d.standbyCleared.rd (F.fabWakeToken 0) = 0 ∧ d.standbyCleared.rd (F.fabWakeToken 1) = 0 := by
  unfold Dev.standbyCleared
  refine ⟨?_, ?_⟩
  · rw [Dev.rd_wr_ne _ _ _ _ (by decide), Dev.rd_wr_ne _ _ _ _ (by decide), Dev.rd_wr_ne _ _ _ _ (by decide), Dev.rd_wr_self _ _ _ (by decide)]
    rfl
  · rw [Dev.rd_wr_ne _ _ _ _ (by decide), Dev.rd_wr_ne _ _ _ _ (by decide), Dev.rd_wr_self _ _ _ (by decide)]
    rfl

theorem effect_standbyRailLoss_on {d : Dev} (hr : d.pwr.rail = true) :
    effect .standbyRailLoss d =
      (((d.unpowered.standbyCleared.setHlt { d.unpowered.standbyCleared.hlt with d3Starts := [], monitors := [] }).setNow 0).setSec
        { d.unpowered.standbyCleared.sec with aonSeq := 0 }).setPwr { d.unpowered.standbyCleared.pwr with rail := false, eid := 0, latched := false } := by
  change effectStandbyRailLoss d = _
  exact Dev.when_pos hr

/-! ### The sideband -/

theorem effect_pldmGetSensor_on {d : Dev} (hr : d.pwr.rail = true) (id : Nat) :
    effect (.pldmGetSensor id) d = match d.sensor id with
      | some v => d.emit .pldm id (1 :: v)
      | none => d.emit .pldm id [0] := by
  change effectPldmGetSensor id d = _
  exact Dev.when_pos hr

theorem effect_pldmPowerCap_up {d : Dev} (hr : d.pwr.rail = true) (hu : d.poweredUp = true) (v : Nat) : effect (.pldmPowerCap v) d = d.setCap v := by
  change effectPldmPowerCap v d = _
  exact Dev.when_pos (by simp [hr, hu])

theorem Dev.rd_setCap (d : Dev) (v : Nat) : (d.setCap v).rd F.pwrCap_cap = if 40 ≤ v ∧ v ≤ 72 then v else 72 := by
  unfold Dev.setCap
  rw [Dev.rd_wr_self _ _ _ (by decide)]
  refine Nat.mod_eq_of_lt (show _ < 128 from ?_)
  split <;> omega

theorem effect_pldmWake_on {d : Dev} (hr : d.pwr.rail = true) : effect .pldmWake d = d.wakeUp := by
  change effectPldmWake d = _
  exact Dev.when_pos hr

theorem effect_pldmResetD4_on {d : Dev} (hr : d.pwr.rail = true) (hm : d.pwr.mode ≠ 5) :
    effect .pldmResetD4 d = (d.clearWarm.wr F.pwrLastOff_cause 3).startD4 := by
  change effectPldmResetD4 d = _
  exact Dev.when_pos (by simp [hr, hm])

theorem effect_mctpSetEndpointId_own {d : Dev} {eid : Nat} (hr : d.pwr.rail = true) (h0 : 0 < eid) (h255 : eid < 255) :
    effect (.mctpSetEndpointId eid) d = d.setPwr { d.pwr with eid := eid } := by
  change effectMctpSetEndpointId eid d = _
  exact Dev.when_pos (by simp [hr, h0, h255])

theorem effect_mctpSetEndpointId_reserved {d : Dev} {eid : Nat} (h : eid = 0 ∨ eid = 255) : effect (.mctpSetEndpointId eid) d = d := by
  change effectMctpSetEndpointId eid d = _
  exact Dev.when_neg (by rw [decide_eq_false (by omega), Bool.and_false])

/-- Settles O59: each power state's entry, wake frames, supplies and the sideband's commands. -/
theorem powerStates : Obligations.PowerStates := by
  unfold Obligations.PowerStates
  refine ⟨?_, ?_, ?_, ?_, ?_⟩
  · intro s hm hq hd
    apply completes_of_effect
    rw [effect_idleEntry_quiet hm hq hd]
    exact ⟨rfl, Dev.rd_wr_self _ _ _ (by decide), Dev.wr_keep (by decide) (Dev.setPwr_keep (by decide) (chg_refl [.pwr, .regs] _))⟩
  · intro s hf hs hm hw
    exact ⟨completes_of_effect (Dev.requestLow_spec hf hs hm hw 1), completes_of_effect (Dev.requestLow_spec hf hs hm hw 2),
      fun k hk => ⟨answers_of_effect (Dev.requestLow_wrongKey hf hk 1), answers_of_effect (Dev.requestLow_wrongKey hf hk 2)⟩⟩
  · intro s p tags fr tok hl hp h24 hfcs hlen hdest htags hlock
    have hown := effect_wakeFrame_heard hl hp hfcs hlen hdest htags hlock tok
    refine ⟨fun ht h0 => answers_of_effect ?_, fun ht h0 => answers_of_effect ?_, fun ht => completes_of_effect ?_⟩
    · rw [hown, if_pos ht, if_neg (by rw [← ht, h0]; decide)]
    · rw [hown, if_pos ht, if_pos (by rw [← ht, h0])]
    · rw [hown, if_neg ht]
      exact s.dev.wakeRejected _ h24
  · intro s
    refine ⟨fun hr he => completes_of_effect ?_, fun he => completes_of_effect ?_, fun hg => completes_of_effect ?_,
      fun hg => answers_of_effect (effect_inputLow_off hg), fun i hr => completes_of_effect ?_, fun hr => completes_of_effect ?_⟩
    · rw [effect_pwrEnAssert_rail hr he]
      exact ⟨rfl, rfl⟩
    · rw [effect_pwrEnDeassert_enabled he, Dev.setSec_pwr, Dev.setPwr_pwr]
      exact ⟨rfl, rfl, s.dev.unpowered_good⟩
    · rw [effect_inputLow_good hg]
      exact s.dev.powerOff_pwr 2
    · rw [effect_standbyRailRise_off hr]
      exact ⟨rfl, Dev.setPwr_chg ..⟩
    · obtain ⟨h0, h1⟩ := s.dev.unpowered.wakeToken_standbyCleared
      rw [effect_standbyRailLoss_on hr]
      exact ⟨rfl, rfl, rfl, rfl, rfl, (Dev.rd_of_reg (by simp)).trans h0, (Dev.rd_of_reg (by simp)).trans h1⟩
  · intro s hr
    refine ⟨fun id v hv => answers_of_effect ((effect_pldmGetSensor_on hr id).trans (by rw [hv])),
      fun id hv => answers_of_effect ((effect_pldmGetSensor_on hr id).trans (by rw [hv])), fun v hu => completes_of_effect ?_,
      answers_of_effect (effect_pldmWake_on hr), fun hm => answers_of_effect (effect_pldmResetD4_on hr hm), fun eid h0 h255 => completes_of_effect ?_,
      answers_of_effect (effect_mctpSetEndpointId_reserved (.inl rfl)), answers_of_effect (effect_mctpSetEndpointId_reserved (.inr rfl))⟩
    · rw [effect_pldmPowerCap_up hr hu]
      exact ⟨s.dev.rd_setCap v, Dev.wr_chg ..⟩
    · rw [effect_mctpSetEndpointId_own hr h0 h255]
      exact ⟨rfl, Dev.setPwr_chg ..⟩

end Sys2Proof.Machine
end

section
/-! Every step keeps both byte memories in canonical form (10_tiers_and_street_index.md; 04_market.md). -/

namespace Sys2Proof.Machine

/-! ### Canonical form composes -/

theorem Dev.canonical_iff (d : Dev) : d.canonical = true ↔ d.t0.wf = true ∧ d.t1.wf = true := Bool.and_eq_true_iff

/-- Some table named is a tier's. -/
def touchesTier (ts : List Table) : Bool := ts.contains .t0 || ts.contains .t1

/-- An operation outside both tiers keeps their form. -/
theorem Dev.canonical_of_chg {ts : List Table}
    {d e : Dev} (h : Dev.changesOnly ts d e) (hts : touchesTier ts = false) : e.canonical = d.canonical := by
  simp only [touchesTier, Bool.or_eq_false_iff, List.contains_eq_mem, decide_eq_false_iff_not] at hts
  obtain ⟨h0, h1⟩ := hts
  have ht0 : e.t0 = d.t0 := h.rest .t0 h0
  have ht1 : e.t1 = d.t1 := h.rest .t1 h1
  unfold Dev.canonical
  rw [ht0, ht1]

@[simp] theorem Dev.canonical_ite {c : Prop} [Decidable c] {d e : Dev} :
    (if c then d else e).canonical = if c then d.canonical else e.canonical := apply_ite Dev.canonical c d e

@[simp] theorem Dev.when_canonical {d : Dev} {b : Bool} {f : Dev → Dev} (h : d.canonical = true) (hf : (f d).canonical = true) :
    (d.when b f).canonical = true := by
  unfold Dev.when
  split <;> assumption

@[simp] theorem Dev.foldl_canonical {α : Type} {f : Dev → α → Dev} {l : List α} {d : Dev} (h : d.canonical = true)
    (hf : ∀ x a, x.canonical = true → (f x a).canonical = true) : (l.foldl f d).canonical = true :=
  List.foldlRecOn l f h fun x hx a _ => hf x a hx

@[simp] theorem Dev.setT0_canonical {d : Dev} {m : Memory} (h : d.canonical = true) (hm : m.wf = true) : (d.setT0 m).canonical = true :=
  (Dev.canonical_iff _).mpr ⟨hm, ((Dev.canonical_iff d).mp h).2⟩

@[simp] theorem Dev.setT1_canonical {d : Dev} {m : Memory} (h : d.canonical = true) (hm : m.wf = true) : (d.setT1 m).canonical = true :=
  (Dev.canonical_iff _).mpr ⟨((Dev.canonical_iff d).mp h).1, hm⟩

@[simp] theorem Dev.t0_wf {d : Dev} (h : d.canonical = true) : d.t0.wf = true := ((Dev.canonical_iff d).mp h).1

@[simp] theorem Dev.t1_wf {d : Dev} (h : d.canonical = true) : d.t1.wf = true := ((Dev.canonical_iff d).mp h).2

theorem Dev.ite_canonical {c : Prop} [Decidable c] {d e : Dev} (hd : d.canonical = true) (he : e.canonical = true) :
    (if c then d else e).canonical = true := by
  split <;> assumption

/-- A fold of operations outside the tiers. -/
theorem Dev.foldl_canonical_eq {α : Type} {f : Dev → α → Dev} {l : List α} {d : Dev} (hf : ∀ x a, (f x a).canonical = x.canonical) :
    (l.foldl f d).canonical = d.canonical :=
  List.foldlRecOn (motive := fun x => x.canonical = d.canonical) l f rfl fun x hx a _ => (hf x a).trans hx

/-- A fold that may stop without a device. -/
theorem Dev.foldl_some_canonical {α : Type} {f : Option Dev → α → Option Dev} {l : List α} {d e : Dev} (he : l.foldl f (some d) = some e)
    (hd : d.canonical = true) (hf : ∀ o a x, f o a = some x → (∀ y, o = some y → y.canonical = true) → x.canonical = true) : e.canonical = true :=
  List.foldlRecOn (motive := fun o => ∀ y, o = some y → y.canonical = true) l f (fun _ hy => Option.some.inj hy ▸ hd)
    (fun o ho a _ x hx => hf o a x hx ho) e he

/-! ### Byte memories -/

@[simp] theorem foldl_wf {α : Type} {f : Memory → α → Memory} {l : List α} {m : Memory} (h : m.wf = true)
    (hf : ∀ x a, x.wf = true → (f x a).wf = true) : (l.foldl f m).wf = true :=
  List.foldlRecOn l f h fun x hx a _ => hf x a hx

/-- A fold that carries a memory before another value. -/
@[simp] theorem foldl_fst_wf {α β : Type} {f : Memory × β → α → Memory × β} {l : List α} {x : Memory × β} (h : x.1.wf = true)
    (hf : ∀ x a, x.1.wf = true → (f x a).1.wf = true) : (l.foldl f x).1.wf = true :=
  List.foldlRecOn (motive := fun x => x.1.wf = true) l f h fun x hx a _ => hf x a hx

@[simp] theorem Memory.wf_nil : Memory.wf [] = true := rfl

@[simp] theorem Memory.wf_write {m : Memory} {a : Nat} {b : Byte} (h : m.wf = true) : (m.write a b).wf = true := Memory.write_wf h a b

@[simp] theorem Memory.wf_writeBytes {m : Memory} {a : Nat} {bs : List Byte} (h : m.wf = true) : (m.writeBytes a bs).wf = true :=
  Memory.writeBytes_wf h a bs

@[simp] theorem writeObj0_wf {m : Memory} {o : Obj} {off : Nat} {bs : List Byte} (h : m.wf = true) : (writeObj0 m o off bs).wf = true := by
  induction bs generalizing m off with
  | nil => exact h
  | cons b bs ih => exact ih (Memory.wf_write h)

@[simp] theorem writeExt_wf {m : Memory} {ext : List Nat} {off : Nat} {bs : List Byte} (h : m.wf = true) : (writeExt m ext off bs).wf = true := by
  induction bs generalizing m off with
  | nil => exact h
  | cons b bs ih => exact ih (Memory.wf_write h)

@[simp] theorem memErase_wf {m : Memory} {lo n : Nat} (h : m.wf = true) : (memErase m lo n).wf = true := mapWf_filter h _

@[simp] theorem memPour_wf {m cs : Memory} {at_ : Nat → Nat} (h : m.wf = true) : (memPour m at_ cs).wf = true := by
  induction cs generalizing m with
  | nil => exact h
  | cons c cs ih => exact ih (Memory.wf_write h)

@[simp] theorem writeLine_wf {m : Memory} {line mask : Nat} {data : List Byte} (h : m.wf = true) : (writeLine m line mask data).wf = true := by
  unfold writeLine
  exact foldl_wf h fun x a hx => by split <;> simp [hx]

@[simp] theorem putRaw_wf {m : Memory} {o : Obj} {t : Tens} {r c raw : Nat} (h : m.wf = true) : (putRaw m o t r c raw).wf = true := writeObj0_wf h

@[simp] theorem putByte_wf {m : Memory} {o : Obj} {off v : Nat} (h : m.wf = true) : (putByte m o off v).wf = true := Memory.wf_write h

@[simp] theorem putWord_wf {m : Memory} {o : Obj} {off n v : Nat} (h : m.wf = true) : (putWord m o off n v).wf = true := writeObj0_wf h

@[simp] theorem putRow_wf {m : Memory} {o : Obj} {t : Tens} {r c : Nat} {xs : List Nat} (h : m.wf = true) : (putRow m o t r c xs).wf = true := by
  induction xs generalizing m c with
  | nil => exact h
  | cons x xs ih => exact ih (putRaw_wf h)

@[simp] theorem putCol_wf {m : Memory} {o : Obj} {t : Tens} {c r : Nat} {xs : List Nat} (h : m.wf = true) : (putCol m o t c r xs).wf = true := by
  induction xs generalizing m r with
  | nil => exact h
  | cons x xs ih => exact ih (putRaw_wf h)

@[simp] theorem putRaw1_wf {m : Memory} {ext : List Nat} {t : Tens} {r c raw : Nat} (h : m.wf = true) : (putRaw1 m ext t r c raw).wf = true :=
  writeExt_wf h

/-! ### The memory of a part's run -/

theorem putVals_wf {m : Memory} {o : Obj} {t : Tens} {r : Nat} {ys : List (Nat × FVal)} (h : m.wf = true) : (putVals m o t r ys).1.wf = true := by
  unfold putVals
  split
  · exact foldl_fst_wf h fun _ _ hx => putByte_wf (putRow_wf hx)
  · exact foldl_fst_wf h fun _ _ hx => putRaw_wf hx

theorem DrainIn.putRow_wf {g : DrainIn} {m : Memory} {r : Nat} {ys : List (Nat × FVal)} (h : m.wf = true) : (g.putRow m r ys).1.wf = true := by
  unfold DrainIn.putRow
  dsimp only
  split
  · exact foldl_wf h fun _ _ hx => putRaw_wf hx
  · split
    · exact foldl_fst_wf h fun _ _ hx => putByte_wf (Machine.putRow_wf hx)
    · exact foldl_fst_wf h fun _ _ hx => putRaw_wf hx

theorem DrainIn.putSave_wf {g : DrainIn} {m : Memory} {r : Nat} {l : List (Nat × FVal)} (h : m.wf = true) : (g.putSave m r l).wf = true :=
  foldl_wf h fun _ _ hx => putRaw_wf hx

theorem DrainIn.putCopy_wf {g : DrainIn} {m : Memory} {r0 nr done : Nat} {rows : List (List (Nat × FVal))} (h : m.wf = true) :
    (g.putCopy m r0 nr done rows).wf = true := by
  unfold DrainIn.putCopy
  dsimp only
  split
  · exact foldl_wf h fun _ _ hx => putRaw_wf hx
  · exact foldl_wf h fun _ _ hx => foldl_wf hx fun _ _ hy => putByte_wf (putCol_wf hy)

theorem DrainIn.putSums_wf {g : DrainIn} {m : Memory} {rows : List (List (Nat × FVal))} (h : m.wf = true) : (g.putSums m rows).wf = true :=
  foldl_wf h fun _ _ hx => putWord_wf hx

theorem DrainSt.count_mem (s : DrainSt) (cl : List (Nat × Nat × Cls)) : (s.count cl).mem = s.mem := rfl

theorem DrainIn.tile_wf {g : DrainIn} {s : DrainSt} {r0 nr c0 nc done : Nat} {acc : Nat → Nat → FVal} (h : s.mem.wf = true) :
    (g.tile s r0 nr c0 nc done acc).mem.wf = true := by
  unfold DrainIn.tile
  extract_lets js rows ys put m1 m2
  rw [DrainSt.count_mem]
  have hput : put.1.mem.wf = true := by
    refine List.foldlRecOn (motive := fun a : DrainSt × List (Nat × Nat × Cls) => a.1.mem.wf = true) rows _ h fun a ha row _ => ?_
    refine DrainIn.putRow_wf ?_
    split
    · exact DrainIn.putSave_wf ha
    · exact ha
  have hcopy : m1.wf = true := by
    unfold m1
    split
    · exact DrainIn.putCopy_wf hput
    · exact hput
  show m2.wf = true
  unfold m2
  split
  · exact DrainIn.putSums_wf hcopy
  · exact hcopy

theorem putCounts_wf {m : Memory} {o : Obj} {n : Nat} {l : List Nat} (h : m.wf = true) : (putCounts m o n l).wf = true :=
  foldl_wf h fun _ _ hx => putWord_wf hx

/-- A fold of runs that keeps their memory's form. -/
theorem foldl_run_wf {α : Type} {f : ArrayRun → α → ArrayRun} {l : List α} {st : ArrayRun} (h : st.s.mem.wf = true)
    (hf : ∀ x a, x.s.mem.wf = true → (f x a).s.mem.wf = true) : (l.foldl f st).s.mem.wf = true :=
  List.foldlRecOn (motive := fun x => x.s.mem.wf = true) l f h fun x hx a _ => hf x a hx

theorem foldl_st_wf {α : Type} {f : DrainSt → α → DrainSt} {l : List α} {s : DrainSt} (h : s.mem.wf = true)
    (hf : ∀ x a, x.mem.wf = true → (f x a).mem.wf = true) : (l.foldl f s).mem.wf = true :=
  List.foldlRecOn (motive := fun x => x.mem.wf = true) l f h fun x hx a _ => hf x a hx

theorem Product.tile_wf {z : Product} {st : ArrayRun} {t : TileAt} {n : Nat} {fault : Option Nat} {done : Nat} (h : st.s.mem.wf = true) :
    (z.tile st t n fault done).s.mem.wf = true := by
  unfold Product.tile
  dsimp only
  split
  · exact h
  · exact DrainIn.tile_wf h

theorem Product.tiles_wf {z : Product} {ts : List TileAt} {st : ArrayRun} (h : st.s.mem.wf = true) : (z.tiles ts st).s.mem.wf = true :=
  foldl_run_wf h fun _ _ hx => Product.tile_wf hx

theorem Attn.chunk_wf {z : Attn} {h done : Nat} {st : ArrayRun} {ch : Nat × Nat} (hs : st.s.mem.wf = true)
    : (z.chunk h st ch done).s.mem.wf = true := by
  unfold Attn.chunk
  extract_lets c blocks e row0 o s0 s1 s2 ls mem nm
  have hs2 : s2.mem.wf = true := by
    unfold s2
    split
    · exact hs
    · exact foldl_st_wf hs fun _ _ hx => DrainIn.tile_wf hx
  show mem.wf = true
  unfold mem
  split
  · exact hs2
  · exact foldl_wf hs2 fun _ _ hx => putWord_wf hx

theorem Attn.unit_wf {z : Attn} {st : ArrayRun} {u done : Nat} (h : st.s.mem.wf = true) : (z.unit st u done).s.mem.wf = true :=
  foldl_run_wf h fun _ _ hx => Attn.chunk_wf hx

theorem putPlanes_wf {m : Memory} {ws : Obj} {c : Cmd} {xs : List FVal} {plane : Nat → Tens} {at_ : Nat → Nat × Nat} (h : m.wf = true) :
    (putPlanes m ws c xs plane at_).wf = true :=
  foldl_wf h fun _ _ hx => foldl_wf hx fun _ _ hy => putRaw_wf hy

theorem putExp_wf {m : Memory} {ws : Obj} {c : Cmd} {vec i : Nat} {xs : List FVal} (h : m.wf = true) : (putExp m ws c vec i xs).wf = true := by
  unfold putExp
  split
  · exact putWord_wf h
  · exact h

theorem Slice.tile_wf {z : Slice} {st : ArrayRun} {t : TileAt} {n : Nat} {fault : Option Nat} {done : Nat} (h : st.s.mem.wf = true) :
    (z.tile st t n fault done).s.mem.wf = true := by
  unfold Slice.tile
  dsimp only
  split
  · exact h
  · exact List.foldlRecOn (motive := fun a : Memory × List (Nat × Nat × Cls) => a.1.wf = true) _ _ h fun _ ha _ _ => putRaw_wf ha

theorem DrainSt.put_wf {s : EngSt} {o : Obj} {t : Tens} {r : Nat} {ys : List (Nat × FVal)} (h : s.mem.wf = true) : (s.put o t r ys).mem.wf = true :=
  putVals_wf h

theorem NormIn.putRow_wf {z : NormIn} {s : EngSt} {r : Nat} {w : NormRow} (h : s.mem.wf = true) : (z.putRow s r w).mem.wf = true := by
  unfold NormIn.putRow
  extract_lets o ys s1 sv
  have hs1 : s1.mem.wf = true := by
    unfold s1
    split
    · exact putVals_wf h
    · exact DrainSt.put_wf h
  split
  · exact hs1
  · exact foldl_wf hs1 fun _ _ hx => putWord_wf hx

theorem NormIn.putParams_wf {z : NormIn} {m : Memory} {rows : List Nat} (h : m.wf = true) : (z.putParams m rows).wf = true := by
  unfold NormIn.putParams
  dsimp only
  split
  · exact h
  · refine foldl_wf h fun x k hx => ?_
    split
    · exact putWord_wf (putWord_wf hx)
    · exact putWord_wf hx

theorem NormIn.batchstat_wf {z : NormIn} {s : EngSt} {cols : List Nat} (h : s.mem.wf = true) : (z.batchstat s cols).mem.wf = true :=
  foldl_st_wf h fun _ _ hx => DrainSt.put_wf hx

theorem NormIn.reductions_wf {z : NormIn} {m : Memory} {rows : List Nat} (h : m.wf = true) : (z.reductions m rows).wf = true := by
  have hrows : ∀ (o : Obj), (rows.foldl (fun m r => putWord m o (8 * r) 8 (fp64.ieeeCode .near (z.reduce r))) m).wf = true := fun _ =>
    foldl_wf h fun _ _ hx => putWord_wf hx
  unfold NormIn.reductions
  dsimp only
  split
  · exact hrows _
  · exact putWord_wf (hrows _)

theorem putSel_wf {m : Memory} {o : Obj} {t k i : Nat} {r : SelRec} (h : m.wf = true) : (putSel m o t k i r).wf = true :=
  putWord_wf (putWord_wf (putWord_wf h))

theorem Dev.routeStats'_wf {d : Dev} {x : PartId} {c : Cmd} {plan : List (List (Nat × SelRec) × List Nat)} {m : Memory} (h : m.wf = true) :
    (d.routeStats' x c plan m).wf = true :=
  putWord_wf (foldl_wf h fun _ _ hx => putWord_wf (putWord_wf (putWord_wf (putWord_wf hx))))

theorem copyRow_wf {d : Dev} {m : Memory} {so o : Obj} {st t : Tens} {sr r : Nat} (h : m.wf = true) : (copyRow d m so st sr o t r).wf = true := by
  have hrow : ((List.range st.cols).foldl (fun m k => putRaw m o t r k (d.rawAt so st sr k)) m).wf = true := foldl_wf h fun _ _ hx => putRaw_wf hx
  unfold copyRow
  dsimp only
  split
  · exact foldl_wf hrow fun _ _ hx => putByte_wf hx
  · exact hrow

theorem tokensRun_wf {f : EngSt → Nat → Option EngSt} {l : List Nat} {s : EngSt} (h : s.mem.wf = true)
    (hf : ∀ x t y, x.mem.wf = true → f x t = some y → y.mem.wf = true) : (tokensRun f l s).1.mem.wf = true := by
  induction l generalizing s with
  | nil => exact h
  | cons t ts ih =>
    unfold tokensRun
    cases hy : f s t with
    | none => exact h
    | some y => exact ih (hf s t y h hy)

theorem recordsRun_wf {strict : Bool} {f : Memory → Nat → Option Memory} {l : List Nat} {m : Memory} {n : Nat} (h : m.wf = true)
    (hf : ∀ x i y, x.wf = true → f x i = some y → y.wf = true) : (recordsRun strict f l m n).1.wf = true := by
  induction l generalizing m n with
  | nil => exact h
  | cons i is ih =>
    unfold recordsRun
    cases hy : f m i with
    | none =>
      dsimp only
      split
      · exact h
      · exact ih h
    | some y => exact ih (hf m i y h hy)

theorem Dev.vxOutput_wf {d : Dev} {x : PartId} {y : Nat} {c : Cmd} {k lo : Nat} {vals : List (List (Nat × FVal))} {s : EngSt} (h : s.mem.wf = true) :
    (d.vxOutput x y c k lo vals s).mem.wf = true := by
  unfold Dev.vxOutput
  split
  · exact h
  · exact DrainSt.put_wf h

theorem putTwin_wf {m : Memory} {ext : List Nat} {t : Tens} {at_ : Nat → Nat → FVal} (h : m.wf = true) : (putTwin m ext t at_).1.wf = true := by
  unfold putTwin
  split
  · refine foldl_fst_wf h fun x c hx => foldl_fst_wf hx fun y b hy => ?_
    exact foldl_wf (writeExt_wf hy) fun _ _ hz => putRaw1_wf hz
  · exact foldl_fst_wf h fun x r hx => foldl_fst_wf hx fun y c hy => putRaw1_wf hy

/-! ### Operations outside the tiers -/

@[simp] theorem Dev.setReg_canonical {d : Dev} {k : Nat} {v : Word} : (d.setReg k v).canonical = d.canonical :=
  Dev.canonical_of_chg (Dev.setReg_chg ..) rfl
@[simp] theorem Dev.wr_canonical {d : Dev} {f : Fld} {v : Nat} : (d.wr f v).canonical = d.canonical := Dev.canonical_of_chg (Dev.wr_chg ..) rfl
@[simp] theorem Dev.inc_canonical {d : Dev} {f : Fld} {k : Nat} : (d.inc f k).canonical = d.canonical := Dev.canonical_of_chg (Dev.inc_chg ..) rfl
@[simp] theorem Dev.setEvt_canonical {d : Dev} {x : EvtState} : (d.setEvt x).canonical = d.canonical := Dev.canonical_of_chg (Dev.setEvt_chg ..) rfl
@[simp] theorem Dev.wr64_canonical {d : Dev} {lo hi : Fld} {v : Nat} : (d.wr64 lo hi v).canonical = d.canonical :=
  Dev.canonical_of_chg (Dev.wr64_chg ..) rfl
@[simp] theorem Dev.raiseBits_canonical {d : Dev} {p : Page} {bits : List Nat} {status : Nat} {c : Cause}
    : (d.raiseBits p bits status c).canonical = d.canonical :=
  Dev.canonical_of_chg (Dev.raiseBits_chg ..) rfl
@[simp] theorem Dev.raise_canonical {d : Dev} {p : Page} {bit status : Nat} {c : Cause} : (d.raise p bit status c).canonical = d.canonical :=
  Dev.canonical_of_chg (Dev.raise_chg ..) rfl
@[simp] theorem Dev.raiseLdg_canonical {d : Dev} {j bit status : Nat} : (d.raiseLdg j bit status).canonical = d.canonical :=
  Dev.canonical_of_chg (Dev.raiseLdg_chg ..) rfl
@[simp] theorem Dev.qSettle_canonical {d : Dev} {q : Nat} : (d.qSettle q).canonical = d.canonical := Dev.canonical_of_chg (Dev.qSettle_chg ..) rfl
@[simp] theorem Dev.resumeStopped_canonical {d : Dev} {j step : Nat} : (d.resumeStopped j step).canonical = d.canonical :=
  Dev.canonical_of_chg (Dev.resumeStopped_chg ..) rfl
@[simp] theorem Dev.setTir_canonical {d : Dev} {x : TirState} : (d.setTir x).canonical = d.canonical := Dev.canonical_of_chg (Dev.setTir_chg ..) rfl
@[simp] theorem Dev.setObj_canonical {d : Dev} {k : Nat} {o : Obj} : (d.setObj k o).canonical = d.canonical :=
  Dev.canonical_of_chg (Dev.setObj_chg ..) rfl
@[simp] theorem Dev.setUnit_canonical {d : Dev} {k u : Nat} {x : TUnit} : (d.setUnit k u x).canonical = d.canonical :=
  Dev.canonical_of_chg (Dev.setUnit_chg ..) rfl
@[simp] theorem Dev.setAcr_canonical {d : Dev} {x : AcrState} : (d.setAcr x).canonical = d.canonical := Dev.canonical_of_chg (Dev.setAcr_chg ..) rfl
@[simp] theorem Dev.setLdg_canonical {d : Dev} {x : LdgState} : (d.setLdg x).canonical = d.canonical := Dev.canonical_of_chg (Dev.setLdg_chg ..) rfl
@[simp] theorem Dev.setJob_canonical {d : Dev} {j : Nat} {x : JobState} : (d.setJob j x).canonical = d.canonical :=
  Dev.canonical_of_chg (Dev.setJob_chg ..) rfl
@[simp] theorem Dev.updNewest_canonical {d : Dev} {j : Nat} {f : LedgerRec → LedgerRec} : (d.updNewest j f).canonical = d.canonical :=
  Dev.canonical_of_chg (Dev.updNewest_chg ..) rfl
@[simp] theorem Dev.setStepState_canonical {d : Dev} {j st : Nat} : (d.setStepState j st).canonical = d.canonical :=
  Dev.canonical_of_chg (Dev.setStepState_chg ..) rfl
@[simp] theorem Dev.setJobSt_canonical {d : Dev} {j st : Nat} : (d.setJobSt j st).canonical = d.canonical :=
  Dev.canonical_of_chg (Dev.setJobSt_chg ..) rfl
@[simp] theorem Dev.parkAtBoundary_canonical {d : Dev} {j : Nat} : (d.parkAtBoundary j).canonical = d.canonical :=
  Dev.canonical_of_chg (Dev.parkAtBoundary_chg ..) rfl
@[simp] theorem Dev.setMkt_canonical {d : Dev} {x : MktState} : (d.setMkt x).canonical = d.canonical := Dev.canonical_of_chg (Dev.setMkt_chg ..) rfl
@[simp] theorem Dev.setAsideUnit_canonical {d : Dev} {k u : Nat} : (d.setAsideUnit k u).canonical = d.canonical :=
  Dev.canonical_of_chg (Dev.setAsideUnit_chg ..) rfl
@[simp] theorem Dev.setCol_canonical {d : Dev} {x : ColState} : (d.setCol x).canonical = d.canonical := Dev.canonical_of_chg (Dev.setCol_chg ..) rfl
@[simp] theorem Dev.unbind_canonical {d : Dev} {binds : Nat} : (d.unbind binds).canonical = d.canonical :=
  Dev.canonical_of_chg (Dev.unbind_chg ..) rfl
@[simp] theorem Dev.useExtents_canonical {d : Dev} {k owner : Nat} {es : List Nat} : (d.useExtents k owner es).canonical = d.canonical :=
  Dev.canonical_of_chg (Dev.useExtents_chg ..) rfl
theorem Dev.ensureT1_canonical {d e : Dev} {k : Nat} (he : d.ensureT1 k = some e) : e.canonical = d.canonical :=
  Dev.canonical_of_chg (Dev.ensureT1_chg _ _ _ he) rfl
@[simp] theorem Dev.healSectors_canonical {d : Dev} {ext : List Nat} {off len : Nat} : (d.healSectors ext off len).canonical = d.canonical :=
  Dev.canonical_of_chg (Dev.healSectors_chg ..) rfl
@[simp] theorem Dev.partRan_canonical {d : Dev} {q count p status info work : Nat} : (d.partRan q count p status info work).canonical = d.canonical :=
  Dev.canonical_of_chg (Dev.partRan_chg ..) rfl
@[simp] theorem Dev.acrFail_canonical {d : Dev} {q i k status bit : Nat} : (d.acrFail q i k status bit).canonical = d.canonical :=
  Dev.canonical_of_chg (Dev.acrFail_chg ..) rfl
@[simp] theorem Dev.emit_canonical {d : Dev} {k : OutKind} {dest : Nat} {data : List Nat} {bytes : List Byte}
    : (d.emit k dest data bytes).canonical = d.canonical :=
  Dev.canonical_of_chg (Dev.emit_chg ..) rfl
@[simp] theorem Dev.hostWrite_canonical {d : Dev} {addr : Nat} {bytes : List Byte} : (d.hostWrite addr bytes).canonical = d.canonical :=
  Dev.canonical_of_chg (Dev.hostWrite_chg ..) rfl
@[simp] theorem Dev.setSix_canonical {d : Dev} {x : SixState} : (d.setSix x).canonical = d.canonical := Dev.canonical_of_chg (Dev.setSix_chg ..) rfl
@[simp] theorem Dev.sixRelease_canonical {d : Dev} {h status : Nat} : (d.sixRelease h status).canonical = d.canonical :=
  Dev.canonical_of_chg (Dev.sixRelease_chg ..) rfl
@[simp] theorem Dev.raiseQueue_canonical {d : Dev} {q : Nat} {bit : Nat → Nat} {status : Nat} {c : Cause}
    : (d.raiseQueue q bit status c).canonical = d.canonical :=
  Dev.canonical_of_chg (Dev.raiseQueue_chg ..) rfl
@[simp] theorem Dev.stepFailure_canonical {d : Dev} {j status rank : Nat} : (d.stepFailure j status rank).canonical = d.canonical :=
  Dev.canonical_of_chg (Dev.stepFailure_chg ..) rfl
@[simp] theorem Dev.setCcr_canonical {d : Dev} {x : CcrState} : (d.setCcr x).canonical = d.canonical := Dev.canonical_of_chg (Dev.setCcr_chg ..) rfl
@[simp] theorem Dev.setFlag_canonical {d : Dev} {f : Fld} {b : Bool} : (d.setFlag f b).canonical = d.canonical :=
  Dev.canonical_of_chg (Dev.setFlag_chg ..) rfl
@[simp] theorem Dev.endPart_canonical {d : Dev} {q count p status : Nat} : (d.endPart q count p status).canonical = d.canonical :=
  Dev.canonical_of_chg (Dev.endPart_chg ..) rfl
@[simp] theorem Dev.setSpr_canonical {d : Dev} {x : Spares} : (d.setSpr x).canonical = d.canonical := Dev.canonical_of_chg (Dev.setSpr_chg ..) rfl
@[simp] theorem Dev.addBinds_canonical {d : Dev} {binds : Nat} : (d.addBinds binds).canonical = d.canonical :=
  Dev.canonical_of_chg (Dev.addBinds_chg ..) rfl
@[simp] theorem Dev.updColl_canonical {d : Dev} {q i : Nat} {f : Coll → Coll} : (d.updColl q i f).canonical = d.canonical :=
  Dev.canonical_of_chg (Dev.updColl_chg ..) rfl
@[simp] theorem Dev.addWork_canonical {d : Dev} {q i n : Nat} : (d.addWork q i n).canonical = d.canonical :=
  Dev.canonical_of_chg (Dev.addWork_chg ..) rfl
@[simp] theorem Dev.setTbn_canonical {d : Dev} {x : TbnState} : (d.setTbn x).canonical = d.canonical := Dev.canonical_of_chg (Dev.setTbn_chg ..) rfl
@[simp] theorem Dev.failPart_canonical {d : Dev} {q i p status : Nat} : (d.failPart q i p status).canonical = d.canonical :=
  Dev.canonical_of_chg (Dev.failPart_chg ..) rfl
@[simp] theorem Dev.failColl_canonical {d : Dev} {q i status rank : Nat} : (d.failColl q i status rank).canonical = d.canonical :=
  Dev.canonical_of_chg (Dev.failColl_chg ..) rfl
@[simp] theorem Dev.setWset_canonical {d : Dev} {x : WsetState} : (d.setWset x).canonical = d.canonical :=
  Dev.canonical_of_chg (Dev.setWset_chg ..) rfl
@[simp] theorem Dev.failTransfer_canonical {d : Dev} {q i status rank : Nat} : (d.failTransfer q i status rank).canonical = d.canonical :=
  Dev.canonical_of_chg (Dev.failTransfer_chg ..) rfl
@[simp] theorem Dev.setConn_canonical {d : Dev} {c : Nat} {x : Conn} : (d.setConn c x).canonical = d.canonical :=
  Dev.canonical_of_chg (Dev.setConn_chg ..) rfl
@[simp] theorem Dev.failMsg_canonical {d : Dev} {c no status : Nat} : (d.failMsg c no status).canonical = d.canonical :=
  Dev.canonical_of_chg (Dev.failMsg_chg ..) rfl
@[simp] theorem Dev.losePeer_canonical {d : Dev} {peer status : Nat} : (d.losePeer peer status).canonical = d.canonical :=
  Dev.canonical_of_chg (Dev.losePeer_chg ..) rfl
@[simp] theorem Dev.setPort_canonical {d : Dev} {p : Nat} {x : FabPort} : (d.setPort p x).canonical = d.canonical :=
  Dev.canonical_of_chg (Dev.setPort_chg ..) rfl
@[simp] theorem Dev.incSat_canonical {d : Dev} {f : Fld} {k : Nat} : (d.incSat f k).canonical = d.canonical :=
  Dev.canonical_of_chg (Dev.incSat_chg ..) rfl
@[simp] theorem Dev.pump_canonical {d : Dev} {c : Nat} : (d.pump c).canonical = d.canonical := Dev.canonical_of_chg (Dev.pump_chg ..) rfl
theorem Dev.sixAlloc_canonical {d e : Dev} {kind owner job parent object queue h : Nat}
    (he : d.sixAlloc kind owner job parent object queue = some (h, e)) : e.canonical = d.canonical :=
  Dev.canonical_of_chg (Dev.sixAlloc_chg _ _ _ _ _ _ _ _ _ he) rfl
@[simp] theorem Dev.sendCtrl_canonical {d : Dev} {dev queue : Nat} {body : List Byte} : (d.sendCtrl dev queue body).canonical = d.canonical :=
  Dev.canonical_of_chg (Dev.sendCtrl_chg ..) rfl
@[simp] theorem Dev.sendLdg_canonical {d : Dev} {j rank : Nat} {m : LdgMsg} : (d.sendLdg j rank m).canonical = d.canonical :=
  Dev.canonical_of_chg (Dev.sendLdg_chg ..) rfl
@[simp] theorem Dev.supersede_canonical {d : Dev} {j : Nat} : (d.supersede j).canonical = d.canonical :=
  Dev.canonical_of_chg (Dev.supersede_chg ..) rfl
@[simp] theorem Dev.chooseNeighbour_canonical {d : Dev} {j : Nat} : (d.chooseNeighbour j).canonical = d.canonical :=
  Dev.canonical_of_chg (Dev.chooseNeighbour_chg ..) rfl
@[simp] theorem Dev.applyGroup_canonical {d : Dev} {g : Nat} : (d.applyGroup g).canonical = d.canonical :=
  Dev.canonical_of_chg (Dev.applyGroup_chg ..) rfl
@[simp] theorem Dev.applyGroups_canonical {d : Dev} {j : Nat} : (d.applyGroups j).canonical = d.canonical :=
  Dev.canonical_of_chg (Dev.applyGroups_chg ..) rfl
@[simp] theorem Dev.rosterChanged_canonical {d : Dev} {epoch keeper : Nat} : (d.rosterChanged epoch keeper).canonical = d.canonical :=
  Dev.canonical_of_chg (Dev.rosterChanged_chg ..) rfl
@[simp] theorem Dev.wakeFrames_canonical {d : Dev} {spare : Nat} : (d.wakeFrames spare).canonical = d.canonical :=
  Dev.canonical_of_chg (Dev.wakeFrames_chg ..) rfl
@[simp] theorem Dev.sendFull_canonical {d : Dev} {to_ : Nat} : (d.sendFull to_).canonical = d.canonical :=
  Dev.canonical_of_chg (Dev.sendFull_chg ..) rfl
@[simp] theorem Dev.sendLive_canonical {d : Dev} {body : List Byte} : (d.sendLive body).canonical = d.canonical :=
  Dev.canonical_of_chg (Dev.sendLive_chg ..) rfl
theorem Dev.newRegion_canonical {d e : Dev} {r : Region} {i b : Nat} (he : d.newRegion r = some (i, b, e)) : e.canonical = d.canonical :=
  Dev.canonical_of_chg (Dev.newRegion_chg _ _ _ _ _ he) rfl
theorem Dev.alloc0_canonical {d e : Dev} {k u st : Nat} (he : d.alloc0 k u st = some e) : e.canonical = d.canonical :=
  Dev.canonical_of_chg (Dev.alloc0_chg _ _ _ _ _ he) rfl
@[simp] theorem Dev.setSec_canonical {d : Dev} {x : SecState} : (d.setSec x).canonical = d.canonical := Dev.canonical_of_chg (Dev.setSec_chg ..) rfl
@[simp] theorem Dev.failRefs_canonical {d : Dev} {k u status : Nat} : (d.failRefs k u status).canonical = d.canonical :=
  Dev.canonical_of_chg (Dev.failRefs_chg ..) rfl
@[simp] theorem Dev.committedPoisoned_canonical {d : Dev} {o : Obj} : (d.committedPoisoned o).canonical = d.canonical :=
  Dev.canonical_of_chg (Dev.committedPoisoned_chg ..) rfl
@[simp] theorem Dev.failWaits_canonical {d : Dev} {k u status : Nat} : (d.failWaits k u status).canonical = d.canonical :=
  Dev.canonical_of_chg (Dev.failWaits_chg ..) rfl
@[simp] theorem Dev.raiseFor_canonical {d : Dev} {part : Nat} {p : Page} {bit status : Nat} {c : Cause}
    : (d.raiseFor part p bit status c).canonical = d.canonical :=
  Dev.canonical_of_chg (Dev.raiseFor_chg ..) rfl
@[simp] theorem Dev.recordRetirement_canonical {d : Dev} : d.recordRetirement.canonical = d.canonical :=
  Dev.canonical_of_chg (Dev.recordRetirement_chg ..) rfl
@[simp] theorem Dev.setBank_canonical {d : Dev} {b : Nat} {x : Bank} : (d.setBank b x).canonical = d.canonical :=
  Dev.canonical_of_chg (Dev.setBank_chg ..) rfl
@[simp] theorem Dev.setHealth_canonical {d : Dev} {b : Block} {i st : Nat} : (d.setHealth b i st).canonical = d.canonical :=
  Dev.canonical_of_chg (Dev.setHealth_chg ..) rfl
@[simp] theorem Dev.retireNamed_canonical {d : Dev} {id : Nat} : (d.retireNamed id).canonical = d.canonical :=
  Dev.canonical_of_chg (Dev.retireNamed_chg ..) rfl
@[simp] theorem Dev.setHif_canonical {d : Dev} {x : HifState} : (d.setHif x).canonical = d.canonical := Dev.canonical_of_chg (Dev.setHif_chg ..) rfl
@[simp] theorem Dev.setPortSt_canonical {d : Dev} {p st rate lanes : Nat} : (d.setPortSt p st rate lanes).canonical = d.canonical :=
  Dev.canonical_of_chg (Dev.setPortSt_chg ..) rfl
@[simp] theorem Dev.sprOpen_canonical {d : Dev} {r : SprRec} : (d.sprOpen r).canonical = d.canonical := Dev.canonical_of_chg (Dev.sprOpen_chg ..) rfl
@[simp] theorem Dev.closeUnit_canonical {d : Dev} {t p status : Nat} : (d.closeUnit t p status).canonical = d.canonical :=
  Dev.canonical_of_chg (Dev.closeUnit_chg ..) rfl
@[simp] theorem Dev.startClosed_canonical {d : Dev} {id : Nat} : (d.startClosed id).canonical = d.canonical :=
  Dev.canonical_of_chg (Dev.startClosed_chg ..) rfl
@[simp] theorem Dev.supersedeAll_canonical {d : Dev} : d.supersedeAll.canonical = d.canonical := Dev.canonical_of_chg (Dev.supersedeAll_chg ..) rfl
@[simp] theorem Dev.updEntry_canonical {d : Dev} {f : BootEntry → BootEntry} : (d.updEntry f).canonical = d.canonical :=
  Dev.canonical_of_chg (Dev.updEntry_chg ..) rfl
@[simp] theorem Dev.updStage_canonical {d : Dev} {k : Nat} {f : BootStage → BootStage} : (d.updStage k f).canonical = d.canonical :=
  Dev.canonical_of_chg (Dev.updStage_chg ..) rfl
@[simp] theorem Dev.setTim_canonical {d : Dev} {x : TimState} : (d.setTim x).canonical = d.canonical := Dev.canonical_of_chg (Dev.setTim_chg ..) rfl
@[simp] theorem Dev.askDecisions_canonical {d : Dev} : d.askDecisions.canonical = d.canonical := Dev.canonical_of_chg (Dev.askDecisions_chg ..) rfl
@[simp] theorem Dev.applyRecord_canonical {d : Dev} {warm : Bool} : (d.applyRecord warm).canonical = d.canonical :=
  Dev.canonical_of_chg (Dev.applyRecord_chg ..) rfl
@[simp] theorem Dev.coreCounts_canonical {d : Dev} {core passes skipped : Nat} : (d.coreCounts core passes skipped).canonical = d.canonical :=
  Dev.canonical_of_chg (Dev.coreCounts_chg ..) rfl
@[simp] theorem Dev.coreOn_canonical {d : Dev} {core : Nat} : (d.coreOn core).canonical = d.canonical := Dev.canonical_of_chg (Dev.coreOn_chg ..) rfl
@[simp] theorem Dev.soil_canonical {d : Dev} {x : PartId} {a : Opnd} : (d.soil x a).canonical = d.canonical :=
  Dev.canonical_of_chg (Dev.soil_chg ..) rfl
@[simp] theorem Dev.tagKeep_canonical {d : Dev} {x : PartId} {desc : Nat} : (d.tagKeep x desc).canonical = d.canonical :=
  Dev.canonical_of_chg (Dev.tagKeep_chg ..) rfl
@[simp] theorem Dev.countRepeat_canonical {d : Dev} {q : Nat} {exhausted : Bool} : (d.countRepeat q exhausted).canonical = d.canonical :=
  Dev.canonical_of_chg (Dev.countRepeat_chg ..) rfl
@[simp] theorem Dev.updRun_canonical {d : Dev} {q run : Nat} {f : LayerRun → LayerRun} : (d.updRun q run f).canonical = d.canonical :=
  Dev.canonical_of_chg (Dev.updRun_chg ..) rfl
@[simp] theorem Dev.finish_canonical {d : Dev} {x : PartId} {c : Cls} {fmt info work : Nat} : (d.finish x c fmt info work).canonical = d.canonical :=
  Dev.canonical_of_chg (Dev.finish_chg ..) rfl
@[simp] theorem Dev.startReset_canonical {d : Dev} {dom unit : Nat} : (d.startReset dom unit).canonical = d.canonical :=
  Dev.canonical_of_chg (Dev.startReset_chg ..) rfl
@[simp] theorem Dev.beginReset_canonical {d : Dev} {dom unit : Nat} : (d.beginReset dom unit).canonical = d.canonical :=
  Dev.canonical_of_chg (Dev.beginReset_chg ..) rfl
@[simp] theorem Dev.takeRef_canonical {d : Dev} {q i p k u : Nat} : (d.takeRef q i p k u).canonical = d.canonical :=
  Dev.canonical_of_chg (Dev.takeRef_chg ..) rfl
@[simp] theorem Dev.grantWaits_canonical {d : Dev} {k u : Nat} : (d.grantWaits k u).canonical = d.canonical :=
  Dev.canonical_of_chg (Dev.grantWaits_chg ..) rfl
@[simp] theorem Dev.moveDone_canonical {d : Dev} {k u status : Nat} : (d.moveDone k u status).canonical = d.canonical :=
  Dev.canonical_of_chg (Dev.moveDone_chg ..) rfl
@[simp] theorem Dev.writeBack_canonical {d : Dev} {k u t parent : Nat} : (d.writeBack k u t parent).canonical = d.canonical :=
  Dev.canonical_of_chg (Dev.writeBack_chg ..) rfl
@[simp] theorem Dev.leave1_canonical {d : Dev} {k u parent : Nat} : (d.leave1 k u parent).canonical = d.canonical :=
  Dev.canonical_of_chg (Dev.leave1_chg ..) rfl
@[simp] theorem Dev.room_canonical {d : Dev} {k : Nat} {in0 in1 : Bool} : (d.room k in0 in1).canonical = d.canonical :=
  Dev.canonical_of_chg (Dev.room_chg ..) rfl
@[simp] theorem Dev.assistOpen_canonical {d : Dev} {p : Page} {status : Nat} : (d.assistOpen p status).canonical = d.canonical :=
  Dev.canonical_of_chg (Dev.assistOpen_chg ..) rfl
@[simp] theorem Dev.showTir_canonical {d : Dev} : d.showTir.canonical = d.canonical := Dev.canonical_of_chg (Dev.showTir_chg ..) rfl
@[simp] theorem Dev.bring0_canonical {d : Dev} {k u : Nat} {write : Bool} {parent : Nat} : (d.bring0 k u write parent).2.canonical = d.canonical :=
  Dev.canonical_of_chg (Dev.bring0_chg ..) rfl
@[simp] theorem Dev.serveWaits_canonical {d : Dev} : d.serveWaits.canonical = d.canonical := Dev.canonical_of_chg (Dev.serveWaits_chg ..) rfl
@[simp] theorem Dev.settle0_canonical {d : Dev} {k u : Nat} : (d.settle0 k u).canonical = d.canonical := Dev.canonical_of_chg (Dev.settle0_chg ..) rfl
@[simp] theorem Dev.askRoster_canonical {d : Dev} {keeper : Nat} : (d.askRoster keeper).canonical = d.canonical :=
  Dev.canonical_of_chg (Dev.askRoster_chg ..) rfl
@[simp] theorem Dev.assistUpdate_canonical {d : Dev} {q i k : Nat} {c : Cmd} : (d.assistUpdate q i k c).canonical = d.canonical :=
  Dev.canonical_of_chg (Dev.assistUpdate_chg ..) rfl
@[simp] theorem Dev.badAccess_canonical {d : Dev} {f off kind : Nat} : (d.badAccess f off kind).canonical = d.canonical :=
  Dev.canonical_of_chg (Dev.badAccess_chg ..) rfl
@[simp] theorem Dev.badDoorbell_canonical {d : Dev} {f : Nat} {p : Page} : (d.badDoorbell f p).canonical = d.canonical :=
  Dev.canonical_of_chg (Dev.badDoorbell_chg ..) rfl
@[simp] theorem Dev.bankReplaced_canonical {d : Dev} {b : Nat} : (d.bankReplaced b).canonical = d.canonical :=
  Dev.canonical_of_chg (Dev.bankReplaced_chg ..) rfl
@[simp] theorem Dev.setHlt_canonical {d : Dev} {x : HltState} : (d.setHlt x).canonical = d.canonical := Dev.canonical_of_chg (Dev.setHlt_chg ..) rfl
@[simp] theorem Dev.bindsD3_canonical {d : Dev} : d.bindsD3.canonical = d.canonical := Dev.canonical_of_chg (Dev.bindsD3_chg ..) rfl
@[simp] theorem Dev.bootReady_canonical {d : Dev} : d.bootReady.canonical = d.canonical := Dev.canonical_of_chg (Dev.bootReady_chg ..) rfl
@[simp] theorem Dev.linksDown_canonical {d : Dev} : d.linksDown.canonical = d.canonical := Dev.canonical_of_chg (Dev.linksDown_chg ..) rfl
@[simp] theorem Dev.romRecovery_canonical {d : Dev} : d.romRecovery.canonical = d.canonical := Dev.canonical_of_chg (Dev.romRecovery_chg ..) rfl
@[simp] theorem Dev.showLdgAssist_canonical {d : Dev} : d.showLdgAssist.canonical = d.canonical := Dev.canonical_of_chg (Dev.showLdgAssist_chg ..) rfl
@[simp] theorem Dev.startBound_canonical {d : Dev} {j : Nat} : (d.startBound j).canonical = d.canonical :=
  Dev.canonical_of_chg (Dev.startBound_chg ..) rfl
@[simp] theorem Dev.updLoad_canonical {d : Dev} {q i : Nat} {f : Load → Load} : (d.updLoad q i f).canonical = d.canonical :=
  Dev.canonical_of_chg (Dev.updLoad_chg ..) rfl
@[simp] theorem Dev.chainAsk_canonical {d : Dev} : d.chainAsk.canonical = d.canonical := Dev.canonical_of_chg (Dev.chainAsk_chg ..) rfl
@[simp] theorem Dev.chainBroken_canonical {d : Dev} {l : Load} {status : Nat} : (d.chainBroken l status).canonical = d.canonical :=
  Dev.canonical_of_chg (Dev.chainBroken_chg ..) rfl
@[simp] theorem Dev.forward_canonical {d : Dev} {l : Load} {no : Nat} {bytes : List Byte} : (d.forward l no bytes).canonical = d.canonical :=
  Dev.canonical_of_chg (Dev.forward_chg ..) rfl
@[simp] theorem Dev.takeChunk_canonical {d : Dev} {l : Load} {n : Nat} {rec : List Byte} : (d.takeChunk l n rec).canonical = d.canonical :=
  Dev.canonical_of_chg (Dev.takeChunk_chg ..) rfl
@[simp] theorem Dev.setSlotState_canonical {d : Dev} {s sl st : Nat} : (d.setSlotState s sl st).canonical = d.canonical :=
  Dev.canonical_of_chg (Dev.setSlotState_chg ..) rfl
@[simp] theorem Dev.engRaise_canonical {d : Dev} {x : PartId} {bit status : Nat} : (d.engRaise x bit status).canonical = d.canonical :=
  Dev.canonical_of_chg (Dev.engRaise_chg ..) rfl
@[simp] theorem Dev.chainRejected_canonical {d : Dev} {x : PartId} : (d.chainRejected x).canonical = d.canonical :=
  Dev.canonical_of_chg (Dev.chainRejected_chg ..) rfl
@[simp] theorem Dev.clearWindows_canonical {d : Dev} {k : Nat} : (d.clearWindows k).canonical = d.canonical :=
  Dev.canonical_of_chg (Dev.clearWindows_chg ..) rfl
@[simp] theorem Dev.colAssist_canonical {d : Dev} {kind dev : Nat} : (d.colAssist kind dev).canonical = d.canonical :=
  Dev.canonical_of_chg (Dev.colAssist_chg ..) rfl
@[simp] theorem Dev.collDone_canonical {d : Dev} {k : Coll} {c : Cmd} : (d.collDone k c).canonical = d.canonical :=
  Dev.canonical_of_chg (Dev.collDone_chg ..) rfl
@[simp] theorem Dev.collPush_canonical {d : Dev} {q i : Nat} {c : Cmd} : (d.collPush q i c).canonical = d.canonical :=
  Dev.canonical_of_chg (Dev.collPush_chg ..) rfl
@[simp] theorem Dev.mktError_canonical {d : Dev} {line kind : Nat} : (d.mktError line kind).canonical = d.canonical :=
  Dev.canonical_of_chg (Dev.mktError_chg ..) rfl
@[simp] theorem Dev.refused_canonical {d : Dev} {line status : Nat} : (d.refused line status).canonical = d.canonical :=
  Dev.canonical_of_chg (Dev.refused_chg ..) rfl
@[simp] theorem Dev.commitGroups_canonical {d : Dev} {j : Nat} : (d.commitGroups j).canonical = d.canonical :=
  Dev.canonical_of_chg (Dev.commitGroups_chg ..) rfl
@[simp] theorem Dev.commitNoise_canonical {d : Dev} {j : Nat} : (d.commitNoise j).canonical = d.canonical :=
  Dev.canonical_of_chg (Dev.commitNoise_chg ..) rfl
@[simp] theorem Dev.drawIndex_canonical {d : Dev} : d.drawIndex.2.canonical = d.canonical := Dev.canonical_of_chg (Dev.drawIndex_chg ..) rfl
@[simp] theorem Dev.countDegen_canonical {d : Dev} {q k : Nat} {c : Cmd} : (d.countDegen q k c).canonical = d.canonical :=
  Dev.canonical_of_chg (Dev.countDegen_chg ..) rfl
@[simp] theorem Dev.setPath_canonical {d : Dev} {peer path : Nat} {x : PathSt} : (d.setPath peer path x).canonical = d.canonical :=
  Dev.canonical_of_chg (Dev.setPath_chg ..) rfl
@[simp] theorem Dev.mbxDone_canonical {d : Dev} {f status : Nat} {key : Option Nat} : (d.mbxDone f status key).canonical = d.canonical :=
  Dev.canonical_of_chg (Dev.mbxDone_chg ..) rfl
@[simp] theorem Dev.outOfService_canonical {d : Dev} {reason : Nat} : (d.outOfService reason).canonical = d.canonical :=
  Dev.canonical_of_chg (Dev.outOfService_chg ..) rfl
@[simp] theorem Dev.d3Complete_canonical {d : Dev} : d.d3Complete.canonical = d.canonical := Dev.canonical_of_chg (Dev.d3Complete_chg ..) rfl
@[simp] theorem Dev.d3Regs_canonical {d : Dev} : d.d3Regs.canonical = d.canonical := Dev.canonical_of_chg (Dev.d3Regs_chg ..) rfl
@[simp] theorem Dev.rxBad_canonical {d : Dev} : d.rxBad.canonical = d.canonical := Dev.canonical_of_chg (Dev.rxBad_chg ..) rfl
@[simp] theorem Dev.staleMsg_canonical {d : Dev} {j : Nat} : (d.staleMsg j).canonical = d.canonical := Dev.canonical_of_chg (Dev.staleMsg_chg ..) rfl
@[simp] theorem Dev.dueImage_canonical {d : Dev} {j : Nat} {r : LedgerRec} : (d.dueImage j r).canonical = d.canonical :=
  Dev.canonical_of_chg (Dev.dueImage_chg ..) rfl
@[simp] theorem Dev.flipBuffers_canonical {d : Dev} {j : Nat} : (d.flipBuffers j).canonical = d.canonical :=
  Dev.canonical_of_chg (Dev.flipBuffers_chg ..) rfl
@[simp] theorem Dev.takeHold_canonical {d : Dev} {m : LdgMsg} : (d.takeHold m).canonical = d.canonical :=
  Dev.canonical_of_chg (Dev.takeHold_chg ..) rfl
@[simp] theorem Dev.takePark_canonical {d : Dev} {m : LdgMsg} : (d.takePark m).canonical = d.canonical :=
  Dev.canonical_of_chg (Dev.takePark_chg ..) rfl
@[simp] theorem Dev.showCoord_canonical {d : Dev} {j : Nat} : (d.showCoord j).canonical = d.canonical :=
  Dev.canonical_of_chg (Dev.showCoord_chg ..) rfl
@[simp] theorem Dev.takeQuery_canonical {d : Dev} {m : LdgMsg} : (d.takeQuery m).canonical = d.canonical :=
  Dev.canonical_of_chg (Dev.takeQuery_chg ..) rfl
@[simp] theorem Dev.takeStall_canonical {d : Dev} {m : LdgMsg} : (d.takeStall m).canonical = d.canonical :=
  Dev.canonical_of_chg (Dev.takeStall_chg ..) rfl
@[simp] theorem Dev.takeUnpark_canonical {d : Dev} {m : LdgMsg} : (d.takeUnpark m).canonical = d.canonical :=
  Dev.canonical_of_chg (Dev.takeUnpark_chg ..) rfl
@[simp] theorem Dev.takeBeacon_canonical {d : Dev} {b : List Byte} : (d.takeBeacon b).canonical = d.canonical :=
  Dev.canonical_of_chg (Dev.takeBeacon_chg ..) rfl
@[simp] theorem Dev.takeQuoteReq_canonical {d : Dev} {b : List Byte} : (d.takeQuoteReq b).canonical = d.canonical :=
  Dev.canonical_of_chg (Dev.takeQuoteReq_chg ..) rfl
@[simp] theorem Dev.takeWakeDone_canonical {d : Dev} {b : List Byte} : (d.takeWakeDone b).canonical = d.canonical :=
  Dev.canonical_of_chg (Dev.takeWakeDone_chg ..) rfl
@[simp] theorem Dev.descRejected_canonical {d : Dev} {x : PartId} : (d.descRejected x).canonical = d.canonical :=
  Dev.canonical_of_chg (Dev.descRejected_chg ..) rfl
@[simp] theorem Dev.dirtyLine_canonical {d : Dev} {line : Nat} : (d.dirtyLine line).canonical = d.canonical :=
  Dev.canonical_of_chg (Dev.dirtyLine_chg ..) rfl
@[simp] theorem Dev.disableQueue_canonical {d : Dev} {q : Nat} {noRecords : Bool} : (d.disableQueue q noRecords).canonical = d.canonical :=
  Dev.canonical_of_chg (Dev.disableQueue_chg ..) rfl
@[simp] theorem Dev.dropLoad_canonical {d : Dev} {l : Load} : (d.dropLoad l).canonical = d.canonical := Dev.canonical_of_chg (Dev.dropLoad_chg ..) rfl
@[simp] theorem Dev.endReset_canonical {d : Dev} {unit : Nat} : (d.endReset unit).canonical = d.canonical :=
  Dev.canonical_of_chg (Dev.endReset_chg ..) rfl
@[simp] theorem Dev.endTest_canonical {d : Dev} {x : Testing} : (d.endTest x).canonical = d.canonical := Dev.canonical_of_chg (Dev.endTest_chg ..) rfl
@[simp] theorem Dev.engSpecial_canonical {d : Dev} {x : PartId} {bit n : Nat} : (d.engSpecial x bit n).canonical = d.canonical :=
  Dev.canonical_of_chg (Dev.engSpecial_chg ..) rfl
@[simp] theorem Dev.lowerLimits_canonical {d : Dev} : d.lowerLimits.canonical = d.canonical := Dev.canonical_of_chg (Dev.lowerLimits_chg ..) rfl
@[simp] theorem Dev.portD3_canonical {d : Dev} {p : Nat} : (d.portD3 p).canonical = d.canonical := Dev.canonical_of_chg (Dev.portD3_chg ..) rfl
@[simp] theorem Dev.queuesD3_canonical {d : Dev} : d.queuesD3.canonical = d.canonical := Dev.canonical_of_chg (Dev.queuesD3_chg ..) rfl
@[simp] theorem Dev.setStampHold_canonical {d : Dev} {x : List (Nat × Word)} : (d.setStampHold x).canonical = d.canonical :=
  Dev.canonical_of_chg (Dev.setStampHold_chg ..) rfl
@[simp] theorem Dev.setPwr_canonical {d : Dev} {x : PwrState} : (d.setPwr x).canonical = d.canonical := Dev.canonical_of_chg (Dev.setPwr_chg ..) rfl
@[simp] theorem Dev.hifRaise_canonical {d : Dev} {f bit : Nat} : (d.hifRaise f bit).canonical = d.canonical :=
  Dev.canonical_of_chg (Dev.hifRaise_chg ..) rfl
@[simp] theorem Dev.resetConfig_canonical {d : Dev} {f : Nat} : (d.resetConfig f).canonical = d.canonical :=
  Dev.canonical_of_chg (Dev.resetConfig_chg ..) rfl
@[simp] theorem Dev.flr_canonical {d : Dev} {f : Nat} : (d.flr f).canonical = d.canonical := Dev.canonical_of_chg (Dev.flr_chg ..) rfl
@[simp] theorem Dev.freshLanes_canonical {d : Dev} : d.freshLanes.canonical = d.canonical := Dev.canonical_of_chg (Dev.freshLanes_chg ..) rfl
@[simp] theorem Dev.frozenSkip_canonical {d : Dev} {q i k : Nat} {c : Cmd} : (d.frozenSkip q i k c).canonical = d.canonical :=
  Dev.canonical_of_chg (Dev.frozenSkip_chg ..) rfl
@[simp] theorem Dev.isolate_canonical {d : Dev} {x : PartId} {status : Nat} : (d.isolate x status).canonical = d.canonical :=
  Dev.canonical_of_chg (Dev.isolate_chg ..) rfl
@[simp] theorem Dev.glbHealth_canonical {d : Dev} : d.glbHealth.canonical = d.canonical := Dev.canonical_of_chg (Dev.glbHealth_chg ..) rfl
@[simp] theorem Dev.hbmError_canonical {d : Dev} {sector : Nat} {bad scrub : Bool} : (d.hbmError sector bad scrub).canonical = d.canonical :=
  Dev.canonical_of_chg (Dev.hbmError_chg ..) rfl
@[simp] theorem Dev.hearRank_canonical {d : Dev} {g rank : Nat} : (d.hearRank g rank).canonical = d.canonical :=
  Dev.canonical_of_chg (Dev.hearRank_chg ..) rfl
@[simp] theorem Dev.hifCount_canonical {d : Dev} {f off : Nat} : (d.hifCount f off).canonical = d.canonical :=
  Dev.canonical_of_chg (Dev.hifCount_chg ..) rfl
@[simp] theorem Dev.holdForLayer_canonical {d : Dev} {q run k : Nat} : (d.holdForLayer q run k).canonical = d.canonical :=
  Dev.canonical_of_chg (Dev.holdForLayer_chg ..) rfl
@[simp] theorem Dev.imageDone_canonical {d : Dev} {j : Nat} {im : Image} : (d.imageDone j im).canonical = d.canonical :=
  Dev.canonical_of_chg (Dev.imageDone_chg ..) rfl
@[simp] theorem Dev.joinWrites_canonical {d : Dev} {j : Nat} {keys : List Nat} {master bytes : Nat}
    : (d.joinWrites j keys master bytes).canonical = d.canonical :=
  Dev.canonical_of_chg (Dev.joinWrites_chg ..) rfl
@[simp] theorem Dev.startPort_canonical {d : Dev} {p : Nat} : (d.startPort p).canonical = d.canonical :=
  Dev.canonical_of_chg (Dev.startPort_chg ..) rfl
@[simp] theorem Dev.linkGone_canonical {d : Dev} {l : Nat} : (d.linkGone l).canonical = d.canonical := Dev.canonical_of_chg (Dev.linkGone_chg ..) rfl
@[simp] theorem Dev.lookAhead_canonical {d : Dev} {k u : Nat} : (d.lookAhead k u).canonical = d.canonical :=
  Dev.canonical_of_chg (Dev.lookAhead_chg ..) rfl
@[simp] theorem Dev.monitorStatus_canonical {d : Dev} : d.monitorStatus.2.canonical = d.canonical :=
  Dev.canonical_of_chg (Dev.monitorStatus_chg ..) rfl
@[simp] theorem Dev.notReady_canonical {d : Dev} {c psn : Nat} : (d.notReady c psn).canonical = d.canonical :=
  Dev.canonical_of_chg (Dev.notReady_chg ..) rfl
@[simp] theorem Dev.noteEscalation_canonical {d : Dev} {unit : Nat} : (d.noteEscalation unit).canonical = d.canonical :=
  Dev.canonical_of_chg (Dev.noteEscalation_chg ..) rfl
@[simp] theorem Dev.onMark_canonical {d : Dev} {c : Nat} {ce : Bool} : (d.onMark c ce).canonical = d.canonical :=
  Dev.canonical_of_chg (Dev.onMark_chg ..) rfl
@[simp] theorem Dev.sit_canonical {d : Dev} {x : PartId} {l : Nat} : (d.sit x l).canonical = d.canonical := Dev.canonical_of_chg (Dev.sit_chg ..) rfl
@[simp] theorem Dev.pushRecord_canonical {d : Dev} {j : Nat} {r : LedgerRec} : (d.pushRecord j r).canonical = d.canonical :=
  Dev.canonical_of_chg (Dev.pushRecord_chg ..) rfl
@[simp] theorem Dev.originateRed_canonical {d : Dev} {j reason rank : Nat} : (d.originateRed j reason rank).canonical = d.canonical :=
  Dev.canonical_of_chg (Dev.originateRed_chg ..) rfl
@[simp] theorem Dev.payOwed_canonical {d : Dev} : d.payOwed.canonical = d.canonical := Dev.canonical_of_chg (Dev.payOwed_chg ..) rfl
@[simp] theorem Dev.updPosted_canonical {d : Dev} {q i rank seg : Nat} {f : Posted → Posted} : (d.updPosted q i rank seg f).canonical = d.canonical :=
  Dev.canonical_of_chg (Dev.updPosted_chg ..) rfl
@[simp] theorem Dev.postWaiting_canonical {d : Dev} : d.postWaiting.canonical = d.canonical := Dev.canonical_of_chg (Dev.postWaiting_chg ..) rfl
@[simp] theorem Dev.refill_canonical {d : Dev} {q : Nat} {r : LayerRun} : (d.refill q r).canonical = d.canonical :=
  Dev.canonical_of_chg (Dev.refill_chg ..) rfl
@[simp] theorem Dev.refuseLine_canonical {d : Dev} {x : PartId} {line status : Nat} : (d.refuseLine x line status).canonical = d.canonical :=
  Dev.canonical_of_chg (Dev.refuseLine_chg ..) rfl
theorem Dev.remake_canonical {d e : Dev} {k idx n : Nat} {fresh : Obj} (he : d.remake k idx n fresh = some e) : e.canonical = d.canonical :=
  Dev.canonical_of_chg (Dev.remake_chg _ _ _ _ _ _ he) rfl
@[simp] theorem Dev.repeatFails_canonical {d : Dev} {q : Nat} {r : LayerRun} : (d.repeatFails q r).canonical = d.canonical :=
  Dev.canonical_of_chg (Dev.repeatFails_chg ..) rfl
@[simp] theorem Dev.resetUnit_canonical {d : Dev} {dom unit status : Nat} : (d.resetUnit dom unit status).canonical = d.canonical :=
  Dev.canonical_of_chg (Dev.resetUnit_chg ..) rfl
@[simp] theorem Dev.resetKeyOk_canonical {d : Dev} {f key : Nat} : (d.resetKeyOk f key).2.canonical = d.canonical :=
  Dev.canonical_of_chg (Dev.resetKeyOk_chg ..) rfl
@[simp] theorem Dev.unfit_canonical {d : Dev} {x : PartId} : (d.unfit x).canonical = d.canonical := Dev.canonical_of_chg (Dev.unfit_chg ..) rfl
@[simp] theorem Dev.setHalf_canonical {d : Dev} {x : PartId} : (d.setHalf x).canonical = d.canonical := Dev.canonical_of_chg (Dev.setHalf_chg ..) rfl
@[simp] theorem Dev.sendAck_canonical {d : Dev} {c : Nat} {stale : Bool} : (d.sendAck c stale).canonical = d.canonical :=
  Dev.canonical_of_chg (Dev.sendAck_chg ..) rfl
@[simp] theorem Dev.sentOver_canonical {d : Dev} {c : Nat} : (d.sentOver c).canonical = d.canonical := Dev.canonical_of_chg (Dev.sentOver_chg ..) rfl
@[simp] theorem Dev.setNow_canonical {d : Dev} {x : Nat} : (d.setNow x).canonical = d.canonical := Dev.canonical_of_chg (Dev.setNow_chg ..) rfl
@[simp] theorem Dev.settlePower_canonical {d : Dev}  {before : Dev} : (d.settlePower before).canonical = d.canonical :=
  Dev.canonical_of_chg (Dev.settlePower_chg ..) rfl
@[simp] theorem Dev.startTests_canonical {d : Dev} : d.startTests.canonical = d.canonical := Dev.canonical_of_chg (Dev.startTests_chg ..) rfl
@[simp] theorem Dev.showRepeat_canonical {d : Dev} {q layer exec : Nat} : (d.showRepeat q layer exec).canonical = d.canonical :=
  Dev.canonical_of_chg (Dev.showRepeat_chg ..) rfl
@[simp] theorem Dev.stageFail_canonical {d : Dev} {id status : Nat} : (d.stageFail id status).canonical = d.canonical :=
  Dev.canonical_of_chg (Dev.stageFail_chg ..) rfl
@[simp] theorem Dev.stallBegin_canonical {d : Dev} {q i : Nat} : (d.stallBegin q i).canonical = d.canonical :=
  Dev.canonical_of_chg (Dev.stallBegin_chg ..) rfl
@[simp] theorem Dev.stallEnd_canonical {d : Dev} {q i : Nat} : (d.stallEnd q i).canonical = d.canonical :=
  Dev.canonical_of_chg (Dev.stallEnd_chg ..) rfl
@[simp] theorem Dev.takeUnit_canonical {d : Dev} {k : Nat} : (d.takeUnit k).canonical = d.canonical := Dev.canonical_of_chg (Dev.takeUnit_chg ..) rfl
@[simp] theorem Dev.tierDone_canonical {d : Dev} {q i status : Nat} : (d.tierDone q i status).canonical = d.canonical :=
  Dev.canonical_of_chg (Dev.tierDone_chg ..) rfl
@[simp] theorem Dev.undoUpdate_canonical {d : Dev} {q : Nat} {e : CmdEx} : (d.undoUpdate q e).canonical = d.canonical :=
  Dev.canonical_of_chg (Dev.undoUpdate_chg ..) rfl
@[simp] theorem Dev.waitRef_canonical {d : Dev} {q i p k u : Nat} : (d.waitRef q i p k u).canonical = d.canonical :=
  Dev.canonical_of_chg (Dev.waitRef_chg ..) rfl

end Sys2Proof.Machine
end

section
/-! Operations on the tiers and on what holds them keep canonical form. -/

namespace Sys2Proof.Machine

@[simp] theorem Dev.write0_canonical {d : Dev} {k off : Nat} {bs : List Byte} (hd : d.canonical = true) : (d.write0 k off bs).canonical = true := by
  unfold Dev.write0
  grind [Dev.setObj_canonical, Dev.setT0_canonical, Dev.t0_wf, writeObj0_wf, foldl_wf]

@[simp] theorem Dev.write1_canonical {d : Dev} {ext : List Nat} {off : Nat} {bs : List Byte}
    (hd : d.canonical = true) : (d.write1 ext off bs).canonical = true := by
  unfold Dev.write1
  grind [Dev.setT1_canonical, Dev.t1_wf, writeExt_wf, foldl_wf]

@[simp] theorem Dev.writeAny_canonical {d : Dev} {k off : Nat} {bs : List Byte}
    (hd : d.canonical = true) : (d.writeAny k off bs).canonical = true := by
  unfold Dev.writeAny
  grind [Dev.setUnit_canonical, Dev.write0_canonical, Dev.write1_canonical, Dev.foldl_canonical, Dev.t1_wf]

@[simp] theorem Dev.putEntry_canonical {d : Dev} {j n off : Nat} {bs : List Byte}
    (hd : d.canonical = true) : (d.putEntry j n off bs).canonical = true := by
  unfold Dev.putEntry
  grind [Dev.writeAny_canonical]

/-- What happens to each valid entry of a job's scale table. -/
theorem Dev.eachEntry_canonical {d : Dev} {j : Nat} {f : Dev → Nat → Nat → Dev} (hd : d.canonical = true)
    (hf : ∀ x n y, x.canonical = true → (f x n y).canonical = true) : (d.eachEntry j f).canonical = true := by
  unfold Dev.eachEntry
  split
  · exact hd
  · refine Dev.foldl_canonical hd fun x n hx => ?_
    split
    · exact Dev.ite_canonical (hf _ _ _ hx) hx
    · exact hx

@[simp] theorem Dev.scaleAbort_canonical {d : Dev} {j : Nat} (hd : d.canonical = true) : (Dev.scaleAbort d j).canonical = true :=
  Dev.eachEntry_canonical hd fun _ _ _ hx => Dev.putEntry_canonical hx

@[simp] theorem Dev.freeRegion_canonical {d : Dev} {i : Nat} (hd : d.canonical = true) : (d.freeRegion i).canonical = true := by
  unfold Dev.freeRegion
  grind [Dev.wr_canonical, Dev.setT0_canonical, Dev.setMkt_canonical, Dev.t0_wf, memErase_wf, foldl_wf]

@[simp] theorem Dev.release0_canonical {d : Dev} {k u : Nat} (hd : d.canonical = true) : (d.release0 k u).canonical = true := by
  unfold Dev.release0
  grind [Dev.setUnit_canonical, Dev.freeRegion_canonical, Dev.t0_wf]

@[simp] theorem Dev.dropT0_canonical {d : Dev} {k u : Nat} (hd : d.canonical = true) : (d.dropT0 k u).canonical = true := by
  unfold Dev.dropT0
  grind [Dev.release0_canonical, Dev.setAsideUnit_canonical]

@[simp] theorem Dev.discardUnit_canonical {d : Dev} {k u : Nat} (hd : d.canonical = true) : (d.discardUnit k u).canonical = true := by
  unfold Dev.discardUnit
  grind [Dev.setUnit_canonical, Dev.dropT0_canonical, Dev.refill_canonical]

@[simp] theorem Dev.freeExtents_canonical {d : Dev} {owner : Nat} {es : List Nat}
    (hd : d.canonical = true) : (d.freeExtents owner es).canonical = true := by
  unfold Dev.freeExtents
  grind [Dev.wr_canonical, Dev.setTir_canonical, Dev.setT1_canonical, Dev.foldl_canonical, Dev.t1_wf, memErase_wf, foldl_wf]

@[simp] theorem Dev.trimT1_canonical {d : Dev} {k : Nat} (hd : d.canonical = true) : (d.trimT1 k).canonical = true := by
  unfold Dev.trimT1
  grind [Dev.setObj_canonical, Dev.freeExtents_canonical, Dev.t1_wf]

@[simp] theorem Dev.releaseStep_canonical {d : Dev} {j : Nat} (hd : d.canonical = true) : (d.releaseStep j).canonical = true := by
  unfold Dev.releaseStep
  grind [Dev.setTir_canonical, Dev.setObj_canonical, Dev.discardUnit_canonical, Dev.setCol_canonical, Dev.trimT1_canonical, Dev.foldl_canonical,
    foldl_wf]

@[simp] theorem Dev.stepOver_canonical {d : Dev} {j : Nat} (hd : d.canonical = true) : (d.stepOver j).canonical = true := by
  unfold Dev.stepOver
  grind [Dev.setJob_canonical, Dev.parkAtBoundary_canonical, Dev.releaseStep_canonical, Dev.unbind_canonical]

@[simp] theorem Dev.abortAttempt_canonical {d : Dev} {j reason rank t : Nat}
    (hd : d.canonical = true) : (d.abortAttempt j reason rank t).canonical = true := by
  unfold Dev.abortAttempt
  grind [Dev.wr_canonical, Dev.raiseLdg_canonical, Dev.resumeStopped_canonical, Dev.scaleAbort_canonical, Dev.setAcr_canonical,
    Dev.updNewest_canonical, Dev.setStepState_canonical, Dev.stepOver_canonical]

@[simp] theorem Dev.erase1_canonical {d : Dev} {ext : List Nat} {start len : Nat}
    (hd : d.canonical = true) : (d.erase1 ext start len).canonical = true := by
  unfold Dev.erase1
  grind [Dev.setT1_canonical, Dev.foldl_canonical, Dev.t1_wf, memErase_wf, foldl_wf]

@[simp] theorem Dev.pour1_canonical {d : Dev} {ext : List Nat} {start len : Nat} {data : Memory}
    (hd : d.canonical = true) : (d.pour1 ext start len data).canonical = true := by
  unfold Dev.pour1
  grind [Dev.setT1_canonical, Dev.erase1_canonical, Dev.healSectors_canonical, Dev.t1_wf, memPour_wf, foldl_wf]

theorem Dev.flush0_canonical {d e : Dev} {k : Nat} (he : Dev.flush0 d k = some e) (hd : d.canonical = true) : e.canonical = true := by
  unfold Dev.flush0 at he
  split at he
  · exact Option.some.inj he ▸ hd
  refine Dev.foldl_some_canonical he hd fun o u x hx ho => ?_
  split at hx
  · cases hx
  next d1 =>
    have h1 : d1.canonical = true := ho _ rfl
    dsimp only at hx
    split at hx
    · split at hx
      · cases hx
      next d2 hens =>
        have h2 : d2.canonical = true := (Dev.ensureT1_canonical hens).trans h1
        split at hx
        · exact Option.some.inj hx ▸ h2
        · rw [← Option.some.inj hx, Dev.setUnit_canonical]
          exact Dev.pour1_canonical h2
    · exact Option.some.inj hx ▸ h1

theorem Dev.acrDest_canonical {d e : Dev} {k : Nat} (he : Dev.acrDest d k = some e) (hd : d.canonical = true) : e.canonical = true := by
  unfold Dev.acrDest at he
  split at he
  · cases he
  split at he
  · cases he
  next d1 hflush =>
    have h1 := Dev.flush0_canonical hflush hd
    split at he
    · cases he
    next d2 hens =>
      have h2 : d2.canonical = true := (Dev.ensureT1_canonical hens).trans h1
      split at he
      · exact Option.some.inj he ▸ h2
      · rw [← Option.some.inj he]
        exact Dev.foldl_canonical h2 fun x u hx => Dev.setUnit_canonical.trans (Dev.ite_canonical (Dev.release0_canonical hx) hx)

@[simp] theorem Dev.collWrite_canonical {d : Dev} {x : PartId} {inT1 : Bool} {h off : Nat} {bs : List Byte}
    (hd : d.canonical = true) : (d.collWrite x inT1 h off bs).canonical = true := by
  unfold Dev.collWrite
  grind [Dev.setUnit_canonical, Dev.write0_canonical, Dev.write1_canonical, Dev.refill_canonical, Dev.foldl_canonical]

@[simp] theorem Dev.bufWrite_canonical {d : Dev} {k : Coll} {c : Cmd} {buf off : Nat} {bs : List Byte}
    (hd : d.canonical = true) : (d.bufWrite k c buf off bs).canonical = true := by
  unfold Dev.bufWrite
  grind [Dev.collWrite_canonical, Dev.updColl_canonical]

@[simp] theorem Dev.addInto_canonical {d : Dev} {k : Coll} {c : Cmd} {rank buf off : Nat} {bs : List Byte}
    (hd : d.canonical = true) : (d.addInto k c rank buf off bs).canonical = true := by
  unfold Dev.addInto
  grind [Dev.inc_canonical, Dev.bufWrite_canonical]

@[simp] theorem Dev.decideAttempt_canonical {d : Dev} {j : Nat} {commit : Bool} {t reason rank : Nat}
    (hd : d.canonical = true) : (d.decide_ j commit t reason rank).canonical = true := by
  unfold Dev.decide_
  grind [Dev.setJob_canonical, Dev.updNewest_canonical, Dev.abortAttempt_canonical, Dev.sendLdg_canonical, Dev.foldl_canonical]

@[simp] theorem Dev.memberGone_canonical {d : Dev} {dev : Nat} (hd : d.canonical = true) : (d.memberGone dev).canonical = true := by
  unfold Dev.memberGone
  grind [Dev.stepFailure_canonical, Dev.decideAttempt_canonical, Dev.supersede_canonical, Dev.foldl_canonical]

@[simp] theorem Dev.applyEntry_canonical {d : Dev} {e : Nat × Nat × RosterRec} (hd : d.canonical = true) : (d.applyEntry e).canonical = true := by
  unfold Dev.applyEntry
  grind [Dev.raise_canonical, Dev.setCol_canonical, Dev.losePeer_canonical, Dev.memberGone_canonical]

@[simp] theorem Dev.keeperChange_canonical {d : Dev} {entries : List (Nat × Nat × RosterRec)}
    (hd : d.canonical = true) : (d.keeperChange entries).canonical = true := by
  unfold Dev.keeperChange
  grind [Dev.sendCtrl_canonical, Dev.applyEntry_canonical, Dev.rosterChanged_canonical, Dev.foldl_canonical]

@[simp] theorem Dev.changeRec_canonical {d : Dev} {dev : Nat} {f : RosterRec → RosterRec}
    (hd : d.canonical = true) : (d.changeRec dev f).canonical = true := by
  unfold Dev.changeRec
  grind [Dev.keeperChange_canonical]

@[simp] theorem Dev.wakeSpare_canonical {d : Dev} {spare gone : Nat} (hd : d.canonical = true) : (d.wakeSpare spare gone).canonical = true := by
  unfold Dev.wakeSpare
  grind [Dev.raise_canonical, Dev.setCol_canonical, Dev.changeRec_canonical, Dev.wakeFrames_canonical]

@[simp] theorem Dev.nextSubst_canonical {d : Dev} (hd : d.canonical = true) : d.nextSubst.canonical = true := by
  unfold Dev.nextSubst
  grind [Dev.raise_canonical, Dev.setCol_canonical, Dev.wakeSpare_canonical]

@[simp] theorem Dev.enrol_canonical {d : Dev} {b : List Byte} (hd : d.canonical = true) : (d.enrol b).canonical = true := by
  unfold Dev.enrol
  grind [Dev.wr_canonical, Dev.setCol_canonical, Dev.sendCtrl_canonical, Dev.keeperChange_canonical, Dev.nextSubst_canonical,
    Dev.sendFull_canonical, Dev.sendLive_canonical]

@[simp] theorem Dev.poisonUnit_canonical {d : Dev} {k u tier : Nat} (hd : d.canonical = true) : (d.poisonUnit k u tier).canonical = true := by
  unfold Dev.poisonUnit
  grind [Dev.wr_canonical, Dev.raise_canonical, Dev.setUnit_canonical, Dev.release0_canonical, Dev.sixRelease_canonical, Dev.incSat_canonical,
    Dev.committedPoisoned_canonical, Dev.failWaits_canonical, Dev.raiseFor_canonical, Dev.refill_canonical, Dev.foldl_canonical, Dev.t0_wf]

@[simp] theorem Dev.loseT0_canonical {d : Dev} {k u : Nat} (hd : d.canonical = true) : (d.loseT0 k u).2.canonical = true := by
  unfold Dev.loseT0
  grind [Dev.setTir_canonical, Dev.release0_canonical, Dev.poisonUnit_canonical, foldl_wf]

@[simp] theorem Dev.closeGroup_canonical {d : Dev} {g : Nat} (hd : d.canonical = true) : (d.closeGroup g).canonical = true := by
  unfold Dev.closeGroup
  grind [Dev.raise_canonical, Dev.setMkt_canonical, Dev.stepFailure_canonical, Dev.failRefs_canonical, Dev.loseT0_canonical,
    Dev.recordRetirement_canonical, Dev.setBank_canonical, Dev.foldl_canonical]

@[simp] theorem Dev.retireStack_canonical {d : Dev} {k : Nat} (hd : d.canonical = true) : (d.retireStack k).canonical = true := by
  unfold Dev.retireStack
  grind [Dev.wr_canonical, Dev.setTir_canonical, Dev.poisonUnit_canonical, Dev.recordRetirement_canonical, Dev.setHealth_canonical,
    Dev.foldl_canonical, Dev.t1_wf, foldl_wf]

@[simp] theorem Dev.takeAlt_canonical {d : Dev} {k id : Nat} {retire : Bool}
    (hd : d.canonical = true) : (d.takeAlt k id retire).canonical = true := by
  unfold Dev.takeAlt
  grind [Dev.wr_canonical, Dev.setPort_canonical, Dev.recordRetirement_canonical, Dev.closeGroup_canonical, Dev.retireNamed_canonical,
    Dev.retireStack_canonical, Dev.setHif_canonical, Dev.setPortSt_canonical, Dev.startClosed_canonical, Dev.supersedeAll_canonical]

@[simp] theorem Dev.chooseAlt_canonical {d : Dev} {k alt : Nat} (hd : d.canonical = true) : (d.chooseAlt k alt).canonical = true := by
  unfold Dev.chooseAlt
  grind [Dev.setSec_canonical, Dev.takeAlt_canonical, Dev.updStage_canonical]

@[simp] theorem Dev.altChosen_canonical {d : Dev} {alt : Nat} (hd : d.canonical = true) : (d.altChosen alt).canonical = true := by
  unfold Dev.altChosen
  grind [Dev.sixRelease_canonical, Dev.setFlag_canonical, Dev.chooseAlt_canonical]

@[simp] theorem Dev.applyFull_canonical {d : Dev} {epoch keeper : Nat} {entries : List (Nat × Nat × RosterRec)}
    (hd : d.canonical = true) : (d.applyFull epoch keeper entries).canonical = true := by
  unfold Dev.applyFull
  grind [Dev.setCol_canonical, Dev.applyEntry_canonical, Dev.rosterChanged_canonical, Dev.askDecisions_canonical, Dev.refused_canonical,
    Dev.foldl_canonical]

@[simp] theorem Dev.applyScale_canonical {d : Dev} {j n x : Nat} {t : Int} (hd : d.canonical = true) : (d.applyScale j n x t).canonical = true := by
  unfold Dev.applyScale
  grind [Dev.raise_canonical, Dev.writeAny_canonical, Dev.putEntry_canonical, Dev.foldl_canonical]

@[simp] theorem Dev.raiseAmax_canonical {d : Dev} {j n : Nat} {y : FVal} (hd : d.canonical = true) : (d.raiseAmax j n y).canonical = true := by
  unfold Dev.raiseAmax
  grind [Dev.putEntry_canonical]

theorem Dev.soiled_canonical {d : Dev} {x : PartId} {l : List Opnd} : (l.foldl (fun d a => d.soil x a) d).canonical = d.canonical :=
  Dev.foldl_canonical_eq fun _ _ => Dev.soil_canonical

/-! ### Parts on their units -/

theorem Dev.onUnit_canonical {d : Dev} {x : PartId} {op : Nat} {act : Dev → Cmd → Nat → Dev} (hd : d.canonical = true)
    (ha : ∀ e c v, e.canonical = true → (act e c v).canonical = true) : (d.onUnit x op act).canonical = true := by
  unfold Dev.onUnit
  refine Dev.when_canonical hd ?_
  dsimp only
  split
  · exact Dev.failPart_canonical.trans hd
  · split
    · exact hd
    · exact ha _ _ _ (Dev.sit_canonical.trans hd)

theorem Dev.gate_canonical {d : Dev} {x : PartId} {l : List Opnd} {act : Dev → Dev} (hd : d.canonical = true)
    (ha : (act d).canonical = true) : (d.gate x l act).canonical = true := by
  unfold Dev.gate
  split
  · split
    · exact Dev.isolate_canonical.trans hd
    · exact Dev.failPart_canonical.trans hd
  · split
    · exact ha
    · exact hd

theorem Dev.withWord_canonical {d : Dev} {x : PartId} {h n : Nat} {bad : Dev → Dev} {act : Dev → Nat → Dev} (hd : d.canonical = true)
    (hb : (bad d).canonical = true) (ha : ∀ y, (act d y).canonical = true) : (d.withWord x h n bad act).canonical = true := by
  unfold Dev.withWord
  dsimp only
  split
  · exact Dev.failPart_canonical.trans hd
  · split
    · exact hb
    · split
      · exact ha _
      · exact hd

theorem Dev.withDesc_canonical {d : Dev} {x : PartId} {h : Nat} {l : List Opnd} {bad : Dev → Nat → Bool} {act : Dev → Nat → Dev}
    (hd : d.canonical = true) (ha : ∀ y, (act d y).canonical = true) : (d.withDesc x h l bad act).canonical = true := by
  unfold Dev.withDesc
  split
  · exact Dev.failPart_canonical.trans hd
  · split
    · exact ha _
    · refine Dev.withWord_canonical hd (Dev.descRejected_canonical.trans hd) fun y => ?_
      split
      · exact Dev.descRejected_canonical.trans hd
      · exact ha y

/-! ### The end of a part's drain -/

theorem Dev.raiseAmax_if_canonical {d : Dev} {b : Bool} {j n : Nat} {y : FVal} (hd : d.canonical = true) :
    (if b = true then d.raiseAmax j n y else d).canonical = true := by
  split
  · exact Dev.raiseAmax_canonical hd
  · exact hd

theorem Dev.drained_canonical {d : Dev} {g : DrainIn} {s : DrainSt} {opnds : List Opnd} (hd : d.canonical = true) (hs : s.mem.wf = true) :
    (d.drained g s opnds).canonical = true := by
  have hm : (if dStats g.desc then g.putStats s.mem [s.outs, s.sat, s.nf, s.ftz, s.sub, s.pftz, s.masked] else s.mem).wf = true := by
    split
    · exact putCounts_wf hs
    · exact hs
  unfold Dev.drained
  dsimp only
  refine Dev.raiseAmax_if_canonical ?_
  cases s.last <;> simp only [Dev.canonical_ite, Dev.raise_canonical, Dev.wr_canonical, Dev.incSat_canonical, Dev.tagKeep_canonical, Dev.soiled_canonical,
    Dev.setT0_canonical hd hm, ite_self]

section
variable {d : Dev} {g : DrainIn} {r : ArrayRun} {opnds : List Opnd} (hd : d.canonical = true) (hr : r.s.mem.wf = true)
include hd hr

theorem Dev.arrayDone_canonical {fmt work : Nat} : (d.arrayDone g r opnds fmt work).canonical = true := by
  unfold Dev.arrayDone
  dsimp only
  rw [Dev.finish_canonical, Dev.coreOn_canonical, Dev.coreCounts_canonical]
  exact Dev.drained_canonical hd hr

theorem Dev.arrayMismatch_canonical {row : Nat} : (d.arrayMismatch g r opnds row).canonical = true := by
  unfold Dev.arrayMismatch
  dsimp only
  simp only [Dev.beginReset_canonical, Dev.endPart_canonical, Dev.setCcr_canonical, Dev.raise_canonical, Dev.wr_canonical, Dev.incSat_canonical, Dev.coreCounts_canonical]
  exact Dev.drained_canonical hd hr

end

theorem Dev.runProd_canonical {d : Dev} {z : Product} {ts : List TileAt} {bad : Option CsFault} {opnds : List Opnd} {fmt work : Nat}
    (hd : d.canonical = true) : (d.runProd z ts bad opnds fmt work).canonical = true := by
  have hst : (({ s := { mem := d.t0 } } : ArrayRun)).s.mem.wf = true := Dev.t0_wf hd
  unfold Dev.runProd
  dsimp only
  split
  · exact Dev.arrayDone_canonical hd (Product.tiles_wf hst)
  · split
    · exact hd
    · split
      · exact hd
      · exact Dev.arrayMismatch_canonical hd (Product.tile_wf (Product.tiles_wf hst))

theorem Dev.runSlice64_canonical {d : Dev} {z : Slice} {ts : List TileAt} {bad : Option CsFault} {work : Nat}
    (hd : d.canonical = true) : (d.runSlice64 z ts bad work).canonical = true := by
  have hst : ∀ l : List TileAt, (l.foldl (fun st t => z.tile st t z.passes.length none t.nr) ({ s := { mem := d.t0 } } : ArrayRun)).s.mem.wf = true :=
    fun _ => foldl_run_wf (Dev.t0_wf hd) fun _ _ hx => Slice.tile_wf hx
  unfold Dev.runSlice64
  dsimp only
  split
  · rw [Dev.partRan_canonical, Dev.coreOn_canonical, Dev.coreCounts_canonical]
    exact Dev.drained_canonical hd (hst ts)
  · split
    · exact hd
    · split
      · exact hd
      · exact Dev.arrayMismatch_canonical hd (Slice.tile_wf (hst _))

section
variable {d : Dev} {x : PartId} {s : EngSt} {l : List Opnd} (hd : d.canonical = true) (hs : s.mem.wf = true)
include hd hs

theorem Dev.engCounts_canonical : (d.engCounts x s l).canonical = true := by
  unfold Dev.engCounts
  simp only [Dev.canonical_ite, Dev.engRaise_canonical, Dev.wr_canonical, Dev.soiled_canonical, Dev.setT0_canonical hd hs, ite_self]

theorem Dev.engDone_canonical {fmt work : Nat} : (d.engDone x s l fmt work).canonical = true :=
  Dev.finish_canonical.trans (Dev.engCounts_canonical hd hs)

theorem Dev.engFail_canonical {status : Nat} : (d.engFail x s l status).canonical = true :=
  Dev.failPart_canonical.trans (Dev.engCounts_canonical hd hs)

end

theorem Dev.tokensDone_canonical {d : Dev} {x : PartId} {w : EngSt × Bool} {l : List Opnd} {fmt work : Nat} (hd : d.canonical = true)
    (hw : w.1.mem.wf = true) : (d.tokensDone x w l fmt work).canonical = true := by
  unfold Dev.tokensDone
  split
  · exact Dev.engFail_canonical hd hw
  · exact Dev.engDone_canonical hd hw

theorem Dev.recordsDone_canonical {d : Dev} {x : PartId} {w : Memory × Nat × Bool} {l : List Opnd} {s : EngSt} {fmt work : Nat}
    (hd : d.canonical = true) (hw : w.1.wf = true) : (d.recordsDone x w l s fmt work).canonical = true := by
  have he : (d.engSpecial x 6 w.2.1).canonical = true := Dev.engSpecial_canonical.trans hd
  unfold Dev.recordsDone
  dsimp only
  split
  · exact Dev.engFail_canonical he hw
  · exact Dev.engDone_canonical he hw

/-! ### Parts run -/

theorem Dev.runMm_canonical {d : Dev} {x : PartId} {op : Nat} {bad : Option CsFault}
    (hd : d.canonical = true) : (d.runMm x op bad).canonical = true := by
  unfold Dev.runMm
  refine Dev.onUnit_canonical hd fun e c v he => Dev.withDesc_canonical he fun y => Dev.gate_canonical he ?_
  dsimp only
  split
  · exact Dev.unfit_canonical.trans he
  · exact Dev.runProd_canonical he

theorem Dev.runConv_canonical {d : Dev} {x : PartId} {bad : Option CsFault} (hd : d.canonical = true) : (d.runConv x bad).canonical = true := by
  unfold Dev.runConv
  refine Dev.onUnit_canonical hd fun e c v he => Dev.withDesc_canonical he fun y => Dev.gate_canonical he ?_
  dsimp only
  split
  · exact Dev.unfit_canonical.trans he
  · exact Dev.runProd_canonical he

theorem Dev.runAttn_canonical {d : Dev} {x : PartId} {bad : Option CsFault} (hd : d.canonical = true) : (d.runAttn x bad).canonical = true := by
  unfold Dev.runAttn
  refine Dev.onUnit_canonical hd fun e c v he => Dev.withDesc_canonical he fun y => Dev.gate_canonical he ?_
  have hrun : (({ s := { mem := e.t0 } } : ArrayRun)).s.mem.wf = true := Dev.t0_wf he
  dsimp only
  split
  · exact Dev.unfit_canonical.trans he
  · split
    · exact Dev.arrayDone_canonical he (foldl_run_wf hrun fun _ _ hx => Attn.unit_wf hx)
    · split
      · exact he
      · split
        · exact he
        · refine Dev.arrayMismatch_canonical he ?_
          dsimp only
          exact Attn.unit_wf (foldl_run_wf hrun fun _ _ hx => Attn.unit_wf hx)

theorem Dev.runSlice_canonical {d : Dev} {x : PartId} {op : Nat} (hd : d.canonical = true) : (d.runSlice x op).canonical = true := by
  unfold Dev.runSlice
  split
  · exact hd
  · refine Dev.onUnit_canonical hd fun e c v he => Dev.gate_canonical he ?_
    dsimp only
    split
    · exact Dev.unfit_canonical.trans he
    · split
      · exact Dev.failPart_canonical.trans he
      · rw [Dev.setHalf_canonical, Dev.soil_canonical]
        exact Dev.setT0_canonical he (foldl_wf (foldl_wf (Dev.t0_wf he) fun _ _ hx => putExp_wf (putPlanes_wf hx)) fun _ _ hx => putExp_wf (putPlanes_wf hx))

theorem Dev.runProduct_canonical {d : Dev} {x : PartId} {op : Nat} {bad : Option CsFault} (hd : d.canonical = true) :
    (d.runProduct x op bad).canonical = true := by
  unfold Dev.runProduct
  split
  · exact hd
  · split
    · exact Dev.when_canonical hd (Dev.failPart_canonical.trans hd)
    · split
      · exact hd
      · refine Dev.onUnit_canonical hd fun e c v he => Dev.gate_canonical he ?_
        dsimp only
        split
        · exact Dev.runSlice64_canonical he
        · exact Dev.runProd_canonical he

theorem Dev.runNorm_canonical {d : Dev} {x : PartId} (hd : d.canonical = true) : (d.runNorm x).canonical = true := by
  unfold Dev.runNorm
  refine Dev.onUnit_canonical hd fun e c v he => Dev.gate_canonical he ?_
  have h0 : ({ mem := e.t0 } : EngSt).mem.wf = true := Dev.t0_wf he
  dsimp only
  split
  · exact Dev.unfit_canonical.trans he
  · refine Dev.engDone_canonical he ?_
    split
    · exact foldl_st_wf h0 fun _ _ hx => NormIn.putRow_wf hx
    · split
      · exact NormIn.putParams_wf (foldl_st_wf h0 fun _ _ hx => NormIn.putRow_wf hx)
      · split
        · exact foldl_st_wf h0 fun _ _ hx => NormIn.putRow_wf hx
        · split
          · exact NormIn.batchstat_wf h0
          · exact NormIn.reductions_wf h0

theorem Dev.runSf_canonical {d : Dev} {x : PartId} (hd : d.canonical = true) : (d.runSf x).canonical = true := by
  unfold Dev.runSf
  refine Dev.onUnit_canonical hd fun e c v he => Dev.gate_canonical he ?_
  dsimp only
  split
  · exact Dev.unfit_canonical.trans he
  · refine Dev.engDone_canonical he ?_
    split
    · exact DrainSt.put_wf (DrainSt.put_wf (Dev.t0_wf he))
    · exact DrainSt.put_wf (Dev.t0_wf he)

theorem Dev.runVx_canonical {d : Dev} {x : PartId} (hd : d.canonical = true) : (d.runVx x).canonical = true := by
  unfold Dev.runVx
  refine Dev.onUnit_canonical hd fun e c v he => Dev.withWord_canonical he (Dev.chainRejected_canonical.trans he) fun y => ?_
  dsimp only
  split
  · exact Dev.chainRejected_canonical.trans he
  · split
    · exact Dev.failPart_canonical.trans he
    · refine Dev.gate_canonical he ?_
      split
      · exact Dev.unfit_canonical.trans he
      · refine Dev.raiseAmax_if_canonical (Dev.engDone_canonical he ?_)
        split
        · exact putCounts_wf (Dev.vxOutput_wf (Dev.vxOutput_wf (Dev.t0_wf he)))
        · exact Dev.vxOutput_wf (Dev.vxOutput_wf (Dev.t0_wf he))

theorem Dev.runRoute_canonical {d : Dev} {x : PartId} (hd : d.canonical = true) : (d.runRoute x).canonical = true := by
  unfold Dev.runRoute
  split
  · exact hd
  · refine Dev.onUnit_canonical hd fun e c v he => Dev.gate_canonical he ?_
    dsimp only
    split
    · exact Dev.unfit_canonical.trans he
    · rw [Dev.setHalf_canonical, Dev.soil_canonical]
      exact Dev.setT0_canonical he (foldl_wf (Dev.t0_wf he) fun _ _ hx => foldl_wf hx fun _ _ hy => putSel_wf hy)

theorem Dev.runRoute2_canonical {d : Dev} {x : PartId} (hd : d.canonical = true) : (d.runRoute2 x).canonical = true := by
  unfold Dev.runRoute2
  split
  · exact hd
  · split
    · exact Dev.when_canonical hd (Dev.failPart_canonical.trans hd)
    · split
      · exact hd
      · refine Dev.onUnit_canonical hd fun e c v he => Dev.gate_canonical he ?_
        refine Dev.engDone_canonical (Dev.engSpecial_canonical.trans he) ?_
        split
        · exact Dev.routeStats'_wf (foldl_wf (Dev.t0_wf he) fun _ _ hx => putSel_wf hx)
        · exact foldl_wf (Dev.t0_wf he) fun _ _ hx => putSel_wf hx

theorem Dev.runPermute_canonical {d : Dev} {x : PartId} (hd : d.canonical = true) : (d.runPermute x).canonical = true := by
  unfold Dev.runPermute
  refine Dev.onUnit_canonical hd fun e c v he => Dev.gate_canonical he ?_
  have h0 : ({ mem := e.t0 } : EngSt).mem.wf = true := Dev.t0_wf he
  dsimp only
  split
  · split
    · exact Dev.unfit_canonical.trans he
    · refine Dev.tokensDone_canonical he (tokensRun_wf h0 fun s tok s' hs h => ?_)
      split at h
      · cases h
      · rw [← Option.some.inj h]
        exact foldl_wf hs fun _ _ hx => copyRow_wf hx
  · split
    · exact Dev.unfit_canonical.trans he
    · refine Dev.tokensDone_canonical he (tokensRun_wf h0 fun s tok s' hs h => ?_)
      split at h
      · cases h
      · rw [← Option.some.inj h]
        exact DrainSt.put_wf hs

theorem Dev.runCombine_canonical {d : Dev} {x : PartId} (hd : d.canonical = true) : (d.runCombine x).canonical = true := by
  unfold Dev.runCombine
  refine Dev.onUnit_canonical hd fun e c v he => Dev.gate_canonical he ?_
  have h0 : ({ mem := e.t0 } : EngSt).mem.wf = true := Dev.t0_wf he
  dsimp only
  split
  · exact Dev.unfit_canonical.trans he
  · split
    · refine Dev.tokensDone_canonical he (tokensRun_wf h0 fun s tok s' hs h => ?_)
      split at h
      · cases h
      · rw [← Option.some.inj h]
        exact DrainSt.put_wf hs
    · split
      · exact Dev.unfit_canonical.trans he
      · refine Dev.tokensDone_canonical he (tokensRun_wf h0 fun s tok s' hs h => ?_)
        split at h
        · cases h
        · rw [← Option.some.inj h]
          exact foldl_st_wf (foldl_st_wf hs fun _ _ hx => putWord_wf hx) fun _ _ hx => putWord_wf (DrainSt.put_wf hx)

theorem Dev.runFft_canonical {d : Dev} {x : PartId} (hd : d.canonical = true) : (d.runFft x).canonical = true := by
  unfold Dev.runFft
  refine Dev.onUnit_canonical hd fun e c v he => Dev.gate_canonical he ?_
  dsimp only
  split
  · exact Dev.unfit_canonical.trans he
  · exact Dev.engDone_canonical he (foldl_st_wf (Dev.t0_wf he) fun _ _ hx => DrainSt.put_wf hx)

theorem Dev.runGather_canonical {d : Dev} {x : PartId} (hd : d.canonical = true) : (d.runGather x).canonical = true := by
  unfold Dev.runGather
  refine Dev.onUnit_canonical hd fun e c v he => Dev.gate_canonical he ?_
  dsimp only
  split
  · exact Dev.unfit_canonical.trans he
  · refine Dev.recordsDone_canonical he (recordsRun_wf ?_ fun m i m' hm h => ?_)
    · split
      · exact Dev.t0_wf he
      · refine foldl_wf (Dev.t0_wf he) fun m i hm => ?_
        split
        · exact writeObj0_wf hm
        · exact hm
    · obtain ⟨k, -, rfl⟩ := Option.map_eq_some_iff.mp h
      exact writeObj0_wf hm

theorem Dev.runScatter_canonical {d : Dev} {x : PartId} (hd : d.canonical = true) : (d.runScatter x).canonical = true := by
  unfold Dev.runScatter
  refine Dev.onUnit_canonical hd fun e c v he => Dev.gate_canonical he ?_
  refine Dev.ite_canonical (Dev.unfit_canonical.trans he) ?_
  refine Dev.recordsDone_canonical he (recordsRun_wf (Dev.t0_wf he) fun m i m' hm h => ?_)
  obtain ⟨k, -, rfl⟩ := Option.map_eq_some_iff.mp h
  exact foldl_wf hm fun _ _ hx => putWord_wf hx

@[simp] theorem Dev.pour0_canonical {d : Dev} {base len : Nat} {data : Memory}
    (hd : d.canonical = true) : (d.pour0 base len data).canonical = true := by
  unfold Dev.pour0
  grind [Dev.setT0_canonical, Dev.t0_wf, memErase_wf, memPour_wf, foldl_wf]

@[simp] theorem Dev.arrive_canonical {d : Dev} {k u : Nat} {data : List Byte} (hd : d.canonical = true) : (d.arrive k u data).canonical = true := by
  unfold Dev.arrive
  grind [Dev.setUnit_canonical, Dev.pour1_canonical, Dev.grantWaits_canonical, Dev.moveDone_canonical, Dev.pour0_canonical,
    Dev.serveWaits_canonical, Dev.settle0_canonical, Dev.t0_wf]

@[simp] theorem Dev.recoverJobs_canonical {d : Dev} (hd : d.canonical = true) : d.recoverJobs.canonical = true := by
  unfold Dev.recoverJobs
  grind [Dev.abortAttempt_canonical, Dev.askDecisions_canonical, Dev.foldl_canonical]

theorem Dev.sixAlloc_getD_canonical {d : Dev} {kind owner job parent object queue h : Nat} :
    ((d.sixAlloc kind owner job parent object queue).getD (h, d)).2.canonical = d.canonical := by
  cases hs : d.sixAlloc kind owner job parent object queue with
  | none => rfl
  | some x => exact Dev.sixAlloc_canonical (h := x.1) hs

@[simp] theorem Dev.beginStage_canonical {d : Dev} {k : Nat} (hd : d.canonical = true) : (Dev.beginStage d k).canonical = true := by
  unfold Dev.beginStage
  extract_lets src d1 d2 d3 d4 n d5 r d6
  have h2 : d2.canonical = true := Dev.updEntry_canonical.trans (Dev.setSec_canonical.trans hd)
  have h3 : d3.canonical = true := Dev.ite_canonical (Dev.wr_canonical.trans h2) h2
  have h4 : d4.canonical = true := Dev.ite_canonical (Dev.recoverJobs_canonical h3) h3
  refine Dev.ite_canonical h4 (Dev.ite_canonical (Dev.chooseAlt_canonical h4) (Dev.ite_canonical ?_ (Dev.chooseAlt_canonical h4)))
  rw [Dev.raiseBits_canonical, Dev.setFlag_canonical, Dev.setSec_canonical, Dev.wr_canonical, Dev.sixAlloc_getD_canonical, Dev.wr_canonical,
    Dev.wr_canonical]
  exact h4

@[simp] theorem Dev.bootStart_canonical {d : Dev} {kind : Nat} (hd : d.canonical = true) : (d.bootStart kind).canonical = true := by
  unfold Dev.bootStart
  grind [Dev.wr_canonical, Dev.setSec_canonical, Dev.setHif_canonical, Dev.beginStage_canonical]

@[simp] theorem Dev.bootRestart_canonical {d : Dev} (hd : d.canonical = true) : d.bootRestart.canonical = true := by
  unfold Dev.bootRestart
  grind [Dev.bootStart_canonical, Dev.linksDown_canonical, Dev.romRecovery_canonical]

@[simp] theorem Dev.coordDecide_canonical {d : Dev} {j : Nat} (hd : d.canonical = true) : (d.coordDecide j).canonical = true := by
  unfold Dev.coordDecide
  grind [Dev.decideAttempt_canonical]

@[simp] theorem Dev.castVote_canonical {d : Dev} {j : Nat} {v : Vote} (hd : d.canonical = true) : (d.castVote j v).canonical = true := by
  unfold Dev.castVote
  grind [Dev.setJob_canonical, Dev.updNewest_canonical, Dev.sixAlloc_canonical, Dev.sendLdg_canonical, Dev.assistOpen_canonical,
    Dev.coordDecide_canonical, Dev.showLdgAssist_canonical, Dev.startBound_canonical]

@[simp] theorem Dev.loadDone_canonical {d : Dev} {l : Load} (hd : d.canonical = true) : (d.loadDone l).canonical = true := by
  unfold Dev.loadDone
  grind [Dev.raise_canonical, Dev.setObj_canonical, Dev.freeRegion_canonical, Dev.updLoad_canonical, Dev.setSlotState_canonical, Dev.foldl_canonical]

@[simp] theorem Dev.dropCopy_canonical {d : Dev} {k : Nat} (hd : d.canonical = true) : (d.dropCopy k).canonical = true := by
  unfold Dev.dropCopy
  grind [Dev.setTir_canonical, Dev.release0_canonical, Dev.freeExtents_canonical, Dev.foldl_canonical, foldl_wf]

@[simp] theorem Dev.emptySlot_canonical {d : Dev} {s sl : Nat} (hd : d.canonical = true) : (d.emptySlot s sl).canonical = true := by
  unfold Dev.emptySlot
  grind [Dev.setSlotState_canonical, Dev.dropCopy_canonical, Dev.foldl_canonical]

@[simp] theorem Dev.loadFail_canonical {d : Dev} {l : Load} {status : Nat} (hd : d.canonical = true) : (d.loadFail l status).canonical = true := by
  unfold Dev.loadFail
  grind [Dev.raise_canonical, Dev.freeRegion_canonical, Dev.updLoad_canonical, Dev.emptySlot_canonical]

@[simp] theorem Dev.freeClean0_canonical {d : Dev} {owner n : Nat} (hd : d.canonical = true) : (d.freeClean0 owner n).canonical = true := by
  unfold Dev.freeClean0
  grind [Dev.release0_canonical, Dev.foldl_canonical]

@[simp] theorem Dev.freeClean1_canonical {d : Dev} {owner n : Nat} (hd : d.canonical = true) : (d.freeClean1 owner n).canonical = true := by
  unfold Dev.freeClean1
  grind [Dev.setUnit_canonical, Dev.trimT1_canonical, Dev.foldl_canonical]

/-- A fold that carries a device behind another value and may stop without one. -/
theorem Dev.foldl_some_snd_canonical {α β : Type} {f : Option (β × Dev) → α → Option (β × Dev)} {l : List α} {d : Dev} {b : β} {e : β × Dev}
    (he : l.foldl f (some (b, d)) = some e) (hd : d.canonical = true)
    (hf : ∀ o a x, f o a = some x → (∀ y, o = some y → y.2.canonical = true) → x.2.canonical = true) : e.2.canonical = true :=
  List.foldlRecOn (motive := fun o => ∀ y, o = some y → y.2.canonical = true) l f (fun _ hy => Option.some.inj hy ▸ hd)
    (fun o ho a _ x hx => hf o a x hx ho) e he

theorem Dev.makeCopies_canonical {d e : Dev} {l : Load} {os : List WpkObj} {x : List (Nat × Nat × Nat)} {y : Nat}
    (he : d.makeCopies l os = some (x, y, e)) (hd : d.canonical = true) : e.canonical = true := by
  unfold Dev.makeCopies at he
  dsimp only at he
  split at he
  · cases he
  next items d1 h1 =>
    obtain ⟨z, hz, heq⟩ := Option.map_eq_some_iff.mp he
    have h1c : d1.canonical = true := by
      refine Dev.foldl_some_snd_canonical h1 hd fun o a w hw ho => ?_
      split at hw
      · cases hw
      next items' d2 =>
        obtain ⟨d3, h3, rfl⟩ := Option.map_eq_some_iff.mp hw
        have h2 : d2.canonical = true := ho _ rfl
        exact (Dev.ensureT1_canonical h3).trans (Dev.setObj_canonical.trans (Dev.ite_canonical h2 (Dev.freeClean1_canonical h2)))
    obtain ⟨i, b, d4⟩ := z
    obtain ⟨rfl, rfl, rfl⟩ := heq
    exact (Dev.newRegion_canonical hz).trans (Dev.freeClean0_canonical h1c)

@[simp] theorem Dev.takeTables_canonical {d : Dev} {l : Load} {t : List Byte} (hd : d.canonical = true) : (d.takeTables l t).canonical = true := by
  unfold Dev.takeTables
  grind [Dev.setWset_canonical, Dev.updLoad_canonical, Dev.forward_canonical, Dev.loadDone_canonical, Dev.loadFail_canonical,
    Dev.makeCopies_canonical]

@[simp] theorem Dev.chainPlace_canonical {d : Dev} {l : Load} {no off len : Nat} {bytes : List Byte}
    (hd : d.canonical = true) : (d.chainPlace l no off len bytes).canonical = true := by
  unfold Dev.chainPlace
  grind [Dev.updLoad_canonical, Dev.takeChunk_canonical, Dev.takeTables_canonical]

@[simp] theorem Dev.startPhase_canonical {d : Dev} {k : Coll} {c : Cmd} {st : CollStep}
    (hd : d.canonical = true) : (d.startPhase k c st).canonical = true := by
  unfold Dev.startPhase
  grind [Dev.updColl_canonical, Dev.bufWrite_canonical, Dev.failColl_canonical, Dev.failTransfer_canonical, Dev.foldl_canonical]

@[simp] theorem Dev.collGo_canonical {n : Nat} {d : Dev} {q i : Nat} (hd : d.canonical = true) : (Dev.collGo n d q i).canonical = true := by
  induction n generalizing d with
  | zero => exact hd
  | succ n ih =>
    unfold Dev.collGo
    grind [Dev.collPush_canonical, Dev.startPhase_canonical, Dev.collDone_canonical, Dev.updColl_canonical]

@[simp] theorem Dev.collAdvance_canonical {d : Dev} {q i : Nat} (hd : d.canonical = true) : (d.collAdvance q i).canonical = true := by
  unfold Dev.collAdvance
  grind [Dev.collGo_canonical]

@[simp] theorem Dev.collAll_canonical {d : Dev} (hd : d.canonical = true) : d.collAll.canonical = true := by
  unfold Dev.collAll
  grind [Dev.collAdvance_canonical, Dev.foldl_canonical]

@[simp] theorem Dev.contribute_canonical {d : Dev} {k : Coll} {c : Cmd} {alg : Nat}
    (hd : d.canonical = true) : (d.contribute k c alg).canonical = true := by
  unfold Dev.contribute
  grind [Dev.bufWrite_canonical, Dev.addInto_canonical, Dev.foldl_canonical]

@[simp] theorem Dev.collBegin_canonical {d : Dev} {q i : Nat} (hd : d.canonical = true) : (d.collBegin q i).canonical = true := by
  unfold Dev.collBegin
  grind [Dev.raise_canonical, Dev.acrDest_canonical, Dev.partRan_canonical, Dev.updColl_canonical, Dev.bufWrite_canonical, Dev.failColl_canonical,
    Dev.incSat_canonical, Dev.contribute_canonical, Dev.refused_canonical, Dev.foldl_canonical]

@[simp] theorem Dev.createObj_canonical {d : Dev} {f : Nat} {r : MbxReq} {p : Nat}
    (hd : d.canonical = true) : (Dev.createObj d f r p).canonical = true := by
  unfold Dev.createObj
  simp only
  repeat' split
  all_goals simp [hd, Dev.freeClean1_canonical]

@[simp] theorem Dev.deleteObj_canonical {d : Dev} {k : Nat} {o : Obj} (hd : d.canonical = true) : (d.deleteObj k o).canonical = true := by
  unfold Dev.deleteObj
  grind [Dev.wr_canonical, Dev.setTir_canonical, Dev.setObj_canonical, Dev.dropT0_canonical, Dev.setCol_canonical, Dev.freeExtents_canonical,
    Dev.sixRelease_canonical, Dev.failWaits_canonical, Dev.moveDone_canonical, Dev.showTir_canonical, Dev.clearWindows_canonical,
    Dev.foldl_canonical, foldl_wf]

@[simp] theorem Dev.takeAbort_canonical {d : Dev} {m : LdgMsg} (hd : d.canonical = true) : (d.takeAbort m).canonical = true := by
  unfold Dev.takeAbort
  grind [Dev.setJob_canonical, Dev.updNewest_canonical, Dev.abortAttempt_canonical, Dev.supersede_canonical, Dev.staleMsg_canonical]

@[simp] theorem Dev.scaleCommit_canonical {d : Dev} {j : Nat} (hd : d.canonical = true) : (Dev.scaleCommit d j).canonical = true :=
  Dev.eachEntry_canonical hd fun _ _ _ hx => Dev.putEntry_canonical (Dev.putEntry_canonical (Dev.putEntry_canonical hx))

@[simp] theorem Dev.flip_canonical {d : Dev} {j t : Nat} (hd : d.canonical = true) : (d.flip j t).canonical = true := by
  unfold Dev.flip
  grind [Dev.wr_canonical, Dev.wr64_canonical, Dev.updNewest_canonical, Dev.setStepState_canonical, Dev.stepOver_canonical,
    Dev.commitGroups_canonical, Dev.commitNoise_canonical, Dev.dueImage_canonical, Dev.flipBuffers_canonical, Dev.scaleCommit_canonical]

@[simp] theorem Dev.queryDecide_canonical {d : Dev} {j : Nat} (hd : d.canonical = true) : (d.queryDecide j).canonical = true := by
  unfold Dev.queryDecide
  grind [Dev.decideAttempt_canonical]

@[simp] theorem Dev.takeAnswer_canonical {d : Dev} {m : LdgMsg} (hd : d.canonical = true) : (d.takeAnswer m).canonical = true := by
  unfold Dev.takeAnswer
  grind [Dev.setJob_canonical, Dev.abortAttempt_canonical, Dev.decideAttempt_canonical, Dev.staleMsg_canonical, Dev.flip_canonical,
    Dev.queryDecide_canonical]

@[simp] theorem Dev.lateFlip_canonical {d : Dev} {j t : Nat} (hd : d.canonical = true) : (d.lateFlip j t).canonical = true := by
  unfold Dev.lateFlip
  grind [Dev.raiseLdg_canonical, Dev.incSat_canonical, Dev.flip_canonical]

@[simp] theorem Dev.takeCommit_canonical {d : Dev} {m : LdgMsg} (hd : d.canonical = true) : (d.takeCommit m).canonical = true := by
  unfold Dev.takeCommit
  grind [Dev.setJob_canonical, Dev.updNewest_canonical, Dev.staleMsg_canonical, Dev.lateFlip_canonical]

@[simp] theorem Dev.takeVote_canonical {d : Dev} {m : LdgMsg} (hd : d.canonical = true) : (d.takeVote m).canonical = true := by
  unfold Dev.takeVote
  grind [Dev.setJob_canonical, Dev.coordDecide_canonical, Dev.startBound_canonical, Dev.staleMsg_canonical]

@[simp] theorem Dev.ledgerCtrl_canonical {d : Dev} {b : List Byte} (hd : d.canonical = true) : (d.ledgerCtrl b).canonical = true := by
  unfold Dev.ledgerCtrl
  grind [Dev.rxBad_canonical, Dev.takeAbort_canonical, Dev.takeAnswer_canonical, Dev.takeCommit_canonical, Dev.takeHold_canonical,
    Dev.takePark_canonical, Dev.takeQuery_canonical, Dev.takeStall_canonical, Dev.takeUnpark_canonical, Dev.takeVote_canonical]

@[simp] theorem Dev.takeHb_canonical {d : Dev} {b : List Byte} (hd : d.canonical = true) : (d.takeHb b).canonical = true := by
  unfold Dev.takeHb
  grind [Dev.setCol_canonical, Dev.changeRec_canonical, Dev.rxBad_canonical]

@[simp] theorem Dev.takeJoin_canonical {d : Dev} {b : List Byte} (hd : d.canonical = true) : (d.takeJoin b).canonical = true := by
  unfold Dev.takeJoin
  grind [Dev.setCol_canonical, Dev.sendCtrl_canonical, Dev.enrol_canonical, Dev.drawIndex_canonical, Dev.rxBad_canonical]

@[simp] theorem Dev.takeKeeper_canonical {d : Dev} {b : List Byte} (hd : d.canonical = true) : (Dev.takeKeeper d b).canonical = true := by
  unfold Dev.takeKeeper
  dsimp only
  repeat' split
  all_goals simp [hd, Dev.applyEntry_canonical, Dev.rosterChanged_canonical]

@[simp] theorem Dev.removeDevice_canonical {d : Dev} {dev : Nat} {subst : Bool}
    (hd : d.canonical = true) : (d.removeDevice dev subst).canonical = true := by
  unfold Dev.removeDevice
  grind [Dev.raise_canonical, Dev.setCol_canonical, Dev.keeperChange_canonical, Dev.wakeSpare_canonical]

@[simp] theorem Dev.wantRemoved_canonical {d : Dev} {kind dev : Nat} (hd : d.canonical = true) : (d.wantRemoved kind dev).canonical = true := by
  unfold Dev.wantRemoved
  grind [Dev.colAssist_canonical, Dev.removeDevice_canonical]

@[simp] theorem Dev.takeLeave_canonical {d : Dev} {b : List Byte} (hd : d.canonical = true) : (d.takeLeave b).canonical = true := by
  unfold Dev.takeLeave
  grind [Dev.changeRec_canonical, Dev.rxBad_canonical, Dev.wantRemoved_canonical]

@[simp] theorem Dev.takeQuote_canonical {d : Dev} {b : List Byte} (hd : d.canonical = true) : (d.takeQuote b).canonical = true := by
  unfold Dev.takeQuote
  grind [Dev.raise_canonical, Dev.setCol_canonical, Dev.sendCtrl_canonical, Dev.enrol_canonical, Dev.rxBad_canonical]

@[simp] theorem Dev.takeRed_canonical {d : Dev} {src : Nat} {b : Cmd} (hd : d.canonical = true) : (d.takeRed src b).canonical = true := by
  unfold Dev.takeRed
  grind [Dev.raise_canonical, Dev.setJob_canonical, Dev.abortAttempt_canonical, Dev.incSat_canonical, Dev.sendCtrl_canonical,
    Dev.decideAttempt_canonical, Dev.foldl_canonical]

@[simp] theorem Dev.takeRoster_canonical {d : Dev} {b : List Byte} (hd : d.canonical = true) : (Dev.takeRoster d b).canonical = true := by
  have hall : ∀ l : List (Nat × Nat × RosterRec), (l.foldl Dev.applyEntry d).canonical = true := fun _ =>
    Dev.foldl_canonical hd fun _ _ hx => Dev.applyEntry_canonical hx
  unfold Dev.takeRoster
  dsimp only
  repeat' split
  all_goals simp [hd, hall, Dev.applyFull_canonical, Dev.rosterChanged_canonical]

@[simp] theorem Dev.takeUnreach_canonical {d : Dev} {b : List Byte} (hd : d.canonical = true) : (d.takeUnreach b).canonical = true := by
  unfold Dev.takeUnreach
  grind [Dev.rxBad_canonical, Dev.wantRemoved_canonical]

@[simp] theorem Dev.deliver_canonical {d : Dev} {src : Nat} {b : List Byte} (hd : d.canonical = true) : (d.deliver src b).canonical = true := by
  unfold Dev.deliver
  grind [Dev.rxBad_canonical, Dev.ledgerCtrl_canonical, Dev.takeBeacon_canonical, Dev.takeHb_canonical, Dev.takeJoin_canonical,
    Dev.takeKeeper_canonical, Dev.takeLeave_canonical, Dev.takeQuote_canonical, Dev.takeQuoteReq_canonical, Dev.takeRed_canonical,
    Dev.takeRoster_canonical, Dev.takeUnreach_canonical, Dev.takeWakeDone_canonical]

@[simp] theorem Dev.drainSlots_canonical {d : Dev} (hd : d.canonical = true) : d.drainSlots.canonical = true := by
  unfold Dev.drainSlots
  grind [Dev.raise_canonical, Dev.emptySlot_canonical, Dev.foldl_canonical]

@[simp] theorem Dev.dropAlias_canonical {d : Dev} {k : Nat} (hd : d.canonical = true) : (d.dropAlias k).canonical = true := by
  unfold Dev.dropAlias
  grind [Dev.setObj_canonical, Dev.release0_canonical, Dev.foldl_canonical]

@[simp] theorem Dev.loseD3_canonical {d : Dev} (hd : d.canonical = true) : (Dev.loseD3 d).canonical = true := by
  unfold Dev.loseD3
  dsimp only
  rw [Dev.d3Regs_canonical, Dev.bindsD3_canonical, Dev.foldl_canonical_eq fun _ _ => Dev.portD3_canonical]
  simp only [Dev.wr_canonical, Dev.setHlt_canonical, Dev.setAcr_canonical, Dev.setCol_canonical, Dev.setSpr_canonical, Dev.setTim_canonical,
    Dev.setEvt_canonical, Dev.setStampHold_canonical, Dev.setTbn_canonical, Dev.setSix_canonical, Dev.lowerLimits_canonical]
  rw [Dev.foldl_canonical_eq fun _ _ => Dev.wr_canonical, Dev.setMkt_canonical, Dev.setCcr_canonical]
  refine Dev.setT0_canonical ?_ Memory.wf_nil
  rw [Dev.setTir_canonical, Dev.queuesD3_canonical, Dev.setLdg_canonical, Dev.foldl_canonical_eq fun _ _ => Dev.endTest_canonical]
  exact hd

@[simp] theorem Dev.wipe_canonical {d : Dev} : (Dev.wipe d).canonical = true := by
  unfold Dev.wipe
  simp only [Dev.wr_canonical]
  rfl

@[simp] theorem Dev.enterLow_canonical {d : Dev} (hd : d.canonical = true) : d.enterLow.canonical = true := by
  unfold Dev.enterLow
  grind [Dev.wr_canonical, Dev.setSec_canonical, Dev.linksDown_canonical, Dev.loseD3_canonical, Dev.setPwr_canonical, Dev.wipe_canonical]

@[simp] theorem Dev.releaseLeft_canonical {d : Dev} {k u : Nat} (hd : d.canonical = true) : (d.releaseLeft k u).canonical = true := by
  unfold Dev.releaseLeft
  grind [Dev.setObj_canonical, Dev.setUnit_canonical, Dev.freeRegion_canonical, Dev.release0_canonical, Dev.trimT1_canonical, Dev.foldl_canonical,
    Dev.t0_wf, Dev.t1_wf]

@[simp] theorem Dev.evictUnit_canonical {d : Dev} {q i k u t : Nat} (hd : d.canonical = true) : (d.evictUnit q i k u t).canonical = true := by
  unfold Dev.evictUnit
  grind [Dev.setUnit_canonical, Dev.ensureT1_canonical, Dev.addWork_canonical, Dev.writeBack_canonical, Dev.leave1_canonical, Dev.room_canonical,
    Dev.releaseLeft_canonical, Dev.t0_wf, Dev.t1_wf]

@[simp] theorem Dev.failBank_canonical {d : Dev} {b bit : Nat} (hd : d.canonical = true) : (d.failBank b bit).canonical = true := by
  unfold Dev.failBank
  grind [Dev.raise_canonical, Dev.setMkt_canonical, Dev.setBank_canonical, Dev.closeGroup_canonical, Dev.sprOpen_canonical]

@[simp] theorem Dev.failEntry_canonical {d : Dev} {h : Nat} (hd : d.canonical = true) : (d.failEntry h).canonical = true := by
  unfold Dev.failEntry
  grind [Dev.setUnit_canonical, Dev.release0_canonical, Dev.sixRelease_canonical, Dev.endPart_canonical, Dev.failPart_canonical,
    Dev.failWaits_canonical, Dev.refill_canonical, Dev.foldl_canonical, Dev.t0_wf, Dev.t1_wf]

theorem Dev.flushAll_canonical {l : List Nat} {d e : Dev} (he : d.flushAll l = some e) (hd : d.canonical = true) : e.canonical = true := by
  induction l generalizing d with
  | nil => exact Option.some.inj he ▸ hd
  | cons k l ih =>
    unfold Dev.flushAll at he
    split at he
    · next x hx => exact ih he (Dev.flush0_canonical hx hd)
    · cases he

theorem Dev.flushAll_getD_canonical {d : Dev} {l : List Nat} (hd : d.canonical = true) : ((d.flushAll l).getD d).canonical = true := by
  cases h : d.flushAll l with
  | none => exact hd
  | some e => exact Dev.flushAll_canonical h hd

@[simp] theorem Dev.flushRange_canonical {d : Dev} {k off len : Nat} (hd : d.canonical = true) : (d.flushRange k off len).canonical = true := by
  unfold Dev.flushRange
  grind [Dev.setUnit_canonical, Dev.pour1_canonical, Dev.foldl_canonical, Dev.t0_wf]

@[simp] theorem Dev.hostDecision_canonical {d : Dev} {j : Nat} (hd : d.canonical = true) : (d.hostDecision j).canonical = true := by
  unfold Dev.hostDecision
  grind [Dev.setJob_canonical, Dev.updNewest_canonical, Dev.abortAttempt_canonical, Dev.lateFlip_canonical]

@[simp] theorem Dev.lineCe_canonical {d : Dev} {line : Nat} (hd : d.canonical = true) : (Dev.lineCe d line).canonical = true := by
  have hcount : ∀ b y, (((d.incSat F.mktCeCnt_ce 1).mktError line 0).setBank b y).canonical = true := fun _ _ =>
    Dev.setBank_canonical.trans (Dev.mktError_canonical.trans (Dev.incSat_canonical.trans hd))
  unfold Dev.lineCe
  exact Dev.ite_canonical (Dev.failBank_canonical (hcount _ _)) (hcount _ _)

@[simp] theorem Dev.poisonLine_canonical {d : Dev} {line : Nat} (hd : d.canonical = true) : (d.poisonLine line).2.canonical = true := by
  unfold Dev.poisonLine
  grind [Dev.setMkt_canonical, Dev.loseT0_canonical]

@[simp] theorem Dev.lineUe_canonical {d : Dev} {line : Nat} (hd : d.canonical = true) : (d.lineUe line).2.canonical = true := by
  unfold Dev.lineUe
  grind [Dev.incSat_canonical, Dev.mktError_canonical, Dev.failBank_canonical, Dev.poisonLine_canonical]

@[simp] theorem Dev.lineError_canonical {d : Dev} {x : PartId} {line err : Nat}
    (hd : d.canonical = true) : (d.lineError x line err).canonical = true := by
  unfold Dev.lineError
  grind [Dev.raise_canonical, Dev.failPart_canonical, Dev.incSat_canonical, Dev.mktError_canonical, Dev.lineCe_canonical, Dev.lineUe_canonical]

@[simp] theorem Dev.loadPoison_canonical {d : Dev} {l : Load} (hd : d.canonical = true) : (d.loadPoison l).canonical = true := by
  unfold Dev.loadPoison
  grind [Dev.chainBroken_canonical, Dev.loadFail_canonical]

@[simp] theorem Dev.loseT1_canonical {d : Dev} {k u : Nat} (hd : d.canonical = true) : (d.loseT1 k u).2.canonical = true := by
  unfold Dev.loseT1
  grind [Dev.setUnit_canonical, Dev.release0_canonical, Dev.trimT1_canonical, Dev.poisonUnit_canonical, Dev.moveDone_canonical, Dev.t0_wf]

@[simp] theorem Dev.lowPower_canonical {d : Dev} (hd : d.canonical = true) : d.lowPower.canonical = true := by
  unfold Dev.lowPower
  grind [Dev.disableQueue_canonical, Dev.setPwr_canonical, Dev.enterLow_canonical, Dev.foldl_canonical]

@[simp] theorem Dev.putPlain_canonical {d : Dev} {items : List (Nat × Nat × Nat)} {off : Nat} {bs : List Byte}
    (hd : d.canonical = true) : (d.putPlain items off bs).canonical = true := by
  unfold Dev.putPlain
  grind [Dev.write1_canonical, Dev.foldl_canonical]

@[simp] theorem Dev.openChunk_canonical {d : Dev} {l : Load} {n : Nat} {rec : List Byte} (hd : d.canonical = true) :
    (Dev.openChunk d l n rec).canonical = true := by
  unfold Dev.openChunk
  split
  · exact hd
  · have hupd : ∀ f, (d.updLoad l.q l.i f).canonical = true := fun _ => Dev.updLoad_canonical.trans hd
    dsimp only
    split
    · have hput : ∀ f at_ plain c, (((d.updLoad l.q l.i f).putPlain l.items at_ plain).incSat c 1).canonical = true := fun _ _ _ _ =>
        Dev.incSat_canonical.trans (Dev.putPlain_canonical (hupd _))
      exact Dev.ite_canonical (Dev.loadDone_canonical (hput _ _ _ _)) (hput _ _ _ _)
    · refine Dev.loadFail_canonical (Dev.foldl_canonical ?_ fun x item hx => ?_)
      · exact Dev.raise_canonical.trans (Dev.incSat_canonical.trans (hupd _))
      · split
        · exact hx
        · exact Dev.ite_canonical (Dev.foldl_canonical hx fun _ _ hy => Dev.poisonUnit_canonical hy) hx

@[simp] theorem Dev.scaleOpen_canonical {d : Dev} {j : Nat} (hd : d.canonical = true) : (Dev.scaleOpen d j).canonical = true := by
  unfold Dev.scaleOpen
  refine Dev.ite_canonical hd (Dev.eachEntry_canonical ?_ fun x n y hx => ?_)
  · exact Dev.ite_canonical hd (Dev.raise_canonical.trans (Dev.setFlag_canonical.trans hd))
  · exact Dev.ite_canonical (Dev.applyScale_canonical hx) hx

@[simp] theorem Dev.openStep_canonical {d : Dev} {j part step att cursor : Nat}
    (hd : d.canonical = true) : (d.openStep j part step att cursor).canonical = true := by
  unfold Dev.openStep
  grind [Dev.wr_canonical, Dev.wr64_canonical, Dev.setAcr_canonical, Dev.setJob_canonical, Dev.setStepState_canonical, Dev.setJobSt_canonical,
    Dev.stepFailure_canonical, Dev.addBinds_canonical, Dev.applyGroups_canonical, Dev.showCoord_canonical, Dev.pushRecord_canonical,
    Dev.scaleOpen_canonical, Dev.t1_wf]

@[simp] theorem Dev.placeData_canonical {d : Dev} {k : Coll} {p : Posted} {off lenM1 : Nat} {bytes : List Byte}
    (hd : d.canonical = true) : (d.placeData k p off lenM1 bytes).canonical = true := by
  unfold Dev.placeData
  grind [Dev.sixRelease_canonical, Dev.bufWrite_canonical, Dev.addInto_canonical, Dev.hearRank_canonical, Dev.updPosted_canonical]

@[simp] theorem Dev.powerOff_canonical {d : Dev} {cause : Nat} : (d.powerOff cause).canonical = true := by
  unfold Dev.powerOff
  grind [Dev.wr_canonical, Dev.setSec_canonical, Dev.setPwr_canonical, Dev.wipe_canonical]

@[simp] theorem Dev.putTwins_canonical {d : Dev} {v : Nat} {c : Cmd} {w : List FVal} (hd : d.canonical = true) :
    (Dev.putTwins d v c w).1.canonical = true := by
  unfold Dev.putTwins
  split
  · exact hd
  · exact Dev.setT1_canonical hd (putTwin_wf (putTwin_wf (Dev.t1_wf hd)))

@[simp] theorem Dev.putVec1_canonical {d : Dev} {ext : List Nat} {off code : Nat} {raws : List Nat}
    (hd : d.canonical = true) : (d.putVec1 ext off code raws).canonical = true := by
  unfold Dev.putVec1
  grind [Dev.write1_canonical]

theorem Dev.putWorkspace_canonical {d e : Dev} {k : Nat} {bs : List Byte} (he : d.putWorkspace k bs = some e)
    (hd : d.canonical = true) : e.canonical = true := by
  unfold Dev.putWorkspace at he
  grind [Dev.setUnit_canonical, Dev.write1_canonical, Dev.release0_canonical, Dev.ensureT1_canonical, Dev.foldl_canonical]

@[simp] theorem Dev.reportUnreach_canonical {d : Dev} {peer : Nat} (hd : d.canonical = true) : (d.reportUnreach peer).canonical = true := by
  unfold Dev.reportUnreach
  grind [Dev.sendCtrl_canonical, Dev.takeUnreach_canonical]

@[simp] theorem Dev.scaleRestore_canonical {d : Dev} {j : Nat} (hd : d.canonical = true) : (Dev.scaleRestore d j).canonical = true :=
  Dev.eachEntry_canonical hd fun _ _ _ hx => Dev.putEntry_canonical (Dev.putEntry_canonical hx)

@[simp] theorem Dev.restoreApply_canonical {d : Dev} {j : Nat} {im : Image} (hd : d.canonical = true) : (d.restoreApply j im).canonical = true := by
  unfold Dev.restoreApply
  grind [Dev.setReg_canonical, Dev.wr_canonical, Dev.wr64_canonical, Dev.setAcr_canonical, Dev.setJob_canonical, Dev.setStepState_canonical,
    Dev.setJobSt_canonical, Dev.chooseNeighbour_canonical, Dev.applyGroup_canonical, Dev.pushRecord_canonical, Dev.scaleRestore_canonical,
    Dev.foldl_canonical]

theorem Dev.restoreObj_canonical {d e : Dev} {part j : Nat} {io : ImageObj} (he : Dev.restoreObj d part j io = some e) (hd : d.canonical = true) :
    e.canonical = true := by
  obtain ⟨d1, h1, rfl⟩ := Option.map_eq_some_iff.mp he
  have hc : d1.canonical = true := (Dev.remake_canonical h1).trans hd
  dsimp only
  split
  · exact hc
  · exact Dev.pour1_canonical (Dev.setObj_canonical.trans hc)

@[simp] theorem Dev.runColl_canonical {d : Dev} {q i op : Nat} (hd : d.canonical = true) : (d.runColl q i op).canonical = true := by
  unfold Dev.runColl
  grind [Dev.collAdvance_canonical, Dev.collBegin_canonical, Dev.when_canonical]

@[simp] theorem Dev.runStats_canonical {d : Dev} {q i k : Nat} {e c : Cmd} {norm : List Byte}
    (hd : d.canonical = true) : (d.runStats q i k e c norm).canonical = true := by
  unfold Dev.runStats
  grind [Dev.partRan_canonical, Dev.acrFail_canonical, Dev.failPart_canonical, Dev.putWorkspace_canonical]

@[simp] theorem Dev.runUpdate_canonical {d : Dev} {q i k : Nat} {e c : Cmd} {norm : List Byte}
    (hd : d.canonical = true) : (d.runUpdate q i k e c norm).canonical = true := by
  unfold Dev.runUpdate
  grind [Dev.setAcr_canonical, Dev.partRan_canonical, Dev.acrFail_canonical, Dev.failPart_canonical, Dev.countDegen_canonical,
    Dev.joinWrites_canonical, Dev.putTwins_canonical, Dev.putVec1_canonical]

@[simp] theorem Dev.sweepLoads_canonical {d : Dev} (hd : d.canonical = true) : d.sweepLoads.canonical = true := by
  unfold Dev.sweepLoads
  grind [Dev.raise_canonical, Dev.partRan_canonical, Dev.loadFail_canonical, Dev.dropLoad_canonical, Dev.foldl_canonical]

@[simp] theorem Dev.settle_canonical {d : Dev}  {before : Dev} (hd : d.canonical = true) : (d.settle before).canonical = true := by
  unfold Dev.settle
  grind [Dev.drainSlots_canonical, Dev.glbHealth_canonical, Dev.settlePower_canonical, Dev.startTests_canonical, Dev.sweepLoads_canonical]

@[simp] theorem Dev.stageWork_canonical {d : Dev} {bad : List Nat} {key : Bool}
    (hd : d.canonical = true) : (d.stageWork bad key).canonical = true := by
  unfold Dev.stageWork
  grind [Dev.wr_canonical, Dev.raise_canonical, Dev.setJob_canonical, Dev.supersede_canonical, Dev.setSec_canonical, Dev.setHif_canonical,
    Dev.closeUnit_canonical, Dev.updEntry_canonical, Dev.applyRecord_canonical, Dev.d3Complete_canonical, Dev.failBank_canonical,
    Dev.freshLanes_canonical, Dev.startPort_canonical, Dev.payOwed_canonical, Dev.foldl_canonical]

@[simp] theorem Dev.stageDone_canonical {d : Dev} {bad : List Nat} {key : Bool}
    (hd : d.canonical = true) : (d.stageDone bad key).canonical = true := by
  unfold Dev.stageDone
  grind [Dev.wr_canonical, Dev.setSec_canonical, Dev.updStage_canonical, Dev.beginStage_canonical, Dev.bootReady_canonical,
    Dev.stageFail_canonical, Dev.stageWork_canonical]

@[simp] theorem Dev.staleT0_canonical {d : Dev} {k u : Nat} (hd : d.canonical = true) : (d.staleT0 k u).canonical = true := by
  unfold Dev.staleT0
  grind [Dev.dropT0_canonical]

@[simp] theorem Dev.startD3_canonical {d : Dev} (hd : d.canonical = true) : (Dev.startD3 d).canonical = true := by
  have hboot : ∀ h p s c, (((((d.setHlt h).loseD3.setPwr p).setSpr s).setSec c).bootStart 1).canonical = true := fun h p s c =>
    Dev.bootStart_canonical (Dev.setSec_canonical.trans (Dev.setSpr_canonical.trans (Dev.setPwr_canonical.trans
      (Dev.loseD3_canonical (Dev.setHlt_canonical.trans hd)))))
  unfold Dev.startD3
  exact Dev.ite_canonical hd (Dev.ite_canonical (Dev.romRecovery_canonical.trans (hboot _ _ _ _)) (hboot _ _ _ _))

@[simp] theorem Dev.startD4_canonical {d : Dev} : d.startD4.canonical = true := by
  unfold Dev.startD4
  grind [Dev.bootStart_canonical, Dev.romRecovery_canonical, Dev.setPwr_canonical, Dev.wipe_canonical]

@[simp] theorem Dev.tick_canonical {d : Dev} (hd : d.canonical = true) : d.tick.canonical = true := by
  unfold Dev.tick
  grind [Dev.lowPower_canonical, Dev.setNow_canonical]

@[simp] theorem Dev.wakeUp_canonical {d : Dev} (hd : d.canonical = true) : d.wakeUp.canonical = true := by
  unfold Dev.wakeUp
  grind [Dev.emit_canonical, Dev.bootStart_canonical, Dev.romRecovery_canonical, Dev.setPwr_canonical]

theorem Dev.widen_canonical {d e : Dev} {k code : Nat} (he : Dev.widen d k code = some e) (hd : d.canonical = true) : e.canonical = true := by
  unfold Dev.widen at he
  split at he
  · exact Option.some.inj he ▸ hd
  next o _ =>
    dsimp only at he
    have hdrop : ((List.range o.unitCount).foldl (fun d u => d.dropT0 k u) d).canonical = true :=
      Dev.foldl_canonical hd fun _ _ hx => Dev.dropT0_canonical hx
    have hfree := Dev.freeExtents_canonical (owner := o.owner) (es := o.extA) hdrop
    split at he
    · exact Option.some.inj he ▸ Dev.setTir_canonical.trans hfree
    · refine Dev.foldl_some_canonical he (Dev.setObj_canonical.trans (Dev.setTir_canonical.trans hfree)) fun x u y hy hx => ?_
      obtain ⟨x1, rfl, h1⟩ := Option.bind_eq_some_iff.mp hy
      obtain ⟨x2, h2, rfl⟩ := Option.map_eq_some_iff.mp h1
      exact Dev.setUnit_canonical.trans ((Dev.alloc0_canonical h2).trans (hx _ rfl))

theorem Dev.widenAll_canonical {l : List (Nat × Nat)} {d e : Dev} (he : d.widenAll l = some e) (hd : d.canonical = true) : e.canonical = true := by
  induction l generalizing d with
  | nil => exact Option.some.inj he ▸ hd
  | cons k l ih =>
    unfold Dev.widenAll at he
    split at he
    · next x hx => exact ih he (Dev.widen_canonical hx hd)
    · cases he

@[simp] theorem Dev.winRead_canonical {d : Dev} {k : Nat} {o : Obj} {off len : Nat}
    (hd : d.canonical = true) : (d.winRead k o off len).2.2.canonical = true := by
  unfold Dev.winRead
  grind [Dev.raise_canonical, Dev.incSat_canonical, Dev.flushRange_canonical, Dev.t1_wf]

theorem Dev.winWrite_canonical {d e : Dev} {k : Nat} {o : Obj} {off : Nat} {data : List Byte} (he : d.winWrite k o off data = some e)
    (hd : d.canonical = true) : e.canonical = true := by
  unfold Dev.winWrite at he
  grind [Dev.setUnit_canonical, Dev.write1_canonical, Dev.healSectors_canonical, Dev.flushRange_canonical, Dev.refill_canonical,
    Dev.staleT0_canonical, Dev.foldl_canonical, Dev.t1_wf]

@[simp] theorem Dev.writeDown_canonical {d : Dev} {k u t : Nat} (hd : d.canonical = true) : (d.writeDown k u t).canonical = true := by
  unfold Dev.writeDown
  grind [Dev.setUnit_canonical, Dev.pour1_canonical, Dev.hostWrite_canonical, Dev.t0_wf]

end Sys2Proof.Machine
end

section
/-! Every command, what follows it and the tick of an empty queue keep both tiers canonical. -/

namespace Sys2Proof.Machine

theorem Dev.monitorFault_canonical {d : Dev} {key : Nat} {f : Dev → Dev} (hd : d.canonical = true)
    (hf : ∀ e, e.canonical = true → (f e).canonical = true) : (d.monitorFault key f).canonical = true := by
  unfold Dev.monitorFault
  dsimp only
  rw [Dev.raise_canonical]
  exact Dev.ite_canonical (Dev.outOfService_canonical.trans hd) (hf _ (Dev.setHlt_canonical.trans hd))

theorem Dev.onConn_canonical {d : Dev} {c ver : Nat} {f : Dev → Conn → Dev} (hd : d.canonical = true)
    (hf : ∀ e x, e.canonical = true → (f e x).canonical = true) : (d.onConn c ver f).canonical = true := by
  unfold Dev.onConn
  split
  · exact Dev.rxBad_canonical.trans hd
  · exact Dev.ite_canonical (hf _ _ (Dev.inc_canonical.trans hd)) (Dev.rxBad_canonical.trans hd)

theorem Dev.mailbox_canonical {d : Dev} {f op : Nat} {act : Dev → MbxReq → Nat → Nat → Obj → Dev} (hd : d.canonical = true)
    (ha : ∀ r p k o, (act d r p k o).canonical = true) : (d.mailbox f op act).canonical = true := by
  unfold Dev.mailbox
  refine Dev.when_canonical hd ?_
  refine Dev.ite_canonical (Dev.badAccess_canonical.trans hd) ?_
  split
  · exact Dev.mbxDone_canonical.trans hd
  · split
    · exact ha ..
    · split
      · exact Dev.mbxDone_canonical.trans hd
      · exact ha ..

theorem Dev.runTier_canonical {d : Dev} {q i op : Nat} {act : Dev → Cmd → Nat → Obj → Dev} (hd : d.canonical = true)
    (ha : ∀ c k o, (act d c k o).canonical = true) : (d.runTier q i op act).canonical = true := by
  unfold Dev.runTier
  refine Dev.when_canonical hd ?_
  dsimp only
  split
  · exact Dev.failPart_canonical.trans hd
  · exact ha ..

theorem effectAbortReceive_canonical {d : Dev} {body : Cmd} (hd : d.canonical = true) : (effectAbortReceive body d).canonical = true :=
  Dev.takeAbort_canonical hd

theorem effectAckReceive_canonical {d : Dev} {c v cum bm st b} (hd : d.canonical = true) : (effectAckReceive c v cum bm st b d).canonical = true := by
  refine Dev.onConn_canonical hd fun e x he => Dev.when_canonical he ?_
  refine Dev.collAll_canonical ?_
  rw [Dev.pump_canonical, Dev.sentOver_canonical]
  have hpath : ∀ (l : List TxPkt) (y : Conn), (l.foldl (fun d k => let st := d.pathSt x.peer k.path
      if st.excluded then d else d.setPath x.peer k.path { st with losses := 0 }) (e.setConn c y)).canonical = true := fun l y =>
    Dev.foldl_canonical (Dev.setConn_canonical.trans he) fun _ _ hx => Dev.ite_canonical hx (Dev.setPath_canonical.trans hx)
  exact Dev.ite_canonical ((Dev.foldl_canonical_eq fun _ _ => Dev.failMsg_canonical).trans (hpath _ _)) (hpath _ _)

theorem effectAcrAssistDoorbell_canonical {d : Dev} {f k h : Nat} (hd : d.canonical = true) : (effectAcrAssistDoorbell f k h d).canonical = true := by
  unfold effectAcrAssistDoorbell
  split
  · exact Dev.badDoorbell_canonical.trans hd
  next a _ =>
    have hgone : ∀ y z w, (((((a.aliases.foldl (fun d x => (d.dropAlias x.1).dropAlias x.2.1) ((d.flushAll (a.aliases.map (fun x => x.2.1))).getD d)).setAcr y).setFlag
        z false).sixRelease h w).canonical = true) := fun _ _ _ => by
      rw [Dev.sixRelease_canonical, Dev.setFlag_canonical, Dev.setAcr_canonical]
      exact Dev.foldl_canonical (Dev.flushAll_getD_canonical hd) fun _ _ hx => Dev.dropAlias_canonical (Dev.dropAlias_canonical hx)
    refine Dev.ite_canonical (Dev.badDoorbell_canonical.trans hd) (Dev.when_canonical (hgone _ _ _) ?_)
    exact Dev.partRan_canonical.trans (Dev.setAcr_canonical.trans (Dev.joinWrites_canonical.trans (hgone _ _ _)))

theorem effectAllgather_canonical {d : Dev} {q i : Nat} (hd : d.canonical = true) : (effectAllgather q i d).canonical = true :=
  Dev.runColl_canonical hd

theorem effectAllreduce_canonical {d : Dev} {q i : Nat} (hd : d.canonical = true) : (effectAllreduce q i d).canonical = true :=
  Dev.runColl_canonical hd

theorem effectAlltoall_canonical {d : Dev} {q i : Nat} (hd : d.canonical = true) : (effectAlltoall q i d).canonical = true :=
  Dev.runColl_canonical hd

theorem effectAnswerReceive_canonical {d : Dev} {body : Cmd} (hd : d.canonical = true) : (effectAnswerReceive body d).canonical = true :=
  Dev.takeAnswer_canonical hd

theorem effectAttn_canonical {d : Dev} {q i p : Nat} {bad : Option CsFault}
    (hd : d.canonical = true) : (effectAttn q i p bad d).canonical = true := by
  unfold effectAttn
  grind [Dev.runAttn_canonical]

theorem effectBankCopyEnd_canonical {d : Dev} {b : Nat} {bad : List Nat}
    (hd : d.canonical = true) : (effectBankCopyEnd b bad d).canonical = true := by
  unfold effectBankCopyEnd
  grind [Dev.bankReplaced_canonical, Dev.poisonLine_canonical, Dev.when_canonical, Dev.foldl_canonical]

theorem effectBar2Read_canonical {d : Dev} {f off len : Nat} (hd : d.canonical = true) : (effectBar2Read f off len d).canonical = true := by
  unfold effectBar2Read
  grind [Dev.emit_canonical, Dev.hifCount_canonical, Dev.winRead_canonical, Dev.when_canonical]

theorem effectBar2Write_canonical {d : Dev} {f off : Nat} {data : List Byte}
    (hd : d.canonical = true) : (effectBar2Write f off data d).canonical = true := by
  unfold effectBar2Write
  grind [Dev.raise_canonical, Dev.incSat_canonical, Dev.refused_canonical, Dev.hifRaise_canonical, Dev.hifCount_canonical, Dev.winWrite_canonical,
    Dev.when_canonical]

theorem effectBarrier_canonical {d : Dev} {q i : Nat} (hd : d.canonical = true) : (effectBarrier q i d).canonical = true :=
  Dev.runColl_canonical hd

theorem effectBcastChain_canonical {d : Dev} {q i : Nat} (hd : d.canonical = true) : (effectBcastChain q i d).canonical = true :=
  Dev.runColl_canonical hd

theorem effectBootAltDoorbell_canonical {d : Dev} {f h : Nat} (hd : d.canonical = true) : (effectBootAltDoorbell f h d).canonical = true := by
  unfold effectBootAltDoorbell
  grind [Dev.altChosen_canonical, Dev.badDoorbell_canonical]

theorem effectBootAltTimeout_canonical {d : Dev} (hd : d.canonical = true) : (effectBootAltTimeout d).canonical = true := by
  unfold effectBootAltTimeout
  grind [Dev.raise_canonical, Dev.altChosen_canonical, Dev.when_canonical]

theorem effectBootRestart_canonical {d : Dev} (hd : d.canonical = true) : (effectBootRestart d).canonical = true :=
  Dev.when_canonical hd (Dev.bootRestart_canonical hd)

theorem effectBootStart_canonical {d : Dev} (hd : d.canonical = true) : (effectBootStart d).canonical = true := by
  unfold effectBootStart
  grind [Dev.setSec_canonical, Dev.bootStart_canonical, Dev.romRecovery_canonical, Dev.setPwr_canonical, Dev.when_canonical]

theorem effectClockFault_canonical {d : Dev} {island n : Nat} (hd : d.canonical = true) : (effectClockFault island n d).canonical = true := by
  unfold effectClockFault
  dsimp only
  refine Dev.monitorFault_canonical (Dev.monitorStatus_canonical.trans hd) fun e he => ?_
  split
  · exact Dev.resetUnit_canonical.trans he
  · exact (Dev.foldl_canonical_eq fun _ _ => Dev.resetUnit_canonical).trans he
  · exact Dev.resetUnit_canonical.trans he
  · exact Dev.startD3_canonical he

theorem effectColAssistDoorbell_canonical {d : Dev} {f h : Nat} (hd : d.canonical = true) : (effectColAssistDoorbell f h d).canonical = true := by
  unfold effectColAssistDoorbell
  refine Dev.ite_canonical (Dev.badDoorbell_canonical.trans hd) ?_
  extract_lets dev spare col d1 d2 col2 d3 col3
  have h2 : d2.canonical = true :=
    Dev.setFlag_canonical.trans (Dev.wr_canonical.trans (Dev.sixRelease_canonical.trans (Dev.setCol_canonical.trans hd)))
  have h3 : d3.canonical = true := by
    unfold d3
    split
    · exact Dev.removeDevice_canonical h2
    · exact Dev.wakeSpare_canonical (Dev.removeDevice_canonical h2)
    · exact Dev.setCol_canonical.trans h2
  split
  · exact h3
  · exact Dev.colAssist_canonical.trans (Dev.setCol_canonical.trans h3)

theorem effectCollectiveWaitTimeout_canonical {d : Dev} {q i rank : Nat}
    (hd : d.canonical = true) : (effectCollectiveWaitTimeout q i rank d).canonical = true := by
  unfold effectCollectiveWaitTimeout
  grind [Dev.raise_canonical, Dev.sixRelease_canonical, Dev.failColl_canonical, Dev.chainBroken_canonical, Dev.loadFail_canonical, Dev.when_canonical]

theorem effectCombine_canonical {d : Dev} {q i p : Nat} (hd : d.canonical = true) : (effectCombine q i p d).canonical = true := by
  unfold effectCombine
  grind [Dev.runCombine_canonical]

theorem effectCommitApply_canonical {d : Dev} {j : Nat} (hd : d.canonical = true) : (effectCommitApply j d).canonical = true := by
  unfold effectCommitApply
  grind [Dev.flip_canonical, Dev.when_canonical]

theorem effectCommitReceive_canonical {d : Dev} {body : Cmd} (hd : d.canonical = true) : (effectCommitReceive body d).canonical = true :=
  Dev.takeCommit_canonical hd

theorem effectConv_canonical {d : Dev} {q i p : Nat} {bad : Option CsFault}
    (hd : d.canonical = true) : (effectConv q i p bad d).canonical = true := by
  unfold effectConv
  grind [Dev.runConv_canonical]

theorem effectCoordinatorTakeover_canonical {d : Dev} {j} (hd : d.canonical = true) : (effectCoordinatorTakeover j d).canonical = true := by
  unfold effectCoordinatorTakeover
  refine Dev.when_canonical hd ?_
  have hshow : ∀ y, ((d.setJob j y).showCoord j).canonical = true := fun _ => Dev.showCoord_canonical.trans (Dev.setJob_canonical.trans hd)
  refine Dev.when_canonical (hshow _) (Dev.queryDecide_canonical ?_)
  exact (Dev.foldl_canonical_eq fun _ _ => Dev.sendLdg_canonical).trans (Dev.raiseLdg_canonical.trans (hshow _))

theorem effectCreate_canonical {d : Dev} {f} (hd : d.canonical = true) : (effectCreate f d).canonical = true :=
  Dev.mailbox_canonical hd fun _ _ _ _ => Dev.createObj_canonical hd

theorem effectCtrlDeliver_canonical {d : Dev} (hd : d.canonical = true) : (effectCtrlDeliver d).canonical = true := by
  unfold effectCtrlDeliver
  grind [Dev.setTbn_canonical, Dev.deliver_canonical, Dev.when_canonical, foldl_wf]

theorem effectCtrlReceive_canonical {d : Dev} {conn ver psn msgId stamp : Nat} {ce : Bool} {body : List Byte} (hd : d.canonical = true) :
    (effectCtrlReceive conn ver psn msgId stamp ce body d).canonical = true := by
  refine Dev.onConn_canonical hd fun e x he => ?_
  have hm : (e.onMark conn ce).canonical = true := Dev.onMark_canonical.trans he
  have hset : ∀ y, ((e.onMark conn ce).setConn conn y).canonical = true := fun _ => Dev.setConn_canonical.trans hm
  dsimp only
  split
  · exact Dev.incSat_canonical.trans (hset _)
  · exact Dev.incSat_canonical.trans hm
  · split
    · refine Dev.ite_canonical (Dev.deliver_canonical ?_) (Dev.setTbn_canonical.trans (hset _))
      exact Dev.raise_canonical.trans (Dev.incSat_canonical.trans (hset _))
    · exact Dev.setTbn_canonical.trans (hset _)

theorem effectD3Request_canonical {d : Dev} {f key : Nat} (hd : d.canonical = true) : (effectD3Request f key d).canonical = true := by
  unfold effectD3Request
  grind [Dev.resetKeyOk_canonical, Dev.startD3_canonical, Dev.when_canonical]

theorem effectD4Request_canonical {d : Dev} {f key : Nat} (hd : d.canonical = true) : (effectD4Request f key d).canonical = true := by
  unfold effectD4Request
  grind [Dev.wr_canonical, Dev.resetKeyOk_canonical, Dev.startD4_canonical, Dev.when_canonical]

theorem effectDataReceive_canonical {d : Dev} {conn ver psn msgId off epoch group rank lenM1 stamp : Nat} {ce : Bool} {bytes : List Byte}
    (step : Nat) (hd : d.canonical = true) : (effectDataReceive conn ver psn msgId off epoch step group rank lenM1 stamp ce bytes d).canonical = true := by
  refine Dev.onConn_canonical hd fun e x he => ?_
  have hm : (e.onMark conn ce).canonical = true := Dev.onMark_canonical.trans he
  have hset : ∀ y, ((e.onMark conn ce).setConn conn y).canonical = true := fun _ => Dev.setConn_canonical.trans hm
  have hnot : ((e.onMark conn ce).notReady conn psn).canonical = true := Dev.notReady_canonical.trans hm
  dsimp only
  split
  · exact Dev.incSat_canonical.trans (hset _)
  · exact Dev.incSat_canonical.trans hm
  · refine Dev.ite_canonical (Dev.raise_canonical.trans (Dev.incSat_canonical.trans hm)) ?_
    split
    · exact Dev.ite_canonical (Dev.chainPlace_canonical (hset _)) hnot
    · refine Dev.ite_canonical (Dev.sendAck_canonical.trans (Dev.raise_canonical.trans (Dev.incSat_canonical.trans (hset _))))
        (Dev.ite_canonical hnot ?_)
      split
      · exact hnot
      · refine Dev.ite_canonical (Dev.failColl_canonical.trans (hset _)) (Dev.ite_canonical ?_ ?_)
        · exact Dev.collAdvance_canonical (Dev.placeData_canonical (hset _))
        · split
          · exact Dev.notReady_canonical.trans (Dev.raise_canonical.trans (Dev.incSat_canonical.trans hm))
          next h1 d1 hsix =>
            have h1c : d1.canonical = true := (Dev.sixAlloc_canonical hsix).trans hm
            exact Dev.collAdvance_canonical (Dev.placeData_canonical (Dev.setConn_canonical.trans (Dev.updPosted_canonical.trans h1c)))

theorem effectDelete_canonical {d : Dev} {f} (hd : d.canonical = true) : (effectDelete f d).canonical = true :=
  Dev.mailbox_canonical hd fun _ _ _ _ => Dev.mbxDone_canonical.trans (Dev.deleteObj_canonical hd)

theorem effectDeviceVote_canonical {d : Dev} {j : Nat} (hd : d.canonical = true) : (effectDeviceVote j d).canonical = true := by
  unfold effectDeviceVote
  grind [Dev.setStepState_canonical, Dev.abortAttempt_canonical, Dev.castVote_canonical, Dev.originateRed_canonical, Dev.when_canonical]

theorem effectEvict_canonical {d : Dev} {q i} (hd : d.canonical = true) : (effectEvict q i d).canonical = true := by
  refine Dev.runTier_canonical hd fun c k o => Dev.ite_canonical (Dev.failPart_canonical.trans hd) ?_
  have hall := Dev.foldl_canonical (f := fun d u => d.evictUnit q i k u (tierTier c)) (l := tierUnits o c) hd fun _ _ hx => Dev.evictUnit_canonical hx
  exact Dev.serveWaits_canonical.trans (Dev.ite_canonical (Dev.tierDone_canonical.trans hall) hall)

theorem effectFft_canonical {d : Dev} {q i p : Nat} (hd : d.canonical = true) : (effectFft q i p d).canonical = true := by
  unfold effectFft
  grind [Dev.runFft_canonical]

theorem effectForget_canonical {d : Dev} (hd : d.canonical = true) : (effectForget d).canonical = true := by
  unfold effectForget
  grind [Dev.keeperChange_canonical, Dev.when_canonical]

theorem effectGather_canonical {d : Dev} {q i p : Nat} (hd : d.canonical = true) : (effectGather q i p d).canonical = true := by
  unfold effectGather
  grind [Dev.runGather_canonical]

theorem effectHbReceive_canonical {d : Dev} {body : List Byte} (hd : d.canonical = true) : (effectHbReceive body d).canonical = true :=
  Dev.takeHb_canonical hd

theorem effectHbmScrub_canonical {d : Dev} {k err : Nat} (hd : d.canonical = true) : (effectHbmScrub k err d).canonical = true := by
  unfold effectHbmScrub
  grind [Dev.inc_canonical, Dev.setTir_canonical, Dev.hbmError_canonical, Dev.loseT1_canonical, Dev.when_canonical, Dev.t1_wf, foldl_wf]

theorem effectInputLow_canonical {d : Dev} (hd : d.canonical = true) : (effectInputLow d).canonical = true :=
  Dev.when_canonical hd Dev.powerOff_canonical

theorem effectJoinReceive_canonical {d : Dev} {body : List Byte} (hd : d.canonical = true) : (effectJoinReceive body d).canonical = true :=
  Dev.takeJoin_canonical hd

theorem effectKeeperLoss_canonical {d : Dev} (hd : d.canonical = true) : (effectKeeperLoss d).canonical = true := by
  unfold effectKeeperLoss
  refine Dev.when_canonical hd ?_
  split
  · exact hd
  · refine Dev.ite_canonical ?_ (Dev.setCol_canonical.trans hd)
    refine (Dev.foldl_canonical_eq fun _ _ => Dev.sendCtrl_canonical).trans (Dev.setCol_canonical.trans ?_)
    exact Dev.rosterChanged_canonical.trans (Dev.applyEntry_canonical hd)

theorem effectKeeperReceive_canonical {d : Dev} {body : List Byte} (hd : d.canonical = true) : (effectKeeperReceive body d).canonical = true :=
  Dev.takeKeeper_canonical hd

theorem effectLayerRepeat_canonical {d : Dev} {q run : Nat} (hd : d.canonical = true) : (effectLayerRepeat q run d).canonical = true := by
  unfold effectLayerRepeat
  grind [Dev.qSettle_canonical, Dev.setJob_canonical, Dev.raiseQueue_canonical, Dev.countRepeat_canonical, Dev.updRun_canonical,
    Dev.refill_canonical, Dev.repeatFails_canonical, Dev.showRepeat_canonical, Dev.undoUpdate_canonical, Dev.widenAll_canonical,
    Dev.when_canonical, Dev.foldl_canonical]

theorem effectLdgAssistDoorbell_canonical {d : Dev} {f h : Nat} (hd : d.canonical = true) : (effectLdgAssistDoorbell f h d).canonical = true := by
  unfold effectLdgAssistDoorbell
  grind [Dev.setJob_canonical, Dev.sixRelease_canonical, Dev.badDoorbell_canonical, Dev.showLdgAssist_canonical, Dev.hostDecision_canonical,
    Dev.imageDone_canonical]

theorem effectLeaveReceive_canonical {d : Dev} {body : List Byte} (hd : d.canonical = true) : (effectLeaveReceive body d).canonical = true :=
  Dev.takeLeave_canonical hd

theorem effectLeaveSend_canonical {d : Dev} (hd : d.canonical = true) : (effectLeaveSend d).canonical = true := by
  unfold effectLeaveSend
  grind [Dev.sendCtrl_canonical, Dev.keeperChange_canonical, Dev.when_canonical]

theorem effectLeavingRelease_canonical {d : Dev} {k u : Nat} (hd : d.canonical = true) : (effectLeavingRelease k u d).canonical = true := by
  unfold effectLeavingRelease
  grind [Dev.serveWaits_canonical, Dev.releaseLeft_canonical]

theorem effectLoadWpk_canonical {d : Dev} {q i : Nat} {tables : List Byte} {fail : Bool}
    (hd : d.canonical = true) : (effectLoadWpk q i tables fail d).canonical = true := by
  unfold effectLoadWpk
  grind [Dev.failPart_canonical, Dev.setWset_canonical, Dev.chainAsk_canonical, Dev.setSlotState_canonical, Dev.takeTables_canonical,
    Dev.loadPoison_canonical, Dev.when_canonical]

theorem effectMarketRead_canonical {d : Dev} {port part q i p line err : Nat}
    (hd : d.canonical = true) : (effectMarketRead port part q i p line err d).canonical = true := by
  unfold effectMarketRead
  grind [Dev.failPart_canonical, Dev.lineError_canonical, Dev.refuseLine_canonical]

theorem effectMarketWrite_canonical {d : Dev} {port part q i p line mask data err} (hd : d.canonical = true) :
    (effectMarketWrite port part q i p line mask data err d).canonical = true := by
  unfold effectMarketWrite
  split
  · exact Dev.refuseLine_canonical.trans hd
  · have herr : (d.lineError ⟨q, i, p⟩ line err).canonical = true := Dev.lineError_canonical hd
    have hset := Dev.setT0_canonical herr (writeLine_wf (line := line) (mask := mask) (data := data) (Dev.t0_wf herr))
    refine Dev.ite_canonical herr ?_
    exact Dev.dirtyLine_canonical.trans (Dev.ite_canonical (Dev.setMkt_canonical.trans hset) hset)

theorem effectMemberRemove_canonical {d : Dev} {dev : Nat} (hd : d.canonical = true) : (effectMemberRemove dev d).canonical = true := by
  unfold effectMemberRemove
  exact Dev.when_canonical hd (Dev.wantRemoved_canonical hd)

theorem effectMemberSuspect_canonical {d : Dev} {dev : Nat} (hd : d.canonical = true) : (effectMemberSuspect dev d).canonical = true := by
  unfold effectMemberSuspect
  exact Dev.when_canonical hd (Dev.changeRec_canonical hd)

theorem effectMm_canonical {d : Dev} {q i p : Nat} {bad : Option CsFault} (hd : d.canonical = true) : (effectMm q i p bad d).canonical = true := by
  unfold effectMm
  grind [Dev.runMm_canonical]

theorem effectMmT_canonical {d : Dev} {q i p : Nat} {bad : Option CsFault} (hd : d.canonical = true) : (effectMmT q i p bad d).canonical = true := by
  unfold effectMmT
  grind [Dev.runMm_canonical]

theorem effectNorm_canonical {d : Dev} {q i p : Nat} (hd : d.canonical = true) : (effectNorm q i p d).canonical = true := by
  unfold effectNorm
  grind [Dev.runNorm_canonical]

theorem effectObjectReference_canonical {d : Dev} {q i p h u : Nat} {write : Bool} {err line : Nat} (hd : d.canonical = true) :
    (effectObjectReference q i p h u write err line d).canonical = true := by
  unfold effectObjectReference
  split
  · exact hd
  next e _ =>
    refine Dev.when_canonical hd ?_
    extract_lets v
    split
    · exact Dev.failPart_canonical.trans hd
    next k o _ =>
      refine Dev.when_canonical hd (Dev.ite_canonical (Dev.isolate_canonical.trans hd) ?_)
      extract_lets x reads1 sector d1 lost d2 d3
      have h1 : d1.canonical = true := Dev.ite_canonical (Dev.hbmError_canonical.trans hd) hd
      have h2 : d2.canonical = true := by
        unfold d2 lost
        split
        · exact Dev.loseT1_canonical h1
        · exact h1
      have h3 : d3.canonical = true := Dev.ite_canonical h2 (Dev.holdForLayer_canonical.trans h2)
      refine Dev.ite_canonical (Dev.failPart_canonical.trans h2) (Dev.ite_canonical h3 ?_)
      have hbring : (d3.bring0 k u write e.handle).2.canonical = true := Dev.bring0_canonical.trans h3
      split
      next d4 heq =>
        rw [heq] at hbring
        exact Dev.lookAhead_canonical.trans (Dev.takeRef_canonical.trans hbring)
      next d4 heq =>
        rw [heq] at hbring
        exact Dev.lookAhead_canonical.trans (Dev.waitRef_canonical.trans hbring)
      next st d4 heq =>
        rw [heq] at hbring
        exact Dev.failPart_canonical.trans hbring

theorem effectPeerUnreachable_canonical {d : Dev} {peer : Nat} (hd : d.canonical = true) : (effectPeerUnreachable peer d).canonical = true := by
  unfold effectPeerUnreachable
  grind [Dev.raise_canonical, Dev.losePeer_canonical, Dev.postWaiting_canonical, Dev.reportUnreach_canonical, Dev.when_canonical]

theorem effectPermute_canonical {d : Dev} {q i p : Nat} (hd : d.canonical = true) : (effectPermute q i p d).canonical = true := by
  unfold effectPermute
  grind [Dev.runPermute_canonical]

theorem effectPerstAssert_canonical {d : Dev} {link : Nat} (hd : d.canonical = true) : (effectPerstAssert link d).canonical = true := by
  unfold effectPerstAssert
  grind [Dev.setHif_canonical, Dev.setPwr_canonical, Dev.resetConfig_canonical, Dev.flr_canonical, Dev.linkGone_canonical, Dev.startD3_canonical,
    Dev.when_canonical, Dev.foldl_canonical]

theorem effectPerstRelease_canonical {d : Dev} {link : Nat} (hd : d.canonical = true) : (effectPerstRelease link d).canonical = true := by
  unfold effectPerstRelease
  grind [Dev.setHif_canonical, Dev.setPwr_canonical, Dev.wakeUp_canonical]

theorem effectPldmResetD4_canonical {d : Dev} (hd : d.canonical = true) : (effectPldmResetD4 d).canonical = true := by
  unfold effectPldmResetD4
  grind [Dev.wr_canonical, Dev.startD4_canonical, Dev.when_canonical]

theorem effectPldmWake_canonical {d : Dev} (hd : d.canonical = true) : (effectPldmWake d).canonical = true :=
  Dev.when_canonical hd (Dev.wakeUp_canonical hd)

theorem effectPwrEnDeassert_canonical {d : Dev} (hd : d.canonical = true) : (effectPwrEnDeassert d).canonical = true := by
  unfold effectPwrEnDeassert
  grind [Dev.setSec_canonical, Dev.setPwr_canonical, Dev.powerOff_canonical, Dev.when_canonical]

theorem effectQuoteReceive_canonical {d : Dev} {body : List Byte} (hd : d.canonical = true) : (effectQuoteReceive body d).canonical = true :=
  Dev.takeQuote_canonical hd

theorem effectRecv_canonical {d : Dev} {q i : Nat} (hd : d.canonical = true) : (effectRecv q i d).canonical = true :=
  Dev.runColl_canonical hd

theorem effectRedReceive_canonical {d : Dev} {src : Nat} {body : Cmd} (hd : d.canonical = true) : (effectRedReceive src body d).canonical = true :=
  Dev.takeRed_canonical hd

theorem effectReduceScatter_canonical {d : Dev} {q i : Nat} (hd : d.canonical = true) : (effectReduceScatter q i d).canonical = true :=
  Dev.runColl_canonical hd

theorem effectReductionWrite_canonical {d : Dev} {port part q i p line mode stream pass first data err} (hd : d.canonical = true) :
    (effectReductionWrite port part q i p line mode stream pass first data err d).canonical = true := by
  unfold effectReductionWrite
  split
  · exact Dev.refuseLine_canonical.trans hd
  · have herr : (d.lineError ⟨q, i, p⟩ line err).canonical = true := Dev.lineError_canonical hd
    refine Dev.ite_canonical herr ?_
    exact Dev.dirtyLine_canonical.trans (Dev.setT0_canonical herr (Memory.wf_writeBytes (Dev.t0_wf herr)))

theorem effectRefillDone_canonical {d : Dev} {f} (hd : d.canonical = true) : (effectRefillDone f d).canonical = true := by
  refine Dev.mailbox_canonical hd fun r p k o => Dev.ite_canonical (Dev.mbxDone_canonical.trans hd) ?_
  refine (Dev.mbxDone_canonical.trans Dev.serveWaits_canonical).trans (Dev.foldl_canonical hd fun x u hx => ?_)
  exact Dev.setUnit_canonical.trans (Dev.ite_canonical (Dev.release0_canonical hx) hx)

theorem effectReload_canonical {d : Dev} {f} (hd : d.canonical = true) : (effectReload f d).canonical = true := by
  refine Dev.mailbox_canonical hd fun r p k o => Dev.ite_canonical (Dev.mbxDone_canonical.trans hd) ?_
  refine Dev.mbxDone_canonical.trans (Dev.trimT1_canonical (Dev.foldl_canonical hd fun x u hx => ?_))
  exact Dev.setUnit_canonical.trans (Dev.ite_canonical (Dev.release0_canonical hx) hx)

theorem effectResetEscalation_canonical {d : Dev} {dom unit : Nat}
    (hd : d.canonical = true) : (effectResetEscalation dom unit d).canonical = true := by
  unfold effectResetEscalation
  grind [Dev.closeUnit_canonical, Dev.startReset_canonical, Dev.beginReset_canonical, Dev.outOfService_canonical, Dev.endReset_canonical,
    Dev.noteEscalation_canonical, Dev.resetUnit_canonical, Dev.startD3_canonical, Dev.when_canonical]

theorem effectRestore_canonical {d : Dev} {q i img} (hd : d.canonical = true) : (effectRestore q i img d).canonical = true := by
  unfold effectRestore
  refine Dev.when_canonical hd ?_
  dsimp only
  split
  · exact Dev.partRan_canonical.trans (Dev.ite_canonical (Dev.raiseLdg_canonical.trans hd) hd)
  · split
    · exact hd
    · split
      · exact Dev.partRan_canonical.trans (Dev.supersede_canonical.trans hd)
      next e he =>
        refine Dev.partRan_canonical.trans (Dev.restoreApply_canonical (Dev.foldl_some_canonical he hd fun o a x hx ho => ?_))
        obtain ⟨y, rfl, hy⟩ := Option.bind_eq_some_iff.mp hx
        exact Dev.restoreObj_canonical hy (ho _ rfl)

theorem effectRosterReceive_canonical {d : Dev} {body : List Byte} (hd : d.canonical = true) : (effectRosterReceive body d).canonical = true :=
  Dev.takeRoster_canonical hd

theorem effectRoute_canonical {d : Dev} {q i p : Nat} (hd : d.canonical = true) : (effectRoute q i p d).canonical = true := by
  unfold effectRoute
  grind [Dev.runRoute_canonical]

theorem effectRoutePhase2_canonical {d : Dev} {q i p : Nat} (hd : d.canonical = true) : (effectRoutePhase2 q i p d).canonical = true := by
  unfold effectRoutePhase2
  grind [Dev.runRoute2_canonical]

theorem effectScatterAdd_canonical {d : Dev} {q i p : Nat} (hd : d.canonical = true) : (effectScatterAdd q i p d).canonical = true := by
  unfold effectScatterAdd
  grind [Dev.runScatter_canonical]

theorem effectScrubRead_canonical {d : Dev} {line err : Nat} (hd : d.canonical = true) : (effectScrubRead line err d).canonical = true := by
  unfold effectScrubRead
  grind [Dev.inc_canonical, Dev.setMkt_canonical, Dev.lineCe_canonical, Dev.lineUe_canonical, Dev.when_canonical]

theorem effectSend_canonical {d : Dev} {q i : Nat} (hd : d.canonical = true) : (effectSend q i d).canonical = true :=
  Dev.runColl_canonical hd

theorem effectSf_canonical {d : Dev} {q i p : Nat} (hd : d.canonical = true) : (effectSf q i p d).canonical = true := by
  unfold effectSf
  grind [Dev.runSf_canonical]

theorem effectSixRowRepair_canonical {d : Dev} {row fault : Nat} (hd : d.canonical = true) : (effectSixRowRepair row fault d).canonical = true := by
  unfold effectSixRowRepair
  grind [Dev.raise_canonical, Dev.setSix_canonical, Dev.recordRetirement_canonical, Dev.failEntry_canonical, Dev.when_canonical]

theorem effectSlice32_canonical {d : Dev} {q i p : Nat} (hd : d.canonical = true) : (effectSlice32 q i p d).canonical = true := by
  unfold effectSlice32
  grind [Dev.runSlice_canonical]

theorem effectSlice64_canonical {d : Dev} {q i p : Nat} (hd : d.canonical = true) : (effectSlice64 q i p d).canonical = true := by
  unfold effectSlice64
  grind [Dev.runSlice_canonical]

theorem effectSliceProductPhase_canonical {d : Dev} {q i p : Nat} {bad : Option CsFault}
    (hd : d.canonical = true) : (effectSliceProductPhase q i p bad d).canonical = true := by
  unfold effectSliceProductPhase
  grind [Dev.runProduct_canonical]

theorem effectSpareWakeTimeout_canonical {d : Dev} (hd : d.canonical = true) : (effectSpareWakeTimeout d).canonical = true := by
  unfold effectSpareWakeTimeout
  grind [Dev.setCol_canonical, Dev.nextSubst_canonical, Dev.removeDevice_canonical, Dev.when_canonical]

theorem effectStageComplete_canonical {d : Dev} {bad : List Nat} {key : Bool}
    (hd : d.canonical = true) : (effectStageComplete bad key d).canonical = true :=
  Dev.when_canonical hd (Dev.stageDone_canonical hd)

theorem effectStandbyRailLoss_canonical {d : Dev} (hd : d.canonical = true) : (effectStandbyRailLoss d).canonical = true := by
  unfold effectStandbyRailLoss
  grind [Dev.wr_canonical, Dev.setSec_canonical, Dev.setHlt_canonical, Dev.setPwr_canonical, Dev.powerOff_canonical, Dev.setNow_canonical,
    Dev.when_canonical]

theorem Dev.stageT1_canonical {d e : Dev} {ks : List Nat} {k : Option Nat} (he : d.stageT1 ks k = some e) (hd : d.canonical = true) :
    e.canonical = true := by
  unfold Dev.stageT1 at he
  split at he
  · cases he
  next d1 h1 =>
    split at he
    · cases he
    · exact Option.some.inj he ▸ Dev.flushAll_canonical h1 hd

theorem effectStats_canonical {d : Dev} {q i : Nat} (hd : d.canonical = true) : (effectStats q i d).canonical = true := by
  unfold effectStats
  refine Dev.when_canonical hd ?_
  dsimp only
  refine Dev.ite_canonical (Dev.frozenSkip_canonical.trans hd) ?_
  split
  · exact Dev.failPart_canonical.trans hd
  · refine Dev.ite_canonical (Dev.partRan_canonical.trans hd) (Dev.when_canonical hd ?_)
    split
    · exact hd
    next e he =>
      have hc := Dev.stageT1_canonical he hd
      split
      · exact Dev.failPart_canonical.trans hc
      · exact Dev.ite_canonical (Dev.failPart_canonical.trans hc) (Dev.runStats_canonical (Dev.takeUnit_canonical.trans hc))

theorem effectStepOpen_canonical {d : Dev} {q i : Nat} (hd : d.canonical = true) : (effectStepOpen q i d).canonical = true := by
  unfold effectStepOpen
  grind [Dev.endPart_canonical, Dev.openStep_canonical, Dev.when_canonical]

theorem effectSupplyFault_canonical {d : Dev} (hd : d.canonical = true) : (effectSupplyFault d).canonical = true :=
  Dev.monitorFault_canonical hd fun _ he => Dev.startD3_canonical he

theorem effectT2ReadFail_canonical {d : Dev} {k u : Nat} (hd : d.canonical = true) : (effectT2ReadFail k u d).canonical = true := by
  unfold effectT2ReadFail
  grind [Dev.setUnit_canonical, Dev.poisonUnit_canonical, Dev.when_canonical]

theorem effectTempSample_canonical {d : Dev} {temps : List Nat} (hd : d.canonical = true) : (effectTempSample temps d).canonical = true := by
  unfold effectTempSample
  grind [Dev.wr_canonical, Dev.raise_canonical, Dev.setPwr_canonical, Dev.powerOff_canonical, Dev.when_canonical]

theorem effectUnitArrived_canonical {d : Dev} {k u : Nat} {data : List Byte}
    (hd : d.canonical = true) : (effectUnitArrived k u data d).canonical = true := by
  unfold effectUnitArrived
  grind [Dev.arrive_canonical, Dev.when_canonical]

theorem effectUnreachReceive_canonical {d : Dev} {body : List Byte} (hd : d.canonical = true) : (effectUnreachReceive body d).canonical = true :=
  Dev.takeUnreach_canonical hd

theorem effectUpdate_canonical {d : Dev} {q i : Nat} (hd : d.canonical = true) : (effectUpdate q i d).canonical = true := by
  have hend : (d.stallEnd q i).canonical = true := Dev.stallEnd_canonical.trans hd
  unfold effectUpdate
  refine Dev.when_canonical hd ?_
  dsimp only
  refine Dev.ite_canonical (Dev.frozenSkip_canonical.trans hd) (Dev.ite_canonical (Dev.stallBegin_canonical.trans hd) ?_)
  split
  · exact Dev.failPart_canonical.trans hend
  · refine Dev.ite_canonical (Dev.ite_canonical hend (Dev.assistUpdate_canonical.trans hend)) (Dev.when_canonical hend ?_)
    split
    · exact hend
    next e he =>
      have hc := Dev.stageT1_canonical he hend
      split
      · exact Dev.failPart_canonical.trans hc
      · exact Dev.ite_canonical (Dev.failPart_canonical.trans hc) (Dev.runUpdate_canonical (Dev.takeUnit_canonical.trans hc))

theorem effectVoteReceive_canonical {d : Dev} {body : Cmd} (hd : d.canonical = true) : (effectVoteReceive body d).canonical = true :=
  Dev.takeVote_canonical hd

theorem effectVoteTimeout_canonical {d : Dev} {j : Nat} (hd : d.canonical = true) : (effectVoteTimeout j d).canonical = true := by
  unfold effectVoteTimeout
  grind [Dev.raiseLdg_canonical, Dev.setJob_canonical, Dev.decideAttempt_canonical, Dev.when_canonical]

theorem effectVx_canonical {d : Dev} {q i p : Nat} (hd : d.canonical = true) : (effectVx q i p d).canonical = true := by
  unfold effectVx
  grind [Dev.runVx_canonical]

theorem effectWakeFrame_canonical {d : Dev} {p : Nat} {fr : RxFrame} {tags etype : Nat} {token : List Byte}
    (hd : d.canonical = true) : (effectWakeFrame p fr tags etype token d).canonical = true := by
  unfold effectWakeFrame
  grind [Dev.raise_canonical, Dev.setPort_canonical, Dev.incSat_canonical, Dev.wakeUp_canonical, Dev.when_canonical]

theorem effectWpkChunk_canonical {d : Dev} {q i n : Nat} {bytes : List Byte} {fail : Bool}
    (hd : d.canonical = true) : (effectWpkChunk q i n bytes fail d).canonical = true := by
  unfold effectWpkChunk
  grind [Dev.chainAsk_canonical, Dev.takeChunk_canonical, Dev.loadPoison_canonical, Dev.openChunk_canonical, Dev.when_canonical]

theorem effectWriteBackEnd_canonical {d : Dev} {k u t : Nat} (hd : d.canonical = true) : (effectWriteBackEnd k u t d).canonical = true := by
  unfold effectWriteBackEnd
  grind [Dev.setTir_canonical, Dev.moveDone_canonical, Dev.serveWaits_canonical, Dev.releaseLeft_canonical, Dev.writeDown_canonical,
    Dev.when_canonical, foldl_wf]


/-! ### Every command, what follows it, and an empty queue -/

theorem effect_canonical {c : Instr} {d : Dev} (hd : d.canonical = true) : (effect c d).canonical = true := by
  cases c with
  | resetEscalation => exact effectResetEscalation_canonical hd
  | layerRepeat => exact effectLayerRepeat_canonical hd
  | stepOpen => exact effectStepOpen_canonical hd
  | restore => exact effectRestore_canonical hd
  | mm => exact effectMm_canonical hd
  | mmT => exact effectMmT_canonical hd
  | conv => exact effectConv_canonical hd
  | attn => exact effectAttn_canonical hd
  | slice64 => exact effectSlice64_canonical hd
  | slice32 => exact effectSlice32_canonical hd
  | sliceProductPhase => exact effectSliceProductPhase_canonical hd
  | vx => exact effectVx_canonical hd
  | sf => exact effectSf_canonical hd
  | norm => exact effectNorm_canonical hd
  | route => exact effectRoute_canonical hd
  | routePhase2 => exact effectRoutePhase2_canonical hd
  | permute => exact effectPermute_canonical hd
  | combine => exact effectCombine_canonical hd
  | fft => exact effectFft_canonical hd
  | gather => exact effectGather_canonical hd
  | scatterAdd => exact effectScatterAdd_canonical hd
  | evict => exact effectEvict_canonical hd
  | allreduce => exact effectAllreduce_canonical hd
  | reduceScatter => exact effectReduceScatter_canonical hd
  | allgather => exact effectAllgather_canonical hd
  | alltoall => exact effectAlltoall_canonical hd
  | bcastChain => exact effectBcastChain_canonical hd
  | send => exact effectSend_canonical hd
  | recv => exact effectRecv_canonical hd
  | barrier => exact effectBarrier_canonical hd
  | collectiveWaitTimeout => exact effectCollectiveWaitTimeout_canonical hd
  | update => exact effectUpdate_canonical hd
  | stats => exact effectStats_canonical hd
  | acrAssistDoorbell => exact effectAcrAssistDoorbell_canonical hd
  | loadWpk => exact effectLoadWpk_canonical hd
  | wpkChunk => exact effectWpkChunk_canonical hd
  | marketRead => exact effectMarketRead_canonical hd
  | marketWrite => exact effectMarketWrite_canonical hd
  | reductionWrite => exact effectReductionWrite_canonical hd
  | scrubRead => exact effectScrubRead_canonical hd
  | bankCopyEnd => exact effectBankCopyEnd_canonical hd
  | create => exact effectCreate_canonical hd
  | delete => exact effectDelete_canonical hd
  | refillDone => exact effectRefillDone_canonical hd
  | reload => exact effectReload_canonical hd
  | objectReference => exact effectObjectReference_canonical hd
  | unitArrived => exact effectUnitArrived_canonical hd
  | writeBackEnd => exact effectWriteBackEnd_canonical hd
  | leavingRelease => exact effectLeavingRelease_canonical hd
  | t2ReadFail => exact effectT2ReadFail_canonical hd
  | sixRowRepair => exact effectSixRowRepair_canonical hd
  | hbmScrub => exact effectHbmScrub_canonical hd
  | deviceVote => exact effectDeviceVote_canonical hd
  | voteReceive => exact effectVoteReceive_canonical hd
  | voteTimeout => exact effectVoteTimeout_canonical hd
  | coordinatorTakeover => exact effectCoordinatorTakeover_canonical hd
  | answerReceive => exact effectAnswerReceive_canonical hd
  | commitReceive => exact effectCommitReceive_canonical hd
  | commitApply => exact effectCommitApply_canonical hd
  | abortReceive => exact effectAbortReceive_canonical hd
  | ldgAssistDoorbell => exact effectLdgAssistDoorbell_canonical hd
  | wakeFrame => exact effectWakeFrame_canonical hd
  | dataReceive _ _ _ _ _ _ step => exact effectDataReceive_canonical step hd
  | ctrlReceive => exact effectCtrlReceive_canonical hd
  | ctrlDeliver => exact effectCtrlDeliver_canonical hd
  | ackReceive => exact effectAckReceive_canonical hd
  | peerUnreachable => exact effectPeerUnreachable_canonical hd
  | joinReceive => exact effectJoinReceive_canonical hd
  | rosterReceive => exact effectRosterReceive_canonical hd
  | hbReceive => exact effectHbReceive_canonical hd
  | memberSuspect => exact effectMemberSuspect_canonical hd
  | memberRemove => exact effectMemberRemove_canonical hd
  | keeperLoss => exact effectKeeperLoss_canonical hd
  | keeperReceive => exact effectKeeperReceive_canonical hd
  | leaveReceive => exact effectLeaveReceive_canonical hd
  | unreachReceive => exact effectUnreachReceive_canonical hd
  | spareWakeTimeout => exact effectSpareWakeTimeout_canonical hd
  | colAssistDoorbell f h =>
    change (effectColAssistDoorbell f h d).canonical = true
    exact effectColAssistDoorbell_canonical hd
  | redReceive => exact effectRedReceive_canonical hd
  | quoteReceive => exact effectQuoteReceive_canonical hd
  | leaveSend => exact effectLeaveSend_canonical hd
  | forget => exact effectForget_canonical hd
  | perstAssert => exact effectPerstAssert_canonical hd
  | perstRelease => exact effectPerstRelease_canonical hd
  | bar2Read => exact effectBar2Read_canonical hd
  | bar2Write => exact effectBar2Write_canonical hd
  | clockFault => exact effectClockFault_canonical hd
  | supplyFault => exact effectSupplyFault_canonical hd
  | d3Request => exact effectD3Request_canonical hd
  | d4Request => exact effectD4Request_canonical hd
  | bootStart => exact effectBootStart_canonical hd
  | stageComplete => exact effectStageComplete_canonical hd
  | bootRestart => exact effectBootRestart_canonical hd
  | bootAltDoorbell => exact effectBootAltDoorbell_canonical hd
  | bootAltTimeout => exact effectBootAltTimeout_canonical hd
  | tempSample => exact effectTempSample_canonical hd
  | pwrEnDeassert => exact effectPwrEnDeassert_canonical hd
  | inputLow => exact effectInputLow_canonical hd
  | pldmWake => exact effectPldmWake_canonical hd
  | pldmResetD4 => exact effectPldmResetD4_canonical hd
  | standbyRailLoss => exact effectStandbyRailLoss_canonical hd
  | _ => exact (Dev.canonical_of_chg (effect_chg _ d) rfl).trans hd

theorem State.idle_canonical {s : State} (hd : s.dev.canonical = true) : s.idle.dev.canonical = true :=
  Dev.settle_canonical (Dev.tick_canonical hd)

/-- Settles O7: the own effect of every command, the tick of an empty queue and what follows at once write the tiers through the
memory operations that keep canonical form. -/
theorem tiersStayCanonical : Obligations.TiersStayCanonical := by
  intro s t h hd
  obtain ⟨-, rfl⟩ | ⟨c, rest, -, rfl⟩ := step_cases h
  · exact State.idle_canonical hd
  · exact Dev.settle_canonical (effect_canonical hd)

end Sys2Proof.Machine
end
